-- ==== Sys2Proof/Word.lean ====
section
/-! DEFINITION. The words of the node: a byte and a 32-bit register word (R7). -/

namespace Sys2Proof

/-- One byte. -/
abbrev Byte := BitVec 8

/-- One register of the control space (R7: every register is 32 bits wide). -/
abbrev Word := BitVec 32

end Sys2Proof
end

