-- ==== Sys2Proof/Syntax.lean ====
section
/-! DEFINITION. The commands of the node: one constructor for each row of the table of operations and events. A row's
operands say who sends it (an Onzon port, a fabric link), what it names, and, where the row's outcome is settled
outside the node (a reading, a training result, a flash result), that outcome (assumption 7). -/

namespace Sys2Proof

/-- An Onzon port (R4). -/
inductive Port where
  | a | b
deriving DecidableEq, Repr

/-- The number of a port: 0 for A, 1 for B. -/
def Port.idx : Port → Nat
  | .a => 0
  | .b => 1

/-- The other port. -/
def Port.other : Port → Port
  | .a => .b
  | .b => .a

/-- A resource a composition image gives to a carriage (R59, R60). -/
inductive Res where
  | group (g : Nat) | tile (t : Nat) | bank (b : Nat) | fox (b : Nat) | queue (q : Nat) | slot (s : Nat)
deriving DecidableEq, Repr

/-- The JTAG instructions (R597). -/
inductive JtagInstr where
  | bypass | idcode | samplePreload | extest
deriving DecidableEq, Repr

/-- Why a frame is in error (R112, R116, R371). -/
inductive FrameError where
  | crc | gap | kind | side | fec
deriving DecidableEq, Repr

/-- Where a word of a port buffer has become uncorrectable (R468): a message, an answer among them; a coach that has not started;
a slot or the accumulators of a coupling context; a frame of a link's replay buffer. -/
inductive PortWord where
  | message (src : BitVec 12) (op : BitVec 32)
  | answer (src : BitVec 12) (op : BitVec 32)
  | coach (id : Nat)
  | slot (group reply : BitVec 16) (tag : BitVec 32) (slot : Fin 64)
  | context (group reply : BitVec 16) (tag : BitVec 32)
  | replay (l : Fin 8) (lseq : BitVec 24)
deriving DecidableEq, Repr

/-- When a TIME_XFER arrived (R90): the fraction of the capture in 1/256 ns, and whether the frame was replayed. -/
structure Capture where
  frac : BitVec 8
  replayed : Bool
deriving DecidableEq, Repr

/-- What the engine of a link says as the link trains (Table PRT-2): ENGINE_ID, and the wavelengths in TX_FAULT. -/
structure EngineReport where
  id : BitVec 8
  faults : BitVec 10
deriving DecidableEq, Repr

/-- A DATA frame that arrives (R369): its ACK and its CREDIT where they are valid, its body, and the words of the port's buffers
that have become uncorrectable by then (R468). -/
structure LinkData where
  ack : Option (BitVec 24)
  credit : Option (Fin 4 × BitVec 12)
  bad : List PortWord
  body : List Byte
deriving DecidableEq, Repr

/-- The commands. -/
inductive Instr where
  /-- REGISTER_WRITE (R13). A write to a register that has no row of its own sets the field, and the last write from either port stands. -/
  | registerWrite (p : Port) (off : Nat) (v : Word)
  /-- READ_CLEAR (R12). An atomic read of an RC field returns its value and sets the field to its Reset value. -/
  | readClear (p : Port) (off : Nat)
  /-- LATCHED_READ (R8). A read of the low word of a 64-bit register latches the high word for the reading port. -/
  | latchedRead (p : Port) (off : Nat)
  /-- EXPERT_WINDOW_ACCESS (R15). An access to an expert window without an unlock reads 0 or is ignored, and the node records an SEC event. -/
  | expertWindowAccess (p : Port) (off : Nat) (v : Option Word)
  /-- SEM_READ (R123). A read of GLB_SEMn takes a free semaphore for the reading port and returns GRANTED. -/
  | semRead (p : Port) (n : Fin 64)
  /-- SEM_RELEASE (R125). A write to GLB_SEM_REL frees the named semaphore when the writing port holds it, and is ignored otherwise. -/
  | semRelease (p : Port) (n : Fin 64)
  /-- SEM_LEASE_EXPIRE (R126). A semaphore whose holding port has been DOWN for 100 ms is freed and event 0x0001 recorded. -/
  | semLeaseExpire (n : Fin 64)
  /-- STAGE (R51). CMP_CTRL.STAGE fetches an image of CMP_SRC_LEN bytes from host memory into the staging area, or is refused. -/
  | stage (p : Port)
  /-- IMAGE_FETCH_DONE (R53). The staged image fetch ends, and the state goes to VALIDATING, or to INVALID with CHECK 1 on a short fetch. -/
  | imageFetchDone
  /-- IMAGE_VALIDATED (R45). Validation of the staged image ends and the state becomes VALID or INVALID with CHECK and TAG. -/
  | imageValidated
  /-- ARM (R54). CMP_CTRL.ARM runs check 16, takes an event entry and marks leaving resources, or puts the image into force at once when no image is in force. -/
  | arm (p : Port)
  /-- CANCEL (R56). CMP_CTRL.CANCEL before the boundary frees the switch entry, clears the leaving marks and returns to VALID. -/
  | cancel (p : Port)
  /-- COMMIT (R603). CMP_CTRL.COMMIT starts writing the image in force to the flash composition region and sets COMMIT_BUSY. -/
  | commit (p : Port)
  /-- COMMIT_DONE (R603). The composition flash write ends, COMMIT_BUSY clears and event 0x020A is recorded. -/
  | commitDone (ok : Bool)
  /-- SHADOW_TABLES_LOADED (R55). The new image's tables finish loading into shadow copies within 100 µs of ARM. -/
  | shadowTablesLoaded
  /-- SWITCH_BOUNDARY (R58). At CMP_SWITCH_FT the COMP_SWITCH entry fires, every departure-boundary section comes into force and the new map epoch starts DRAINING. -/
  | switchBoundary
  /-- DRAIN_WINDOW_CLOSE (R58). DRAIN_US after the boundary the previous epoch stops being servable and the state goes to HANDOVER. -/
  | drainWindowClose
  /-- RESOURCE_CLEAR_START (R60). Once the drain window has closed and its old-epoch work has ended, a moved resource starts clearing. -/
  | resourceClearStart (r : Res)
  /-- RESOURCE_CLEARED (R60). A moved resource finishes clearing and is handed to its new owner; when the last one is handed over the state becomes IDLE. -/
  | resourceCleared (r : Res)
  /-- OLD_EPOCH_GRACE_END (R60). Old-epoch work still on a moved resource 400 µs after the drain window closes is ended LATE or ABORTED. -/
  | oldEpochGraceEnd
  /-- EXPERT_UNLOCK (R70). A write to CMP_EXPERT_UNLOCK unlocks the named expert windows for the writing port when semaphore 4 and a grant allow it, and a write of 0 ends the unlock. -/
  | expertUnlock (p : Port) (blocks : BitVec 16)
  /-- EXPERT_UNLOCK_EXPIRE (R71). An expert unlock ends when the grant's MAX_UNLOCK_S elapses, and event 0x020C is recorded. -/
  | expertUnlockExpire (p : Port)
  /-- FT_REF_STABLE (R81). After FT_REF has been stable for 100 µs the time state goes from FREE to ACQUIRING. -/
  | ftRefStable
  /-- FT_REF_LOST (R85). Loss of FT_REF puts a LOCKED node in HOLDOVER, where it counts from its internal reference. -/
  | ftRefLost
  /-- FT_CODE_WORD (R79). A complete time code word is checked, counted if bad or disagreeing, and loaded or compared with the node's count. -/
  | ftCodeWord (w : BitVec 128)
  /-- FT_SYNC_EDGE (R80). An FT_SYNC edge is judged in or out of window and drives locking, slewing, holdover or relock. -/
  | ftSyncEdge (frac : BitVec 8)
  /-- FT_SYNC_MISSING (R80). No FT_SYNC edge by the expected FT plus 64 ns counts as out of window and records event 0x0106. -/
  | ftSyncMissing
  /-- HOLDOVER_LIMIT (R87). After 10,000,000 ns in HOLDOVER the node enters FAULT, sets FAULT_SEEN, records 0x0104 and cancels pending timed entries. -/
  | holdoverLimit
  /-- STEER_UPDATE (R94). At a frame boundary the steering rate from TT_STEER takes effect and TT_STEER_ACC accumulates. -/
  | steerUpdate
  /-- STEER_LIMIT (R96). When the accumulated steered phase reaches ±1,000 ns the node applies 0 ppb and records 0x0109. -/
  | steerLimit
  /-- TIME_XFER_SEND (R399). At frame boundary plus 4,096 ns times the link number, the lower-ID peer sends its TIME_XFER on each trained link. -/
  | timeXferSend (l : Fin 8)
  /-- TIME_XFER (R399). A received TIME_XFER is captured and the node answers it, or uses it to complete the frame's pair. -/
  | timeXfer (l : Fin 8) (body : List Byte) (arrival : Capture)
  /-- LINK_TIME_UPDATE (R91). Once per frame each link's delay and offset are updated, and a link without a pair for 4 frames reports VALID 0 and records 0x0107. -/
  | linkTimeUpdate
  /-- EVT_ADD (R101). TT_EVT_CTRL.ADD checks and adds a scheduled-event entry from the port's staging registers. -/
  | evtAdd (p : Port)
  /-- EVT_CANCEL (R103). TT_EVT_CTRL.CANCEL removes a pending scheduled-event entry, or refuses. -/
  | evtCancel (p : Port)
  /-- KEY_SWITCH (R504). A KEY_SWITCH entry fires and makes slot ARG current for its carriage, or fires with no effect. -/
  | keySwitch (slot : Fin 256)
  /-- CHECKPOINT (R339). A CHECKPOINT entry fires and starts every SEQ_PARK waiting on its ID. -/
  | checkpoint (i : Fin 256)
  /-- SHAPER_REFILL (R412). A SHAPER_REFILL entry fires and sets the named shaper's bucket to BURST. -/
  | shaperRefill (i : Fin 256)
  /-- THROTTLE_STEP (R565). A THROTTLE_STEP entry fires and sets FLOOR to its ARG. -/
  | throttleStep (i : Fin 256)
  /-- STARTUP_SLOT (R537). A STARTUP_SLOT entry fires and starts its level: HBM and CXL training for the node level, link training for the other levels. -/
  | startupSlot (i : Fin 256)
  /-- THROTTLE_EVAL (R564). At each frame boundary the controller forms the thermal step from the last frame's readings and applies the step. -/
  | throttleEval
  /-- ONZON_TRAINING_START (R109). Signal on at least 4 lanes takes a DOWN Onzon port to TRAINING. -/
  | onzonTrainingStart (p : Port) (lanes : BitVec 8)
  /-- ONZON_TRAINING_END (R109). Onzon training ends with the port UP on 8 lanes, DEGRADED on 4, or DOWN. -/
  | onzonTrainingEnd (p : Port) (lanes : BitVec 8) (trims : List Byte)
  /-- ONZON_TRAINING_TIMEOUT (R109). Onzon training that has not ended in 20 ms takes the port DOWN. -/
  | onzonTrainingTimeout (p : Port)
  /-- ONZON_RETRY (R109). 10 ms after a failed attempt, the Onzon port tries training again. -/
  | onzonRetry (p : Port)
  /-- ONZON_LOCK_LOSS (R110). Block lock lost on an active Onzon lane for 1 µs takes the port DOWN. -/
  | onzonLockLoss (p : Port)
  /-- ONZON_RX_IDLE_TIMEOUT (R110). No Onzon frame for 10 µs takes the port DOWN. -/
  | onzonRxIdleTimeout (p : Port)
  /-- ONZON_REPLAY_TIMEOUT (R116). No ACK for 4 µs makes the sender replay from the oldest unacknowledged frame, and 8 replays of one frame take the port DOWN. -/
  | onzonReplayTimeout (p : Port)
  /-- ONZON_LINK_RESET (R110). A received LINK_RESET frame forces the Onzon port DOWN. -/
  | onzonLinkReset (p : Port)
  /-- CTRL_RD (R113). A CTRL_RD frame reads consecutive registers and is answered by a CTRL_RESP within 1 µs. -/
  | ctrlRd (p : Port) (seq : BitVec 16) (tag : BitVec 16) (off : Nat) (n : Nat)
  /-- CTRL_WR (R113). A CTRL_WR frame writes consecutive registers in ascending order, each with its own access type. -/
  | ctrlWr (p : Port) (seq : BitVec 16) (off : Nat) (vs : List Word)
  /-- MEM_RESP (R115). A MEM_RESP frame delivers the host data of an earlier MEM_RD, or its error status, to the waiting operation. -/
  | memResp (p : Port) (seq : BitVec 16) (tag : BitVec 16) (ok : Bool) (data : List Byte)
  /-- ONZON_ACK (R116). A received Onzon ACK releases acknowledged frames from the replay buffer. -/
  | onzonAck (p : Port) (seq : BitVec 16)
  /-- ONZON_NAK (R116). A received Onzon NAK makes the node replay from the named SEQ. -/
  | onzonNak (p : Port) (seq : BitVec 16)
  /-- ONZON_CREDIT (R115). A CREDIT frame returns Onzon flow-control credits per class. -/
  | onzonCredit (p : Port) (posted : BitVec 16) (reads : BitVec 16)
  /-- DOORBELL (R131). A write to QUE_DOORBELL sets SQ_TAIL and CQ_HEAD of the queue. -/
  | doorbell (p : Port) (q : Fin 65536) (tail : BitVec 16) (head : BitVec 16)
  /-- SQ_FETCH (R132). When its carriage has a free slot, the node issues a MEM_RD for pending SQ entries of a queue chosen by weighted round robin. -/
  | sqFetch (p : Port)
  /-- COMMAND_START (R139). With a CQ slot reserved, a fetched command is checked in R17 order and handed to its engine. -/
  | commandStart (q : Fin 65536)
  /-- QUEUE_ENABLE (R136). QUE_CTX_CTRL.ENABLE enables a DISABLED queue when its ownership and configuration allow it. -/
  | queueEnable (p : Port)
  /-- QUEUE_DISABLE (R137). QUE_CTX_CTRL.DISABLE moves an ENABLED queue to DRAINING. -/
  | queueDisable (p : Port)
  /-- QUEUE_RESET (R137). QUE_CTX_CTRL.RESET zeroes the ring indices and sets the CQ phase to 1, leaving STOPPED for DISABLED. -/
  | queueReset (p : Port)
  /-- QUEUE_DRAIN_DONE (R135). When INFLIGHT of a DRAINING queue reaches 0, the queue becomes DISABLED. -/
  | queueDrainDone (q : Fin 65536)
  /-- IRQ_TIMER (R148). TIME_US after the oldest uncovered completion entry, the node sends the queue's interrupt. -/
  | irqTimer (q : Fin 65536)
  /-- LIST (R142). A LIST command starts the commands of a host list and follows CHAIN entries under SERIAL and STOP_ON_ERR. -/
  | list (k : Nat)
  /-- LIST_COMPLETE (R145). When every started command of a list has completed, the LIST or STEP completes with its status and RESULT. -/
  | listComplete (k : Nat)
  /-- SEQ_CREATE (R190). SEQ_CREATE creates an ACTIVE sequence descriptor and returns P_EXP. -/
  | seqCreate (k : Nat)
  /-- SEQ_FREE (R182). SEQ_FREE decrements the REFCOUNT of the sequence's pages, frees its table memory and sets the descriptor FREE. -/
  | seqFree (k : Nat)
  /-- SEQ_FORK (R179). SEQ_FORK creates a child sequence sharing the parent's pages below m. -/
  | seqFork (k : Nat)
  /-- SEQ_FREEZE (R186). SEQ_FREEZE freezes a sequence at POS, discarding records at or above it with TRUNCATE. -/
  | seqFreeze (k : Nat)
  /-- SEQ_THAW (R187). SEQ_THAW clears FROZEN and, with REPLAY, applies the staged rejections in order. -/
  | seqThaw (k : Nat)
  /-- PAGE_LINK (R181). PAGE_LINK adds an existing page to a sequence's table at the next local ordinal. -/
  | pageLink (k : Nat)
  /-- APPEND_CMD (R175). The APPEND queue command appends records from host memory as a fabric APPEND does. -/
  | appendCmd (k : Nat)
  /-- NODESET_LOAD (R190). NODESET_LOAD loads a node set for the carriage, which then holds that set. -/
  | nodesetLoad (k : Nat)
  /-- SEQ_QUERY (R190). SEQ_QUERY writes the descriptor and the layer records to host memory. -/
  | seqQuery (k : Nat)
  /-- SEQUENCE_CHANGE_RESUME (R607). A change to a sequence that waited for an earlier change proceeds against the state that change left. -/
  | sequenceChangeResume (seq : BitVec 32)
  /-- APPEND (R175). A fabric APPEND writes records into the tail page, allocating pages or freezing the sequence with NO_PAGE. -/
  | append (src : BitVec 12) (op : BitVec 32)
  /-- STAGED_EXPIRE (R184). Staged rejected records not replayed within 1 ms are discarded and event 0x0442 recorded. -/
  | stagedExpire (half : Fin 2)
  /-- PAGE_SEAL (R177). The seal work of a filled page ends: summary, scale, radius and digest are stored and SEALED is set. -/
  | pageSeal (page : BitVec 32)
  /-- PAGE_FREE (R182). After every walk of a page at REFCOUNT 0 has ended, the node frees it and increments PAGE_GEN. -/
  | pageFree (page : BitVec 32)
  /-- WALK (R201). WALK writes the leaf entries of one layer to host memory. -/
  | walk (k : Nat)
  /-- GATHER (R201). GATHER writes the records of a position range to host memory. -/
  | gather (k : Nat)
  /-- PAGE_COPY (R202). PAGE_COPY copies a leaf entry's page to a new frame and re-points the entry. -/
  | pageCopy (k : Nat)
  /-- PAGE_MOVE (R203). PAGE_MOVE starts moving a page between frames or tiers while keeping its index. -/
  | pageMove (k : Nat)
  /-- PAGE_MOVE_COMMIT (R203). At commit the node holds appends, copies new slots, switches LOCATION and TIER in one step and releases the held appends. -/
  | pageMoveCommit (page : BitVec 32)
  /-- PAGE_DIGEST (R206). PAGE_DIGEST computes a page digest or verifies it against DIGEST. -/
  | pageDigest (k : Nat)
  /-- GROUP_ZERO (R207). GROUP_ZERO starts zeroing a free memory group of the carriage. -/
  | groupZero (k : Nat)
  /-- GROUP_ZERO_DONE (R207). Zeroing of a group ends, its BDG_ZEROED bit is set and event 0x0407 recorded. -/
  | groupZeroDone (g : Fin 64)
  /-- TABLE_INSTALL (R217). TABLE_INSTALL chooses a slot of the class and installs a checked compression table, or completes TABLE_BUSY. -/
  | tableInstall (k : Nat)
  /-- TABLE_REMOVE (R219). TABLE_REMOVE removes a compression table whose slot has no queued blocks. -/
  | tableRemove (k : Nat)
  /-- WEIGHT_LOAD (R221). WEIGHT_LOAD stores one expansion matrix of one layer in the carriage's HBM. -/
  | weightLoad (k : Nat)
  /-- WEIGHT_FREE (R223). WEIGHT_FREE frees expansion weights once no accepted coach uses them. -/
  | weightFree (k : Nat)
  /-- WALK_CACHE_FLUSH (R227). BDG_WALK_CACHE.FLUSH invalidates both walk caches. -/
  | walkCacheFlush (p : Port)
  /-- ATTN_REQ (R302). A received coach is replicated and delivered under its group, held in coach memory, or refused. -/
  | attnReq (src : BitVec 12) (op : BitVec 32)
  /-- COACH_DEPART (R304). At DEPART_FT, with the header held, the coach's departure window opens, its weights are checked and its scout run begins. -/
  | coachDepart (id : Nat)
  /-- FOX_PASS (R250). A Fox pass ends, the reference rows update the macro's corrections and sigma estimate. -/
  | foxPass (id : Nat) (codes : List (Nat × Int)) (refs : List (Nat × List Int))
  /-- SCOUT_SELECTION (R242). When the passes and the digital fallback have ended, the shell selects the candidate set and hands it to Badger. -/
  | scoutSelection (id : Nat)
  /-- GATHER_START (R306). When every position below POS mapped here is written, Badger starts the coach's gather. -/
  | gatherStart (id : Nat)
  /-- PAGE_READ_ISSUE (R197). Badger issues a page read once the carriage's gather-ring share has room for it. -/
  | pageReadIssue (id : Nat) (half : Fin 2)
  /-- ABSORPTION_DONE (R279). Query absorption ends and tile pairs exchange absorbed queries over the bridge. -/
  | absorptionDone (id : Nat)
  /-- SCORING_DONE (R271). A tile finishes scoring its received positions and holds its partial. -/
  | scoringDone (id : Nat) (tile : Fin 64)
  /-- HALF_MERGE (R277). Partials of tiles scoring the same head are merged in a tree over ranks, and across halves where needed. -/
  | halfMerge (id : Nat) (half : Fin 2)
  /-- VALUE_EXPANSION (R280). Value expansion ends and the node partial is rounded and ready to send. -/
  | valueExpansion (id : Nat)
  /-- COACH_CUTOFF (R307). At DEADLINE_FT minus LEAF_LEAD unfinished coach work is abandoned and the node contributes LATE. -/
  | coachCutoff (id : Nat)
  /-- ATTN_PART (R316). A complete ATTN_PART input is merged into its coupling context. -/
  | attnPart (src : BitVec 12) (op : BitVec 32)
  /-- CONTEXT_CLOSE (R317). At its close time a context sends what it holds if it has not yet sent, and is then freed. -/
  | contextClose (group : BitVec 16) (reply : BitVec 16) (tag : BitVec 32)
  /-- FOX_SCORE (R257). FOX_SCORE runs a scout run and writes the candidates and reports to host memory. -/
  | foxScore (k : Nat)
  /-- FOX_CAL (R257). FOX_CAL calibrates the named Fox blocks. -/
  | foxCal (k : Nat)
  /-- FOX_ROW_BIND (R257). FOX_ROW_BIND binds free rows to the sequence's rowless sealed pages. -/
  | foxRowBind (k : Nat)
  /-- FOX_ROW_RELEASE (R257). FOX_ROW_RELEASE releases the rows of the sequence's unshared pages. -/
  | foxRowRelease (k : Nat)
  /-- FOX_IDLE_PASS (R250). An owned macro idle for 1 ms runs a pass with its reference rows alone. -/
  | foxIdlePass (m : Fin 2048) (refs : List Int)
  /-- FOX_COMPENSATE (R250). Every 65,536 ns each macro applies temperature and voltage compensation from its monitors. -/
  | foxCompensate
  /-- FOX_RECAL (R252). With AUTO_CAL set, an OUT, drifted or periodically due macro starts recalibration in free pass slots. -/
  | foxRecal (m : Fin 2048)
  /-- FOX_CAL_DONE (R251). A macro's calibration ends: it returns to IN_CAL, stays OUT, or is DISABLED after three failures. -/
  | foxCalDone (m : Fin 2048) (ok : Bool) (sigma : Nat) (off : Int) (gain : Int)
  /-- FOX_ROW_REFILL (R255). With REFILL set, a freed row is bound to the carriage's newest rowless sealed page on the half. -/
  | foxRowRefill (half : Fin 2)
  /-- BEAR_ATTN (R293). BEAR_ATTN runs a coach's work on this node and writes the partial and scout reports to host memory. -/
  | bearAttn (k : Nat)
  /-- SHADOW_START (R287). BEAR_SPARE_CTRL.START starts a spare shadowing a working tile. -/
  | shadowStart (p : Port)
  /-- SHADOW_STOP (R291). BEAR_SPARE_CTRL.STOP ends a shadow, clears the spare and returns it to SPARE. -/
  | shadowStop (p : Port)
  /-- AUTO_SHADOW_START (R287). A tile with more corrected errors in a frame than BEAR_SPARE_TRIG, or an uncorrectable error, starts a shadow automatically. -/
  | autoShadowStart (tile : Fin 68) (uncorrectable : Bool)
  /-- SHADOW_KAT_DONE (R288). The spare's SRAM clear and known-answer test end, failing the spare or moving the shadow on to weight copy and comparison. -/
  | shadowKatDone (spare : Fin 4) (ok : Bool)
  /-- TAKEOVER (R290). Between coaches, after COUNT clean comparisons or a passing KAT after a mismatch, the spare takes the logical index and the old tile is RETIRED. -/
  | takeover (spare : Fin 4)
  /-- SEQ_PARK (R338). SEQ_PARK accepts a warm, cold or snapshot park, at once or to wait for a checkpoint. -/
  | seqPark (k : Nat)
  /-- PARK_TRANSFER_START (R340). After work begun before the park has ended, Badger begins moving or writing the park's pages. -/
  | parkTransferStart (k : Nat)
  /-- PARK_COMPLETE (R342). A park writes its header and leaves the sequence PARKED_WARM, PARKED_COLD or unchanged. -/
  | parkComplete (k : Nat)
  /-- SEQ_RESUME (R349). SEQ_RESUME checks and imports a park image source, or ends the resume with LAST or ABANDON. -/
  | seqResume (k : Nat)
  /-- LOG_READ (R356). LOG_READ writes the held append-log entries of a sequence above FROM to host memory. -/
  | logRead (k : Nat)
  /-- LOG_TRIM (R356). LOG_TRIM discards append-log entries below BELOW. -/
  | logTrim (k : Nat)
  /-- APPEND_SHADOW (R355). An APPEND_SHADOW is written to the carriage's append log, or refused when the log is full. -/
  | appendShadow (src : BitVec 12) (op : BitVec 32)
  /-- PARK_XFER (R401). A PARK_XFER request is answered with a byte range of a warm image. -/
  | parkXfer (src : BitVec 12) (op : BitVec 32)
  /-- DEMOTE (R336). When free HBM frames on a half fall below LOW, Badger demotes the oldest pages to TIER 1. -/
  | demote (half : Fin 2)
  /-- PROMOTE (R337). After a coach reads a TIER 1 page, Badger moves it to TIER 0 when free frames exceed HIGH. -/
  | promote (half : Fin 2)
  /-- AGE_TICK (R335). At each frame the AGE of every TIER 0 and 1 page increases, saturating at 255. -/
  | ageTick
  /-- LINK_TRAINING_START (R363). Signal on 8 receive lanes of an enabled link takes it from DOWN to TRAINING. -/
  | linkTrainingStart (l : Fin 8)
  /-- LINK_TRAINING_END (R364). Fabric link training ends UP, or fails to DOWN, or to FAILED after 16 failures or a peer mismatch. -/
  | linkTrainingEnd (l : Fin 8) (lanes : BitVec 9) (engine : EngineReport) (ident : Option (BitVec 12 × Fin 8)) (trims : List Byte)
  /-- LINK_RETRY (R363). 10 ms after a failed training the link tries again. -/
  | linkRetry (l : Fin 8)
  /-- LINK_RETRAIN (R363). PRT_Ln_CTRL.RETRAIN takes the link to DOWN and then training, leaving FAILED. -/
  | linkRetrain (l : Fin 8)
  /-- LINK_LOCK_LOSS (R365). Block lock lost on an active lane for 1 µs takes the link DOWN, discarding its replay buffer. -/
  | linkLockLoss (l : Fin 8) (lane : Fin 9)
  /-- LINK_RX_IDLE_TIMEOUT (R365). No frame for 10 µs takes the link DOWN. -/
  | linkRxIdleTimeout (l : Fin 8)
  /-- LINK_REPLAY_TIMEOUT (R371). No acknowledgement for 4 µs makes the sender replay, and 8 replays of one frame take the link DOWN. -/
  | linkReplayTimeout (l : Fin 8)
  /-- LINK_RESET (R365). A received LCTRL LINK_RESET takes the link DOWN. -/
  | linkReset (l : Fin 8)
  /-- LACK (R371). A received LACK releases acknowledged frames from the link replay buffer. -/
  | lack (l : Fin 8) (seq : BitVec 24)
  /-- LNAK (R371). A received LNAK makes the sender replay from the named LSEQ. -/
  | lnak (l : Fin 8) (seq : BitVec 24)
  /-- LCREDIT (R370). A received LCREDIT returns credit units of a class. -/
  | lcredit (l : Fin 8) (cls : Fin 4) (units : BitVec 12)
  /-- SWAP_LANE (R367). A received LCTRL SWAP_LANE moves a logical lane onto the spare lane. -/
  | swapLane (l : Fin 8) (lane : Fin 8)
  /-- SWAP_WAVE (R367). A received LCTRL SWAP_WAVE remaps the matching receive lane to the spare wavelength. -/
  | swapWave (l : Fin 8) (lane : Fin 8) (wave : Fin 16)
  /-- SWAP_DONE (R367). A received LCTRL SWAP_DONE ends the peer's part of a planned swap. -/
  | swapDone (l : Fin 8)
  /-- LANE_SWAP_TRIGGER (R367). A receive lane counting more corrected symbols in a frame than PRT_X_SER_THR starts a lane swap. -/
  | laneSwapTrigger (l : Fin 8) (symbols : List Nat) (codewords : BitVec 32)
  /-- REPAIR_DONE (R367). A planned swap ends, the link returns to UP, replays and records 0x0703 or 0x0704. -/
  | repairDone (l : Fin 8) (ok : Bool)
  /-- FORCE_LANE (R404). PRT_X_Ln_SPARE.FORCE_LANE starts a planned swap of LANE onto the spare lane. -/
  | forceLane (p : Port) (l : Fin 8)
  /-- FORCE_WAVE (R404). PRT_X_Ln_SPARE.FORCE_WAVE starts a planned swap of the lane on WAVE onto the spare wavelength. -/
  | forceWave (p : Port) (l : Fin 8)
  /-- OE_POLL (R362). Once per frame the node reads each optical engine's fault, loss and warning registers, acting on faults and warnings. -/
  | oePoll (l : Fin 8) (ack : Bool) (fault los warn : BitVec 10)
  /-- DATA_FRAME (R373). A DATA frame is policed and forwarded cut-through, or its packet placed towards a local message. -/
  | dataFrame (l : Fin 8) (lseq : BitVec 24) (d : LinkData)
  /-- RMA_WRITE (R393). An RMA_WRITE packet is checked against its page and written, and the complete message is acknowledged. -/
  | rmaWrite (src : BitVec 12) (op : BitVec 32)
  /-- RMA_READ (R396). An RMA_READ is checked and answered by an RMA_RESP message, or by a NAK. -/
  | rmaRead (src : BitVec 12) (op : BitVec 32)
  /-- RMA_RESP (R397). An RMA_RESP packet is placed in its answer window when the window and generation are current. -/
  | rmaResp (src : BitVec 12) (op : BitVec 32)
  /-- ACK (R388). A received fabric ACK ends the sender's operation with the carried status and result. -/
  | ack (src : BitVec 12) (op : BitVec 32)
  /-- NAK (R392). A received fabric NAK stops the operation and ends it with the NAK's status. -/
  | nak (src : BitVec 12) (op : BitVec 32)
  /-- FAULT_NOTICE (R400). A received FAULT_NOTICE is acknowledged and recorded as event 0x070E. -/
  | faultNotice (src : BitVec 12) (op : BitVec 32)
  /-- RETRANSMIT_TIMEOUT (R389). With no answer by the retransmission wait, the operation is sent again with RETX, or ends LATE after the last retry. -/
  | retransmitTimeout (op : BitVec 32)
  /-- RX_ENTRY_EXPIRE (R386). A receive entry not complete PRT_RX_TIMEOUT after allocation is freed and counted. -/
  | rxEntryExpire (src : BitVec 12) (op : BitVec 32)
  /-- NAK_FILTER_EXPIRE (R392). 100 µs after a NAK the (SRC, OP_ID) filter entry lapses. -/
  | nakFilterExpire (src : BitVec 12) (op : BitVec 32)
  /-- PAGING_SERVED (R394). Badger finishes serving a packet held in the paging buffer for a TIER 1 page. -/
  | pagingServed
  /-- RMA_WRITE_CMD (R402). The RMA_WRITE port command writes host bytes to a page region of DEST as one operation. -/
  | rmaWriteCmd (k : Nat)
  /-- RMA_READ_CMD (R402). The RMA_READ port command reads a page region of DEST into host memory through a window. -/
  | rmaReadCmd (k : Nat)
  /-- PAGE_SEND (R402). PAGE_SEND writes an area of a local page to a page region of DEST. -/
  | pageSend (k : Nat)
  /-- PEER_LOST (R518). When every link to a peer has been DOWN or FAILED for RAS_PEER_WAIT, the node sends PEER_LOST once. -/
  | peerLost (node : BitVec 12)
  /-- BUCKET_TICK (R408). At each tick pending runtime changes are applied and every shaper and policer bucket refills. -/
  | bucketTick
  /-- TRF_APPLY (R425). TRF_CHANGE.APPLY stages a shaper or policer change for the next tick, or is refused at once. -/
  | trfApply (p : Port) (fill : Bool)
  /-- OWL_LOOKUP (R439). OWL_LOOKUP searches the carriage's prefix index, locally and optionally over the cascade. -/
  | owlLookup (k : Nat)
  /-- OWL_LOOKUP_LIST (R459). OWL_LOOKUP_LIST runs a lookup for each key of a host list and writes the results. -/
  | owlLookupList (k : Nat)
  /-- OWL_INSERT (R441). OWL_INSERT writes a classification entry at an index, shifting later entries up. -/
  | owlInsert (k : Nat)
  /-- OWL_SHIFT_DONE (R442). A background bank shift ends and the next waiting insert of the bank proceeds. -/
  | owlShiftDone (bank : Fin 16)
  /-- OWL_DELETE (R442). OWL_DELETE clears an entry's VALID bit in place. -/
  | owlDelete (k : Nat)
  /-- OWL_READ (R459). OWL_READ writes bank entries to host memory. -/
  | owlRead (k : Nat)
  /-- OWL_LOAD_AUTOMATON (R443). OWL_LOAD_AUTOMATON writes a checked automaton image to an AUTOMATA bank. -/
  | owlLoadAutomaton (k : Nat)
  /-- OWL_WATCH_SET (R445). OWL_WATCH_SET arms a watcher context on a sequence and layer. -/
  | owlWatchSet (k : Nat)
  /-- OWL_WATCH_DISARM (R449). OWL_WATCH_SET with DISARM frees a context and completes its pending OWL_WAIT with DISARMED. -/
  | owlWatchDisarm (k : Nat)
  /-- OWL_WAIT (R448). OWL_WAIT waits for a context's next report, or completes at once with a latched one. -/
  | owlWait (k : Nat)
  /-- CASCADE_SLOT (R452). At the start of its own cascade slot a node sends a SEARCH, or a PING in its first slot of a frame. -/
  | cascadeSlot
  /-- CASCADE_SEARCH (R453). A received SEARCH frame is forwarded, and the node searches its cascade banks and checks any hit. -/
  | cascadeSearch (frame : BitVec 256)
  /-- CASCADE_RETURN_CHECK (R454). At slot start plus 192 ns the origin finds its own frame returned or marks the cascade BROKEN. -/
  | cascadeReturnCheck
  /-- CASCADE_PRIO (R453). At slot start plus 320 ns nodes with checked hits drive PRIO_OUT to claim priority. -/
  | cascadePrio (prioIn : Bool)
  /-- CASCADE_WINNER_SEND (R453). At slot start plus 384 ns the winning node sends RESULT. -/
  | cascadeWinnerSend (prioIn : Bool)
  /-- CASCADE_RESULT (R453). A received RESULT frame is forwarded or taken by the origin as the lookup's answer. -/
  | cascadeResult (frame : BitVec 256)
  /-- CASCADE_SLOT_END (R453). At slot start plus 512 ns without a RESULT, the cascaded lookup is a miss. -/
  | cascadeSlotEnd
  /-- OWL_SCRUB (R456). Every 8,192 ns a half compares 1,024 bank entries with their shadow and repairs differences. -/
  | owlScrub (half : Fin 2)
  /-- OWL_SCRUB_FORCE (R461). OWL_X_SCRUB.FORCE compares every owned bank once at once. -/
  | owlScrubForce (p : Port)
  /-- PATROL_SCRUB (R471). Patrol scrub reads HBM codewords at the set pace and writes back corrected ones. -/
  | patrolScrub
  /-- SCRUB_FORCE (R484). MEM_X_SCRUB.FORCE starts a full scrub pass at once. -/
  | scrubForce (p : Port)
  /-- HBM_REFRESH (R465). The node refreshes each stack per bank, at double rate above 85 °C. -/
  | hbmRefresh (stack : Fin 16)
  /-- CE_THRESHOLD (R474). A pseudo-channel exceeding MEM_X_CE_THR corrected codewords in a frame records event 0x0A0A. -/
  | ceThreshold (g : Fin 64) (pc : Fin 8)
  /-- INJECT_ARM (R484). MEM_X_INJECT.ARM arms one error injection into the next whole-codeword write to a group. -/
  | injectArm (p : Port)
  /-- CXL_DETECT (R477). Receiver detect takes an ABSENT CXL port to TRAINING. -/
  | cxlDetect (c : Fin 4)
  /-- CXL_TRAINING_END (R478). CXL training ends UP or DEGRADED, and the node reads capacity and programs the HDM decoder. -/
  | cxlTrainingEnd (c : Fin 4) (width : Nat) (gts : Nat) (units : Nat)
  /-- CXL_TRAINING_TIMEOUT (R477). CXL training not ended within 100 ms takes the port DOWN. -/
  | cxlTrainingTimeout (c : Fin 4)
  /-- CXL_LINK_DOWN (R479). A CXL link going down makes its ranges read uncorrectable and sends CXL_DOWN notices. -/
  | cxlLinkDown (c : Fin 4)
  /-- CXL_RETRAIN (R477). 10 ms after DOWN a CXL port retrains. -/
  | cxlRetrain (c : Fin 4)
  /-- SEC_LOAD (R496). SEC_LOAD_CTRL.LOAD fetches and verifies a firmware image, owner record or life-cycle request. -/
  | secLoad (p : Port)
  /-- SEC_LOAD_DONE (R496). A load's fetch and verification end, starting or staging the object or reporting the failed check. -/
  | secLoadDone
  /-- SEC_LOAD_COMMIT (R497). SEC_LOAD_CTRL.COMMIT writes the verified object to its flash region. -/
  | secLoadCommit (p : Port)
  /-- ATTEST (R498). SEC_ATTEST.ATTEST starts building and signing an attestation report with the port's nonce. -/
  | attest (p : Port)
  /-- ATTEST_DONE (R498). The signed report is placed in the port's SEC_REPORT window and DONE is set. -/
  | attestDone (p : Port)
  /-- SESSION_LOAD (R499). SEC_SESSION_CTRL.LOAD decapsulates SEC_KEMCT and installs a session key for the port and carriage. -/
  | sessionLoad (p : Port)
  /-- SESSION_UNLOAD (R500). SEC_SESSION_CTRL.UNLOAD removes a session from the loading port. -/
  | sessionUnload (p : Port)
  /-- RETIRE (R507). SEC_KEY_CTRL.RETIRE retires an IDLE key slot from a port holding semaphore 1. -/
  | retire (p : Port)
  /-- FORCE_RETIRE (R507). SEC_X_FORCE.FORCE_RETIRE retires a DRAINING slot whatever its page count. -/
  | forceRetire (p : Port)
  /-- REKEY_PAGE (R506). The re-key sweep moves one page of a DRAINING slot to its carriage's current slot. -/
  | rekeyPage (page : BitVec 32)
  /-- JOB_ABORT (R522). JOB_ABORT places the named sequences in the hold table and ends their work. -/
  | jobAbort (k : Nat)
  /-- JOB_RELEASE (R523). JOB_RELEASE ends the holds of the named sequences. -/
  | jobRelease (k : Nat)
  /-- STEP (R525). STEP runs a list once per STEP_ID and answers repeats from the stored record. -/
  | step (k : Nat)
  /-- STEP_FORGET (R526). STEP_FORGET frees the DONE step records of a recovery tag. -/
  | stepForget (k : Nat)
  /-- HOLD_EXPIRE (R523). A hold ends RAS_HOLD_US after the last JOB_ABORT that named the sequence. -/
  | holdExpire (seq : BitVec 32)
  /-- SEND_NOTICE (R517). RAS_SEND.SEND sends a SOFTWARE FAULT_NOTICE to the named carriages. -/
  | sendNotice (p : Port)
  /-- CLEAR_STEPS (R531). RAS_X_CLEAR.STEPS frees every DONE step record. -/
  | clearSteps (p : Port)
  /-- CLEAR_HOLDS (R531). RAS_X_CLEAR.HOLDS ends every hold. -/
  | clearHolds (p : Port)
  /-- FIRMWARE_HALT (R516). A firmware halt is a fatal fault: engines stop, links are reset and the FATAL interrupt is raised. -/
  | firmwareHalt
  /-- RESET_RELEASE (R535). Release of RESET_N starts a new start-up from empty state. -/
  | resetRelease (straps : BitVec 12)
  /-- FIRMWARE_VERIFIED (R494). Firmware verification ends, running the image and raising ROLLBACK, or entering RECOVERY. -/
  | firmwareVerified (readOk : Bool)
  /-- PERSIST_RESTORE (R551). The newest valid persistence bank is read and its retire list, key state, tile map, trims and ring restored. -/
  | persistRestore
  /-- COMPOSITION_LOAD (R47). The flash composition image is read and validated with checks 1 to 14 and put into force, or left INVALID. -/
  | compositionLoad (readOk : Bool)
  /-- TILE_LEVEL (R249). After the composition loads, every tile runs its KAT and Fox runs its start-up calibration. -/
  | tileLevel (windowOk : BitVec 8) (fails : List (Nat × Nat)) (cals : List (Nat × (Nat × Int × Int)))
  /-- ANCHOR (R536). At anchor A the node adds its four STARTUP_SLOT entries. -/
  | anchor
  /-- HBM_TRAINING_DONE (R541). HBM and CXL training of the node level end, warm or cold, leaving out failed stacks. -/
  | hbmTrainingDone (warm : BitVec 16) (cold : BitVec 16)
  /-- HBM_INIT_DONE (R535). Directory shares are cleared and retired frames applied, completing the node level. -/
  | hbmInitDone
  /-- DISCOVERY_TIMEOUT (R539). A level with a link not UP BIST_DISC_WAIT after its slot becomes INCOMPLETE. -/
  | discoveryTimeout (level : Fin 4)
  /-- READY (R543). Once steps 1 to 9 have ended and the fabric slot has fired, the node is READY and sends JOINED. -/
  | ready
  /-- POWER_FAIL (R534). PWR_GOOD falling stops every engine within 10 µs and abandons any flash write. -/
  | powerFail
  /-- SHUTDOWN_START (R547). BIST_SHUT_CTRL.START arms a shutdown at BIST_SHUT_FT and sends FAULT_NOTICE SHUTDOWN. -/
  | shutdownStart (p : Port)
  /-- SHUTDOWN_BEGIN (R548). At S the node stops fetching and new coaches and aborts unstarted work. -/
  | shutdownBegin
  /-- SHUTDOWN_DRAIN_END (R548). When running work has ended, or at S plus 1 ms, CXL writes drain, links are reset and the persistence write begins. -/
  | shutdownDrainEnd
  /-- SHUTDOWN_PERSIST_DONE (R548). The shutdown persistence record is written and the shutdown self-test set starts with TEST = 1. -/
  | shutdownPersistDone (ok : Bool)
  /-- SHUTDOWN_SAFE (R548). Self-test results and the clean-shutdown mark are written and the state reads SAFE. -/
  | shutdownSafe (ok : Bool)
  /-- SELFTEST_START (R554). BIST_CTRL.START runs the full self-test set when the life-cycle state, semaphore and empty node allow it. -/
  | selftestStart (p : Port)
  /-- SELFTEST_DONE (R555). The self-test items end with their results, and the node then needs a reset. -/
  | selftestDone (windowOk : BitVec 8) (fails : List (Nat × Nat))
  /-- MONITOR_SAMPLE (R561). Every 65,536 ns the controller samples every monitor and raises WARN, ALERT, trip, rail and drift alarms. -/
  | monitorSample (temps : List (Nat × Int)) (volts : List (Nat × Nat)) (procs : List (Nat × Nat))
  /-- PERSIST_WRITE (R572). Every 60 s the node writes the persistence record with the event ring to the next flash area. -/
  | persistWrite
  /-- PERSIST_WRITE_DONE (R551). A persistence write ends with its valid mark written, or fails and records 0x0E04. -/
  | persistWriteDone (ok : Bool)
  /-- EVR_CLEAR (R573). EVR_CLEAR.CLEAR invalidates records up to EVR_CLEAR_SEQ when authorised and writes record 0x0E01. -/
  | evrClear (p : Port)
  /-- PURGE_DONE (R574). The erasures after a clear end and PURGE_BUSY clears. -/
  | purgeDone
  /-- I3C_WRITE (R596). An I3C private write sets the control-space offset and writes the permitted shutdown registers. -/
  | i3cWrite (off : BitVec 24) (vs : List Word)
  /-- I3C_READ (R596). An I3C private read returns registers from the offset last set, or 0 for unpermitted offsets. -/
  | i3cRead (n : Nat)
  /-- JTAG_INSTRUCTION (R597). A JTAG instruction runs BYPASS, IDCODE, SAMPLE/PRELOAD or EXTEST, the last two only when allowed. -/
  | jtagInstruction (i : JtagInstr)
  /-- ONZON_FRAME_ERROR (R116). An Onzon frame that fails its CRC, leaves a gap in SEQ, has an unlisted TYPE or comes from the wrong side is discarded, counted as a CRC error and answered with a NAK. -/
  | onzonFrameError (p : Port) (cause : FrameError)
  /-- LINK_FRAME_ERROR (R371). A fabric link frame with a CRC-64 error or a gap in LSEQ is discarded and answered with LNAK, and counted in PRT_Ln_CRC. -/
  | linkFrameError (l : Fin 8) (cause : FrameError)
  /-- EGRESS_SCHEDULE (R421). When a link output becomes free, or a timetable slot or control gap begins or ends, the node starts the next frame allowed there in the order of R421, returning isolated credits in a control gap. -/
  | egressSchedule (l : Fin 8)
  /-- SESSION_LOAD_DONE (R499). Decapsulation of SEC_KEMCT ends within 2 ms, the session key is installed or the LOAD fails, and SEC_SESSION_RESULT is written with DONE. -/
  | sessionLoadDone (p : Port)
  /-- SEC_COMMIT_DONE (R497). The flash write of a committed firmware image, owner record or life-cycle request ends and SEC_LOAD_STATUS.BUSY clears, with the result in STATUS. -/
  | secCommitDone (ok : Bool)
  /-- I3C_SETDASA (R596). The board management controller's SETDASA assigns the node's I3C dynamic address from its static address 0x30 + NODE[2:0]. -/
  | i3cSetdasa (dyn : BitVec 7)
  /-- RESET_ASSERT (R594). RESET_N driven low while powered holds the node in reset, ending all work until the next release. -/
  | resetAssert
deriving DecidableEq, Repr

end Sys2Proof
end

