-- ==== Sys2Proof/Config.lean ====
section
/-! DEFINITION. What an implementation fixes and what the spec leaves open or takes from another standard: constants
with no body, so that no proof can see a value of theirs (assumptions 5, 6, 11). -/

namespace Sys2Proof.Config

/-- Free values, by the count of free values taken before (assumption 11). -/
opaque freeValue : Nat → Nat

/-- SHA3-512 (R37): taken from FIPS 202, not interpreted (assumption 5). -/
opaque sha3 : List Byte → List Byte

/-- ML-DSA-87 verification of a signature over a message under a public key (R37, R487). -/
opaque mlDsaVerify : List Byte → List Byte → List Byte → Bool

/-- ML-DSA-87 signature of a message under the identity key derived from a seed (R498). -/
opaque mlDsaSign : List Byte → List Byte → List Byte

/-- The identity public key derived from ID_SEED ("Identity and attestation"). -/
opaque identityKey : List Byte → List Byte

/-- The ML-KEM-1024 public key of a start, by the count of free values at the start (R499). -/
opaque kemKey : Nat → List Byte

/-- Decapsulation of a ciphertext; none where it fails (R499). -/
opaque kemDecap : Nat → List Byte → Option (List Byte)

/-- AES-256-GCM opening: key, nonce, header, ciphertext, tag (R149, R152). -/
opaque gcmOpen : List Byte → List Byte → List Byte → List Byte → List Byte → Option (List Byte)

/-- AES-256-GCM sealing: key, nonce, header, plaintext; ciphertext and tag (R149). -/
opaque gcmSeal : List Byte → List Byte → List Byte → List Byte → List Byte × List Byte

/-- AES-256-XTS of a data unit of a length under a slot key and tweak, for park streams (R347, R508): a permutation of the
units, as the exchanges of two units that make it up. -/
opaque xtsSwaps : List Byte → Nat → Nat → List (List Byte × List Byte)

/-- The code of a block's bytes under a table image (R210): the coder is the table's (assumption 5). -/
opaque compress : List Byte → List Byte → List Byte

/-- The bytes that a block's code expands to under a table image (R211). -/
opaque expand : List Byte → List Byte → List Byte

/-- Whether the encode and decode sections of a table image agree (R214): their entries' layout is not stated. -/
opaque tableAgrees : List Byte → Bool

/-- 2 to a power, as the tiles approximate it on FP32 bit patterns (R271). -/
opaque exp2 : Nat → Nat

/-- The hyperbolic tangent the tiles approximate (R270). -/
opaque tanh : Nat → Nat

/-- mu of a page in FP32, from Nk and the key elements of its positions as mantissas and exponents (R233, R234). -/
opaque keyMean : Nat → List (List (Int × Int)) → List Nat

/-- The largest distance in FP32 of a key from z, from Nk, the keys, SCALE and SUMMARY (R234). -/
opaque keyDistance : Nat → List (List (Int × Int)) → Nat → List Int → Nat

/-- SUMMARY, SCALE and RADIUS where mu or a distance leaves the range of FP32, from the keys (R234). -/
opaque sealSummary : List (List (Int × Int)) → List Byte
opaque sealScale : List (List (Int × Int)) → Nat
opaque sealRadius : List (List (Int × Int)) → Nat

/-- The gain error that a pass's reference residuals show, 2,048 = 1.0 (R250). -/
opaque foxGain : List Int → Int

/-- σ̂ from the residuals of the last passes, in the unit of FOX_M_STAT.SIGMA (R250). -/
opaque foxSigma : List (List Int) → Nat

/-- Running residuals that the residuals of the last passes leave: offset in 1/16 LSB, gain in ppm (R250, Table FOX-10). -/
opaque foxResid : List (List Int) → Int × Int

/-- Steering rate of MODE 2 for a reported offset, in 0.01 ppb (R94). -/
opaque followRate : Int → Int → Int

/-- The link that carries every packet of a PINNED operation: OP_ID and the number of candidates (R380). -/
opaque pinned : Nat → Nat → Nat

end Sys2Proof.Config
end

