-- ==== Sys2Proof/Machine/Map.lean ====
section
/-! DEFINITION. Sparse tables held as plain lists of (key, value) pairs, and small list helpers. -/

namespace Sys2Proof.Machine

/-- The value a sparse table lists for key `k`, if it lists one. -/
def look {κ α : Type} [DecidableEq κ] (k : κ) : List (κ × α) → Option α
  | [] => none
  | (j, v) :: r => if j = k then some v else look k r

/-- The value of key `k`, or `d` where the table lists none. -/
def lookD {κ α : Type} [DecidableEq κ] (k : κ) (d : α) (m : List (κ × α)) : α := (look k m).getD d

/-- The table with key `k` holding `v`; a new key goes to the end, so that the order of first entry is kept. -/
def put {κ α : Type} [DecidableEq κ] (k : κ) (v : α) : List (κ × α) → List (κ × α)
  | [] => [(k, v)]
  | (j, w) :: r => if j = k then (k, v) :: r else (j, w) :: put k v r

/-- The table without key `k`. -/
def del {κ α : Type} [DecidableEq κ] (k : κ) (m : List (κ × α)) : List (κ × α) := m.filter (fun e => decide (e.1 ≠ k))

/-- The table with the value of key `k` changed by `f`, where it lists `k`. -/
def upd {κ α : Type} [DecidableEq κ] (k : κ) (f : α → α) (m : List (κ × α)) : List (κ × α) :=
  m.map (fun e => if e.1 = k then (e.1, f e.2) else e)

/-- Whether the table lists key `k`. -/
def has {κ α : Type} [DecidableEq κ] (k : κ) (m : List (κ × α)) : Bool := (look k m).isSome

/-- The set with element `x` in it once. -/
def addSet {α : Type} [DecidableEq α] (x : α) (l : List α) : List α := if x ∈ l then l else l ++ [x]

/-- The set without element `x`. -/
def remSet {α : Type} [DecidableEq α] (x : α) (l : List α) : List α := l.filter (fun y => decide (y ≠ x))

/-- The sum of `f` over a list. -/
def sumOf {α : Type} (f : α → Nat) (l : List α) : Nat := (l.map f).foldl (· + ·) 0

/-- The element of a list with the least key, the first of them where several share it. -/
def leastBy {α : Type} (f : α → Nat) : List α → Option α
  | [] => none
  | x :: r =>
    match leastBy f r with
    | none => some x
    | some y => if f x ≤ f y then some x else some y

/-- The element of a list with the greatest key, the first of them where several share it. -/
def mostBy {α : Type} (f : α → Nat) : List α → Option α
  | [] => none
  | x :: r =>
    match mostBy f r with
    | none => some x
    | some y => if f y ≤ f x then some x else some y

/-- A list in rising order of a key, equal keys in their order of appearance. -/
def insertBy {α : Type} (f : α → Nat) (x : α) : List α → List α
  | [] => [x]
  | y :: r => if f x < f y then x :: y :: r else y :: insertBy f x r

/-- A list sorted by a key, equal keys in their order of appearance. -/
def sortBy {α : Type} (f : α → Nat) (l : List α) : List α := l.foldl (fun acc x => insertBy f x acc) []

/-- Applies `f` to each element in order, carrying the state along. -/
def forEach {α σ : Type} (l : List α) (f : α → σ → σ) (s : σ) : σ := l.foldl (fun t x => f x t) s

/-- A change of state that happens only when the condition holds. -/
def when {σ : Type} (c : Bool) (f : σ → σ) (s : σ) : σ := if c then f s else s

/-- A change of state that happens only when there is a value. -/
def whenSome {α σ : Type} (o : Option α) (f : α → σ → σ) (s : σ) : σ :=
  match o with
  | none => s
  | some x => f x s

/-- The first of the `n` numbers from `i` on that satisfies `p`. -/
def firstFrom (p : Nat → Bool) : Nat → Nat → Option Nat
  | 0, _ => none
  | n + 1, i => if p i then some i else firstFrom p n (i + 1)

/-- The first of the numbers below `n` that satisfies `p`. -/
def firstBelow (n : Nat) (p : Nat → Bool) : Option Nat := firstFrom p n 0

/-- The keys of a table. -/
def keys {κ α : Type} (m : List (κ × α)) : List κ := m.map Prod.fst

/-- The number of elements that satisfy `p`. -/
def countOf {α : Type} (p : α → Bool) (l : List α) : Nat := (l.filter p).length

/-- Element `i` of a list, or `d`. -/
def nth {α : Type} (d : α) (l : List α) (i : Nat) : α := (l[i]?).getD d

/-- Subtraction of wrapping counts of width `w` bits. -/
def wsub (w a b : Nat) : Nat := (a + 2 ^ w - b % 2 ^ w) % 2 ^ w

/-- The quotient rounded up. -/
def ceilDiv (a b : Nat) : Nat := (a + b - 1) / b

end Sys2Proof.Machine
end

