-- ==== Sys2Proof/Machine/Bytes.lean ====
section
/-! DEFINITION. Bytes and bit fields: the little-endian order of the node's multi-byte fields (R34, R111, R609), bit
slices, and the cyclic redundancy checks of frames (R78, R111, R369, R451). -/

namespace Sys2Proof.Machine

/-- Bits [lo + w − 1 : lo] of a number. -/
def bits (x lo w : Nat) : Nat := x / 2 ^ lo % 2 ^ w

/-- Bit `i` of a number. -/
def bit (x i : Nat) : Bool := x / 2 ^ i % 2 == 1

/-- A flag as a bit. -/
def b2n (b : Bool) : Nat := if b then 1 else 0

/-- A number with bits [lo + w − 1 : lo] replaced by `v`. -/
def setBits (x lo w v : Nat) : Nat := x - bits x lo w * 2 ^ lo + v % 2 ^ w * 2 ^ lo

/-- The positions below `n` of the 1 bits of `x`. -/
def bitsOf (n x : Nat) : List Nat := (List.range n).filter (bit x)

/-- The number whose 1 bits are at the listed positions. -/
def bitMap (l : List Nat) : Nat := l.foldl (fun a i => if bit a i then a else a + 2 ^ i) 0

/-- A two's complement number of `w` bits read as an integer. -/
def signed (w x : Nat) : Int := if x % 2 ^ w < 2 ^ (w - 1) then (x % 2 ^ w : Int) else (x % 2 ^ w : Int) - (2 ^ w : Int)

/-- An integer as a two's complement number of `w` bits. -/
def unsigned (w : Nat) (i : Int) : Nat := (i % (2 ^ w : Int)).toNat

/-- An integer held inside a range. -/
def clampInt (lo hi i : Int) : Int := if i < lo then lo else if hi < i then hi else i

/-- The number a list of bytes spells, the lowest byte first. -/
def leNat : List Byte → Nat
  | [] => 0
  | b :: r => b.toNat + 256 * leNat r

/-- The `k` lowest bytes of a number, the lowest byte first. -/
def leBytes : Nat → Nat → List Byte
  | 0, _ => []
  | k + 1, n => BitVec.ofNat 8 n :: leBytes k (n / 256)

/-- `len` bytes from byte `off` on. -/
def slice (bs : List Byte) (off len : Nat) : List Byte := (bs.drop off).take len

/-- The little-endian number in `len` bytes from byte `off` on. -/
def fieldAt (bs : List Byte) (off len : Nat) : Nat := leNat (slice bs off len)

/-- Byte `off`. -/
def u8 (bs : List Byte) (off : Nat) : Nat := fieldAt bs off 1
/-- The 16-bit field at byte `off`. -/
def u16 (bs : List Byte) (off : Nat) : Nat := fieldAt bs off 2
/-- The 32-bit field at byte `off`. -/
def u32 (bs : List Byte) (off : Nat) : Nat := fieldAt bs off 4
/-- The 64-bit field at byte `off`. -/
def u64 (bs : List Byte) (off : Nat) : Nat := fieldAt bs off 8

/-- Whether every byte is zero. -/
def allZero (bs : List Byte) : Bool := bs.all (fun b => b == 0)

/-- `n` zero bytes. -/
def zeros (n : Nat) : List Byte := List.replicate n 0

/-- A list of bytes brought to exactly `n` bytes with zeros. -/
def padTo (n : Nat) (bs : List Byte) : List Byte := bs.take n ++ zeros (n - bs.length)

/-- The list with `new` written over it from byte `off` on. -/
def overwrite (bs : List Byte) (off : Nat) (new : List Byte) : List Byte :=
  (padTo off bs) ++ new ++ bs.drop (off + new.length)

/-- A list of bytes in blocks of `n` (the last one may be shorter); `fuel` bounds the number of blocks. -/
def chunks : Nat → Nat → List Byte → List (List Byte)
  | 0, _, _ => []
  | f + 1, n, bs => if bs.isEmpty then [] else bs.take n :: chunks f n (bs.drop n)

/-- One bit of a CRC whose polynomial `poly` has width `w`, most significant bit first. -/
def crcBit (w poly reg : Nat) (b : Bool) : Nat :=
  let top := bit reg (w - 1)
  let sh := reg * 2 % 2 ^ w
  if top != b then Nat.xor sh poly else sh

/-- The CRC register after a list of bits. -/
def crcBits (w poly : Nat) : Nat → List Bool → Nat
  | reg, [] => reg
  | reg, b :: r => crcBits w poly (crcBit w poly reg b) r

/-- The bits of a byte, the most significant first. -/
def byteBits (b : Byte) : List Bool := [7, 6, 5, 4, 3, 2, 1, 0].map (fun i => bit b.toNat i)

/-- The bits of a number of `n` bits, the most significant first. -/
def natBits (n x : Nat) : List Bool := (List.range n).reverse.map (bit x)

/-- A CRC-32 with the polynomial 0x04C1_1DB7, initial value 0xFFFF_FFFF and final inversion (R111, R78). -/
def crc32 (bs : List Bool) : Nat := 0xFFFFFFFF - crcBits 32 0x04C11DB7 0xFFFFFFFF bs

/-- A CRC-64 with the polynomial 0x42F0_E1EB_A9EA_3693, initial value all ones and final inversion (R369). -/
def crc64 (bs : List Bool) : Nat := 2 ^ 64 - 1 - crcBits 64 0x42F0E1EBA9EA3693 (2 ^ 64 - 1) bs

end Sys2Proof.Machine
end

