-- ==== Sys2Proof/Machine/RegNames.lean ====
section
/-! DEFINITION. The register fields of the node, one name for each field of the spec's register tables, with the
width and the value after RESET_N is released. A field that exists once per port, carriage, link, queue or array
element is one name with an index (its cells are keyed by name and index). The names are the spec's own: the register,
then the field. Where the spec's Reset column says "cmp", "trim", "strap" or nothing, the value here is 0
(VID CODE: 10), DESIGN CHOICE, assumption 3; start-up then loads what the spec loads. -/

namespace Sys2Proof.Machine

/-- The register fields, in the order of the spec's chapters (R31 to R584). -/
inductive RN where
  | GLB_PART_ID_PART
  | GLB_PART_ID_STEPPING
  | GLB_PART_ID_VARIANT
  | GLB_NODE_ADDR_RACK
  | GLB_NODE_ADDR_SLED
  | GLB_NODE_ADDR_NODE
  | CMP_CTRL_STAGE
  | CMP_CTRL_ARM
  | CMP_CTRL_CANCEL
  | CMP_CTRL_COMMIT
  | CMP_STATUS_STATE
  | CMP_STATUS_COMMIT_BUSY
  | CMP_STATUS_CHECK
  | CMP_STATUS_TAG
  | CMP_SRC_ADDR_LO_ADDR_LO
  | CMP_SRC_ADDR_HI_ADDR_HI
  | CMP_SRC_LEN_LEN
  | CMP_SWITCH_FT_LO_FT_LO
  | CMP_SWITCH_FT_HI_FT_HI
  | CMP_EPOCH_CURRENT
  | CMP_EPOCH_ARMED
  | CMP_DRAIN_DRAIN_US
  | CMP_ACTIVE_DIGEST_DIGEST
  | CMP_STALE_CNT_COUNT
  | CMP_CLAIM_STATUS_RES1
  | CMP_CLAIM_STATUS_RES2
  | CMP_CLAIM_STATUS_RES3
  | CMP_CLAIM_STATUS_RES4
  | CMP_OWNER_OWNERS
  | CMP_EXPERT_UNLOCK_BLOCKS
  | CMP_CARRIAGE_VALID_VALID
  | TT_CTRL_FINE_SYNC
  | TT_CTRL_FINE_DELAY
  | TT_CTRL_XFER_EN
  | TT_STATUS_STATE
  | TT_STATUS_FAULT_SEEN
  | TT_STATUS_REF_OK
  | TT_STATUS_STEERING
  | TT_STATUS_TB_ID
  | TT_STATUS_TB_STATUS
  | TT_FT_LO_FT_LO
  | TT_FT_HI_FT_HI
  | TT_CAP_LO_CAP_LO
  | TT_CAP_HI_CAP_HI
  | TT_CAP_FRAC_FRAC
  | TT_SYNC_ERR_ERR
  | TT_HOLD_HOLD_US
  | TT_GRID_K
  | TT_CODE_ERR_CRC
  | TT_CODE_ERR_DISAGREE
  | TT_EVT_FT_LO_FT_LO
  | TT_EVT_FT_HI_FT_HI
  | TT_EVT_SPEC_KIND
  | TT_EVT_SPEC_CARRIAGE
  | TT_EVT_SPEC_PERIOD_EXP
  | TT_EVT_ARG_ARG
  | TT_EVT_CTRL_ADD
  | TT_EVT_CTRL_CANCEL
  | TT_EVT_CTRL_INDEX
  | TT_EVT_RESULT_STATUS
  | TT_EVT_RESULT_INDEX
  | TT_EVT_RESULT_DONE
  | TT_EVT_FREE_FREE
  | TT_EVT_FREE_POOL_FREE
  | TT_LINK_DELAY_DELAY
  | TT_LINK_DELAY_VALID
  | TT_LINK_OFFSET_OFFSET
  | TT_LINK_OFFSET_VALID
  | TT_EVT_ENTRY
  | TT_STEER_PPB
  | TT_STEER_MODE
  | TT_STEER_LINK
  | TT_STEER_ACC_ACC
  | TT_LINK_ASYM_ASYM
  | GLB_SEM_OWNER
  | GLB_SEM_GRANTED
  | GLB_SEM_LEASE_MS
  | GLB_SEM_REL_INDEX
  | GLB_SEM_OWNED_A_LO_SEM
  | GLB_SEM_OWNED_A_HI_SEM
  | GLB_SEM_OWNED_B_LO_SEM
  | GLB_SEM_OWNED_B_HI_SEM
  | QUE_PORT_STATUS_STATE
  | QUE_PORT_STATUS_LANES
  | QUE_PORT_STATUS_UP_COUNT
  | QUE_PORT_ERR_CRC
  | QUE_PORT_ERR_REPLAY
  | QUE_CQE_DROP
  | QUE_SEL_QUEUE
  | QUE_CTX_SQ_BASE_LO_ADDR_LO
  | QUE_CTX_SQ_BASE_HI_ADDR_HI
  | QUE_CTX_CQ_BASE_LO_ADDR_LO
  | QUE_CTX_CQ_BASE_HI_ADDR_HI
  | QUE_CTX_CFG_SQ_EXP
  | QUE_CTX_CFG_CQ_EXP
  | QUE_CTX_CFG_ENGINE
  | QUE_CTX_CFG_CONF
  | QUE_CTX_CFG_IRQ_EN
  | QUE_CTX_CFG_SESSION
  | QUE_CTX_IRQ_ADDR_LO_ADDR_LO
  | QUE_CTX_IRQ_ADDR_HI_ADDR_HI
  | QUE_CTX_IRQ_DATA_DATA
  | QUE_CTX_IRQ_MOD_COUNT
  | QUE_CTX_IRQ_MOD_TIME_US
  | QUE_CTX_CTRL_ENABLE
  | QUE_CTX_CTRL_DISABLE
  | QUE_CTX_CTRL_RESET
  | QUE_CTX_STATUS_STATE
  | QUE_CTX_STATUS_LEAVING
  | QUE_CTX_STATUS_CARRIAGE
  | QUE_CTX_STATUS_STOP_CAUSE
  | QUE_CTX_STATUS_INFLIGHT
  | QUE_CTX_PTR_SQ_HEAD
  | QUE_CTX_PTR_CQ_TAIL
  | QUE_CTX_RESULT_STATUS
  | QUE_CTX_RESULT_DONE
  | QUE_STOPPED_STOPPED
  | QUE_DOORBELL_SQ_TAIL
  | QUE_DOORBELL_CQ_HEAD
  | QUE_ARB_WEIGHT_WEIGHT
  | QUE_FETCH_MAX_ENTRIES
  | QUE_ONZ_EQ_CTLE
  | QUE_ONZ_EQ_DFE1
  | QUE_ONZ_EQ_TX_PRE
  | QUE_ONZ_EQ_TX_POST
  | BDG_SEQ_FORMAT_SIZE_CODE
  | BDG_SEQ_FORMAT_DIR_SHARE
  | BDG_SEQ_ACTIVE_COUNT
  | BDG_SEQ_CSEL_CARRIAGE
  | BDG_SEQ_C_SEQ_COUNT
  | BDG_SEQ_C_HBM_FREE_E_FRAMES
  | BDG_SEQ_C_HBM_FREE_W_FRAMES
  | BDG_SEQ_C_CXL_FREE_FRAMES
  | BDG_SEQ_C_DIR_FREE_ENTRIES
  | BDG_SEQ_C_SHARED_PAGES
  | BDG_SEQ_C_FROZEN_COUNT
  | BDG_SEQ_C_TABLE_FRAMES
  | BDG_SEQ_C_NOPAGE_COUNT
  | BDG_SEQ_C_FALLBACK_COUNT
  | BDG_SEQ_C_COW_COUNT
  | BDG_SEQ_STAGE_HELD
  | BDG_SEQ_STAGE_KIB
  | BDG_SEQ_LOOKUP_ID_SEQ_ID
  | BDG_SEQ_LOOKUP_STATE
  | BDG_SEQ_LOOKUP_CARRIAGE
  | BDG_SEQ_LOOKUP_FOUND
  | BDG_SEQ_LOOKUP_FREEZE_FREEZE_POS
  | BDG_CTRL_EXPAND_E
  | BDG_CTRL_EXPAND_W
  | BDG_CTRL_PREFETCH
  | BDG_STATUS_BRIDGE_E
  | BDG_STATUS_BRIDGE_W
  | BDG_INFLIGHT_EAST
  | BDG_INFLIGHT_WEST
  | BDG_C_INFLIGHT_MOVES
  | BDG_C_MOVE_MAX_MAX
  | BDG_C_WEIGHT_MIB
  | BDG_C_WMISS_COUNT
  | BDG_DIGEST_FAIL_COUNT
  | BDG_C_DIGEST_FAIL_COUNT
  | BDG_ZEROED_LO_GROUP
  | BDG_ZEROED_HI_GROUP
  | BDG_EXP_CLAIM_COUNT
  | BDG_TABLE_META_TABLE_ID
  | BDG_TABLE_META_VALID
  | BDG_TABLE_META_CURRENT
  | BDG_TABLE_META_OWNER
  | BDG_TABLE_STORED_COUNT
  | BDG_TABLE_QUEUED_COUNT
  | BDG_ARB_WEIGHT_APPEND
  | BDG_ARB_WEIGHT_PREFETCH
  | BDG_ARB_WEIGHT_MOVE
  | BDG_ARB_WEIGHT_ZERO
  | BDG_EXP_BRIDGE_NO_BRIDGE
  | BDG_WALK_CACHE_FLUSH
  | FOX_CTRL_AUTO_CAL
  | FOX_STATUS_STATE
  | FOX_STATUS_TRIMS_USED
  | FOX_STATUS_OUT
  | FOX_RECAL_MS_PERIOD
  | FOX_CSEL_CARRIAGE
  | FOX_C_CTRL_EXACT
  | FOX_C_CTRL_FALLBACK
  | FOX_C_CTRL_REFILL
  | FOX_C_CTRL_FS_EXP
  | FOX_C_CTRL_GUARD
  | FOX_C_CTRL_SIGMA_FLOOR
  | FOX_C_ROWS_E_FREE
  | FOX_C_ROWS_W_FREE
  | FOX_C_ROWLESS_PAGES
  | FOX_C_PASSES_COUNT
  | FOX_C_OVERFLOW_COUNT
  | FOX_C_DIGITAL_COUNT
  | FOX_C_LOWCONF_COUNT
  | FOX_MSEL_MACRO
  | FOX_M_STAT_STATE
  | FOX_M_STAT_SIGMA
  | FOX_M_STAT_TSENS
  | FOX_M_STAT_VMON
  | FOX_M_STAT_FAILS
  | FOX_M_AGE_MS
  | FOX_M_ADC_OFFSET
  | FOX_M_ADC_GAIN
  | FOX_M_TCOMP_ALPHA_T
  | FOX_M_TCOMP_ALPHA_V
  | FOX_M_CAL_POINT_TJ
  | FOX_M_CAL_POINT_MV
  | FOX_M_RESID_OFFSET
  | FOX_M_RESID_GAIN
  | FOX_M_HOLD_FREEZE
  | FOX_M_HOLD_FORCE_OUT
  | FOX_M_COL_GAIN_COL0
  | FOX_M_COL_GAIN_COL1
  | FOX_M_COL_GAIN_COL2
  | FOX_M_COL_GAIN_COL3
  | FOX_M_COL_OFF_COL0
  | FOX_M_COL_OFF_COL1
  | FOX_M_COL_OFF_COL2
  | FOX_M_COL_OFF_COL3
  | BEAR_CTRL_AUTO_SPARE
  | BEAR_STATUS_SPARES_E
  | BEAR_STATUS_SPARES_W
  | BEAR_STATUS_SHADOWING
  | BEAR_SHADOW_CFG_COUNT
  | BEAR_SPARE_TRIG_CORR
  | BEAR_CSEL_CARRIAGE
  | BEAR_C_COACHES_COUNT
  | BEAR_C_POSITIONS_KPOS
  | BEAR_C_BADNUM_COUNT
  | BEAR_C_ACCREF_COUNT
  | BEAR_C_UNCORR_COUNT
  | BEAR_TSEL_PHYS
  | BEAR_T_STAT_STATE
  | BEAR_T_STAT_LOGICAL
  | BEAR_T_STAT_CARRIAGE
  | BEAR_T_STAT_COMPARED
  | BEAR_T_ECC_CORR
  | BEAR_T_ECC_UNCORR
  | BEAR_T_MISMATCH_COUNT
  | BEAR_MAP_PHYS
  | BEAR_SPARE_CTRL_TILE
  | BEAR_SPARE_CTRL_SPARE
  | BEAR_SPARE_CTRL_START
  | BEAR_SPARE_CTRL_STOP
  | BEAR_SPARE_RESULT_OUTCOME
  | BEAR_SPARE_RESULT_STATUS
  | BEAR_SPARE_RESULT_DONE
  | BEAR_SEAL_SLOTS
  | BEAR_REPAIR_CLEAR_AT_START
  | PRT_DEP_CSEL_CARRIAGE
  | PRT_DEP_C_COACHES_COUNT
  | PRT_DEP_C_LATE_COUNT
  | PRT_DEP_C_FAILED_COUNT
  | PRT_DEP_C_TAILWAIT_COUNT
  | PRT_DEP_C_SLACK_MIN_NS
  | PRT_DEP_C_CTX_IN_USE
  | PRT_DEP_C_CTX_QUOTA
  | PRT_DEP_C_BUF_IN_USE
  | PRT_DEP_C_BUF_QUOTA
  | PRT_DEP_C_INCOMPLETE_COUNT
  | PRT_DEP_C_LATE_IN_COUNT
  | PRT_DEP_C_REFUSED_COUNT
  | PRT_DEP_C_DUP_COUNT
  | PRT_DEP_C_MISROUTE_COUNT
  | PRT_DEP_C_COACHMEM_FREE_4K
  | PRT_DEP_CTX_PEAK_CONTEXTS
  | PRT_DEP_CTX_PEAK_BLOCKS
  | PRT_DEP_X_LEAD_ADJ_NS
  | BDG_PARK_C_CTRL_DEMOTE
  | BDG_PARK_C_CTRL_PROMOTE
  | BDG_PARK_C_CTRL_LOW
  | BDG_PARK_C_CTRL_HIGH
  | BDG_PARK_C_HINT_US
  | BDG_PARK_C_ACTIVE_PARKING
  | BDG_PARK_C_ACTIVE_RESUMING
  | BDG_PARK_C_DEMOTED_COUNT
  | BDG_PARK_C_PROMOTED_COUNT
  | BDG_PARK_C_T1READ_COUNT
  | BDG_PARK_C_RETRY_COUNT
  | BDG_LOG_C_MAX_FRAMES
  | BDG_LOG_C_USED_FRAMES
  | BDG_LOG_C_ENTRIES_COUNT
  | BDG_LOG_C_FULL_COUNT
  | PRT_CTRL_AUTO_LANE_SPARE
  | PRT_CTRL_AUTO_WAVE_SPARE
  | PRT_CTRL_OE_POLL
  | PRT_STATUS_UP
  | PRT_STATUS_REPAIR
  | PRT_STATUS_FAILED
  | PRT_RTO_BASE_US
  | PRT_RTO_RETRIES
  | PRT_RX_TIMEOUT_US
  | PRT_OPS_IN_USE
  | PRT_OPS_PEAK_PEAK
  | PRT_CSEL_CARRIAGE
  | PRT_C_OPS_IN_USE
  | PRT_C_OPS_QUOTA
  | PRT_C_RETX_COUNT
  | PRT_C_STALE_GEN_COUNT
  | PRT_C_DUP_COUNT
  | PRT_C_NOENTRY_COUNT
  | PRT_C_LATE_OPS_COUNT
  | PRT_C_RETRY_AFTER_COUNT
  | PRT_C_STALLS_COUNT
  | PRT_C_CONFINED_COUNT
  | PRT_C_RX_EXPIRED_COUNT
  | PRT_C_PAGING_DROP_COUNT
  | PRT_NOROUTE_COUNT
  | PRT_HOPS_EXP_COUNT
  | PRT_MCAST_DROP_COUNT
  | PRT_PAGING_BUF_KIB_FREE
  | PRT_C_MSGMEM_DROP_COUNT
  | PRT_Ln_STATUS_STATE
  | PRT_Ln_STATUS_IN_RACK
  | PRT_Ln_STATUS_OPTICAL
  | PRT_Ln_STATUS_TRAIN_FAILS
  | PRT_Ln_STATUS_UP_COUNT
  | PRT_Ln_PEER_NODE
  | PRT_Ln_PEER_LINK
  | PRT_Ln_PEER_VALID
  | PRT_Ln_CTRL_RETRAIN
  | PRT_Ln_CTRL_DISABLE
  | PRT_Ln_FEC_CORR_COUNT
  | PRT_Ln_FEC_UNCORR_COUNT
  | PRT_Ln_CRC_COUNT
  | PRT_Ln_REPLAY_COUNT
  | PRT_Ln_SPARE_LANE_REPLACED
  | PRT_Ln_SPARE_WAVE_REPLACED
  | PRT_Ln_SPARE_SPARE_LANE
  | PRT_Ln_SPARE_WAVE_SPARE
  | PRT_Ln_TX_LO_BYTES_LO
  | PRT_Ln_TX_HI_BYTES_HI
  | PRT_Ln_RX_LO_BYTES_LO
  | PRT_Ln_RX_HI_BYTES_HI
  | PRT_Ln_OE_TX_FAULT
  | PRT_Ln_OE_RX_LOS
  | PRT_Ln_OE_POLL_OK
  | PRT_Ln_WORST_LANE_LANE
  | PRT_Ln_WORST_LANE_SYMBOLS
  | PRT_X_SER_THR_SYMBOLS
  | PRT_X_SPRAY_MODE
  | PRT_X_Ln_SPARE_FORCE_LANE
  | PRT_X_Ln_SPARE_LANE
  | PRT_X_Ln_SPARE_FORCE_WAVE
  | PRT_X_Ln_SPARE_WAVE
  | PRT_X_Ln_SPARE_HOLD_TRAINING
  | PRT_X_EQ_CTLE
  | PRT_X_EQ_DFE1
  | PRT_X_EQ_TX_PRE
  | PRT_X_EQ_TX_POST
  | TRF_STATUS_REFILL_EXP
  | TRF_STATUS_PENDING
  | TRF_SEL_INDEX
  | TRF_SEL_POLICER
  | TRF_SET_MODE_ENABLE
  | TRF_SET_MODE_TWO_RATE
  | TRF_SET_MODE_AWARE
  | TRF_SET_MODE_YELLOW_DROP
  | TRF_SET_MODE_RED_PASS
  | TRF_SET_RATE_RATE
  | TRF_SET_BURST_BURST
  | TRF_SET_RATE2_PIR
  | TRF_SET_BURST2_BURST2
  | TRF_CHANGE_APPLY
  | TRF_CHANGE_FILL
  | TRF_RESULT_STATUS
  | TRF_RESULT_DONE
  | TRF_TOKENS_BYTES
  | TRF_TOKENS2_BYTES
  | TRF_CSEL_CARRIAGE
  | TRF_C_GREEN_COUNT
  | TRF_C_YELLOW_COUNT
  | TRF_C_RED_COUNT
  | TRF_C_HELD_COUNT
  | TRF_C_ISO_DROP_COUNT
  | TRF_C_OWLREF_COUNT
  | TRF_SLOT_OWNER
  | TRF_Ln_ISO_ISO_CREDIT
  | TRF_X_WRR_RESP
  | TRF_X_WRR_BULK
  | OWL_CTRL_CASCADE_EN
  | OWL_CTRL_SCRUB_E
  | OWL_CTRL_SCRUB_W
  | OWL_STATUS_CASCADE
  | OWL_STATUS_COUNT
  | OWL_STATUS_SHIFTING
  | OWL_CSEL_CARRIAGE
  | OWL_C_LOOKUPS_COUNT
  | OWL_C_HITS_COUNT
  | OWL_C_CASCADE_HITS_COUNT
  | OWL_C_FALSE_HITS_COUNT
  | OWL_C_NOINDEX_COUNT
  | OWL_C_CLASSIFIED_COUNT
  | OWL_C_FIRES_COUNT
  | OWL_C_MISSED_COUNT
  | OWL_C_WATCHERS_COUNT
  | OWL_SCRUB_FIX_COUNT
  | OWL_SCRUB_LOST_COUNT
  | OWL_BANK_MODE
  | OWL_BANK_USE
  | OWL_BANK_CASCADE
  | OWL_BANK_CARRIAGE
  | OWL_BANK_OWNED
  | OWL_BANK_USED
  | OWL_CASCADE_ERR_CRC
  | OWL_CASCADE_ERR_BROKEN
  | OWL_X_SCRUB_FORCE
  | OWL_X_CASCADE_SAMPLE
  | OWL_X_CASCADE_FORCE_LOCAL
  | OWL_X_SHIFT_HOLD
  | MEM_CTRL_SCRUB_EN
  | MEM_SCRUB_HOURS
  | MEM_STATUS_STACKS
  | MEM_STATUS_CXL_ACTIVE
  | MEM_RETIRED_FRAMES
  | MEM_CSEL_CARRIAGE
  | MEM_C_CORR_COUNT
  | MEM_C_UNCORR_COUNT
  | MEM_C_CXL_CORR_COUNT
  | MEM_C_CXL_UNCORR_COUNT
  | MEM_C_SRAM_CORR
  | MEM_C_SRAM_UNCORR
  | MEM_C_LAST_UE_LO_ADDR_LO
  | MEM_C_LAST_UE_HI_GROUP
  | MEM_C_LAST_UE_HI_CXL
  | MEM_C_LAST_UE_HI_VALID
  | MEM_C_LAST_UE_HI_ADDR_HI
  | MEM_CXLn_STATUS_STATE
  | MEM_CXLn_STATUS_WIDTH
  | MEM_CXLn_STATUS_GTS
  | MEM_CXLn_STATUS_UP_COUNT
  | MEM_CXLn_CAP_UNITS
  | MEM_CXLn_RANGES_DISABLED
  | MEM_CXLn_RANGES_SEL_W
  | MEM_X_CE_THR_COUNT
  | MEM_X_STACK_SEL_STACK
  | MEM_X_STACK_ERR_CORR
  | MEM_X_STACK_ERR_UNCORR
  | MEM_X_SCRUB_FORCE
  | MEM_X_INJECT_GROUP
  | MEM_X_INJECT_SYMBOLS
  | MEM_X_INJECT_ARM
  | MEM_X_INJECT_ARMED
  | MEM_X_REFRESH_DOUBLE
  | SEC_LC_STATE
  | SEC_LC_COUNT
  | SEC_BOOT_STATE
  | SEC_BOOT_CAUSE
  | SEC_FW_VERSION
  | SEC_FW_ROLLBACK
  | SEC_UID_LO_UID_LO
  | SEC_UID_HI_UID_HI
  | SEC_LOAD_ADDR_LO_ADDR_LO
  | SEC_LOAD_ADDR_HI_ADDR_HI
  | SEC_LOAD_LEN_LEN
  | SEC_LOAD_CTRL_KIND
  | SEC_LOAD_CTRL_LOAD
  | SEC_LOAD_CTRL_COMMIT
  | SEC_LOAD_STATUS_BUSY
  | SEC_LOAD_STATUS_STATUS
  | SEC_LOAD_STATUS_CHECK
  | SEC_LOAD_STATUS_DONE
  | SEC_ATTEST_ATTEST
  | SEC_ATTEST_BUSY
  | SEC_ATTEST_DONE
  | SEC_NONCE_NONCE
  | SEC_SESSION_CTRL_INDEX
  | SEC_SESSION_CTRL_CARRIAGE
  | SEC_SESSION_CTRL_LOAD
  | SEC_SESSION_CTRL_UNLOAD
  | SEC_SESSION_RESULT_STATUS
  | SEC_SESSION_RESULT_DONE
  | SEC_SESSIONS_LOADED
  | SEC_KEY_CTRL_SLOT
  | SEC_KEY_CTRL_RETIRE
  | SEC_KEY_RESULT_STATUS
  | SEC_KEY_RESULT_DONE
  | SEC_SLOT_SEL_SLOT
  | SEC_SLOT_STAT_STATE
  | SEC_SLOT_STAT_OWNER
  | SEC_SLOT_STAT_OWNED
  | SEC_SLOT_PAGES_COUNT
  | SEC_RETIRED_SLOTS
  | SEC_CURRENT_SLOT
  | SEC_CURRENT_VALID
  | SEC_CURRENT_SWEEP
  | SEC_REPORT
  | SEC_ID
  | SEC_KEMPUB
  | SEC_KEMCT
  | SEC_X_SWEEP_GBPS
  | SEC_X_SWEEP_HOLD
  | SEC_X_FORCE_SLOT
  | SEC_X_FORCE_FORCE_RETIRE
  | RAS_CTRL_NOTICE_EN
  | RAS_CTRL_PEER_NOTICE
  | RAS_PEER_WAIT_MS
  | RAS_HOLD_US_US
  | RAS_HELD_COUNT
  | RAS_STEPS_IN_USE
  | RAS_NOTICE_TX_COUNT
  | RAS_NOTICE_RX_COUNT
  | RAS_NOTICE_LATE_COUNT
  | RAS_LAST_TX_CAUSE
  | RAS_LAST_RX_NODE
  | RAS_LAST_RX_CAUSE
  | RAS_SEND_CARRIAGES
  | RAS_SEND_SEND
  | RAS_SEND_DETAIL_LO_DETAIL_LO
  | RAS_SEND_DETAIL_HI_DETAIL_HI
  | RAS_NOTIFY_ADDR_LO_ADDR_LO
  | RAS_NOTIFY_ADDR_HI_ADDR_HI
  | RAS_NOTIFY_DATA_DATA
  | RAS_NOTIFY_EN_EN
  | RAS_CSEL_CARRIAGE
  | RAS_C_ABORTED_COUNT
  | RAS_C_STEPS_IN_USE
  | RAS_C_REPLAYED_COUNT
  | RAS_X_CLEAR_STEPS
  | RAS_X_CLEAR_HOLDS
  | BIST_SUP_PHASE
  | BIST_SUP_WARM
  | BIST_SUP_DEGRADED
  | BIST_SUP_JOINED
  | BIST_SUP_CLEAN_LAST
  | BIST_SUP_MS_READY_MS
  | BIST_ANCHOR_LO_FT_LO
  | BIST_ANCHOR_HI_FT_HI
  | BIST_LEVEL_LEVELS
  | BIST_DISC_WAIT_MS
  | BIST_STACK_FAIL_STACKS
  | BIST_DUP_LINKS
  | BIST_EARLY_COUNT
  | BIST_SHUT_FT_LO_FT_LO
  | BIST_SHUT_FT_HI_FT_HI
  | BIST_SHUT_CTRL_START
  | BIST_SHUT_CTRL_TEST
  | BIST_SHUT_STATUS_STATE
  | BIST_SHUT_STATUS_PERSIST_OK
  | BIST_CTRL_START
  | BIST_STATUS_STATE
  | BIST_STATUS_NEED_RESET
  | BIST_STATUS_STATUS
  | BIST_RESULT_ITEMS
  | BIST_RESULT_FT_LO_FT_LO
  | BIST_RESULT_FT_HI_FT_HI
  | BIST_LAST_RESULT_ITEMS
  | BIST_LAST_RESULT_VALID
  | BIST_X_TRIMS_DISCARD_HBM
  | BIST_X_TRIMS_DISCARD_FOX
  | BIST_X_TRIMS_DISCARD_SERDES
  | BIST_X_SKIP_ITEMS
  | MON_CTRL_AUTO_THROTTLE
  | MON_STATUS_STEP
  | MON_STATUS_FLOOR
  | MON_STATUS_ALERT
  | MON_STATUS_HOTTEST
  | MON_THRESH_WARN
  | MON_THRESH_DOWN
  | MON_TEMP_MAX_MAX
  | MON_STEPCNT_FRAMES
  | MON_TEMP_VALUE
  | MON_TEMP_EXCLUDED
  | MON_VOLT_MV
  | MON_VOLT_EXCLUDED
  | MON_PROC_MHZ
  | MON_PROC_EXCLUDED
  | MON_X_STEP_STEP
  | MON_X_STEP_FORCE
  | MON_X_TTRIM_OFFSET
  | EVR_STATUS_COUNT
  | EVR_STATUS_PERSIST_BUSY
  | EVR_STATUS_PURGE_BUSY
  | EVR_HEAD_SEQ
  | EVR_LOST_COUNT
  | EVR_LIMIT_PER_FRAME
  | EVR_SUPPRESSED_COUNT
  | EVR_CLEAR_SEQ_SEQ
  | EVR_CLEAR_CLEAR
  | EVR_CLEAR_RESULT_STATUS
  | EVR_CLEAR_RESULT_DONE
  | EVR_PERSIST_FT_LO_FT_LO
  | EVR_PERSIST_FT_HI_FT_HI
  | EVR_RING
  | EVR_X_CODE_LIMIT_CODE
  | EVR_X_CODE_LIMIT_LIMIT
  | EVR_X_CODE_LIMIT_VALID
  | GLB_CORE_VID_CODE
deriving DecidableEq, Repr

/-- The value of a field after RESET_N is released (the Reset columns of the register tables). -/
def RN.reset : RN → Nat
  | .GLB_PART_ID_PART => 1046
  | .GLB_PART_ID_STEPPING => 32
  | .GLB_PART_ID_VARIANT => 1
  | .CMP_STATUS_STATE => 4
  | .TT_CTRL_XFER_EN => 1
  | .TT_EVT_FREE_FREE => 256
  | .TT_EVT_FREE_POOL_FREE => 32
  | .QUE_ARB_WEIGHT_WEIGHT => 1
  | .QUE_FETCH_MAX_ENTRIES => 64
  | .BDG_CTRL_PREFETCH => 1
  | .BDG_C_MOVE_MAX_MAX => 1024
  | .BDG_ARB_WEIGHT_APPEND => 8
  | .BDG_ARB_WEIGHT_PREFETCH => 4
  | .BDG_ARB_WEIGHT_MOVE => 2
  | .BDG_ARB_WEIGHT_ZERO => 1
  | .FOX_CTRL_AUTO_CAL => 1
  | .FOX_RECAL_MS_PERIOD => 1000
  | .FOX_C_CTRL_REFILL => 1
  | .FOX_C_CTRL_FS_EXP => 10
  | .FOX_C_CTRL_GUARD => 8
  | .FOX_C_CTRL_SIGMA_FLOOR => 100
  | .BEAR_CTRL_AUTO_SPARE => 1
  | .BEAR_STATUS_SPARES_E => 2
  | .BEAR_STATUS_SPARES_W => 2
  | .BEAR_SHADOW_CFG_COUNT => 1024
  | .BEAR_SPARE_TRIG_CORR => 64
  | .BEAR_SEAL_SLOTS => 2
  | .PRT_DEP_C_SLACK_MIN_NS => 65535
  | .BDG_PARK_C_CTRL_DEMOTE => 1
  | .BDG_PARK_C_CTRL_PROMOTE => 1
  | .BDG_PARK_C_CTRL_LOW => 20
  | .BDG_PARK_C_CTRL_HIGH => 50
  | .BDG_PARK_C_HINT_US => 10000
  | .BDG_LOG_C_MAX_FRAMES => 1024
  | .PRT_CTRL_AUTO_LANE_SPARE => 1
  | .PRT_CTRL_AUTO_WAVE_SPARE => 1
  | .PRT_CTRL_OE_POLL => 1
  | .PRT_RTO_BASE_US => 20
  | .PRT_RTO_RETRIES => 5
  | .PRT_RX_TIMEOUT_US => 2000
  | .PRT_PAGING_BUF_KIB_FREE => 8192
  | .PRT_Ln_SPARE_LANE_REPLACED => 15
  | .PRT_Ln_SPARE_WAVE_REPLACED => 15
  | .PRT_X_SER_THR_SYMBOLS => 1048576
  | .TRF_X_WRR_RESP => 4
  | .TRF_X_WRR_BULK => 1
  | .MEM_CTRL_SCRUB_EN => 1
  | .MEM_SCRUB_HOURS => 8
  | .MEM_X_CE_THR_COUNT => 65536
  | .SEC_X_SWEEP_GBPS => 200
  | .RAS_CTRL_NOTICE_EN => 1
  | .RAS_CTRL_PEER_NOTICE => 1
  | .RAS_PEER_WAIT_MS => 20
  | .RAS_HOLD_US_US => 2000
  | .BIST_DISC_WAIT_MS => 2000
  | .BIST_SHUT_CTRL_TEST => 1
  | .MON_CTRL_AUTO_THROTTLE => 1
  | .MON_THRESH_WARN => 95
  | .MON_THRESH_DOWN => 97
  | .EVR_LIMIT_PER_FRAME => 8
  | .GLB_CORE_VID_CODE => 10
  | _ => 0

/-- The width of a field in bits. -/
def RN.width : RN → Nat
  | .GLB_PART_ID_PART => 16
  | .GLB_PART_ID_STEPPING => 8
  | .GLB_PART_ID_VARIANT => 8
  | .GLB_NODE_ADDR_RACK => 5
  | .GLB_NODE_ADDR_SLED => 4
  | .GLB_NODE_ADDR_NODE => 3
  | .CMP_CTRL_STAGE => 1
  | .CMP_CTRL_ARM => 1
  | .CMP_CTRL_CANCEL => 1
  | .CMP_CTRL_COMMIT => 1
  | .CMP_STATUS_STATE => 4
  | .CMP_STATUS_COMMIT_BUSY => 1
  | .CMP_STATUS_CHECK => 8
  | .CMP_STATUS_TAG => 16
  | .CMP_SRC_LEN_LEN => 23
  | .CMP_EPOCH_CURRENT => 16
  | .CMP_EPOCH_ARMED => 16
  | .CMP_DRAIN_DRAIN_US => 9
  | .CMP_CLAIM_STATUS_RES1 => 2
  | .CMP_CLAIM_STATUS_RES2 => 2
  | .CMP_CLAIM_STATUS_RES3 => 2
  | .CMP_CLAIM_STATUS_RES4 => 2
  | .CMP_OWNER_OWNERS => 8
  | .CMP_EXPERT_UNLOCK_BLOCKS => 16
  | .CMP_CARRIAGE_VALID_VALID => 16
  | .TT_CTRL_FINE_SYNC => 1
  | .TT_CTRL_FINE_DELAY => 1
  | .TT_CTRL_XFER_EN => 1
  | .TT_STATUS_STATE => 3
  | .TT_STATUS_FAULT_SEEN => 1
  | .TT_STATUS_REF_OK => 1
  | .TT_STATUS_STEERING => 1
  | .TT_STATUS_TB_ID => 8
  | .TT_STATUS_TB_STATUS => 2
  | .TT_CAP_FRAC_FRAC => 8
  | .TT_SYNC_ERR_ERR => 16
  | .TT_HOLD_HOLD_US => 14
  | .TT_GRID_K => 5
  | .TT_CODE_ERR_CRC => 16
  | .TT_CODE_ERR_DISAGREE => 16
  | .TT_EVT_SPEC_KIND => 4
  | .TT_EVT_SPEC_CARRIAGE => 4
  | .TT_EVT_SPEC_PERIOD_EXP => 5
  | .TT_EVT_CTRL_ADD => 1
  | .TT_EVT_CTRL_CANCEL => 1
  | .TT_EVT_CTRL_INDEX => 8
  | .TT_EVT_RESULT_STATUS => 8
  | .TT_EVT_RESULT_INDEX => 8
  | .TT_EVT_RESULT_DONE => 1
  | .TT_EVT_FREE_FREE => 9
  | .TT_EVT_FREE_POOL_FREE => 6
  | .TT_LINK_DELAY_DELAY => 20
  | .TT_LINK_DELAY_VALID => 1
  | .TT_LINK_OFFSET_OFFSET => 24
  | .TT_LINK_OFFSET_VALID => 1
  | .TT_STEER_PPB => 16
  | .TT_STEER_MODE => 2
  | .TT_STEER_LINK => 3
  | .TT_STEER_ACC_ACC => 16
  | .TT_LINK_ASYM_ASYM => 16
  | .GLB_SEM_OWNER => 2
  | .GLB_SEM_GRANTED => 1
  | .GLB_SEM_LEASE_MS => 7
  | .GLB_SEM_REL_INDEX => 6
  | .QUE_PORT_STATUS_STATE => 3
  | .QUE_PORT_STATUS_LANES => 4
  | .QUE_PORT_STATUS_UP_COUNT => 8
  | .QUE_PORT_ERR_CRC => 16
  | .QUE_PORT_ERR_REPLAY => 16
  | .QUE_CQE_DROP => 16
  | .QUE_SEL_QUEUE => 16
  | .QUE_CTX_CFG_SQ_EXP => 4
  | .QUE_CTX_CFG_CQ_EXP => 4
  | .QUE_CTX_CFG_ENGINE => 3
  | .QUE_CTX_CFG_CONF => 1
  | .QUE_CTX_CFG_IRQ_EN => 1
  | .QUE_CTX_CFG_SESSION => 10
  | .QUE_CTX_IRQ_MOD_COUNT => 8
  | .QUE_CTX_IRQ_MOD_TIME_US => 12
  | .QUE_CTX_CTRL_ENABLE => 1
  | .QUE_CTX_CTRL_DISABLE => 1
  | .QUE_CTX_CTRL_RESET => 1
  | .QUE_CTX_STATUS_STATE => 3
  | .QUE_CTX_STATUS_LEAVING => 1
  | .QUE_CTX_STATUS_CARRIAGE => 4
  | .QUE_CTX_STATUS_STOP_CAUSE => 8
  | .QUE_CTX_STATUS_INFLIGHT => 16
  | .QUE_CTX_PTR_SQ_HEAD => 16
  | .QUE_CTX_PTR_CQ_TAIL => 16
  | .QUE_CTX_RESULT_STATUS => 8
  | .QUE_CTX_RESULT_DONE => 1
  | .QUE_DOORBELL_SQ_TAIL => 16
  | .QUE_DOORBELL_CQ_HEAD => 16
  | .QUE_ARB_WEIGHT_WEIGHT => 4
  | .QUE_FETCH_MAX_ENTRIES => 7
  | .QUE_ONZ_EQ_CTLE => 8
  | .QUE_ONZ_EQ_DFE1 => 8
  | .QUE_ONZ_EQ_TX_PRE => 8
  | .QUE_ONZ_EQ_TX_POST => 8
  | .BDG_SEQ_FORMAT_SIZE_CODE => 3
  | .BDG_SEQ_FORMAT_DIR_SHARE => 2
  | .BDG_SEQ_ACTIVE_COUNT => 21
  | .BDG_SEQ_CSEL_CARRIAGE => 4
  | .BDG_SEQ_C_SEQ_COUNT => 21
  | .BDG_SEQ_C_HBM_FREE_E_FRAMES => 24
  | .BDG_SEQ_C_HBM_FREE_W_FRAMES => 24
  | .BDG_SEQ_C_FROZEN_COUNT => 21
  | .BDG_SEQ_C_TABLE_FRAMES => 24
  | .BDG_SEQ_STAGE_HELD => 8
  | .BDG_SEQ_STAGE_KIB => 14
  | .BDG_SEQ_LOOKUP_STATE => 4
  | .BDG_SEQ_LOOKUP_CARRIAGE => 4
  | .BDG_SEQ_LOOKUP_FOUND => 1
  | .BDG_CTRL_EXPAND_E => 1
  | .BDG_CTRL_EXPAND_W => 1
  | .BDG_CTRL_PREFETCH => 1
  | .BDG_STATUS_BRIDGE_E => 1
  | .BDG_STATUS_BRIDGE_W => 1
  | .BDG_INFLIGHT_EAST => 14
  | .BDG_INFLIGHT_WEST => 14
  | .BDG_C_INFLIGHT_MOVES => 15
  | .BDG_C_MOVE_MAX_MAX => 15
  | .BDG_C_WEIGHT_MIB => 16
  | .BDG_TABLE_META_TABLE_ID => 12
  | .BDG_TABLE_META_VALID => 1
  | .BDG_TABLE_META_CURRENT => 1
  | .BDG_TABLE_META_OWNER => 4
  | .BDG_ARB_WEIGHT_APPEND => 4
  | .BDG_ARB_WEIGHT_PREFETCH => 4
  | .BDG_ARB_WEIGHT_MOVE => 4
  | .BDG_ARB_WEIGHT_ZERO => 4
  | .BDG_EXP_BRIDGE_NO_BRIDGE => 1
  | .BDG_WALK_CACHE_FLUSH => 1
  | .FOX_CTRL_AUTO_CAL => 1
  | .FOX_STATUS_STATE => 2
  | .FOX_STATUS_TRIMS_USED => 1
  | .FOX_STATUS_OUT => 12
  | .FOX_RECAL_MS_PERIOD => 16
  | .FOX_CSEL_CARRIAGE => 4
  | .FOX_C_CTRL_EXACT => 1
  | .FOX_C_CTRL_FALLBACK => 1
  | .FOX_C_CTRL_REFILL => 1
  | .FOX_C_CTRL_FS_EXP => 4
  | .FOX_C_CTRL_GUARD => 4
  | .FOX_C_CTRL_SIGMA_FLOOR => 8
  | .FOX_C_ROWS_E_FREE => 20
  | .FOX_C_ROWS_W_FREE => 20
  | .FOX_MSEL_MACRO => 11
  | .FOX_M_STAT_STATE => 2
  | .FOX_M_STAT_SIGMA => 8
  | .FOX_M_STAT_TSENS => 5
  | .FOX_M_STAT_VMON => 4
  | .FOX_M_STAT_FAILS => 2
  | .FOX_M_ADC_OFFSET => 8
  | .FOX_M_ADC_GAIN => 12
  | .FOX_M_TCOMP_ALPHA_T => 16
  | .FOX_M_TCOMP_ALPHA_V => 16
  | .FOX_M_CAL_POINT_TJ => 8
  | .FOX_M_CAL_POINT_MV => 10
  | .FOX_M_RESID_OFFSET => 16
  | .FOX_M_RESID_GAIN => 16
  | .FOX_M_HOLD_FREEZE => 1
  | .FOX_M_HOLD_FORCE_OUT => 1
  | .FOX_M_COL_GAIN_COL0 => 6
  | .FOX_M_COL_GAIN_COL1 => 6
  | .FOX_M_COL_GAIN_COL2 => 6
  | .FOX_M_COL_GAIN_COL3 => 6
  | .FOX_M_COL_OFF_COL0 => 6
  | .FOX_M_COL_OFF_COL1 => 6
  | .FOX_M_COL_OFF_COL2 => 6
  | .FOX_M_COL_OFF_COL3 => 6
  | .BEAR_CTRL_AUTO_SPARE => 1
  | .BEAR_STATUS_SPARES_E => 2
  | .BEAR_STATUS_SPARES_W => 2
  | .BEAR_STATUS_SHADOWING => 4
  | .BEAR_SHADOW_CFG_COUNT => 16
  | .BEAR_SPARE_TRIG_CORR => 16
  | .BEAR_CSEL_CARRIAGE => 4
  | .BEAR_TSEL_PHYS => 7
  | .BEAR_T_STAT_STATE => 3
  | .BEAR_T_STAT_LOGICAL => 6
  | .BEAR_T_STAT_CARRIAGE => 4
  | .BEAR_T_STAT_COMPARED => 16
  | .BEAR_T_ECC_CORR => 16
  | .BEAR_T_ECC_UNCORR => 16
  | .BEAR_T_MISMATCH_COUNT => 16
  | .BEAR_MAP_PHYS => 7
  | .BEAR_SPARE_CTRL_TILE => 6
  | .BEAR_SPARE_CTRL_SPARE => 1
  | .BEAR_SPARE_CTRL_START => 1
  | .BEAR_SPARE_CTRL_STOP => 1
  | .BEAR_SPARE_RESULT_OUTCOME => 8
  | .BEAR_SPARE_RESULT_STATUS => 8
  | .BEAR_SPARE_RESULT_DONE => 1
  | .BEAR_SEAL_SLOTS => 4
  | .BEAR_REPAIR_CLEAR_AT_START => 1
  | .PRT_DEP_CSEL_CARRIAGE => 4
  | .PRT_DEP_C_SLACK_MIN_NS => 16
  | .PRT_DEP_C_CTX_IN_USE => 12
  | .PRT_DEP_C_CTX_QUOTA => 12
  | .PRT_DEP_C_BUF_IN_USE => 15
  | .PRT_DEP_C_BUF_QUOTA => 15
  | .PRT_DEP_C_COACHMEM_FREE_4K => 13
  | .PRT_DEP_CTX_PEAK_CONTEXTS => 12
  | .PRT_DEP_CTX_PEAK_BLOCKS => 15
  | .PRT_DEP_X_LEAD_ADJ_NS => 16
  | .BDG_PARK_C_CTRL_DEMOTE => 1
  | .BDG_PARK_C_CTRL_PROMOTE => 1
  | .BDG_PARK_C_CTRL_LOW => 10
  | .BDG_PARK_C_CTRL_HIGH => 10
  | .BDG_PARK_C_HINT_US => 16
  | .BDG_PARK_C_ACTIVE_PARKING => 16
  | .BDG_PARK_C_ACTIVE_RESUMING => 16
  | .BDG_LOG_C_MAX_FRAMES => 24
  | .BDG_LOG_C_USED_FRAMES => 24
  | .PRT_CTRL_AUTO_LANE_SPARE => 1
  | .PRT_CTRL_AUTO_WAVE_SPARE => 1
  | .PRT_CTRL_OE_POLL => 1
  | .PRT_STATUS_UP => 8
  | .PRT_STATUS_REPAIR => 8
  | .PRT_STATUS_FAILED => 8
  | .PRT_RTO_BASE_US => 16
  | .PRT_RTO_RETRIES => 4
  | .PRT_RX_TIMEOUT_US => 16
  | .PRT_OPS_IN_USE => 17
  | .PRT_OPS_PEAK_PEAK => 17
  | .PRT_CSEL_CARRIAGE => 4
  | .PRT_C_OPS_IN_USE => 16
  | .PRT_C_OPS_QUOTA => 16
  | .PRT_PAGING_BUF_KIB_FREE => 14
  | .PRT_Ln_STATUS_STATE => 3
  | .PRT_Ln_STATUS_IN_RACK => 1
  | .PRT_Ln_STATUS_OPTICAL => 1
  | .PRT_Ln_STATUS_TRAIN_FAILS => 8
  | .PRT_Ln_STATUS_UP_COUNT => 8
  | .PRT_Ln_PEER_NODE => 12
  | .PRT_Ln_PEER_LINK => 3
  | .PRT_Ln_PEER_VALID => 1
  | .PRT_Ln_CTRL_RETRAIN => 1
  | .PRT_Ln_CTRL_DISABLE => 1
  | .PRT_Ln_SPARE_LANE_REPLACED => 4
  | .PRT_Ln_SPARE_WAVE_REPLACED => 4
  | .PRT_Ln_SPARE_SPARE_LANE => 4
  | .PRT_Ln_SPARE_WAVE_SPARE => 4
  | .PRT_Ln_OE_TX_FAULT => 10
  | .PRT_Ln_OE_RX_LOS => 10
  | .PRT_Ln_OE_POLL_OK => 1
  | .PRT_Ln_WORST_LANE_LANE => 4
  | .PRT_Ln_WORST_LANE_SYMBOLS => 24
  | .PRT_X_SER_THR_SYMBOLS => 24
  | .PRT_X_SPRAY_MODE => 2
  | .PRT_X_Ln_SPARE_FORCE_LANE => 1
  | .PRT_X_Ln_SPARE_LANE => 4
  | .PRT_X_Ln_SPARE_FORCE_WAVE => 1
  | .PRT_X_Ln_SPARE_WAVE => 4
  | .PRT_X_Ln_SPARE_HOLD_TRAINING => 1
  | .PRT_X_EQ_CTLE => 8
  | .PRT_X_EQ_DFE1 => 8
  | .PRT_X_EQ_TX_PRE => 8
  | .PRT_X_EQ_TX_POST => 8
  | .TRF_STATUS_REFILL_EXP => 5
  | .TRF_STATUS_PENDING => 1
  | .TRF_SEL_INDEX => 9
  | .TRF_SEL_POLICER => 1
  | .TRF_SET_MODE_ENABLE => 1
  | .TRF_SET_MODE_TWO_RATE => 1
  | .TRF_SET_MODE_AWARE => 1
  | .TRF_SET_MODE_YELLOW_DROP => 1
  | .TRF_SET_MODE_RED_PASS => 1
  | .TRF_SET_RATE_RATE => 18
  | .TRF_SET_BURST_BURST => 24
  | .TRF_SET_RATE2_PIR => 18
  | .TRF_SET_BURST2_BURST2 => 24
  | .TRF_CHANGE_APPLY => 1
  | .TRF_CHANGE_FILL => 1
  | .TRF_RESULT_STATUS => 8
  | .TRF_RESULT_DONE => 1
  | .TRF_CSEL_CARRIAGE => 4
  | .TRF_SLOT_OWNER => 5
  | .TRF_Ln_ISO_ISO_CREDIT => 8
  | .TRF_X_WRR_RESP => 4
  | .TRF_X_WRR_BULK => 4
  | .OWL_CTRL_CASCADE_EN => 1
  | .OWL_CTRL_SCRUB_E => 1
  | .OWL_CTRL_SCRUB_W => 1
  | .OWL_STATUS_CASCADE => 2
  | .OWL_STATUS_COUNT => 4
  | .OWL_STATUS_SHIFTING => 16
  | .OWL_CSEL_CARRIAGE => 4
  | .OWL_C_WATCHERS_COUNT => 15
  | .OWL_BANK_MODE => 2
  | .OWL_BANK_USE => 1
  | .OWL_BANK_CASCADE => 1
  | .OWL_BANK_CARRIAGE => 4
  | .OWL_BANK_OWNED => 1
  | .OWL_BANK_USED => 15
  | .OWL_CASCADE_ERR_CRC => 16
  | .OWL_CASCADE_ERR_BROKEN => 16
  | .OWL_X_SCRUB_FORCE => 1
  | .OWL_X_CASCADE_SAMPLE => 4
  | .OWL_X_CASCADE_FORCE_LOCAL => 1
  | .OWL_X_SHIFT_HOLD => 1
  | .MEM_CTRL_SCRUB_EN => 1
  | .MEM_SCRUB_HOURS => 8
  | .MEM_STATUS_STACKS => 16
  | .MEM_STATUS_CXL_ACTIVE => 4
  | .MEM_RETIRED_FRAMES => 13
  | .MEM_CSEL_CARRIAGE => 4
  | .MEM_C_SRAM_CORR => 16
  | .MEM_C_SRAM_UNCORR => 16
  | .MEM_C_LAST_UE_HI_GROUP => 6
  | .MEM_C_LAST_UE_HI_CXL => 1
  | .MEM_C_LAST_UE_HI_VALID => 1
  | .MEM_C_LAST_UE_HI_ADDR_HI => 24
  | .MEM_CXLn_STATUS_STATE => 3
  | .MEM_CXLn_STATUS_WIDTH => 5
  | .MEM_CXLn_STATUS_GTS => 7
  | .MEM_CXLn_STATUS_UP_COUNT => 8
  | .MEM_CXLn_CAP_UNITS => 16
  | .MEM_CXLn_RANGES_SEL_W => 1
  | .MEM_X_CE_THR_COUNT => 24
  | .MEM_X_STACK_SEL_STACK => 4
  | .MEM_X_STACK_ERR_CORR => 16
  | .MEM_X_STACK_ERR_UNCORR => 16
  | .MEM_X_SCRUB_FORCE => 1
  | .MEM_X_INJECT_GROUP => 6
  | .MEM_X_INJECT_SYMBOLS => 2
  | .MEM_X_INJECT_ARM => 1
  | .MEM_X_INJECT_ARMED => 1
  | .MEM_X_REFRESH_DOUBLE => 1
  | .SEC_LC_STATE => 3
  | .SEC_LC_COUNT => 7
  | .SEC_BOOT_STATE => 2
  | .SEC_BOOT_CAUSE => 4
  | .SEC_FW_VERSION => 16
  | .SEC_FW_ROLLBACK => 7
  | .SEC_LOAD_LEN_LEN => 22
  | .SEC_LOAD_CTRL_KIND => 2
  | .SEC_LOAD_CTRL_LOAD => 1
  | .SEC_LOAD_CTRL_COMMIT => 1
  | .SEC_LOAD_STATUS_BUSY => 1
  | .SEC_LOAD_STATUS_STATUS => 8
  | .SEC_LOAD_STATUS_CHECK => 4
  | .SEC_LOAD_STATUS_DONE => 1
  | .SEC_ATTEST_ATTEST => 1
  | .SEC_ATTEST_BUSY => 1
  | .SEC_ATTEST_DONE => 1
  | .SEC_SESSION_CTRL_INDEX => 10
  | .SEC_SESSION_CTRL_CARRIAGE => 4
  | .SEC_SESSION_CTRL_LOAD => 1
  | .SEC_SESSION_CTRL_UNLOAD => 1
  | .SEC_SESSION_RESULT_STATUS => 8
  | .SEC_SESSION_RESULT_DONE => 1
  | .SEC_SESSIONS_LOADED => 11
  | .SEC_KEY_CTRL_SLOT => 5
  | .SEC_KEY_CTRL_RETIRE => 1
  | .SEC_KEY_RESULT_STATUS => 8
  | .SEC_KEY_RESULT_DONE => 1
  | .SEC_SLOT_SEL_SLOT => 5
  | .SEC_SLOT_STAT_STATE => 2
  | .SEC_SLOT_STAT_OWNER => 4
  | .SEC_SLOT_STAT_OWNED => 1
  | .SEC_CURRENT_SLOT => 5
  | .SEC_CURRENT_VALID => 1
  | .SEC_CURRENT_SWEEP => 1
  | .SEC_X_SWEEP_GBPS => 10
  | .SEC_X_SWEEP_HOLD => 1
  | .SEC_X_FORCE_SLOT => 5
  | .SEC_X_FORCE_FORCE_RETIRE => 1
  | .RAS_CTRL_NOTICE_EN => 1
  | .RAS_CTRL_PEER_NOTICE => 1
  | .RAS_PEER_WAIT_MS => 16
  | .RAS_HOLD_US_US => 16
  | .RAS_HELD_COUNT => 13
  | .RAS_STEPS_IN_USE => 11
  | .RAS_LAST_TX_CAUSE => 8
  | .RAS_LAST_RX_NODE => 12
  | .RAS_LAST_RX_CAUSE => 8
  | .RAS_SEND_CARRIAGES => 16
  | .RAS_SEND_SEND => 1
  | .RAS_NOTIFY_EN_EN => 1
  | .RAS_CSEL_CARRIAGE => 4
  | .RAS_C_STEPS_IN_USE => 7
  | .RAS_X_CLEAR_STEPS => 1
  | .RAS_X_CLEAR_HOLDS => 1
  | .BIST_SUP_PHASE => 3
  | .BIST_SUP_WARM => 1
  | .BIST_SUP_DEGRADED => 1
  | .BIST_SUP_JOINED => 1
  | .BIST_SUP_CLEAN_LAST => 1
  | .BIST_SUP_MS_READY_MS => 16
  | .BIST_LEVEL_LEVELS => 8
  | .BIST_DISC_WAIT_MS => 16
  | .BIST_STACK_FAIL_STACKS => 16
  | .BIST_DUP_LINKS => 8
  | .BIST_SHUT_CTRL_START => 1
  | .BIST_SHUT_CTRL_TEST => 1
  | .BIST_SHUT_STATUS_STATE => 3
  | .BIST_SHUT_STATUS_PERSIST_OK => 1
  | .BIST_CTRL_START => 1
  | .BIST_STATUS_STATE => 2
  | .BIST_STATUS_NEED_RESET => 1
  | .BIST_STATUS_STATUS => 8
  | .BIST_RESULT_ITEMS => 16
  | .BIST_LAST_RESULT_ITEMS => 16
  | .BIST_LAST_RESULT_VALID => 1
  | .BIST_X_TRIMS_DISCARD_HBM => 1
  | .BIST_X_TRIMS_DISCARD_FOX => 1
  | .BIST_X_TRIMS_DISCARD_SERDES => 1
  | .BIST_X_SKIP_ITEMS => 8
  | .MON_CTRL_AUTO_THROTTLE => 1
  | .MON_STATUS_STEP => 2
  | .MON_STATUS_FLOOR => 2
  | .MON_STATUS_ALERT => 1
  | .MON_STATUS_HOTTEST => 6
  | .MON_THRESH_WARN => 8
  | .MON_THRESH_DOWN => 8
  | .MON_TEMP_MAX_MAX => 12
  | .MON_TEMP_VALUE => 12
  | .MON_TEMP_EXCLUDED => 1
  | .MON_VOLT_MV => 12
  | .MON_VOLT_EXCLUDED => 1
  | .MON_PROC_MHZ => 16
  | .MON_PROC_EXCLUDED => 1
  | .MON_X_STEP_STEP => 2
  | .MON_X_STEP_FORCE => 1
  | .MON_X_TTRIM_OFFSET => 8
  | .EVR_STATUS_COUNT => 14
  | .EVR_STATUS_PERSIST_BUSY => 1
  | .EVR_STATUS_PURGE_BUSY => 1
  | .EVR_LIMIT_PER_FRAME => 8
  | .EVR_CLEAR_CLEAR => 1
  | .EVR_CLEAR_RESULT_STATUS => 8
  | .EVR_CLEAR_RESULT_DONE => 1
  | .EVR_X_CODE_LIMIT_CODE => 16
  | .EVR_X_CODE_LIMIT_LIMIT => 8
  | .EVR_X_CODE_LIMIT_VALID => 1
  | .GLB_CORE_VID_CODE => 8
  | _ => 32

end Sys2Proof.Machine
end

