-- ==== Sys2Proof/Machine/State.lean ====
section
/-! DEFINITION. The state of the node (plain data), its reset, and the reasons a command can stop. One structure for
each block of the spec; the register fields of all blocks are the cells of `State.regs`. -/

namespace Sys2Proof.Machine

open Sys2Proof

/-- Why a command faults. -/
inductive Fault where
  /-- Raised by no command: each row of the table answers a next state for every operand. A register access whose offset
  lies outside the 16 MiB control space is ill formed (`Instr.wf`), and yet has the effect R113 gives it: none on any
  register. Safe: a fault that nothing raises stops nothing. -/
  | illFormed (what : String)
deriving DecidableEq, Repr

/-- Why a command is refused. -/
inductive Refusal where
  /-- Raised by an arm of `exec` that has no meaning yet. Safe: the model stops. -/
  | notModelled (mnemonic : String)
deriving DecidableEq, Repr

/-- A register value that takes effect at the frame boundary after its write: the value before, the value written, and
the frame of the write. -/
structure Latch where
  old : Nat
  new : Nat
  frame : Nat
deriving DecidableEq, Repr

/-! ### Monitors and event recorder (18_monitors_recorder.md) -/

/-- One record of the event ring (R568). -/
structure EvRec where
  /-- Sequence number. -/
  seq : Nat
  /-- Node FT when the event was raised. -/
  ft : Nat
  /-- Event code. -/
  code : Nat
  /-- Carriage, none mark and time state. -/
  ctx : Nat
  /-- 0xA5 when valid. -/
  mark : Nat
  /-- Records of the code dropped since its previous record. -/
  supp : Nat
  /-- The items the owning chapter names. -/
  data : List Byte
deriving DecidableEq, Repr

/-- The event recorder (R567 to R574). -/
structure EvrSt where
  /-- The ring, newest record first, at most 8,192 records. -/
  ring : List EvRec
  /-- SEQ of the next record. -/
  next : Nat
  /-- The frame the counts below belong to. -/
  frame : Nat
  /-- Records written per code in that frame (R570). -/
  counts : List (Nat × Nat)
  /-- Records dropped per code since the code's last record (R570). -/
  supp : List (Nat × Nat)
  /-- The frame in which an event that is recorded "first in a frame" was last recorded, by code and item. -/
  firsts : List ((Nat × Nat) × Nat)
  /-- A clear authorised while a flash write runs: port and SEQ (R574). -/
  clearWait : Option (Nat × Nat)
  /-- Persistence areas still to be erased after a clear (R574). -/
  purge : List Nat
deriving DecidableEq, Repr

/-- The monitor controller (R560 to R566). -/
structure MonSt where
  /-- Sensors at or above 105 °C at the last sample (R562). -/
  tripRun : List Nat
  /-- Count of nanoseconds at which a core-rail monitor left 0.66–0.80 V (R562). -/
  railOut : List (Nat × Nat)
  /-- Process monitor values at the last start (R562). -/
  procStart : List (Nat × Nat)
  /-- Process monitors whose drift is recorded in this start. -/
  drifted : List Nat
  /-- Thermal step t (R564). -/
  t : Nat
  /-- Frame boundaries since t last changed. -/
  sinceChange : Nat
  /-- Whether a sensor read ≥ 100 °C in the frame just running. -/
  hot : Bool
  /-- Whether a sensor read ≥ DOWN in the frame just running. -/
  warmNow : Bool
  /-- Frames in a row, up to the last boundary, in which every sensor read below DOWN. -/
  coolFrames : Nat
  /-- Boundary at which the step was last formed. -/
  evalAt : Nat
  /-- Whether a thermal trip holds THERM_ALERT_N low until power is removed. -/
  tripped : Bool
deriving DecidableEq, Repr

/-! ### Fabric time (03_fabric_time.md) -/

/-- One entry of the scheduled-event table (R100, Table TT-9). -/
structure Evt where
  /-- FT at which it fires. -/
  ft : Nat
  /-- KIND of Table TT-7. -/
  kind : Nat
  /-- Owning carriage. -/
  car : Nat
  /-- 0 for one time, else the exponent of its period. -/
  per : Nat
  /-- 0 free, 1 pending, 2 fired, 3 cancelled. -/
  st : Nat
  /-- ARG of Table TT-7. -/
  arg : Nat
deriving DecidableEq, Repr

/-- A valid code word that waits for its edge. -/
structure CodeWord where
  /-- FT of the edge it names. -/
  next : Nat
  /-- The node's count when the word began. -/
  began : Nat
  /-- The node's count when the word ended. -/
  ended : Nat
deriving DecidableEq, Repr

/-- The time transfer of one link (R90, R91, R399). Times are in 1/256 ns. -/
structure LinkTime where
  /-- Departures of the node's own frames, with the frame they belong to, newest first, the last two. -/
  sent : List (Nat × Nat)
  /-- Arrivals of the peer's frames, likewise. -/
  recv : List (Nat × Nat)
  /-- The last completed pair: t1, t2, t3, t4. -/
  pair : Option (Nat × Nat × Nat × Nat)
  /-- Frames since the last completed pair. -/
  since : Nat
  /-- The frame in which the link last came UP: the exchange starts at the boundary after it (R364). -/
  upFrame : Nat
  /-- The frame whose exchange the node last gave a TIME_XFER for, and that whose TIME_XFER of the peer last arrived. -/
  gave : Option Nat
  heard : Option Nat
deriving DecidableEq, Repr

/-- The time unit (R75 to R107). -/
structure TimeSt where
  /-- Whether FT_NEXT is loaded in ACQUIRING (R82). -/
  loaded : Bool
  /-- The valid word that waits for its edge. -/
  word : Option CodeWord
  /-- In-window edges after a valid word since the load. -/
  confirm : Nat
  /-- Bad or disagreeing words in a row (R84). -/
  badRun : Nat
  /-- The frame boundary whose edge was last judged. -/
  judged : Nat
  /-- FT at which the current holdover began. -/
  holdFrom : Nat
  /-- Nanoseconds the count is still held, so that it never decreases (R75, R88). -/
  held : Nat
  /-- Difference still to be removed by slewing, in 1/256 ns, positive when the count is ahead (R83). -/
  slew : Int
  /-- FT at which the last nanosecond was slewed. -/
  slewAt : Nat
  /-- Steering rate in force, in 0.01 ppb (R94, R95). -/
  ppb : Int
  /-- Accumulated steered phase, in 10⁻¹¹ ns (R96). -/
  acc : Int
  /-- Phase of `acc` not yet put into the count, in 10⁻¹¹ ns. -/
  steerRem : Int
  /-- Whether the steering limit holds (R96). -/
  limited : Bool
  /-- Frame boundary at which steering last took effect. -/
  steerAt : Nat
  /-- The scheduled-event table: entries that are not free since reset. -/
  evts : List (Nat × Evt)
  /-- The time transfer per link. -/
  links : List (Nat × LinkTime)
  /-- Frame boundary at which the links' delay and offset were last updated. -/
  linkAt : Nat
deriving DecidableEq, Repr

/-! ### Composition (02_composition.md) -/


/-- How far the handover of a moved resource is (R60). -/
inductive MovePhase where
  | waiting | clearing (since : Nat) | handed
deriving DecidableEq, Repr

/-- A composition image: its bytes and its sections by tag (R35, R36). -/
structure Image where
  raw : List Byte
  epoch : Nat
  sects : List (Nat × List Byte)
deriving DecidableEq, Repr

/-- The composition unit (R47 to R73). -/
structure CompSt where
  /-- The image in force. -/
  image : Option Image
  /-- The image of the previous epoch. -/
  prev : Option Image
  /-- The staging area: the bytes fetched so far (R51). -/
  staging : List Byte
  /-- The port whose STAGE runs, the bytes it asked for, the bytes that arrived. -/
  fetch : Option (Nat × Nat × Nat)
  /-- The staged image, once validated. -/
  staged : Option Image
  /-- The event entry that an armed switch holds. -/
  entry : Option Nat
  /-- Resources marked leaving (R55). -/
  leaving : List Res
  /-- Whether the shadow tables are loaded (R55). -/
  shadow : Bool
  /-- FT of the boundary in force. -/
  boundary : Nat
  /-- FT at which the drain window closed. -/
  drainEnd : Nat
  /-- Resources that move, with their progress (R59, R60). -/
  moved : List (Res × MovePhase)
  /-- Whether the next STALE_EPOCH is the first after a drain window (0x0209). -/
  firstStale : Bool
  /-- Per port with an unlock: FT-independent start and the grant's MAX_UNLOCK_S (R71). -/
  unlocks : List (Nat × (Nat × Nat))
  /-- The image a running COMMIT writes (R603). -/
  commit : Option (List Byte)
deriving DecidableEq, Repr

/-! ### Onzon ports, queues, semaphores (04_onzon_queues.md) -/

/-- State of an Onzon port's link (R109). -/
inductive OLink where
  | down | training | up | degraded
deriving DecidableEq, Repr

/-- What a MEM_RD of the node is for. -/
inductive MemUse where
  /-- SQ entries `n` of queue `q` from index `idx` on, asked for by its fetch `no` (R132). -/
  | sq (q idx n no : Nat)
  /-- Bytes of a staged image (R51). -/
  | image (off len : Nat)
  /-- Host data of started command `k`, for byte `off` of its buffer. -/
  | data (k off len : Nat)
  /-- A block of list entries of started LIST or STEP `k` (R142). -/
  | block (k off len : Nat)
  /-- Bytes of an object a security load fetches (R496). -/
  | load (off len : Nat)
deriving DecidableEq, Repr

/-- An Onzon frame the node sends (R111). -/
structure OFrame where
  ty : Nat
  flags : Nat
  tag : Nat
  addr : Nat
  /-- LEN: payload bytes, or the bytes a read asks for. -/
  len : Nat
  payload : List Byte
  /-- Whether it writes a completion entry or an interrupt, which R120 counts when it cannot be delivered. -/
  due : Bool := false
deriving DecidableEq, Repr

/-- One Onzon port (R109 to R121). -/
structure OnzSt where
  link : OLink
  /-- When training began, in the node's count since reset. -/
  trainAt : Nat
  /-- When the next training attempt may begin. -/
  retryAt : Option Nat
  /-- When the last frame arrived. -/
  lastRx : Nat
  /-- When the port went DOWN. -/
  downAt : Nat
  /-- SEQ of the next sequenced frame the node sends. -/
  txSeq : Nat
  /-- SEQ of the next sequenced frame the node expects. -/
  rxSeq : Nat
  /-- Sequenced frames sent and not acknowledged, oldest first, each with the time it was last sent. -/
  replay : List (Nat × OFrame × Nat)
  /-- Replays in a row of the oldest frame. -/
  replays : Nat
  /-- Credits the node holds, in 256-byte units, of class P and N. -/
  creditP : Nat
  creditN : Nat
  /-- Frames that wait for credits, in the order they were made. -/
  outq : List OFrame
  /-- Tags of outstanding MEM_RDs. -/
  tags : List (Nat × MemUse)
  /-- MEM_RDs that wait for a tag: use, host address and length. -/
  reads : List (MemUse × Nat × Nat)
  /-- Accepted CTRL_RDs whose answer has not left, at most 64: tag and the credits that the frame cost (R114, R115). -/
  ctrlTags : List (Nat × Nat)
  /-- Whether an undelivered entry was recorded since the port went DOWN (0x0305). -/
  dropSeen : Bool
  /-- Equaliser trims in force since the last training (R156). -/
  eq : List Nat
deriving DecidableEq, Repr

/-- A queue context beside its configuration registers (R129 to R137). -/
structure QCtx where
  /-- 0 DISABLED, 1 ENABLED, 2 DRAINING, 3 STOPPED. -/
  st : Nat
  /-- 0 none, 1 RING, 2 FETCH, 3 LINK, 4 AUTH. -/
  cause : Nat
  inflight : Nat
  sqTail : Nat
  sqHead : Nat
  cqTail : Nat
  cqHead : Nat
  /-- PHASE the next entry carries. -/
  phase : Bool
  /-- CQ slots reserved (R133). -/
  resv : Nat
  /-- Index up to which entries are asked for. -/
  asked : Nat
  /-- Entries fetched and not started, oldest first, each with its ring index. -/
  fetched : List (Nat × List Byte)
  /-- Entries written since the last interrupt. -/
  sinceIrq : Nat
  /-- When the oldest entry that no interrupt covers was written. -/
  oldest : Option Nat
  /-- COUNTER of the last accepted sealed SQ entry (R152). -/
  counter : Option Nat
  /-- Fetches so far: an answer to an earlier one than the last is no answer of the fetch that runs. -/
  fetchNo : Nat
deriving DecidableEq, Repr

/-- A started command. -/
structure Cmd where
  /-- Its queue. -/
  q : Nat
  /-- Its 64 bytes. -/
  bytes : List Byte
  /-- The LIST or STEP it is a member of, and its list index. -/
  parent : Option (Nat × Nat)
  /-- Order in which it started. -/
  order : Nat
  /-- Whether a held command waits for the armed epoch (R62). -/
  held : Bool
  /-- Whether the old map serves it (R62). -/
  old : Bool
  /-- How far the command's engine has come. -/
  phase : Nat
  /-- Host data that has arrived. -/
  buf : List Byte
  /-- Host bytes still to arrive. -/
  want : Nat
  /-- A status that a failed host read or record forces. -/
  bad : Option Nat
  /-- Numbers the engine keeps between its steps. -/
  note : List Nat
deriving DecidableEq, Repr

/-- A list that runs (R142 to R145). -/
structure ListRun where
  /-- Entries of the blocks read so far. -/
  entries : List (List Byte)
  /-- Index of the next entry to start. -/
  next : Nat
  /-- Whether more entries of the list may still be read: it has not been read to its end. -/
  more : Bool
  /-- Commands started. -/
  started : Nat
  /-- Commands started and not completed. -/
  open_ : Nat
  /-- List index and status of entries not OK. -/
  failed : List (Nat × Nat)
  /-- Whether no further entry starts. -/
  ended : Bool
deriving DecidableEq, Repr

/-- A held semaphore (R122 to R126). -/
structure Sem where
  /-- Holding port. -/
  owner : Nat
  /-- When its lease began to run. -/
  lease : Option Nat
deriving DecidableEq, Repr

/-- Queues and semaphores. -/
structure QueSt where
  ctx : List (Nat × QCtx)
  started : List (Nat × Cmd)
  lists : List (Nat × ListRun)
  /-- Serial of the next started command. -/
  serial : Nat
  sems : List (Nat × Sem)
  /-- Node-to-host record counters per session (R150). -/
  sealCtr : List (Nat × Nat)
  /-- Carriage and queue served last on each port, for the round robins (R134). -/
  lastQ : List (Nat × Nat)
  /-- The command that ended last, with its status. -/
  last : Option (Nat × Nat)
deriving DecidableEq, Repr

/-! ### Sequences and pages (05_sequences_pages.md) -/

/-- Where a page's bytes lie (R163, LOCATION and TIER). -/
inductive Loc where
  /-- A frame of a memory group. -/
  | hbm (group frame : Nat)
  /-- A frame of the carriage's CXL range. -/
  | cxl (car frame : Nat)
  /-- Held only in a cold park image. -/
  | cold
deriving DecidableEq, Repr

/-- What a frame is used for. -/
inductive FrameUse where
  | page (p : Nat) | table | weight (id : Nat) | park (image : Nat) | log | owl (bank : Nat) | moveDest (p : Nat)
  /-- A frame that a moved page has left and a coach still walks (R203). -/
  | vacated
  /-- The AGE map of a carriage (R335). -/
  | age (car : Nat)
deriving DecidableEq, Repr

/-- A directory entry that is VALID (R163). PAGE_GEN is kept beside, since it lives on while the index is free. -/
structure Page where
  summary : List Byte
  digest : List Byte
  hash : Nat
  radius : Nat
  scale : Nat
  refs : Nat
  loc : Loc
  fill : Nat
  tableId : Nat
  keySlot : Nat
  car : Nat
  latent : Bool
  elem : Nat
  pexp : Nat
  foxRow : Option Nat
  sealed_ : Bool
  prot : Bool
  comp : Bool
  indexed : Bool
  moving : Bool
  /-- Prefix-key class the page is indexed under: (MODEL_CLASS + L) mod 65,536 (R178). -/
  cls : Nat
  /-- Bytes of the stored compressed stream (R205). -/
  stored : Nat
  /-- AGE of a TIER 0 or 1 page (R335). -/
  age : Nat
  /-- FT at which SEALED was set, for the order of R255. -/
  sealAt : Nat
deriving DecidableEq, Repr

/-- A leaf entry that is VALID (R169). -/
structure Leaf where
  page : Nat
  view : Nat
deriving DecidableEq, Repr

/-- A layer record with its page table (R168, R169): leaf entry e = local ordinal × KV_HEADS + head. -/
structure Layer where
  root : Nat
  depth : Nat
  home : Nat
  ordinals : Nat
  split : Nat
  leaves : List (Nat × Leaf)
  /-- Table blocks the page table uses. -/
  blocks : List Nat
deriving DecidableEq, Repr

/-- A sequence descriptor that is not FREE (R167). -/
structure Seqd where
  car : Nat
  /-- Table SEQ-9. -/
  st : Nat
  latent : Bool
  elem : Nat
  pexp : Nat
  elems : Nat
  kv : Nat
  flags : Nat
  layers : Nat
  nodeset : Nat
  stride : Nat
  mclass : Nat
  sinks : Nat
  comp : Nat
  tail : Nat
  parent : Nat
  forkPos : Nat
  freeze : Nat
  layerTable : Nat
  buddy : Nat
  /-- Pages held only in a cold park image. -/
  cold : Nat
  lastAppend : Nat
  /-- Block that holds the descriptor, and the blocks of its layer records. -/
  descBlock : Nat
  recs : List (Nat × Layer)
deriving DecidableEq, Repr

/-- A node set (R171, R608). -/
structure NodeSet where
  car : Nat
  nodes : List Nat
deriving DecidableEq, Repr

/-- An append that is refused NO_PAGE and staged (R184, R188). -/
structure Staged where
  half : Nat
  seq : Nat
  layer : Nat
  start : Nat
  count : Nat
  /-- Records, then scales. -/
  data : List Byte
  tokens : List Nat
  hash : Option Nat
  /-- Node count at which it expires. -/
  due : Nat
deriving DecidableEq, Repr

/-- Who waits for a sequence that is being changed (R607). -/
inductive Waiter where
  /-- A started command. -/
  | cmd (k : Nat)
  /-- A fabric message. -/
  | msg (src op : Nat)
deriving DecidableEq, Repr

/-- A page move that runs (R199, R203). -/
structure Move where
  dest : Loc
  /-- The table under which the page is to be stored compressed. -/
  comp : Option Nat
  /-- The PAGE_MOVE, DEMOTE, PROMOTE or park that started it. -/
  cmd : Option Nat
  half : Nat
  car : Nat
deriving DecidableEq, Repr

/-- One slot of a compression-table class (R214 to R219). -/
structure TSlot where
  id : Nat
  cur : Bool
  queued : Nat
  image : List Byte
deriving DecidableEq, Repr

/-- One expansion matrix (R221 to R223). -/
structure Weight where
  car : Nat
  mclass : Nat
  layer : Nat
  kind : Nat
  elem : Nat
  heads : Nat
  latent : Nat
  dim : Nat
  data : List Byte
  /-- Whether a newer matrix of the key has replaced it. -/
  old : Bool
  /-- Accepted coaches that use it. -/
  users : List Nat
deriving DecidableEq, Repr

/-- The seal work of a filled page (R177, R286): the sequence and layer whose append filled it, and the logical tile that
does it, where its half has one of the carriage's. -/
structure SealJob where
  seq : Nat
  layer : Nat
  tile : Option Nat
deriving DecidableEq, Repr

/-- Sequences, pages and Badger. -/
structure SeqSt where
  seqs : List (Nat × Seqd)
  pages : List (Nat × Page)
  /-- PAGE_GEN of page indices that are not 0 (R166). -/
  gens : List (Nat × Nat)
  /-- HBM frames in use, by group and frame. -/
  frames : List ((Nat × Nat) × FrameUse)
  /-- CXL frames in use, by carriage and frame. -/
  cframes : List ((Nat × Nat) × FrameUse)
  /-- Frames that are retired: group and frame (R473). -/
  retired : List (Nat × Nat)
  /-- Frames that have held an uncorrectable codeword and retire when freed. -/
  badFrames : List (Nat × Nat)
  /-- Table blocks in use: block number and carriage; descriptor and scout blocks carry the entries they hold. -/
  tblocks : List (Nat × Nat)
  /-- Scout blocks by sequence and layer: the tail means that Fox keeps (R245). -/
  scoutBlocks : List ((Nat × Nat) × Nat)
  sets : List (Nat × NodeSet)
  staged : List Staged
  /-- Sequences being changed, with the command that changes them (R607). -/
  busy : List (Nat × Nat)
  /-- Changes that wait, oldest first, by sequence. -/
  waiting : List (Nat × Waiter)
  /-- Filled pages whose seal work is queued or runs. -/
  sealing : List (Nat × SealJob)
  /-- Pages at REFCOUNT 0 not yet freed (R182). -/
  freeing : List Nat
  moves : List (Nat × Move)
  /-- Frames that moved pages have left, with the coaches that walked them before (R203). -/
  vacated : List (Loc × List Nat)
  /-- PAGE_MOVEs that wait for a move of their page, or for room (R199, R204). -/
  moveWait : List Nat
  /-- Compression tables by 2 × class + slot. -/
  tables : List (Nat × TSlot)
  /-- Owner of each class that holds a table (R215). -/
  classOwner : List (Nat × Nat)
  weights : List (Nat × Weight)
  nextWeight : Nat
  /-- Weight windows of each tile, newest first: carriage, MODEL_CLASS, layer (R224). -/
  windows : List (Nat × List (Nat × Nat × Nat))
  /-- WEIGHT_FREE commands that wait for coaches. -/
  weightFrees : List (Nat × Nat × Nat)
  /-- Table blocks in the walk caches (R193). -/
  walkCache : List Nat
  /-- Groups being zeroed: group and command (R207). -/
  zeroing : List (Nat × Nat)
  /-- Groups zeroed with no allocation since (R207). -/
  zeroed : List Nat
  /-- Layers that were split once (0x0444): sequence and layer. -/
  splitSeen : List (Nat × Nat)
deriving DecidableEq, Repr

/-! ### Owl (13_owl.md) -/

/-- A TCAM entry (R435). -/
structure OwlEntry where
  value : Nat
  care : Nat
  result : Nat
  valid : Bool
deriving DecidableEq, Repr

/-- A shift of an ordered insert (R441, R442). -/
structure Shift where
  index : Nat
  hole : Nat
  entry : OwlEntry
  cmd : Nat
  /-- Node count at which it began; while OWL_X_SHIFT.HOLD pauses it, the time that it has run. -/
  since : Nat
deriving DecidableEq, Repr

/-- A transition of an automaton (Table OWL-3). -/
structure Trans where
  state : Nat
  lo : Nat
  hi : Nat
  next : Nat
  fire : Bool
  fireId : Nat
deriving DecidableEq, Repr

/-- An automaton (R443): its range records LO, HI, CLASS and its transitions. -/
structure Automaton where
  states : Nat
  ranges : List (Nat × Nat × Nat)
  /-- The transitions by number. -/
  trans : List (Nat × Trans)
deriving DecidableEq, Repr

/-- One Owl bank. -/
structure Bank where
  entries : List (Nat × OwlEntry)
  autom : Option Automaton
  shift : Option Shift
  /-- Inserts and deletes that wait for the shift, oldest first. -/
  wait : List Nat
deriving DecidableEq, Repr

/-- A report of a watcher context (R448). -/
structure Report where
  pos : Nat
  fireId : Nat
  state : Nat
  edge : Bool
deriving DecidableEq, Repr

/-- An armed watcher context (R445). -/
structure Watch where
  car : Nat
  seq : Nat
  layer : Nat
  bank : Nat
  state : Nat
  start : Nat
  edgeReport : Bool
  latched : Option Report
  missed : Nat
  /-- The pending OWL_WAIT. -/
  wait : Option Nat
deriving DecidableEq, Repr

/-- A cascaded lookup that waits for a slot, or holds one. -/
structure Lookup where
  cmd : Nat
  /-- Index of the key in an OWL_LOOKUP_LIST. -/
  item : Nat
  key : Nat
deriving DecidableEq, Repr

/-- The node's own cascade slot (R452, R453). -/
structure OwnSlot where
  start : Nat
  /-- The lookup, or none for a PING. -/
  look : Option Lookup
  returned : Bool
  checked : Bool
deriving DecidableEq, Repr

/-- A SEARCH of another node that this node answers. -/
structure Foreign where
  start : Nat
  origin : Nat
  key : Nat
  /-- The checked hit: local page index, and whether more than one entry matched. -/
  hit : Option (Nat × Bool)
deriving DecidableEq, Repr

/-- Owl. -/
structure OwlSt where
  banks : List (Nat × Bank)
  watches : List (Nat × Watch)
  /-- Lookups that wait for the node's next slot. -/
  queue : List Lookup
  own : Option OwnSlot
  foreign : Option Foreign
  /-- Frame in which the node last sent a PING or SEARCH in its first slot. -/
  pingFrame : Option Nat
  /-- 0 OFF, 1 UP, 2 BROKEN. -/
  cascade : Nat
  prioOut : Bool
  /-- Next bank and entry of each half's compare (R456). -/
  scrubPos : List (Nat × (Nat × Nat))
  /-- Results of an OWL_LOOKUP_LIST gathered so far: command, then item and result. -/
  results : List (Nat × List (Nat × Nat))
deriving DecidableEq, Repr

/-! ### Fox, Bear and departures (07_fox.md, 08_bear.md, 09_departures.md) -/

/-- What a Fox macro calibrates for (R252, R257). -/
inductive CalCause where
  /-- At the start, whole, or with stored trims the verify phase alone (R249). -/
  | start | load
  | recal | verify | handover | cmd (k : Nat)
deriving DecidableEq, Repr

/-- A Fox macro beside its register fields (R250, R251). -/
structure Macro where
  /-- Running offset correction, in 1/8,192 LSB, and running gain, 131,072 = 1.0: 1/64 of the steps of a pass (R237, R250). -/
  off : Int
  gain : Int
  /-- Temperature and voltage compensation of the gain in force, in 1/80,000,000 (R250). -/
  comp : Int
  /-- Residuals of the reference rows of the last 1,024 passes, newest first, in 1/16 LSB. -/
  resid : List (List Int)
  /-- Passes in a row in which a reference row's residual exceeded 8 σ̂, by reference row. -/
  streak : List (Nat × Nat)
  /-- Node count at the last pass. -/
  lastPass : Nat
  /-- Node count at the last calibration. -/
  calAt : Nat
  /-- The calibration that runs. -/
  cal : Option CalCause
  /-- Whether it has been handed over and not passed a verify phase since (R256). -/
  fresh : Bool
deriving DecidableEq, Repr

/-- A page a scout vector scored (R235 to R240). -/
structure Scored where
  /-- Leaf entry. -/
  leaf : Nat
  page : Nat
  /-- Upper bound b0, FP32. -/
  b0 : Nat
  /-- Guard, FP32. -/
  guard : Nat
  sat : Bool
  digital : Bool
  /-- Macro, for an analogue score, and its σ̂ in the pass. -/
  macro_ : Option Nat
  sigma : Nat
deriving DecidableEq, Repr

/-- A candidate page (R242). -/
structure Cand where
  leaf : Nat
  page : Nat
  always : Bool
  digital : Bool
  sat : Bool
  b0 : Nat
deriving DecidableEq, Repr

/-- A record on its way from Badger to the tiles (R196). -/
structure Rec where
  /-- Cache position. -/
  pos : Nat
  /-- KV head. -/
  head : Nat
  data : List Byte
  scales : List Byte
deriving DecidableEq, Repr

/-- A partial of one head and query position (R272): FP32 bits of m, l and the elements of o. -/
structure Part where
  m : Nat
  l : Nat
  o : List Nat
deriving DecidableEq, Repr

/-- A coach that is held or runs, or the coach's work of a BEAR_ATTN or FOX_SCORE (R293, R257). -/
structure Coach where
  car : Nat
  seq : Nat
  layer : Nat
  epoch : Nat
  depart : Nat
  deadline : Nat
  tag : Nat
  group : Nat
  reply : Nat
  vectors : Nat
  /-- PARAMS, RANGES, query, vectors and descriptors. -/
  params : List Byte
  ranges : List Byte
  query : List Byte
  vecs : List Byte
  descs : List Byte
  /-- Order of arrival. -/
  order : Nat
  /-- Coach memory it takes until it starts, in 4 KiB units (R309). -/
  size : Nat
  /-- Whether the whole coach is held (R300). -/
  whole : Bool
  /-- The BEAR_ATTN or FOX_SCORE command that runs it. -/
  cmd : Option Nat
  /-- Whether the old map serves it (R62). -/
  old : Bool
  /-- This node's tree record of GROUP in the map that serves it. -/
  tree : List Byte
  /-- The logical tiles that do its work. -/
  own : List Nat
  /-- Whether the departure window is open. -/
  open_ : Bool
  cutoff : Nat
  /-- Weights in use: serials of the key and the value expansion. -/
  weights : Option (Nat × Nat)
  /-- Scores of the passes so far, one list per vector. -/
  scored : List (List Scored)
  /-- Whether a pass found rows that calibration had made rowless, by vector (R247). -/
  lost : List Bool
  passes : Nat
  /-- The candidates, once selected (R242). -/
  cands : Option (List Cand)
  /-- Scout reports (R247), 8 bytes each. -/
  reports : List Byte
  /-- The leaf entries that the selection saw. -/
  walked : List Nat
  tailWaited : Bool
  gather : Bool
  /-- Pages not yet read, by half. -/
  toRead : List (Nat × Cand)
  /-- Records of TIER 1 candidates read ahead and not yet delivered, by leaf entry (R333). -/
  ahead : List (Nat × List Rec)
  /-- Records delivered, by half. -/
  stream : List (Nat × Rec)
  /-- Absorbed queries: query position × heads + head, and FP32 elements. -/
  absorbed : Option (List (List Nat))
  /-- Partials of a tile that finished: logical tile, and partial by query position × heads + head. -/
  tiles : List (Nat × List (Nat × Part))
  /-- Partials merged on a half. -/
  halves : List (Nat × List (Nat × Part))
  /-- The node partial, ready to send. -/
  result : Option (List Part)
  /-- A failure status with its reason. -/
  failed : Option (Nat × Nat)
deriving DecidableEq, Repr

/-- A shadow of a working tile by a spare (R287 to R291). -/
structure Shadow where
  /-- Logical index of the working tile. -/
  tile : Nat
  /-- 1 clearing, 2 KAT, 4 comparing, 5 taking over, 6 KAT after a mismatch. -/
  step : Nat
  /-- Port whose result register reports it. -/
  port : Option Nat
  /-- FT at which step 3 ended. -/
  since : Nat
  /-- Outcome of the takeover due. -/
  outcome : Nat
deriving DecidableEq, Repr

/-- Fox and Bear. -/
structure FoxSt where
  macros : List (Nat × Macro)
  /-- Bound rows: row number, and page with ROWNORM in 1/16 (R234, R253). -/
  rows : List (Nat × (Nat × Nat))
  /-- Rowless sealed pages (R243, R255). -/
  rowless : List Nat
  /-- Calibrated blocks of a running FOX_CAL: command and macros left. -/
  cals : List (Nat × List Nat)
  coaches : List (Nat × Coach)
  nextCoach : Nat
  shadows : List (Nat × Shadow)
  /-- Corrected SECDED errors of a physical tile in the running frame: tile, frame, count. -/
  tileCorr : List (Nat × (Nat × Nat))
  /-- Remainder of positions attended below 1,024 by carriage. -/
  posRem : List (Nat × Nat)
  /-- Node count of the last refill bind, by half (R255). -/
  refillAt : List (Nat × Nat)
  /-- Node count of the last compensation (R250). -/
  compAt : Nat
  /-- Seal jobs that a logical tile has done since its last coach started (R286, BEAR_SEAL). -/
  sealJobs : List (Nat × Nat)
deriving DecidableEq, Repr

/-- One input slot of a coupling context (R314, R315). -/
structure Slot where
  /-- Staging blocks reserved. -/
  blocks : Nat
  complete : Bool
  /-- LEVEL and STATUS of the input, once merged. -/
  level : Nat
  status : Nat
  /-- Its hole entries. -/
  holes : List (List Byte)
  merged : Bool
deriving DecidableEq, Repr

/-- A coupling context (R313 to R319). -/
structure Ctx where
  car : Nat
  seq : Nat
  layer : Nat
  epoch : Nat
  deadline : Nat
  close : Nat
  /-- The 32-byte tree record it was allocated under (R321). -/
  tree : List Byte
  blocks : Nat
  slots : List (Nat × Slot)
  acc : List Part
  covered : Nat
  missing : Nat
  failed : Nat
  worst : Nat
  minFreeze : Nat
  flags : Nat
  vectors : Nat
  vdim : Nat
  summaries : List Byte
  /-- Whether it has sent and holds its name only (R319). -/
  sent : Bool
deriving DecidableEq, Repr

/-- Departures. -/
structure DepSt where
  ctxs : List ((Nat × Nat × Nat) × Ctx)
  /-- LEAD_ADJ, as the register reads (R330). -/
  leadAdj : Latch
  /-- Coach arrivals so far. -/
  arrivals : Nat
deriving DecidableEq, Repr

/-! ### Parking and the append log (10_parking.md) -/

/-- A warm park image (R342): its header and entries lie in its image frames, the pages in their own. -/
structure WarmImage where
  car : Nat
  /-- Local index of each entry's page. -/
  pages : List Nat
  /-- CXL image frames, by carriage and frame. -/
  frames : List (Nat × Nat)
deriving DecidableEq, Repr

/-- A park that is accepted (R338 to R344). -/
structure Park where
  seq : Nat
  /-- Whether it waits for its checkpoint (R339). -/
  waiting : Bool
  /-- State the sequence had. -/
  was : Nat
  /-- FT at which it started. -/
  cut : Nat
  /-- Descriptor at the start. -/
  desc : List Byte
  /-- Commands and coaches begun before it, which run to their end (R340). -/
  works : List Nat
  coaches : List Nat
  /-- Whether the transfer has begun (R340). -/
  moving : Bool
  /-- Pages of the image, in entry order. -/
  pages : List Nat
  /-- The entry array, and the length of the image. -/
  entries : List Byte
  len : Nat
  ckpt : Nat
deriving DecidableEq, Repr

/-- A resume in progress (R349 to R352). -/
structure Resume where
  image : Nat
  pos : Nat
  frozen : Bool
  freeze : Nat
  /-- Pages imported so far, and those of them that the node holds. -/
  imported : Nat
  got : List Nat
deriving DecidableEq, Repr

/-- An entry of the append log (Table PARK-6). -/
structure LogEntry where
  car : Nat
  seq : Nat
  served : Nat
  layer : Nat
  start : Nat
  count : Nat
  bytes : List Byte
deriving DecidableEq, Repr

/-- Parking. -/
structure ParkSt where
  /-- Parks by their command's serial. -/
  parks : List (Nat × Park)
  warm : List (Nat × WarmImage)
  resumes : List (Nat × Resume)
  log : List LogEntry
  /-- (SEQ_ID, served node) marked LOST, with the carriage. -/
  lost : List (Nat × Nat × Nat)
  /-- Pages that a coach read in TIER 1, with the HOME_HALF they go to (R337). -/
  toPromote : List (Nat × Nat)
  /-- Carriage and half on which a demotion runs: from below LOW until HIGH is reached (R336). -/
  demoting : List (Nat × Nat)
  /-- Frame boundary of the last AGE update. -/
  ageAt : Nat
deriving DecidableEq, Repr

/-! ### Fabric port (11_fabric_port.md) -/

/-- State of a fabric link (R363). -/
inductive LState where
  | down | training | up | repair | failed
deriving DecidableEq, Repr

/-- A link frame (R369, Table PRT-4): type, flags, operation and body (transport header and payload, or the LCTRL body). -/
structure LFrame where
  /-- LSEQ of DATA and LCTRL frames. -/
  lseq : Nat := 0
  ltype : Nat
  flags : Nat := 0
  /-- The last LSEQ received in order, where the ACK field is valid. -/
  ack : Option Nat := none
  /-- Class and units returned, where the CREDIT field is valid. -/
  credit : Option (Nat × Nat) := none
  op : Nat := 0
  body : List Byte := []
deriving DecidableEq, Repr

/-- How a packet reached the node on a link (R370, R380, R422). -/
structure Arrival where
  link : Nat
  /-- LSEQ of its frame. -/
  lseq : Nat
  /-- Whether it lies in its carriage's slot buffer of that link, else in its class buffer (R422). -/
  slot : Bool
  /-- Whether its room goes back to the peer, or to the slot buffer, once its last copy has left. -/
  owed : Bool
deriving DecidableEq, Repr

/-- A packet that waits in a link's output queue (R366, R373, R422). -/
structure OutPkt where
  cls : Nat
  /-- Transport header and payload. -/
  body : List Byte
  /-- Its arrival on a link, if it arrived on one. -/
  from_ : Option Arrival
  /-- Whether it counts in TRF_C_HELD already (R410). -/
  held : Bool
deriving DecidableEq, Repr

/-- A planned swap (R367). -/
structure Swap where
  /-- Lane swap, else wavelength swap. -/
  lane : Bool
  what : Nat
  since : Nat
  /-- Whether this node began it. -/
  mine : Bool
  /-- Whether the peer has ended its part. -/
  peerDone : Bool
deriving DecidableEq, Repr

/-- One fabric link (R363 to R373). -/
structure Link where
  st : LState
  trainAt : Nat
  retryAt : Option Nat
  lastRx : Nat
  /-- Node count at which it last went DOWN. -/
  downAt : Nat
  /-- LSEQ of the next frame sent, and of the next frame expected. -/
  txSeq : Nat
  rxSeq : Nat
  /-- Frames sent and not acknowledged, oldest first, with the time last sent. -/
  replay : List (LFrame × Nat)
  replays : Nat
  /-- Credits held, by class, in 128-byte units. -/
  credits : List (Nat × Nat)
  /-- Physical lane that carries each logical lane. -/
  lanes : List Nat
  /-- Wavelength of each physical lane, transmit and receive. -/
  waves : List Nat
  rxWaves : List Nat
  swap : Option Swap
  /-- Packets that wait. -/
  outq : List OutPkt
  /-- Isolated credits held by carriage and class (R422). -/
  isoCredits : List ((Nat × Nat) × Nat)
  /-- Round-robin positions of the scheduler (R421). -/
  rr : List (Nat × Nat)
  /-- Whether an IDENT has arrived since reset, so that the link has a last peer (R518). -/
  named : Bool
  /-- Equaliser trims in force. -/
  eq : List Nat
  /-- Whether the start-up slot's level has begun on it. -/
  started : Bool
deriving DecidableEq, Repr

/-- An operation the node sent and that is not answered (R383, R389). -/
structure SendOp where
  mtype : Nat
  car : Nat
  /-- Header template and message bytes, as sent. -/
  hdr : List Byte
  payload : List Byte
  /-- Sends so far, and the node count at the last send. -/
  sends : Nat
  sentAt : Nat
  /-- Command that waits for the answer, and what the answer is for. -/
  cmd : Option Nat
  /-- Answer window and its generation (R397). -/
  window : Option (Nat × Nat)
  /-- Whether it holds one of the 256 reserved entries. -/
  notice : Bool
deriving DecidableEq, Repr

/-- The map epochs as they stood for a request when it reached the node, brought on past the boundaries and cancellations
that have come since (R62, R63): the epoch that the map in force serves, those that an old map serves, and the armed one. -/
structure EpochView where
  cur : Option Nat
  old : List Nat
  armed : Option Nat
deriving DecidableEq, Repr

/-- A receive entry (R384). -/
structure RxEntry where
  hdr : List Byte
  car : Nat
  count : Nat
  got : List Nat
  /-- Bytes kept: message offset and bytes. -/
  parts : List (Nat × List Byte)
  since : Nat
  /-- Message memory reserved (R387). -/
  mem : Nat
  /-- Whether the message is complete and waits for its engine. -/
  complete : Bool
  /-- Whether it is held for the armed epoch (R62). -/
  held : Bool
  /-- Set once its engine has acted on its first packet: the number of the coach that waits for the rest of the message, or
  of a coupling input 0 where it was taken and 1 where it was dropped. -/
  coach : Option Nat
  /-- FT at which the packet that holds message byte 0 arrived; that of the first packet until then (R308). -/
  headAt : Nat
  /-- The map epochs at that arrival (R62), and LEAD_ADJ as it read then (R330). -/
  seen : EpochView
  lead : Nat
deriving DecidableEq, Repr

/-- An answer window (R397). -/
structure Window where
  gen : Nat
  /-- Operation that uses it. -/
  op : Option Nat
  /-- The bytes the window holds, from its byte 0 on. -/
  data : List Byte
deriving DecidableEq, Repr

/-- A packet held for a TIER 1 page (R394). -/
structure Paging where
  body : List Byte
  since : Nat
deriving DecidableEq, Repr

/-- The fabric port. -/
structure PrtSt where
  links : List (Nat × Link)
  ops : List (Nat × SendOp)
  /-- Incarnation of each operation slot. -/
  incs : List (Nat × Nat)
  rx : List ((Nat × Nat) × RxEntry)
  /-- NAK filter, newest first: (SRC, OP_ID) and the node count of the NAK. -/
  nakf : List ((Nat × Nat) × Nat)
  windows : List (Nat × Window)
  paging : List Paging
  /-- FAULT_NOTICEs that wait for one of the 256 reserved entries, oldest first: destination, carriage, payload (R383, R400). -/
  notices : List (Nat × Nat × List Byte)
  /-- RMA_READs served whose RMA_RESP packets may not all have left: (SRC, OP_ID) and the page held (R395). -/
  reads : List ((Nat × Nat) × Nat)
  /-- Round-robin link choice (R380). -/
  rrLink : Nat
deriving DecidableEq, Repr

/-! ### Traffic (12_traffic.md) -/

/-- A shaper's values in force (R409, R411). -/
structure Shaper where
  rate : Nat
  enable : Bool
  onSwitch : Bool
  burst : Nat
  /-- Tokens, in 1/1,024 byte. -/
  tokens : Nat
deriving DecidableEq, Repr

/-- A policer's values in force (R415, R417). -/
structure Policer where
  car : Nat
  valid : Bool
  twoRate : Bool
  aware : Bool
  yellowDrop : Bool
  redPass : Bool
  onSwitch : Bool
  cbs : Nat
  /-- EBS, or PBS. -/
  ebs : Nat
  cir : Nat
  pir : Nat
  tc : Nat
  /-- Tokens of bucket E, or P. -/
  te : Nat
deriving DecidableEq, Repr

/-- A runtime change that waits for its tick (R425). -/
structure TrfChange where
  policer : Bool
  index : Nat
  mode : Nat
  rate : Nat
  burst : Nat
  rate2 : Nat
  burst2 : Nat
  fill : Bool
deriving DecidableEq, Repr

/-- Traffic control. -/
structure TrfSt where
  shapers : List (Nat × Shaper)
  policers : List (Nat × Policer)
  /-- Pending change of each port. -/
  pending : List (Nat × TrfChange)
  /-- FT of the last tick. -/
  tickAt : Nat
  /-- Whether TT has been LOCKED since the start (R424). -/
  everLocked : Bool
  /-- Bytes of slot buffers in use: arrival link and carriage (R423). -/
  slotBuf : List ((Nat × Nat) × Nat)
  /-- Credits to be returned in the next control gap: link, class, units (R422). -/
  gapCredits : List ((Nat × Nat) × Nat)
  /-- TRF_X_WRR, as the register reads (R430). -/
  wrr : Latch
deriving DecidableEq, Repr

/-! ### Memory (14_memory.md) -/

/-- State of a CXL port (R477). -/
inductive CxlSt where
  | absent | training | up | degraded | down
deriving DecidableEq, Repr

/-- One CXL port. -/
structure Cxl where
  st : CxlSt
  trainAt : Nat
  downAt : Nat
  /-- Ranges disabled under R478. -/
  disabled : List Nat
deriving DecidableEq, Repr

/-- HBM, CXL and the symbol code. -/
structure MemSt where
  /-- Bytes of HBM and CXL that differ from what an unwritten byte reads as, by address. -/
  bytes : List Host.Cell
  /-- Symbols in error of codewords and CXL blocks: index of the codeword, symbols. -/
  bad : List (Nat × Nat)
  cxl : List (Nat × Cxl)
  /-- Stacks trained. -/
  trained : List Nat
  /-- Stacks at double refresh (R465). -/
  double : List Nat
  /-- Refreshes of each stack's banks so far. -/
  refreshed : List (Nat × Nat)
  /-- Next group and codeword of patrol scrub; totals of the pass. -/
  scrubAt : Nat
  scrubCorr : Nat
  scrubUncorr : Nat
  /-- Corrected codewords per pseudo-channel in the running frame: (group × 8 + pseudo-channel), (frame, count). -/
  pcCorr : List (Nat × (Nat × Nat))
  /-- Group, symbols of an armed injection (R484). -/
  inject : Option (Nat × Nat)
deriving DecidableEq, Repr

/-! ### Root of trust, faults, start-up (15_security.md, 16_faults.md, 17_startup_shutdown.md, 19_package.md) -/

/-- Stored trims of one unit: FT and temperature, in 0.125 °C, stored with them (R541). -/
structure Trim where
  ft : Nat
  temp : Int
  value : List Byte
deriving DecidableEq, Repr

/-- A persistence record (Table SUP-4) in one area of the persistence region (R601). -/
structure Persist where
  seqNo : Nat
  valid : Bool
  clean : Bool
  ring : List EvRec
  next : Nat
  retiredFrames : List (Nat × Nat)
  /-- Current slot by carriage. -/
  current : List (Nat × Nat)
  retiredSlots : List Nat
  /-- Digest of the composition in force. -/
  digest : List Byte
  /-- Tile state and logical index by physical tile. -/
  tiles : List (Nat × (Nat × Nat))
  hbmTrims : List (Nat × Trim)
  foxTrims : List (Nat × Trim)
  /-- SerDes and cascade trims: fabric links 0-7, Onzon ports 8-9, CXL ports 10-13. -/
  serTrims : List (Nat × Trim)
  /-- Self-test results as BIST_RESULT, their FT, and the failed units by item. -/
  results : Option (Nat × Nat)
  failed : List (Nat × Nat)
deriving DecidableEq, Repr

/-- What the fuses hold (Table SEC-1). -/
structure Fuses where
  uid : Nat
  idSeed : List Byte
  fwSigner : List Byte
  ownerRoot : List Byte
  slotKeys : List (Nat × List Byte)
  rollback : Nat
  lc : Nat
  lcCount : Nat
  vid : Nat
deriving DecidableEq, Repr

/-- The board flash (Table PKG-12). -/
structure Flash where
  firmware : List Byte
  composition : List Byte
  owner : List Byte
  endorsement : List Byte
  areas : List (Nat × Persist)
deriving DecidableEq, Repr

/-- The loader (R496, R497). -/
structure Loader where
  port : Nat
  kind : Nat
  /-- 1 fetching, 2 verifying, 3 writing to flash. -/
  phase : Nat
  len : Nat
  bytes : List Byte
  got : Nat
  /-- A fetch that failed. -/
  bad : Bool
deriving DecidableEq, Repr

/-- An attestation that runs (R498). -/
structure Attest where
  nonce : List Byte
deriving DecidableEq, Repr

/-- The root of trust. -/
structure SecSt where
  fuses : Fuses
  flash : Flash
  /-- Firmware image that runs. -/
  running : List Byte
  /-- Owner record in force since the last start. -/
  owner : List Byte
  loader : Option Loader
  /-- The object that the last LOAD verified: KIND and bytes (R497). -/
  verified : Option (Nat × List Byte)
  /-- A life-cycle request that waits for the next start (R489). -/
  lcPending : Option (List Byte)
  attest : List (Nat × Attest)
  /-- Last report of each port. -/
  reports : List (Nat × List Byte)
  /-- Loaded sessions: index, port and carriage (R499). -/
  sessions : List (Nat × (Nat × Nat))
  /-- Number of the ML-KEM key pair of this start (R499). -/
  kem : Nat
  /-- Session keys. -/
  sessionKeys : List (Nat × List Byte)
  /-- A session LOAD that runs: port, index, carriage, ciphertext. -/
  sessionLoads : List (Nat × (Nat × Nat × List Byte))
  /-- Current slot by carriage (R501). -/
  current : List (Nat × Nat)
  retired : List Nat
  /-- Key state read at the start, until the first composition load (R503). -/
  stored : Option (List (Nat × Nat) × List Byte)
  /-- Bytes written to each port's SEC_KEMCT window. -/
  kemct : List (Nat × List Byte)
deriving DecidableEq, Repr

/-- A hold of a sequence (R522). -/
structure Hold where
  seq : Nat
  car : Nat
  since : Nat
deriving DecidableEq, Repr

/-- A step record (R525). -/
structure StepRec where
  car : Nat
  id : Nat
  /-- Status and RESULT once DONE. -/
  done : Option (Nat × Nat)
  /-- The STEP that runs it. -/
  cmd : Nat
deriving DecidableEq, Repr

/-- Faults and recovery. -/
structure RasSt where
  holds : List Hold
  steps : List StepRec
  /-- Notices sent in the running frame: cause, DETAIL, frame (R519). -/
  sentNotices : List (Nat × Nat × Nat)
  /-- Node count of the last notify interrupt, by port, and whether one waits (R520). -/
  notifyAt : List (Nat × Nat)
  notifyDue : List Nat
  /-- Peers for which PEER_LOST was sent (R518). -/
  lostPeers : List Nat
  /-- The cause of the fatal fault, once one has happened (R516, event 0x0C04). -/
  fatal : Option Nat
deriving DecidableEq, Repr

/-- Start-up and shutdown. -/
structure StartSt where
  /-- Steps of Table SUP-1 that have ended. -/
  done : List Nat
  /-- FT of the composition's coming into force, and of LOCKED, in this start. -/
  compAt : Option Nat
  lockAt : Option Nat
  anchor : Option Nat
  /-- FT of each level's slot, once it has fired. -/
  slots : List (Nat × Nat)
  /-- Whether each stack trained warm. -/
  warm : List Nat
  /-- The last record read or written: the values last taken of every item (R550). -/
  persist : Option Persist
  /-- Area that holds the newest valid record. -/
  area : Option Nat
  /-- Areas that failed in this start (R601). -/
  badAreas : List Nat
  /-- A persistence write that runs: area, record, purpose (0 timed, 1 shutdown, 2 fatal, 3 clear,
  4 shutdown step 5), first FT. -/
  writing : Option (Nat × Persist × Nat × Nat)
  /-- Records still to be written after a clear. -/
  clearWrites : Nat
  /-- FT of the last 60-s write or of step 3. -/
  persistAt : Nat
  /-- Whether RESET_N is low, and whether power is good. -/
  inReset : Bool
  powerGood : Bool
  /-- Whether the node's engines are stopped by a fatal fault, a power failure or a shutdown. -/
  stopped : Bool
  /-- S and TEST of the armed shutdown. -/
  shutAt : Nat
  shutTest : Bool
  /-- A self-test that runs: whether it is the full set. -/
  testing : Option Bool
  /-- Failed units by item, of the last run. -/
  failed : List (Nat × Nat)
  joinedDue : Bool
  /-- Whether step 4 has been tried in this start. -/
  tried : Bool
  /-- What the last run left for this start (R292, R558): DISCARD bits of BIST_X_TRIMS, ITEMS of BIST_X_SKIP,
  BEAR_REPAIR.CLEAR_AT_START. -/
  discard : Nat
  skip : Nat
  clearMap : Bool
deriving DecidableEq, Repr

/-- The management pins (R594 to R598). -/
structure PkgSt where
  thermAlert : Bool
  /-- Expanders held in reset. -/
  perst : List Nat
  i3cAddr : Nat
  i3cOffset : Nat
  /-- JTAG instruction in force: 0 BYPASS, 1 IDCODE, 2 SAMPLE/PRELOAD, 3 EXTEST. -/
  jtag : Nat
deriving DecidableEq, Repr

/-! ### The node -/

/-- What the node puts on its pins, the model's record of it (assumption 9). -/
inductive Sent where
  /-- An Onzon frame, with SEQ where its type is sequenced. -/
  | onzon (port : Nat) (seq : Option Nat) (f : OFrame)
  /-- The value a register access returns to its port. -/
  | value (port : Nat) (off : Nat) (v : Nat)
  /-- A fabric link frame. -/
  | link (l : Nat) (f : LFrame)
  /-- A message of the node to itself. -/
  | loop (hdr payload : List Byte)
  /-- Lanes of a port or link begin training. -/
  | train (unit : Nat)
  /-- A cascade frame. -/
  | cascade (frame : Nat)
  | prioOut (high : Bool)
  | thermAlert (low : Bool)
  | ibi (data : Nat)
  | i3c (words : List Nat)
  | jtag (instr : Nat) (value : Nat)
  | perst (n : Nat) (low : Bool)
  /-- The HDM decoder of an expander programmed: its base and size in units of 256 MiB (R478). -/
  | hdm (n base size : Nat)
  /-- A write to an optical engine over the sideband, and a read of so many bytes. -/
  | oe (addr reg value : Nat)
  | oeRead (addr reg bytes : Nat)
deriving DecidableEq, Repr

/-- The node. -/
structure State where
  /-- Nanoseconds of the node's own count since RESET_N was released. -/
  clk : Nat
  /-- Fabric time. -/
  ft : Nat
  /-- Register-field cells that do not hold their reset value. -/
  regs : List ((RN × Nat) × Nat)
  /-- Latched high words by port and offset (R8). -/
  hi : List ((Nat × Nat) × Nat)
  /-- Counter of the free values taken so far: the model's own field (assumption 11). -/
  freeCtr : Nat
  /-- Commands that wait, first in first out. -/
  pending : List Instr
  /-- What the node has sent, newest first. -/
  sent : List Sent
  evr : EvrSt
  mon : MonSt
  time : TimeSt
  comp : CompSt
  onzA : OnzSt
  onzB : OnzSt
  que : QueSt
  seq : SeqSt
  owl : OwlSt
  fox : FoxSt
  dep : DepSt
  park : ParkSt
  prt : PrtSt
  trf : TrfSt
  mem : MemSt
  sec : SecSt
  ras : RasSt
  start : StartSt
  pkg : PkgSt
deriving DecidableEq, Repr

/-! ### Reset -/

/-- An Onzon port after reset (R109). -/
def OnzSt.init : OnzSt :=
  { link := .down, trainAt := 0, retryAt := none, lastRx := 0, downAt := 0, txSeq := 0, rxSeq := 0, replay := [],
    replays := 0, creditP := 0, creditN := 0, outq := [], tags := [], reads := [], ctrlTags := [],
    dropSeen := false, eq := [] }

/-- A queue context after reset (R129). -/
def QCtx.init : QCtx :=
  { st := 0, cause := 0, inflight := 0, sqTail := 0, sqHead := 0, cqTail := 0, cqHead := 0, phase := true, resv := 0,
    asked := 0, fetched := [], sinceIrq := 0, oldest := none, counter := none, fetchNo := 0 }

/-- A fabric link after reset (R363). -/
def Link.init : Link :=
  { st := .down, trainAt := 0, retryAt := none, lastRx := 0, downAt := 0, txSeq := 0, rxSeq := 0, replay := [],
    replays := 0, credits := [], lanes := [], waves := [], rxWaves := [], swap := none, outq := [], isoCredits := [],
    rr := [], named := false, eq := [], started := false }

/-- The time transfer of a link after reset. -/
def LinkTime.init : LinkTime := { sent := [], recv := [], pair := none, since := 0, upFrame := 0, gave := none, heard := none }

/-- An Owl bank after reset: empty. -/
def Bank.init : Bank := { entries := [], autom := none, shift := none, wait := [] }

/-- A Fox macro after reset. -/
def Macro.init : Macro :=
  { off := 0, gain := 131072, comp := 0, resid := [], streak := [], lastPass := 0, calAt := 0, cal := none,
    fresh := false }

/-- A CXL port after reset (R477). -/
def Cxl.init : Cxl := { st := .absent, trainAt := 0, downAt := 0, disabled := [] }

def EvrSt.init : EvrSt :=
  { ring := [], next := 0, frame := 0, counts := [], supp := [], firsts := [], clearWait := none, purge := [] }

def MonSt.init : MonSt :=
  { tripRun := [], railOut := [], procStart := [], drifted := [], t := 0, sinceChange := 0, hot := false,
    warmNow := false, coolFrames := 0, evalAt := 0, tripped := false }

def TimeSt.init : TimeSt :=
  { loaded := false, word := none, confirm := 0, badRun := 0, judged := 0, holdFrom := 0, held := 0, slew := 0,
    slewAt := 0, ppb := 0, acc := 0, steerRem := 0, limited := false, steerAt := 0, evts := [], links := [],
    linkAt := 0 }

def CompSt.init : CompSt :=
  { image := none, prev := none, staging := [], fetch := none, staged := none, entry := none, leaving := [],
    shadow := false, boundary := 0, drainEnd := 0, moved := [], firstStale := false, unlocks := [],
    commit := none }

def QueSt.init : QueSt :=
  { ctx := [], started := [], lists := [], serial := 0, sems := [], sealCtr := [], lastQ := [], last := none }

def SeqSt.init : SeqSt :=
  { seqs := [], pages := [], gens := [], frames := [], cframes := [], retired := [], badFrames := [], tblocks := [],
    scoutBlocks := [], sets := [], staged := [], busy := [], waiting := [], sealing := [], freeing := [], moves := [], vacated := [],
    moveWait := [], tables := [], classOwner := [], weights := [], nextWeight := 0, windows := [], weightFrees := [],
    walkCache := [], zeroing := [], zeroed := [], splitSeen := [] }

def OwlSt.init : OwlSt :=
  { banks := [], watches := [], queue := [], own := none, foreign := none, pingFrame := none, cascade := 0,
    prioOut := false, scrubPos := [], results := [] }

def FoxSt.init : FoxSt :=
  { macros := [], rows := [], rowless := [], cals := [], coaches := [], nextCoach := 0, shadows := [],
    tileCorr := [], posRem := [], refillAt := [], compAt := 0, sealJobs := [] }

def DepSt.init : DepSt := { ctxs := [], leadAdj := { old := 0, new := 0, frame := 0 }, arrivals := 0 }

def ParkSt.init : ParkSt := { parks := [], warm := [], resumes := [], log := [], lost := [], toPromote := [], demoting := [], ageAt := 0 }

def PrtSt.init : PrtSt :=
  { links := [], ops := [], incs := [], rx := [], nakf := [], windows := [], paging := [], notices := [], reads := [], rrLink := 0 }

def TrfSt.init : TrfSt :=
  { shapers := [], policers := [], pending := [], tickAt := 0, everLocked := false, slotBuf := [], gapCredits := [],
    wrr := { old := 0x14, new := 0x14, frame := 0 } }

def MemSt.init : MemSt :=
  { bytes := [], bad := [], cxl := [], trained := [], double := [], refreshed := [], scrubAt := 0, scrubCorr := 0,
    scrubUncorr := 0, pcCorr := [], inject := none }

/-- Fuses of a part before manufacture: all 0 but the core set point (assumption 3). -/
def Fuses.init : Fuses :=
  { uid := 0, idSeed := [], fwSigner := [], ownerRoot := [], slotKeys := [], rollback := 0, lc := 0, lcCount := 0,
    vid := 10 }

/-- An empty board flash (assumption 3). -/
def Flash.init : Flash := { firmware := [], composition := [], owner := [], endorsement := [], areas := [] }

def SecSt.init : SecSt :=
  { fuses := Fuses.init, flash := Flash.init, running := [], owner := [], loader := none, verified := none,
    lcPending := none, attest := [], reports := [], sessions := [], kem := 0, sessionKeys := [], sessionLoads := [],
    current := [], retired := [], stored := none, kemct := [] }

def RasSt.init : RasSt :=
  { holds := [], steps := [], sentNotices := [], notifyAt := [], notifyDue := [], lostPeers := [], fatal := none }

def StartSt.init : StartSt :=
  { done := [], compAt := none, lockAt := none, anchor := none, slots := [], warm := [], persist := none, area := none,
    badAreas := [], writing := none, clearWrites := 0, persistAt := 0, inReset := false, powerGood := true,
    stopped := false, shutAt := 0, shutTest := false, testing := none, failed := [], joinedDue := false,
    tried := false, discard := 0, skip := 0, clearMap := false }

def PkgSt.init : PkgSt :=
  { thermAlert := false, perst := [0, 1, 2, 3], i3cAddr := 0x30, i3cOffset := 0, jtag := 0 }

/-- The tile map of a part's first start (R263): logical tile t of a half is its physical tile t, tiles 32 and 33 of each
half are spares (Table BEAR-10: reset value "trim"). -/
def tileCells : List ((RN × Nat) × Nat) :=
  (List.range 63).map (fun l => ((RN.BEAR_MAP_PHYS, l + 1), if 31 ≤ l then l + 33 else l + 1)) ++
  [32, 33, 96, 97].map (fun t => ((RN.BEAR_T_STAT_STATE, t), 1))

/-- The node right after RESET_N is released (R5, R25, R535): every register field at its reset value (the tile map
at that of R263), nothing in memory, no composition, no sequence, fabric time 0 and FREE, and no command waiting. -/
def State.reset : State :=
  { clk := 0, ft := 0, regs := tileCells, hi := [], freeCtr := 0, pending := [], sent := [], evr := EvrSt.init,
    mon := MonSt.init, time := TimeSt.init, comp := CompSt.init, onzA := OnzSt.init, onzB := OnzSt.init,
    que := QueSt.init, seq := SeqSt.init, owl := OwlSt.init, fox := FoxSt.init, dep := DepSt.init,
    park := ParkSt.init, prt := PrtSt.init, trf := TrfSt.init, mem := MemSt.init, sec := SecSt.init, ras := RasSt.init,
    start := StartSt.init, pkg := PkgSt.init }

end Sys2Proof.Machine
end

