-- ==== Sys2Proof/Machine/Ops.lean ====
section
/-! DEFINITION. The named operations every block uses: register cells, free values, events, semaphores, and the
values the register tables define from the state. -/

namespace Sys2Proof.Machine

open Sys2Proof

/-- What a command answers. -/
abbrev Result := Host.Outcome State Fault Refusal

/-- The command's meaning as a change of state: every command whose operands are well formed completes. -/
def done (s : State) : Result := .next s

/-! ### Register cells (R7, R9) -/

/-- The value of a register-field cell. -/
def State.rg (s : State) (n : RN) (i : Nat) : Nat := lookD (n, i) (RN.reset n) s.regs

/-- A register-field cell set, cut to the field's width. -/
def setRg (n : RN) (i v : Nat) (s : State) : State := { s with regs := put (n, i) (v % 2 ^ RN.width n) s.regs }

/-- A counter raised by `k`, saturating at the field's width. -/
def bump (n : RN) (i k : Nat) (s : State) : State := setRg n i (min (s.rg n i + k) (2 ^ RN.width n - 1)) s

/-- A counter raised by one that wraps. -/
def wrapUp (n : RN) (i : Nat) (s : State) : State := setRg n i (s.rg n i + 1) s

/-- A peak register raised to `v` where it is lower. -/
def peak (n : RN) (i v : Nat) (s : State) : State := if s.rg n i < v then setRg n i v s else s

/-! ### The engines -/

/-- Whether the node's engines run: RESET_N high, power good, no fatal fault and no shutdown past its drain (R5, R516,
R534, R548). -/
def State.live (s : State) : Bool := !s.start.stopped && !s.start.inReset && s.start.powerGood

/-- A change of state that only a node whose engines run makes. -/
def live (f : State → State) (s : State) : State := if s.live then f s else s

/-! ### One block changed -/

/-- The state with the recorder changed. -/
def onEvr (f : EvrSt → EvrSt) (s : State) : State := { s with evr := f s.evr }

/-- The state with the monitor controller changed. -/
def onMon (f : MonSt → MonSt) (s : State) : State := { s with mon := f s.mon }

/-- The state with the time unit changed. -/
def onTime (f : TimeSt → TimeSt) (s : State) : State := { s with time := f s.time }

/-- The state with the composition unit changed. -/
def onComp (f : CompSt → CompSt) (s : State) : State := { s with comp := f s.comp }

/-- The state with the queues changed. -/
def onQue (f : QueSt → QueSt) (s : State) : State := { s with que := f s.que }

/-- The state with sequences and pages changed. -/
def onSeq (f : SeqSt → SeqSt) (s : State) : State := { s with seq := f s.seq }

/-- The state with Owl changed. -/
def onOwl (f : OwlSt → OwlSt) (s : State) : State := { s with owl := f s.owl }

/-- The state with Fox and Bear changed. -/
def onFox (f : FoxSt → FoxSt) (s : State) : State := { s with fox := f s.fox }

/-- The state with departures changed. -/
def onDep (f : DepSt → DepSt) (s : State) : State := { s with dep := f s.dep }

/-- The state with parking changed. -/
def onPark (f : ParkSt → ParkSt) (s : State) : State := { s with park := f s.park }

/-- The state with the fabric port changed. -/
def onPrt (f : PrtSt → PrtSt) (s : State) : State := { s with prt := f s.prt }

/-- The state with traffic control changed. -/
def onTrf (f : TrfSt → TrfSt) (s : State) : State := { s with trf := f s.trf }

/-- The state with memory changed. -/
def onMem (f : MemSt → MemSt) (s : State) : State := { s with mem := f s.mem }

/-- The state with the root of trust changed. -/
def onSec (f : SecSt → SecSt) (s : State) : State := { s with sec := f s.sec }

/-- The state with fault recovery changed. -/
def onRas (f : RasSt → RasSt) (s : State) : State := { s with ras := f s.ras }

/-- The state with start-up and shutdown changed. -/
def onStart (f : StartSt → StartSt) (s : State) : State := { s with start := f s.start }

/-- The state with the management pins changed. -/
def onPkg (f : PkgSt → PkgSt) (s : State) : State := { s with pkg := f s.pkg }

/-! ### What the node sends, and free values -/

/-- The state with one more thing sent. -/
def emit (x : Sent) (s : State) : State := { s with sent := x :: s.sent }

/-- The next free value (assumption 11). -/
def freeNow (s : State) : Nat := Config.freeValue s.freeCtr

/-- The state after a free value is taken. -/
def freeTaken (s : State) : State := { s with freeCtr := s.freeCtr + 1 }

/-- A completion code other than OK, where the spec ends the work and names no code of Table SCP-4 for it: a free value
(assumption 15). -/
def openCode (s : State) : Nat := 1 + freeNow s % 15

/-- A free pick of one of the numbers below `n` that satisfy `p` (assumption 11). -/
def pickBelow (n : Nat) (p : Nat → Bool) (s : State) : Option Nat :=
  (firstBelow n (fun i => p ((freeNow s + i) % n))).map (fun i => (freeNow s + i) % n)

/-- SHA3-512 as 64 bytes. -/
def digestOf (bs : List Byte) : List Byte := padTo 64 (Config.sha3 bs)

/-! ### Fabric time (R77, R97, Table TT-3) -/

/-- The length of a frame in nanoseconds. -/
def frameNs : Nat := 1048576

/-- The number of the frame in which the node's count lies. -/
def State.frame (s : State) : Nat := s.ft / frameNs

/-- The time state (TT_STATUS.STATE): 0 FREE, 1 ACQUIRING, 2 LOCKED, 3 HOLDOVER, 4 FAULT. -/
def State.tt (s : State) : Nat := s.rg .TT_STATUS_STATE 0

/-- Whether the time state serves requests (Table TT-4). -/
def State.timeServes (s : State) : Bool := s.tt == 2 || s.tt == 3

/-! ### Events (R567 to R570, R609) -/

/-- An item of a record's DATA: its width in bytes and its value (R609). -/
abbrev Item := Nat × Nat

/-- The 14 DATA bytes of a record. -/
def dataBytes (items : List Item) : List Byte := padTo 14 (items.flatMap (fun i => leBytes i.1 i.2))

/-- Codes that the limit never drops (R570). -/
def exemptCodes : List Nat := [0x0104, 0x0C04, 0x0D04, 0x0D05, 0x0E01, 0x0E03]

/-- Records of a code that may be written in a frame (R570, R578). -/
def codeLimit (code : Nat) (s : State) : Nat :=
  match firstBelow 32 (fun i => s.rg .EVR_X_CODE_LIMIT_VALID i == 1 && s.rg .EVR_X_CODE_LIMIT_CODE i == code) with
  | some i => s.rg .EVR_X_CODE_LIMIT_LIMIT i
  | none => max 1 (s.rg .EVR_LIMIT_PER_FRAME 0)

/-- The CONTEXT byte (R568). -/
def contextByte (car : Option Nat) (s : State) : Nat :=
  (match car with | some c => c % 16 | none => 16) + s.tt * 32

/-- The ring with a new record: at 8,192 records the oldest goes (R567). -/
def pushRecord (r : EvRec) (ring : List EvRec) : List EvRec := (r :: ring).take 8192

/-- A record written, whatever the limit. -/
def writeRecord (code : Nat) (car : Option Nat) (items : List Item) (s : State) : State :=
  let e := s.evr
  let r : EvRec :=
    { seq := e.next, ft := s.ft, code := code, ctx := contextByte car s, mark := 0xA5,
      supp := min (lookD code 0 e.supp) 65535, data := dataBytes items }
  let lost := e.ring.length ≥ 8192
  let s := { s with evr := { e with ring := pushRecord r e.ring, next := (e.next + 1) % 2 ^ 32, supp := (del code e.supp) } }
  when lost (bump .EVR_LOST_COUNT 0 1) s

/-- The recorder's counts brought to the running frame. -/
def freshCounts (s : State) : State :=
  if s.evr.frame = s.frame then s else { s with evr := { s.evr with frame := s.frame, counts := [] } }

/-- An event raised: a record, or a drop that is counted (R569, R570). -/
def raise (code : Nat) (car : Option Nat) (items : List Item) (s : State) : State :=
  let s := freshCounts s
  let n := lookD code 0 s.evr.counts
  if code ∈ exemptCodes ∨ n < codeLimit code s then
    let s := writeRecord code car items s
    { s with evr := { s.evr with counts := put code (n + 1) s.evr.counts } }
  else
    let s := { s with evr := { s.evr with supp := put code (lookD code 0 s.evr.supp + 1) s.evr.supp } }
    bump .EVR_SUPPRESSED_COUNT 0 1 s

/-- An event that is recorded only for the first occurrence of an item (a carriage, a sensor) in a frame. -/
def raiseFirst (code item : Nat) (car : Option Nat) (items : List Item) (s : State) : State :=
  if look (code, item) s.evr.firsts = some s.frame then s
  else raise code car items { s with evr := { s.evr with firsts := put (code, item) s.frame s.evr.firsts } }

/-! ### Ports and semaphores (R109, R123 to R127) -/

/-- The link state of Onzon port `p` (0 A, 1 B). -/
def State.onz (s : State) (p : Nat) : OnzSt := if p = 0 then s.onzA else s.onzB

/-- An Onzon port changed. -/
def setOnz (p : Nat) (o : OnzSt) (s : State) : State := if p = 0 then { s with onzA := o } else { s with onzB := o }

/-- Whether a port is UP or DEGRADED. -/
def OnzSt.isUp (o : OnzSt) : Bool := o.link == .up || o.link == .degraded

/-- Whether port `p` is UP or DEGRADED. -/
def State.portUp (s : State) (p : Nat) : Bool := (s.onz p).isUp

/-- Whether port `p` holds semaphore `n`. -/
def State.holdsSem (s : State) (p n : Nat) : Bool := (look n s.que.sems).any (fun x => x.owner == p)

/-- A result register with a status byte and DONE, for one port. -/
def result (st dn : RN) (p code : Nat) (s : State) : State := s |> setRg st p code |> setRg dn p 1

/-! ### Shutdown (R548) -/

/-- Whether commands are served: not once a shutdown has begun (R548). -/
def serving (s : State) : Bool := s.rg .BIST_SHUT_STATUS_STATE 0 < 2

/-! ### Expert windows (R14, R15, R70) -/

/-- Whether a port has the expert window of a block unlocked. -/
def State.expertOpen (s : State) (p block : Nat) : Bool := bit (s.rg .CMP_EXPERT_UNLOCK_BLOCKS p) block

/-- An access to an expert register: without unlock it is ignored and recorded (R15, event 0x0B01). -/
def expertDo (p block off : Nat) (f : State → State) (s : State) : State :=
  if s.expertOpen p block then f s else raise 0x0B01 none [(1, p), (3, off)] s

/-! ### Completion status codes (R16) -/

namespace Status
def ok : Nat := 0x00
def partial_ : Nat := 0x01
def staleEpoch : Nat := 0x02
def staleGen : Nat := 0x03
def noPage : Nat := 0x04
def frozen : Nat := 0x05
def tableBusy : Nat := 0x06
def claimed : Nat := 0x07
def late : Nat := 0x08
def retryAfter : Nat := 0x09
def uncorrectable : Nat := 0x0A
def accessDenied : Nat := 0x0B
def badCommand : Nat := 0x0C
def keyRetired : Nat := 0x0D
def timeHoldover : Nat := 0x0E
def aborted : Nat := 0x0F

/-- The codes in the order of R17: the first that applies is written. -/
def order : List Nat := [badCommand, accessDenied, staleEpoch, staleGen, keyRetired, claimed, tableBusy, frozen,
  timeHoldover, retryAfter, aborted, uncorrectable, noPage, late, partial_, ok]

/-- The first under R17 of two codes. -/
def first (a b : Nat) : Nat := (order.find? (fun c => c == a || c == b)).getD ok

/-- The first under R17 of several codes; OK of none. -/
def firstOf (l : List Nat) : Nat := l.foldl first ok
end Status

/-- The first failed check of a list of (passes, code); none when all pass. Checks are listed in the order of R17. -/
def firstFail : List (Bool × Nat) → Option Nat
  | [] => none
  | (c, st) :: r => if c then firstFail r else some st

/-! ### Life-cycle state (R489, R491) -/

/-- The life-cycle state: 0 MANUFACTURE, 1 PROVISIONED, 2 DEPLOYED, 3 SERVICE, 4 RETIRED. -/
def State.lc (s : State) : Nat := s.sec.fuses.lc

/-- The node's own ID (R24, R25). -/
def State.nodeId (s : State) : Nat :=
  s.rg .GLB_NODE_ADDR_RACK 0 * 128 + s.rg .GLB_NODE_ADDR_SLED 0 * 8 + s.rg .GLB_NODE_ADDR_NODE 0

/-! ### Which accesses are answered (R492, R495, R516, R544, R548, R554) -/

/-- Whether a RETIRED node answers an offset: GLB_PART_ID, GLB_NODE_ADDR, SEC_LC, SEC_UID and the attestation registers
(SEC_ATTEST, SEC_NONCE, SEC_REPORT, SEC_ID) (R492). -/
def retiredAnswers (off : Nat) : Bool :=
  let within := fun a b => decide (a ≤ off) && decide (off ≤ b)
  within 0 4 || off == 0xB00000 || within 0xB0000C 0xB00010 || off == 0xB00030 || within 0xB00040 0xB0007C ||
  within 0xB01000 0xB0243C || within 0xB03000 0xB04C3C

/-- Whether the register at an offset is answered now: in RETIRED the few of R492; in RECOVERY, and after a fatal fault,
those of the GLB and SEC basic windows; after a full self-test those of BIST; from step 1 of a shutdown those of GLB, SEC
and BIST; else every one, once step 4 of the start has ended or has failed (R544). -/
def State.answers (s : State) (off : Nat) : Bool :=
  let blk := off / 1048576
  let basic := decide (off % 1048576 < 524288)
  if s.lc = 4 then retiredAnswers off
  else if s.rg .SEC_BOOT_STATE 0 = 3 then basic && (blk == 0 || blk == 11)
  else if s.rg .BIST_STATUS_NEED_RESET 0 = 1 then basic && blk == 15
  else if s.start.stopped then basic && (blk == 0 || blk == 11)
  else if serving s = false then basic && (blk == 0 || blk == 11 || blk == 15)
  else decide (4 ∈ s.start.done) || s.start.tried

/-- Whether the node has power and is out of reset. -/
def State.powered (s : State) : Bool := !s.start.inReset && s.start.powerGood

/-- A change of state that a node makes which has power and is out of reset, its engines running or not. -/
def powered (f : State → State) (s : State) : State := if s.powered then f s else s

/-- A register access of port `p`: it reaches the node through an UP port, and takes effect where it is answered. -/
def access (p off : Nat) (f : State → State) (s : State) : State :=
  if s.powered && s.portUp p && s.answers off then f s else s

end Sys2Proof.Machine
end

