-- ==== Sys2Proof/Machine/Image.lean ====
section
/-! DEFINITION. What the sections of a composition image say (R34 to R44, R66, R69, R158 to R160, R360, R377, R411,
R417, R418, R432, R480, R322): one accessor for each field, over the section's bytes. -/

namespace Sys2Proof.Machine

open Sys2Proof

/-- The image that stands for no image in force: no section, so no valid carriage. -/
def Image.empty : Image := { raw := [], epoch := 0, sects := [] }

/-- The body of the section with a tag (Table CMP-2). -/
def Image.sect (im : Image) (tag : Nat) : List Byte := lookD tag [] im.sects

/-- The digest of an image: SHA3-512 of its bytes 0 to SIG_OFFSET − 1, the message that its signature covers (R37, Table
CMP-9). SIG_OFFSET lies in bytes 24 to 27 of the header. -/
def Image.digest (im : Image) : List Byte := digestOf (im.raw.take (u32 im.raw 24))

/-- The image in force. -/
def State.im (s : State) : Image := s.comp.image.getD Image.empty

/-- The image of the previous epoch, or the one in force where there is none. -/
def State.oldIm (s : State) : Image := s.comp.prev.getD s.im

/-- The image that serves a piece of work: the old map or the map in force (R62, R64). -/
def State.mapFor (s : State) (old : Bool) : Image := if old then s.oldIm else s.im

/-! ### Carriages (R40, Table CMP-3) -/

/-- The record of carriage `c`. -/
def Image.carRec (im : Image) (c : Nat) : List Byte := slice (im.sect 1) (64 + 64 * c) 64

def Image.drainUs (im : Image) : Nat := u16 (im.sect 1) 0
def Image.carValid (im : Image) (c : Nat) : Bool := c < 16 && bit (u8 (im.carRec c) 1) 0
def Image.isolated (im : Image) (c : Nat) : Bool := bit (u8 (im.carRec c) 1) 1
def Image.protected_ (im : Image) (c : Nat) : Bool := bit (u8 (im.carRec c) 1) 2
def Image.keySlots (im : Image) (c : Nat) : Nat := u32 (im.carRec c) 4
def Image.memGroups (im : Image) (c : Nat) : Nat := u64 (im.carRec c) 8
def Image.tiles (im : Image) (c : Nat) : Nat := u64 (im.carRec c) 16
def Image.owlBanks (im : Image) (c : Nat) : Nat := u16 (im.carRec c) 24
def Image.maxSeqs (im : Image) (c : Nat) : Nat := u32 (im.carRec c) 28
def Image.weightMib (im : Image) (c : Nat) : Nat := u32 (im.carRec c) 32

/-- The valid carriages. -/
def Image.cars (im : Image) : List Nat := (List.range 16).filter im.carValid

/-- The valid carriage that satisfies `p`, if one does. -/
def Image.carWith (im : Image) (p : Nat → Bool) : Option Nat := firstBelow 16 (fun c => im.carValid c && p c)

/-! ### Fox blocks and queues (R42, R43) -/

/-- The byte of Fox block `b`: a carriage, or 0xFF. -/
def Image.foxByte (im : Image) (b : Nat) : Nat := u8 (im.sect 4) b

def Image.queueBase (im : Image) (p c : Nat) : Nat := u16 (im.sect 5) (64 * p + 4 * c)
def Image.queueCount (im : Image) (p c : Nat) : Nat := u16 (im.sect 5) (64 * p + 4 * c + 2)

/-- Whether queue `q` lies in the range of carriage `c` (R43, R118). -/
def Image.queueIn (im : Image) (c q : Nat) : Bool :=
  let b := im.queueBase (q / 32768) c
  b ≤ q % 32768 && q % 32768 < b + im.queueCount (q / 32768) c

/-- The owner of a resource under an image. -/
def Image.owner (im : Image) : Res → Option Nat
  | .group g => im.carWith (fun c => bit (im.memGroups c) g)
  | .tile t => im.carWith (fun c => bit (im.tiles c) t)
  | .bank b => im.carWith (fun c => bit (im.owlBanks c) b)
  | .slot k => im.carWith (fun c => bit (im.keySlots c) k)
  | .fox b => if im.carValid (im.foxByte b) then some (im.foxByte b) else none
  | .queue q => im.carWith (fun c => im.queueIn c q)

/-- The owner of a resource now: a resource that moves belongs to its old owner until it is handed over (R59). -/
def State.owner (s : State) (r : Res) : Option Nat :=
  match look r s.comp.moved with
  | some .handed => s.im.owner r
  | some _ => s.oldIm.owner r
  | none => s.im.owner r

/-- Memory groups that a carriage owns now. -/
def State.groupsOf (s : State) (c : Nat) : List Nat := (List.range 64).filter (fun g => s.owner (.group g) == some c)

/-- The carriage whose work a resource does: work of the old map where `old` holds, else work of the map in force. A
resource that moves does only its old owner's old-epoch work until it is handed over, and from then on only its new owner's
work; one that stays serves both (R59). -/
def State.serves (s : State) (old : Bool) (r : Res) : Option Nat :=
  match look r s.comp.moved with
  | some .handed => if old then none else s.im.owner r
  | some _ => if old then s.oldIm.owner r else none
  | none => s.im.owner r

/-- Logical tiles that do a carriage's work. -/
def State.tilesOf (s : State) (old : Bool) (c : Nat) : List Nat :=
  (List.range 64).filter (fun t => s.serves old (.tile t) == some c)

/-- Owl banks that do a carriage's work. -/
def State.banksOf (s : State) (old : Bool) (c : Nat) : List Nat :=
  (List.range 16).filter (fun b => s.serves old (.bank b) == some c)

/-- Key slots that a carriage owns now. -/
def State.slotsOf (s : State) (c : Nat) : List Nat := (List.range 32).filter (fun k => s.owner (.slot k) == some c)

/-! ### Page format (R158 to R161, Table SEQ-1) -/

def Image.sizeCode (im : Image) : Nat := u8 (im.sect 2) 0
def Image.dirShare (im : Image) : Nat := u8 (im.sect 2) 1

/-- Bytes of a page's data area. -/
def Image.dataArea (im : Image) : Nat := 16384 * 2 ^ im.sizeCode

/-- Bytes of a frame: the data area and its side area. -/
def Image.frameSize (im : Image) : Nat := im.dataArea + im.dataArea / 32

/-- Bytes of a memory group. -/
def groupSize : Nat := 12884901888

/-- Bytes of a group's directory share (R160). -/
def Image.shareSize (im : Image) : Nat := groupSize / 64 * 2 ^ im.dirShare

/-- Frames of a group (R464). -/
def Image.framesPerGroup (im : Image) : Nat := (groupSize - im.shareSize) / im.frameSize

/-- Directory entries of a group. -/
def Image.entriesPerGroup (im : Image) : Nat := im.shareSize / 128

/-! ### Owl banks (R432) -/

/-- MODE of bank `b`: 0 OFF, 1 TCAM, 2 AUTOMATA. -/
def Image.bankMode (im : Image) (b : Nat) : Nat := u8 (im.sect 3) b % 4

/-- Whether bank `b` is a CLASSIFY bank. -/
def Image.bankClassify (im : Image) (b : Nat) : Bool := bit (u8 (im.sect 3) b) 2

/-- Whether bank `b` takes part in the cascade. -/
def Image.bankCascade (im : Image) (b : Nat) : Bool := bit (u8 (im.sect 3) b) 3

def Image.cascadeCount (im : Image) : Nat := u8 (im.sect 3) 16

/-- Whether bank `b` is a PREFIX bank. -/
def Image.bankPrefix (im : Image) (b : Nat) : Bool := im.bankMode b == 1 && !im.bankClassify b

/-! ### Traffic (R411, R417, R418) -/

def Image.refillExp (im : Image) : Nat := u8 (im.sect 6) 0

/-- The record of shaper `i` as values in force, with an empty bucket. -/
def Image.shaper (im : Image) (i : Nat) : Shaper :=
  let w := u32 (im.sect 6) (16 + 8 * i)
  { rate := bits w 0 18, enable := bit w 18, onSwitch := bit w 19, burst := u32 (im.sect 6) (20 + 8 * i) % 2 ^ 24,
    tokens := 0 }

/-- The default policer of carriage `c` for class `k`; 255 for none. -/
def Image.defaultPolicer (im : Image) (c k : Nat) : Nat := u8 (im.sect 7) (16 + 4 * c + k)

/-- The record of policer `j` as values in force, with empty buckets. -/
def Image.policer (im : Image) (j : Nat) : Policer :=
  let r := slice (im.sect 7) (80 + 16 * j) 16
  let m := u8 r 1
  { car := u8 r 0 % 16, valid := bit (u8 r 0) 7, twoRate := bit m 0, aware := bit m 1, yellowDrop := bit m 2,
    redPass := bit m 3, onSwitch := bit m 4, cbs := fieldAt r 2 3, ebs := fieldAt r 5 3, cir := bits (u32 r 8) 0 18,
    pir := bits (u32 r 12) 0 18, tc := 0, te := 0 }

/-- The owner byte of slot `k` on link `l`: a carriage, or 0xFF for an open slot. -/
def Image.slotOwner (im : Image) (l k : Nat) : Nat := if im.sect 8 = [] then 255 else u8 (im.sect 8) (32 * l + k)

def Image.isoCredit (im : Image) (l : Nat) : Nat := u8 (im.sect 8) (32 * l + 16)

/-- Whether a link has an owned slot. -/
def Image.linkOwned (im : Image) (l : Nat) : Bool := (List.range 16).any (fun k => im.slotOwner l k != 255)

/-- The distinct owners of slots on a link. -/
def Image.slotOwners (im : Image) (l : Nat) : List Nat :=
  ((List.range 16).map (im.slotOwner l)).foldl (fun acc o => if o = 255 then acc else addSet o acc) []

/-! ### Links and routes (R360, R377) -/

/-- The LANE_MAP record of a link. -/
def Image.lane (im : Image) (l : Nat) : List Byte := slice (im.sect 9) (32 * l) 32

def Image.linkEnabled (im : Image) (l : Nat) : Bool := bit (u8 (im.lane l) 0) 0
def Image.inRack (im : Image) (l : Nat) : Bool := bit (u8 (im.lane l) 0) 1
def Image.optical (im : Image) (l : Nat) : Bool := bit (u8 (im.lane l) 0) 2
def Image.spareLane (im : Image) (l : Nat) : Nat := u8 (im.lane l) 1
def Image.waveSpare (im : Image) (l : Nat) : Nat := u8 (im.lane l) 7
def Image.peerNode (im : Image) (l : Nat) : Nat := u16 (im.lane l) 8
def Image.peerLink (im : Image) (l : Nat) : Nat := u8 (im.lane l) 10

/-- The route entry of a destination. -/
def Image.route (im : Image) (d : Nat) : Nat := u32 (im.sect 10) (64 + 4 * d)

/-- The group entry of a multicast group. -/
def Image.group (im : Image) (g : Nat) : Nat := u32 (im.sect 10) (16448 + 4 * g)

def Image.groupValid (im : Image) (g : Nat) : Bool := bit (im.group g) 9
def Image.groupLocal (im : Image) (g : Nat) : Bool := bit (im.group g) 8
def Image.groupCar (im : Image) (g : Nat) : Nat := bits (im.group g) 12 4
def Image.groupInPort (im : Image) (g : Nat) : Nat := bits (im.group g) 16 4
def Image.groupLinks (im : Image) (g : Nat) : List Nat := bitsOf 8 (im.group g)

/-- The ROUTES record of a carriage. -/
def Image.carRoute (im : Image) (c : Nat) : List Byte := slice (im.sect 10) (32832 + 32 * c) 32

def Image.opQuota (im : Image) (c : Nat) : Nat := u16 (im.carRoute c) 0

/-- The NOTICE destinations of a carriage. -/
def Image.notices (im : Image) (c : Nat) : List Nat :=
  (List.range (u8 (im.carRoute c) 2)).map (fun i => u16 (im.carRoute c) (4 + 2 * i) % 4096)

/-! ### Coupling trees (R322, Table DEP-6) -/

def Image.treeCount (im : Image) : Nat := u16 (im.sect 11) 0
def Image.ctxQuota (im : Image) (c : Nat) : Nat := u16 (im.sect 11) (4 + 2 * c)
def Image.bufQuota (im : Image) (c : Nat) : Nat := u16 (im.sect 11) (36 + 2 * c)

/-- The tree records. -/
def Image.trees (im : Image) : List (List Byte) :=
  (List.range im.treeCount).map (fun i => slice (im.sect 11) (128 + 32 * i) 32)

/-- This node's record of tree `g`. -/
def Image.tree (im : Image) (g : Nat) : Option (List Byte) := im.trees.find? (fun r => u16 r 0 == g)

namespace Tree
def car (r : List Byte) : Nat := u8 r 2
def contributor (r : List Byte) : Bool := bit (u8 r 3) 0
def coupler (r : List Byte) : Bool := bit (u8 r 3) 1
def root (r : List Byte) : Bool := bit (u8 r 3) 2
def upNode (r : List Byte) : Nat := u16 r 4 % 4096
def upSlot (r : List Byte) : Nat := u8 r 6
def level (r : List Byte) : Nat := u8 r 7
def parent (r : List Byte) : Nat := u16 r 8 % 4096
def parentSlot (r : List Byte) : Nat := u8 r 10
def fanin (r : List Byte) : Nat := u8 r 11
def subtree (r : List Byte) : Nat := u16 r 12
def closeLead (r : List Byte) : Nat := u16 r 14
def leafLead (r : List Byte) : Nat := u16 r 16
end Tree

/-! ### CXL ranges (R480, R481, Table MEM-5) -/

/-- A valid CXL range. -/
structure CxlRange where
  index : Nat
  ports : List Nat
  car : Nat
  base : Nat
  size : Nat
deriving DecidableEq, Repr

/-- The valid ranges in record order. -/
def Image.cxlRanges (im : Image) : List CxlRange :=
  ((List.range (u8 (im.sect 12) 0)).map (fun r =>
    let b := slice (im.sect 12) (16 + 16 * r) 16
    (bit (u8 b 1) 7, { index := r, ports := bitsOf 4 (u8 b 0), car := u8 b 1 % 16, base := u32 b 4, size := u32 b 8 }))
  ).filterMap (fun e => if e.1 then some e.2 else none)

/-- Bytes of a CXL frame: whole blocks of 256 bytes that hold 252 each (R481). -/
def Image.cxlFrame (im : Image) : Nat := ceilDiv im.frameSize 252 * 256

/-- Frames of a range. -/
def Image.rangeFrames (im : Image) (r : CxlRange) : Nat := r.size * 268435456 * r.ports.length / im.cxlFrame

/-- The half of a range's ports (R482). -/
def CxlRange.half (r : CxlRange) : Nat := (r.ports.headD 0) / 2

/-! ### Departure grid, ownership, grants (R97, R66, R69) -/

/-- The grid exponent K: 20 while no image is in force (R97). -/
def State.gridK (s : State) : Nat :=
  match s.comp.image with
  | some im => u8 (im.sect 13) 0
  | none => 20

/-- Whether a time is a point of the departure grid. -/
def State.gridPoint (s : State) (t : Nat) : Bool := t % 2 ^ s.gridK == 0

/-- The owner code of shared resource `i` (R66); 0 while no image is in force. -/
def State.ownerCode (s : State) (i : Nat) : Nat := u8 (s.im.sect 14) i

/-- The expert grants: BLOCKS, PORTS, MAX_UNLOCK_S. -/
def Image.grants (im : Image) : List (Nat × Nat × Nat) :=
  (chunks 16 8 (im.sect 15)).map (fun g => (u16 g 0, u8 g 2, u16 g 4))

/-- MAX_UNLOCK_S of the first grant that allows port `p` every block of a mask (R70). Where several single grants each name
the port and every block, the spec does not say whose MAX_UNLOCK_S bounds the unlock: the first one's does (DESIGN CHOICE,
assumption 36). -/
def Image.grantFor (im : Image) (p blocks : Nat) : Option Nat :=
  ((im.grants.filter (fun g => bit g.2.1 p && blocks == Nat.land blocks g.1)).map (fun g => g.2.2)).head?

/-- Whether a grant names port `p` and block `b`. -/
def Image.grantNames (im : Image) (p b : Nat) : Bool := im.grants.any (fun g => bit g.2.1 p && bit g.1 b)

/-! ### The epoch test (R62) -/

/-- How a request with an epoch is treated. -/
inductive EpochUse where
  | new | old | hold | stale
deriving DecidableEq, Repr

/-- R62: how a request is treated that names epoch `e`. -/
def EpochView.use (x : EpochView) (e : Nat) : EpochUse :=
  if x.cur = some e then .new else if e ∈ x.old then .old else if x.armed = some e then .hold else .stale

/-- The epochs as they stand now: that of the map in force, the previous one within the drain window, the armed one. -/
def State.seenNow (s : State) : EpochView :=
  { cur := s.comp.image.map Image.epoch
    old := if s.rg .CMP_STATUS_STATE 0 = 6 then (s.comp.prev.map Image.epoch).toList else []
    armed := if s.rg .CMP_STATUS_STATE 0 = 5 then s.comp.staged.map Image.epoch else none }

/-- A boundary passes: the map in force becomes an old one, and the armed one comes into force (R58, R63). -/
def EpochView.cross (x : EpochView) : EpochView := { cur := x.armed, old := x.old ++ x.cur.toList, armed := none }

/-- The armed switch is cancelled (R63). -/
def EpochView.disarm (x : EpochView) : EpochView := { x with armed := none }

/-- How a request that reaches the node now is treated. -/
def State.epochUse (s : State) (e : Nat) : EpochUse := s.seenNow.use e

/-- How a message is treated, by its epoch field and the moment it reached the node (R62). -/
def RxEntry.epochUse (m : RxEntry) (e : Nat) : EpochUse := m.seen.use e

/-- The image of the map that serves a request, or will. -/
def State.mapOf (s : State) : EpochUse → Image
  | .old => s.oldIm
  | .hold => s.comp.staged.getD s.im
  | _ => s.im

end Sys2Proof.Machine
end

