-- ==== Sys2Proof/Machine/Packet.lean ====
section
/-! DEFINITION. The transport header of fabric packets (R375, Table PRT-6) and the message types (R374). -/

namespace Sys2Proof.Machine

open Sys2Proof

/-! ### Message types (Table PRT-5) -/

namespace MTy
def attnReq : Nat := 1
def attnPart : Nat := 2
def append : Nat := 3
def appendShadow : Nat := 4
def rmaWrite : Nat := 5
def rmaRead : Nat := 6
def rmaResp : Nat := 7
def ack : Nat := 8
def nak : Nat := 9
def timeXfer : Nat := 10
def faultNotice : Nat := 11
def parkXfer : Nat := 12
end MTy

/-- The class of a message type: 0 CONTROL, 1 ATTN, 2 RESP, 3 BULK. -/
def mClass (ty : Nat) : Nat := match ty with
  | 1 | 2 | 3 | 4 => 1
  | 5 | 6 | 12 => 3
  | 7 => 2
  | _ => 0

/-! ### Fields of the header -/

namespace H
def mtype (b : List Byte) : Nat := u8 b 0
def flags (b : List Byte) : Nat := u8 b 1
def pinned (b : List Byte) : Bool := bit (u8 b 1) 0
def mcast (b : List Byte) : Bool := bit (u8 b 1) 1
def needAck (b : List Byte) : Bool := bit (u8 b 1) 3
def dest (b : List Byte) : Nat := u16 b 2 % 4096
def src (b : List Byte) : Nat := u16 b 4 % 4096
def car (b : List Byte) : Nat := u8 b 6 % 16
def hops (b : List Byte) : Nat := u8 b 7
def epoch (b : List Byte) : Nat := u16 b 8
def plen (b : List Byte) : Nat := u16 b 10
def opId (b : List Byte) : Nat := u32 b 12
def msgLen (b : List Byte) : Nat := u32 b 16
def msgOff (b : List Byte) : Nat := u32 b 20
def rkind (b : List Byte) : Nat := u8 b 24
def rflags (b : List Byte) : Nat := u8 b 25
def rgen (b : List Byte) : Nat := u16 b 26
def rkey (b : List Byte) : Nat := u32 b 28
def roff (b : List Byte) : Nat := u64 b 32
def respKind (b : List Byte) : Nat := u8 b 40
def respGen (b : List Byte) : Nat := u16 b 42
def respKey (b : List Byte) : Nat := u32 b 44
def respOff (b : List Byte) : Nat := u64 b 48
def status (b : List Byte) : Nat := u8 b 56
def reason (b : List Byte) : Nat := u8 b 57
def detail (b : List Byte) : Nat := u16 b 58
def result (b : List Byte) : Nat := u64 b 60
def sendFt (b : List Byte) : Nat := u64 b 68
def echo (b : List Byte) : List Byte := slice b 76 8
end H

/-- The class of a packet. -/
def pClass (b : List Byte) : Nat := mClass (H.mtype b)

/-- The frame bytes that shapers and policers count (R406): L = 24 + FLEN. -/
def frameLen (b : List Byte) : Nat := 24 + 104 + ceilDiv (b.length - 104) 8 * 8

/-- What a message header names; fields left out are 0. -/
structure Hdr where
  mtype : Nat
  flags : Nat := 0
  dest : Nat
  car : Nat
  epoch : Nat
  rkind : Nat := 0
  rflags : Nat := 0
  rgen : Nat := 0
  rkey : Nat := 0
  roff : Nat := 0
  respKind : Nat := 0
  respGen : Nat := 0
  respKey : Nat := 0
  respOff : Nat := 0
  status : Nat := 0
  reason : Nat := 0
  detail : Nat := 0
  result : Nat := 0
  echo : List Byte := zeros 8
  msgLen : Nat
deriving DecidableEq, Repr

/-- The 104 header bytes of a message's packet at offset `off` with `n` payload bytes (HOPS 16, R375). -/
def Hdr.bytes (h : Hdr) (src opId sendFt off n : Nat) : List Byte :=
  leBytes 1 h.mtype ++ leBytes 1 h.flags ++ leBytes 2 h.dest ++ leBytes 2 src ++ leBytes 1 h.car ++ leBytes 1 16 ++
  leBytes 2 h.epoch ++ leBytes 2 n ++ leBytes 4 opId ++ leBytes 4 h.msgLen ++ leBytes 4 off ++ leBytes 1 h.rkind ++
  leBytes 1 h.rflags ++ leBytes 2 h.rgen ++ leBytes 4 h.rkey ++ leBytes 8 h.roff ++ leBytes 1 h.respKind ++ zeros 1 ++
  leBytes 2 h.respGen ++ leBytes 4 h.respKey ++ leBytes 8 h.respOff ++ leBytes 1 h.status ++ leBytes 1 h.reason ++
  leBytes 2 h.detail ++ leBytes 8 h.result ++ leBytes 8 sendFt ++ padTo 8 h.echo ++ zeros 20

/-- A header with HOPS one lower (R381). -/
def lowerHops (b : List Byte) : List Byte := overwrite b 7 (leBytes 1 (H.hops b - 1))

/-- Types that carry a STATUS (Table PRT-6). -/
def hasStatus (ty : Nat) : Bool := ty == MTy.ack || ty == MTy.nak || ty == MTy.rmaResp

/-- Whether a packet keeps the rules of R375 and R376: reserved bits 0, PLEN what its place in the message asks, and a STATUS
that Table SCP-4 holds, since no node writes one from 0x10 to 0xFF (R18). -/
def packetWell (b : List Byte) : Bool :=
  let want := if H.mtype b = MTy.rmaRead then 0 else min 4096 (H.msgLen b - H.msgOff b)
  decide (b.length = 104 + H.plen b) && decide (H.plen b = want) && decide (H.msgLen b ≤ 1048576) &&
  decide (H.msgOff b % 4096 = 0) && decide (H.msgOff b < max 1 (H.msgLen b)) && decide (H.flags b < 16) &&
  decide (u16 b 2 < 4096) && decide (u16 b 4 < 4096) && decide (u8 b 6 < 16) && decide (H.rflags b < 16) &&
  u8 b 41 == 0 && allZero (slice b 84 20) && (!hasStatus (H.mtype b) || decide (H.status b < 16))

/-- What every packet of a message shares: its header without PLEN and MSG_OFF (R376), RETX of the send it belongs to, and
the HOPS left of its way. -/
def sameHeader (b : List Byte) : List Byte :=
  [H.mtype b, H.flags b % 4 + H.flags b / 8 * 8].flatMap (leBytes 1) ++ slice b 2 5 ++ slice b 8 2 ++ slice b 12 8 ++ slice b 24 80

end Sys2Proof.Machine
end

