-- ==== Sys2Proof/Machine/Egress.lean ====
section
/-! DEFINITION. A link's output: shapers, the timetable and the egress order (R406 to R412, R418 to R424), credits and
the replay buffer (R369 to R373). -/

namespace Sys2Proof.Machine

open Sys2Proof

/-- A latched value at a frame. -/
def Latch.at (l : Latch) (frame : Nat) : Nat := if l.frame < frame then l.new else l.old

/-- A latch after a write in a frame. -/
def Latch.write (l : Latch) (frame v : Nat) : Latch := { old := l.at frame, new := v, frame := frame }

/-- Link `l`. -/
def State.link (s : State) (l : Nat) : Link := lookD l Link.init s.prt.links

/-- A link changed. -/
def setLink (l : Nat) (k : Link) (s : State) : State := { s with prt := { s.prt with links := put l k s.prt.links } }

/-- The time transfer of link `l`. -/
def State.linkTime (s : State) (l : Nat) : LinkTime := lookD l LinkTime.init s.time.links

def setLinkTime (l : Nat) (t : LinkTime) (s : State) : State := onTime (fun x => { x with links := put l t x.links }) s

/-- Whether a link is UP or in REPAIR. -/
def Link.open_ (k : Link) : Bool := k.st == .up || k.st == .repair

/-- A carriage's event of a class recorded first in a frame. -/
def raiseCar (code c : Nat) (items : List Item) (s : State) : State := raiseFirst code c (some c) items s

/-! ### Shapers -/

/-- Shaper `i` in force. -/
def State.shaper (s : State) (i : Nat) : Shaper := lookD i (s.im.shaper i) s.trf.shapers

def setShaper (i : Nat) (x : Shaper) (s : State) : State :=
  { s with trf := { s.trf with shapers := put i x s.trf.shapers } }

/-- The shaper of a frame at a link's output (R409). -/
def shaperIndex (c l k : Nat) : Nat := 32 * c + 4 * l + k

/-- Whether the shaper lets a frame start: classes 1 to 3 only (R407, R409). -/
def shaperPasses (s : State) (l : Nat) (p : OutPkt) : Bool :=
  let x := s.shaper (shaperIndex (H.car p.body) l p.cls)
  p.cls == 0 || !x.enable || decide (frameLen p.body * 1024 ≤ x.tokens)

/-- The tokens of a starting frame taken. -/
def shaperTake (l : Nat) (p : OutPkt) (s : State) : State :=
  let i := shaperIndex (H.car p.body) l p.cls
  let x := s.shaper i
  if p.cls = 0 ∨ x.enable = false then s else setShaper i { x with tokens := x.tokens - frameLen p.body * 1024 } s

/-! ### Credits (R370, R422) -/

/-- The image whose slots hold: until the drain window closes the old one (R428). -/
def State.slotIm (s : State) : Image := if s.rg .CMP_STATUS_STATE 0 = 6 then s.oldIm else s.im

/-- Credits a DATA frame costs, in 128-byte units. -/
def linkCost (b : List Byte) : Nat := ceilDiv (frameLen b) 128

/-- Whether a packet spends the holds of an ISOLATED carriage on a link. -/
def usesHold (s : State) (l : Nat) (p : OutPkt) : Bool :=
  p.cls != 0 && s.slotIm.isolated (H.car p.body) && decide (H.car p.body ∈ s.slotIm.slotOwners l)

/-- The holds of one class follow the owners: owners that stay keep theirs, new ones are filled from what is free. -/
def holdsFor (owners : List Nat) (iso k : Nat) (x : Link) : Link :=
  let had := x.isoCredits.filter (fun e => e.1.2 == k)
  let gone := sumOf Prod.snd (had.filter (fun e => decide (e.1.1 ∉ owners)))
  let x := { x with isoCredits := x.isoCredits.filter (fun e => e.1.2 != k || decide (e.1.1 ∈ owners)),
                    credits := put k (lookD k 0 x.credits + gone) x.credits }
  forEach owners (fun c x =>
    if has (c, k) x.isoCredits then x
    else
      let n := min iso (lookD k 0 x.credits)
      { x with isoCredits := put (c, k) n x.isoCredits, credits := put k (lookD k 0 x.credits - n) x.credits }) x

/-- Every link's ISO_CREDIT holds follow the owners of the slots now in force (R428). -/
def isoFollow (s : State) : State :=
  forEach (List.range 8) (fun l s =>
    if (s.link l).st = .up ∨ (s.link l).st = .repair then
      setLink l (forEach [1, 2, 3] (holdsFor (s.slotIm.slotOwners l) (s.slotIm.isoCredit l)) (s.link l)) s
    else s) s

def hasCredit (s : State) (l : Nat) (p : OutPkt) : Bool :=
  let k := s.link l
  if usesHold s l p then decide (linkCost p.body ≤ lookD (H.car p.body, p.cls) 0 k.isoCredits)
  else decide (linkCost p.body ≤ lookD p.cls 0 k.credits)

/-! ### Link frames (R369, R371, Table PRT-4) -/

/-- FLEN: bytes of transport header and padded payload of a DATA frame; 0 for other types. -/
def LFrame.flen (f : LFrame) : Nat := if f.ltype = 1 then 104 + ceilDiv (f.body.length - 104) 8 * 8 else 0

/-- The 16-byte link header. -/
def LFrame.header (f : LFrame) : List Byte :=
  leBytes 1 f.ltype ++ leBytes 1 f.flags ++ leBytes 2 f.flen ++ leBytes 4 f.lseq ++
  leBytes 4 (match f.ack with
    | some a => a + 2 ^ 31
    | none => 0) ++
  leBytes 2 (match f.credit with
    | some c => c.2 + c.1 * 2 ^ 12 + 2 ^ 15
    | none => 0) ++ leBytes 2 f.op

/-- The bytes after the header, before the CRC-64: a DATA frame's padded to a multiple of 8. -/
def LFrame.inner (f : LFrame) : List Byte := if f.ltype = 1 then padTo f.flen f.body else f.body

/-- The bytes of a frame on the link. The CRC takes each byte with its most significant bit first (DEDUCED, assumption 12). -/
def LFrame.wire (f : LFrame) : List Byte :=
  let b := f.header ++ f.inner
  b ++ leBytes 8 (crc64 (b.flatMap byteBits))

/-- How many bytes these are. -/
def LFrame.size (f : LFrame) : Nat := 24 + (if f.ltype = 1 then f.flen else f.body.length)

/-- The 64-bit byte counter of a link raised. -/
def addBytes (lo hi : RN) (l n : Nat) (s : State) : State :=
  let v := s.rg lo l + s.rg hi l * 2 ^ 32 + n
  s |> setRg lo l v |> setRg hi l (v / 2 ^ 32)

/-- Frame bytes of link `l` received (R403). -/
def linkGot (l n : Nat) (s : State) : State := addBytes .PRT_Ln_RX_LO_BYTES_LO .PRT_Ln_RX_HI_BYTES_HI l n s

/-- A frame put on the link, its bytes counted (R403). -/
def linkEmit (l : Nat) (f : LFrame) (s : State) : State :=
  s |> emit (.link l f) |> addBytes .PRT_Ln_TX_LO_BYTES_LO .PRT_Ln_TX_HI_BYTES_HI l f.size

/-- A DATA or LCTRL frame sent: it takes the next LSEQ and is kept for replay. -/
def linkTransmit (l ltype flags op : Nat) (body : List Byte) (s : State) : State :=
  let k := s.link l
  let f : LFrame := { lseq := k.txSeq, ltype := ltype, flags := flags, op := op, body := body }
  s |> setLink l { k with txSeq := (k.txSeq + 1) % 2 ^ 24, replay := k.replay ++ [(f, s.clk)] } |> linkEmit l f

/-- LACK: the last LSEQ received in order. -/
def linkAck (l seq : Nat) (s : State) : State := linkEmit l { ltype := 2, ack := some seq } s

/-- LNAK: the peer replays from the LSEQ after the last received in order (DEDUCED, assumption 12). -/
def linkNak (l expected : Nat) (s : State) : State := linkEmit l { ltype := 3, ack := some ((expected + 2 ^ 24 - 1) % 2 ^ 24) } s

/-! ### The timetable (R418 to R420, R424, R428) -/

/-- Whether a link keeps slots and control gaps now. -/
def State.slotted (s : State) (l : Nat) : Bool := s.trf.everLocked && s.slotIm.linkOwned l

/-- Whether the node's count lies in a control gap. -/
def State.inGap (s : State) : Bool := decide (s.ft % 128 < 16)

/-- Whether the timetable lets a frame start now. Where every slot is open (R421, R424) no frame of an ISOLATED carriage starts,
for it never uses an open slot (R420; DEDUCED, assumption 34). -/
def slotAllows (s : State) (l : Nat) (p : OutPkt) : Bool :=
  if p.cls = 0 then true
  else if s.slotted l = false then !s.slotIm.isolated (H.car p.body)
  else
    let t := ceilDiv (frameLen p.body) 200
    let slot := 2 ^ (s.gridK - 4)
    let owner := s.slotIm.slotOwner l (s.ft % 2 ^ s.gridK / slot)
    let c := H.car p.body
    decide (s.ft % slot + t ≤ slot) && decide (16 ≤ s.ft % 128) && decide (s.ft % 128 + t ≤ 128) &&
    (if owner = 255 then !s.slotIm.isolated c else owner == c)

/-- Bytes of the replay buffer in use: 1 MiB in all (R371). -/
def Link.replayUse (k : Link) : Nat := sumOf (fun e => e.1.size) k.replay

/-- Whether the replay buffer has room for a DATA frame. 1 KiB stays free for LCTRL frames (assumption 36). -/
def replayFits (k : Link) (p : OutPkt) : Bool := decide (k.replayUse + frameLen p.body + 1024 ≤ 1048576)

/-- Whether a waiting packet may start now (R371, R373, R409, R420). -/
def mayStart (s : State) (l : Nat) (p : OutPkt) : Bool :=
  hasCredit s l p && shaperPasses s l p && slotAllows s l p && replayFits (s.link l) p

/-! ### The egress order (R421) -/

/-- The first waiting packet of carriage `c` and class `k`: frames of one carriage and class keep their order. -/
def headOf (q : List OutPkt) (c k : Nat) : Option OutPkt := q.find? (fun p => p.cls == k && H.car p.body == c)

/-- The packet of class `k` that starts next: carriages in round robin after the one served last. -/
def pickClass (s : State) (l k : Nat) : Option OutPkt :=
  let q := (s.link l).outq
  let last := lookD k 15 (s.link l).rr
  ((List.range 16).filterMap (fun i =>
    (headOf q ((last + 1 + i) % 16) k).bind (fun p => if mayStart s l p then some p else none))).head?

/-- RESP and BULK weights in force (R430). -/
def State.wrr (s : State) : Nat × Nat :=
  let v := s.trf.wrr.at s.frame
  (max 1 (bits v 0 4), max 1 (bits v 4 4))

/-- The packet that starts next on a link: CONTROL, ATTN, then RESP and BULK by weight. -/
def pickNext (s : State) (l : Nat) : Option OutPkt :=
  let n := lookD 4 0 (s.link l).rr
  let respFirst := decide (n < s.wrr.1)
  let order := if respFirst then [0, 1, 2, 3] else [0, 1, 3, 2]
  order.findSome? (fun k => pickClass s l k)

/-- The first element equal to `p` taken out of a queue. -/
def dropFirst (p : OutPkt) : List OutPkt → List OutPkt
  | [] => []
  | q :: r => if q = p then r else q :: dropFirst p r

/-! ### Receive buffers (R370, R422, R423) -/

/-- Credits returned to the peer of a link: an LCREDIT frame. -/
def linkReturn (l cls units : Nat) (s : State) : State := linkEmit l { ltype := 4, credit := some (cls, units) } s

/-- Bytes of link `l`'s slot buffer that carriage `c` uses. -/
def State.slotUse (s : State) (l c : Nat) : Nat := lookD (l, c) 0 s.trf.slotBuf

def setSlotUse (l c n : Nat) (s : State) : State := onTrf (fun t => { t with slotBuf := put (l, c) n t.slotBuf }) s

/-- Whether a copy of an arrived frame still waits for an output. -/
def copyWaits (s : State) (a : Arrival) : Bool :=
  s.prt.links.any (fun k => k.2.outq.any (fun p => p.from_.any (fun x => x.owed && x.link == a.link && x.lseq == a.lseq)))

/-- The room of an arrived frame goes back once no copy of it waits. -/
def arrivalLeft (a : Option Arrival) (body : List Byte) (s : State) : State :=
  match a with
  | none => s
  | some a =>
    if a.owed = false ∨ copyWaits s a then s
    else if a.slot then setSlotUse a.link (H.car body) (s.slotUse a.link (H.car body) - frameLen body) s
    else linkReturn a.link (pClass body) (linkCost body) s

/-- The departure of the node's own TIME_XFER captured with its fraction as it starts on the link; the fraction is free (R90,
assumption 11). -/
def captureDeparture (l : Nat) (b : List Byte) (s : State) : State :=
  if H.mtype b = MTy.timeXfer then
    let t := s.linkTime l
    s |> setLinkTime l { t with sent := ((u64 b 104 / frameNs, s.ft * 256 + freeNow s % 256) :: t.sent).take 2 } |> freeTaken
  else s

/-- A packet started: credits, tokens, round robins, the frame itself. -/
def startPacket (l : Nat) (p : OutPkt) (s : State) : State :=
  let k := s.link l
  let cost := linkCost p.body
  let c := H.car p.body
  let k := { k with outq := dropFirst p k.outq, rr := put p.cls c k.rr }
  let k := if usesHold s l p then { k with isoCredits := put (c, p.cls) (lookD (c, p.cls) 0 k.isoCredits - cost) k.isoCredits }
    else { k with credits := put p.cls (lookD p.cls 0 k.credits - cost) k.credits }
  let n := lookD 4 0 k.rr
  let k := if p.cls = 2 ∨ p.cls = 3 then { k with rr := put 4 ((n + 1) % (s.wrr.1 + s.wrr.2)) k.rr } else k
  s |> setLink l k |> shaperTake l p |> linkTransmit l 1 p.cls 0 p.body |> captureDeparture l p.body |> arrivalLeft p.from_ p.body

/-- Waiting packets that only a shaper holds counted once (R410). -/
def countHeld (l : Nat) (s : State) : State :=
  let k := s.link l
  let fresh := k.outq.filter (fun p => !p.held && !shaperPasses s l p)
  let k := { k with outq := k.outq.map (fun p => if shaperPasses s l p then p else { p with held := true }) }
  forEach fresh (fun p s => bump .TRF_C_HELD_COUNT (H.car p.body) 1 s) (setLink l k s)

/-- The link's output takes the next frame allowed to start, if there is one and the link is UP (R368, R421). -/
def egress (l : Nat) (s : State) : State :=
  let s := countHeld l s
  if (s.link l).st = .up then
    match pickNext s l with
    | some p => startPacket l p s
    | none => s
  else s

/-- A packet given to a link's output: it starts at once on an idle output that lets it (R373), else it waits. -/
def place (l : Nat) (from_ : Option Arrival) (body : List Byte) (s : State) : State :=
  let k := s.link l
  let p : OutPkt := { cls := pClass body, body := body, from_ := from_, held := false }
  let s' := setLink l { k with outq := k.outq ++ [p] } s
  if k.outq.isEmpty then egress l s' else s'

end Sys2Proof.Machine
end

