-- ==== Sys2Proof/Machine/Onz.lean ====
section
/-! DEFINITION. The Onzon link: what a port sends, credits, replay, acknowledgement, and the reads of host memory
(R111 to R117, R132). The link commands themselves are in Onzon.lean. -/

namespace Sys2Proof.Machine

open Sys2Proof

/-! ### Frame types (Table QUE-3) -/

namespace OTy
def ctrlRd : Nat := 1
def ctrlWr : Nat := 2
def ctrlResp : Nat := 3
def memRd : Nat := 4
def memWr : Nat := 5
def memResp : Nat := 6
def ack : Nat := 7
def nak : Nat := 8
def credit : Nat := 9
def idle : Nat := 10
def linkReset : Nat := 11
end OTy

/-- Whether a type is sequenced. -/
def oSequenced (ty : Nat) : Bool := 1 ≤ ty && ty ≤ 6

/-- The flow-control class of a type: 0 P, 1 N, 2 C, 3 none. -/
def oClass (ty : Nat) : Nat := match ty with
  | 2 | 5 => 0
  | 1 | 4 => 1
  | 3 | 6 => 2
  | _ => 3

/-- Credits a frame of LEN bytes costs, in 256-byte units (R115). -/
def lenCost (len : Nat) : Nat := ceilDiv (16 + len) 256

/-- Credits a frame costs. -/
def oCost (f : OFrame) : Nat := lenCost f.len

/-- The 16-byte header of a frame with sequence number `seq` (Table QUE-2); an unsequenced type's SEQ is TAG's place for the
number that an ACK or NAK names (Table QUE-3). -/
def OFrame.header (f : OFrame) (seq : Nat) : List Byte :=
  leBytes 1 f.ty ++ leBytes 1 f.flags ++ leBytes 2 f.len ++ leBytes 2 seq ++ leBytes 2 f.tag ++ leBytes 8 f.addr

/-- The bytes of a frame on the link: header, payload and the CRC-32 of both (R111). The CRC takes each byte with its most
significant bit first, and lies in the trailer as a little-endian field (DEDUCED, assumption 12). -/
def OFrame.wire (f : OFrame) (seq : Nat) : List Byte :=
  let b := f.header seq ++ f.payload
  b ++ leBytes 4 (crc32 (b.flatMap byteBits))

/-- Bytes that a sequenced frame takes of the replay buffer: header, payload and trailer. -/
def OFrame.size (f : OFrame) : Nat := 20 + f.payload.length

/-- Bytes of the replay buffer, of each port and direction (R116). -/
def replaySize : Nat := 524288

/-- Whether the replay buffer of a port has room for a frame. -/
def replayRoom (o : OnzSt) (f : OFrame) : Bool := decide (sumOf (fun e => e.2.1.size) o.replay + f.size ≤ replaySize)

/-- An unsequenced frame sent. -/
def oSendCtl (p ty tag addr : Nat) (s : State) : State :=
  emit (.onzon p none { ty := ty, flags := 0, tag := tag, addr := addr, len := 0, payload := [] }) s

/-- A control frame that returns credits to the adapter: P and N in 256-byte units (R115, Table QUE-3). -/
def returnCredit (p posted reads : Nat) (s : State) : State := oSendCtl p OTy.credit 0 (posted + reads * 65536) s

/-- The answer of a CTRL_RD leaves: its tag is free again, and the credits of its frame go back (R114, R115). -/
def answerLeaves (p : Nat) (f : OFrame) (s : State) : State :=
  match (if f.ty = OTy.ctrlResp then look f.tag (s.onz p).ctrlTags else none) with
  | some cost => s |> setOnz p { s.onz p with ctrlTags := del f.tag (s.onz p).ctrlTags } |> returnCredit p 0 cost
  | none => s

/-- A sequenced frame put on the link: it takes the next SEQ and its credits, and is kept until acknowledged. -/
def oTransmit (p : Nat) (f : OFrame) (s : State) : State :=
  let o := s.onz p
  let cls := oClass f.ty
  let o := { o with
    txSeq := (o.txSeq + 1) % 65536
    replay := o.replay ++ [(o.txSeq, f, s.clk)]
    creditP := if cls = 0 then o.creditP - oCost f else o.creditP
    creditN := if cls = 1 then o.creditN - oCost f else o.creditN }
  s |> emit (.onzon p (some (s.onz p).txSeq) f) |> setOnz p o |> answerLeaves p f

/-- The frames that wait, sent as credits and the replay buffer allow: a class P frame holds later P and C frames back, a
class N frame only later N frames (R115, R117); one that finds no room in the replay buffer holds back every later one
(R116). -/
def oFlushFrom (p : Nat) : List OFrame → Bool → Bool → State → State
  | [], _, _, s => s
  | f :: r, heldP, heldN, s =>
    let o := s.onz p
    let cls := oClass f.ty
    let hold := match cls with
      | 0 => heldP || decide (o.creditP < oCost f)
      | 1 => heldN || decide (o.creditN < oCost f)
      | _ => heldP
    if replayRoom o f = false then
      oFlushFrom p r true true (setOnz p { o with outq := o.outq ++ [f] } s)
    else if hold then
      oFlushFrom p r (heldP || cls == 0) (heldN || cls == 1) (setOnz p { o with outq := o.outq ++ [f] } s)
    else oFlushFrom p r heldP heldN (oTransmit p f s)

/-- The waiting frames of a port sent as credits allow. -/
def oFlush (p : Nat) (s : State) : State :=
  let q := (s.onz p).outq
  oFlushFrom p q false false (setOnz p { s.onz p with outq := [] } s)

/-- A sequenced frame sent. One for a port that is not UP or DEGRADED is not sent; what of it R120 counts is the caller's
to say. -/
def oSend (p : Nat) (f : OFrame) (s : State) : State :=
  if s.portUp p then oFlush p (setOnz p { s.onz p with outq := (s.onz p).outq ++ [f] } s) else s

/-- A write of host memory, in frames of at most 4,096 bytes. A last word that the data fill in part is filled up with 0:
a frame's LEN is a multiple of 4 (R111). -/
def memWriteAs (due : Bool) (p addr flags : Nat) (data : List Byte) (s : State) : State :=
  let data := padTo (ceilDiv data.length 4 * 4) data
  forEach ((chunks (data.length / 4096 + 1) 4096 data).zipIdx) (fun c s =>
    oSend p { ty := OTy.memWr, flags := flags, tag := 0, addr := addr + 4096 * c.2, len := c.1.length, payload := c.1,
              due := due } s) s

/-- Data written to host memory. -/
def memWrite (p addr flags : Nat) (data : List Byte) (s : State) : State := memWriteAs false p addr flags data s

/-- A completion entry or an interrupt written to host memory. -/
def memWriteDue (p addr flags : Nat) (data : List Byte) (s : State) : State := memWriteAs true p addr flags data s

/-- Data in clear written to host memory. -/
def memWritePadded (p addr : Nat) (data : List Byte) (s : State) : State := memWrite p addr 0 data s

/-- Something due on a port that is DOWN: counted, and the first per DOWN recorded (R120). -/
def undelivered (p : Nat) (s : State) : State :=
  let first := !(s.onz p).dropSeen
  s |> bump .QUE_CQE_DROP p 1 |> setOnz p { s.onz p with dropSeen := true } |> when first (raise 0x0305 none [])

/-! ### Reads of host memory (R114, R132) -/

/-- Reads that wait, issued while a tag of the 4,096 is free. -/
def oIssue : Nat → Nat → State → State
  | 0, _, s => s
  | fuel + 1, p, s =>
    let o := s.onz p
    match o.reads, pickBelow 4096 (fun t => !has t o.tags) s with
    | (use, addr, len) :: r, some tag =>
      let s := setOnz p { o with reads := r, tags := o.tags ++ [(tag, use)] } (freeTaken s)
      let s := oSend p { ty := OTy.memRd, flags := 0, tag := tag, addr := addr, len := len, payload := [] } s
      oIssue fuel p s
    | _, _ => s

/-- A MEM_RD asked for. Its header's LEN names the bytes asked for, in whole words (DEDUCED, assumption 12). -/
def memRead (p : Nat) (use : MemUse) (addr len : Nat) (s : State) : State :=
  let o := s.onz p
  let s := setOnz p { o with reads := o.reads ++ [(use, addr, ceilDiv len 4 * 4)] } s
  oIssue (s.onz p).reads.length p s

/-! ### Receiving (R116) -/

/-- A received sequenced frame whose SEQ is the next one runs `k` and is acknowledged (ACK at once, DESIGN CHOICE,
assumption 12); any other is discarded, counted as a CRC error and answered with NAK (R112, R116). -/
def oReceive (p seq : Nat) (k : State → State) (s : State) : State :=
  let o := s.onz p
  if !o.isUp then s
  else if seq = o.rxSeq then
    s |> setOnz p { o with rxSeq := (seq + 1) % 65536, lastRx := s.clk } |> oSendCtl p OTy.ack 0 seq |> k
  else
    s |> setOnz p { o with lastRx := s.clk } |> bump .QUE_PORT_ERR_CRC p 1 |> oSendCtl p OTy.nak 0 o.rxSeq

/-- Whether sequence number `a` is at or before `b` in a window of half the numbers. -/
def seqLe (w a b : Nat) : Bool := wsub w b a < 2 ^ (w - 1)

/-- The node replays every frame of a port from `seq` on (R116). -/
def oReplayFrom (p seq : Nat) (s : State) : State :=
  let o := s.onz p
  let again := o.replay.filter (fun e => seqLe 16 seq e.1)
  let s := forEach again (fun e s => emit (.onzon p (some e.1) e.2.1) s) s
  let o := { o with replay := o.replay.map (fun e => if seqLe 16 seq e.1 then (e.1, e.2.1, s.clk) else e) }
  s |> setOnz p o |> when (!again.isEmpty) (bump .QUE_PORT_ERR_REPLAY p 1)

end Sys2Proof.Machine
end

