-- ==== Sys2Proof/Machine/Fabric.lean ====
section
/-! DEFINITION. Routing (R379 to R381), operations and placement (R383 to R387), messages the node sends and answers
(R388, R392), and FAULT_NOTICE (R400, R517 to R520). -/

namespace Sys2Proof.Machine

open Sys2Proof

/-! ### Routing -/

/-- The map of a packet's epoch on this node (R62, R379): the old map, the armed one, or the one in force. -/
def packetMap (s : State) (b : List Byte) : Image :=
  match s.epochUse (H.epoch b) with
  | .old => s.oldIm
  | .hold => s.comp.staged.getD s.im
  | _ => s.im

/-- Whether a packet's carriage is PROTECTED in the map of its epoch (R379). -/
def confined (s : State) (b : List Byte) : Bool := (packetMap s b).protected_ (H.car b)

/-- Whether a link in state `st` may carry a packet: confinement, and never back where it came from. -/
def mayUse (s : State) (b : List Byte) (from_ : Option Nat) (st : LState) (l : Nat) : Bool :=
  (s.link l).st == st && (!confined s b || s.im.inRack l) && from_ != some l

/-- The candidate links of a unicast packet (R380); links in REPAIR where no other is left (R368). -/
def candidates (s : State) (b : List Byte) (from_ : Option Nat) : List Nat :=
  let r := (packetMap s b).route (H.dest b)
  let sets := if bit r 16 then [bitsOf 8 r, bitsOf 8 (r / 256)] else []
  let picks := (sets.map (fun l => l.filter (mayUse s b from_ .up))) ++
    (sets.map (fun l => l.filter (mayUse s b from_ .repair)))
  (picks.find? (fun l => !l.isEmpty)).getD []

/-- The first candidate after the last one chosen. -/
def nextRound (l : List Nat) (last : Nat) : Nat := ((l.filter (fun x => decide (last < x))) ++ l).headD 0

/-- The link a packet takes (R380, PRT_X_SPRAY). -/
def chooseLink (s : State) (b : List Byte) (cs : List Nat) : Nat :=
  let mode := s.rg .PRT_X_SPRAY_MODE 0
  if H.pinned b ∨ mode = 2 then nth 0 cs (Config.pinned (H.opId b) cs.length % cs.length)
  else if mode = 1 then nextRound cs s.prt.rrLink
  else
    let free := fun l => lookD (pClass b) 0 (s.link l).credits
    let best := ((mostBy free cs).map free).getD 0
    nextRound (cs.filter (fun l => free l == best)) s.prt.rrLink

/-! ### Operations and receive entries (R383 to R387) -/

/-- Whether a message takes an operation entry while it is received: more than one packet, not yet complete. -/
def RxEntry.counts (e : RxEntry) : Bool := decide (4096 < H.msgLen e.hdr) && H.mtype e.hdr != MTy.rmaRead && !e.complete

/-- Operation entries in use by carriage `c`. -/
def State.opsOf (s : State) (c : Nat) : Nat :=
  countOf (fun e => e.2.car == c && !e.2.notice) s.prt.ops + countOf (fun e => e.2.car == c && e.2.counts) s.prt.rx

/-- Operation entries in use. -/
def State.opsInUse (s : State) : Nat := s.prt.ops.length + countOf (fun e => e.2.counts) s.prt.rx

/-- Whether carriage `c` may take one more ordinary entry (256 of the 65,536 are held for FAULT_NOTICE). -/
def State.opFree (s : State) (c : Nat) : Bool :=
  decide (s.opsOf c < s.im.opQuota c) &&
  decide (countOf (fun e => !e.2.notice) s.prt.ops + countOf (fun e => e.2.counts) s.prt.rx < 65280)

/-- Whether one of the 256 entries held for FAULT_NOTICE is free. -/
def State.noticeFree (s : State) : Bool := decide (countOf (fun e => e.2.notice) s.prt.ops < 256)

/-- Types kept in the port's message memory (R385). -/
def inMsgMemory (ty : Nat) : Bool := ty == 3 || ty == 4 || ty == 11 || ty == 12

/-- Bytes of message memory in use (R387). -/
def State.msgMem (s : State) : Nat := sumOf (fun e => e.2.mem) s.prt.rx

/-- What the arrival of the packet that holds message byte 0 fixes: its FT, the map epochs and LEAD_ADJ as they stand now (R62,
R308, R330). -/
def RxEntry.arrives (e : RxEntry) (s : State) : RxEntry :=
  { e with headAt := s.ft, seen := s.seenNow, lead := s.dep.leadAdj.at s.frame }

/-- The packet's bytes put into its receive entry (R384). A packet whose header is not that of its message breaks R376. -/
def rxPut (key : Nat × Nat) (e : RxEntry) (b : List Byte) (s : State) : State :=
  let i := H.msgOff b / 4096
  if i ∈ e.got ∨ sameHeader b ≠ sameHeader e.hdr then
    s |> bump .PRT_C_DUP_COUNT e.car 1 |> when (H.mtype b == MTy.attnPart) (bump .PRT_DEP_C_DUP_COUNT e.car 1)
  else
    let n := if H.mtype b = MTy.rmaRead then H.msgLen b else H.plen b
    let e := if H.msgOff b = 0 then e.arrives s else e
    let e := { e with got := e.got ++ [i], parts := e.parts ++ [(H.msgOff b, b.drop 104)], count := e.count + n,
                      complete := e.count + n == H.msgLen e.hdr }
    { s with prt := { s.prt with rx := put key e s.prt.rx } }

/-- Whether (SRC, OP_ID) lies in the NAK filter (R392). -/
def State.filtered (s : State) (key : Nat × Nat) : Bool :=
  (look key s.prt.nakf).any (fun t => decide (s.clk < t + 100000))

/-- The name of an answer's receive entry: ACK, NAK and RMA_RESP answer an operation of this node, and never meet the
entry of a sender's own operation that has the same OP_ID (R375, R384; log entry 34). -/
def answerKey (src op : Nat) : Nat × Nat := (src + 4096, op)

/-- The name of a packet's receive entry: (SRC, OP_ID) of a request (R384). -/
def rxKey (b : List Byte) : Nat × Nat :=
  if H.mtype b == MTy.rmaResp || H.mtype b == MTy.ack || H.mtype b == MTy.nak then answerKey (H.src b) (H.opId b)
  else (H.src b, H.opId b)

/-- A packet of a message to this node placed in its receive entry, which its first packet allocates (R376, R384,
R387, R392). The node drops what it may not answer before READY (R544). -/
def receive (b : List Byte) (s : State) : State :=
  let key := rxKey b
  let c := H.car b
  let ty := H.mtype b
  if s.rg .BIST_SUP_PHASE 0 < 5 then bump .BIST_EARLY_COUNT 0 1 s
  else if packetWell b = false then bump .PRT_C_DUP_COUNT c 1 s
  else if s.filtered key then s
  else
    match look key s.prt.rx with
    | some e => rxPut key e b s
    | none =>
      let e : RxEntry :=
        { hdr := b.take 104, car := c, count := 0, got := [], parts := [], since := s.clk,
          mem := if inMsgMemory ty then H.msgLen b else 0, complete := false, held := false, coach := none,
          headAt := s.ft, seen := s.seenNow, lead := s.dep.leadAdj.at s.frame }
      if e.counts ∧ s.opFree c = false then bump .PRT_C_NOENTRY_COUNT c 1 s
      else if s.msgMem + e.mem > 4194304 then
        s |> bump .PRT_C_MSGMEM_DROP_COUNT c 1 |> raiseFirst 0x0710 0 (some c) [(1, c), (1, ty)]
      else
        let s := rxPut key e b s
        peak .PRT_OPS_PEAK_PEAK 0 s.opsInUse s

/-- The bytes of a complete message, in order. -/
def RxEntry.message (e : RxEntry) : List Byte := (sortBy Prod.fst e.parts).flatMap Prod.snd

/-- A receive entry freed. -/
def rxFree (key : Nat × Nat) (s : State) : State := { s with prt := { s.prt with rx := del key s.prt.rx } }

/-- A unicast packet routed: delivered here, sent towards its destination, or dropped (R380, R381). -/
def routePacket (from_ : Option Arrival) (b : List Byte) (s : State) : State :=
  if H.dest b = s.nodeId then receive b s
  else
    let cs := candidates s b (from_.map Arrival.link)
    if cs.isEmpty then
      s |> bump .PRT_NOROUTE_COUNT 0 1 |> raiseFirst 0x0707 0 (some (H.car b)) [(2, H.dest b)]
    else
      let l := chooseLink s b cs
      place l from_ b { s with prt := { s.prt with rrLink := l } }

/-! ### Messages the node sends -/

/-- The packets of a message from its header template: offsets and lengths (R376). -/
def packetsOf (tmpl payload : List Byte) (retx : Bool) : List (List Byte) :=
  let tmpl := if retx then overwrite tmpl 1 (leBytes 1 (Nat.lor (H.flags tmpl) 4)) else tmpl
  if payload.isEmpty then [tmpl]
  else ((chunks (payload.length / 4096 + 1) 4096 payload).zipIdx).map (fun c =>
    overwrite (overwrite tmpl 10 (leBytes 2 c.1.length)) 20 (leBytes 4 (4096 * c.2)) ++ c.1)

/-- Every packet of a message routed. -/
def sendPackets (tmpl payload : List Byte) (retx : Bool) (s : State) : State :=
  forEach (packetsOf tmpl payload retx) (routePacket none) s

/-- The next operation ID: a free slot with its incarnation (R375). -/
def nextOpId (s : State) : Nat :=
  let slot := (pickBelow 65536 (fun i => s.prt.ops.all (fun e => e.1 % 65536 != i)) s).getD 65535
  slot + lookD slot 0 s.prt.incs * 65536

/-- The incarnation of an operation's slot raised. -/
def opIdTaken (op : Nat) (s : State) : State :=
  let slot := op % 65536
  { s with prt := { s.prt with incs := put slot ((lookD slot 0 s.prt.incs + 1) % 65536) s.prt.incs } }

/-- A message that holds no operation entry: ACK, NAK, RMA_RESP, ATTN_PART. -/
def sendPlain (h : Hdr) (op : Nat) (payload : List Byte) (s : State) : State :=
  sendPackets (h.bytes s.nodeId op s.ft 0 0) payload false s

/-- A message sent under a new operation ID and kept until it is answered (R383). -/
def sendOp (h : Hdr) (payload : List Byte) (cmd : Option Nat) (window : Option (Nat × Nat)) (notice : Bool)
    (s : State) : State :=
  let op := nextOpId s
  let tmpl := h.bytes s.nodeId op s.ft 0 0
  let e : SendOp :=
    { mtype := h.mtype, car := h.car, hdr := tmpl, payload := payload, sends := 1, sentAt := s.clk, cmd := cmd,
      window := window, notice := notice }
  let s := freeTaken (opIdTaken op s)
  let s := { s with prt := { s.prt with ops := put op e s.prt.ops } }
  let s := peak .PRT_OPS_PEAK_PEAK 0 s.opsInUse s
  sendPackets tmpl payload false s

/-- The header of an answer to a received message (R388, R392, R396). -/
def answerHdr (e : RxEntry) (ty : Nat) : Hdr :=
  { mtype := ty, dest := H.src e.hdr, car := e.car, epoch := H.epoch e.hdr, echo := H.echo e.hdr, msgLen := 0 }

/-- A command or message that ends ABORTED counted (Table FLT-7). -/
def noteAborted (status c : Nat) (s : State) : State := when (status == Status.aborted) (bump .RAS_C_ABORTED_COUNT c 1) s

/-- A complete message answered with ACK and its entry freed (R388). Messages without NEED_ACK get no answer. -/
def ackMsg (key : Nat × Nat) (e : RxEntry) (status detail result : Nat) (s : State) : State :=
  let s := s |> rxFree key |> noteAborted status e.car
  if H.needAck e.hdr then
    sendPlain { answerHdr e MTy.ack with status := status, detail := detail, result := result } key.2 [] s
  else s

/-- A message refused with NAK: its entry is freed and its further packets are filtered (R392). -/
def nakMsg (key : Nat × Nat) (e : RxEntry) (status reason detail : Nat) (s : State) : State :=
  let s := rxFree key s
  let s := { s with prt := { s.prt with nakf := ((key, s.clk) :: del key s.prt.nakf).take 1024 } }
  let s := s |> noteAborted status e.car |> when (status == Status.retryAfter) (bump .PRT_C_RETRY_AFTER_COUNT e.car 1)
  sendPlain { answerHdr e MTy.nak with status := status, reason := reason, detail := detail } key.2 [] s

/-- Types of requests that a node whose shutdown has begun does not start (R548): APPEND, APPEND_SHADOW, RMA_WRITE,
RMA_READ, PARK_XFER. A new coach contributes LATE instead (Table DEP-2). -/
def refusedAtShutdown (ty : Nat) : Bool := ty == 3 || ty == 4 || ty == 5 || ty == 6 || ty == 12

/-- Whether a message comes too late for a node whose shutdown has begun: a request whose work had not begun. -/
def RxEntry.tooLate (e : RxEntry) (s : State) : Bool := !serving s && e.coach.isNone && refusedAtShutdown (H.mtype e.hdr)

/-- A STALE_EPOCH completion counted; the first after a drain window is recorded (R62, Table CMP-10). -/
def countStale (s : State) : State :=
  let first := s.comp.firstStale
  { s with comp := { s.comp with firstStale := false } } |> bump .CMP_STALE_CNT_COUNT 0 1
    |> when first (raise 0x0209 none [])

/-! ### FAULT_NOTICE (R517 to R520) -/

/-- The notify interrupt of a port, at most one per 10 µs; later ones wait (R520). On a port that is DOWN it is not delivered
and counts (R120). -/
def notifyPort (p : Nat) (s : State) : State :=
  if s.rg .RAS_NOTIFY_EN_EN p = 0 then s
  else if (look p s.ras.notifyAt).any (fun t => decide (s.clk < t + 10000)) then
    { s with ras := { s.ras with notifyDue := addSet p s.ras.notifyDue } }
  else
    let addr := s.rg .RAS_NOTIFY_ADDR_LO_ADDR_LO p + s.rg .RAS_NOTIFY_ADDR_HI_ADDR_HI p * 2 ^ 32
    let s := { s with ras := { s.ras with notifyAt := put p s.clk s.ras.notifyAt, notifyDue := remSet p s.ras.notifyDue } }
    if s.portUp p then memWriteDue p addr 1 (leBytes 4 (s.rg .RAS_NOTIFY_DATA_DATA p)) s else undelivered p s

/-- The notify interrupts of both ports. -/
def notifyBoth (s : State) : State := s |> notifyPort 0 |> notifyPort 1

/-- The destinations of a notice, each with the first carriage that names it. -/
def noticeDests (im : Image) (cars : List Nat) : List (Nat × Nat) :=
  cars.foldl (fun acc c => (im.notices c).foldl (fun acc d => if has d acc then acc else acc ++ [(d, c)]) acc) []

/-- The 32-byte payload of Table PRT-10. -/
def noticePayload (node cause cars ft detail : Nat) : List Byte :=
  leBytes 2 node ++ leBytes 1 cause ++ zeros 1 ++ leBytes 2 cars ++ zeros 2 ++ leBytes 8 ft ++ leBytes 8 detail ++ zeros 8

/-- One FAULT_NOTICE sent under a reserved entry; while none of the 256 is free it waits (R383, R400; assumption 36). -/
def sendNotice (d c : Nat) (pay : List Byte) (s : State) : State :=
  if s.noticeFree then
    sendOp { mtype := MTy.faultNotice, flags := 8, dest := d, car := c, epoch := s.im.epoch, msgLen := 32 } pay none none true s
  else onPrt (fun x => { x with notices := x.notices ++ [(d, c, pay)] }) s

/-- The oldest notice that waits sent, once a reserved entry is free. -/
def sendWaitingNotice (s : State) : State :=
  match s.prt.notices with
  | [] => s
  | n :: rest =>
    if s.noticeFree then s |> onPrt (fun x => { x with notices := rest }) |> sendNotice n.1 n.2.1 n.2.2 else s

/-- A FAULT_NOTICE sent to the NOTICE destinations of carriages, once per cause and detail in a frame, while time
serves (TIME_FAULT always) and NOTICE_EN allows (TIME_FAULT and FATAL always) (R400, R517, R519). -/
def notice (cause : Nat) (cars : List Nat) (detail : Nat) (s : State) : State :=
  let allowed := s.rg .RAS_CTRL_NOTICE_EN 0 == 1 || cause == 0x01 || cause == 0x0C
  let timely := s.timeServes || cause == 0x01
  if !allowed || !timely || decide ((cause, detail, s.frame) ∈ s.ras.sentNotices) then s
  else
    let pay := noticePayload s.nodeId cause (bitMap cars) s.ft detail
    let here := s.ras.sentNotices.filter (fun e => e.2.2 == s.frame)
    let s := onRas (fun r => { r with sentNotices := (cause, detail, s.frame) :: here }) s
    let s := forEach (noticeDests s.im cars) (fun d => sendNotice d.1 d.2 pay) s
    s |> bump .RAS_NOTICE_TX_COUNT 0 1 |> setRg .RAS_LAST_TX_CAUSE 0 cause
      |> raise 0x0C01 none [(1, cause), (2, bitMap cars), (8, detail)] |> notifyBoth

/-- A notice that names every valid carriage. -/
def noticeAll (cause detail : Nat) (s : State) : State := notice cause s.im.cars detail s

end Sys2Proof.Machine
end

