-- ==== Sys2Proof/Machine/Memory.lean ====
section
/-! DEFINITION. HBM and CXL memory: the byte table, the symbol code and its errors, retired frames, patrol scrub, and
the CXL ports (R463 to R485). Bytes are kept in clear: the symbol code and the XTS encryption of R475 are inverses of
themselves around the media (assumption 10). -/

namespace Sys2Proof.Machine

open Sys2Proof

/-! ### The byte table -/

/-- The byte at an address: 0 where none is listed (assumption 4). -/
def memGet (a : Nat) : List Host.Cell → Byte
  | [] => 0
  | (b, v) :: r => if b = a then v else if a < b then 0 else memGet a r

/-- A byte set: addresses stay strictly rising, and a byte of 0 is not listed. -/
def memSet (a : Nat) (v : Byte) : List Host.Cell → List Host.Cell
  | [] => if v = 0 then [] else [(a, v)]
  | (b, w) :: r =>
    if a < b then (if v = 0 then (b, w) :: r else (a, v) :: (b, w) :: r)
    else if a = b then (if v = 0 then r else (a, v) :: r)
    else (b, w) :: memSet a v r

/-- Whether a table is in canonical form, every address being at least `lo`. -/
def memWfFrom (lo : Nat) : List Host.Cell → Bool
  | [] => true
  | (a, v) :: r => decide (lo ≤ a) && v != 0 && memWfFrom (a + 1) r

/-- Whether a table is in canonical form. -/
def memWf (m : List Host.Cell) : Bool := memWfFrom 0 m

/-- `n` bytes from an address on. -/
def memGetN (a n : Nat) (m : List Host.Cell) : List Byte := (List.range n).map (fun i => memGet (a + i) m)

/-- Bytes written from an address on. -/
def memSetN (a : Nat) : List Byte → List Host.Cell → List Host.Cell
  | [], m => m
  | b :: r, m => memSetN (a + 1) r (memSet a b m)

/-! ### Addresses -/

/-- Address of byte `a` of a memory group (R464): groups lie 2^34 apart. -/
def hbmAddr (g a : Nat) : Nat := g * 2 ^ 34 + a

/-- Address of byte `off` of a carriage's CXL frame: above every HBM address. -/
def cxlAddr (c f off : Nat) : Nat := 2 ^ 40 + c * 2 ^ 50 + f * 2 ^ 19 + off

/-- The first byte of a frame (R464, R481); none for a page that is only in a cold image. -/
def locBase (im : Image) : Loc → Option Nat
  | .hbm g f => some (hbmAddr g (im.shareSize + f * im.frameSize))
  | .cxl c f => some (cxlAddr c f 0)
  | .cold => none

/-- Codewords of 32 bytes, counted over all groups; CXL blocks of 252 data bytes lie above them. -/
def codeKey (a : Nat) : Nat :=
  if a < 2 ^ 40 then a / 32 else 2 ^ 62 + (a - 2 ^ 40) / 2 ^ 19 * 2 ^ 12 + a % 2 ^ 19 / 252

/-- Whether a codeword or block lies within `n` bytes from `a` on. -/
def inSpan (a n key : Nat) : Bool := n != 0 && decide (codeKey a ≤ key) && decide (key ≤ codeKey (a + n - 1))

/-- The codewords or blocks in error within a span, with their symbols in error. -/
def badIn (s : State) (a n : Nat) : List (Nat × Nat) := s.mem.bad.filter (fun e => inSpan a n e.1)

/-- Whether every codeword of a span can be read: at most one symbol in error each (R466). -/
def spanReadable (s : State) (a n : Nat) : Bool := (badIn s a n).all (fun e => e.2 < 2)

/-- A codeword or block marked clean. -/
def cleanKey (key : Nat) (s : State) : State := onMem (fun m => { m with bad := del key m.bad }) s

/-! ### CXL frames (R480 to R482) -/

/-- The range that holds a carriage's CXL frame, and the frame's number within it. -/
def frameRange (im : Image) (c : Nat) : List CxlRange → Nat → Option (CxlRange × Nat)
  | [], _ => none
  | r :: rest, f =>
    if r.car ≠ c then frameRange im c rest f
    else if f < im.rangeFrames r then some (r, f) else frameRange im c rest (f - im.rangeFrames r)

/-- The range of a carriage's CXL frame under the map in force. -/
def State.cxlPlace (s : State) (c f : Nat) : Option (CxlRange × Nat) := frameRange s.im c s.im.cxlRanges f

/-- CXL port `n`. -/
def State.cxlPort (s : State) (n : Nat) : Cxl := lookD n Cxl.init s.mem.cxl

def setCxl (n : Nat) (c : Cxl) (s : State) : State := onMem (fun m => { m with cxl := put n c m.cxl }) s

/-- Whether a CXL port is UP or DEGRADED. -/
def Cxl.active (c : Cxl) : Bool := c.st == .up || c.st == .degraded

/-- Whether a range is disabled under R478. -/
def rangeDisabled (s : State) (r : CxlRange) : Bool := r.ports.any (fun n => decide (r.index ∈ (s.cxlPort n).disabled))

/-- Whether every port of a range serves it (R479). -/
def rangeServed (s : State) (r : CxlRange) : Bool := r.ports.all (fun n => (s.cxlPort n).active) && !rangeDisabled s r

/-- The port and device address of byte `off` of stored block bytes in a range: interleaved at 4 KiB (R480). -/
def deviceAddr (r : CxlRange) (off : Nat) : Nat × Nat :=
  let n := max 1 r.ports.length
  (nth 0 r.ports (off / 4096 % n), r.base * 268435456 + off / 4096 / n * 4096 + off % 4096)

/-- The port and device address of block `b` of a CXL frame. -/
def State.cxlDevice (s : State) (c f b : Nat) : Nat × Nat :=
  match s.cxlPlace c f with
  | some (r, i) => deviceAddr r (i * s.im.cxlFrame + 256 * b)
  | none => (0, 0)

/-- Whether a place is reached now: any HBM frame, or a CXL frame whose ports serve its range. -/
def locServed (s : State) : Loc → Bool
  | .hbm _ _ => true
  | .cxl c f => (s.cxlPlace c f).any (fun x => rangeServed s x.1)
  | .cold => false

/-- The half of a place: of its group, or of the ports of its range (R463, R482). -/
def locHalf (s : State) : Loc → Nat
  | .hbm g _ => g / 32
  | .cxl c f => ((s.cxlPlace c f).map (fun x => x.1.half)).getD 0
  | .cold => 0

/-- How a frame is named in the retired list: group and frame, or 64 + port and device address (R473). -/
def frameKey (s : State) : Loc → Nat × Nat
  | .hbm g f => (g, f)
  | .cxl c f => (64 + (s.cxlDevice c f 0).1, (s.cxlDevice c f 0).2)
  | .cold => (0, 0)

/-! ### Errors found (R469 to R474) -/

/-- A frame noted as having held an uncorrectable codeword. -/
def noteBadFrame (k : Nat × Nat) (s : State) : State := onSeq (fun x => { x with badFrames := addSet k x.badFrames }) s

/-- The carriage's last uncorrectable error. -/
def lastUe (c group : Nat) (cxl : Bool) (addr : Nat) (s : State) : State :=
  s |> setRg .MEM_C_LAST_UE_LO_ADDR_LO c addr |> setRg .MEM_C_LAST_UE_HI_ADDR_HI c (addr / 2 ^ 32)
    |> setRg .MEM_C_LAST_UE_HI_GROUP c group |> setRg .MEM_C_LAST_UE_HI_CXL c (b2n cxl) |> setRg .MEM_C_LAST_UE_HI_VALID c 1

/-- The corrected codewords of a pseudo-channel in the running frame. -/
def State.pcCount (s : State) (i : Nat) : Nat :=
  match look i s.mem.pcCorr with
  | some (f, n) => if f = s.frame then n else 0
  | none => 0

/-- An HBM codeword found in error, by a read (0) or by scrub (1). -/
def hbmError (finder key sym : Nat) (s : State) : State :=
  let g := key * 32 / 2 ^ 34
  let ga := key * 32 % 2 ^ 34
  let pc := 8 * g + ga / 256 % 8
  let owner := s.owner (.group g)
  if sym < 2 then
    s |> bump .MEM_X_STACK_ERR_CORR (g / 4) 1 |> whenSome owner (fun c => bump .MEM_C_CORR_COUNT c 1)
      |> onMem (fun m => { m with pcCorr := put pc (s.frame, s.pcCount pc + 1) m.pcCorr })
  else
    let s := if s.im.shareSize ≤ ga then noteBadFrame (g, (ga - s.im.shareSize) / s.im.frameSize) s else s
    s |> bump .MEM_X_STACK_ERR_UNCORR (g / 4) 1
      |> whenSome owner (fun c s => s |> bump .MEM_C_UNCORR_COUNT c 1 |> lastUe c g false ga)
      |> raise 0x0A01 owner [(7, ga), (1, finder)]

/-- A CXL block found in error. -/
def cxlError (key sym : Nat) (s : State) : State :=
  let k := (key - 2 ^ 62) / 2 ^ 12
  let c := k / 2 ^ 31
  let f := k % 2 ^ 31
  let b := key % 2 ^ 12
  if sym < 2 then bump .MEM_C_CXL_CORR_COUNT c 1 s
  else
    let port := (s.cxlDevice c f b).1
    let range := ((s.cxlPlace c f).map (fun x => x.1.index)).getD 0
    s |> noteBadFrame (frameKey s (.cxl c f)) |> bump .MEM_C_CXL_UNCORR_COUNT c 1 |> lastUe c port true (f * 2 ^ 20 + b)
      |> raise 0x0A03 (some c) [(1, port), (1, range), (4, b)]

/-- A codeword or block in error met by a read. -/
def codeError (finder : Nat) (e : Nat × Nat) (s : State) : State :=
  if e.1 < 2 ^ 62 then hbmError finder e.1 e.2 s else cxlError e.1 e.2 s

/-- The errors of a span counted. -/
def noteSpan (a n : Nat) (s : State) : State := forEach (badIn s a n) (codeError 0) s

/-! ### Reads and writes of places -/

/-- Whether `n` bytes from byte `off` of a place can be read (R469, R479). -/
def canRead (s : State) (l : Loc) (off n : Nat) : Bool :=
  locServed s l && (match locBase s.im l with | some b => spanReadable s (b + off) n | none => false)

/-- The bytes of a place, as they stand. -/
def locBytes (s : State) (l : Loc) (off n : Nat) : List Byte :=
  match locBase s.im l with
  | some b => memGetN (b + off) n s.mem.bytes
  | none => zeros n

/-- The errors of a read of a place counted. -/
def noteRead (l : Loc) (off n : Nat) (s : State) : State :=
  match locBase s.im l with
  | some b => if locServed s l then noteSpan (b + off) n s else s
  | none => s

/-- Bytes of a place read: none where a codeword cannot be corrected or a port is DOWN; every error met is counted. -/
def readLoc (l : Loc) (off n : Nat) (s : State) : Option (List Byte) × State :=
  (if canRead s l off n then some (locBytes s l off n) else none, noteRead l off n s)

/-- The first and last key of the codewords that a write covers wholly, as a half-open range. -/
def wholeKeys (a n : Nat) : Nat × Nat :=
  if a < 2 ^ 40 then (ceilDiv a 32, (a + n) / 32)
  else
    let off := a % 2 ^ 19
    (codeKey (a - off) + ceilDiv off 252, codeKey (a - off) + (off + n) / 252)

/-- Whether a write can be done: the place is served, and each codeword it covers in part can be read (Table MEM-2). -/
def canWrite (s : State) (l : Loc) (off n : Nat) : Bool :=
  locServed s l && (match locBase s.im l with
    | some b =>
      let w := wholeKeys (b + off) n
      (badIn s (b + off) n).all (fun e => e.2 < 2 || (decide (w.1 ≤ e.1) && decide (e.1 < w.2)))
    | none => false)

/-- An armed injection takes effect on the first codeword of a group that is written whole (R484). -/
def injectInto (g key : Nat) (s : State) : State :=
  match s.mem.inject with
  | some (h, n) =>
    if h = g then
      s |> onMem (fun m => { m with inject := none, bad := if n = 0 then m.bad else put key n m.bad })
        |> setRg .MEM_X_INJECT_ARMED 0 0
    else s
  | none => s

/-- Bytes written at an address: the errors of the codewords written go (R470). -/
def writeAt (a : Nat) (bs : List Byte) (s : State) : State :=
  let n := bs.length
  let w := wholeKeys a n
  let s := onMem (fun m => { m with bytes := memSetN a bs m.bytes, bad := m.bad.filter (fun e => !inSpan a n e.1) }) s
  if a < 2 ^ 40 ∧ w.1 < w.2 then injectInto (a / 2 ^ 34) w.1 s else s

/-- Bytes written to a place from byte `off` on. -/
def writeLoc (l : Loc) (off : Nat) (bs : List Byte) (s : State) : State :=
  match locBase s.im l with
  | some b => writeAt (b + off) bs s
  | none => s

/-- `n` bytes of 0 written at an address. -/
def zeroAt (a n : Nat) (s : State) : State :=
  let w := wholeKeys a n
  let s := onMem (fun m => { m with
    bytes := m.bytes.filter (fun e => decide (e.1 < a) || decide (a + n ≤ e.1))
    bad := m.bad.filter (fun e => !inSpan a n e.1) }) s
  if a < 2 ^ 40 ∧ w.1 < w.2 then injectInto (a / 2 ^ 34) w.1 s else s

/-- `n` bytes of 0 written to a place from byte `off` on. -/
def zeroLoc (l : Loc) (off n : Nat) (s : State) : State :=
  match locBase s.im l with
  | some b => zeroAt (b + off) n s
  | none => s

/-! ### Frames that retire (R473) -/

/-- MEM_RETIRED.FRAMES follows the list. -/
def countRetired (s : State) : State := setRg .MEM_RETIRED_FRAMES 0 s.seq.retired.length s

/-- A freed frame that has held an uncorrectable codeword is retired, or reused where the list is full. -/
def retireIfBad (l : Loc) (s : State) : State :=
  let k := frameKey s l
  if k ∉ s.seq.badFrames then s
  else
    let s := onSeq (fun x => { x with badFrames := remSet k x.badFrames }) s
    if 4096 ≤ s.seq.retired.length then raise 0x0A05 none [] s
    else
      let items := if k.1 < 64 then [(2, k.1), (4, k.2)] else [(1, k.1 - 64), (8, k.2)]
      s |> onSeq (fun x => { x with retired := x.retired ++ [k] }) |> countRetired |> raise 0x0A04 none items

/-! ### Patrol scrub, refresh, thresholds, injection -/

/-- Codewords of a group. -/
def groupCodewords : Nat := groupSize / 32

/-- The codeword that scrub reads next, as a key. -/
def scrubKey (n : Nat) : Nat := hbmAddr (n / groupCodewords) (n % groupCodewords * 32) / 32

/-- The end of a scrub pass: its totals recorded (event 0x0A09). -/
def scrubWrap (s : State) : State :=
  if s.mem.scrubAt < 64 * groupCodewords then s
  else
    s |> raise 0x0A09 none [(4, s.mem.scrubCorr), (4, s.mem.scrubUncorr)]
      |> onMem (fun m => { m with scrubAt := 0, scrubCorr := 0, scrubUncorr := 0 })

/-- PATROL_SCRUB (R471): the next codeword is read; a corrected one is written back, an uncorrectable one left. -/
def patrolScrub (s : State) : State :=
  if s.rg .MEM_CTRL_SCRUB_EN 0 = 0 then s
  else
    let key := scrubKey s.mem.scrubAt
    let s := match look key s.mem.bad with
      | none => s
      | some n =>
        let s := hbmError 1 key n s
        if n < 2 then s |> cleanKey key |> onMem (fun m => { m with scrubCorr := m.scrubCorr + 1 })
        else onMem (fun m => { m with scrubUncorr := m.scrubUncorr + 1 }) s
    s |> onMem (fun m => { m with scrubAt := m.scrubAt + 1 }) |> scrubWrap

def execPatrolScrub (s : State) : Result := done (live patrolScrub s)

/-- SCRUB_FORCE (R484): a full pass starts now. -/
def scrubForce (p : Nat) (s : State) : State :=
  expertDo p 10 0xA8000C (onMem (fun m => { m with scrubAt := 0, scrubCorr := 0, scrubUncorr := 0 })) s

def execScrubForce (p : Port) (s : State) : Result := done (live (access p.idx 0xA8000C (scrubForce p.idx)) s)

/-- HBM_REFRESH (R465): one round of a trained stack's refresh; its rate doubles above 85 °C or by MEM_X_REFRESH. -/
def hbmRefresh (stack : Nat) (hot : Bool) (s : State) : State :=
  if stack ∉ s.mem.trained then s
  else
    let double := hot || s.rg .MEM_X_REFRESH_DOUBLE 0 == 1
    onMem (fun m => { m with double := if double then addSet stack m.double else remSet stack m.double,
                             refreshed := put stack (lookD stack 0 m.refreshed + 1) m.refreshed }) s

/-- The sensor of a stack (Table MON-1) reads above 85 °C. -/
def stackHot (s : State) (k : Nat) : Bool :=
  decide (680 < signed 12 (s.rg .MON_TEMP_VALUE (24 * (k / 8) + 12 + k % 8 / 2)))

def execHbmRefresh (k : Fin 16) (s : State) : Result := done (live (fun s => hbmRefresh k.val (stackHot s k.val) s) s)

/-- CE_THRESHOLD (R474): a pseudo-channel that exceeds the threshold in the running frame, once in that frame. -/
def ceThreshold (g pc : Nat) (s : State) : State :=
  if s.rg .MEM_X_CE_THR_COUNT 0 < s.pcCount (8 * g + pc) then
    raiseFirst 0x0A0A (8 * g + pc) (s.owner (.group g)) [(1, g / 4), (1, 4 * (g % 4) + pc / 2), (1, pc % 2)] s
  else s

def execCeThreshold (g : Fin 64) (pc : Fin 8) (s : State) : Result := done (live (ceThreshold g.val pc.val) s)

/-- INJECT_ARM (R484): the next whole-codeword write to the group gets SYMBOLS symbols flipped; 0 injects nothing. -/
def injectArm (p : Nat) (s : State) : State :=
  expertDo p 10 0xA80010 (fun s =>
    let n := s.rg .MEM_X_INJECT_SYMBOLS 0
    if n = 0 then s
    else s |> onMem (fun m => { m with inject := some (s.rg .MEM_X_INJECT_GROUP 0, n) }) |> setRg .MEM_X_INJECT_ARMED 0 1) s

def execInjectArm (p : Port) (s : State) : Result := done (live (access p.idx 0xA80010 (injectArm p.idx)) s)

/-! ### CXL ports (R477 to R479, R517, R598) -/

/-- Code of a CXL port state (Table MEM-4). -/
def CxlSt.code : CxlSt → Nat
  | .absent => 0
  | .training => 1
  | .up => 2
  | .degraded => 3
  | .down => 4

/-- A CXL port's state and the register fields that show it. -/
def cxlEnter (n : Nat) (st : CxlSt) (s : State) : State :=
  let s := setCxl n { s.cxlPort n with st := st } s
  let active := (List.range 4).filter (fun i => (s.cxlPort i).active)
  s |> setRg .MEM_CXLn_STATUS_STATE n st.code |> setRg .MEM_STATUS_CXL_ACTIVE 0 (bitMap active)

/-- An expander's reset pin driven. -/
def drivePerst (n : Nat) (low : Bool) (s : State) : State :=
  s |> onPkg (fun p => { p with perst := if low then addSet n p.perst else remSet n p.perst }) |> emit (.perst n low)

/-- CXL_DETECT (R477): receiver detect, once step 8 has released the expander's reset (R598) and its HBM training has ended,
which comes first (Table SUP-1). -/
def cxlDetect (n : Nat) (s : State) : State :=
  if (s.cxlPort n).st ≠ .absent ∨ n ∈ s.pkg.perst ∨ 8 ∉ s.start.done ∨ 2 ≤ s.rg .BIST_SHUT_STATUS_STATE 0 ∨ s.lc = 4 then s
  else s |> setCxl n { s.cxlPort n with trainAt := s.clk } |> cxlEnter n .training

def execCxlDetect (c : Fin 4) (s : State) : Result := done (live (cxlDetect c.val) s)

/-- The one HDM decoder of a port's expander covers every range that uses the port (R478). -/
def programHdm (n : Nat) (s : State) : State :=
  let mine := s.im.cxlRanges.filter (fun r => decide (n ∈ r.ports))
  match leastBy (fun r => r.base) mine, mostBy (fun r => r.base + r.size) mine with
  | some a, some b => emit (.hdm n a.base (b.base + b.size - a.base)) s
  | _, _ => s

/-- Ranges of a port that reach beyond its device's capacity are disabled (R478, event 0x0A08). -/
def disableRanges (n units : Nat) (s : State) : State :=
  let mine := s.im.cxlRanges.filter (fun r => decide (n ∈ r.ports))
  let bad := mine.filter (fun r => decide (units < r.base + r.size))
  let s := setCxl n { s.cxlPort n with disabled := bad.map (fun r => r.index) } s
  forEach bad (fun r => raise 0x0A08 (some r.car) [(1, r.index)]) s

/-- CXL_TRAINING_END (R477, R478): x16 or x8 lanes at a rate, and the device's capacity in 256 MiB units. A training
that ends with any other width goes on until its timeout. -/
def cxlTrainingEnd (n width gts units : Nat) (s : State) : State :=
  if (s.cxlPort n).st ≠ .training ∨ (width ≠ 16 ∧ width ≠ 8) ∨ (gts ≠ 64 ∧ gts ≠ 32) ∨ s.clk ≥ (s.cxlPort n).trainAt + 100000000 then s
  else
    let st := if width = 16 ∧ gts = 64 then CxlSt.up else .degraded
    s |> cxlEnter n st |> setRg .MEM_CXLn_STATUS_WIDTH n width |> setRg .MEM_CXLn_STATUS_GTS n gts
      |> wrapUp .MEM_CXLn_STATUS_UP_COUNT n |> setRg .MEM_CXLn_CAP_UNITS n units
      |> programHdm n |> raise 0x0A06 none [(1, width), (1, gts)] |> disableRanges n units

def execCxlTrainingEnd (c : Fin 4) (width gts units : Nat) (s : State) : Result :=
  done (live (cxlTrainingEnd c.val width gts units) s)

/-- Carriages whose ranges on a port hold an allocated frame (R517, CXL_DOWN). -/
def cxlHolders (s : State) (n : Nat) : List Nat :=
  (List.range 16).filter (fun c => s.seq.cframes.any (fun e =>
    e.1.1 == c && (s.cxlPlace c e.1.2).any (fun x => decide (n ∈ x.1.ports))))

/-- A CXL port goes DOWN (R479, event 0x0A07); CXL_DOWN goes out while a range on it holds an allocated frame. -/
def cxlDown (n : Nat) (s : State) : State :=
  let cars := cxlHolders s n
  s |> setCxl n { s.cxlPort n with downAt := s.clk } |> cxlEnter n .down |> setRg .MEM_CXLn_STATUS_WIDTH n 0
    |> setRg .MEM_CXLn_STATUS_GTS n 0 |> raise 0x0A07 none [] |> when (!cars.isEmpty) (notice 0x02 cars n)

/-- CXL_TRAINING_TIMEOUT (R477): TRAINING has lasted 100 ms. -/
def cxlTrainingTimeout (n : Nat) (s : State) : State :=
  if (s.cxlPort n).st = .training ∧ (s.cxlPort n).trainAt + 100000000 ≤ s.clk then cxlDown n s else s

def execCxlTrainingTimeout (c : Fin 4) (s : State) : Result := done (live (cxlTrainingTimeout c.val) s)

/-- CXL_LINK_DOWN (R477, R479). -/
def cxlLinkDown (n : Nat) (s : State) : State := if (s.cxlPort n).active then cxlDown n s else s

def execCxlLinkDown (c : Fin 4) (s : State) : Result := done (live (cxlLinkDown c.val) s)

/-- CXL_RETRAIN (R477, R598): 10 ms after DOWN; the expander's reset is held low for the retrain. -/
def cxlRetrain (n : Nat) (s : State) : State :=
  if (s.cxlPort n).st = .down ∧ (s.cxlPort n).downAt + 10000000 ≤ s.clk ∧ s.rg .BIST_SHUT_STATUS_STATE 0 < 2 then
    s |> drivePerst n true |> drivePerst n false |> setCxl n { s.cxlPort n with trainAt := s.clk } |> cxlEnter n .training
  else s

def execCxlRetrain (c : Fin 4) (s : State) : Result := done (live (cxlRetrain c.val) s)

end Sys2Proof.Machine
end

