-- ==== Sys2Proof/Machine/Operands.lean ====
section
/-! DEFINITION. The operand forms of queue commands: the common fields of the 64-byte command (R138) and, for every
opcode, which operand bits it uses (Tables QUE-7, BDG-3, SEQ-11, FOX-6, BEAR-6, PARK-7, PRT-13, OWL-6, FLT-3). -/

namespace Sys2Proof.Machine

open Sys2Proof

namespace Op
def opcode (b : List Byte) : Nat := u8 b 0
def engine (b : List Byte) : Nat := u8 b 1
def flags (b : List Byte) : Nat := u8 b 2
def fence (b : List Byte) : Bool := bit (u8 b 2) 0
def noCqe (b : List Byte) : Bool := bit (u8 b 2) 1
def irq (b : List Byte) : Bool := bit (u8 b 2) 2
def car (b : List Byte) : Nat := u8 b 3 % 16
def epoch (b : List Byte) : Nat := u16 b 4
def cmdId (b : List Byte) : Nat := u16 b 6
def seqId (b : List Byte) : Nat := u32 b 8
end Op

/-- An operand field of an opcode: its first byte, its bytes, and its bits in use. -/
structure Field where
  at_ : Nat
  len : Nat
  mask : Nat
deriving DecidableEq, Repr

/-- A field whose every bit is in use. -/
def full (at_ len : Nat) : Field := { at_ := at_, len := len, mask := 2 ^ (8 * len) - 1 }

/-- A field with its low bits in use. -/
def low (at_ len n : Nat) : Field := { at_ := at_, len := len, mask := 2 ^ n - 1 }

/-- A row of an opcode table: ENGINE, OPCODE, whether SEQ_ID names a sequence, the operand fields. -/
structure OpRow where
  engine : Nat
  opcode : Nat
  seq : Bool
  fields : List Field
deriving DecidableEq, Repr

/-- Queue control and fault opcodes, ENGINE 0 (R142, Table FLT-3). -/
def opRows0 : List OpRow := [
  ⟨0, 0xFF, false, [full 12 8, full 20 2, low 22 1 2]⟩,
  ⟨0, 0xFE, false, [full 12 8, full 20 2]⟩,
  ⟨0, 0x10, false, [full 12 1, full 14 2, full 16 8]⟩,
  ⟨0, 0x11, false, [full 12 1, full 14 2, full 16 8]⟩,
  ⟨0, 0x12, false, [full 12 8, full 20 2, low 22 1 2, full 24 8]⟩,
  ⟨0, 0x13, false, [full 12 4]⟩]

/-- Badger opcodes, ENGINE 1 (Tables BDG-3, SEQ-11, PARK-7). -/
def opRows1 : List OpRow := [
  ⟨1, 0x01, true, [full 12 2, full 14 1, full 16 4, full 20 4, full 24 8]⟩,
  ⟨1, 0x02, true, [full 12 2, full 14 1, low 15 1 1, full 16 4, full 20 4, full 24 8]⟩,
  ⟨1, 0x03, true, [full 12 2, full 14 1, full 15 1, full 16 4, full 20 1]⟩,
  ⟨1, 0x04, false, [full 12 4, full 16 1, full 17 1, full 18 1, low 19 1 2, low 20 1 4]⟩,
  ⟨1, 0x05, false, [full 12 4, full 16 1, full 20 8]⟩,
  ⟨1, 0x06, false, [full 12 1]⟩,
  ⟨1, 0x10, false, [full 12 8, full 20 4]⟩,
  ⟨1, 0x11, false, [low 12 2 12]⟩,
  ⟨1, 0x18, false, [full 12 2, full 14 2, full 16 1, full 17 1, low 18 1 1, full 20 2, full 22 2, full 24 2,
    full 28 8, full 36 4]⟩,
  ⟨1, 0x19, false, [full 12 2, full 14 2]⟩,
  ⟨1, 0x20, true, [full 12 2, full 14 1, low 15 1 4, full 16 2, full 18 2, full 20 2, full 22 2, full 24 1, full 25 1,
    full 26 1, full 28 4, full 32 2]⟩,
  ⟨1, 0x21, true, []⟩,
  ⟨1, 0x22, true, [full 12 4, full 16 4]⟩,
  ⟨1, 0x23, true, [full 12 4, low 16 1 1]⟩,
  ⟨1, 0x24, true, [low 12 1 1]⟩,
  ⟨1, 0x25, true, [full 12 4, full 16 2, full 18 1, full 20 4, full 24 2]⟩,
  ⟨1, 0x26, true, [full 12 2, full 14 1, low 15 1 1, full 16 4, full 20 8, full 28 12, full 40 8]⟩,
  ⟨1, 0x27, false, [full 12 2, full 14 2, full 16 8]⟩,
  ⟨1, 0x28, true, [full 12 8]⟩,
  ⟨1, 0x30, true, [full 12 1, low 13 1 1, full 14 2, full 16 2, full 20 4, full 24 4, full 28 4, full 32 8, full 40 8]⟩,
  ⟨1, 0x31, true, [full 12 1, low 13 1 2, full 14 2, full 16 2, full 18 2, full 20 2, full 24 4, full 28 8]⟩,
  ⟨1, 0x32, true, [full 12 4, full 16 8, full 24 8]⟩,
  ⟨1, 0x33, true, [full 12 4]⟩]

/-- Fox, Bear, Owl and port opcodes, ENGINE 2 to 5 (R257, Tables BEAR-6, OWL-6, PRT-13). -/
def opRows2 : List OpRow := [
  ⟨2, 0x01, true, [full 12 2, full 14 1, low 15 1 1, full 16 4, full 20 8, full 28 8, full 36 4, full 40 8]⟩,
  ⟨2, 0x02, false, [full 12 4, full 16 1]⟩,
  ⟨2, 0x03, true, [full 12 2]⟩,
  ⟨2, 0x04, true, [full 12 2]⟩,
  ⟨3, 0x01, true, [full 12 2, full 14 1, full 16 8, full 24 8, full 32 8]⟩,
  ⟨4, 0x01, false, [full 12 12, full 24 2, low 26 1 1]⟩,
  ⟨4, 0x02, false, [full 12 8, full 20 2, low 22 1 1, full 24 8]⟩,
  ⟨4, 0x03, false, [full 12 1, full 14 2, full 16 8]⟩,
  ⟨4, 0x04, false, [full 12 1, full 14 2]⟩,
  ⟨4, 0x05, false, [full 12 1, full 14 2, full 16 2, full 24 8]⟩,
  ⟨4, 0x06, false, [full 12 1, full 16 8, full 24 4]⟩,
  ⟨4, 0x07, true, [full 12 2, full 14 1, low 15 1 2, full 16 2, full 20 2]⟩,
  ⟨4, 0x08, false, [full 12 2]⟩,
  ⟨5, 0x01, false, [full 12 2, full 14 1, full 16 4, full 20 2, full 24 8, full 32 8, full 40 4]⟩,
  ⟨5, 0x02, false, [full 12 2, full 14 1, full 16 4, full 20 2, full 24 8, full 32 8, full 40 4]⟩,
  ⟨5, 0x03, false, [full 12 2, full 14 1, full 16 4, full 20 2, full 24 8, full 32 4, full 36 1, full 40 4]⟩]

/-- Every opcode of the part; ENGINE 6 defines none (R605). -/
def opRows : List OpRow := opRows0 ++ opRows1 ++ opRows2

/-- The row of a command's opcode. -/
def opRow (b : List Byte) : Option OpRow := opRows.find? (fun r => r.engine == Op.engine b && r.opcode == Op.opcode b)

/-- The mask of the operand bits of byte `i` that an opcode uses. -/
def usedBits (r : OpRow) (i : Nat) : Nat :=
  match r.fields.find? (fun f => decide (f.at_ ≤ i) && decide (i < f.at_ + f.len)) with
  | some f => bits f.mask (8 * (i - f.at_)) 8
  | none => 0

/-- Whether every reserved bit of a command is 0 (R139): FLAGS, CARRIAGE, operands, and SEQ_ID where the opcode names no
sequence. -/
def reservedClear (r : OpRow) (b : List Byte) : Bool :=
  decide (Op.flags b < 8) && decide (u8 b 3 < 16) && (r.seq || Op.seqId b == 0) &&
  (List.range 52).all (fun i => Nat.land (u8 b (12 + i)) (usedBits r (12 + i)) == u8 b (12 + i))

end Sys2Proof.Machine
end

