-- ==== Sys2Proof/Machine/Queue.lean ====
section
/-! DEFINITION. Queues as the engines see them: contexts, started commands, sealed records, completion entries and
interrupts (R129 to R153, R606). -/

namespace Sys2Proof.Machine

open Sys2Proof

/-! ### Contexts -/

/-- Queue `q`. -/
def State.ctx (s : State) (q : Nat) : QCtx := lookD q QCtx.init s.que.ctx

def setCtx (q : Nat) (c : QCtx) (s : State) : State := onQue (fun x => { x with ctx := put q c x.ctx }) s

/-- The port of a queue (R118). -/
def qPort (q : Nat) : Nat := q / 32768

def sqSize (s : State) (q : Nat) : Nat := 2 ^ s.rg .QUE_CTX_CFG_SQ_EXP q
def cqSize (s : State) (q : Nat) : Nat := 2 ^ s.rg .QUE_CTX_CFG_CQ_EXP q
def qConf (s : State) (q : Nat) : Bool := s.rg .QUE_CTX_CFG_CONF q == 1
def sqBase (s : State) (q : Nat) : Nat :=
  s.rg .QUE_CTX_SQ_BASE_LO_ADDR_LO q + s.rg .QUE_CTX_SQ_BASE_HI_ADDR_HI q * 2 ^ 32
def cqBase (s : State) (q : Nat) : Nat :=
  s.rg .QUE_CTX_CQ_BASE_LO_ADDR_LO q + s.rg .QUE_CTX_CQ_BASE_HI_ADDR_HI q * 2 ^ 32

/-- The owner of a queue now. -/
def qOwner (s : State) (q : Nat) : Option Nat := s.owner (.queue q)

/-! ### Interrupts (R148) -/

/-- The interrupt of a queue sent: it covers every entry written before it. -/
def sendIrq (q : Nat) (s : State) : State :=
  let addr := s.rg .QUE_CTX_IRQ_ADDR_LO_ADDR_LO q + s.rg .QUE_CTX_IRQ_ADDR_HI_ADDR_HI q * 2 ^ 32
  let s := setCtx q { s.ctx q with sinceIrq := 0, oldest := none } s
  if s.portUp (qPort q) then memWriteDue (qPort q) addr 1 (leBytes 4 (s.rg .QUE_CTX_IRQ_DATA_DATA q)) s
  else undelivered (qPort q) s

/-- Whether a list may still have an entry that is not started. -/
def ListRun.left (r : ListRun) : Bool := r.more || decide (r.next < r.entries.length)

/-- A list that starts no further entry because its queue is STOPPED: the first entry left unstarted, where there is one,
counts as ABORTED at its index (R145, R606). -/
def ListRun.stop (r : ListRun) : ListRun :=
  if r.ended = false ∧ r.left then { r with ended := true, failed := r.failed ++ [(r.next, Status.aborted)] } else r

/-- A queue enters STOPPED (R135, R606): fetched entries are discarded, its lists start no further entry, and the
interrupt of R148 is sent. -/
def stopQueue (q cause cmdId : Nat) (s : State) : State :=
  if (s.ctx q).st = 3 then s
  else
    let s := setCtx q { s.ctx q with st := 3, cause := cause, fetched := [], asked := (s.ctx q).sqHead } s
    let mine := fun k => (look k s.que.started).any (fun c => c.q == q)
    let s := onQue (fun x => { x with lists := x.lists.map (fun e => if mine e.1 then (e.1, e.2.stop) else e) }) s
    s |> raise 0x0304 (qOwner s q) [(2, q), (1, cause), (2, cmdId)]
      |> when (s.rg .QUE_CTX_CFG_IRQ_EN q == 1) (sendIrq q)

/-! ### Sealed records (R149 to R152) -/

/-- The session key of a queue. -/
def qKey (s : State) (q : Nat) : List Byte := lookD (s.rg .QUE_CTX_CFG_SESSION q) [] s.sec.sessionKeys

/-- The 24-byte header of a sealed record (Table QUE-10). -/
def sealHeader (session dir kind q ctr cmdId index len flags : Nat) : List Byte :=
  leBytes 2 session ++ leBytes 1 dir ++ leBytes 1 kind ++ leBytes 2 q ++ leBytes 8 ctr ++ leBytes 2 cmdId ++
  leBytes 4 index ++ leBytes 2 len ++ leBytes 1 flags ++ zeros 1

/-- The 12-byte nonce: DIR, KIND, QUEUE, COUNTER (R150). -/
def sealNonce (dir kind q ctr : Nat) : List Byte := leBytes 1 dir ++ leBytes 1 kind ++ leBytes 2 q ++ leBytes 8 ctr

/-- A record from the node sealed: its bytes, and the state with the session's counter raised. -/
def sealRecord (q kind cmdId index flags : Nat) (plain : List Byte) (s : State) : List Byte × State :=
  let ses := s.rg .QUE_CTX_CFG_SESSION q
  let ctr := lookD ses 0 s.que.sealCtr
  let h := sealHeader ses 1 kind q ctr cmdId index plain.length flags
  let ct := Config.gcmSeal (qKey s q) (sealNonce 1 kind q ctr) h plain
  (h ++ padTo plain.length ct.1 ++ padTo 16 ct.2, onQue (fun x => { x with sealCtr := put ses (ctr + 1) x.sealCtr }) s)

/-- A record from the host opened: its plaintext, where the header names what is expected and the tag verifies. -/
def openRecord (s : State) (q kind cmdId index : Nat) (rec : List Byte) : Option (List Byte) :=
  let h := rec.take 24
  let n := u16 h 20
  let named := u16 h 0 == s.rg .QUE_CTX_CFG_SESSION q && u8 h 2 == 0 && u8 h 3 == kind && u16 h 4 == q &&
    u16 h 14 == cmdId && u32 h 16 == index
  if named then Config.gcmOpen (qKey s q) (sealNonce 0 kind q (u64 h 6)) h (slice rec 24 n) (slice rec (24 + n) 16)
  else none

/-- How far a run of sealed records at the front of a buffer has been opened: the plaintext, the number of records, the
bytes behind them, and the index of a record that is refused. -/
structure Opened where
  plain : List Byte
  used : Nat
  rest : List Byte
  bad : Option Nat
deriving DecidableEq, Repr

/-- Records of any length from 1 to 4,096 plaintext bytes opened one after the other (R151, R152), while whole ones are
there; `idx` gives the INDEX of a record from the number of records and the plaintext bytes before it. -/
def openRun (s : State) (q kind cmdId : Nat) (idx : Nat → Nat → Nat) : Nat → Opened → Opened
  | 0, o => o
  | fuel + 1, o =>
    let n := u16 o.rest 20
    let i := idx o.used o.plain.length
    if o.rest.length < 24 then o
    else if n = 0 ∨ 4096 < n then { o with bad := some i }
    else if o.rest.length < 40 + n then o
    else
      match openRecord s q kind cmdId i (o.rest.take (40 + n)) with
      | some p => openRun s q kind cmdId idx fuel { o with plain := o.plain ++ p, used := o.used + 1, rest := o.rest.drop (40 + n) }
      | none => { o with bad := some i }

/-- A buffer of sealed records opened from its first byte. -/
def openBuf (s : State) (q kind cmdId : Nat) (idx : Nat → Nat → Nat) (bs : List Byte) : Opened :=
  openRun s q kind cmdId idx (bs.length / 41 + 1) { plain := [], used := 0, rest := bs, bad := none }

/-- INDEX of a data record: its number within the command's buffer (Table QUE-10). -/
def dataIndex : Nat → Nat → Nat := fun used _ => used

/-- INDEX of a record of a list block: the list index of its first entry, the block's first entry having index `first`
(Table QUE-10). -/
def blockIndex (first : Nat) : Nat → Nat → Nat := fun _ plain => first + ceilDiv plain 64

/-- Bytes that `n` plaintext bytes take in records that are as long as they may be. -/
def sealedLen (n : Nat) : Nat := n + 40 * ceilDiv n 4096

/-- What the bytes of a host buffer that have arrived amount to, of which `n` plaintext bytes are wanted: they are there,
or so many more bytes are to be read, or the record of an index is refused. -/
inductive DataStep where
  | have_ (d : List Byte) | ask (bytes : Nat) | refused (index : Nat)
deriving DecidableEq, Repr

/-- The step of a buffer: where `whole` holds, it ends with its `n`th plaintext byte, and a record that goes beyond is
refused. -/
def dataStep (s : State) (q kind cmdId : Nat) (idx : Nat → Nat → Nat) (n : Nat) (whole : Bool) (bs : List Byte) : DataStep :=
  if qConf s q = false then if bs.length < n then .ask (n - bs.length) else .have_ (bs.take n)
  else
    let o := openBuf s q kind cmdId idx bs
    let left := n - o.plain.length
    match o.bad with
    | some i => .refused i
    | none =>
      if left = 0 then if whole && decide (n < o.plain.length) then .refused (o.used - 1) else .have_ o.plain
      else if 24 ≤ o.rest.length then
        if whole && decide (left < u16 o.rest 20) then .refused (idx o.used o.plain.length) else .ask (40 + u16 o.rest 20 - o.rest.length)
      else .ask (sealedLen left - o.rest.length)

/-- Bytes that `n` plaintext bytes take on a queue: 40 more per record of a confidential one. -/
def wireLen (s : State) (q n : Nat) : Nat := if qConf s q then sealedLen n else n

/-- Data written to host memory for a command: in clear, or sealed record by record (R151); a write ends on a whole word
(R111). -/
def hostWrite (k addr : Nat) (data : List Byte) (s : State) : State :=
  match look k s.que.started with
  | none => s
  | some c =>
    if qConf s c.q then
      (((chunks (data.length / 4096 + 1) 4096 data).zipIdx).foldl (fun (acc : Nat × State) r =>
        let sealed_ := sealRecord c.q 4 (Op.cmdId c.bytes) r.2 0 r.1 acc.2
        (acc.1 + sealed_.1.length, memWrite (qPort c.q) acc.1 2 sealed_.1 sealed_.2)) (addr, s)).2
    else memWritePadded (qPort c.q) addr data s

/-! ### Started commands -/

/-- Started command `k`. -/
def State.cmd (s : State) (k : Nat) : Option Cmd := look k s.que.started

def setCmd (k : Nat) (c : Cmd) (s : State) : State := onQue (fun x => { x with started := put k c x.started }) s

/-- A command that waits for host data through a port that is DOWN: the event of Table QUE-4 (R120). -/
def noteLost (c : Cmd) (s : State) : State :=
  raise 0x0304 (some (Op.car c.bytes)) [(2, c.q), (1, 3), (2, Op.cmdId c.bytes)] s

/-- Host bytes asked for a command: `len` bytes as they cross Onzon at `addr`, behind what its buffer holds (R132). A port
that is DOWN ends the wait at once (R120). -/
def hostReadRaw (k addr len : Nat) (s : State) : State :=
  match s.cmd k with
  | none => s
  | some c =>
    let base := c.buf.length + c.want
    if s.portUp (qPort c.q) then
      forEach (List.range (ceilDiv len 4096)) (fun i s =>
        memRead (qPort c.q) (.data k (base + 4096 * i) (min 4096 (len - 4096 * i))) (addr + 4096 * i)
          (min 4096 (len - 4096 * i)) s) (setCmd k { c with want := c.want + len } s)
    else s |> setCmd k { c with want := c.want + len, bad := some Status.aborted } |> when c.bad.isNone (noteLost c)

/-- Host data asked for a command: `n` plaintext bytes. -/
def hostRead (k addr n : Nat) (s : State) : State :=
  match s.cmd k with
  | none => s
  | some c => hostReadRaw k addr (wireLen s c.q n) s

/-- Whether a command's host data has all arrived. -/
def Cmd.ready (c : Cmd) : Bool := c.want == 0

/-- A command's host data in clear: `none` where a record fails (R152). -/
def cmdData (s : State) (c : Cmd) : Option (List Byte) :=
  if qConf s c.q then
    let o := openBuf s c.q 4 (Op.cmdId c.bytes) dataIndex c.buf
    if o.bad.isNone then some o.plain else none
  else some c.buf

/-- The step of a command's data buffer. -/
def Cmd.dataStep (s : State) (c : Cmd) (n : Nat) (whole : Bool) (bs : List Byte) : DataStep :=
  Machine.dataStep s c.q 4 (Op.cmdId c.bytes) dataIndex n whole bs

/-! ### Completion (R140, R141, R146 to R148) -/

/-- The completion entry of a command (Table QUE-8); a STEP is a LIST too (R145, R525). -/
def cqeBytes (c : Cmd) (x : QCtx) (status detail result : Nat) : List Byte :=
  let flags := b2n x.phase + 2 * b2n (Op.engine c.bytes == 0 && (Op.opcode c.bytes == 0xFF || Op.opcode c.bytes == 0x12))
  leBytes 2 (Op.cmdId c.bytes) ++ leBytes 1 status ++ leBytes 1 flags ++ leBytes 2 x.sqHead ++ leBytes 2 detail ++
  leBytes 8 result

/-- A completion entry written, with the interrupt it brings about; or counted when the port is DOWN. -/
def writeCqe (c : Cmd) (status detail result : Nat) (s : State) : State :=
  let q := c.q
  let p := qPort q
  if s.portUp p = false then undelivered p s
  else
    let x := s.ctx q
    let slot := x.cqTail % cqSize s q
    let plain := cqeBytes c x status detail result
    let s := if qConf s q then
        let r := sealRecord q 2 (Op.cmdId c.bytes) x.cqTail (b2n x.phase) plain s
        memWriteDue p (cqBase s q + 64 * slot) 2 (padTo 64 r.1) r.2
      else memWriteDue p (cqBase s q + 16 * slot) 0 plain s
    let tail := (x.cqTail + 1) % 65536
    let x := { x with
      cqTail := tail
      phase := if tail % cqSize s q = 0 then !x.phase else x.phase
      sinceIrq := x.sinceIrq + 1
      oldest := some (x.oldest.getD s.clk) }
    let due := Op.irq c.bytes || decide (max 1 (s.rg .QUE_CTX_IRQ_MOD_COUNT q) ≤ x.sinceIrq)
    s |> setCtx q x |> when (due && s.rg .QUE_CTX_CFG_IRQ_EN q == 1) (sendIrq q)

/-- A member's end noted in its list (R144, R145). -/
def noteMember (parent : Nat × Nat) (status : Nat) (s : State) : State :=
  match look parent.1 s.que.lists with
  | none => s
  | some r =>
    let stop := (s.cmd parent.1).any (fun c => bit (u8 c.bytes 22) 0)
    let bad := status != Status.ok
    let r := { r with open_ := r.open_ - 1, failed := if bad then r.failed ++ [(parent.2, status)] else r.failed,
                      ended := r.ended || (bad && stop) }
    onQue (fun x => { x with lists := put parent.1 r x.lists }) s

/-- A started command ends: the sequences it was changing are free for the next change (R607), its slot and CQ reservation are given back, its entry is written unless NO_CQE suppresses an
OK, and its list learns of it. -/
def complete (k status detail result : Nat) (s : State) : State :=
  match s.cmd k with
  | none => s
  | some c =>
    let s := onQue (fun x => { x with started := del k x.started, last := some (k, status) }) s
    let s := onSeq (fun x => { x with busy := x.busy.filter (fun e => e.2 != k) }) s
    let s := setCtx c.q { s.ctx c.q with inflight := (s.ctx c.q).inflight - 1, resv := (s.ctx c.q).resv - 1 } s
    let s := when (status == Status.aborted) (bump .RAS_C_ABORTED_COUNT (Op.car c.bytes) 1) s
    let s := when (status == Status.staleEpoch) countStale s
    let s := if status = Status.ok ∧ Op.noCqe c.bytes = true then s else writeCqe c status detail result s
    match c.parent with
    | none => s
    | some p => noteMember p status s

/-- A command that ends with a reason code in RESULT[63:56]. -/
def completeReason (k status reason : Nat) (s : State) : State := complete k status 0 (reason * 2 ^ 56) s

/-- Whether a sequence is held (R522). -/
def State.seqHeld (s : State) (car seq : Nat) : Bool := s.ras.holds.any (fun h => h.seq == seq && h.car == car)

/-- Whether command `k` has just ended with a status that comes before STALE_EPOCH under R17. -/
def endedFirst (s : State) (k : Nat) : Bool :=
  s.que.last == some (k, Status.badCommand) || s.que.last == some (k, Status.accessDenied)

/-- A command of a stale epoch ends: with BAD_COMMAND or ACCESS_DENIED where its engine's checks give that at once, which
come first under R17, else STALE_EPOCH with none of its effect (R62). -/
def staleEnd (k : Nat) (c : Cmd) (f : Cmd → State → State) (s : State) : State :=
  let c := { c with bad := none }
  let t := f c (setCmd k c s)
  if (s.cmd k).isSome && (t.cmd k).isNone && endedFirst t k then t else complete k Status.staleEpoch 0 0 s

/-- A command's meaning run on its started command; a serial that names none, one that is held, or one of another
opcode changes nothing (assumption 2). A stale epoch, or host data that failed, ends it first. -/
def withCmd (k engine opcode : Nat) (f : Cmd → State → State) (s : State) : State :=
  match s.cmd k with
  | none => s
  | some c =>
    if c.held ∨ Op.engine c.bytes ≠ engine ∨ Op.opcode c.bytes ≠ opcode then s
    else
      match c.bad with
      | some st => if st = Status.staleEpoch then staleEnd k c f s else complete k st 0 0 s
      | none => f c s

/-- A failed record of a command's host data (R152). -/
def recordLost (k : Nat) (c : Cmd) (index : Nat) (s : State) : State :=
  s |> raise 0x0307 (some (Op.car c.bytes)) [(2, c.q), (1, 4), (4, index)] |> complete k Status.accessDenied 0 0

/-- A command that needs host data: the first run asks for it, a run after its arrival has it (assumption 8), or asks for
what records shorter than 4,096 bytes leave still to be read (R151). -/
def withData (k : Nat) (c : Cmd) (addr n : Nat) (f : List Byte → State → State) (s : State) : State :=
  if c.phase = 0 then hostRead k addr n (setCmd k { c with phase := 1 } s)
  else if c.ready = false then s
  else
    match c.dataStep s n true c.buf with
    | .have_ d => f d s
    | .ask m => hostReadRaw k (addr + c.buf.length) m s
    | .refused i => recordLost k c i s

/-- A command's host data read to its plaintext byte `n`, then used; what is missing is asked for at once. With `whole` set the
data end there (R151). -/
def fetchTo (k : Nat) (c : Cmd) (addr n : Nat) (whole : Bool) (f : List Byte → State → State) (s : State) : State :=
  match c.dataStep s n whole c.buf with
  | .have_ d => f d s
  | .ask m => hostReadRaw k (addr + c.buf.length) m (setCmd k c s)
  | .refused i => recordLost k c i s

end Sys2Proof.Machine
end

