-- ==== Sys2Proof/Machine/Frames.lean ====
section
/-! DEFINITION. Frames: which a carriage may use, the group a new frame comes from, and how a frame is taken and given
back (R22, R55, R170, R174, R183, R473). -/

namespace Sys2Proof.Machine

open Sys2Proof

/-- Whether a group serves new allocations of its owner: not while it is zeroed (R207), is leaving (R55), or lies between
its boundary and its handover (R59). -/
def groupOpen (s : State) (g : Nat) : Bool :=
  !has g s.seq.zeroing && match look (Res.group g) s.comp.moved with
  | some m => m == .handed
  | none => decide (Res.group g ∉ s.comp.leaving)

/-- Memory groups from which carriage `c` may allocate: owned, open, and on a trained stack. -/
def allocGroups (s : State) (c : Nat) : List Nat :=
  (s.groupsOf c).filter (fun g => groupOpen s g && decide (g / 4 ∈ s.mem.trained))

/-- Whether a frame of a group is free. -/
def frameFree (s : State) (g f : Nat) : Bool := !has (g, f) s.seq.frames && decide ((g, f) ∉ s.seq.retired)

/-- Free frames of a group. -/
def freeFrames (s : State) (g : Nat) : Nat :=
  s.im.framesPerGroup - countOf (fun e => e.1.1 == g) s.seq.frames - countOf (fun r => r.1 == g) s.seq.retired

/-- The group with the most free frames among several, the lowest-numbered on a tie; none where all are full (R174). -/
def groupPick (s : State) (gs : List Nat) : Option Nat :=
  (mostBy (freeFrames s) (gs.filter (fun g => 0 < freeFrames s g)))

/-- The halves on which a carriage owns memory groups. -/
def groupHalves (s : State) (c : Nat) : List Nat := [0, 1].filter (fun h => (s.groupsOf c).any (fun g => g / 32 == h))

/-- A free frame of a group: the spec leaves which one open (assumption 11). -/
def pickFrame (s : State) (g : Nat) : Option Nat := pickBelow s.im.framesPerGroup (frameFree s g) s

/-- A frame of a group taken. -/
def takeFrame (g f : Nat) (u : FrameUse) (s : State) : State :=
  s |> freeTaken |> onSeq (fun x => { x with frames := put (g, f) u x.frames, zeroed := remSet g x.zeroed })

/-- A frame taken from the first of several lists of groups that has one. -/
def takeFrom (gss : List (List Nat)) (u : FrameUse) (s : State) : Option ((Nat × Nat) × State) :=
  match gss.findSome? (groupPick s) with
  | some g => (pickFrame s g).map (fun f => ((g, f), takeFrame g f u s))
  | none => none

/-- A frame of the home half, else of the other half (R174). -/
def takeHbm (c home : Nat) (u : FrameUse) (s : State) : Option ((Nat × Nat) × State) :=
  let gs := allocGroups s c
  takeFrom [gs.filter (fun g => g / 32 == home), gs.filter (fun g => g / 32 != home)] u s

/-- A frame from the group with the most free frames over both halves (R170). -/
def takeAny (c : Nat) (u : FrameUse) (s : State) : Option ((Nat × Nat) × State) := takeFrom [allocGroups s c] u s

/-- Frames of all of a carriage's CXL ranges. -/
def cxlTotal (im : Image) (c : Nat) : Nat := sumOf (fun r => if r.car = c then im.rangeFrames r else 0) im.cxlRanges

/-- Whether a carriage's CXL frame is free, on the wanted half. -/
def cxlFree (s : State) (c half f : Nat) : Bool :=
  (s.cxlPlace c f).any (fun x => rangeServed s x.1 && x.1.half == half) && !has (c, f) s.seq.cframes &&
  decide (frameKey s (.cxl c f) ∉ s.seq.retired)

/-- A CXL frame taken on a half. -/
def takeCxlOn (c half : Nat) (u : FrameUse) (s : State) : Option (Nat × State) :=
  (pickBelow (cxlTotal s.im c) (cxlFree s c half) s).map (fun f =>
    (f, s |> freeTaken |> onSeq (fun x => { x with cframes := put (c, f) u x.cframes })))

/-- A CXL frame taken on the home half, else on the other (R482). -/
def takeCxl (c home : Nat) (u : FrameUse) (s : State) : Option (Nat × State) :=
  match takeCxlOn c home u s with
  | some r => some r
  | none => takeCxlOn c (1 - home) u s

/-- A frame given back: retired where it has held an uncorrectable codeword (R473). -/
def freeLoc (l : Loc) (s : State) : State :=
  match l with
  | .hbm g f => s |> onSeq (fun x => { x with frames := del (g, f) x.frames }) |> retireIfBad l
  | .cxl c f => s |> onSeq (fun x => { x with cframes := del (c, f) x.cframes }) |> retireIfBad l
  | .cold => s

/-- Several frames from the most-free groups; all of them or none. -/
def takeMany (c : Nat) (u : FrameUse) : Nat → State → Option (List (Nat × Nat) × State)
  | 0, s => some ([], s)
  | n + 1, s =>
    match takeAny c u s with
    | none => none
    | some (k, s) => (takeMany c u n s).map (fun r => (k :: r.1, r.2))

/-- Frames used for something, in the order in which they were taken. -/
def framesFor (s : State) (u : FrameUse) : List (Nat × Nat) := keys (s.seq.frames.filter (fun e => e.2 == u))

/-- Frames of a use given back. -/
def freeUse (u : FrameUse) (s : State) : State := forEach (framesFor s u) (fun k => freeLoc (.hbm k.1 k.2)) s

end Sys2Proof.Machine
end

