-- ==== Sys2Proof/Machine/FoxRows.lean ====
section
/-! DEFINITION. Fox rows: which macros a carriage binds on, and how a page takes and gives back its row (R230, R234,
R253 to R255). -/

namespace Sys2Proof.Machine

open Sys2Proof

/-- STATE of a macro: 0 UNOWNED, 1 IN_CAL, 2 OUT, 3 DISABLED. -/
def State.macroSt (s : State) (m : Nat) : Nat := s.rg .FOX_M_STAT_STATE m

/-- Macro `m`. -/
def State.macro_ (s : State) (m : Nat) : Macro := lookD m Macro.init s.fox.macros

def setMacro (m : Nat) (x : Macro) (s : State) : State := onFox (fun f => { f with macros := put m x f.macros }) s

/-- The macros of the blocks that do a carriage's work under the map in force. A page binds a row for the coaches to come, so
that a block that moves takes no row from the boundary until it is handed over (R59, R256; DESIGN CHOICE, assumption 36:
the spec does not say whether old-epoch seals still bind there). -/
def macrosOf (s : State) (c : Nat) : List Nat :=
  (List.range 2048).filter (fun m => s.serves false (.fox (m / 64)) == some c)

/-- The macros of a carriage on a half that take rows: not those handed over that wait for their verify phase (R256). -/
def bindMacros (s : State) (c half : Nat) : List Nat :=
  (macrosOf s c).filter (fun m => m / 1024 == half && s.macroSt m != 0 && s.macroSt m != 3 && !(s.macro_ m).fresh)

/-- Rows of a macro in use. -/
def rowsUsed (s : State) (m : Nat) : Nat := countOf (fun r => r.1 / 512 == m) s.fox.rows

/-- The row a page of a half binds to: the lowest free row of the macro with the most free rows (R253). -/
def rowPick (s : State) (c half : Nat) : Option Nat :=
  (mostBy (fun m => 512 - rowsUsed s m) ((bindMacros s c half).filter (fun m => rowsUsed s m < 512))).bind (fun m =>
    (firstBelow 512 (fun r => !has (512 * m + r) s.fox.rows)).map (fun r => 512 * m + r))

/-- An element of a SUMMARY (R163). -/
def summaryAt (b : List Byte) (i : Nat) : Int := signed 4 (bits (u8 b (i / 2)) (4 * (i % 2)) 4)

/-- ROWNORM in 1/16: the norm of SUMMARY rounded up (R234). -/
def rowNorm (b : List Byte) : Nat :=
  let n := sumOf (fun i => ((summaryAt b i) * (summaryAt b i)).toNat) (List.range 128)
  (firstBelow 2048 (fun k => 256 * n ≤ k * k)).getD 2047

/-- The directory and scout entries of a page name its row. -/
def setPageRow (p : Nat) (r : Option Nat) (s : State) : State :=
  onSeq (fun x => { x with pages := upd p (fun g => { g with foxRow := r }) x.pages }) s

/-- A page bound to a row. -/
def bindTo (p r : Nat) (g : Page) (s : State) : State :=
  s |> onFox (fun f => { f with rows := put r (p, rowNorm g.summary) f.rows, rowless := remSet p f.rowless })
    |> setPageRow p (some r)

/-- A page bound to a row, or rowless where there is none. -/
def bindPick (p half : Nat) (g : Page) (row : Option Nat) (s : State) : State :=
  match row with
  | some r => bindTo p r g s
  | none =>
    s |> onFox (fun f => { f with rowless := addSet p f.rowless })
      |> raiseFirst 0x0506 (2 * g.car + half) (some g.car) []

/-- A sealed page bound, or left rowless (R253, event 0x0506). -/
def bindRow (p half : Nat) (g : Page) (s : State) : State := bindPick p half g (rowPick s g.car half) s

/-- A page's row released; the page is rowless from then on (R255). -/
def releaseRow (p : Nat) (s : State) : State :=
  match (look p s.seq.pages).bind (fun g => g.foxRow) with
  | some r => s |> onFox (fun f => { f with rows := del r f.rows, rowless := addSet p f.rowless }) |> setPageRow p none
  | none => s

end Sys2Proof.Machine
end

