-- ==== Sys2Proof/Machine/Fp.lean ====
section
/-! DEFINITION. Floating-point numbers as bit patterns: exact dyadic values, rounding to FP32 and BF16, the elements and
scales of the record formats (R162, R235, R268, R270, R271, R274). A result of zero is +0 (assumption 6). -/

namespace Sys2Proof.Machine

open Sys2Proof

/-- An exact number m × 2^e. -/
structure Dy where
  m : Int
  e : Int
deriving DecidableEq, Repr

def Dy.zero : Dy := { m := 0, e := 0 }

/-- The exact product. -/
def Dy.mul (a b : Dy) : Dy := { m := a.m * b.m, e := a.e + b.e }

/-- A number's mantissa at a lower exponent. -/
def Dy.at (a : Dy) (e : Int) : Int := a.m * 2 ^ (a.e - e).toNat

/-- The exact sum. -/
def Dy.add (a b : Dy) : Dy :=
  if a.m = 0 then b
  else if b.m = 0 then a
  else
    let e := if a.e < b.e then a.e else b.e
    { m := a.at e + b.at e, e := e }

/-- How a result is rounded: to nearest even, or towards +∞ (R235, R271). -/
inductive Round where
  | near | up
deriving DecidableEq, Repr

/-- A mantissa shifted right by `k` bits under a rounding. -/
def shiftRound (r : Round) (neg : Bool) (a k : Nat) : Nat :=
  let q := a / 2 ^ k
  let rem := a % 2 ^ k
  match r with
  | .near => if 2 * rem > 2 ^ k ∨ (2 * rem = 2 ^ k ∧ q % 2 = 1) then q + 1 else q
  | .up => if rem ≠ 0 ∧ neg = false then q + 1 else q

/-- The bits of a number in a format with the exponents of FP32 and `p` bits of significand: 24 for FP32, 8 for BF16. -/
def roundTo (p : Nat) (r : Round) (d : Dy) : Nat :=
  if d.m = 0 then 0
  else
    let neg := decide (d.m < 0)
    let a := d.m.natAbs
    let len : Int := (Nat.log2 a : Int) + 1
    let qmin : Int := -125 - (p : Int)
    let q := max (d.e + len - p) qmin
    let mant := if q ≤ d.e then a * 2 ^ (d.e - q).toNat else shiftRound r neg a (q - d.e).toNat
    let v := (q - qmin).toNat * 2 ^ (p - 1) + mant
    let inf := 255 * 2 ^ (p - 1)
    let v := if v < inf then v else if neg && r == .up then inf - 1 else inf
    (if neg then 256 * 2 ^ (p - 1) else 0) + v

/-! ### FP32 bit patterns -/

namespace F32
def posInf : Nat := 0x7F800000
def negInf : Nat := 0xFF800000
def nan : Nat := 0x7FC00000
def one : Nat := 0x3F800000
/-- log2(e) (R271). -/
def log2e : Nat := 0x3FB8AA3B

def neg (x : Nat) : Bool := bit x 31
def isNan (x : Nat) : Bool := bits x 23 8 == 255 && bits x 0 23 != 0
def isInf (x : Nat) : Bool := bits x 23 8 == 255 && bits x 0 23 == 0
def finite (x : Nat) : Bool := bits x 23 8 != 255

/-- The exact value of a finite pattern. -/
def dy (x : Nat) : Dy :=
  let e := bits x 23 8
  let m : Int := if e = 0 then bits x 0 23 else 2 ^ 23 + bits x 0 23
  { m := if neg x then -m else m, e := (max e 1 : Int) - 150 }

/-- A key in the order of the values. -/
def key (x : Nat) : Int := if neg x then -((x % 2 ^ 31 : Nat) : Int) else (x : Int)

def le (a b : Nat) : Bool := decide (key a ≤ key b)
def lt (a b : Nat) : Bool := decide (key a < key b)

/-- The greater of two patterns. -/
def max (a b : Nat) : Nat := if key a < key b then b else a

def flip (x : Nat) : Nat := if neg x then x - 2 ^ 31 else x + 2 ^ 31

def add (r : Round) (a b : Nat) : Nat :=
  if isNan a || isNan b then nan
  else if isInf a then (if isInf b && neg a != neg b then nan else a)
  else if isInf b then b
  else roundTo 24 r ((dy a).add (dy b))

def sub (r : Round) (a b : Nat) : Nat := add r a (flip b)

def mul (r : Round) (a b : Nat) : Nat :=
  if isNan a || isNan b then nan
  else if isInf a || isInf b then
    (if a % 2 ^ 31 == 0 || b % 2 ^ 31 == 0 then nan else if neg a == neg b then posInf else negInf)
  else roundTo 24 r ((dy a).mul (dy b))

/-- A quotient of whole numbers times a power of two: 60 more bits than the divisor has, and a sticky bit. -/
def quot (r : Round) (m : Int) (d : Nat) (e : Int) : Nat :=
  let k := 60 + Nat.log2 (d + 1)
  let a := m.natAbs * 2 ^ k
  let q : Int := 2 * (a / d : Nat) + (if a % d = 0 then 0 else 1)
  roundTo 24 r { m := if m < 0 then -q else q, e := e - k - 1 }

def div (r : Round) (a b : Nat) : Nat :=
  if isNan a || isNan b || (isInf a && isInf b) || (a % 2 ^ 31 == 0 && b % 2 ^ 31 == 0) then nan
  else if isInf b then 0
  else if isInf a || b % 2 ^ 31 == 0 then (if neg a == neg b then posInf else negInf)
  else
    let y := dy b
    let x := dy a
    quot r (if y.m < 0 then -x.m else x.m) y.m.natAbs (x.e - y.e)

/-- A whole number as FP32. -/
def ofInt (r : Round) (i : Int) : Nat := roundTo 24 r { m := i, e := 0 }

/-- FP32 rounded to nearest even to BF16 (R271, R274). -/
def toBf16 (x : Nat) : Nat :=
  if isNan x then 0x7FC0 else if isInf x then x / 65536 else roundTo 8 .near (dy x)

/-- BF16 widened exactly (R316). -/
def ofBf16 (x : Nat) : Nat := x % 65536 * 65536
end F32

/-! ### Elements (R162, Table SEQ-5, R268) -/

/-- An element of `eb` exponent and `mb` mantissa bits. -/
def miniDy (eb mb x : Nat) : Dy :=
  let e := bits x mb eb
  let m : Int := if e = 0 then bits x 0 mb else 2 ^ mb + bits x 0 mb
  { m := if bit x (eb + mb) then -m else m, e := (max e 1 : Int) - (2 ^ (eb - 1) - 1 : Nat) - mb }

/-- Bits of an element by ELEM: MXFP8 E4M3, E5M2, MXFP6 E2M3, E3M2, MXFP4 E2M1, BF16. -/
def elemBits (elem : Nat) : Nat := match elem with
  | 0 | 1 => 8
  | 2 | 3 => 6
  | 4 => 4
  | _ => 16

/-- An element's value; none for NaN and infinity, which are read as 0 (R268). -/
def elemValue (elem x : Nat) : Option Dy := match elem with
  | 0 => if x % 128 = 127 then none else some (miniDy 4 3 x)
  | 1 => if bits x 2 5 = 31 then none else some (miniDy 5 2 x)
  | 2 => some (miniDy 2 3 x)
  | 3 => some (miniDy 3 2 x)
  | 4 => some (miniDy 2 1 x)
  | _ => if F32.finite (F32.ofBf16 x) then some (F32.dy (F32.ofBf16 x)) else none

/-- The first `n` elements packed in a list of bytes, low bits first. -/
def unpack (elem n : Nat) (bs : List Byte) : List Nat :=
  let x := leNat bs
  (List.range n).map (fun i => bits x (i * elemBits elem) (elemBits elem))

/-- Elements with the E8M0 scale of their block of 32; no scale for BF16. -/
structure Vec where
  /-- Element values before their block's scale. -/
  vals : List Dy
  /-- Exponents of the blocks' scales. -/
  exps : List Int
  /-- Elements read as 0 (R268). -/
  bad : Nat
deriving DecidableEq, Repr

/-- The exponent of an E8M0 scale byte. -/
def scaleExp (b : Nat) : Int := if b = 255 then 0 else (b : Int) - 127

/-- A vector of `n` elements from its bytes and its scale bytes. -/
def vecOf (elem n : Nat) (data scales : List Byte) : Vec :=
  let blocks := ceilDiv n 32
  let sc := (List.range blocks).map (fun b => if elem = 5 then 127 else u8 scales b)
  let raw := ((unpack elem n data).zipIdx).map (fun e => if nth 127 sc (e.2 / 32) = 255 then none else elemValue elem e.1)
  { vals := raw.map (fun v => v.getD Dy.zero), exps := sc.map scaleExp,
    bad := countOf Option.isNone raw }

/-- A vector of BF16 values from FP32 patterns. -/
def vecBf16 (xs : List Nat) : Vec :=
  { vals := xs.map (fun x => F32.dy (F32.ofBf16 (F32.toBf16 x))), exps := List.replicate (ceilDiv xs.length 32) 0, bad := 0 }

/-- Element `i` with its scale. -/
def Vec.get (v : Vec) (i : Nat) : Dy :=
  let d := nth Dy.zero v.vals i
  { d with e := d.e + nth 0 v.exps (i / 32) }

/-- The dot product of R270: exact per block of 32, scaled, rounded to FP32, blocks added in ascending order. -/
def dot (a b : Vec) : Nat :=
  (List.range (ceilDiv (min a.vals.length b.vals.length) 32)).foldl (fun acc k =>
    let part := fun (v : Vec) => (v.vals.drop (32 * k)).take 32
    let x := ((part a).zip (part b)).foldl (fun (t : Dy) p => t.add (p.1.mul p.2)) Dy.zero
    let x : Dy := { x with e := x.e + nth 0 a.exps k + nth 0 b.exps k }
    F32.add .near acc (roundTo 24 .near x)) 0

end Sys2Proof.Machine
end

