-- ==== Sys2Proof/Machine/Owl.lean ====
section
/-! DEFINITION. Owl as the other blocks use it: banks and their shadows, searches, the prefix index, ingress
classification, and the watchers (R432 to R449, R456). -/

namespace Sys2Proof.Machine

open Sys2Proof

/-- Bank `b`. -/
def State.bank (s : State) (b : Nat) : Bank := lookD b Bank.init s.owl.banks

def setBank (b : Nat) (k : Bank) (s : State) : State := onOwl (fun x => { x with banks := put b k x.banks }) s

/-- Entries of a bank. -/
def bankSize : Nat := 16384

/-- Valid entries of a bank. -/
def Bank.used (k : Bank) : Nat := countOf (fun e => e.2.valid) k.entries

/-! ### The shadow (R456) -/

/-- Bytes of an entry in its shadow and in OWL_READ: VALUE, CARE, RESULT with VALID in its top bit. -/
def entryBytes (e : OwlEntry) : List Byte :=
  leBytes 20 e.value ++ leBytes 20 e.care ++ leBytes 8 (e.result % 2 ^ 63 + b2n e.valid * 2 ^ 63)

/-- The entry that 48 bytes spell. -/
def entryOf (b : List Byte) : OwlEntry :=
  let r := u64 b 40
  { value := fieldAt b 0 20, care := fieldAt b 20 20, result := r % 2 ^ 63, valid := bit r 63 }

/-- Pieces of an entry's shadow: place, offset and bytes; an entry can lie across two frames. -/
def shadowPieces (s : State) (b i : Nat) : List (Loc × Nat × Nat) :=
  let fs := framesFor s (.owl b)
  let a := s.im.dataArea
  let at_ := 48 * i
  let n := min 48 (a - at_ % a)
  let piece := fun k off len => match fs[k]? with
    | some f => if len = 0 then [] else [(Loc.hbm f.1 f.2, off, len)]
    | none => []
  piece (at_ / a) (at_ % a) n ++ piece (at_ / a + 1) 0 (48 - n)

/-- An entry's shadow written. -/
def shadowWrite (b i : Nat) (bs : List Byte) (s : State) : State :=
  ((shadowPieces s b i).foldl (fun (acc : List Byte × State) p =>
    (acc.1.drop p.2.2, if canWrite acc.2 p.1 p.2.1 p.2.2 then writeLoc p.1 p.2.1 (acc.1.take p.2.2) acc.2 else acc.2))
    (bs, s)).2

/-- An entry's shadow read: none where it is uncorrectable. -/
def shadowRead (s : State) (b i : Nat) : Option (List Byte) :=
  let ps := shadowPieces s b i
  if ps.all (fun p => canRead s p.1 p.2.1 p.2.2) then some (ps.flatMap (fun p => locBytes s p.1 p.2.1 p.2.2)) else none

/-- A bank entry written, the shadow first. -/
def writeEntry (b i : Nat) (e : OwlEntry) (s : State) : State :=
  let s := shadowWrite b i (entryBytes e) s
  setBank b { s.bank b with entries := put i e (s.bank b).entries } s

/-- VALID of an entry cleared in place. -/
def clearEntry (b i : Nat) (s : State) : State :=
  match look i (s.bank b).entries with
  | some e => writeEntry b i { e with valid := false } s
  | none => s

/-- The shadow frames of a bank: 48 bytes for each entry. -/
def shadowFrames (im : Image) : Nat := ceilDiv (48 * bankSize) im.dataArea

/-- A frame's bytes set to 0. -/
def zeroFrame (k : Nat × Nat) (s : State) : State :=
  zeroAt (hbmAddr k.1 (s.im.shareSize + k.2 * s.im.frameSize)) s.im.frameSize s

/-- The shadow of a bank taken in the owner's table memory, empty. -/
def takeShadow (b : Nat) (s : State) : State :=
  match s.owner (.bank b) with
  | some c => if s.im.bankMode b = 0 then s else ((takeMany c (.owl b) (shadowFrames s.im) s).map (fun r => forEach r.1 zeroFrame r.2)).getD s
  | none => s

/-! ### Searching (R435) -/

/-- Whether an entry matches a search word. -/
def OwlEntry.matches_ (e : OwlEntry) (w : Nat) : Bool := e.valid && Nat.land (Nat.xor w e.value) e.care == 0

/-- The matches in a list of banks, in the order of the winner: bank and index. -/
def owlMatches (s : State) (banks : List Nat) (w : Nat) : List (Nat × Nat × OwlEntry) :=
  banks.flatMap (fun b => (sortBy Prod.fst ((s.bank b).entries.filter (fun e => e.2.matches_ w))).map (fun e => (b, e.1, e.2)))

/-! ### The prefix index (R437 to R439) -/

/-- The 128 bits of a prefix key. -/
def prefixKey (hash cls car : Nat) : Nat := hash % 2 ^ 96 + cls % 65536 * 2 ^ 96 + car * 2 ^ 112

/-- The PREFIX banks that do a carriage's work. -/
def prefixBanks (s : State) (old : Bool) (c : Nat) : List Nat := (s.banksOf old c).filter s.im.bankPrefix

/-- A sealed page put into the index (R437). -/
def indexInsert (p : Nat) (g : Page) (s : State) : State :=
  let free := fun b => bankSize - (s.bank b).used
  let pick := (mostBy free ((prefixBanks s false g.car).filter (fun b => 0 < free b))).bind (fun b =>
    (pickBelow bankSize (fun i => !(look i (s.bank b).entries).any (fun e => e.valid)) s).map (fun i => (b, i)))
  match pick with
  | some (b, i) =>
    s |> freeTaken |> writeEntry b i { value := prefixKey g.hash g.cls g.car, care := 2 ^ 128 - 1, result := p, valid := true }
      |> onSeq (fun x => { x with pages := upd p (fun q => { q with indexed := true }) x.pages })
  | none => s |> bump .OWL_C_NOINDEX_COUNT g.car 1 |> raiseCar 0x0901 g.car []

/-- The index entry of a page removed (R438), in whichever bank of its carriage it lies. -/
def indexRemove (p : Nat) (g : Page) (s : State) : State :=
  let key := prefixKey g.hash g.cls g.car
  let banks := (List.range 16).filter (fun b => s.owner (.bank b) == some g.car && s.im.bankPrefix b)
  let mine := banks.flatMap (fun b =>
    ((s.bank b).entries.filter (fun e => e.2.valid && e.2.value == key && e.2.result % 2 ^ 32 == p)).map (fun e => (b, e.1)))
  forEach mine (fun k => clearEntry k.1 k.2) s

/-- Whether a hit's page holds the key (R439). -/
def hitTrue (s : State) (key page : Nat) : Bool :=
  (look page s.seq.pages).any (fun g => g.indexed && prefixKey g.hash g.cls g.car == key)

/-- A search with its directory check: at most 4 false hits are excluded, then it is a miss (R439). The answer is the
page and whether more than one entry matched (MULTI, DEDUCED, assumption 16). -/
def prefixFind (banks : List Nat) (key car : Nat) : Nat → List (Nat × Nat) → State → Option (Nat × Bool) × State
  | 0, _, s => (none, s)
  | fuel + 1, out, s =>
    let ms := (owlMatches s banks key).filter (fun m => decide ((m.1, m.2.1) ∉ out))
    match ms with
    | [] => (none, s)
    | m :: _ =>
      let page := m.2.2.result % 2 ^ 32
      if hitTrue s key page then (some (page, decide (1 < ms.length)), s)
      else
        prefixFind banks key car fuel ((m.1, m.2.1) :: out)
          (s |> bump .OWL_C_FALSE_HITS_COUNT car 1 |> raise 0x0902 (some car) [(1, m.1), (2, m.2.1)])

/-! ### Ingress classification (R440) -/

/-- The classification search word (Table OWL-2). -/
def classWord (l : Nat) (b : List Byte) : Nat :=
  H.mtype b + H.flags b * 2 ^ 8 + H.dest b * 2 ^ 16 + H.car b * 2 ^ 28 + H.src b * 2 ^ 32 + l * 2 ^ 44 +
  pClass b * 2 ^ 48 + H.epoch b * 2 ^ 64 + H.rkind b * 2 ^ 80 + H.rflags b * 2 ^ 88 + H.rkey b * 2 ^ 96 +
  H.msgLen b % 2 ^ 21 * 2 ^ 128

/-- The banks that classify a carriage's frames on a half. -/
def classBanks (s : State) (old : Bool) (c half : Nat) : List Nat :=
  (s.banksOf old c).filter (fun b => b / 8 == half && s.im.bankMode b == 1 && s.im.bankClassify b)

/-- The policer and colour a classification entry gives a frame. -/
def classify (s : State) (l : Nat) (b : List Byte) : Option (Nat × Nat) :=
  match owlMatches s (classBanks s (s.epochUse (H.epoch b) == .old) (H.car b) (l / 4)) (classWord l b) with
  | m :: _ => if bits m.2.2.result 8 2 = 3 then none else some (m.2.2.result % 256, bits m.2.2.result 8 2)
  | [] => none

/-! ### Watchers (R444 to R449) -/

/-- The class of a token ID. -/
def tokenClass (a : Automaton) (t : Nat) : Nat :=
  ((a.ranges.find? (fun r => decide (r.1 ≤ t) && decide (t ≤ r.2.1))).map (fun r => r.2.2)).getD 0

/-- The transition taken from a state on a class: the lowest-numbered that qualifies. -/
def transFor (a : Automaton) (st cls : Nat) : Option Trans :=
  (leastBy Prod.fst (a.trans.filter (fun t =>
    t.2.state == st && decide (t.2.lo ≤ cls) && decide (cls ≤ t.2.hi)))).map Prod.snd

def setWatch (i : Nat) (w : Watch) (s : State) : State := onOwl (fun x => { x with watches := put i w x.watches }) s

/-- RESULT of an OWL_WAIT (Table OWL-6). -/
def waitResult (r : Report) (missed : Nat) : Nat :=
  r.pos + r.fireId * 2 ^ 32 + r.state * 2 ^ 40 + missed * 2 ^ 52 + b2n r.edge * 2 ^ 60

/-- A fire or EDGE of a context (R448). -/
def owlReport (i : Nat) (r : Report) (s : State) : State :=
  match look i s.owl.watches with
  | none => s
  | some w =>
    let s := bump .OWL_C_FIRES_COUNT w.car 1 s
    match w.wait, w.latched with
    | some k, _ => s |> setWatch i { w with wait := none } |> complete k Status.ok 0 (waitResult r 0)
    | none, none => s |> setWatch i { w with latched := some r } |> raise 0x0908 (some w.car) [(2, i)]
    | none, some _ =>
      s |> setWatch i { w with missed := min 255 (w.missed + 1) } |> bump .OWL_C_MISSED_COUNT w.car 1
        |> raise 0x0908 (some w.car) [(2, i)]

/-- One step of a context on a position's token (R444, R446 to R448); `leaves` says that the position is the last of its
page and the next one lies on another node. -/
def watchStep (i pos token : Nat) (leaves : Bool) (s : State) : State :=
  match look i s.owl.watches with
  | none => s
  | some w =>
    match (s.bank w.bank).autom with
    | none => s
    | some a =>
      let t := transFor a w.state (tokenClass a (token % 2 ^ 24))
      let next := (t.map (fun t => t.next)).getD 0
      let s := setWatch i { w with state := next } s
      let s := match t with
        | some t => if t.fire then owlReport i { pos := pos, fireId := t.fireId, state := next, edge := false } s else s
        | none => s
      if leaves then
        let s := if next ≠ w.start ∧ w.edgeReport then owlReport i { pos := pos, fireId := 0, state := next, edge := true } s else s
        onOwl (fun x => { x with watches := upd i (fun v => { v with state := w.start }) x.watches }) s
      else s

/-- The contexts of a sequence's layer step on the positions written, in position order (R446). -/
def watchPositions (seq layer start p : Nat) (tokens : List Nat) (striped : Bool) (s : State) : State :=
  forEach tokens.zipIdx (fun t s =>
    let pos := start + t.2
    let mine := keys (s.owl.watches.filter (fun w => w.2.seq == seq && w.2.layer == layer))
    forEach mine (fun i => watchStep i pos t.1 (striped && (pos + 1) % p == 0)) s) s

/-- A watcher context freed; its pending OWL_WAIT completes OK with DISARMED (R449). -/
def watchFree (i : Nat) (s : State) : State :=
  match look i s.owl.watches with
  | none => s
  | some w =>
    let s := onOwl (fun x => { x with watches := del i x.watches }) s
    whenSome w.wait (fun k => complete k Status.ok 0 (2 ^ 63)) s

/-- Every context of a sequence freed. -/
def watchFreeSeq (seq : Nat) (s : State) : State :=
  forEach (keys (s.owl.watches.filter (fun w => w.2.seq == seq))) watchFree s

/-- A moved bank cleared at its handover (R434): its entries and shadow, INDEXED of the pages it indexed, its contexts;
event 0x090A. The commands that wait for its shift end ABORTED. -/
def bankHandover (b : Nat) (s : State) : State :=
  let pages := (s.bank b).entries.filterMap (fun e => if e.2.valid && s.oldIm.bankPrefix b then some (e.2.result % 2 ^ 32) else none)
  let waiters := (s.bank b).wait ++ ((s.bank b).shift.map (fun x => x.cmd)).toList
  let s := forEach waiters (fun k => complete k Status.aborted 0 0) s
  let s := onSeq (fun x => { x with pages := x.pages.map (fun e => if e.1 ∈ pages then (e.1, { e.2 with indexed := false }) else e) }) s
  let s := forEach (keys (s.owl.watches.filter (fun w => w.2.bank == b))) watchFree s
  s |> onOwl (fun x => { x with banks := del b x.banks }) |> freeUse (.owl b) |> takeShadow b |> raise 0x090A none []

end Sys2Proof.Machine
end

