-- ==== Sys2Proof/Machine/Pages.lean ====
section
/-! DEFINITION. Pages, sequences and table memory: the geometry of R161 and R171, the bytes of descriptors and directory
entries, allocation (R170, R174, R183), page bytes, and how a page is freed (R182). -/

namespace Sys2Proof.Machine

open Sys2Proof

/-! ### Shapes and placement (R161, R162, R168, R171, R174) -/

/-- The exponent of the least power of two that is at least `n`. -/
def ceilLog2 (n : Nat) : Nat := (firstBelow 64 (fun k => n ≤ 2 ^ k)).getD 63

/-- N of R161: the element count rounded up to a power of two. -/
def elemsN (latent : Bool) (elems : Nat) : Nat := 2 ^ ceilLog2 (if latent then elems else 2 * elems)

/-- P_EXP of a shape; none where it is refused (R161, Table SEQ-5). -/
def pexpOf (im : Image) (latent : Bool) (elem elems : Nat) : Option Nat :=
  let n := elemsN latent elems
  let size := if elem = 5 then 2 * n else n
  let p := im.dataArea / size
  let inRange := if latent then decide (1 ≤ elems) && decide (elems ≤ 1024) else decide (16 ≤ elems) && decide (elems ≤ 256)
  if inRange && decide (elem ≤ 5) && decide (8 ≤ p) && decide (p ≤ 4096) && (elem == 5 || decide (32 ≤ n)) then
    some (ceilLog2 p)
  else none

/-- Positions per page. -/
def Seqd.p (q : Seqd) : Nat := 2 ^ q.pexp

/-- Bytes of a record slot, S. -/
def Seqd.slot (im : Image) (q : Seqd) : Nat := im.dataArea / q.p

/-- Scale bytes of a position: none for BF16. -/
def Seqd.scale (im : Image) (q : Seqd) : Nat := if q.elem = 5 then 0 else q.slot im / 32

/-- Occupied bytes of a record slot: its elements at the element width (R162). -/
def Seqd.occ (q : Seqd) : Nat := ceilDiv ((if q.latent then q.elems else 2 * q.elems) * elemBits q.elem) 8

def Seqd.protected_ (q : Seqd) : Bool := bit q.flags 0
def Seqd.indexPrefix (q : Seqd) : Bool := bit q.flags 1
def Seqd.fallback (q : Seqd) : Bool := bit q.flags 2

/-- Whether a sequence is in a park state (Table SEQ-9). -/
def Seqd.parked (q : Seqd) : Bool := decide (3 ≤ q.st)

/-- The nodes of a sequence's set. -/
def seqNodes (s : State) (q : Seqd) : List Nat := ((look q.nodeset s.seq.sets).map (fun n => n.nodes)).getD []

/-- This node's index in a sequence's set; the set's size where it is not in it. -/
def seqIndex (s : State) (q : Seqd) : Nat :=
  let ns := seqNodes s q
  (firstBelow ns.length (fun i => nth 0 ns i == s.nodeId)).getD ns.length

/-- The set index and the local ordinal of an ordinal of a layer (R171). -/
def placeOf (s : State) (q : Seqd) (layer o : Nat) : Nat × Nat :=
  let n := max 1 (seqNodes s q).length
  let off := layer * q.stride % n
  let g := o + off
  let i := g % n
  (i, g / n - (if i < off then 1 else 0))

/-- The local ordinal of an ordinal held here; none where it lies on another node. -/
def localOf (s : State) (q : Seqd) (layer o : Nat) : Option Nat :=
  let x := placeOf s q layer o
  if x.1 = seqIndex s q then some x.2 else none

/-- The ordinal of this node's local ordinal `k`. -/
def ordinalOf (s : State) (q : Seqd) (layer k : Nat) : Nat :=
  let n := max 1 (seqNodes s q).length
  let off := layer * q.stride % n
  let me := seqIndex s q
  if off ≤ me then k * n + me - off else (k + 1) * n + me - off

/-- HOME_HALF of a layer (R174). -/
def homeHalf (s : State) (c seq layer : Nat) : Nat :=
  match groupHalves s c with
  | [h] => h
  | _ => (seq + layer) % 2

/-- The layer record of a sequence; an empty table where nothing was appended. -/
def layerOf (s : State) (seq : Nat) (q : Seqd) (layer : Nat) : Layer :=
  lookD layer { root := 0, depth := 0, home := homeHalf s q.car seq layer, ordinals := 0, split := 0, leaves := [],
                blocks := [] } q.recs

/-- A sequence's descriptor set. -/
def setSeq (seq : Nat) (q : Seqd) (s : State) : State := onSeq (fun x => { x with seqs := put seq q x.seqs }) s

/-- A layer record set. -/
def setLayer (seq : Nat) (q : Seqd) (layer : Nat) (r : Layer) (s : State) : State :=
  setSeq seq { q with recs := put layer r q.recs } s

/-- Every leaf entry of a sequence: layer, leaf entry number, entry. -/
def Seqd.entries (q : Seqd) : List (Nat × Nat × Leaf) := q.recs.flatMap (fun r => r.2.leaves.map (fun e => (r.1, e.1, e.2)))

/-- The sequences whose tables name a page. -/
def seqsOfPage (s : State) (p : Nat) : List (Nat × Seqd) := s.seq.seqs.filter (fun q => q.2.entries.any (fun e => e.2.2.page == p))

/-- Whether a page belongs to a sequence in a park state. -/
def pageParked (s : State) (p : Nat) : Bool := (seqsOfPage s p).any (fun q => q.2.parked)

/-- Whether a page belongs to a held sequence (R522). -/
def pageHeld (s : State) (p : Nat) : Bool := (seqsOfPage s p).any (fun q => s.seqHeld q.2.car q.1)

/-! ### The bytes of a descriptor, a layer record and a directory entry (Tables SEQ-3, SEQ-4, R168) -/

/-- Pages of a sequence in a tier. -/
def tierCount (s : State) (q : Seqd) (f : Loc → Bool) : Nat :=
  countOf (fun e => (look e.2.2.page s.seq.pages).any (fun g => f g.loc)) q.entries

def Loc.isHbm : Loc → Bool
  | .hbm _ _ => true
  | _ => false

def Loc.isCxl : Loc → Bool
  | .cxl _ _ => true
  | _ => false

/-- TIER. -/
def Loc.tier : Loc → Nat
  | .hbm _ _ => 0
  | .cxl _ _ => 1
  | .cold => 2

/-- LOCATION. -/
def Loc.location : Loc → Nat
  | .hbm g f => g * 2 ^ 26 + f
  | .cxl _ f => f
  | .cold => 0

/-- FORMAT. -/
def formatByte (latent : Bool) (elem pexp : Nat) : Nat := b2n latent + 2 * elem + 16 * pexp

/-- The 64-byte descriptor. -/
def descBytes (s : State) (seq : Nat) (q : Seqd) : List Byte :=
  leBytes 4 seq ++ leBytes 1 (q.car + 16 * q.st) ++ leBytes 1 (formatByte q.latent q.elem q.pexp) ++ leBytes 2 q.elems ++
  leBytes 1 q.kv ++ leBytes 1 q.flags ++ leBytes 2 q.layers ++ leBytes 2 q.nodeset ++ leBytes 2 q.stride ++
  leBytes 2 q.mclass ++ leBytes 1 q.sinks ++ leBytes 1 q.comp ++ leBytes 4 q.tail ++ leBytes 4 q.parent ++
  leBytes 4 q.forkPos ++ leBytes 4 q.freeze ++ leBytes 4 q.layerTable ++ leBytes 2 q.buddy ++ zeros 2 ++
  leBytes 4 (tierCount s q Loc.isHbm) ++ leBytes 4 (tierCount s q Loc.isCxl) ++ leBytes 4 q.cold ++ leBytes 8 q.lastAppend

/-- ORDINALS of a layer record: the local ordinals that have an entry for every head; a COLD park clears those of shared
pages, and a resume may bring later ones first (R168, R181, R343). -/
def heldOrdinals (kv : Nat) (r : Layer) : Nat :=
  countOf (fun k => (List.range kv).all (fun h => has (k * kv + h) r.leaves)) (List.range r.ordinals)

/-- The 16-byte layer record (R168). -/
def layerBytes (kv : Nat) (r : Layer) : List Byte :=
  leBytes 4 r.root ++ leBytes 1 r.depth ++ leBytes 1 r.home ++ zeros 2 ++ leBytes 4 (heldOrdinals kv r) ++ leBytes 4 r.split

/-- KEY_SLOT as an entry shows it: a slot number in bits [4:0]; 0 where the page was allocated with no slot in force, for
which the spec states no value (assumption 36). -/
def slotByte (k : Nat) : Nat := if k < 32 then k else 0

/-- The 128-byte directory entry. -/
def dirBytes (s : State) (p : Nat) : List Byte :=
  let gen := leBytes 2 (lookD p 0 s.seq.gens)
  match look p s.seq.pages with
  | none => zeros 126 ++ gen
  | some g =>
    let flags := 1 + 2 * b2n g.sealed_ + 4 * b2n g.prot + 8 * b2n g.comp + 16 * b2n g.indexed + 32 * b2n g.foxRow.isSome +
      64 * b2n g.moving
    padTo 64 g.summary ++ padTo 24 g.digest ++ leBytes 12 g.hash ++ leBytes 2 g.radius ++ leBytes 2 g.scale ++
    leBytes 4 g.refs ++ leBytes 4 g.loc.location ++ leBytes 2 g.fill ++ leBytes 2 (if g.comp then g.tableId else 0) ++
    leBytes 1 (slotByte g.keySlot) ++ leBytes 1 g.loc.tier ++ leBytes 1 g.car ++ leBytes 1 (formatByte g.latent g.elem g.pexp) ++
    leBytes 4 (g.foxRow.getD 0) ++ leBytes 2 flags ++ gen

/-- Address of a page's directory entry (R160, R164). -/
def dirAddr (p : Nat) : Nat := hbmAddr (p / 2 ^ 26) (p % 2 ^ 26 * 128)

/-- Whether a page's directory entry can be read. -/
def dirReadable (s : State) (p : Nat) : Bool := spanReadable s (dirAddr p) 128

/-! ### Keys (R475, R493, R502) -/

/-- Whether the XTS engines have the slot keys: in DEPLOYED only (R491, R493). -/
def State.hasSlotKeys (s : State) : Bool := s.lc == 2

/-- The current slot of a carriage; 255, which names no slot, where it has none (R501). -/
def State.currentSlot (s : State) (c : Nat) : Nat := lookD c 255 s.sec.current

/-- Whether protected data of a carriage can be encrypted under a current slot (R493, R501). -/
def State.canEncrypt (s : State) (c : Nat) : Bool := s.hasSlotKeys && has c s.sec.current

/-- Pages that record slot `k` and are held on the node (R501). -/
def slotPages (s : State) (k : Nat) : Nat := countOf (fun p => p.2.keySlot == k && p.2.loc != .cold) s.seq.pages

/-- The state of a slot: 0 IDLE, 1 CURRENT, 2 DRAINING, 3 RETIRED (R501, SEC_SLOT_STAT). -/
def slotState (s : State) (k : Nat) : Nat :=
  if k ∈ s.sec.retired then 3
  else if s.sec.current.any (fun e => e.2 == k) then 1
  else if slotPages s k = 0 then 0 else 2

/-- A slot that a page just left: event 0x0B0B where it was DRAINING and none is left (R501). -/
def slotLeft (k : Nat) (s : State) : State :=
  if k < 32 ∧ slotState s k = 0 then raise 0x0B0B none [] s else s

/-- The status that a page's key forces on an access to its data or side area: none where it may go on. -/
def keyFault (s : State) (g : Page) : Option Nat :=
  if g.prot = false then none
  else if s.hasSlotKeys = false ∨ 32 ≤ g.keySlot then some Status.accessDenied
  else if g.keySlot ∈ s.sec.retired then some Status.keyRetired
  else none

/-- Event 0x0B0E of an access refused under a retired slot: the page, a free value for a park image, and the slot. -/
def noteKeyAt (st : Nat) (page : Option Nat) (slot c : Nat) (s : State) : State :=
  when (st == Status.keyRetired) (fun s => freeTaken (raise 0x0B0E (some c) [(4, page.getD (freeNow s)), (1, slot)] s)) s

/-- The local index of a page of the directory: no two pages share a frame. -/
def pageIndex (s : State) (g : Page) : Nat := ((s.seq.pages.find? (fun e => e.2 == g)).map Prod.fst).getD 0xFFFFFFFF

/-- Event 0x0B0E of an access to a page refused under its retired slot. -/
def noteKey (st : Nat) (g : Option Page) (c : Nat) (s : State) : State :=
  whenSome g (fun g s => noteKeyAt st (some (pageIndex s g)) g.keySlot c s) s

/-! ### Table memory (R168 to R170, R245) -/

/-- Address of a table block. -/
def blockAddr (im : Image) (b : Nat) : Nat :=
  hbmAddr (b / 2 ^ 26) (im.shareSize + b / 64 % 2 ^ 20 * im.frameSize + b % 64 * 4096)

/-- The block numbers of a table frame. -/
def frameBlocks (im : Image) (k : Nat × Nat) : List Nat :=
  (List.range (im.dataArea / 4096)).map (fun b => k.1 * 2 ^ 26 + k.2 * 64 + b)

/-- Whether a frame is table memory: table blocks, an Owl bank's shadow (R456) or an AGE map (R335). -/
def FrameUse.isTable : FrameUse → Bool
  | .table | .owl _ | .age _ => true
  | _ => false

/-- Frames that a carriage uses as table memory (BDG_SEQ_C_TABLE). -/
def tableMemory (s : State) (c : Nat) : Nat :=
  countOf (fun e => e.2.isTable && s.owner (.group e.1.1) == some c) s.seq.frames

/-- Frames of a carriage that hold table blocks. -/
def tableFrames (s : State) (c : Nat) : List (Nat × Nat) :=
  (framesFor s .table).filter (fun k => s.owner (.group k.1) == some c)

/-- Whether a table block is free. -/
def blockFree (s : State) (b : Nat) : Bool := !has b s.seq.tblocks

/-- A free pick of one element of a list (assumption 11). -/
def pickOf {α : Type} (l : List α) (s : State) : Option α := l[freeNow s % max 1 l.length]?

/-- A run of `n` consecutive free blocks in one table frame of the carriage; none where there is none. -/
def blockRuns (s : State) (c n : Nat) : List Nat :=
  (tableFrames s c).flatMap (fun k => (frameBlocks s.im k).filter (fun b =>
    decide (b % 64 + n ≤ s.im.dataArea / 4096) && (List.range n).all (fun i => blockFree s (b + i))))

/-- Blocks taken: their bytes are 0 and hold no error. -/
def markBlocks (c b n : Nat) (s : State) : State :=
  forEach (List.range n) (fun i s =>
    let a := blockAddr s.im (b + i)
    s |> onSeq (fun x => { x with tblocks := put (b + i) c x.tblocks }) |> zeroAt a 4096)
    (freeTaken s)

/-- A run of `n` table blocks, from a new frame where the carriage's table frames have none. -/
def takeRun (c n : Nat) (s : State) : Option (Nat × State) :=
  match pickOf (blockRuns s c n) s with
  | some b => some (b, markBlocks c b n s)
  | none =>
    (takeAny c .table s).bind (fun r =>
      (pickOf (blockRuns r.2 c n) r.2).map (fun b => (b, markBlocks c b n r.2)))

/-- `n` single blocks; all of them or none. -/
def takeBlocks (c : Nat) : Nat → State → Option (List Nat × State)
  | 0, s => some ([], s)
  | n + 1, s => (takeRun c 1 s).bind (fun r => (takeBlocks c n r.2).map (fun t => (r.1 :: t.1, t.2)))

/-- Table blocks given back; a table frame none of whose blocks is used goes back too. -/
def freeBlocks (bs : List Nat) (s : State) : State :=
  let s := onSeq (fun x => { x with tblocks := x.tblocks.filter (fun e => decide (e.1 ∉ bs)),
                                    walkCache := x.walkCache.filter (fun b => decide (b ∉ bs)) }) s
  let idle := (framesFor s .table).filter (fun k => (frameBlocks s.im k).all (blockFree s))
  forEach idle (fun k => freeLoc (.hbm k.1 k.2)) s

/-- Depth of a page table of `n` leaf entries, and the blocks it takes (R169). -/
def tableDepth (n : Nat) : Nat := if n = 0 then 0 else if n ≤ 512 then 1 else if n ≤ 262144 then 2 else 3
def tableBlocks (n : Nat) : Nat :=
  let leafs := ceilDiv n 512
  match tableDepth n with
  | 0 => 0
  | 1 => 1
  | 2 => leafs + 1
  | _ => leafs + ceilDiv leafs 512 + 1

/-- A scout block: half of a table block that another scout block of the carriage shares, or of a new one (R245). -/
def takeScout (c seq layer : Nat) (s : State) : Option State :=
  let half := (s.seq.scoutBlocks.map Prod.snd).filter (fun b =>
    countOf (fun e => e.2 == b) s.seq.scoutBlocks == 1 && look b s.seq.tblocks == some c)
  match half with
  | b :: _ => some (onSeq (fun x => { x with scoutBlocks := x.scoutBlocks ++ [((seq, layer), b)] }) s)
  | [] => (takeRun c 1 s).map (fun r => onSeq (fun x => { x with scoutBlocks := x.scoutBlocks ++ [((seq, layer), r.1)] }) r.2)

def takeScouts (c seq layer : Nat) : Nat → State → Option State
  | 0, s => some s
  | n + 1, s => (takeScout c seq layer s).bind (takeScouts c seq layer n)

/-- A page table grown to `ords` ordinals: the blocks it needs, its depth and root. -/
def growLayer (c seq layer kv ords : Nat) (r : Layer) (s : State) : Option (Layer × State) :=
  let n := ords * kv
  let have_ := countOf (fun e => e.1 == (seq, layer)) s.seq.scoutBlocks
  (takeBlocks c (tableBlocks n - r.blocks.length) s).bind (fun t =>
    (takeScouts c seq layer (ceilDiv n 512 - have_) t.2).map (fun s' =>
      let blocks := r.blocks ++ t.1
      let root := if r.depth < tableDepth n then blocks.getLastD r.root else r.root
      ({ r with depth := max r.depth (tableDepth n), root := root, blocks := blocks }, s')))

/-- The blocks of a layer: its record's block and its page table. -/
def layerBlocks (q : Seqd) (layer : Nat) : List Nat :=
  (q.layerTable + layer * 16 / 4096) :: ((look layer q.recs).map (fun r => r.blocks)).getD []

/-- Whether a table block can be read. -/
def blockReadable (s : State) (b : Nat) : Bool := spanReadable s (blockAddr s.im b) 4096

/-- TABLE_UNCORR (R517): the notice of an uncorrectable table codeword. -/
def tableNotice (seq c layer : Nat) (s : State) : State := notice 0x05 [c] (seq + layer * 2 ^ 32) s

/-- The descriptor and a layer's tables read: whether they are readable; errors are counted and noticed (R469, R517). -/
def readTables (seq : Nat) (q : Seqd) (layer : Option Nat) (s : State) : Bool × State :=
  let s := noteSpan (blockAddr s.im q.descBlock) 4096 s
  if blockReadable s q.descBlock = false then (false, tableNotice seq q.car 0xFFFF s)
  else
    match layer with
    | none => (true, s)
    | some l =>
      let bs := layerBlocks q l
      let s := forEach bs (fun b s => noteSpan (blockAddr s.im b) 4096 s) s
      if bs.all (blockReadable s) then (true, s) else (false, tableNotice seq q.car l s)

/-! ### Page bytes (R162, R205, R211) -/

/-- Whether the bytes of a page's data and side areas can be read. -/
def pageReadable (s : State) (g : Page) : Bool :=
  if g.comp then canRead s g.loc 0 g.stored else canRead s g.loc 0 s.im.frameSize

/-- The data area followed by the side area, in clear and expanded: compression, like encryption, is kept off the byte
table, and only the stored length follows from it (assumption 10). -/
def pageBytes (s : State) (g : Page) : List Byte := locBytes s g.loc 0 s.im.frameSize

/-- Whether `n` bytes of a page from byte `off` on can be read; a compressed page is read whole. -/
def canReadPage (s : State) (g : Page) (off n : Nat) : Bool :=
  if g.comp then pageReadable s g else canRead s g.loc off n

/-- `n` bytes of a page from byte `off` of its data area on. -/
def pageSlice (s : State) (g : Page) (off n : Nat) : List Byte := locBytes s g.loc off n

/-- The errors of a read of a page counted. -/
def notePage (g : Page) (off n : Nat) (s : State) : State := if g.comp then noteRead g.loc 0 g.stored s else noteRead g.loc off n s

/-- The first `n` slots of a page, and their scales. -/
def slotsOf (s : State) (q : Seqd) (g : Page) (n : Nat) : List Byte × List Byte :=
  (pageSlice s g 0 (n * q.slot s.im), pageSlice s g s.im.dataArea (n * q.scale s.im))

/-- Whether the first `n` slots of a page and their scales can be read: of each slot only its occupied bytes (R196). -/
def slotsReadable (s : State) (q : Seqd) (g : Page) (n : Nat) : Bool :=
  (List.range n).all (fun j => canReadPage s g (j * q.slot s.im) q.occ) && canReadPage s g s.im.dataArea (n * q.scale s.im)

/-- The errors met by that read counted. -/
def noteSlots (q : Seqd) (g : Page) (n : Nat) (s : State) : State :=
  if g.comp then notePage g 0 0 s
  else s |> forEach (List.range n) (fun j => noteRead g.loc (j * q.slot s.im) q.occ) |> noteRead g.loc s.im.dataArea (n * q.scale s.im)

/-- The digest of a page: data area followed by side area. -/
def pageDigest (s : State) (g : Page) : List Byte := (digestOf (pageBytes s g)).take 24

/-! ### Allocating a page (R164, R174, R183) -/

/-- Directory entries in use in a group. -/
def dirUsed (s : State) (g : Nat) : Nat := countOf (fun p => p.1 / 2 ^ 26 == g) s.seq.pages

/-- Free directory entries of a group. -/
def dirFree (s : State) (g : Nat) : Nat := s.im.entriesPerGroup - dirUsed s g

/-- Of some groups, the one with the most free directory entries, where any has one. -/
def dirBest (s : State) (gs : List Nat) : Option Nat := mostBy (dirFree s) (gs.filter (fun g => 0 < dirFree s g))

/-- The group that gives a directory entry: most free entries on the frame's half, else on the other (R174). -/
def dirGroup (s : State) (c half : Nat) : Option Nat :=
  let gs := allocGroups s c
  match dirBest s (gs.filter (fun g => g / 32 == half)) with
  | some g => some g
  | none => dirBest s (gs.filter (fun g => g / 32 != half))

/-- A free directory entry of a group, as a local page index. -/
def dirPick (s : State) (g : Nat) : Option Nat :=
  (pickBelow s.im.entriesPerGroup (fun e => !has (g * 2 ^ 26 + e) s.seq.pages) s).map (fun e => g * 2 ^ 26 + e)

/-- A new page's directory entry: VALID, empty, REFCOUNT 1. -/
def newPage (loc : Loc) (c slot : Nat) (q : Seqd) : Page :=
  { summary := zeros 64, digest := zeros 24, hash := 0, radius := 0, scale := 0, refs := 1, loc := loc, fill := 0,
    tableId := 0, keySlot := slot, car := c, latent := q.latent, elem := q.elem, pexp := q.pexp, foxRow := none,
    sealed_ := false, prot := q.protected_, comp := false, indexed := false, moving := false, cls := 0, stored := 0,
    age := 0, sealAt := 0 }

/-- The directory entry of a page written whole. -/
def setPage (p : Nat) (g : Page) (s : State) : State := onSeq (fun x => { x with pages := put p g x.pages }) s

/-- A page's entry changed. -/
def onPage (p : Nat) (f : Page → Page) (s : State) : State := onSeq (fun x => { x with pages := upd p f x.pages }) s

/-- A page put into a frame, its directory entry taken from a group; none where the group has no free entry. The side area
of a BF16 page is 0 (R162). -/
def enterIn (dir : Option Nat) (loc : Loc) (c slot : Nat) (q : Seqd) (s : State) : Option (Nat × State) :=
  dir.bind (fun g => (dirPick s g).map (fun p =>
    let a := dirAddr p
    let s := s |> freeTaken |> setPage p (newPage loc c slot q) |> zeroAt a 128
      |> onSeq (fun x => { x with zeroed := remSet g x.zeroed })
    let use_ := FrameUse.page p
    let s := if q.elem = 5 then zeroLoc loc s.im.dataArea (s.im.dataArea / 32) s else s
    let s := match loc with
      | .hbm g f => onSeq (fun x => { x with frames := put (g, f) use_ x.frames }) s
      | .cxl c f => onSeq (fun x => { x with cframes := put (c, f) use_ x.cframes }) s
      | .cold => s
    (p, s)))

/-- A page put into a frame: it takes a directory entry; none where the carriage has no free entry. -/
def enterPage (loc : Loc) (c slot : Nat) (q : Seqd) (s : State) : Option (Nat × State) :=
  enterIn (dirGroup s c (locHalf s loc)) loc c slot q s

/-- A page for a sequence of a carriage: home half, other half, then CXL where it falls back (R183). -/
def allocPage (c home : Nat) (q : Seqd) (s : State) : Option (Nat × State) :=
  let slot := s.currentSlot c
  match takeHbm c home .table s with
  | some (k, s) => enterPage (.hbm k.1 k.2) c slot q s
  | none =>
    if q.fallback then
      (takeCxl c home .table s).bind (fun r =>
        (enterPage (.cxl c r.1) c slot q r.2).map (fun e =>
          (e.1, e.2 |> bump .BDG_SEQ_C_FALLBACK_COUNT c 1 |> raiseCar 0x0441 c [(1, c)])))
    else none

/-- Several pages; all of them or none. -/
def allocPages (c home : Nat) (q : Seqd) : Nat → State → Option (List Nat × State)
  | 0, s => some ([], s)
  | n + 1, s => (allocPage c home q s).bind (fun r => (allocPages c home q n r.2).map (fun t => (r.1 :: t.1, t.2)))

/-- Whether every directory entry of a carriage is taken (event 0x0445). -/
def dirFull (s : State) (c : Nat) : Bool := (allocGroups s c).all (fun g => s.im.entriesPerGroup ≤ dirUsed s g)

/-! ### Freeing a page (R182, R204) -/

/-- Whether a packet of the RMA_RESP to an operation still waits on a link. -/
def answering (s : State) (key : Nat × Nat) : Bool :=
  s.prt.links.any (fun l => l.2.outq.any (fun x =>
    H.mtype x.body == MTy.rmaResp && H.dest x.body == key.1 && H.opId x.body == key.2))

/-- Whether an RMA_READ holds a page: it waits for its TIER 1 page, or a packet of its answer has not left (R395). -/
def readHolds (s : State) (p : Nat) : Bool :=
  s.prt.paging.any (fun x => H.mtype x.body == MTy.rmaRead && H.rkey x.body == p) ||
  s.prt.reads.any (fun r => r.2 == p && answering s r.1)

/-- Whether a coach walked a page. -/
def Coach.walks (c : Coach) (p : Nat) : Bool :=
  c.scored.any (fun v => v.any (fun x => x.page == p)) || (c.cands.getD []).any (fun x => x.page == p) ||
  c.toRead.any (fun x => x.2.page == p)

/-- The coaches that walked a page and still run. -/
def walkers (s : State) (p : Nat) : List Nat := keys (s.fox.coaches.filter (fun k => k.2.walks p))

/-- Whether a coach that walked a page still runs, or an RMA_READ holds it (R182, R395). -/
def walked (s : State) (p : Nat) : Bool := !(walkers s p).isEmpty || readHolds s p

/-- STORED of a compression table follows its pages; a page that ends compressed gives its table back. -/
def tableInUse (s : State) (id : Nat) : Nat := countOf (fun p => p.2.comp && p.2.tableId == id) s.seq.pages

/-- QUEUED of a compression table raised or lowered. -/
def queueTable (id : Option Nat) (up : Bool) (s : State) : State :=
  match id with
  | none => s
  | some i => onSeq (fun x => { x with tables := x.tables.map (fun t =>
      if t.2.id = i then (t.1, { t.2 with queued := if up then t.2.queued + 1 else t.2.queued - 1 }) else t) }) s

/-- The table under which a page is stored compressed. -/
def pageTable (s : State) (p : Nat) : Option Nat :=
  (look p s.seq.pages).bind (fun g => if g.comp then some g.tableId else none)

/-- A move no longer runs: MOVING is clear and its blocks are no longer queued. -/
def endMove (p : Nat) (m : Move) (s : State) : State :=
  s |> queueTable (pageTable s p) false |> queueTable m.comp false
    |> onSeq (fun x => { x with moves := del p x.moves }) |> onPage p (fun g => { g with moving := false })

/-- A move abandoned because its page is freed (R204, event 0x0406). -/
def abandonMove (p : Nat) (s : State) : State :=
  match look p s.seq.moves with
  | none => s
  | some m =>
    let s := s |> endMove p m |> freeLoc m.dest
    whenSome m.cmd (fun k s => s |> complete k Status.ok 0 1 |> raise 0x0406 (some m.car) []) s

/-- A page freed: VALID, row, key, generation, frame (R182). -/
def freePage (p : Nat) (s : State) : State :=
  match look p s.seq.pages with
  | none => s
  | some g =>
    let s := s |> abandonMove p |> releaseRow p |> when g.indexed (indexRemove p g)
      |> onFox (fun f => { f with rowless := remSet p f.rowless })
      |> onSeq (fun x => { x with
          pages := del p x.pages
          gens := put p ((lookD p 0 x.gens + 1) % 65536) x.gens
          sealing := del p x.sealing
          freeing := remSet p x.freeing })
    s |> freeLoc g.loc |> when (g.loc != .cold) (slotLeft g.keySlot)

/-- One reference less: at 0 the page is freed once nothing walks it (R182; PAGE_FREE). -/
def unref (p : Nat) (s : State) : State :=
  let s := onPage p (fun g => { g with refs := g.refs - 1 }) s
  if (look p s.seq.pages).any (fun g => g.refs == 0) then onSeq (fun x => { x with freeing := addSet p x.freeing }) s else s

/-- One reference more. -/
def addRef (p : Nat) (s : State) : State :=
  onSeq (fun x => { x with freeing := remSet p x.freeing }) (onPage p (fun g => { g with refs := g.refs + 1 }) s)

/-- PAGE_FREE (R182). -/
def pageFree (p : Nat) (s : State) : State :=
  if p ∈ s.seq.freeing ∧ walked s p = false then freePage p s else s

def execPageFree (page : BitVec 32) (s : State) : Result := done (live (pageFree page.toNat) s)

end Sys2Proof.Machine
end

