-- ==== Sys2Proof/Machine/Ring.lean ====
section
/-! DEFINITION. The order of a carriage's coaches (R232, R305), the gather rings (R194 to R197), the order of a carriage's
HBM work (R198), and the limits of page moves (R199). -/

namespace Sys2Proof.Machine

open Sys2Proof

/-! ### The order of coaches -/

/-- Whether coach `a` (id `i`) runs before coach `b` (id `j`) of the same carriage (R232, R305): fabric coaches in order
of departure, then of arrival; a FOX_SCORE or BEAR_ATTN after every fabric coach that waits. -/
def runsBefore (a : Coach) (i : Nat) (b : Coach) (j : Nat) : Bool :=
  if a.cmd.isNone && b.cmd.isSome then true
  else if a.cmd.isSome && b.cmd.isNone then false
  else decide (a.depart < b.depart) || (a.depart == b.depart && (decide (a.order < b.order) || (a.order == b.order && decide (i < j))))

/-- Whether a coach of the carriage that runs before coach `id` still has a piece of work to do. -/
def waitsFor (s : State) (id : Nat) (c : Coach) (work : Coach → Bool) : Bool :=
  s.fox.coaches.any (fun e => e.1 != id && e.2.car == c.car && e.2.open_ && runsBefore e.2 e.1 c id && work e.2)

/-- Whether a coach's gather has still to be done. -/
def gatherLeft (c : Coach) : Bool := !c.gather || !c.toRead.isEmpty

/-- The tiles of a half that do a coach's work, in ascending logical index. -/
def Coach.on (c : Coach) (half : Nat) : List Nat := c.own.filter (fun t => t / 32 == half)

/-- Whether the tiles have begun a coach's work. -/
def Coach.begun (c : Coach) : Bool := c.absorbed.isSome || !c.tiles.isEmpty

/-- Whether a coach must not begin on its tiles yet: a spare is to take one of them over first, or its KAT runs after a mismatch
(R289, R290). -/
def spareFirst (s : State) (c : Coach) : Bool :=
  !c.begun && s.fox.shadows.any (fun e => (e.2.step == 5 || e.2.step == 6) && decide (e.2.tile ∈ c.own))

/-! ### What a gather reads of a page (R196) -/

/-- First position of the page of a leaf entry. -/
def basePos (s : State) (q : Seqd) (layer leaf : Nat) : Nat := ordinalOf s q layer (leaf / max 1 q.kv) * q.p

/-- The slots of a candidate that go to the tiles: those in view below FREEZE_POS. -/
def candSlots (s : State) (c : Coach) (q : Seqd) (x : Cand) (g : Page) : Nat :=
  let view := match look x.leaf (layerOf s c.seq q c.layer).leaves with
    | some l => l.view
    | none => g.fill
  min (min view g.fill) (q.freeze - basePos s q c.layer x.leaf)

/-- Bytes that a candidate's records take in the gather ring: the occupied bytes of each slot, and its scales. -/
def candSize (s : State) (c : Coach) (q : Seqd) (x : Cand) : Nat :=
  match look x.page s.seq.pages with
  | some g => candSlots s c q x g * (q.occ + q.scale s.im)
  | none => 0

/-! ### The gather rings (R194, R197) -/

/-- The share of a half's gather ring that a coach's carriage has: 1 MiB for each tile it owns there. -/
def ringShare (c : Coach) (half : Nat) : Nat := 1048576 * (c.on half).length

/-- Whether the tiles of a half take a coach's records as they come: its query is there, absorbed where it is latent, and
they have scored every earlier coach of the carriage. -/
def takesRecords (s : State) (id : Nat) (c : Coach) (half : Nat) : Bool :=
  c.whole && !spareFirst s c && (c.absorbed.isSome || (look c.seq s.seq.seqs).any (fun q => !q.latent)) &&
  !waitsFor s id c (fun d => (d.on half).any (fun t => !has t d.tiles))

/-- Bytes of a carriage's records that wait in a half's gather ring for its tiles. -/
def ringUsed (s : State) (car half : Nat) : Nat :=
  sumOf (fun e => if e.2.car = car ∧ takesRecords s e.1 e.2 half = false then
      sumOf (fun r => if r.1 = half then r.2.data.length + r.2.scales.length else 0) e.2.stream
    else 0) s.fox.coaches

/-- Whether a coach's carriage has room for `n` bytes more in its share of a half's ring. -/
def ringRoom (s : State) (c : Coach) (half n : Nat) : Bool := decide (ringUsed s c.car half + n ≤ ringShare c half)

/-- The candidate that a coach's gather reads next on a half, where its turn has come and the ring has room for it. -/
def nextRead (s : State) (id : Nat) (c : Coach) (q : Seqd) (half : Nat) : Option Cand :=
  if c.gather = false ∨ waitsFor s id c gatherLeft then none
  else
    match c.toRead.find? (fun e => e.1 == half) with
    | some (_, x) => if ringRoom s c half (candSize s c q x) then some x else none
    | none => none

/-! ### The order of HBM work (R198) -/

/-- Whether a departure gather of a carriage can read a page now: every other HBM work of the carriage waits for it. -/
def gathersFirst (s : State) (car : Nat) : Bool :=
  s.fox.coaches.any (fun e => e.2.car == car && e.2.open_ && decide (s.ft < e.2.cutoff) &&
    (look e.2.seq s.seq.seqs).any (fun q => [0, 1].any (fun h => (nextRead s e.1 e.2 q h).isSome)))

/-! ### Limits of moves (R199) -/

/-- The PAGE_COPY commands that run. -/
def copies (s : State) : List Cmd :=
  (s.que.started.filter (fun e => Op.engine e.2.bytes == 1 && Op.opcode e.2.bytes == 0x03 && e.2.phase != 0)).map Prod.snd

/-- Moves and copies in flight: on a half, and of a carriage. -/
def movesOnHalf (s : State) (h : Nat) : Nat :=
  countOf (fun m => m.2.half == h) s.seq.moves + countOf (fun c => u8 c.bytes 15 == h) (copies s)
def movesOfCar (s : State) (c : Nat) : Nat :=
  countOf (fun m => m.2.car == c) s.seq.moves + countOf (fun x => Op.car x.bytes == c) (copies s)

/-- BDG_C_MOVE_MAX: 0 reads as 1, at most 16,384. -/
def moveMax (s : State) (c : Nat) : Nat := min 16384 (max 1 (s.rg .BDG_C_MOVE_MAX_MAX c))

/-- Whether one more move of a carriage may start on a half. -/
def moveRoom (s : State) (c h : Nat) : Bool := decide (movesOnHalf s h < 8192) && decide (movesOfCar s c < moveMax s c)

/-- Whether a park or resume transfer of a carriage may go on now: its gathers come first (R198), and each half has room for
one more of its page moves (R199). -/
def transferMayRun (s : State) (c : Nat) : Bool := !gathersFirst s c && moveRoom s c 0 && moveRoom s c 1

/-- A move of a carriage that has begun beside `others` of its own: whether the carriage has reached its limit (event
0x0408, first time in a frame). -/
def noteMoves (c others : Nat) (s : State) : State := if moveMax s c ≤ others + 1 then raiseCar 0x0408 c [] s else s

end Sys2Proof.Machine
end

