-- ==== Sys2Proof/Machine/Seal.lean ====
section
/-! DEFINITION. What a seal computes from the keys of a page: SUMMARY, SCALE and RADIUS (R233, R234). The order
and the rounding of the additions inside the mean and the norm are not stated: their results are free within what such
rounding can leave of the exact values, and so that RADIUS covers every key (R236, assumption 6). -/

namespace Sys2Proof.Machine

open Sys2Proof

/-- Nk: the key elements of a record rounded up to a power of two (R233). -/
def Seqd.nk (q : Seqd) : Nat := 2 ^ ceilLog2 q.elems

/-- The dequantised key elements of the positions of a page (R162, R233). -/
def sealKeys (s : State) (q : Seqd) (g : Page) : List (List (Int × Int)) :=
  (List.range q.p).map (fun j =>
    let v := vecOf q.elem (if q.latent then q.elems else 2 * q.elems) (pageSlice s g (j * q.slot s.im) (q.slot s.im))
      (pageSlice s g (s.im.dataArea + j * q.scale s.im) (q.scale s.im))
    (List.range q.elems).map (fun i => ((v.get i).m, (v.get i).e)))

/-! ### The projection (R233) -/

/-- The integer square root, by `k` bits of it. -/
def isqrtFrom : Nat → Nat → Nat → Nat
  | 0, _, r => r
  | k + 1, n, r => isqrtFrom k n (if (r + 2 ^ k) * (r + 2 ^ k) ≤ n then r + 2 ^ k else r)

def isqrt (n : Nat) : Nat := isqrtFrom (Nat.log2 n / 2 + 1) n 0

/-- The square root of a number that is not negative, to 128 bits and a sticky bit. -/
def Dy.root (a : Dy) : Dy :=
  let r := (a.e % 2).toNat
  let n := a.m.natAbs * 2 ^ (256 + r)
  let x := isqrt n
  { m := (2 * x + (if x * x = n then 0 else 1) : Nat), e := (a.e - r) / 2 - 129 }

def Dy.neg (a : Dy) : Dy := { a with m := -a.m }

def Dy.abs (a : Dy) : Dy := { a with m := (a.m.natAbs : Int) }

/-- Order of the values. -/
def Dy.leB (a b : Dy) : Bool := decide (0 ≤ (b.add a.neg).m)

def Dy.sum (l : List Dy) : Dy := l.foldl Dy.add Dy.zero

/-- log2 of b, the elements of key space that a number of Π takes (R233). -/
def projExp (nk : Nat) : Nat := Nat.log2 (max 1 (nk / 128))

/-- 1/√b: exact for a power of 4, else √2, to 128 bits, over a power of two. -/
def invRoot (t : Nat) : Dy :=
  if t % 2 = 0 then { m := 1, e := -((t / 2 : Nat) : Int) } else { m := (isqrt (2 ^ 257) : Nat), e := -128 - ((t / 2 + 1 : Nat) : Int) }

/-- Sums of b elements each, 128 of them; elements past the end count as 0. -/
def blockSums (t : Nat) (x : List Dy) : List Dy := (List.range 128).map (fun i => Dy.sum ((x.drop (i * 2 ^ t)).take (2 ^ t)))

/-- Π of a vector of key space. -/
def project (t : Nat) (x : List Dy) : List Dy := (blockSums t x).map (Dy.mul (invRoot t))

/-- Π^T of a vector of 128 numbers. -/
def spread (t : Nat) (y : List Dy) : List Dy := y.flatMap (fun v => List.replicate (2 ^ t) (v.mul (invRoot t)))

/-! ### mu, SCALE and SUMMARY (R234) -/

def keyDys (keys : List (List (Int × Int))) : List (List Dy) := keys.map (fun k => k.map (fun x => { m := x.1, e := x.2 }))

/-- Elementwise sum of vectors of 128 numbers. -/
def sumVecs (l : List (List Dy)) : List Dy := (List.range 128).map (fun i => Dy.sum (l.map (fun v => nth Dy.zero v i)))

/-- A number of mu as a tile computes it: within the error that its FP32 additions, of `n` terms whose magnitudes add up to
`a`, can leave of the exact `v` (assumption 6). -/
def muNear (n : Nat) (v a : Dy) (x : Nat) : Nat :=
  let err := Dy.add { m := n + 4, e := -149 } ({ m := n + 4, e := -23 : Dy }.mul a)
  if F32.finite x && ((F32.dy x).add v.neg).abs.leB err then x else roundTo 24 .near v

/-- mu: 128 numbers in FP32, or none where a sum leaves the range of FP32. The positions of a page are a power of two. -/
def sealMean (nk : Nat) (keys : List (List (Int × Int))) : Option (List Nat) :=
  let t := projExp nk
  let ks := keyDys keys
  let sum := sumVecs (ks.map (blockSums t))
  let mag := sumVecs (ks.map (fun k => blockSums t (k.map Dy.abs)))
  let share := (invRoot t).mul { m := 1, e := -(Nat.log2 keys.length : Int) }
  if mag.all (fun a => a.leB { m := 1, e := 127 }) then
    some ((List.range 128).map (fun i => muNear (keys.length * 2 ^ t) ((nth Dy.zero sum i).mul share) ((nth Dy.zero mag i).mul share)
      (nth 0 (Config.keyMean nk keys) i % 2 ^ 32)))
  else none

/-- SCALE: the largest magnitude over 7, to BF16 towards +∞; 2^-126 where mu is 0. -/
def sealScale (mu : List Nat) : Nat :=
  let top := mu.foldl (fun t x => max t (x % 2 ^ 31)) 0
  if top = 0 then 0x0080
  else
    let d := F32.dy top
    let a := d.m.natAbs * 2 ^ 40
    roundTo 8 .up { m := 2 * (a / 7 : Nat) + (if a % 7 = 0 then 0 else 1), e := d.e - 41 }

/-- The nearest whole number of an FP32 number, a tie to even. -/
def rneInt (x : Nat) : Int :=
  let d := F32.dy x
  if 0 ≤ d.e then d.m * 2 ^ d.e.toNat
  else
    let a : Int := shiftRound .near (F32.neg x) d.m.natAbs (-d.e).toNat
    if F32.neg x then -a else a

/-- SUMMARY: mu over SCALE to the nearest number from -8 to 7. -/
def sealSummary (mu : List Nat) (scale : Nat) : List Int :=
  mu.map (fun x => clampInt (-8) 7 (rneInt (F32.div .near x (F32.ofBf16 scale))))

/-- The elements of a SUMMARY packed, two to a byte, low bits first (R163). -/
def packSummary (u : List Int) : List Byte :=
  (List.range 64).flatMap (fun i => leBytes 1 (unsigned 4 (nth 0 u (2 * i)) + 16 * unsigned 4 (nth 0 u (2 * i + 1))))

/-! ### RADIUS (R234, R236) -/

/-- RADIUS: the largest distance of a key from z, times 1 + 2^-16, to BF16 towards +∞. -/
def sealRadius (dist : Nat) : Nat :=
  if F32.isInf dist then dist / 65536 else roundTo 8 .up ((F32.dy dist).mul { m := 65537, e := -16 })

/-- z: Π^T of SCALE times SUMMARY. -/
def sealPoint (t : Nat) (scale : Nat) (u : List Int) : List Dy :=
  spread t (u.map (fun x => (F32.dy (F32.ofBf16 scale)).mul { m := x, e := 0 }))

/-- The square of a key's distance from a point of key space; elements past the key's end count as 0. -/
def distSq (z k : List Dy) : Dy :=
  Dy.sum ((z.zip (k ++ List.replicate (z.length - k.length) Dy.zero)).map (fun x => let d := x.2.add x.1.neg; d.mul d))

def Dy.max (a b : Dy) : Dy := if a.leB b then b else a

/-- The largest distance as a tile computes it in FP32: never so far below the exact one that RADIUS would miss a key (R236),
and above it by no more than the rounding of its additions, where no square leaves the range of FP32 (assumption 6). -/
def sealDistance (nk : Nat) (keys : List (List (Int × Int))) (scale : Nat) (u : List Int) : Nat :=
  let ks := keyDys keys
  let z := sealPoint (projExp nk) scale u
  let sq := (ks.map (distSq z)).foldl Dy.max Dy.zero
  let d := sq.root
  let mag := (Dy.sum (z.map Dy.abs)).add ((ks.map (fun k => Dy.sum (k.map Dy.abs))).foldl Dy.max Dy.zero)
  let top := d.add (Dy.add { m := 1, e := -70 } ({ m := nk + 8, e := -23 : Dy }.mul mag))
  let x := Config.keyDistance nk keys scale u % 2 ^ 31
  let past := !sq.leB { m := 1, e := 127 }
  if F32.isNan x then roundTo 24 .up d
  else if F32.isInf x then (if past then x else roundTo 24 .up d)
  else if d.leB ((F32.dy x).mul { m := 65537, e := -16 }) && (past || (F32.dy x).leB top) then x
  else roundTo 24 .up d

/-- SUMMARY as numbers, from its packed bytes. -/
def unpackSummary (b : List Byte) : List Int := (List.range 128).map (summaryAt b)

/-- SUMMARY, SCALE and RADIUS of a page. Where mu leaves the range of FP32 no SUMMARY and no SCALE are stated: they are free
then, and so is RADIUS where that SCALE is no number (assumption 6). -/
def sealOf (nk : Nat) (keys : List (List (Int × Int))) : List Byte × Nat × Nat :=
  match sealMean nk keys with
  | some mu =>
    let scale := sealScale mu
    let u := sealSummary mu scale
    (packSummary u, scale, sealRadius (sealDistance nk keys scale u))
  | none =>
    let b := padTo 64 (Config.sealSummary keys)
    let scale := Config.sealScale keys % 65536
    (b, scale, if F32.finite (F32.ofBf16 scale) then sealRadius (sealDistance nk keys scale (unpackSummary b))
      else Config.sealRadius keys % 65536)

def sealStats (s : State) (q : Seqd) (g : Page) : List Byte × Nat × Nat := sealOf q.nk (sealKeys s q g)

end Sys2Proof.Machine
end

