-- ==== Sys2Proof/Machine/Append.lean ====
section
/-! DEFINITION. Changes of a sequence: their order (R607), appends and copy-on-write (R175 to R184), staging (R187,
R188), and seals (R177, R178). The same append serves the fabric, the queue command and a replay. -/

namespace Sys2Proof.Machine

open Sys2Proof

/-! ### One change at a time (R607) -/

/-- Whether a change of a sequence may begin: none runs, and none waits before it. -/
def mayChange (s : State) (seq : Nat) (w : Waiter) : Bool :=
  !has seq s.seq.busy && (match look seq s.seq.waiting with | some v => v == w | none => true)

/-- A change that waits. -/
def waitChange (seq : Nat) (w : Waiter) (s : State) : State :=
  onSeq (fun x => { x with waiting := if (seq, w) ∈ x.waiting then x.waiting else x.waiting ++ [(seq, w)] }) s

/-- A change that begins no longer waits. -/
def dropWait (w : Waiter) (s : State) : State :=
  onSeq (fun x => { x with waiting := x.waiting.filter (fun e => decide (e.2 ≠ w)) }) s

/-- A change of a sequence run when its turn has come, else kept waiting. -/
def change (seq : Nat) (w : Waiter) (f : State → State) (s : State) : State :=
  if mayChange s seq w then f (dropWait w s) else waitChange seq w s

/-- A change of two sequences. -/
def change2 (a b : Nat) (w : Waiter) (f : State → State) (s : State) : State :=
  if mayChange s a w = false then waitChange a w s else if mayChange s b w = false then waitChange b w s else f (dropWait w s)

/-- A sequence being changed by a command that runs on. -/
def setBusy (seq k : Nat) (s : State) : State := onSeq (fun x => { x with busy := put seq k x.busy }) s

/-- The changes of a command end. -/
def clearBusy (k : Nat) (s : State) : State := onSeq (fun x => { x with busy := x.busy.filter (fun e => e.2 != k) }) s

/-! ### Small updates -/

/-- A sequence's descriptor changed. -/
def onSeqd (seq : Nat) (f : Seqd → Seqd) (s : State) : State := onSeq (fun x => { x with seqs := upd seq f x.seqs }) s

/-- A layer record changed, an empty one where there was none. -/
def onLayer (seq layer : Nat) (f : Layer → Layer) (s : State) : State :=
  match look seq s.seq.seqs with
  | some q => setLayer seq q layer (f (layerOf s seq q layer)) s
  | none => s

/-- A leaf entry set. -/
def setLeaf (seq layer e : Nat) (l : Leaf) (s : State) : State :=
  onLayer seq layer (fun r => { r with leaves := put e l r.leaves }) s

/-- Whether an ordinal's pages lie off the home half. -/
def ordinalSplit (s : State) (kv home : Nat) (r : Layer) (k : Nat) : Bool :=
  (List.range kv).any (fun h => ((look (k * kv + h) r.leaves).bind (fun l => look l.page s.seq.pages)).any (fun g =>
    g.loc != .cold && locHalf s g.loc != home))

/-- SPLIT_COUNT follows the layer's pages (R168); the first split of a layer is recorded (event 0x0444). -/
def fixSplit (seq layer : Nat) (s : State) : State :=
  match look seq s.seq.seqs with
  | none => s
  | some q =>
    let r := layerOf s seq q layer
    let n := countOf (ordinalSplit s q.kv r.home r) (List.range r.ordinals)
    let s := setLayer seq q layer { r with split := n } s
    if n = 0 ∨ (seq, layer) ∈ s.seq.splitSeen then s
    else
      s |> onSeq (fun x => { x with splitSeen := (seq, layer) :: x.splitSeen }) |> raise 0x0444 (some q.car) [(4, seq), (2, layer)]

/-! ### Appends -/

/-- What an append names and carries: records, then scales; token IDs; the hash of a page it fills. -/
structure AppIn where
  car : Nat
  seq : Nat
  layer : Nat
  start : Nat
  count : Nat
  data : List Byte
  tokens : List Nat
  hash : Option Nat
deriving DecidableEq, Repr

/-- Bytes of an append's records and scales (R398, Table SEQ-11). -/
def appendBytes (im : Image) (q : Seqd) (count : Nat) : Nat := count * q.kv * (q.slot im + q.scale im)

/-- The record and scale bytes of position `j` of an append for a head. -/
def recordOf (im : Image) (q : Seqd) (a : AppIn) (j h : Nat) : List Byte × List Byte :=
  let i := j * q.kv + h
  (slice a.data (i * q.slot im) (q.slot im), slice a.data (a.count * q.kv * q.slot im + i * q.scale im) (q.scale im))

/-- Records and scales of an append for a head, from its position `from_` on. -/
def headData (im : Image) (q : Seqd) (a : AppIn) (h from_ : Nat) : List Byte × List Byte :=
  let js := (List.range a.count).filter (fun j => from_ ≤ j)
  (js.flatMap (fun j => (recordOf im q a j h).1), js.flatMap (fun j => (recordOf im q a j h).2))

/-- Slots with their unused tails 0 (R162). -/
def cleanSlots (im : Image) (q : Seqd) (d : List Byte) : List Byte :=
  (chunks d.length (q.slot im) d).flatMap (fun x => padTo x.length (x.take q.occ))

/-- Slots and scales written to a page from slot `slot` on, the tail of each slot 0; none where a codeword written in part cannot be read. -/
def writeSlots (q : Seqd) (p slot : Nat) (d : List Byte × List Byte) (s : State) : Option State :=
  (look p s.seq.pages).bind (fun g =>
    let a := slot * q.slot s.im
    let b := s.im.dataArea + slot * q.scale s.im
    if canWrite s g.loc a d.1.length && canWrite s g.loc b d.2.length then
      some (s |> writeLoc g.loc a (cleanSlots s.im q d.1) |> writeLoc g.loc b d.2)
    else none)

/-- The tile that does a page's seal work: of the carriage's on the page's half the one with the least queued, the lowest
rank on a tie (R286); where the half has none, the work is bound to no tile (assumption 36). -/
def sealTile (s : State) (g : Page) : Option Nat :=
  leastBy (fun t => countOf (fun j => j.2.tile == some t) s.seq.sealing)
    ((s.tilesOf false g.car).filter (fun t => t / 32 == locHalf s g.loc))

/-- The seal work of a filled page queued. -/
def queueSeal (p seq layer : Nat) (s : State) : State :=
  let tile := (look p s.seq.pages).bind (sealTile s)
  onSeq (fun x => { x with sealing := put p { seq := seq, layer := layer, tile := tile } x.sealing }) s

/-- A page filled: its hash and class are kept, and its seal work begins (R177, R178). -/
def pageFilled (a : AppIn) (q : Seqd) (p : Nat) (s : State) : State :=
  let hash := if q.indexPrefix then a.hash.getD 0 else 0
  s |> onPage p (fun g => { g with hash := hash, cls := (q.mclass + a.layer) % 65536 })
    |> queueSeal p a.seq a.layer

/-- FILL of a page and VIEW_FILL of its leaf entry raised, after the records are written (R176). -/
def raiseFill (a : AppIn) (q : Seqd) (p e fill : Nat) (s : State) : State :=
  s |> onPage p (fun g => { g with fill := fill }) |> setLeaf a.seq a.layer e { page := p, view := fill }
    |> when (fill == q.p) (pageFilled a q p)

/-- Copy-on-write (R180): the page that a head's append writes to, its own copy where the page is shared or longer than
the entry's view. -/
def ownPage (a : AppIn) (q : Seqd) (home e : Nat) (l : Leaf) (s : State) : Except Nat (Nat × State) :=
  match look l.page s.seq.pages with
  | none => .error Status.uncorrectable
  | some g =>
    match keyFault s g with
    | some st => .error st
    | none =>
      if g.refs ≤ 1 ∧ g.fill = l.view then .ok (l.page, s)
      else if slotsReadable s q g l.view = false then .error Status.uncorrectable
      else
        let d := slotsOf s q g l.view
        match allocPage a.car home q s with
        | none => .error Status.noPage
        | some (p, s) =>
          match writeSlots q p 0 d s with
          | none => .error Status.uncorrectable
          | some s =>
            .ok (p, s |> onPage p (fun x => { x with fill := l.view }) |> setLeaf a.seq a.layer e { page := p, view := l.view }
              |> unref l.page |> bump .BDG_SEQ_C_COW_COUNT a.car 1 |> noteMoves a.car (movesOfCar s a.car))

/-- One head of an append to the last ordinal (R175). -/
def appendHead (a : AppIn) (q : Seqd) (home base k h : Nat) (s : State) : Except Nat State :=
  let e := k * q.kv + h
  match ((look a.seq s.seq.seqs).bind (fun q => look a.layer q.recs)).bind (fun r => look e r.leaves) with
  | none => .error Status.badCommand
  | some l =>
    if a.start + a.count ≤ base + l.view then .ok s
    else
      match ownPage a q home e l s with
      | .error st => .error st
      | .ok (p, s) =>
        match writeSlots q p l.view (headData s.im q a h (base + l.view - a.start)) s with
        | some s => .ok (raiseFill a q p e (a.start + a.count - base) s)
        | none => .error Status.uncorrectable

/-- Every head of an append, or none of them. -/
def appendHeads (a : AppIn) (q : Seqd) (home base k : Nat) : List Nat → State → Except Nat State
  | [], s => .ok s
  | h :: r, s =>
    match appendHead a q home base k h s with
    | .ok s => appendHeads a q home base k r s
    | .error st => .error st

/-- The first records of a new page. -/
def appendFresh (a : AppIn) (q : Seqd) (k : Nat) : List (Nat × Nat) → State → Except Nat State
  | [], s => .ok s
  | (h, p) :: r, s =>
    match writeSlots q p 0 (headData s.im q a h 0) s with
    | some s => appendFresh a q k r (raiseFill a q p (k * q.kv + h) a.count s)
    | none => .error Status.uncorrectable

/-- An append that opens a new ordinal (R175, R183): every page, directory entry and table block, or none. Links of an
ordinal that PAGE_LINK left incomplete give way to the new pages. -/
def appendNew (a : AppIn) (q : Seqd) (r : Layer) (k : Nat) (s : State) : Except Nat State :=
  match growLayer q.car a.seq a.layer q.kv (k + 1) r s with
  | none => .error Status.noPage
  | some (r', s) =>
    match allocPages a.car r.home q q.kv s with
    | none => .error Status.noPage
    | some (ps, s) =>
      let stale := (List.range q.kv).filterMap (fun h => look (k * q.kv + h) r.leaves)
      let s := forEach stale (fun l => unref l.page) s
      let s := setLayer a.seq q a.layer { r' with ordinals := k + 1 } s
      appendFresh a q k ((List.range q.kv).zip ps) s

/-- The VIEW_FILL of an ordinal: the least of its heads'. -/
def viewOf (q : Seqd) (r : Layer) (k : Nat) : Nat :=
  ((leastBy id ((List.range q.kv).map (fun h => ((look (k * q.kv + h) r.leaves).map (fun l => l.view)).getD 0))).getD 0)

/-- Staging bytes of a rejection (R184, R188). -/
def Staged.size (x : Staged) : Nat := x.data.length + 4 * x.tokens.length

/-- Staging bytes held on a half. -/
def stagedBytes (s : State) (half : Nat) : Nat := sumOf (fun x => if x.half = half then x.size else 0) s.seq.staged

/-- The oldest rejections of a half dropped until `n` bytes fit (event 0x0443 each). -/
def makeRoom (half n : Nat) : Nat → State → State
  | 0, s => s
  | fuel + 1, s =>
    if stagedBytes s half + n ≤ 4194304 then s
    else
      match s.seq.staged.find? (fun x => x.half == half) with
      | none => s
      | some x =>
        makeRoom half n fuel (s |> onSeq (fun y => { y with staged := y.staged.erase x })
          |> raise 0x0443 ((look x.seq s.seq.seqs).map (fun q => q.car)) [])

/-- A rejected append staged for 1 ms. -/
def stageAppend (a : AppIn) (half : Nat) (s : State) : State :=
  let x : Staged :=
    { half := half, seq := a.seq, layer := a.layer, start := a.start, count := a.count, data := a.data, tokens := a.tokens,
      hash := a.hash, due := s.clk + 1000000 }
  let s := makeRoom half x.size s.seq.staged.length s
  onSeq (fun y => { y with staged := y.staged ++ [x] }) s

/-- A sequence frozen at `n`. -/
def freezeAt (seq n : Nat) (s : State) : State := onSeqd seq (fun q => { q with st := 2, freeze := n }) s

/-- NO_PAGE (R184): nothing is written, the sequence freezes at START, the rejection is staged. -/
def noPage (a : AppIn) (q : Seqd) (home : Nat) (s : State) : State :=
  s |> when (dirFull s q.car) (raise 0x0445 (some q.car) []) |> freezeAt a.seq a.start |> stageAppend a home
    |> bump .BDG_SEQ_C_NOPAGE_COUNT q.car 1 |> raise 0x0440 (some q.car) [(4, a.seq), (2, a.layer), (4, a.start)]

/-- What follows a completed append: LAST_APPEND_FT, SPLIT_COUNT, and the watchers' steps on the positions written. -/
def appended (a : AppIn) (q : Seqd) (first : Nat) (s : State) : State :=
  let striped := decide (2 ≤ (seqNodes s q).length)
  s |> onSeqd a.seq (fun q => { q with lastAppend := s.ft }) |> fixSplit a.seq a.layer
    |> watchPositions a.seq a.layer first q.p (a.tokens.drop (first - a.start)) striped

/-- The page of an append's ordinal whose slot is retired. -/
def retiredPage (q : Seqd) (r : Layer) (k : Nat) (s : State) : Option Page :=
  (List.range q.kv).findSome? (fun h =>
    ((look (k * q.kv + h) r.leaves).bind (fun l => look l.page s.seq.pages)).filter (fun g =>
      keyFault s g == some Status.keyRetired))

/-- The errors met by the reads of an append that fails counted. -/
def noteAppendReads (q : Seqd) (r : Layer) (k : Nat) (s : State) : State :=
  forEach (List.range q.kv) (fun h s =>
    match (look (k * q.kv + h) r.leaves).bind (fun l => look l.page s.seq.pages) with
    | some g => notePage g 0 s.im.frameSize s
    | none => s) s

/-- The pseudo-code of R175 from the placement on: status, RESULT, state. -/
def appendPlaced (a : AppIn) (q : Seqd) (k : Nat) (s : State) : (Nat × Nat) × State :=
  let r := layerOf s a.seq q a.layer
  let base := a.start / q.p * q.p
  let view := viewOf q r (r.ordinals - 1)
  let out : Except Nat State :=
    if k + 1 = r.ordinals then appendHeads a q r.home base k (List.range q.kv) s
    else appendNew a q r k s
  if k + 1 < r.ordinals ∨ (k + 1 = r.ordinals ∧ a.start + a.count ≤ base + view) then ((Status.ok, 0), s)
  else if (k + 1 = r.ordinals ∧ base + view < a.start) ∨ r.ordinals < k ∨ (k = r.ordinals ∧ a.start ≠ base) then
    ((Status.badCommand, 0), s)
  else
    match out with
    | .ok s' => ((Status.ok, 0), appended a q (if k + 1 = r.ordinals then max a.start (base + view) else a.start) s')
    | .error st =>
      if st = Status.noPage then ((st, a.start), noPage a q r.home s)
      else ((st, 0), s |> noteKey st (retiredPage q r k s) q.car |> when (st == Status.uncorrectable) (noteAppendReads q r k))

/-- An append (R23, R175, R184, R185, R189, R89, R493, R523, R608): status, RESULT, state. -/
def append (a : AppIn) (s : State) : (Nat × Nat) × State :=
  match look a.seq s.seq.seqs with
  | none => ((Status.badCommand, 0), s)
  | some q =>
    let o := a.start / q.p
    match localOf s q a.layer o with
    | none => ((Status.badCommand, 0), s)
    | some k =>
      let fail := firstFail [
        (decide (a.layer < q.layers) && decide (1 ≤ a.count) && decide (a.count ≤ 32) &&
          decide (a.start + a.count ≤ 16777216) &&
          decide ((a.start + a.count - 1) / q.p = o) && decide (a.data.length = appendBytes s.im q a.count),
          Status.badCommand),
        (q.car == a.car && (!q.protected_ || s.canEncrypt q.car), Status.accessDenied),
        (!q.parked && !(q.st == 2 && decide (q.freeze < a.start + a.count)), Status.frozen),
        (s.timeServes, Status.timeHoldover),
        (!s.seqHeld q.car a.seq, Status.aborted)]
      match fail with
      | some st => ((st, 0), s)
      | none =>
        let t := readTables a.seq q (some a.layer) s
        if t.1 then appendPlaced a q k t.2 else ((Status.uncorrectable, 0), t.2)

/-- Whether an append copies a page first (R180): a head's page in its last ordinal is shared, or longer than the view. -/
def appendCopies (s : State) (a : AppIn) : Bool :=
  (look a.seq s.seq.seqs).any (fun q =>
    let r := layerOf s a.seq q a.layer
    (localOf s q a.layer (a.start / q.p)).any (fun k => k + 1 == r.ordinals && (List.range q.kv).any (fun h =>
      (look (k * q.kv + h) r.leaves).any (fun l => (look l.page s.seq.pages).any (fun g =>
        decide (1 < g.refs) || g.fill != l.view)))))

/-- Whether an append waits: for the gathers of its carriage (R198), or for room for the page move that its copy is (R199). -/
def appendWaits (s : State) (a : AppIn) : Bool :=
  gathersFirst s a.car || (appendCopies s a && !moveRoom s a.car (((look a.seq s.seq.seqs).map (fun q => (layerOf s a.seq q a.layer).home)).getD 0))

/-! ### Staging expires (R184) -/

/-- STAGED_EXPIRE: rejections of a half held for 1 ms (event 0x0442 each). -/
def stagedExpire (half : Nat) (s : State) : State :=
  let gone := s.seq.staged.filter (fun x => x.half == half && decide (x.due ≤ s.clk))
  let s := onSeq (fun y => { y with staged := y.staged.filter (fun x => decide (x ∉ gone)) }) s
  forEach gone (fun x s => raise 0x0442 ((look x.seq s.seq.seqs).map (fun q => q.car)) [(4, x.seq), (4, x.start)] s) s

def execStagedExpire (half : Fin 2) (s : State) : Result := done (live (stagedExpire half.val) s)

/-! ### Seals (R177, R178, R234, R253) -/

/-- A page that can be read with what its seal computes (R177, R234), in the record shape of a sequence that holds it. -/
def sealed_ (s : State) (p : Nat) (g : Page) : Page :=
  let x := match (seqsOfPage s p).head? with
    | some q => sealStats s q.2 g
    | none => sealOf 1 []
  { g with summary := x.1, scale := x.2.1, radius := x.2.2, digest := pageDigest s g }

/-- SEALED set last, with the page's Owl entry where it carries a hash. -/
def sealEnd (p : Nat) (s : State) : State :=
  let s := onPage p (fun g => { g with sealed_ := true, sealAt := s.ft }) s
  match look p s.seq.pages with
  | some g => if g.hash ≠ 0 then indexInsert p g s else s
  | none => s

/-- Whether a seal job may run now: its carriage's gathers come first (R198), and while a coach waits for the job's tile, the
tile does no more jobs between two coaches than BEAR_SEAL allows (R286). -/
def sealMayRun (s : State) (car : Nat) (j : SealJob) : Bool :=
  !gathersFirst s car && j.tile.all (fun t =>
    !s.fox.coaches.any (fun c => c.2.open_ && decide (t ∈ c.2.own)) || decide (lookD t 0 s.fox.sealJobs < max 1 (s.rg .BEAR_SEAL_SLOTS 0)))

/-- A job counted for its tile. -/
def countJob (j : SealJob) (s : State) : State :=
  whenSome j.tile (fun t => onFox (fun f => { f with sealJobs := put t (lookD t 0 f.sealJobs + 1) f.sealJobs })) s

/-- The seal work of a page done: it seals, or, where a codeword cannot be read, never will (event 0x0446). -/
def sealWork (p : Nat) (j : SealJob) (g : Page) (s : State) : State :=
  let s := s |> onSeq (fun x => { x with sealing := del p x.sealing }) |> countJob j |> notePage g 0 s.im.frameSize
  if pageReadable s g = false then raise 0x0446 (some g.car) [(4, j.seq), (2, j.layer), (4, p)] s
  else
    let g := sealed_ s p g
    s |> setPage p g |> bindRow p (locHalf s g.loc) g |> sealEnd p

/-- PAGE_SEAL: the seal work of a filled page ends. -/
def pageSeal (p : Nat) (s : State) : State :=
  match look p s.seq.sealing, look p s.seq.pages with
  | some j, some g => if sealMayRun s g.car j then sealWork p j g s else s
  | _, _ => s

def execPageSeal (page : BitVec 32) (s : State) : Result := done (live (pageSeal page.toNat) s)

end Sys2Proof.Machine
end

