-- ==== Sys2Proof/Machine/Seq.lean ====
section
/-! DEFINITION. The sequence commands and the fabric APPEND (R179 to R190, R607, R608, Tables SEQ-8 to SEQ-11). -/

namespace Sys2Proof.Machine

open Sys2Proof

/-! ### Table memory of a sequence -/

/-- Sequences whose descriptor lies in a block. -/
def descCount (s : State) (b : Nat) : Nat := countOf (fun q => q.2.descBlock == b) s.seq.seqs

/-- A place for a descriptor: a descriptor block of the carriage with room, or a new block (R170). -/
def takeDesc (c : Nat) (s : State) : Option (Nat × State) :=
  match ((s.seq.seqs.filter (fun q => q.2.car == c)).map (fun q => q.2.descBlock)).find? (fun b => descCount s b < 64) with
  | some b => some (b, s)
  | none => takeRun c 1 s

/-- The table memory that a new sequence needs: its descriptor's block and the run of its layer records. -/
def takeSeqTables (c layers : Nat) (s : State) : Option (Nat × Nat × State) :=
  (takeDesc c s).bind (fun d => (takeRun c (ceilDiv (layers * 16) 4096) d.2).map (fun r => (d.1, r.1, r.2)))

/-- The CXL frames of a warm image given back (R342). -/
def dropWarm (seq : Nat) (s : State) : State :=
  match look seq s.park.warm with
  | none => s
  | some w => forEach w.frames (fun k => freeLoc (.cxl k.1 k.2)) (onPark (fun x => { x with warm := del seq x.warm }) s)

/-- The table memory of a sequence given back. -/
def freeSeqTables (seq : Nat) (q : Seqd) (s : State) : State :=
  let run := (List.range (ceilDiv (q.layers * 16) 4096)).map (fun i => q.layerTable + i)
  let scout := (s.seq.scoutBlocks.filter (fun e => e.1.1 == seq)).map Prod.snd
  let s := onSeq (fun x => { x with scoutBlocks := x.scoutBlocks.filter (fun e => e.1.1 != seq) }) s
  let scout := scout.filter (fun b => s.seq.scoutBlocks.all (fun e => e.2 != b))
  let desc := if descCount s q.descBlock = 0 then [q.descBlock] else []
  freeBlocks (run ++ q.recs.flatMap (fun r => r.2.blocks) ++ scout ++ desc) s

/-- A sequence freed: references, table memory, watchers, image, descriptor (R182, R449). -/
def freeSeq (seq : Nat) (s : State) : State :=
  match look seq s.seq.seqs with
  | none => s
  | some q =>
    let s := forEach q.entries (fun e => unref e.2.2.page) s
    let s := onSeq (fun x => { x with seqs := del seq x.seqs, splitSeen := x.splitSeen.filter (fun e => e.1 != seq) }) s
    s |> freeSeqTables seq q |> watchFreeSeq seq |> dropWarm seq |> onPark (fun x => { x with resumes := del seq x.resumes })

/-- Sequences of a carriage, and the children that forks have reserved. -/
def seqsOf (s : State) (c : Nat) : Nat :=
  countOf (fun q => q.2.car == c) s.seq.seqs +
  countOf (fun k => Op.engine k.2.bytes == 1 && Op.opcode k.2.bytes == 0x22 && k.2.phase == 1 && Op.car k.2.bytes == c) s.que.started

/-- Whether a SEQ_ID is present in any carriage, or reserved by a fork (R607, R608). -/
def seqPresent (s : State) (seq : Nat) : Bool := has seq s.seq.seqs || has seq s.seq.busy

/-! ### SEQ_CREATE -/

/-- The descriptor that a SEQ_CREATE spells. -/
def createDesc (b : List Byte) (pexp desc run : Nat) : Seqd :=
  let f := u8 b 15
  { car := Op.car b, st := 1, latent := bit f 0, elem := bits f 1 3, pexp := pexp, elems := u16 b 12, kv := u8 b 14,
    flags := u8 b 26, layers := u16 b 16, nodeset := u16 b 18, stride := u16 b 20, mclass := u16 b 22, sinks := u8 b 24,
    comp := u8 b 25, tail := u32 b 28, parent := 0, forkPos := 0xFFFFFFFF, freeze := 0xFFFFFFFF, layerTable := run,
    buddy := u16 b 32, cold := 0, lastAppend := 0, descBlock := desc, recs := [] }

/-- Whether a node set is loaded, held by the carriage, and contains this node (R608). -/
def setUsable (s : State) (c n : Nat) : Bool :=
  (look n s.seq.sets).any (fun x => x.car == c && decide (s.nodeId ∈ x.nodes))

/-- Whether the fields of a SEQ_CREATE lie in their ranges (Table SEQ-4). -/
def createInRange (b : List Byte) : Bool :=
  let latent := bit (u8 b 15) 0
  let kv := u8 b 14
  (if latent then kv == 1 else decide (1 ≤ kv) && decide (kv ≤ 64)) && decide (u8 b 26 < 8) && decide (1 ≤ u16 b 16) &&
  decide (u16 b 16 ≤ 1024) && decide (u16 b 20 ≤ 4095) && decide (u8 b 24 ≤ 64) && bits (u8 b 25) 4 3 == 0 &&
  decide (u32 b 28 ≤ 65536) && decide (u16 b 32 ≤ 4095)

/-- SEQ_CREATE (R161, R190, R493, R608). -/
def seqCreate (k : Nat) (c : Cmd) (s : State) : State :=
  let b := c.bytes
  let car := Op.car b
  let seq := Op.seqId b
  let pexp := pexpOf s.im (bit (u8 b 15) 0) (bits (u8 b 15) 1 3) (u16 b 12)
  let prot := bit (u8 b 26) 0
  let fail := firstFail [
    (seq != 0 && !seqPresent s seq && pexp.isSome && createInRange b && setUsable s car (u16 b 18), Status.badCommand),
    ((!prot || (s.im.protected_ car && s.canEncrypt car)) && decide (seqsOf s car < s.im.maxSeqs car), Status.accessDenied)]
  match fail with
  | some st => complete k st 0 0 s
  | none =>
    match takeSeqTables car (u16 b 16) s with
    | none => completeReason k Status.accessDenied 1 s
    | some (d, r, s) => s |> setSeq seq (createDesc b (pexp.getD 0) d r) |> complete k Status.ok 0 (pexp.getD 0)

def execSeqCreate (k : Nat) (s : State) : Result := done (live (withCmd k 1 0x20 (seqCreate k)) s)

/-! ### SEQ_FREE -/

/-- Whether a snapshot of a sequence runs (R344), and below which position. -/
def snapshotPos (s : State) (seq : Nat) : Option Nat :=
  (s.park.parks.find? (fun p => p.2.seq == seq && !p.2.waiting && (s.cmd p.1).any (fun c => u8 c.bytes 12 == 2))).bind (fun p =>
    (s.cmd p.1).map (fun c => u32 c.bytes 20))

/-- A change that waits while a snapshot of the sequence runs. -/
def notDuring (seq : Nat) (w : Waiter) (f : State → State) (s : State) : State :=
  if (snapshotPos s seq).isSome then waitChange seq w s else change seq w f s

/-- A command on a present sequence of its carriage; its tables are read first (R469, R608). -/
def onOwnSeq (k : Nat) (c : Cmd) (layer : Option Nat) (f : Seqd → State → State) (s : State) : State :=
  match look (Op.seqId c.bytes) s.seq.seqs with
  | none => complete k Status.badCommand 0 0 s
  | some q =>
    if q.car ≠ Op.car c.bytes then complete k Status.accessDenied 0 0 s
    else
      let t := readTables (Op.seqId c.bytes) q layer s
      if t.1 then f q t.2 else complete k Status.uncorrectable 0 0 t.2

/-- SEQ_FREE (R182, Table SEQ-8). -/
def seqFree (k : Nat) (c : Cmd) (s : State) : State :=
  let seq := Op.seqId c.bytes
  notDuring seq (.cmd k) (onOwnSeq k c none (fun q s =>
    if q.st = 3 ∨ q.st = 6 then complete k Status.frozen 0 0 s
    else s |> freeSeq seq |> complete k Status.ok 0 0)) s

def execSeqFree (k : Nat) (s : State) : Result := done (live (withCmd k 1 0x21 (seqFree k)) s)

/-! ### SEQ_FORK -/

/-- Local ordinals of a layer that start below position `m`. -/
def ordinalsBelow (s : State) (q : Seqd) (layer m : Nat) : Nat :=
  countOf (fun k => ordinalOf s q layer k * q.p < m) (List.range (m / q.p + 1))

/-- Whether every position below `m` that the placement puts here is held (R179). -/
def covers (s : State) (seq : Nat) (q : Seqd) (m : Nat) : Bool :=
  (List.range q.layers).all (fun l =>
    let r := layerOf s seq q l
    let n := ordinalsBelow s q l m
    decide (n ≤ r.ordinals) && (List.range n).all (fun k => (List.range q.kv).all (fun h =>
      (look (k * q.kv + h) r.leaves).any (fun e => decide (min q.p (m - ordinalOf s q l k * q.p) ≤ e.view)))))

/-- One layer of a child: the parent's entries below `m` (R179); none where table memory runs out. -/
def forkLayer (child m : Nat) (q : Seqd) (l : Nat) (r : Layer) (s : State) : Option State :=
  let n := ordinalsBelow s q l m
  let fresh : Layer :=
    { root := 0, depth := 0, home := homeHalf s q.car child l, ordinals := n, split := 0, leaves := [], blocks := [] }
  (growLayer q.car child l q.kv n fresh s).map (fun g =>
    let mine := r.leaves.filter (fun e => e.1 / q.kv < n)
    let leaves := mine.map (fun e => (e.1, { e.2 with view := min e.2.view (m - ordinalOf s q l (e.1 / q.kv) * q.p) }))
    let s := onLayer child l (fun _ => { g.1 with leaves := leaves }) g.2
    s |> forEach mine (fun e => addRef e.2.page) |> fixSplit child l)

/-- Every layer of a child, or none. -/
def forkLayers (child m : Nat) (q : Seqd) : List (Nat × Layer) → State → Option State
  | [], s => some s
  | (l, r) :: rest, s => (forkLayer child m q l r s).bind (forkLayers child m q rest)

/-- The child of a fork made whole, or nothing. -/
def forkChild (seq child m : Nat) (q : Seqd) (s : State) : Option State :=
  (takeSeqTables q.car q.layers s).bind (fun t =>
    let d := { q with st := 1, parent := seq, forkPos := m, freeze := 0xFFFFFFFF, cold := 0, lastAppend := 0,
                      layerTable := t.2.1, descBlock := t.1, recs := [] }
    forkLayers child m q q.recs (setSeq child d t.2.2))

/-- The checks of a SEQ_FORK (Table SEQ-10). -/
def forkFault (s : State) (seq child m : Nat) (q : Seqd) : Option Nat :=
  firstFail [
    (child != 0 && !seqPresent s child && covers s seq q m, Status.badCommand),
    (decide (seqsOf s q.car < s.im.maxSeqs q.car), Status.accessDenied),
    (!q.parked && !(q.st == 2 && decide (q.freeze < m)), Status.frozen),
    (!s.seqHeld q.car seq && !s.seqHeld q.car child, Status.aborted)]

/-- A SEQ_FORK begins: CHILD_SEQ is reserved (R607). -/
def forkBegin (k : Nat) (c : Cmd) (s : State) : State :=
  let seq := Op.seqId c.bytes
  let child := u32 c.bytes 12
  change2 seq child (.cmd k) (onOwnSeq k c none (fun q s =>
    match forkFault s seq child (u32 c.bytes 16) q with
    | some st => complete k st 0 0 s
    | none => s |> setBusy seq k |> setBusy child k |> setCmd k { c with phase := 1 })) s

/-- A SEQ_FORK ends: the child's entries exist, or none of them. -/
def forkEnd (k : Nat) (c : Cmd) (s : State) : State :=
  let seq := Op.seqId c.bytes
  let s := clearBusy k s
  match look seq s.seq.seqs with
  | none => complete k Status.badCommand 0 0 s
  | some q =>
    match forkChild seq (u32 c.bytes 12) (u32 c.bytes 16) q s with
    | some s => complete k Status.ok 0 0 s
    | none => completeReason k Status.accessDenied 1 s

/-- SEQ_FORK (R179, R607): its first run begins the fork, its next one ends it. -/
def seqFork (k : Nat) (c : Cmd) (s : State) : State := if c.phase = 0 then forkBegin k c s else forkEnd k c s

def execSeqFork (k : Nat) (s : State) : Result := done (live (withCmd k 1 0x22 (seqFork k)) s)

/-! ### SEQ_FREEZE and SEQ_THAW -/

/-- TRUNCATE of one layer at `n` (R186): an ordinal that PAGE_LINK left incomplete keeps its entries where it starts below
`n`. -/
def truncateLayer (seq n : Nat) (q : Seqd) (l : Nat) (r : Layer) (s : State) : State :=
  let keep := ordinalsBelow s q l n
  let gone := r.leaves.filter (fun e => keep ≤ e.1 / q.kv)
  let leaves := (r.leaves.filter (fun e => e.1 / q.kv < keep)).map (fun e =>
    (e.1, { e.2 with view := min e.2.view (n - ordinalOf s q l (e.1 / q.kv) * q.p) }))
  s |> onLayer seq l (fun r => { r with leaves := leaves, ordinals := min r.ordinals keep }) |> forEach gone (fun e => unref e.2.page)
    |> fixSplit seq l

/-- SEQ_FREEZE (R186, Table SEQ-8). -/
def seqFreeze (k : Nat) (c : Cmd) (s : State) : State :=
  let seq := Op.seqId c.bytes
  let n := u32 c.bytes 12
  let cut := bit (u8 c.bytes 16) 0
  let run := onOwnSeq k c none (fun q s =>
    if q.parked then complete k Status.frozen 0 0 s
    else if s.seqHeld q.car seq then complete k Status.aborted 0 0 s
    else
      let at_ := if q.st = 2 then min q.freeze n else n
      let s := if cut then forEach q.recs (fun r => truncateLayer seq n q r.1 r.2) s else s
      s |> freezeAt seq at_ |> complete k Status.ok 0 0)
  if cut ∧ (snapshotPos s seq).any (fun p => n < p) then waitChange seq (.cmd k) s else change seq (.cmd k) run s

def execSeqFreeze (k : Nat) (s : State) : Result := done (live (withCmd k 1 0x23 (seqFreeze k)) s)

/-- The append that a staged rejection stands for. -/
def Staged.append (car : Nat) (x : Staged) : AppIn :=
  { car := car, seq := x.seq, layer := x.layer, start := x.start, count := x.count, data := x.data, tokens := x.tokens,
    hash := x.hash }

/-- Staged rejections applied in order (R187): how many were applied, and whether one found no page again; then it and
every later one are held for a new 1 ms. -/
def replay (car : Nat) : List Staged → Nat → State → Nat × Bool × State
  | [], n, s => (n, false, s)
  | x :: r, n, s =>
    let a := append (x.append car) s
    if a.1.1 = Status.noPage then (n, true, forEach r (fun y => stageAppend (y.append car) y.half) a.2)
    else replay car r (if a.1.1 = Status.ok then n + 1 else n) a.2

/-- A sequence ACTIVE again, its rejections of before applied or dropped (R187). -/
def thawRun (k seq : Nat) (again : Bool) (q : Seqd) (mine : List Staged) (s : State) : State :=
  let s := s |> onSeqd seq (fun q => { q with st := 1, freeze := 0xFFFFFFFF })
    |> onSeq (fun y => { y with staged := y.staged.filter (fun x => x.seq != seq) })
  if again then
    let r := replay q.car mine 0 s
    complete k (if r.2.1 then Status.noPage else Status.ok) 0 (b2n (r.1 != 0) + r.1 * 65536) r.2.2
  else complete k Status.ok 0 0 s

/-- SEQ_THAW (R187, Table SEQ-8): a replay waits while an append of it would (R198, R199). -/
def seqThaw (k : Nat) (c : Cmd) (s : State) : State :=
  let seq := Op.seqId c.bytes
  change seq (.cmd k) (onOwnSeq k c none (fun q s =>
    let again := bit (u8 c.bytes 12) 0
    let mine := s.seq.staged.filter (fun x => x.seq == seq)
    if q.parked then complete k Status.frozen 0 0 s
    else if s.seqHeld q.car seq then complete k Status.aborted 0 0 s
    else if q.st = 1 then complete k Status.ok 0 0 s
    else if again && mine.any (fun x => appendWaits s (x.append q.car)) then waitChange seq (.cmd k) s
    else thawRun k seq again q mine s)) s

def execSeqThaw (k : Nat) (s : State) : Result := done (live (withCmd k 1 0x24 (seqThaw k)) s)

/-! ### PAGE_LINK -/

/-- Heads already linked at local ordinal `k`. -/
def linkedHeads (q : Seqd) (r : Layer) (k : Nat) : Nat := countOf (fun e => e.1 / q.kv == k) r.leaves

/-- The checks of a PAGE_LINK (R172, R181, Tables SEQ-8, SEQ-10). -/
def linkFault (s : State) (car seq layer head o view page : Nat) (q : Seqd) : Option Nat :=
  let r := layerOf s seq q layer
  let g := look page s.seq.pages
  firstFail [
    (decide (layer < q.layers) && decide (head < q.kv) && localOf s q layer o == some r.ordinals &&
      head == linkedHeads q r r.ordinals && decide (1 ≤ view) && decide (view ≤ q.p) &&
      g.any (fun g => g.latent == q.latent && g.elem == q.elem && g.pexp == q.pexp && decide (view ≤ g.fill)),
      Status.badCommand),
    (g.any (fun g => g.car == car), Status.accessDenied),
    (q.st == 1, Status.frozen),
    (!s.seqHeld car seq, Status.aborted)]

/-- PAGE_LINK (R181). -/
def pageLink (k : Nat) (c : Cmd) (s : State) : State :=
  let b := c.bytes
  let seq := Op.seqId b
  let layer := u16 b 16
  let head := u8 b 18
  let view := u16 b 24
  let page := u32 b 12
  change seq (.cmd k) (onOwnSeq k c (some layer) (fun q s =>
    match linkFault s q.car seq layer head (u32 b 20) view page q with
    | some st => complete k st 0 0 s
    | none =>
      let r := layerOf s seq q layer
      match growLayer q.car seq layer q.kv (r.ordinals + 1) r s with
      | none => completeReason k Status.accessDenied 1 s
      | some (r', s) =>
        let full := head + 1 = q.kv
        let r' := { r' with leaves := put (r.ordinals * q.kv + head) { page := page, view := view } r'.leaves,
                            ordinals := if full then r.ordinals + 1 else r.ordinals }
        s |> setLayer seq q layer r' |> addRef page |> fixSplit seq layer |> complete k Status.ok 0 0)) s

def execPageLink (k : Nat) (s : State) : Result := done (live (withCmd k 1 0x25 (pageLink k)) s)

/-! ### APPEND as a command -/

/-- Token IDs of 4 bytes each, in [23:0]. -/
def tokensOf (n : Nat) (d : List Byte) : List Nat := (chunks n 4 d).map (fun t => fieldAt t 0 3)

/-- The append that a command names, with its records and token IDs (Table SEQ-11). -/
def cmdAppend (b d t : List Byte) : AppIn :=
  { car := Op.car b, seq := Op.seqId b, layer := u16 b 12, start := u32 b 16, count := u8 b 14, data := d,
    tokens := tokensOf (u8 b 14) t, hash := if bit (u8 b 15) 0 then some (fieldAt b 28 12) else none }

/-- The append command's records and token IDs have arrived: it runs once nothing comes before it (R198, R199). -/
def appendCmdRun (k : Nat) (c : Cmd) (d t : List Byte) (s : State) : State :=
  let a := cmdAppend c.bytes d t
  if appendWaits s a then s
  else
    let r := append a s
    complete k r.1.1 0 r.1.2 r.2

/-- An append command begins: its turn among the changes of its sequence has come, which it keeps while it reads (R607). -/
def appendCmdBegin (k : Nat) (c : Cmd) (s : State) : State :=
  let seq := Op.seqId c.bytes
  let count := u8 c.bytes 14
  match look seq s.seq.seqs with
  | none => complete k Status.badCommand 0 0 s
  | some q =>
    if count = 0 ∨ 32 < count then complete k Status.badCommand 0 0 s
    else
      let n := appendBytes s.im q count
      change seq (.cmd k) (fun s => s |> setBusy seq k |> setCmd k { c with phase := 1, note := [n] } |> hostRead k (u64 c.bytes 20) n) s

/-- APPEND (opcode 0x26): the records, then the token IDs, are read from host memory, each from a buffer of its own (R151,
R175, Table SEQ-11). -/
def appendCmd (k : Nat) (c : Cmd) (s : State) : State :=
  let n := nth 0 c.note 0
  let raw := nth 0 c.note 1
  let m := 4 * u8 c.bytes 14
  if c.phase = 0 then appendCmdBegin k c s
  else if c.ready = false then s
  else
    match c.dataStep s n true (if c.phase = 1 then c.buf else c.buf.take raw) with
    | .ask x => hostReadRaw k (u64 c.bytes 20 + c.buf.length) x s
    | .refused i => recordLost k c i s
    | .have_ d =>
      if c.phase = 1 then
        s |> setCmd k { c with phase := 2, note := [n, c.buf.length] } |> hostRead k (u64 c.bytes 40) m
      else
        match c.dataStep s m true (c.buf.drop raw) with
        | .ask x => hostReadRaw k (u64 c.bytes 40 + (c.buf.length - raw)) x s
        | .refused i => recordLost k c i s
        | .have_ t => appendCmdRun k c d t s

def execAppendCmd (k : Nat) (s : State) : Result := done (live (withCmd k 1 0x26 (appendCmd k)) s)

/-! ### NODESET_LOAD and SEQ_QUERY -/

/-- NODESET_LOAD (R190, R608). -/
def nodesetLoad (k : Nat) (c : Cmd) (s : State) : State :=
  let b := c.bytes
  let n := u16 b 12
  let count := u16 b 14
  let car := Op.car b
  if 255 < n ∨ count = 0 ∨ 4096 < count then complete k Status.badCommand 0 0 s
  else withData k c (u64 b 16) (2 * count) (fun d s =>
    let raw := (List.range count).map (fun i => u16 d (2 * i))
    let fail := firstFail [
      (raw.all (fun x => x < 4096) && decide raw.Nodup, Status.badCommand),
      (!(look n s.seq.sets).any (fun x => x.car != car) && s.seq.seqs.all (fun q => q.2.nodeset != n), Status.accessDenied)]
    match fail with
    | some st => complete k st 0 0 s
    | none =>
      s |> onSeq (fun x => { x with sets := put n { car := car, nodes := raw } x.sets }) |> complete k Status.ok 0 0) s

def execNodesetLoad (k : Nat) (s : State) : Result := done (live (withCmd k 1 0x27 (nodesetLoad k)) s)

/-- Layer records of a sequence as bytes. -/
def layersBytes (s : State) (seq : Nat) (q : Seqd) : List Byte :=
  (List.range q.layers).flatMap (fun l => layerBytes q.kv (layerOf s seq q l))

/-- SEQ_QUERY (R190). -/
def seqQuery (k : Nat) (c : Cmd) (s : State) : State :=
  let addr := u64 c.bytes 12
  let seq := Op.seqId c.bytes
  if addr % 64 ≠ 0 then complete k Status.badCommand 0 0 s
  else onOwnSeq k c none (fun q s =>
    s |> hostWrite k addr (descBytes s seq q ++ layersBytes s seq q) |> complete k Status.ok 0 0) s

def execSeqQuery (k : Nat) (s : State) : Result := done (live (withCmd k 1 0x28 (seqQuery k)) s)

/-! ### Messages and the fabric APPEND (R388, R392, R398, R608) -/

/-- A complete message of a type handed to its engine; any other changes nothing (assumption 2). A message whose
epoch was not yet in force when it arrived is held; one whose epoch was stale then is refused (R62). -/
def withMsg (src op ty : Nat) (f : RxEntry → State → State) (s : State) : State :=
  match look (src, op) s.prt.rx with
  | none => s
  | some e =>
    if H.mtype e.hdr ≠ ty ∨ e.complete = false then s
    else if e.tooLate s then ackMsg (src, op) e Status.aborted 0 0 s
    else
      match e.epochUse (H.epoch e.hdr) with
      | .hold => onPrt (fun x => { x with rx := put (src, op) { e with held := true } x.rx }) s
      | .stale => s |> countStale |> nakMsg (src, op) e Status.staleEpoch 0 0
      | _ => f e s

/-- The append that a message spells (Table PRT-8). -/
def msgAppend (e : RxEntry) (m : List Byte) : AppIn :=
  let n := u8 m 6
  { car := e.car, seq := u32 m 0, layer := u16 m 4, start := u32 m 8, count := n, data := m.drop (32 + 4 * n),
    tokens := tokensOf n (slice m 32 (4 * n)), hash := if bit (u8 m 7) 0 then some (fieldAt m 12 12) else none }

/-- Whether a payload's length is that of R398 for a sequence's shape. A reserved byte of the payload that is not 0
changes nothing: no rule refuses it (R10; log entry 34). -/
def appendWell (im : Image) (kv slot scale : Nat) (m : List Byte) : Bool :=
  let n := u8 m 6
  decide (m.length = 32 + 4 * n + n * kv * (slot + scale)) && decide (im.dataArea ≠ 0)

/-- An append's answer: ACCESS_DENIED is a NAK, any other outcome an ACK with its status (R388, R608). -/
def answerAppend (key : Nat × Nat) (e : RxEntry) (r : (Nat × Nat) × State) : State :=
  if r.1.1 = Status.accessDenied then nakMsg key e r.1.1 0 0 r.2 else ackMsg key e r.1.1 0 r.1.2 r.2

/-- APPEND (R175 to R184, R398). -/
def fabricAppend (src op : Nat) (e : RxEntry) (s : State) : State :=
  let m := e.message
  let a := msgAppend e m
  match look a.seq s.seq.seqs with
  | none => ackMsg (src, op) e Status.badCommand 0 0 s
  | some q =>
    if appendWell s.im q.kv (q.slot s.im) (q.scale s.im) m = false then nakMsg (src, op) e Status.badCommand 0 0 s
    else if appendWaits s a then waitChange a.seq (.msg src op) s
    else change a.seq (.msg src op) (fun s => answerAppend (src, op) e (append a s)) s

def execAppend (src : BitVec 12) (op : BitVec 32) (s : State) : Result :=
  done (live (withMsg src.toNat op.toNat MTy.append (fabricAppend src.toNat op.toNat)) s)

end Sys2Proof.Machine
end

