-- ==== Sys2Proof/Machine/Badger.lean ====
section
/-! DEFINITION. Badger: walks, gathers, page copies and moves, digests, zeroing, compression tables and expansion
weights (R193 to R228). -/

namespace Sys2Proof.Machine

open Sys2Proof

/-! ### Compression tables and streams (R210 to R220) -/

/-- A resident table. -/
def tableOf (s : State) (id : Nat) : Option (Nat × TSlot) := s.seq.tables.find? (fun t => t.2.id == id)

/-- The CURRENT table of a class that a carriage owns. -/
def currentTable (s : State) (c cls : Nat) : Option Nat :=
  if look cls s.seq.classOwner = some c then
    (s.seq.tables.find? (fun t => t.1 / 2 == cls && t.2.cur)).map (fun t => t.2.id)
  else none

/-- Whether a class belongs to another carriage (R215). -/
def classForeign (s : State) (c cls : Nat) : Bool := (look cls s.seq.classOwner).any (fun o => o != c)

/-- Whether a half's Badger owns and uses its staging buffer. -/
def ownBuffer (s : State) (half : Nat) : Bool :=
  s.ownerCode (3 + half) == 1 && (if half = 0 then s.rg .BDG_CTRL_EXPAND_E 0 == 1 else s.rg .BDG_CTRL_EXPAND_W 0 == 1)

/-- Whether a half's compression and expansion are served, by its own buffer or over the bridge (R220). -/
def bufferServes (s : State) (half : Nat) : Bool :=
  ownBuffer s half || (ownBuffer s (1 - half) && s.rg .BDG_EXP_BRIDGE_NO_BRIDGE 0 == 0)

/-- Work refused for lack of a staging buffer (event 0x0405). -/
def refuseBuffer (c : Nat) (s : State) : State := s |> bump .BDG_EXP_CLAIM_COUNT 0 1 |> raise 0x0405 (some c) []

/-- A compressed block (Table BDG-5): TABLE_ID, MODE, RAW_LEN and code. -/
structure Block where
  table : Nat
  mode : Nat
  raw : Nat
  code : List Byte
deriving DecidableEq, Repr

/-- The bytes of a block. -/
def Block.bytes (b : Block) : List Byte :=
  leBytes 2 (b.table % 4096 + 4096 * b.mode) ++ leBytes 2 b.code.length ++ leBytes 2 b.raw ++ zeros 2 ++ b.code

/-- Whether a length is one that a block header may hold. -/
def blockLen (n : Nat) : Bool := decide (1 ≤ n) && decide (n ≤ 4096)

/-- The blocks of a stream; none where it is cut short or a header field lies out of its range (R210). -/
def streamBlocks : Nat → List Byte → Option (List Block)
  | 0, _ => none
  | fuel + 1, bs =>
    if bs.isEmpty then some []
    else
      let n := u16 bs 2
      let b : Block := { table := bits (u16 bs 0) 0 12, mode := bits (u16 bs 0) 12 4, raw := u16 bs 4, code := slice bs 8 n }
      if decide (8 + n ≤ bs.length) && blockLen n && blockLen b.raw && decide (b.mode ≤ 1) && u16 bs 6 == 0 then
        (streamBlocks fuel (bs.drop (8 + n))).map (fun r => b :: r)
      else none

/-- What one block expands to: exactly RAW_LEN bytes (R211). -/
def expandBlock (s : State) (b : Block) : List Byte :=
  if b.mode = 0 then padTo b.raw b.code
  else padTo b.raw (Config.expand (((tableOf s b.table).map (fun t => t.2.image)).getD []) b.code)

/-- A stream checked and expanded for a carriage: its bytes, or a status and a reason (R215, R218). -/
def expandStream (s : State) (c : Nat) (bs : List Byte) : Except (Nat × Nat) (List Byte) :=
  match streamBlocks (bs.length + 1) bs with
  | none => .error (Status.badCommand, 0)
  | some blocks =>
    if blocks.any (fun b => (tableOf s b.table).isNone) then .error (Status.badCommand, 3)
    else if blocks.any (fun b => classForeign s c (b.table / 256)) then .error (Status.accessDenied, 4)
    else .ok (blocks.flatMap (expandBlock s))

/-- A block of at most 4,096 bytes under a table: entropy-coded where the code is shorter and gives the bytes back, else
stored (assumption 5). -/
def packBlock (t : TSlot) (raw : List Byte) : Block :=
  let code := Config.compress t.image raw
  if code ≠ [] ∧ code.length < raw.length ∧ padTo raw.length (Config.expand t.image code) = raw then
    { table := t.id, mode := 1, raw := raw.length, code := code }
  else { table := t.id, mode := 0, raw := raw.length, code := raw }

/-- The stream of a page: the blocks of its data area in order, then those of its side area (R210). -/
def packStream (t : TSlot) (data side : List Byte) : List Byte :=
  ((chunks (data.length / 4096 + 1) 4096 data ++ chunks (side.length / 4096 + 1) 4096 side).map (packBlock t)).flatMap Block.bytes

/-- A digest mismatch counted and recorded; the work concerned is named by its opcode (event 0x0401, R609). -/
def digestFail (p c work : Nat) (s : State) : State :=
  s |> bump .BDG_DIGEST_FAIL_COUNT 0 1 |> bump .BDG_C_DIGEST_FAIL_COUNT c 1 |> raise 0x0401 (some c) [(4, p), (1, c), (1, work)]

/-! ### WALK and GATHER (R201) -/

/-- The 8 bytes of a leaf entry (R169). -/
def leafBytes (l : Option Leaf) : List Byte :=
  match l with
  | some l => leBytes 8 (l.page + l.view * 2 ^ 32 + 2 ^ 48)
  | none => zeros 8

/-- Blocks of a half kept in a walk cache, newest first: 1,024 (Table BDG-1). -/
def cacheOf (half : Nat) (bs : List Nat) : List Nat := (bs.filter (fun b => b / 2 ^ 31 == half)).take 1024

/-- The table blocks of a walk kept in the walk cache of their half. -/
def noteWalk (bs : List Nat) (s : State) : State :=
  onSeq (fun x =>
    let all := bs ++ x.walkCache.filter (fun b => decide (b ∉ bs))
    { x with walkCache := cacheOf 0 all ++ cacheOf 1 all }) s

/-- WALK. -/
def walk (k : Nat) (c : Cmd) (s : State) : State :=
  let b := c.bytes
  let layer := u16 b 12
  let head := u8 b 14
  let n := u32 b 20
  onOwnSeq k c (some layer) (fun q s =>
    if q.layers ≤ layer ∨ (q.kv ≤ head ∧ head ≠ 255) ∨ n = 0 ∨ 1048576 < n then complete k Status.badCommand 0 0 s
    else
      let r := layerOf s (Op.seqId b) q layer
      let ords := (List.range n).map (fun i => u32 b 16 + i) |>.filter (fun o => o < r.ordinals)
      let heads := if head = 255 then List.range q.kv else [head]
      let es := ords.flatMap (fun o => heads.map (fun h => look (o * q.kv + h) r.leaves))
      s |> noteWalk r.blocks |> hostWrite k (u64 b 24) (es.flatMap leafBytes) |> complete k Status.ok 0 es.length) s

def execWalk (k : Nat) (s : State) : Result := done (live (withCmd k 1 0x01 (walk k)) s)

/-- What a position gives a gather: its page and slot, where this node holds it below FREEZE_POS. -/
def positionAt (s : State) (seq : Nat) (q : Seqd) (layer head pos : Nat) : Option (Page × Nat) :=
  if q.freeze ≤ pos then none
  else
    (localOf s q layer (pos / q.p)).bind (fun k =>
      (look (k * q.kv + head) (layerOf s seq q layer).leaves).bind (fun l =>
        if pos % q.p < l.view then (look l.page s.seq.pages).map (fun g => (g, pos % q.p)) else none))

/-- The status that forbids reading a page's bytes: its key, its table's staging buffer, or its code. -/
def pageFault (s : State) (g : Page) : Option Nat :=
  firstFail [
    (keyFault s g != some Status.accessDenied, Status.accessDenied),
    (keyFault s g != some Status.keyRetired, Status.keyRetired),
    (!g.comp || bufferServes s (locHalf s g.loc), Status.claimed)]

/-- GATHER. -/
def gather (k : Nat) (c : Cmd) (s : State) : State :=
  let b := c.bytes
  let layer := u16 b 12
  let head := u8 b 14
  let n := u32 b 20
  onOwnSeq k c (some layer) (fun q s =>
    if q.layers ≤ layer ∨ q.kv ≤ head ∨ n = 0 ∨ 65536 < n then complete k Status.badCommand 0 0 s
    else if q.protected_ ∧ qConf s c.q = false then complete k Status.accessDenied 0 0 s
    else
      let held := (List.range n).filterMap (fun i => positionAt s (Op.seqId b) q layer head (u32 b 16 + i))
      let cold := countOf (fun x => x.1.loc == .cold) held
      let warm := held.filter (fun x => x.1.loc != .cold)
      match warm.findSome? (fun x => pageFault s x.1) with
      | some st =>
        s |> noteKey st ((warm.find? (fun x => (pageFault s x.1).isSome)).map Prod.fst) q.car
          |> when (st == Status.claimed) (refuseBuffer q.car) |> complete k st 0 0
      | none =>
        let sl := q.slot s.im
        let sc := q.scale s.im
        let s := forEach warm (fun x => notePage x.1 (x.2 * sl) sl) s
        if warm.all (fun x => canReadPage s x.1 (x.2 * sl) sl && canReadPage s x.1 (s.im.dataArea + x.2 * sc) sc) = false then
          complete k Status.uncorrectable 0 0 s
        else if let some x := warm.find? (fun x => x.1.comp && x.1.sealed_ && pageDigest s x.1 != x.1.digest) then
          s |> digestFail (pageIndex s x.1) q.car 0x02 |> complete k Status.uncorrectable 0 0
        else
          let recs := warm.flatMap (fun x => pageSlice s x.1 (x.2 * sl) sl)
          let scales := if bit (u8 b 15) 0 then warm.flatMap (fun x => pageSlice s x.1 (s.im.dataArea + x.2 * sc) sc) else []
          s |> noteWalk (layerOf s (Op.seqId b) q layer).blocks |> hostWrite k (u64 b 24) (recs ++ scales)
            |> complete k Status.ok 0 (warm.length + cold * 2 ^ 32)) s

def execGather (k : Nat) (s : State) : Result := done (live (withCmd k 1 0x02 (gather k)) s)

/-! ### PAGE_COPY (R202, R208) -/

/-- Groups a command may take a frame from: the carriage's on the half, and of them the one it names (R202, Table
BDG-3). -/
def namedGroups (s : State) (c half group : Nat) : List Nat :=
  (allocGroups s c).filter (fun g => g / 32 == half && (group == 255 || g == group))

/-- The leaf entry that a PAGE_COPY names. -/
def copyLeaf (s : State) (c : Cmd) (q : Seqd) : Option Leaf :=
  let b := c.bytes
  let r := layerOf s (Op.seqId b) q (u16 b 12)
  if q.layers ≤ u16 b 12 ∨ q.kv ≤ u8 b 14 ∨ r.ordinals ≤ u32 b 16 then none else look (u32 b 16 * q.kv + u8 b 14) r.leaves

/-- The checks of a PAGE_COPY. -/
def copyFault (s : State) (c : Cmd) (q : Seqd) : Option Nat :=
  let b := c.bytes
  let g := (copyLeaf s c q).bind (fun l => look l.page s.seq.pages)
  firstFail [
    (g.isSome && decide (u8 b 15 ≤ 1) && (u8 b 20 == 255 || decide (u8 b 20 < 64)), Status.badCommand),
    (g.any (fun g => g.car == q.car && keyFault s g != some Status.accessDenied), Status.accessDenied),
    (g.all (fun g => keyFault s g != some Status.keyRetired), Status.keyRetired),
    (g.all (fun g => !g.comp || bufferServes s (locHalf s g.loc)), Status.claimed),
    (!q.parked, Status.frozen),
    (!s.seqHeld q.car (Op.seqId b), Status.aborted)]

/-- A PAGE_COPY begins once no other change of its sequence runs (R607) and a move has room. -/
def copyBegin (k : Nat) (c : Cmd) (s : State) : State :=
  let seq := Op.seqId c.bytes
  notDuring seq (.cmd k) (onOwnSeq k c (some (u16 c.bytes 12)) (fun q s =>
    match copyFault s c q with
    | some st =>
      s |> noteKey st ((copyLeaf s c q).bind (fun l => look l.page s.seq.pages)) q.car
        |> when (st == Status.claimed) (refuseBuffer q.car) |> complete k st 0 0
    | none =>
      if moveRoom s q.car (u8 c.bytes 15) then
        s |> setBusy seq k |> setCmd k { c with phase := 1 } |> noteMoves q.car (movesOfCar s q.car)
      else s)) s

/-- The copy of a page: it starts with one reference, the current key and no row (R202). -/
def copyOf (g : Page) (x : Page) : Page :=
  { x with fill := g.fill, summary := g.summary, scale := g.scale, radius := g.radius, digest := g.digest, hash := g.hash,
           cls := g.cls, sealed_ := g.sealed_, sealAt := g.sealAt }

/-- The frame and directory entry of a copy, both on HALF (R202; log entry 34): GROUP names the frame's group alone. -/
def copyPlace (s : State) (c : Cmd) (q : Seqd) : Option (Nat × State) :=
  let half := u8 c.bytes 15
  (takeFrom [namedGroups s q.car half (u8 c.bytes 20)] .table s).bind (fun f =>
    enterIn (dirBest f.2 (namedGroups f.2 q.car half 255)) (.hbm f.1.1 f.1.2) q.car (s.currentSlot q.car) q f.2)

/-- The entry re-pointed to the copy. -/
def copyCommit (k : Nat) (c : Cmd) (q : Seqd) (l : Leaf) (g : Page) (p : Nat) (s : State) : State :=
  let b := c.bytes
  let seq := Op.seqId b
  let layer := u16 b 12
  let s := s |> onPage p (copyOf g) |> setLeaf seq layer (u32 b 16 * q.kv + u8 b 14) { l with page := p } |> unref l.page
  let last := (look l.page s.seq.pages).any (fun x => x.refs == 0)
  let s := if g.sealed_ then onFox (fun f => { f with rowless := p :: f.rowless }) s
    else if g.fill = q.p then queueSeal p seq layer s else s
  let s := match look p s.seq.pages with
    | some x => if g.indexed && last then indexInsert p x s else s
    | none => s
  s |> fixSplit seq layer |> complete k Status.ok 0 p

/-- A PAGE_COPY ends. -/
def copyEnd (k : Nat) (c : Cmd) (s : State) : State :=
  let s := clearBusy k s
  match look (Op.seqId c.bytes) s.seq.seqs with
  | none => complete k Status.badCommand 0 0 s
  | some q =>
    match copyLeaf s c q with
    | none => complete k Status.badCommand 0 0 s
    | some l =>
      match look l.page s.seq.pages, copyPlace s c q with
      | none, _ => complete k Status.badCommand 0 0 s
      | some _, none => completeReason k Status.accessDenied 2 s
      | some g, some (p, s') =>
        if slotsReadable s q g g.fill = false then
          s |> notePage g 0 s.im.frameSize |> complete k Status.uncorrectable 0 0
        else
          match writeSlots q p 0 (slotsOf s q g g.fill) s' with
          | none => complete k Status.uncorrectable 0 0 s
          | some s' =>
            if g.sealed_ ∧ pageDigest s g ≠ g.digest then s |> digestFail l.page q.car 0x03 |> complete k Status.uncorrectable 0 0
            else copyCommit k c q l g p s'

/-- PAGE_COPY: its first run begins the copy, its next one ends it, after the carriage's gathers (R198). -/
def pageCopy (k : Nat) (c : Cmd) (s : State) : State :=
  if c.phase = 0 then copyBegin k c s else if gathersFirst s (Op.car c.bytes) then s else copyEnd k c s

def execPageCopy (k : Nat) (s : State) : Result := done (live (withCmd k 1 0x03 (pageCopy k)) s)

/-! ### PAGE_MOVE (R203 to R205, R208) -/

/-- A move of a page begins: MOVING is set, and the tables it needs hold its blocks. -/
def beginMove (p : Nat) (m : Move) (s : State) : State :=
  s |> queueTable (pageTable s p) true |> queueTable m.comp true |> noteMoves m.car (movesOfCar s m.car)
    |> onSeq (fun x => { x with moves := put p m x.moves }) |> onPage p (fun g => { g with moving := true })

/-- The table under which a page that goes to TIER 1 is compressed: none where it does not qualify (R205, R213). -/
def compressWith (s : State) (g : Page) (cls : Nat) (want : Bool) : Option Nat :=
  if want && g.sealed_ && !g.prot then currentTable s g.car cls else none

/-- The table under which a PAGE_MOVE is to store a page compressed: of a page in CXL only with RECODE (R205). -/
def moveTable (s : State) (c : Cmd) (g : Page) : Option Nat :=
  let b := c.bytes
  if u8 b 16 = 1 ∧ (g.loc.isHbm ∨ bit (u8 b 19) 1) then compressWith s g (u8 b 20) (u8 b 19 != 0) else none

/-- Whether a PAGE_MOVE leaves a page in CXL as it is stored. -/
def moveStays (s : State) (c : Cmd) (g : Page) : Bool := u8 c.bytes 16 == 1 && g.loc.isCxl && (moveTable s c g).isNone

/-- Whether a PAGE_MOVE needs a staging buffer: it expands the page or compresses it. -/
def movePacks (s : State) (c : Cmd) (g : Page) : Bool := !moveStays s c g && (g.comp || (moveTable s c g).isSome)

/-- The place a PAGE_MOVE takes: a frame of a group, or of the carriage's CXL ranges. -/
def movePlace (p : Nat) (g : Page) (c : Cmd) (s : State) : Option (Loc × State) :=
  let b := c.bytes
  if u8 b 16 = 0 then
    (takeFrom [namedGroups s g.car (u8 b 18) (u8 b 17)] (.moveDest p) s).map (fun f => (Loc.hbm f.1.1 f.1.2, f.2))
  else (takeCxl g.car (locHalf s g.loc) (.moveDest p) s).map (fun f => (Loc.cxl g.car f.1, f.2))

/-- The checks of a PAGE_MOVE. -/
def moveFault (s : State) (c : Cmd) : Option (Nat × Nat) :=
  let b := c.bytes
  let p := u32 b 12
  let g := look p s.seq.pages
  let tier := u8 b 16
  let packs := tier == 1 && u8 b 19 != 0
  let cls := u8 b 20
  let groupWell := if tier = 0 then (u8 b 17 == 255 || decide (u8 b 17 < 64)) && decide (u8 b 18 ≤ 1)
    else u8 b 17 == 0 && u8 b 18 == 0
  let st := firstFail [
    (g.any (fun g => g.loc != .cold) && decide (tier ≤ 1) && groupWell, Status.badCommand),
    (g.any (fun g => g.car == Op.car b) && !(packs && classForeign s (Op.car b) cls), Status.accessDenied),
    (g.all (fun g => !movePacks s c g || bufferServes s (locHalf s g.loc)), Status.claimed),
    (!pageParked s p, Status.frozen),
    (!pageHeld s p, Status.aborted)]
  st.map (fun st => (st, if st = Status.accessDenied ∧ g.any (fun g => g.car == Op.car b) then 4 else 0))

/-- A PAGE_MOVE that is not turned away: it waits for a move of its page or for room, leaves the page as it is, or begins. -/
def moveBegin (k : Nat) (c : Cmd) (p : Nat) (g : Page) (s : State) : State :=
  let stays := moveStays s c g
  if g.moving ∨ (stays = false ∧ moveRoom s g.car (locHalf s g.loc) = false) then
    onSeq (fun x => { x with moveWait := addSet k x.moveWait }) s
  else
    let s := onSeq (fun x => { x with moveWait := remSet k x.moveWait }) s
    if stays then complete k Status.ok 0 (2 * b2n g.comp) s
    else
      match movePlace p g c s with
      | none => completeReason k Status.accessDenied 2 s
      | some (dest, t) =>
        let m : Move := { dest := dest, comp := moveTable s c g, cmd := some k, half := locHalf s g.loc, car := g.car }
        t |> setCmd k { c with phase := 1 } |> beginMove p m

/-- PAGE_MOVE (R203 to R205, R208): it begins here and ends at PAGE_MOVE_COMMIT. -/
def pageMove (k : Nat) (c : Cmd) (s : State) : State :=
  let p := u32 c.bytes 12
  if c.phase ≠ 0 then s
  else
    match moveFault s c, look p s.seq.pages with
    | some f, _ => s |> when (f.1 == Status.claimed) (refuseBuffer (Op.car c.bytes)) |> completeReason k f.1 f.2
    | none, none => complete k Status.badCommand 0 0 s
    | none, some g => moveBegin k c p g s

def execPageMove (k : Nat) (s : State) : Result := done (live (withCmd k 1 0x04 (pageMove k)) s)

/-- What a move stores of a page's bytes: whether they are compressed, and how many are stored. -/
def moveForm (s : State) (m : Move) (bytes : List Byte) : Bool × Nat :=
  match m.comp.bind (tableOf s) with
  | some t =>
    let n := (packStream t.2 (bytes.take s.im.dataArea) (bytes.drop s.im.dataArea)).length
    if n < s.im.frameSize then (true, n) else (false, 0)
  | none => (false, 0)

/-- A frame used for something. -/
def markFrame (l : Loc) (u : FrameUse) (s : State) : State :=
  match l with
  | .hbm g f => onSeq (fun x => { x with frames := put (g, f) u x.frames }) s
  | .cxl c f => onSeq (fun x => { x with cframes := put (c, f) u x.cframes }) s
  | .cold => s

/-- The frame that a moved page leaves: free, or free once the coaches that walked it before have ended (R182, R203). -/
def leaveFrame (p : Nat) (l : Loc) (s : State) : State :=
  let ws := walkers s p
  if ws.isEmpty then freeLoc l s else s |> markFrame l .vacated |> onSeq (fun x => { x with vacated := x.vacated ++ [(l, ws)] })

/-- A coach that ended walks no frame any more. -/
def dropWalker (id : Nat) (s : State) : State :=
  let vs := s.seq.vacated.map (fun v => (v.1, remSet id v.2))
  s |> onSeq (fun x => { x with vacated := vs.filter (fun v => !v.2.isEmpty) })
    |> forEach (vs.filter (fun v => v.2.isEmpty)) (fun v => freeLoc v.1)

/-- The end of a move that fails: the page stays where it was. -/
def moveFailed (p : Nat) (m : Move) (st : Nat) (s : State) : State :=
  let s := s |> endMove p m |> freeLoc m.dest
  whenSome m.cmd (fun k => complete k st 0 0) s

/-- A page's place changed: the new frame is its own, and it leaves the one it had. -/
def moveTo (p : Nat) (m : Move) (g : Page) (form : Bool × Nat) (s : State) : State :=
  let s := s |> writeLoc m.dest 0 (pageBytes s g) |> endMove p m |> markFrame m.dest (.page p)
    |> onPage p (fun x => { x with loc := m.dest, comp := form.1, stored := form.2, tableId := m.comp.getD 0 })
  forEach (seqsOfPage s p) (fun q => forEach q.2.recs (fun r => fixSplit q.1 r.1)) (leaveFrame p g.loc s)

/-- A page that the node itself has demoted or promoted counted (R336, R337, Table PARK-11). -/
def countTierMove (m : Move) (s : State) : State :=
  if m.cmd.isSome then s
  else if m.dest.isCxl then bump .BDG_PARK_C_DEMOTED_COUNT m.car 1 s
  else bump .BDG_PARK_C_PROMOTED_COUNT m.car 1 s

/-- The commit of a move (R203, R212): the page's bytes, as they now are, go to the destination, and LOCATION and TIER change
in one step. -/
def commitMove (p : Nat) (m : Move) (g : Page) (s : State) : State :=
  let s := notePage g 0 s.im.frameSize s
  if pageReadable s g = false then moveFailed p m Status.uncorrectable s
  else if g.comp ∧ g.sealed_ ∧ pageDigest s g ≠ g.digest then s |> digestFail p g.car 0x04 |> moveFailed p m Status.uncorrectable
  else
    let form := moveForm s m (pageBytes s g)
    s |> moveTo p m g form |> countTierMove m |> (fun s => whenSome m.cmd (fun k => complete k Status.ok 0 (2 * b2n form.1)) s)

/-- PAGE_MOVE_COMMIT: a move ends, after the gathers of its carriage (R198). -/
def pageMoveCommit (p : Nat) (s : State) : State :=
  match look p s.seq.moves, look p s.seq.pages with
  | some m, some g => if gathersFirst s m.car then s else commitMove p m g s
  | _, _ => s

def execPageMoveCommit (p : BitVec 32) (s : State) : Result := done (live (pageMoveCommit p.toNat) s)

/-! ### PAGE_DIGEST (R206, R208) -/

/-- The bytes that a page's digest covers: the first FILL slots and their scales. -/
def digestSpan (s : State) (g : Page) : List Byte :=
  let slot := s.im.dataArea / 2 ^ g.pexp
  let scale := if g.elem = 5 then 0 else slot / 32
  if g.sealed_ then pageBytes s g else pageSlice s g 0 (g.fill * slot) ++ pageSlice s g s.im.dataArea (g.fill * scale)

/-- PAGE_DIGEST. -/
def pageDigestCmd (k : Nat) (c : Cmd) (s : State) : State :=
  let b := c.bytes
  let p := u32 b 12
  let mode := u8 b 16
  match look p s.seq.pages with
  | none => complete k Status.badCommand 0 0 s
  | some g =>
    let fail := firstFail [
      (g.loc != .cold && decide (mode ≤ 1) && (mode == 0 || g.sealed_), Status.badCommand),
      (g.car == Op.car b && keyFault s g != some Status.accessDenied, Status.accessDenied),
      (keyFault s g != some Status.keyRetired, Status.keyRetired),
      (!g.comp || bufferServes s (locHalf s g.loc), Status.claimed)]
    match fail with
    | some st => s |> noteKey st (some g) g.car |> when (st == Status.claimed) (refuseBuffer g.car) |> complete k st 0 0
    | none =>
      let s := notePage g 0 s.im.frameSize s
      if pageReadable s g = false then complete k Status.uncorrectable 0 0 s
      else
        let d := digestOf (digestSpan s g)
        if mode = 0 then s |> hostWrite k (u64 b 20) d |> complete k Status.ok 0 0
        else if d.take 24 = g.digest then complete k Status.ok 0 0 s
        else s |> digestFail p g.car 0x05 |> complete k Status.uncorrectable 0 0

def execPageDigest (k : Nat) (s : State) : Result := done (live (withCmd k 1 0x05 (pageDigestCmd k)) s)

/-! ### GROUP_ZERO (R207) -/

/-- Whether a group holds nothing: no frame, no directory entry, no table memory. -/
def groupEmpty (s : State) (g : Nat) : Bool := s.seq.frames.all (fun e => e.1.1 != g) && s.seq.pages.all (fun p => p.1 / 2 ^ 26 != g)

/-- GROUP_ZERO begins the zeroing of a group that holds nothing, table memory and the node's own maps included. -/
def groupZero (k : Nat) (c : Cmd) (s : State) : State :=
  let g := u8 c.bytes 12
  if s.seq.zeroing.any (fun z => z.2 == k) then s
  else if 63 < g ∨ s.owner (.group g) ≠ some (Op.car c.bytes) ∨ has g s.seq.zeroing ∨ groupEmpty s g = false then
    complete k Status.badCommand 0 0 s
  else onSeq (fun x => { x with zeroing := put g k x.zeroing }) s

def execGroupZero (k : Nat) (s : State) : Result := done (live (withCmd k 1 0x06 (groupZero k)) s)

/-- GROUP_ZERO_DONE: the whole group holds 0, its bit in BDG_ZEROED is set, event 0x0407; the carriage's gathers come
first (R198). -/
def groupZeroDone (g : Nat) (s : State) : State :=
  match look g s.seq.zeroing with
  | none => s
  | some k =>
    if ((s.owner (.group g)).map (gathersFirst s)).getD false then s
    else
      s |> zeroAt (hbmAddr g 0) groupSize |> onSeq (fun x => { x with zeroing := del g x.zeroing, zeroed := addSet g x.zeroed })
        |> raise 0x0407 (s.owner (.group g)) [(2, g)] |> complete k Status.ok 0 0

def execGroupZeroDone (g : Fin 64) (s : State) : Result := done (live (groupZeroDone g.val) s)

/-! ### WEIGHT_LOAD and WEIGHT_FREE (R221 to R223) -/

/-- Bytes of a matrix. -/
def weightSize (elem heads latent dim : Nat) : Nat :=
  let n := heads * latent * dim
  if elem = 5 then 2 * n else n + n / 32

/-- Bytes of weights a carriage holds, old matrices included. -/
def weightHeld (s : State) (c : Nat) : Nat := sumOf (fun w => if w.2.car = c then w.2.data.length else 0) s.seq.weights

/-- A matrix freed with its frames. -/
def dropWeight (id : Nat) (s : State) : State :=
  s |> onSeq (fun x => { x with weights := del id x.weights }) |> freeUse (.weight id)

/-- Old matrices that no coach uses any more freed (R223). -/
def sweepWeights (s : State) : State :=
  forEach (keys (s.seq.weights.filter (fun w => w.2.old && w.2.users.isEmpty))) dropWeight s

/-- The matrix a key names, not an old one. -/
def weightFor (s : State) (c mclass layer kind : Nat) : Option (Nat × Weight) :=
  s.seq.weights.find? (fun w => w.2.car == c && w.2.mclass == mclass && w.2.layer == layer && w.2.kind == kind && !w.2.old)

/-- Whether the fields of a WEIGHT_LOAD lie in their ranges (Table BDG-3, R221). -/
def weightInRange (b : List Byte) : Bool :=
  let elem := u8 b 17
  let dim := u16 b 24
  decide (u8 b 16 ≤ 1) && (elem == 0 || elem == 5) && decide (1 ≤ u16 b 20) && decide (u16 b 20 ≤ 256) &&
  decide (1 ≤ u16 b 22) && decide (u16 b 22 ≤ 1024) && decide (16 ≤ dim) && decide (dim ≤ 256) && (elem == 5 || dim % 32 == 0)

/-- The logical tiles of a carriage on a half, in ascending index. -/
def tilesOn (s : State) (old : Bool) (c half : Nat) : List Nat := (s.tilesOf old c).filter (fun t => t / 32 == half)

/-- Heads per tile, tiles per set of heads, and sets: hb, pc and nh of R275 for T tiles. -/
def divideHeads (heads t : Nat) : Nat × Nat × Nat :=
  let hb := ceilDiv heads (max 1 t)
  let nh := ceilDiv heads (max 1 hb)
  (hb, t / max 1 nh, nh)

/-- Whether a carriage's tiles form pairs that each share their heads between the halves (R282). -/
def tilesPair (e w : List Nat) (heads : Nat) : Bool := w == e.map (fun t => t + 32) && (divideHeads heads e.length).2.1 == 1

/-- Heads of a matrix whose rows go to a half: those that its tiles absorb or expand (R221, R282, R283). -/
def headsOn (e w : List Nat) (heads half : Nat) : Nat :=
  let d := divideHeads heads e.length
  if tilesPair e w heads then
    let east := sumOf (fun r => ceilDiv (min heads (d.1 * (r + 1)) - d.1 * r) 2) (List.range d.2.2)
    if half = 0 then east else heads - east
  else if (if half = 0 then e else w).isEmpty then 0 else heads

/-- Frames on a half for the rows of a matrix that go there. -/
def weightFrames (s : State) (car heads size half : Nat) : Nat :=
  let e := tilesOn s false car 0
  let w := tilesOn s false car 1
  ceilDiv (headsOn e w heads half * (size / max 1 heads)) (max 1 s.im.dataArea)

/-- Several frames, each on a half where one is free; all of them or none. -/
def takeManyOn (c half : Nat) (u : FrameUse) : Nat → State → Option State
  | 0, s => some s
  | n + 1, s => (takeHbm c half u s).bind (fun r => takeManyOn c half u n r.2)

/-- The matrix of a WEIGHT_LOAD stored beside an older one of its key. -/
def storeWeight (k : Nat) (c : Cmd) (d : List Byte) (s : State) : State :=
  let b := c.bytes
  let car := Op.car b
  let id := s.seq.nextWeight
  let frames := weightFrames s car (u16 b 20) d.length
  match (takeManyOn car 0 (.weight id) (frames 0) s).bind (takeManyOn car 1 (.weight id) (frames 1)) with
  | none => completeReason k Status.accessDenied 2 s
  | some s =>
    let w : Weight :=
      { car := car, mclass := u16 b 12, layer := u16 b 14, kind := u8 b 16, elem := u8 b 17, heads := u16 b 20,
        latent := u16 b 22, dim := u16 b 24, data := d, old := false, users := [] }
    let older := fun (v : Weight) => v.car == car && v.mclass == w.mclass && v.layer == w.layer && v.kind == w.kind
    s |> onSeq (fun x => { x with
          weights := put id w (x.weights.map (fun v => if older v.2 then (v.1, { v.2 with old := true }) else v))
          nextWeight := id + 1 })
      |> sweepWeights |> complete k Status.ok 0 0

/-- The data of a WEIGHT_LOAD, expanded where it is a stream. -/
def weightData (s : State) (c : Cmd) (d : List Byte) : Except (Nat × Nat) (List Byte) :=
  if bit (u8 c.bytes 18) 0 then expandStream s (Op.car c.bytes) d else .ok d

/-- What refuses a WEIGHT_LOAD before its data is read (Table BDG-3, R221 to R224). -/
def weightLoadFault (s : State) (b : List Byte) : Option Nat :=
  let car := Op.car b
  let size := weightSize (u8 b 17) (u16 b 20) (u16 b 22) (u16 b 24)
  let comp := bit (u8 b 18) 0
  let other := (weightFor s car (u16 b 12) (u16 b 14) (1 - u8 b 16)).map (fun w => w.2.data.length)
  firstFail [
    (weightInRange b && (comp || u32 b 36 == size) && decide (size + other.getD 0 ≤ 33554432) && !(comp && s.im.protected_ car),
      Status.badCommand),
    (decide (weightHeld s car + size ≤ s.im.weightMib car * 1048576), Status.accessDenied),
    (!comp || bufferServes s 0 || bufferServes s 1, Status.claimed)]

/-- A WEIGHT_LOAD refused, or its data asked for and stored. -/
def weightLoadRun (k : Nat) (c : Cmd) (fault : Option Nat) (s : State) : State :=
  let b := c.bytes
  let car := Op.car b
  let size := weightSize (u8 b 17) (u16 b 20) (u16 b 22) (u16 b 24)
  match fault with
  | some st => s |> when (st == Status.claimed) (refuseBuffer car) |> complete k st 0 0
  | none =>
    withData k c (u64 b 28) (u32 b 36) (fun d s =>
      match weightData s c d with
      | .error e => s |> when (e.2 == 3) (raise 0x0409 (some car) []) |> completeReason k e.1 e.2
      | .ok d => if d.length = size then storeWeight k c d s else complete k Status.badCommand 0 0 s) s

/-- WEIGHT_LOAD. -/
def weightLoad (k : Nat) (c : Cmd) (s : State) : State := weightLoadRun k c (weightLoadFault s c.bytes) s

def execWeightLoad (k : Nat) (s : State) : Result := done (live (withCmd k 1 0x18 (weightLoad k)) s)

/-- The matrices that a WEIGHT_FREE names. -/
def freeTargets (s : State) (c mclass layer : Nat) : List (Nat × Weight) :=
  s.seq.weights.filter (fun w => w.2.car == c && w.2.mclass == mclass && (layer == 0xFFFF || w.2.layer == layer))

/-- WEIGHT_FREE: it waits for the coaches that use a matrix it names. -/
def weightFree (k : Nat) (c : Cmd) (s : State) : State :=
  let m := u16 c.bytes 12
  let l := u16 c.bytes 14
  let ws := freeTargets s (Op.car c.bytes) m l
  if ws.all (fun w => w.2.users.isEmpty) then
    s |> onSeq (fun x => { x with weightFrees := x.weightFrees.filter (fun e => e.1 != k) })
      |> forEach (keys ws) dropWeight |> complete k Status.ok 0 0
  else onSeq (fun x => { x with weightFrees := addSet (k, m, l) x.weightFrees }) s

def execWeightFree (k : Nat) (s : State) : Result := done (live (withCmd k 1 0x19 (weightFree k)) s)

/-- A coach that ended gives its matrices back: old ones go, and waiting WEIGHT_FREEs proceed (R223). -/
def releaseWeights (id : Nat) (s : State) : State :=
  let s := onSeq (fun x => { x with weights := x.weights.map (fun w => (w.1, { w.2 with users := remSet id w.2.users })) }) s
  forEach (s.seq.weightFrees.map (fun e => e.1)) (fun k s => withCmd k 1 0x19 (weightFree k) s) (sweepWeights s)

/-- WALK_CACHE_FLUSH (R227). -/
def walkCacheFlush (p : Nat) (s : State) : State := expertDo p 4 0x480008 (onSeq (fun x => { x with walkCache := [] })) s

def execWalkCacheFlush (p : Port) (s : State) : Result := done (live (access p.idx 0x480008 (walkCacheFlush p.idx)) s)

end Sys2Proof.Machine
end

