-- ==== Sys2Proof/Machine/Validate.lean ====
section
/-! DEFINITION. The validation checks of a composition image (R35 to R46, Table CMP-4). The order of the sections
inside one check is that of their tags (DEDUCED, assumption 13). -/

namespace Sys2Proof.Machine

open Sys2Proof

/-! ### Header and directory (R35, R36) -/

namespace Raw
def imageLen (b : List Byte) : Nat := u32 b 12
def count (b : List Byte) : Nat := u16 b 16
def sigOffset (b : List Byte) : Nat := u32 b 24
def entry (b : List Byte) (i : Nat) : List Byte := slice b (256 + 16 * i) 16
def tag (e : List Byte) : Nat := u16 e 0
def offset (e : List Byte) : Nat := u32 e 4
def length (e : List Byte) : Nat := u32 e 8
def entries (b : List Byte) : List (List Byte) := (List.range (min (count b) 64)).map (entry b)
end Raw

/-- The image that an image's bytes spell. -/
def parseImage (b : List Byte) : Image :=
  { raw := b, epoch := u16 b 10,
    sects := (Raw.entries b).map (fun e => (Raw.tag e, slice b (Raw.offset e) (Raw.length e))) }

/-! ### Signatures (R37, R38, R487) -/

/-- Public key, signature and padding of a signature block. -/
def sigKey (blk : List Byte) : List Byte := slice blk 0 2592
def sigSig (blk : List Byte) : List Byte := slice blk 2592 4627
def sigPad (blk : List Byte) : List Byte := slice blk 7219 13

/-- Whether a body's signature verifies under the key of its block (R37). -/
def signatureOk (body blk : List Byte) : Bool :=
  blk.length == 7232 && allZero (sigPad blk) && Config.mlDsaVerify (sigKey blk) (digestOf body) (sigSig blk)

/-- Whether a key is one of the composition signers of an owner record (R38, R488, Table SEC-3). -/
def signerHeld (owner key : List Byte) : Bool :=
  (List.range (min (u8 owner 16) 4)).any (fun i => slice owner (64 + 64 * i) 64 == digestOf key)

/-! ### Check 9, section by section -/

/-- CARRIAGE_MAP (R40). -/
def carriageMapOk (im : Image) : Bool :=
  let b := im.sect 1
  b.length == 1088 && decide (10 ≤ im.drainUs) && decide (im.drainUs ≤ 500) && allZero (slice b 2 62) &&
  (List.range 16).all (fun c =>
    let r := im.carRec c
    u8 r 0 == c && decide (u8 r 1 < 8) && allZero (slice r 2 2) && allZero (slice r 26 2) && allZero (slice r 36 28))

/-- PAGE_FORMAT (R158, Table SEQ-1). -/
def pageFormatOk (im : Image) : Bool :=
  let b := im.sect 2
  b.length == 16 && decide (im.sizeCode ≤ 4) && decide (im.dirShare ≤ 2) && allZero (b.drop 2)

/-- OWL_MODES (R432, R433). -/
def owlModesOk (s : State) (im : Image) : Bool :=
  let b := im.sect 3
  let n := im.cascadeCount
  b.length == 32 && allZero (slice b 17 15) &&
  (List.range 16).all (fun k => decide (u8 b k < 16) && im.bankMode k != 3 && (!im.bankClassify k || im.bankMode k == 1) &&
    (!im.bankCascade k || im.bankPrefix k)) &&
  (n == 0 || (decide (2 ≤ n) && decide (n ≤ 8) && decide (s.nodeId % 8 < n) && (List.range 16).any im.bankCascade))

/-- FOX_PARTITION (R42). -/
def foxPartitionOk (im : Image) : Bool :=
  (im.sect 4).length == 32 && (List.range 32).all (fun b => decide (im.foxByte b < 16) || im.foxByte b == 255)

/-- QUEUE_ALLOC (R43). -/
def queueAllocOk (im : Image) : Bool :=
  (im.sect 5).length == 128 && (List.range 32).all (fun i =>
    let base := im.queueBase (i / 16) (i % 16)
    let n := im.queueCount (i / 16) (i % 16)
    decide (base ≤ 32767) && decide (n ≤ 32768) && decide (base + n ≤ 32768))

/-- A rate that shapers and policers may have, in MB/s. -/
def rateOk (r : Nat) : Bool := decide (1 ≤ r) && decide (r ≤ 210800)

/-- A burst that shapers and policers may have, in bytes. -/
def burstOk (b : Nat) : Bool := decide (4224 ≤ b) && decide (b ≤ 16777215)

/-- SHAPERS (R411). -/
def shapersOk (im : Image) : Bool :=
  let b := im.sect 6
  b.length == 4112 && decide (u8 (im.sect 13) 0 ≤ im.refillExp) && decide (im.refillExp ≤ 20) && allZero (slice b 1 15) &&
  (List.range 512).all (fun i =>
    let w := u32 b (16 + 8 * i)
    let x := im.shaper i
    decide (w < 2 ^ 20) && u8 b (23 + 8 * i) == 0 && (i % 4 != 0 || allZero (slice b (16 + 8 * i) 8)) &&
    (!x.enable || (rateOk x.rate && burstOk x.burst)))

/-- POLICERS (R417). -/
def policersOk (im : Image) : Bool :=
  let b := im.sect 7
  b.length == 4176 && allZero (slice b 0 16) &&
  (List.range 256).all (fun j =>
    let r := slice b (80 + 16 * j) 16
    let x := im.policer j
    !x.valid || (decide (u8 r 0 % 128 < 16) && decide (u8 r 1 < 32) && decide (u32 r 8 < 2 ^ 18) &&
      decide (u32 r 12 < 2 ^ 18) && rateOk x.cir && burstOk x.cbs && burstOk x.ebs &&
      (if x.twoRate then rateOk x.pir && decide (x.cir ≤ x.pir) else x.pir == 0))) &&
  (List.range 16).all (fun c => im.defaultPolicer c 0 == 255 && [1, 2, 3].all (fun k =>
    let j := im.defaultPolicer c k
    j == 255 || ((im.policer j).valid && (im.policer j).car == c)))

/-- TIMETABLE (R418). -/
def timetableOk (im : Image) : Bool :=
  let b := im.sect 8
  b.length == 256 && (List.range 8).all (fun l =>
    let credit := im.isoCredit l
    (List.range 16).all (fun k => im.slotOwner l k == 255 ||
      (im.carValid (im.slotOwner l k) && im.isolated (im.slotOwner l k))) &&
    (if im.linkOwned l then decide (33 ≤ credit) && decide (credit ≤ 128) else credit == 0) &&
    allZero (slice b (32 * l + 17) 15) && decide (credit * (im.slotOwners l).length ≤ 1024))

/-- LANE_MAP (R360). -/
def laneMapOk (im : Image) : Bool :=
  (im.sect 9).length == 256 && (List.range 8).all (fun l =>
    let r := im.lane l
    decide (u8 r 0 < 8) && decide (u8 r 1 ≤ 8) && decide (u16 r 2 < 512) && decide (u16 r 4 < 512) && decide (u8 r 6 < 128) &&
    (im.optical l || u8 r 6 == 0) && decide (u8 r 7 ≤ 9) && (decide (u16 r 8 < 4096) || u16 r 8 == 0xFFFF) &&
    (decide (u8 r 10 < 8) || u8 r 10 == 255) && allZero (slice r 11 21))

/-- One group entry of ROUTES against the carriages and the trees (R377). -/
def groupOk (im : Image) (g : Nat) : Bool :=
  let e := im.group g
  let port := im.groupInPort g
  bits e 10 2 == 0 && bits e 20 12 == 0 && (decide (port ≤ 8) || port == 15) &&
  (!im.groupValid g || (im.carValid (im.groupCar g) &&
    (match im.tree g with
      | some t => Tree.car t == im.groupCar g && Tree.contributor t == im.groupLocal g
      | none => !im.groupLocal g)))

/-- ROUTES (R377). -/
def routesOk (s : State) (im : Image) : Bool :=
  let b := im.sect 10
  b.length == 33344 && u16 b 0 == s.nodeId && allZero (slice b 2 62) &&
  (List.range 4096).all (fun d => decide (im.route d < 2 ^ 17)) && (List.range 4096).all (groupOk im) &&
  decide (sumOf im.opQuota (List.range 16) ≤ 65280) &&
  (List.range 16).all (fun c =>
    let r := im.carRoute c
    decide (u8 r 2 ≤ 8) && u8 r 3 == 0 && (List.range 8).all (fun i => decide (u16 r (4 + 2 * i) < 4096)) &&
    allZero (slice r 20 12))

/-- One tree record (R322, R323). -/
def treeOk (s : State) (im : Image) (t : List Byte) : Bool :=
  let con := Tree.contributor t
  let cpl := Tree.coupler t
  decide (u16 t 0 < 4096) && decide (u8 t 2 < 16) && im.carValid (Tree.car t) && decide (u8 t 3 < 8) &&
  (!Tree.root t || cpl) && decide (u16 t 4 < 4096) && decide (u8 t 6 < 64) && decide (u16 t 8 < 4096) && decide (u8 t 10 < 64) &&
  (con || (allZero (slice t 4 3) && Tree.leafLead t == 0)) && (!con || decide (1 ≤ Tree.leafLead t)) &&
  (cpl || (Tree.level t == 0 && allZero (slice t 8 8))) && ((cpl && !Tree.root t) || allZero (slice t 8 3)) &&
  (!cpl || (decide (1 ≤ Tree.level t) && decide (Tree.level t ≤ 8) && decide (1 ≤ Tree.fanin t) &&
    decide (Tree.fanin t ≤ 64) && decide (1 ≤ Tree.subtree t) && decide (Tree.subtree t ≤ 4096) &&
    decide (1 ≤ Tree.closeLead t))) &&
  !(con && cpl && Tree.upNode t == s.nodeId && decide (Tree.leafLead t ≤ Tree.closeLead t)) && allZero (slice t 18 14)

/-- Whether a list of numbers rises strictly. -/
def rising : List Nat → Bool
  | a :: b :: r => decide (a < b) && rising (b :: r)
  | _ => true

/-- COUPLING_TREES (R322, R323). -/
def treesOk (s : State) (im : Image) : Bool :=
  let b := im.sect 11
  decide (im.treeCount ≤ 4096) && b.length == 128 + 32 * im.treeCount && allZero (slice b 2 2) && allZero (slice b 68 60) &&
  decide (sumOf im.ctxQuota (List.range 16) ≤ 2048) && decide (sumOf im.bufQuota (List.range 16) ≤ 16384) &&
  rising (im.trees.map (fun t => u16 t 0)) && im.trees.all (treeOk s im)

/-- CXL_HDM (R480, Table MEM-5). -/
def cxlOk (im : Image) : Bool :=
  let b := im.sect 12
  let rs := im.cxlRanges
  b.length == 1040 && decide (u8 b 0 ≤ 64) && allZero (slice b 1 15) &&
  (List.range 64).all (fun r =>
    let e := slice b (16 + 16 * r) 16
    if u8 b 0 ≤ r then allZero e
    else decide (u8 e 0 < 16) && bits (u8 e 1) 4 3 == 0 && allZero (slice e 2 2) && allZero (slice e 12 4)) &&
  rs.all (fun r => !r.ports.isEmpty && r.ports.all (fun p => p / 2 == r.half) && decide (1 ≤ r.size) &&
    decide (r.size ≤ 16384) && decide (r.base + r.size ≤ 16384) &&
    rs.all (fun q => q.index == r.index || !(q.ports.any (fun p => decide (p ∈ r.ports))) ||
      decide (q.base + q.size ≤ r.base) || decide (r.base + r.size ≤ q.base)))

/-- DEPARTURE_GRID (R97). -/
def gridOk (im : Image) : Bool :=
  let b := im.sect 13
  b.length == 8 && decide (9 ≤ u8 b 0) && decide (u8 b 0 ≤ 20) && allZero (b.drop 1)

/-- OWNERSHIP but for the owners themselves, which check 14 covers (R66). -/
def ownershipOk (im : Image) : Bool :=
  let b := im.sect 14
  b.length == 16 && u8 b 0 == 0 && allZero (b.drop 5)

/-- EXPERT_GRANTS (R69); absent means no grants. -/
def grantsOk (im : Image) : Bool :=
  let b := im.sect 15
  !has 15 im.sects || (decide (8 ≤ b.length) && decide (b.length ≤ 128) && b.length % 8 == 0 &&
    (chunks 16 8 b).all (fun g => decide (u8 g 2 < 4) && u8 g 3 == 0 && decide (1 ≤ u16 g 4) && decide (u16 g 4 ≤ 3600) &&
      allZero (slice g 6 2)))

/-! ### Checks 10 to 14 -/

/-- Whether no bit is in two of the carriages' masks. -/
def disjoint (f : Nat → Nat) (n : Nat) : Bool :=
  (List.range n).all (fun i => decide (countOf (fun c => bit (f c) i) (List.range 16) ≤ 1))

/-- No queue of a port belongs to two carriages. -/
def queuesDisjoint (im : Image) : Bool :=
  [0, 1].all (fun p => (List.range 16).all (fun c => (List.range 16).all (fun d =>
    c == d || im.queueCount p c == 0 || im.queueCount p d == 0 ||
    decide (im.queueBase p c + im.queueCount p c ≤ im.queueBase p d) ||
    decide (im.queueBase p d + im.queueCount p d ≤ im.queueBase p c))))

/-- Check 11 for the resources of CARRIAGE_MAP. -/
def carriageOwns (im : Image) (c : Nat) : Bool :=
  let g := im.memGroups c
  let t := im.tiles c
  if im.carValid c then
    g != 0 && t != 0 && (bits g 0 32 == 0 || bits t 0 32 != 0) && (bits g 32 32 == 0 || bits t 32 32 != 0)
  else g == 0 && t == 0 && im.owlBanks c == 0 && im.keySlots c == 0

/-- Check 11 for a Fox block: its owner is valid and owns a memory group on its half. -/
def foxOwns (im : Image) (b : Nat) : Bool :=
  let c := im.foxByte b
  c == 255 || (im.carValid c && bits (im.memGroups c) (32 * (b / 16)) 32 != 0)

/-- Check 13 (R378). -/
def confinementOk (im : Image) : Bool :=
  (List.range 4096).all (fun g =>
    let c := im.groupCar g
    !im.groupValid g ||
    ((!im.protected_ c || ((im.groupLinks g).all im.inRack && (decide (8 ≤ im.groupInPort g) || im.inRack (im.groupInPort g)))) &&
     (!im.isolated c || (im.groupLinks g).all (fun l => decide (c ∈ im.slotOwners l)))))

/-- Tags whose sections take effect only at reset (Table CMP-2). -/
def resetTags : List Nat := [2, 3, 9, 12, 13]

/-! ### The checks in order (R45) -/

/-- The first failed check of a list of (passes, check, tag). -/
def firstCheck : List (Bool × Nat × Nat) → Option (Nat × Nat)
  | [] => none
  | (c, r) :: l => if c then firstCheck l else some r

/-- Checks 1 to 6 (R46): nothing beyond the header and the signature block is interpreted. -/
def headerChecks (s : State) (b : List Byte) (fetched : Nat) : List (Bool × Nat × Nat) :=
  let n := Raw.imageLen b
  let so := Raw.sigOffset b
  let blk := slice b so 7232
  [(decide (n ≤ 4194304) && n == fetched && decide (n ≤ b.length), 1, 0),
   (u32 b 0 == 0x504D4F43 && u16 b 4 == 1, 2, 0),
   (u16 b 6 == s.rg .GLB_PART_ID_PART 0 && u8 b 8 == s.rg .GLB_PART_ID_STEPPING 0 && u8 b 9 == s.rg .GLB_PART_ID_VARIANT 0,
     3, 0),
   (so % 64 == 0 && n == so + 7232, 4, 0),
   (signerHeld s.sec.owner (sigKey blk), 5, 0),
   (signatureOk (b.take so) blk, 6, 0)]

/-- Check 7: header reserves, SECTION_COUNT, and the entries. -/
def directoryChecks (b : List Byte) : List (Bool × Nat × Nat) :=
  let es := Raw.entries b
  let dirEnd := 256 + 16 * Raw.count b
  (u32 b 20 == 256 && allZero (slice b 18 2) && allZero (slice b 28 4) && allZero (slice b 72 184) &&
    decide (1 ≤ Raw.count b) && decide (Raw.count b ≤ 64), 7, 0) ::
  es.zipIdx.map (fun e =>
    (u8 e.1 2 == 1 && u8 e.1 3 == 0 && allZero (slice e.1 12 4) && Raw.offset e.1 % 64 == 0 && decide (dirEnd ≤ Raw.offset e.1) &&
      decide (Raw.offset e.1 + Raw.length e.1 ≤ Raw.sigOffset b) &&
      es.zipIdx.all (fun o => o.2 == e.2 || decide (Raw.offset o.1 + Raw.length o.1 ≤ Raw.offset e.1) ||
        decide (Raw.offset e.1 + Raw.length e.1 ≤ Raw.offset o.1)), 7, Raw.tag e.1))

/-- Check 8: tags listed, none repeated, every required one present. -/
def tagChecks (b : List Byte) : List (Bool × Nat × Nat) :=
  let tags := (Raw.entries b).map Raw.tag
  tags.map (fun t => (decide (1 ≤ t) && decide (t ≤ 15) && countOf (fun x => x == t) tags == 1, 8, t)) ++
  ((List.range 14).map (fun i => (decide (i + 1 ∈ tags), 8, i + 1)))

/-- Checks 9 to 14. -/
def bodyChecks (s : State) (im : Image) : List (Bool × Nat × Nat) :=
  [(carriageMapOk im, 9, 1), (pageFormatOk im, 9, 2), (owlModesOk s im, 9, 3), (foxPartitionOk im, 9, 4),
   (queueAllocOk im, 9, 5), (shapersOk im, 9, 6), (policersOk im, 9, 7), (timetableOk im, 9, 8), (laneMapOk im, 9, 9),
   (routesOk s im, 9, 10), (treesOk s im, 9, 11), (cxlOk im, 9, 12), (gridOk im, 9, 13), (ownershipOk im, 9, 14),
   (grantsOk im, 9, 15),
   (disjoint im.memGroups 64 && disjoint im.tiles 64 && disjoint im.owlBanks 16 && disjoint im.keySlots 32, 10, 1),
   (queuesDisjoint im, 10, 5),
   ((List.range 16).all (carriageOwns im), 11, 1), ((List.range 32).all (foxOwns im), 11, 4),
   ((List.range 32).all (fun i => im.queueCount (i / 16) (i % 16) == 0 || im.carValid (i % 16)), 11, 5),
   (im.cxlRanges.all (fun r => im.carValid r.car), 11, 12),
   (decide (sumOf im.maxSeqs (List.range 16) ≤ 1048576) && decide (sumOf im.weightMib (List.range 16) ≤ 32768), 12, 1),
   (confinementOk im, 13, 10),
   ([1, 2, 3, 4].all (fun i => u8 (im.sect 14) i == 1 || u8 (im.sect 14) i == 2), 14, 14)]

/-- Check 15, while an image is in force. -/
def switchChecks (s : State) (im : Image) : List (Bool × Nat × Nat) :=
  match s.comp.image with
  | none => []
  | some cur =>
    resetTags.map (fun t => (im.sect t == cur.sect t, 15, t)) ++ [(im.epoch == (cur.epoch + 1) % 65536, 15, 0)]

/-- Validation (R45, R47, R48): the first failed check and its tag, or the image. -/
def validate (s : State) (b : List Byte) (fetched : Nat) (runtime : Bool) : Except (Nat × Nat) Image :=
  let im := parseImage b
  match firstCheck (headerChecks s b fetched) with
  | some r => .error r
  | none =>
    match firstCheck (directoryChecks b ++ tagChecks b) with
    | some r => .error r
    | none =>
      match firstCheck (bodyChecks s im ++ if runtime then switchChecks s im else []) with
      | some r => .error r
      | none => .ok im

end Sys2Proof.Machine
end

