-- ==== Sys2Proof/Machine/Coach.lean ====
section
/-! DEFINITION. Coaches: their parameters and checks (R235, R238, R266 to R267, R276, R278, R281, R298 to R299, R308,
Table DEP-2), the contribution that each of them sends (R310 to R312), and their end. -/

namespace Sys2Proof.Machine

open Sys2Proof

/-! ### The parameter block (Table BEAR-3) -/

namespace Prm
def heads (p : List Byte) : Nat := u16 p 0
def npos (p : List Byte) : Nat := u8 p 2
def flags (p : List Byte) : Nat := u8 p 3
def fp8 (p : List Byte) : Bool := bit (flags p) 0
def outFp32 (p : List Byte) : Bool := bit (flags p) 1
def causal (p : List Byte) : Bool := bit (flags p) 2
def windowed (p : List Byte) : Bool := bit (flags p) 3
def softcapped (p : List Byte) : Bool := bit (flags p) 4
def exact_ (p : List Byte) : Bool := bit (flags p) 5
def scale (p : List Byte) : Nat := u32 p 4
def softcap (p : List Byte) : Nat := u32 p 8
def window (p : List Byte) : Nat := u32 p 12
def pos (p : List Byte) : Nat := u32 p 16
def rope (p : List Byte) : Nat := u16 p 20
def vdim (p : List Byte) : Nat := u16 p 22
def qdim (p : List Byte) : Nat := u16 p 24
end Prm

/-- A finite FP32 number above 0. -/
def posFinite (x : Nat) : Bool := F32.finite x && !F32.neg x && x != 0

/-- Elements of a head vector of the query (R267). -/
def headElems (q : Seqd) (p : List Byte) : Nat := if q.latent then Prm.qdim p + Prm.rope p else q.elems

/-- Bytes of a head vector. -/
def headBytes (q : Seqd) (p : List Byte) : Nat :=
  let e := headElems q p
  if Prm.fp8 p then e + e / 32 else 2 * e

/-- Bytes of the query. -/
def queryBytes (q : Seqd) (p : List Byte) : Nat := Prm.npos p * Prm.heads p * headBytes q p

/-- Whether every field of a parameter block lies in its range (R266, R267). -/
def paramsWell (q : Seqd) (p : List Byte) : Bool :=
  decide (1 ≤ Prm.heads p) && decide (Prm.heads p ≤ 256) && decide (1 ≤ Prm.npos p) && decide (Prm.npos p ≤ 32) &&
  decide (Prm.flags p < 64) && posFinite (Prm.scale p) &&
  (if Prm.softcapped p then posFinite (Prm.softcap p) else Prm.softcap p == 0) &&
  (if Prm.windowed p then decide (1 ≤ Prm.window p) && decide (Prm.window p ≤ 16777216) else Prm.window p == 0) &&
  decide (1 ≤ Prm.pos p) && decide (Prm.pos p ≤ 16777216) &&
  (if q.latent then decide (Prm.rope p ≤ 512) && decide (Prm.rope p < q.elems) && decide (16 ≤ Prm.vdim p) &&
      decide (Prm.vdim p ≤ 256) && decide (16 ≤ Prm.qdim p) && decide (Prm.qdim p ≤ 256)
    else Prm.rope p == 0 && Prm.vdim p == q.elems && Prm.qdim p == 0) &&
  (!Prm.fp8 p || headElems q p % 32 == 0) && allZero (slice p 26 6)

/-! ### Scout descriptors (Table FOX-1) -/

namespace Desc
def qscale (d : List Byte) : Nat := F32.ofBf16 (u16 d 0)
def qnorm (d : List Byte) : Nat := F32.ofBf16 (u16 d 2)
def qerr (d : List Byte) : Nat := F32.ofBf16 (u16 d 4)
def topK (d : List Byte) : Bool := bit (u8 d 6) 0
def guard (d : List Byte) : Nat := u8 d 7
def thresh (d : List Byte) : Nat := u32 d 8
def k (d : List Byte) : Nat := u16 d 12
end Desc

/-- A number that is at least 0, -0 and +∞ among them. -/
def nonNeg (x : Nat) : Bool := F32.le 0x80000000 x && !F32.isNan x

/-- Whether every field of a scout descriptor lies in its range (R235, Table FOX-1): QSCALE above 0, QNORM and QERR at least
0; THRESH has no range. -/
def descWell (d : List Byte) : Bool :=
  F32.lt 0 (Desc.qscale d) && !F32.isNan (Desc.qscale d) && nonNeg (Desc.qnorm d) && nonNeg (Desc.qerr d) && decide (u8 d 6 < 2) &&
  decide (Desc.guard d ≤ 15) &&
  (if Desc.topK d then decide (1 ≤ Desc.k d) && decide (Desc.k d ≤ 4096) else Desc.k d == 0) && u16 d 14 == 0

/-- Whether a count of vectors fits a sequence (R238). -/
def vectorsWell (q : Seqd) (v : Nat) : Bool := if q.latent then decide (1 ≤ v) && decide (v ≤ 8) else v == q.kv

/-- Descriptor `v` of a coach. -/
def Coach.desc (c : Coach) (v : Nat) : List Byte := slice c.descs (16 * v) 16

/-- Whether no pass runs for a coach (R244). -/
def exactCoach (s : State) (c : Coach) : Bool := Prm.exact_ c.params || s.rg .FOX_C_CTRL_EXACT c.car == 1

/-! ### Tiles (R275 to R278, R281) -/

/-- The logical tiles of a carriage that serve coaches: those whose physical tile is neither RETIRED nor FAILED (R290). -/
def coachTiles (s : State) (old : Bool) (c : Nat) : List Nat :=
  (s.tilesOf old c).filter (fun t => s.rg .BEAR_T_STAT_STATE (s.rg .BEAR_MAP_PHYS t) == 0)

/-- Whether the tile areas of Table BEAR-2 hold a coach's work on `t` tiles of a half (R278). -/
def areasHold (q : Seqd) (p : List Byte) (t : Nat) : Bool :=
  let n := Prm.npos p
  let hb := (divideHeads (Prm.heads p) t).1
  if q.latent then
    decide (hb * n * q.elems * 2 ≤ 262144) && decide (hb * n * (4 * (q.elems - Prm.rope p) + 8) ≤ 1835008)
  else
    decide (Prm.heads p * n * q.elems * 2 ≤ 1310720) && decide (Prm.heads p * n * (4 * q.elems + 8) ≤ 1835008)

/-- Whether they do on every half on which the coach has tiles, of which `own` are its own. -/
def areasWell (own : List Nat) (q : Seqd) (p : List Byte) : Bool :=
  [0, 1].all (fun h => let t := countOf (fun t => t / 32 == h) own; t == 0 || areasHold q p t)

/-- The key and value expansion of a sequence's layer. -/
def coachWeights (s : State) (c : Nat) (q : Seqd) (layer : Nat) : Option ((Nat × Weight) × (Nat × Weight)) :=
  match weightFor s c q.mclass layer 0, weightFor s c q.mclass layer 1 with
  | some a, some b => some (a, b)
  | _, _ => none

/-- Whether the weights' shapes are those of the parameter block (R281). -/
def weightsWell (q : Seqd) (p : List Byte) (w : (Nat × Weight) × (Nat × Weight)) : Bool :=
  let lat := q.elems - Prm.rope p
  w.1.2.latent == lat && w.2.2.latent == lat && w.1.2.dim == Prm.qdim p && w.2.2.dim == Prm.vdim p &&
  w.1.2.heads == Prm.heads p && w.2.2.heads == Prm.heads p

/-! ### The checks of a coach (Table DEP-2, R294) -/

/-- Whether a coach's scout vectors are as many as they may be, with well-formed descriptors: as R238, or none in exact mode
(Table DEP-1); a BEAR_ATTN in exact mode may carry either (Table BEAR-6). -/
def scoutsWell (q : Seqd) (v : Nat) (exact_ either : Bool) (descs : List Byte) : Bool :=
  (exact_ && v == 0) || ((!exact_ || either) && vectorsWell q v && (List.range v).all (fun i => descWell (slice descs (16 * i) 16)))

/-- The checks on a sequence's shape: BAD_COMMAND and its reason (R238, R266, R276, R278, R281); the tiles `own` do the work,
and `scouts` says that the vectors are well. -/
def shapeChecks (s : State) (car layer : Nat) (own : List Nat) (scouts : Bool) (p : List Byte) (q : Seqd) :
    List (Bool × Nat × Nat) :=
  let w := if q.latent then coachWeights s car q layer else none
  let bad := Status.badCommand
  [(paramsWell q p, bad, 10),
   (decide (layer < q.layers), bad, 0),
   (scouts, bad, 0),
   (q.latent || Prm.heads p % max 1 q.kv == 0, bad, 9),
   (!q.latent || w.isSome, bad, 6),
   (!q.latent || w.all (weightsWell q p), bad, 11),
   (areasWell own q p, bad, 8)]

/-! ### The ATTN_PART message (R311, Tables DEP-3 to DEP-5) -/

/-- What an ATTN_PART message says. -/
structure PartMsg where
  tag : Nat
  group : Nat
  reply : Nat
  seq : Nat
  layer : Nat
  epoch : Nat
  deadline : Nat
  car : Nat
  status : Nat
  level : Nat
  flags : Nat
  slot : Nat
  holes : List (List Byte)
  covered : Nat
  missing : Nat
  failed : Nat
  worst : Nat
  vectors : Nat
  records : Nat
  vdim : Nat
  minFreeze : Nat
  summaries : List Byte
  parts : List Byte
deriving DecidableEq, Repr

/-- The message's bytes. -/
def PartMsg.bytes (m : PartMsg) (sender : Nat) : List Byte :=
  leBytes 4 m.tag ++ leBytes 2 m.group ++ leBytes 2 m.reply ++ leBytes 4 m.seq ++ leBytes 2 m.layer ++ leBytes 2 m.epoch ++
  leBytes 8 m.deadline ++ leBytes 1 m.car ++ leBytes 1 m.status ++ leBytes 1 m.level ++ leBytes 1 m.flags ++
  leBytes 2 sender ++ leBytes 1 m.slot ++ leBytes 1 m.holes.length ++ leBytes 2 m.covered ++ leBytes 2 m.missing ++
  leBytes 2 m.failed ++ leBytes 1 m.worst ++ leBytes 1 m.vectors ++ leBytes 2 m.records ++ leBytes 2 m.vdim ++
  leBytes 4 m.minFreeze ++ zeros 16 ++ padTo 96 m.holes.flatten ++ m.summaries ++ m.parts

/-- A partial record of R274: m, l, and o as FP32 or rounded to BF16. -/
def partBytes (fp32 : Bool) (p : Part) : List Byte :=
  leBytes 4 p.m ++ leBytes 4 p.l ++ p.o.flatMap (fun x => if fp32 then leBytes 4 x else leBytes 2 (F32.toBf16 x))

/-- A message sent without an operation entry, under an operation ID of its own. -/
def sendPart (m : PartMsg) (dest : Nat) (s : State) : State :=
  let op := nextOpId s
  let bs := m.bytes s.nodeId
  let h : Hdr := { mtype := MTy.attnPart, dest := dest, car := m.car, epoch := m.epoch, msgLen := bs.length }
  sendPlain h op bs (freeTaken (opIdTaken op s))

/-! ### Contributions (R310, R312) -/

/-- A scout summary from one scout report (Tables FOX-3, DEP-5). -/
def summaryOf (r : List Byte) : List Byte :=
  let w := u16 r 0
  let conf := bits w 14 2
  leBytes 4 (bits w 0 13) ++ leBytes 4 (u16 r 4) ++ leBytes 4 (u16 r 6) ++ leBytes 1 (conf + 4 * bits w 13 1) ++
  leBytes 1 (u8 r 2) ++ leBytes 1 (u8 r 3) ++ leBytes 1 (b2n (decide (conf ≤ 1)))

/-- A summary of a failed contribution: 0, with CONF_MIN 3. -/
def emptySummary : List Byte := zeros 12 ++ leBytes 1 3 ++ zeros 3

/-- FREEZE_POS of a coach's sequence, where it is FROZEN. -/
def clipOf (s : State) (c : Coach) : Option Nat :=
  (look c.seq s.seq.seqs).bind (fun q => if q.st = 2 then some q.freeze else none)

/-- What a contributor sends: OK with its records, or a failure with none (R312). -/
def contribution (s : State) (c : Coach) (status : Nat) : PartMsg :=
  let ok := status == Status.ok
  let t := c.tree
  let clip := if ok then clipOf s c else none
  let fp32 := Prm.outFp32 c.params
  { tag := c.tag, group := c.group % 4096, reply := c.reply % 4096, seq := c.seq, layer := c.layer, epoch := c.epoch,
    deadline := c.deadline, car := c.car, status := status, level := 0,
    flags := b2n fp32 + 2 * b2n clip.isSome, slot := Tree.upSlot t, holes := [],
    covered := b2n ok, missing := b2n (!ok), failed := b2n (!ok), worst := status, vectors := c.vectors,
    records := if ok then Prm.npos c.params * Prm.heads c.params else 0, vdim := Prm.vdim c.params,
    minFreeze := clip.getD 0xFFFFFFFF,
    summaries := if ok then (List.range c.vectors).flatMap (fun v => summaryOf (slice c.reports (8 * v) 8))
      else (List.range c.vectors).flatMap (fun _ => emptySummary),
    parts := if ok then (c.result.getD []).flatMap (partBytes fp32) else [] }

/-- The counters and events of a contribution (Tables DEP-11, DEP-13); `cause` of a LATE one: 0 cutoff, 1 header too
late, 2 no coach memory, 3 ended by R60, 4 ended by a shutdown. -/
def noteContribution (c : Coach) (status reason cause : Nat) (s : State) : State :=
  let s := bump .PRT_DEP_C_COACHES_COUNT c.car 1 s
  let slack := c.cutoff - s.ft
  let s := if slack < s.rg .PRT_DEP_C_SLACK_MIN_NS c.car then setRg .PRT_DEP_C_SLACK_MIN_NS c.car slack s else s
  let s := when (status == Status.staleEpoch) countStale s
  if status = Status.ok then s
  else if status = Status.late then
    s |> bump .PRT_DEP_C_LATE_COUNT c.car 1 |> raiseCar 0x0741 c.car [(4, c.seq), (2, c.layer), (1, cause)]
  else
    s |> bump .PRT_DEP_C_FAILED_COUNT c.car 1 |> raiseCar 0x0742 c.car [(1, status)]
      |> when (status == Status.badCommand) (raise 0x0747 (some c.car) [(1, reason)])

/-- A coach's contribution sent to UP_NODE at UP_SLOT. -/
def contribute (c : Coach) (status reason cause : Nat) (s : State) : State :=
  s |> noteContribution c status reason cause |> sendPart (contribution s c status) (Tree.upNode c.tree)

/-! ### The coaches held -/

/-- Coach `id`. -/
def State.coach (s : State) (id : Nat) : Option Coach := look id s.fox.coaches

def setCoach (id : Nat) (c : Coach) (s : State) : State := onFox (fun f => { f with coaches := put id c f.coaches }) s

/-- A coach leaves the node: its weights and the frames it walked are given back. -/
def dropCoach (id : Nat) (s : State) : State :=
  s |> onFox (fun f => { f with coaches := del id f.coaches }) |> dropWalker id |> releaseWeights id

/-- A coach ends without a result: its contribution, or the completion of the command that runs it. -/
def failCoach (id status reason cause : Nat) (s : State) : State :=
  match s.coach id with
  | none => s
  | some c =>
    let s := when (status == Status.badCommand && reason == 8) (fun s =>
      s |> bump .BEAR_C_ACCREF_COUNT c.car 1 |> raiseCar 0x0608 c.car []) s
    match c.cmd with
    | some k => s |> dropCoach id |> completeReason k status reason
    | none => s |> contribute c status reason cause |> dropCoach id

/-- Whether a coach still has passes to run. -/
def passesLeft (s : State) (c : Coach) : Bool := !exactCoach s c && decide (c.passes < c.vectors) && c.cands.isNone

/-- A piece of a coach's work run, where the coach is held and its window is open. -/
def withCoach (id : Nat) (f : Coach → Seqd → State → State) (s : State) : State :=
  match s.coach id with
  | none => s
  | some c =>
    if c.open_ = false ∨ c.cutoff ≤ s.ft then s
    else
      match look c.seq s.seq.seqs with
      | some q => f c q s
      | none => failCoach id Status.badCommand 12 0 s

end Sys2Proof.Machine
end

