-- ==== Sys2Proof/Machine/Fox.lean ====
section
/-! DEFINITION. Fox: passes, selection and reports (R229 to R247), FOX_SCORE and the row commands (R253 to R257). -/

namespace Sys2Proof.Machine

open Sys2Proof

/-! ### What a vector scores (R238, R243) -/

/-- A leaf entry that Fox sees: its number, the entry, its page. -/
structure Seen where
  leaf : Nat
  view : Nat
  page : Nat
  g : Page
deriving DecidableEq, Repr

/-- The pages of a coach's layer on this node, in leaf order, but for TIER 2 pages and pages from FREEZE_POS on. -/
def seenPages (s : State) (c : Coach) (q : Seqd) : List Seen :=
  let r := layerOf s c.seq q c.layer
  (sortBy Prod.fst r.leaves).filterMap (fun e => (look e.2.page s.seq.pages).bind (fun g =>
    if g.loc = .cold ∨ q.freeze ≤ basePos s q c.layer e.1 then none
    else some { leaf := e.1, view := e.2.view, page := e.2.page, g := g }))

/-- Those that vector `v` scores: all of a latent layer, or those of KV head `v`. -/
def vectorPages (s : State) (c : Coach) (q : Seqd) (v : Nat) : List Seen :=
  (seenPages s c q).filter (fun e => q.latent || e.leaf % max 1 q.kv == v)

/-- The row of a page that a coach's pass can enable: its macro is IN_CAL, and its block does the coach's work (R59, R256). -/
def usableRow (s : State) (c : Coach) (g : Page) : Option Nat :=
  g.foxRow.bind (fun r => if s.macroSt (r / 512) = 1 ∧ s.serves c.old (.fox (r / 32768)) = some c.car then some r else none)

/-- Whether a page's row is one that calibration has made rowless (R243, R251). -/
def rowLost (s : State) (g : Page) : Bool := g.foxRow.any (fun r => s.macroSt (r / 512) != 1)

/-! ### The bound (R235 to R237) -/

/-- An element of a packed scout vector. -/
def vectorAt (c : Coach) (v i : Nat) : Int := summaryAt (slice c.vecs (64 * v) 64) i

/-- The exact product of vector `v` and a summary. -/
def exactDot (c : Coach) (v : Nat) (summary : List Byte) : Int :=
  (List.range 128).foldl (fun acc i => acc + vectorAt c v i * summaryAt summary i) 0

/-- FS_EXP in force: 6 to 13. -/
def fsExp (s : State) (car : Nat) : Nat := max 6 (min 13 (s.rg .FOX_C_CTRL_FS_EXP car))

/-- g in units of 0.5 (R239, Table FOX-9). -/
def guardUnits (s : State) (c : Coach) (v : Nat) : Nat :=
  if Desc.guard (c.desc v) ≠ 0 then Desc.guard (c.desc v)
  else if s.rg .FOX_C_CTRL_GUARD c.car = 0 then 8 else s.rg .FOX_C_CTRL_GUARD c.car

/-- d_hat of a code under a macro's running corrections, towards +∞ (R235, R237): gain is compensated (R250). -/
def dHat (x : Macro) (fs : Nat) (code : Int) : Nat :=
  F32.quot .up ((8192 * code - x.off) * x.gain * (80000000 + x.comp)) 80000000 ((fs : Int) - 35)

/-- b0 of a page from d_hat, rounded towards +∞ at every step (R235). -/
def bound (d : List Byte) (g : Page) (dhat : Nat) : Nat :=
  let ru := Round.up
  let scale := F32.ofBf16 g.scale
  let norm := roundTo 24 ru { m := rowNorm g.summary, e := -4 }
  let a := F32.mul ru (F32.mul ru (Desc.qscale d) scale) dhat
  let b := F32.mul ru (F32.mul ru (Desc.qerr d) scale) norm
  F32.add ru (F32.add ru a b) (F32.mul ru (Desc.qnorm d) (F32.ofBf16 g.radius))

/-- The guard of an analogue row (R235). -/
def guardOf (s : State) (c : Coach) (v m : Nat) (g : Page) : Nat :=
  let ru := Round.up
  let sigma := max (s.rg .FOX_M_STAT_SIGMA m) (s.rg .FOX_C_CTRL_SIGMA_FLOOR c.car)
  let a := F32.mul ru (roundTo 24 ru { m := guardUnits s c v, e := -1 }) (F32.quot ru sigma 10000 0)
  let b := F32.mul ru a (roundTo 24 ru { m := 1, e := fsExp s c.car })
  F32.mul ru (F32.mul ru b (Desc.qscale (c.desc v))) (F32.ofBf16 g.scale)

/-- An analogue score. -/
def analogScore (s : State) (c : Coach) (v row : Nat) (e : Seen) (code : Int) : Scored :=
  let m := row / 512
  let sat := decide (code = 31)
  { leaf := e.leaf, page := e.page,
    b0 := if sat then F32.posInf else bound (c.desc v) e.g (dHat (s.macro_ m) (fsExp s c.car) code),
    guard := guardOf s c v m e.g, sat := sat, digital := false, macro_ := some m, sigma := s.rg .FOX_M_STAT_SIGMA m }

/-- A digital score: exact, with a guard of 0 (R243). -/
def digitalScore (c : Coach) (v : Nat) (e : Seen) : Scored :=
  { leaf := e.leaf, page := e.page, b0 := bound (c.desc v) e.g (F32.ofInt .up (exactDot c v e.g.summary)), guard := 0,
    sat := false, digital := true, macro_ := none, sigma := 0 }

/-! ### Tracking and OUT (R250, R251) -/

/-- A macro goes OUT; causes 0 σ̂, 1 offset, 2 reference row, 3 trims written, 4 recalibration (event 0x0502). -/
def macroOut (m cause : Nat) (s : State) : State :=
  if s.macroSt m = 1 then s |> setRg .FOX_M_STAT_STATE m 2 |> raise 0x0502 none [(2, m), (1, cause)] else s

/-- The limits of R251 on a macro after a pass. -/
def macroCheck (m : Nat) (off : Int) (x : Macro) (s : State) : State :=
  if 150 < s.rg .FOX_M_STAT_SIGMA m then macroOut m 0 s
  else if 32 < off.natAbs then macroOut m 1 s
  else if x.streak.any (fun e => 3 ≤ e.2) then macroOut m 2 s
  else s

/-- The running corrections after a pass whose reference rows showed residuals `rs`: the mean residual, and the gain error
that the array finds in them, each with weight 1/64 (R250, assumption 6). -/
def trackPass (x : Macro) (rs : List Int) : Macro :=
  { x with off := x.off + rs.foldl (fun a r => a + r) 0, gain := x.gain + Config.foxGain rs }

/-- One pass of a macro's reference rows: `rs` are the 8 residuals in 1/16 LSB (assumption 7). -/
def trackMacro (m : Nat) (rs : List Int) (s : State) : State :=
  let x := s.macro_ m
  if s.rg .FOX_M_HOLD_FREEZE m = 1 then setMacro m { x with lastPass := s.clk } s
  else
    let resid := (rs :: x.resid).take 1024
    let sigma := min 255 (Config.foxSigma resid)
    let run := Config.foxResid resid
    let past := fun (r : Int) => decide (8 * sigma * 512 < r.natAbs * 10000)
    let streak := rs.zipIdx.map (fun r => (r.2, if past r.1 then lookD r.2 0 x.streak + 1 else 0))
    let x := { trackPass x rs with resid := resid, streak := streak, lastPass := s.clk }
    s |> setMacro m x |> setRg .FOX_M_STAT_SIGMA m sigma
      |> setRg .FOX_M_RESID_OFFSET m (unsigned 16 (clampInt (-32768) 32767 run.1))
      |> setRg .FOX_M_RESID_GAIN m (unsigned 16 (clampInt (-32768) 32767 run.2)) |> macroCheck m run.1 x

/-! ### FOX_PASS -/

/-- Whether a pass's operands are those of a pass: a code for every enabled row, 8 residuals for every macro used. -/
def passWell (rows : List Nat) (codes : List (Nat × Int)) (refs : List (Nat × List Int)) : Bool :=
  rows.all (fun r => (look r codes).any (fun c => decide (-32 ≤ c) && decide (c ≤ 31))) &&
  rows.all (fun r => (look (r / 512) refs).any (fun l => l.length == 8))

/-- The macros of a list of rows, each once. -/
def macrosIn (rows : List Nat) : List Nat := rows.foldl (fun acc r => addSet (r / 512) acc) []

/-- FOX_PASS (R231, R232, R237, R250): the pass of a coach's next vector; the codes and the reference residuals are the
array's (assumption 7). -/
def foxPass (id : Nat) (codes : List (Nat × Int)) (refs : List (Nat × List Int)) (s : State) : State :=
  withCoach id (fun c q s =>
    if passesLeft s c = false ∨ c.whole = false ∨ waitsFor s id c (passesLeft s) then s
    else
      let v := c.passes
      let pages := (vectorPages s c q v).filter (fun e => e.g.sealed_)
      let on := pages.filterMap (fun e => (usableRow s c e.g).map (fun r => (r, e)))
      let rows := on.map Prod.fst
      if passWell rows codes refs = false then s
      else
        let scores := on.map (fun x => analogScore s c v x.1 x.2 (lookD x.1 0 codes))
        let lost := pages.any (fun e => rowLost s e.g)
        s |> setCoach id { c with scored := c.scored ++ [scores], lost := c.lost ++ [lost], passes := v + 1 } |> bump .FOX_C_PASSES_COUNT c.car 1
          |> forEach (macrosIn rows) (fun m => trackMacro m (lookD m [] refs))) s

def execFoxPass (id : Nat) (codes : List (Nat × Int)) (refs : List (Nat × List Int)) (s : State) : Result :=
  done (live (foxPass id codes refs) s)

/-! ### Selection (R239 to R244) -/

/-- A key that falls as an FP32 number rises. -/
def downKey (x : Nat) : Nat := (4294967296 - F32.key x).toNat

/-- Whether a page holds a position of [a, b). -/
def holdsIn (base view a b : Nat) : Bool := decide (a < base + view) && decide (base < b) && decide (a < b) && decide (0 < view)

/-- Whether a page is always included (R241). -/
def alwaysIn (s : State) (c : Coach) (q : Seqd) (e : Seen) : Bool :=
  let base := basePos s q c.layer e.leaf
  let pos := Prm.pos c.params
  !e.g.sealed_ || holdsIn base e.view 0 q.sinks || decide (pos - q.tail < base + e.view) ||
  (List.range 4).any (fun i => holdsIn base e.view (u32 c.ranges (8 * i)) (u32 c.ranges (8 * i + 4)))

/-- What one vector's selection yields. -/
structure Choice where
  scored : List Scored
  picked : List Scored
  overflow : Bool
  digital : Nat
  always : List Seen
  report : List Byte
deriving DecidableEq, Repr

/-- t of a vector: THRESH, or the K-th largest b0; none where fewer than K pages are scored (R239). -/
def threshold (d : List Byte) (all : List Scored) : Option Nat :=
  if Desc.topK d then ((sortBy downKey (all.map (fun x => x.b0)))[Desc.k d - 1]?) else some (Desc.thresh d)

/-- Whether a scored page is selected (R235, R237). -/
def isPicked (t : Option Nat) (x : Scored) : Bool :=
  match t with
  | none => true
  | some t => x.sat || F32.le (F32.sub .up t x.guard) x.b0

/-- MARGIN of a rejected analogue row, in 1/8 of its guard σ (Table FOX-3). -/
def marginOf (gu : Nat) (t : Nat) (x : Scored) : Nat :=
  if F32.finite t && F32.finite x.b0 && F32.finite x.guard && x.guard != 0 then
    let d := (F32.dy t).add ((F32.dy (F32.flip x.guard)).add (F32.dy (F32.flip x.b0)))
    let g := F32.dy x.guard
    let e := if d.e < g.e then d.e else g.e
    (d.at e * (4 * gu : Nat) / g.at e).toNat
  else 255

/-- CONFIDENCE of a report (Table FOX-3): `sigma` is the largest σ̂ used. -/
def confidence (sigma : Nat) (past sat lost : Bool) : Nat :=
  if past || lost then 0 else if sat then 1 else if 100 < sigma then 2 else 3

/-- The 8-byte scout report. -/
def reportBytes (cand : Nat) (past : Bool) (conf margin sigma digital included : Nat) : List Byte :=
  leBytes 2 (min 4096 cand + b2n past * 2 ^ 13 + conf * 2 ^ 14) ++ leBytes 1 (min 255 margin) ++ leBytes 1 (min 255 sigma) ++
  leBytes 2 (min 65535 digital) ++ leBytes 2 (min 65535 included)

/-- The selection of vector `v`. -/
def chooseVector (s : State) (c : Coach) (q : Seqd) (v : Nat) : Choice :=
  let es := vectorPages s c q v
  let analog := nth [] c.scored v
  let rowless := es.filter (fun e => e.g.sealed_ && analog.all (fun x => x.leaf != e.leaf))
  let full := s.rg .FOX_C_CTRL_FALLBACK c.car == 1
  let digital := if full then [] else rowless.map (digitalScore c v)
  let all := analog ++ digital
  let always := es.filter (fun e => alwaysIn s c q e || (full && rowless.any (fun r => r.leaf == e.leaf)))
  let t := threshold (c.desc v) all
  let hit := (all.filter (isPicked t)).filter (fun x => always.all (fun e => e.leaf != x.leaf))
  let past := decide (4096 < hit.length)
  let picked := (sortBy (fun x => downKey x.b0) hit).take 4096
  let sigma := (mostBy id (analog.map (fun x => x.sigma))).getD 0
  let lost := nth false c.lost v || analog.any (fun x => x.macro_.any (fun m => s.macroSt m != 1))
  let conf := confidence sigma past (analog.any (fun x => x.sat)) lost
  let gu := guardUnits s c v
  let margin := ((leastBy id ((analog.filter (fun x => !isPicked t x)).map (marginOf gu (t.getD 0))))).getD 255
  { scored := all, picked := picked, overflow := past, digital := digital.length, always := always,
    report := reportBytes picked.length past conf margin sigma digital.length always.length }

/-- A candidate from a page, with its best score over the vectors. -/
def candOf (always : Bool) (e : Seen) (scores : List Scored) : Cand :=
  match leastBy (fun x => downKey x.b0) (scores.filter (fun x => x.leaf == e.leaf)) with
  | some x => { leaf := e.leaf, page := e.page, always := always, digital := x.digital, sat := x.sat, b0 := x.b0 }
  | none => { leaf := e.leaf, page := e.page, always := always, digital := false, sat := false, b0 := F32.posInf }

/-- The candidate set in its order (R242). -/
def candidatesOf (seen : List Seen) (cs : List Choice) : List Cand :=
  let scores := cs.flatMap (fun x => x.scored)
  let inAlways := fun (e : Seen) => cs.any (fun x => x.always.any (fun a => a.leaf == e.leaf))
  let inPicked := fun (e : Seen) => cs.any (fun x => x.picked.any (fun a => a.leaf == e.leaf))
  let first := (seen.filter inAlways).map (fun e => candOf true e scores)
  let rest := (seen.filter (fun e => inPicked e && !inAlways e)).map (fun e => candOf false e scores)
  first ++ sortBy (fun x => downKey x.b0) rest

/-- The candidates of exact mode: every page that holds a position below POS, in leaf order, marked where R241 includes it
(R244, R285, Table FOX-7). -/
def exactCands (s : State) (c : Coach) (q : Seqd) (seen : List Seen) : List Cand :=
  (seen.filter (fun e => decide (basePos s q c.layer e.leaf < Prm.pos c.params) && decide (0 < e.view))).map
    (fun e => candOf (alwaysIn s c q e) e [])

/-- Reports of exact mode: 0 candidates, confidence 3. -/
def exactReports (n vectors : Nat) : List Byte :=
  (List.range vectors).flatMap (fun _ => reportBytes 0 false 3 255 0 0 n)

/-- The counters and events of the reports. -/
def noteChoice (car : Nat) (x : Choice) (s : State) : State :=
  let low := decide (bits (u16 x.report 0) 14 2 ≤ 1)
  s |> bump .FOX_C_DIGITAL_COUNT car x.digital
    |> when x.overflow (fun s => s |> bump .FOX_C_OVERFLOW_COUNT car 1 |> raiseCar 0x0505 car [])
    |> when low (fun s => s |> bump .FOX_C_LOWCONF_COUNT car 1 |> raiseCar 0x0507 car [])

/-- A candidate entry (Table FOX-7). -/
def candBytes (x : Cand) : List Byte :=
  leBytes 4 (x.leaf % 2 ^ 27 + b2n x.always * 2 ^ 27 + b2n x.digital * 2 ^ 28 + b2n x.sat * 2 ^ 29) ++
  leBytes 4 (if x.sat then F32.posInf else x.b0)

/-- A FOX_SCORE ends: entries and reports are written (R257). -/
def scoreDone (id k : Nat) (cands : List Cand) (reports : List Byte) (s : State) : State :=
  match s.cmd k with
  | none => dropCoach id s
  | some c =>
    let out := cands.take (u32 c.bytes 36)
    s |> forEach cands (fun x => onPage x.page (fun g => { g with age := 0 }))
      |> hostWrite k (u64 c.bytes 28) (out.flatMap candBytes) |> hostWrite k (u64 c.bytes 40) reports
      |> dropCoach id |> complete k Status.ok 0 (out.length + cands.length * 2 ^ 32)

/-- Whether a command serial names a FOX_SCORE. -/
def isScore (s : State) (k : Nat) : Bool := (s.cmd k).any (fun c => Op.engine c.bytes == 2)

/-- The candidate set handed on: to the host, or kept for Badger (R242). -/
def selectionDone (id : Nat) (c : Coach) (cands : List Cand) (reports : List Byte) (s : State) : State :=
  match c.cmd with
  | some k =>
    if isScore s k then scoreDone id k cands reports s else setCoach id { c with cands := some cands, reports := reports } s
  | none => setCoach id { c with cands := some cands, reports := reports } s

/-- SCOUT_SELECTION (R239 to R247): the last pass and the digital fallback have ended. -/
def scoutSelection (id : Nat) (s : State) : State :=
  withCoach id (fun c q s =>
    if c.whole = false ∨ c.cands.isSome ∨ passesLeft s c then s
    else
      let seen := seenPages s c q
      let c := { c with walked := seen.map (fun e => e.leaf) }
      if exactCoach s c then
        let cands := exactCands s c q seen
        selectionDone id c cands (exactReports (cands.filter (fun x => x.always)).length c.vectors) s
      else
        let cs := (List.range c.vectors).map (chooseVector s c q)
        selectionDone id c (candidatesOf seen cs) (cs.flatMap (fun x => x.report)) (forEach cs (noteChoice c.car) s)) s

def execScoutSelection (id : Nat) (s : State) : Result := done (live (scoutSelection id) s)

/-! ### FOX_SCORE (R257) -/

/-- A coach that a command runs: held whole, its window open, with no cutoff. -/
def cmdCoach (s : State) (k car seq layer vectors : Nat) (params query vecs descs ranges : List Byte) : Coach :=
  let old := (s.cmd k).any (fun c => c.old)
  { car := car, seq := seq, layer := layer, epoch := (s.cmd k).elim 0 (fun c => Op.epoch c.bytes), depart := s.ft, deadline := 0,
    tag := 0, group := 0, reply := 0, vectors := vectors, params := params, ranges := ranges, query := query, vecs := vecs,
    descs := descs, order := s.dep.arrivals, size := 0, whole := true, cmd := some k,
    old := old, tree := [], own := coachTiles s old car, open_ := true, cutoff := 2 ^ 64, weights := none, scored := [], lost := [], passes := 0,
    cands := none, reports := [], walked := [], tailWaited := false, gather := false, toRead := [], ahead := [], stream := [], absorbed := none,
    tiles := [], halves := [], result := none, failed := none }

/-- A new coach takes the next number. -/
def addCoach (c : Coach) (s : State) : State :=
  s |> onFox (fun f => { f with coaches := put f.nextCoach c f.coaches, nextCoach := f.nextCoach + 1 })
    |> onDep (fun d => { d with arrivals := d.arrivals + 1 })

/-- The checks of a FOX_SCORE before its data is read. -/
def scoreFault (c : Cmd) (q : Seqd) : Option Nat :=
  let b := c.bytes
  firstFail [
    (decide (u16 b 12 < q.layers) && vectorsWell q (u8 b 14) && decide (u8 b 14 ≤ 64) && decide (1 ≤ u32 b 36) &&
      decide (u32 b 36 ≤ 1048576), Status.badCommand),
    (!q.parked, Status.frozen)]

/-- FOX_SCORE: the vectors, descriptors and ranges are read, and a scout run begins that SCOUT_SELECTION ends. -/
def foxScore (k : Nat) (c : Cmd) (s : State) : State :=
  if 2 ≤ c.phase then s
  else onOwnSeq k c (some (u16 c.bytes 12)) (fun q s =>
    let b := c.bytes
    let v := u8 b 14
    match scoreFault c q with
    | some st => complete k st 0 0 s
    | none =>
      withData k c (u64 b 20) (80 * v + 32) (fun d s =>
        let descs := slice d (64 * v) (16 * v)
        if (List.range v).all (fun i => descWell (slice descs (16 * i) 16)) then
          let params := overwrite (overwrite (zeros 32) 3 (leBytes 1 (b2n (bit (u8 b 15) 0) * 32))) 16 (leBytes 4 (u32 b 16))
          s |> setCmd k { c with phase := 2 }
            |> addCoach (cmdCoach s k q.car (Op.seqId b) (u16 b 12) v params [] (slice d 0 (64 * v)) descs (slice d (80 * v) 32))
        else complete k Status.badCommand 0 0 s) s) s

def execFoxScore (k : Nat) (s : State) : Result := done (live (withCmd k 2 0x01 (foxScore k)) s)

/-! ### FOX_ROW_BIND, FOX_ROW_RELEASE and refill (R253, R255, R257) -/

/-- The pages of a sequence's layer, or of all its layers, in ascending layer and leaf order. -/
def seqPagesOf (q : Seqd) (layer : Nat) : List Nat :=
  (sortBy Prod.fst (q.recs.filter (fun r => layer == 0xFFFF || r.1 == layer))).flatMap (fun r =>
    (sortBy Prod.fst r.2.leaves).map (fun e => e.2.page))

/-- A rowless sealed page bound where a row is free: how many were bound so far, and the state. -/
def bindOne (acc : Nat × State) (p : Nat) : Nat × State :=
  match look p acc.2.seq.pages with
  | none => acc
  | some g =>
    if g.sealed_ = false ∨ g.foxRow.isSome ∨ g.loc = .cold then acc
    else
      match rowPick acc.2 g.car (locHalf acc.2 g.loc) with
      | some r => (acc.1 + 1, bindTo p r g acc.2)
      | none => (acc.1, raiseFirst 0x0506 (2 * g.car + locHalf acc.2 g.loc) (some g.car) [] acc.2)

/-- The checks of the row commands. -/
def rowCmdFault (s : State) (c : Cmd) (q : Seqd) : Option Nat :=
  firstFail [
    (u16 c.bytes 12 == 0xFFFF || decide (u16 c.bytes 12 < q.layers), Status.badCommand),
    (!s.seqHeld q.car (Op.seqId c.bytes), Status.aborted)]

/-- FOX_ROW_BIND. -/
def foxRowBind (k : Nat) (c : Cmd) (s : State) : State :=
  onOwnSeq k c none (fun q s =>
    match rowCmdFault s c q with
    | some st => complete k st 0 0 s
    | none =>
      let r := (seqPagesOf q (u16 c.bytes 12)).foldl bindOne (0, s)
      complete k Status.ok 0 r.1 r.2) s

def execFoxRowBind (k : Nat) (s : State) : Result := done (live (withCmd k 2 0x03 (foxRowBind k)) s)

/-- A row of an unshared page released. -/
def releaseOne (acc : Nat × State) (p : Nat) : Nat × State :=
  if (look p acc.2.seq.pages).any (fun g => g.refs == 1 && g.foxRow.isSome) then (acc.1 + 1, releaseRow p acc.2) else acc

/-- FOX_ROW_RELEASE. -/
def foxRowRelease (k : Nat) (c : Cmd) (s : State) : State :=
  onOwnSeq k c none (fun q s =>
    match rowCmdFault s c q with
    | some st => complete k st 0 0 s
    | none =>
      let r := (seqPagesOf q (u16 c.bytes 12)).foldl releaseOne (0, s)
      complete k Status.ok 0 r.1 r.2) s

def execFoxRowRelease (k : Nat) (s : State) : Result := done (live (withCmd k 2 0x04 (foxRowRelease k)) s)

/-- A rowless page of a half that a free row of its carriage can take, under REFILL. -/
def refillable (s : State) (half p : Nat) : Bool :=
  (look p s.seq.pages).any (fun g => g.sealed_ && g.foxRow.isNone && g.loc != .cold && locHalf s g.loc == half &&
    s.rg .FOX_C_CTRL_REFILL g.car == 1 && (rowPick s g.car half).isSome)

/-- FOX_ROW_REFILL (R255): one bind per 100 ns on a half, the newest seal first. -/
def foxRowRefill (half : Nat) (s : State) : State :=
  let newest := mostBy (fun p => ((look p s.seq.pages).map (fun g => g.sealAt)).getD 0) (s.fox.rowless.filter (refillable s half))
  match newest with
  | none => s
  | some p =>
    if (look half s.fox.refillAt).any (fun t => decide (s.clk < t + 100)) then s
    else
      match look p s.seq.pages with
      | some g =>
        (match rowPick s g.car half with
          | some r => s |> bindTo p r g |> onFox (fun f => { f with refillAt := put half s.clk f.refillAt })
          | none => s)
      | none => s

def execFoxRowRefill (half : Fin 2) (s : State) : Result := done (live (foxRowRefill half.val) s)

end Sys2Proof.Machine
end

