-- ==== Sys2Proof/Machine/Attn.lean ====
section
/-! DEFINITION. What a Bear tile computes (R267 to R283): query vectors, absorption, scoring with its masks and softmax,
merges, and value expansion. Every value is a fixed function of the inputs (R261). -/

namespace Sys2Proof.Machine

open Sys2Proof

/-! ### exp2 and tanh (R271) -/

/-- The power series of 2^f, sinh and cosh in units of 2^-96: the terms from number `k` on, `n` of them, the first being `t`;
each is the last times `y` over `d k`. -/
def series (d : Nat → Nat) (y : Nat) : Nat → Nat → Nat → Nat
  | 0, _, _ => 0
  | n + 1, k, t => t + series d y n (k + 1) (t * y / (d k * 2 ^ 96))

/-- ln 2 in units of 2^-96. -/
def ln2Fixed : Nat := 0xB17217F7D1CF79ABC9E3B398

/-- 2 to the power of a number, to about 90 bits; below 2^-400 it counts as that. -/
def exp2Val (x : Dy) : Dy :=
  let f : Int := if x.e < -96 then x.m / 2 ^ (-96 - x.e).toNat else x.m * 2 ^ (x.e + 96).toNat
  let i : Int := max (-400) (min 400 (f / 2 ^ 96))
  let y := (f % 2 ^ 96).toNat * ln2Fixed / 2 ^ 96
  { m := (series id y 32 1 (2 ^ 96) : Nat), e := i - 96 }

/-- The hyperbolic tangent of a number, to about 90 bits: sinh over cosh, both from the square; 1 from 16 on. -/
def tanhVal (x : Dy) : Dy :=
  let a := x.m.natAbs
  let neg := decide (x.m < 0)
  if (0 < x.e ∨ 16 * 2 ^ (-x.e).toNat ≤ a) ∧ a ≠ 0 then { m := if neg then -1 else 1, e := 0 }
  else
    let y := if x.e < -48 then a * a / 2 ^ (-96 - 2 * x.e).toNat else a * a * 2 ^ (96 + 2 * x.e).toNat
    let sh := series (fun k => 2 * k * (2 * k + 1)) y 64 1 (2 ^ 96)
    let ch := series (fun k => (2 * k - 1) * (2 * k)) y 64 1 (2 ^ 96)
    { m := x.m * (sh * 2 ^ 96 / ch : Nat), e := x.e - 96 }

/-- Whether an FP32 pattern lies within `n` units in the last place of a number. -/
def withinUlp (n : Nat) (v : Dy) (x : Nat) : Bool :=
  let ulp : Int := max (v.e + (Nat.log2 v.m.natAbs : Int) - 23) (-149)
  let d := (F32.dy x).add { v with m := -v.m }
  F32.finite x && decide ((d.at (min d.e ulp)).natAbs ≤ n * ({ m := 1, e := ulp : Dy }.at (min d.e ulp)).natAbs)

/-- An approximation as the tiles compute it: free within `n` units in the last place of the exact value (assumption 6). -/
def approx (n : Nat) (v : Dy) (x : Nat) : Nat := if withinUlp n v x then x else roundTo 24 .near v

/-- 2^x as the tiles compute it, within 2 units in the last place; 0 for −∞. -/
def exp2Of (x : Nat) : Nat :=
  if x = F32.negInf then 0 else if F32.finite x then approx 2 (exp2Val (F32.dy x)) (Config.exp2 x % 2 ^ 32) else x

/-- tanh as the tiles compute it, within 4 units in the last place. -/
def tanhOf (x : Nat) : Nat :=
  if F32.finite x then approx 4 (tanhVal (F32.dy x)) (Config.tanh x % 2 ^ 32)
  else if x = F32.posInf then F32.one else if x = F32.negInf then F32.flip F32.one else x

/-! ### The query (R267) -/

/-- Head vector of query position `j` and head `h`. -/
def queryVec (q : Seqd) (c : Coach) (j h : Nat) : Vec :=
  let e := headElems q c.params
  let n := headBytes q c.params
  let b := slice c.query ((j * Prm.heads c.params + h) * n) n
  if Prm.fp8 c.params then vecOf 0 e b (b.drop e) else vecOf 5 e b []

/-- Query positions × heads, position-major. -/
def headPairs (c : Coach) : List (Nat × Nat) :=
  (List.range (Prm.npos c.params)).flatMap (fun j => (List.range (Prm.heads c.params)).map (fun h => (j, h)))

/-- Elements of the query that are read as 0 (R268). -/
def queryBad (q : Seqd) (c : Coach) : Nat := sumOf (fun x => (queryVec q c x.1 x.2).bad) (headPairs c)

/-! ### Expansion weights (R221) -/

/-- Row `i` of head `h` of a matrix. -/
def weightRow (w : Weight) (h i : Nat) : Vec :=
  let at_ := (h * w.latent + i) * w.dim
  if w.elem = 5 then vecOf 5 w.dim (slice w.data (2 * at_) (2 * w.dim)) []
  else vecOf 0 w.dim (slice w.data at_ w.dim) (slice w.data (w.heads * w.latent * w.dim + at_ / 32) (w.dim / 32))

/-- Elements of a matrix that are read as 0. -/
def weightBad (w : Weight) : Nat :=
  sumOf (fun h => sumOf (fun i => (weightRow w h i).bad) (List.range w.latent)) (List.range w.heads)

/-! ### Absorption (R279) -/

/-- The absorbed query of one head vector: K_h · q in FP32, rounded to BF16, then the rotary elements. -/
def absorbOne (p : List Byte) (k : Weight) (h : Nat) (qv : Vec) : List Nat :=
  let nope : Vec := { qv with vals := qv.vals.take (Prm.qdim p) }
  let a := (List.range k.latent).map (fun i => F32.ofBf16 (F32.toBf16 (dot (weightRow k h i) nope)))
  a ++ (List.range (Prm.rope p)).map (fun i => F32.ofBf16 (roundTo 8 .near (qv.get (Prm.qdim p + i))))

/-- Every head vector absorbed. -/
def absorbAll (q : Seqd) (c : Coach) (k : Weight) : List (List Nat) :=
  (headPairs c).map (fun x => absorbOne c.params k x.2 (queryVec q c x.1 x.2))

/-! ### Scoring (R269 to R271) -/

/-- The vector that scores a record for a head vector. -/
def scoreVec (q : Seqd) (c : Coach) (j h : Nat) : Vec :=
  if q.latent then vecBf16 (nth [] (c.absorbed.getD []) (j * Prm.heads c.params + h)) else queryVec q c j h

/-- The elements of a record. -/
def recordVec (q : Seqd) (r : Rec) : Vec := vecOf q.elem (if q.latent then q.elems else 2 * q.elems) r.data r.scales

/-- The key elements of a record: all of a latent one, the first d_h of a plain one. -/
def keyVec (q : Seqd) (v : Vec) : Vec := { v with vals := v.vals.take q.elems }

/-- Value element `i` of a record. -/
def valueAt (q : Seqd) (v : Vec) (i : Nat) : Dy := v.get (if q.latent then i else q.elems + i)

/-- Value elements of a record. -/
def valueDim (q : Seqd) (p : List Byte) : Nat := if q.latent then q.elems - Prm.rope p else q.elems

/-- Whether cache position `x` is visible to query position `j` (R269). -/
def visible (q : Seqd) (p : List Byte) (j x : Nat) : Bool :=
  let limit : Int := (Prm.pos p : Int) - Prm.npos p + 1 + j
  (if Prm.causal p then decide ((x : Int) < limit) else decide (x < Prm.pos p)) &&
  (!Prm.windowed p || decide (limit - Prm.window p ≤ (x : Int)) || decide (x < q.sinks))

/-- x_i of R271: the masked, scaled and capped score in log2 units. -/
def scoreOf (p : List Byte) (qv kv : Vec) : Nat :=
  let s := F32.mul .near (Prm.scale p) (dot qv kv)
  let s := if Prm.softcapped p then F32.mul .near (Prm.softcap p) (tanhOf (F32.div .near s (Prm.softcap p))) else s
  F32.mul .near s F32.log2e

/-- A partial over no position (R272). -/
def Part.empty (d : Nat) : Part := { m := F32.negInf, l := 0, o := List.replicate d 0 }

/-- One visible position added to l and o. -/
def addPosition (q : Seqd) (mNew : Nat) (a : Part) (x : Nat × Vec) : Part :=
  let p := F32.ofBf16 (F32.toBf16 (exp2Of (F32.sub .near x.1 mNew)))
  { a with
    l := F32.add .near a.l p
    o := a.o.zipIdx.map (fun e => F32.add .near e.1 (roundTo 24 .near ((F32.dy p).mul (valueAt q x.2 e.2)))) }

/-- One group of received positions: scores and record vectors of those that are visible. -/
def addGroup (q : Seqd) (a : Part) (g : List (Nat × Vec)) : Part :=
  if g.isEmpty then a
  else
    let mNew := g.foldl (fun m x => F32.max m x.1) a.m
    let f := if a.m = F32.negInf then 0 else exp2Of (F32.sub .near a.m mNew)
    let a := { m := mNew, l := F32.mul .near a.l f, o := a.o.map (F32.mul .near f) }
    g.foldl (addPosition q mNew) a

/-- A list in groups of `n`. -/
def groupsOf {α : Type} : Nat → Nat → List α → List (List α)
  | 0, _, _ => []
  | f + 1, n, l => if l.isEmpty then [] else l.take n :: groupsOf f n (l.drop n)

/-- The partial of one head vector over the records a tile received, in groups of 32 consecutive ones (R271). -/
def scorePart (q : Seqd) (c : Coach) (j h : Nat) (recs : List Rec) : Part :=
  let qv := scoreVec q c j h
  let mine := fun (r : Rec) => visible q c.params j r.pos && (q.latent || r.head == h / max 1 (Prm.heads c.params / max 1 q.kv))
  let group := fun (g : List Rec) => (g.filter mine).map (fun r => let v := recordVec q r; (scoreOf c.params qv (keyVec q v), v))
  ((groupsOf (recs.length + 1) 32 recs).map group).foldl (addGroup q) (Part.empty (valueDim q c.params))

/-! ### Tiles (R275, R276) -/

/-- Each record with the number of its 8-position block: no block crosses a page. -/
def blocksFrom : Nat → Option (Nat × Nat) → List Rec → List (Nat × Rec)
  | _, _, [] => []
  | n, last, r :: rest =>
    let key := (r.head, r.pos / 8)
    let n := match last with
      | none => n
      | some k => if k = key then n else n + 1
    (n, r) :: blocksFrom n (some key) rest

/-- The records of a half's stream, with their blocks. -/
def halfBlocks (c : Coach) (half : Nat) : List (Nat × Rec) :=
  blocksFrom 0 none ((c.stream.filter (fun e => e.1 == half)).map Prod.snd)

/-- The heads that a tile of rank `r` among `t` scores. -/
def rankHeads (q : Seqd) (c : Coach) (t r : Nat) : List Nat :=
  let hs := Prm.heads c.params
  if q.latent then
    let d := divideHeads hs t
    if d.2.2 * d.2.1 ≤ r then []
    else (List.range hs).filter (fun h => decide (d.1 * (r / d.2.1) ≤ h) && decide (h < d.1 * (r / d.2.1 + 1)))
  else List.range hs

/-- The records that a tile of rank `r` among `t` takes. -/
def rankRecs (q : Seqd) (c : Coach) (half t r : Nat) : List Rec :=
  let pc := if q.latent then max 1 (divideHeads (Prm.heads c.params) t).2.1 else max 1 t
  ((halfBlocks c half).filter (fun b => b.1 % pc == r % pc)).map Prod.snd

/-- What a tile holds once it has finished scoring: a partial for each head vector it scores. -/
def tileParts (q : Seqd) (c : Coach) (half t r : Nat) : List (Nat × Part) :=
  let recs := rankRecs q c half t r
  (List.range (Prm.npos c.params)).flatMap (fun j => (rankHeads q c t r).map (fun h =>
    (j * Prm.heads c.params + h, scorePart q c j h recs)))

/-! ### Merges (R273, R277, R282, R283) -/

/-- Two partials merged, `a` the earlier (R273). -/
def mergeParts (a b : Part) : Part :=
  let m := F32.max a.m b.m
  if m = F32.negInf then a
  else
    let fa := exp2Of (F32.sub .near a.m m)
    let fb := exp2Of (F32.sub .near b.m m)
    { m := m
      l := F32.add .near (F32.mul .near a.l fa) (F32.mul .near b.l fb)
      o := (a.o.zip b.o).map (fun x => F32.add .near (F32.mul .near x.1 fa) (F32.mul .near x.2 fb)) }

/-- One level of the tree over ranks: adjacent ranks merge, the lower first. -/
def mergeLevel : List Part → List Part
  | a :: b :: r => mergeParts a b :: mergeLevel r
  | l => l

/-- The tree over ranks; `fuel` bounds its levels. -/
def mergeTree : Nat → List Part → Option Part
  | _, [] => none
  | _, [a] => some a
  | 0, a :: _ => some a
  | f + 1, l => mergeTree f (mergeLevel l)

/-- The partials of a half's tiles merged, head vector by head vector, in ascending rank. -/
def mergeHalf (c : Coach) (tiles : List (List (Nat × Part))) : List (Nat × Part) :=
  (List.range (Prm.npos c.params * Prm.heads c.params)).filterMap (fun i =>
    let ps := tiles.filterMap (look i)
    (mergeTree ps.length ps).map (fun p => (i, p)))

/-- The partials of two halves merged, `a` first; a head vector that one half lacks takes the other's. -/
def mergeHalves (a b : List (Nat × Part)) : List (Nat × Part) :=
  a.map (fun x => (x.1, match look x.1 b with | some y => mergeParts x.2 y | none => x.2)) ++ b.filter (fun x => !has x.1 a)

/-! ### Value expansion (R280) -/

/-- o_h = L_h · V_h with L_h in BF16 and FP32 accumulation, row by row. -/
def expandPart (v : Weight) (h : Nat) (p : Part) : Part :=
  let rows := (List.range v.latent).map (fun i => (F32.ofBf16 (F32.toBf16 (nth 0 p.o i)), weightRow v h i))
  { p with o := (List.range v.dim).map (fun d => rows.foldl (fun acc r =>
      F32.add .near acc (roundTo 24 .near ((F32.dy r.1).mul (r.2.get d)))) 0) }

/-- The node partial from the merged partials: one record for each query position and head (R274). -/
def nodeParts (q : Seqd) (c : Coach) (v : Option Weight) (m : List (Nat × Part)) : List Part :=
  (headPairs c).map (fun x =>
    let p := lookD (x.1 * Prm.heads c.params + x.2) (Part.empty (valueDim q c.params)) m
    match v with
    | some w => expandPart w x.2 p
    | none => p)

/-- Positions that the last query position attends. -/
def attended (q : Seqd) (c : Coach) : Nat :=
  let j := Prm.npos c.params - 1
  ((c.stream.map (fun e => e.2.pos)).filter (visible q c.params j)).foldl (fun acc x => addSet x acc) [] |>.length

end Sys2Proof.Machine
end

