-- ==== Sys2Proof/Machine/Persist.lean ====
section
/-! DEFINITION. The persistence record and its rotation over the flash areas (R550 to R552, R571 to R574, R601). -/

namespace Sys2Proof.Machine

open Sys2Proof

/-- A record that carries nothing yet. -/
def Persist.empty : Persist :=
  { seqNo := 0, valid := false, clean := false, ring := [], next := 0, retiredFrames := [], current := [],
    retiredSlots := [], digest := [], tiles := [], hbmTrims := [], foxTrims := [], serTrims := [], results := none,
    failed := [] }

/-- The values last taken. -/
def State.persisted (s : State) : Persist := s.start.persist.getD Persist.empty

/-! ### The sensors that trims name (Table MON-1) -/

def stackSensor (st : Nat) : Nat := 24 * (st / 8) + 12 + st % 8 / 2
def serSensor (u : Nat) : Nat :=
  if u < 8 then 24 * (u / 4) + 16 + u % 4 / 2 else if u < 10 then 24 * (u - 8) + 19 else 24 * ((u - 10) / 2) + 18

/-- The included monitor of a half whose number is nearest to `i` of `n` (R561); `i` itself where none is included. -/
def nearest (n i : Nat) (included : Nat → Bool) : Nat :=
  ((leastBy (fun j => max i j - min i j) ((List.range n).filter included))).getD i

/-- TSENS of a macro: one Fox sensor per four blocks (Table MON-1). -/
def foxTsens (s : State) (m : Nat) : Nat :=
  nearest 24 (8 + m % 1024 / 256) (fun i => s.rg .MON_TEMP_EXCLUDED (24 * (m / 1024) + i) == 0)

/-- VMON of a macro: the Fox analogue rail (Table MON-1). -/
def foxVmon (s : State) (m : Nat) : Nat := nearest 12 10 (fun i => s.rg .MON_VOLT_EXCLUDED (12 * (m / 1024) + i) == 0)

def foxSensor (s : State) (m : Nat) : Nat := 24 * (m / 1024) + foxTsens s m

/-- The last reading of a temperature sensor, in 0.125 °C. -/
def State.temp (s : State) (i : Nat) : Int := signed 12 (s.rg .MON_TEMP_VALUE i)

/-! ### What a shutdown record takes (R550) -/

/-- The fields of a macro's column corrections, for each four columns. -/
def colFields : List RN :=
  [.FOX_M_COL_GAIN_COL0, .FOX_M_COL_GAIN_COL1, .FOX_M_COL_GAIN_COL2, .FOX_M_COL_GAIN_COL3, .FOX_M_COL_OFF_COL0,
   .FOX_M_COL_OFF_COL1, .FOX_M_COL_OFF_COL2, .FOX_M_COL_OFF_COL3]

/-- The trims of one macro: offset, gain, temperature coefficients, column corrections. -/
def foxTrimBytes (s : State) (m : Nat) : List Byte :=
  leBytes 1 (s.rg .FOX_M_ADC_OFFSET m) ++ leBytes 2 (s.rg .FOX_M_ADC_GAIN m) ++ leBytes 2 (s.rg .FOX_M_TCOMP_ALPHA_T m) ++
  leBytes 2 (s.rg .FOX_M_TCOMP_ALPHA_V m) ++
  (List.range 32).flatMap (fun i => colFields.flatMap (fun r => leBytes 1 (s.rg r (32 * m + i))))

/-- Stored Fox trims put back into a macro's registers. -/
def foxTrimLoad (m : Nat) (b : List Byte) (s : State) : State :=
  let s := s |> setRg .FOX_M_ADC_OFFSET m (u8 b 0) |> setRg .FOX_M_ADC_GAIN m (u16 b 1)
    |> setRg .FOX_M_TCOMP_ALPHA_T m (u16 b 3) |> setRg .FOX_M_TCOMP_ALPHA_V m (u16 b 5)
  forEach (List.range 32) (fun i s =>
    forEach colFields.zipIdx (fun r s => setRg r.1 (32 * m + i) (u8 b (7 + 8 * i + r.2)) s) s) s

/-- The four equaliser fields of a unit's lanes: fabric links 0–7, Onzon ports 8–9. -/
def serTrimBytes (s : State) (u : Nat) : List Byte :=
  if u < 8 then (List.range 9).flatMap (fun i => [RN.PRT_X_EQ_CTLE, .PRT_X_EQ_DFE1, .PRT_X_EQ_TX_PRE,
    .PRT_X_EQ_TX_POST].flatMap (fun r => leBytes 1 (s.rg r (9 * u + i))))
  else if u < 10 then (List.range 8).flatMap (fun i => [RN.QUE_ONZ_EQ_CTLE, .QUE_ONZ_EQ_DFE1, .QUE_ONZ_EQ_TX_PRE,
    .QUE_ONZ_EQ_TX_POST].flatMap (fun r => leBytes 1 (s.rg r (8 * (u - 8) + i))))
  else if u = 14 then leBytes 1 (s.rg .OWL_X_CASCADE_SAMPLE 0)
  else []

/-- Stored SerDes trims put back into the registers. -/
def serTrimLoad (u : Nat) (b : List Byte) (s : State) : State :=
  if u < 8 then forEach (List.range 9) (fun i s => s |> setRg .PRT_X_EQ_CTLE (9 * u + i) (u8 b (4 * i))
    |> setRg .PRT_X_EQ_DFE1 (9 * u + i) (u8 b (4 * i + 1)) |> setRg .PRT_X_EQ_TX_PRE (9 * u + i) (u8 b (4 * i + 2))
    |> setRg .PRT_X_EQ_TX_POST (9 * u + i) (u8 b (4 * i + 3))) s
  else if u < 10 then forEach (List.range 8) (fun i s => s
    |> setRg .QUE_ONZ_EQ_CTLE (8 * (u - 8) + i) (u8 b (4 * i)) |> setRg .QUE_ONZ_EQ_DFE1 (8 * (u - 8) + i) (u8 b (4 * i + 1))
    |> setRg .QUE_ONZ_EQ_TX_PRE (8 * (u - 8) + i) (u8 b (4 * i + 2))
    |> setRg .QUE_ONZ_EQ_TX_POST (8 * (u - 8) + i) (u8 b (4 * i + 3))) s
  else if u = 14 then setRg .OWL_X_CASCADE_SAMPLE 0 (u8 b 0) s
  else s

/-- The physical tile numbers: the half in [6], the tile within the half in [5:0] (R263). -/
def physTiles : List Nat := List.range 34 ++ (List.range 34).map (fun t => t + 64)

/-- The logical index that a physical tile serves; 64 where it serves none. -/
def tileLogical (s : State) (t : Nat) : Nat := (firstBelow 64 (fun l => s.rg .BEAR_MAP_PHYS l == t)).getD 64

/-- The values a shutdown takes: tile map, HBM, Fox and SerDes trims, each with FT and temperature. -/
def takeTrims (s : State) (p : Persist) : Persist :=
  { p with
    tiles := physTiles.map (fun t => (t, (s.rg .BEAR_T_STAT_STATE t, tileLogical s t)))
    hbmTrims := s.mem.trained.map (fun k => (k, ⟨s.ft, s.temp (stackSensor k), (lookD k ⟨0, 0, []⟩ p.hbmTrims).value⟩))
    foxTrims := (keys s.fox.macros).map (fun m => (m, ⟨s.ft, s.temp (foxSensor s m), foxTrimBytes s m⟩))
    serTrims := (List.range 15).map (fun u => (u, ⟨s.ft, s.temp (serSensor u), serTrimBytes s u⟩)) }

/-- The record as it stands: the items taken every time, and, at shutdown, those taken then (R550). -/
def snapshot (full clean : Bool) (s : State) : Persist :=
  let p := s.persisted
  let p := { p with
    valid := true
    clean := clean
    ring := s.evr.ring
    next := s.evr.next
    retiredFrames := s.seq.retired
    current := s.sec.current
    retiredSlots := s.sec.retired
    digest := if s.comp.image.isSome then s.im.digest else p.digest }
  if full then takeTrims s p else p

/-! ### Writing (R572, R601) -/

/-- Sequence number of the newest valid record, and the area that holds it. -/
def newestArea (s : State) : Option (Nat × Persist) :=
  mostBy (fun e => e.2.seqNo + 1) (s.sec.flash.areas.filter (fun e => e.2.valid))

/-- The area the next record goes to: the first after the newest valid record's that has not failed. -/
def nextArea (s : State) : Nat :=
  let at_ := match s.start.area with | some a => a | none => 31
  (((List.range 32).map (fun i => (at_ + 1 + i) % 32)).filter (fun a => decide (a ∉ s.start.badAreas))).headD 0

/-- A record's writing begins: its area is erased and the record taken as it stands. -/
def persistBegin (purpose : Nat) (p : Persist) (s : State) : State :=
  let a := nextArea s
  let p := { p with seqNo := s.persisted.seqNo + 1 }
  s |> onSec (fun x => { x with flash := { x.flash with areas := del a x.flash.areas } })
    |> onStart (fun x => { x with writing := some (a, p, purpose, s.ft) })

/-- A record's writing ends: valid, or its area skipped and 0x0E04 recorded. -/
def persistEnd (ok : Bool) (s : State) : State :=
  match s.start.writing with
  | none => s
  | some (a, p, _, ft) =>
    let s := onStart (fun x => { x with writing := none }) s
    if ok then
      s |> onSec (fun x => { x with flash := { x.flash with areas := put a p x.flash.areas } })
        |> onStart (fun x => { x with area := some a, persist := some p })
        |> setRg .EVR_PERSIST_FT_LO_FT_LO 0 ft |> setRg .EVR_PERSIST_FT_HI_FT_HI 0 (ft / 2 ^ 32)
    else s |> onStart (fun x => { x with badAreas := addSet a x.badAreas }) |> raise 0x0E04 none []

end Sys2Proof.Machine
end

