-- ==== Sys2Proof/Machine/Spare.lean ====
section
/-! DEFINITION. Spare tiles: SRAM errors, shadows and takeover (R263, R265, R287 to R291). -/

namespace Sys2Proof.Machine

open Sys2Proof

/-- The physical numbers of the spares, in the order of BEAR_STATUS.SHADOWING. -/
def sparePhys (k : Nat) : Nat := nth 32 [32, 33, 96, 97] k

/-- STATE of a physical tile: 0 ACTIVE, 1 SPARE, 2 SHADOWING, 3 RETIRED, 4 FAILED. -/
def State.tileSt (s : State) (t : Nat) : Nat := s.rg .BEAR_T_STAT_STATE t

def setTileSt (t v : Nat) (s : State) : State := setRg .BEAR_T_STAT_STATE t v s

/-- The shadow that spare `t` runs. -/
def State.shadow (s : State) (t : Nat) : Option Shadow := look t s.fox.shadows

def setShadow (t : Nat) (x : Shadow) (s : State) : State := onFox (fun f => { f with shadows := put t x f.shadows }) s

/-- The result register of the port that started a shadow. -/
def shadowResult (port : Option Nat) (outcome status : Nat) (s : State) : State :=
  whenSome port (fun p s => s |> setRg .BEAR_SPARE_RESULT_OUTCOME p outcome |> setRg .BEAR_SPARE_RESULT_STATUS p status
    |> setRg .BEAR_SPARE_RESULT_DONE p 1) s

/-- A shadow ends with an outcome; the spare's state is `st` from then on. -/
def shadowEnd (t outcome st : Nat) (s : State) : State :=
  match s.shadow t with
  | none => s
  | some x =>
    s |> onFox (fun f => { f with shadows := del t f.shadows }) |> setTileSt t st |> shadowResult x.port outcome Status.ok

/-- A shadow stopped (R291): cause 0 STOP, 1 handover, 2 carriage invalid (event 0x0609). -/
def shadowStopped (t cause : Nat) (s : State) : State :=
  if (s.shadow t).isSome then s |> shadowEnd t 3 1 |> raise 0x0609 none [(1, cause)] else s

/-- A shadow of a logical tile begins on a spare (R288, event 0x0602: 0 automatic, 1 register). -/
def shadowBegin (t tile cause : Nat) (port : Option Nat) (s : State) : State :=
  s |> setTileSt t 2 |> setRg .BEAR_T_STAT_COMPARED t 0 |> setRg .BEAR_T_MISMATCH_COUNT t 0
    |> setShadow t { tile := tile, step := 1, port := port, since := s.ft, outcome := 0 }
    |> raise 0x0602 none [(1, t), (1, tile), (1, cause)]

/-- Whether a working tile may be shadowed: ACTIVE and owned by a valid carriage (R287). -/
def shadowable (s : State) (tile : Nat) : Bool := s.tileSt (s.rg .BEAR_MAP_PHYS tile) == 0 && (s.owner (.tile tile)).isSome

/-- A port's result register reports its new START or STOP from now on, and no earlier shadow (R296). -/
def forgetPort (p : Nat) (s : State) : State :=
  onFox (fun f => { f with shadows := f.shadows.map (fun e => if e.2.port = some p then (e.1, { e.2 with port := none }) else e) }) s

/-- SHADOW_START: BEAR_SPARE_CTRL.START. -/
def shadowStart (p : Nat) (s : State) : State :=
  expertDo p 6 0x680000 (fun s =>
    let s := forgetPort p s
    let tile := s.rg .BEAR_SPARE_CTRL_TILE 0
    let t := 64 * (tile / 32) + 32 + s.rg .BEAR_SPARE_CTRL_SPARE 0
    if s.tileSt t = 1 ∧ shadowable s tile then
      s |> shadowBegin t tile 1 (some p) |> setRg .BEAR_SPARE_RESULT_OUTCOME p 0
        |> setRg .BEAR_SPARE_RESULT_STATUS p Status.ok |> setRg .BEAR_SPARE_RESULT_DONE p 0
    else shadowResult (some p) 0 Status.badCommand s) s

def execShadowStart (p : Port) (s : State) : Result := done (live (access p.idx 0x680000 (shadowStart p.idx)) s)

/-- SHADOW_STOP: BEAR_SPARE_CTRL.STOP. With no shadow on the spare it stops none, and reports outcome 3 (assumption 18). -/
def shadowStop (p : Nat) (s : State) : State :=
  expertDo p 6 0x680000 (fun s =>
    let t := 64 * (s.rg .BEAR_SPARE_CTRL_TILE 0 / 32) + 32 + s.rg .BEAR_SPARE_CTRL_SPARE 0
    s |> forgetPort p |> shadowStopped t 0 |> shadowResult (some p) 3 Status.ok) s

def execShadowStop (p : Port) (s : State) : Result := done (live (access p.idx 0x680000 (shadowStop p.idx)) s)

/-! ### Errors in tile SRAM (R265, R287, R289) -/

/-- The coach whose work a carriage's tiles run now: the first in order among those whose window is open. -/
def runningCoach (s : State) (c : Nat) : Option (Nat × Coach) :=
  (s.fox.coaches.filter (fun e => e.2.car == c && e.2.open_ && !(e.2.cmd.any (isScore s)))).foldl (fun acc e =>
    match acc with
    | none => some e
    | some a => if runsBefore e.2 e.1 a.2 a.1 then some e else some a) none

/-- An error that cannot be corrected ends the coach that reads the tile (event 0x0601). -/
def tileUncorr (t tile : Nat) (s : State) : State :=
  match (s.owner (.tile tile)).bind (runningCoach s) with
  | none => s
  | some (id, c) =>
    s |> raise 0x0601 (some c.car) [(1, t), (4, c.seq), (2, c.layer)] |> bump .BEAR_C_UNCORR_COUNT c.car 1
      |> failCoach id Status.uncorrectable 0 0

/-- The shadows of a logical tile. -/
def shadowsOf (s : State) (tile : Nat) : List (Nat × Shadow) := s.fox.shadows.filter (fun e => e.2.tile == tile)

/-- A shadow whose spare must pass the KAT before the carriage's next coach (R289, event 0x0603). -/
def shadowDoubt (c : Option Coach) (car : Option Nat) (e : Nat × Shadow) (s : State) : State :=
  s |> setShadow e.1 { e.2 with step := 6 }
    |> raise 0x0603 car [(1, e.1), (4, (c.map (fun c => c.seq)).getD 0), (2, (c.map (fun c => c.layer)).getD 0)]

/-- An error that cannot be corrected in the working tile, in step 4 of its shadows (R289). -/
def shadowMismatch (tile : Nat) (s : State) : State :=
  let car := s.owner (.tile tile)
  let c := (car.bind (runningCoach s)).map Prod.snd
  forEach ((shadowsOf s tile).filter (fun e => e.2.step == 4)) (shadowDoubt c car) s

/-- Corrected errors of a physical tile in the running frame, with one more. -/
def tileCorrected (s : State) (t : Nat) : Nat :=
  match look t s.fox.tileCorr with
  | some (f, n) => if f = s.frame then n + 1 else 1
  | none => 1

/-- The automatic start of a shadow (R287, event 0x0606). -/
def autoShadow (tile : Nat) (s : State) : State :=
  if s.rg .BEAR_CTRL_AUTO_SPARE 0 = 0 ∨ shadowable s tile = false ∨ !(shadowsOf s tile).isEmpty then s
  else
    let h := 64 * (tile / 32)
    match [h + 32, h + 33].find? (fun t => s.tileSt t == 1) with
    | some t => shadowBegin t tile 0 none s
    | none => raise 0x0606 none [] s

/-- AUTO_SHADOW_START: a SECDED error in the SRAM of a physical tile, with all that follows from it. -/
def tileError (t : Nat) (uncorrectable : Bool) (s : State) : State :=
  let tile := tileLogical s t
  let active := s.tileSt t == 0 && decide (tile < 64)
  if uncorrectable then
    s |> bump .BEAR_T_ECC_UNCORR t 1
      |> when active (fun s => s |> shadowMismatch tile |> tileUncorr t tile |> autoShadow tile)
  else
    let n := tileCorrected s t
    s |> bump .BEAR_T_ECC_CORR t 1 |> onFox (fun f => { f with tileCorr := put t (s.frame, n) f.tileCorr })
      |> when (active && decide (s.rg .BEAR_SPARE_TRIG_CORR 0 < n)) (autoShadow tile)

def execAutoShadowStart (t : Fin 68) (uncorrectable : Bool) (s : State) : Result :=
  done (live (tileError (t.val / 34 * 64 + t.val % 34) uncorrectable) s)

/-! ### The steps of a shadow (R288 to R290) -/

/-- The spare's KAT ends (R288 steps 1 to 3, R289). -/
def shadowKat (t : Nat) (ok : Bool) (s : State) : State :=
  match s.shadow t with
  | none => s
  | some x =>
    if x.step ≠ 1 ∧ x.step ≠ 6 then s
    else if ok = false then s |> shadowEnd t 2 4 |> raise 0x0605 none []
    else if x.step = 1 then setShadow t { x with step := 4, since := s.ft } s
    else setShadow t { x with step := 5, outcome := 4 } s

def execShadowKatDone (k : Fin 4) (ok : Bool) (s : State) : Result := done (live (shadowKat (sparePhys k.val) ok) s)

/-- COUNT in force. -/
def shadowCount (s : State) : Nat := let n := s.rg .BEAR_SHADOW_CFG_COUNT 0; if n = 0 then 1024 else n

/-- A coach compared by one shadow (R288 step 4). Both tiles compute the same bits (R261); whether a defect of one of them shows
in this compare is a free value (assumption 11). -/
def compareOne (c : Coach) (e : Nat × Shadow) (s : State) : State :=
  if e.2.step = 4 ∧ e.2.since < c.depart then
    let same := decide (freeNow s % 2 = 0)
    let s := s |> freeTaken |> bump .BEAR_T_STAT_COMPARED e.1 1
    if same = false then s |> bump .BEAR_T_MISMATCH_COUNT e.1 1 |> shadowDoubt (some c) (some c.car) e
    else if shadowCount s ≤ s.rg .BEAR_T_STAT_COMPARED e.1 then setShadow e.1 { e.2 with step := 5, outcome := 1 } s
    else s
  else s

/-- A coach compared by every shadow of a tile that does its work. -/
def compareShadows (c : Coach) (s : State) : State :=
  forEach (s.fox.shadows.filter (fun e => decide (e.2.tile ∈ c.own))) (compareOne c) s

/-- Whether a carriage's tiles hold work of a coach. -/
def tilesBusy (s : State) (c : Nat) : Bool :=
  s.fox.coaches.any (fun e => e.2.car == c && e.2.open_ && e.2.begun)

/-- TAKEOVER (R290, event 0x0604): between coaches. -/
def takeover (t : Nat) (s : State) : State :=
  match s.shadow t with
  | none => s
  | some x =>
    if x.step ≠ 5 ∨ (s.owner (.tile x.tile)).any (tilesBusy s) then s
    else
      let old := s.rg .BEAR_MAP_PHYS x.tile
      s |> shadowEnd t x.outcome 0 |> setRg .BEAR_MAP_PHYS x.tile t |> setTileSt old 3
        |> raise 0x0604 none [(1, x.tile), (1, old), (1, t)]

def execTakeover (k : Fin 4) (s : State) : Result := done (live (takeover (sparePhys k.val)) s)

end Sys2Proof.Machine
end

