-- ==== Sys2Proof/Machine/Bear.lean ====
section
/-! DEFINITION. A coach's work on the node after its selection: weight windows, tail wait, gather, absorption, scoring,
merges, expansion and result (R195 to R197, R212, R224, R275 to R283, R306, R310, R333), and BEAR_ATTN (R293, R294). -/

namespace Sys2Proof.Machine

open Sys2Proof

/-! ### Weight windows (R224, R264) -/

/-- The windows of a logical tile. -/
def windowsOf (s : State) (t : Nat) : List (Nat × Nat × Nat) := lookD t [] s.seq.windows

def setWindows (t : Nat) (w : List (Nat × Nat × Nat)) (s : State) : State :=
  onSeq (fun x => { x with windows := put t w x.windows }) s

/-- A weight set loaded into the window that does not hold `keep`. -/
def loadWindow (key keep : Nat × Nat × Nat) (t : Nat) (s : State) : State :=
  let w := windowsOf s t
  if key ∈ w then s
  else setWindows t (key :: (if keep ∈ w then [keep] else w.take 1)) s

/-- The next layer's weights fetched for a coach that is accepted (R224). -/
def prefetch (c : Coach) (q : Seqd) (s : State) : State :=
  let next := (c.layer + 1) % max 1 q.layers
  if q.latent ∧ s.rg .BDG_CTRL_PREFETCH 0 = 1 ∧ (coachWeights s c.car q next).isSome then
    forEach c.own (loadWindow (c.car, q.mclass, next) (c.car, q.mclass, c.layer)) s
  else s

/-- The windows at the start of a coach: its own layer's weights, or none of them for a plain coach (R224, R264). -/
def openWindows (c : Coach) (q : Seqd) (s : State) : State :=
  let key := (c.car, q.mclass, c.layer)
  if q.latent then
    let miss := c.own.any (fun t => decide (key ∉ windowsOf s t))
    let s := when miss (fun s => s |> bump .BDG_C_WMISS_COUNT c.car 1 |> raiseCar 0x0404 c.car []) s
    forEach c.own (loadWindow key key) s
  else forEach c.own (fun t => setWindows t []) s

/-- The weights of a coach put in use; a coach's number counts as their user (R223). -/
def useWeights (id : Nat) (w : Option (Nat × Nat)) (s : State) : State :=
  whenSome w (fun w s => onSeq (fun x => { x with weights := x.weights.map (fun e =>
    if e.1 = w.1 ∨ e.1 = w.2 then (e.1, { e.2 with users := addSet id e.2.users }) else e) }) s) s

/-- A coach taken into the node with its weights (R223 to R225). -/
def acceptCoach (c : Coach) (q : Seqd) (s : State) : State :=
  let w := if q.latent then (coachWeights s c.car q c.layer).map (fun w => (w.1.1, w.2.1)) else none
  s |> useWeights s.fox.nextCoach w |> addCoach { c with weights := w } |> prefetch c q

/-- A coach starts: the seal jobs that its tiles may run until the next one are counted anew (R286, BEAR_SEAL). -/
def startCoach (id : Nat) (c : Coach) (q : Seqd) (s : State) : State :=
  s |> setCoach id { c with open_ := true } |> onFox (fun f => { f with sealJobs := f.sealJobs.filter (fun e => decide (e.1 ∉ c.own)) })
    |> openWindows c q |> bump .BEAR_C_COACHES_COUNT c.car 1

/-! ### The tail wait (R306) -/

/-- The first position below `m` that the placement puts here and that is not written in a layer. -/
def firstMissing (s : State) (seq : Nat) (q : Seqd) (layer m : Nat) : Option Nat :=
  let r := layerOf s seq q layer
  let short := fun (k : Nat) =>
    let base := ordinalOf s q layer k * q.p
    let view := if k < r.ordinals then viewOf q r k else 0
    if base + view < m ∧ view < q.p then some (base + view) else none
  leastBy id ((List.range (ordinalsBelow s q layer m)).filterMap short)

/-- The first position that a coach's gather waits for. -/
def tailGap (s : State) (c : Coach) (q : Seqd) : Option Nat :=
  firstMissing s c.seq q c.layer (min (Prm.pos c.params) q.freeze)

/-- Pages added since the selection: unsealed then, so always included (R177, R241), and in exact mode candidates where
they hold a position below POS (R244). -/
def lateCands (s : State) (c : Coach) (q : Seqd) : List Cand :=
  let late := (seenPages s c q).filter (fun e => decide (e.leaf ∉ c.walked))
  if exactCoach s c then exactCands s c q late else late.map (fun e => candOf true e [])

/-- A candidate with the page that its leaf entry names now (R196). -/
def refreshed (s : State) (c : Coach) (q : Seqd) (x : Cand) : Cand :=
  match look x.leaf (layerOf s c.seq q c.layer).leaves with
  | some l => { x with page := l.page }
  | none => x

/-- What a gather reads, from the leaf entries as they stand when it starts: always-included pages first, in ascending
ordinal, then the selected ones; in exact mode all in ascending ordinal (R196, R242, R285, R306; log entry 34). -/
def gatherCands (s : State) (c : Coach) (q : Seqd) : List Cand :=
  let old := (c.cands.getD []).map (refreshed s c q)
  let late := lateCands s c q
  if exactCoach s c then sortBy (fun x => x.leaf) (old ++ late)
  else old.filter (fun x => x.always) ++ late ++ old.filter (fun x => !x.always)

/-- Candidates by the half whose Badger reads them (R195). R21 and R482 give a page to the tiles of its half, and a carriage need
not own any on the half of its CXL range: the records of such a page reach no tile (DESIGN CHOICE, assumption 36). -/
def readsOf (s : State) (c : Coach) (cs : List Cand) : List (Nat × Cand) :=
  (cs.filterMap (fun x => (look x.page s.seq.pages).map (fun g => (locHalf s g.loc, x)))).filter (fun x => !(c.on x.1).isEmpty)

/-! ### Page reads (R195 to R197, R212, R333) -/

/-- The records of a candidate in ascending position: the occupied bytes of its slots, with their scales. -/
def candRecs (s : State) (c : Coach) (q : Seqd) (x : Cand) (g : Page) : List Rec :=
  let base := basePos s q c.layer x.leaf
  (List.range (candSlots s c q x g)).map (fun i =>
    { pos := base + i, head := x.leaf % max 1 q.kv, data := pageSlice s g (i * q.slot s.im) q.occ,
      scales := pageSlice s g (s.im.dataArea + i * q.scale s.im) (q.scale s.im) })

/-- A page read by a coach: its AGE, and, in TIER 1, its count and its promotion (R333, R335, R337). -/
def pageRead (c : Coach) (q : Seqd) (p : Nat) (g : Page) (s : State) : State :=
  let s := onPage p (fun g => { g with age := 0 }) s
  if g.loc.isCxl then
    let home := (layerOf s c.seq q c.layer).home
    s |> bump .BDG_PARK_C_T1READ_COUNT c.car 1
      |> onPark (fun k => { k with toPromote := if (k.toPromote.map Prod.fst).contains p then k.toPromote else k.toPromote ++ [(p, home)] })
  else s

/-- A page's slots read for a coach, once the page may be read: its records, or the status that ends the coach. -/
def fetchSlots (c : Coach) (q : Seqd) (x : Cand) (g : Page) (s : State) : Except Nat (List Rec) × State :=
  let n := candSlots s c q x g
  let s := noteSlots q g n s
  if slotsReadable s q g n = false then (.error Status.uncorrectable, s)
  else if g.comp ∧ g.sealed_ ∧ pageDigest s g ≠ g.digest then (.error Status.uncorrectable, digestFail x.page c.car 0x81 s)
  else (.ok (candRecs s c q x g), pageRead c q x.page g s)

/-- A candidate read for a coach: its records, or the status that ends the coach. -/
def fetchCand (c : Coach) (q : Seqd) (x : Cand) (s : State) : Except Nat (List Rec) × State :=
  match look x.page s.seq.pages with
  | none => (.error Status.uncorrectable, s)
  | some g =>
    match pageFault s g with
    | some st => (.error st, s |> noteKey st (some g) c.car |> when (st == Status.claimed) (refuseBuffer c.car))
    | none => fetchSlots c q x g s

/-- The CXL reads of a coach's TIER 1 candidates, in order: their records are held until it is their turn (R333). -/
def readAhead (id : Nat) (q : Seqd) : List Cand → State → State
  | [], s => s
  | x :: r, s =>
    match s.coach id with
    | none => s
    | some c =>
      match fetchCand c q x s with
      | (.ok rs, s) => readAhead id q r (setCoach id { c with ahead := c.ahead ++ [(x.leaf, rs)] } s)
      | (.error st, s) => failCoach id st 0 0 s

/-- The candidates of a list that lie in TIER 1. -/
def inTier1 (s : State) (cs : List (Nat × Cand)) : List Cand :=
  (cs.map Prod.snd).filter (fun x => (look x.page s.seq.pages).any (fun g => g.loc.isCxl))

/-- GATHER_START (R305, R306): in the order of departure, once the tail is written; a wait is counted once. The CXL reads of
the TIER 1 candidates go out at once (R333). -/
def gatherStart (id : Nat) (s : State) : State :=
  withCoach id (fun c q s =>
    if c.gather ∨ c.cands.isNone ∨ c.cmd.any (isScore s) ∨ waitsFor s id c gatherLeft then s
    else
      match tailGap s c q with
      | none =>
        let cs := gatherCands s c q
        let reads := readsOf s c cs
        s |> setCoach id { c with gather := true, cands := some cs, toRead := reads } |> readAhead id q (inTier1 s reads)
      | some _ =>
        if c.tailWaited then s
        else s |> setCoach id { c with tailWaited := true } |> bump .PRT_DEP_C_TAILWAIT_COUNT c.car 1) s

def execGatherStart (id : Nat) (s : State) : Result := done (live (gatherStart id) s)

/-- A candidate's records given to the tiles of a half. -/
def deliver (id : Nat) (c : Coach) (half : Nat) (x : Cand) (rs : List Rec) (s : State) : State :=
  setCoach id { c with toRead := c.toRead.erase (half, x), ahead := del x.leaf c.ahead, stream := c.stream ++ rs.map (fun r => (half, r)) } s

/-- PAGE_READ_ISSUE: the next page of a half goes out, where the gather ring has room for it (R197); one of TIER 1 has been read
already. -/
def pageReadIssue (id half : Nat) (s : State) : State :=
  withCoach id (fun c q s =>
    match nextRead s id c q half with
    | none => s
    | some x =>
      match look x.leaf c.ahead with
      | some rs => deliver id c half x rs s
      | none =>
        match fetchCand c q x s with
        | (.ok rs, s) => deliver id c half x rs s
        | (.error st, s) => failCoach id st 0 0 s) s

def execPageReadIssue (id : Nat) (half : Fin 2) (s : State) : Result := done (live (pageReadIssue id half.val) s)

/-! ### Absorption, scoring and merges -/

/-- The matrices that a coach uses. -/
def usedWeights (s : State) (c : Coach) : Option (Weight × Weight) :=
  c.weights.bind (fun w => match look w.1 s.seq.weights, look w.2 s.seq.weights with
    | some a, some b => some (a, b)
    | _, _ => none)

/-- Elements read as 0 (R268, event 0x0607). -/
def noteBad (c n : Nat) (s : State) : State :=
  if n = 0 then s else s |> bump .BEAR_C_BADNUM_COUNT c n |> raiseCar 0x0607 c []

/-- ABSORPTION_DONE (R279, R282, R283). -/
def absorption (id : Nat) (s : State) : State :=
  withCoach id (fun c q s =>
    if q.latent = false ∨ c.whole = false ∨ c.absorbed.isSome ∨ c.cmd.any (isScore s) ∨ spareFirst s c ∨
        waitsFor s id c (fun d => d.absorbed.isNone && (look d.seq s.seq.seqs).any (fun q => q.latent)) then s
    else
      match usedWeights s c with
      | none => failCoach id Status.badCommand 6 0 s
      | some w =>
        s |> setCoach id { c with absorbed := some (absorbAll q c w.1) }
          |> noteBad c.car (queryBad q c + weightBad w.1)) s

def execAbsorptionDone (id : Nat) (s : State) : Result := done (live (absorption id) s)

/-- Whether every record of a half has reached its tiles. -/
def halfRead (c : Coach) (half : Nat) : Bool := c.gather && c.toRead.all (fun e => e.1 != half)

/-- Elements that a tile of rank `r` among `t` reads as 0 while it scores: of the records it takes, where it scores a head, and,
for a plain coach whose half has candidates, of the query (R268). -/
def scoringBad (q : Seqd) (c : Coach) (half t r : Nat) : Nat :=
  let recs := if (rankHeads q c t r).isEmpty then [] else rankRecs q c half t r
  sumOf (fun x => (recordVec q x).bad) recs + (if !q.latent && c.stream.any (fun e => e.1 == half) then queryBad q c else 0)

/-- SCORING_DONE (R269 to R276): a tile has scored every record it takes. -/
def scoring (id tile : Nat) (s : State) : State :=
  withCoach id (fun c q s =>
    let half := tile / 32
    let ts := c.on half
    if tile ∉ ts ∨ halfRead c half = false ∨ c.whole = false ∨ (q.latent ∧ c.absorbed.isNone) ∨ has tile c.tiles ∨ spareFirst s c ∨
        waitsFor s id c (fun d => !has tile d.tiles && d.result.isNone) then s
    else
      let r := countOf (fun t => t < tile) ts
      s |> setCoach id { c with tiles := put tile (tileParts q c half ts.length r) c.tiles }
        |> noteBad c.car (scoringBad q c half ts.length r)) s

def execScoringDone (id : Nat) (tile : Fin 64) (s : State) : Result := done (live (scoring id tile.val) s)

/-- HALF_MERGE (R277): the tiles of a half have all finished. -/
def halfMerge (id half : Nat) (s : State) : State :=
  withCoach id (fun c _ s =>
    let ts := c.on half
    if ts.isEmpty ∨ has half c.halves ∨ ts.all (fun t => has t c.tiles) = false then s
    else setCoach id { c with halves := put half (mergeHalf c (ts.filterMap (fun t => look t c.tiles))) c.halves } s) s

def execHalfMerge (id : Nat) (half : Fin 2) (s : State) : Result := done (live (halfMerge id half.val) s)

/-- The halves whose merged partials a coach needs: those with tiles, for a plain coach only with candidates too. -/
def neededHalves (c : Coach) (q : Seqd) : List Nat :=
  [0, 1].filter (fun h => !(c.on h).isEmpty && (q.latent || c.stream.any (fun e => e.1 == h)))

/-- The half whose partials come first where both have some (R282, R283; a plain coach merges east first). -/
def firstHalf (s : State) (c : Coach) (q : Seqd) : Nat :=
  if q.latent = false ∨ tilesPair (c.on 0) (c.on 1) (Prm.heads c.params) then 0 else (layerOf s c.seq q c.layer).home

/-- The partials of the node before expansion. -/
def crossMerge (s : State) (c : Coach) (q : Seqd) : List (Nat × Part) :=
  let a := firstHalf s c q
  let get := fun h => if h ∈ neededHalves c q then lookD h [] c.halves else []
  mergeHalves (get a) (get (1 - a))

/-- Positions attended counted in whole units of 1,024; the remainder is kept. -/
def notePositions (car n : Nat) (s : State) : State :=
  let v := lookD car 0 s.fox.posRem + n
  s |> onFox (fun f => { f with posRem := put car (v % 1024) f.posRem }) |> bump .BEAR_C_POSITIONS_KPOS car (v / 1024)

/-- The result of a BEAR_ATTN written to the host (R293). -/
def attnDone (id k : Nat) (c : Coach) (q : Seqd) (s : State) : State :=
  match s.cmd k with
  | none => dropCoach id s
  | some m =>
    let parts := (c.result.getD []).flatMap (partBytes (Prm.outFp32 c.params))
    s |> hostWrite k (u64 m.bytes 24) parts |> hostWrite k (u64 m.bytes 32) (slice c.reports 0 (8 * c.vectors))
      |> dropCoach id |> complete k Status.ok 0 (attended q c % 2 ^ 32 + (c.cands.getD []).length % 2 ^ 24 * 2 ^ 32)

/-- VALUE_EXPANSION (R280 to R283, R288, R310): the node partial is ready and leaves. -/
def valueExpansion (id : Nat) (s : State) : State :=
  withCoach id (fun c q s =>
    if c.gather = false ∨ c.toRead.isEmpty = false ∨ c.whole = false ∨ (q.latent ∧ c.absorbed.isNone) ∨
        (neededHalves c q).all (fun h => has h c.halves) = false then s
    else
      let w := if q.latent then (usedWeights s c).map Prod.snd else none
      let c := { c with result := some (nodeParts q c w (crossMerge s c q)) }
      let s := s |> setCoach id c |> noteBad c.car (w.elim 0 weightBad) |> notePositions c.car (attended q c)
        |> compareShadows c
      match c.cmd with
      | some k => attnDone id k c q s
      | none => s |> contribute c Status.ok 0 0 |> dropCoach id) s

def execValueExpansion (id : Nat) (s : State) : Result := done (live (valueExpansion id) s)

/-! ### BEAR_ATTN (R293, R294) -/

/-- Bytes of a BEAR_ATTN's input behind its parameter block. -/
def attnBytes (q : Seqd) (p : List Byte) (v : Nat) : Nat := queryBytes q p + 80 * v + 32

/-- The checks of a BEAR_ATTN once its parameter block has arrived. -/
def attnFault (s : State) (m : Cmd) (q : Seqd) (p descs : List Byte) : Option (Nat × Nat) :=
  firstCheck (shapeChecks s q.car (u16 m.bytes 12) (coachTiles s m.old q.car) (scoutsWell q (u8 m.bytes 14) (Prm.exact_ p) true descs) p q ++
    [(!q.protected_ || qConf s m.q, Status.accessDenied, 0), (!q.parked, Status.frozen, 0)])

/-- A BEAR_ATTN that is refused. -/
def attnRefused (k car : Nat) (f : Nat × Nat) (s : State) : State :=
  s |> when (f == (Status.badCommand, 8)) (fun s => s |> bump .BEAR_C_ACCREF_COUNT car 1 |> raiseCar 0x0608 car [])
    |> completeReason k f.1 f.2

/-- The whole input of a BEAR_ATTN, refused or taken as a coach. -/
def attnTake (k : Nat) (m : Cmd) (q : Seqd) (d : List Byte) (fault : Option (Nat × Nat)) (s : State) : State :=
  let v := u8 m.bytes 14
  let p := slice d 0 32
  let n := queryBytes q p
  let descs := slice d (32 + n + 64 * v) (16 * v)
  match fault with
  | some f => attnRefused k q.car f s
  | none =>
    let c := cmdCoach s k q.car (Op.seqId m.bytes) (u16 m.bytes 12) v p (slice d 32 n) (slice d (32 + n) (64 * v)) descs
      (slice d (32 + n + 80 * v) 32)
    let id := s.fox.nextCoach
    let s := s |> setCmd k { m with phase := 3, buf := [] } |> acceptCoach c q
    match s.coach id with
    | some c => startCoach id c q s
    | none => s

/-- The whole input has arrived: the coach's work begins. -/
def attnStart (k : Nat) (m : Cmd) (q : Seqd) (d : List Byte) (s : State) : State :=
  let v := u8 m.bytes 14
  let p := slice d 0 32
  attnTake k m q d (attnFault s m q p (slice d (32 + queryBytes q p + 64 * v) (16 * v))) s

/-- What refuses a BEAR_ATTN by its parameter block. -/
def attnParamFault (q : Seqd) (v : Nat) (p : List Byte) : Option (Nat × Nat) :=
  firstCheck [(paramsWell q p, Status.badCommand, 10),
    ((Prm.exact_ p && v == 0) || vectorsWell q v, Status.badCommand, 0)]

/-- The parameter block has arrived: it is checked, and the whole input, whose length it gives, is read and used. -/
def attnParams (k : Nat) (m : Cmd) (q : Seqd) (d : List Byte) (s : State) : State :=
  let v := u8 m.bytes 14
  let p := slice d 0 32
  let fault := if m.phase = 2 then none else attnParamFault q v p
  match fault with
  | some f => attnRefused k q.car f s
  | none => fetchTo k { m with phase := 2 } (u64 m.bytes 16) (32 + attnBytes q p v) true (attnStart k m q) s

/-- BEAR_ATTN: the parameter block is read, then the whole input; the work ends at VALUE_EXPANSION. -/
def bearAttn (k : Nat) (m : Cmd) (s : State) : State :=
  if 3 ≤ m.phase then s
  else onOwnSeq k m (some (u16 m.bytes 12)) (fun q s =>
    if m.ready = false then s
    else fetchTo k { m with phase := max 1 m.phase } (u64 m.bytes 16) 32 false (attnParams k m q) s) s

def execBearAttn (k : Nat) (s : State) : Result := done (live (withCmd k 3 0x01 (bearAttn k)) s)

end Sys2Proof.Machine
end

