-- ==== Sys2Proof/Machine/ParkEnd.lean ====
section
/-! DEFINITION. How a park that does not complete ends (R339, R345): it is used by the port's failure, by a cancelled
checkpoint, by a time fault and by a job abort. -/

namespace Sys2Proof.Machine

open Sys2Proof

/-- The park that a command runs. -/
def State.parkOf (s : State) (k : Nat) : Option Park := look k s.park.parks

/-- A park ends before its header is written (R345): the sequence has its former state again and nothing is freed. One
that had started is recorded (event 0x0422: SEQ_ID, status, and the page where one is concerned). -/
def parkFail (k status reason : Nat) (page : Option Nat) (s : State) : State :=
  match s.parkOf k with
  | none => s
  | some x =>
    let back := fun (q : Seqd) => if q.st = 3 then { q with st := x.was } else q
    let s := s |> onPark (fun y => { y with parks := del k y.parks })
      |> when (!x.waiting) (onSeq (fun y => { y with seqs := upd x.seq back y.seqs }))
    let car := (s.cmd k).map (fun c => Op.car c.bytes)
    s |> when (!x.waiting) (raise 0x0422 car ([(4, x.seq), (1, status)] ++ page.toList.map (fun p => (4, p)))) |> completeReason k status reason

/-- The parks of a carriage that wait for a checkpoint (R339). -/
def parksWaiting (s : State) (car ckpt : Nat) : List Nat :=
  keys (s.park.parks.filter (fun x => x.2.waiting && x.2.ckpt == ckpt && (s.cmd x.1).any (fun c => Op.car c.bytes == car)))

/-- The waiting parks of a checkpoint that a time fault cancels (R339, Table TT-4). -/
def parksTimeFault (car ckpt : Nat) (s : State) : State :=
  forEach (parksWaiting s car ckpt) (fun k => parkFail k Status.timeHoldover 0 none) s

/-- The waiting parks of a checkpoint that software cancels (R339, event 0x0429). -/
def parksCancelled (car ckpt : Nat) (s : State) : State :=
  let ks := parksWaiting s car ckpt
  s |> forEach ks (fun k => parkFail k Status.aborted 0 none) |> when (!ks.isEmpty) (raise 0x0429 (some car) [(4, ckpt)])

/-- Parks that write their image through a port end when it goes DOWN (R120, R345). -/
def parksPortDown (p : Nat) (s : State) : State :=
  let ks := keys (s.park.parks.filter (fun x => !x.2.waiting &&
    (s.cmd x.1).any (fun c => qPort c.q == p && (u8 c.bytes 12 == 1 || u8 c.bytes 12 == 2))))
  forEach ks (fun k s =>
    match s.cmd k with
    | some c => s |> noteLost c |> parkFail k Status.aborted 0 none
    | none => s) s

end Sys2Proof.Machine
end

