-- ==== Sys2Proof/Machine/Events.lean ====
section
/-! DEFINITION. The scheduled-event table (R100 to R104, R604). -/

namespace Sys2Proof.Machine

open Sys2Proof

/-- Entry `i` of the table. -/
def State.evt (s : State) (i : Nat) : Option Evt := look i s.time.evts

def setEvt (i : Nat) (e : Evt) (s : State) : State := onTime (fun t => { t with evts := put i e t.evts }) s

/-- Whether entry `i` is pending. -/
def evtPending (s : State) (i : Nat) : Bool := (s.evt i).any (fun e => e.st == 1)

/-- Whether no shutdown has begun (R548). -/
def firingAllowed (s : State) : Bool := s.rg .BIST_SHUT_STATUS_STATE 0 < 2

/-- Whether entry `a` at index `i` comes before entry `b` at index `j` (R102). -/
def evtBefore (a : Evt) (i : Nat) (b : Evt) (j : Nat) : Bool :=
  a.ft < b.ft || (a.ft == b.ft && (a.kind < b.kind || (a.kind == b.kind && decide (i < j))))

/-- Whether entry `i` of a kind fires now: it is due, and no due entry comes before it (R102); from a shutdown's S on, an
entry due at S or later never fires (R548). -/
def evtFires (s : State) (i kind : Nat) : Bool :=
  (s.evt i).any (fun e => (firingAllowed s || decide (e.ft < s.start.shutAt)) && e.st == 1 && e.kind == kind && decide (e.ft ≤ s.ft) &&
    s.time.evts.all (fun o => o.1 == i || o.2.st != 1 || !evtBefore o.2 o.1 e i))

/-- Entry `i` after it fired: a periodic one moves on by its period, any other becomes fired (R103). -/
def evtFired (i : Nat) (s : State) : State :=
  match s.evt i with
  | some e => setEvt i (if e.per = 0 then { e with st := 2 } else { e with ft := e.ft + 2 ^ e.per }) s
  | none => s

/-- A due entry fires: its argument and carriage are handed to the kind's effect. -/
def fireEntry (i kind : Nat) (f : Evt → State → State) (s : State) : State :=
  match s.evt i with
  | some e => if evtFires s i kind then f e (evtFired i s) else s
  | none => s

/-- The entries of a range: a carriage's 14, or the node pool (R100). -/
def evtRange (kind car : Nat) : Nat × Nat :=
  if kind = 1 ∨ kind = 5 ∨ kind = 6 then (224, 32) else (14 * car, 14)

/-- A free entry of a range (R604). -/
def evtFree (s : State) (kind car : Nat) : Option Nat :=
  let r := evtRange kind car
  (pickBelow r.2 (fun i => !evtPending s (r.1 + i)) s).map (fun i => r.1 + i)

/-- An entry taken for an event. -/
def evtTake (i ft kind car per arg : Nat) (s : State) : State :=
  freeTaken (setEvt i { ft := ft, kind := kind, car := car, per := per, st := 1, arg := arg } s)

/-- An entry cancelled, where it is pending. -/
def evtCancel (i : Nat) (s : State) : State :=
  match s.evt i with
  | some e => if e.st = 1 then setEvt i { e with st := 3 } s else s
  | none => s

/-- Whether a time is a grid point for a kind, or a frame boundary for a throttle step (Table TT-6). -/
def evtPoint (s : State) (kind ft : Nat) : Bool := if kind = 5 then ft % frameNs == 0 else s.gridPoint ft

/-- ADD (R101). -/
def evtAdd (p : Nat) (s : State) : State :=
  let ft := s.rg .TT_EVT_FT_LO_FT_LO p + s.rg .TT_EVT_FT_HI_FT_HI p * 2 ^ 32
  let kind := s.rg .TT_EVT_SPEC_KIND p
  let car := s.rg .TT_EVT_SPEC_CARRIAGE p
  let per := s.rg .TT_EVT_SPEC_PERIOD_EXP p
  let well := decide (2 ≤ kind) && decide (kind ≤ 5) && decide (s.ft + 10000 ≤ ft) &&
    decide (ft ≤ s.ft + 4294967296) && evtPoint s kind ft &&
    (per == 0 || (kind == 4 && decide (s.gridK ≤ per) && decide (per ≤ 30)))
  let fail := firstFail [(well, Status.badCommand),
    (s.im.carValid car && (evtFree s kind car).isSome && (kind != 2 || s.holdsSem p 1), Status.accessDenied),
    (s.tt == 2, Status.timeHoldover)]
  match fail, evtFree s kind car with
  | some st, _ => result .TT_EVT_RESULT_STATUS .TT_EVT_RESULT_DONE p st s
  | none, none => s
  | none, some i =>
    s |> evtTake i ft kind car per (s.rg .TT_EVT_ARG_ARG p) |> setRg .TT_EVT_RESULT_INDEX p i
      |> result .TT_EVT_RESULT_STATUS .TT_EVT_RESULT_DONE p Status.ok

/-- CANCEL (R103, R339, R536, R604). A refused one leaves TT_EVT_RESULT.INDEX as it stands (assumption 34). -/
def evtCancelCmd (p : Nat) (s : State) : State :=
  let i := s.rg .TT_EVT_CTRL_INDEX p
  let st := match s.evt i with
    | none => Status.badCommand
    | some e =>
      if e.st = 0 then Status.badCommand
      else if e.kind = 1 ∨ e.kind = 6 then Status.accessDenied
      else if e.kind = 2 ∧ s.holdsSem p 1 = false then Status.accessDenied
      else Status.ok
  let ckpt := fun (e : Evt) => when (st == Status.ok && e.st == 1 && e.kind == 3) (parksCancelled e.car e.arg)
  s |> when (st == Status.ok) (evtCancel i) |> whenSome (s.evt i) ckpt |> when (st == Status.ok) (setRg .TT_EVT_RESULT_INDEX p i)
    |> result .TT_EVT_RESULT_STATUS .TT_EVT_RESULT_DONE p st

/-- EVT_ADD (R101). -/
def execEvtAdd (p : Port) (s : State) : Result := done (live (access p.idx 0x100040 (evtAdd p.idx)) s)

/-- EVT_CANCEL (R103). -/
def execEvtCancel (p : Port) (s : State) : Result := done (live (access p.idx 0x100040 (evtCancelCmd p.idx)) s)

end Sys2Proof.Machine
end

