-- ==== Sys2Proof/Machine/Comp.lean ====
section
/-! DEFINITION. Composition images: staging, validation, commitment, check 16, the drain window and expert unlocks
(R47 to R55, R58 to R60, R70, R71, R603). Putting an image into force, the boundary and cancellation, which reach into
every block, are in Switch.lean. -/

namespace Sys2Proof.Machine

open Sys2Proof

/-- The composition state (Table CMP-5). -/
def State.cmp (s : State) : Nat := s.rg .CMP_STATUS_STATE 0

def setCmp (v : Nat) (s : State) : State := setRg .CMP_STATUS_STATE 0 v s

/-- A CMP_CTRL write refused (event 0x0207). -/
def cmpRefused (s : State) : State := raise 0x0207 none [] s

/-- INVALID entered with a check and a tag (R51, event 0x0202). -/
def cmpInvalid (check tag : Nat) (s : State) : State :=
  s |> setCmp 4 |> setRg .CMP_STATUS_CHECK 0 check |> setRg .CMP_STATUS_TAG 0 tag
    |> onComp (fun c => { c with fetch := none, staged := none }) |> raise 0x0202 none [(1, check), (2, tag)]

/-! ### STAGE and validation (R51 to R53) -/

/-- The states in which STAGE is refused (R52). -/
def stageRefused (st : Nat) : Bool := st == 1 || st == 2 || st == 5 || st == 6 || st == 7

/-- STAGE (R50 to R52). -/
def stage (p : Nat) (s : State) : State :=
  let len := s.rg .CMP_SRC_LEN_LEN 0
  if s.holdsSem p 0 = false ∨ stageRefused s.cmp then cmpRefused s
  else if len < 256 ∨ 4194304 < len then cmpInvalid 1 0 s
  else
    let addr := s.rg .CMP_SRC_ADDR_LO_ADDR_LO 0 + s.rg .CMP_SRC_ADDR_HI_ADDR_HI 0 * 2 ^ 32
    let s := s |> setCmp 1 |> setRg .CMP_STATUS_CHECK 0 0 |> setRg .CMP_STATUS_TAG 0 0
      |> onComp (fun c => { c with fetch := some (p, len, 0), staging := [], staged := none })
    if s.portUp p then
      forEach (List.range (ceilDiv len 4096)) (fun i s =>
        memRead p (.image (4096 * i) (min 4096 (len - 4096 * i))) (addr + 4096 * i)
          (ceilDiv (min 4096 (len - 4096 * i)) 4 * 4) s) s
    else s

def execStage (p : Port) (s : State) : Result := done (live (access p.idx 0x200000 (stage p.idx)) s)

/-- Whether a read of host memory is for the staged image. -/
def MemUse.isImage : MemUse → Bool
  | .image _ _ => true
  | _ => false

/-- Whether a port still waits for bytes of the staged image. -/
def imageWaits (o : OnzSt) : Bool := o.tags.any (fun t => t.2.isImage) || o.reads.any (fun r => r.1.isImage)

/-- IMAGE_FETCH_DONE (R51, R53): every read of the fetch has been answered, or cut short. -/
def imageFetchDone (s : State) : State :=
  match s.comp.fetch with
  | none => s
  | some (p, len, got) =>
    if imageWaits (s.onz p) then s
    else if got = len then s |> setCmp 2 |> onComp (fun c => { c with fetch := none })
    else cmpInvalid 1 0 s

def execImageFetchDone (s : State) : Result := done (live imageFetchDone s)

/-- IMAGE_VALIDATED (R45, R48, R53). -/
def imageValidated (s : State) : State :=
  if s.cmp ≠ 2 then s
  else
    match validate s s.comp.staging s.comp.staging.length s.comp.image.isSome with
    | .error r => cmpInvalid r.1 r.2 s
    | .ok im => s |> setCmp 3 |> onComp (fun c => { c with staged := some im }) |> raise 0x0201 none []

def execImageValidated (s : State) : Result := done (live imageValidated s)

/-! ### COMMIT (R603) -/

/-- COMMIT: the image in force is written to the flash composition region. -/
def commit (p : Nat) (s : State) : State :=
  if s.holdsSem p 0 = false ∨ s.comp.image = none ∨ s.rg .CMP_STATUS_COMMIT_BUSY 0 = 1 then cmpRefused s
  else s |> setRg .CMP_STATUS_COMMIT_BUSY 0 1 |> onComp (fun c => { c with commit := some s.im.raw })

def execCommit (p : Port) (s : State) : Result := done (live (access p.idx 0x200000 (commit p.idx)) s)

/-- COMMIT_DONE: the flash write ends. Where it did not end well the flash keeps its old content; R603 records event 0x020A
at the end of the write and names no failure, so that it is recorded then too (DESIGN CHOICE, assumption 36). -/
def commitDone (ok : Bool) (s : State) : State :=
  match s.comp.commit with
  | none => s
  | some b =>
    s |> setRg .CMP_STATUS_COMMIT_BUSY 0 0 |> onComp (fun c => { c with commit := none })
      |> when ok (onSec (fun x => { x with flash := { x.flash with composition := b } })) |> raise 0x020A none []

def execCommitDone (ok : Bool) (s : State) : Result := done (live (commitDone ok) s)

/-! ### ARM: check 16 and the leaving resources (R54, R55) -/

/-- Every resource of R59. -/
def allResources : List Res :=
  (List.range 64).map .group ++ (List.range 64).map .tile ++ (List.range 16).map .bank ++ (List.range 32).map .fox ++
  (List.range 32).map .slot ++ (List.range 65536).map .queue

/-- Resources whose owner differs between two images. -/
def changed (a b : Image) : List Res := allResources.filter (fun r => a.owner r != b.owner r)

/-- Whether a carriage holds a sequence descriptor or an allocated page. -/
def carHolds (s : State) (c : Nat) : Bool :=
  s.seq.seqs.any (fun q => q.2.car == c) || s.seq.pages.any (fun p => p.2.car == c)

/-- Check 16 (R54). -/
def check16 (s : State) (im : Image) : Bool :=
  let at_ := s.rg .CMP_SWITCH_FT_LO_FT_LO 0 + s.rg .CMP_SWITCH_FT_HI_FT_HI 0 * 2 ^ 32
  s.gridPoint at_ && decide (s.ft + 100000 ≤ at_) && decide (at_ ≤ s.ft + 4294967296) && s.tt == 2 &&
  (evtFree s 1 0).isSome &&
  (changed s.im im).all (fun r => match r with
    | .group g => decide (g ∈ s.seq.zeroed)
    | .queue q => (lookD q QCtx.init s.que.ctx).st == 0
    | _ => true) &&
  (List.range 16).all (fun c => !(s.im.carValid c && !im.carValid c) || !carHolds s c)

/-- ARM while an image is in force: what check 16 and a free entry of the table bring about. -/
def armWith (im : Image) (ok : Bool) (entry : Option Nat) (s : State) : State :=
  match ok, entry with
  | true, some i =>
    let at_ := s.rg .CMP_SWITCH_FT_LO_FT_LO 0 + s.rg .CMP_SWITCH_FT_HI_FT_HI 0 * 2 ^ 32
    s |> evtTake i at_ 1 0 0 im.epoch |> setCmp 5 |> setRg .CMP_STATUS_CHECK 0 0 |> setRg .CMP_EPOCH_ARMED 0 im.epoch
      |> onComp (fun c => { c with entry := some i, leaving := changed s.im im, shadow := false })
      |> raise 0x0203 none [(8, at_), (2, im.epoch)]
  | _, _ => s |> setRg .CMP_STATUS_CHECK 0 16 |> setRg .CMP_STATUS_TAG 0 0

/-- ARM while an image is in force (R54, R55). -/
def armSwitch (im : Image) (s : State) : State := armWith im (check16 s im) (evtFree s 1 0) s

/-- SHADOW_TABLES_LOADED (R55): the shadow copies of the new tables are loaded, within 100 µs of ARM. -/
def shadowTablesLoaded (s : State) : State :=
  if s.cmp = 5 then onComp (fun c => { c with shadow := true }) s else s

def execShadowTablesLoaded (s : State) : Result := done (live shadowTablesLoaded s)

/-! ### Expert unlocks (R70, R71, Table SEC-6) -/

/-- An unlock ends (R71, event 0x020C). -/
def endUnlock (p : Nat) (s : State) : State :=
  if has p s.comp.unlocks then
    s |> onComp (fun c => { c with unlocks := del p c.unlocks }) |> setRg .CMP_EXPERT_UNLOCK_BLOCKS p 0 |> raise 0x020C none []
  else s

/-- Whether the life-cycle state permits an unlock of a mask of blocks (Table SEC-6; SEC is block 11). -/
def unlockPermitted (s : State) (blocks : Nat) : Bool := s.lc != 4 && !(bit blocks 11 && s.lc == 1)

/-- EXPERT_UNLOCK (R70, R71). A granted write of another mask while the port is unlocked takes the place of the unlock
before it, whose time starts again: R71 does not list such a write among the ends of an unlock, so that no event 0x020C is
recorded (DESIGN CHOICE, assumption 36). -/
def expertUnlock (p blocks : Nat) (s : State) : State :=
  if s.holdsSem p 4 = false then raise 0x020B none [] s
  else if blocks = 0 then endUnlock p s
  else
    match s.im.grantFor p blocks, unlockPermitted s blocks with
    | some maxS, true =>
      s |> setRg .CMP_EXPERT_UNLOCK_BLOCKS p blocks
        |> onComp (fun c => { c with unlocks := put p (s.clk, maxS) c.unlocks })
    | some _, false => s |> raise 0x020B none [] |> raise 0x0B11 none []
    | none, _ => raise 0x020B none [] s

def execExpertUnlock (p : Port) (blocks : BitVec 16) (s : State) : Result :=
  done (live (access p.idx 0x200074 (expertUnlock p.idx blocks.toNat)) s)

/-- EXPERT_UNLOCK_EXPIRE (R71): MAX_UNLOCK_S of the grant has elapsed. -/
def expertUnlockExpire (p : Nat) (s : State) : State :=
  match look p s.comp.unlocks with
  | some (t, maxS) => if t + maxS * 1000000000 ≤ s.clk then endUnlock p s else s
  | none => s

def execExpertUnlockExpire (p : Port) (s : State) : Result := done (live (expertUnlockExpire p.idx) s)

end Sys2Proof.Machine
end

