-- ==== Sys2Proof/Machine/Semaphores.lean ====
section
/-! DEFINITION. The 64 hardware semaphores (R122 to R127, R154). -/

namespace Sys2Proof.Machine

open Sys2Proof

/-- Semaphores that are never granted (Table QUE-5). -/
def semReserved (n : Nat) : Bool := decide (5 ≤ n) && decide (n ≤ 15)

/-- A semaphore set to a holder. -/
def setSem (n : Nat) (x : Sem) (s : State) : State := onQue (fun q => { q with sems := put n x q.sems }) s

/-- A semaphore freed. -/
def freeSem (n : Nat) (s : State) : State := onQue (fun q => { q with sems := del n q.sems }) s

/-- LEASE_MS of a held semaphore: what is left of its 100 ms (R126). -/
def leaseMs (s : State) (x : Sem) : Nat :=
  match x.lease with
  | none => 100
  | some t => 100 - (s.clk - t) / 1000000

/-- The word a read of GLB_SEMn returns to port `p`, after the read's effect (Table QUE-11, R123). -/
def semWord (s : State) (p n : Nat) : Nat :=
  match semReserved n, look n s.que.sems with
  | true, _ => 0
  | false, none => 0
  | false, some x => (x.owner + 1) + 4 * b2n (x.owner == p) + 256 * leaseMs s x

/-- The effect of a read of GLB_SEMn (R123). -/
def semTake (p n : Nat) (s : State) : State :=
  if semReserved n then raise 0x0002 none [] s
  else
    match look n s.que.sems with
    | none => setSem n { owner := p, lease := none } s
    | some _ => s

/-- The offset of GLB_SEMn. -/
def semOffset (n : Nat) : Nat := 0x100 + 4 * n

/-- SEM_READ (R123, R124): the order of two reads is the order of the two commands. -/
def semRead (p n : Nat) (s : State) : State :=
  let s := semTake p n s
  emit (.value p (semOffset n) (semWord s p n)) s

def execSemRead (p : Port) (n : Fin 64) (s : State) : Result :=
  done (access p.idx (semOffset n.val) (semRead p.idx n.val) s)

/-- What the loss of semaphore `n` by port `p` ends: the expert unlock, and nothing else (R71, R127). -/
def semLost (p n : Nat) (s : State) : State := when (n == 4) (endUnlock p) s

/-- SEM_RELEASE (R125). -/
def semRelease (p n : Nat) (s : State) : State :=
  if s.holdsSem p n then s |> freeSem n |> semLost p n else raise 0x0003 none [] s

def execSemRelease (p : Port) (n : Fin 64) (s : State) : Result := done (access p.idx 0x200 (semRelease p.idx n.val) s)

/-- SEM_LEASE_EXPIRE (R126): the holding port has been DOWN for 100 ms. -/
def semLeaseExpire (n : Nat) (s : State) : State :=
  match look n s.que.sems with
  | some x =>
    match x.lease with
    | some t =>
      if t + 100000000 ≤ s.clk then s |> freeSem n |> raise 0x0001 none [(1, n), (1, x.owner + 1)] |> semLost x.owner n else s
    | none => s
  | none => s

def execSemLeaseExpire (n : Fin 64) (s : State) : Result := done (live (semLeaseExpire n.val) s)

/-- The leases of a port's semaphores begin to run (R120, R126). -/
def startLeases (p : Nat) (s : State) : State :=
  onQue (fun q => { q with sems := q.sems.map (fun e => if e.2.owner = p then (e.1, { e.2 with lease := some s.clk }) else e) }) s

/-- The leases of a port's semaphores stop (R126). -/
def stopLeases (p : Nat) (s : State) : State :=
  onQue (fun q => { q with sems := q.sems.map (fun e => if e.2.owner = p then (e.1, { e.2 with lease := none }) else e) }) s

end Sys2Proof.Machine
end

