-- ==== Sys2Proof/Machine/Onzon.lean ====
section
/-! DEFINITION. The Onzon link's states, its training and failures, and its control frames (R109 to R116, R120). -/

namespace Sys2Proof.Machine

open Sys2Proof

/-! ### Going UP -/

/-- A port reaches UP or DEGRADED (R109, R115, R126). -/
def portGoesUp (p : Nat) (st : OLink) (s : State) : State :=
  let o := s.onz p
  s |> setOnz p { o with link := st, txSeq := 0, rxSeq := 0, lastRx := s.clk, replays := 0, creditP := 0, creditN := 0,
                         dropSeen := false }
    |> wrapUp .QUE_PORT_STATUS_UP_COUNT p |> stopLeases p |> returnCredit p 256 64
    |> raise 0x0301 none [(1, p), (1, if st = .up then 8 else 4)]

/-! ### Going DOWN (R110, R120) -/

/-- A command that waits for host data through a port that went DOWN ends ABORTED; a list whose block cannot be read
ends at that block's first entry (R120, R145). -/
def dataLost (k : Nat) (s : State) : State :=
  match s.cmd k with
  | none => s
  | some c =>
    if c.want = 0 then s
    else
      let s := noteLost c s
      match look k s.que.lists with
      | some r =>
        let failed := if r.ended then r.failed else r.failed ++ [(r.entries.length, Status.aborted)]
        let r := { r with ended := true, more := false, failed := failed }
        s |> setCmd k { c with want := 0 } |> onQue (fun x => { x with lists := put k r x.lists })
      | none => complete k Status.aborted 0 0 s

/-- The frames of a port that goes DOWN and have not left: each completion entry and interrupt among them is not delivered,
and counts (R120). Those sent and not yet acknowledged count as delivered (DESIGN CHOICE, assumption 36: the spec speaks of
those due while the port is DOWN). -/
def waitingLost (p : Nat) (q : List OFrame) (s : State) : State :=
  forEach (q.filter (fun f => f.due)) (fun _ => undelivered p) s

/-- A port goes DOWN for a cause: 0 lock, 1 replays, 2 LINK_RESET, 3 no frame (R110, R120). -/
def portDown (p cause : Nat) (s : State) : State :=
  if s.portUp p = false then s
  else
    let o := s.onz p
    let s := setOnz p { o with link := .down, downAt := s.clk, retryAt := none, replay := [], replays := 0, outq := [], tags := [],
                               reads := [], ctrlTags := [], creditP := 0, creditN := 0, dropSeen := false } s
    let s := s |> startLeases p |> raise 0x0302 none [(1, cause)] |> waitingLost p o.outq
    let mine := s.que.ctx.filter (fun e => qPort e.1 == p && e.2.st == 1)
    let s := forEach mine (fun e s => stopQueue e.1 3 0 s) s
    let waiting := s.que.started.filter (fun e => qPort e.2.q == p && decide (0 < e.2.want))
    let s := forEach waiting (fun e s => dataLost e.1 s) s
    let s := parksPortDown p s
    onSec (fun x => { x with loader := x.loader.map (fun l => if l.port = p ∧ l.phase = 1 then { l with bad := true } else l) }) s

/-! ### Training (R109, R156) -/

/-- ONZON_TRAINING_START: signal on at least four lanes takes a DOWN port to TRAINING; the equaliser trims of the
registers take effect. -/
def onzonTrainingStart (p : Nat) (lanes : BitVec 8) (s : State) : State :=
  let o := s.onz p
  if o.link = .down ∧ o.retryAt = none ∧ 4 ≤ (bitsOf 8 lanes.toNat).length then
    s |> setOnz p { o with link := .training, trainAt := s.clk, eq := (serTrimBytes s (8 + p)).map (fun b => b.toNat) }
      |> emit (.train (8 + p))
  else s

def execOnzonTrainingStart (p : Port) (lanes : BitVec 8) (s : State) : Result :=
  done (powered (onzonTrainingStart p.idx lanes) s)

/-- The state a training reaches with a set of trained lanes: all eight, or a whole set of four (R109). -/
def trainedLink (lanes : Nat) : Option OLink :=
  if lanes % 256 = 255 then some .up
  else if lanes % 16 = 15 ∨ lanes / 16 % 16 = 15 then some .degraded
  else none

/-- A training fails: DOWN, with the next attempt 10 ms later (R109). -/
def onzonTrainFailed (p : Nat) (s : State) : State :=
  let o := s.onz p
  setOnz p { o with link := .down, downAt := s.clk, retryAt := some (s.clk + 10000000) } s

/-- ONZON_TRAINING_END: the trained lanes, and the trims that training reached (assumption 7). -/
def onzonTrainingEnd (p : Nat) (lanes : BitVec 8) (trims : List Byte) (s : State) : State :=
  let o := s.onz p
  if o.link ≠ .training ∨ o.trainAt + 20000000 < s.clk then s
  else
    match trainedLink lanes.toNat with
    | some st => s |> when (trims.length == 32) (serTrimLoad (8 + p) trims) |> portGoesUp p st
    | none => onzonTrainFailed p s

def execOnzonTrainingEnd (p : Port) (lanes : BitVec 8) (trims : List Byte) (s : State) : Result :=
  done (powered (onzonTrainingEnd p.idx lanes trims) s)

/-- ONZON_TRAINING_TIMEOUT: 20 ms have elapsed. -/
def onzonTrainingTimeout (p : Nat) (s : State) : State :=
  let o := s.onz p
  if o.link = .training ∧ o.trainAt + 20000000 ≤ s.clk then onzonTrainFailed p s else s

def execOnzonTrainingTimeout (p : Port) (s : State) : Result := done (powered (onzonTrainingTimeout p.idx) s)

/-- ONZON_RETRY: 10 ms after a failed attempt the port may train again. -/
def onzonRetry (p : Nat) (s : State) : State :=
  let o := s.onz p
  match o.retryAt with
  | some t => if o.link = .down ∧ t ≤ s.clk then setOnz p { o with retryAt := none } s else s
  | none => s

def execOnzonRetry (p : Port) (s : State) : Result := done (powered (onzonRetry p.idx) s)

/-! ### Failures (R110) -/

def execOnzonLockLoss (p : Port) (s : State) : Result := done (powered (portDown p.idx 0) s)

/-- ONZON_RX_IDLE_TIMEOUT: no frame for 10 µs. -/
def onzonRxIdle (p : Nat) (s : State) : State := if (s.onz p).lastRx + 10000 ≤ s.clk then portDown p 3 s else s

def execOnzonRxIdleTimeout (p : Port) (s : State) : Result := done (powered (onzonRxIdle p.idx) s)

/-- One more replay of the oldest frame: the eighth in a row takes the port DOWN (R110, R116). -/
def replayFrom (p seq : Nat) (s : State) : State :=
  let n := (s.onz p).replays + 1
  let s := s |> oReplayFrom p seq
  let s := setOnz p { s.onz p with replays := n } s
  if 8 ≤ n then portDown p 1 s else s

/-- ONZON_REPLAY_TIMEOUT: no ACK for 4 µs. -/
def onzonReplayTimeout (p : Nat) (s : State) : State :=
  if s.portUp p = false then s
  else
    match (s.onz p).replay with
    | [] => s
    | e :: _ => if e.2.2 + 4000 ≤ s.clk then replayFrom p e.1 s else s

def execOnzonReplayTimeout (p : Port) (s : State) : Result := done (powered (onzonReplayTimeout p.idx) s)

def execOnzonLinkReset (p : Port) (s : State) : Result := done (powered (portDown p.idx 2) s)

/-! ### Acknowledgement, credits and errors (R112, R115, R116) -/

/-- Frames up to and with a SEQ are acknowledged; their room in the replay buffer is free for frames that wait. -/
def ackUpTo (p seq : Nat) (s : State) : State :=
  let o := s.onz p
  let rest := o.replay.filter (fun e => !seqLe 16 e.1 seq)
  oFlush p (setOnz p { o with replay := rest, replays := if rest.length < o.replay.length then 0 else o.replays, lastRx := s.clk } s)

/-- ONZON_ACK. -/
def onzonAck (p : Nat) (seq : Nat) (s : State) : State := if s.portUp p then ackUpTo p seq s else s

def execOnzonAck (p : Port) (seq : BitVec 16) (s : State) : Result := done (powered (onzonAck p.idx seq.toNat) s)

/-- ONZON_NAK: what came before the named SEQ has arrived; the node replays from it. -/
def onzonNak (p : Nat) (seq : Nat) (s : State) : State :=
  if s.portUp p = false then s
  else
    let s := ackUpTo p ((seq + 65535) % 65536) s
    if (s.onz p).replay.any (fun e => e.1 == seq) then replayFrom p seq s else s

def execOnzonNak (p : Port) (seq : BitVec 16) (s : State) : Result := done (powered (onzonNak p.idx seq.toNat) s)

/-- ONZON_CREDIT: credits returned; frames that waited for them are sent. -/
def onzonCredit (p posted reads : Nat) (s : State) : State :=
  if s.portUp p = false then s
  else
    let o := s.onz p
    oFlush p (setOnz p { o with creditP := o.creditP + posted, creditN := o.creditN + reads, lastRx := s.clk } s)

def execOnzonCredit (p : Port) (posted reads : BitVec 16) (s : State) : Result :=
  done (powered (onzonCredit p.idx posted.toNat reads.toNat) s)

/-- ONZON_FRAME_ERROR: the frame is discarded and counted; a CRC error or a gap is answered with NAK (R112, R116). -/
def onzonFrameError (p : Nat) (_cause : FrameError) (s : State) : State :=
  if s.portUp p = false then s
  else
    let o := s.onz p
    s |> setOnz p { o with lastRx := s.clk } |> bump .QUE_PORT_ERR_CRC p 1 |> oSendCtl p OTy.nak 0 o.rxSeq

def execOnzonFrameError (p : Port) (cause : FrameError) (s : State) : Result := done (powered (onzonFrameError p.idx cause) s)

end Sys2Proof.Machine
end

