-- ==== Sys2Proof/Machine/Commands.lean ====
section
/-! DEFINITION. Queues and command lists: doorbells, fetching, the start of commands, ENABLE, DISABLE and RESET, LIST
and CHAIN (R129 to R148, R605, R606). -/

namespace Sys2Proof.Machine

open Sys2Proof

/-! ### Doorbells (R119, R130, R131) -/

/-- DOORBELL: SQ_TAIL and CQ_HEAD of a queue of the writing port. -/
def doorbell (p q tail head : Nat) (s : State) : State :=
  if qPort q ≠ p then raise 0x0306 none [] s
  else
    let x := s.ctx q
    let full := decide (sqSize s q < wsub 16 tail x.sqHead)
    let past := decide (wsub 16 x.cqTail x.cqHead < wsub 16 head x.cqHead)
    let s := setCtx q { x with sqTail := tail, cqHead := head } s
    if x.st = 1 ∧ (full ∨ past) then stopQueue q 1 0 s else s

def execDoorbell (p : Port) (q : Fin 65536) (tail head : BitVec 16) (s : State) : Result :=
  done (live (access p.idx (0x340000 + 4 * q.val) (doorbell p.idx q.val tail.toNat head.toNat)) s)

/-! ### QUE_CTX_CTRL (R135 to R137, R500) -/

/-- The result of a QUE_CTX_CTRL write. -/
def ctxResult (p code : Nat) (s : State) : State := result .QUE_CTX_RESULT_STATUS .QUE_CTX_RESULT_DONE p code s

/-- Whether a queue's session is loaded through its port and for its carriage (R136, R500). -/
def sessionOk (s : State) (q : Nat) : Bool :=
  !qConf s q || (match look (s.rg .QUE_CTX_CFG_SESSION q) s.sec.sessions with
    | some x => x.1 == qPort q && some x.2 == qOwner s q
    | none => false)

/-- QUEUE_ENABLE (R136). -/
def queueEnable (p : Nat) (s : State) : State :=
  let q := s.rg .QUE_SEL_QUEUE p
  let exps := fun e => decide (4 ≤ e) && decide (e ≤ 15)
  let engine := s.rg .QUE_CTX_CFG_ENGINE q
  if (qOwner s q).isNone ∨ Res.queue q ∈ s.comp.leaving then ctxResult p Status.accessDenied s
  else if (s.ctx q).st = 0 ∧ exps (s.rg .QUE_CTX_CFG_SQ_EXP q) ∧ exps (s.rg .QUE_CTX_CFG_CQ_EXP q) ∧ 1 ≤ engine ∧ engine ≤ 6 ∧
      sessionOk s q then
    s |> setCtx q { s.ctx q with st := 1, cause := 0 } |> ctxResult p Status.ok
  else ctxResult p Status.badCommand s

def execQueueEnable (p : Port) (s : State) : Result := done (live (access p.idx 0x300044 (queueEnable p.idx)) s)

/-- QUEUE_DISABLE (R137): DRAINING starts nothing more. -/
def queueDisable (p : Nat) (s : State) : State :=
  let q := s.rg .QUE_SEL_QUEUE p
  let x := s.ctx q
  if x.st = 1 then s |> setCtx q { x with st := 2 } |> ctxResult p Status.ok
  else if x.st = 3 then ctxResult p Status.badCommand s
  else ctxResult p Status.ok s

def execQueueDisable (p : Port) (s : State) : Result := done (live (access p.idx 0x300044 (queueDisable p.idx)) s)

/-- Ring state as RESET leaves it: indices 0, phase 1 (R137, R60). The COUNTER of the last accepted SQ entry and the count
of fetches stay. -/
def resetCtx (x : QCtx) : QCtx := { QCtx.init with counter := x.counter, fetchNo := x.fetchNo }

/-- QUEUE_RESET (R137). -/
def queueReset (p : Nat) (s : State) : State :=
  let q := s.rg .QUE_SEL_QUEUE p
  let x := s.ctx q
  if x.st = 1 ∨ x.st = 2 ∨ (x.st = 3 ∧ x.inflight ≠ 0) then ctxResult p Status.badCommand s
  else s |> setCtx q (resetCtx x) |> ctxResult p Status.ok

def execQueueReset (p : Port) (s : State) : Result := done (live (access p.idx 0x300044 (queueReset p.idx)) s)

/-- QUEUE_DRAIN_DONE (R135): INFLIGHT has reached 0; entries fetched and not started are discarded (DEDUCED,
assumption 14). -/
def queueDrainDone (q : Nat) (s : State) : State :=
  let x := s.ctx q
  if x.st = 2 ∧ x.inflight = 0 then setCtx q { x with st := 0, fetched := [], asked := x.sqHead } s else s

def execQueueDrainDone (q : Fin 65536) (s : State) : Result := done (live (queueDrainDone q.val) s)

/-- IRQ_TIMER (R148): TIME_US has elapsed since the oldest entry that no interrupt covers. -/
def irqTimer (q : Nat) (s : State) : State :=
  let us := s.rg .QUE_CTX_IRQ_MOD_TIME_US q
  match (s.ctx q).oldest with
  | some t => if s.rg .QUE_CTX_CFG_IRQ_EN q = 1 ∧ us ≠ 0 ∧ t + us * 1000 ≤ s.clk then sendIrq q s else s
  | none => s

def execIrqTimer (q : Fin 65536) (s : State) : Result := done (live (irqTimer q.val) s)

/-! ### Fetching (R132 to R134, R544) -/

/-- Whether an engine's commands are served before READY: engines 0 and 6 once step 4 has ended (R544). -/
def engineServed (s : State) (engine : Nat) : Bool :=
  s.rg .BIST_SUP_PHASE 0 == 5 || (engine == 6 && decide (4 ∈ s.start.done))

/-- The carriage under which a queue is fetched; a queue that no carriage owns any more counts as carriage 0. -/
def fetchCar (s : State) (q : Nat) : Nat := (qOwner s q).getD 0

/-- Command slots that a carriage holds on a port: those of the commands that its queues have started (R134). -/
def slotsHeld (s : State) (p c : Nat) : Nat := countOf (fun e => qPort e.2.q == p && fetchCar s e.2.q == c) s.que.started

/-- Whether a queue has entries to fetch now, and room in its CQ (R132, R133). -/
def fetchable (s : State) (p : Nat) (e : Nat × QCtx) : Bool :=
  let q := e.1
  let x := e.2
  qPort q == p && x.st == 1 && x.asked == x.sqHead && x.sqTail != x.sqHead && engineServed s (s.rg .QUE_CTX_CFG_ENGINE q) &&
  decide (wsub 16 x.cqTail x.cqHead + x.resv < cqSize s q) &&
  decide (slotsHeld s p (fetchCar s q) < 1024)

/-- The queue fetched next on a port: carriages in weighted round robin, the carriage's queues in round robin. With which
carriage the round robin begins after reset the spec does not say: carriage 15 counts as the one served last, so that
carriage 15 comes first while its weight lasts and then carriage 0 (DESIGN CHOICE, assumption 36). -/
def pickQueue (s : State) (p : Nat) : Option Nat :=
  let qs := keys (s.que.ctx.filter (fetchable s p))
  let cur := lookD (64 * p) 15 s.que.lastQ
  let served := lookD (64 * p + 1) 0 s.que.lastQ
  let stay := decide (served < max 1 (s.rg .QUE_ARB_WEIGHT_WEIGHT cur))
  let order := (if stay then [cur] else []) ++ (List.range 16).map (fun i => (cur + 1 + i) % 16)
  (order.find? (fun c => qs.any (fun q => fetchCar s q == c))).map (fun c =>
    nextRound (sortBy id (qs.filter (fun q => fetchCar s q == c))) (lookD (64 * p + 2 + c) 65536 s.que.lastQ))

/-- The round robins after a queue is fetched. -/
def fetched (p q : Nat) (s : State) : State :=
  let c := fetchCar s q
  let n := if lookD (64 * p) 15 s.que.lastQ = c then lookD (64 * p + 1) 0 s.que.lastQ + 1 else 1
  let n := if max 1 (s.rg .QUE_ARB_WEIGHT_WEIGHT c) < n then 1 else n
  onQue (fun x => { x with lastQ := put (64 * p) c (put (64 * p + 1) n (put (64 * p + 2 + c) q x.lastQ)) }) s

/-- Bytes of an SQ slot (R129). -/
def sqeBytes (s : State) (q : Nat) : Nat := if qConf s q then 128 else 64

/-- SQ_FETCH: one read of SQ entries (R132). -/
def sqFetch (p : Nat) (s : State) : State :=
  if serving s = false ∨ s.portUp p = false then s
  else
    match pickQueue s p with
    | none => s
    | some q =>
      let x := s.ctx q
      let size := sqeBytes s q
      let slot := x.sqHead % sqSize s q
      let n := min (min (max 1 (min 64 (s.rg .QUE_FETCH_MAX_ENTRIES 0))) (4096 / size))
        (min (wsub 16 x.sqTail x.sqHead) (sqSize s q - slot))
      s |> fetched p q |> setCtx q { x with asked := (x.sqHead + n) % 65536, fetchNo := x.fetchNo + 1 }
        |> memRead p (.sq q x.sqHead n (x.fetchNo + 1)) (sqBase s q + size * slot) (size * n)

def execSqFetch (p : Port) (s : State) : Result := done (live (sqFetch p.idx) s)

/-! ### Starting a command (R133, R138 to R140, R62, R606) -/

/-- The first failed check of R139, in the order of R17. The epoch test of R62 comes behind the checks of the engine that
give BAD_COMMAND or ACCESS_DENIED (`staleEnd`). -/
def startFault (s : State) (q : Nat) (b : List Byte) : Option Nat :=
  let engine := Op.engine b
  let row := opRow b
  firstFail [
    (row.isSome && row.any (fun r => reservedClear r b) && (engine == 0 || engine == s.rg .QUE_CTX_CFG_ENGINE q) &&
      !(engine == 0 && Op.opcode b == 0xFE), Status.badCommand),
    (qOwner s q == some (Op.car b), Status.accessDenied)]

/-- The outcome of a member of a list: one of another carriage breaks R143, and BAD_COMMAND comes first under R17. -/
def memberFault (parent : Option (Nat × Nat)) (f : Option Nat) : Option Nat :=
  if parent.isSome && f == some Status.accessDenied then some Status.badCommand else f

/-- A command started: its slot and CQ reservation are taken, and it is checked; `parent` is the list it is a member of.
For the epoch test of R62 a command reaches the node when it starts (DESIGN CHOICE, assumption 36): one of a stale epoch
ends when its engine takes it up. -/
def startCommand (q : Nat) (b : List Byte) (parent : Option (Nat × Nat)) (s : State) : State :=
  let k := s.que.serial
  let use_ := s.epochUse (Op.epoch b)
  let c : Cmd :=
    { q := q, bytes := b, parent := parent, order := k, held := use_ == .hold, old := use_ == .old, phase := 0, buf := [],
      want := 0, bad := if use_ == .stale then some Status.staleEpoch else none, note := [] }
  let s := s |> onQue (fun x => { x with started := put k c x.started, serial := k + 1 })
    |> setCtx q { s.ctx q with inflight := (s.ctx q).inflight + 1, resv := (s.ctx q).resv + 1 }
  match memberFault parent (startFault s q b) with
  | some st => complete k st 0 0 s
  | none => s

/-- Whether a started command comes before another in the order of its queue (R140): the order of the SQ entries that
they are or belong to, and within a list that of the list; `order` and `parent` are the later one's. -/
def Cmd.before (e : Cmd) (order : Nat) (parent : Option (Nat × Nat)) : Bool :=
  match e.parent, parent with
  | none, none => decide (e.order < order)
  | none, some p => decide (e.order < p.1)
  | some a, none => decide (a.1 < order)
  | some a, some p => decide (a.1 < p.1) || (a.1 == p.1 && decide (a.2 < p.2))

/-- Whether a command may start now: a CQ slot, a command slot of the queue's carriage, and, with FENCE, every earlier
command of the queue completed; `parent` is the list it belongs to with its list index. -/
def mayStartCmd (s : State) (q : Nat) (b : List Byte) (parent : Option (Nat × Nat)) : Bool :=
  let x := s.ctx q
  decide (wsub 16 x.cqTail x.cqHead + x.resv < cqSize s q) && decide (slotsHeld s (qPort q) (fetchCar s q) < 1024) &&
  (!Op.fence b || s.que.started.all (fun e => e.2.q != q || !e.2.before s.que.serial parent))

/-- COMMAND_START: the oldest fetched entry of a queue. -/
def commandStart (q : Nat) (s : State) : State :=
  let x := s.ctx q
  match x.fetched with
  | [] => s
  | (_, b) :: r =>
    if x.st = 1 ∧ serving s ∧ mayStartCmd s q b none then startCommand q b none (setCtx q { x with fetched := r } s) else s

def execCommandStart (q : Fin 65536) (s : State) : Result := done (live (commandStart q.val) s)

/-! ### Lists (R142 to R145) -/

/-- A list or step entry's operands. -/
def listAddr (b : List Byte) : Nat := u64 b 12
def listCount (b : List Byte) : Nat := u16 b 20
def listSerial (b : List Byte) : Bool := bit (u8 b 22) 1

def setList (k : Nat) (r : ListRun) (s : State) : State := onQue (fun x => { x with lists := put k r x.lists }) s

/-- So many more bytes of a list block asked for, behind those that have arrived. -/
def askBytes (k addr len : Nat) (s : State) : State :=
  match s.cmd k with
  | none => s
  | some c =>
    let base := c.buf.length
    let s := setCmd k { c with want := len } s
    if s.portUp (qPort c.q) then
      forEach (List.range (ceilDiv len 4096)) (fun i s =>
        memRead (qPort c.q) (.block k (base + 4096 * i) (min 4096 (len - 4096 * i))) (addr + 4096 * i)
          (min 4096 (len - 4096 * i)) s) s
    else dataLost k s

/-- A block of entries asked for: `note` keeps its address and its count. -/
def askBlock (k addr count : Nat) (s : State) : State :=
  match s.cmd k with
  | none => s
  | some c => askBytes k addr (wireLen s c.q (64 * count)) (setCmd k { c with buf := [], note := [addr, count] } s)

/-- A list that has no entry yet. -/
def ListRun.init : ListRun :=
  { entries := [], next := 0, more := true, started := 0, open_ := 0, failed := [], ended := false }

/-- A list begins: its first block is asked for. One whose queue is STOPPED, or whose node shuts down, by
then starts no entry (R606, R548). -/
def listBegin (k : Nat) (c : Cmd) (s : State) : State :=
  let n := listCount c.bytes
  if n = 0 ∨ 4096 < n then complete k Status.badCommand 0 0 s
  else if (s.ctx c.q).st = 3 ∨ serving s = false then setList k ListRun.init.stop s
  else s |> setList k ListRun.init |> askBlock k (listAddr c.bytes) n

/-- An entry that ends a list (R143): it counts as BAD_COMMAND at its index. -/
def listOffend (k i : Nat) (r : ListRun) (s : State) : State :=
  setList k { r with ended := true, failed := r.failed ++ [(i, Status.badCommand)] } s

/-- A block of `count` entries as far as it has arrived: of a confidential queue, records of KIND 3 whose INDEX is the list
index of their first entry (R151, R152). -/
def blockStep (s : State) (c : Cmd) (r : ListRun) (count : Nat) : DataStep :=
  dataStep s c.q 3 (Op.cmdId c.bytes) (blockIndex r.entries.length) (64 * count) true c.buf

/-- A block whose bytes have arrived: what is missing of it is asked for, or it is taken over; a CHAIN at its end names the
next block, any other end is the list's. A record that is refused stops the queue (R152). -/
def takeBlock (k : Nat) (c : Cmd) (r : ListRun) (addr count : Nat) (s : State) : State :=
  match blockStep s c r count with
  | .refused i =>
    s |> raise 0x0307 (some (Op.car c.bytes)) [(2, c.q), (1, 3), (4, i)]
      |> setCmd k { c with note := [] } |> stopQueue c.q 4 (Op.cmdId c.bytes)
  | .ask n => askBytes k (addr + c.buf.length) n s
  | .have_ d =>
    let es := chunks 4097 64 d
    let last := es.getLastD []
    if Op.engine last = 0 ∧ Op.opcode last = 0xFE then
      s |> setCmd k { c with buf := [], note := [0, listAddr last, listCount last] }
        |> setList k { r with entries := r.entries ++ es.dropLast }
    else
      s |> setCmd k { c with buf := [], note := [] } |> setList k { r with entries := r.entries ++ es, more := false }

/-- The next entry of a list: started, or the list's end when it may not stand there (R143). -/
def listNext (k : Nat) (c : Cmd) (r : ListRun) (b : List Byte) (s : State) : State :=
  let op := Op.opcode b
  if Op.engine b = 0 ∧ (op = 0xFF ∨ op = 0xFE ∨ op = 0x12) ∨ 1048576 ≤ r.next then listOffend k r.next r s
  else if (s.ctx c.q).st ≠ 1 ∧ (s.ctx c.q).st ≠ 2 then s
  else if mayStartCmd s c.q b (some (k, r.next)) = false ∨ (listSerial c.bytes ∧ r.open_ ≠ 0) then s
  else
    s |> setList k { r with next := r.next + 1, started := r.started + 1, open_ := r.open_ + 1 }
      |> startCommand c.q b (some (k, r.next))

/-- What a list does next: takes over a block, starts an entry, or asks for the next block. A CHAIN whose COUNT is 0 or
above 4,096 ends the list as an entry of R143 does, at the list index that comes next; reserved bits of a CHAIN in the last
place, where it counts as no command (R142), are not checked (DESIGN CHOICE, assumption 36: the spec gives neither outcome). -/
def listStep (k : Nat) (c : Cmd) (s : State) : State :=
  match look k s.que.lists with
  | none => listBegin k c s
  | some r =>
    if r.ended then s
    else if c.want ≠ 0 then s
    else
      match r.entries[r.next]?, c.note with
      | some b, _ => listNext k c r b s
      | none, [addr, n] => takeBlock k c r addr n s
      | none, [_, addr, n] =>
        if n = 0 ∨ 4096 < n then listOffend k r.next r s else askBlock k addr n s
      | none, _ => s

/-- LIST (R142 to R144). -/
def execList (k : Nat) (s : State) : Result := done (live (withCmd k 0 0xFF (listStep k)) s)

/-- The outcome of a list (R145): the status and index of the first entry, in list order, that was not OK. -/
def listOutcome (r : ListRun) : Nat × Nat :=
  match leastBy Prod.fst r.failed with
  | some e => (e.2, r.started + e.1 * 2 ^ 32)
  | none => (Status.ok, r.started + 0xFFFFFFFF * 2 ^ 32)

/-- A step record's end (R525): DONE with its answer when OK, else freed. -/
def stepEnd (k status result : Nat) (s : State) : State :=
  onRas (fun x => { x with steps := x.steps.filterMap (fun r =>
    if r.cmd = k ∧ r.done = none then (if status = Status.ok then some { r with done := some (status, result) } else none)
    else some r) }) s

/-- LIST_COMPLETE (R145, R525): every started command of the list has completed and no entry is left to start. -/
def listComplete (k : Nat) (s : State) : State :=
  match look k s.que.lists, s.cmd k with
  | some r, some c =>
    let past := r.ended || (!r.more && decide (r.entries.length ≤ r.next) && c.want == 0)
    if past ∧ r.open_ = 0 then
      let o := listOutcome r
      s |> onQue (fun x => { x with lists := del k x.lists }) |> complete k o.1 0 o.2
        |> when (Op.opcode c.bytes == 0x12) (stepEnd k o.1 o.2)
    else s
  | _, _ => s

def execListComplete (k : Nat) (s : State) : Result := done (live (listComplete k) s)

/-! ### Answers to reads of host memory (R132, R145, R51, R151, R152) -/

/-- SQ entries that arrived and are accepted, the COUNTER of the last one, and the ring index of an entry that is
refused. -/
structure Entries where
  es : List (Nat × List Byte)
  ctr : Option Nat
  bad : Option Nat
deriving DecidableEq, Repr

/-- One entry of a confidential queue accepted: it opens, it holds 64 bytes, and its COUNTER exceeds that of the one before
(R151, R152). -/
def openEntry (s : State) (q i : Nat) (ctr : Option Nat) (e : List Byte) : Option (List Byte) :=
  if u16 e 20 = 64 ∧ ctr.all (fun c => decide (c < u64 e 6)) then openRecord s q 1 0 i (e.take 104) else none

/-- SQ entries that arrived, in clear: those of a confidential queue are opened one by one, up to the first that is
refused. -/
def openEntries (s : State) (q : Nat) : Nat → List (List Byte) → Entries → Entries
  | _, [], x => x
  | i, e :: r, x =>
    if qConf s q then
      match openEntry s q i x.ctr e with
      | some b => openEntries s q ((i + 1) % 65536) r { x with es := x.es ++ [(i, b)], ctr := some (u64 e 6) }
      | none => { x with bad := some i }
    else openEntries s q ((i + 1) % 65536) r { x with es := x.es ++ [(i, e)] }

/-- SQ entries arrive, where they are the answer to the fetch that runs: SQ_HEAD advances, and an entry that is refused stops
the queue (R132, R152). -/
def sqArrive (q idx n no : Nat) (ok : Bool) (data : List Byte) (s : State) : State :=
  let x := s.ctx q
  if x.st ≠ 1 ∨ x.fetchNo ≠ no ∨ x.asked = x.sqHead then s
  else if !ok || data.length != sqeBytes s q * n then stopQueue q 2 0 s
  else
    let e := openEntries s q idx (chunks n (sqeBytes s q) data) { es := [], ctr := x.counter, bad := none }
    let s := setCtx q { x with fetched := x.fetched ++ e.es, sqHead := (idx + n) % 65536, counter := e.ctr } s
    match e.bad with
    | some i => s |> raise 0x0307 (qOwner s q) [(2, q), (1, 1), (4, i)] |> stopQueue q 4 0
    | none => s

/-- Host data of a command arrives. A read that a MEM_RESP answers with ERROR or BAD_ADDR ends the command, and the spec names
no status for it: one other than OK, which is a free value (assumption 15). -/
def dataArrive (k off len : Nat) (ok : Bool) (data : List Byte) (s : State) : State :=
  match s.cmd k with
  | none => s
  | some c =>
    let c := { c with want := c.want - len }
    if ok && data.length == ceilDiv len 4 * 4 then setCmd k { c with buf := overwrite c.buf off (data.take len) } s
    else s |> setCmd k { c with bad := some (openCode s) } |> freeTaken

/-- A list block arrives, or cannot be read (R145). -/
def blockArrive (k off len : Nat) (ok : Bool) (data : List Byte) (s : State) : State :=
  match s.cmd k, look k s.que.lists with
  | some c, some r =>
    if ok && data.length == ceilDiv len 4 * 4 then setCmd k { c with want := c.want - len, buf := overwrite c.buf off (data.take len) } s
    else
      let failed := if r.ended then r.failed else r.failed ++ [(r.entries.length, Status.aborted)]
      s |> setCmd k { c with want := 0, note := [] } |> setList k { r with ended := true, more := false, failed := failed }
  | _, _ => s

/-- Bytes of a staged image arrive (R51). -/
def imageArrive (off len : Nat) (ok : Bool) (data : List Byte) (s : State) : State :=
  match s.comp.fetch with
  | some (p, n, got) =>
    if ok && data.length == ceilDiv len 4 * 4 then
      onComp (fun c => { c with staging := overwrite c.staging off (data.take len), fetch := some (p, n, got + len) }) s
    else s
  | none => s

/-- Bytes of an object that a security load fetches arrive (R496). -/
def loadArrive (off len : Nat) (ok : Bool) (data : List Byte) (s : State) : State :=
  let good := ok && data.length == ceilDiv len 4 * 4
  onSec (fun x => { x with loader := x.loader.map (fun l =>
    if good then { l with bytes := overwrite l.bytes off (data.take len), got := l.got + len } else { l with bad := true }) }) s

/-- MEM_RESP: the answer to an outstanding MEM_RD. -/
def memRespIn (p tag : Nat) (ok : Bool) (data : List Byte) (s : State) : State :=
  let o := s.onz p
  match look tag o.tags with
  | none => s
  | some use_ =>
    let s := setOnz p { o with tags := del tag o.tags } s
    let s := match use_ with
      | .sq q idx n no => sqArrive q idx n no ok data s
      | .image off len => imageArrive off len ok data s
      | .data k off len => dataArrive k off len ok data s
      | .block k off len => blockArrive k off len ok data s
      | .load off len => loadArrive off len ok data s
    oIssue (s.onz p).reads.length p s

def execMemResp (p : Port) (seq tag : BitVec 16) (ok : Bool) (data : List Byte) (s : State) : Result :=
  done (live (oReceive p.idx seq.toNat (memRespIn p.idx tag.toNat ok data)) s)

end Sys2Proof.Machine
end

