-- ==== Sys2Proof/Machine/Depart.lean ====
section
/-! DEFINITION. Coaches on the fabric: arrival, departure and cutoff (R298 to R310, R312). -/

namespace Sys2Proof.Machine

open Sys2Proof

/-! ### The coach header (Table DEP-1) -/

namespace Hd
def seq (b : List Byte) : Nat := u32 b 0
def layer (b : List Byte) : Nat := u16 b 4
def epoch (b : List Byte) : Nat := u16 b 6
def depart (b : List Byte) : Nat := u64 b 8
def deadline (b : List Byte) : Nat := u64 b 16
def tag (b : List Byte) : Nat := u32 b 24
def group (b : List Byte) : Nat := u16 b 28
def reply (b : List Byte) : Nat := u16 b 30
def car (b : List Byte) : Nat := u8 b 32 % 16
def vectors (b : List Byte) : Nat := u8 b 33
def hdrLen (b : List Byte) : Nat := u16 b 34
def bodyLen (b : List Byte) : Nat := u32 b 36
end Hd

/-- The first packet's payload of a message, once it is held. -/
def RxEntry.firstPacket (e : RxEntry) : Option (List Byte) := look 0 e.parts

/-- LEAD_ADJ as it read when a message's first packet arrived (R330). -/
def RxEntry.leadAdj (e : RxEntry) : Int := signed 16 e.lead

/-- A time less a lead of a message's work, held at 0. -/
def lessLead (e : RxEntry) (t lead : Nat) : Nat := ((t : Int) - (lead + e.leadAdj)).toNat

/-- The coach that a header names. -/
def headerCoach (s : State) (e : RxEntry) (b : List Byte) : Coach :=
  let v := Hd.vectors b
  let use_ := e.epochUse (Hd.epoch b)
  let old := use_ == .old
  let tree := ((s.mapOf use_).tree (Hd.group b % 4096)).getD (zeros 32)
  { car := Hd.car b, seq := Hd.seq b, layer := Hd.layer b, epoch := Hd.epoch b, depart := Hd.depart b,
    deadline := Hd.deadline b, tag := Hd.tag b, group := Hd.group b, reply := Hd.reply b, vectors := v,
    params := slice b 64 32, ranges := slice b 96 32, query := [], vecs := [], descs := slice b 128 (16 * v),
    order := s.dep.arrivals, size := ceilDiv (H.msgLen e.hdr) 4096, whole := false, cmd := none, old := old,
    tree := tree, own := coachTiles s old (Hd.car b), open_ := false, cutoff := lessLead e (Hd.deadline b) (Tree.leafLead tree), weights := none, scored := [], lost := [], passes := 0,
    cands := none, reports := [], walked := [], tailWaited := false, gather := false, toRead := [], ahead := [], stream := [], absorbed := none,
    tiles := [], halves := [], result := none, failed := none }

/-! ### Coach memory (R309) -/

/-- A carriage's share of coach memory, in 4 KiB units, in the map that serves the coach. -/
def coachShare (s : State) (old : Bool) (c : Nat) : Nat := 64 * (s.tilesOf old c).length

/-- What a coach's message takes of it. -/
def RxEntry.coachSize (e : RxEntry) : Nat := ceilDiv (H.msgLen e.hdr) 4096

/-- What its coaches that have arrived and not started take of it, those that wait for a switch among them (R62). -/
def coachMemUsed (s : State) (c : Nat) : Nat :=
  sumOf (fun e => if e.2.car = c ∧ e.2.open_ = false ∧ e.2.cmd.isNone then e.2.size else 0) s.fox.coaches +
  sumOf (fun e => if e.2.car = c ∧ e.2.held ∧ H.mtype e.2.hdr = MTy.attnReq then e.2.coachSize else 0) s.prt.rx

/-! ### The checks of a coach (R302, R308 to R310, Table DEP-2) -/

/-- Checks that need no sequence: BAD_COMMAND and its reason. -/
def headerChecks_ (s : State) (e : RxEntry) (b : List Byte) : List (Bool × Nat × Nat) :=
  let bad := Status.badCommand
  [(decide (128 ≤ b.length) && Hd.hdrLen b == 128 + 16 * Hd.vectors b && H.msgLen e.hdr == Hd.hdrLen b + Hd.bodyLen b, bad, 14),
   (decide (Hd.group b < 4096) && decide (Hd.reply b < 4096) && decide (u8 b 32 < 16) && allZero (slice b 40 24), bad, 0),
   (s.gridPoint (Hd.depart b) && decide (Hd.depart b ≤ e.headAt + 1048576) && decide (Hd.depart b + 1000 ≤ Hd.deadline b) &&
     decide (Hd.deadline b ≤ Hd.depart b + 1048576), bad, 13)]

/-- Checks against the sequence. -/
def coachChecks (s : State) (e : RxEntry) (c : Coach) (b : List Byte) : List (Bool × Nat × Nat) :=
  match look c.seq s.seq.seqs with
  | none => [(false, Status.badCommand, 12)]
  | some q =>
    shapeChecks s c.car c.layer c.own (scoutsWell q c.vectors (Prm.exact_ c.params) false c.descs) c.params q ++
    [(Hd.bodyLen b == queryBytes q c.params + 64 * c.vectors, Status.badCommand, 14),
     (q.car == c.car, Status.accessDenied, 0),
     (e.epochUse c.epoch != .stale, Status.staleEpoch, 0),
     (!q.parked, Status.frozen, 0)]

/-- Checks of the moment: fabric time, the cutoff, coach memory. A shutdown takes no new coach. -/
def momentChecks (s : State) (c : Coach) : List (Bool × Nat × Nat) :=
  [(s.timeServes, Status.timeHoldover, 0), (serving s, Status.late, 4), (decide (s.ft < c.cutoff), Status.late, 1),
   (decide (coachMemUsed s c.car + c.size ≤ coachShare s c.old c.car), Status.late, 2)]

/-- What a coach fails for: status and reason, or cause for LATE. -/
def coachFault (s : State) (e : RxEntry) (c : Coach) (b : List Byte) : Option (Nat × Nat) :=
  firstCheck (headerChecks_ s e b ++ coachChecks s e c b ++ momentChecks s c)

/-! ### ATTN_REQ -/

/-- A receive entry marked as belonging to a coach. -/
def rxMark (key : Nat × Nat) (id : Nat) (s : State) : State :=
  onPrt (fun x => { x with rx := upd key (fun e => { e with coach := some id }) x.rx }) s

/-- A coach that reaches a node or carriage it is not for (R302, event 0x0746). -/
def misroute (c : Nat) (s : State) : State :=
  s |> bump .PRT_DEP_C_MISROUTE_COUNT c 1 |> raise 0x0746 (some c) [] |> onFox (fun f => { f with nextCoach := f.nextCoach + 1 })

/-- A header acted on: the coach is held, or its failure is contributed at once. The number it takes marks its entry. -/
def coachArrives (e : RxEntry) (b : List Byte) (s : State) : State :=
  let c := headerCoach s e b
  let tree := (s.mapOf (e.epochUse c.epoch)).tree (c.group % 4096)
  if tree.any (fun t => Tree.contributor t && Tree.car t == c.car) = false ∨ e.car ≠ c.car then misroute e.car s
  else
    match coachFault s e c b, look c.seq s.seq.seqs with
    | none, some q => acceptCoach c q s
    | some f, _ =>
      let late := f.1 == Status.late
      s |> when (f == (Status.badCommand, 8)) (fun s => s |> bump .BEAR_C_ACCREF_COUNT c.car 1 |> raiseCar 0x0608 c.car [])
        |> contribute c f.1 (if late then 0 else f.2) (if late then f.2 else 0)
        |> onFox (fun x => { x with nextCoach := x.nextCoach + 1 })
    | none, none => s

/-- The whole message of a held coach: its query and scout vectors. -/
def coachWhole (id : Nat) (m : List Byte) (s : State) : State :=
  match s.coach id with
  | none => s
  | some c =>
    let h := 128 + 16 * c.vectors
    let n := m.length - h - 64 * c.vectors
    setCoach id { c with query := slice m h n, vecs := slice m (h + n) (64 * c.vectors), whole := true } s

/-- The body of a coach delivered, once the message is complete. -/
def coachBody (key : Nat × Nat) (id : Nat) (e : RxEntry) (s : State) : State :=
  if e.complete then s |> coachWhole id e.message |> rxFree key else s

/-- ATTN_REQ: a coach's header is acted on once its first packet is held, its body once the message is complete; one of the
armed epoch that finds room waits for the switch (R62, R309). Replication and R302 as it touches transit are DATA_FRAME's. -/
def attnReq (src op : Nat) (s : State) : State :=
  let key := (src, op)
  match look key s.prt.rx with
  | none => s
  | some e =>
    if H.mtype e.hdr ≠ MTy.attnReq then s
    else
      match e.coach, e.firstPacket with
      | some id, _ => coachBody key id e s
      | none, none => s
      | none, some b =>
        if e.epochUse (Hd.epoch b) == .hold ∧ coachMemUsed s e.car + e.coachSize ≤ coachShare s false e.car then onPrt (fun x => { x with rx := put key { e with held := true } x.rx }) s
        else
          let id := s.fox.nextCoach
          let s := s |> coachArrives e b |> rxMark key id
          match look key s.prt.rx with
          | some e => coachBody key id e s
          | none => s

def execAttnReq (src : BitVec 12) (op : BitVec 32) (s : State) : Result := done (live (attnReq src.toNat op.toNat) s)

/-! ### COACH_DEPART and COACH_CUTOFF -/

/-- COACH_DEPART (R98, R304): at DEPART_FT the window opens, after the checks that may have changed since arrival. -/
def coachDepart (id : Nat) (s : State) : State :=
  match s.coach id with
  | none => s
  | some c =>
    if c.open_ ∨ c.cmd.isSome ∨ s.ft < c.depart ∨ c.cutoff ≤ s.ft then s
    else
      match look c.seq s.seq.seqs with
      | none => failCoach id Status.badCommand 12 0 s
      | some q =>
        let t := readTables c.seq q (some c.layer) s
        match firstCheck [(areasWell c.own q c.params, Status.badCommand, 8), (!q.parked, Status.frozen, 0),
            (t.1, Status.uncorrectable, 0)] with
        | some f => failCoach id f.1 f.2 0 t.2
        | none => startCoach id c q t.2

def execCoachDepart (id : Nat) (s : State) : Result := done (live (coachDepart id) s)

/-- COACH_CUTOFF (R307, event 0x0748): what is unfinished at the cutoff is abandoned. -/
def coachCutoff (id : Nat) (s : State) : State :=
  match s.coach id with
  | none => s
  | some c =>
    if c.cmd.isSome ∨ s.ft < c.cutoff then s
    else
      let gap := (look c.seq s.seq.seqs).bind (tailGap s c)
      s |> when (c.tailWaited && !c.gather) (fun s => whenSome gap (fun g => raise 0x0748 (some c.car) [(4, c.seq), (2, c.layer), (4, g)]) s)
        |> failCoach id Status.late 0 0

def execCoachCutoff (id : Nat) (s : State) : Result := done (live (coachCutoff id) s)

end Sys2Proof.Machine
end

