-- ==== Sys2Proof/Machine/Couple.lean ====
section
/-! DEFINITION. Coupling contexts (R311, R313 to R321, R324). -/

namespace Sys2Proof.Machine

open Sys2Proof

/-! ### The ATTN_PART message read (Tables DEP-3 to DEP-5) -/

/-- Bytes of one partial record. -/
def recordSize (m : PartMsg) : Nat := 8 + (if bit m.flags 0 then 4 else 2) * m.vdim

/-- One partial record: FP32 o, or BF16 o widened exactly (R316). -/
def parsePart (m : PartMsg) (i : Nat) : Part :=
  let b := slice m.parts (i * recordSize m) (recordSize m)
  { m := u32 b 0, l := u32 b 4,
    o := (List.range m.vdim).map (fun d => if bit m.flags 0 then u32 b (8 + 4 * d) else F32.ofBf16 (u16 b (8 + 2 * d))) }

/-- What the bytes of a message spell. -/
def parsePartMsg (b : List Byte) : PartMsg :=
  let v := u8 b 39
  { tag := u32 b 0, group := u16 b 4 % 4096, reply := u16 b 6 % 4096, seq := u32 b 8, layer := u16 b 12, epoch := u16 b 14,
    deadline := u64 b 16, car := u8 b 24 % 16, status := u8 b 25, level := u8 b 26, flags := u8 b 27, slot := u8 b 30,
    holes := (List.range (min 8 (u8 b 31))).map (fun i => slice b (64 + 12 * i) 12), covered := u16 b 32, missing := u16 b 34,
    failed := u16 b 36, worst := u8 b 38, vectors := v, records := u16 b 40, vdim := u16 b 42, minFreeze := u32 b 44,
    summaries := slice b 160 (16 * v), parts := b.drop (160 + 16 * v) }

/-- The bytes a whole message has. -/
def partLength (m : PartMsg) : Nat := 160 + 16 * m.vectors + m.records * recordSize m

/-- Whether an input carries records (R320). -/
def carriesRecords (m : PartMsg) : Bool := m.status == Status.ok || m.status == Status.partial_

/-! ### Contexts and their blocks (R313, R314) -/

/-- The name of a context. -/
abbrev CtxName := Nat × Nat × Nat

def PartMsg.name (m : PartMsg) : CtxName := (m.group, m.reply, m.tag)

/-- Context of a name. -/
def State.dctx (s : State) (n : CtxName) : Option Ctx := look n s.dep.ctxs

def setDctx (n : CtxName) (c : Ctx) (s : State) : State := onDep (fun d => { d with ctxs := put n c d.ctxs }) s

/-- Blocks that a context holds: accumulators and staging. -/
def Ctx.held (c : Ctx) : Nat := c.blocks + sumOf (fun x => x.2.blocks) c.slots

/-- Contexts and blocks of a carriage, and of all. -/
def ctxUsed (s : State) (c : Nat) : Nat := countOf (fun e => e.2.car == c) s.dep.ctxs
def bufUsed (s : State) (c : Nat) : Nat := sumOf (fun e => if e.2.car = c then e.2.held else 0) s.dep.ctxs
def bufAll (s : State) : Nat := sumOf (fun e => e.2.held) s.dep.ctxs

/-- Accumulator blocks of an input's shape. -/
def accBlocks (m : PartMsg) : Nat := ceilDiv (m.records * (8 + 4 * m.vdim) + 16 * m.vectors + 96) 4096

/-- Whether a carriage may take `n` more blocks, and `k` more contexts. -/
def couplingRoom (s : State) (c k n : Nat) : Bool :=
  decide (ctxUsed s c + k ≤ s.im.ctxQuota c) && decide (s.dep.ctxs.length + k ≤ 2048) &&
  decide (bufUsed s c + n ≤ s.im.bufQuota c) && decide (bufAll s + n ≤ 16384)

/-- The peaks of PRT_DEP_CTX_PEAK. -/
def couplingPeaks (s : State) : State :=
  s |> peak .PRT_DEP_CTX_PEAK_CONTEXTS 0 s.dep.ctxs.length |> peak .PRT_DEP_CTX_PEAK_BLOCKS 0 (bufAll s)

/-! ### Inputs that are dropped -/

/-- An input that arrives at or after the close (R313, event 0x0744). -/
def inputLate (c : Nat) (s : State) : State := s |> bump .PRT_DEP_C_LATE_IN_COUNT c 1 |> raiseCar 0x0744 c []

/-- An input that is refused (R314, R324, event 0x0745). -/
def inputRefused (c : Nat) (s : State) : State := s |> bump .PRT_DEP_C_REFUSED_COUNT c 1 |> raise 0x0745 (some c) []

/-- An input for a slot that has one, or for a context that has sent (R315, R319). -/
def inputDup (c : Nat) (s : State) : State := bump .PRT_DEP_C_DUP_COUNT c 1 s

/-! ### The first packet of an input -/

/-- A context as it is allocated under a tree record. -/
def newCtx (e : RxEntry) (m : PartMsg) (t : List Byte) : Ctx :=
  { car := m.car, seq := m.seq, layer := m.layer, epoch := m.epoch, deadline := m.deadline,
    close := lessLead e m.deadline (Tree.closeLead t), tree := t, blocks := accBlocks m, slots := [], acc := [], covered := 0,
    missing := 0, failed := 0, worst := Status.ok, minFreeze := 0xFFFFFFFF, flags := 0, vectors := m.vectors, vdim := m.vdim,
    summaries := [], sent := false }

/-- A slot that has begun to arrive. -/
def newSlot (blocks : Nat) : Slot := { blocks := blocks, complete := false, level := 0, status := 0, holes := [], merged := false }

/-- Whether an input's tree record lets it in: this node a COUPLER of the tree, the carriage the tree's, the slot below
FANIN (R324). -/
def slotFits (t : List Byte) (m : PartMsg) : Bool := Tree.coupler t && Tree.car t == m.car && decide (m.slot < Tree.fanin t)

/-- An input for a context: its blocks reserved, or the input dropped; whether it was taken. -/
def inputBegins (m : PartMsg) (len : Nat) (c : Ctx) (fresh : Bool) (s : State) : Bool × State :=
  let stage := ceilDiv len 4096
  let more := if fresh then c.blocks else accBlocks m - c.blocks
  if slotFits c.tree m = false then (false, inputRefused m.car s)
  else if c.sent ∨ has m.slot c.slots then (false, inputDup m.car s)
  else if couplingRoom s m.car (b2n fresh) (stage + more) = false then (false, inputRefused m.car s)
  else
    let c := { c with blocks := max c.blocks (accBlocks m), slots := put m.slot (newSlot stage) c.slots }
    (true, couplingPeaks (setDctx m.name c s))

/-- The first packet of an input (R313, R314, R321, R324): its epoch says which tree record lets it in, also for a context that
stands already. -/
def inputFirst (e : RxEntry) (b : List Byte) (s : State) : Bool × State :=
  let m := parsePartMsg b
  let use_ := e.epochUse m.epoch
  if use_ == .stale then (false, s |> countStale |> inputRefused m.car)
  else
    match (s.mapOf use_).tree m.group with
    | none => (false, inputRefused m.car s)
    | some t =>
      if slotFits t m = false then (false, inputRefused m.car s)
      else
        let c := (s.dctx m.name).getD (newCtx e m t)
        if c.sent = false ∧ c.close ≤ s.ft then (false, inputLate m.car s)
        else inputBegins m (H.msgLen e.hdr) c (s.dctx m.name).isNone s

/-! ### Merging (R316) -/

/-- Two scout summaries combined field by field (Table DEP-5). -/
def mergeSummary (a b : List Byte) : List Byte :=
  let sat := fun n i => min (2 ^ (8 * n) - 1) (fieldAt a i n + fieldAt b i n)
  let fa := u8 a 12
  let fb := u8 b 12
  leBytes 4 (sat 4 0) ++ leBytes 4 (sat 4 4) ++ leBytes 4 (sat 4 8) ++
  leBytes 1 (min (fa % 4) (fb % 4) + 4 * b2n (bit fa 2 || bit fb 2)) ++ leBytes 1 (min (u8 a 13) (u8 b 13)) ++
  leBytes 1 (max (u8 a 14) (u8 b 14)) ++ leBytes 1 (sat 1 15)

/-- The summaries of all vectors combined; the first input's stand as they are. -/
def mergeSummaries (v : Nat) (a b : List Byte) : List Byte :=
  if a.isEmpty then b else (List.range v).flatMap (fun i => mergeSummary (slice a (16 * i) 16) (slice b (16 * i) 16))

/-- The accumulators after an input. -/
def mergeAcc (acc : List Part) (m : PartMsg) : List Part :=
  if m.records = 0 ∨ carriesRecords m = false then acc
  else
    let acc := if acc.isEmpty then List.replicate m.records (Part.empty m.vdim) else acc
    acc.zipIdx.map (fun x => if x.2 < m.records then mergeParts x.1 (parsePart m x.2) else x.1)

/-- A complete input merged into its context; its staging blocks are released. -/
def mergeInput (m : PartMsg) (c : Ctx) : Ctx :=
  { c with
    acc := mergeAcc c.acc m
    covered := c.covered + m.covered
    missing := c.missing + m.missing
    failed := c.failed + m.failed
    worst := Status.first c.worst m.worst
    minFreeze := min c.minFreeze m.minFreeze
    flags := Nat.lor c.flags (m.flags % 8)
    vdim := if c.acc.isEmpty then m.vdim else c.vdim
    summaries := mergeSummaries c.vectors c.summaries m.summaries
    slots := put m.slot { blocks := 0, complete := true, level := m.level, status := m.status, holes := m.holes, merged := true }
      c.slots }

/-! ### The output (R317 to R320) -/

/-- Slots of a context that are absent, or hold a contribution that failed (R318). -/
def holeSlots (c : Ctx) : List Nat :=
  (List.range (Tree.fanin c.tree)).filter (fun i => match look i c.slots with
    | some x => !x.merged || (x.level == 0 && x.status != Status.ok && x.status != Status.partial_)
    | none => true)

/-- Whether a slot has no input. -/
def slotsAbsent (c : Ctx) : Bool :=
  (List.range (Tree.fanin c.tree)).any (fun i => !(look i c.slots).any (fun x => x.merged))

/-- The hole entries of an output, in their order. -/
def holesOf (node : Nat) (c : Ctx) : List (List Byte) :=
  let own := holeSlots c
  let mine := leBytes 2 node ++ leBytes 1 (Tree.level c.tree) ++ zeros 1 ++ leBytes 8 (bitMap own)
  (if own.isEmpty then [] else [mine]) ++ (sortBy Prod.fst c.slots).flatMap (fun x => x.2.holes)

/-- The output of a context. -/
def ctxOutput (s : State) (n : CtxName) (c : Ctx) : PartMsg :=
  let missing := Tree.subtree c.tree - c.covered
  let holes := holesOf s.nodeId c
  let worst := if missing = 0 then Status.ok else if slotsAbsent c then Status.first c.worst Status.late else c.worst
  let status := if missing = 0 then Status.ok else if c.covered = 0 then worst else Status.partial_
  let past := bit c.flags 2 || decide (8 < holes.length)
  { tag := n.2.2, group := n.1, reply := n.2.1, seq := c.seq, layer := c.layer, epoch := c.epoch, deadline := c.deadline,
    car := c.car, status := status, level := Tree.level c.tree, flags := c.flags % 4 + 4 * b2n past,
    slot := if Tree.root c.tree then 0 else Tree.parentSlot c.tree, holes := holes.take 8, covered := c.covered,
    missing := missing, failed := c.failed, worst := worst, vectors := c.vectors, records := c.acc.length, vdim := c.vdim,
    minFreeze := c.minFreeze,
    summaries := if c.summaries.isEmpty then (List.range c.vectors).flatMap (fun _ => emptySummary) else c.summaries,
    parts := c.acc.flatMap (partBytes (bit c.flags 0)) }

/-- A context sends what it holds and keeps its name only (R317, R319, event 0x0743). -/
def sendOutput (n : CtxName) (c : Ctx) (s : State) : State :=
  let m := ctxOutput s n c
  let first := m.holes.headD []
  s |> setDctx n { c with sent := true, blocks := 0, slots := [], acc := [] }
    |> when (decide (1 ≤ m.missing)) (fun s => s |> bump .PRT_DEP_C_INCOMPLETE_COUNT c.car 1
        |> raise 0x0743 (some c.car) [(2, n.1), (2, n.2.1), (4, n.2.2), (2, m.missing), (2, u16 first 0), (1, u8 first 2)])
    |> sendPart m (if Tree.root c.tree then n.2.1 else Tree.parent c.tree)

/-! ### ATTN_PART and CONTEXT_CLOSE -/

/-- A complete input. -/
def inputComplete (key : Nat × Nat) (e : RxEntry) (s : State) : State :=
  let s := rxFree key s
  let m := parsePartMsg e.message
  match s.dctx m.name with
  | none => inputLate m.car s
  | some c =>
    if c.sent ∨ (look m.slot c.slots).any (fun x => x.complete) then inputDup m.car s
    else if c.close ≤ s.ft then inputLate m.car s
    else if e.message.length ≠ partLength m ∨ (m.records ≠ 0 ∧ c.acc.length ≠ 0 ∧ (c.acc.length ≠ m.records ∨ c.vdim ≠ m.vdim)) then
      s |> setDctx m.name { c with slots := del m.slot c.slots } |> inputRefused m.car
    else
      let c := mergeInput m c
      let s := setDctx m.name c s
      if slotsAbsent c then s else sendOutput m.name c s

/-- ATTN_PART (R313 to R317): the first packet of an input takes its slot, the whole message is merged, and a context whose
slots are all complete sends. -/
def attnPart (src op : Nat) (s : State) : State :=
  let key := (src, op)
  match look key s.prt.rx with
  | none => s
  | some e =>
    if H.mtype e.hdr ≠ MTy.attnPart then s
    else
      match e.coach, e.firstPacket with
      | some 0, _ => if e.complete then inputComplete key e s else s
      | some _, _ => if e.complete then rxFree key s else s
      | none, none => s
      | none, some b =>
        if e.epochUse (u16 b 14) == .hold then onPrt (fun x => { x with rx := put key { e with held := true } x.rx }) s
        else
          let r := inputFirst e b s
          let s := rxMark key (if r.1 then 0 else 1) r.2
          if e.complete = false then s else if r.1 then inputComplete key e s else rxFree key s

def execAttnPart (src : BitVec 12) (op : BitVec 32) (s : State) : Result := done (live (attnPart src.toNat op.toNat) s)

/-- CONTEXT_CLOSE (R317, R319): at its close time a context that has not sent sends; then it is freed. -/
def contextClose (n : CtxName) (s : State) : State :=
  match s.dctx n with
  | none => s
  | some c =>
    if s.ft < c.close then s
    else
      let s := if c.sent then s else sendOutput n c s
      onDep (fun d => { d with ctxs := del n d.ctxs }) s

def execContextClose (group reply : BitVec 16) (tag : BitVec 32) (s : State) : Result :=
  done (live (contextClose (group.toNat, reply.toNat, tag.toNat)) s)

end Sys2Proof.Machine
end

