-- ==== Sys2Proof/Machine/FoxCal.lean ====
section
/-! DEFINITION. Fox calibration: FOX_CAL, recalibration, idle passes, compensation, and the hand-over of a block
(R248 to R252, R256, R257). -/

namespace Sys2Proof.Machine

open Sys2Proof

/-- The rows of a macro given back; their pages are rowless (R252). -/
def releaseMacro (m : Nat) (s : State) : State :=
  forEach ((s.fox.rows.filter (fun r => r.1 / 512 == m)).map (fun r => r.2.1)) releaseRow s

/-- A calibration of a macro begins: it is OUT until it passes verify (R251). -/
def beginCal (m : Nat) (cause : CalCause) (s : State) : State :=
  s |> macroOut m 4 |> setMacro m { s.macro_ m with cal := some cause }

/-- The temperature (0.125 °C) and voltage (mV) at a macro's monitors. -/
def macroTemp (s : State) (m : Nat) : Int := s.temp (foxSensor s m)
def macroVolt (s : State) (m : Nat) : Nat := s.rg .MON_VOLT_MV (12 * (m / 1024) + foxVmon s m)

/-- Whether a macro's monitors lie in the calibration window: core rail 0.68 to 0.78 V, junction at most 100 °C (R248). -/
def inWindow (s : State) (m : Nat) : Bool :=
  decide (680 ≤ macroVolt s m) && decide (macroVolt s m ≤ 780) && decide (macroTemp s m ≤ 800)

/-- A calibration that runs the verify phase alone. -/
def verifyOnly (c : Option CalCause) : Bool := c == some .verify || c == some .handover || c == some .load

/-- The column offsets and gains that a full calibration solves: the array's, free values (Table FOX-5, assumption 7). -/
def calColumns (m : Nat) (s : State) : State :=
  forEach (List.range 32) (fun i s => forEach colFields (fun r s => s |> setRg r (32 * m + i) (freeNow s % 64) |> freeTaken) s) s

/-! ### FOX_CAL (R257) -/

/-- Macros of a carriage that are IN_CAL, and those OUT or DISABLED, among named blocks. -/
def calCounts (s : State) (blocks : Nat) : Nat × Nat :=
  let ms := (bitsOf 32 blocks).flatMap (fun b => (List.range 64).map (fun i => 64 * b + i))
  (countOf (fun m => s.macroSt m == 1) ms, countOf (fun m => decide (2 ≤ s.macroSt m)) ms)

/-- A FOX_CAL ends. -/
def calEnd (k blocks : Nat) (s : State) : State :=
  let n := calCounts s blocks
  s |> onFox (fun f => { f with cals := del k f.cals }) |> complete k Status.ok 0 (n.1 + n.2 * 2 ^ 32)

/-- FOX_CAL: the named blocks' macros calibrate, but for DISABLED ones. -/
def foxCal (k : Nat) (c : Cmd) (s : State) : State :=
  let blocks := u32 c.bytes 12
  let fail := firstFail [
    (decide (u8 c.bytes 16 ≤ 1), Status.badCommand),
    ((bitsOf 32 blocks).all (fun b => s.serves c.old (.fox b) == some (Op.car c.bytes)), Status.accessDenied)]
  if 1 ≤ c.phase then s
  else
    match fail with
    | some st => complete k st 0 0 s
    | none =>
      let ms := ((bitsOf 32 blocks).flatMap (fun b => (List.range 64).map (fun i => 64 * b + i))).filter (fun m =>
        s.macroSt m == 1 || s.macroSt m == 2)
      let s := s |> setCmd k { c with phase := 1 } |> forEach ms (fun m => beginCal m (if u8 c.bytes 16 = 1 then .verify else .cmd k))
        |> onFox (fun f => { f with cals := put k ms f.cals })
      if ms.isEmpty then calEnd k blocks s else s

def execFoxCal (k : Nat) (s : State) : Result := done (live (withCmd k 2 0x02 (foxCal k)) s)

/-- A macro's calibration counted off the FOX_CALs that wait for it. -/
def calsProgress (m : Nat) (s : State) : State :=
  let s := onFox (fun f => { f with cals := f.cals.map (fun e => (e.1, remSet m e.2)) }) s
  forEach (keys (s.fox.cals.filter (fun e => e.2.isEmpty))) (fun k s =>
    match s.cmd k with
    | some c => calEnd k (u32 c.bytes 12) s
    | none => onFox (fun f => { f with cals := del k f.cals }) s) s

/-- The trims of a full calibration set: ADC offset and gain as found, and the columns (Table FOX-5). -/
def calTrims (m : Nat) (off gain : Int) (s : State) : State :=
  s |> setRg .FOX_M_ADC_OFFSET m (unsigned 8 (clampInt (-128) 127 off)) |> setRg .FOX_M_ADC_GAIN m (clampInt 0 4095 gain).toNat
    |> calColumns m

/-- A calibration that passes verify (R248, R251): the offset in 1/16 LSB and the gain found, 2,048 = 1.0, are the running
corrections from then on; a macro handed over may bind rows again (R256). -/
def calPass (m sigma : Nat) (off gain : Int) (s : State) : State :=
  let was := s.macroSt m
  let whole := !verifyOnly (s.macro_ m).cal
  let x := { s.macro_ m with off := 512 * off, gain := 64 * gain, comp := 0, resid := [], streak := [], calAt := s.clk,
                             cal := none, fresh := false }
  let s := s |> setMacro m x |> when whole (calTrims m off gain)
    |> setRg .FOX_M_STAT_SIGMA m (min 255 sigma) |> setRg .FOX_M_STAT_FAILS m 0
    |> setRg .FOX_M_CAL_POINT_TJ m (unsigned 8 (macroTemp s m / 8)) |> setRg .FOX_M_CAL_POINT_MV m (macroVolt s m)
  if s.rg .FOX_M_HOLD_FORCE_OUT m = 1 then s
  else s |> setRg .FOX_M_STAT_STATE m 1 |> when (was == 2) (raise 0x0503 none [])

/-- A calibration that fails: the third in a row disables the macro (R252). -/
def calFail (m sigma : Nat) (s : State) : State :=
  let n := s.rg .FOX_M_STAT_FAILS m + 1
  let s := s |> setMacro m { s.macro_ m with calAt := s.clk, cal := none } |> setRg .FOX_M_STAT_FAILS m (min 3 n)
    |> setRg .FOX_M_STAT_SIGMA m (min 255 sigma)
  if 3 ≤ n then s |> setRg .FOX_M_STAT_STATE m 3 |> releaseMacro m |> raise 0x0508 none []
  else setRg .FOX_M_STAT_STATE m 2 s

/-- FOX_CAL_DONE: the verify phase and what the calibration found are the array's (assumption 7). A σ̂ above 1.5 % fails
whatever the outcome says (R248); a full calibration waits for the window first (Table FOX-5). -/
def foxCalDone (m : Nat) (ok : Bool) (sigma : Nat) (off gain : Int) (s : State) : State :=
  if (s.macro_ m).cal.isNone ∨ (verifyOnly (s.macro_ m).cal = false ∧ inWindow s m = false) then s
  else
    let s := if ok ∧ sigma ≤ 150 then calPass m sigma off gain s else calFail m sigma s
    calsProgress m s

def execFoxCalDone (m : Fin 2048) (ok : Bool) (sigma : Nat) (off gain : Int) (s : State) : Result :=
  done (live (foxCalDone m.val ok sigma off gain) s)

/-! ### FOX_RECAL (R252) -/

/-- Whether a macro is due for recalibration: OUT, moved by more than 5 °C, or periodically. -/
def recalDue (s : State) (m : Nat) : Bool :=
  let moved := (macroTemp s m - 8 * signed 8 (s.rg .FOX_M_CAL_POINT_TJ m)).natAbs
  let ms := s.rg .FOX_RECAL_MS_PERIOD 0
  s.macroSt m == 2 || (s.macroSt m == 1 && (decide (40 < moved) ||
    (ms != 0 && decide ((s.macro_ m).calAt + ms * 1000000 ≤ s.clk))))

/-- Whether a block already calibrates a macro. -/
def blockBusy (s : State) (b : Nat) : Bool := s.fox.macros.any (fun e => e.1 / 64 == b && e.2.cal == some .recal)

/-- FOX_RECAL: only in pass slots that no coach or FOX_SCORE of the carriage claims, one macro per block. -/
def foxRecal (m : Nat) (s : State) : State :=
  let owner := s.serves false (.fox (m / 64))
  let claimed := s.fox.coaches.any (fun e => some e.2.car == owner && e.2.open_ && passesLeft s e.2)
  if s.rg .FOX_CTRL_AUTO_CAL 0 = 1 ∧ owner.isSome ∧ recalDue s m ∧ (s.macro_ m).cal = none ∧ blockBusy s (m / 64) = false ∧
      claimed = false ∧ s.rg .FOX_M_HOLD_FORCE_OUT m = 0 then
    beginCal m .recal s
  else s

def execFoxRecal (m : Fin 2048) (s : State) : Result := done (live (foxRecal m.val) s)

/-! ### Idle passes and compensation (R250) -/

/-- FOX_IDLE_PASS: an owned macro that has run no pass for 1 ms. -/
def foxIdlePass (m : Nat) (refs : List Int) (s : State) : State :=
  if s.macroSt m = 0 ∨ refs.length ≠ 8 ∨ s.clk < (s.macro_ m).lastPass + 1000000 then s else trackMacro m refs s

def execFoxIdlePass (m : Fin 2048) (refs : List Int) (s : State) : Result := done (live (foxIdlePass m.val refs) s)

/-- The compensation of one macro: ALPHA_T for the move of its sensor and ALPHA_V for that of its monitor since the last
calibration, both of the gain (R250, R259). -/
def compensate (m : Nat) (s : State) : State :=
  if s.macroSt m = 0 ∨ s.rg .FOX_M_HOLD_FREEZE m = 1 then s
  else
    let dt := macroTemp s m - 8 * signed 8 (s.rg .FOX_M_CAL_POINT_TJ m)
    let dv : Int := (macroVolt s m : Int) - s.rg .FOX_M_CAL_POINT_MV m
    let a := signed 16 (s.rg .FOX_M_TCOMP_ALPHA_T m) * dt + 8 * signed 16 (s.rg .FOX_M_TCOMP_ALPHA_V m) * dv
    setMacro m { s.macro_ m with comp := a } s

/-- FOX_COMPENSATE: once per 65,536 ns. -/
def foxCompensate (s : State) : State :=
  if s.clk < s.fox.compAt + 65536 then s
  else s |> onFox (fun f => { f with compAt := s.clk }) |> forEach (List.range 2048) compensate

def execFoxCompensate (s : State) : Result := done (live foxCompensate s)

/-! ### A block that moves (R256, R60) -/

/-- Clearing starts: the pages with a row in the block are rowless from then on. -/
def blockRowless (b : Nat) (s : State) : State :=
  forEach ((s.fox.rows.filter (fun r => r.1 / 32768 == b)).map (fun r => r.2.1)) releaseRow s

/-- What a handed-over block makes of a macro: UNOWNED in a block that becomes unowned; else OUT, or DISABLED where it was,
until it passes the verify phase that begins, before which it binds no row. -/
def macroHandover (owned : Bool) (m : Nat) (s : State) : State :=
  let off := decide (3 ≤ s.rg .FOX_M_STAT_FAILS m)
  let st := if owned = false then 0 else if off then 3 else 2
  s |> setRg .FOX_M_STAT_STATE m st
    |> setMacro m { s.macro_ m with cal := if owned && !off then some .handover else none, fresh := owned }

/-- The block is cleared and handed over: rows bound meanwhile go, and its macros run the verify phase. -/
def blockHandover (b : Nat) (s : State) : State :=
  let owned := (s.owner (.fox b)).isSome
  s |> blockRowless b |> forEach ((List.range 64).map (fun i => 64 * b + i)) (macroHandover owned)

end Sys2Proof.Machine
end

