-- ==== Sys2Proof/Machine/Time.lean ====
section
/-! DEFINITION. Fabric time: code words, edges, lock states, slewing, steering, and the time transfer of links
(R75 to R96, R399). The holdover limit, which also cancels switches, is in Switch.lean. -/

namespace Sys2Proof.Machine

open Sys2Proof

/-! ### Shared -/

/-- The fabric time that the timebase has, by the node's count: the count less what it is still held and less the steered phase
(R75, R88, R96), at least 0. -/
def tbTime (s : State) : Nat := ((s.ft : Int) - s.time.held - s.time.acc / 100000000000).toNat

/-- The next frame boundary after now, in timebase time. -/
def nextBoundary (s : State) : Nat := (tbTime s / frameNs + 1) * frameNs

/-- LOCKED entered (R81, event 0x0101). -/
def enterLocked (s : State) : State :=
  let held := min ((s.ft - s.time.holdFrom) / 1000) 16383
  s |> when (s.tt == 3) (setRg .TT_HOLD_HOLD_US 0 held)
    |> setRg .TT_STATUS_STATE 0 2
    |> onTime (fun t => { t with badRun := 0, word := none })
    |> onTrf (fun t => { t with everLocked := true })
    |> onStart (fun x => { x with lockAt := some (x.lockAt.getD s.ft) })
    |> raise 0x0101 none [(8, s.ft), (2, s.rg .TT_SYNC_ERR_ERR 0)]

/-- HOLDOVER entered for a cause: 0 edge, 1 words, 2 FT_REF (R81, R89: steering held at 0). -/
def enterHoldover (cause : Nat) (s : State) : State :=
  s |> setRg .TT_STATUS_STATE 0 3 |> setRg .TT_STATUS_STEERING 0 0
    |> onTime (fun t => { t with holdFrom := s.ft, badRun := 0, ppb := 0, slew := 0 })
    |> raise 0x0102 none [(1, cause)]

/-- The count takes the value a word named: it steps ahead, or is held until the timebase reaches it (R75, R84, R88). The count
is then the timebase's own, so that no steered phase is left in it (assumption 36). -/
def loadCount (ft : Nat) (s : State) : State :=
  let s := onTime (fun t => { t with held := s.ft - ft, slew := 0, judged := ft / frameNs, acc := 0, steerRem := 0, limited := false }) s
  if s.ft < ft then { s with ft := ft } else s

/-! ### FT_REF (R81, R85, R86) -/

/-- FT_REF_STABLE: FT_REF present and stable for 100 µs. -/
def ftRefStable (s : State) : State :=
  s |> setRg .TT_STATUS_REF_OK 0 1 |> when (s.tt == 0) (setRg .TT_STATUS_STATE 0 1)

def execFtRefStable (s : State) : Result := done (live ftRefStable s)

/-- FT_REF_LOST: event 0x0103; LOCKED goes to HOLDOVER (R81, R85). Table TT-3 names no way out of ACQUIRING but LOCKED, and
R86 asks for FT_REF in a relock only: ACQUIRING goes on without it (assumption 36). -/
def ftRefLost (s : State) : State :=
  if s.rg .TT_STATUS_REF_OK 0 = 0 then s
  else s |> setRg .TT_STATUS_REF_OK 0 0 |> raise 0x0103 none [] |> when (s.tt == 2) (enterHoldover 2)

def execFtRefLost (s : State) : Result := done (live ftRefLost s)

/-! ### Code words (R78, R79, R84) -/

/-- FT_NEXT of a word. -/
def wordNext (w : BitVec 128) : Nat := bits w.toNat 56 64

/-- Whether a word is valid: START, CRC-32 over bits [127:32], FT_NEXT a frame boundary (R79). -/
def wordValid (w : BitVec 128) : Bool :=
  bits w.toNat 120 8 == 0x5A && wordNext w % frameNs == 0 && crc32 (natBits 96 (w.toNat / 2 ^ 32)) == w.toNat % 2 ^ 32

/-- A bad or disagreeing word: event 0x0105, and in LOCKED the second in a row leads to HOLDOVER (R84). -/
def badWord (s : State) : State :=
  let n := s.time.badRun + 1
  s |> raise 0x0105 none [] |> onTime (fun t => { t with badRun := n })
    |> when (s.tt == 2 && decide (2 ≤ n)) (enterHoldover 1)

/-- Whether the node expects a value at all: LOCKED, HOLDOVER, and ACQUIRING once loaded (R80, R84). -/
def expects (s : State) : Bool := s.tt == 2 || s.tt == 3 || (s.tt == 1 && s.time.loaded)

/-- Whether a word's FT_NEXT differs by more than 64 ns from the value the node expects (R84, R96). -/
def disagrees (s : State) (next : Nat) : Bool :=
  decide (64 < max next (nextBoundary s) - min next (nextBoundary s))

/-- FT_CODE_WORD: a word has just ended. -/
def ftCodeWord (w : BitVec 128) (s : State) : State :=
  if wordValid w = false then
    s |> bump .TT_CODE_ERR_CRC 0 1 |> badWord
  else
    let cw : CodeWord := { next := wordNext w, began := s.clk - 5120, ended := s.clk }
    let s := s |> setRg .TT_STATUS_TB_ID 0 (bits w.toNat 40 8) |> setRg .TT_STATUS_TB_STATUS 0 (bits w.toNat 48 2)
    if s.tt = 0 then s
    else if expects s ∧ disagrees s cw.next then
      let s := bump .TT_CODE_ERR_DISAGREE 0 1 s
      if s.tt = 1 then
        s |> raise 0x0105 none [] |> onTime (fun t => { t with loaded := false, confirm := 0, word := some cw })
      else badWord s
    else onTime (fun t => { t with word := some cw, badRun := 0 }) s

def execFtCodeWord (w : BitVec 128) (s : State) : Result := done (live (ftCodeWord w) s)

/-! ### Edges (R80, R82, R83, R86, R88) -/

/-- Count minus expected at an edge, in 1/256 ns, against the nearest frame boundary of timebase time (R83, R96). -/
def edgeErr (s : State) (frac : Nat) : Int :=
  let c : Int := ((s.ft : Int) - s.time.held) * 256 + frac - s.time.acc * 256 / 100000000000
  let f : Int := 268435456
  (c + f / 2) % f - f / 2

/-- The boundary number an edge is judged at: the nearest. -/
def edgeFrame (s : State) (frac : Nat) : Nat :=
  ((((s.ft : Int) - s.time.held) * 256 + frac - edgeErr s frac) / 268435456).toNat

/-- Whether the timetable owns and uses the capture timer (R104). -/
def fineSync (s : State) : Bool := s.ownerCode 2 == 1 && s.rg .TT_CTRL_FINE_SYNC 0 == 1

/-- A quotient rounded to nearest, ties away from zero (R91). -/
def roundDiv (a d : Int) : Int := if 0 ≤ a then (2 * a + d) / (2 * d) else -((-2 * a + d) / (2 * d))

/-- The difference that slewing removes, in 1/256 ns: in whole nanoseconds without the capture timer (R83, R104). -/
def trimOf (s : State) (err : Int) : Int := if fineSync s then err else roundDiv err 256 * 256

/-- Whether the waiting word names boundary number `b`. -/
def wordNames (s : State) (b : Nat) : Bool := s.time.word.any (fun w => w.next == b * frameNs)

/-- The edge in a state that expects one. An edge out of window is not the one expected: that one is still awaited, and so is
the word's (R80, R86). TT_SYNC_ERR holds a difference past its 16 bits at their end (assumption 36). -/
def judgeEdge (frac : Nat) (s : State) : State :=
  let err := edgeErr s frac
  let b := edgeFrame s frac
  let s := setRg .TT_SYNC_ERR_ERR 0 (unsigned 16 (clampInt (-32768) 32767 err)) s
  if decide (-16384 ≤ err) && decide (err ≤ 16384) then
    let named := wordNames s b
    let trim := trimOf s err
    let s := onTime (fun t => { t with judged := b, word := none }) s
    if s.tt = 2 then onTime (fun t => { t with slew := trim }) s
    else if s.tt = 3 then
      if named ∧ s.rg .TT_STATUS_REF_OK 0 = 1 then enterLocked (onTime (fun t => { t with slew := trim }) s) else s
    else if named then
      let s := onTime (fun t => { t with confirm := t.confirm + 1, slew := trim }) s
      if 2 ≤ s.time.confirm then enterLocked s else s
    else onTime (fun t => { t with confirm := 0 }) s
  else
    let s := raise 0x0106 none [] s
    if s.tt = 2 then enterHoldover 0 s
    else if s.tt = 1 then onTime (fun t => { t with confirm := 0 }) s
    else s

/-- Whether an edge in FAULT follows a valid word in window (R88). -/
def faultEdge (s : State) : Option CodeWord :=
  match s.time.word with
  | some w => if w.ended + 10000 ≤ s.clk ∧ s.clk < w.began + frameNs ∧ s.rg .TT_STATUS_REF_OK 0 = 1 then some w else none
  | none => none

/-- FT_SYNC_EDGE: an edge, captured with its fraction. -/
def ftSyncEdge (frac : Nat) (s : State) : State :=
  let s := s |> setRg .TT_CAP_LO_CAP_LO 0 s.ft |> setRg .TT_CAP_HI_CAP_HI 0 (s.ft / 2 ^ 32) |> setRg .TT_CAP_FRAC_FRAC 0 frac
  if expects s then judgeEdge frac s
  else if s.tt = 1 then
    match s.time.word with
    | some w => s |> loadCount w.next |> onTime (fun t => { t with loaded := true, confirm := 1, word := none })
    | none => s
  else if s.tt = 4 then
    match faultEdge s with
    | some w => s |> loadCount w.next |> enterLocked
    | none => s
  else s

def execFtSyncEdge (frac : BitVec 8) (s : State) : Result := done (live (ftSyncEdge frac.toNat) s)

/-- FT_SYNC_MISSING: no edge by expected FT + 64 ns (R80). -/
def ftSyncMissing (s : State) : State :=
  let b := tbTime s / frameNs
  if expects s ∧ s.time.judged < b ∧ b * frameNs + 64 ≤ tbTime s then
    let s := s |> raise 0x0106 none [] |> onTime (fun t => { t with judged := b })
    if s.tt = 2 then enterHoldover 0 s
    else if s.tt = 1 then onTime (fun t => { t with confirm := 0 }) s
    else s
  else s

def execFtSyncMissing (s : State) : Result := done (live ftSyncMissing s)

/-! ### Steering (R94 to R96) -/

/-- The rate that drives a reported offset toward 0, in 0.01 ppb: its sign is the offset's, its size is free within the bounds
(R94, assumption 6). -/
def followOf (offset now : Int) : Int :=
  let r := clampInt (-20000) 20000 (Config.followRate offset now)
  if offset = 0 then 0 else if 0 < offset then max 1 r else min (-1) r

/-- The rate that TT_STEER asks for, in 0.01 ppb, clamped (R94). Table TT-10 gives MODE 3 no meaning: it steers as 0, and so
does MODE 2 while the link reports no valid offset (assumption 36). -/
def steerRate (s : State) : Int :=
  let mode := s.rg .TT_STEER_MODE 0
  let l := s.rg .TT_STEER_LINK 0
  if s.tt ≠ 2 then 0
  else if mode = 1 then clampInt (-20000) 20000 (signed 16 (s.rg .TT_STEER_PPB 0))
  else if mode = 2 ∧ s.rg .TT_LINK_OFFSET_VALID l = 1 then followOf (signed 24 (s.rg .TT_LINK_OFFSET_OFFSET l)) s.time.ppb
  else 0

/-- STEER_LIMIT (R96): the accumulated phase has reached ±1,000 ns. -/
def steerLimit (s : State) : State :=
  if s.time.limited = false ∧ 100000000000000 ≤ s.time.acc.natAbs then
    s |> onTime (fun t => { t with ppb := 0, limited := true }) |> setRg .TT_STATUS_STEERING 0 0 |> raise 0x0109 none []
  else s

def execSteerLimit (s : State) : Result := done (live steerLimit s)

/-- STEER_UPDATE (R95): once at each frame boundary; at the limit, which it records where it is new, only steering back toward
0 is taken (R96). -/
def steerUpdate (s : State) : State :=
  if s.frame ≤ s.time.steerAt then s
  else
    let s := steerLimit s
    let r := steerRate s
    let limit := decide (100000000000000 ≤ s.time.acc.natAbs)
    let away := decide (0 < r * s.time.acc)
    let r := if limit && away then 0 else r
    s |> onTime (fun t => { t with ppb := r, steerAt := s.frame, limited := limit })
      |> setRg .TT_STATUS_STEERING 0 (b2n (r != 0))

def execSteerUpdate (s : State) : Result := done (live steerUpdate s)

/-! ### Time transfer (R90 to R92, R399) -/

/-- The payload of Table PRT-9: this frame's boundary and last frame's departure and arrival. -/
def xferPayload (s : State) (l : Nat) : List Byte :=
  let t := s.linkTime l
  let f := s.frame
  let tx := ((t.sent.find? (fun e => e.1 + 1 == f)).map Prod.snd).getD 0
  let rx := ((t.recv.find? (fun e => e.1 + 1 == f)).map Prod.snd).getD 0
  leBytes 8 (f * frameNs) ++ leBytes 8 (tx / 256) ++ leBytes 8 (rx / 256) ++ leBytes 1 tx ++ leBytes 1 rx ++ zeros 6

/-- Whether the node's TIME_XFER of this frame is due on a link: first the peer with the lower node ID, which IDENT named, at
4,096 ns times its link number after the boundary, then the other in answer (R399); from the first boundary after UP on
(R364). -/
def xferDue (s : State) (l : Nat) : Bool :=
  let t := s.linkTime l
  let first := decide (s.nodeId < s.rg .PRT_Ln_PEER_NODE l)
  (s.link l).st == .up && s.tt != 0 && s.rg .TT_CTRL_XFER_EN 0 == 1 && decide (t.upFrame < s.frame) &&
  t.gave != some s.frame &&
  (if first then decide (4096 * l ≤ s.ft % frameNs) && decide (s.ft % frameNs < 65536) else t.heard == some s.frame)

/-- TIME_XFER_SEND: the node's frame of this frame's exchange is given to the link; its departure is captured as it starts
(R90, R399). -/
def timeXferSend (l : Nat) (s : State) : State :=
  if xferDue s l then
    let h : Hdr := { mtype := MTy.timeXfer, flags := 1, dest := s.rg .PRT_Ln_PEER_NODE l, car := 0, epoch := s.im.epoch,
                     msgLen := 32 }
    let b := overwrite (h.bytes s.nodeId 0 s.ft 0 32) 7 (leBytes 1 1) ++ xferPayload s l
    s |> setLinkTime l { s.linkTime l with gave := some s.frame } |> place l none b
  else s

def execTimeXferSend (l : Fin 8) (s : State) : Result := done (live (timeXferSend l.val) s)

/-- TIME_XFER: the peer's frame arrives, captured with its fraction unless it was replayed; last frame's pair is then complete
(R90, R399). -/
def timeXfer (l : Nat) (body : List Byte) (frac : Nat) (replayed : Bool) (s : State) : State :=
  if (s.link l).open_ = false ∨ s.tt = 0 ∨ s.rg .TT_CTRL_XFER_EN 0 = 0 ∨ body.length ≠ 32 then s
  else
    let t := s.linkTime l
    let f := u64 body 0 / frameNs
    let prevTx := u64 body 8 * 256 + u8 body 24
    let prevRx := u64 body 16 * 256 + u8 body 25
    let mine := (t.sent.find? (fun e => e.1 + 1 == f)).map Prod.snd
    let theirs := (t.recv.find? (fun e => e.1 + 1 == f)).map Prod.snd
    let t := match mine, theirs with
      | some t1, some t4 => { t with pair := some (t1, prevRx, prevTx, t4), since := 0 }
      | _, _ => t
    let recv := if replayed then t.recv else ((f, s.ft * 256 + frac) :: t.recv).take 2
    setLinkTime l { t with recv := recv, heard := some f } s

def execTimeXfer (l : Fin 8) (body : List Byte) (arrival : Capture) (s : State) : Result :=
  done (live (timeXfer l.val body arrival.frac.toNat arrival.replayed) s)

/-- A value of `n` 1/128 units of 250 ps: rounded to 250 ps, or to 1 ns without the capture timer (R91, R92). -/
def reportUnits (fine : Bool) (n : Int) : Int := if fine then roundDiv n 128 else roundDiv n 512 * 4

/-- Whether link-delay measurement owns and uses the capture timer (R92, R104). -/
def fineDelay (s : State) : Bool := s.ownerCode 2 == 2 && s.rg .TT_CTRL_FINE_DELAY 0 == 1

/-- The report of a link without a completed pair in the last 4 frames: VALID = 0, and event 0x0107 once (R91). -/
def reportNone (l n : Nat) (s : State) : State :=
  s |> setRg .TT_LINK_DELAY_VALID l 0 |> setRg .TT_LINK_OFFSET_VALID l 0 |> when (n == 5) (raise 0x0107 none [(1, l)])

/-- One link's report (R90 to R92), whatever its state now, from its first UP on. -/
def reportLink (l : Nat) (s : State) : State :=
  match look l s.time.links with
  | none => s
  | some t =>
    let n := t.since + 1
    let s := setLinkTime l { t with since := n } s
    match t.pair with
    | some (t1, t2, t3, t4) =>
      if n ≤ 4 then
        let asym := signed 16 (s.rg .TT_LINK_ASYM_ASYM l)
        let d := ((t4 : Int) - t1) - ((t3 : Int) - t2) - 128 * asym
        let o := ((t2 : Int) - t1) - ((t4 : Int) - t3) + 128 * asym
        s |> setRg .TT_LINK_DELAY_DELAY l (unsigned 20 (reportUnits (fineDelay s) d)) |> setRg .TT_LINK_DELAY_VALID l 1
          |> setRg .TT_LINK_OFFSET_OFFSET l (unsigned 24 (reportUnits (fineDelay s) o)) |> setRg .TT_LINK_OFFSET_VALID l 1
      else reportNone l n s
    | none => reportNone l n s

/-- LINK_TIME_UPDATE (R91): once at each frame boundary, in every state but FREE (Table TT-4). -/
def linkTimeUpdate (s : State) : State :=
  if s.frame ≤ s.time.linkAt ∨ s.tt = 0 then s
  else s |> onTime (fun t => { t with linkAt := s.frame }) |> forEach (List.range 8) reportLink

def execLinkTimeUpdate (s : State) : Result := done (live linkTimeUpdate s)

end Sys2Proof.Machine
end

