-- ==== Sys2Proof/Machine/Links.lean ====
section
/-! DEFINITION. The states of a fabric link, its training, its failures and its sparing (R360 to R368, R404), and the
discovery levels its links belong to (R538 to R540). -/

namespace Sys2Proof.Machine

open Sys2Proof

/-! ### Discovery levels (R538, R539) -/

/-- The level of link `l` by its PEER_NODE: 2 sled, 3 rack, 4 fabric (R24, R538). -/
def linkLevel (s : State) (l : Nat) : Nat :=
  let p := s.im.peerNode l
  if 4096 ≤ p ∨ p / 128 ≠ s.nodeId / 128 then 4 else if p / 8 = s.nodeId / 8 then 2 else 3

/-- The ENABLED links of a level. -/
def levelLinks (s : State) (lvl : Nat) : List Nat :=
  (List.range 8).filter (fun l => s.im.linkEnabled l && linkLevel s l == lvl)

/-- BIST_LEVEL of a level: 0 waiting, 1 running, 2 DONE, 3 INCOMPLETE. -/
def State.level (s : State) (lvl : Nat) : Nat := bits (s.rg .BIST_LEVEL_LEVELS 0) (2 * lvl - 2) 2

def setLevel (lvl v : Nat) (s : State) : State :=
  setRg .BIST_LEVEL_LEVELS 0 (setBits (s.rg .BIST_LEVEL_LEVELS 0) (2 * lvl - 2) 2 v) s

/-- The links of a level that are not UP. -/
def levelMissing (s : State) (lvl : Nat) : List Nat := (levelLinks s lvl).filter (fun l => (s.link l).st != .up)

/-- A level that runs or is INCOMPLETE turns DONE once every one of its links is UP (R539, event 0x0F03). -/
def levelCheck (lvl : Nat) (s : State) : State :=
  if (s.level lvl = 1 ∨ s.level lvl = 3) ∧ levelMissing s lvl = [] then
    s |> setLevel lvl 2 |> raise 0x0F03 none [(1, lvl), (1, 0)]
  else s

/-! ### JOINED (R528, R543) -/

/-- JOINED sent. -/
def sendJoined (s : State) : State :=
  s |> noticeAll 0x0A s.im.epoch |> setRg .BIST_SUP_JOINED 0 1 |> onStart (fun x => { x with joinedDue := false })

/-! ### Lanes and wavelengths (R360, R364, R556) -/

/-- Physical lanes of a link that failed the stored self-test (item 2). -/
def lanesFailed (s : State) (l : Nat) : List Nat :=
  (List.range 9).filter (fun p => decide ((2, 9 * l + p) ∈ s.persisted.failed))

/-- The lanes and wavelengths a link has at its first training. -/
def linkLaid (s : State) (l : Nat) (k : Link) : Link :=
  if k.lanes.isEmpty then
    let w := (List.range 10).filter (fun x => x != s.im.waveSpare l)
    { k with lanes := (List.range 9).filter (fun p => p != s.im.spareLane l), waves := w, rxWaves := w }
  else k

/-- Active physical lane `p` replaced by the link's spare lane. -/
def laneReplace (l p : Nat) (s : State) : State :=
  let k := s.link l
  let k := { k with lanes := k.lanes.map (fun x => if x = p then s.im.spareLane l else x) }
  s |> setLink l k |> setRg .PRT_Ln_SPARE_LANE_REPLACED l p

def laneSpareFree (s : State) (l : Nat) : Bool := s.rg .PRT_Ln_SPARE_LANE_REPLACED l == 15
def waveSpareFree (s : State) (l : Nat) : Bool := s.rg .PRT_Ln_SPARE_WAVE_REPLACED l == 15

/-- The wavelengths that carry a link's active lanes: transmit, then receive. -/
def wavesInUse (k : Link) : List Nat := k.lanes.map (nth 0 k.waves)
def rxWavesInUse (k : Link) : List Nat := k.lanes.map (nth 0 k.rxWaves)

/-- The maps of an engine taken into use: APPLY is written and read back; REPAIR_DONE and LINK_TRAINING_END say that it has read
0 (Table PRT-2, assumption 7). -/
def engineApply (a : Nat) (s : State) : State := s |> emit (.oe a 0x30 1) |> emit (.oeRead a 0x30 1)

/-- What the node asks of the engine of an OPTICAL link as its training begins: ENGINE_ID and TX_FAULT read, the maps of every
lane written and applied (R360, R361, R364). -/
def engineStart (l : Nat) (s : State) : State :=
  let k := s.link l
  let a := u8 (s.im.lane l) 6
  if s.im.optical l then
    s |> emit (.oeRead a 0x00 1) |> emit (.oeRead a 0x02 2)
      |> forEach (List.range 9) (fun p => emit (.oe a (0x10 + p) (nth 0 k.waves p)))
      |> forEach (List.range 9) (fun p => emit (.oe a (0x20 + p) (nth 0 k.rxWaves p))) |> engineApply a
  else s

/-- A map of a link's engine written and applied (Table PRT-2). -/
def engineWrite (l base lane wave : Nat) (s : State) : State :=
  let a := u8 (s.im.lane l) 6
  s |> emit (.oe a (base + lane) wave) |> engineApply a

/-- A list with element `i` set. -/
def setAt (l : List Nat) (i v : Nat) : List Nat := l.set i v

/-- The transmit lane on wavelength `w` remapped to the link's spare wavelength. -/
def waveReplace (l w : Nat) (s : State) : State :=
  let k := s.link l
  let lane := (k.waves.findIdx? (fun x => x == w)).getD 0
  s |> setLink l { k with waves := setAt k.waves lane (s.im.waveSpare l) } |> setRg .PRT_Ln_SPARE_WAVE_REPLACED l w
    |> engineWrite l 0x10 lane (s.im.waveSpare l)

/-! ### Leaving UP (R365, R366) -/

/-- Packets of link `l` whose room there is no longer owed: its credits start afresh. -/
def forgetArrivals (l : Nat) (s : State) : State :=
  let fix := fun (p : OutPkt) =>
    { p with from_ := p.from_.map (fun a => if a.link = l ∧ a.slot = false then { a with owed := false } else a) }
  onPrt (fun x => { x with links := x.links.map (fun k => (k.1, { k.2 with outq := k.2.outq.map fix })) }) s

/-- A packet that waited for a failed link: routed again among the links that remain. A multicast copy and a TIME_XFER
are for that link only (R366, R382, R399). -/
def reroute (p : OutPkt) (s : State) : State :=
  if H.mcast p.body ∨ H.mtype p.body = MTy.timeXfer then arrivalLeft p.from_ p.body s
  else arrivalLeft p.from_ p.body (routePacket p.from_ p.body s)

/-- A link leaves UP or REPAIR for another state: its replay buffer is discarded and its queue routed again (R366). -/
def linkLeave (l : Nat) (st : LState) (s : State) : State :=
  let k := s.link l
  let waits := k.outq
  let k := { k with st := st, downAt := s.clk, retryAt := none, replay := [], replays := 0, credits := [],
                    isoCredits := [], swap := none, outq := [], rr := [] }
  s |> setLink l k |> when (st == .down) (setRg .PRT_Ln_PEER_VALID l 0) |> forgetArrivals l
    |> onTrf (fun t => { t with gapCredits := t.gapCredits.filter (fun e => e.1.1 != l) })
    |> forEach waits reroute

/-- A UP or REPAIR link goes DOWN for a cause: 0 lock, 1 engine, 2 replays, 3 LINK_RESET, 4 no frame, 5 a failed swap,
6 RETRAIN or DISABLE, 7 the node's own shutdown (R365, event 0x0702). -/
def linkDown (l cause : Nat) (s : State) : State :=
  if (s.link l).open_ then s |> linkLeave l .down |> raise 0x0702 none [(1, l), (1, cause)] else s

/-- A link enters FAILED (events 0x0705, notice LINK_FAILED). -/
def linkFail (l : Nat) (s : State) : State :=
  let s := if (s.link l).open_ then linkLeave l .failed s
    else setLink l { s.link l with st := .failed, retryAt := none } s
  s |> raise 0x0705 none [] |> noticeAll 0x03 (l + s.rg .PRT_Ln_PEER_NODE l * 65536)

/-! ### Training (R363, R364) -/

/-- LINK_TRAINING_START: signal on 8 receive lanes; the equaliser trims of the registers take effect (R404). -/
def linkTrainingStart (l : Nat) (s : State) : State :=
  let k := s.link l
  if k.st = .down ∧ k.retryAt = none ∧ k.started ∧ s.im.linkEnabled l ∧ s.rg .PRT_Ln_CTRL_DISABLE l = 0 then
    let first := k.lanes.isEmpty
    let k := { linkLaid s l k with st := .training, trainAt := s.clk, eq := (serTrimBytes s l).map (fun b => b.toNat) }
    let bad := (lanesFailed s l).filter (fun p => p != s.im.spareLane l)
    s |> setLink l k |> when first (whenSome bad.head? (laneReplace l)) |> engineStart l |> emit (.train l)
  else s

def execLinkTrainingStart (l : Fin 8) (s : State) : Result := done (live (linkTrainingStart l.val) s)

/-- Faulty units replaced by the one spare: none when a second would be needed (R364). -/
def spareFor (bad : List Nat) (free spareOk : Bool) : Option (Option Nat) :=
  match bad with
  | [] => some none
  | [p] => if free && spareOk then some (some p) else none
  | _ => none

/-- The wavelengths in TX_FAULT that phase 1 must remap: those of the lanes in use; where none of these is, that of the spare
lane (R364). -/
def badWaves (s : State) (l : Nat) (lanes : List Nat) (faults : Nat) : List Nat :=
  let k := s.link l
  if s.im.optical l then
    let used := (lanes.map (nth 0 k.waves)).filter (bit faults)
    if used.isEmpty then k.waves.filter (bit faults) else used
  else []

/-- What phases 1 and 2 replace: a lane and a wavelength; none where the training fails. -/
def trainSpares (s : State) (l lanes faults : Nat) : Option (Option Nat × Option Nat) :=
  let k := s.link l
  match spareFor (k.lanes.filter (fun p => !bit lanes p)) (laneSpareFree s l) (bit lanes (s.im.spareLane l)) with
  | none => none
  | some a =>
    let used := k.lanes.map (fun p => if some p = a then s.im.spareLane l else p)
    (spareFor (badWaves s l used faults) (waveSpareFree s l) (!bit faults (s.im.waveSpare l))).map (fun b => (a, b))

/-- Credits of a link at CREDIT_INIT by class: the peer's receive buffer, less the owners' holds (R370, R422). -/
def linkCredits (s : State) (l : Nat) : List (Nat × Nat) × List ((Nat × Nat) × Nat) :=
  let owners := s.slotIm.slotOwners l
  let iso := s.slotIm.isoCredit l
  ([(0, 512), (1, 3072 - iso * owners.length), (2, 2048 - iso * owners.length), (3, 2560 - iso * owners.length)],
   owners.flatMap (fun c => [1, 2, 3].map (fun k => ((c, k), iso))))

/-- A link reaches UP: sequence numbers and credits start afresh (R363, R370, event 0x0701). -/
def linkUp (l : Nat) (s : State) : State :=
  let c := linkCredits s l
  let t := s.linkTime l
  let late := decide (5 ≤ t.since)
  let t := { t with sent := [], recv := [], upFrame := s.frame, pair := if late then none else t.pair, since := if late then 0 else t.since }
  let k := { s.link l with st := .up, lastRx := s.clk, txSeq := 0, rxSeq := 0, replay := [], replays := 0,
                           credits := c.1, isoCredits := c.2, swap := none }
  let peer := s.rg .PRT_Ln_PEER_NODE l
  s |> setLink l k |> setLinkTime l t |> setRg .PRT_Ln_STATUS_TRAIN_FAILS l 0
    |> wrapUp .PRT_Ln_STATUS_UP_COUNT l
    |> raise 0x0701 none [(1, l), (1, s.rg .PRT_Ln_SPARE_LANE_REPLACED l), (1, s.rg .PRT_Ln_SPARE_WAVE_REPLACED l)]
    |> onRas (fun r => { r with lostPeers := remSet peer r.lostPeers }) |> levelCheck (linkLevel s l)
    |> when s.start.joinedDue sendJoined

/-- A training fails: the next attempt 10 ms later, or FAILED at the 16th failure in a row (R363). -/
def linkTrainFailed (l : Nat) (s : State) : State :=
  let n := s.rg .PRT_Ln_STATUS_TRAIN_FAILS l + 1
  let s := setRg .PRT_Ln_STATUS_TRAIN_FAILS l n s
  if 16 ≤ n then linkFail l s
  else s |> setLink l { s.link l with st := .down, retryAt := some (s.clk + 10000000) } |> setRg .PRT_Ln_PEER_VALID l 0

/-- The LCTRL frames of phases 4 and 5: IDENT with the node ID, the link number and the spares in use, CREDIT_INIT with
the units of each class; the peer's arrive (R364, R369). -/
def trainFrames (l : Nat) (s : State) : State :=
  let spares := s.rg .PRT_Ln_SPARE_LANE_REPLACED l + s.rg .PRT_Ln_SPARE_WAVE_REPLACED l * 16
  let ident := padTo 16 (leBytes 2 s.nodeId ++ leBytes 1 l ++ leBytes 1 spares)
  let init := padTo 16 (leBytes 2 512 ++ leBytes 2 3072 ++ leBytes 2 2048 ++ leBytes 2 2560)
  s |> linkEmit l { ltype := 6, op := 1, body := ident } |> linkEmit l { ltype := 6, op := 2, body := init } |> linkGot l 80

/-- Whether the peer is the one LANE_MAP expects. -/
def peerExpected (s : State) (l node link : Nat) : Bool :=
  (s.im.peerNode l == 0xFFFF || s.im.peerNode l == node) && (s.im.peerLink l == 0xFF || s.im.peerLink l == link)

/-- The other UP link with the same peer; the link itself where the peer is this node (R540). -/
def duplicateOf (s : State) (l node link : Nat) : Option Nat :=
  if node = s.nodeId then some l
  else (List.range 8).find? (fun o => o != l && (s.link o).open_ && s.rg .PRT_Ln_PEER_NODE o == node &&
    s.rg .PRT_Ln_PEER_LINK o == link)

/-- Both links of a duplicate peer go FAILED (R540, event 0x0F04). -/
def duplicate (l o node : Nat) (s : State) : State :=
  let both := if o = l then [l] else [l, o]
  s |> setRg .BIST_DUP_LINKS 0 (bitMap (bitsOf 8 (s.rg .BIST_DUP_LINKS 0) ++ both))
    |> raise 0x0F04 none [(1, l), (1, o), (2, node)] |> forEach both linkFail

/-- Phases 4 and 5 with the IDENT that arrived. -/
def linkIdent (l node link : Nat) (s : State) : State :=
  let s := s |> setLink l { s.link l with named := true } |> setRg .PRT_Ln_PEER_NODE l node
    |> setRg .PRT_Ln_PEER_LINK l link |> setRg .PRT_Ln_PEER_VALID l 1 |> trainFrames l
  match duplicateOf s l node link with
  | some o => duplicate l o node s
  | none =>
    if peerExpected s l node link then linkUp l s
    else s |> raise 0x0706 none [(2, s.im.peerNode l), (1, s.im.peerLink l), (2, node), (1, link)] |> linkFail l

/-- LINK_TRAINING_END: the lanes that trained, the ENGINE_ID and the wavelengths in TX_FAULT that the engine reported, the IDENT
that arrived and the trims reached (assumption 7). An ENGINE_ID of 0, or none, reports no fault, as in R362 (assumption 36).
HOLD_TRAINING keeps the link at phase 2. -/
def linkTrainingEnd (l lanes engine faults : Nat) (ident : Option (Nat × Nat)) (trims : List Byte) (s : State) : State :=
  let k := s.link l
  if k.st ≠ .training ∨ s.rg .PRT_X_Ln_SPARE_HOLD_TRAINING l = 1 then s
  else if k.trainAt + 50000000 < s.clk then linkTrainFailed l s
  else
    match trainSpares s l lanes (if engine = 0 then 0 else faults), ident with
    | some (a, b), some i =>
      s |> whenSome a (laneReplace l) |> whenSome b (waveReplace l) |> when (trims.length == 36) (serTrimLoad l trims)
        |> linkIdent l i.1 i.2
    | _, _ => linkTrainFailed l s

def execLinkTrainingEnd (l : Fin 8) (lanes : BitVec 9) (engine : EngineReport) (ident : Option (BitVec 12 × Fin 8))
    (trims : List Byte) (s : State) : Result :=
  done (live (linkTrainingEnd l.val lanes.toNat engine.id.toNat engine.faults.toNat (ident.map (fun i => (i.1.toNat, i.2.val))) trims) s)

/-- LINK_RETRY: 10 ms after a failed training the link may train again. -/
def linkRetry (l : Nat) (s : State) : State :=
  let k := s.link l
  match k.retryAt with
  | some t => if k.st = .down ∧ t ≤ s.clk then setLink l { k with retryAt := none } s else s
  | none => s

def execLinkRetry (l : Fin 8) (s : State) : Result := done (live (linkRetry l.val) s)

/-- A link held or sent to DOWN by its control register. -/
def linkToDown (l : Nat) (s : State) : State :=
  let s := linkDown l 6 s
  s |> setLink l { s.link l with st := .down, retryAt := none } |> setRg .PRT_Ln_PEER_VALID l 0

/-- LINK_RETRAIN: to DOWN, from FAILED too; the failures in a row start afresh. -/
def linkRetrain (l : Nat) (s : State) : State := s |> linkToDown l |> setRg .PRT_Ln_STATUS_TRAIN_FAILS l 0

def execLinkRetrain (l : Fin 8) (s : State) : Result :=
  done (live (fun s => when (s.answers (0x700108 + 64 * l.val)) (linkRetrain l.val) s) s)

/-! ### Failures (R365, R371) -/

/-- LINK_LOCK_LOSS: on an active lane only. -/
def linkLockLoss (l lane : Nat) (s : State) : State := if lane ∈ (s.link l).lanes then linkDown l 0 s else s

def execLinkLockLoss (l : Fin 8) (lane : Fin 9) (s : State) : Result := done (live (linkLockLoss l.val lane.val) s)

/-- LINK_RX_IDLE_TIMEOUT: no frame for 10 µs. -/
def linkRxIdle (l : Nat) (s : State) : State := if (s.link l).lastRx + 10000 ≤ s.clk then linkDown l 4 s else s

def execLinkRxIdleTimeout (l : Fin 8) (s : State) : Result := done (live (linkRxIdle l.val) s)

/-- LINK_RESET. -/
def linkReset (l : Nat) (s : State) : State := if (s.link l).open_ then s |> linkGot l 40 |> linkDown l 3 else s

def execLinkReset (l : Fin 8) (s : State) : Result := done (live (linkReset l.val) s)

/-! ### Planned swaps (R367, R368, R404) -/

/-- A swap begins: the link enters REPAIR. -/
def swapBegin (l : Nat) (lane mine : Bool) (what : Nat) (s : State) : State :=
  setLink l { s.link l with st := .repair, swap := some { lane := lane, what := what, since := s.clk, mine := mine,
                                                          peerDone := false } } s

/-- The node moves logical lane `i` onto the spare lane and asks the peer to. -/
def laneSwap (l i : Nat) (s : State) : State :=
  let p := nth 0 (s.link l).lanes i
  s |> swapBegin l true true i |> linkTransmit l 6 0 3 (padTo 16 (leBytes 1 i ++ leBytes 1 (s.im.spareLane l)))
    |> laneReplace l p

/-- The node moves the transmit lane on wavelength `w` onto the spare wavelength and asks the peer to. -/
def waveSwap (l w : Nat) (s : State) : State :=
  let k := s.link l
  let i := (k.lanes.findIdx? (fun p => nth 10 k.waves p == w)).getD 0
  s |> swapBegin l false true w |> linkTransmit l 6 0 4 (padTo 16 (leBytes 1 i ++ leBytes 1 (s.im.waveSpare l)))
    |> waveReplace l w

/-- The receive lane with the most corrected symbols: its physical number and its count. -/
def worstLane (symbols : List Nat) : Nat × Nat :=
  (mostBy Prod.snd ((symbols.take 9).zipIdx.map (fun x => (x.2, x.1)))).getD (0, 0)

/-- LANE_SWAP_TRIGGER: a frame ends with the corrected symbols of each physical receive lane and the corrected
codewords of the link (assumption 7). -/
def laneSwapTrigger (l : Nat) (symbols : List Nat) (codewords : Nat) (s : State) : State :=
  let k := s.link l
  if k.open_ = false then s
  else
    let w := worstLane symbols
    let n := min w.2 16777215
    let s := s |> bump .PRT_Ln_FEC_CORR_COUNT l codewords |> setRg .PRT_Ln_WORST_LANE_LANE l w.1
      |> setRg .PRT_Ln_WORST_LANE_SYMBOLS l n
    let past := s.rg .PRT_X_SER_THR_SYMBOLS 0 < n
    if past ∧ k.st = .up ∧ s.rg .PRT_CTRL_AUTO_LANE_SPARE 0 = 1 ∧ laneSpareFree s l then
      whenSome (k.lanes.findIdx? (fun p => p == w.1)) (laneSwap l) s
    else s

def execLaneSwapTrigger (l : Fin 8) (symbols : List Nat) (codewords : BitVec 32) (s : State) : Result :=
  done (live (laneSwapTrigger l.val symbols codewords.toNat) s)

/-- An LCTRL frame arrives: it is sequenced as a DATA frame is. -/
def lctrlTaken (l : Nat) (s : State) : State :=
  let k := s.link l
  s |> setLink l { k with rxSeq := (k.rxSeq + 1) % 2 ^ 24, lastRx := s.clk } |> linkGot l 40 |> linkAck l k.rxSeq

/-- SWAP_LANE: the peer asks the node to move a logical lane. -/
def swapLane (l i : Nat) (s : State) : State :=
  if (s.link l).st ≠ .up then s
  else
    let s := lctrlTaken l s
    if laneSpareFree s l then s |> swapBegin l true false i |> laneReplace l (nth 0 (s.link l).lanes i)
    else raise 0x0705 none [] s

def execSwapLane (l : Fin 8) (lane : Fin 8) (s : State) : Result := done (live (swapLane l.val lane.val) s)

/-- SWAP_WAVE: the peer asks the node to remap the receive lane of a logical lane. -/
def swapWave (l i wave : Nat) (s : State) : State :=
  if (s.link l).st ≠ .up then s
  else
    let s := lctrlTaken l s
    let k := s.link l
    let p := nth 0 k.lanes i
    let w := nth 0 k.rxWaves p
    if waveSpareFree s l ∧ s.im.optical l then
      s |> setLink l { k with rxWaves := setAt k.rxWaves p wave } |> swapBegin l false false w
        |> setRg .PRT_Ln_SPARE_WAVE_REPLACED l w |> engineWrite l 0x20 p wave
    else raise 0x0705 none [] s

def execSwapWave (l : Fin 8) (lane : Fin 8) (wave : Fin 16) (s : State) : Result :=
  done (live (swapWave l.val lane.val wave.val) s)

/-- SWAP_DONE: the peer has ended its part. -/
def swapDone (l : Nat) (s : State) : State :=
  let k := s.link l
  match k.swap with
  | some w =>
    if k.st = .repair ∧ w.mine then
      let s := lctrlTaken l s
      setLink l { s.link l with swap := some { w with peerDone := true } } s
    else s
  | none => s

def execSwapDone (l : Fin 8) (s : State) : Result := done (live (swapDone l.val) s)

/-- Frames from an LSEQ on sent again with REPLAYED set (R371). A replayed TIME_XFER loses its capture (R399). -/
def linkReplayFrom (l seq : Nat) (s : State) : State :=
  let k := s.link l
  let again := k.replay.filter (fun e => seqLe 24 seq e.1.lseq)
  let mark := fun (e : LFrame × Nat) =>
    if seqLe 24 seq e.1.lseq then ({ e.1 with flags := Nat.lor e.1.flags 4 }, s.clk) else e
  let timed := (again.filter (fun e => e.1.ltype == 1 && H.mtype e.1.body == MTy.timeXfer)).map (fun e => u64 e.1.body 104 / frameNs)
  let s := s |> setLink l { k with replay := k.replay.map mark }
    |> forEach again (fun e => linkEmit l { e.1 with flags := Nat.lor e.1.flags 4 })
    |> when (!again.isEmpty) (bump .PRT_Ln_REPLAY_COUNT l 1)
  let t := s.linkTime l
  when (!timed.isEmpty) (setLinkTime l { t with sent := t.sent.filter (fun e => decide (e.1 ∉ timed)) }) s

/-- A link returns to UP after a swap, an entry to UP as any (Table PRT-3): it replays what was not acknowledged and
takes up its queue (R368). -/
def swapEnd (l : Nat) (w : Swap) (s : State) : State :=
  let s := s |> setLink l { s.link l with st := .up, swap := none, lastRx := s.clk } |> wrapUp .PRT_Ln_STATUS_UP_COUNT l
  let s := match (s.link l).replay with
    | [] => s
    | e :: _ => linkReplayFrom l e.1.lseq s
  s |> when (!w.mine) (linkTransmit l 6 0 5 (zeros 16)) |> raise (if w.lane then 0x0703 else 0x0704) none [(1, l), (1, w.what)] |> levelCheck (linkLevel s l) |> egress l

/-- The longest a link stays in REPAIR: 20 µs for a lane, 3 ms for a wavelength. -/
def Swap.bound (w : Swap) : Nat := if w.lane then 20000 else 3000000

/-- REPAIR_DONE: the node's part ended, well or not; the node that began it waits for the peer's too. -/
def repairDone (l : Nat) (ok : Bool) (s : State) : State :=
  let k := s.link l
  match k.swap with
  | some w =>
    if k.st ≠ .repair then s
    else if ok = false ∨ w.since + w.bound < s.clk then linkDown l 5 s
    else if w.mine ∧ w.peerDone = false then s
    else swapEnd l w s
  | none => s

def execRepairDone (l : Fin 8) (ok : Bool) (s : State) : Result := done (live (repairDone l.val ok) s)

/-- FORCE_LANE: a swap of LANE onto the spare lane, refused where the spare is in use (event 0x0705). -/
def forceLane (p l : Nat) (s : State) : State :=
  expertDo p 7 (0x780100 + 0x40 * l) (fun s =>
    let i := s.rg .PRT_X_Ln_SPARE_LANE l
    if (s.link l).st ≠ .up ∨ 8 ≤ i then s
    else if laneSpareFree s l then laneSwap l i s
    else raise 0x0705 none [] s) s

def execForceLane (p : Port) (l : Fin 8) (s : State) : Result :=
  done (live (access p.idx (0x780100 + 64 * l.val) (forceLane p.idx l.val)) s)

/-- FORCE_WAVE: a swap of the lane on WAVE onto the spare wavelength. -/
def forceWave (p l : Nat) (s : State) : State :=
  expertDo p 7 (0x780100 + 0x40 * l) (fun s =>
    let w := s.rg .PRT_X_Ln_SPARE_WAVE l
    if (s.link l).st ≠ .up ∨ s.im.optical l = false ∨ w ∉ wavesInUse (s.link l) then s
    else if waveSpareFree s l then waveSwap l w s
    else raise 0x0705 none [] s) s

def execForceWave (p : Port) (l : Fin 8) (s : State) : Result :=
  done (live (access p.idx (0x780100 + 64 * l.val) (forceWave p.idx l.val)) s)

/-! ### Optical engines (R362, R365, R367) -/

/-- What an engine that acknowledged reports: a fault or a loss in use takes the link DOWN, a warning begins a swap. -/
def engineReports (l fault los warn : Nat) (s : State) : State :=
  let s := s |> setRg .PRT_Ln_OE_POLL_OK l 1 |> setRg .PRT_Ln_OE_TX_FAULT l fault |> setRg .PRT_Ln_OE_RX_LOS l los
  let k := s.link l
  if (wavesInUse k).any (bit fault) ∨ (rxWavesInUse k).any (bit los) then linkDown l 1 s
  else if k.st = .up ∧ s.rg .PRT_CTRL_AUTO_WAVE_SPARE 0 = 1 ∧ waveSpareFree s l then
    whenSome ((wavesInUse k).find? (bit warn)) (waveSwap l) s
  else s

/-- The reads of a poll: TX_FAULT, RX_LOS and TX_WARN (Table PRT-2). -/
def enginePoll (a : Nat) (s : State) : State := s |> emit (.oeRead a 0x02 2) |> emit (.oeRead a 0x04 2) |> emit (.oeRead a 0x06 2)

/-- OE_POLL: the engine of an OPTICAL link is read, and answers or not, in this frame. -/
def oePoll (l : Nat) (ack : Bool) (fault los warn : Nat) (s : State) : State :=
  if s.rg .PRT_CTRL_OE_POLL 0 = 0 ∨ s.im.optical l = false then s
  else
    let s := enginePoll (u8 (s.im.lane l) 6) s
    if ack = false then s |> setRg .PRT_Ln_OE_POLL_OK l 0 |> raise 0x070C none [(1, l)] else engineReports l fault los warn s

def execOePoll (l : Fin 8) (ack : Bool) (fault los warn : BitVec 10) (s : State) : Result :=
  done (live (oePoll l.val ack fault.toNat los.toNat warn.toNat) s)

end Sys2Proof.Machine
end

