-- ==== Sys2Proof/Machine/Traffic.lean ====
section
/-! DEFINITION. Traffic control: policing (R413 to R417), ticks (R408), runtime changes (R425, R426), bucket refills by
entry (R412), and what a switch does to shapers and policers (R427). -/

namespace Sys2Proof.Machine

open Sys2Proof

/-! ### Policers -/

/-- Policer `j` in force. -/
def State.policer (s : State) (j : Nat) : Policer := lookD j (s.im.policer j) s.trf.policers

def setPolicer (j : Nat) (x : Policer) (s : State) : State := onTrf (fun t => { t with policers := put j x t.policers }) s

/-- The colour of a frame of `n` token units with a pre-colour, and the policer after it (R415). Colours: 0 green,
1 yellow, 2 red. -/
def Policer.colour (p : Policer) (n pre : Nat) : Nat × Policer :=
  if p.twoRate then
    if p.te < n ∨ (p.aware ∧ pre = 2) then (2, p)
    else if p.tc < n ∨ (p.aware ∧ pre = 1) then (1, { p with te := p.te - n })
    else (0, { p with te := p.te - n, tc := p.tc - n })
  else if n ≤ p.tc ∧ (p.aware = false ∨ pre = 0) then (0, { p with tc := p.tc - n })
  else if n ≤ p.te ∧ (p.aware = false ∨ pre ≠ 2) then (1, { p with te := p.te - n })
  else (2, p)

/-- The default policer of a frame; none for 0xFF. -/
def defaultFor (s : State) (b : List Byte) : Option Nat :=
  let d := s.im.defaultPolicer (H.car b) (pClass b)
  if d = 255 then none else some d

/-- The policer and pre-colour of an arriving frame, and the state with a replaced result counted (R414). -/
def policerFor (l : Nat) (b : List Byte) (s : State) : (Option Nat × Nat) × State :=
  let c := H.car b
  match classify s l b with
  | none => ((defaultFor s b, 0), s)
  | some x =>
    let s := bump .OWL_C_CLASSIFIED_COUNT c 1 s
    let p := s.policer x.1
    if p.valid && p.car == c then ((some x.1, x.2), s)
    else ((defaultFor s b, 0), s |> bump .TRF_C_OWLREF_COUNT c 1 |> raise 0x0806 (some c) [(1, x.1)])

/-- The counter of a colour. -/
def colourCount : Nat → RN
  | 0 => .TRF_C_GREEN_COUNT
  | 1 => .TRF_C_YELLOW_COUNT
  | _ => .TRF_C_RED_COUNT

/-- An arriving frame policed: whether it passes, and the state after it (R413 to R416). -/
def police (l : Nat) (b : List Byte) (s : State) : Bool × State :=
  let c := H.car b
  if pClass b = 0 then (true, s)
  else
    let x := policerFor l b s
    match x.1.1 with
    | none => (true, bump .TRF_C_GREEN_COUNT c 1 x.2)
    | some j =>
      let p := x.2.policer j
      let r := p.colour (frameLen b * 1024) x.1.2
      let drop := r.1 == 2 && !p.redPass || r.1 == 1 && p.yellowDrop
      (!drop, x.2 |> setPolicer j r.2 |> bump (colourCount r.1) c 1
        |> when (drop && r.1 == 2) (raiseCar 0x0803 c [(1, j), (1, l)]))

/-! ### Ticks (R408, R425, R426) -/

/-- Tokens that a rate adds in one tick, in whole 1/1,024 byte: a part below that is dropped (DESIGN CHOICE, assumption 36). -/
def tickTokens (rate e : Nat) : Nat := rate * 2 ^ e * 1024 / 1000

/-- `n` ticks of a shaper. -/
def Shaper.refill (x : Shaper) (e n : Nat) : Shaper :=
  if x.enable then { x with tokens := min (x.burst * 1024) (x.tokens + n * tickTokens x.rate e) } else { x with tokens := 0 }

/-- `n` ticks of a policer: what C cannot hold goes to E; P refills at PIR. -/
def Policer.refill (p : Policer) (e n : Nat) : Policer :=
  let c := p.tc + n * tickTokens p.cir e
  if p.twoRate then { p with tc := min (p.cbs * 1024) c, te := min (p.ebs * 1024) (p.te + n * tickTokens p.pir e) }
  else { p with tc := min (p.cbs * 1024) c, te := min (p.ebs * 1024) (p.te + (c - p.cbs * 1024)) }

/-- Shapers and policers whose buckets change: the enabled ones and the valid ones. -/
def liveShapers (s : State) : List Nat := (List.range 512).filter (fun i => (s.shaper i).enable)
def livePolicers (s : State) : List Nat := (List.range 256).filter (fun j => (s.policer j).valid)

/-- A runtime change applied (R425, event 0x0801). -/
def trfChange (c : TrfChange) (s : State) : State :=
  let i := c.index
  let fill := if c.fill then 1024 else 0
  let s :=
    if c.policer then
      let m := c.mode
      setPolicer i { s.policer i with twoRate := bit m 1, aware := bit m 2, yellowDrop := bit m 3, redPass := bit m 4,
                                      cbs := c.burst, ebs := c.burst2, cir := c.rate, pir := c.rate2,
                                      tc := c.burst * fill, te := c.burst2 * fill } s
    else
      let en := bit c.mode 0
      setShaper i { s.shaper i with rate := c.rate, enable := en, burst := c.burst,
                                    tokens := if en then c.burst * fill else 0 } s
  raise 0x0801 none [(2, i), (1, b2n c.policer), (1, b2n c.fill)] s

/-- The pending change of a port applied, with its result. -/
def applyPending (p : Nat) (s : State) : State :=
  match look p s.trf.pending with
  | none => s
  | some c =>
    s |> trfChange c |> onTrf (fun t => { t with pending := del p t.pending })
      |> result .TRF_RESULT_STATUS .TRF_RESULT_DONE p Status.ok

/-- Whether a composition switch is due that comes before this tick (R426). -/
def switchFirst (s : State) : Bool := s.time.evts.any (fun e => e.2.kind == 1 && e.2.st == 1 && decide (e.2.ft ≤ s.ft))

/-- BUCKET_TICK: the ticks since the last one; port A's change first, then port B's, then the refill. -/
def bucketTick (s : State) : State :=
  let e := s.im.refillExp
  let n := s.ft / 2 ^ e - s.trf.tickAt / 2 ^ e
  if s.comp.image = none ∨ n = 0 ∨ switchFirst s then s
  else
    let s := s |> applyPending 0 |> applyPending 1
    let s := forEach (liveShapers s) (fun i s => setShaper i ((s.shaper i).refill e n) s) s
    let s := forEach (livePolicers s) (fun j s => setPolicer j ((s.policer j).refill e n) s) s
    onTrf (fun t => { t with tickAt := s.ft }) s

def execBucketTick (s : State) : Result := done (live bucketTick s)

/-! ### TRF_APPLY (R425) -/

/-- The change that a port's staging registers spell. -/
def stagedChange (s : State) (p : Nat) (fill : Bool) : TrfChange :=
  { policer := s.rg .TRF_SEL_POLICER p == 1, index := s.rg .TRF_SEL_INDEX p,
    mode := s.rg .TRF_SET_MODE_ENABLE p + s.rg .TRF_SET_MODE_TWO_RATE p * 2 + s.rg .TRF_SET_MODE_AWARE p * 4 +
      s.rg .TRF_SET_MODE_YELLOW_DROP p * 8 + s.rg .TRF_SET_MODE_RED_PASS p * 16,
    rate := s.rg .TRF_SET_RATE_RATE p, burst := s.rg .TRF_SET_BURST_BURST p, rate2 := s.rg .TRF_SET_RATE2_PIR p,
    burst2 := s.rg .TRF_SET_BURST2_BURST2 p, fill := fill }

/-- Whether the fields of a change are in range (R411, R417, R425). -/
def TrfChange.well (c : TrfChange) : Bool :=
  if c.policer then
    decide (c.index < 256) && rateOk c.rate && burstOk c.burst && burstOk c.burst2 &&
    (if bit c.mode 1 then rateOk c.rate2 && decide (c.rate ≤ c.rate2) else c.rate2 == 0)
  else c.index % 4 != 0 && (!bit c.mode 0 || rateOk c.rate && burstOk c.burst)

/-- Whether the carriage of a change's shaper or policer is valid. A policer whose record is not VALID has none (R417; DEDUCED,
assumption 34). -/
def changeCarOk (s : State) (c : TrfChange) : Bool :=
  if c.policer then (s.policer c.index).valid && s.im.carValid (s.policer c.index).car else s.im.carValid (c.index / 32)

/-- TRF_APPLY: staged for the next tick, in place of one that waits, or refused at once. -/
def trfApply (p : Nat) (fill : Bool) (s : State) : State :=
  let c := stagedChange s p fill
  match firstFail [(c.well, Status.badCommand), (changeCarOk s c, Status.accessDenied)] with
  | some st => result .TRF_RESULT_STATUS .TRF_RESULT_DONE p st s
  | none => onTrf (fun t => { t with pending := put p c t.pending }) s

def execTrfApply (p : Port) (fill : Bool) (s : State) : Result :=
  done (live (access p.idx 0x80001C (trfApply p.idx fill)) s)

/-! ### SHAPER_REFILL (R412, R426) -/

/-- The bucket of shaper ARG set to BURST, unless ARG is foreign or of class 0 (event 0x0805). -/
def refillEntry (i : Nat) (e : Evt) (s : State) : State :=
  let x := s.shaper e.arg
  if 512 ≤ e.arg ∨ e.arg % 4 = 0 ∨ e.arg / 32 ≠ e.car then raise 0x0805 (some e.car) [(2, i)] s
  else if x.enable then setShaper e.arg { x with tokens := x.burst * 1024 } s
  else s

/-- SHAPER_REFILL: the entry fires after the refill of a tick at the same time. -/
def shaperRefill (i : Nat) (s : State) : State :=
  if evtFires s i 4 then fireEntry i 4 (refillEntry i) (bucketTick s) else s

def execShaperRefill (i : Fin 256) (s : State) : Result := done (live (shaperRefill i.val) s)

/-! ### A new image (R427) -/

/-- A shaper under a new image: its bucket keeps its tokens where the record equals the values in force. -/
def shaperSwitch (s : State) (new : Image) (i : Nat) : Shaper :=
  let a := s.shaper i
  let b := new.shaper i
  if a = { b with tokens := a.tokens } then a
  else { b with tokens := if b.enable && b.onSwitch then b.burst * 1024 else 0 }

/-- A policer under a new image. -/
def policerSwitch (s : State) (new : Image) (j : Nat) : Policer :=
  let a := s.policer j
  let b := new.policer j
  if a = { b with tc := a.tc, te := a.te } then a
  else { b with tc := if b.onSwitch then b.cbs * 1024 else 0, te := if b.onSwitch then b.ebs * 1024 else 0 }

/-- A change that waits is discarded (event 0x0802). -/
def dropPending (p : Nat) (s : State) : State :=
  if has p s.trf.pending then
    s |> onTrf (fun t => { t with pending := del p t.pending })
      |> result .TRF_RESULT_STATUS .TRF_RESULT_DONE p Status.staleEpoch |> raise 0x0802 none []
  else s

/-- Every shaper and policer takes the values of a new image; changes that wait are discarded. -/
def trafficSwitch (new : Image) (s : State) : State :=
  let sh := ((List.range 512).map (fun i => (i, shaperSwitch s new i))).filter (fun x => x.2.enable || x.2 != new.shaper x.1)
  let po := ((List.range 256).map (fun j => (j, policerSwitch s new j))).filter (fun x => x.2 != new.policer x.1)
  s |> onTrf (fun t => { t with shapers := sh, policers := po }) |> dropPending 0 |> dropPending 1

end Sys2Proof.Machine
end

