-- ==== Sys2Proof/Machine/Rma.lean ====
section
/-! DEFINITION. Remote memory operations and the transport's answers: RMA_WRITE, RMA_READ, RMA_RESP, ACK, NAK,
retransmission, expiry, answer windows and the port commands (R383 to R397, R400, R402). -/

namespace Sys2Proof.Machine

open Sys2Proof

/-! ### Answer windows (R397) -/

/-- The answer windows: 16 on each half, 1 MiB each. -/
def windowCount : Nat := 32
def windowSize : Nat := 1048576

/-- A free window, with the generation it has once reused. -/
def windowPick (s : State) : Option (Nat × Nat) :=
  (pickBelow windowCount (fun w => (look w s.prt.windows).all (fun x => x.op.isNone)) s).map (fun w =>
    (w, ((look w s.prt.windows).map (fun x => (x.gen + 1) % 65536)).getD 0))

/-- A window opened for an operation. -/
def windowOpen (w gen op : Nat) (s : State) : State :=
  onPrt (fun x => { x with windows := put w { gen := gen, op := some op, data := [] } x.windows }) s

/-- The window of an operation that ended is free again. -/
def windowClose (op : Nat) (s : State) : State :=
  onPrt (fun x => { x with windows := x.windows.map (fun w =>
    if w.2.op = some op then (w.1, { w.2 with op := none, data := [] }) else w) }) s

/-! ### The end of an operation (R388, R389, R392, R402) -/

/-- A command's answer: an RMA_READ's bytes go to host memory, a PARK_XFER's to the resume that asked for them, and any
other command ends with the answer's status. -/
def answerCmd (k : Nat) (e : SendOp) (status reason detail : Nat) (data : List Byte) (s : State) : State :=
  match s.cmd k with
  | none => s
  | some c =>
    if status = Status.ok ∧ e.mtype = MTy.parkXfer then setCmd k { c with buf := c.buf ++ data } s
    else if status = Status.ok then
      s |> when (e.mtype == MTy.rmaRead) (hostWrite k (u64 c.bytes 32) data) |> complete k status detail (u32 c.bytes 40)
    else complete k status detail (reason * 2 ^ 56) s

/-- An operation ends: its entry and its window are free, a notice that waits for a reserved entry takes the one of a notice
that ended, and the command that waits for the operation goes on. -/
def opEnd (op status reason detail : Nat) (data : List Byte) (s : State) : State :=
  match look op s.prt.ops with
  | none => s
  | some e =>
    let s := s |> onPrt (fun x => { x with ops := del op x.ops }) |> windowClose op |> when e.notice sendWaitingNotice
    whenSome e.cmd (fun k => answerCmd k e status reason detail data) s

/-- Whether a received answer belongs to an operation: it comes from the operation's destination. -/
def answersOp (s : State) (src op : Nat) : Bool := (look op s.prt.ops).any (fun e => H.dest e.hdr == src)

/-- ACK (R388). -/
def fabricAck (src op : Nat) (s : State) : State :=
  match look (answerKey src op) s.prt.rx with
  | none => s
  | some e =>
    if H.mtype e.hdr ≠ MTy.ack then s
    else
      s |> rxFree (answerKey src op)
        |> when (answersOp s src op) (opEnd op (H.status e.hdr) (H.reason e.hdr) (H.detail e.hdr) [])

def execAck (src : BitVec 12) (op : BitVec 32) (s : State) : Result := done (live (fabricAck src.toNat op.toNat) s)

/-- NAK (R392). -/
def fabricNak (src op : Nat) (s : State) : State :=
  match look (answerKey src op) s.prt.rx with
  | none => s
  | some e =>
    if H.mtype e.hdr ≠ MTy.nak then s
    else
      s |> rxFree (answerKey src op)
        |> when (answersOp s src op) (opEnd op (H.status e.hdr) (H.reason e.hdr) (H.detail e.hdr) [])

def execNak (src : BitVec 12) (op : BitVec 32) (s : State) : Result := done (live (fabricNak src.toNat op.toNat) s)

/-- An operation that ends LATE is counted and recorded, a notice also as such (R389, R519). -/
def noteLate (e : SendOp) (s : State) : State :=
  s |> bump .PRT_C_LATE_OPS_COUNT e.car 1 |> raiseFirst 0x070A e.car (some e.car) [(2, H.dest e.hdr), (1, e.mtype)]
    |> when (e.mtype == MTy.faultNotice) (fun s => s |> bump .RAS_NOTICE_LATE_COUNT 0 1 |> raise 0x0C02 none [(2, H.dest e.hdr)])

/-- The wait of an operation after its last send, in nanoseconds: each later wait doubles the previous one. -/
def retryWait (s : State) (e : SendOp) : Nat := max 1 (s.rg .PRT_RTO_BASE_US 0) * 1000 * 2 ^ (e.sends - 1)

/-- RETRANSMIT_TIMEOUT (R389). -/
def retransmit (op : Nat) (s : State) : State :=
  match look op s.prt.ops with
  | none => s
  | some e =>
    if s.clk < e.sentAt + retryWait s e then s
    else if e.sends ≤ s.rg .PRT_RTO_RETRIES 0 then
      s |> onPrt (fun x => { x with ops := put op { e with sends := e.sends + 1, sentAt := s.clk } x.ops })
        |> bump .PRT_C_RETX_COUNT e.car 1 |> sendPackets e.hdr e.payload true
    else s |> noteLate e |> opEnd op Status.late 0 0 []

def execRetransmitTimeout (op : BitVec 32) (s : State) : Result := done (live (retransmit op.toNat) s)

/-! ### Pages as regions (R165, R393) -/

/-- Bytes of an area of a page: data area, side area, directory entry. -/
def areaSize (im : Image) : Nat → Nat
  | 0 => im.dataArea
  | 1 => im.dataArea / 32
  | _ => 128

/-- Where an area begins in a frame. -/
def areaBase (im : Image) (area : Nat) : Nat := if area = 1 then im.dataArea else 0

/-- The retry hint of a TIER 2 page (Table PARK-1). -/
def retryHint (s : State) (p c : Nat) : Nat :=
  if (seqsOfPage s p).any (fun q => q.2.st == 6) then 100 else s.rg .BDG_PARK_C_HINT_US c

/-- The generation of a page index. -/
def pageGen (s : State) (p : Nat) : Nat := lookD p 0 s.seq.gens

/-- The first failed check of a packet for a page, in the order of R17 (R393, Tables PARK-1, FLT-5). -/
def rmaFault (s : State) (e : RxEntry) (write : Bool) : Option Nat :=
  let h := e.hdr
  let area := H.rflags h % 4
  let g := look (H.rkey h) s.seq.pages
  let inFrame := decide (area < 2)
  firstFail [
    (H.rkind h == 1 && decide (H.rflags h < 3) && decide (H.roff h + H.msgLen h ≤ areaSize s.im area), Status.badCommand),
    (!(write && !inFrame) && g.all (fun g => g.car == H.car h && !(write && (g.sealed_ || decide (1 < g.refs))) &&
      !(inFrame && keyFault s g == some Status.accessDenied)), Status.accessDenied),
    (e.epochUse (H.epoch h) != .stale, Status.staleEpoch),
    (g.isSome && H.rgen h == pageGen s (H.rkey h), Status.staleGen),
    (g.all (fun g => !(inFrame && keyFault s g == some Status.keyRetired)), Status.keyRetired),
    (g.all (fun g => !(inFrame && g.comp) || bufferServes s (locHalf s g.loc)), Status.claimed),
    (!write || !pageParked s (H.rkey h), Status.frozen),
    (s.timeServes, Status.timeHoldover),
    (g.all (fun g => g.loc != .cold), Status.retryAfter),
    (!pageHeld s (H.rkey h), Status.aborted)]

/-- What a refusal counts and records. -/
def noteRefusal (h : List Byte) (st : Nat) (s : State) : State :=
  let c := H.car h
  if st = Status.staleGen then
    s |> bump .PRT_C_STALE_GEN_COUNT c 1
      |> raiseFirst 0x070B c (some c) [(2, H.src h), (4, H.rkey h), (2, H.rgen h), (2, pageGen s (H.rkey h))]
  else if st = Status.retryAfter then bump .BDG_PARK_C_RETRY_COUNT c 1 s
  else if st = Status.claimed then refuseBuffer c s
  else if st = Status.staleEpoch then countStale s
  else noteKey st (look (H.rkey h) s.seq.pages) c s

/-- The packets of an RMA_WRITE that were written, as spans of its page's frame. -/
def writtenSpans (s : State) (key : Nat × Nat) (e : RxEntry) : List (Nat × Nat) :=
  let held := s.prt.paging.filterMap (fun x => if (H.src x.body, H.opId x.body) = key then some (H.msgOff x.body / 4096) else none)
  let kept := e.parts.map (fun p => p.1 / 4096)
  (e.got.filter (fun i => decide (i ∉ held) && decide (i ∉ kept))).map (fun i =>
    (areaBase s.im (H.rflags e.hdr % 4) + H.roff e.hdr + 4096 * i, min 4096 (H.msgLen e.hdr - 4096 * i)))

/-- Bytes that an operation which did not complete has written are undefined (R386): free values, where the page is still
the one written (assumption 19). -/
def undefineWrites (key : Nat × Nat) (e : RxEntry) (s : State) : State :=
  match look (H.rkey e.hdr) s.seq.pages with
  | none => s
  | some g =>
    if H.mtype e.hdr ≠ MTy.rmaWrite ∨ H.rgen e.hdr ≠ pageGen s (H.rkey e.hdr) ∨ g.sealed_ then s
    else
      forEach (writtenSpans s key e) (fun x s =>
        if canWrite s g.loc x.1 x.2 then freeTaken (writeLoc g.loc x.1 (leBytes x.2 (freeNow s)) s) else s) s

/-- Packets of a message that wait in the paging buffer dropped. -/
def dropPaging (key : Nat × Nat) (s : State) : State :=
  onPrt (fun x => { x with paging := x.paging.filter (fun y => decide ((H.src y.body, H.opId y.body) ≠ key)) }) s

/-- A message for a page refused: NAK, with its counts, and nothing more of it is placed. -/
def rmaRefuse (key : Nat × Nat) (e : RxEntry) (st : Nat) (s : State) : State :=
  let detail := if st = Status.retryAfter then retryHint s (H.rkey e.hdr) e.car else 0
  s |> undefineWrites key e |> dropPaging key |> noteRefusal e.hdr st |> nakMsg key e st 0 detail

/-! ### The paging buffer (R394) -/

/-- Bytes of the paging buffer in use: 8 MiB in all. -/
def pagingUsed (s : State) : Nat := sumOf (fun x => x.body.length) s.prt.paging

/-- A packet of a message rebuilt from the message's header. -/
def packetAt (e : RxEntry) (off : Nat) (d : List Byte) : List Byte :=
  overwrite (overwrite e.hdr 10 (leBytes 2 d.length)) 20 (leBytes 4 off) ++ d

/-- A packet held for its TIER 1 page, or dropped where the buffer is full: then its bytes are not counted. -/
def stallPacket (key : Nat × Nat) (e : RxEntry) (off : Nat) (d : List Byte) (s : State) : State :=
  let b := packetAt e off d
  if pagingUsed s + b.length ≤ 8388608 then
    s |> bump .PRT_C_STALLS_COUNT e.car 1 |> onPrt (fun x => { x with paging := x.paging ++ [{ body := b, since := s.clk }] })
  else
    let n := if H.mtype e.hdr = MTy.rmaRead then H.msgLen e.hdr else d.length
    let e := { e with got := remSet (off / 4096) e.got, count := e.count - n, complete := false }
    let s := if H.mtype e.hdr = MTy.rmaRead then rxFree key s else onPrt (fun x => { x with rx := put key e x.rx }) s
    s |> bump .PRT_C_PAGING_DROP_COUNT e.car 1 |> raiseFirst 0x070F 0 (some e.car) []

/-! ### RMA_WRITE (R385, R388, R393 to R395) -/

/-- The answer of an RMA_WRITE once every packet is written. -/
def rmaWritten (key : Nat × Nat) (s : State) : State :=
  match look key s.prt.rx with
  | none => s
  | some e =>
    let held := s.prt.paging.any (fun x => (H.src x.body, H.opId x.body) == key)
    if e.complete && e.parts.isEmpty && !held then ackMsg key e Status.ok 0 0 s else s

/-- One packet's bytes put into the frame of its page. -/
def rmaPlace (key : Nat × Nat) (e : RxEntry) (g : Page) (off : Nat) (d : List Byte) (s : State) : State :=
  let a := areaBase s.im (H.rflags e.hdr % 4) + H.roff e.hdr + off
  if canWrite s g.loc a d.length then writeLoc g.loc a d s
  else s |> noteRead g.loc a d.length |> rmaRefuse key e Status.uncorrectable

/-- One packet checked, then written or held. -/
def rmaWritePart (key : Nat × Nat) (p : Nat × List Byte) (s : State) : State :=
  match look key s.prt.rx with
  | none => s
  | some e =>
    let e := { e with parts := e.parts.filter (fun x => x.1 != p.1) }
    let s := onPrt (fun x => { x with rx := put key e x.rx }) s
    match rmaFault s e true, look (H.rkey e.hdr) s.seq.pages with
    | some st, _ => rmaRefuse key { e with got := remSet (p.1 / 4096) e.got } st s
    | none, none => s
    | none, some g => if g.loc.isCxl then stallPacket key e p.1 p.2 s else rmaPlace key e g p.1 p.2 s

/-- RMA_WRITE: every packet that has arrived is checked by itself and placed. -/
def rmaWrite (src op : Nat) (s : State) : State :=
  match look (src, op) s.prt.rx with
  | none => s
  | some e =>
    if H.mtype e.hdr ≠ MTy.rmaWrite then s
    else if e.tooLate s then rmaRefuse (src, op) e Status.aborted s
    else if e.epochUse (H.epoch e.hdr) == .hold then
      onPrt (fun x => { x with rx := put (src, op) { e with held := true } x.rx }) s
    else s |> forEach e.parts (rmaWritePart (src, op)) |> rmaWritten (src, op)

def execRmaWrite (src : BitVec 12) (op : BitVec 32) (s : State) : Result := done (live (rmaWrite src.toNat op.toNat) s)

/-! ### RMA_READ and RMA_RESP (R395 to R397) -/

/-- The bytes of an area of a page: none where they cannot be read. -/
def areaBytes (s : State) (p : Nat) (g : Page) (area off n : Nat) : Option (List Byte) :=
  if area = 2 then (if dirReadable s p then some (slice (dirBytes s p) off n) else none)
  else if canReadPage s g (areaBase s.im area + off) n then some (pageSlice s g (areaBase s.im area + off) n)
  else none

/-- A page held until the last packet of the answer to an RMA_READ has left (R395). -/
def holdRead (key : Nat × Nat) (p : Nat) (s : State) : State :=
  onPrt (fun x => { x with reads := (x.reads.filter (fun r => answering s r.1)) ++ [(key, p)] }) s

/-- The bytes of a request answered. -/
def respond (key : Nat × Nat) (e : RxEntry) (d : List Byte) (s : State) : State :=
  let h := e.hdr
  s |> rxFree key |> sendPlain { answerHdr e MTy.rmaResp with
    rkind := H.respKind h, rgen := H.respGen h, rkey := H.respKey h, roff := H.respOff h, msgLen := d.length } key.2 d

/-- An RMA_READ served from its page. -/
def rmaServe (key : Nat × Nat) (e : RxEntry) (g : Page) (s : State) : State :=
  let h := e.hdr
  let p := H.rkey h
  let area := H.rflags h % 4
  let s := if area = 2 then noteSpan (dirAddr p) 128 s else notePage g (areaBase s.im area + H.roff h) (H.msgLen h) s
  match areaBytes s p g area (H.roff h) (H.msgLen h) with
  | none => rmaRefuse key e Status.uncorrectable s
  | some d =>
    if area < 2 ∧ g.comp ∧ g.sealed_ ∧ pageDigest s g ≠ g.digest then
      s |> digestFail p g.car 0x86 |> rmaRefuse key e Status.uncorrectable
    else s |> respond key e d |> holdRead key p

/-- RMA_READ. -/
def rmaRead (src op : Nat) (s : State) : State :=
  match look (src, op) s.prt.rx with
  | none => s
  | some e =>
    if H.mtype e.hdr ≠ MTy.rmaRead ∨ s.prt.paging.any (fun x => (H.src x.body, H.opId x.body) == (src, op)) then s
    else if e.tooLate s then rmaRefuse (src, op) e Status.aborted s
    else if e.epochUse (H.epoch e.hdr) == .hold then
      onPrt (fun x => { x with rx := put (src, op) { e with held := true } x.rx }) s
    else
      match rmaFault s e false, look (H.rkey e.hdr) s.seq.pages with
      | some st, _ => rmaRefuse (src, op) e st s
      | none, none => s
      | none, some g =>
        if g.loc.isCxl ∧ H.rflags e.hdr % 4 < 2 then stallPacket (src, op) e 0 [] s else rmaServe (src, op) e g s

def execRmaRead (src : BitVec 12) (op : BitVec 32) (s : State) : Result := done (live (rmaRead src.toNat op.toNat) s)

/-- Whether a response's packet belongs to a current window (R397). -/
def windowCurrent (s : State) (h : List Byte) : Bool :=
  H.rkind h == 2 && decide (H.roff h + H.msgLen h ≤ windowSize) &&
  (look (H.rkey h) s.prt.windows).any (fun w => w.gen == H.rgen h && w.op == some (H.opId h)) && answersOp s (H.src h) (H.opId h)

/-- RMA_RESP: packets go to their window; the last one ends the operation. -/
def rmaResp (src op : Nat) (s : State) : State :=
  match look (answerKey src op) s.prt.rx with
  | none => s
  | some e =>
    if H.mtype e.hdr ≠ MTy.rmaResp then s
    else if windowCurrent s e.hdr = false then s |> rxFree (answerKey src op) |> bump .PRT_C_STALE_GEN_COUNT e.car e.parts.length
    else
      let add := fun (w : Window) => { w with data := e.parts.foldl (fun d p => overwrite d (H.roff e.hdr + p.1) p.2) w.data }
      let s := onPrt (fun x => { x with windows := upd (H.rkey e.hdr) add x.windows, rx := put (answerKey src op) { e with parts := [] } x.rx }) s
      if e.complete then
        let d := ((look (H.rkey e.hdr) s.prt.windows).map (fun w => slice w.data (H.roff e.hdr) (H.msgLen e.hdr))).getD []
        s |> rxFree (answerKey src op) |> opEnd op Status.ok 0 0 d
      else s

def execRmaResp (src : BitVec 12) (op : BitVec 32) (s : State) : Result := done (live (rmaResp src.toNat op.toNat) s)

/-! ### PAGING_SERVED (R334, R394) -/

/-- A page moved at once to a free HBM frame (R203). -/
def moveNow (p : Nat) (g : Page) (s : State) : Option State :=
  (takeHbm g.car (locHalf s g.loc) (.moveDest p) s).map (fun f =>
    let m : Move := { dest := .hbm f.1.1 f.1.2, comp := none, cmd := none, half := locHalf s g.loc, car := g.car }
    moveTo p m g (false, 0) (beginMove p m f.2))

/-- A held write served: a compressed page goes to TIER 0 first. -/
def servePagedWrite (key : Nat × Nat) (e : RxEntry) (g : Page) (off : Nat) (d : List Byte) (s : State) : State :=
  if g.comp then
    match moveNow (H.rkey e.hdr) g s with
    | none => rmaRefuse key e Status.noPage s
    | some s =>
      match look (H.rkey e.hdr) s.seq.pages with
      | some g => rmaPlace key e g off d s
      | none => s
  else rmaPlace key e g off d s

/-- Whether a held write must wait: its compressed page cannot begin its move to TIER 0 yet (R199). -/
def pagedWaits (s : State) (write : Bool) (g : Page) : Bool :=
  write && g.comp && g.loc.isCxl && (!moveRoom s g.car (locHalf s g.loc) || g.moving)

/-- PAGING_SERVED: the oldest packet of the paging buffer is checked again and served. -/
def pagingServed (s : State) : State :=
  match s.prt.paging with
  | [] => s
  | x :: rest =>
    let key := (H.src x.body, H.opId x.body)
    let t := s
    let s := onPrt (fun y => { y with paging := rest }) s
    match look key s.prt.rx with
    | none => s
    | some e =>
      let write := H.mtype e.hdr == MTy.rmaWrite
      match rmaFault s e write, look (H.rkey e.hdr) s.seq.pages with
      | some st, _ => rmaRefuse key e st s
      | none, none => s
      | none, some g =>
        if pagedWaits t write g then t
        else if write then s |> servePagedWrite key e g (H.msgOff x.body) (x.body.drop 104) |> rmaWritten key else rmaServe key e g s

def execPagingServed (s : State) : Result := done (live pagingServed s)

/-! ### Expiry (R386, R392) -/

/-- A receive entry that did not complete in time is freed. -/
def rxExpireAt (key : Nat × Nat) (s : State) : State :=
  match look key s.prt.rx with
  | none => s
  | some e =>
    if e.complete ∨ s.clk < e.since + max 1 (s.rg .PRT_RX_TIMEOUT_US 0) * 1000 then s
    else s |> undefineWrites key e |> dropPaging key |> rxFree key |> bump .PRT_C_RX_EXPIRED_COUNT e.car 1

/-- RX_ENTRY_EXPIRE: the entry of a request, and that of an answer with the same (SRC, OP_ID). -/
def rxExpire (src op : Nat) (s : State) : State := s |> rxExpireAt (src, op) |> rxExpireAt (answerKey src op)

def execRxEntryExpire (src : BitVec 12) (op : BitVec 32) (s : State) : Result := done (live (rxExpire src.toNat op.toNat) s)

/-- NAK_FILTER_EXPIRE: a filter entry lapses after 100 µs. -/
def nakFilterExpire (src op : Nat) (s : State) : State :=
  match look (src, op) s.prt.nakf with
  | some t => if t + 100000 ≤ s.clk then onPrt (fun x => { x with nakf := del (src, op) x.nakf }) s else s
  | none => s

def execNakFilterExpire (src : BitVec 12) (op : BitVec 32) (s : State) : Result :=
  done (live (nakFilterExpire src.toNat op.toNat) s)

/-! ### FAULT_NOTICE (R400, R520) -/

/-- FAULT_NOTICE: it is acknowledged and recorded, and the latest notice's registers name it. -/
def faultNotice (src op : Nat) (e : RxEntry) (s : State) : State :=
  let m := e.message
  let node := u16 m 0 % 4096
  s |> bump .RAS_NOTICE_RX_COUNT 0 1 |> setRg .RAS_LAST_RX_NODE 0 node |> setRg .RAS_LAST_RX_CAUSE 0 (u8 m 2)
    |> raise 0x070E none [(2, node), (1, u8 m 2)] |> notifyBoth |> ackMsg (src, op) e Status.ok 0 0

def execFaultNotice (src : BitVec 12) (op : BitVec 32) (s : State) : Result :=
  done (live (withMsg src.toNat op.toNat MTy.faultNotice (faultNotice src.toNat op.toNat)) s)

/-! ### Port commands (R402, Table PRT-13) -/

/-- The message of a port command. -/
def cmdHdr (c : Cmd) (ty : Nat) : Hdr :=
  let b := c.bytes
  { mtype := ty, flags := if ty = MTy.rmaRead then 0 else 8, dest := u16 b 12, car := Op.car b, epoch := Op.epoch b, rkind := 1,
    rflags := u8 b 14, rgen := u16 b 20, rkey := u32 b 16, roff := u64 b 24, msgLen := u32 b 40 }

/-- Whether a message has a way to its destination (R380, R402). -/
def reachable (s : State) (h : Hdr) : Bool :=
  h.dest == s.nodeId || !(candidates s (h.bytes s.nodeId 0 s.ft 0 0) none).isEmpty

/-- The checks of a port command: status and reason. -/
def portCmdFault (s : State) (c : Cmd) (ty : Nat) : Option (Nat × Nat) :=
  let b := c.bytes
  let len := u32 b 40
  let private_ := s.im.protected_ (Op.car b) && !qConf s c.q
  if (decide (u16 b 12 < 4096) && decide (u8 b 14 < 16) && decide (1 ≤ len) && decide (len ≤ windowSize)) = false then
    some (Status.badCommand, 0)
  else if private_ then some (Status.accessDenied, 0)
  else if reachable s (cmdHdr c ty) = false then some (Status.accessDenied, 30)
  else if s.timeServes = false then some (Status.timeHoldover, 0)
  else none

/-- A port command checked, then run; one that has been sent waits for its answer. -/
def portCmd (ty : Nat) (k : Nat) (c : Cmd) (f : State → State) (s : State) : State :=
  if 2 ≤ c.phase then s
  else
    match if c.phase = 0 then portCmdFault s c ty else none with
    | some r => completeReason k r.1 r.2 s
    | none => f s

/-- A port command's message sent once its carriage has an operation entry; until then it waits (assumption 20). -/
def portSend (k : Nat) (c : Cmd) (h : Hdr) (d : List Byte) (s : State) : State :=
  if s.opFree (Op.car c.bytes) then s |> setCmd k { c with phase := 2 } |> sendOp h d (some k) none false else s

/-- RMA_WRITE_CMD. -/
def rmaWriteCmd (k : Nat) (c : Cmd) (s : State) : State :=
  portCmd MTy.rmaWrite k c
    (withData k c (u64 c.bytes 32) (u32 c.bytes 40) (fun d => portSend k c (cmdHdr c MTy.rmaWrite) d)) s

def execRmaWriteCmd (k : Nat) (s : State) : Result := done (live (withCmd k 5 0x01 (rmaWriteCmd k)) s)

/-- RMA_READ_CMD: through a window, for which it waits. -/
def rmaReadCmd (k : Nat) (c : Cmd) (s : State) : State :=
  portCmd MTy.rmaRead k c (fun s =>
    match windowPick s with
    | some w =>
      let h := { cmdHdr c MTy.rmaRead with respKind := 2, respGen := w.2, respKey := w.1 }
      if s.opFree (Op.car c.bytes) then
        s |> freeTaken |> setCmd k { c with phase := 2 } |> (fun s => windowOpen w.1 w.2 (nextOpId s) s)
          |> sendOp h [] (some k) (some w) false
      else s
    | none => s) s

def execRmaReadCmd (k : Nat) (s : State) : Result := done (live (withCmd k 5 0x02 (rmaReadCmd k)) s)

/-- The checks of a PAGE_SEND's source page. -/
def pageSendFault (s : State) (c : Cmd) : Option Nat :=
  let b := c.bytes
  let g := look (u32 b 32) s.seq.pages
  firstFail [
    (g.any (fun g => g.loc != .cold) && decide (u8 b 36 ≤ 1) && decide (u32 b 40 ≤ areaSize s.im (u8 b 36)), Status.badCommand),
    (g.any (fun g => g.car == Op.car b && keyFault s g != some Status.accessDenied), Status.accessDenied),
    (g.all (fun g => keyFault s g != some Status.keyRetired), Status.keyRetired),
    (g.all (fun g => !g.comp || bufferServes s (locHalf s g.loc)), Status.claimed)]

/-- PAGE_SEND: the source page is checked first. -/
def pageSend (k : Nat) (c : Cmd) (s : State) : State :=
  let b := c.bytes
  let p := u32 b 32
  let area := u8 b 36
  match if c.phase = 0 then pageSendFault s c else none, look p s.seq.pages with
  | some st, _ => s |> noteKey st (look p s.seq.pages) (Op.car b) |> when (st == Status.claimed) (refuseBuffer (Op.car b)) |> complete k st 0 0
  | none, none => if 2 ≤ c.phase then s else complete k Status.badCommand 0 0 s
  | none, some g =>
    portCmd MTy.rmaWrite k c (fun s =>
      let s := notePage g (areaBase s.im area) (u32 b 40) s
      match areaBytes s p g area 0 (u32 b 40) with
      | none => complete k Status.uncorrectable 0 0 s
      | some d =>
        if g.comp ∧ g.sealed_ ∧ pageDigest s g ≠ g.digest then s |> digestFail p g.car 3 |> complete k Status.uncorrectable 0 0
        else portSend k c (cmdHdr c MTy.rmaWrite) d s) s

def execPageSend (k : Nat) (s : State) : Result := done (live (withCmd k 5 0x03 (pageSend k)) s)

end Sys2Proof.Machine
end

