-- ==== Sys2Proof/Machine/Upsets.lean ====
section
/-! DEFINITION. Uncorrectable words of the port's buffers (R467, R468). -/

namespace Sys2Proof.Machine

open Sys2Proof

/-- The name of the context that a coupling input's first packet gives, and its slot there. -/
def RxEntry.slotName (e : RxEntry) : Option (CtxName × Nat) :=
  if H.mtype e.hdr = MTy.attnPart ∧ e.coach = some 0 then
    e.firstPacket.map (fun b => let m := parsePartMsg b; (m.name, m.slot))
  else none

/-- The slot of an input that is not merged yet taken from its context. -/
def dropInput (n : CtxName) (i : Nat) (s : State) : State :=
  whenSome (s.dctx n) (fun c => when ((look i c.slots).any (fun x => !x.merged)) (setDctx n { c with slots := del i c.slots })) s

/-- A coach that has not started leaves coach memory without a contribution. -/
def dropWaitingCoach (id : Nat) (s : State) : State :=
  if (s.coach id).any (fun c => !c.open_ && c.cmd.isNone) then dropCoach id s else s

/-- A message dropped without an answer, with what waits of it: its packets in the paging buffer, the coach whose header it is,
the slot it fills. -/
def dropMessage (key : Nat × Nat) (s : State) : State :=
  match look key s.prt.rx with
  | none => s
  | some e =>
    s |> undefineWrites key e |> dropPaging key |> rxFree key |> whenSome e.slotName (fun x => dropInput x.1 x.2)
      |> when (H.mtype e.hdr == MTy.attnReq) (whenSome e.coach dropWaitingCoach)

/-- The messages that fill a slot. -/
def slotMessages (s : State) (n : CtxName) (i : Nat) : List (Nat × Nat) :=
  (s.prt.rx.filter (fun e => e.2.slotName == some (n, i))).map Prod.fst

/-- A context that has lost its accumulators sends nothing and holds its name only (Table MEM-1, R319). -/
def dropContext (n : CtxName) (s : State) : State :=
  whenSome (s.dctx n) (fun c => setDctx n { c with sent := true, blocks := 0, slots := [], acc := [] }) s

/-- What an uncorrectable word drops: the message, coach, coupling slot or context that holds it, or the link frame of a replay
buffer. No rule gives the loss an answer or an event; it is recovered as any loss of that traffic (R468). -/
def dropWord (w : PortWord) (s : State) : State :=
  match w with
  | .message src op => dropMessage (src.toNat, op.toNat) s
  | .answer src op => dropMessage (answerKey src.toNat op.toNat) s
  | .coach id => s |> dropWaitingCoach id |> forEach (s.prt.rx.filter (fun e => H.mtype e.2.hdr == MTy.attnReq && e.2.coach == some id))
      (fun e => rxFree e.1)
  | .slot g r tag i =>
    let n := (g.toNat, r.toNat, tag.toNat)
    s |> forEach (slotMessages s n i.val) dropMessage |> dropInput n i.val
  | .context g r tag => dropContext (g.toNat, r.toNat, tag.toNat) s
  | .replay l lseq =>
    let k := s.link l.val
    setLink l.val { k with replay := k.replay.filter (fun e => e.1.lseq != lseq.toNat) } s

def dropWords (ws : List PortWord) (s : State) : State := forEach ws dropWord s

end Sys2Proof.Machine
end

