-- ==== Sys2Proof/Machine/Ingress.lean ====
section
/-! DEFINITION. What arrives on a fabric link: acknowledgements, credits, errors and DATA frames (R369 to R373,
R379 to R382, R413, R422, R423), and the output's schedule (R419 to R422). -/

namespace Sys2Proof.Machine

open Sys2Proof

/-! ### Acknowledgement and replay (R371) -/

/-- Frames up to and with an LSEQ are acknowledged. -/
def linkAckUpTo (l seq : Nat) (s : State) : State :=
  let k := s.link l
  let rest := k.replay.filter (fun e => !seqLe 24 e.1.lseq seq)
  let n := if rest.length < k.replay.length then 0 else k.replays
  setLink l { k with replay := rest, replays := n, lastRx := s.clk } s

/-- LACK. -/
def lack (l seq : Nat) (s : State) : State := if (s.link l).open_ then s |> linkGot l 24 |> linkAckUpTo l seq else s

def execLack (l : Fin 8) (seq : BitVec 24) (s : State) : Result := done (live (lack l.val seq.toNat) s)

/-- One more replay: the eighth in a row of one frame takes the link DOWN (R365). In REPAIR nothing is replayed (R368). -/
def linkReplay (l seq : Nat) (s : State) : State :=
  if (s.link l).st ≠ .up then s
  else
    let n := (s.link l).replays + 1
    let s := linkReplayFrom l seq s
    let s := setLink l { s.link l with replays := n } s
    if 8 ≤ n then linkDown l 2 s else s

/-- LNAK: what came before the named LSEQ has arrived; the node replays from it. -/
def lnak (l seq : Nat) (s : State) : State :=
  if (s.link l).open_ = false then s
  else
    let s := s |> linkGot l 24 |> linkAckUpTo l ((seq + 2 ^ 24 - 1) % 2 ^ 24)
    if (s.link l).replay.any (fun e => e.1.lseq == seq) then linkReplay l seq s else s

def execLnak (l : Fin 8) (seq : BitVec 24) (s : State) : Result := done (live (lnak l.val seq.toNat) s)

/-- LINK_REPLAY_TIMEOUT: no acknowledgement for 4 µs. -/
def linkReplayTimeout (l : Nat) (s : State) : State :=
  match (s.link l).replay with
  | [] => s
  | e :: _ => if e.2 + 4000 ≤ s.clk then linkReplay l e.1.lseq s else s

def execLinkReplayTimeout (l : Fin 8) (s : State) : Result := done (live (linkReplayTimeout l.val) s)

/-! ### Credits (R370, R422) -/

/-- Credits that the peer returned: the holds of the slots' owners are refilled first. -/
def creditBack (iso k n : Nat) (owners : List Nat) (x : Link) : Link :=
  let r := owners.foldl (fun (a : Link × Nat) c =>
    let had := lookD (c, k) 0 a.1.isoCredits
    let m := min a.2 (iso - had)
    ({ a.1 with isoCredits := put (c, k) (had + m) a.1.isoCredits }, a.2 - m)) (x, n)
  { r.1 with credits := put k (lookD k 0 r.1.credits + r.2) r.1.credits }

/-- Credits returned; a frame that waited for them may start. -/
def creditTaken (l k n : Nat) (s : State) : State :=
  let owners := if k = 0 then [] else s.slotIm.slotOwners l
  let x := creditBack (s.slotIm.isoCredit l) k n owners (s.link l)
  egress l (setLink l { x with lastRx := s.clk } s)

/-- LCREDIT. -/
def lcredit (l k n : Nat) (s : State) : State := if (s.link l).open_ then s |> linkGot l 24 |> creditTaken l k n else s

def execLcredit (l : Fin 8) (cls : Fin 4) (units : BitVec 12) (s : State) : Result :=
  done (live (lcredit l.val cls.val units.toNat) s)

/-! ### Errors (R371, R403) -/

/-- LINK_FRAME_ERROR: the frame is discarded; LNAK makes the peer replay from the LSEQ expected. PRT_Ln_CRC counts CRC-64 errors
(Table PRT-14). -/
def linkFrameError (l : Nat) (cause : FrameError) (s : State) : State :=
  let k := s.link l
  if k.open_ = false then s
  else
    s |> setLink l { k with lastRx := s.clk } |> when (cause == .crc) (bump .PRT_Ln_CRC_COUNT l 1)
      |> when (cause == .fec) (bump .PRT_Ln_FEC_UNCORR_COUNT l 1) |> linkNak l k.rxSeq

def execLinkFrameError (l : Fin 8) (cause : FrameError) (s : State) : Result :=
  done (live (linkFrameError l.val cause) s)

/-! ### A packet on its way through the node (R379 to R382) -/

/-- A packet at HOPS 0 dropped (event 0x0708). -/
def hopsOut (b : List Byte) (s : State) : State :=
  s |> bump .PRT_HOPS_EXP_COUNT 0 1 |> raiseFirst 0x0708 0 (some (H.car b)) []

/-- A unicast packet delivered here, or forwarded with HOPS one lower. -/
def transit (a : Arrival) (b : List Byte) (s : State) : State :=
  if H.dest b = s.nodeId then receive b s
  else if H.hops b = 0 then hopsOut b s
  else routePacket (some a) (lowerHops b) s

/-- The links a multicast packet is copied to (R382, R368). -/
def copyLinks (s : State) (b : List Byte) : List Nat :=
  ((packetMap s b).groupLinks (H.dest b)).filter (fun l => (s.link l).open_ && (!confined s b || s.im.inRack l))

/-- A multicast packet accepted, copied and delivered, or refused (R302, R382; events 0x070D, 0x0746). -/
def replicate (a : Arrival) (b : List Byte) (s : State) : State :=
  let im := packetMap s b
  let g := H.dest b
  let c := im.groupCar g
  if im.groupValid g = false ∨ (im.groupInPort g ≠ a.link ∧ im.groupInPort g ≠ 15) then
    s |> bump .PRT_MCAST_DROP_COUNT 0 1 |> raise 0x070D (some (H.car b)) [(2, g), (1, a.link)]
  else if H.car b ≠ c then s |> bump .PRT_DEP_C_MISROUTE_COUNT c 1 |> raise 0x0746 (some c) []
  else
    let ls := copyLinks s b
    let s :=
      if ls.isEmpty then s
      else if H.hops b = 0 then hopsOut b s
      else forEach ls (fun l => place l (some a) (lowerHops b)) s
    when (im.groupLocal g) (receive b) s

/-- Whether a packet keeps the rules of R374 to R376: its type is one of Table PRT-5, and only coaches are multicast. -/
def typeWell (b : List Byte) : Bool :=
  packetWell b && decide (1 ≤ H.mtype b) && decide (H.mtype b ≤ 12) && (H.mcast b == (H.mtype b == MTy.attnReq))

/-- The share of a carriage in a link's slot buffer: 256 KiB × owned slots / 16, down to 4 KiB (R423). -/
def slotShare (s : State) (l c : Nat) : Nat :=
  let n := countOf (fun k => s.slotIm.slotOwner l k == c) (List.range 16)
  262144 * n / 16 / 4096 * 4096

/-- Whether an arriving frame goes to a slot buffer: classes 1 to 3 of an ISOLATED carriage that owns slots (R422). -/
def toSlot (s : State) (l : Nat) (b : List Byte) : Bool :=
  pClass b != 0 && s.trf.everLocked && s.slotIm.isolated (H.car b) && decide (H.car b ∈ s.slotIm.slotOwners l)

/-- Credits that the next control gap returns (R422). -/
def gapOwes (l k n : Nat) (s : State) : State :=
  onTrf (fun t => { t with gapCredits := put (l, k) (lookD (l, k) 0 t.gapCredits + n) t.gapCredits }) s

/-- An accepted packet policed and sent on its way; its room goes back once no copy of it waits. -/
def crossbar (a : Arrival) (b : List Byte) (s : State) : State :=
  let x := police a.link b s
  let s :=
    if x.1 = false then x.2
    else if H.mcast b then replicate a b x.2
    else transit a b x.2
  arrivalLeft (some a) b s

/-- A packet taken in: dropped where its carriage's confinement or slot buffer says so, else passed to the crossbar. -/
def ingress (l lseq : Nat) (b : List Byte) (s : State) : State :=
  let c := H.car b
  let a : Arrival := { link := l, lseq := lseq, slot := toSlot s l b, owed := true }
  if typeWell b = false then
    s |> bump .PRT_C_DUP_COUNT c 1 |> arrivalLeft (some { a with slot := false }) b
  else if H.mtype b = MTy.timeXfer then arrivalLeft (some { a with slot := false }) b s
  else if confined s b ∧ s.im.inRack l = false then
    s |> bump .PRT_C_CONFINED_COUNT c 1 |> raise 0x0709 (some c) [(1, c), (1, l)]
      |> arrivalLeft (some { a with slot := false }) b
  else if a.slot then
    let s := gapOwes l (pClass b) (linkCost b) s
    if slotShare s l c < s.slotUse l c + frameLen b then
      s |> bump .TRF_C_ISO_DROP_COUNT c 1 |> raiseCar 0x0804 c [(1, l)]
    else s |> setSlotUse l c (s.slotUse l c + frameLen b) |> crossbar a b
  else crossbar a b s

/-- What an arrived frame acknowledges and returns beside its own content (Table PRT-4). -/
def ridesAlong (l : Nat) (ack : Option Nat) (credit : Option (Nat × Nat)) (s : State) : State :=
  s |> whenSome ack (linkAckUpTo l) |> whenSome credit (fun c => creditTaken l c.1 c.2)

/-- A DATA frame's packet: the next LSEQ is acknowledged and its packet taken in; one seen before is acknowledged again, and one
beyond a gap is discarded (R371). -/
def sequenced (l lseq : Nat) (b : List Byte) (s : State) : State :=
  let k := s.link l
  if lseq = k.rxSeq then
    s |> setLink l { k with rxSeq := (lseq + 1) % 2 ^ 24, lastRx := s.clk } |> linkAck l lseq |> ingress l lseq b
  else if seqLe 24 lseq k.rxSeq then
    s |> setLink l { k with lastRx := s.clk } |> linkAck l ((k.rxSeq + 2 ^ 24 - 1) % 2 ^ 24)
  else linkFrameError l .gap s

/-- DATA_FRAME: a frame with an ACK and a CREDIT field, where they are valid, arrives; `bad` names words of the port's buffers
that have become uncorrectable by then (R468, assumption 7). -/
def dataFrame (l lseq : Nat) (ack : Option Nat) (credit : Option (Nat × Nat)) (bad : List PortWord) (b : List Byte) (s : State) :
    State :=
  let s := dropWords bad s
  if (s.link l).open_ = false then s
  else s |> linkGot l (frameLen b) |> ridesAlong l ack credit |> sequenced l lseq b

def execDataFrame (l : Fin 8) (lseq : BitVec 24) (d : LinkData) (s : State) : Result :=
  done (live (dataFrame l.val lseq.toNat (d.ack.map (fun a => a.toNat)) (d.credit.map (fun c => (c.1.val, c.2.toNat))) d.bad d.body) s)

/-! ### The output's schedule (R419 to R422) -/

/-- Isolated credits returned to the peer of a link in a control gap. -/
def gapReturn (l : Nat) (s : State) : State :=
  if s.inGap = false ∧ s.slotted l then s
  else
    let mine := s.trf.gapCredits.filter (fun e => e.1.1 == l)
    s |> onTrf (fun t => { t with gapCredits := t.gapCredits.filter (fun e => e.1.1 != l) })
      |> forEach mine (fun e => linkReturn l e.1.2 e.2)

/-- EGRESS_SCHEDULE: the next frame allowed to start on a link. -/
def egressSchedule (l : Nat) (s : State) : State := s |> gapReturn l |> egress l

def execEgressSchedule (l : Fin 8) (s : State) : Result := done (live (egressSchedule l.val) s)

end Sys2Proof.Machine
end

