-- ==== Sys2Proof/Machine/Fatal.lean ====
section
/-! DEFINITION. The fatal fault (R516), shared by the thermal trip, the rail fault and the firmware halt. -/

namespace Sys2Proof.Machine

open Sys2Proof

/-- LINK_RESET sent on every fabric link that is UP. -/
def resetLinks (s : State) : State :=
  forEach (List.range 8) (fun l s =>
    if (s.link l).st = .up then linkTransmit l 6 0 6 (zeros 16) s
    else s) s

/-- LINK_RESET sent on every Onzon port that is UP. -/
def resetPorts (s : State) : State :=
  forEach [0, 1] (fun p s => when (s.portUp p) (oSendCtl p OTy.linkReset 0 0) s) s

/-- A fatal fault: the notice while it can be sent, event 0x0C04, every engine stopped, LINK_RESET on every link and
port, and, but for a firmware halt, the persistence record begun (R514, R516, R517, R520). -/
def fatalFault (cause noticeCause detail : Nat) (s : State) : State :=
  if s.start.stopped then s
  else
    let s := s |> noticeAll noticeCause detail |> raise 0x0C04 none [(1, cause)] |> notifyBoth |> emit (.ibi 4)
    let s := s |> resetLinks |> resetPorts
      |> onStart (fun x => { x with stopped := true }) |> onRas (fun r => { r with fatal := some cause })
    if cause = 1 then s
    else if s.start.writing.isSome then s
    else persistBegin 2 (snapshot false false s) s

end Sys2Proof.Machine
end

