-- ==== Sys2Proof/Machine/Monitors.lean ====
section
/-! DEFINITION. Monitors and throttle steps (R560 to R566), and the recorder's flash copies and clears (R571 to R574). -/

namespace Sys2Proof.Machine

open Sys2Proof

/-! ### Sampling (R561, R562) -/

/-- The core-rail voltage monitors (Table MON-1). -/
def coreRail (i : Nat) : Bool := i % 12 < 6

/-- One temperature sample: its value, the peak, WARN, and what it means for the frame (R562, R564). -/
def sampleTemp (i : Nat) (r : Int) (s : State) : State :=
  let v := clampInt (-2048) 2047 (r + signed 8 (s.rg .MON_X_TTRIM_OFFSET i))
  let s := setRg .MON_TEMP_VALUE i (unsigned 12 v) s
  let s := if signed 12 (s.rg .MON_TEMP_MAX_MAX 0) < v then setRg .MON_TEMP_MAX_MAX 0 (unsigned 12 v) s else s
  if s.rg .MON_TEMP_EXCLUDED i = 1 then s
  else
    let s := onMon (fun m => { m with hot := m.hot || decide (800 ≤ v)
                                      warmNow := m.warmNow || decide ((s.rg .MON_THRESH_DOWN 0 * 8 : Int) ≤ v) }) s
    if (s.rg .MON_THRESH_WARN 0 * 8 : Int) ≤ v then raiseFirst 0x0D02 i none [(1, i), (2, unsigned 12 v)] s else s

/-- The included temperature sensors. -/
def includedSensors (s : State) : List Nat := (List.range 48).filter (fun i => s.rg .MON_TEMP_EXCLUDED i == 0)

/-- THERM_ALERT_N and the register bits that follow the readings (R562). -/
def thermalPins (s : State) : State :=
  let hot := (includedSensors s).any (fun i => decide (800 ≤ s.temp i))
  let low := hot || s.mon.tripped
  let hottest := (mostBy (fun i => (s.temp i + 2048).toNat) (includedSensors s)).getD 0
  let s := s |> setRg .MON_STATUS_ALERT 0 (b2n low) |> setRg .MON_STATUS_HOTTEST 0 hottest
  if low = s.pkg.thermAlert then s else s |> onPkg (fun p => { p with thermAlert := low }) |> emit (.thermAlert low) |> emit (.ibi (if low then 2 else 3))

/-- The thermal trip of a sensor: event, notice, fatal fault (R562). -/
def thermalTrip (i : Nat) (s : State) : State :=
  s |> raise 0x0D04 none [(1, i), (2, s.rg .MON_TEMP_VALUE i)] |> onMon (fun m => { m with tripped := true })
    |> fatalFault 0 0x08 i

/-- The trips of a sample: sensors at or above 105 °C in this sample and in the one before (R562). -/
def tripCheck (sampled : List Nat) (s : State) : State :=
  let now := (includedSensors s).filter (fun i => decide (i ∈ sampled) && decide (840 ≤ s.temp i))
  let two := now.filter (fun i => decide (i ∈ s.mon.tripRun))
  let s := onMon (fun m => { m with tripRun := now ++ m.tripRun.filter (fun i => decide (i ∉ sampled)) }) s
  forEach two thermalTrip s

/-- One voltage sample: the excursion event and the millisecond that makes it fatal (R562). -/
def sampleVolt (i mv : Nat) (s : State) : State :=
  let s := setRg .MON_VOLT_MV i mv s
  if coreRail i = false ∨ s.rg .MON_VOLT_EXCLUDED i = 1 then s
  else
    let s := if mv < 680 ∨ 780 < mv then raiseFirst 0x0D03 i none [(1, i), (2, mv)] s else s
    if 660 ≤ mv ∧ mv ≤ 800 then onMon (fun m => { m with railOut := del i m.railOut }) s
    else
      match look i s.mon.railOut with
      | none => onMon (fun m => { m with railOut := put i s.clk m.railOut }) s
      | some t =>
        if t + 1000000 ≤ s.clk then s |> raise 0x0D05 none [(1, i), (2, mv)] |> fatalFault 2 0x0C 2 else s

/-- One process sample: drift of more than 3 % from the start's value, once per start (R562). -/
def sampleProc (i mhz : Nat) (s : State) : State :=
  let s := setRg .MON_PROC_MHZ i mhz s
  match look i s.mon.procStart with
  | none => onMon (fun m => { m with procStart := put i mhz m.procStart }) s
  | some v =>
    let drift := decide (3 * v < 100 * (max v mhz - min v mhz))
    if drift ∧ s.rg .MON_PROC_EXCLUDED i = 0 ∧ i ∉ s.mon.drifted then
      s |> onMon (fun m => { m with drifted := i :: m.drifted }) |> raise 0x0D06 none [(1, i), (2, v), (2, mhz)]
    else s

/-- MONITOR_SAMPLE (R561, R562): the readings are the environment's (assumption 7). -/
def monitorSample (temps : List (Nat × Int)) (volts procs : List (Nat × Nat)) (s : State) : State :=
  let temps := temps.filter (fun e => decide (e.1 < 48))
  let volts := volts.filter (fun e => decide (e.1 < 24))
  let procs := procs.filter (fun e => decide (e.1 < 16))
  s |> forEach temps (fun e => sampleTemp e.1 e.2) |> tripCheck (keys temps) |> thermalPins
    |> forEach volts (fun e => sampleVolt e.1 e.2) |> forEach procs (fun e => sampleProc e.1 e.2)

def execMonitorSample (temps : List (Nat × Int)) (volts procs : List (Nat × Nat)) (s : State) : Result :=
  done (live (monitorSample temps volts procs) s)

/-! ### Throttle steps (R563 to R566) -/

/-- The thermal step that a boundary forms (R564): `t` and the boundaries since it changed. -/
def nextT (auto hot cool : Bool) (t since : Nat) : Nat × Nat :=
  if !auto then (0, if t = 0 then since + 1 else 0)
  else if hot && decide (t < 3) then (t + 1, 0)
  else if cool && decide (0 < t) && decide (4 ≤ since) then (t - 1, 0)
  else (t, since + 1)

/-- The step in force, from t, FLOOR and the forced step (R564, R565). -/
def stepOf (auto force : Bool) (forced floor t : Nat) : Nat :=
  if !auto then max floor (if force then forced else 0) else if force then forced else max t floor

/-- THROTTLE_EVAL (R564): once at each frame boundary. -/
def throttleEval (s : State) : State :=
  if s.frame ≤ s.mon.evalAt then s
  else
    let m := s.mon
    let auto := s.rg .MON_CTRL_AUTO_THROTTLE 0 == 1
    let cool := if m.warmNow then 0 else m.coolFrames + 1
    let n := nextT auto m.hot (decide (4 ≤ cool)) m.t m.sinceChange
    let floor := s.rg .MON_STATUS_FLOOR 0
    let new := stepOf auto (s.rg .MON_X_STEP_FORCE 0 == 1) (s.rg .MON_X_STEP_STEP 0) floor n.1
    let old := s.rg .MON_STATUS_STEP 0
    s |> onMon (fun m => { m with t := n.1, sinceChange := n.2, hot := false, warmNow := false, coolFrames := cool,
                                  evalAt := s.frame })
      |> bump .MON_STEPCNT_FRAMES old 1 |> setRg .MON_STATUS_STEP 0 new
      |> when (new != old) (raise 0x0D01 none [(1, old), (1, new), (1, n.1), (1, floor)])

def execThrottleEval (s : State) : Result := done (live throttleEval s)

/-- THROTTLE_STEP (R565): FLOOR takes the entry's ARG. -/
def execThrottleStep (i : Fin 256) (s : State) : Result :=
  done (live (fireEntry i.val 5 (fun e => setRg .MON_STATUS_FLOOR 0 e.arg)) s)

/-! ### The recorder in flash (R572 to R574, R601) -/

/-- PERSIST_WRITE (R572): every 60 s from step 3, unless a write runs or a shutdown has begun. -/
def persistWrite (s : State) : State :=
  if 3 ∈ s.start.done ∧ s.start.writing = none ∧ s.rg .BIST_SHUT_STATUS_STATE 0 < 2 ∧
      s.start.persistAt + 60000000000 ≤ s.clk then
    s |> onStart (fun x => { x with persistAt := s.clk }) |> persistBegin 0 (snapshot false false s)
  else s

def execPersistWrite (s : State) : Result := done (live persistWrite s)

/-- The clear itself (R573): MARK 0x00 in every record up to a SEQ, then record 0x0E01. -/
def evrClearNow (p seq : Nat) (s : State) : State :=
  let covered := s.evr.ring.filter (fun r => decide (r.seq ≤ seq) && r.mark == 0xA5)
  let lo := ((leastBy (fun r => r.seq) covered).map (fun r => r.seq)).getD seq
  s |> onEvr (fun e => { e with ring := e.ring.map (fun r => if r.seq ≤ seq then { r with mark := 0 } else r),
                                purge := List.range 32 })
    |> raise 0x0E01 none [(1, p), (4, lo), (4, seq), (1, s.lc)]
    |> onStart (fun x => { x with clearWrites := 2 })

/-- The first of the two records written after a clear begins, where no write runs (R574). -/
def clearWrite (s : State) : State :=
  if 0 < s.start.clearWrites ∧ s.start.writing = none then
    s |> onStart (fun x => { x with clearWrites := x.clearWrites - 1 }) |> persistBegin 3 (snapshot false false s)
  else s

/-- PERSIST_WRITE_DONE (R572, R574, R516, R548): the write that runs ends; a clear that waited for it runs now, and the
record of a fatal fault or of a shutdown follows a write that was under way. -/
def persistWriteDone (ok : Bool) (s : State) : State :=
  match s.start.writing with
  | none => s
  | some (_, _, purpose, _) =>
    if purpose = 1 ∨ purpose = 4 then s
    else
      let s := persistEnd ok s
      let s := when (!ok && purpose == 3) (onStart (fun x => { x with clearWrites := x.clearWrites + 1 })) s
      if s.start.stopped then
        if s.ras.fatal.isSome ∧ s.ras.fatal ≠ some 1 ∧ purpose ≠ 2 then persistBegin 2 (snapshot false false s) s else s
      else if s.rg .BIST_SHUT_STATUS_STATE 0 = 3 then persistBegin 1 (snapshot true false s) s
      else
        let s := match s.evr.clearWait with
          | some w => evrClearNow w.1 w.2 (onEvr (fun e => { e with clearWait := none }) s)
          | none => s
        clearWrite s

def execPersistWriteDone (ok : Bool) (s : State) : Result := done (persistWriteDone ok s)

/-- Whether the root of trust authorises a clear (Table SEC-6): in DEPLOYED a grant must name EVR and the port; a
retired node clears nothing. -/
def clearAuthorised (p : Nat) (s : State) : Bool :=
  match s.lc with
  | 2 => s.im.grantNames p 14
  | 4 => false
  | _ => true

/-- EVR_CLEAR (R573). One that is authorised while another waits for a flash write is made with it, up to the higher SEQ (DESIGN
CHOICE, assumption 36). -/
def evrClear (p : Nat) (s : State) : State :=
  let seq := s.rg .EVR_CLEAR_SEQ_SEQ p
  let head := s.evr.next - 1
  if s.holdsSem p 2 = false then raise 0x0E02 none [(1, p), (1, 0)] s
  else if head < seq then result .EVR_CLEAR_RESULT_STATUS .EVR_CLEAR_RESULT_DONE p Status.badCommand s
  else if clearAuthorised p s = false then
    s |> raise 0x0B11 none [] |> raise 0x0E02 none [(1, p), (1, 1)]
      |> result .EVR_CLEAR_RESULT_STATUS .EVR_CLEAR_RESULT_DONE p Status.accessDenied
  else
    let s := result .EVR_CLEAR_RESULT_STATUS .EVR_CLEAR_RESULT_DONE p Status.ok s
    if s.start.writing.isSome then onEvr (fun e => { e with clearWait := some (p, max seq ((e.clearWait.map Prod.snd).getD 0)) }) s
    else clearWrite (evrClearNow p seq s)

def execEvrClear (p : Port) (s : State) : Result := done (live (access p.idx 0xE00018 (evrClear p.idx)) s)

/-- PURGE_DONE (R574): every area but the two just written is erased. -/
def purgeDone (s : State) : State :=
  if s.evr.purge = [] ∨ 0 < s.start.clearWrites ∨ s.start.writing.isSome then s
  else
    let new := s.persisted.seqNo
    s |> onSec (fun x => { x with flash := { x.flash with
          areas := x.flash.areas.filter (fun e => decide (new ≤ e.2.seqNo + 1)) } })
      |> onEvr (fun e => { e with purge := [] })

def execPurgeDone (s : State) : Result := done (live purgeDone s)

end Sys2Proof.Machine
end

