-- ==== Sys2Proof/Machine/OwlCmd.lean ====
section
/-! DEFINITION. The Owl commands, the sled cascade and the shadow compare (R439 to R459, Tables OWL-4 to OWL-7). -/

namespace Sys2Proof.Machine

open Sys2Proof

/-! ### Lookups (R439, R454, Table OWL-6) -/

/-- The node's place in its sled (R24). -/
def State.sled (s : State) : Nat := s.rg .GLB_NODE_ADDR_NODE 0

/-- Whether the cascade is not OFF: counted, enabled, and on its own lines (R455, R460). -/
def cascadeOn (s : State) : Bool := s.im.cascadeCount != 0 && s.rg .OWL_CTRL_CASCADE_EN 0 == 1 && s.ownerCode 1 == 1

/-- Whether a lookup may use the cascade now (R454, Table OWL-10). -/
def cascadeServes (s : State) : Bool :=
  cascadeOn s && s.owl.cascade == 1 && s.timeServes && s.rg .OWL_X_CASCADE_FORCE_LOCAL 0 == 0

/-- RESULT of a lookup: page, sled node, HIT, MULTI, CASCADED. -/
def lookupResult (page node : Nat) (hit multi cascaded : Bool) : Nat :=
  page + node * 2 ^ 32 + b2n hit * 2 ^ 36 + b2n multi * 2 ^ 37 + b2n cascaded * 2 ^ 38

/-- A LOOKUP_LIST whose every key is answered writes its results and completes. -/
def listFinish (k : Nat) (s : State) : State :=
  match s.cmd k, look k s.owl.results with
  | some c, some rs =>
    if rs.length < u16 c.bytes 20 then s
    else
      let rs := sortBy Prod.fst rs
      let hits := countOf (fun r => bit r.2 36) rs
      s |> onOwl (fun x => { x with results := del k x.results })
        |> hostWrite k (u64 c.bytes 24) (rs.flatMap (fun r => leBytes 8 r.2)) |> complete k Status.ok 0 hits
  | _, _ => s

/-- A lookup answered: its command completes, or its list gathers the result. -/
def lookupDone (l : Lookup) (r : Nat) (s : State) : State :=
  match s.cmd l.cmd with
  | none => s
  | some c =>
    if Op.opcode c.bytes = 1 then complete l.cmd Status.ok 0 r s
    else
      let rs := lookD l.cmd [] s.owl.results
      s |> onOwl (fun x => { x with results := put l.cmd (rs ++ [(l.item, r)]) x.results }) |> listFinish l.cmd

/-- One key looked up: locally, then over the cascade where asked and possible. -/
def lookupKey (k item hash cls : Nat) (cascade : Bool) (s : State) : State :=
  match s.cmd k with
  | none => s
  | some c =>
    let car := Op.car c.bytes
    let key := prefixKey hash cls car
    let s := bump .OWL_C_LOOKUPS_COUNT car 1 s
    let r := prefixFind (prefixBanks s c.old car) key car 5 [] s
    let s := r.2
    let l : Lookup := { cmd := k, item := item, key := key }
    match r.1 with
    | some (page, multi) =>
      s |> bump .OWL_C_HITS_COUNT car 1 |> lookupDone l (lookupResult page s.sled true multi false)
    | none =>
      if cascade ∧ cascadeServes s then onOwl (fun x => { x with queue := x.queue ++ [l] }) s
      else lookupDone l (lookupResult 0 0 false false false) s

/-- A started command's phase set. -/
def setPhase (k n : Nat) (s : State) : State :=
  match s.cmd k with
  | some c => setCmd k { c with phase := n } s
  | none => s

/-- OWL_LOOKUP. -/
def owlLookup (k : Nat) (c : Cmd) (s : State) : State :=
  if c.phase = 0 then
    s |> setPhase k 1 |> lookupKey k 0 (fieldAt c.bytes 12 12) (u16 c.bytes 24) (bit (u8 c.bytes 26) 0)
  else s

def execOwlLookup (k : Nat) (s : State) : Result := done (live (withCmd k 4 1 (owlLookup k)) s)

/-- OWL_LOOKUP_LIST. -/
def owlLookupList (k : Nat) (c : Cmd) (s : State) : State :=
  let n := u16 c.bytes 20
  if n = 0 ∨ 4096 < n then complete k Status.badCommand 0 0 s
  else if c.phase = 2 then s
  else withData k c (u64 c.bytes 12) (16 * n) (fun d s =>
    let es := chunks n 16 d
    if es.any (fun e => u16 e 14 != 0) then complete k Status.badCommand 0 0 s
    else
      forEach es.zipIdx (fun e => lookupKey k e.2 (fieldAt e.1 0 12) (u16 e.1 12) (bit (u8 c.bytes 22) 0))
        (setPhase k 2 s)) s

def execOwlLookupList (k : Nat) (s : State) : Result := done (live (withCmd k 4 2 (owlLookupList k)) s)

/-! ### Bank commands (R441 to R443, R450, R459) -/

/-- The check of a bank command in the order of R17: the bank's mode and use, the command's other fields, with the reason
of one out of range, then the bank's owner. -/
def bankFault (s : State) (c : Cmd) (suits inRange : Bool) (reason : Nat) : Option (Nat × Nat) :=
  let b := u8 c.bytes 12
  if 16 ≤ b ∨ suits = false then some (Status.badCommand, 40)
  else if inRange = false then some (Status.badCommand, reason)
  else if s.serves c.old (.bank b) ≠ some (Op.car c.bytes) then some (Status.accessDenied, 0)
  else none

/-- The lowest index from `i` on whose entry is not VALID. -/
def holeFrom (s : State) (b i : Nat) : Option Nat :=
  firstFrom (fun j => !(look j (s.bank b).entries).any (fun e => e.valid)) (bankSize - i) i

/-- An entry of a bank moved up by one place. -/
def moveUp (b i : Nat) (s : State) : State :=
  match look i (s.bank b).entries with
  | some e => writeEntry b (i + 1) e s
  | none => s

/-- The new entry written and its command completed. -/
def insertDone (b : Nat) (x : Shift) (s : State) : State :=
  s |> writeEntry b x.index x.entry |> complete x.cmd Status.ok 0 x.index

/-- An insert begins: at once where its place is free, else as a shift. -/
def insertBegin (k b i : Nat) (e : OwlEntry) (s : State) : State :=
  match holeFrom s b i with
  | none => completeReason k Status.accessDenied 41 s
  | some h =>
    let x : Shift := { index := i, hole := h, entry := e, cmd := k, since := s.clk }
    if h = i then insertDone b x s else setBank b { s.bank b with shift := some x } s

/-- The entry that an insert's 48 bytes spell. -/
def insertEntry (d : List Byte) : OwlEntry := { entryOf d with valid := true }

/-- A waiting insert or delete of a bank taken up. -/
def bankStart (k b : Nat) (s : State) : State :=
  match s.cmd k with
  | none => s
  | some c =>
    if Op.opcode c.bytes = 4 then s |> clearEntry b (u16 c.bytes 14) |> complete k Status.ok 0 0
    else insertBegin k b (u16 c.bytes 14) (insertEntry ((cmdData s c).getD [])) s

/-- Whether shifts pause (OWL_X_SHIFT.HOLD). -/
def shiftsHeld (s : State) : Bool := s.rg .OWL_X_SHIFT_HOLD 0 == 1

/-- Whether a command that waits on a bank may be taken up: while shifts pause, inserts wait (Table OWL-10). -/
def mayTake (s : State) (k : Nat) : Bool := !shiftsHeld s || (s.cmd k).any (fun c => Op.opcode c.bytes == 4)

/-- What waits on a bank taken up in order, until a shift runs (R442) or an insert is held. -/
def bankRun (b : Nat) : Nat → State → State
  | 0, s => s
  | fuel + 1, s =>
    let k := s.bank b
    match k.shift, k.wait with
    | none, w :: r => if mayTake s w then bankRun b fuel (bankStart w b (setBank b { k with wait := r } s)) else s
    | _, _ => s

/-- What waits on a bank moves on. -/
def bankGo (b : Nat) (s : State) : State := bankRun b (s.bank b).wait.length s

/-- A command put behind what waits on its bank, which then moves on. -/
def bankQueue (k b : Nat) (s : State) : State :=
  s |> setBank b { s.bank b with wait := addSet k (s.bank b).wait } |> bankGo b

/-- OWL_INSERT (R441). -/
def owlInsert (k : Nat) (c : Cmd) (s : State) : State :=
  let b := u8 c.bytes 12
  match bankFault s c (s.im.bankMode b == 1 && s.im.bankClassify b) (decide (u16 c.bytes 14 < bankSize)) 0 with
  | some f => completeReason k f.1 f.2 s
  | none =>
    if c.phase = 2 then (if (s.bank b).shift.any (fun x => x.cmd == k) then s else bankQueue k b s)
    else withData k c (u64 c.bytes 16) 48 (fun d s =>
      if u64 d 40 / 1024 ≠ 0 then complete k Status.badCommand 0 0 s
      else s |> setPhase k 2 |> bankQueue k b) s

def execOwlInsert (k : Nat) (s : State) : Result := done (live (withCmd k 4 3 (owlInsert k)) s)

/-- OWL_SHIFT_DONE (R441, R442): the entries are moved, from the top, the new one is written, and what waits on the bank
proceeds; so does what waited while shifts paused (DESIGN CHOICE, assumption 16). -/
def owlShiftDone (b : Nat) (s : State) : State :=
  match (s.bank b).shift with
  | none => bankGo b s
  | some x =>
    if shiftsHeld s ∨ s.clk < x.since + (x.hole - x.index) then s
    else
      let s := setBank b { s.bank b with shift := none } s
      let s := forEach ((List.range (x.hole - x.index)).map (fun i => x.hole - 1 - i)) (moveUp b) s
      s |> insertDone b x |> bankGo b

/-- HOLD set or cleared: what a shift has run so far is kept while it pauses (Table OWL-10). -/
def shiftPause (s : State) : State :=
  onOwl (fun x => { x with banks := x.banks.map (fun k =>
    (k.1, { k.2 with shift := k.2.shift.map (fun h => { h with since := s.clk - h.since }) })) }) s

def execOwlShiftDone (b : Fin 16) (s : State) : Result := done (live (owlShiftDone b.val) s)

/-- OWL_DELETE (R442). -/
def owlDelete (k : Nat) (c : Cmd) (s : State) : State :=
  let b := u8 c.bytes 12
  match bankFault s c (s.im.bankMode b == 1) (decide (u16 c.bytes 14 < bankSize)) 0 with
  | some f => completeReason k f.1 f.2 s
  | none => bankQueue k b s

def execOwlDelete (k : Nat) (s : State) : Result := done (live (withCmd k 4 4 (owlDelete k)) s)

/-- An entry that nothing has written. -/
def emptyEntry : OwlEntry := { value := 0, care := 0, result := 0, valid := false }

/-- OWL_READ (Table OWL-6). -/
def owlRead (k : Nat) (c : Cmd) (s : State) : State :=
  let b := u8 c.bytes 12
  let first := u16 c.bytes 14
  let n := u16 c.bytes 16
  match bankFault s c (s.im.bankMode b == 1) (decide (0 < n) && decide (first + n ≤ bankSize)) 0 with
  | some f => completeReason k f.1 f.2 s
  | none =>
    let out := (List.range n).flatMap (fun i => entryBytes (lookD (first + i) emptyEntry (s.bank b).entries))
    s |> hostWrite k (u64 c.bytes 24) out |> complete k Status.ok 0 0

def execOwlRead (k : Nat) (s : State) : Result := done (live (withCmd k 4 5 (owlRead k)) s)

/-! ### Automata (R443) -/

/-- A transition from its 8 bytes. -/
def transOf (b : List Byte) : Trans :=
  let w := u64 b 0
  { state := bits w 0 12, lo := bits w 12 8, hi := bits w 20 8, next := bits w 28 12, fire := bit w 40, fireId := bits w 48 8 }

/-- An automaton image that passes every check of R443. -/
def parseAutomaton (d : List Byte) : Option Automaton :=
  let states := u16 d 4
  let nr := u16 d 6
  let nt := u16 d 8
  let rs := chunks nr 8 (slice d 16 (8 * nr))
  let ts := chunks nt 8 (slice d (16 + 8 * nr) (8 * nt))
  let head := u32 d 0 == 0x414C574F && decide (1 ≤ states) && decide (states ≤ 4096) && decide (nr ≤ 1024) &&
    decide (1 ≤ nt) && decide (nt ≤ 16384) && allZero (slice d 10 6) && d.length == 16 + 8 * nr + 8 * nt
  let rangesOk := rs.all (fun r => decide (fieldAt r 0 3 ≤ fieldAt r 4 3) && u8 r 7 == 0)
  let transOk := ts.all (fun t =>
    let x := transOf t
    decide (x.lo ≤ x.hi) && decide (x.state < states) && decide (x.next < states) && bits (u64 t 0) 41 7 == 0 && u8 t 7 == 0)
  if head && rangesOk && transOk then
    some { states := states, ranges := rs.map (fun r => (fieldAt r 0 3, fieldAt r 4 3, u8 r 3)),
           trans := ts.zipIdx.map (fun t => (t.2, transOf t.1)) }
  else none

/-- An automaton put into a bank, its shadow first, which holds nothing past its transitions (R443, R456). -/
def loadAutomaton (b : Nat) (a : Automaton) (d : List Byte) (s : State) : State :=
  let ts := chunks a.trans.length 8 (d.drop (16 + 8 * a.ranges.length))
  let s := forEach (framesFor s (.owl b)) zeroFrame s
  let s := forEach ts.zipIdx (fun t => shadowWrite b t.2 (padTo 48 t.1)) s
  setBank b { s.bank b with autom := some a } s

/-- OWL_LOAD_AUTOMATON (R443, R450). -/
def owlLoadAutomaton (k : Nat) (c : Cmd) (s : State) : State :=
  let b := u8 c.bytes 12
  let n := u32 c.bytes 24
  match bankFault s c (s.im.bankMode b == 2) (decide (16 ≤ n) && decide (n ≤ 139280)) 43 with
  | some f => completeReason k f.1 f.2 s
  | none =>
    if s.owl.watches.any (fun w => w.2.bank == b) then completeReason k Status.accessDenied 42 s
    else withData k c (u64 c.bytes 16) n (fun d s =>
      match parseAutomaton d with
      | none => completeReason k Status.badCommand 43 s
      | some a =>
        s |> loadAutomaton b a d |> raise 0x0909 (some (Op.car c.bytes)) [(1, b)] |> complete k Status.ok 0 a.trans.length) s

def execOwlLoadAutomaton (k : Nat) (s : State) : Result := done (live (withCmd k 4 6 (owlLoadAutomaton k)) s)

/-! ### Watchers (R445, R448, R449) -/

/-- Whether an OWL_WATCH_SET disarms. -/
def disarms (c : Cmd) : Bool := bit (u8 c.bytes 15) 0

/-- OWL_WATCH_SET that arms a context (R445). -/
def owlWatchSet (k : Nat) (c : Cmd) (s : State) : State :=
  if disarms c then s
  else
    let car := Op.car c.bytes
    let b := u8 c.bytes 14
    let start := u16 c.bytes 16
    match look (Op.seqId c.bytes) s.seq.seqs with
    | none => complete k Status.badCommand 0 0 s
    | some q =>
      if 16 ≤ b ∨ s.im.bankMode b ≠ 2 ∨ s.serves c.old (.bank b) ≠ some car then completeReason k Status.badCommand 40 s
      else if q.layers ≤ u16 c.bytes 12 ∨ 4096 ≤ start ∨ (s.bank b).autom.any (fun a => decide (a.states ≤ start)) then
        complete k Status.badCommand 0 0 s
      else if q.car ≠ car then complete k Status.accessDenied 0 0 s
      else if s.seqHeld car (Op.seqId c.bytes) then complete k Status.aborted 0 0 s
      else
        match pickBelow 16384 (fun i => !has i s.owl.watches) s with
        | none => completeReason k Status.accessDenied 44 s
        | some i =>
          let w : Watch :=
            { car := car, seq := Op.seqId c.bytes, layer := u16 c.bytes 12, bank := b, state := start, start := start,
              edgeReport := bit (u8 c.bytes 15) 1, latched := none, missed := 0, wait := none }
          s |> freeTaken |> setWatch i w |> complete k Status.ok 0 i

def execOwlWatchSet (k : Nat) (s : State) : Result := done (live (withCmd k 4 7 (owlWatchSet k)) s)

/-- OWL_WATCH_SET with DISARM (R449). -/
def owlWatchDisarm (k : Nat) (c : Cmd) (s : State) : State :=
  if disarms c = false then s
  else
    let i := u16 c.bytes 20
    match look i s.owl.watches with
    | some w =>
      if w.car = Op.car c.bytes ∧ w.seq = Op.seqId c.bytes then s |> watchFree i |> complete k Status.ok 0 i
      else complete k Status.badCommand 0 0 s
    | none => complete k Status.badCommand 0 0 s

def execOwlWatchDisarm (k : Nat) (s : State) : Result := done (live (withCmd k 4 7 (owlWatchDisarm k)) s)

/-- OWL_WAIT (R448): a latched report completes it at once; else it waits for the next report. A wait behind another
one on its context waits for that one's end (DESIGN CHOICE, assumption 16). -/
def owlWait (k : Nat) (c : Cmd) (s : State) : State :=
  let i := u16 c.bytes 12
  match look i s.owl.watches with
  | some w =>
    if w.car ≠ Op.car c.bytes then complete k Status.badCommand 0 0 s
    else
      match w.latched, w.wait with
      | some r, _ => s |> setWatch i { w with latched := none, missed := 0 } |> complete k Status.ok 0 (waitResult r w.missed)
      | none, none => setWatch i { w with wait := some k } s
      | none, some _ => s
  | none => complete k Status.badCommand 0 0 s

def execOwlWait (k : Nat) (s : State) : Result := done (live (withCmd k 4 8 (owlWait k)) s)

/-! ### The cascade (R451 to R455, Tables OWL-4, OWL-5) -/

/-- CRC-16 over the low `n` bits of a frame, bit 0 first (DEDUCED, assumption 16). -/
def owlCrc (n x : Nat) : Nat := crcBits 16 0x1021 0xFFFF ((List.range n).map (bit x))

/-- A SEARCH (kind 0) or PING (kind 1) frame. -/
def searchFrame (origin kind key : Nat) : Nat :=
  let x := 0xC3 + origin * 2 ^ 8 + kind * 2 ^ 11 + key % 2 ^ 128 * 2 ^ 16
  x + owlCrc 176 x * 2 ^ 176

/-- A RESULT frame. -/
def resultFrame (origin winner : Nat) (multi : Bool) (page : Nat) : Nat :=
  let x := 0x3C + origin * 2 ^ 8 + winner * 2 ^ 11 + b2n multi * 2 ^ 14 + page * 2 ^ 16
  x + owlCrc 80 x * 2 ^ 80

/-- The start of the running cascade slot. -/
def slotStart (s : State) : Nat := s.ft / 512 * 512

/-- The sled node that owns the running slot. -/
def slotNode (s : State) : Nat := s.ft / 512 % max 1 s.im.cascadeCount

/-- A cascade frame sent in the node's own slot. -/
def sendSlot (l : Option Lookup) (s : State) : State :=
  let f := match l with
    | some x => searchFrame s.sled 0 x.key
    | none => searchFrame s.sled 1 0
  s |> onOwl (fun x => { x with own := some { start := slotStart s, look := l, returned := false, checked := false } })
    |> emit (.cascade f)

/-- Lookups that wait for a slot answered from the node's own banks only. -/
def answerWaiting (s : State) : State :=
  forEach s.owl.queue (fun l => lookupDone l (lookupResult 0 0 false false false)) (onOwl (fun x => { x with queue := [] }) s)

/-- CASCADE_SLOT (R452). Where the cascade serves no lookup any more, those that wait are answered (R454). -/
def cascadeSlot (s : State) : State :=
  let first := s.owl.pingFrame != some s.frame
  if cascadeServes s = false ∧ s.owl.queue ≠ [] then answerWaiting s
  else if cascadeOn s = false ∨ s.timeServes = false ∨ slotNode s ≠ s.sled ∨ s.owl.own.isSome then s
  else
    let s := onOwl (fun x => { x with pingFrame := some s.frame }) s
    match s.owl.queue with
    | l :: r => sendSlot (some l) (onOwl (fun x => { x with queue := r }) s)
    | [] => if first then sendSlot none s else s

def execCascadeSlot (s : State) : Result := done (live cascadeSlot s)

/-- A cascade frame that fails its check dropped (event 0x0905, once in a frame). -/
def cascadeCrc (s : State) : State :=
  s |> bump .OWL_CASCADE_ERR_CRC 0 1 |> raiseFirst 0x0905 0 none []

/-- The banks that a carriage lends to the cascade. -/
def cascadeBanks (s : State) (c : Nat) : List Nat := (prefixBanks s false c).filter s.im.bankCascade

/-- The node's own frame comes back whole. -/
def ownReturned (ping : Bool) (s : State) : State :=
  match s.owl.own with
  | some o =>
    if s.ft < o.start + 192 then
      let s := onOwl (fun x => { x with own := some { o with returned := true } }) s
      if ping ∧ s.owl.cascade ≠ 1 then s |> onOwl (fun x => { x with cascade := 1 }) |> raise 0x0903 none [] else s
    else s
  | none => s

/-- CASCADE_SEARCH (R453, R455): another node's SEARCH or PING is passed on and a SEARCH is searched. -/
def cascadeSearch (f : Nat) (s : State) : State :=
  if s.im.cascadeCount = 0 then s
  else if bits f 0 8 ≠ 0xC3 ∨ bits f 176 16 ≠ owlCrc 176 (f % 2 ^ 176) then cascadeCrc s
  else if bits f 8 3 = s.sled then ownReturned (bit f 11) s
  else
    let s := emit (.cascade f) s
    if bit f 11 then s
    else
      let key := bits f 16 128
      let car := bits key 112 4
      let r := prefixFind (cascadeBanks s car) key car 5 [] s
      onOwl (fun x => { x with foreign := some { start := slotStart s, origin := bits f 8 3, key := key, hit := r.1 } }) r.2

def execCascadeSearch (f : BitVec 256) (s : State) : Result := done (live (cascadeSearch f.toNat) s)

/-- Lookups that wait for a slot, and the one that holds it, answered from the node's own banks only. -/
def cascadeFlush (s : State) : State :=
  let ls := (s.owl.own.bind (fun o => o.look)).toList ++ s.owl.queue
  forEach ls (fun l => lookupDone l (lookupResult 0 0 false false false))
    (onOwl (fun x => { x with queue := [], own := x.own.map (fun o => { o with look := none }) }) s)

/-- CASCADE_RETURN_CHECK (R454): at S + 192 the origin holds its own frame back, or the cascade is BROKEN. -/
def cascadeReturnCheck (s : State) : State :=
  match s.owl.own with
  | some o =>
    if o.checked ∨ s.ft < o.start + 192 then s
    else
      let s := onOwl (fun x => { x with own := some { o with checked := true } }) s
      if o.returned then s
      else
        let s := if s.owl.cascade = 2 then s
          else s |> onOwl (fun x => { x with cascade := 2 }) |> bump .OWL_CASCADE_ERR_BROKEN 0 1
            |> raise 0x0904 none [(1, s.sled)]
        cascadeFlush s
  | none => s

def execCascadeReturnCheck (s : State) : Result := done (live cascadeReturnCheck s)

/-- PRIO_OUT driven. -/
def drivePrio (h : Bool) (s : State) : State :=
  if s.owl.prioOut = h then s else s |> onOwl (fun x => { x with prioOut := h }) |> emit (.prioOut h)

/-- CASCADE_PRIO (R453): at S + 320 PRIO_OUT goes high when PRIO_IN is high, or the node holds a checked hit. -/
def cascadePrio (prioIn : Bool) (s : State) : State :=
  if s.im.cascadeCount = 0 ∨ s.ft < slotStart s + 320 then s
  else drivePrio (prioIn || s.owl.foreign.any (fun f => f.start == slotStart s && f.hit.isSome)) s

def execCascadePrio (prioIn : Bool) (s : State) : Result := done (live (cascadePrio prioIn) s)

/-- CASCADE_WINNER_SEND (R453): at S + 384 the node with a checked hit and PRIO_IN low sends RESULT. -/
def cascadeWinnerSend (prioIn : Bool) (s : State) : State :=
  match s.owl.foreign with
  | some f =>
    match f.hit with
    | some h =>
      if s.ft < f.start + 384 ∨ f.start + 512 ≤ s.ft ∨ prioIn then s
      else s |> onOwl (fun x => { x with foreign := none }) |> emit (.cascade (resultFrame f.origin s.sled h.2 h.1))
    | none => s
  | none => s

def execCascadeWinnerSend (prioIn : Bool) (s : State) : Result := done (live (cascadeWinnerSend prioIn) s)

/-- CASCADE_RESULT (R453): passed on, or taken by the origin as its lookup's answer. -/
def cascadeResult (f : Nat) (s : State) : State :=
  if s.im.cascadeCount = 0 then s
  else if bits f 0 8 ≠ 0x3C ∨ bits f 80 16 ≠ owlCrc 80 (f % 2 ^ 80) then cascadeCrc s
  else if bits f 8 3 ≠ s.sled then emit (.cascade f) s
  else
    match s.owl.own with
    | some o =>
      match o.look with
      | some l =>
        if o.start + 512 ≤ s.ft then s
        else
          s |> onOwl (fun x => { x with own := some { o with look := none } })
            |> bump .OWL_C_CASCADE_HITS_COUNT (bits l.key 112 4) 1
            |> lookupDone l (lookupResult (bits f 16 32) (bits f 11 3) true (bit f 14) true)
      | none => s
    | none => s

def execCascadeResult (f : BitVec 256) (s : State) : Result := done (live (cascadeResult f.toNat) s)

/-- CASCADE_SLOT_END (R453): at S + 512 a lookup without a RESULT is a cascade miss, and the slot's lines go low. -/
def cascadeSlotEnd (s : State) : State :=
  let s := match s.owl.own with
    | some o =>
      if s.ft < o.start + 512 then s
      else
        let s := onOwl (fun x => { x with own := none }) s
        whenSome o.look (fun l => lookupDone l (lookupResult 0 0 false false true)) s
    | none => s
  let s := onOwl (fun x => { x with foreign := x.foreign.bind (fun f => if f.start + 512 ≤ s.ft then none else some f) }) s
  if s.owl.foreign.isNone ∧ s.ft < slotStart s + 320 then drivePrio false s else s

def execCascadeSlotEnd (s : State) : Result := done (live cascadeSlotEnd s)

/-! ### The shadow compare (R456 to R458) -/

/-- Whether a half's compare runs: its staging buffer belongs to it and it is enabled. -/
def compareRuns (s : State) (half : Nat) : Bool :=
  s.ownerCode (3 + half) == 2 && (if half = 0 then s.rg .OWL_CTRL_SCRUB_E 0 == 1 else s.rg .OWL_CTRL_SCRUB_W 0 == 1)

/-- An entry that a shift moves. -/
def inShift (k : Bank) (i : Nat) : Bool := k.shift.any (fun x => decide (x.index ≤ i) && decide (i ≤ x.hole))

/-- The loss of an entry whose shadow cannot be read (event 0x0907). -/
def entryLost (b i : Nat) (s : State) : State :=
  let k := s.bank b
  let k := { k with entries := upd i (fun e => { e with valid := false }) k.entries
                    autom := k.autom.map (fun a => { a with trans := del i a.trans }) }
  s |> setBank b k |> bump .OWL_SCRUB_LOST_COUNT 0 1 |> raise 0x0907 (s.owner (.bank b)) []

/-- The 8 bytes of a transition (Table OWL-3). -/
def transBytes (t : Trans) : List Byte :=
  leBytes 8 (t.state + t.lo * 2 ^ 12 + t.hi * 2 ^ 20 + t.next * 2 ^ 28 + b2n t.fire * 2 ^ 40 + t.fireId * 2 ^ 48)

/-- What a bank holds at number `i`, as its shadow spells it: an entry, or a transition of its automaton; 0 where nothing is. -/
def heldBytes (k : Bank) (i : Nat) : List Byte :=
  match k.autom with
  | some a => padTo 48 (((look i a.trans).map transBytes).getD [])
  | none => entryBytes (lookD i emptyEntry k.entries)

/-- Number `i` of a bank rewritten from the bytes of its shadow. -/
def Bank.rewrite (k : Bank) (i : Nat) (d : List Byte) : Bank :=
  match k.autom with
  | some a => { k with autom := some { a with trans := put i (transOf d) a.trans } }
  | none => { k with entries := put i (entryOf d) k.entries }

/-- One entry compared with its shadow (R457). -/
def compareEntry (b i : Nat) (s : State) : State :=
  if inShift (s.bank b) i then s
  else
    match shadowRead s b i with
    | none => entryLost b i s
    | some d =>
      if heldBytes (s.bank b) i = d then s
      else
        s |> setBank b ((s.bank b).rewrite i d) |> bump .OWL_SCRUB_FIX_COUNT 0 1 |> raise 0x0906 (s.owner (.bank b)) []

/-- The `n` entries of a bank from `i` on compared. -/
def compareSpan (b i n : Nat) (s : State) : State := forEach ((List.range n).map (i + ·)) (compareEntry b) s

/-- The owned banks of a half that hold something and have a shadow. -/
def compareBanks (s : State) (half : Nat) : List Nat :=
  (List.range 16).filter (fun b => b / 8 == half && (s.owner (.bank b)).isSome && s.im.bankMode b != 0 &&
    !(framesFor s (.owl b)).isEmpty)

/-- OWL_SCRUB (R456): 1,024 entries of one bank of a half, the half's owned banks in turn. -/
def owlScrub (half : Nat) (s : State) : State :=
  let bs := compareBanks s half
  if compareRuns s half = false ∨ bs = [] then s
  else
    let pos := lookD half (0, 0) s.owl.scrubPos
    let b := ((bs.filter (fun b => pos.1 ≤ b)) ++ bs).headD 0
    let i := if b = pos.1 then pos.2 else 0
    let next := if i + 1024 < bankSize then (b, i + 1024) else ((bs.filter (fun x => b < x)).headD (bs.headD 0), 0)
    s |> compareSpan b i 1024 |> onOwl (fun x => { x with scrubPos := put half next x.scrubPos })

def execOwlScrub (half : Fin 2) (s : State) : Result := done (live (owlScrub half.val) s)

/-- OWL_SCRUB_FORCE (R461): every owned bank once, now. -/
def owlScrubForce (p : Nat) (s : State) : State :=
  expertDo p 9 0x980000 (fun s =>
    let bs := ([0, 1].filter (compareRuns s)).flatMap (compareBanks s)
    forEach bs (fun b => compareSpan b 0 bankSize) s) s

def execOwlScrubForce (p : Port) (s : State) : Result := done (live (access p.idx 0x980000 (owlScrubForce p.idx)) s)

end Sys2Proof.Machine
end

