-- ==== Sys2Proof/Machine/ParkImage.lean ====
section
/-! DEFINITION. The park image: its pages, entries and header, and how a warm image is read (R346, R347, R475, R508). -/

namespace Sys2Proof.Machine

open Sys2Proof

/-- A page of a sequence as an image holds it. -/
structure ParkPage where
  layer : Nat
  /-- Global ordinal, head, leaf entry. -/
  ord : Nat
  head : Nat
  leaf : Nat
  page : Nat
  g : Page
  /-- Slots stored, and VIEW_FILL. -/
  fill : Nat
  view : Nat
deriving DecidableEq, Repr

/-- The page of a leaf entry; below a position only, where a limit is given (R344). -/
def parkPage (s : State) (q : Seqd) (limit : Option Nat) (layer : Nat) (e : Nat × Leaf) : Option ParkPage :=
  (look e.2.page s.seq.pages).bind (fun g =>
    let kv := max 1 q.kv
    let o := ordinalOf s q layer (e.1 / kv)
    let room := (limit.map (fun n => n - o * q.p)).getD q.p
    if room = 0 then none
    else some { layer := layer, ord := o, head := e.1 % kv, leaf := e.1, page := e.2.page, g := g, fill := min g.fill room,
                view := min e.2.view room })

/-- The pages of a sequence in the order of an image's entries: layer, ordinal, head. -/
def parkPages (s : State) (q : Seqd) (limit : Option Nat) : List ParkPage :=
  (sortBy Prod.fst q.recs).flatMap (fun r => (sortBy Prod.fst r.2.leaves).filterMap (parkPage s q limit r.1))

/-- Whether an image holds a page as SEALED: not one of which it holds a part only. -/
def ParkPage.sealed_ (x : ParkPage) : Bool := x.g.sealed_ && x.fill == x.g.fill

/-- The slots of a page that an image stores, and their scales. -/
def parkRaw (s : State) (q : Seqd) (x : ParkPage) : List Byte := (slotsOf s q x.g x.fill).1 ++ (slotsOf s q x.g x.fill).2

/-- DIGEST of an entry: the directory's for a sealed page, else that of the stored slots (R347). -/
def parkDigest (s : State) (q : Seqd) (x : ParkPage) : List Byte :=
  if x.sealed_ then padTo 24 x.g.digest else (digestOf (parkRaw s q x)).take 24

/-- The table under which a sequence's pages are compressed for parking: none where COMP does not ask for it (R336,
Table SEQ-4). -/
def parkTable (s : State) (q : Seqd) (g : Page) : Option Nat := compressWith s g (q.comp % 16) (bit q.comp 7)

/-- The table under which a host image stores a page compressed, if it does. -/
def parkPack (s : State) (q : Seqd) (x : ParkPage) : Option Nat := if x.sealed_ then parkTable s q x.g else none

/-- The stored bytes of a page in a host image: whether they are compressed, under which table, and the bytes (R346,
R347); the shorter form is kept, as in R205. -/
def parkStored (s : State) (q : Seqd) (x : ParkPage) : Option Nat × List Byte :=
  let d := slotsOf s q x.g x.fill
  let raw := d.1 ++ d.2
  match (parkPack s q x).bind (tableOf s) with
  | some t =>
    let z := packStream t.2 d.1 d.2
    if z.length < raw.length then (some t.2.id, z) else (none, raw)
  | none => (none, raw)

/-- The form in which a warm image shows a page: its bytes in clear, or the stream it is stored as (R346). -/
def warmStored (s : State) (q : Seqd) (x : ParkPage) : Option Nat × List Byte :=
  match (if x.g.comp then tableOf s x.g.tableId else none) with
  | some t =>
    let bs := pageBytes s x.g
    (some t.2.id, padTo x.g.stored (packStream t.2 (bs.take s.im.dataArea) (bs.drop s.im.dataArea)))
  | none => (none, parkRaw s q x)

/-! ### Encryption of park streams (R475, R508) -/

/-- The XTS tweak: page index or entry number, area, unit. -/
def xtsTweak (index area unit : Nat) : Nat := index % 2 ^ 32 + area * 2 ^ 32 + unit * 2 ^ 34

/-- Two units exchanged. -/
def swapUnit (u : List Byte) (x : List Byte × List Byte) : List Byte := if u = x.1 then x.2 else if u = x.2 then x.1 else u

/-- The exchanges that make up the cipher of units of a length. -/
def xtsRounds (key : List Byte) (tweak n : Nat) : List (List Byte × List Byte) :=
  (Config.xtsSwaps key tweak n).filter (fun x => x.1.length == n && x.2.length == n)

/-- A unit encrypted, and decrypted. -/
def xtsSeal (key : List Byte) (tweak : Nat) (u : List Byte) : List Byte := (xtsRounds key tweak u.length).foldl swapUnit u
def xtsOpen (key : List Byte) (tweak : Nat) (u : List Byte) : List Byte := (xtsRounds key tweak u.length).foldr (fun x v => swapUnit v x) u

/-- An area's bytes encrypted or decrypted in units of 256 bytes. -/
def xtsArea (f : List Byte → Nat → List Byte → List Byte) (key : List Byte) (index area : Nat) (bs : List Byte) : List Byte :=
  ((chunks (bs.length / 256 + 1) 256 bs).zipIdx).flatMap (fun u => f key (xtsTweak index area u.2) u.1)

/-- The key of a slot. -/
def State.slotKey (s : State) (k : Nat) : List Byte := lookD k [] s.sec.fuses.slotKeys

/-- The bytes of entry `i` as they stand in an image: encrypted under IMAGE_ID[4:0] for a PROTECTED sequence. -/
def parkStream (s : State) (q : Seqd) (image i fill : Nat) (bs : List Byte) : List Byte :=
  if q.protected_ then
    let n := fill * q.slot s.im
    xtsArea xtsSeal (s.slotKey (image % 32)) i 0 (bs.take n) ++ xtsArea xtsSeal (s.slotKey (image % 32)) i 1 (bs.drop n)
  else bs

/-- The bytes of an entry of an image in clear. -/
def clearStream (s : State) (q : Seqd) (image i fill : Nat) (bs : List Byte) : List Byte :=
  if q.protected_ then
    let n := fill * q.slot s.im
    xtsArea xtsOpen (s.slotKey (image % 32)) i 0 (bs.take n) ++ xtsArea xtsOpen (s.slotKey (image % 32)) i 1 (bs.drop n)
  else bs

/-! ### Entries and header (Tables PARK-3, PARK-4) -/

/-- A page entry. -/
def parkEntry (s : State) (q : Seqd) (x : ParkPage) (table : Option Nat) (len off : Nat) : List Byte :=
  let flags := b2n x.sealed_ + 2 * b2n table.isSome + 4 * b2n x.g.indexed + 8 * b2n (decide (1 < x.g.refs))
  padTo 64 x.g.summary ++ parkDigest s q x ++ leBytes 12 x.g.hash ++ leBytes 2 x.g.radius ++ leBytes 2 x.g.scale ++
  leBytes 4 x.ord ++ leBytes 2 x.layer ++ leBytes 1 (if q.latent then 0 else x.head) ++ leBytes 1 flags ++ leBytes 2 x.fill ++
  leBytes 2 x.view ++ leBytes 2 (table.getD 0) ++ zeros 2 ++ leBytes 4 len ++ leBytes 4 off

/-- Where the pages of an image begin. -/
def pageBase (n : Nat) : Nat := ceilDiv (384 + 128 * n) 4096 * 4096

/-- The entries of an image from byte `at_` of its page area on: entry array, and each page's offset and stored bytes. -/
def layEntries (s : State) (q : Seqd) (store : ParkPage → Option Nat × List Byte) :
    List ParkPage → Nat → List Byte × List (Nat × List Byte)
  | [], _ => ([], [])
  | x :: r, at_ =>
    let y := store x
    let rest := layEntries s q store r (at_ + ceilDiv y.2.length 64 * 64)
    (parkEntry s q x y.1 y.2.length (at_ / 64) ++ rest.1, (at_, y.2) :: rest.2)

/-- The length of an image: to the end of its last page. -/
def imageLen (n : Nat) (pages : List (Nat × List Byte)) : Nat :=
  match pages.getLast? with
  | some p => p.1 + p.2.length
  | none => pageBase n

/-- The header of an image. -/
def headerBytes (s : State) (c : Cmd) (x : Park) : List Byte :=
  let b := c.bytes
  let packed := (chunks (x.entries.length / 128 + 1) 128 x.entries).any (fun e => bit (u8 e 111) 1)
  let flags := b2n (x.was == 2) + 2 * b2n (bit (u8 x.desc 9) 0) + 4 * b2n packed
  let head := leBytes 4 0x4B524150 ++ leBytes 2 1 ++ leBytes 1 (u8 b 12) ++ leBytes 1 flags ++ leBytes 4 x.seq ++
    leBytes 4 (u32 b 28) ++ leBytes 2 s.nodeId ++ leBytes 2 (u16 x.desc 12) ++ leBytes 4 (u32 b 20) ++
    leBytes 4 (x.entries.length / 128) ++ leBytes 4 (if bit (u8 b 13) 0 then u32 b 24 else 0) ++ leBytes 8 x.cut ++
    leBytes 8 x.len ++ zeros 16 ++ padTo 64 x.desc ++ digestOf x.desc ++ digestOf x.entries
  padTo 384 (head ++ digestOf head)

namespace Img
def wellMarked (h : List Byte) : Bool := u32 h 0 == 0x4B524150 && u16 h 4 == 1
def frozen (h : List Byte) : Bool := bit (u8 h 7) 0
def protected_ (h : List Byte) : Bool := bit (u8 h 7) 1
def seq (h : List Byte) : Nat := u32 h 8
def image (h : List Byte) : Nat := u32 h 12
def pos (h : List Byte) : Nat := u32 h 20
def count (h : List Byte) : Nat := u32 h 24
def len (h : List Byte) : Nat := fieldAt h 40 8
def desc (h : List Byte) : List Byte := slice h 64 64
def digests (h : List Byte) : Bool := digestOf (h.take 256) == slice h 256 64 && digestOf (slice h 64 64) == slice h 128 64
def table (h : List Byte) : List Byte := slice h 192 64
end Img

namespace Ent
def digest (e : List Byte) : List Byte := slice e 64 24
def ord (e : List Byte) : Nat := u32 e 104
def layer (e : List Byte) : Nat := u16 e 108
def head (e : List Byte) : Nat := u8 e 110
def flags (e : List Byte) : Nat := u8 e 111
def fill (e : List Byte) : Nat := u16 e 112
def view (e : List Byte) : Nat := u16 e 114
def len (e : List Byte) : Nat := u32 e 120
def off (e : List Byte) : Nat := 64 * u32 e 124
end Ent

/-- The entries of an entry array. -/
def entriesOf (bs : List Byte) : List (List Byte) := chunks (bs.length / 128 + 1) 128 bs

/-! ### Warm images (R342, R346, R401) -/

/-- The image frames' bytes: header and entry array. -/
def warmBytes (s : State) (w : WarmImage) : List Byte :=
  (w.frames.flatMap (fun k => locBytes s (.cxl k.1 k.2) 0 s.im.dataArea)).take (384 + 128 * w.pages.length)

/-- Whether an image's frames can be read. -/
def warmReadable (s : State) (w : WarmImage) : Bool := w.frames.all (fun k => canRead s (.cxl k.1 k.2) 0 s.im.dataArea)

/-- The errors of reading an image's frames counted. -/
def noteWarm (w : WarmImage) (s : State) : State := forEach w.frames (fun k => noteRead (.cxl k.1 k.2) 0 s.im.dataArea) s

/-- Header and entries written to image frames of a carriage's CXL ranges; none where they have no room. -/
def writeWarm (c : Nat) (k : Nat) (bs : List Byte) : Nat → State → Option (List (Nat × Nat) × State)
  | 0, s => some ([], s)
  | n + 1, s =>
    (takeCxl c 0 (.park k) s).bind (fun f =>
      (writeWarm c k (bs.drop s.im.dataArea) n f.2).map (fun r =>
        ((c, f.1) :: r.1, writeLoc (.cxl c f.1) 0 (bs.take s.im.dataArea) r.2)))

/-- The page that entry `i` of a warm image shows, as it now lies on the node. -/
def warmPage (s : State) (w : WarmImage) (i : Nat) (e : List Byte) : Option ParkPage :=
  (look (nth 0 w.pages i) s.seq.pages).map (fun g =>
    { layer := Ent.layer e, ord := Ent.ord e, head := Ent.head e, leaf := 0, page := nth 0 w.pages i, g := g, fill := Ent.fill e,
      view := Ent.view e })

/-- One page of a warm image as the image's layout shows it. -/
def warmStream (s : State) (q : Seqd) (w : WarmImage) (image i : Nat) (e : List Byte) : List Byte :=
  match warmPage s w i e with
  | some x => parkStream s q image i (Ent.fill e) (padTo (Ent.len e) (warmStored s q x).2)
  | none => zeros (Ent.len e)

/-- Whether a page that a span of an image touches can be read. -/
def warmPageOk (s : State) (w : WarmImage) (i : Nat) : Bool :=
  (look (nth 0 w.pages i) s.seq.pages).any (fun g => pageReadable s g)

/-- The entries of an image whose pages lie in a span of it. -/
def touched (es : List (List Byte)) (off len : Nat) : List (Nat × List Byte) :=
  ((es.zipIdx).map (fun x => (x.2, x.1))).filter (fun x =>
    decide (Ent.off x.2 < off + len) && decide (off < Ent.off x.2 + Ent.len x.2))

/-- A span of a warm image, as the layout of R346 places its parts. -/
def warmSpan (s : State) (q : Seqd) (w : WarmImage) (image off len : Nat) : List Byte :=
  let head := warmBytes s w
  let es := entriesOf (head.drop 384)
  let base := padTo len (head.drop off)
  (touched es off len).foldl (fun acc x =>
    let d := warmStream s q w image x.1 x.2
    let from_ := Ent.off x.2
    if off ≤ from_ then (overwrite acc (from_ - off) d).take len else (overwrite acc 0 (d.drop (off - from_))).take len) base

end Sys2Proof.Machine
end

