-- ==== Sys2Proof/Machine/Park.lean ====
section
/-! DEFINITION. Parking (R338 to R345, R401): SEQ_PARK, its checkpoint, its transfer and its end, and PARK_XFER. -/

namespace Sys2Proof.Machine

open Sys2Proof

/-! ### The operands of SEQ_PARK (Table PARK-7) -/

namespace Pk
def mode (b : List Byte) : Nat := u8 b 12
def atCkpt (b : List Byte) : Bool := bit (u8 b 13) 0
def first (b : List Byte) : Nat := u16 b 14
def layers (b : List Byte) : Nat := u16 b 16
def pos (b : List Byte) : Nat := u32 b 20
def ckpt (b : List Byte) : Nat := u32 b 24
def image (b : List Byte) : Nat := u32 b 28
def dest (b : List Byte) : Nat := u64 b 32
def destLen (b : List Byte) : Nat := u64 b 40
/-- A WARM park of a range of layers. -/
def slice (b : List Byte) : Bool := mode b == 0 && layers b != 0
/-- A park that changes the sequence's state: whole WARM, or COLD. -/
def whole (b : List Byte) : Bool := (mode b == 0 && layers b == 0) || mode b == 1
end Pk

/-- The position limit of a park's image. -/
def parkLimit (b : List Byte) : Option Nat := if Pk.mode b = 2 then some (Pk.pos b) else none

/-! ### Acceptance and start -/

/-- Whether a pending CHECKPOINT entry of a carriage carries an ID (R339). -/
def ckptPending (s : State) (car id : Nat) : Bool :=
  s.time.evts.any (fun e => e.2.st == 1 && e.2.kind == 3 && e.2.car == car && e.2.arg == id)

/-- The checks of a SEQ_PARK when it is accepted (R338, R339, R493, R508, Tables SEQ-8, FLT-5). -/
def parkAcceptFault (s : State) (c : Cmd) (q : Seqd) : Option (Nat × Nat) :=
  let b := c.bytes
  let fields := decide (Pk.mode b ≤ 2) && (Pk.layers b == 0 || (Pk.mode b == 0 && decide (Pk.first b + Pk.layers b ≤ q.layers)))
  let keyed := !q.protected_ || (s.hasSlotKeys && (Pk.slice b || Pk.image b % 32 == s.currentSlot q.car))
  if fields = false then some (Status.badCommand, 0)
  else if Pk.atCkpt b ∧ ckptPending s (Op.car b) (Pk.ckpt b) = false then some (Status.badCommand, 24)
  else if keyed = false ∨ (q.protected_ ∧ Pk.mode b ≠ 0 ∧ qConf s c.q = false) then some (Status.accessDenied, 0)
  else if q.parked then some (Status.frozen, 0)
  else if s.seqHeld q.car (Op.seqId b) then some (Status.aborted, 0)
  else none

/-- Whether the node holds a position of a sequence at or above `n`. -/
def holdsFrom (s : State) (q : Seqd) (n : Nat) : Bool :=
  q.recs.any (fun r => r.2.leaves.any (fun e => decide (n < ordinalOf s q r.1 (e.1 / max 1 q.kv) * q.p + e.2.view)))

/-- The pages that a WARM park moves: every TIER 0 page of the named layers, or of the sequence those not shared. -/
def parkMoves (s : State) (b : List Byte) (q : Seqd) : List ParkPage :=
  (parkPages s q none).filter (fun x => x.g.loc.isHbm &&
    (if Pk.slice b then decide (Pk.first b ≤ x.layer) && decide (x.layer < Pk.first b + Pk.layers b) else x.g.refs == 1))

/-- Free frames of a carriage's CXL ranges. -/
def cxlFreeCount (s : State) (c : Nat) : Nat :=
  countOf (fun f => cxlFree s c 0 f || cxlFree s c 1 f) (List.range (cxlTotal s.im c))

/-- Frames that a warm image's header and entry array take. -/
def imageFrames (s : State) (n : Nat) : Nat := ceilDiv (384 + 128 * n) (max 1 s.im.dataArea)

/-- The entry array and the pages of a park's image. -/
def parkLay (s : State) (b : List Byte) (q : Seqd) : List Byte × List (Nat × List Byte) :=
  let ps := parkPages s q (parkLimit b)
  layEntries s q (if Pk.mode b = 0 then warmStored s q else parkStored s q) ps (pageBase ps.length)

/-- The checks of a park at its start (R338). -/
def parkStartFault (s : State) (b : List Byte) (q : Seqd) : Option (Nat × Nat) :=
  let seq := Op.seqId b
  let n := (parkPages s q none).length
  let lay := parkLay s b q
  let room := (parkMoves s b q).length + (if Pk.slice b then 0 else imageFrames s n)
  if covers s seq q (Pk.pos b) = false ∨ (Pk.mode b ≠ 2 ∧ holdsFrom s q (Pk.pos b)) ∨ (q.st = 2 ∧ q.freeze < Pk.pos b) then
    some (Status.badCommand, 20)
  else if Pk.mode b ≠ 0 ∧ Pk.destLen b < imageLen (lay.1.length / 128) lay.2 then some (Status.badCommand, 23)
  else if Pk.mode b = 0 ∧ cxlFreeCount s q.car < room then some (Status.accessDenied, 2)
  else if q.parked then some (Status.frozen, 0)
  else if s.seqHeld q.car seq then some (Status.aborted, 0)
  else none

/-- Started commands on a sequence, other than a park that waits. -/
def seqWork (s : State) (k seq : Nat) : List Nat :=
  keys (s.que.started.filter (fun e => e.1 != k && !e.2.held && Op.seqId e.2.bytes == seq &&
    (opRow e.2.bytes).any (fun r => r.seq) && !(s.parkOf e.1).any (fun x => x.waiting)))

/-- Coaches on a sequence. -/
def seqCoaches (s : State) (seq : Nat) : List Nat := keys (s.fox.coaches.filter (fun e => e.2.seq == seq))

/-- The state that a park leaves its sequence in while it runs. -/
def parkEnter (b : List Byte) (seq : Nat) (s : State) : State :=
  if Pk.whole b then onSeqd seq (fun q => { q with st := 3 }) s else s

/-- A park starts at `cut`: it is checked, and a whole WARM or a COLD one takes the sequence to PARKING (R338 to R340,
event 0x0420). -/
def parkStart (k cut : Nat) (s : State) : State :=
  match s.cmd k, s.parkOf k with
  | some c, some x =>
    let seq := Op.seqId c.bytes
    match look seq s.seq.seqs with
    | none => parkFail k Status.badCommand 0 none s
    | some q =>
      match parkStartFault s c.bytes q with
      | some f => parkFail k f.1 f.2 none s
      | none =>
        let x := { x with waiting := false, was := q.st, cut := cut, desc := descBytes s seq q,
                          works := if Pk.whole c.bytes then seqWork s k seq else [],
                          coaches := if Pk.whole c.bytes then seqCoaches s seq else [] }
        s |> onPark (fun y => { y with parks := put k x y.parks })
          |> raise 0x0420 (some q.car) [(4, seq), (1, Pk.mode c.bytes), (4, Pk.image c.bytes)] |> parkEnter c.bytes seq
  | _, _ => s

/-- SEQ_PARK: accepted, it starts at once, or waits for its checkpoint. -/
def seqPark (k : Nat) (c : Cmd) (s : State) : State :=
  if (s.parkOf k).isSome then s
  else
    onOwnSeq k c none (fun q s =>
      match parkAcceptFault s c q with
      | some f => completeReason k f.1 f.2 s
      | none =>
        let x : Park :=
          { seq := Op.seqId c.bytes, waiting := true, was := q.st, cut := 0, desc := [], works := [], coaches := [],
            moving := false, pages := [], entries := [], len := 0, ckpt := Pk.ckpt c.bytes }
        let s := onPark (fun y => { y with parks := put k x y.parks }) s
        if Pk.atCkpt c.bytes then s else parkStart k s.ft s) s

def execSeqPark (k : Nat) (s : State) : Result := done (live (withCmd k 1 0x30 (seqPark k)) s)

/-- CHECKPOINT: an entry fires, and every park of its carriage that waits on its ID starts at its FT (R339). -/
def checkpoint (i : Nat) (s : State) : State :=
  fireEntry i 3 (fun e s => forEach (parksWaiting s e.car e.arg) (fun k => parkStart k e.ft) s) s

def execCheckpoint (i : Fin 256) (s : State) : Result := done (live (checkpoint i.val) s)

/-! ### The transfer -/

/-- The status that forbids a park to read a page: key, staging buffer where it is expanded or is to be compressed, code,
digest. -/
def parkReadFault (s : State) (x : ParkPage) (packs : Bool) : Option Nat :=
  firstFail [
    (keyFault s x.g != some Status.accessDenied, Status.accessDenied),
    (keyFault s x.g != some Status.keyRetired, Status.keyRetired),
    ((!x.g.comp && !packs) || bufferServes s (locHalf s x.g.loc), Status.claimed),
    (pageReadable s x.g && (!x.g.sealed_ || pageDigest s x.g == x.g.digest), Status.uncorrectable)]

/-- What a page that a park cannot read counts and records: code errors, or a digest mismatch (event 0x0401). -/
def noteParkRead (q : Seqd) (x : ParkPage) (st : Nat) (s : State) : State :=
  let s := notePage x.g 0 s.im.frameSize s
  if st = Status.uncorrectable ∧ pageReadable s x.g then digestFail x.page q.car 0x30 s
  else s |> noteKey st (some x.g) q.car |> when (st == Status.claimed) (refuseBuffer q.car)

/-- A page moved to the carriage's CXL ranges, compressed where its sequence asks for it (R336, R342). -/
def moveToCxl (q : Seqd) (x : ParkPage) (s : State) : Option State :=
  (takeCxl q.car (locHalf s x.g.loc) (.moveDest x.page) s).map (fun f =>
    let m : Move :=
      { dest := .cxl q.car f.1, comp := parkTable s q x.g, cmd := none, half := locHalf s x.g.loc, car := q.car }
    moveTo x.page m x.g (moveForm s m (pageBytes s x.g)) (beginMove x.page m f.2))

/-- The pages of a WARM park moved in order; the failure that ends it, with its page. Pages moved so far stay in TIER 1. -/
def warmMoves (q : Seqd) : List ParkPage → State → Option (Nat × Nat × Nat) × State
  | [], s => (none, s)
  | x :: r, s =>
    match parkReadFault s x (parkTable s q x.g).isSome with
    | some st => (some (st, 0, x.page), noteParkRead q x st s)
    | none =>
      match moveToCxl q x (notePage x.g 0 s.im.frameSize s) with
      | none => (some (Status.accessDenied, 2, x.page), s)
      | some s => warmMoves q r s

/-- The pages of an image read and checked in order; `packs` says which are to be compressed. The first failure. -/
def parkReads (packs : State → ParkPage → Bool) (q : Seqd) : List ParkPage → State → Option (Nat × Nat × Nat) × State
  | [], s => (none, s)
  | x :: r, s =>
    match parkReadFault s x (packs s x) with
    | some st => (some (st, 0, x.page), noteParkRead q x st s)
    | none => parkReads packs q r (notePage x.g 0 s.im.frameSize s)

/-- The pages that a WARM park leaves where they are and whose image entries it writes: every one checked against its digest
(R342, R347). -/
def parkStays (s : State) (b : List Byte) (q : Seqd) : List ParkPage :=
  let moves := (parkMoves s b q).map (fun x => x.page)
  if Pk.slice b then [] else (parkPages s q none).filter (fun x => decide (x.page ∉ moves))

/-- The pages of a WARM park moved, then those that stay checked. -/
def warmTransfer (b : List Byte) (q : Seqd) (s : State) : Option (Nat × Nat × Nat) × State :=
  let stays := parkStays s b q
  let r := warmMoves q (parkMoves s b q) s
  if r.1.isSome then r else parkReads (fun _ _ => false) q stays r.2

/-- The records of an image on a confidential queue, each of 4,096 bytes of it, written from record `i` on (R149, R151). -/
def writeRecords (k : Nat) (c : Cmd) : Nat → List (List Byte) → State → State
  | _, [], s => s
  | i, d :: r, s =>
    let w := sealRecord c.q 4 (Op.cmdId c.bytes) i 0 d s
    writeRecords k c (i + 1) r (memWrite (qPort c.q) (Pk.dest c.bytes + 4136 * i) 2 w.1 w.2)

/-- The bytes of a host image, with a header of zeros: its records after the first do not depend on the header. -/
def imageBytes (entries : List Byte) (pages : List (Nat × List Byte)) (len : Nat) : List Byte :=
  pages.foldl (fun acc p => overwrite acc p.1 p.2) (padTo (max len (pageBase (entries.length / 128))) (zeros 384 ++ entries))

/-- Entry array, then pages, written to host memory (R343, R347). -/
def writeImage (k : Nat) (c : Cmd) (entries : List Byte) (pages : List (Nat × List Byte)) (len : Nat) (s : State) : State :=
  if qConf s c.q then
    let img := (imageBytes entries pages len).take len
    writeRecords k c 1 (chunks (len / 4096 + 1) 4096 (img.drop 4096)) s
  else
    s |> hostWrite k (Pk.dest c.bytes + 384) entries
      |> forEach pages (fun p => hostWrite k (Pk.dest c.bytes + p.1) (padTo (ceilDiv p.2.length 64 * 64) p.2))

/-- The header written last (R343): with the image's first record on a confidential queue. -/
def writeHeader (k : Nat) (c : Cmd) (x : Park) (header : List Byte) (s : State) : State :=
  if qConf s c.q then writeRecords k c 0 [padTo 4096 (header ++ x.entries)] s
  else hostWrite k (Pk.dest c.bytes) header s

/-- Whether a page of a sequence is being moved or sealed. -/
def pagesBusy (s : State) (q : Seqd) : Bool :=
  q.entries.any (fun e => has e.2.2.page s.seq.moves || has e.2.2.page s.seq.sealing)

/-- The transfer of a park: its pages moved, or its entry array and pages written. -/
def parkTransfer (k : Nat) (c : Cmd) (x : Park) (q : Seqd) (s : State) : State :=
  let b := c.bytes
  let r := if Pk.mode b = 0 then warmTransfer b q s
    else parkReads (fun s x => (parkPack s q x).isSome) q (parkPages s q (parkLimit b)) s
  match r.1 with
  | some f => parkFail k f.1 f.2.1 (some f.2.2) r.2
  | none =>
    let s := r.2
    let ps := parkPages s q (parkLimit b)
    let lay := parkLay s b q
    let len := imageLen (lay.1.length / 128) lay.2
    let x := { x with moving := true, pages := ps.map (fun p => p.page), entries := lay.1, len := len }
    let pages := (lay.2.zip ps).zipIdx.map (fun y => (y.1.1.1, parkStream s q (Pk.image b) y.2 y.1.2.fill y.1.1.2))
    s |> when (Pk.mode b != 0) (writeImage k c lay.1 pages len) |> onPark (fun y => { y with parks := put k x y.parks })

/-- PARK_TRANSFER_START: the work begun before the park has ended (R340), and the carriage's gathers and page moves leave it
its turn (R198, R199). A port that is DOWN ends it (R120). -/
def parkTransferStart (k : Nat) (s : State) : State :=
  match s.cmd k, s.parkOf k with
  | some c, some x =>
    match look x.seq s.seq.seqs with
    | none => parkFail k Status.badCommand 0 none s
    | some q =>
      if x.waiting ∨ x.moving ∨ x.works.any (fun w => has w s.que.started) ∨ x.coaches.any (fun i => has i s.fox.coaches) ∨
          pagesBusy s q ∨ transferMayRun s q.car = false then s
      else if Pk.mode c.bytes ≠ 0 ∧ s.portUp (qPort c.q) = false then s |> noteLost c |> parkFail k Status.aborted 0 none
      else parkTransfer k c x q s
  | _, _ => s

def execParkTransferStart (k : Nat) (s : State) : Result := done (live (parkTransferStart k) s)

/-! ### The end of a park (R342 to R345) -/

/-- A page goes to TIER 2: its frame is freed, its Fox row and Owl key are released (R332, R343). -/
def coldPage (p : Nat) (s : State) : State :=
  match look p s.seq.pages with
  | none => s
  | some g =>
    s |> releaseRow p |> when g.indexed (indexRemove p g) |> onFox (fun f => { f with rowless := remSet p f.rowless })
      |> onPage p (fun g => { g with loc := .cold, comp := false, tableId := 0, stored := 0 }) |> freeLoc g.loc
      |> when (g.loc != .cold) (slotLeft g.keySlot)

/-- A leaf entry of a sequence cleared, and its page's REFCOUNT lowered. -/
def clearLeaf (seq layer e page : Nat) (s : State) : State :=
  s |> onLayer seq layer (fun r => { r with leaves := del e r.leaves }) |> unref page

/-- The descriptor's count of TIER 2 pages. -/
def fixCold (seq : Nat) (s : State) : State :=
  let cold := fun (q : Seqd) => countOf (fun e => (look e.2.2.page s.seq.pages).any (fun g => g.loc == .cold)) q.entries
  onSeqd seq (fun q => { q with cold := cold q }) s

/-- What a COLD park does after its header has been sent: unshared pages go to TIER 2, shared ones are let go (R343). -/
def coldPages (seq : Nat) (q : Seqd) (s : State) : State :=
  let s := forEach q.entries (fun e s =>
    if (look e.2.2.page s.seq.pages).any (fun g => g.refs == 1) then coldPage e.2.2.page s
    else clearLeaf seq e.1 e.2.1 e.2.2.page s) s
  s |> forEach q.recs (fun r => fixSplit seq r.1) |> fixCold seq

/-- A park completes: event 0x0421, and the command's RESULT is the image's length. -/
def parkDone (k : Nat) (x : Park) (car len : Nat) (s : State) : State :=
  s |> onPark (fun y => { y with parks := del k y.parks }) |> raise 0x0421 (some car) [(4, x.seq), (8, len)]
    |> complete k Status.ok 0 len

/-- A whole WARM park's image is written to image frames, entry array and then header, and the sequence is PARKED_WARM. -/
def warmEnd (k : Nat) (x : Park) (q : Seqd) (header : List Byte) (s : State) : State :=
  match writeWarm q.car k (header ++ x.entries) (imageFrames s (x.entries.length / 128)) s with
  | none => parkFail k Status.accessDenied 2 none s
  | some r =>
    r.2 |> onPark (fun y => { y with warm := put x.seq { car := q.car, pages := x.pages, frames := r.1 } y.warm })
      |> onSeqd x.seq (fun q => { q with st := 4 }) |> parkDone k x q.car x.len

/-- PARK_COMPLETE. -/
def parkComplete (k : Nat) (s : State) : State :=
  match s.cmd k, s.parkOf k with
  | some c, some x =>
    match look x.seq s.seq.seqs with
    | none => parkFail k Status.badCommand 0 none s
    | some q =>
      let header := headerBytes s c x
      if x.moving = false then s
      else if Pk.slice c.bytes then parkDone k x q.car 0 s
      else if Pk.mode c.bytes = 0 then warmEnd k x q header s
      else if Pk.mode c.bytes = 1 then
        s |> writeHeader k c x header |> coldPages x.seq q |> onSeqd x.seq (fun q => { q with st := 5 }) |> parkDone k x q.car x.len
      else s |> writeHeader k c x header |> parkDone k x q.car x.len
  | _, _ => s

def execParkComplete (k : Nat) (s : State) : Result := done (live (parkComplete k) s)

/-! ### PARK_XFER (R401) -/

/-- The warm image that a request names. -/
def xferImage (s : State) (m : List Byte) : Option (Seqd × WarmImage) :=
  match look (u32 m 0) s.seq.seqs, look (u32 m 0) s.park.warm with
  | some q, some w => if q.st = 4 ∧ Img.image (warmBytes s w) = u32 m 4 then some (q, w) else none
  | _, _ => none

/-- Whether the image frames and the pages that a span touches can be read. -/
def xferReadable (s : State) (w : WarmImage) (off len : Nat) : Bool :=
  warmReadable s w && (touched (entriesOf ((warmBytes s w).drop 384)) off len).all (fun x => warmPageOk s w x.1)

/-- The errors met by reading a span counted. -/
def noteXfer (w : WarmImage) (off len : Nat) (s : State) : State :=
  let pages := (touched (entriesOf ((warmBytes s w).drop 384)) off len).map (fun x => nth 0 w.pages x.1)
  s |> noteWarm w |> forEach pages (fun p s => whenSome (look p s.seq.pages) (fun g => notePage g 0 s.im.frameSize) s)

/-- The checks of a PARK_XFER. -/
def xferFault (s : State) (e : RxEntry) (m : List Byte) : Option (Nat × Nat) :=
  let off := u64 m 8
  let len := u32 m 16
  match xferImage s m with
  | none => some (Status.badCommand, 22)
  | some (q, w) =>
    if m.length ≠ 24 ∨ len = 0 ∨ 1048576 < len ∨ Img.len (warmBytes s w) < off + len then
      some (Status.badCommand, 22)
    else if q.car ≠ e.car ∨ (q.protected_ ∧ s.hasSlotKeys = false) then some (Status.accessDenied, 0)
    else if q.protected_ ∧ u32 m 4 % 32 ∈ s.sec.retired then some (Status.keyRetired, 0)
    else none

/-- PARK_XFER: the range is read and answered as an RMA_READ is. -/
def parkXfer (src op : Nat) (e : RxEntry) (s : State) : State :=
  let m := e.message
  let off := u64 m 8
  let len := u32 m 16
  match xferFault s e m, xferImage s m with
  | some f, _ => s |> noteKeyAt f.1 none (u32 m 4 % 32) e.car |> nakMsg (src, op) e f.1 f.2 0
  | none, none => s
  | none, some (q, w) =>
    let s := noteXfer w off len s
    if xferReadable s w off len then respond (src, op) e (warmSpan s q w (u32 m 4) off len) s
    else nakMsg (src, op) e Status.uncorrectable 0 0 s

def execParkXfer (src : BitVec 12) (op : BitVec 32) (s : State) : Result :=
  done (live (withMsg src.toNat op.toNat MTy.parkXfer (parkXfer src.toNat op.toNat)) s)

end Sys2Proof.Machine
end

