-- ==== Sys2Proof/Machine/Flags.lean ====
section
/-! DEFINITION. The access types of register fields: what a read returns and leaves, and what a write leaves (R9 Table
SCP-3, R11, R12). The suffix E adds the expert window's check, which is the access's own (R14, R15). -/

namespace Sys2Proof.Machine

/-- The field access types. -/
inductive Acc where
  | rw | ro | rc | w1c | w1s | wo
deriving DecidableEq, Repr

/-- What a read of a field returns. -/
def Acc.read (a : Acc) (value : Nat) : Nat := if a = .wo then 0 else value

/-- What a read leaves in a field. -/
def Acc.afterRead (a : Acc) (reset value : Nat) : Nat := if a = .rc then reset else value

/-- What a write of `x` leaves in a field, before what the field itself makes of it. -/
def Acc.afterWrite (a : Acc) (old x : Nat) : Nat :=
  match a with
  | .rw => x
  | .w1c => old - Nat.land old x
  | .w1s => Nat.lor old x
  | .wo => old
  | .ro => old
  | .rc => old

/-- Whether a write can change a field's cell. -/
def Acc.stores (a : Acc) : Bool := a == .rw || a == .w1c || a == .w1s

end Sys2Proof.Machine
end

