-- ==== Sys2Proof/Machine/RegMap.lean ====
section
/-! DEFINITION. The register map: where each register of the spec's tables lies, which of a field's cells an access of a
port reaches, and the access type of each field (R7, R9, R29, and the tables of R31 to R584). A register of an array is
one row with its strides and counts; a reserved bit has no field (R10). -/

namespace Sys2Proof.Machine

open Sys2Proof

/-- Which cell of a field an access reaches: one for all ports, one for each port, an array for each port, the one that
the port's own select register names, or that of the queue in the port's QUE_SEL. -/
inductive RBank where
  | plain | port | portArr | sel (c : RN) | queue
deriving DecidableEq, Repr

/-- A field: its bits, its access type, its cell and the cell's first index. -/
structure Fld where
  hi : Nat
  lo : Nat
  acc : Acc
  cell : RN
  base : Nat
deriving DecidableEq, Repr

/-- A register, or an array of registers: the first one's offset, the strides and counts, the bank, and whether it is
the low word of a 64-bit quantity whose high word is the next register (R8). -/
structure Reg where
  off : Nat
  dims : List (Nat × Nat)
  bank : RBank
  low : Bool
  fields : List Fld
deriving DecidableEq, Repr

/-- Registers of block GLB (R31, R154, R584). -/
def glbRegs : List Reg := [
  ⟨0x0, [], .plain, false, [⟨31, 16, .ro, .GLB_PART_ID_PART, 0⟩, ⟨15, 8, .ro, .GLB_PART_ID_STEPPING, 0⟩, ⟨7, 0, .ro,
    .GLB_PART_ID_VARIANT, 0⟩]⟩,
  ⟨0x4, [], .plain, false, [⟨11, 7, .ro, .GLB_NODE_ADDR_RACK, 0⟩, ⟨6, 3, .ro, .GLB_NODE_ADDR_SLED, 0⟩, ⟨2, 0, .ro,
    .GLB_NODE_ADDR_NODE, 0⟩]⟩,
  ⟨0x100, [(4, 64)], .plain, false, [⟨1, 0, .ro, .GLB_SEM_OWNER, 0⟩, ⟨2, 2, .ro, .GLB_SEM_GRANTED, 0⟩, ⟨14, 8, .ro,
    .GLB_SEM_LEASE_MS, 0⟩]⟩,
  ⟨0x200, [], .plain, false, [⟨5, 0, .wo, .GLB_SEM_REL_INDEX, 0⟩]⟩,
  ⟨0x208, [], .plain, true, [⟨31, 0, .ro, .GLB_SEM_OWNED_A_LO_SEM, 0⟩]⟩,
  ⟨0x20C, [], .plain, false, [⟨31, 0, .ro, .GLB_SEM_OWNED_A_HI_SEM, 0⟩]⟩,
  ⟨0x210, [], .plain, true, [⟨31, 0, .ro, .GLB_SEM_OWNED_B_LO_SEM, 0⟩]⟩,
  ⟨0x214, [], .plain, false, [⟨31, 0, .ro, .GLB_SEM_OWNED_B_HI_SEM, 0⟩]⟩,
  ⟨0x8, [], .plain, false, [⟨7, 0, .ro, .GLB_CORE_VID_CODE, 0⟩]⟩]

/-- Registers of block TT (R105, R107). -/
def ttRegs : List Reg := [
  ⟨0x100000, [], .plain, false, [⟨0, 0, .rw, .TT_CTRL_FINE_SYNC, 0⟩, ⟨1, 1, .rw, .TT_CTRL_FINE_DELAY, 0⟩, ⟨2, 2,
    .rw, .TT_CTRL_XFER_EN, 0⟩]⟩,
  ⟨0x100004, [], .plain, false, [⟨2, 0, .ro, .TT_STATUS_STATE, 0⟩, ⟨3, 3, .w1c, .TT_STATUS_FAULT_SEEN, 0⟩, ⟨4, 4,
    .ro, .TT_STATUS_REF_OK, 0⟩, ⟨5, 5, .ro, .TT_STATUS_STEERING, 0⟩, ⟨13, 6, .ro, .TT_STATUS_TB_ID, 0⟩, ⟨15, 14,
    .ro, .TT_STATUS_TB_STATUS, 0⟩]⟩,
  ⟨0x100008, [], .plain, true, [⟨31, 0, .ro, .TT_FT_LO_FT_LO, 0⟩]⟩,
  ⟨0x10000C, [], .plain, false, [⟨31, 0, .ro, .TT_FT_HI_FT_HI, 0⟩]⟩,
  ⟨0x100010, [], .plain, true, [⟨31, 0, .ro, .TT_CAP_LO_CAP_LO, 0⟩]⟩,
  ⟨0x100014, [], .plain, false, [⟨31, 0, .ro, .TT_CAP_HI_CAP_HI, 0⟩]⟩,
  ⟨0x100018, [], .plain, false, [⟨7, 0, .ro, .TT_CAP_FRAC_FRAC, 0⟩]⟩,
  ⟨0x10001C, [], .plain, false, [⟨15, 0, .ro, .TT_SYNC_ERR_ERR, 0⟩]⟩,
  ⟨0x100020, [], .plain, false, [⟨13, 0, .ro, .TT_HOLD_HOLD_US, 0⟩]⟩,
  ⟨0x100024, [], .plain, false, [⟨4, 0, .ro, .TT_GRID_K, 0⟩]⟩,
  ⟨0x100028, [], .plain, false, [⟨15, 0, .rc, .TT_CODE_ERR_CRC, 0⟩, ⟨31, 16, .rc, .TT_CODE_ERR_DISAGREE, 0⟩]⟩,
  ⟨0x100030, [], .port, true, [⟨31, 0, .rw, .TT_EVT_FT_LO_FT_LO, 0⟩]⟩,
  ⟨0x100034, [], .port, false, [⟨31, 0, .rw, .TT_EVT_FT_HI_FT_HI, 0⟩]⟩,
  ⟨0x100038, [], .port, false, [⟨3, 0, .rw, .TT_EVT_SPEC_KIND, 0⟩, ⟨7, 4, .rw, .TT_EVT_SPEC_CARRIAGE, 0⟩, ⟨12, 8,
    .rw, .TT_EVT_SPEC_PERIOD_EXP, 0⟩]⟩,
  ⟨0x10003C, [], .port, false, [⟨31, 0, .rw, .TT_EVT_ARG_ARG, 0⟩]⟩,
  ⟨0x100040, [], .port, false, [⟨0, 0, .wo, .TT_EVT_CTRL_ADD, 0⟩, ⟨1, 1, .wo, .TT_EVT_CTRL_CANCEL, 0⟩, ⟨15, 8, .rw,
    .TT_EVT_CTRL_INDEX, 0⟩]⟩,
  ⟨0x100044, [], .port, false, [⟨7, 0, .ro, .TT_EVT_RESULT_STATUS, 0⟩, ⟨15, 8, .ro, .TT_EVT_RESULT_INDEX, 0⟩, ⟨16,
    16, .rc, .TT_EVT_RESULT_DONE, 0⟩]⟩,
  ⟨0x100048, [], .plain, false, [⟨8, 0, .ro, .TT_EVT_FREE_FREE, 0⟩, ⟨21, 16, .ro, .TT_EVT_FREE_POOL_FREE, 0⟩]⟩,
  ⟨0x100080, [(4, 8)], .plain, false, [⟨19, 0, .ro, .TT_LINK_DELAY_DELAY, 0⟩, ⟨31, 31, .ro, .TT_LINK_DELAY_VALID,
    0⟩]⟩,
  ⟨0x1000A0, [(4, 8)], .plain, false, [⟨23, 0, .ro, .TT_LINK_OFFSET_OFFSET, 0⟩, ⟨31, 31, .ro, .TT_LINK_OFFSET_VALID,
    0⟩]⟩,
  ⟨0x101000, [(4, 1024)], .plain, false, [⟨31, 0, .ro, .TT_EVT_ENTRY, 0⟩]⟩,
  ⟨0x180000, [], .plain, false, [⟨15, 0, .rw, .TT_STEER_PPB, 0⟩, ⟨17, 16, .rw, .TT_STEER_MODE, 0⟩, ⟨20, 18, .rw,
    .TT_STEER_LINK, 0⟩]⟩,
  ⟨0x180004, [], .plain, false, [⟨15, 0, .ro, .TT_STEER_ACC_ACC, 0⟩]⟩,
  ⟨0x180010, [(4, 8)], .plain, false, [⟨15, 0, .rw, .TT_LINK_ASYM_ASYM, 0⟩]⟩]

/-- Registers of block CMP (R72). -/
def cmpRegs : List Reg := [
  ⟨0x200000, [], .plain, false, [⟨0, 0, .wo, .CMP_CTRL_STAGE, 0⟩, ⟨1, 1, .wo, .CMP_CTRL_ARM, 0⟩, ⟨2, 2, .wo,
    .CMP_CTRL_CANCEL, 0⟩, ⟨3, 3, .wo, .CMP_CTRL_COMMIT, 0⟩]⟩,
  ⟨0x200004, [], .plain, false, [⟨3, 0, .ro, .CMP_STATUS_STATE, 0⟩, ⟨4, 4, .ro, .CMP_STATUS_COMMIT_BUSY, 0⟩, ⟨15, 8,
    .ro, .CMP_STATUS_CHECK, 0⟩, ⟨31, 16, .ro, .CMP_STATUS_TAG, 0⟩]⟩,
  ⟨0x200008, [], .plain, true, [⟨31, 0, .rw, .CMP_SRC_ADDR_LO_ADDR_LO, 0⟩]⟩,
  ⟨0x20000C, [], .plain, false, [⟨31, 0, .rw, .CMP_SRC_ADDR_HI_ADDR_HI, 0⟩]⟩,
  ⟨0x200010, [], .plain, false, [⟨22, 0, .rw, .CMP_SRC_LEN_LEN, 0⟩]⟩,
  ⟨0x200018, [], .plain, true, [⟨31, 0, .rw, .CMP_SWITCH_FT_LO_FT_LO, 0⟩]⟩,
  ⟨0x20001C, [], .plain, false, [⟨31, 0, .rw, .CMP_SWITCH_FT_HI_FT_HI, 0⟩]⟩,
  ⟨0x200020, [], .plain, false, [⟨15, 0, .ro, .CMP_EPOCH_CURRENT, 0⟩, ⟨31, 16, .ro, .CMP_EPOCH_ARMED, 0⟩]⟩,
  ⟨0x200024, [], .plain, false, [⟨8, 0, .ro, .CMP_DRAIN_DRAIN_US, 0⟩]⟩,
  ⟨0x200028, [(4, 16)], .plain, false, [⟨31, 0, .ro, .CMP_ACTIVE_DIGEST_DIGEST, 0⟩]⟩,
  ⟨0x200068, [], .plain, false, [⟨31, 0, .rc, .CMP_STALE_CNT_COUNT, 0⟩]⟩,
  ⟨0x20006C, [], .plain, false, [⟨1, 0, .w1c, .CMP_CLAIM_STATUS_RES1, 0⟩, ⟨3, 2, .w1c, .CMP_CLAIM_STATUS_RES2, 0⟩,
    ⟨5, 4, .w1c, .CMP_CLAIM_STATUS_RES3, 0⟩, ⟨7, 6, .w1c, .CMP_CLAIM_STATUS_RES4, 0⟩]⟩,
  ⟨0x200070, [], .plain, false, [⟨7, 0, .ro, .CMP_OWNER_OWNERS, 0⟩]⟩,
  ⟨0x200074, [], .port, false, [⟨15, 0, .rw, .CMP_EXPERT_UNLOCK_BLOCKS, 0⟩]⟩,
  ⟨0x200078, [], .plain, false, [⟨15, 0, .ro, .CMP_CARRIAGE_VALID_VALID, 0⟩]⟩]

/-- Registers of block QUE (R155, R156). -/
def queRegs0 : List Reg := [
  ⟨0x300000, [], .plain, false, [⟨2, 0, .ro, .QUE_PORT_STATUS_STATE, 0⟩, ⟨7, 4, .ro, .QUE_PORT_STATUS_LANES, 0⟩,
    ⟨15, 8, .ro, .QUE_PORT_STATUS_UP_COUNT, 0⟩]⟩,
  ⟨0x300004, [], .plain, false, [⟨2, 0, .ro, .QUE_PORT_STATUS_STATE, 1⟩, ⟨7, 4, .ro, .QUE_PORT_STATUS_LANES, 1⟩,
    ⟨15, 8, .ro, .QUE_PORT_STATUS_UP_COUNT, 1⟩]⟩,
  ⟨0x300008, [], .plain, false, [⟨15, 0, .rc, .QUE_PORT_ERR_CRC, 0⟩, ⟨31, 16, .rc, .QUE_PORT_ERR_REPLAY, 0⟩]⟩,
  ⟨0x30000C, [], .plain, false, [⟨15, 0, .rc, .QUE_PORT_ERR_CRC, 1⟩, ⟨31, 16, .rc, .QUE_PORT_ERR_REPLAY, 1⟩]⟩,
  ⟨0x300010, [], .plain, false, [⟨15, 0, .rc, .QUE_CQE_DROP, 0⟩, ⟨31, 16, .rc, .QUE_CQE_DROP, 1⟩]⟩,
  ⟨0x300014, [], .port, false, [⟨15, 0, .rw, .QUE_SEL_QUEUE, 0⟩]⟩,
  ⟨0x300020, [], .queue, true, [⟨31, 0, .rw, .QUE_CTX_SQ_BASE_LO_ADDR_LO, 0⟩]⟩,
  ⟨0x300024, [], .queue, false, [⟨31, 0, .rw, .QUE_CTX_SQ_BASE_HI_ADDR_HI, 0⟩]⟩,
  ⟨0x300028, [], .queue, true, [⟨31, 0, .rw, .QUE_CTX_CQ_BASE_LO_ADDR_LO, 0⟩]⟩,
  ⟨0x30002C, [], .queue, false, [⟨31, 0, .rw, .QUE_CTX_CQ_BASE_HI_ADDR_HI, 0⟩]⟩,
  ⟨0x300030, [], .queue, false, [⟨3, 0, .rw, .QUE_CTX_CFG_SQ_EXP, 0⟩, ⟨7, 4, .rw, .QUE_CTX_CFG_CQ_EXP, 0⟩, ⟨10, 8,
    .rw, .QUE_CTX_CFG_ENGINE, 0⟩, ⟨11, 11, .rw, .QUE_CTX_CFG_CONF, 0⟩, ⟨12, 12, .rw, .QUE_CTX_CFG_IRQ_EN, 0⟩, ⟨25,
    16, .rw, .QUE_CTX_CFG_SESSION, 0⟩]⟩,
  ⟨0x300034, [], .queue, true, [⟨31, 0, .rw, .QUE_CTX_IRQ_ADDR_LO_ADDR_LO, 0⟩]⟩,
  ⟨0x300038, [], .queue, false, [⟨31, 0, .rw, .QUE_CTX_IRQ_ADDR_HI_ADDR_HI, 0⟩]⟩,
  ⟨0x30003C, [], .queue, false, [⟨31, 0, .rw, .QUE_CTX_IRQ_DATA_DATA, 0⟩]⟩,
  ⟨0x300040, [], .queue, false, [⟨7, 0, .rw, .QUE_CTX_IRQ_MOD_COUNT, 0⟩, ⟨19, 8, .rw, .QUE_CTX_IRQ_MOD_TIME_US, 0⟩]⟩,
  ⟨0x300044, [], .queue, false, [⟨0, 0, .wo, .QUE_CTX_CTRL_ENABLE, 0⟩, ⟨1, 1, .wo, .QUE_CTX_CTRL_DISABLE, 0⟩, ⟨2, 2,
    .wo, .QUE_CTX_CTRL_RESET, 0⟩]⟩,
  ⟨0x300048, [], .queue, false, [⟨2, 0, .ro, .QUE_CTX_STATUS_STATE, 0⟩, ⟨3, 3, .ro, .QUE_CTX_STATUS_LEAVING, 0⟩, ⟨7,
    4, .ro, .QUE_CTX_STATUS_CARRIAGE, 0⟩, ⟨15, 8, .ro, .QUE_CTX_STATUS_STOP_CAUSE, 0⟩, ⟨31, 16, .ro,
    .QUE_CTX_STATUS_INFLIGHT, 0⟩]⟩,
  ⟨0x30004C, [], .queue, false, [⟨15, 0, .ro, .QUE_CTX_PTR_SQ_HEAD, 0⟩, ⟨31, 16, .ro, .QUE_CTX_PTR_CQ_TAIL, 0⟩]⟩,
  ⟨0x300050, [], .port, false, [⟨7, 0, .ro, .QUE_CTX_RESULT_STATUS, 0⟩, ⟨8, 8, .rc, .QUE_CTX_RESULT_DONE, 0⟩]⟩,
  ⟨0x310000, [(4, 2048)], .plain, false, [⟨31, 0, .ro, .QUE_STOPPED_STOPPED, 0⟩]⟩,
  ⟨0x340000, [(4, 65536)], .plain, false, [⟨15, 0, .wo, .QUE_DOORBELL_SQ_TAIL, 0⟩, ⟨31, 16, .wo,
    .QUE_DOORBELL_CQ_HEAD, 0⟩]⟩,
  ⟨0x380000, [(4, 16)], .plain, false, [⟨3, 0, .rw, .QUE_ARB_WEIGHT_WEIGHT, 0⟩]⟩,
  ⟨0x380040, [], .plain, false, [⟨6, 0, .rw, .QUE_FETCH_MAX_ENTRIES, 0⟩]⟩,
  ⟨0x380100, [(4, 8)], .plain, false, [⟨7, 0, .rw, .QUE_ONZ_EQ_CTLE, 0⟩, ⟨15, 8, .rw, .QUE_ONZ_EQ_DFE1, 0⟩, ⟨23, 16,
    .rw, .QUE_ONZ_EQ_TX_PRE, 0⟩, ⟨31, 24, .rw, .QUE_ONZ_EQ_TX_POST, 0⟩]⟩]

/-- Registers of block QUE, continued. -/
def queRegs1 : List Reg := [
  ⟨0x380120, [(4, 8)], .plain, false, [⟨7, 0, .rw, .QUE_ONZ_EQ_CTLE, 8⟩, ⟨15, 8, .rw, .QUE_ONZ_EQ_DFE1, 8⟩, ⟨23, 16,
    .rw, .QUE_ONZ_EQ_TX_PRE, 8⟩, ⟨31, 24, .rw, .QUE_ONZ_EQ_TX_POST, 8⟩]⟩]

/-- Registers of block BDG (R191, R226, R227, R358). -/
def bdgRegs0 : List Reg := [
  ⟨0x440000, [], .plain, false, [⟨2, 0, .ro, .BDG_SEQ_FORMAT_SIZE_CODE, 0⟩, ⟨4, 3, .ro, .BDG_SEQ_FORMAT_DIR_SHARE,
    0⟩]⟩,
  ⟨0x440004, [], .plain, false, [⟨20, 0, .ro, .BDG_SEQ_ACTIVE_COUNT, 0⟩]⟩,
  ⟨0x440008, [], .port, false, [⟨3, 0, .rw, .BDG_SEQ_CSEL_CARRIAGE, 0⟩]⟩,
  ⟨0x44000C, [], (.sel .BDG_SEQ_CSEL_CARRIAGE), false, [⟨20, 0, .ro, .BDG_SEQ_C_SEQ_COUNT, 0⟩]⟩,
  ⟨0x440010, [], (.sel .BDG_SEQ_CSEL_CARRIAGE), false, [⟨23, 0, .ro, .BDG_SEQ_C_HBM_FREE_E_FRAMES, 0⟩]⟩,
  ⟨0x440014, [], (.sel .BDG_SEQ_CSEL_CARRIAGE), false, [⟨23, 0, .ro, .BDG_SEQ_C_HBM_FREE_W_FRAMES, 0⟩]⟩,
  ⟨0x440018, [], (.sel .BDG_SEQ_CSEL_CARRIAGE), false, [⟨31, 0, .ro, .BDG_SEQ_C_CXL_FREE_FRAMES, 0⟩]⟩,
  ⟨0x44001C, [], (.sel .BDG_SEQ_CSEL_CARRIAGE), false, [⟨31, 0, .ro, .BDG_SEQ_C_DIR_FREE_ENTRIES, 0⟩]⟩,
  ⟨0x440020, [], (.sel .BDG_SEQ_CSEL_CARRIAGE), false, [⟨31, 0, .ro, .BDG_SEQ_C_SHARED_PAGES, 0⟩]⟩,
  ⟨0x440024, [], (.sel .BDG_SEQ_CSEL_CARRIAGE), false, [⟨20, 0, .ro, .BDG_SEQ_C_FROZEN_COUNT, 0⟩]⟩,
  ⟨0x440028, [], (.sel .BDG_SEQ_CSEL_CARRIAGE), false, [⟨23, 0, .ro, .BDG_SEQ_C_TABLE_FRAMES, 0⟩]⟩,
  ⟨0x44002C, [], (.sel .BDG_SEQ_CSEL_CARRIAGE), false, [⟨31, 0, .rc, .BDG_SEQ_C_NOPAGE_COUNT, 0⟩]⟩,
  ⟨0x440030, [], (.sel .BDG_SEQ_CSEL_CARRIAGE), false, [⟨31, 0, .rc, .BDG_SEQ_C_FALLBACK_COUNT, 0⟩]⟩,
  ⟨0x440034, [], (.sel .BDG_SEQ_CSEL_CARRIAGE), false, [⟨31, 0, .rc, .BDG_SEQ_C_COW_COUNT, 0⟩]⟩,
  ⟨0x440038, [], .plain, false, [⟨7, 0, .ro, .BDG_SEQ_STAGE_HELD, 0⟩, ⟨29, 16, .ro, .BDG_SEQ_STAGE_KIB, 0⟩]⟩,
  ⟨0x440040, [], .port, false, [⟨31, 0, .rw, .BDG_SEQ_LOOKUP_ID_SEQ_ID, 0⟩]⟩,
  ⟨0x440044, [], .plain, false, [⟨3, 0, .ro, .BDG_SEQ_LOOKUP_STATE, 0⟩, ⟨7, 4, .ro, .BDG_SEQ_LOOKUP_CARRIAGE, 0⟩,
    ⟨8, 8, .ro, .BDG_SEQ_LOOKUP_FOUND, 0⟩]⟩,
  ⟨0x440048, [], .plain, false, [⟨31, 0, .ro, .BDG_SEQ_LOOKUP_FREEZE_FREEZE_POS, 0⟩]⟩,
  ⟨0x400000, [], .plain, false, [⟨0, 0, .rw, .BDG_CTRL_EXPAND_E, 0⟩, ⟨1, 1, .rw, .BDG_CTRL_EXPAND_W, 0⟩, ⟨2, 2, .rw,
    .BDG_CTRL_PREFETCH, 0⟩]⟩,
  ⟨0x400004, [], .plain, false, [⟨0, 0, .ro, .BDG_STATUS_BRIDGE_E, 0⟩, ⟨1, 1, .ro, .BDG_STATUS_BRIDGE_W, 0⟩]⟩,
  ⟨0x400008, [], .plain, false, [⟨13, 0, .ro, .BDG_INFLIGHT_EAST, 0⟩, ⟨29, 16, .ro, .BDG_INFLIGHT_WEST, 0⟩]⟩,
  ⟨0x400010, [], (.sel .BDG_SEQ_CSEL_CARRIAGE), false, [⟨14, 0, .ro, .BDG_C_INFLIGHT_MOVES, 0⟩]⟩,
  ⟨0x400014, [], (.sel .BDG_SEQ_CSEL_CARRIAGE), false, [⟨14, 0, .rw, .BDG_C_MOVE_MAX_MAX, 0⟩]⟩,
  ⟨0x400018, [], (.sel .BDG_SEQ_CSEL_CARRIAGE), false, [⟨15, 0, .ro, .BDG_C_WEIGHT_MIB, 0⟩]⟩]

/-- Registers of block BDG, continued. -/
def bdgRegs1 : List Reg := [
  ⟨0x40001C, [], (.sel .BDG_SEQ_CSEL_CARRIAGE), false, [⟨31, 0, .rc, .BDG_C_WMISS_COUNT, 0⟩]⟩,
  ⟨0x400020, [], .plain, false, [⟨31, 0, .rc, .BDG_DIGEST_FAIL_COUNT, 0⟩]⟩,
  ⟨0x400024, [], (.sel .BDG_SEQ_CSEL_CARRIAGE), false, [⟨31, 0, .rc, .BDG_C_DIGEST_FAIL_COUNT, 0⟩]⟩,
  ⟨0x400028, [], .plain, true, [⟨31, 0, .ro, .BDG_ZEROED_LO_GROUP, 0⟩]⟩,
  ⟨0x40002C, [], .plain, false, [⟨31, 0, .ro, .BDG_ZEROED_HI_GROUP, 0⟩]⟩,
  ⟨0x400030, [], .plain, false, [⟨31, 0, .rc, .BDG_EXP_CLAIM_COUNT, 0⟩]⟩,
  ⟨0x400200, [(32, 16), (16, 2)], .plain, false, [⟨11, 0, .ro, .BDG_TABLE_META_TABLE_ID, 0⟩, ⟨12, 12, .ro,
    .BDG_TABLE_META_VALID, 0⟩, ⟨13, 13, .ro, .BDG_TABLE_META_CURRENT, 0⟩, ⟨19, 16, .ro, .BDG_TABLE_META_OWNER, 0⟩]⟩,
  ⟨0x400204, [(32, 16), (16, 2)], .plain, false, [⟨31, 0, .ro, .BDG_TABLE_STORED_COUNT, 0⟩]⟩,
  ⟨0x400208, [(32, 16), (16, 2)], .plain, false, [⟨31, 0, .ro, .BDG_TABLE_QUEUED_COUNT, 0⟩]⟩,
  ⟨0x480000, [], .plain, false, [⟨3, 0, .rw, .BDG_ARB_WEIGHT_APPEND, 0⟩, ⟨7, 4, .rw, .BDG_ARB_WEIGHT_PREFETCH, 0⟩,
    ⟨11, 8, .rw, .BDG_ARB_WEIGHT_MOVE, 0⟩, ⟨15, 12, .rw, .BDG_ARB_WEIGHT_ZERO, 0⟩]⟩,
  ⟨0x480004, [], .plain, false, [⟨0, 0, .rw, .BDG_EXP_BRIDGE_NO_BRIDGE, 0⟩]⟩,
  ⟨0x480008, [], .plain, false, [⟨0, 0, .wo, .BDG_WALK_CACHE_FLUSH, 0⟩]⟩,
  ⟨0x441000, [], (.sel .BDG_SEQ_CSEL_CARRIAGE), false, [⟨0, 0, .rw, .BDG_PARK_C_CTRL_DEMOTE, 0⟩, ⟨1, 1, .rw,
    .BDG_PARK_C_CTRL_PROMOTE, 0⟩, ⟨17, 8, .rw, .BDG_PARK_C_CTRL_LOW, 0⟩, ⟨27, 18, .rw, .BDG_PARK_C_CTRL_HIGH, 0⟩]⟩,
  ⟨0x441004, [], (.sel .BDG_SEQ_CSEL_CARRIAGE), false, [⟨15, 0, .rw, .BDG_PARK_C_HINT_US, 0⟩]⟩,
  ⟨0x441008, [], (.sel .BDG_SEQ_CSEL_CARRIAGE), false, [⟨15, 0, .ro, .BDG_PARK_C_ACTIVE_PARKING, 0⟩, ⟨31, 16, .ro,
    .BDG_PARK_C_ACTIVE_RESUMING, 0⟩]⟩,
  ⟨0x44100C, [], (.sel .BDG_SEQ_CSEL_CARRIAGE), false, [⟨31, 0, .rc, .BDG_PARK_C_DEMOTED_COUNT, 0⟩]⟩,
  ⟨0x441010, [], (.sel .BDG_SEQ_CSEL_CARRIAGE), false, [⟨31, 0, .rc, .BDG_PARK_C_PROMOTED_COUNT, 0⟩]⟩,
  ⟨0x441014, [], (.sel .BDG_SEQ_CSEL_CARRIAGE), false, [⟨31, 0, .rc, .BDG_PARK_C_T1READ_COUNT, 0⟩]⟩,
  ⟨0x441018, [], (.sel .BDG_SEQ_CSEL_CARRIAGE), false, [⟨31, 0, .rc, .BDG_PARK_C_RETRY_COUNT, 0⟩]⟩,
  ⟨0x441020, [], (.sel .BDG_SEQ_CSEL_CARRIAGE), false, [⟨23, 0, .rw, .BDG_LOG_C_MAX_FRAMES, 0⟩]⟩,
  ⟨0x441024, [], (.sel .BDG_SEQ_CSEL_CARRIAGE), false, [⟨23, 0, .ro, .BDG_LOG_C_USED_FRAMES, 0⟩]⟩,
  ⟨0x441028, [], (.sel .BDG_SEQ_CSEL_CARRIAGE), false, [⟨31, 0, .ro, .BDG_LOG_C_ENTRIES_COUNT, 0⟩]⟩,
  ⟨0x44102C, [], (.sel .BDG_SEQ_CSEL_CARRIAGE), false, [⟨31, 0, .rc, .BDG_LOG_C_FULL_COUNT, 0⟩]⟩]

/-- Registers of block FOX (R258, R259). -/
def foxRegs : List Reg := [
  ⟨0x500000, [], .plain, false, [⟨0, 0, .rw, .FOX_CTRL_AUTO_CAL, 0⟩]⟩,
  ⟨0x500004, [], .plain, false, [⟨1, 0, .ro, .FOX_STATUS_STATE, 0⟩, ⟨2, 2, .ro, .FOX_STATUS_TRIMS_USED, 0⟩, ⟨27, 16,
    .ro, .FOX_STATUS_OUT, 0⟩]⟩,
  ⟨0x500008, [], .plain, false, [⟨15, 0, .rw, .FOX_RECAL_MS_PERIOD, 0⟩]⟩,
  ⟨0x50000C, [], .port, false, [⟨3, 0, .rw, .FOX_CSEL_CARRIAGE, 0⟩]⟩,
  ⟨0x500010, [], (.sel .FOX_CSEL_CARRIAGE), false, [⟨0, 0, .rw, .FOX_C_CTRL_EXACT, 0⟩, ⟨1, 1, .rw,
    .FOX_C_CTRL_FALLBACK, 0⟩, ⟨2, 2, .rw, .FOX_C_CTRL_REFILL, 0⟩, ⟨11, 8, .rw, .FOX_C_CTRL_FS_EXP, 0⟩, ⟨15, 12, .rw,
    .FOX_C_CTRL_GUARD, 0⟩, ⟨23, 16, .rw, .FOX_C_CTRL_SIGMA_FLOOR, 0⟩]⟩,
  ⟨0x500014, [], (.sel .FOX_CSEL_CARRIAGE), false, [⟨19, 0, .ro, .FOX_C_ROWS_E_FREE, 0⟩]⟩,
  ⟨0x500018, [], (.sel .FOX_CSEL_CARRIAGE), false, [⟨19, 0, .ro, .FOX_C_ROWS_W_FREE, 0⟩]⟩,
  ⟨0x50001C, [], (.sel .FOX_CSEL_CARRIAGE), false, [⟨31, 0, .ro, .FOX_C_ROWLESS_PAGES, 0⟩]⟩,
  ⟨0x500020, [], (.sel .FOX_CSEL_CARRIAGE), false, [⟨31, 0, .rc, .FOX_C_PASSES_COUNT, 0⟩]⟩,
  ⟨0x500024, [], (.sel .FOX_CSEL_CARRIAGE), false, [⟨31, 0, .rc, .FOX_C_OVERFLOW_COUNT, 0⟩]⟩,
  ⟨0x500028, [], (.sel .FOX_CSEL_CARRIAGE), false, [⟨31, 0, .rc, .FOX_C_DIGITAL_COUNT, 0⟩]⟩,
  ⟨0x50002C, [], (.sel .FOX_CSEL_CARRIAGE), false, [⟨31, 0, .rc, .FOX_C_LOWCONF_COUNT, 0⟩]⟩,
  ⟨0x500030, [], .port, false, [⟨10, 0, .rw, .FOX_MSEL_MACRO, 0⟩]⟩,
  ⟨0x500034, [], (.sel .FOX_MSEL_MACRO), false, [⟨1, 0, .ro, .FOX_M_STAT_STATE, 0⟩, ⟨15, 8, .ro, .FOX_M_STAT_SIGMA,
    0⟩, ⟨20, 16, .ro, .FOX_M_STAT_TSENS, 0⟩, ⟨27, 24, .ro, .FOX_M_STAT_VMON, 0⟩, ⟨29, 28, .ro, .FOX_M_STAT_FAILS,
    0⟩]⟩,
  ⟨0x500038, [], (.sel .FOX_MSEL_MACRO), false, [⟨31, 0, .ro, .FOX_M_AGE_MS, 0⟩]⟩,
  ⟨0x580000, [], (.sel .FOX_MSEL_MACRO), false, [⟨7, 0, .rw, .FOX_M_ADC_OFFSET, 0⟩, ⟨19, 8, .rw, .FOX_M_ADC_GAIN,
    0⟩]⟩,
  ⟨0x580004, [], (.sel .FOX_MSEL_MACRO), false, [⟨15, 0, .rw, .FOX_M_TCOMP_ALPHA_T, 0⟩, ⟨31, 16, .rw,
    .FOX_M_TCOMP_ALPHA_V, 0⟩]⟩,
  ⟨0x580008, [], (.sel .FOX_MSEL_MACRO), false, [⟨7, 0, .ro, .FOX_M_CAL_POINT_TJ, 0⟩, ⟨17, 8, .ro,
    .FOX_M_CAL_POINT_MV, 0⟩]⟩,
  ⟨0x58000C, [], (.sel .FOX_MSEL_MACRO), false, [⟨15, 0, .ro, .FOX_M_RESID_OFFSET, 0⟩, ⟨31, 16, .ro,
    .FOX_M_RESID_GAIN, 0⟩]⟩,
  ⟨0x580010, [], (.sel .FOX_MSEL_MACRO), false, [⟨0, 0, .rw, .FOX_M_HOLD_FREEZE, 0⟩, ⟨1, 1, .rw,
    .FOX_M_HOLD_FORCE_OUT, 0⟩]⟩,
  ⟨0x580040, [(4, 32)], (.sel .FOX_MSEL_MACRO), false, [⟨5, 0, .rw, .FOX_M_COL_GAIN_COL0, 0⟩, ⟨13, 8, .rw,
    .FOX_M_COL_GAIN_COL1, 0⟩, ⟨21, 16, .rw, .FOX_M_COL_GAIN_COL2, 0⟩, ⟨29, 24, .rw, .FOX_M_COL_GAIN_COL3, 0⟩]⟩,
  ⟨0x5800C0, [(4, 32)], (.sel .FOX_MSEL_MACRO), false, [⟨5, 0, .rw, .FOX_M_COL_OFF_COL0, 0⟩, ⟨13, 8, .rw,
    .FOX_M_COL_OFF_COL1, 0⟩, ⟨21, 16, .rw, .FOX_M_COL_OFF_COL2, 0⟩, ⟨29, 24, .rw, .FOX_M_COL_OFF_COL3, 0⟩]⟩]

/-- Registers of block BEAR (R295, R296). -/
def bearRegs : List Reg := [
  ⟨0x600000, [], .plain, false, [⟨0, 0, .rw, .BEAR_CTRL_AUTO_SPARE, 0⟩]⟩,
  ⟨0x600004, [], .plain, false, [⟨1, 0, .ro, .BEAR_STATUS_SPARES_E, 0⟩, ⟨3, 2, .ro, .BEAR_STATUS_SPARES_W, 0⟩, ⟨7,
    4, .ro, .BEAR_STATUS_SHADOWING, 0⟩]⟩,
  ⟨0x600008, [], .plain, false, [⟨15, 0, .rw, .BEAR_SHADOW_CFG_COUNT, 0⟩]⟩,
  ⟨0x60000C, [], .plain, false, [⟨15, 0, .rw, .BEAR_SPARE_TRIG_CORR, 0⟩]⟩,
  ⟨0x600010, [], .port, false, [⟨3, 0, .rw, .BEAR_CSEL_CARRIAGE, 0⟩]⟩,
  ⟨0x600014, [], (.sel .BEAR_CSEL_CARRIAGE), false, [⟨31, 0, .rc, .BEAR_C_COACHES_COUNT, 0⟩]⟩,
  ⟨0x600018, [], (.sel .BEAR_CSEL_CARRIAGE), false, [⟨31, 0, .rc, .BEAR_C_POSITIONS_KPOS, 0⟩]⟩,
  ⟨0x60001C, [], (.sel .BEAR_CSEL_CARRIAGE), false, [⟨31, 0, .rc, .BEAR_C_BADNUM_COUNT, 0⟩]⟩,
  ⟨0x600020, [], (.sel .BEAR_CSEL_CARRIAGE), false, [⟨31, 0, .rc, .BEAR_C_ACCREF_COUNT, 0⟩]⟩,
  ⟨0x600024, [], (.sel .BEAR_CSEL_CARRIAGE), false, [⟨31, 0, .rc, .BEAR_C_UNCORR_COUNT, 0⟩]⟩,
  ⟨0x600030, [], .port, false, [⟨6, 0, .rw, .BEAR_TSEL_PHYS, 0⟩]⟩,
  ⟨0x600034, [], (.sel .BEAR_TSEL_PHYS), false, [⟨2, 0, .ro, .BEAR_T_STAT_STATE, 0⟩, ⟨9, 4, .ro,
    .BEAR_T_STAT_LOGICAL, 0⟩, ⟨15, 12, .ro, .BEAR_T_STAT_CARRIAGE, 0⟩, ⟨31, 16, .ro, .BEAR_T_STAT_COMPARED, 0⟩]⟩,
  ⟨0x600038, [], (.sel .BEAR_TSEL_PHYS), false, [⟨15, 0, .rc, .BEAR_T_ECC_CORR, 0⟩, ⟨31, 16, .rc,
    .BEAR_T_ECC_UNCORR, 0⟩]⟩,
  ⟨0x60003C, [], (.sel .BEAR_TSEL_PHYS), false, [⟨15, 0, .ro, .BEAR_T_MISMATCH_COUNT, 0⟩]⟩,
  ⟨0x600100, [(4, 64)], .plain, false, [⟨6, 0, .ro, .BEAR_MAP_PHYS, 0⟩]⟩,
  ⟨0x680000, [], .plain, false, [⟨5, 0, .rw, .BEAR_SPARE_CTRL_TILE, 0⟩, ⟨6, 6, .rw, .BEAR_SPARE_CTRL_SPARE, 0⟩, ⟨8,
    8, .wo, .BEAR_SPARE_CTRL_START, 0⟩, ⟨9, 9, .wo, .BEAR_SPARE_CTRL_STOP, 0⟩]⟩,
  ⟨0x680004, [], .port, false, [⟨7, 0, .ro, .BEAR_SPARE_RESULT_OUTCOME, 0⟩, ⟨15, 8, .ro, .BEAR_SPARE_RESULT_STATUS,
    0⟩, ⟨16, 16, .rc, .BEAR_SPARE_RESULT_DONE, 0⟩]⟩,
  ⟨0x680008, [], .plain, false, [⟨3, 0, .rw, .BEAR_SEAL_SLOTS, 0⟩]⟩,
  ⟨0x68000C, [], .plain, false, [⟨0, 0, .rw, .BEAR_REPAIR_CLEAR_AT_START, 0⟩]⟩]

/-- Registers of block PRT (R329, R330, R403, R404). -/
def prtRegs0 : List Reg := [
  ⟨0x740000, [], .port, false, [⟨3, 0, .rw, .PRT_DEP_CSEL_CARRIAGE, 0⟩]⟩,
  ⟨0x740004, [], (.sel .PRT_DEP_CSEL_CARRIAGE), false, [⟨31, 0, .rc, .PRT_DEP_C_COACHES_COUNT, 0⟩]⟩,
  ⟨0x740008, [], (.sel .PRT_DEP_CSEL_CARRIAGE), false, [⟨31, 0, .rc, .PRT_DEP_C_LATE_COUNT, 0⟩]⟩,
  ⟨0x74000C, [], (.sel .PRT_DEP_CSEL_CARRIAGE), false, [⟨31, 0, .rc, .PRT_DEP_C_FAILED_COUNT, 0⟩]⟩,
  ⟨0x740010, [], (.sel .PRT_DEP_CSEL_CARRIAGE), false, [⟨31, 0, .rc, .PRT_DEP_C_TAILWAIT_COUNT, 0⟩]⟩,
  ⟨0x740014, [], (.sel .PRT_DEP_CSEL_CARRIAGE), false, [⟨15, 0, .rc, .PRT_DEP_C_SLACK_MIN_NS, 0⟩]⟩,
  ⟨0x740018, [], (.sel .PRT_DEP_CSEL_CARRIAGE), false, [⟨11, 0, .ro, .PRT_DEP_C_CTX_IN_USE, 0⟩, ⟨27, 16, .ro,
    .PRT_DEP_C_CTX_QUOTA, 0⟩]⟩,
  ⟨0x74001C, [], (.sel .PRT_DEP_CSEL_CARRIAGE), false, [⟨14, 0, .ro, .PRT_DEP_C_BUF_IN_USE, 0⟩, ⟨30, 16, .ro,
    .PRT_DEP_C_BUF_QUOTA, 0⟩]⟩,
  ⟨0x740020, [], (.sel .PRT_DEP_CSEL_CARRIAGE), false, [⟨31, 0, .rc, .PRT_DEP_C_INCOMPLETE_COUNT, 0⟩]⟩,
  ⟨0x740024, [], (.sel .PRT_DEP_CSEL_CARRIAGE), false, [⟨31, 0, .rc, .PRT_DEP_C_LATE_IN_COUNT, 0⟩]⟩,
  ⟨0x740028, [], (.sel .PRT_DEP_CSEL_CARRIAGE), false, [⟨31, 0, .rc, .PRT_DEP_C_REFUSED_COUNT, 0⟩]⟩,
  ⟨0x74002C, [], (.sel .PRT_DEP_CSEL_CARRIAGE), false, [⟨31, 0, .rc, .PRT_DEP_C_DUP_COUNT, 0⟩]⟩,
  ⟨0x740030, [], (.sel .PRT_DEP_CSEL_CARRIAGE), false, [⟨31, 0, .rc, .PRT_DEP_C_MISROUTE_COUNT, 0⟩]⟩,
  ⟨0x740034, [], (.sel .PRT_DEP_CSEL_CARRIAGE), false, [⟨12, 0, .ro, .PRT_DEP_C_COACHMEM_FREE_4K, 0⟩]⟩,
  ⟨0x740040, [], .plain, false, [⟨11, 0, .rc, .PRT_DEP_CTX_PEAK_CONTEXTS, 0⟩, ⟨30, 16, .rc,
    .PRT_DEP_CTX_PEAK_BLOCKS, 0⟩]⟩,
  ⟨0x7C0000, [], .plain, false, [⟨15, 0, .rw, .PRT_DEP_X_LEAD_ADJ_NS, 0⟩]⟩,
  ⟨0x700000, [], .plain, false, [⟨0, 0, .rw, .PRT_CTRL_AUTO_LANE_SPARE, 0⟩, ⟨1, 1, .rw, .PRT_CTRL_AUTO_WAVE_SPARE,
    0⟩, ⟨2, 2, .rw, .PRT_CTRL_OE_POLL, 0⟩]⟩,
  ⟨0x700004, [], .plain, false, [⟨7, 0, .ro, .PRT_STATUS_UP, 0⟩, ⟨15, 8, .ro, .PRT_STATUS_REPAIR, 0⟩, ⟨23, 16, .ro,
    .PRT_STATUS_FAILED, 0⟩]⟩,
  ⟨0x700008, [], .plain, false, [⟨15, 0, .rw, .PRT_RTO_BASE_US, 0⟩, ⟨19, 16, .rw, .PRT_RTO_RETRIES, 0⟩]⟩,
  ⟨0x70000C, [], .plain, false, [⟨15, 0, .rw, .PRT_RX_TIMEOUT_US, 0⟩]⟩,
  ⟨0x700010, [], .plain, false, [⟨16, 0, .ro, .PRT_OPS_IN_USE, 0⟩]⟩,
  ⟨0x700014, [], .plain, false, [⟨16, 0, .rc, .PRT_OPS_PEAK_PEAK, 0⟩]⟩,
  ⟨0x700018, [], .port, false, [⟨3, 0, .rw, .PRT_CSEL_CARRIAGE, 0⟩]⟩,
  ⟨0x70001C, [], (.sel .PRT_CSEL_CARRIAGE), false, [⟨15, 0, .ro, .PRT_C_OPS_IN_USE, 0⟩, ⟨31, 16, .ro,
    .PRT_C_OPS_QUOTA, 0⟩]⟩]

/-- Registers of block PRT, continued. -/
def prtRegs1 : List Reg := [
  ⟨0x700020, [], (.sel .PRT_CSEL_CARRIAGE), false, [⟨31, 0, .rc, .PRT_C_RETX_COUNT, 0⟩]⟩,
  ⟨0x700024, [], (.sel .PRT_CSEL_CARRIAGE), false, [⟨31, 0, .rc, .PRT_C_STALE_GEN_COUNT, 0⟩]⟩,
  ⟨0x700028, [], (.sel .PRT_CSEL_CARRIAGE), false, [⟨31, 0, .rc, .PRT_C_DUP_COUNT, 0⟩]⟩,
  ⟨0x70002C, [], (.sel .PRT_CSEL_CARRIAGE), false, [⟨31, 0, .rc, .PRT_C_NOENTRY_COUNT, 0⟩]⟩,
  ⟨0x700030, [], (.sel .PRT_CSEL_CARRIAGE), false, [⟨31, 0, .rc, .PRT_C_LATE_OPS_COUNT, 0⟩]⟩,
  ⟨0x700034, [], (.sel .PRT_CSEL_CARRIAGE), false, [⟨31, 0, .rc, .PRT_C_RETRY_AFTER_COUNT, 0⟩]⟩,
  ⟨0x700038, [], (.sel .PRT_CSEL_CARRIAGE), false, [⟨31, 0, .rc, .PRT_C_STALLS_COUNT, 0⟩]⟩,
  ⟨0x70003C, [], (.sel .PRT_CSEL_CARRIAGE), false, [⟨31, 0, .rc, .PRT_C_CONFINED_COUNT, 0⟩]⟩,
  ⟨0x700040, [], (.sel .PRT_CSEL_CARRIAGE), false, [⟨31, 0, .rc, .PRT_C_RX_EXPIRED_COUNT, 0⟩]⟩,
  ⟨0x700044, [], (.sel .PRT_CSEL_CARRIAGE), false, [⟨31, 0, .rc, .PRT_C_PAGING_DROP_COUNT, 0⟩]⟩,
  ⟨0x700048, [], .plain, false, [⟨31, 0, .rc, .PRT_NOROUTE_COUNT, 0⟩]⟩,
  ⟨0x70004C, [], .plain, false, [⟨31, 0, .rc, .PRT_HOPS_EXP_COUNT, 0⟩]⟩,
  ⟨0x700050, [], .plain, false, [⟨31, 0, .rc, .PRT_MCAST_DROP_COUNT, 0⟩]⟩,
  ⟨0x700054, [], .plain, false, [⟨13, 0, .ro, .PRT_PAGING_BUF_KIB_FREE, 0⟩]⟩,
  ⟨0x700058, [], (.sel .PRT_CSEL_CARRIAGE), false, [⟨31, 0, .rc, .PRT_C_MSGMEM_DROP_COUNT, 0⟩]⟩,
  ⟨0x700100, [(64, 8)], .plain, false, [⟨2, 0, .ro, .PRT_Ln_STATUS_STATE, 0⟩, ⟨3, 3, .ro, .PRT_Ln_STATUS_IN_RACK,
    0⟩, ⟨4, 4, .ro, .PRT_Ln_STATUS_OPTICAL, 0⟩, ⟨15, 8, .ro, .PRT_Ln_STATUS_TRAIN_FAILS, 0⟩, ⟨23, 16, .ro,
    .PRT_Ln_STATUS_UP_COUNT, 0⟩]⟩,
  ⟨0x700104, [(64, 8)], .plain, false, [⟨11, 0, .ro, .PRT_Ln_PEER_NODE, 0⟩, ⟨14, 12, .ro, .PRT_Ln_PEER_LINK, 0⟩,
    ⟨15, 15, .ro, .PRT_Ln_PEER_VALID, 0⟩]⟩,
  ⟨0x700108, [(64, 8)], .plain, false, [⟨0, 0, .wo, .PRT_Ln_CTRL_RETRAIN, 0⟩, ⟨1, 1, .rw, .PRT_Ln_CTRL_DISABLE, 0⟩]⟩,
  ⟨0x70010C, [(64, 8)], .plain, false, [⟨31, 0, .rc, .PRT_Ln_FEC_CORR_COUNT, 0⟩]⟩,
  ⟨0x700110, [(64, 8)], .plain, false, [⟨31, 0, .rc, .PRT_Ln_FEC_UNCORR_COUNT, 0⟩]⟩,
  ⟨0x700114, [(64, 8)], .plain, false, [⟨31, 0, .rc, .PRT_Ln_CRC_COUNT, 0⟩]⟩,
  ⟨0x700118, [(64, 8)], .plain, false, [⟨31, 0, .rc, .PRT_Ln_REPLAY_COUNT, 0⟩]⟩,
  ⟨0x70011C, [(64, 8)], .plain, false, [⟨3, 0, .ro, .PRT_Ln_SPARE_LANE_REPLACED, 0⟩, ⟨7, 4, .ro,
    .PRT_Ln_SPARE_WAVE_REPLACED, 0⟩, ⟨11, 8, .ro, .PRT_Ln_SPARE_SPARE_LANE, 0⟩, ⟨15, 12, .ro,
    .PRT_Ln_SPARE_WAVE_SPARE, 0⟩]⟩,
  ⟨0x700120, [(64, 8)], .plain, true, [⟨31, 0, .ro, .PRT_Ln_TX_LO_BYTES_LO, 0⟩]⟩]

/-- Registers of block PRT, continued. -/
def prtRegs2 : List Reg := [
  ⟨0x700124, [(64, 8)], .plain, false, [⟨31, 0, .ro, .PRT_Ln_TX_HI_BYTES_HI, 0⟩]⟩,
  ⟨0x700128, [(64, 8)], .plain, true, [⟨31, 0, .ro, .PRT_Ln_RX_LO_BYTES_LO, 0⟩]⟩,
  ⟨0x70012C, [(64, 8)], .plain, false, [⟨31, 0, .ro, .PRT_Ln_RX_HI_BYTES_HI, 0⟩]⟩,
  ⟨0x700130, [(64, 8)], .plain, false, [⟨9, 0, .ro, .PRT_Ln_OE_TX_FAULT, 0⟩, ⟨25, 16, .ro, .PRT_Ln_OE_RX_LOS, 0⟩,
    ⟨31, 31, .ro, .PRT_Ln_OE_POLL_OK, 0⟩]⟩,
  ⟨0x700134, [(64, 8)], .plain, false, [⟨3, 0, .ro, .PRT_Ln_WORST_LANE_LANE, 0⟩, ⟨31, 8, .ro,
    .PRT_Ln_WORST_LANE_SYMBOLS, 0⟩]⟩,
  ⟨0x780000, [], .plain, false, [⟨23, 0, .rw, .PRT_X_SER_THR_SYMBOLS, 0⟩]⟩,
  ⟨0x780004, [], .plain, false, [⟨1, 0, .rw, .PRT_X_SPRAY_MODE, 0⟩]⟩,
  ⟨0x780100, [(64, 8)], .plain, false, [⟨0, 0, .wo, .PRT_X_Ln_SPARE_FORCE_LANE, 0⟩, ⟨7, 4, .rw,
    .PRT_X_Ln_SPARE_LANE, 0⟩, ⟨8, 8, .wo, .PRT_X_Ln_SPARE_FORCE_WAVE, 0⟩, ⟨15, 12, .rw, .PRT_X_Ln_SPARE_WAVE, 0⟩,
    ⟨16, 16, .rw, .PRT_X_Ln_SPARE_HOLD_TRAINING, 0⟩]⟩,
  ⟨0x781000, [(256, 8), (4, 9)], .plain, false, [⟨7, 0, .rw, .PRT_X_EQ_CTLE, 0⟩, ⟨15, 8, .rw, .PRT_X_EQ_DFE1, 0⟩,
    ⟨23, 16, .rw, .PRT_X_EQ_TX_PRE, 0⟩, ⟨31, 24, .rw, .PRT_X_EQ_TX_POST, 0⟩]⟩]

/-- Registers of block TRF (R429, R430). -/
def trfRegs : List Reg := [
  ⟨0x800000, [], .plain, false, [⟨4, 0, .ro, .TRF_STATUS_REFILL_EXP, 0⟩, ⟨8, 8, .ro, .TRF_STATUS_PENDING, 0⟩]⟩,
  ⟨0x800004, [], .port, false, [⟨8, 0, .rw, .TRF_SEL_INDEX, 0⟩, ⟨12, 12, .rw, .TRF_SEL_POLICER, 0⟩]⟩,
  ⟨0x800008, [], .port, false, [⟨0, 0, .rw, .TRF_SET_MODE_ENABLE, 0⟩, ⟨1, 1, .rw, .TRF_SET_MODE_TWO_RATE, 0⟩, ⟨2, 2,
    .rw, .TRF_SET_MODE_AWARE, 0⟩, ⟨3, 3, .rw, .TRF_SET_MODE_YELLOW_DROP, 0⟩, ⟨4, 4, .rw, .TRF_SET_MODE_RED_PASS,
    0⟩]⟩,
  ⟨0x80000C, [], .port, false, [⟨17, 0, .rw, .TRF_SET_RATE_RATE, 0⟩]⟩,
  ⟨0x800010, [], .port, false, [⟨23, 0, .rw, .TRF_SET_BURST_BURST, 0⟩]⟩,
  ⟨0x800014, [], .port, false, [⟨17, 0, .rw, .TRF_SET_RATE2_PIR, 0⟩]⟩,
  ⟨0x800018, [], .port, false, [⟨23, 0, .rw, .TRF_SET_BURST2_BURST2, 0⟩]⟩,
  ⟨0x80001C, [], .plain, false, [⟨0, 0, .wo, .TRF_CHANGE_APPLY, 0⟩, ⟨1, 1, .wo, .TRF_CHANGE_FILL, 0⟩]⟩,
  ⟨0x800020, [], .port, false, [⟨7, 0, .ro, .TRF_RESULT_STATUS, 0⟩, ⟨8, 8, .rc, .TRF_RESULT_DONE, 0⟩]⟩,
  ⟨0x800024, [], .plain, false, [⟨31, 0, .ro, .TRF_TOKENS_BYTES, 0⟩]⟩,
  ⟨0x800028, [], .plain, false, [⟨31, 0, .ro, .TRF_TOKENS2_BYTES, 0⟩]⟩,
  ⟨0x800030, [], .port, false, [⟨3, 0, .rw, .TRF_CSEL_CARRIAGE, 0⟩]⟩,
  ⟨0x800034, [], (.sel .TRF_CSEL_CARRIAGE), false, [⟨31, 0, .rc, .TRF_C_GREEN_COUNT, 0⟩]⟩,
  ⟨0x800038, [], (.sel .TRF_CSEL_CARRIAGE), false, [⟨31, 0, .rc, .TRF_C_YELLOW_COUNT, 0⟩]⟩,
  ⟨0x80003C, [], (.sel .TRF_CSEL_CARRIAGE), false, [⟨31, 0, .rc, .TRF_C_RED_COUNT, 0⟩]⟩,
  ⟨0x800040, [], (.sel .TRF_CSEL_CARRIAGE), false, [⟨31, 0, .rc, .TRF_C_HELD_COUNT, 0⟩]⟩,
  ⟨0x800044, [], (.sel .TRF_CSEL_CARRIAGE), false, [⟨31, 0, .rc, .TRF_C_ISO_DROP_COUNT, 0⟩]⟩,
  ⟨0x800048, [], (.sel .TRF_CSEL_CARRIAGE), false, [⟨31, 0, .rc, .TRF_C_OWLREF_COUNT, 0⟩]⟩,
  ⟨0x800100, [(64, 8), (4, 16)], .plain, false, [⟨4, 0, .ro, .TRF_SLOT_OWNER, 0⟩]⟩,
  ⟨0x800300, [(4, 8)], .plain, false, [⟨7, 0, .ro, .TRF_Ln_ISO_ISO_CREDIT, 0⟩]⟩,
  ⟨0x880000, [], .plain, false, [⟨3, 0, .rw, .TRF_X_WRR_RESP, 0⟩, ⟨7, 4, .rw, .TRF_X_WRR_BULK, 0⟩]⟩]

/-- Registers of block OWL (R460, R461). -/
def owlRegs : List Reg := [
  ⟨0x900000, [], .plain, false, [⟨0, 0, .rw, .OWL_CTRL_CASCADE_EN, 0⟩, ⟨1, 1, .rw, .OWL_CTRL_SCRUB_E, 0⟩, ⟨2, 2,
    .rw, .OWL_CTRL_SCRUB_W, 0⟩]⟩,
  ⟨0x900004, [], .plain, false, [⟨1, 0, .ro, .OWL_STATUS_CASCADE, 0⟩, ⟨5, 2, .ro, .OWL_STATUS_COUNT, 0⟩, ⟨31, 16,
    .ro, .OWL_STATUS_SHIFTING, 0⟩]⟩,
  ⟨0x900010, [], .port, false, [⟨3, 0, .rw, .OWL_CSEL_CARRIAGE, 0⟩]⟩,
  ⟨0x900014, [], (.sel .OWL_CSEL_CARRIAGE), false, [⟨31, 0, .rc, .OWL_C_LOOKUPS_COUNT, 0⟩]⟩,
  ⟨0x900018, [], (.sel .OWL_CSEL_CARRIAGE), false, [⟨31, 0, .rc, .OWL_C_HITS_COUNT, 0⟩]⟩,
  ⟨0x90001C, [], (.sel .OWL_CSEL_CARRIAGE), false, [⟨31, 0, .rc, .OWL_C_CASCADE_HITS_COUNT, 0⟩]⟩,
  ⟨0x900020, [], (.sel .OWL_CSEL_CARRIAGE), false, [⟨31, 0, .rc, .OWL_C_FALSE_HITS_COUNT, 0⟩]⟩,
  ⟨0x900024, [], (.sel .OWL_CSEL_CARRIAGE), false, [⟨31, 0, .rc, .OWL_C_NOINDEX_COUNT, 0⟩]⟩,
  ⟨0x900028, [], (.sel .OWL_CSEL_CARRIAGE), false, [⟨31, 0, .rc, .OWL_C_CLASSIFIED_COUNT, 0⟩]⟩,
  ⟨0x90002C, [], (.sel .OWL_CSEL_CARRIAGE), false, [⟨31, 0, .rc, .OWL_C_FIRES_COUNT, 0⟩]⟩,
  ⟨0x900030, [], (.sel .OWL_CSEL_CARRIAGE), false, [⟨31, 0, .rc, .OWL_C_MISSED_COUNT, 0⟩]⟩,
  ⟨0x900034, [], (.sel .OWL_CSEL_CARRIAGE), false, [⟨14, 0, .ro, .OWL_C_WATCHERS_COUNT, 0⟩]⟩,
  ⟨0x900038, [], .plain, false, [⟨31, 0, .rc, .OWL_SCRUB_FIX_COUNT, 0⟩]⟩,
  ⟨0x90003C, [], .plain, false, [⟨31, 0, .rc, .OWL_SCRUB_LOST_COUNT, 0⟩]⟩,
  ⟨0x900040, [(4, 16)], .plain, false, [⟨1, 0, .ro, .OWL_BANK_MODE, 0⟩, ⟨2, 2, .ro, .OWL_BANK_USE, 0⟩, ⟨3, 3, .ro,
    .OWL_BANK_CASCADE, 0⟩, ⟨7, 4, .ro, .OWL_BANK_CARRIAGE, 0⟩, ⟨8, 8, .ro, .OWL_BANK_OWNED, 0⟩, ⟨30, 16, .ro,
    .OWL_BANK_USED, 0⟩]⟩,
  ⟨0x900080, [], .plain, false, [⟨15, 0, .rc, .OWL_CASCADE_ERR_CRC, 0⟩, ⟨31, 16, .rc, .OWL_CASCADE_ERR_BROKEN, 0⟩]⟩,
  ⟨0x980000, [], .plain, false, [⟨0, 0, .wo, .OWL_X_SCRUB_FORCE, 0⟩]⟩,
  ⟨0x980004, [], .plain, false, [⟨3, 0, .rw, .OWL_X_CASCADE_SAMPLE, 0⟩, ⟨8, 8, .rw, .OWL_X_CASCADE_FORCE_LOCAL, 0⟩]⟩,
  ⟨0x980008, [], .plain, false, [⟨0, 0, .rw, .OWL_X_SHIFT_HOLD, 0⟩]⟩]

/-- Registers of block MEM (R483, R484). -/
def memRegs : List Reg := [
  ⟨0xA00000, [], .plain, false, [⟨0, 0, .rw, .MEM_CTRL_SCRUB_EN, 0⟩]⟩,
  ⟨0xA00004, [], .plain, false, [⟨7, 0, .rw, .MEM_SCRUB_HOURS, 0⟩]⟩,
  ⟨0xA00008, [], .plain, false, [⟨15, 0, .ro, .MEM_STATUS_STACKS, 0⟩, ⟨19, 16, .ro, .MEM_STATUS_CXL_ACTIVE, 0⟩]⟩,
  ⟨0xA0000C, [], .plain, false, [⟨12, 0, .ro, .MEM_RETIRED_FRAMES, 0⟩]⟩,
  ⟨0xA00010, [], .port, false, [⟨3, 0, .rw, .MEM_CSEL_CARRIAGE, 0⟩]⟩,
  ⟨0xA00014, [], (.sel .MEM_CSEL_CARRIAGE), false, [⟨31, 0, .rc, .MEM_C_CORR_COUNT, 0⟩]⟩,
  ⟨0xA00018, [], (.sel .MEM_CSEL_CARRIAGE), false, [⟨31, 0, .rc, .MEM_C_UNCORR_COUNT, 0⟩]⟩,
  ⟨0xA0001C, [], (.sel .MEM_CSEL_CARRIAGE), false, [⟨31, 0, .rc, .MEM_C_CXL_CORR_COUNT, 0⟩]⟩,
  ⟨0xA00020, [], (.sel .MEM_CSEL_CARRIAGE), false, [⟨31, 0, .rc, .MEM_C_CXL_UNCORR_COUNT, 0⟩]⟩,
  ⟨0xA00024, [], (.sel .MEM_CSEL_CARRIAGE), false, [⟨15, 0, .rc, .MEM_C_SRAM_CORR, 0⟩, ⟨31, 16, .rc,
    .MEM_C_SRAM_UNCORR, 0⟩]⟩,
  ⟨0xA00028, [], (.sel .MEM_CSEL_CARRIAGE), true, [⟨31, 0, .ro, .MEM_C_LAST_UE_LO_ADDR_LO, 0⟩]⟩,
  ⟨0xA0002C, [], (.sel .MEM_CSEL_CARRIAGE), false, [⟨5, 0, .ro, .MEM_C_LAST_UE_HI_GROUP, 0⟩, ⟨6, 6, .ro,
    .MEM_C_LAST_UE_HI_CXL, 0⟩, ⟨7, 7, .rc, .MEM_C_LAST_UE_HI_VALID, 0⟩, ⟨31, 8, .ro, .MEM_C_LAST_UE_HI_ADDR_HI, 0⟩]⟩,
  ⟨0xA00100, [(16, 4)], .plain, false, [⟨2, 0, .ro, .MEM_CXLn_STATUS_STATE, 0⟩, ⟨8, 4, .ro, .MEM_CXLn_STATUS_WIDTH,
    0⟩, ⟨15, 9, .ro, .MEM_CXLn_STATUS_GTS, 0⟩, ⟨23, 16, .ro, .MEM_CXLn_STATUS_UP_COUNT, 0⟩]⟩,
  ⟨0xA00104, [(16, 4)], .plain, false, [⟨15, 0, .ro, .MEM_CXLn_CAP_UNITS, 0⟩]⟩,
  ⟨0xA00108, [(16, 4)], .plain, false, [⟨31, 0, .ro, .MEM_CXLn_RANGES_DISABLED, 0⟩]⟩,
  ⟨0xA0010C, [(16, 4)], .portArr, false, [⟨0, 0, .rw, .MEM_CXLn_RANGES_SEL_W, 0⟩]⟩,
  ⟨0xA80000, [], .plain, false, [⟨23, 0, .rw, .MEM_X_CE_THR_COUNT, 0⟩]⟩,
  ⟨0xA80004, [], .port, false, [⟨3, 0, .rw, .MEM_X_STACK_SEL_STACK, 0⟩]⟩,
  ⟨0xA80008, [], (.sel .MEM_X_STACK_SEL_STACK), false, [⟨15, 0, .rc, .MEM_X_STACK_ERR_CORR, 0⟩, ⟨31, 16, .rc,
    .MEM_X_STACK_ERR_UNCORR, 0⟩]⟩,
  ⟨0xA8000C, [], .plain, false, [⟨0, 0, .wo, .MEM_X_SCRUB_FORCE, 0⟩]⟩,
  ⟨0xA80010, [], .plain, false, [⟨5, 0, .rw, .MEM_X_INJECT_GROUP, 0⟩, ⟨7, 6, .rw, .MEM_X_INJECT_SYMBOLS, 0⟩, ⟨8, 8,
    .wo, .MEM_X_INJECT_ARM, 0⟩, ⟨9, 9, .ro, .MEM_X_INJECT_ARMED, 0⟩]⟩,
  ⟨0xA80014, [], .plain, false, [⟨0, 0, .rw, .MEM_X_REFRESH_DOUBLE, 0⟩]⟩]

/-- Registers of block SEC (R511, R512). -/
def secRegs0 : List Reg := [
  ⟨0xB00000, [], .plain, false, [⟨2, 0, .ro, .SEC_LC_STATE, 0⟩, ⟨9, 3, .ro, .SEC_LC_COUNT, 0⟩]⟩,
  ⟨0xB00004, [], .plain, false, [⟨1, 0, .ro, .SEC_BOOT_STATE, 0⟩, ⟨11, 8, .ro, .SEC_BOOT_CAUSE, 0⟩]⟩,
  ⟨0xB00008, [], .plain, false, [⟨15, 0, .ro, .SEC_FW_VERSION, 0⟩, ⟨22, 16, .ro, .SEC_FW_ROLLBACK, 0⟩]⟩,
  ⟨0xB0000C, [], .plain, true, [⟨31, 0, .ro, .SEC_UID_LO_UID_LO, 0⟩]⟩,
  ⟨0xB00010, [], .plain, false, [⟨31, 0, .ro, .SEC_UID_HI_UID_HI, 0⟩]⟩,
  ⟨0xB00014, [], .port, true, [⟨31, 0, .rw, .SEC_LOAD_ADDR_LO_ADDR_LO, 0⟩]⟩,
  ⟨0xB00018, [], .port, false, [⟨31, 0, .rw, .SEC_LOAD_ADDR_HI_ADDR_HI, 0⟩]⟩,
  ⟨0xB0001C, [], .port, false, [⟨21, 0, .rw, .SEC_LOAD_LEN_LEN, 0⟩]⟩,
  ⟨0xB00020, [], .plain, false, [⟨1, 0, .rw, .SEC_LOAD_CTRL_KIND, 0⟩, ⟨2, 2, .wo, .SEC_LOAD_CTRL_LOAD, 0⟩, ⟨3, 3,
    .wo, .SEC_LOAD_CTRL_COMMIT, 0⟩]⟩,
  ⟨0xB00024, [], .port, false, [⟨0, 0, .ro, .SEC_LOAD_STATUS_BUSY, 0⟩, ⟨15, 8, .ro, .SEC_LOAD_STATUS_STATUS, 0⟩,
    ⟨19, 16, .ro, .SEC_LOAD_STATUS_CHECK, 0⟩, ⟨20, 20, .rc, .SEC_LOAD_STATUS_DONE, 0⟩]⟩,
  ⟨0xB00030, [], .port, false, [⟨0, 0, .wo, .SEC_ATTEST_ATTEST, 0⟩, ⟨1, 1, .ro, .SEC_ATTEST_BUSY, 0⟩, ⟨2, 2, .rc,
    .SEC_ATTEST_DONE, 0⟩]⟩,
  ⟨0xB00040, [(4, 16)], .portArr, false, [⟨31, 0, .rw, .SEC_NONCE_NONCE, 0⟩]⟩,
  ⟨0xB00080, [], .plain, false, [⟨9, 0, .rw, .SEC_SESSION_CTRL_INDEX, 0⟩, ⟨15, 12, .rw, .SEC_SESSION_CTRL_CARRIAGE,
    0⟩, ⟨16, 16, .wo, .SEC_SESSION_CTRL_LOAD, 0⟩, ⟨17, 17, .wo, .SEC_SESSION_CTRL_UNLOAD, 0⟩]⟩,
  ⟨0xB00084, [], .port, false, [⟨7, 0, .ro, .SEC_SESSION_RESULT_STATUS, 0⟩, ⟨8, 8, .rc, .SEC_SESSION_RESULT_DONE,
    0⟩]⟩,
  ⟨0xB00088, [], .plain, false, [⟨10, 0, .ro, .SEC_SESSIONS_LOADED, 0⟩]⟩,
  ⟨0xB00090, [], .plain, false, [⟨4, 0, .rw, .SEC_KEY_CTRL_SLOT, 0⟩, ⟨8, 8, .wo, .SEC_KEY_CTRL_RETIRE, 0⟩]⟩,
  ⟨0xB00094, [], .port, false, [⟨7, 0, .ro, .SEC_KEY_RESULT_STATUS, 0⟩, ⟨8, 8, .rc, .SEC_KEY_RESULT_DONE, 0⟩]⟩,
  ⟨0xB00098, [], .port, false, [⟨4, 0, .rw, .SEC_SLOT_SEL_SLOT, 0⟩]⟩,
  ⟨0xB0009C, [], (.sel .SEC_SLOT_SEL_SLOT), false, [⟨1, 0, .ro, .SEC_SLOT_STAT_STATE, 0⟩, ⟨7, 4, .ro,
    .SEC_SLOT_STAT_OWNER, 0⟩, ⟨8, 8, .ro, .SEC_SLOT_STAT_OWNED, 0⟩]⟩,
  ⟨0xB000A0, [], (.sel .SEC_SLOT_SEL_SLOT), false, [⟨31, 0, .ro, .SEC_SLOT_PAGES_COUNT, 0⟩]⟩,
  ⟨0xB000A4, [], .plain, false, [⟨31, 0, .ro, .SEC_RETIRED_SLOTS, 0⟩]⟩,
  ⟨0xB000C0, [(4, 16)], .plain, false, [⟨4, 0, .ro, .SEC_CURRENT_SLOT, 0⟩, ⟨5, 5, .ro, .SEC_CURRENT_VALID, 0⟩, ⟨6,
    6, .ro, .SEC_CURRENT_SWEEP, 0⟩]⟩,
  ⟨0xB01000, [(4, 1296)], .portArr, false, [⟨31, 0, .ro, .SEC_REPORT, 0⟩]⟩,
  ⟨0xB03000, [(4, 1808)], .plain, false, [⟨31, 0, .ro, .SEC_ID, 0⟩]⟩]

/-- Registers of block SEC, continued. -/
def secRegs1 : List Reg := [
  ⟨0xB05000, [(4, 392)], .plain, false, [⟨31, 0, .ro, .SEC_KEMPUB, 0⟩]⟩,
  ⟨0xB06000, [(4, 392)], .portArr, false, [⟨31, 0, .wo, .SEC_KEMCT, 0⟩]⟩,
  ⟨0xB80000, [], .plain, false, [⟨9, 0, .rw, .SEC_X_SWEEP_GBPS, 0⟩, ⟨10, 10, .rw, .SEC_X_SWEEP_HOLD, 0⟩]⟩,
  ⟨0xB80004, [], .plain, false, [⟨4, 0, .rw, .SEC_X_FORCE_SLOT, 0⟩, ⟨8, 8, .wo, .SEC_X_FORCE_FORCE_RETIRE, 0⟩]⟩]

/-- Registers of block RAS (R530, R531). -/
def rasRegs : List Reg := [
  ⟨0xC00000, [], .plain, false, [⟨0, 0, .rw, .RAS_CTRL_NOTICE_EN, 0⟩, ⟨1, 1, .rw, .RAS_CTRL_PEER_NOTICE, 0⟩]⟩,
  ⟨0xC00004, [], .plain, false, [⟨15, 0, .rw, .RAS_PEER_WAIT_MS, 0⟩]⟩,
  ⟨0xC00008, [], .plain, false, [⟨15, 0, .rw, .RAS_HOLD_US_US, 0⟩]⟩,
  ⟨0xC0000C, [], .plain, false, [⟨12, 0, .ro, .RAS_HELD_COUNT, 0⟩]⟩,
  ⟨0xC00010, [], .plain, false, [⟨10, 0, .ro, .RAS_STEPS_IN_USE, 0⟩]⟩,
  ⟨0xC00014, [], .plain, false, [⟨31, 0, .rc, .RAS_NOTICE_TX_COUNT, 0⟩]⟩,
  ⟨0xC00018, [], .plain, false, [⟨31, 0, .rc, .RAS_NOTICE_RX_COUNT, 0⟩]⟩,
  ⟨0xC0001C, [], .plain, false, [⟨31, 0, .rc, .RAS_NOTICE_LATE_COUNT, 0⟩]⟩,
  ⟨0xC00020, [], .plain, false, [⟨7, 0, .ro, .RAS_LAST_TX_CAUSE, 0⟩]⟩,
  ⟨0xC00024, [], .plain, false, [⟨11, 0, .ro, .RAS_LAST_RX_NODE, 0⟩, ⟨23, 16, .ro, .RAS_LAST_RX_CAUSE, 0⟩]⟩,
  ⟨0xC00028, [], .plain, false, [⟨15, 0, .rw, .RAS_SEND_CARRIAGES, 0⟩, ⟨16, 16, .wo, .RAS_SEND_SEND, 0⟩]⟩,
  ⟨0xC0002C, [], .plain, true, [⟨31, 0, .rw, .RAS_SEND_DETAIL_LO_DETAIL_LO, 0⟩]⟩,
  ⟨0xC00030, [], .plain, false, [⟨31, 0, .rw, .RAS_SEND_DETAIL_HI_DETAIL_HI, 0⟩]⟩,
  ⟨0xC00034, [], .port, true, [⟨31, 0, .rw, .RAS_NOTIFY_ADDR_LO_ADDR_LO, 0⟩]⟩,
  ⟨0xC00038, [], .port, false, [⟨31, 0, .rw, .RAS_NOTIFY_ADDR_HI_ADDR_HI, 0⟩]⟩,
  ⟨0xC0003C, [], .port, false, [⟨31, 0, .rw, .RAS_NOTIFY_DATA_DATA, 0⟩]⟩,
  ⟨0xC00040, [], .port, false, [⟨0, 0, .rw, .RAS_NOTIFY_EN_EN, 0⟩]⟩,
  ⟨0xC00050, [], .port, false, [⟨3, 0, .rw, .RAS_CSEL_CARRIAGE, 0⟩]⟩,
  ⟨0xC00054, [], (.sel .RAS_CSEL_CARRIAGE), false, [⟨31, 0, .rc, .RAS_C_ABORTED_COUNT, 0⟩]⟩,
  ⟨0xC00058, [], (.sel .RAS_CSEL_CARRIAGE), false, [⟨6, 0, .ro, .RAS_C_STEPS_IN_USE, 0⟩]⟩,
  ⟨0xC0005C, [], (.sel .RAS_CSEL_CARRIAGE), false, [⟨31, 0, .rc, .RAS_C_REPLAYED_COUNT, 0⟩]⟩,
  ⟨0xC80000, [], .plain, false, [⟨0, 0, .wo, .RAS_X_CLEAR_STEPS, 0⟩, ⟨1, 1, .wo, .RAS_X_CLEAR_HOLDS, 0⟩]⟩]

/-- Registers of block MON (R575, R576). -/
def monRegs : List Reg := [
  ⟨0xD00000, [], .plain, false, [⟨0, 0, .rw, .MON_CTRL_AUTO_THROTTLE, 0⟩]⟩,
  ⟨0xD00004, [], .plain, false, [⟨1, 0, .ro, .MON_STATUS_STEP, 0⟩, ⟨3, 2, .ro, .MON_STATUS_FLOOR, 0⟩, ⟨4, 4, .ro,
    .MON_STATUS_ALERT, 0⟩, ⟨13, 8, .ro, .MON_STATUS_HOTTEST, 0⟩]⟩,
  ⟨0xD00008, [], .plain, false, [⟨7, 0, .rw, .MON_THRESH_WARN, 0⟩, ⟨15, 8, .rw, .MON_THRESH_DOWN, 0⟩]⟩,
  ⟨0xD0000C, [], .plain, false, [⟨11, 0, .rc, .MON_TEMP_MAX_MAX, 0⟩]⟩,
  ⟨0xD00010, [(4, 4)], .plain, false, [⟨31, 0, .rc, .MON_STEPCNT_FRAMES, 0⟩]⟩,
  ⟨0xD00100, [(4, 48)], .plain, false, [⟨11, 0, .ro, .MON_TEMP_VALUE, 0⟩, ⟨12, 12, .ro, .MON_TEMP_EXCLUDED, 0⟩]⟩,
  ⟨0xD00200, [(4, 24)], .plain, false, [⟨11, 0, .ro, .MON_VOLT_MV, 0⟩, ⟨12, 12, .ro, .MON_VOLT_EXCLUDED, 0⟩]⟩,
  ⟨0xD00300, [(4, 16)], .plain, false, [⟨15, 0, .ro, .MON_PROC_MHZ, 0⟩, ⟨16, 16, .ro, .MON_PROC_EXCLUDED, 0⟩]⟩,
  ⟨0xD80000, [], .plain, false, [⟨1, 0, .rw, .MON_X_STEP_STEP, 0⟩, ⟨2, 2, .rw, .MON_X_STEP_FORCE, 0⟩]⟩,
  ⟨0xD80100, [(4, 48)], .plain, false, [⟨7, 0, .rw, .MON_X_TTRIM_OFFSET, 0⟩]⟩]

/-- Registers of block EVR (R577, R578). -/
def evrRegs : List Reg := [
  ⟨0xE00000, [], .plain, false, [⟨13, 0, .ro, .EVR_STATUS_COUNT, 0⟩, ⟨16, 16, .ro, .EVR_STATUS_PERSIST_BUSY, 0⟩,
    ⟨17, 17, .ro, .EVR_STATUS_PURGE_BUSY, 0⟩]⟩,
  ⟨0xE00004, [], .plain, false, [⟨31, 0, .ro, .EVR_HEAD_SEQ, 0⟩]⟩,
  ⟨0xE00008, [], .plain, false, [⟨31, 0, .rc, .EVR_LOST_COUNT, 0⟩]⟩,
  ⟨0xE0000C, [], .plain, false, [⟨7, 0, .rw, .EVR_LIMIT_PER_FRAME, 0⟩]⟩,
  ⟨0xE00010, [], .plain, false, [⟨31, 0, .rc, .EVR_SUPPRESSED_COUNT, 0⟩]⟩,
  ⟨0xE00014, [], .port, false, [⟨31, 0, .rw, .EVR_CLEAR_SEQ_SEQ, 0⟩]⟩,
  ⟨0xE00018, [], .plain, false, [⟨0, 0, .wo, .EVR_CLEAR_CLEAR, 0⟩]⟩,
  ⟨0xE0001C, [], .port, false, [⟨7, 0, .ro, .EVR_CLEAR_RESULT_STATUS, 0⟩, ⟨8, 8, .rc, .EVR_CLEAR_RESULT_DONE, 0⟩]⟩,
  ⟨0xE00020, [], .plain, true, [⟨31, 0, .ro, .EVR_PERSIST_FT_LO_FT_LO, 0⟩]⟩,
  ⟨0xE00024, [], .plain, false, [⟨31, 0, .ro, .EVR_PERSIST_FT_HI_FT_HI, 0⟩]⟩,
  ⟨0xE10000, [(4, 65536)], .plain, false, [⟨31, 0, .ro, .EVR_RING, 0⟩]⟩,
  ⟨0xE80000, [(4, 32)], .plain, false, [⟨15, 0, .rw, .EVR_X_CODE_LIMIT_CODE, 0⟩, ⟨23, 16, .rw,
    .EVR_X_CODE_LIMIT_LIMIT, 0⟩, ⟨24, 24, .rw, .EVR_X_CODE_LIMIT_VALID, 0⟩]⟩]

/-- Registers of block BIST (R557, R558). -/
def bistRegs : List Reg := [
  ⟨0xF00000, [], .plain, false, [⟨2, 0, .ro, .BIST_SUP_PHASE, 0⟩, ⟨3, 3, .ro, .BIST_SUP_WARM, 0⟩, ⟨4, 4, .ro,
    .BIST_SUP_DEGRADED, 0⟩, ⟨5, 5, .ro, .BIST_SUP_JOINED, 0⟩, ⟨6, 6, .ro, .BIST_SUP_CLEAN_LAST, 0⟩]⟩,
  ⟨0xF00004, [], .plain, false, [⟨15, 0, .ro, .BIST_SUP_MS_READY_MS, 0⟩]⟩,
  ⟨0xF00008, [], .plain, true, [⟨31, 0, .ro, .BIST_ANCHOR_LO_FT_LO, 0⟩]⟩,
  ⟨0xF0000C, [], .plain, false, [⟨31, 0, .ro, .BIST_ANCHOR_HI_FT_HI, 0⟩]⟩,
  ⟨0xF00010, [], .plain, false, [⟨7, 0, .ro, .BIST_LEVEL_LEVELS, 0⟩]⟩,
  ⟨0xF00014, [], .plain, false, [⟨15, 0, .rw, .BIST_DISC_WAIT_MS, 0⟩]⟩,
  ⟨0xF00018, [], .plain, false, [⟨15, 0, .ro, .BIST_STACK_FAIL_STACKS, 0⟩]⟩,
  ⟨0xF0001C, [], .plain, false, [⟨7, 0, .ro, .BIST_DUP_LINKS, 0⟩]⟩,
  ⟨0xF00020, [], .plain, false, [⟨31, 0, .rc, .BIST_EARLY_COUNT, 0⟩]⟩,
  ⟨0xF00030, [], .plain, true, [⟨31, 0, .rw, .BIST_SHUT_FT_LO_FT_LO, 0⟩]⟩,
  ⟨0xF00034, [], .plain, false, [⟨31, 0, .rw, .BIST_SHUT_FT_HI_FT_HI, 0⟩]⟩,
  ⟨0xF00038, [], .plain, false, [⟨0, 0, .wo, .BIST_SHUT_CTRL_START, 0⟩, ⟨1, 1, .rw, .BIST_SHUT_CTRL_TEST, 0⟩]⟩,
  ⟨0xF0003C, [], .plain, false, [⟨2, 0, .ro, .BIST_SHUT_STATUS_STATE, 0⟩, ⟨3, 3, .ro, .BIST_SHUT_STATUS_PERSIST_OK,
    0⟩]⟩,
  ⟨0xF00040, [], .plain, false, [⟨0, 0, .wo, .BIST_CTRL_START, 0⟩]⟩,
  ⟨0xF00044, [], .plain, false, [⟨1, 0, .ro, .BIST_STATUS_STATE, 0⟩, ⟨2, 2, .ro, .BIST_STATUS_NEED_RESET, 0⟩, ⟨15,
    8, .ro, .BIST_STATUS_STATUS, 0⟩]⟩,
  ⟨0xF00048, [], .plain, false, [⟨15, 0, .ro, .BIST_RESULT_ITEMS, 0⟩]⟩,
  ⟨0xF0004C, [], .plain, true, [⟨31, 0, .ro, .BIST_RESULT_FT_LO_FT_LO, 0⟩]⟩,
  ⟨0xF00050, [], .plain, false, [⟨31, 0, .ro, .BIST_RESULT_FT_HI_FT_HI, 0⟩]⟩,
  ⟨0xF00054, [], .plain, false, [⟨15, 0, .ro, .BIST_LAST_RESULT_ITEMS, 0⟩, ⟨16, 16, .ro, .BIST_LAST_RESULT_VALID,
    0⟩]⟩,
  ⟨0xF80000, [], .plain, false, [⟨0, 0, .rw, .BIST_X_TRIMS_DISCARD_HBM, 0⟩, ⟨1, 1, .rw, .BIST_X_TRIMS_DISCARD_FOX,
    0⟩, ⟨2, 2, .rw, .BIST_X_TRIMS_DISCARD_SERDES, 0⟩]⟩,
  ⟨0xF80004, [], .plain, false, [⟨7, 0, .rw, .BIST_X_SKIP_ITEMS, 0⟩]⟩]

/-- The registers of a block, by the block's number (R29). -/
def regsOf : Nat → List Reg
  | 0 => glbRegs
  | 1 => ttRegs
  | 2 => cmpRegs
  | 3 => queRegs0 ++ queRegs1
  | 4 => bdgRegs0 ++ bdgRegs1
  | 5 => foxRegs
  | 6 => bearRegs
  | 7 => prtRegs0 ++ prtRegs1 ++ prtRegs2
  | 8 => trfRegs
  | 9 => owlRegs
  | 10 => memRegs
  | 11 => secRegs0 ++ secRegs1
  | 12 => rasRegs
  | 13 => monRegs
  | 14 => evrRegs
  | 15 => bistRegs
  | _ => []

/-- The number of the element of an array at a distance from its first register; none where no element begins there. -/
def elemOf : List (Nat × Nat) → Nat → Option Nat
  | [], d => if d = 0 then some 0 else none
  | (st, n) :: r, d =>
    if d / st < n then (elemOf r (d % st)).map (fun e => d / st * (r.map Prod.snd).foldl (· * ·) 1 + e) else none

/-- The elements of an array. -/
def Reg.count (r : Reg) : Nat := (r.dims.map Prod.snd).foldl (· * ·) 1

/-- The element of a register row at an offset. -/
def Reg.elemAt (r : Reg) (off : Nat) : Option Nat := if r.off ≤ off then elemOf r.dims (off - r.off) else none

/-- The register at an offset of the control space, with its element (R29, R30). -/
def regAt (off : Nat) : Option (Reg × Nat) :=
  (regsOf (off / 1048576)).findSome? (fun r => (r.elemAt off).map (fun e => (r, e)))

end Sys2Proof.Machine
end

