-- ==== Sys2Proof/Machine/Resume.lean ====
section
/-! DEFINITION. SEQ_RESUME: its sources, the checks of an image, the import of pages, and how a resume ends (R348 to
R354, R508). -/

namespace Sys2Proof.Machine

open Sys2Proof

/-! ### The operands of SEQ_RESUME (Table PARK-7) -/

namespace Rs
def source (b : List Byte) : Nat := u8 b 12
def last (b : List Byte) : Bool := bit (u8 b 13) 0
def abandon (b : List Byte) : Bool := bit (u8 b 13) 1
def nodeset (b : List Byte) : Nat := u16 b 14
def node (b : List Byte) : Nat := u16 b 16
def first (b : List Byte) : Nat := u16 b 18
def layers (b : List Byte) : Nat := u16 b 20
def image (b : List Byte) : Nat := u32 b 24
def addr (b : List Byte) : Nat := u64 b 28
/-- A WARM resume of a range of layers. -/
def slice (b : List Byte) : Bool := source b == 0 && layers b != 0
end Rs

/-! ### What a resume may act on (R349, R608) -/

/-- Whether an existing descriptor permits a resume; LAST without a source and ABANDON need one that is RESUMING. -/
def resumePermits (s : State) (b : List Byte) (q : Seqd) : Bool :=
  let ends := Rs.abandon b || Rs.source b == 3
  if Rs.slice b && !ends then (q.st == 1 || q.st == 2) && decide (Rs.first b + Rs.layers b ≤ q.layers)
  else
    decide ((if ends then 6 else 4) ≤ q.st) && q.nodeset == Rs.nodeset b &&
    (q.st != 6 || (look (Op.seqId b) s.park.resumes).all (fun r => r.image == Rs.image b))

/-- The checks of a SEQ_RESUME before a source is used: status and reason. -/
def resumeFault (s : State) (b : List Byte) : Option (Nat × Nat) :=
  let seq := Op.seqId b
  let q := look seq s.seq.seqs
  let ends := Rs.abandon b || Rs.source b == 3
  if 3 < Rs.source b ∨ seq = 0 ∨ (Rs.source b = 3 ∧ Rs.last b = false ∧ Rs.abandon b = false) ∨ 4095 < Rs.node b then
    some (Status.badCommand, 0)
  else if (ends ∨ Rs.slice b = false) ∧ setUsable s (Op.car b) (Rs.nodeset b) = false then some (Status.badCommand, 26)
  else
    match q with
    | none =>
      if ends ∨ Rs.slice b then some (Status.badCommand, 0)
      else if has seq s.seq.busy then some (Status.badCommand, 25)
      else if Rs.source b = 0 then some (Status.badCommand, 22) else none
    | some q =>
      if resumePermits s b q = false then some (Status.badCommand, 25)
      else if ends = false ∧ Rs.source b = 0 ∧ Rs.slice b = false ∧ has seq s.park.warm = false then some (Status.badCommand, 22)
      else if q.car ≠ Op.car b then some (Status.accessDenied, 0)
      else none

/-! ### The checks of a source (R349, R508) -/

/-- Whether the descriptor of an image is one this node can hold: its shape in the map in force. -/
def imageShape (s : State) (d : List Byte) : Bool :=
  let f := u8 d 5
  pexpOf s.im (bit f 0) (bits f 1 3) (u16 d 6) == some (bits f 4 4) && decide (1 ≤ u8 d 8) && decide (u8 d 8 ≤ 64) &&
  decide (1 ≤ u16 d 10) && decide (u16 d 10 ≤ 1024)

/-- The first failed check of a header: status, reason and the number of the check (assumption 21). -/
def headerFault (s : State) (c : Cmd) (h : List Byte) : Option (Nat × Nat × Nat) :=
  let b := c.bytes
  let car := Op.car b
  let slot := Rs.image b % 32
  let prot := bit (u8 (Img.desc h) 9) 0
  let open_ := s.im.protected_ car && s.hasSlotKeys && s.owner (.slot slot) == some car && (Rs.source b != 1 || qConf s c.q)
  if Img.wellMarked h = false then some (Status.badCommand, 22, 1)
  else if Img.seq h ≠ Op.seqId b ∨ Img.image h ≠ Rs.image b then some (Status.badCommand, 22, 2)
  else if u8 (Img.desc h) 4 % 16 ≠ car then some (Status.accessDenied, 0, 3)
  else if prot ∧ open_ = false then some (Status.accessDenied, 0, 3)
  else if prot ∧ slot ∈ s.sec.retired then some (Status.keyRetired, 0, 3)
  else if Img.digests h = false then some (Status.uncorrectable, 0, 4)
  else none

/-- What refuses a source whose header holds: the digest of its entry array, and, where it is to make the descriptor, a shape
that the map in force does not allow. -/
def arrayFault (s : State) (c : Cmd) (h es : List Byte) : Option (Nat × Nat × Nat) :=
  if digestOf es ≠ Img.table h then some (Status.uncorrectable, 0, 5)
  else if has (Op.seqId c.bytes) s.seq.seqs = false ∧ imageShape s (Img.desc h) = false then some (Status.badCommand, 22, 2)
  else none

/-- A source refused: event 0x0424 with IMAGE_ID, SRC_NODE and the check. -/
def resumeRefuse (k : Nat) (c : Cmd) (st reason check : Nat) (s : State) : State :=
  s |> raise 0x0424 (some (Op.car c.bytes)) [(4, Rs.image c.bytes), (2, Rs.node c.bytes), (1, check)]
    |> noteKeyAt st none (Rs.image c.bytes % 32) (Op.car c.bytes) |> completeReason k st reason

/-- The descriptor that an image gives, under the command's node set (R348, Table PARK-5). -/
def imageDesc (b d : List Byte) (desc run : Nat) : Seqd :=
  let f := u8 d 5
  { car := Op.car b, st := 6, latent := bit f 0, elem := bits f 1 3, pexp := bits f 4 4, elems := u16 d 6, kv := u8 d 8,
    flags := u8 d 9, layers := u16 d 10, nodeset := Rs.nodeset b, stride := u16 d 14, mclass := u16 d 16, sinks := u8 d 18,
    comp := u8 d 19, tail := u32 d 20, parent := u32 d 24, forkPos := u32 d 28, freeze := u32 d 32, layerTable := run,
    buddy := u16 d 40, cold := 0, lastAppend := 0, descBlock := desc, recs := [] }

/-- What a resume remembers of its first source. -/
def resumeOf (h : List Byte) : Resume :=
  { image := Img.image h, pos := Img.pos h, frozen := Img.frozen h, freeze := u32 (Img.desc h) 32, imported := 0, got := [] }

/-- A source accepted: its sequence is RESUMING; the first one makes the descriptor where there is none. -/
def acceptSource (c : Cmd) (h : List Byte) (s : State) : Except (Nat × Nat) State :=
  let b := c.bytes
  let seq := Op.seqId b
  let note := onPark (fun x => { x with resumes := if has seq x.resumes then x.resumes else put seq (resumeOf h) x.resumes })
  match look seq s.seq.seqs with
  | some q => .ok (s |> setSeq seq { q with st := 6, lastAppend := 0 } |> note)
  | none =>
    if s.im.maxSeqs (Op.car b) ≤ seqsOf s (Op.car b) then .error (Status.accessDenied, 0)
    else
      match takeSeqTables (Op.car b) (u16 (Img.desc h) 10) s with
      | none => .error (Status.accessDenied, 1)
      | some (d, r, s) => .ok (s |> setSeq seq (imageDesc b (Img.desc h) d r) |> note)

/-! ### Fetching an image (R348, R401) -/

/-- Whether a source's bytes cross Onzon as sealed records. -/
def imageSealed (s : State) (c : Cmd) : Bool := Rs.source c.bytes == 1 && qConf s c.q

/-- Where a span of an image lies as it crosses Onzon, from SRC_ADDR, and its bytes there: whole records of a sealed one. -/
def spanWire (sealed_ : Bool) (len : Nat) (sp : Nat × Nat) : Nat × Nat :=
  if sealed_ = false ∨ sp.2 = 0 then sp
  else
    let a := sp.1 / 4096
    let n := (sp.1 + sp.2 - 1) / 4096 + 1 - a
    (4136 * a, sumOf (fun i => 40 + min 4096 (len - 4096 * (a + i))) (List.range n))

/-- The bytes of a span from the bytes that crossed Onzon for it; the index of the record that fails. -/
def takeSpan (s : State) (c : Cmd) (sp : Nat × Nat) (d : List Byte) : Except Nat (List Byte) :=
  if imageSealed s c = false ∨ sp.2 = 0 then .ok d
  else
    let first := sp.1 / 4096
    let o := openBuf s c.q 4 (Op.cmdId c.bytes) (fun used _ => first + used) d
    match o.bad with
    | some i => .error i
    | none => if o.plain.length < sp.1 % 4096 + sp.2 then .error (first + o.used) else .ok (slice o.plain (sp.1 % 4096) sp.2)

/-- The bytes of spans taken from a command's buffer at `at_`; the index of a record that fails. -/
def takeSpans (s : State) (c : Cmd) (len : Nat) : List (Nat × Nat) → Nat → Except Nat (List (List Byte))
  | [], _ => .ok []
  | sp :: r, at_ =>
    let w := (spanWire (imageSealed s c) len sp).2
    match takeSpan s c sp (slice c.buf at_ w), takeSpans s c len r (at_ + w) with
    | .ok a, .ok l => .ok (a :: l)
    | .error i, _ => .error i
    | .ok _, .error i => .error i

/-- Bytes that spans take in a buffer. -/
def spansLen (s : State) (c : Cmd) (len : Nat) (sps : List (Nat × Nat)) : Nat :=
  sumOf (fun sp => (spanWire (imageSealed s c) len sp).2) sps

/-- The span of the header; an image holds at least one whole record. -/
def headSpan : List (Nat × Nat) := [(0, 384)]

/-- The header of a fetched image. -/
def fetchedHead (s : State) (c : Cmd) : Except Nat (List Byte) := (takeSpans s c 4096 headSpan 0).map (fun l => l.headD [])

/-- The span of the entry array. -/
def arraySpan (h : List Byte) : List (Nat × Nat) := [(384, 128 * Img.count h)]

/-- The entry array of a fetched image. -/
def fetchedArray (s : State) (c : Cmd) (h : List Byte) : Except Nat (List Byte) :=
  (takeSpans s c (Img.len h) (arraySpan h) (spansLen s c 4096 headSpan)).map (fun l => l.headD [])

/-- The spans of the entries that a command imports. -/
def pageSpans (c : Cmd) (entries : List Byte) : List (Nat × Nat) :=
  c.note.map (fun i => let e := slice entries (128 * i) 128; (Ent.off e, Ent.len e))

/-- The header and the entry array of a command whose source has passed them; empty where they are not there. -/
def headOf_ (s : State) (c : Cmd) : List Byte := (fetchedHead s c).toOption.getD []
def arrayOf (s : State) (c : Cmd) : List Byte := (fetchedArray s c (headOf_ s c)).toOption.getD []

/-- The spans of a stage, and where they begin in the buffer. -/
def stageSpans (s : State) (c : Cmd) : List (Nat × Nat) × Nat :=
  let h := headOf_ s c
  let a := spansLen s c 4096 headSpan
  if c.phase = 1 then (headSpan, 0)
  else if c.phase = 2 then (arraySpan h, a)
  else (pageSpans c (arrayOf s c), a + spansLen s c (Img.len h) (arraySpan h))

/-- The next piece of at most 1 MiB of a list of spans, where `got` bytes have arrived. -/
def nextPiece : List (Nat × Nat) → Nat → Option (Nat × Nat)
  | [], _ => none
  | sp :: r, got => if got < sp.2 then some (sp.1 + got, min windowSize (sp.2 - got)) else nextPiece r (got - sp.2)

/-- A PARK_XFER sent for a piece of an image, through a window, once an operation entry and a window are free. -/
def askPiece (k : Nat) (c : Cmd) (x : Nat × Nat) (s : State) : State :=
  let b := c.bytes
  match windowPick s with
  | none => s
  | some w =>
    let h : Hdr :=
      { mtype := MTy.parkXfer, dest := Rs.node b, car := Op.car b, epoch := Op.epoch b, respKind := 2, respGen := w.2, respKey := w.1,
        msgLen := 24 }
    if s.opFree (Op.car b) then
      s |> freeTaken |> (fun s => windowOpen w.1 w.2 (nextOpId s) s)
        |> sendOp h (leBytes 4 (Op.seqId b) ++ leBytes 4 (Rs.image b) ++ leBytes 8 x.1 ++ leBytes 4 x.2 ++ zeros 4) (some k) (some w) false
    else s

/-- A stage's spans asked for: of a host image at once, of a fabric image piece by piece. -/
def askStage (k : Nat) (s : State) : State :=
  match s.cmd k with
  | none => s
  | some c =>
    if Rs.source c.bytes ≠ 1 then s
    else
      let len := if c.phase = 1 then 4096 else Img.len (headOf_ s c)
      forEach (stageSpans s c).1 (fun sp s =>
        let w := spanWire (imageSealed s c) len sp
        when (w.2 != 0) (hostReadRaw k (Rs.addr c.bytes + w.1) w.2) s) s

/-! ### Importing a page (R350, R351) -/

/-- Whether the running resume of a sequence has imported the page of a leaf entry. -/
def imported (s : State) (seq : Nat) (q : Seqd) (layer leaf : Nat) : Bool :=
  (look leaf (layerOf s seq q layer).leaves).any (fun l => (look seq s.park.resumes).any (fun r => decide (l.page ∈ r.got)))

/-- A page of a resume marked imported, or not any more. -/
def markImported (seq p : Nat) (s : State) : State :=
  onPark (fun x => { x with resumes := upd seq (fun r => { r with got := addSet p r.got }) x.resumes }) s
def unmarkImported (seq p : Nat) (s : State) : State :=
  onPark (fun x => { x with resumes := upd seq (fun r => { r with got := remSet p r.got }) x.resumes }) s

/-- The leaf entry of an image's entry on this node; none where it is mapped elsewhere or lies outside the shape. -/
def entryLeaf (s : State) (q : Seqd) (e : List Byte) : Option Nat :=
  if q.layers ≤ Ent.layer e ∨ q.kv ≤ Ent.head e ∨ q.p < Ent.fill e ∨ Ent.fill e < Ent.view e then none
  else (localOf s q (Ent.layer e) (Ent.ord e)).map (fun k => k * q.kv + Ent.head e)

/-- The entries of a source that this node needs. -/
def neededEntries (s : State) (seq : Nat) (q : Seqd) (es : List (List Byte)) : List Nat :=
  (List.range es.length).filter (fun i =>
    let e := nth [] es i
    (entryLeaf s q e).any (fun l => !imported s seq q (Ent.layer e) l))

/-- A TIER 2 page given a frame again, with the current key (R350): home half, other half, CXL where it falls back. -/
def refillPage (p home : Nat) (q : Seqd) (s : State) : Option State :=
  let fill := fun loc (s : State) => onPage p (fun g => { g with loc := loc, keySlot := s.currentSlot q.car, fill := 0 }) s
  match takeHbm q.car home (.page p) s with
  | some (k, s) => some (fill (.hbm k.1 k.2) s)
  | none =>
    if q.fallback then
      (takeCxl q.car home (.page p) s).map (fun f => f.2 |> fill (.cxl q.car f.1) |> bump .BDG_SEQ_C_FALLBACK_COUNT q.car 1
        |> raiseCar 0x0441 q.car [(1, q.car)])
    else none

/-- The page that an entry goes to: the TIER 2 page its leaf entry names, or a new one, which takes the place of a page that
no source has imported; and whether it was refilled. -/
def entryPage (seq layer leaf : Nat) (q : Seqd) (s : State) : Except (Nat × Nat) (Nat × Bool × State) :=
  let r := layerOf s seq q layer
  let ords := max r.ordinals (leaf / max 1 q.kv + 1)
  match growLayer q.car seq layer q.kv ords r s with
  | none => .error (Status.accessDenied, 1)
  | some (r', s) =>
    let s := onLayer seq layer (fun _ => { r' with ordinals := ords }) s
    let fresh := fun (s : State) => match allocPage q.car r.home q s with
      | some (p, s) => .ok (p, false, s)
      | none => .error (Status.noPage, 0)
    match look leaf r.leaves with
    | none => fresh s
    | some l =>
      if (look l.page s.seq.pages).any (fun g => g.loc == .cold) then
        match refillPage l.page r.home q s with
        | some s => .ok (l.page, true, s)
        | none => .error (Status.noPage, 0)
      else s |> clearLeaf seq layer leaf l.page |> pageFree l.page |> fresh

/-- A page's directory entry as its image entry restores it (Table PARK-5). -/
def restorePage (q : Seqd) (e : List Byte) (s : State) (g : Page) : Page :=
  let sealed_ := bit (Ent.flags e) 0
  { g with summary := slice e 0 64, digest := if sealed_ then Ent.digest e else zeros 24, hash := fieldAt e 88 12,
           radius := u16 e 100, scale := u16 e 102, fill := Ent.fill e, sealed_ := sealed_,
           cls := (q.mclass + Ent.layer e) % 65536, sealAt := s.ft, comp := false }

/-- Whether stored bytes bear out an entry's DIGEST: a sealed page's covers both areas whole (R163, R346). -/
def entryDigestOk (s : State) (q : Seqd) (e raw : List Byte) : Bool :=
  let n := Ent.fill e * q.slot s.im
  let d := if bit (Ent.flags e) 0 then padTo s.im.dataArea (raw.take n) ++ padTo (s.im.dataArea / 32) (raw.drop n) else raw
  (digestOf d).take 24 == Ent.digest e

/-- The slots and scales of an entry from what its stream expands to: a warm image shows a page's areas whole, any other image
its first FILL slots and their scales (R346). -/
def entrySlots (s : State) (q : Seqd) (fill : Nat) (bs : List Byte) : List Byte :=
  let n := fill * q.slot s.im
  let m := fill * q.scale s.im
  if bs.length = s.im.frameSize then bs.take n ++ slice bs s.im.dataArea m else padTo (n + m) bs

/-- The bytes of an entry in clear and expanded. -/
def entryRaw (s : State) (q : Seqd) (image i : Nat) (e d : List Byte) : Except (Nat × Nat) (List Byte) :=
  if bit (Ent.flags e) 1 then
    if bufferServes s 0 || bufferServes s 1 then
      match expandStream s q.car d with
      | .ok r => .ok (entrySlots s q (Ent.fill e) r)
      | .error x => .error x
    else .error (Status.claimed, 0)
  else .ok (clearStream s q image i (Ent.fill e) (padTo (Ent.fill e * (q.slot s.im + q.scale s.im)) d))

/-- The page linked, sealed, bound and indexed as it lands. -/
def landPage (seq leaf p : Nat) (q : Seqd) (e : List Byte) (s : State) : State :=
  let s := s |> onPage p (restorePage q e s) |> setLeaf seq (Ent.layer e) leaf { page := p, view := Ent.view e }
  match look p s.seq.pages with
  | none => s
  | some g =>
    s |> when g.sealed_ (bindRow p (locHalf s g.loc) g) |> when (bit (Ent.flags e) 2) (indexInsert p g)

/-- What a source imported: layer, leaf entry, page, and whether the page was refilled. -/
abbrev Imported := Nat × Nat × Nat × Bool

/-- One entry imported: what it made, or a status with a reason. -/
def importEntry (seq image i : Nat) (q : Seqd) (e d : List Byte) (s : State) : Except (Nat × Nat) (Option Imported × State) :=
  match entryLeaf s q e with
  | none => .ok (none, s)
  | some leaf =>
    let layer := Ent.layer e
    if imported s seq q layer leaf then .ok (none, s)
    else
      match entryRaw s q image i e d with
      | .error x => .error x
      | .ok raw =>
        if entryDigestOk s q e raw = false then .error (Status.uncorrectable, 255)
        else
          match entryPage seq layer leaf q s with
          | .error x => .error x
          | .ok (p, refilled, s) =>
            let n := Ent.fill e * q.slot s.im
            match writeSlots q p 0 (raw.take n, raw.drop n) s with
            | none => .error (Status.uncorrectable, 0)
            | some s => .ok (some (layer, leaf, p, refilled), s |> landPage seq leaf p q e |> markImported seq p)

/-- The pages of a source released (R351): a refilled page is TIER 2 again, any other loses the sequence's reference. -/
def releaseImported (seq : Nat) (l : List Imported) (s : State) : State :=
  forEach l (fun x s =>
    let s := unmarkImported seq x.2.2.1 s
    if x.2.2.2 then coldPage x.2.2.1 s else s |> clearLeaf seq x.1 x.2.1 x.2.2.1 |> pageFree x.2.2.1) s

/-- The entries of a source imported in order: what they made, and the failure that ended the import. -/
def importAll (seq image : Nat) (es : List (List Byte)) : List (Nat × List Byte) → List Imported → State →
    Option (Nat × Nat) × List Imported × State
  | [], acc, s => (none, acc, s)
  | (i, d) :: r, acc, s =>
    match look seq s.seq.seqs with
    | none => (some (Status.badCommand, 25), acc, s)
    | some q =>
      match importEntry seq image i q (nth [] es i) d s with
      | .error x => (some x, acc, s)
      | .ok (m, s) => importAll seq image es r (match m with | some y => acc ++ [y] | none => acc) s

/-! ### The end of a resume (R352) -/

/-- Pages that a resume still misses. -/
def missingPages (s : State) (seq : Nat) (q : Seqd) (pos : Nat) : Nat :=
  sumOf (fun l => sumOf (fun k => countOf (fun h => !imported s seq q l (k * q.kv + h)) (List.range q.kv))
    (List.range (ordinalsBelow s q l pos))) (List.range q.layers)

/-- LAST: the sequence is ACTIVE, or FROZEN as its image says, once nothing is missing. `n` pages were imported by the
command. -/
def resumeLast (k n : Nat) (s : State) : State :=
  match s.cmd k with
  | none => s
  | some c =>
    let seq := Op.seqId c.bytes
    match look seq s.seq.seqs, look seq s.park.resumes with
    | some q, some r =>
      let m := missingPages s seq q r.pos
      if m ≠ 0 then
        s |> raise 0x0425 (some q.car) [(4, m)]
          |> complete k Status.badCommand 0 (n + min m 16777215 * 2 ^ 32 + 21 * 2 ^ 56)
      else
        let done_ := fun (q : Seqd) => { q with st := if r.frozen then 2 else 1, freeze := if r.frozen then r.freeze else 0xFFFFFFFF,
                                                cold := 0 }
        s |> onSeqd seq done_ |> dropWarm seq |> onPark (fun x => { x with resumes := del seq x.resumes })
          |> raise 0x0423 (some q.car) [(4, seq), (4, r.imported)] |> complete k Status.ok 0 n
    | _, _ => completeReason k Status.badCommand 25 s

/-- The pages that a command imported counted in its resume. -/
def countImported (seq n : Nat) (s : State) : State :=
  onPark (fun x => { x with resumes := upd seq (fun r => { r with imported := r.imported + n }) x.resumes }) s

/-- The page counts of a sequence's records after an import. -/
def fixCounts (seq : Nat) (s : State) : State :=
  fixCold seq (forEach (((look seq s.seq.seqs).map (fun q => keys q.recs)).getD []) (fixSplit seq) s)

/-- A source done: LAST ends the resume, else the command is OK. -/
def sourceDone (k n : Nat) (c : Cmd) (s : State) : State :=
  let s := countImported (Op.seqId c.bytes) n s
  if Rs.last c.bytes then resumeLast k n s else complete k Status.ok 0 n s

/-- What a failed import records beside its status: no staging buffer (R220), a table that is not resident (R218). -/
def noteImport (car : Nat) (x : Nat × Nat) (s : State) : State :=
  s |> when (x.1 == Status.claimed) (refuseBuffer car) |> when (x.2 == 3) (raise 0x0409 (some car) [])

/-- The pages of a fetched image have arrived. A digest mismatch releases them; any other failure keeps and counts those that
were imported. -/
def importSource (k : Nat) (c : Cmd) (entries : List Byte) (pages : List (List Byte)) (s : State) : State :=
  let seq := Op.seqId c.bytes
  let r := importAll seq (Rs.image c.bytes) (entriesOf entries) (c.note.zip pages) [] s
  let n := r.2.1.length
  match r.1 with
  | none => r.2.2 |> fixCounts seq |> sourceDone k n c
  | some x =>
    if x = (Status.uncorrectable, 255) then
      r.2.2 |> releaseImported seq r.2.1 |> fixCounts seq |> resumeRefuse k c Status.uncorrectable 0 6
    else r.2.2 |> fixCounts seq |> countImported seq n |> noteImport (Op.car c.bytes) x |> complete k x.1 0 (n + x.2 * 2 ^ 56)

/-- The entry array of a source has arrived: it is checked, the source is accepted, and the pages needed are asked for. -/
def arrayDone (k : Nat) (c : Cmd) (h es : List Byte) (s : State) : State :=
  let seq := Op.seqId c.bytes
  match resumeFault s c.bytes, arrayFault s c h es with
  | some f, _ => completeReason k f.1 f.2 s
  | none, some f => resumeRefuse k c f.1 f.2.1 f.2.2 s
  | none, none =>
    match acceptSource c h s with
    | .error f => completeReason k f.1 f.2 s
    | .ok s =>
      let need := ((look seq s.seq.seqs).map (fun q => neededEntries s seq q (entriesOf es))).getD []
      s |> setCmd k { c with phase := 3, note := need } |> askStage k

/-- The pages of a source have arrived: they are imported once the carriage's gathers and page moves leave them their turn
(R198, R199). -/
def pagesDone (k : Nat) (c : Cmd) (h es : List Byte) (s : State) : State :=
  if transferMayRun s (Op.car c.bytes) = false then s
  else
    let sp := stageSpans s c
    match takeSpans s c (Img.len h) sp.1 sp.2 with
    | .error i => recordLost k c i s
    | .ok pages => importSource k c es pages s

/-- A stage of a fetched image is complete: header, entry array, pages. -/
def stageDone (k : Nat) (c : Cmd) (s : State) : State :=
  match fetchedHead s c with
  | .error i => recordLost k c i s
  | .ok h =>
    if c.phase = 1 then
      match headerFault s c h with
      | some f => resumeRefuse k c f.1 f.2.1 f.2.2 s
      | none => s |> setCmd k { c with phase := 2 } |> askStage k
    else
      match fetchedArray s c h with
      | .error i => recordLost k c i s
      | .ok es => if c.phase = 2 then arrayDone k c h es s else pagesDone k c h es s

/-! ### WARM (R354) -/

/-- Whether a page of a warm image bears out its entry. -/
def warmOk (s : State) (q : Seqd) (e : List Byte) (g : Page) : Bool :=
  pageReadable s g && entryDigestOk s q e (parkRaw s q
    { layer := Ent.layer e, ord := Ent.ord e, head := Ent.head e, leaf := 0, page := 0, g := g, fill := Ent.fill e, view := Ent.view e })

/-- A TIER 1 page moved to TIER 0 where HBM has a frame, else left in place; a sealed page that has no row binds one. -/
def warmBack (p home : Nat) (s : State) : State :=
  match look p s.seq.pages with
  | none => s
  | some g =>
    let s := if g.loc.isCxl then
        match takeHbm g.car home (.moveDest p) s with
        | some (k, s) =>
          let m : Move := { dest := .hbm k.1 k.2, comp := none, cmd := none, half := locHalf s g.loc, car := g.car }
          moveTo p m g (false, 0) (beginMove p m s)
        | none => s
      else s
    match look p s.seq.pages with
    | some g => when (g.sealed_ && g.foxRow.isNone) (bindRow p (locHalf s g.loc) g) s
    | none => s

/-- A page of a warm image as a source: what it imports, and whether its bytes bear out its digest. -/
abbrev WarmSource := Imported × Bool

/-- A page of a warm image that fails its check: its code errors, or its digest mismatch (event 0x0401). -/
def noteWarmFail (q : Seqd) (p : Nat) (s : State) : State :=
  if (look p s.seq.pages).any (pageReadable s) then digestFail p q.car 0x31 s else s

/-- The pages of a warm image moved back in order, with those that were; the first failure ends it. -/
def warmAll (seq : Nat) (q : Seqd) : List WarmSource → List Imported → State → Bool × List Imported × State
  | [], acc, s => (true, acc, s)
  | (x, ok) :: r, acc, s =>
    let p := x.2.2.1
    let s := match look p s.seq.pages with | some g => notePage g 0 s.im.frameSize s | none => s
    if ok then warmAll seq q r (acc ++ [x]) (s |> warmBack p (layerOf s seq q x.1).home |> markImported seq p)
    else (false, acc, noteWarmFail q p s)

/-- A slice's pages back in TIER 0 (R342, R354). -/
def warmSlice (k : Nat) (c : Cmd) (q : Seqd) (s : State) : State :=
  let b := c.bytes
  let ps := (parkPages s q none).filter (fun x => x.g.loc.isCxl && decide (Rs.first b ≤ x.layer) && decide (x.layer < Rs.first b + Rs.layers b))
  if ps.any (fun x => x.g.comp && !bufferServes s (locHalf s x.g.loc)) then
    s |> refuseBuffer q.car |> complete k Status.claimed 0 0
  else
    let r := warmAll (Op.seqId b) q (ps.map (fun x =>
      ((x.layer, x.leaf, x.page, false), pageReadable s x.g && (!x.g.sealed_ || pageDigest s x.g == x.g.digest)))) [] s
    if r.1 then complete k Status.ok 0 ps.length r.2.2 else resumeRefuse k c Status.uncorrectable 0 6 r.2.2

/-- The pages of a warm image that its sequence's resume has not imported yet. -/
def warmSources (s : State) (seq : Nat) (q : Seqd) (w : WarmImage) (es : List (List Byte)) : List WarmSource :=
  (w.pages.zip es).filterMap (fun x =>
    (entryLeaf s q x.2).bind (fun leaf =>
      if imported s seq q (Ent.layer x.2) leaf then none
      else some ((Ent.layer x.2, leaf, x.1, false), (look x.1 s.seq.pages).any (warmOk s q x.2))))

/-- An accepted warm image taken back: a mismatch releases what it imported (R351). -/
def warmImport (k : Nat) (c : Cmd) (w : WarmImage) (es : List (List Byte)) (q : Seqd) (s : State) : State :=
  let seq := Op.seqId c.bytes
  let packed := w.pages.any (fun p => (look p s.seq.pages).any (fun g => g.comp && !bufferServes s (locHalf s g.loc)))
  if packed then s |> refuseBuffer q.car |> complete k Status.claimed 0 0
  else
    let ps := warmSources s seq q w es
    let r := warmAll seq q ps [] s
    if r.1 then sourceDone k ps.length c r.2.2
    else r.2.2 |> releaseImported seq r.2.1 |> fixCounts seq |> resumeRefuse k c Status.uncorrectable 0 6

/-- A whole warm image taken back. -/
def warmWhole (k : Nat) (c : Cmd) (w : WarmImage) (s : State) : State :=
  let seq := Op.seqId c.bytes
  let s := noteWarm w s
  let img := warmBytes s w
  let h := img.take 384
  let es := img.drop 384
  if warmReadable s w = false then resumeRefuse k c Status.uncorrectable 0 4 s
  else
    match headerFault s c h, arrayFault s c h es with
    | some f, _ => resumeRefuse k c f.1 f.2.1 f.2.2 s
    | none, some f => resumeRefuse k c f.1 f.2.1 f.2.2 s
    | none, none =>
      match acceptSource c h s with
      | .error f => completeReason k f.1 f.2 s
      | .ok s => whenSome (look seq s.seq.seqs) (fun q => warmImport k c w (entriesOf es) q) s

/-- A WARM source. -/
def resumeWarm (k : Nat) (c : Cmd) (s : State) : State :=
  let seq := Op.seqId c.bytes
  if Rs.slice c.bytes then
    match look seq s.seq.seqs with
    | some q => warmSlice k c q s
    | none => s
  else
    match look seq s.park.warm with
    | some w => warmWhole k c w s
    | none => completeReason k Status.badCommand 22 s

/-! ### SEQ_RESUME -/

/-- A resume's first run: its operands are checked, and its source is opened. -/
def resumeBegin (k : Nat) (c : Cmd) (s : State) : State :=
  match resumeFault s c.bytes with
  | some f => completeReason k f.1 f.2 s
  | none =>
    if Rs.abandon c.bytes then s |> freeSeq (Op.seqId c.bytes) |> complete k Status.ok 0 0
    else if Rs.source c.bytes = 3 then resumeLast k 0 s
    else if Rs.source c.bytes = 0 then (if transferMayRun s (Op.car c.bytes) then resumeWarm k c s else s)
    else s |> setCmd k { c with phase := 1 } |> askStage k

/-- SEQ_RESUME: each further run takes up what has arrived (assumption 8). -/
def seqResume (k : Nat) (c : Cmd) (s : State) : State :=
  if c.phase = 0 then resumeBegin k c s
  else if Rs.source c.bytes = 1 then (if c.ready then stageDone k c s else s)
  else if s.prt.ops.any (fun e => e.2.cmd == some k) then s
  else
    let sp := stageSpans s c
    match nextPiece sp.1 (c.buf.length - sp.2) with
    | some x => askPiece k c x s
    | none => stageDone k c s

def execSeqResume (k : Nat) (s : State) : Result := done (live (withCmd k 1 0x31 (seqResume k)) s)

end Sys2Proof.Machine
end

