-- ==== Sys2Proof/Machine/Recovery.lean ====
section
/-! DEFINITION. Faults and recovery: holds and JOB_ABORT (R521 to R523), steps (R525, R526), SOFTWARE and PEER_LOST
notices (R517, R518), the clears of R531 and the firmware halt (R516). -/

namespace Sys2Proof.Machine

open Sys2Proof

/-! ### Holds (R522, R523) -/

/-- The sequences a JOB_ABORT or JOB_RELEASE names: the listed ones, or every one of the carriage. -/
def jobSeqs (s : State) (car mode : Nat) (d : List Byte) : List Nat :=
  if mode = 1 then keys (s.seq.seqs.filter (fun q => q.2.car == car))
  else ((chunks 4096 4 d).map (fun b => u32 b 0)).foldl (fun acc x => addSet x acc) []

/-- Whether MODE and COUNT are in range. -/
def jobRange (b : List Byte) : Bool :=
  let n := u16 b 14
  u8 b 12 == 1 || (u8 b 12 == 0 && decide (1 ≤ n) && decide (n ≤ 4096))

/-- A job command with its list: MODE 0 reads COUNT SEQ_IDs from host memory. -/
def withSeqs (k : Nat) (c : Cmd) (f : List Nat → State → State) (s : State) : State :=
  let b := c.bytes
  if jobRange b = false then complete k Status.badCommand 0 0 s
  else if u8 b 12 = 1 then f (jobSeqs s (Op.car b) 1 []) s
  else withData k c (u64 b 16) (4 * u16 b 14) (fun d s => f (jobSeqs s (Op.car b) 0 (d.take (4 * u16 b 14))) s) s

/-- Whether JOB_ABORT ends a started command (Table FLT-5): an append, a fork of or into a held sequence, a park, a
resume that has begun. LIST members among them end like any other. -/
def abortEnds (car : Nat) (seqs : List Nat) (x : Nat × Cmd) : Bool :=
  let b := x.2.bytes
  let op := Op.opcode b
  Op.engine b == 1 && Op.car b == car && decide (Op.seqId b ∈ seqs ∨ (op = 0x22 ∧ u32 b 12 ∈ seqs)) &&
  (op == 0x26 || op == 0x22 || op == 0x30 || (op == 0x31 && x.2.phase != 0 && !Rs.abandon b))

/-- One started command ended ABORTED; a park ends under R345. -/
def abortOne (k : Nat) (s : State) : State :=
  if (s.parkOf k).isSome then parkFail k Status.aborted 0 none s else complete k Status.aborted 0 0 s

/-- The holds with every named sequence's begun now. -/
def holdAll (car : Nat) (seqs : List Nat) (s : State) : State :=
  let fresh : List Hold := seqs.map (fun q => { seq := q, car := car, since := s.clk })
  let other := fun (h : Hold) => !(h.car == car && decide (h.seq ∈ seqs))
  onRas (fun r => { r with holds := r.holds.filter other ++ fresh }) s

/-- The hold table with every named sequence in it. -/
def holdCount (s : State) (car : Nat) (seqs : List Nat) : Nat :=
  countOf (fun h => !(h.car == car && decide (h.seq ∈ seqs))) s.ras.holds + seqs.length

/-- Watcher contexts of the carriage's sequences freed (Table FLT-5). -/
def abortWatches (car : Nat) (seqs : List Nat) (s : State) : State :=
  forEach (keys (s.owl.watches.filter (fun w => w.2.car == car && decide (w.2.seq ∈ seqs)))) watchFree s

/-- JOB_ABORT once its list is read: holds first, then the end of the sequences' work. -/
def jobAbortRun (k : Nat) (c : Cmd) (seqs : List Nat) (s : State) : State :=
  let car := Op.car c.bytes
  if 4096 < holdCount s car seqs then s |> raise 0x0C08 (some car) [] |> completeReason k Status.accessDenied 51
  else
    let ends := keys (s.que.started.filter (abortEnds car seqs))
    let s := s |> holdAll car seqs |> forEach ends abortOne |> abortWatches car seqs
    s |> raise 0x0C05 (some car) [(1, car), (4, seqs.length), (4, ends.length)]
      |> complete k Status.ok 0 (ends.length + seqs.length * 2 ^ 32)

/-- JOB_ABORT (R522). -/
def execJobAbort (k : Nat) (s : State) : Result :=
  done (live (withCmd k 0 0x10 (fun c s => withSeqs k c (jobAbortRun k c) s)) s)

/-- Holds ended: those that satisfy `p` (event 0x0C06 for each carriage, first in a frame). -/
def endHolds (p : Hold → Bool) (s : State) : State :=
  let gone := s.ras.holds.filter p
  s |> onRas (fun r => { r with holds := r.holds.filter (fun h => !p h) })
    |> forEach gone (fun h => raiseCar 0x0C06 h.car [])

/-- JOB_RELEASE once its list is read. -/
def jobReleaseRun (k : Nat) (c : Cmd) (seqs : List Nat) (s : State) : State :=
  let p := fun (h : Hold) => h.car == Op.car c.bytes && decide (h.seq ∈ seqs)
  s |> endHolds p |> complete k Status.ok 0 (countOf p s.ras.holds)

/-- The sequences JOB_RELEASE MODE 1 names: every held one of the carriage. -/
def releaseSeqs (s : State) (c : Cmd) (seqs : List Nat) : List Nat :=
  if u8 c.bytes 12 = 1 then (s.ras.holds.filter (fun h => h.car == Op.car c.bytes)).map (fun h => h.seq) else seqs

/-- JOB_RELEASE (R523). -/
def execJobRelease (k : Nat) (s : State) : Result :=
  done (live (withCmd k 0 0x11 (fun c s => withSeqs k c (fun l s => jobReleaseRun k c (releaseSeqs s c l) s) s)) s)

/-- HOLD_EXPIRE: RAS_HOLD_US after the last JOB_ABORT that named the sequence. -/
def holdExpire (seq : Nat) (s : State) : State :=
  let us := max 1 (s.rg .RAS_HOLD_US_US 0)
  endHolds (fun h => h.seq == seq && decide (h.since + us * 1000 ≤ s.clk)) s

def execHoldExpire (seq : BitVec 32) (s : State) : Result := done (live (holdExpire seq.toNat) s)

/-! ### Steps (R525, R526) -/

/-- STEP_ID. -/
def stepId (b : List Byte) : Nat := u64 b 24

/-- The record of a step. -/
def stepRec (s : State) (car id : Nat) : Option StepRec := s.ras.steps.find? (fun r => r.car == car && r.id == id)

/-- Whether a carriage may have one more record. -/
def stepFree (s : State) (car : Nat) : Bool :=
  decide (s.ras.steps.length < 1024) && decide (countOf (fun r => r.car == car) s.ras.steps < 64)

/-- STEP: the record decides whether the list runs, waits or is answered from memory. -/
def stepRun (k : Nat) (c : Cmd) (s : State) : State :=
  let car := Op.car c.bytes
  let id := stepId c.bytes
  match stepRec s car id with
  | none =>
    if stepFree s car then
      s |> onRas (fun r => { r with steps := r.steps ++ [{ car := car, id := id, done := none, cmd := k }] }) |> listStep k c
    else s |> raise 0x0C08 (some car) [] |> completeReason k Status.accessDenied 50
  | some r =>
    match r.done with
    | some a =>
      s |> bump .RAS_C_REPLAYED_COUNT car 1 |> raiseCar 0x0C07 car [(8, id)] |> complete k a.1 1 a.2
    | none => if r.cmd = k then listStep k c s else s

/-- A record whose STEP has ended without running its list goes. -/
def stepSweep (k : Nat) (s : State) : State :=
  if (s.cmd k).isSome then s
  else onRas (fun x => { x with steps := x.steps.filter (fun r => !(r.cmd == k && r.done.isNone)) }) s

/-- STEP (R525). -/
def execStep (k : Nat) (s : State) : Result := done (live (fun s => stepSweep k (withCmd k 0 0x12 (stepRun k) s)) s)

/-- STEP_FORGET (R526). -/
def stepForget (k : Nat) (c : Cmd) (s : State) : State :=
  let p := fun (r : StepRec) => r.car == Op.car c.bytes && r.id / 2 ^ 32 == u32 c.bytes 12 && r.done.isSome
  s |> onRas (fun x => { x with steps := x.steps.filter (fun r => !p r) }) |> complete k Status.ok 0 (countOf p s.ras.steps)

def execStepForget (k : Nat) (s : State) : Result := done (live (withCmd k 0 0x13 (stepForget k)) s)

/-! ### Notices (R517, R518) -/

/-- SEND_NOTICE: a SOFTWARE notice of the carriages and DETAIL in the registers. -/
def writeNotice (s : State) : State :=
  notice 0x0B (bitsOf 16 (s.rg .RAS_SEND_CARRIAGES 0))
    (s.rg .RAS_SEND_DETAIL_LO_DETAIL_LO 0 + s.rg .RAS_SEND_DETAIL_HI_DETAIL_HI 0 * 2 ^ 32) s

def execSendNotice (p : Port) (s : State) : Result := done (live (access p.idx 0xC00028 writeNotice) s)

/-- The links whose last IDENT named a node. -/
def linksTo (s : State) (x : Nat) : List Nat :=
  (List.range 8).filter (fun l => (s.link l).named && s.rg .PRT_Ln_PEER_NODE l == x)

/-- PEER_LOST: every link to a node has been down for RAS_PEER_WAIT (event 0x0C03). -/
def peerLost (x : Nat) (s : State) : State :=
  let ls := linksTo s x
  let wait := max 1 (s.rg .RAS_PEER_WAIT_MS 0) * 1000000
  if s.rg .RAS_CTRL_PEER_NOTICE 0 = 1 ∧ ls ≠ [] ∧ x ∉ s.ras.lostPeers ∧
      ls.all (fun l => !(s.link l).open_ && decide ((s.link l).downAt + wait ≤ s.clk)) then
    s |> onRas (fun r => { r with lostPeers := r.lostPeers ++ [x] }) |> raise 0x0C03 none [(2, x), (1, bitMap ls)]
      |> noticeAll 0x04 x
  else s

def execPeerLost (node : BitVec 12) (s : State) : Result := done (live (peerLost node.toNat) s)

/-! ### Clears and the firmware halt (R516, R531) -/

/-- CLEAR_STEPS: every DONE record goes. -/
def clearSteps (p : Nat) (s : State) : State :=
  expertDo p 12 0xC80000 (fun s =>
    s |> onRas (fun x => { x with steps := x.steps.filter (fun r => r.done.isNone) }) |> raise 0x0C09 none []) s

def execClearSteps (p : Port) (s : State) : Result := done (live (access p.idx 0xC80000 (clearSteps p.idx)) s)

/-- CLEAR_HOLDS: every hold ends. -/
def clearHolds (p : Nat) (s : State) : State :=
  expertDo p 12 0xC80000 (fun s => s |> onRas (fun x => { x with holds := [] }) |> raise 0x0C09 none []) s

def execClearHolds (p : Port) (s : State) : Result := done (live (access p.idx 0xC80000 (clearHolds p.idx)) s)

/-- FIRMWARE_HALT: a fatal fault (R516). -/
def execFirmwareHalt (s : State) : Result := done (live (fatalFault 1 0x0C 1) s)

end Sys2Proof.Machine
end

