-- ==== Sys2Proof/Machine/Selftest.lean ====
section
/-! DEFINITION. The self-test items, their window, and what stored results do at the next start (R553 to R556). -/

namespace Sys2Proof.Machine

open Sys2Proof

/-! ### The window (R555) -/

/-- The first reading outside the window: a core-rail monitor outside 0.70–0.76 V (in mV), or a sensor outside 10–95 °C
(in 0.125 °C, 12 bits). -/
def windowReading (s : State) : Option Nat :=
  let v := (List.range 24).filter (fun i => coreRail i && (decide (s.rg .MON_VOLT_MV i < 700) || decide (760 < s.rg .MON_VOLT_MV i)))
  let t := (List.range 48).filter (fun i => decide (s.temp i < 80) || decide (760 < s.temp i))
  ((v.map (s.rg .MON_VOLT_MV)) ++ (t.map (s.rg .MON_TEMP_VALUE))).head?

/-! ### Running items (R553, R555) -/

/-- The outcome of item `i`, as BIST_RESULT codes it: 0 PASS, 1 FAIL, 2 NOT_RUN_WINDOW, 3 NOT_RUN_OTHER. `ref` says per
item whether FT_REF lies within ±50 ppm; `fails` are the units that fail (assumption 7). -/
def itemOutcome (s : State) (set : List Nat) (ref : Nat) (fails : List (Nat × Nat)) (i : Nat) : Nat :=
  if decide (i ∉ set) || bit s.start.skip (i - 1) || (i == 5 && s.ownerCode 1 != 2) then 3
  else if (windowReading s).isSome || !bit ref (i - 1) then 2
  else if fails.any (fun f => f.1 == i) then 1
  else 0

/-- The records of an item's outcome (events 0x0208, 0x0F07, 0x0F08). -/
def itemEvents (set : List Nat) (fails : List (Nat × Nat)) (r : Nat × Nat) (s : State) : State :=
  match r.2 with
  | 1 => forEach (fails.filter (fun f => f.1 == r.1)) (fun f => raise 0x0F08 none [(1, f.1), (2, f.2)]) s
  | 2 => raise 0x0F07 none [(2, (windowReading s).getD 0)] s
  | 3 =>
    if r.1 = 5 ∧ 5 ∈ set ∧ bit s.start.skip 4 = false then
      s |> setRg .CMP_CLAIM_STATUS_RES1 0 (Nat.lor (s.rg .CMP_CLAIM_STATUS_RES1 0) 2) |> raise 0x0208 none []
    else s
  | _ => s

/-- Items run one after the other: their results and the failed units of those that ran. -/
def runItems (set : List Nat) (ref : Nat) (fails : List (Nat × Nat)) (s : State) : State :=
  let rs := (List.range 8).map (fun i => (i + 1, itemOutcome s set ref fails (i + 1)))
  let ran := fails.filter (fun f => rs.any (fun r => r.1 == f.1 && r.2 == 1))
  s |> forEach rs (itemEvents set fails) |> setRg .BIST_RESULT_ITEMS 0 (sumOf (fun r => r.2 * 4 ^ (r.1 - 1)) rs)
    |> setRg .BIST_RESULT_FT_LO_FT_LO 0 s.ft |> setRg .BIST_RESULT_FT_HI_FT_HI 0 (s.ft / 2 ^ 32)
    |> onStart (fun x => { x with failed := ran })

/-- The shutdown set and the full set (Table SUP-5). -/
def shutdownSet : List Nat := [1, 2, 3, 4, 5]
def fullSet : List Nat := [1, 2, 3, 4, 5, 6, 7, 8]

/-! ### Stored results (R556) -/

/-- A monitor that failed item 1 left out (event 0x0F08): units 0–47 temperature, 48–71 voltage, 72–87 process. -/
def excludeMonitor (u : Nat) (s : State) : State :=
  let s := if u < 48 then setRg .MON_TEMP_EXCLUDED u 1 s else if u < 72 then setRg .MON_VOLT_EXCLUDED (u - 48) 1 s
    else setRg .MON_PROC_EXCLUDED (u - 72) 1 s
  raise 0x0F08 none [(1, 1), (2, u)] s

/-- The monitors among failed units left out. -/
def excludeFailed (fails : List (Nat × Nat)) (s : State) : State :=
  forEach ((fails.filter (fun f => f.1 == 1 && decide (f.2 < 88))).map Prod.snd) excludeMonitor s

/-! ### Trims (R249, R541) -/

/-- Why a stored trim set is refused: 0 for its FT, 1 for its temperature; none where it is valid. -/
def trimCause (s : State) (t : Trim) (sensor : Nat) : Option Nat :=
  if s.ft < t.ft ∨ t.ft + 2592000000000000 < s.ft then some 0
  else if 120 < (s.temp sensor - t.temp).natAbs then some 1
  else none

/-- Stored trims refused, once per cause (event 0x0F06: set 0 HBM, 1 Fox, 2 SerDes). -/
def trimsRefused (set : Nat) (causes : List (Option Nat)) (s : State) : State :=
  forEach ([0, 1].filter (fun c => decide (some c ∈ causes))) (fun c => raise 0x0F06 none [(1, set), (1, c)]) s

/-! ### SELFTEST_START (R554) -/

/-- Every fabric link and CXL port goes DOWN, and no link trains again by itself. -/
def portsDown (s : State) : State :=
  let s := forEach (List.range 8) (fun l s =>
    let s := linkDown l 7 s
    setLink l { s.link l with started := false } s) s
  forEach (List.range 4) (fun n s => if (s.cxlPort n).active || (s.cxlPort n).st == .training then cxlDown n s else s) s

/-- BIST_CTRL.START: the full set, in MANUFACTURE or SERVICE, from a port that holds semaphore 3, with no sequence on the
node. The window check before the first item takes no time, so STATE goes to 2 at once (DESIGN CHOICE, assumption 36). -/
def selftestStart (p : Nat) (s : State) : State :=
  if s.holdsSem p 3 ∧ (s.lc = 0 ∨ s.lc = 3) ∧ s.seq.seqs = [] ∧ s.start.testing = none ∧ firingAllowed s then
    s |> portsDown |> onStart (fun x => { x with testing := some true }) |> setRg .BIST_STATUS_STATE 0 2
      |> setRg .BIST_STATUS_STATUS 0 Status.ok
  else s |> setRg .BIST_STATUS_STATUS 0 Status.accessDenied |> raise 0x0B11 none []

def execSelftestStart (p : Port) (s : State) : Result := done (live (access p.idx 0xF00040 (selftestStart p.idx)) s)

/-! ### SELFTEST_DONE (R548, R555) -/

/-- The results and the clean-shutdown mark taken for the record of shutdown step 5. -/
def finalRecord (s : State) : Persist :=
  let p := snapshot true true s
  if s.start.shutTest then
    { p with results := some (s.rg .BIST_RESULT_ITEMS 0, s.rg .BIST_RESULT_FT_LO_FT_LO 0 + s.rg .BIST_RESULT_FT_HI_FT_HI 0 * 2 ^ 32),
             failed := s.start.failed }
  else p

/-- SELFTEST_DONE: the items of the set that runs have ended; after a full run the node needs a reset. -/
def selftestDone (ref : Nat) (fails : List (Nat × Nat)) (s : State) : State :=
  match s.start.testing with
  | none => s
  | some full =>
    let s := s |> runItems (if full then fullSet else shutdownSet) ref fails |> setRg .BIST_STATUS_STATE 0 3
      |> onStart (fun x => { x with testing := none })
    if full then s |> setRg .BIST_STATUS_NEED_RESET 0 1 |> onStart (fun x => { x with stopped := true })
    else persistBegin 4 (finalRecord s) s

def execSelftestDone (windowOk : BitVec 8) (fails : List (Nat × Nat)) (s : State) : Result :=
  done (live (selftestDone windowOk.toNat fails) s)

end Sys2Proof.Machine
end

