-- ==== Sys2Proof/Machine/Tiers.lean ====
section
/-! DEFINITION. The append log (R355, R356), AGE, demotion and promotion (R335 to R337). -/

namespace Sys2Proof.Machine

open Sys2Proof

/-! ### The append log (R355, Table PARK-6) -/

/-- Entries of a carriage's log. -/
def logOf (s : State) (c : Nat) : List LogEntry := s.park.log.filter (fun e => e.car == c)

/-- Log frames of a carriage. -/
def logFrames (s : State) (c : Nat) : List (Nat × Nat) := (framesFor s .log).filter (fun k => s.owner (.group k.1) == some c)

/-- Frames that a carriage's log needs for `n` bytes more. -/
def logNeed (s : State) (c n : Nat) : Nat := ceilDiv (sumOf (fun e => e.bytes.length) (logOf s c) + n) (max 1 s.im.dataArea)

/-- The log's frames brought to what its entries need; none where HBM has no frame or the limit forbids it. -/
def logGrow (c n : Nat) (s : State) : Option State :=
  if s.rg .BDG_LOG_C_MAX_FRAMES c < n then none
  else (takeMany c .log (n - (logFrames s c).length) s).map (fun r => r.2)

/-- Log frames no longer needed given back. -/
def logShrink (c : Nat) (s : State) : State :=
  forEach ((logFrames s c).drop (logNeed s c 0)) (fun k => freeLoc (.hbm k.1 k.2)) s

/-- The bytes of a log entry, `kv` its KV_HEADS (Table PARK-6). -/
def logBytes (s : State) (kv : Nat) (e : RxEntry) (m : List Byte) : List Byte :=
  let n := u8 m 6
  let body := m.drop (32 + 4 * n) ++ slice m 32 (4 * n)
  let len := ceilDiv (32 + body.length) 64 * 64
  padTo len (leBytes 4 (u32 m 0) ++ leBytes 2 (u16 m 24 % 4096) ++ leBytes 2 (u16 m 4) ++ leBytes 4 (u32 m 8) ++ leBytes 1 n ++
    leBytes 1 kv ++ leBytes 2 (H.epoch e.hdr) ++ leBytes 8 s.ft ++ leBytes 8 len ++ body)

/-- KV_HEADS of a log entry: that of the sequence's descriptor, or a free value on a node without one (log entry 35). -/
def logKv (s : State) (seq : Nat) : Nat :=
  match look seq s.seq.seqs with
  | some q => q.kv
  | none => freeNow s % 256

/-- Whether a shadow's length can be that of R398: that of the sequence's shape, or, on a node that holds no descriptor
of the sequence, room for the header and the tokens (log entry 35). -/
def shadowWell (s : State) (m : List Byte) : Bool :=
  match look (u32 m 0) s.seq.seqs with
  | some q => appendWell s.im q.kv (q.slot s.im) (q.scale s.im) m
  | none => decide (32 + 4 * u8 m 6 ≤ m.length)

/-- The checks of an APPEND_SHADOW (R89, R398, R522, R608): the receiver need not hold the sequence (R173, R355). -/
def shadowFault (s : State) (e : RxEntry) (m : List Byte) : Option Nat :=
  let q := look (u32 m 0) s.seq.seqs
  firstFail [
    (shadowWell s m && decide (1 ≤ u8 m 6) && decide (u8 m 6 ≤ 32) && q.all (fun q => decide (u16 m 4 < q.layers)),
      Status.badCommand),
    (q.all (fun q => q.car == e.car), Status.accessDenied),
    (s.timeServes, Status.timeHoldover),
    (!s.seqHeld e.car (u32 m 0), Status.aborted)]

/-- A shadow that finds the log full (R355, event 0x0428, LOG_LOST of R517). -/
def logFull (src op : Nat) (e : RxEntry) (m : List Byte) (s : State) : State :=
  let mark := (u32 m 0, u16 m 24 % 4096, e.car)
  s |> bump .BDG_LOG_C_FULL_COUNT e.car 1 |> onPark (fun x => { x with lost := addSet mark x.lost })
    |> raise 0x0428 (some e.car) [(4, u32 m 0), (2, u16 m 24 % 4096)] |> notice 0x06 [e.car] (u32 m 0 + u16 m 24 % 4096 * 2 ^ 32)
    |> ackMsg (src, op) e Status.noPage 0 0

/-- The log entry of a shadow. -/
def logEntry (s : State) (e : RxEntry) (m : List Byte) : LogEntry :=
  { car := e.car, seq := u32 m 0, served := u16 m 24 % 4096, layer := u16 m 4, start := u32 m 8, count := u8 m 6,
    bytes := logBytes s (logKv s (u32 m 0)) e m }

/-- Whether two log entries are of one append: SEQ_ID, served node, LAYER, START and COUNT (R355). -/
def LogEntry.same (x y : LogEntry) : Bool :=
  y.car == x.car && y.seq == x.seq && y.served == x.served && y.layer == x.layer && y.start == x.start && y.count == x.count

/-- APPEND_SHADOW: written to the carriage's append log. -/
def appendShadow (src op : Nat) (e : RxEntry) (s : State) : State :=
  let m := e.message
  match shadowFault s e m with
  | some st =>
    if st = Status.accessDenied ∨ (st = Status.badCommand ∧ shadowWell s m = false) then nakMsg (src, op) e st 0 0 s
    else ackMsg (src, op) e st 0 0 s
  | none =>
    let x := logEntry s e m
    if s.park.log.any x.same then ackMsg (src, op) e Status.ok 0 0 s
    else
      let s := when (look (u32 m 0) s.seq.seqs).isNone freeTaken s
      match logGrow e.car (logNeed s e.car x.bytes.length) s with
      | none => logFull src op e m s
      | some s => s |> onPark (fun y => { y with log := y.log ++ [x] }) |> ackMsg (src, op) e Status.ok 0 0

def execAppendShadow (src : BitVec 12) (op : BitVec 32) (s : State) : Result :=
  done (live (withMsg src.toNat op.toNat MTy.appendShadow (appendShadow src.toNat op.toNat)) s)

/-- Whether a SEQ_ID that a log command names belongs to another carriage here (R608). -/
def foreignSeq (s : State) (c : Cmd) : Bool := (look (Op.seqId c.bytes) s.seq.seqs).any (fun q => q.car != Op.car c.bytes)

/-- The entries that fit in `n` bytes, in order. -/
def logFit : Nat → List LogEntry → List LogEntry
  | _, [] => []
  | n, e :: r => if e.bytes.length ≤ n then e :: logFit (n - e.bytes.length) r else []

/-- LOG_READ (R356). -/
def logRead (k : Nat) (c : Cmd) (s : State) : State :=
  let b := c.bytes
  let car := Op.car b
  let seq := Op.seqId b
  if foreignSeq s c then complete k Status.accessDenied 0 0 s
  else
    let frames := logFrames s car
    let s := forEach frames (fun f => noteRead (.hbm f.1 f.2) 0 s.im.dataArea) s
    if frames.all (fun f => canRead s (.hbm f.1 f.2) 0 s.im.dataArea) = false then complete k Status.uncorrectable 0 0 s
    else
      let es := logFit (u64 b 24) ((logOf s car).filter (fun e => e.seq == seq && decide (u32 b 12 < e.start + e.count)))
      let lost := s.park.lost.any (fun x => x.1 == seq && x.2.2 == car)
      s |> hostWrite k (u64 b 16) (es.flatMap (fun e => e.bytes)) |> complete k Status.ok 0 (es.length + b2n lost * 2 ^ 62)

def execLogRead (k : Nat) (s : State) : Result := done (live (withCmd k 1 0x32 (logRead k)) s)

/-- LOG_TRIM (R356). -/
def logTrim (k : Nat) (c : Cmd) (s : State) : State :=
  let below := u32 c.bytes 12
  let car := Op.car c.bytes
  let seq := Op.seqId c.bytes
  if foreignSeq s c then complete k Status.accessDenied 0 0 s
  else
    let gone := fun (e : LogEntry) => e.car == car && e.seq == seq && decide (e.start + e.count ≤ below)
    let n := countOf gone s.park.log
    let s := onPark (fun x => { x with log := x.log.filter (fun e => !gone e),
                                       lost := if below = 0xFFFFFFFF then x.lost.filter (fun y => !(y.1 == seq && y.2.2 == car)) else x.lost }) s
    s |> logShrink car |> complete k Status.ok 0 n

def execLogTrim (k : Nat) (s : State) : Result := done (live (withCmd k 1 0x33 (logTrim k)) s)

/-! ### AGE (R335) -/

/-- AGE_TICK: at a frame boundary every TIER 0 and 1 page is one frame older. -/
def ageTick (s : State) : State :=
  if s.park.ageAt < s.frame then
    s |> onPark (fun x => { x with ageAt := s.frame })
      |> onSeq (fun x => { x with pages := x.pages.map (fun g =>
          if g.2.loc = .cold then g else (g.1, { g.2 with age := min 255 (g.2.age + 1) })) })
  else s

def execAgeTick (s : State) : Result := done (live ageTick s)

/-! ### Demotion (R336) -/

/-- LOW and HIGH of a carriage, as BDG_PARK_C_CTRL reads: HIGH 1 to 1,000, LOW below HIGH (Table PARK-11). -/
def parkHigh (s : State) (c : Nat) : Nat := max 1 (min 1000 (s.rg .BDG_PARK_C_CTRL_HIGH c))
def parkLow (s : State) (c : Nat) : Nat := min (s.rg .BDG_PARK_C_CTRL_LOW c) (parkHigh s c - 1)

/-- A carriage's groups on a half, its frames there and the free ones. -/
def halfGroups (s : State) (c h : Nat) : List Nat := (s.groupsOf c).filter (fun g => g / 32 == h)
def halfFrames (s : State) (c h : Nat) : Nat := (halfGroups s c h).length * s.im.framesPerGroup
def halfFree (s : State) (c h : Nat) : Nat := sumOf (freeFrames s) (halfGroups s c h)

/-- Whether R241 always includes a position of an ordinal for a sequence: below SINKS, or in the tail window of the positions
the node holds. -/
def alwaysHeld (s : State) (q : Seqd) (layer leaf : Nat) (view : Nat) : Bool :=
  let base := ordinalOf s q layer (leaf / max 1 q.kv) * q.p
  let last := (q.entries.map (fun e => ordinalOf s q e.1 (e.2.1 / max 1 q.kv) * q.p + e.2.2.view)).foldl max 0
  decide (base < q.sinks) || decide (last < base + view + q.tail)

/-- Whether a page is a candidate for demotion on a half: SEALED, of an ACTIVE or FROZEN sequence, and without a position that
R241 always includes for any sequence that names it. -/
def demotable (s : State) (c h : Nat) (x : Nat × Page) : Bool :=
  let qs := seqsOfPage s x.1
  x.2.car == c && x.2.loc.isHbm && locHalf s x.2.loc == h && x.2.sealed_ && !x.2.moving &&
  qs.any (fun q => q.2.st == 1 || q.2.st == 2) &&
  qs.all (fun q => q.2.entries.all (fun e => e.2.2.page != x.1 || !alwaysHeld s q.2 e.1 e.2.1 e.2.2.view))

/-- The page demoted next: highest AGE, the lower local index on a tie. -/
def demoteNext (s : State) (c h : Nat) : Option (Nat × Page) :=
  mostBy (fun x => x.2.age) (sortBy Prod.fst (s.seq.pages.filter (demotable s c h)))

/-- The demotions of a carriage on a half that still run. -/
def demoting (s : State) (c h : Nat) : Nat :=
  countOf (fun m => m.2.cmd.isNone && m.2.car == c && m.2.half == h && m.2.dest.isCxl) s.seq.moves

/-- The class and switch under which a page is compressed when it is demoted: those of a sequence that names it. -/
def demoteTable (s : State) (p : Nat) (g : Page) : Option Nat :=
  (seqsOfPage s p).findSome? (fun q => parkTable s q.2 g)

/-- Whether a carriage's free frames on a half, with those its running demotions will free, lie below HIGH. -/
def demoteWants (s : State) (c h : Nat) : Bool :=
  decide ((halfFree s c h + demoting s c h) * 1000 < parkHigh s c * halfFrames s c h) && (demoteNext s c h).isSome

/-- Whether a carriage demotes on a half: it has fallen below LOW and has not reached HIGH since. -/
def demoteDue (s : State) (c h : Nat) : Bool :=
  s.rg .BDG_PARK_C_CTRL_DEMOTE c == 1 && demoteWants s c h &&
  (decide ((c, h) ∈ s.park.demoting) || decide (halfFree s c h * 1000 < parkLow s c * halfFrames s c h))

/-- A page's demotion begins; without a free CXL frame demotion stops (event 0x0427). -/
def demoteOne (c h : Nat) (x : Nat × Page) (s : State) : State :=
  let fresh := decide ((c, h) ∉ s.park.demoting)
  let s := s |> when fresh (raiseFirst 0x0426 c (some c) []) |> onPark (fun y => { y with demoting := addSet (c, h) y.demoting })
  match takeCxl c h (.moveDest x.1) s with
  | none => s |> onPark (fun y => { y with demoting := remSet (c, h) y.demoting }) |> raise 0x0427 (some c) []
  | some f =>
    let tab := if bufferServes s h then demoteTable s x.1 x.2 else none
    f.2 |> beginMove x.1 { dest := .cxl c f.1, comp := tab, cmd := none, half := h, car := c }

/-- DEMOTE: the next page of the first carriage that needs it on a half begins to move; PAGE_MOVE_COMMIT ends the move. -/
def demote (h : Nat) (s : State) : State :=
  let s := onPark (fun y => { y with demoting := y.demoting.filter (fun x => x.2 != h || demoteWants s x.1 h) }) s
  match (List.range 16).find? (fun c => demoteDue s c h && moveRoom s c h) with
  | none => s
  | some c => whenSome (demoteNext s c h) (demoteOne c h) s

def execDemote (half : Fin 2) (s : State) : Result := done (live (demote half.val) s)

/-! ### Promotion (R337) -/

/-- PROMOTE: a TIER 1 page that a coach read begins to move to its layer's home half, where free frames allow it. -/
def promote (h : Nat) (s : State) : State :=
  match s.park.toPromote.find? (fun x => x.2 == h) with
  | none => s
  | some x =>
    let drop := onPark (fun y => { y with toPromote := y.toPromote.filter (fun z => decide (z ≠ x)) })
    match look x.1 s.seq.pages with
    | none => drop s
    | some g =>
      let gs := (allocGroups s g.car).filter (fun k => k / 32 == h)
      if g.moving ∨ moveRoom s g.car h = false then s
      else if g.loc.isCxl = false ∨ pageParked s x.1 ∨ s.rg .BDG_PARK_C_CTRL_PROMOTE g.car = 0 ∨
          halfFree s g.car h * 1000 ≤ parkHigh s g.car * halfFrames s g.car h ∨ (g.comp ∧ bufferServes s (locHalf s g.loc) = false) then
        drop s
      else
        match takeFrom [gs] (.moveDest x.1) s with
        | none => drop s
        | some f =>
          f.2 |> drop |> beginMove x.1 { dest := .hbm f.1.1 f.1.2, comp := none, cmd := none, half := locHalf s g.loc, car := g.car }

def execPromote (half : Fin 2) (s : State) : Result := done (live (promote half.val) s)

end Sys2Proof.Machine
end

