-- ==== Sys2Proof/Machine/Serve.lean ====
section
/-! DEFINITION. Work that waited and goes on: changes of a sequence (R607), and requests held for a switch (R62, R63). -/

namespace Sys2Proof.Machine

open Sys2Proof

/-! ### Changes that waited (R607) -/

/-- The meaning of a command that changes a sequence. -/
def changeCmd (k op : Nat) : Cmd → State → State :=
  match op with
  | 0x03 => pageCopy k
  | 0x21 => seqFree k
  | 0x22 => seqFork k
  | 0x23 => seqFreeze k
  | 0x24 => seqThaw k
  | 0x25 => pageLink k
  | 0x26 => appendCmd k
  | _ => fun _ s => s

/-- A change that waits runs again; one whose command or message has ended waits no longer. -/
def resumeWaiter (w : Waiter) (s : State) : State :=
  match w with
  | .cmd k =>
    match s.cmd k with
    | some c => withCmd k 1 (Op.opcode c.bytes) (changeCmd k (Op.opcode c.bytes)) s
    | none => dropWait w s
  | .msg src op =>
    if has (src, op) s.prt.rx then withMsg src op MTy.append (fabricAppend src op) s else dropWait w s

/-- SEQUENCE_CHANGE_RESUME: the oldest change that waits for a sequence, once none runs. -/
def sequenceChangeResume (seq : Nat) (s : State) : State :=
  match look seq s.seq.waiting with
  | some w => if has seq s.seq.busy then s else resumeWaiter w s
  | none => s

def execSequenceChangeResume (seq : BitVec 32) (s : State) : Result := done (live (sequenceChangeResume seq.toNat) s)

/-! ### Held requests (R62, R63) -/

/-- A message handed to its engine. -/
def serveMsg (key : Nat × Nat) (s : State) : State :=
  match look key s.prt.rx with
  | none => s
  | some e =>
    match H.mtype e.hdr with
    | 1 => attnReq key.1 key.2 s
    | 2 => attnPart key.1 key.2 s
    | 3 => withMsg key.1 key.2 MTy.append (fabricAppend key.1 key.2) s
    | 4 => withMsg key.1 key.2 MTy.appendShadow (appendShadow key.1 key.2) s
    | 5 => rmaWrite key.1 key.2 s
    | 6 => rmaRead key.1 key.2 s
    | 12 => withMsg key.1 key.2 MTy.parkXfer (parkXfer key.1 key.2) s
    | _ => s

/-- The messages held for the armed epoch handed on, in the order of their arrival: under the new map once it is in
force, as STALE_EPOCH once the switch is cancelled. -/
def releaseMsgs (s : State) : State :=
  let ks := keys (s.prt.rx.filter (fun e => e.2.held))
  s |> onPrt (fun x => { x with rx := x.rx.map (fun e => (e.1, { e.2 with held := false })) }) |> forEach ks serveMsg

/-- The held commands released to run. -/
def releaseCmds (s : State) : State :=
  onQue (fun x => { x with started := x.started.map (fun e => (e.1, { e.2 with held := false })) }) s

/-- The held commands of a cancelled switch: each ends STALE_EPOCH when it runs, after the checks that come first (R17, R63). -/
def staleCmds (s : State) : State :=
  onQue (fun x => { x with started := x.started.map (fun e =>
    if e.2.held then (e.1, { e.2 with held := false, bad := some Status.staleEpoch }) else e) }) s

end Sys2Proof.Machine
end

