-- ==== Sys2Proof/Machine/Shutdown.lean ====
section
/-! DEFINITION. Shutdown: its arming, its five steps and the record they leave (R547 to R550). -/

namespace Sys2Proof.Machine

open Sys2Proof

/-- BIST_SHUT_STATUS.STATE: 0 none, 1 ARMED, 2 STOPPING, 3 PERSISTING, 4 TESTING, 5 SAFE. -/
def setShut (v : Nat) (s : State) : State := setRg .BIST_SHUT_STATUS_STATE 0 v s

/-! ### Arming (R547) -/

/-- BIST_SHUT_FT. -/
def shutFt (s : State) : Nat := s.rg .BIST_SHUT_FT_LO_FT_LO 0 + s.rg .BIST_SHUT_FT_HI_FT_HI 0 * 2 ^ 32

/-- Whether a shutdown may be armed at `at_`: no shutdown has begun, and it is a grid point 1 ms to 2^32 ns ahead. -/
def shutOk (s : State) (at_ : Nat) : Bool :=
  serving s && s.gridPoint at_ && decide (s.ft + 1000000 ≤ at_) && decide (at_ ≤ s.ft + 4294967296)

/-- Whether the life-cycle state permits the shutdown set (Table SEC-6). -/
def shutTestAllowed (s : State) : Bool := s.lc == 0 || s.lc == 2 || s.lc == 3

/-- START in BIST_SHUT_CTRL; `want` is TEST where its source may set it, else false; a self-test that the
life-cycle state forbids is refused (events 0x0F09, 0x0F0A, 0x0B11). -/
def armShutdown (want : Bool) (s : State) : State :=
  let at_ := shutFt s
  let test := want && shutTestAllowed s
  if shutOk s at_ then
    s |> when (want && !test) (raise 0x0B11 none []) |> setShut 1 |> onStart (fun x => { x with shutAt := at_, shutTest := test }) |> noticeAll 0x09 at_
      |> raise 0x0F09 none [(8, at_), (1, b2n test)]
  else raise 0x0F0A none [] s

/-- SHUTDOWN_START from a port: TEST counts only while the port holds semaphore 3. -/
def shutdownStart (p : Nat) (s : State) : State := armShutdown (s.rg .BIST_SHUT_CTRL_TEST 0 == 1 && s.holdsSem p 3) s

def execShutdownStart (p : Port) (s : State) : Result := done (live (access p.idx 0xF00038 (shutdownStart p.idx)) s)

/-! ### Steps 1 and 2 (Table SUP-3) -/

/-- A fetched entry not yet started ends ABORTED, where the queue has a CQ entry for it; else it is discarded. -/
def endFetched (q : Nat) (e : Nat × List Byte) (s : State) : State :=
  if mayStartCmd s q e.2 none then
    let k := s.que.serial
    let s := startCommand q e.2 none s
    complete k Status.aborted 0 0 s
  else s

/-- Every queue's fetched entries end. -/
def endQueue (q : Nat) (s : State) : State :=
  let x := s.ctx q
  s |> setCtx q { x with fetched := [] } |> forEach x.fetched (endFetched q)

/-- No list starts a further entry: the first one left unstarted counts as ABORTED. -/
def endLists (s : State) : State :=
  onQue (fun x => { x with lists := x.lists.map (fun e => (e.1, e.2.stop)) }) s

/-- Whether a message's work has begun: some packet of it is written or held. -/
def msgBegun (s : State) (key : Nat × Nat) (e : RxEntry) : Bool :=
  e.coach.isSome || (H.mtype e.hdr == MTy.rmaWrite && (!(writtenSpans s key e).isEmpty ||
    s.prt.paging.any (fun x => (H.src x.body, H.opId x.body) == key)))

/-- A request whose work has begun goes on; another ends ABORTED. -/
def endMsg (x : (Nat × Nat) × RxEntry) (s : State) : State :=
  if refusedAtShutdown (H.mtype x.2.hdr) = false then s
  else if msgBegun s x.1 x.2 then onPrt (fun p => { p with rx := put x.1 { x.2 with coach := some 0 } p.rx }) s
  else ackMsg x.1 x.2 Status.aborted 0 0 s

/-- SHUTDOWN_BEGIN: S has come. -/
def shutdownBegin (s : State) : State :=
  if s.rg .BIST_SHUT_STATUS_STATE 0 ≠ 1 ∨ s.ft < s.start.shutAt then s
  else
    s |> setShut 2 |> setRg .BIST_SUP_PHASE 0 6 |> endLists |> forEach (keys s.que.ctx) endQueue |> forEach s.prt.rx endMsg

def execShutdownBegin (s : State) : Result := done (live shutdownBegin s)

/-- Whether no work runs any more. -/
def drained (s : State) : Bool := s.que.started.isEmpty && s.fox.coaches.isEmpty && s.prt.rx.isEmpty

/-- A coach ended by the shutdown: LATE (Table DEP-13), or ABORTED where it is a command's. -/
def endCoach (id : Nat) (s : State) : State :=
  match s.coach id with
  | some c => if c.cmd.isSome then failCoach id Status.aborted 0 0 s else failCoach id Status.late 0 4 s
  | none => s

/-- What still runs at S + 1 ms ends. -/
def endWork (s : State) : State :=
  let s := forEach (keys s.fox.coaches) endCoach s
  let s := forEach (keys s.que.started) abortOne s
  forEach (s.prt.rx.filter (fun e => refusedAtShutdown (H.mtype e.2.hdr))) (fun e => ackMsg e.1 e.2 Status.aborted 0 0) s

/-- SHUTDOWN_DRAIN_END: the links are reset, and the record of step 3 is taken, at once or behind a write that runs. -/
def shutdownDrainEnd (s : State) : State :=
  if s.rg .BIST_SHUT_STATUS_STATE 0 ≠ 2 ∨ (drained s = false ∧ s.ft < s.start.shutAt + 1000000) then s
  else
    let s := s |> endWork |> resetLinks |> portsDown |> setShut 3
    if s.start.writing.isSome then s else persistBegin 1 (snapshot true false s) s

def execShutdownDrainEnd (s : State) : Result := done (live shutdownDrainEnd s)

/-! ### Steps 3 to 5 -/

/-- Whether a flash write of a purpose runs. -/
def writes (s : State) (purpose : Nat) : Bool := s.start.writing.any (fun w => w.2.2.1 == purpose)

/-- SHUTDOWN_PERSIST_DONE: the record of step 3 is written; with TEST = 1 the shutdown set runs, else step 5 begins. A
write that fails goes to the next area (R601). -/
def shutdownPersistDone (ok : Bool) (s : State) : State :=
  if s.rg .BIST_SHUT_STATUS_STATE 0 ≠ 3 ∨ writes s 1 = false then s
  else
    let s := persistEnd ok s
    if ok = false then persistBegin 1 (snapshot true false s) s
    else
      let s := setRg .BIST_SHUT_STATUS_PERSIST_OK 0 1 s
      if s.start.shutTest then
        s |> setShut 4 |> onStart (fun x => { x with testing := some false }) |> setRg .BIST_STATUS_STATE 0 2
      else persistBegin 4 (finalRecord s) s

def execShutdownPersistDone (ok : Bool) (s : State) : Result := done (live (shutdownPersistDone ok) s)

/-- SHUTDOWN_SAFE: the record of step 5 is written; STATE reads SAFE (event 0x0F0B, in-band interrupt 0x05). -/
def shutdownSafe (ok : Bool) (s : State) : State :=
  if writes s 4 = false then s
  else
    let s := persistEnd ok s
    if ok = false then persistBegin 4 (finalRecord s) s
    else s |> setShut 5 |> raise 0x0F0B none [(8, s.ft - s.start.shutAt)] |> emit (.ibi 5)

def execShutdownSafe (ok : Bool) (s : State) : Result := done (live (shutdownSafe ok) s)

end Sys2Proof.Machine
end

