-- ==== Sys2Proof/Machine/Security.lean ====
section
/-! DEFINITION. The root of trust: the loader (R487 to R490, R494 to R497), attestation (R498), confidential sessions
(R499, R500) and key slots (R501 to R507). -/

namespace Sys2Proof.Machine

open Sys2Proof

/-! ### Signed objects (R487, Tables SEC-2, SEC-3, SEC-5) -/

/-- Body and signature block of an object. -/
def objBody (b : List Byte) : List Byte := b.take (b.length - 7232)
def objSig (b : List Byte) : List Byte := b.drop (b.length - 7232)

/-- Whether an object is signed under a key with a digest. -/
def signedUnder (digest b : List Byte) : Bool :=
  digestOf (sigKey (objSig b)) == digest && signatureOk (objBody b) (objSig b)

/-- VERSION and ROLLBACK of a firmware image. -/
def fwVersion (b : List Byte) : Nat := u16 b 4
def fwRollback (b : List Byte) : Nat := u8 b 6

/-- Whether a firmware image's header and length are well formed. -/
def fwHeaderOk (b : List Byte) : Bool :=
  decide (256 + 7232 ≤ b.length) && decide (b.length ≤ 2097152) && u32 b 0 == 0x4D524946 && decide (fwRollback b ≤ 64) &&
  u32 b 8 + 7232 == b.length && u8 b 7 == 0 && allZero (slice b 12 244)

/-- The check that a firmware image fails, as SEC_BOOT.CAUSE (R494): 0 for none. -/
def fwCheck (s : State) (b : List Byte) : Nat :=
  if fwHeaderOk b = false then 2
  else if signedUnder (padTo 64 s.sec.fuses.fwSigner) b = false then 3
  else if fwRollback b < s.sec.fuses.rollback then 4
  else 0

/-- SERIAL of an owner record. -/
def ownerSerial (b : List Byte) : Nat := u32 b 4

/-- Whether an owner record's body is well formed and for this node. -/
def ownerBodyOk (s : State) (b : List Byte) : Bool :=
  b.length == 512 + 7232 && u32 b 0 == 0x524E574F && (u64 b 8 == 0 || u64 b 8 == s.sec.fuses.uid) &&
  decide (1 ≤ u8 b 16) && decide (u8 b 16 ≤ 4) && allZero (slice b 17 47) &&
  allZero (slice b (64 + 64 * u8 b 16) (256 - 64 * u8 b 16)) && allZero (slice b 320 192)

/-- The check that an owner record fails: 5 for its SERIAL. -/
def ownerCheck (s : State) (b : List Byte) : Nat :=
  if ownerBodyOk s b = false then 2
  else if signedUnder (padTo 64 s.sec.fuses.ownerRoot) b = false then 3
  else if ownerSerial b ≤ ownerSerial s.sec.owner then 5
  else 0

/-- The transitions of Table SEC-4; after 120 only that to RETIRED (R489). -/
def transitionOk (count from_ next : Nat) : Bool :=
  (next == 4 && from_ != 4) || (decide (count < 120) && ((from_ == 0 && next == 1) || (from_ == 1 && next == 2) ||
    (from_ == 2 && next == 3) || (from_ == 3 && next == 2)))

/-- The check that a life-cycle request fails: 6 for its fields (R489, R490). -/
def requestCheck (s : State) (b : List Byte) : Nat :=
  let f := s.sec.fuses
  let root := if f.lc = 0 then f.fwSigner else f.ownerRoot
  let carries := u8 b 12 == 0 && u8 b 13 == 1
  if b.length ≠ 128 + 7232 ∨ u32 b 0 ≠ 0x5152434C ∨ u8 b 15 ≠ 0 ∨ allZero (slice b 80 48) = false ∨
      (carries = false ∧ allZero (slice b 16 64) = false) then 2
  else if signedUnder (padTo 64 root) b = false then 3
  else if u64 b 4 ≠ f.uid ∨ u8 b 12 ≠ f.lc ∨ u8 b 14 ≠ f.lcCount ∨ transitionOk f.lcCount f.lc (u8 b 13) = false then 6
  else 0

/-- The check that a fetched object of a kind fails. -/
def objCheck (s : State) (kind : Nat) (b : List Byte) : Nat :=
  if kind = 1 then fwCheck s b else if kind = 2 then ownerCheck s b else requestCheck s b

/-! ### The loader (R496, R497) -/

/-- SEC_LOAD_STATUS of a port written. -/
def loadResult (p st check : Nat) (s : State) : State :=
  s |> setRg .SEC_LOAD_STATUS_STATUS p st |> setRg .SEC_LOAD_STATUS_CHECK p check |> setRg .SEC_LOAD_STATUS_DONE p 1

/-- A LOAD or COMMIT refused, or an object that failed its checks (event 0x0B03). -/
def loadFailed (p kind st check : Nat) (s : State) : State :=
  s |> loadResult p st check |> raise 0x0B03 none [(1, kind), (1, check)]

/-- An action that the life-cycle state refuses (R491, event 0x0B11). -/
def lcRefused (s : State) : State := raise 0x0B11 none [] s

/-- Whether the node is in RECOVERY (R495). -/
def State.recovery (s : State) : Bool := s.rg .SEC_BOOT_STATE 0 == 3

/-- Whether the life-cycle state lets a kind be loaded (Table SEC-6). -/
def kindAllowed (s : State) (kind : Nat) : Bool :=
  (kind != 2 || s.lc == 1 || s.lc == 3) && s.lc != 4 && (!s.recovery || kind == 1)

/-- SEC_LOAD: the fetch of an object begins, in reads of at most 4,096 bytes. -/
def secLoad (p : Nat) (s : State) : State :=
  let kind := s.rg .SEC_LOAD_CTRL_KIND 0
  let len := s.rg .SEC_LOAD_LEN_LEN p
  let addr := s.rg .SEC_LOAD_ADDR_LO_ADDR_LO p + s.rg .SEC_LOAD_ADDR_HI_ADDR_HI p * 2 ^ 32
  if s.sec.loader.isSome then loadFailed p kind Status.accessDenied 0 s
  else if kind = 0 ∨ len = 0 ∨ 2097152 < len ∨ addr % 64 ≠ 0 then loadFailed p kind Status.badCommand 0 s
  else if kindAllowed s kind = false then s |> loadResult p Status.accessDenied 0 |> lcRefused
  else
    let l : Loader := { port := p, kind := kind, phase := 1, len := len, bytes := [], got := 0, bad := !s.portUp p }
    let s := onSec (fun x => { x with loader := some l, verified := none }) s
    if l.bad then s
    else
      forEach (List.range (ceilDiv len 4096)) (fun i s =>
        let n := min 4096 (len - 4096 * i)
        memRead p (.load (4096 * i) n) (addr + 4096 * i) (ceilDiv n 4 * 4) s) s

def execSecLoad (p : Port) (s : State) : Result := done (live (access p.idx 0xB00020 (secLoad p.idx)) s)

/-- A verified firmware image starts in RECOVERY (R496). -/
def firmwareStarts (b : List Byte) (s : State) : State :=
  s |> onSec (fun x => { x with running := b, kem := s.freeCtr }) |> freeTaken |> setRg .SEC_BOOT_STATE 0 2
    |> setRg .SEC_BOOT_CAUSE 0 0 |> setRg .SEC_FW_VERSION 0 (fwVersion b)
    |> onStart (fun x => { x with done := addSet 2 x.done })

/-- SEC_LOAD_DONE: the bytes have arrived, or the fetch failed; the object is verified. -/
def secLoadDone (s : State) : State :=
  match s.sec.loader with
  | none => s
  | some l =>
    if l.phase ≠ 1 ∨ (l.bad = false ∧ l.got < l.len) then s
    else
      let check := if l.bad then 1 else objCheck s l.kind l.bytes
      let s := onSec (fun x => { x with loader := none }) s
      if check ≠ 0 then loadFailed l.port l.kind Status.badCommand check s
      else
        s |> onSec (fun x => { x with verified := some (l.kind, l.bytes) }) |> loadResult l.port Status.ok 0
          |> when (s.recovery && l.kind == 1) (firmwareStarts l.bytes)

def execSecLoadDone (s : State) : Result := done (live secLoadDone s)

/-- SEC_LOAD_COMMIT: the verified object's flash write begins. -/
def secLoadCommit (p : Nat) (s : State) : State :=
  let kind := s.rg .SEC_LOAD_CTRL_KIND 0
  if s.sec.loader.isSome then loadFailed p kind Status.accessDenied 0 s
  else
    match s.sec.verified with
    | none => loadFailed p kind Status.badCommand 0 s
    | some v =>
      if v.1 ≠ kind then loadFailed p kind Status.badCommand 0 s
      else if kindAllowed s kind = false then s |> loadResult p Status.accessDenied 0 |> lcRefused
      else
        onSec (fun x => { x with loader := some { port := p, kind := kind, phase := 3, len := v.2.length, bytes := v.2,
                                                  got := v.2.length, bad := false } }) s

def execSecLoadCommit (p : Port) (s : State) : Result := done (live (access p.idx 0xB00020 (secLoadCommit p.idx)) s)

/-- What a committed object becomes: firmware and owner record in flash, a life-cycle request that waits for the next
start (R488, R489, R600). -/
def committed (kind : Nat) (b : List Byte) (x : SecSt) : SecSt :=
  if kind = 1 then { x with flash := { x.flash with firmware := b } }
  else if kind = 2 then { x with flash := { x.flash with owner := b } }
  else { x with lcPending := some b }

/-- SEC_COMMIT_DONE: the flash write ends (event 0x0B04). No rule names a code for one that failed: one other than OK, which is a
free value (assumption 15). -/
def secCommitDone (ok : Bool) (s : State) : State :=
  match s.sec.loader with
  | none => s
  | some l =>
    if l.phase ≠ 3 then s
    else
      let s := onSec (fun x => { x with loader := none }) s
      if ok then
        s |> onSec (committed l.kind l.bytes) |> loadResult l.port Status.ok 0 |> raise 0x0B04 none [(1, l.kind)]
      else s |> loadResult l.port (openCode s) 0 |> freeTaken

def execSecCommitDone (ok : Bool) (s : State) : Result := done (live (secCommitDone ok) s)

/-! ### Attestation (R498) -/

/-- The nonce in a port's SEC_NONCE registers. -/
def nonceOf (s : State) (p : Nat) : List Byte := (List.range 16).flatMap (fun i => leBytes 4 (s.rg .SEC_NONCE_NONCE (16 * p + i)))

/-- ATTEST: a report is asked for; it replaces one that the port still waits for. -/
def attestStart (p : Nat) (s : State) : State :=
  onSec (fun x => { x with attest := put p { nonce := nonceOf s p } x.attest }) s

def execAttest (p : Port) (s : State) : Result := done (live (access p.idx 0xB00030 (attestStart p.idx)) s)

/-- The carriages of the image in force that satisfy `f`, as a mask. -/
def carMask (s : State) (f : Nat → Bool) : Nat := bitMap (s.im.cars.filter f)

/-- The report's body (Table SEC-7). -/
def reportBody (s : State) (p : Nat) (nonce : List Byte) : List Byte :=
  let f := s.sec.fuses
  let part := s.rg .GLB_PART_ID_PART 0 * 2 ^ 16 + s.rg .GLB_PART_ID_STEPPING 0 * 2 ^ 8 + s.rg .GLB_PART_ID_VARIANT 0
  let held := s.comp.image.isSome
  leBytes 4 0x54535441 ++ leBytes 2 1 ++ leBytes 4 part ++ leBytes 2 s.nodeId ++ leBytes 1 f.lc ++ leBytes 1 f.lcCount ++
  leBytes 1 p ++ leBytes 1 (s.rg .SEC_BOOT_STATE 0) ++ leBytes 8 f.uid ++ leBytes 8 s.ft ++ leBytes 1 s.tt ++ zeros 3 ++
  leBytes 2 (fwVersion s.sec.running) ++ leBytes 1 (fwRollback s.sec.running) ++ leBytes 1 f.rollback ++
  digestOf (objBody s.sec.running) ++ (if held then s.im.digest else zeros 64) ++ leBytes 2 s.im.epoch ++
  leBytes 2 (carMask s (fun _ => true)) ++ leBytes 2 (carMask s s.im.protected_) ++ leBytes 2 (carMask s s.im.isolated) ++
  padTo 64 f.ownerRoot ++ digestOf s.sec.owner ++ digestOf (Config.kemKey s.sec.kem) ++
  leBytes 4 (bitMap s.sec.retired) ++ (List.range 16).flatMap (fun c => leBytes 1 (s.currentSlot c)) ++ padTo 64 nonce ++
  zeros 60

/-- ATTEST_DONE: the signed report stands in the port's window (event 0x0B06). -/
def attestDone (p : Nat) (s : State) : State :=
  match look p s.sec.attest with
  | none => s
  | some a =>
    let body := padTo 512 (reportBody s p a.nonce)
    let report := body ++ padTo 4627 (Config.mlDsaSign s.sec.fuses.idSeed (digestOf body)) ++ zeros 45
    s |> onSec (fun x => { x with attest := del p x.attest, reports := put p report x.reports })
      |> setRg .SEC_ATTEST_DONE p 1 |> raise 0x0B06 none [(1, p)]

def execAttestDone (p : Port) (s : State) : Result := done (live (attestDone p.idx) s)

/-! ### Sessions (R499, R500) -/

/-- SEC_SESSION_RESULT of a port. -/
def sessionResult (p st : Nat) (s : State) : State := result .SEC_SESSION_RESULT_STATUS .SEC_SESSION_RESULT_DONE p st s

/-- Whether the life-cycle state has sessions (Table SEC-6). -/
def sessionsAllowed (s : State) : Bool := s.lc == 2 || s.lc == 3

/-- SESSION_LOAD: decapsulation of the port's ciphertext begins. -/
def sessionLoad (p : Nat) (s : State) : State :=
  let i := s.rg .SEC_SESSION_CTRL_INDEX 0
  let c := s.rg .SEC_SESSION_CTRL_CARRIAGE 0
  if sessionsAllowed s = false then s |> sessionResult p Status.accessDenied |> raise 0x0B08 none [] |> lcRefused
  else if has i s.sec.sessions ∨ s.im.carValid c = false then
    s |> sessionResult p Status.accessDenied |> raise 0x0B08 none []
  else onSec (fun x => { x with sessionLoads := put p (i, c, lookD p [] x.kemct) x.sessionLoads }) s

def execSessionLoad (p : Port) (s : State) : Result := done (live (access p.idx 0xB00080 (sessionLoad p.idx)) s)

/-- The session key from a shared secret (R499). -/
def sessionKey (s : State) (secret : List Byte) (i p : Nat) : List Byte :=
  (digestOf (secret ++ leBytes 8 s.sec.fuses.uid ++ leBytes 2 i ++ leBytes 1 p)).take 32

/-- A session installed (event 0x0B07). -/
def sessionInstall (p i c : Nat) (key : List Byte) (s : State) : State :=
  s |> onSec (fun x => { x with sessions := put i (p, c) x.sessions, sessionKeys := put i key x.sessionKeys })
    |> onQue (fun x => { x with sealCtr := del i x.sealCtr }) |> raise 0x0B07 (some c) [(2, i), (1, c)]
    |> sessionResult p Status.ok

/-- SESSION_LOAD_DONE: the decapsulation ends. -/
def sessionLoadDone (p : Nat) (s : State) : State :=
  match look p s.sec.sessionLoads with
  | none => s
  | some (i, c, ct) =>
    let s := onSec (fun x => { x with sessionLoads := del p x.sessionLoads }) s
    if has i s.sec.sessions ∨ s.im.carValid c = false then
      s |> sessionResult p Status.accessDenied |> raise 0x0B08 none []
    else
      match Config.kemDecap s.sec.kem (padTo 1568 ct) with
      | none => s |> sessionResult p Status.badCommand |> raise 0x0B08 none []
      | some secret => sessionInstall p i c (sessionKey s secret i p) s

def execSessionLoadDone (p : Port) (s : State) : Result := done (live (sessionLoadDone p.idx) s)

/-- Whether a queue that is not DISABLED names a session. -/
def sessionUsed (s : State) (i : Nat) : Bool :=
  s.que.ctx.any (fun e => e.2.st != 0 && qConf s e.1 && s.rg .QUE_CTX_CFG_SESSION e.1 == i)

/-- A session gone. -/
def sessionDrop (i : Nat) (x : SecSt) : SecSt :=
  { x with sessions := del i x.sessions, sessionKeys := del i x.sessionKeys }

/-- SESSION_UNLOAD: from the loading port only, and while no queue uses it. -/
def sessionUnload (p : Nat) (s : State) : State :=
  let i := s.rg .SEC_SESSION_CTRL_INDEX 0
  match look i s.sec.sessions with
  | some (owner, c) =>
    if owner = p ∧ sessionUsed s i = false then
      s |> onSec (sessionDrop i) |> raise 0x0B07 (some c) [(2, i), (1, c)] |> sessionResult p Status.ok
    else sessionResult p Status.accessDenied s
  | none => sessionResult p Status.accessDenied s

def execSessionUnload (p : Port) (s : State) : Result := done (live (access p.idx 0xB00080 (sessionUnload p.idx)) s)

/-! ### Key slots (R503 to R507) -/

/-- The lowest-numbered slot of a carriage that is not RETIRED. -/
def lowestSlot (s : State) (im : Image) (c : Nat) : Option Nat :=
  firstBelow 32 (fun k => bit (im.keySlots c) k && decide (k ∉ s.sec.retired))

/-- A carriage's current slot set, or taken away. -/
def setCurrent (c : Nat) (k : Option Nat) (s : State) : State :=
  onSec (fun x => { x with current := match k with | some v => put c v x.current | none => del c x.current }) s

/-- Why a KEY_SWITCH has no effect: 1 a slot of another owner, 2 already current, 3 pages of another carriage, 4 the
life-cycle state (R504). -/
def switchCause (s : State) (c k : Nat) : Nat :=
  if bit (s.im.keySlots c) k = false ∨ 32 ≤ k then 1
  else if s.currentSlot c = k then 2
  else if s.seq.pages.any (fun p => p.2.keySlot == k && p.2.car != c) then 3
  else if s.lc ≠ 2 then 4
  else 0

/-- KEY_SWITCH: slot ARG becomes current for the entry's carriage. -/
def keySwitch (i : Nat) (e : Evt) (s : State) : State :=
  let cause := switchCause s e.car e.arg
  if cause ≠ 0 then raise 0x0B09 (some e.car) [(2, i), (1, cause)] s
  else
    let old := s.currentSlot e.car
    s |> setCurrent e.car (some e.arg) |> onSec (fun x => { x with retired := remSet e.arg x.retired })
      |> raise 0x0B0A (some e.car) [(1, e.car), (1, old), (1, e.arg)]

def execKeySwitch (i : Fin 256) (s : State) : Result := done (live (fireEntry i.val 2 (keySwitch i.val)) s)

/-- R505: at a switch to a new image, a current slot that its carriage loses gives way to the lowest that remains. -/
def slotFallback (im : Image) (c : Nat) (s : State) : State :=
  match look c s.sec.current with
  | none => s
  | some k =>
    if bit (im.keySlots c) k then s
    else s |> setCurrent c (lowestSlot s im c) |> raise 0x0B0F (some c) []

/-- R503: the current slots at the first composition load after a start. -/
def slotsAtStart (im : Image) (s : State) : State :=
  match s.sec.stored with
  | none => s
  | some (cur, digest) =>
    let same := digest == im.digest
    let s := forEach im.cars (fun c s =>
      let kept := match look c cur with
        | some k => if same && bit (im.keySlots c) k && decide (k ∉ s.sec.retired) then some k else none
        | none => none
      setCurrent c (match kept with | some k => some k | none => lowestSlot s im c) s) s
    onSec (fun x => { x with stored := none }) s

/-- RETIRE: an IDLE slot, from a port that holds semaphore 1. -/
def retireSlot (p : Nat) (s : State) : State :=
  let k := s.rg .SEC_KEY_CTRL_SLOT 0
  if s.holdsSem p 1 ∧ slotState s k = 0 then
    s |> onSec (fun x => { x with retired := addSet k x.retired }) |> raise 0x0B0C none []
      |> result .SEC_KEY_RESULT_STATUS .SEC_KEY_RESULT_DONE p Status.ok
  else s |> raise 0x0B0D none [] |> result .SEC_KEY_RESULT_STATUS .SEC_KEY_RESULT_DONE p Status.accessDenied

def execRetire (p : Port) (s : State) : Result := done (live (access p.idx 0xB00090 (retireSlot p.idx)) s)

/-- FORCE_RETIRE: a DRAINING slot whatever its count, through the expert window, with semaphore 1. -/
def forceRetire (p : Nat) (s : State) : State :=
  expertDo p 11 0xB80004 (fun s =>
    let k := s.rg .SEC_X_FORCE_SLOT 0
    if s.holdsSem p 1 ∧ slotState s k = 2 then
      s |> onSec (fun x => { x with retired := addSet k x.retired }) |> raise 0x0B12 none []
    else raise 0x0B0D none [] s) s

def execForceRetire (p : Port) (s : State) : Result := done (live (access p.idx 0xB80004 (forceRetire p.idx)) s)

/-- Whether the re-key of a page can read and write it: a PROTECTED page is decrypted and encrypted, any other keeps its
bytes (R506). -/
def rekeyable (s : State) (g : Page) : Bool := !g.prot || (s.hasSlotKeys && pageReadable s g && locServed s g.loc)

/-- REKEY_PAGE: one page of a DRAINING slot goes over to its carriage's current slot. -/
def rekeyPage (p : Nat) (s : State) : State :=
  match look p s.seq.pages with
  | none => s
  | some g =>
    if s.rg .SEC_X_SWEEP_HOLD 0 = 1 ∨ g.loc = .cold ∨ g.moving ∨ slotState s g.keySlot ≠ 2 then s
    else
      match look g.car s.sec.current with
      | none => raiseFirst 0x0B10 g.car (some g.car) [] s
      | some k => if rekeyable s g then s |> onPage p (fun g => { g with keySlot := k }) |> slotLeft g.keySlot else s

def execRekeyPage (page : BitVec 32) (s : State) : Result := done (live (rekeyPage page.toNat) s)

end Sys2Proof.Machine
end

