-- ==== Sys2Proof/Machine/Switch.lean ====
section
/-! DEFINITION. Images put into force: the first one of a start, the boundary of a switch, what follows it in every
block, and the time fault that cancels a switch (R47, R48, R55 to R60, R63, R68, R71, R87, R89). -/

namespace Sys2Proof.Machine

open Sys2Proof

/-! ### The node's own maps (R335, R456) -/

/-- Frames that the AGE map of a carriage takes: 1 byte for each directory entry of its groups. -/
def ageNeed (s : State) (c : Nat) : Nat := ceilDiv (s.im.entriesPerGroup * (s.groupsOf c).length) (max 1 s.im.dataArea)

/-- The AGE map of a carriage brought to its size. -/
def ageFit (c : Nat) (s : State) : State :=
  let have_ := framesFor s (.age c)
  let need := if s.im.carValid c then ageNeed s c else 0
  if need ≤ have_.length then forEach (have_.drop need) (fun k => freeLoc (.hbm k.1 k.2)) s
  else ((takeMany c (.age c) (need - have_.length) s).map Prod.snd).getD s

/-- The AGE maps of the carriages and the shadows of the owned banks, where memory is trained. -/
def ownMaps (s : State) : State :=
  let s := forEach (List.range 16) ageFit s
  forEach ((List.range 16).filter (fun b => (framesFor s (.owl b)).isEmpty)) takeShadow s

/-! ### Shared resources (R66 to R68, R104) -/

/-- The enable bits that depend on a shared resource: resource, owner code, field. -/
def enableBits : List (Nat × Nat × RN) :=
  [(1, 1, .OWL_CTRL_CASCADE_EN), (2, 1, .TT_CTRL_FINE_SYNC), (2, 2, .TT_CTRL_FINE_DELAY), (3, 1, .BDG_CTRL_EXPAND_E),
   (3, 2, .OWL_CTRL_SCRUB_E), (4, 1, .BDG_CTRL_EXPAND_W), (4, 2, .OWL_CTRL_SCRUB_W)]

/-- The enable bits follow the owners of the first image of a start. -/
def ownersAtStart (s : State) : State :=
  forEach enableBits (fun e => setRg e.2.2 0 (b2n (s.ownerCode e.1 == e.2.1))) s

/-- The feature of an owner code stopped on its resource: event 0x0208 with the resource and the code. -/
def loseResource (i code : Nat) (s : State) : State :=
  s |> forEach (enableBits.filter (fun e => e.1 == i && e.2.1 == code)) (fun e => setRg e.2.2 0 0)
    |> when (i == 1 && code == 1) cascadeFlush |> raise 0x0208 none []

/-- The features that lose their resource at a switch from image `a` to image `b`. -/
def loseResources (a b : Image) (s : State) : State :=
  let code := fun (im : Image) i => u8 (im.sect 14) i
  forEach ([1, 2, 3, 4].filter (fun i => code a i != code b i)) (fun i => loseResource i (code a i)) s

/-! ### The first image of a start (R47, R48) -/

/-- An image put into force while none is: every section of it, the current slots, the enable bits; Fox then calibrates until
the tile level of the start is done (DEDUCED, assumption 36). -/
def putInForce (im : Image) (s : State) : State :=
  s |> trafficSwitch im |> onComp (fun c => { c with image := some im, staged := none }) |> setCmp 0
    |> setRg .CMP_STATUS_CHECK 0 0 |> setRg .CMP_STATUS_TAG 0 0 |> when (s.rg .FOX_STATUS_STATE 0 == 0) (setRg .FOX_STATUS_STATE 0 1)
    |> slotsAtStart im |> ownersAtStart |> ownMaps
    |> onStart (fun x => { x with compAt := some s.ft, done := addSet 4 x.done })
    |> setRg .BIST_SUP_PHASE 0 3

/-! ### ARM and CANCEL (R50, R54 to R56) -/

/-- CMP_CTRL.ARM. -/
def arm (p : Nat) (s : State) : State :=
  if s.holdsSem p 0 = false then cmpRefused s
  else
    match s.comp.staged, s.comp.image with
    | some im, none =>
      if s.cmp = 3 then s |> putInForce im |> raise 0x0205 none [(2, im.epoch)] else s
    | some im, some _ => if s.cmp = 3 then armSwitch im s else s
    | none, _ => s

def execArm (p : Port) (s : State) : Result := done (live (access p.idx 0x200000 (arm p.idx)) s)

/-- What the node holds of the epochs at the arrival of each message, brought up to date (R62, R63). -/
def onSeen (f : EpochView → EpochView) (s : State) : State :=
  onPrt (fun x => { x with rx := x.rx.map (fun e => (e.1, { e.2 with seen := f e.2.seen })) }) s

/-- An armed switch cancelled: its entry, the leaving marks, the held requests (R56, R63, event 0x0206). -/
def cancelSwitch (s : State) : State :=
  s |> whenSome s.comp.entry evtCancel
    |> onComp (fun c => { c with entry := none, leaving := [], shadow := false }) |> setRg .CMP_EPOCH_ARMED 0 0 |> setCmp 3
    |> raise 0x0206 none [] |> onSeen EpochView.disarm |> staleCmds |> releaseMsgs

/-- FT of the armed boundary. -/
def State.armedFt (s : State) : Option Nat := (s.comp.entry.bind s.evt).map (fun e => e.ft)

/-- CMP_CTRL.CANCEL: before FT reaches the boundary. -/
def cancel (p : Nat) (s : State) : State :=
  if s.holdsSem p 0 = false then cmpRefused s
  else if s.cmp = 5 ∧ s.armedFt.any (fun t => decide (s.ft < t)) then cancelSwitch s
  else s

def execCancel (p : Port) (s : State) : Result := done (live (access p.idx 0x200000 (cancel p.idx)) s)

/-! ### The boundary (R58, R59, R63, R68, R71, R291, R427, R500, R505) -/

/-- Work begun under the old map (R64), and messages that had arrived. -/
def workIsOld (s : State) : State :=
  s |> onSeen EpochView.cross |> onFox (fun f => { f with coaches := f.coaches.map (fun e => (e.1, { e.2 with old := true })) })
    |> onQue (fun x => { x with started := x.started.map (fun e => (e.1, { e.2 with old := !e.2.held })) })

/-- The carriages that a new image makes invalid. -/
def carsLost (a b : Image) : List Nat := a.cars.filter (fun c => !b.carValid c)

/-- The sessions of a carriage lost, and the queues that use them stopped with cause AUTH (R500). -/
def sessionsLost (c : Nat) (s : State) : State :=
  let mine := s.sec.sessions.filter (fun e => e.2.2 == c)
  forEach mine (fun e s =>
    let qs := keys (s.que.ctx.filter (fun x => x.2.st != 0 && qConf s x.1 && s.rg .QUE_CTX_CFG_SESSION x.1 == e.1))
    s |> forEach qs (fun q => stopQueue q 4 0) |> onSec (sessionDrop e.1)) s

/-- The shadows of a carriage's tiles stopped (R291). -/
def shadowsLost (a : Image) (c : Nat) (s : State) : State :=
  forEach (keys (s.fox.shadows.filter (fun e => bit (a.tiles c) e.2.tile))) (fun t => shadowStopped t 2) s

/-- The unlocks that a new image no longer grants (R71). -/
def unlocksLost (b : Image) (s : State) : State :=
  forEach (keys s.comp.unlocks) (fun p s =>
    if (b.grantFor p (s.rg .CMP_EXPERT_UNLOCK_BLOCKS p)).isSome then s else endUnlock p s) s

/-- The new image in force from a boundary on: one step, event 0x0204. -/
def newImage (a b : Image) (at_ : Nat) (s : State) : State :=
  s |> trafficSwitch b |> workIsOld
    |> onComp (fun c => { c with image := some b, prev := some a, staged := none, entry := none, boundary := at_,
                                 moved := (changed a b).map (fun r => (r, .waiting)) })
    |> setCmp 6 |> setRg .CMP_EPOCH_ARMED 0 0 |> raise 0x0204 none []

/-- What a boundary ends in the blocks. -/
def boundaryLosses (a b : Image) (s : State) : State :=
  s |> loseResources a b |> forEach (List.range 16) (slotFallback b) |> forEach (carsLost a b) sessionsLost
    |> forEach (carsLost a b) (shadowsLost a) |> unlocksLost b

/-- SWITCH_BOUNDARY: the COMP_SWITCH entry fires; the held requests go first (R63). -/
def switchBoundary (s : State) : State :=
  match s.comp.entry, s.comp.staged with
  | some i, some b =>
    fireEntry i 1 (fun e s => s |> newImage s.im b e.ft |> boundaryLosses s.im b |> releaseCmds |> releaseMsgs) s
  | _, _ => s

def execSwitchBoundary (s : State) : Result := done (live switchBoundary s)

/-! ### After the boundary (R58 to R60) -/

/-- A moved resource's progress. -/
def setMoved (r : Res) (m : MovePhase) (s : State) : State := onComp (fun c => { c with moved := put r m c.moved }) s

/-- The switch is complete once every moved resource serves its new owner (R53, event 0x0205). -/
def switchComplete (s : State) : State :=
  if s.cmp = 7 ∧ s.comp.moved.all (fun m => m.2 == .handed) then
    s |> setCmp 0 |> onComp (fun c => { c with moved := [], leaving := [] }) |> raise 0x0205 none [(2, s.im.epoch)]
  else s

/-- Whether a resource is handed over as soon as the drain window closes: groups, and key slots, which have nothing to
clear (R60). -/
def resAtOnce : Res → Bool
  | .group _ => true
  | .slot _ => true
  | _ => false

/-- DRAIN_WINDOW_CLOSE (R58 to R60): FT has reached boundary + DRAIN_US. -/
def drainWindowClose (s : State) : State :=
  if s.cmp ≠ 6 ∨ s.ft < s.comp.boundary + s.im.drainUs * 1000 then s
  else
    s |> setCmp 7 |> isoFollow
      |> onComp (fun c => { c with drainEnd := s.ft, firstStale := true,
                                   moved := c.moved.map (fun m => if resAtOnce m.1 then (m.1, .handed) else m) })
      |> ownMaps |> switchComplete

def execDrainWindowClose (s : State) : Result := done (live drainWindowClose s)

/-- The old-epoch coaches that hold a moved resource. -/
def oldCoaches (s : State) (r : Res) : List Nat :=
  let c := s.oldIm.owner r
  keys (s.fox.coaches.filter (fun k => k.2.old && some k.2.car == c && match r with
    | .tile _ => true
    | .fox _ => k.2.open_ && passesLeft s k.2
    | _ => false))

/-- Whether a command still works on an Owl bank of the map that serves it: a lookup before its search, or a command that names
the bank. -/
def usesBank (s : State) (c : Cmd) (b : Nat) : Bool :=
  let op := Op.opcode c.bytes
  Op.engine c.bytes == 4 &&
  (if op ≤ 2 then
      decide (c.phase < op) && (s.im.bankPrefix b || s.oldIm.bankPrefix b) && s.serves c.old (.bank b) == some (Op.car c.bytes)
    else if op ≤ 6 then u8 c.bytes 12 == b
    else op == 7 && u8 c.bytes 14 == b)

/-- Whether a command is a calibration of a Fox block that has begun. -/
def calibrates (c : Cmd) (b : Nat) : Bool :=
  Op.engine c.bytes == 2 && Op.opcode c.bytes == 2 && decide (1 ≤ c.phase) && bit (u32 c.bytes 12) b

/-- The old-epoch commands that hold a moved resource. -/
def oldCmds (s : State) (r : Res) : List Nat :=
  keys (s.que.started.filter (fun k => k.2.old && match r with
    | .bank b => usesBank s k.2 b
    | .fox b => calibrates k.2 b
    | .queue q => k.2.q == q
    | _ => false))

/-- Old-epoch work that still runs on a moved resource (R59, R60). -/
def oldWork (s : State) (r : Res) : Bool := !(oldCoaches s r).isEmpty || !(oldCmds s r).isEmpty

/-- RESOURCE_CLEAR_START (R60, R256): the drain window has closed and the old-epoch work on the resource has ended. -/
def resourceClearStart (r : Res) (s : State) : State :=
  if s.cmp = 7 ∧ look r s.comp.moved = some .waiting ∧ oldWork s r = false then
    let s := setMoved r (.clearing s.ft) s
    match r with
    | .fox b => blockRowless b s
    | _ => s
  else s

def execResourceClearStart (r : Res) (s : State) : Result := done (live (resourceClearStart r) s)

/-- The time a resource's clearing takes, in nanoseconds (R60). -/
def clearTime : Res → Nat
  | .tile _ => 4400
  | .fox _ => 8200
  | .bank _ => 17500
  | .queue _ => 1000
  | _ => 0

/-- What a handed resource's unit becomes: the tile's SRAM and its shadow (R291), the block, the bank, the ring state. -/
def handOver (r : Res) (s : State) : State :=
  match r with
  | .tile t =>
    s |> forEach (keys (s.fox.shadows.filter (fun e => e.2.tile == t))) (fun k => shadowStopped k 1)
      |> onSeq (fun x => { x with windows := del t x.windows })
  | .fox b => blockHandover b s
  | .bank b => bankHandover b s
  | .queue q => setCtx q (resetCtx (s.ctx q)) s
  | _ => s

/-- RESOURCE_CLEARED (R60): cleared and handed to its new owner. -/
def resourceCleared (r : Res) (s : State) : State :=
  match look r s.comp.moved with
  | some (.clearing t) =>
    if s.ft < t + clearTime r then s else s |> setMoved r .handed |> handOver r |> switchComplete
  | _ => s

def execResourceCleared (r : Res) (s : State) : Result := done (live (resourceCleared r) s)

/-- Old-epoch work on a moved resource ended: coaches LATE, commands ABORTED. -/
def endOldWork (r : Res) (s : State) : State :=
  s |> forEach (oldCoaches s r) (fun id s => match s.coach id with
      | some c => failCoach id (if c.cmd.isSome then Status.aborted else Status.late) 0 3 s
      | none => s)
    |> forEach (oldCmds s r) (fun k => complete k Status.aborted 0 0)

/-- OLD_EPOCH_GRACE_END (R60): 400 µs after the drain window has closed. -/
def oldEpochGraceEnd (s : State) : State :=
  if s.cmp ≠ 7 ∨ s.ft < s.comp.drainEnd + 400000 then s
  else forEach ((s.comp.moved.filter (fun m => m.2 == .waiting)).map Prod.fst) endOldWork s

def execOldEpochGraceEnd (s : State) : Result := done (live oldEpochGraceEnd s)

/-! ### The time fault (R57, R87, R89) -/

/-- A pending entry that a time fault cancels: event 0x010A, and the parks that wait for a checkpoint. -/
def faultCancel (i : Nat) (s : State) : State :=
  match s.evt i with
  | some e =>
    s |> evtCancel i |> raise 0x010A (if e.kind = 1 then none else some e.car) [(2, i), (1, e.kind)] |> when (e.kind == 3) (parksTimeFault e.car e.arg)
  | none => s

/-- The pending entries of kinds 1 to 3. -/
def faultEntries (s : State) : List Nat :=
  keys (s.time.evts.filter (fun e => e.2.st == 1 && decide (1 ≤ e.2.kind) && decide (e.2.kind ≤ 3)))

/-- HOLDOVER_LIMIT: FAULT after 10,000,000 ns of HOLDOVER. -/
def holdoverLimit (s : State) : State :=
  if s.tt ≠ 3 ∨ s.ft < s.time.holdFrom + 10000000 then s
  else
    let us := min ((s.ft - s.time.holdFrom) / 1000) 16383
    let s := s |> setRg .TT_STATUS_STATE 0 4 |> setRg .TT_STATUS_FAULT_SEEN 0 1 |> setRg .TT_HOLD_HOLD_US 0 us
      |> raise 0x0104 none [] |> noticeAll 0x01 us
    s |> forEach (faultEntries s) faultCancel |> when (s.cmp == 5) cancelSwitch

def execHoldoverLimit (s : State) : Result := done (live holdoverLimit s)

end Sys2Proof.Machine
end

