-- ==== Sys2Proof/Machine/Start.lean ====
section
/-! DEFINITION. Start-up: reset, boot, the persistence record, the composition, the tile level, discovery and READY
(R5, R25, R47, R249, R292, R489, R494, R495, R533 to R545, R552, R556, R571, R594, R598). -/

namespace Sys2Proof.Machine

open Sys2Proof

/-! ### RESET_N and power (R5, R25, R489, R533, R534, R594) -/

/-- A flash write that is cut short leaves a record that is not valid, and other content that nothing states
(assumption 11). -/
def flashCut (s : State) : State :=
  let junk := leBytes 8 (freeNow s)
  let f := s.sec.flash
  let f := match s.start.writing with
    | some (a, p, _, _) => { f with areas := put a { p with valid := false } f.areas }
    | none => f
  let f := if s.comp.commit.isSome then { f with composition := junk } else f
  let f := match s.sec.loader with
    | some l => if l.phase ≠ 3 then f else if l.kind = 1 then { f with firmware := junk }
      else if l.kind = 2 then { f with owner := junk } else f
    | none => f
  s |> freeTaken |> onSec (fun x => { x with flash := f })

/-- The empty state that a start begins from. What outlives it: the fuses, the flash, an accepted life-cycle request,
and, while power stays on, what a thermal trip and the registers of R292 and R558 leave. -/
def resetState (powered : Bool) (s : State) : State :=
  let r := State.reset
  let trip := powered && s.mon.tripped
  let x := r.start
  { r with
    pending := s.pending
    sent := s.sent
    freeCtr := s.freeCtr
    sec := { r.sec with fuses := s.sec.fuses, flash := s.sec.flash, lcPending := s.sec.lcPending }
    mon := { r.mon with tripped := trip }
    pkg := { r.pkg with thermAlert := trip, jtag := if powered then s.pkg.jtag else 0 }
    start := if powered then { x with
        discard := s.rg .BIST_X_TRIMS_DISCARD_HBM 0 + 2 * s.rg .BIST_X_TRIMS_DISCARD_FOX 0 +
          4 * s.rg .BIST_X_TRIMS_DISCARD_SERDES 0
        skip := s.rg .BIST_X_SKIP_ITEMS 0
        clearMap := s.rg .BEAR_REPAIR_CLEAR_AT_START 0 == 1 } else x }

/-- RESET_ASSERT (R594): RESET_N low holds the node in reset; all work ends. -/
def resetAssert (s : State) : State :=
  if s.start.inReset then s
  else
    let was := s.pkg.thermAlert
    let s := resetState s.start.powerGood (flashCut s)
    s |> onStart (fun x => { x with inReset := true }) |> when (was && !s.pkg.thermAlert) (emit (.thermAlert false))

def execResetAssert (s : State) : Result := done (resetAssert s)

/-- POWER_FAIL (R534, R587): PWR_GOOD falls. -/
def powerFail (s : State) : State :=
  if s.start.powerGood = false then s
  else s |> when (!s.start.inReset) flashCut |> onStart (fun x => { x with powerGood := false, writing := none })
    |> onComp (fun c => { c with commit := none }) |> onSec (fun x => { x with loader := none })

def execPowerFail (s : State) : Result := done (powerFail s)

/-- A life-cycle request accepted before takes effect (R489, Table SEC-4). -/
def lifeCycle (s : State) : State :=
  match s.sec.lcPending with
  | none => s
  | some b =>
    let f := s.sec.fuses
    let next := u8 b 13
    let f := { f with lc := next, lcCount := f.lcCount + 1 }
    let f := if next = 1 then { f with ownerRoot := slice b 16 64 } else f
    let ones := fun n => List.replicate n (255 : Byte)
    let f := if next = 4 then { f with idSeed := ones 32, slotKeys := (List.range 32).map (fun k => (k, ones 64)) } else f
    onSec (fun x => { x with fuses := f, lcPending := none }) s

/-- The owner record of flash in force from this start on, where it verifies (R488). -/
def ownerLoaded (s : State) : State :=
  let b := s.sec.flash.owner
  if ownerBodyOk s b ∧ signedUnder (padTo 64 s.sec.fuses.ownerRoot) b then onSec (fun x => { x with owner := b }) s
  else onSec (fun x => { x with owner := [] }) s

/-- RESET_RELEASE (R25, R535 step 1): a new start; the straps are sampled and the fuses read. -/
def resetRelease (straps : Nat) (s : State) : State :=
  if s.start.powerGood ∧ 1 ∈ s.start.done then s
  else
    let s := if s.start.powerGood then s else resetState false s
    { s with clk := 0, ft := 0 } |> lifeCycle |> ownerLoaded
      |> onStart (fun x => { x with inReset := false, done := [1] })
      |> setRg .GLB_NODE_ADDR_RACK 0 (straps / 128) |> setRg .GLB_NODE_ADDR_SLED 0 (straps / 8)
      |> setRg .GLB_NODE_ADDR_NODE 0 straps |> setRg .GLB_CORE_VID_CODE 0 s.sec.fuses.vid
      |> onPkg (fun x => { x with i3cAddr := 0x30 + straps % 8, i3cOffset := 0 }) |> setRg .BIST_SUP_PHASE 0 1
      |> (fun s => when (s.lc != 4) (setRg .SEC_BOOT_STATE 0 1) s)

def execResetRelease (straps : BitVec 12) (s : State) : Result := done (resetRelease straps.toNat s)

/-! ### FIRMWARE_VERIFIED (R494, R495) -/

/-- RECOVERY with a cause: 1 flash, 2 header or length, 3 signature, 4 ROLLBACK. -/
def enterRecovery (cause : Nat) (s : State) : State :=
  s |> setRg .SEC_BOOT_STATE 0 3 |> setRg .SEC_BOOT_CAUSE 0 cause |> raise 0x0B02 none []

/-- The fused ROLLBACK raised to a value (event 0x0B05). -/
def raiseRollback (v : Nat) (s : State) : State :=
  if s.sec.fuses.rollback < v then
    s |> onSec (fun x => { x with fuses := { x.fuses with rollback := v } }) |> raise 0x0B05 none []
  else s

/-- FIRMWARE_VERIFIED: a retired node boots no firmware (Table SEC-6). -/
def firmwareVerified (readOk : Bool) (s : State) : State :=
  if 1 ∉ s.start.done ∨ 2 ∈ s.start.done ∨ s.rg .SEC_BOOT_STATE 0 ≠ 1 then s
  else
    let b := s.sec.flash.firmware
    let cause := if readOk then fwCheck s b else 1
    if cause = 0 then s |> firmwareStarts b |> raiseRollback (fwRollback b) else enterRecovery cause s

def execFirmwareVerified (readOk : Bool) (s : State) : Result := done (live (firmwareVerified readOk) s)

/-! ### PERSIST_RESTORE (R292, R503, R541, R551, R552, R556, R571, R601) -/

/-- The ring carried on from a record: its records, then 0x0E03, then those of this start. -/
def restoreRing (a : Nat) (p : Persist) (s : State) : State :=
  let early := s.evr.ring.reverse
  s |> onEvr (fun e => { e with ring := p.ring.take 8192, next := p.next })
    |> raise 0x0E03 none [(4, (p.next + 2 ^ 32 - 1) % 2 ^ 32), (1, a)]
    |> forEach early (fun r => onEvr (fun e => { e with ring := pushRecord { r with seq := e.next } e.ring,
                                                        next := (e.next + 1) % 2 ^ 32 }))

/-- The tile map and states of a record (R292); a spare that shadowed is a spare again. BEAR_MAP is applied as written: a tile
that serves a logical index, also one that has failed in service, is that index's; an unmapped one is recorded with index 64. -/
def restoreTiles (p : Persist) (s : State) : State :=
  forEach p.tiles (fun e s =>
    let st := if e.2.1 = 2 then 1 else e.2.1
    s |> setRg .BEAR_T_STAT_STATE e.1 st |> when (decide (e.2.2 < 64)) (setRg .BEAR_MAP_PHYS e.2.2 e.1)) s

/-- The SerDes and cascade trims of a record, each set where it is valid. -/
def restoreSer (p : Persist) (s : State) : State :=
  if bit s.start.discard 2 then s
  else
    let cause := fun (e : Nat × Trim) => trimCause s e.2 (serSensor e.1)
    s |> forEach (p.serTrims.filter (fun e => cause e == none)) (fun e => serTrimLoad e.1 e.2.value)
      |> trimsRefused 2 (p.serTrims.map cause)

/-- What the newest valid record brings. -/
def restoreFrom (a : Nat) (p : Persist) (s : State) : State :=
  s |> onStart (fun x => { x with persist := some p, area := some a }) |> restoreRing a p
    |> onSeq (fun x => { x with retired := p.retiredFrames })
    |> onSec (fun x => { x with stored := some (p.current, p.digest), retired := p.retiredSlots })
    |> when (!s.start.clearMap) (restoreTiles p) |> restoreSer p |> excludeFailed p.failed
    |> setRg .BIST_SUP_CLEAN_LAST 0 (b2n p.clean)

/-- PERSIST_RESTORE: step 3. -/
def persistRestore (s : State) : State :=
  if 2 ∉ s.start.done ∨ 3 ∈ s.start.done then s
  else
    let bad := keys (s.sec.flash.areas.filter (fun e => !e.2.valid))
    let s := forEach bad (fun a => raise 0x0F0C none [(1, a)]) s
    let s := match newestArea s with
      | some (a, p) => restoreFrom a p s
      | none => onSec (fun x => { x with stored := some ([], []) }) s
    s |> countRetired |> onStart (fun x => { x with done := addSet 3 x.done, persistAt := s.clk })
      |> setRg .BIST_SUP_PHASE 0 2

def execPersistRestore (s : State) : Result := done (live persistRestore s)

/-! ### COMPOSITION_LOAD (R47) -/

/-- COMPOSITION_LOAD: step 4; a load that fails leaves INVALID, and start-up waits for R48. -/
def compositionLoad (readOk : Bool) (s : State) : State :=
  if 3 ∉ s.start.done ∨ s.start.tried ∨ s.comp.image.isSome then s
  else
    let s := onStart (fun x => { x with tried := true }) s
    let b := s.sec.flash.composition
    let n := u32 b 12
    if readOk = false then cmpInvalid 1 0 s
    else
      match validate s (b.take n) n false with
      | .ok im => s |> putInForce im |> raise 0x0201 none []
      | .error r => cmpInvalid r.1 r.2 s

def execCompositionLoad (readOk : Bool) (s : State) : Result := done (live (compositionLoad readOk) s)

/-! ### TILE_LEVEL (R249, R535 step 6, R541, R556) -/

/-- Why the stored trims of a macro are refused (R541). -/
def foxCause (s : State) (m : Nat) : Option Nat := (look m s.persisted.foxTrims).bind (fun t => trimCause s t (foxSensor s m))

/-- The start-up calibration of one macro of an owned block: with valid stored trims the verify phase, else all of it, for
which a macro outside the window waits, OUT, until FOX_CAL_DONE (Table FOX-5).
`cals` gives σ̂, offset and gain of the macros that end it (assumption 7). -/
def foxStart (m : Nat) (fails : List (Nat × Nat)) (cals : List (Nat × (Nat × Int × Int))) (s : State) : State :=
  let t := look m s.persisted.foxTrims
  let cause := foxCause s m
  let bad := fails.any (fun f => f == (3, m)) || s.persisted.failed.any (fun f => f == (3, m)) || bit s.start.discard 1
  let use_ := if cause.isSome || bad then none else t
  let s := when cause.isSome (raise 0x0504 none [(2, m)]) s
  let s := match use_ with
    | some t =>
      s |> foxTrimLoad m t.value |> setRg .FOX_STATUS_TRIMS_USED 0 1
        |> setMacro m { s.macro_ m with cal := some .load }
    | none => setMacro m { s.macro_ m with cal := some .start } s
  if verifyOnly (s.macro_ m).cal = false ∧ inWindow s m = false then setRg .FOX_M_STAT_STATE m 2 s
  else
    match look m cals with
    | some (sigma, off, gain) => if sigma ≤ 150 then calPass m sigma off gain s else calFail m sigma s
    | none => s |> calFail m (freeNow s % 256) |> freeTaken

/-- A tile or spare that fails its KAT is FAILED (event 0x0605 for a spare). -/
def katFailed (t : Nat) (s : State) : State :=
  let spare := s.tileSt t == 1
  s |> setTileSt t 4 |> when spare (raise 0x0605 none [])

/-- TILE_LEVEL: step 6. After a shutdown that was not clean, items 1 and 3 run first; `fails` names their failed units,
and, as those of item 7, the physical tiles whose KAT fails. -/
def tileLevel (ref : Nat) (fails : List (Nat × Nat)) (cals : List (Nat × (Nat × Int × Int))) (s : State) : State :=
  if 4 ∉ s.start.done ∨ 6 ∈ s.start.done then s
  else
    let dirty := s.rg .BIST_SUP_CLEAN_LAST 0 == 0
    let s := when dirty (fun s => s |> runItems [1, 3] ref fails |> (fun s => excludeFailed s.start.failed s)) s
    let ran := if dirty then s.start.failed else []
    let s := forEach (((fails.filter (fun f => f.1 == 7)).map Prod.snd).filter (fun t => decide (t ∈ physTiles))) katFailed s
    let ms := (List.range 2048).filter (fun m => (s.owner (.fox (m / 64))).isSome)
    let s := when (!bit s.start.discard 1) (trimsRefused 1 (ms.map (foxCause s))) s
    let s := forEach ms (fun m => foxStart m ran cals) s
    let inCal := ms.filter (fun m => s.macroSt m == 1)
    let worst := ((mostBy id (inCal.map (s.rg .FOX_M_STAT_SIGMA)))).getD 0
    s |> setRg .FOX_STATUS_STATE 0 2 |> raise 0x0501 none [(4, inCal.length), (1, worst)]
      |> onStart (fun x => { x with done := addSet 6 x.done })

def execTileLevel (windowOk : BitVec 8) (fails : List (Nat × Nat)) (cals : List (Nat × (Nat × Int × Int))) (s : State) : Result :=
  done (live (tileLevel windowOk.toNat fails cals) s)

/-! ### ANCHOR and STARTUP_SLOT (R536 to R538, R598) -/

/-- A: the first multiple of 2^27 at least 2^26 ns after LOCKED and the composition's coming into force. -/
def anchorAt (s : State) : Option Nat :=
  match s.start.compAt, s.start.lockAt with
  | some c, some l => some (ceilDiv (max c l + 2 ^ 26) (2 ^ 27) * 2 ^ 27)
  | _, _ => none

/-- FT of a level's slot for an anchor: node, sled, rack, fabric. -/
def slotAt (s : State) (a lvl : Nat) : Nat :=
  if lvl = 1 then a + (16 * s.rg .GLB_NODE_ADDR_NODE 0 + s.rg .GLB_NODE_ADDR_SLED 0) * 2 ^ 20 else a + 2 ^ (26 + lvl)

/-- The STARTUP_SLOT entries added to the node pool; none where it has no room for one. -/
def addSlots (a : Nat) : List Nat → State → Option State
  | [], s => some s
  | lvl :: r, s =>
    match evtFree s 6 0 with
    | some i => addSlots a r (evtTake i (slotAt s a lvl) 6 0 0 lvl s)
    | none => none

/-- ANCHOR: step 7, event 0x0F02. -/
def anchor (s : State) : State :=
  match anchorAt s, s.start.anchor with
  | some a, none =>
    if s.ft < a ∨ 4 ∉ s.start.done then s
    else
      match addSlots a [1, 2, 3, 4] s with
      | some t =>
        t |> setRg .BIST_ANCHOR_LO_FT_LO 0 a |> setRg .BIST_ANCHOR_HI_FT_HI 0 (a / 2 ^ 32) |> raise 0x0F02 none [(8, a)]
          |> onStart (fun x => { x with anchor := some a, done := addSet 7 x.done }) |> setRg .BIST_SUP_PHASE 0 4
      | none => s
  | _, _ => s

def execAnchor (s : State) : Result := done (live anchor s)

/-- A level begins: the node level releases the expanders, the others their links' transmit lanes. -/
def levelBegins (lvl : Nat) (s : State) : State :=
  let s := s |> setLevel lvl 1 |> onStart (fun x => { x with slots := put lvl s.ft x.slots })
  if lvl = 1 then forEach (List.range 4) (fun n => drivePerst n false) s
  else
    s |> forEach (levelLinks s lvl) (fun l s => setLink l { s.link l with started := true } s) |> levelCheck lvl

/-- STARTUP_SLOT: the entry fires in every time state. -/
def execStartupSlot (i : Fin 256) (s : State) : Result :=
  done (live (fireEntry i.val 6 (fun e => levelBegins e.arg)) s)

/-! ### The node level (R535 steps 8 and 9, R541, R542, R473) -/

/-- Stacks whose stored trims are valid. -/
def hbmValid (s : State) (k : Nat) : Bool :=
  (look k s.persisted.hbmTrims).any (fun t => trimCause s t (stackSensor k) == none) && !bit s.start.discard 0 &&
  s.persisted.failed.all (fun f => f != (4, k))

/-- The trims of the stacks trained in full, taken for the records to come (R550); their content is the PHY's. -/
def takeHbm_ (ks : List Nat) (s : State) : State :=
  forEach ks (fun k s =>
    let p := s.persisted
    let t : Trim := { ft := s.ft, temp := s.temp (stackSensor k), value := leBytes 8 (freeNow s) }
    s |> freeTaken |> onStart (fun x => { x with persist := some { p with hbmTrims := put k t p.hbmTrims } })) s

/-- HBM_TRAINING_DONE: the stacks that trained warm, by valid trims, and those that trained in full; the rest are left
out (event 0x0F05). -/
def hbmTrainingDone (warm cold : Nat) (s : State) : State :=
  if 7 ∉ s.start.done ∨ 8 ∈ s.start.done ∨ s.level 1 = 0 then s
  else
    let ks := List.range 16
    let w := ks.filter (fun k => bit warm k && hbmValid s k)
    let c := ks.filter (fun k => decide (k ∉ w) && (bit warm k || bit cold k))
    let out := ks.filter (fun k => decide (k ∉ w) && decide (k ∉ c))
    let causes := ks.map (fun k => (look k s.persisted.hbmTrims).bind (fun t => trimCause s t (stackSensor k)))
    s |> when (!bit s.start.discard 0) (trimsRefused 0 causes) |> onMem (fun m => { m with trained := w ++ c })
      |> setRg .MEM_STATUS_STACKS 0 (bitMap (w ++ c)) |> setRg .BIST_STACK_FAIL_STACKS 0 (bitMap out)
      |> setRg .BIST_SUP_WARM 0 (b2n (w.length == 16)) |> setRg .BIST_SUP_DEGRADED 0 (b2n (!out.isEmpty))
      |> forEach out (fun _ => raise 0x0F05 none []) |> takeHbm_ c
      |> onStart (fun x => { x with warm := w, done := addSet 8 x.done })

def execHbmTrainingDone (warm cold : BitVec 16) (s : State) : Result :=
  done (live (hbmTrainingDone warm.toNat cold.toNat) s)

/-- HBM_INIT_DONE: the directory shares are cleared; the node level is DONE. -/
def hbmInitDone (s : State) : State :=
  if 8 ∉ s.start.done ∨ 9 ∈ s.start.done then s
  else
    let gs := s.mem.trained.flatMap (fun k => (List.range 4).map (fun i => 4 * k + i))
    s |> forEach gs (fun g => zeroAt (hbmAddr g 0) s.im.shareSize) |> ownMaps |> levelCheck 1
      |> onStart (fun x => { x with done := addSet 9 x.done })

def execHbmInitDone (s : State) : Result := done (live hbmInitDone s)

/-! ### Discovery and READY (R539, R543) -/

/-- DISCOVERY_TIMEOUT: a level is INCOMPLETE once BIST_DISC_WAIT has passed since its slot (event 0x0F03). -/
def discoveryTimeout (lvl : Nat) (s : State) : State :=
  let ms := max 1 (s.rg .BIST_DISC_WAIT_MS 0)
  let missing := levelMissing s lvl
  match look lvl s.start.slots with
  | some t =>
    if s.level lvl = 1 ∧ missing ≠ [] ∧ t + ms * 1000000 ≤ s.ft then
      s |> setLevel lvl 3 |> raise 0x0F03 none [(1, lvl), (1, bitMap missing)]
    else s
  | none => s

def execDiscoveryTimeout (level : Fin 4) (s : State) : Result := done (live (discoveryTimeout (level.val + 1)) s)

/-- Whether steps 1 to 9 of Table SUP-1 have ended and the fabric level's slot has fired. -/
def readyDue (s : State) : Bool :=
  [1, 2, 3, 4, 6, 7, 8, 9].all (fun n => decide (n ∈ s.start.done)) && s.start.lockAt.isSome && has 4 s.start.slots

/-- READY: event 0x0F01, the in-band interrupt, and JOINED over the first UP link. -/
def ready (s : State) : State :=
  if readyDue s = false ∨ 11 ∈ s.start.done ∨ firingAllowed s = false then s
  else
    let ms := min 65535 (s.clk / 1000000)
    let s := s |> setRg .BIST_SUP_PHASE 0 5 |> setRg .BIST_SUP_MS_READY_MS 0 ms
      |> raise 0x0F01 none [(2, ms), (1, s.rg .BIST_SUP_WARM 0), (1, s.rg .BIST_SUP_DEGRADED 0)] |> emit (.ibi 1)
      |> onStart (fun x => { x with done := addSet 11 x.done })
    if (List.range 8).any (fun l => (s.link l).st == .up) then sendJoined s
    else onStart (fun x => { x with joinedDue := true }) s

def execReady (s : State) : Result := done (live ready s)

end Sys2Proof.Machine
end

