-- ==== Sys2Proof/Machine/Tables.lean ====
section
/-! DEFINITION. The queued blocks of compression tables, TABLE_INSTALL and TABLE_REMOVE (R214 to R219). -/

namespace Sys2Proof.Machine

open Sys2Proof

/-! ### Queued blocks (R216) -/

/-- Blocks of a page that work under a table counts: its expansion, where it is stored under the table, and its compression. -/
def blocksOf (id : Nat) (g : Page) (dest : Option Nat) : Nat := b2n (g.comp && g.tableId == id) + b2n (dest == some id)

/-- Blocks of the PAGE_MOVEs that wait to begin. -/
def waitingBlocks (s : State) (id : Nat) : Nat :=
  sumOf (fun k => ((s.cmd k).bind (fun c => (look (u32 c.bytes 12) s.seq.pages).map (fun g =>
    if moveStays s c g then 0 else blocksOf id g (moveTable s c g)))).getD 0) s.seq.moveWait

/-- Blocks of the PAGE_COPYs that run. -/
def copyBlocks (s : State) (id : Nat) : Nat :=
  sumOf (fun c => ((look (Op.seqId c.bytes) s.seq.seqs).bind (fun q => (copyLeaf s c q).bind (fun l =>
    (look l.page s.seq.pages).map (fun g => blocksOf id g none)))).getD 0) (copies s)

/-- The candidates of a coach that Badger has still to read. -/
def Coach.unread (c : Coach) : List Cand :=
  if c.gather then (c.toRead.map Prod.snd).filter (fun x => !has x.leaf c.ahead) else c.cands.getD []

/-- Blocks of the candidates of accepted departures. -/
def coachBlocks (s : State) (id : Nat) : Nat :=
  sumOf (fun e => if e.2.open_ then
      countOf (fun x => (look x.page s.seq.pages).any (fun g => g.comp && g.tableId == id)) e.2.unread
    else 0) s.fox.coaches

/-- Blocks of the parks whose transfer has not begun: a WARM one compresses what it moves, any other expands and compresses
what its image holds. -/
def parkBlocks (s : State) (id : Nat) : Nat :=
  sumOf (fun e => if e.2.moving then 0 else
    ((s.cmd e.1).bind (fun c => (look e.2.seq s.seq.seqs).map (fun q =>
      if Pk.mode c.bytes = 0 then sumOf (fun x => blocksOf id x.g (parkTable s q x.g)) (parkMoves s c.bytes q)
      else sumOf (fun x => blocksOf id x.g (parkPack s q x)) (parkPages s q (parkLimit c.bytes))))).getD 0) s.park.parks

/-- Blocks of the compressed pages that resumes have still to import. -/
def resumeBlocks (s : State) (id : Nat) : Nat :=
  sumOf (fun e => if Op.engine e.2.bytes = 1 ∧ Op.opcode e.2.bytes = 0x31 ∧ e.2.phase = 3 then
      countOf (fun i => let x := slice (arrayOf s e.2) (128 * i) 128; bit (Ent.flags x) 1 && u16 x 116 == id) e.2.note
    else 0) s.que.started

/-- QUEUED of a table: the blocks of accepted work that will be expanded or compressed under it and have not yet been (R216). -/
def queuedNow (s : State) (t : TSlot) : Nat :=
  t.queued + waitingBlocks s t.id + copyBlocks s t.id + coachBlocks s t.id + parkBlocks s t.id + resumeBlocks s t.id

/-- QUEUED + STORED of a slot's table. -/
def slotLoad (s : State) (t : TSlot) : Nat := queuedNow s t + tableInUse s t.id

/-! ### TABLE_INSTALL and TABLE_REMOVE -/

/-- Whether the 64-byte header of a table image is well formed. -/
def tableHeadOk (d : List Byte) : Bool :=
  u32 d 0 == 0x42415442 && decide (u16 d 4 < 4096) && u8 d 6 == 12 && allZero (slice d 7 57)

/-- The slot that an install takes, or none for TABLE_BUSY (R217). -/
def installSlot (s : State) (cls : Nat) : Option Nat :=
  let at_ := fun i => look (2 * cls + i) s.seq.tables
  let free := fun i => (at_ i).isNone
  let idle := fun i => (at_ i).any (fun t => slotLoad s t == 0)
  let cur := fun i => (at_ i).any (fun t => t.cur)
  if free 0 then some 0 else if free 1 then some 1
  else if idle 0 && idle 1 then (if cur 0 then some 1 else some 0)
  else if idle 0 then some 0 else if idle 1 then some 1 else none

/-- QUEUED + STORED of a class's slot. -/
def classLoad (s : State) (cls i : Nat) : Nat := ((look (2 * cls + i) s.seq.tables).map (slotLoad s)).getD 0

/-- TABLE_BUSY with both counts (event 0x0403). -/
def tableBusy (k c cls : Nat) (s : State) : State :=
  let a := classLoad s cls 0
  let b := classLoad s cls 1
  s |> raise 0x0403 (some c) [(1, cls), (4, a), (4, b)] |> complete k Status.tableBusy 0 (a + b * 2 ^ 32)

/-- Whether another install of a class has chosen its slot and is still fetching its image. -/
def installing (s : State) (k cls : Nat) : Bool :=
  s.que.started.any (fun e => e.1 != k && Op.engine e.2.bytes == 1 && Op.opcode e.2.bytes == 0x10 && e.2.phase == 2 &&
    e.2.note.headD 0 / 256 == cls)

/-- The image has arrived: it is checked and installed, and is CURRENT from then on. A slot whose table is used again
meanwhile is replaced once that work is done (R218). -/
def installDone (k : Nat) (c : Cmd) (d : List Byte) (s : State) : State :=
  let car := Op.car c.bytes
  let id := c.note.headD 0
  let i := nth 0 c.note 1
  let cls := id / 256
  if tableHeadOk d = false ∨ u16 d 4 ≠ id ∨ Config.tableAgrees d = false then completeReason k Status.badCommand 7 s
  else if classLoad s cls i ≠ 0 then s
  else
    let t : TSlot := { id := id, cur := true, queued := 0, image := d }
    s |> onSeq (fun x => { x with
        tables := put (2 * cls + i) t (upd (2 * cls + (1 - i)) (fun t => { t with cur := false }) x.tables)
        classOwner := put cls car x.classOwner })
      |> raise 0x0402 (some car) [(2, id), (1, i)] |> complete k Status.ok 0 0

/-- The header has arrived: the tests of R217, then the fetch of the whole image. An install waits for an earlier one of its
class to end. -/
def installAccept (k : Nat) (c : Cmd) (d : List Byte) (s : State) : State :=
  let car := Op.car c.bytes
  let id := u16 d 4
  let cls := id / 256
  if tableHeadOk d = false then completeReason k Status.badCommand 7 s
  else if classForeign s car cls then completeReason k Status.accessDenied 4 s
  else if (tableOf s id).isSome then complete k Status.ok 0 0 s
  else if installing s k cls then s
  else
    match installSlot s cls with
    | none => tableBusy k car cls s
    | some i =>
      let c := { c with phase := 2, note := [id, i] }
      fetchTo k c (u64 c.bytes 12) 18496 true (installDone k c) s

/-- TABLE_INSTALL. Its class stands in the image's header, which is therefore read first (DEDUCED, assumption 17). -/
def tableInstall (k : Nat) (c : Cmd) (s : State) : State :=
  if u32 c.bytes 20 ≠ 18496 then complete k Status.badCommand 0 0 s
  else if c.ready = false then s
  else if c.phase = 2 then fetchTo k c (u64 c.bytes 12) 18496 true (installDone k c) s
  else
    let c := { c with phase := 1 }
    fetchTo k c (u64 c.bytes 12) 64 false (installAccept k c) s

def execTableInstall (k : Nat) (s : State) : Result := done (live (withCmd k 1 0x10 (tableInstall k)) s)

/-- TABLE_REMOVE (R219). -/
def tableRemove (k : Nat) (c : Cmd) (s : State) : State :=
  let car := Op.car c.bytes
  let id := u16 c.bytes 12
  match tableOf s id with
  | none => if classForeign s car (id / 256) then completeReason k Status.accessDenied 4 s else complete k Status.badCommand 0 0 s
  | some (i, t) =>
    if classForeign s car (id / 256) then completeReason k Status.accessDenied 4 s
    else if slotLoad s t ≠ 0 then completeReason k Status.accessDenied 5 s
    else
      let s := onSeq (fun x => { x with tables := del i x.tables }) s
      let empty := s.seq.tables.all (fun t => t.1 / 2 != id / 256)
      s |> when empty (onSeq (fun x => { x with classOwner := del (id / 256) x.classOwner })) |> complete k Status.ok 0 0

def execTableRemove (k : Nat) (s : State) : Result := done (live (withCmd k 1 0x11 (tableRemove k)) s)

end Sys2Proof.Machine
end

