-- ==== Sys2Proof/Machine/Readings.lean ====
section
/-! DEFINITION. What the fields read that are not stored values but show the state of a block: the counts, states and
maps of the register tables (R31 to R584). Every other field reads its cell. -/

namespace Sys2Proof.Machine

open Sys2Proof

/-- The 32-byte record of Table MON-5 (R568). -/
def EvRec.bytes (r : EvRec) : List Byte :=
  leBytes 4 r.seq ++ leBytes 8 r.ft ++ leBytes 2 r.code ++ leBytes 1 r.ctx ++ leBytes 1 r.mark ++ leBytes 2 r.supp ++ padTo 14 r.data

/-- The record in slot `k` of the ring: record SEQ lies in slot SEQ mod 8,192 (R567); zeros where none does. -/
def ringSlot (s : State) (k : Nat) : List Byte :=
  ((s.evr.ring.find? (fun r => r.seq % 8192 == k)).map EvRec.bytes).getD (zeros 32)

/-- Word `w` of entry readback (Table TT-9). -/
def evtWord (s : State) (i w : Nat) : Nat :=
  match s.evt i with
  | none => 0
  | some e =>
    match w with
    | 0 => e.ft % 2 ^ 32
    | 1 => e.ft / 2 ^ 32
    | 2 => e.kind + e.car * 16 + e.per * 256 + e.st * 8192
    | _ => e.arg

/-- LANES and STATE of an Onzon port (Table QUE-1). -/
def OLink.code : OLink → Nat
  | .down => 0
  | .training => 1
  | .up => 2
  | .degraded => 3

def OLink.lanes : OLink → Nat
  | .up => 8
  | .degraded => 4
  | _ => 0

/-- STATE of a fabric link (Table PRT-3). -/
def LState.code : LState → Nat
  | .down => 0
  | .training => 1
  | .up => 2
  | .repair => 3
  | .failed => 4

/-- The links in a state, as a bit map. -/
def linksIn (s : State) (st : LState) : Nat := bitMap ((List.range 8).filter (fun l => (s.link l).st == st))

/-- The semaphores that a port holds, as a bit map. -/
def semMap (s : State) (p : Nat) : Nat := bitMap ((List.range 64).filter (s.holdsSem p))

/-- Free rows of a carriage's macros on a half. -/
def rowsFree (s : State) (c h : Nat) : Nat := sumOf (fun m => 512 - rowsUsed s m) (bindMacros s c h)

/-- The descriptor that a port's BDG_SEQ_LOOKUP_ID names. -/
def lookedUp (s : State) (p : Nat) : Option Seqd := look (s.rg .BDG_SEQ_LOOKUP_ID_SEQ_ID p) s.seq.seqs

/-- The logical index that a physical tile serves, or shadows (BEAR_T_STAT.LOGICAL). -/
def tileServes (s : State) (t : Nat) : Nat :=
  match s.shadow t with
  | some x => x.tile
  | none => tileLogical s t

/-- The identity public key, the endorsement and 13 zero bytes (SEC_ID). -/
def idBytes (s : State) : List Byte :=
  padTo 2592 (Config.identityKey s.sec.fuses.idSeed) ++ padTo 4627 s.sec.flash.endorsement ++ zeros 13

/-- The tokens of the bucket that a port's TRF_SEL names: bucket C, or E and P. -/
def tokensRead (s : State) (p : Nat) (second : Bool) : Nat :=
  let i := s.rg .TRF_SEL_INDEX p
  if s.rg .TRF_SEL_POLICER p = 1 then (if second then (s.policer i).te else (s.policer i).tc) / 1024
  else if second then 0 else (s.shaper i).tokens / 1024

/-- What the fields of the GLB, TT, CMP and QUE blocks read that show state. TT_STEER_ACC, in whole nanoseconds, is the phase
rounded down (DESIGN CHOICE, assumption 36). -/
def fieldValue0 (p : Nat) (s : State) (n : RN) (i : Nat) : Option Nat :=
  match n with
  | .GLB_SEM_OWNER => some (semWord s p i % 4)
  | .GLB_SEM_GRANTED => some (bits (semWord s p i) 2 1)
  | .GLB_SEM_LEASE_MS => some (bits (semWord s p i) 8 7)
  | .GLB_SEM_OWNED_A_LO_SEM => some (semMap s 0)
  | .GLB_SEM_OWNED_A_HI_SEM => some (semMap s 0 / 2 ^ 32)
  | .GLB_SEM_OWNED_B_LO_SEM => some (semMap s 1)
  | .GLB_SEM_OWNED_B_HI_SEM => some (semMap s 1 / 2 ^ 32)
  | .TT_FT_LO_FT_LO => some s.ft
  | .TT_FT_HI_FT_HI => some (s.ft / 2 ^ 32)
  | .TT_HOLD_HOLD_US => if s.tt = 3 then some (min 16383 ((s.ft - s.time.holdFrom) / 1000)) else none
  | .TT_GRID_K => some s.gridK
  | .TT_EVT_FREE_FREE => some (256 - countOf (evtPending s) (List.range 256))
  | .TT_EVT_FREE_POOL_FREE => some (32 - countOf (fun k => evtPending s (224 + k)) (List.range 32))
  | .TT_EVT_ENTRY => some (evtWord s (i / 4) (i % 4))
  | .TT_STEER_ACC_ACC => some (unsigned 16 (s.time.acc / 100000000000))
  | .CMP_EPOCH_CURRENT => some s.im.epoch
  | .CMP_DRAIN_DRAIN_US => some s.im.drainUs
  | .CMP_ACTIVE_DIGEST_DIGEST => some ((s.comp.image.map (fun im => u32 im.digest (4 * i))).getD 0)
  | .CMP_OWNER_OWNERS => some (sumOf (fun k => s.ownerCode (k + 1) % 4 * 4 ^ k) (List.range 4))
  | .CMP_CARRIAGE_VALID_VALID => some (bitMap s.im.cars)
  | .QUE_PORT_STATUS_STATE => some (s.onz i).link.code
  | .QUE_PORT_STATUS_LANES => some (s.onz i).link.lanes
  | .QUE_CTX_STATUS_STATE => some (s.ctx i).st
  | .QUE_CTX_STATUS_LEAVING => some (b2n (decide (Res.queue i ∈ s.comp.leaving)))
  | .QUE_CTX_STATUS_CARRIAGE => some ((s.im.owner (.queue i)).getD 0)
  | .QUE_CTX_STATUS_STOP_CAUSE => some (s.ctx i).cause
  | .QUE_CTX_STATUS_INFLIGHT => some (s.ctx i).inflight
  | .QUE_CTX_PTR_SQ_HEAD => some (s.ctx i).sqHead
  | .QUE_CTX_PTR_CQ_TAIL => some (s.ctx i).cqTail
  | .QUE_STOPPED_STOPPED => some (bitMap ((List.range 32).filter (fun j => (s.ctx (32 * i + j)).st == 3)))
  | _ => none

/-- What the fields of the BDG block read that show state. -/
def fieldValue1 (p : Nat) (s : State) (n : RN) (i : Nat) : Option Nat :=
  match n with
  | .BDG_SEQ_FORMAT_SIZE_CODE => some s.im.sizeCode
  | .BDG_SEQ_FORMAT_DIR_SHARE => some s.im.dirShare
  | .BDG_SEQ_ACTIVE_COUNT => some s.seq.seqs.length
  | .BDG_SEQ_C_SEQ_COUNT => some (countOf (fun q => q.2.car == i) s.seq.seqs)
  | .BDG_SEQ_C_HBM_FREE_E_FRAMES => some (halfFree s i 0)
  | .BDG_SEQ_C_HBM_FREE_W_FRAMES => some (halfFree s i 1)
  | .BDG_SEQ_C_CXL_FREE_FRAMES => some (cxlFreeCount s i)
  | .BDG_SEQ_C_DIR_FREE_ENTRIES => some (sumOf (fun g => s.im.entriesPerGroup - dirUsed s g) (s.groupsOf i))
  | .BDG_SEQ_C_SHARED_PAGES => some (countOf (fun e => e.2.car == i && decide (1 < e.2.refs)) s.seq.pages)
  | .BDG_SEQ_C_FROZEN_COUNT => some (countOf (fun e => e.2.car == i && e.2.st == 2) s.seq.seqs)
  | .BDG_SEQ_C_TABLE_FRAMES => some (tableMemory s i)
  | .BDG_SEQ_STAGE_HELD => some s.seq.staged.length
  | .BDG_SEQ_STAGE_KIB => some (ceilDiv (stagedBytes s 0 + stagedBytes s 1) 1024)
  | .BDG_SEQ_LOOKUP_STATE => some (((lookedUp s p).map Seqd.st).getD 0)
  | .BDG_SEQ_LOOKUP_CARRIAGE => some (((lookedUp s p).map Seqd.car).getD 0)
  | .BDG_SEQ_LOOKUP_FOUND => some (b2n (lookedUp s p).isSome)
  | .BDG_SEQ_LOOKUP_FREEZE_FREEZE_POS => some (((lookedUp s p).map Seqd.freeze).getD 0)
  | .BDG_STATUS_BRIDGE_E => some (b2n (!ownBuffer s 0 && bufferServes s 0))
  | .BDG_STATUS_BRIDGE_W => some (b2n (!ownBuffer s 1 && bufferServes s 1))
  | .BDG_INFLIGHT_EAST => some (movesOnHalf s 0)
  | .BDG_INFLIGHT_WEST => some (movesOnHalf s 1)
  | .BDG_C_INFLIGHT_MOVES => some (movesOfCar s i)
  | .BDG_C_WEIGHT_MIB => some (ceilDiv (weightHeld s i) 1048576)
  | .BDG_ZEROED_LO_GROUP => some (bitMap s.seq.zeroed)
  | .BDG_ZEROED_HI_GROUP => some (bitMap s.seq.zeroed / 2 ^ 32)
  | .BDG_TABLE_META_TABLE_ID => some (((look i s.seq.tables).map TSlot.id).getD 0)
  | .BDG_TABLE_META_VALID => some (b2n (has i s.seq.tables))
  | .BDG_TABLE_META_CURRENT => some (b2n (((look i s.seq.tables).map TSlot.cur).getD false))
  | .BDG_TABLE_META_OWNER => some (lookD (i / 2) 0 s.seq.classOwner)
  | .BDG_TABLE_STORED_COUNT => some (((look i s.seq.tables).map (fun t => tableInUse s t.id)).getD 0)
  | .BDG_TABLE_QUEUED_COUNT => some (((look i s.seq.tables).map (queuedNow s)).getD 0)
  | .BDG_PARK_C_CTRL_LOW => some (parkLow s i)
  | .BDG_PARK_C_CTRL_HIGH => some (parkHigh s i)
  | .BDG_PARK_C_ACTIVE_PARKING =>
    some (countOf (fun x => !x.2.waiting && (s.cmd x.1).any (fun c => Op.car c.bytes == i)) s.park.parks)
  | .BDG_PARK_C_ACTIVE_RESUMING => some (countOf (fun e => e.2.car == i && e.2.st == 6) s.seq.seqs)
  | .BDG_LOG_C_USED_FRAMES => some (logFrames s i).length
  | .BDG_LOG_C_ENTRIES_COUNT => some (logOf s i).length
  | _ => none

/-- What the fields of the FOX, BEAR, PRT and TRF blocks read that show state. -/
def fieldValue2 (p : Nat) (s : State) (n : RN) (i : Nat) : Option Nat :=
  match n with
  | .FOX_STATUS_OUT => some (countOf (fun m => decide (2 ≤ s.macroSt m) && (s.owner (.fox (m / 64))).isSome) (List.range 2048))
  | .FOX_C_ROWS_E_FREE => some (rowsFree s i 0)
  | .FOX_C_ROWS_W_FREE => some (rowsFree s i 1)
  | .FOX_C_ROWLESS_PAGES => 
    some (countOf (fun e => e.2.car == i && e.2.sealed_ && !e.2.foxRow.any (fun r => s.macroSt (r / 512) == 1)) s.seq.pages)
  | .FOX_M_STAT_TSENS => some (if s.macroSt i = 0 then 0 else foxTsens s i)
  | .FOX_M_STAT_VMON => some (if s.macroSt i = 0 then 0 else foxVmon s i)
  | .FOX_M_AGE_MS => some (min 4294967295 ((s.clk - (s.macro_ i).calAt) / 1000000))
  | .BEAR_STATUS_SPARES_E => some (countOf (fun t => s.tileSt t == 1) (List.range 34))
  | .BEAR_STATUS_SPARES_W => some (countOf (fun t => s.tileSt (64 + t) == 1) (List.range 34))
  | .BEAR_STATUS_SHADOWING => some (bitMap ((List.range 4).filter (fun k => s.tileSt (sparePhys k) == 2)))
  | .BEAR_T_STAT_LOGICAL => some (tileServes s i)
  | .BEAR_T_STAT_CARRIAGE => some ((s.owner (.tile (tileServes s i))).getD 0)
  | .PRT_DEP_C_CTX_IN_USE => some (ctxUsed s i)
  | .PRT_DEP_C_CTX_QUOTA => some (s.im.ctxQuota i)
  | .PRT_DEP_C_BUF_IN_USE => some (bufUsed s i)
  | .PRT_DEP_C_BUF_QUOTA => some (s.im.bufQuota i)
  | .PRT_DEP_C_COACHMEM_FREE_4K => some (coachShare s false i - coachMemUsed s i)
  | .PRT_DEP_X_LEAD_ADJ_NS => some s.dep.leadAdj.new
  | .PRT_STATUS_UP => some (linksIn s .up)
  | .PRT_STATUS_REPAIR => some (linksIn s .repair)
  | .PRT_STATUS_FAILED => some (linksIn s .failed)
  | .PRT_OPS_IN_USE => some s.opsInUse
  | .PRT_C_OPS_IN_USE => some (s.opsOf i)
  | .PRT_C_OPS_QUOTA => some (s.im.opQuota i)
  | .PRT_PAGING_BUF_KIB_FREE => some (8192 - ceilDiv (pagingUsed s) 1024)
  | .PRT_Ln_STATUS_STATE => some (s.link i).st.code
  | .PRT_Ln_STATUS_IN_RACK => some (b2n (s.im.inRack i))
  | .PRT_Ln_STATUS_OPTICAL => some (b2n (s.im.optical i))
  | .PRT_Ln_SPARE_SPARE_LANE => some (s.im.spareLane i)
  | .PRT_Ln_SPARE_WAVE_SPARE => some (s.im.waveSpare i)
  | .TRF_STATUS_REFILL_EXP => some s.im.refillExp
  | .TRF_STATUS_PENDING => some (b2n (has p s.trf.pending))
  | .TRF_TOKENS_BYTES => some (tokensRead s p false)
  | .TRF_TOKENS2_BYTES => some (tokensRead s p true)
  | .TRF_SLOT_OWNER => some (s.im.slotOwner (i / 16) (i % 16))
  | .TRF_Ln_ISO_ISO_CREDIT => some (s.im.isoCredit i)
  | .TRF_X_WRR_RESP => some (s.trf.wrr.new % 16)
  | .TRF_X_WRR_BULK => some (s.trf.wrr.new / 16)
  | _ => none

/-- What the fields of the OWL, MEM, SEC, RAS, BIST and EVR blocks read that show state. -/
def fieldValue3 (p : Nat) (s : State) (n : RN) (i : Nat) : Option Nat :=
  match n with
  | .OWL_STATUS_CASCADE => some (if cascadeOn s then s.owl.cascade else 0)
  | .OWL_STATUS_COUNT => some s.im.cascadeCount
  | .OWL_STATUS_SHIFTING => some (bitMap ((List.range 16).filter (fun b => (s.bank b).shift.isSome)))
  | .OWL_C_WATCHERS_COUNT => some (countOf (fun w => w.2.car == i) s.owl.watches)
  | .OWL_BANK_MODE => some (s.im.bankMode i)
  | .OWL_BANK_USE => some (b2n (s.im.bankClassify i))
  | .OWL_BANK_CASCADE => some (b2n (s.im.bankCascade i))
  | .OWL_BANK_CARRIAGE => some ((s.owner (.bank i)).getD 0)
  | .OWL_BANK_OWNED => some (b2n (s.owner (.bank i)).isSome)
  | .OWL_BANK_USED => some (s.bank i).used
  | .MEM_CXLn_RANGES_DISABLED =>
    let w := s.rg .MEM_CXLn_RANGES_SEL_W (4 * p + i)
    some (bitMap ((List.range 32).filter (fun r => decide (r + 32 * w ∈ (s.cxlPort i).disabled))))
  | .SEC_LC_STATE => some s.lc
  | .SEC_LC_COUNT => some s.sec.fuses.lcCount
  | .SEC_FW_ROLLBACK => some s.sec.fuses.rollback
  | .SEC_UID_LO_UID_LO => some s.sec.fuses.uid
  | .SEC_UID_HI_UID_HI => some (s.sec.fuses.uid / 2 ^ 32)
  | .SEC_LOAD_STATUS_BUSY => some (b2n s.sec.loader.isSome)
  | .SEC_ATTEST_BUSY => some (b2n (has p s.sec.attest))
  | .SEC_SESSIONS_LOADED => some s.sec.sessions.length
  | .SEC_SLOT_STAT_STATE => some (slotState s i)
  | .SEC_SLOT_STAT_OWNER => some ((s.owner (.slot i)).getD 0)
  | .SEC_SLOT_STAT_OWNED => some (b2n (s.owner (.slot i)).isSome)
  | .SEC_SLOT_PAGES_COUNT => some (slotPages s i)
  | .SEC_RETIRED_SLOTS => some (bitMap s.sec.retired)
  | .SEC_CURRENT_SLOT => some (lookD i 0 s.sec.current)
  | .SEC_CURRENT_VALID => some (b2n (has i s.sec.current))
  | .SEC_CURRENT_SWEEP => some (b2n ((s.slotsOf i).any (fun k => slotState s k == 2)))
  | .SEC_REPORT => some (u32 (lookD p [] s.sec.reports) (4 * (i % 1296)))
  | .SEC_ID => some (u32 (idBytes s) (4 * i))
  | .SEC_KEMPUB => some (u32 (padTo 1568 (Config.kemKey s.sec.kem)) (4 * i))
  | .RAS_HELD_COUNT => some s.ras.holds.length
  | .RAS_STEPS_IN_USE => some s.ras.steps.length
  | .RAS_C_STEPS_IN_USE => some (countOf (fun r => r.car == i) s.ras.steps)
  | .BIST_LAST_RESULT_ITEMS => some ((s.persisted.results.map Prod.fst).getD 0)
  | .BIST_LAST_RESULT_VALID => some (b2n s.persisted.results.isSome)
  | .EVR_STATUS_COUNT => some (countOf (fun r => r.mark == 0xA5) s.evr.ring)
  | .EVR_STATUS_PERSIST_BUSY => some (b2n s.start.writing.isSome)
  | .EVR_STATUS_PURGE_BUSY => some (b2n (!s.evr.purge.isEmpty || decide (0 < s.start.clearWrites)))
  | .EVR_HEAD_SEQ => some ((s.evr.ring.head?.map EvRec.seq).getD 0)
  | .EVR_RING => some (u32 (ringSlot s (i / 8)) (4 * (i % 8)))
  | _ => none

/-- What a field reads that shows state, by the block of its register. -/
def shown (p : Nat) (s : State) (blk : Nat) (n : RN) (i : Nat) : Option Nat :=
  if blk ≤ 3 then fieldValue0 p s n i
  else if blk = 4 then fieldValue1 p s n i
  else if blk ≤ 8 then fieldValue2 p s n i
  else fieldValue3 p s n i

end Sys2Proof.Machine
end

