-- ==== Sys2Proof/WellFormed.lean ====
section
/-! DEFINITION. Which commands are well formed: a register access names an offset of the control space (R7, R29).
Every other check of an operand is the spec's own and is part of the command's meaning. -/

namespace Sys2Proof

/-- An offset that a register access can carry: below 16 MiB (R29). One that no table defines reads 0 (R30). -/
def offsetOk (off : Nat) : Bool := decide (off < 16777216)

namespace Instr

/-- The commands whose operands are well formed. -/
def wf : Instr → Bool
  | .registerWrite _ off _ => offsetOk off
  | .readClear _ off => offsetOk off
  | .latchedRead _ off => offsetOk off
  | .expertWindowAccess _ off _ => offsetOk off
  | _ => true

end Instr

end Sys2Proof
end

