-- ==== Sys2Proof/Machine/Registers.lean ====
section
/-! DEFINITION. Register accesses: reads and writes of the control space with the effects each register gives them, the
expert windows, latched high words, action bits, and CTRL_RD and CTRL_WR (R7 to R15, R29, R30, R66, R67, R70, R73, R113,
R119, R135, R259, R602). -/

namespace Sys2Proof.Machine

open Sys2Proof

/-- The offset lies in an expert window (R14, R29). -/
def inExpert (off : Nat) : Bool := decide (524288 ≤ off % 1048576)

/-- The cell of a field that an access of port `p` to element `e` of a register reaches. -/
def cellIndex (p e : Nat) (r : Reg) (base : Nat) (s : State) : Nat :=
  base + match r.bank with
    | .plain => e
    | .port => p
    | .portArr => p * r.count + e
    | .sel c => s.rg c p * r.count + e
    | .queue => s.rg .QUE_SEL_QUEUE p

/-! ### Reads -/

/-- What a field holds: what it shows of the state, else its cell. -/
def fieldHolds (p e : Nat) (r : Reg) (s : State) (f : Fld) : Nat :=
  let i := cellIndex p e r f.base s
  (shown p s (r.off / 1048576) f.cell i).getD (s.rg f.cell i)

/-- What a field adds to the word read (R9, R10). -/
def fieldRead (p e : Nat) (r : Reg) (s : State) (f : Fld) : Nat :=
  f.acc.read (fieldHolds p e r s f) % 2 ^ (f.hi - f.lo + 1) * 2 ^ f.lo

/-- The word at an offset: 0 where no register is defined (R30). -/
def regValue (p off : Nat) (s : State) : Nat :=
  match regAt off with
  | none => 0
  | some (r, e) => sumOf (fieldRead p e r s) r.fields

/-- What a read leaves in the register (R9, R12). -/
def afterRead (p off : Nat) (s : State) : State :=
  match regAt off with
  | none => s
  | some (r, e) =>
    forEach (r.fields.filter (fun f => f.acc == .rc)) (fun f t =>
      let i := cellIndex p e r f.base s
      setRg f.cell i (f.acc.afterRead (RN.reset f.cell) (t.rg f.cell i)) t) s

/-- The semaphore that a read of an offset takes. -/
def semAt (off : Nat) : Option Nat := if 0x100 ≤ off ∧ off < 0x200 ∧ off % 4 = 0 then some ((off - 0x100) / 4) else none

/-- Whether an element of a register row is the low word of a 64-bit quantity (R8): one of a row that is flagged so, the
FT of an entry of the scheduled-event table (words 0 and 1 of its 4, Table TT-9) or that of a record of the event ring
(words 1 and 2 of its 8, Table MON-5). -/
def lowElem (r : Reg) (e : Nat) : Bool :=
  r.low || (r.off == 0x101000 && e % 4 == 0) || (r.off == 0xE10000 && e % 8 == 1)

/-- Whether an offset is the low word of a 64-bit quantity (R8). -/
def isLow (off : Nat) : Bool := (regAt off).any (fun x => lowElem x.1 x.2)

/-- A read of a basic register, or of an open expert register: its value and its effects (R8, R12, R123). -/
def regRead (p off : Nat) (s : State) : Nat × State :=
  let s := whenSome (semAt off) (semTake p) s
  let v := (look (p, off) s.hi).getD (regValue p off s)
  let s := { s with hi := del (p, off) s.hi }
  let s := when (isLow off) (fun s => { s with hi := put (p, off + 4) (regValue p (off + 4) s) s.hi }) s
  (v, afterRead p off s)

/-- Whether port `p` may use the register at an offset as to its expert window (R14). -/
def windowUsable (p off : Nat) (s : State) : Bool := !inExpert off || s.expertOpen p (off / 1048576)

/-- An access to a locked expert window (R15, event 0x0B01). -/
def windowRefused (p off : Nat) (s : State) : State := raise 0x0B01 none [(1, p), (3, off)] s

/-- A read by a port. -/
def portRead (p off : Nat) (s : State) : Nat × State :=
  if windowUsable p off s then regRead p off s else (0, windowRefused p off s)

/-! ### What fields make of a value written -/

/-- Fields in which 0 reads as 1. -/
def atLeastOne : List RN :=
  [.QUE_ARB_WEIGHT_WEIGHT, .BDG_C_MOVE_MAX_MAX, .BDG_ARB_WEIGHT_APPEND, .BDG_ARB_WEIGHT_PREFETCH,
   .BDG_ARB_WEIGHT_MOVE, .BDG_ARB_WEIGHT_ZERO, .BEAR_SEAL_SLOTS, .PRT_RTO_BASE_US, .PRT_RX_TIMEOUT_US, .MEM_SCRUB_HOURS,
   .SEC_X_SWEEP_GBPS, .RAS_PEER_WAIT_MS, .RAS_HOLD_US_US, .BIST_DISC_WAIT_MS, .EVR_LIMIT_PER_FRAME]

/-- The value that a field holds after a write of `x`: out of its range it clamps or reads as its table says. -/
def fieldTakes (n : RN) (x : Nat) : Nat :=
  match n with
  | .BEAR_SHADOW_CFG_COUNT => if x = 0 then 1024 else x
  | .FOX_C_CTRL_GUARD => if x = 0 then 8 else x
  | .FOX_C_CTRL_FS_EXP => min 13 (max 6 x)
  | .MON_THRESH_WARN => min 99 (max 60 x)
  | .MON_THRESH_DOWN => min 99 (max 80 x)
  | .PRT_X_SPRAY_MODE => if x = 3 then 0 else x
  | n => if n ∈ atLeastOne then max 1 x else x

/-- A refused enable: its bit in CMP_CLAIM_STATUS and event 0x0208 (R67). -/
def claimRefused (res code : Nat) (s : State) : State :=
  let n := match res with
    | 1 => RN.CMP_CLAIM_STATUS_RES1
    | 2 => .CMP_CLAIM_STATUS_RES2
    | 3 => .CMP_CLAIM_STATUS_RES3
    | _ => .CMP_CLAIM_STATUS_RES4
  s |> setRg n 0 (Nat.lor (s.rg n 0) (2 ^ (code - 1))) |> raise 0x0208 none []

/-- An enable bit of a feature on a shared resource (R66, R67). -/
def enableWrite (res code : Nat) (n : RN) (x : Nat) (s : State) : State :=
  if x = 1 ∧ s.ownerCode res ≠ code then s |> setRg n 0 0 |> claimRefused res code
  else s |> when (n == .OWL_CTRL_CASCADE_EN && x == 0 && s.rg n 0 == 1) cascadeFlush |> setRg n 0 x

/-- The Fox trim fields of a whole macro, and those of its columns, 32 words for each macro (R259). -/
def foxMacroTrims : List RN := [.FOX_M_ADC_OFFSET, .FOX_M_ADC_GAIN, .FOX_M_TCOMP_ALPHA_T, .FOX_M_TCOMP_ALPHA_V]

def foxColumnTrims : List RN :=
  [.FOX_M_COL_GAIN_COL0, .FOX_M_COL_GAIN_COL1, .FOX_M_COL_GAIN_COL2, .FOX_M_COL_GAIN_COL3, .FOX_M_COL_OFF_COL0,
   .FOX_M_COL_OFF_COL1, .FOX_M_COL_OFF_COL2, .FOX_M_COL_OFF_COL3]

/-- What the write of a field sets off beside the value it stores: a trim or FORCE_OUT takes its macro OUT (R251, R259),
DISABLE takes its link DOWN (R363, R365). -/
def fieldSetsOff (n : RN) (i x : Nat) (s : State) : State :=
  if n ∈ foxMacroTrims then macroOut i 3 s
  else if n ∈ foxColumnTrims then macroOut (i / 32) 3 s
  else if n = .FOX_M_HOLD_FORCE_OUT ∧ x = 1 then macroOut i 3 s
  else if n = .PRT_Ln_CTRL_DISABLE ∧ x = 1 ∧ (s.link i).st ≠ .failed then linkToDown i s
  else s

/-- The bits that a write by `p` offers a field. TEST of BIST_SHUT_CTRL is taken as 0 from any source but a port that holds
semaphore 3 (R547). -/
def offered (p : Nat) (v : Nat) (f : Fld) (s : State) : Nat :=
  if f.cell = .BIST_SHUT_CTRL_TEST ∧ s.holdsSem p 3 = false then 0 else bits v f.lo (f.hi - f.lo + 1)

/-- The fields of a register written, each by its access type (R9); an enable bit by R67. -/
def fieldWrite (p e : Nat) (r : Reg) (v : Nat) (f : Fld) (s : State) : State :=
  let i := cellIndex p e r f.base s
  let x := offered p v f s
  match enableBits.find? (fun b => b.2.2 == f.cell), f.acc.stores with
  | some b, true => enableWrite b.1 b.2.1 f.cell x s
  | none, true =>
    let y := fieldTakes f.cell x
    s |> when (f.cell == .OWL_X_SHIFT_HOLD && s.rg f.cell i != y) shiftPause
      |> setRg f.cell i (f.acc.afterWrite (s.rg f.cell i) y) |> fieldSetsOff f.cell i y
  | _, false => s

/-! ### Action bits (R602) -/

/-- The action that an action bit starts for port `p` on element `e` of its register, `v` being the word written. -/
def action (p e v : Nat) (n : RN) (s : State) : State :=
  match n with
  | .CMP_CTRL_STAGE => stage p s
  | .CMP_CTRL_ARM => arm p s
  | .CMP_CTRL_CANCEL => cancel p s
  | .CMP_CTRL_COMMIT => commit p s
  | .TT_EVT_CTRL_ADD => evtAdd p s
  | .TT_EVT_CTRL_CANCEL => evtCancelCmd p s
  | .QUE_CTX_CTRL_ENABLE => queueEnable p s
  | .QUE_CTX_CTRL_DISABLE => queueDisable p s
  | .QUE_CTX_CTRL_RESET => queueReset p s
  | .BDG_WALK_CACHE_FLUSH => walkCacheFlush p s
  | .BEAR_SPARE_CTRL_START => shadowStart p s
  | .BEAR_SPARE_CTRL_STOP => shadowStop p s
  | .PRT_Ln_CTRL_RETRAIN => linkRetrain e s
  | .PRT_X_Ln_SPARE_FORCE_LANE => forceLane p e s
  | .PRT_X_Ln_SPARE_FORCE_WAVE => forceWave p e s
  | .TRF_CHANGE_APPLY => trfApply p (bit v 1) s
  | .OWL_X_SCRUB_FORCE => owlScrubForce p s
  | .MEM_X_SCRUB_FORCE => scrubForce p s
  | .MEM_X_INJECT_ARM => injectArm p s
  | .SEC_LOAD_CTRL_LOAD => secLoad p s
  | .SEC_LOAD_CTRL_COMMIT => secLoadCommit p s
  | .SEC_ATTEST_ATTEST => attestStart p s
  | .SEC_SESSION_CTRL_LOAD => sessionLoad p s
  | .SEC_SESSION_CTRL_UNLOAD => sessionUnload p s
  | .SEC_KEY_CTRL_RETIRE => retireSlot p s
  | .SEC_X_FORCE_FORCE_RETIRE => forceRetire p s
  | .RAS_SEND_SEND => writeNotice s
  | .RAS_X_CLEAR_STEPS => clearSteps p s
  | .RAS_X_CLEAR_HOLDS => clearHolds p s
  | .BIST_SHUT_CTRL_START => shutdownStart p s
  | .BIST_CTRL_START => selftestStart p s
  | .EVR_CLEAR_CLEAR => evrClear p s
  | _ => s

/-- A write with more than one action bit of a register performs none of them: the result register reads BAD_COMMAND, and
a CMP_CTRL write is recorded (R602, event 0x0207). -/
def actionsRefused (p : Nat) (n : RN) (s : State) : State :=
  match n with
  | .CMP_CTRL_STAGE => cmpRefused s
  | .TT_EVT_CTRL_ADD => result .TT_EVT_RESULT_STATUS .TT_EVT_RESULT_DONE p Status.badCommand s
  | .QUE_CTX_CTRL_ENABLE => ctxResult p Status.badCommand s
  | .BEAR_SPARE_CTRL_START => result .BEAR_SPARE_RESULT_STATUS .BEAR_SPARE_RESULT_DONE p Status.badCommand s
  | .SEC_LOAD_CTRL_LOAD => loadResult p Status.badCommand 0 s
  | .SEC_SESSION_CTRL_LOAD => sessionResult p Status.badCommand s
  | _ => s

/-- The action bits of a register. FILL chooses what APPLY does and starts nothing itself (R425). -/
def Reg.actions (r : Reg) : List Fld := r.fields.filter (fun f => f.acc == .wo && f.hi == f.lo && f.cell != .TRF_CHANGE_FILL)

/-- Whether a register's action bits combine: STEPS and HOLDS of RAS_X_CLEAR do (R531). -/
def Reg.combines (r : Reg) : Bool := r.off == 0xC80000

/-- The actions of a write. -/
def runActions (p e : Nat) (r : Reg) (v : Nat) (s : State) : State :=
  let set_ := r.actions.filter (fun f => bit v f.lo)
  if set_.length ≤ 1 ∨ r.combines then live (forEach set_ (fun f => action p e v f.cell)) s
  else (r.actions.head?.map (fun f => actionsRefused p f.cell s)).getD s

/-! ### Writes -/

/-- The registers whose writes are not those of their fields alone: doorbells, GLB_SEM_REL, CMP_EXPERT_UNLOCK, SEC_KEMCT and
the two registers that take effect at a frame boundary. -/
def ownWrite (p e : Nat) (off v : Nat) : Option (State → State) :=
  if off = 0x200 then some (semRelease p (v % 64))
  else if off = 0x200074 then some (expertUnlock p (v % 65536))
  else if 0x340000 ≤ off ∧ off < 0x380000 then some (live (doorbell p e (v % 65536) (v / 65536 % 65536)))
  else if off = 0x880000 then
    some (fun s => onTrf (fun t => { t with wrr := t.wrr.write s.frame (max 1 (v % 16) + 16 * max 1 (bits v 4 4)) }) s)
  else if off = 0x7C0000 then
    some (fun s => onDep (fun d => { d with leadAdj := d.leadAdj.write s.frame (unsigned 16 (clampInt (-4096) 4095 (signed 16 v))) }) s)
  else if 0xB06000 ≤ off ∧ off < 0xB06620 then
    some (onSec (fun x => { x with kemct := put p (overwrite (padTo 1568 (lookD p [] x.kemct)) (4 * e) (leBytes 4 v)) x.kemct }))
  else none

/-- Whether a write is ignored for want of a semaphore (R50, R73), or refused because the queue is not DISABLED (R135).
Each such write of CMP_CTRL is recorded, whatever bits it sets (event 0x0207), and so is the refusal of a queue's
configuration (event 0x0308). -/
def writeBarred (p off : Nat) (s : State) : Option State :=
  if off = 0x200000 ∧ s.holdsSem p 0 = false then some (cmpRefused s)
  else if 0x200008 ≤ off ∧ off < 0x200020 ∧ s.holdsSem p 0 = false then some s
  else if 0x300020 ≤ off ∧ off < 0x300044 ∧ (s.ctx (s.rg .QUE_SEL_QUEUE p)).st ≠ 0 then some (raise 0x0308 none [] s)
  else none

/-- A write of a basic register, or of an open expert register: its fields, then its action (R9, R30, R602). -/
def regWrite (p off v : Nat) (s : State) : State :=
  match regAt off, writeBarred p off s with
  | none, _ => s
  | some _, some s => s
  | some (r, e), none =>
    match ownWrite p e off v with
    | some f => f s
    | none => s |> forEach r.fields (fieldWrite p e r v) |> runActions p e r v

/-- A write by a port. -/
def portWrite (p off v : Nat) (s : State) : State :=
  if windowUsable p off s then regWrite p off v s else windowRefused p off s

/-! ### The commands -/

/-- A frame that no register takes, because its length is not one of its type or it writes beyond the control space, is
discarded and counted (R111 to R113). -/
def ctrlDiscard (p : Nat) (s : State) : State := bump .QUE_PORT_ERR_CRC p 1 s

/-- A read whose value goes back to the port. One beyond 0x00FF_FFFF is answered BAD_ADDR, with no value, and has no effect
(R113). -/
def readAccess (p off : Nat) (s : State) : State :=
  if offsetOk off then access p off (fun s => let r := portRead p off s; emit (.value p off r.1) r.2) s else s

/-- A write of a port. One beyond 0x00FF_FFFF has no effect on any register and counts as a discarded frame (R113). -/
def writeAccess (p off v : Nat) (s : State) : State :=
  if offsetOk off then access p off (portWrite p off v) s
  else if s.powered && s.portUp p then ctrlDiscard p s else s

/-- REGISTER_WRITE (R13). -/
def execRegisterWrite (p : Port) (off : Nat) (v : Word) (s : State) : Result := done (writeAccess p.idx off v.toNat s)

/-- READ_CLEAR (R12). -/
def execReadClear (p : Port) (off : Nat) (s : State) : Result := done (readAccess p.idx off s)

/-- LATCHED_READ (R8). -/
def execLatchedRead (p : Port) (off : Nat) (s : State) : Result := done (readAccess p.idx off s)

/-- EXPERT_WINDOW_ACCESS (R14, R15): a read, or a write of a value. -/
def execExpertWindowAccess (p : Port) (off : Nat) (v : Option Word) (s : State) : Result :=
  done (match v with
    | none => readAccess p.idx off s
    | some w => writeAccess p.idx off w.toNat s)

/-! ### CTRL_RD and CTRL_WR (R111, R113) -/

/-- The offsets of `n` registers from `off` on. -/
def frameOffsets (off n : Nat) : List Nat := (List.range n).map (fun i => off + 4 * i)

/-- Whether a frame's registers lie in the control space. -/
def frameInside (off n : Nat) : Bool := decide (off + 4 * n ≤ 16777216)

/-- The registers of a frame read in ascending order, one at a time (R113); one that is not answered reads 0. -/
def readAll (p : Nat) : List Nat → State → List Nat × State
  | [], s => ([], s)
  | o :: r, s =>
    let x := if s.answers o then portRead p o s else (0, s)
    let y := readAll p r x.2
    (x.1 :: y.1, y.2)

/-- A CTRL_RESP: FLAGS[3:2] hold the status, 0 OK, 1 BAD_ADDR (Table QUE-3). -/
def ctrlResp (p tag off status : Nat) (words : List Nat) (s : State) : State :=
  let d := words.flatMap (leBytes 4)
  oSend p { ty := OTy.ctrlResp, flags := 4 * status, tag := tag, addr := off, len := d.length, payload := d } s

/-- A CTRL_RD accepted: its tag is outstanding, and its credits are held, until its answer leaves (R114, R115). -/
def ctrlAccept (p tag n : Nat) (s : State) : State :=
  setOnz p { s.onz p with ctrlTags := put tag (lenCost (4 * n)) (s.onz p).ctrlTags } s

/-- The answer to a CTRL_RD. A node none of whose named registers is answered sends nothing (R544, assumption 27), and the
frame's credits go back at once. -/
def ctrlRead (p tag off n : Nat) (s : State) : State :=
  if frameInside off n = false then s |> ctrlAccept p tag n |> ctrlResp p tag off 1 []
  else if (frameOffsets off n).any s.answers then
    let r := readAll p (frameOffsets off n) (ctrlAccept p tag n s)
    ctrlResp p tag off 0 r.1 r.2
  else returnCredit p 0 (lenCost (4 * n)) s

/-- Whether a port takes one more CTRL_RD: at most 64 of its tags are outstanding (R114). -/
def ctrlRoom (s : State) (p : Nat) : Bool := decide ((s.onz p).ctrlTags.length < 64)

/-- CTRL_RD of `n` registers: 1 to 64 (Table QUE-3). One of another length, and one beyond the 64 tags that the node
accepts, is discarded and counted, and its credits go back (DESIGN CHOICE, assumption 36: the spec does not say what becomes
of a 65th). -/
def execCtrlRd (p : Port) (seq tag : BitVec 16) (off n : Nat) (s : State) : Result :=
  done (powered (oReceive p.idx seq.toNat (fun s =>
    if 1 ≤ n ∧ n ≤ 64 ∧ ctrlRoom s p.idx then ctrlRead p.idx tag.toNat off n s
    else s |> returnCredit p.idx 0 (lenCost (4 * n)) |> ctrlDiscard p.idx)) s)

/-- The effect of a CTRL_WR. -/
def ctrlWrite (p off : Nat) (vs : List Word) (s : State) : State :=
  if frameInside off vs.length = false then ctrlDiscard p s
  else forEach vs.zipIdx (fun x s =>
    let o := off + 4 * x.2
    if s.answers o then portWrite p o x.1.toNat s else s) s

/-- CTRL_WR of 1 to 64 registers (Table QUE-3); the frame's credits go back. -/
def execCtrlWr (p : Port) (seq : BitVec 16) (off : Nat) (vs : List Word) (s : State) : Result :=
  done (powered (oReceive p.idx seq.toNat (fun s =>
    let s := returnCredit p.idx (lenCost (4 * vs.length)) 0 s
    if 1 ≤ vs.length ∧ vs.length ≤ 64 then ctrlWrite p.idx off vs s else ctrlDiscard p.idx s)) s)

end Sys2Proof.Machine
end

