-- ==== Sys2Proof/Machine/Pkg.lean ====
section
/-! DEFINITION. The management pins: the I3C target and the JTAG port (R596, R597). -/

namespace Sys2Proof.Machine

open Sys2Proof

/-! ### I3C (R596) -/

/-- The controller's number as the sender of an access: it is neither port, so it holds no semaphore and no unlock. -/
def i3cSender : Nat := 2

/-- The registers the controller can read: GLB_PART_ID, GLB_NODE_ADDR, GLB_CORE_VID, SEC_LC, SEC_BOOT, SEC_FW, SEC_UID_*, and
the basic MON, EVR and BIST registers. -/
def i3cReads (off : Nat) : Bool :=
  off == 0 || off == 4 || off == 8 || (decide (0xB00000 ≤ off) && decide (off ≤ 0xB00010)) ||
  (decide (0xD00000 ≤ off) && decide (off < 0x1000000) && !inExpert off)

/-- The registers the controller can write: BIST_SHUT_FT_* and BIST_SHUT_CTRL. -/
def i3cWrites (off : Nat) : Bool := decide (0xF00030 ≤ off) && decide (off ≤ 0xF00038)

/-- The `n` registers from an offset on as the controller reads them. -/
def i3cReadFrom : Nat → Nat → State → List Nat × State
  | _, 0, s => ([], s)
  | off, n + 1, s =>
    let x := if i3cReads off && s.answers off then regRead i3cSender off s else (0, s)
    let y := i3cReadFrom (off + 4) n x.2
    (x.1 :: y.1, y.2)

/-- I3C_READ: 4n bytes from the offset last set. -/
def i3cRead (n : Nat) (s : State) : State :=
  let r := i3cReadFrom s.pkg.i3cOffset n s
  emit (.i3c r.1) r.2

def execI3cRead (n : Nat) (s : State) : Result := done (powered (i3cRead n) s)

/-- I3C_WRITE: the offset set, and 4n bytes written from it on. A shutdown it arms runs no self-test (R547). -/
def i3cWrite (off : Nat) (vs : List Word) (s : State) : State :=
  s |> onPkg (fun x => { x with i3cOffset := off })
    |> forEach vs.zipIdx (fun x s =>
      let o := off + 4 * x.2
      if i3cWrites o && s.answers o then regWrite i3cSender o x.1.toNat s else s)

def execI3cWrite (off : BitVec 24) (vs : List Word) (s : State) : Result := done (powered (i3cWrite off.toNat vs) s)

/-- I3C_SETDASA: the dynamic address takes the place of the static one. -/
def execI3cSetdasa (dyn : BitVec 7) (s : State) : Result := done (powered (onPkg (fun x => { x with i3cAddr := dyn.toNat })) s)

/-! ### JTAG (R597) -/

/-- The value that IDCODE reads: version 0x2, part 0x0416, manufacturer 0x3A3. -/
def idcode : Nat := 0x20416747

/-- Whether the boundary-scan instructions work: in MANUFACTURE and SERVICE, while RESET_N is low. -/
def scanAllowed (s : State) : Bool := (s.lc == 0 || s.lc == 3) && s.start.inReset

/-- The instruction in force after `i` is loaded: 0 BYPASS, 1 IDCODE, 2 SAMPLE/PRELOAD, 3 EXTEST. -/
def jtagCode (i : JtagInstr) (s : State) : Nat :=
  match i with
  | .bypass => 0
  | .idcode => 1
  | .samplePreload => if scanAllowed s then 2 else 0
  | .extest => if scanAllowed s then 3 else 0

/-- JTAG_INSTRUCTION: the instruction in force, and what IDCODE shifts out. -/
def jtagInstruction (i : JtagInstr) (s : State) : State :=
  let n := jtagCode i s
  if s.start.powerGood then
    s |> onPkg (fun x => { x with jtag := n }) |> emit (.jtag n (if n = 1 then idcode else 0))
  else s

def execJtagInstruction (i : JtagInstr) (s : State) : Result := done (jtagInstruction i s)

end Sys2Proof.Machine
end

