-- ==== Sys2Proof/Machine/Dispatch.lean ====
section
/-! DEFINITION. What each command does: one arm for each row of the table, each a direct call of its meaning. -/

namespace Sys2Proof.Machine

open Sys2Proof

def exec (i : Instr) (s : State) : Host.Outcome State Fault Refusal :=
  match i with
  | .registerWrite p off v => Sys2Proof.Machine.execRegisterWrite p off v s
  | .readClear p off => Sys2Proof.Machine.execReadClear p off s
  | .latchedRead p off => Sys2Proof.Machine.execLatchedRead p off s
  | .expertWindowAccess p off v => Sys2Proof.Machine.execExpertWindowAccess p off v s
  | .semRead p n => Sys2Proof.Machine.execSemRead p n s
  | .semRelease p n => Sys2Proof.Machine.execSemRelease p n s
  | .semLeaseExpire n => Sys2Proof.Machine.execSemLeaseExpire n s
  | .stage p => Sys2Proof.Machine.execStage p s
  | .imageFetchDone => Sys2Proof.Machine.execImageFetchDone s
  | .imageValidated => Sys2Proof.Machine.execImageValidated s
  | .arm p => Sys2Proof.Machine.execArm p s
  | .cancel p => Sys2Proof.Machine.execCancel p s
  | .commit p => Sys2Proof.Machine.execCommit p s
  | .commitDone ok => Sys2Proof.Machine.execCommitDone ok s
  | .shadowTablesLoaded => Sys2Proof.Machine.execShadowTablesLoaded s
  | .switchBoundary => Sys2Proof.Machine.execSwitchBoundary s
  | .drainWindowClose => Sys2Proof.Machine.execDrainWindowClose s
  | .resourceClearStart r => Sys2Proof.Machine.execResourceClearStart r s
  | .resourceCleared r => Sys2Proof.Machine.execResourceCleared r s
  | .oldEpochGraceEnd => Sys2Proof.Machine.execOldEpochGraceEnd s
  | .expertUnlock p blocks => Sys2Proof.Machine.execExpertUnlock p blocks s
  | .expertUnlockExpire p => Sys2Proof.Machine.execExpertUnlockExpire p s
  | .ftRefStable => Sys2Proof.Machine.execFtRefStable s
  | .ftRefLost => Sys2Proof.Machine.execFtRefLost s
  | .ftCodeWord w => Sys2Proof.Machine.execFtCodeWord w s
  | .ftSyncEdge frac => Sys2Proof.Machine.execFtSyncEdge frac s
  | .ftSyncMissing => Sys2Proof.Machine.execFtSyncMissing s
  | .holdoverLimit => Sys2Proof.Machine.execHoldoverLimit s
  | .steerUpdate => Sys2Proof.Machine.execSteerUpdate s
  | .steerLimit => Sys2Proof.Machine.execSteerLimit s
  | .timeXferSend l => Sys2Proof.Machine.execTimeXferSend l s
  | .timeXfer l body arrival => Sys2Proof.Machine.execTimeXfer l body arrival s
  | .linkTimeUpdate => Sys2Proof.Machine.execLinkTimeUpdate s
  | .evtAdd p => Sys2Proof.Machine.execEvtAdd p s
  | .evtCancel p => Sys2Proof.Machine.execEvtCancel p s
  | .keySwitch j => Sys2Proof.Machine.execKeySwitch j s
  | .checkpoint j => Sys2Proof.Machine.execCheckpoint j s
  | .shaperRefill j => Sys2Proof.Machine.execShaperRefill j s
  | .throttleStep j => Sys2Proof.Machine.execThrottleStep j s
  | .startupSlot j => Sys2Proof.Machine.execStartupSlot j s
  | .throttleEval => Sys2Proof.Machine.execThrottleEval s
  | .onzonTrainingStart p lanes => Sys2Proof.Machine.execOnzonTrainingStart p lanes s
  | .onzonTrainingEnd p lanes trims => Sys2Proof.Machine.execOnzonTrainingEnd p lanes trims s
  | .onzonTrainingTimeout p => Sys2Proof.Machine.execOnzonTrainingTimeout p s
  | .onzonRetry p => Sys2Proof.Machine.execOnzonRetry p s
  | .onzonLockLoss p => Sys2Proof.Machine.execOnzonLockLoss p s
  | .onzonRxIdleTimeout p => Sys2Proof.Machine.execOnzonRxIdleTimeout p s
  | .onzonReplayTimeout p => Sys2Proof.Machine.execOnzonReplayTimeout p s
  | .onzonLinkReset p => Sys2Proof.Machine.execOnzonLinkReset p s
  | .ctrlRd p seq tag off n => Sys2Proof.Machine.execCtrlRd p seq tag off n s
  | .ctrlWr p seq off vs => Sys2Proof.Machine.execCtrlWr p seq off vs s
  | .memResp p seq tag ok data => Sys2Proof.Machine.execMemResp p seq tag ok data s
  | .onzonAck p seq => Sys2Proof.Machine.execOnzonAck p seq s
  | .onzonNak p seq => Sys2Proof.Machine.execOnzonNak p seq s
  | .onzonCredit p posted reads => Sys2Proof.Machine.execOnzonCredit p posted reads s
  | .doorbell p q tail head => Sys2Proof.Machine.execDoorbell p q tail head s
  | .sqFetch p => Sys2Proof.Machine.execSqFetch p s
  | .commandStart q => Sys2Proof.Machine.execCommandStart q s
  | .queueEnable p => Sys2Proof.Machine.execQueueEnable p s
  | .queueDisable p => Sys2Proof.Machine.execQueueDisable p s
  | .queueReset p => Sys2Proof.Machine.execQueueReset p s
  | .queueDrainDone q => Sys2Proof.Machine.execQueueDrainDone q s
  | .irqTimer q => Sys2Proof.Machine.execIrqTimer q s
  | .list k => Sys2Proof.Machine.execList k s
  | .listComplete k => Sys2Proof.Machine.execListComplete k s
  | .seqCreate k => Sys2Proof.Machine.execSeqCreate k s
  | .seqFree k => Sys2Proof.Machine.execSeqFree k s
  | .seqFork k => Sys2Proof.Machine.execSeqFork k s
  | .seqFreeze k => Sys2Proof.Machine.execSeqFreeze k s
  | .seqThaw k => Sys2Proof.Machine.execSeqThaw k s
  | .pageLink k => Sys2Proof.Machine.execPageLink k s
  | .appendCmd k => Sys2Proof.Machine.execAppendCmd k s
  | .nodesetLoad k => Sys2Proof.Machine.execNodesetLoad k s
  | .seqQuery k => Sys2Proof.Machine.execSeqQuery k s
  | .sequenceChangeResume seq => Sys2Proof.Machine.execSequenceChangeResume seq s
  | .append src op => Sys2Proof.Machine.execAppend src op s
  | .stagedExpire half => Sys2Proof.Machine.execStagedExpire half s
  | .pageSeal page => Sys2Proof.Machine.execPageSeal page s
  | .pageFree page => Sys2Proof.Machine.execPageFree page s
  | .walk k => Sys2Proof.Machine.execWalk k s
  | .gather k => Sys2Proof.Machine.execGather k s
  | .pageCopy k => Sys2Proof.Machine.execPageCopy k s
  | .pageMove k => Sys2Proof.Machine.execPageMove k s
  | .pageMoveCommit page => Sys2Proof.Machine.execPageMoveCommit page s
  | .pageDigest k => Sys2Proof.Machine.execPageDigest k s
  | .groupZero k => Sys2Proof.Machine.execGroupZero k s
  | .groupZeroDone g => Sys2Proof.Machine.execGroupZeroDone g s
  | .tableInstall k => Sys2Proof.Machine.execTableInstall k s
  | .tableRemove k => Sys2Proof.Machine.execTableRemove k s
  | .weightLoad k => Sys2Proof.Machine.execWeightLoad k s
  | .weightFree k => Sys2Proof.Machine.execWeightFree k s
  | .walkCacheFlush p => Sys2Proof.Machine.execWalkCacheFlush p s
  | .attnReq src op => Sys2Proof.Machine.execAttnReq src op s
  | .coachDepart id => Sys2Proof.Machine.execCoachDepart id s
  | .foxPass id codes refs => Sys2Proof.Machine.execFoxPass id codes refs s
  | .scoutSelection id => Sys2Proof.Machine.execScoutSelection id s
  | .gatherStart id => Sys2Proof.Machine.execGatherStart id s
  | .pageReadIssue id half => Sys2Proof.Machine.execPageReadIssue id half s
  | .absorptionDone id => Sys2Proof.Machine.execAbsorptionDone id s
  | .scoringDone id tile => Sys2Proof.Machine.execScoringDone id tile s
  | .halfMerge id half => Sys2Proof.Machine.execHalfMerge id half s
  | .valueExpansion id => Sys2Proof.Machine.execValueExpansion id s
  | .coachCutoff id => Sys2Proof.Machine.execCoachCutoff id s
  | .attnPart src op => Sys2Proof.Machine.execAttnPart src op s
  | .contextClose group reply tag => Sys2Proof.Machine.execContextClose group reply tag s
  | .foxScore k => Sys2Proof.Machine.execFoxScore k s
  | .foxCal k => Sys2Proof.Machine.execFoxCal k s
  | .foxRowBind k => Sys2Proof.Machine.execFoxRowBind k s
  | .foxRowRelease k => Sys2Proof.Machine.execFoxRowRelease k s
  | .foxIdlePass m refs => Sys2Proof.Machine.execFoxIdlePass m refs s
  | .foxCompensate => Sys2Proof.Machine.execFoxCompensate s
  | .foxRecal m => Sys2Proof.Machine.execFoxRecal m s
  | .foxCalDone m ok sigma off gain => Sys2Proof.Machine.execFoxCalDone m ok sigma off gain s
  | .foxRowRefill half => Sys2Proof.Machine.execFoxRowRefill half s
  | .bearAttn k => Sys2Proof.Machine.execBearAttn k s
  | .shadowStart p => Sys2Proof.Machine.execShadowStart p s
  | .shadowStop p => Sys2Proof.Machine.execShadowStop p s
  | .autoShadowStart tile uncorrectable => Sys2Proof.Machine.execAutoShadowStart tile uncorrectable s
  | .shadowKatDone spare ok => Sys2Proof.Machine.execShadowKatDone spare ok s
  | .takeover spare => Sys2Proof.Machine.execTakeover spare s
  | .seqPark k => Sys2Proof.Machine.execSeqPark k s
  | .parkTransferStart k => Sys2Proof.Machine.execParkTransferStart k s
  | .parkComplete k => Sys2Proof.Machine.execParkComplete k s
  | .seqResume k => Sys2Proof.Machine.execSeqResume k s
  | .logRead k => Sys2Proof.Machine.execLogRead k s
  | .logTrim k => Sys2Proof.Machine.execLogTrim k s
  | .appendShadow src op => Sys2Proof.Machine.execAppendShadow src op s
  | .parkXfer src op => Sys2Proof.Machine.execParkXfer src op s
  | .demote half => Sys2Proof.Machine.execDemote half s
  | .promote half => Sys2Proof.Machine.execPromote half s
  | .ageTick => Sys2Proof.Machine.execAgeTick s
  | .linkTrainingStart l => Sys2Proof.Machine.execLinkTrainingStart l s
  | .linkTrainingEnd l lanes engine ident trims => Sys2Proof.Machine.execLinkTrainingEnd l lanes engine ident trims s
  | .linkRetry l => Sys2Proof.Machine.execLinkRetry l s
  | .linkRetrain l => Sys2Proof.Machine.execLinkRetrain l s
  | .linkLockLoss l lane => Sys2Proof.Machine.execLinkLockLoss l lane s
  | .linkRxIdleTimeout l => Sys2Proof.Machine.execLinkRxIdleTimeout l s
  | .linkReplayTimeout l => Sys2Proof.Machine.execLinkReplayTimeout l s
  | .linkReset l => Sys2Proof.Machine.execLinkReset l s
  | .lack l seq => Sys2Proof.Machine.execLack l seq s
  | .lnak l seq => Sys2Proof.Machine.execLnak l seq s
  | .lcredit l cls units => Sys2Proof.Machine.execLcredit l cls units s
  | .swapLane l lane => Sys2Proof.Machine.execSwapLane l lane s
  | .swapWave l lane wave => Sys2Proof.Machine.execSwapWave l lane wave s
  | .swapDone l => Sys2Proof.Machine.execSwapDone l s
  | .laneSwapTrigger l symbols codewords => Sys2Proof.Machine.execLaneSwapTrigger l symbols codewords s
  | .repairDone l ok => Sys2Proof.Machine.execRepairDone l ok s
  | .forceLane p l => Sys2Proof.Machine.execForceLane p l s
  | .forceWave p l => Sys2Proof.Machine.execForceWave p l s
  | .oePoll l ack fault los warn => Sys2Proof.Machine.execOePoll l ack fault los warn s
  | .dataFrame l lseq d => Sys2Proof.Machine.execDataFrame l lseq d s
  | .rmaWrite src op => Sys2Proof.Machine.execRmaWrite src op s
  | .rmaRead src op => Sys2Proof.Machine.execRmaRead src op s
  | .rmaResp src op => Sys2Proof.Machine.execRmaResp src op s
  | .ack src op => Sys2Proof.Machine.execAck src op s
  | .nak src op => Sys2Proof.Machine.execNak src op s
  | .faultNotice src op => Sys2Proof.Machine.execFaultNotice src op s
  | .retransmitTimeout op => Sys2Proof.Machine.execRetransmitTimeout op s
  | .rxEntryExpire src op => Sys2Proof.Machine.execRxEntryExpire src op s
  | .nakFilterExpire src op => Sys2Proof.Machine.execNakFilterExpire src op s
  | .pagingServed => Sys2Proof.Machine.execPagingServed s
  | .rmaWriteCmd k => Sys2Proof.Machine.execRmaWriteCmd k s
  | .rmaReadCmd k => Sys2Proof.Machine.execRmaReadCmd k s
  | .pageSend k => Sys2Proof.Machine.execPageSend k s
  | .peerLost node => Sys2Proof.Machine.execPeerLost node s
  | .bucketTick => Sys2Proof.Machine.execBucketTick s
  | .trfApply p fill => Sys2Proof.Machine.execTrfApply p fill s
  | .owlLookup k => Sys2Proof.Machine.execOwlLookup k s
  | .owlLookupList k => Sys2Proof.Machine.execOwlLookupList k s
  | .owlInsert k => Sys2Proof.Machine.execOwlInsert k s
  | .owlShiftDone bank => Sys2Proof.Machine.execOwlShiftDone bank s
  | .owlDelete k => Sys2Proof.Machine.execOwlDelete k s
  | .owlRead k => Sys2Proof.Machine.execOwlRead k s
  | .owlLoadAutomaton k => Sys2Proof.Machine.execOwlLoadAutomaton k s
  | .owlWatchSet k => Sys2Proof.Machine.execOwlWatchSet k s
  | .owlWatchDisarm k => Sys2Proof.Machine.execOwlWatchDisarm k s
  | .owlWait k => Sys2Proof.Machine.execOwlWait k s
  | .cascadeSlot => Sys2Proof.Machine.execCascadeSlot s
  | .cascadeSearch frame => Sys2Proof.Machine.execCascadeSearch frame s
  | .cascadeReturnCheck => Sys2Proof.Machine.execCascadeReturnCheck s
  | .cascadePrio prioIn => Sys2Proof.Machine.execCascadePrio prioIn s
  | .cascadeWinnerSend prioIn => Sys2Proof.Machine.execCascadeWinnerSend prioIn s
  | .cascadeResult frame => Sys2Proof.Machine.execCascadeResult frame s
  | .cascadeSlotEnd => Sys2Proof.Machine.execCascadeSlotEnd s
  | .owlScrub half => Sys2Proof.Machine.execOwlScrub half s
  | .owlScrubForce p => Sys2Proof.Machine.execOwlScrubForce p s
  | .patrolScrub => Sys2Proof.Machine.execPatrolScrub s
  | .scrubForce p => Sys2Proof.Machine.execScrubForce p s
  | .hbmRefresh stack => Sys2Proof.Machine.execHbmRefresh stack s
  | .ceThreshold g pc => Sys2Proof.Machine.execCeThreshold g pc s
  | .injectArm p => Sys2Proof.Machine.execInjectArm p s
  | .cxlDetect c => Sys2Proof.Machine.execCxlDetect c s
  | .cxlTrainingEnd c width gts units => Sys2Proof.Machine.execCxlTrainingEnd c width gts units s
  | .cxlTrainingTimeout c => Sys2Proof.Machine.execCxlTrainingTimeout c s
  | .cxlLinkDown c => Sys2Proof.Machine.execCxlLinkDown c s
  | .cxlRetrain c => Sys2Proof.Machine.execCxlRetrain c s
  | .secLoad p => Sys2Proof.Machine.execSecLoad p s
  | .secLoadDone => Sys2Proof.Machine.execSecLoadDone s
  | .secLoadCommit p => Sys2Proof.Machine.execSecLoadCommit p s
  | .attest p => Sys2Proof.Machine.execAttest p s
  | .attestDone p => Sys2Proof.Machine.execAttestDone p s
  | .sessionLoad p => Sys2Proof.Machine.execSessionLoad p s
  | .sessionUnload p => Sys2Proof.Machine.execSessionUnload p s
  | .retire p => Sys2Proof.Machine.execRetire p s
  | .forceRetire p => Sys2Proof.Machine.execForceRetire p s
  | .rekeyPage page => Sys2Proof.Machine.execRekeyPage page s
  | .jobAbort k => Sys2Proof.Machine.execJobAbort k s
  | .jobRelease k => Sys2Proof.Machine.execJobRelease k s
  | .step k => Sys2Proof.Machine.execStep k s
  | .stepForget k => Sys2Proof.Machine.execStepForget k s
  | .holdExpire seq => Sys2Proof.Machine.execHoldExpire seq s
  | .sendNotice p => Sys2Proof.Machine.execSendNotice p s
  | .clearSteps p => Sys2Proof.Machine.execClearSteps p s
  | .clearHolds p => Sys2Proof.Machine.execClearHolds p s
  | .firmwareHalt => Sys2Proof.Machine.execFirmwareHalt s
  | .resetRelease straps => Sys2Proof.Machine.execResetRelease straps s
  | .firmwareVerified readOk => Sys2Proof.Machine.execFirmwareVerified readOk s
  | .persistRestore => Sys2Proof.Machine.execPersistRestore s
  | .compositionLoad readOk => Sys2Proof.Machine.execCompositionLoad readOk s
  | .tileLevel windowOk fails cals => Sys2Proof.Machine.execTileLevel windowOk fails cals s
  | .anchor => Sys2Proof.Machine.execAnchor s
  | .hbmTrainingDone warm cold => Sys2Proof.Machine.execHbmTrainingDone warm cold s
  | .hbmInitDone => Sys2Proof.Machine.execHbmInitDone s
  | .discoveryTimeout level => Sys2Proof.Machine.execDiscoveryTimeout level s
  | .ready => Sys2Proof.Machine.execReady s
  | .powerFail => Sys2Proof.Machine.execPowerFail s
  | .shutdownStart p => Sys2Proof.Machine.execShutdownStart p s
  | .shutdownBegin => Sys2Proof.Machine.execShutdownBegin s
  | .shutdownDrainEnd => Sys2Proof.Machine.execShutdownDrainEnd s
  | .shutdownPersistDone ok => Sys2Proof.Machine.execShutdownPersistDone ok s
  | .shutdownSafe ok => Sys2Proof.Machine.execShutdownSafe ok s
  | .selftestStart p => Sys2Proof.Machine.execSelftestStart p s
  | .selftestDone windowOk fails => Sys2Proof.Machine.execSelftestDone windowOk fails s
  | .monitorSample temps volts procs => Sys2Proof.Machine.execMonitorSample temps volts procs s
  | .persistWrite => Sys2Proof.Machine.execPersistWrite s
  | .persistWriteDone ok => Sys2Proof.Machine.execPersistWriteDone ok s
  | .evrClear p => Sys2Proof.Machine.execEvrClear p s
  | .purgeDone => Sys2Proof.Machine.execPurgeDone s
  | .i3cWrite off vs => Sys2Proof.Machine.execI3cWrite off vs s
  | .i3cRead n => Sys2Proof.Machine.execI3cRead n s
  | .jtagInstruction j => Sys2Proof.Machine.execJtagInstruction j s
  | .onzonFrameError p cause => Sys2Proof.Machine.execOnzonFrameError p cause s
  | .linkFrameError l cause => Sys2Proof.Machine.execLinkFrameError l cause s
  | .egressSchedule l => Sys2Proof.Machine.execEgressSchedule l s
  | .sessionLoadDone p => Sys2Proof.Machine.execSessionLoadDone p s
  | .secCommitDone ok => Sys2Proof.Machine.execSecCommitDone ok s
  | .i3cSetdasa dyn => Sys2Proof.Machine.execI3cSetdasa dyn s
  | .resetAssert => Sys2Proof.Machine.execResetAssert s

end Sys2Proof.Machine
end

