-- ==== Sys2Proof/Machine/Tick.lean ====
section
/-! DEFINITION. One nanosecond of the node's own time (R75, R83, R94, R96, R520; assumption 1). -/

namespace Sys2Proof.Machine

open Sys2Proof

/-- One nanosecond of steering: the accumulated phase, and the whole nanoseconds it adds to the count (R94, R96). -/
def steerTick (s : State) : State × Int :=
  let t := s.time
  if t.ppb = 0 ∨ 100000000000000 ≤ (t.acc + t.ppb).natAbs ∧ 0 < t.ppb * t.acc ∧ 100000000000000 ≤ t.acc.natAbs then (s, 0)
  else
    let rem := t.steerRem + t.ppb
    let step : Int := if 100000000000 ≤ rem then 1 else if rem ≤ -100000000000 then -1 else 0
    (onTime (fun x => { x with acc := t.acc + t.ppb, steerRem := rem - step * 100000000000 }) s, step)

/-- One nanosecond of slewing: at most 1 ns in each microsecond of FT (R83). -/
def slewTick (s : State) : State × Int :=
  let t := s.time
  if s.ft < t.slewAt + 1000 then (s, 0)
  else if 256 ≤ t.slew then (onTime (fun x => { x with slew := t.slew - 256, slewAt := s.ft }) s, -1)
  else if t.slew ≤ -256 then (onTime (fun x => { x with slew := t.slew + 256, slewAt := s.ft }) s, 1)
  else (s, 0)

/-- One nanosecond: the node's count since reset, and the fabric count, which is held, slewed and steered but never
decreases (R75). A port's notify interrupt that waits is sent when its 10 µs have passed (R520). -/
def tick (s : State) : State :=
  if s.start.inReset ∨ s.start.powerGood = false then s
  else
    let s := { s with clk := s.clk + 1 }
    let s :=
      if 0 < s.time.held then onTime (fun t => { t with held := t.held - 1 }) s
      else
        let a := steerTick s
        let b := slewTick a.1
        let n := 1 + a.2 + b.2
        onTime (fun t => { t with held := (-n).toNat }) { b.1 with ft := b.1.ft + n.toNat }
    forEach s.ras.notifyDue notifyPort s

end Sys2Proof.Machine
end

