-- ==== Sys2Proof/Safety.lean ====
section
/-! DEFINITION. What a safe step is, one that answers a next state, and what a sound state is. -/

namespace Sys2Proof

open Sys2Proof.Machine

/-- The state in which `step` answers, where it answers one. -/
def Completes (s t : State) : Prop := step s = .next t

/-- A run of `n` steps that all answer. -/
def Runs : Nat → State → State → Prop
  | 0, s, t => s = t
  | n + 1, s, t => ∃ u, Completes s u ∧ Runs n u t

end Sys2Proof

namespace Sys2Proof.Machine

open Sys2Proof

/-- What holds of the data of a state whatever has run: the byte table is in canonical form (addresses strictly rising,
no byte of 0 listed), every register field holds a value of its width (R7), and the event ring holds at most 8,192
records (R567). -/
def State.Sound (s : State) : Prop :=
  memWf s.mem.bytes = true ∧ (∀ (n : RN) (i : Nat), s.rg n i < 2 ^ RN.width n) ∧ s.evr.ring.length ≤ 8192

/-! ### The words in which the claims speak -/

/-- Every byte of memory reads in `t` as in `s`. -/
def SameMem (s t : State) : Prop := ∀ a : Nat, memGet a t.mem.bytes = memGet a s.mem.bytes

/-- The commands some form of which may store to memory; DATA_FRAME only where a word of a port buffer has become uncorrectable,
since what a dropped RMA_WRITE wrote is undefined then (R386, R468). -/
def mayStore : Instr → Bool
  | .registerWrite .. | .expertWindowAccess .. | .arm .. | .cancel .. | .switchBoundary | .drainWindowClose
  | .resourceCleared .. | .holdoverLimit | .ctrlWr .. | .seqCreate .. | .seqFork .. | .seqThaw .. | .pageLink ..
  | .appendCmd .. | .sequenceChangeResume .. | .append .. | .pageSeal .. | .pageFree .. | .pageCopy ..
  | .pageMoveCommit .. | .groupZeroDone .. | .parkTransferStart .. | .parkComplete ..
  | .seqResume .. | .rmaWrite .. | .rmaRead .. | .rxEntryExpire .. | .pagingServed | .owlInsert ..
  | .owlShiftDone .. | .owlDelete .. | .owlLoadAutomaton .. | .resetRelease .. | .compositionLoad ..
  | .hbmInitDone | .i3cWrite .. | .resetAssert => true
  | .dataFrame _ _ d => !d.bad.isEmpty
  | _ => false

/-- Every register cell but those of `but` holds in `t` what it holds in `s`. -/
def SameRegs (but : List RN) (s t : State) : Prop := ∀ (n : RN) (i : Nat), n ∉ but → t.rg n i = s.rg n i

/-- The two cells that an event may change: the counts of lost and of suppressed records (R567, R570). -/
def evrCells : List RN := [.EVR_LOST_COUNT, .EVR_SUPPRESSED_COUNT]

/-- The cells that a frame sent on a fabric link raises, and those that one received raises: its bytes (R403). -/
def txCells : List RN := [.PRT_Ln_TX_LO_BYTES_LO, .PRT_Ln_TX_HI_BYTES_HI]
def rxCells : List RN := [.PRT_Ln_RX_LO_BYTES_LO, .PRT_Ln_RX_HI_BYTES_HI]

/-- A register access of port `p` at an offset reaches the node, and the register there is answered (R544). -/
def Reaches (p : Port) (off : Nat) (s : State) : Prop :=
  s.powered = true ∧ s.portUp p.idx = true ∧ s.answers off = true

/-- The node's engines run and command `k` is started: it is `c`, of an engine and an opcode, it is not held, and none of
its host data has failed to arrive. -/
def Started (k engine opcode : Nat) (c : Cmd) (s : State) : Prop :=
  s.live = true ∧ s.cmd k = some c ∧ c.held = false ∧ Op.engine c.bytes = engine ∧ Op.opcode c.bytes = opcode ∧
  c.bad = none

/-- A started command works on a present sequence of its own carriage whose tables can be read; it goes on in `t`, in which
the errors that this read met are counted (R469, R608). -/
def OwnSeq (k engine opcode : Nat) (layer : Option Nat) (c : Cmd) (q : Seqd) (s t : State) : Prop :=
  Started k engine opcode c s ∧ look (Op.seqId c.bytes) s.seq.seqs = some q ∧ q.car = Op.car c.bytes ∧
  readTables (Op.seqId c.bytes) q layer s = (true, t)

/-- The same of a command that changes its sequence, and whose turn it is: no change runs and none waits before it
(R607). -/
def OwnChange (k engine opcode : Nat) (layer : Option Nat) (c : Cmd) (q : Seqd) (s t : State) : Prop :=
  Started k engine opcode c s ∧ look (Op.seqId c.bytes) s.seq.seqs = some q ∧ q.car = Op.car c.bytes ∧
  mayChange s (Op.seqId c.bytes) (.cmd k) = true ∧
  readTables (Op.seqId c.bytes) q layer (dropWait (.cmd k) s) = (true, t)

/-- A complete message `e` of a type waits under its source and operation, not too late for a shutdown, under a map that
serves it (R62, R548). -/
def Waits (key : Nat × Nat) (ty : Nat) (e : RxEntry) (s : State) : Prop :=
  s.live = true ∧ look key s.prt.rx = some e ∧ H.mtype e.hdr = ty ∧ e.complete = true ∧ e.tooLate s = false ∧
  e.epochUse (H.epoch e.hdr) ≠ .hold ∧ e.epochUse (H.epoch e.hdr) ≠ .stale

/-- Coach `c` is held under a number, its window is open and its cutoff lies ahead, and its sequence is present (R304,
R307). -/
def Working (id : Nat) (c : Coach) (q : Seqd) (s : State) : Prop :=
  s.live = true ∧ s.coach id = some c ∧ c.open_ = true ∧ s.ft < c.cutoff ∧ look c.seq s.seq.seqs = some q

end Sys2Proof.Machine
end

