-- ==== Sys2Proof/Certificates/Slice0/Obligations.lean ====
section
/-! DEFINITION. The statements about the model. -/

open Sys2Proof Sys2Proof.Machine

/-- A step runs the command at the front of the queue. For every command c, queue rest and state s, one step of s with
c at the front of its queue is exec of c on s with the rest of the queue. Rests on spec/95_what_each_step_holds.md. -/
def Obligations.StepRunsFrontCommand : Prop :=
  ∀ (c : Instr) (rest : List Instr) (s : State),
    step (s.withPending (c :: rest)) = exec c (s.withPending rest)

/-- With no command waiting, a step is one nanosecond of the node's own time. This is the model's own choice (log
entry 1, DESIGN CHOICE). A node held in reset or without power does nothing; in every other the node's clock advances
by one, fabric time does not decrease, and memory and the waiting commands stay. Rests on spec/03_fabric_time.md. -/
def Obligations.EmptyQueueTicks : Prop :=
  (∀ s : State, s.pending = [] → step s = .next (tick s)) ∧
  (∀ s : State, s.powered = false → tick s = s) ∧
  (∀ s : State, s.powered = true →
    (tick s).clk = s.clk + 1 ∧ s.ft ≤ (tick s).ft ∧ (tick s).mem = s.mem ∧ (tick s).pending = s.pending)

/-- The state after reset meets the invariant. The byte table of the state after reset is canonical (it lists nothing;
that unlisted memory reads 0 is log entry 4), every register field holds a value of its width, and the event ring is
empty; no command waits. Rests on spec/00_scope.md, spec/01_node_overview.md. -/
def Obligations.ResetIsSound : Prop :=
  State.reset.Sound ∧ State.reset.evr.ring = [] ∧ State.reset.mem.bytes = [] ∧ State.reset.pending = []

/-- Every step keeps the invariant. From every sound state, if a step answers a next state, that state is sound: the
byte table stays canonical (addresses strictly rising, no byte of 0 listed), every register field holds a value of its
width, and the event ring holds at most 8,192 records. Rests on spec/14_memory.md, spec/18_monitors_recorder.md,
spec/01_node_overview.md. -/
def Obligations.StepKeepsSound : Prop :=
  ∀ s t : State, s.Sound → step s = .next t → t.Sound

/-- No command touches the waiting commands. Whatever a command does, on a sound state, the commands that wait behind
it wait unchanged in the state it leads to. Rests on spec/95_what_each_step_holds.md. -/
def Obligations.ExecLeavesTheQueue : Prop :=
  ∀ (c : Instr) (s t : State), s.Sound → exec c s = .next t → t.pending = s.pending

/-- Memory is left alone by every command that stores nothing. mayStore names the commands some form of which stores
to HBM or CXL memory (page writes and copies, table memory, Owl shadows, cleared groups, remote writes, images put
into force, resets, and the register writes that can start one of these). Every other command, whatever its operands,
leaves every byte of memory as it was. Rests on spec/14_memory.md, spec/95_what_each_step_holds.md. -/
def Obligations.StorelessCommandsKeepMemory : Prop :=
  ∀ (c : Instr) (s t : State), s.Sound → mayStore c = false → exec c s = .next t → SameMem s t

/-- A write to memory changes the bytes written and no other. In a sound state, after bytes are written at an address,
a byte of the span reads as written and every other byte reads as before; after a span is zeroed its bytes read 0 and
every other byte reads as before. Every command that stores does so through these two operations, or by the reset,
which empties memory. Rests on spec/14_memory.md. -/
def Obligations.MemoryWritesOnlyItsSpan : Prop :=
  (∀ (a b : Nat) (bs : List Byte) (s : State), s.Sound →
    memGet b (writeAt a bs s).mem.bytes = if h : a ≤ b ∧ b - a < bs.length then bs[b - a] else memGet b s.mem.bytes) ∧
  (∀ (a n b : Nat) (s : State), s.Sound →
    memGet b (zeroAt a n s).mem.bytes = if a ≤ b ∧ b < a + n then 0 else memGet b s.mem.bytes)

/-- A read of a low word latches the high word for the port that reads. LATCHED_READ completes. A read of the low word
of a 64-bit quantity that reaches a basic register gives the port the low word and latches the high word of that
moment for that port, and for no other. The port's next read of the high word, whatever has changed meanwhile, gives
the latched value and uses the latch up. Neither read touches memory. Rests on R8. -/
def Obligations.LatchedReadLatchesTheHighWord : Prop :=
  (∀ (p : Port) (off : Nat) (s : State), offsetOk off = true → Reaches p off s → inExpert off = false →
    isLow off = true → look (p.idx, off) s.hi = none →
    ∃ t, exec (.latchedRead p off) s = .next t ∧ t.sent = .value p.idx off (regValue p.idx off s) :: s.sent ∧
      look (p.idx, off + 4) t.hi = some (regValue p.idx (off + 4) s) ∧
      (∀ k, k ≠ (p.idx, off + 4) → look k t.hi = look k s.hi) ∧ t.mem = s.mem) ∧
  (∀ (p : Port) (off v : Nat) (s : State), offsetOk off = true → Reaches p off s → inExpert off = false →
    semAt off = none → look (p.idx, off) s.hi = some v →
    ∃ t, exec (.latchedRead p off) s = .next t ∧ t.sent = .value p.idx off v :: s.sent ∧
      look (p.idx, off) t.hi = none ∧ t.mem = s.mem)

/-- A read of an RC field returns its value and clears it, at once. READ_CLEAR completes: the port gets the word as it
stood, every RC field of the register is then at its Reset value, and no other register cell and no byte of memory
changes. A second read, by either port, gives the register as the first one left it. Rests on R12. -/
def Obligations.ReadClearReturnsAndClears : Prop :=
  (∀ (p : Port) (off : Nat) (r : Reg) (e : Nat) (s : State), offsetOk off = true → Reaches p off s →
    windowUsable p.idx off s = true → semAt off = none → look (p.idx, off) s.hi = none →
    regAt off = some (r, e) →
    ∃ t, exec (.readClear p off) s = .next t ∧ t.sent = .value p.idx off (regValue p.idx off s) :: s.sent ∧
      (∀ f ∈ r.fields, f.acc = .rc → t.rg f.cell (cellIndex p.idx e r f.base s) = RN.reset f.cell) ∧
      SameRegs ((r.fields.filter (fun f => f.acc == .rc)).map (fun f => f.cell)) s t ∧ t.mem = s.mem) ∧
  (∀ (p q : Port) (off : Nat) (r : Reg) (e : Nat) (s t : State), offsetOk off = true → Reaches p off s → Reaches q off t →
    windowUsable p.idx off s = true → windowUsable q.idx off t = true → semAt off = none →
    look (q.idx, off) t.hi = none → regAt off = some (r, e) → exec (.readClear p off) s = .next t →
    ∃ u, exec (.readClear q off) t = .next u ∧ u.sent = .value q.idx off (regValue q.idx off t) :: t.sent)

/-- Without an unlock, the expert window reads 0, ignores writes, and is recorded. EXPERT_WINDOW_ACCESS completes. An
access by a port that has not unlocked the block's expert window gives the port 0 if it is a read, changes no register
if it is a write, and in both cases raises event 0x0B01 with the port and the offset; nothing else changes. With the
window unlocked, a read gives the register's word. Rests on R15. -/
def Obligations.LockedExpertWindowIsSilent : Prop :=
  (∀ (p : Port) (off : Nat) (s : State), offsetOk off = true → Reaches p off s → inExpert off = true →
    s.expertOpen p.idx (off / 1048576) = false →
    exec (.expertWindowAccess p off none) s =
      .next (emit (.value p.idx off 0) (raise 0x0B01 none [(1, p.idx), (3, off)] s))) ∧
  (∀ (p : Port) (off : Nat) (w : Word) (s : State), offsetOk off = true → Reaches p off s → inExpert off = true →
    s.expertOpen p.idx (off / 1048576) = false →
    exec (.expertWindowAccess p off (some w)) s = .next (raise 0x0B01 none [(1, p.idx), (3, off)] s)) ∧
  (∀ (p : Port) (off : Nat) (s : State), offsetOk off = true → Reaches p off s → inExpert off = true →
    s.expertOpen p.idx (off / 1048576) = true → semAt off = none → look (p.idx, off) s.hi = none →
    ∃ t, exec (.expertWindowAccess p off none) s = .next t ∧
      t.sent = .value p.idx off (regValue p.idx off s) :: s.sent)

/-- An offset of a basic window that no table defines reads 0 and ignores writes; an offset beyond the control space
is no access. A read there gives 0, a write changes nothing, and neither raises an event or changes a register or
memory (R30). A register access whose offset lies beyond the 16 MiB control space (R29) reaches no register: a read of
it has no effect and a write of it is discarded and counted (R113). Rests on spec/01_node_overview.md,
spec/04_onzon_queues.md. -/
def Obligations.UndefinedOffsetsAreSilent : Prop :=
  (∀ (p : Port) (off : Nat) (s : State), offsetOk off = true → Reaches p off s → inExpert off = false →
    regAt off = none → look (p.idx, off) s.hi = none →
    ∃ t, exec (.readClear p off) s = .next t ∧ t.sent = .value p.idx off 0 :: s.sent ∧ t.regs = s.regs ∧ t.evr = s.evr ∧
      t.mem = s.mem) ∧
  (∀ (p : Port) (off : Nat) (v : Word) (s : State), offsetOk off = true → Reaches p off s → inExpert off = false →
    regAt off = none → exec (.registerWrite p off v) s = .next s) ∧
  (∀ (p : Port) (off : Nat) (v : Word) (s : State), offsetOk off = false →
    exec (.readClear p off) s = .next s ∧ exec (.latchedRead p off) s = .next s ∧
    exec (.registerWrite p off v) s = .next (if s.powered && s.portUp p.idx then bump .QUE_PORT_ERR_CRC p.idx 1 s else s))

/-- A register write sets each field as its access type says, and the last write stands. REGISTER_WRITE completes: a
write that reaches a usable register without a rule of its own and without action bits applies its fields one after
the other (R9, R13). A field written alone: RW takes the value (within its range), W1C clears the bits written 1, W1S
sets them, and RO, RC and WO keep their cell; no other cell changes, unless the field is an enable bit (R67), a Fox
trim or FORCE_OUT (R251, R259) or a link's DISABLE (R363). Two RW writes in a row, from either port, leave the second
value. Rests on spec/01_node_overview.md, spec/02_composition.md. -/
def Obligations.RegisterWriteSetsItsFields : Prop :=
  (∀ (p : Port) (off : Nat) (v : Word) (r : Reg) (e : Nat) (s : State), offsetOk off = true → Reaches p off s →
    windowUsable p.idx off s = true → regAt off = some (r, e) → writeBarred p.idx off s = none →
    ownWrite p.idx e off v.toNat = none → r.actions = [] →
    exec (.registerWrite p off v) s = .next (forEach r.fields (fieldWrite p.idx e r v.toNat) s)) ∧
  (∀ (p e : Nat) (r : Reg) (v : Nat) (f : Fld) (s : State),
    enableBits.find? (fun b => b.2.2 == f.cell) = none →
    f.cell ∉ foxMacroTrims ++ foxColumnTrims ++ [.FOX_M_HOLD_FORCE_OUT, .PRT_Ln_CTRL_DISABLE, .BIST_SHUT_CTRL_TEST] →
    let i := cellIndex p e r f.base s
    let x := fieldTakes f.cell (bits v f.lo (f.hi - f.lo + 1))
    (f.acc = .rw → (fieldWrite p e r v f s).rg f.cell i = x % 2 ^ RN.width f.cell) ∧
    (f.acc = .w1c → (fieldWrite p e r v f s).rg f.cell i = (s.rg f.cell i - Nat.land (s.rg f.cell i) x) % 2 ^ RN.width f.cell) ∧
    (f.acc = .w1s → (fieldWrite p e r v f s).rg f.cell i = Nat.lor (s.rg f.cell i) x % 2 ^ RN.width f.cell) ∧
    (f.acc = .ro ∨ f.acc = .rc ∨ f.acc = .wo → fieldWrite p e r v f s = s) ∧
    (∀ m j, (m, j) ≠ (f.cell, i) → (fieldWrite p e r v f s).rg m j = s.rg m j) ∧
    SameMem s (fieldWrite p e r v f s)) ∧
  (∀ (p q e : Nat) (r : Reg) (v w : Nat) (f : Fld) (s : State), r.bank = .plain → f.acc = .rw →
    enableBits.find? (fun b => b.2.2 == f.cell) = none →
    f.cell ∉ foxMacroTrims ++ foxColumnTrims ++ [.FOX_M_HOLD_FORCE_OUT, .PRT_Ln_CTRL_DISABLE, .BIST_SHUT_CTRL_TEST] →
    (fieldWrite q e r w f (fieldWrite p e r v f s)).rg f.cell (cellIndex q e r f.base s) =
      fieldTakes f.cell (bits w f.lo (f.hi - f.lo + 1)) % 2 ^ RN.width f.cell)

/-- CMP_SRC, CMP_SWITCH_FT and CMP_EXPERT_UNLOCK need their semaphore. A write to CMP_SRC or CMP_SWITCH_FT by a port
that does not hold semaphore 0 changes nothing at all. A write to CMP_EXPERT_UNLOCK by a port that does not hold
semaphore 4 leaves every unlock and every register cell but the recorder's counts as they were (its event 0x020B is
recorded). The same holds of EXPERT_UNLOCK, the command of that write. Rests on R73. -/
def Obligations.WritesWithoutTheSemaphoreAreIgnored : Prop :=
  (∀ (p : Port) (k : Fin 6) (v : Word) (s : State), Reaches p (0x200008 + 4 * k.val) s → s.holdsSem p.idx 0 = false →
    exec (.registerWrite p (0x200008 + 4 * k.val) v) s = .next s) ∧
  (∀ (p : Port) (v : Word) (s : State), Reaches p 0x200074 s → s.holdsSem p.idx 4 = false →
    exec (.registerWrite p 0x200074 v) s = .next (raise 0x020B none [] s)) ∧
  (∀ (p : Port) (b : BitVec 16) (s : State), s.live = true → Reaches p 0x200074 s → s.holdsSem p.idx 4 = false →
    ∃ t, exec (.expertUnlock p b) s = .next t ∧ t.comp = s.comp ∧ SameRegs evrCells s t ∧ SameMem s t)

/-- A read of GLB_SEMn takes a free semaphore; GLB_SEM_REL frees one that the writing port holds. SEM_READ,
SEM_RELEASE and SEM_LEASE_EXPIRE complete. A read takes a free semaphore and returns GRANTED 1, returns 1 to its
holder and 0 to the other port, changing nothing, and for semaphores 5 to 15 returns 0 and records event 0x0002. A
release by the holder frees it; any other release changes no semaphore and records event 0x0003. A semaphore whose
holder has been DOWN for 100 ms is freed with event 0x0001; one whose lease runs shorter, or not at all, stays. No
other semaphore changes. Rests on R123, R125. -/
def Obligations.SemaphoresAreTakenAndFreed : Prop :=
  (∀ (p : Port) (n : Fin 64) (s : State), Reaches p (semOffset n.val) s →
    ∃ (t : State) (v : Nat), exec (.semRead p n) s = .next t ∧ t.sent = .value p.idx (semOffset n.val) v :: s.sent ∧
      SameRegs evrCells s t ∧ t.mem = s.mem ∧
      (semReserved n.val = true → v / 4 % 2 = 0 ∧ t.que = s.que ∧ t.evr = (raise 0x0002 none [] s).evr) ∧
      (semReserved n.val = false → t.evr = s.evr ∧ (∀ m, m ≠ n.val → look m t.que.sems = look m s.que.sems) ∧
        (look n.val s.que.sems = none → look n.val t.que.sems = some { owner := p.idx, lease := none } ∧ v / 4 % 2 = 1) ∧
        (∀ x, look n.val s.que.sems = some x → t.que = s.que ∧ v / 4 % 2 = if x.owner = p.idx then 1 else 0))) ∧
  (∀ (p : Port) (n : Fin 64) (s : State), Reaches p 0x200 s → s.holdsSem p.idx n.val = true →
    ∃ t, exec (.semRelease p n) s = .next t ∧ look n.val t.que.sems = none ∧
      (∀ m, m ≠ n.val → look m t.que.sems = look m s.que.sems) ∧ (n.val ≠ 4 → t.comp = s.comp ∧ t.evr = s.evr) ∧ t.mem = s.mem) ∧
  (∀ (p : Port) (n : Fin 64) (s : State), Reaches p 0x200 s → s.holdsSem p.idx n.val = false →
    exec (.semRelease p n) s = .next (raise 0x0003 none [] s)) ∧
  (∀ (n : Fin 64) (x : Sem) (since : Nat) (s : State), s.live = true → look n.val s.que.sems = some x →
    x.lease = some since → since + 100000000 ≤ s.clk →
    ∃ t, exec (.semLeaseExpire n) s = .next t ∧ look n.val t.que.sems = none ∧
      (∀ m, m ≠ n.val → look m t.que.sems = look m s.que.sems) ∧ (n.val ≠ 4 → t.comp = s.comp) ∧ t.mem = s.mem) ∧
  (∀ (n : Fin 64) (x : Sem) (s : State), s.live = true → look n.val s.que.sems = some x →
    (x.lease = none ∨ ∃ since, x.lease = some since ∧ s.clk < since + 100000000) →
    exec (.semLeaseExpire n) s = .next s)

/-- STAGE, IMAGE_FETCH_DONE, IMAGE_VALIDATED, SHADOW_TABLES_LOADED, COMMIT and COMMIT_DONE. STAGE by a port that holds
semaphore 0, in a state that takes it, goes to FETCHING when CMP_SRC_LEN is 256 to 4,194,304 and to INVALID with CHECK
1 when it is not; without the semaphore, or in a state that refuses it, it is refused with event 0x0207 and nothing
else (R51, R52). When the last read of the fetch is answered the state becomes VALIDATING, or INVALID with CHECK 1
when bytes are missing (R53). A staged image that passes the checks becomes VALID with event 0x0201, one that fails
makes the state INVALID with its CHECK and TAG (R45). COMMIT begins a flash write of the image in force, and
COMMIT_DONE ends it with event 0x020A (R603). None of them writes memory. Rests on spec/02_composition.md. -/
def Obligations.CompositionIsStagedAndCommitted : Prop :=
  (∀ (p : Port) (s : State), s.live = true → Reaches p 0x200000 s → s.holdsSem p.idx 0 = true → stageRefused s.cmp = false →
    ∃ t, exec (.stage p) s = .next t ∧ SameMem s t ∧ t.seq = s.seq ∧
      t.cmp = if s.rg .CMP_SRC_LEN_LEN 0 < 256 ∨ 4194304 < s.rg .CMP_SRC_LEN_LEN 0 then 4 else 1) ∧
  (∀ (p : Port) (s : State), s.live = true → Reaches p 0x200000 s →
    s.holdsSem p.idx 0 = false ∨ stageRefused s.cmp = true → exec (.stage p) s = .next (raise 0x0207 none [] s)) ∧
  (∀ (p len got : Nat) (s : State), s.live = true → s.comp.fetch = some (p, len, got) → imageWaits (s.onz p) = false →
    ∃ t, exec .imageFetchDone s = .next t ∧ t.comp.fetch = none ∧ t.cmp = (if got = len then 2 else 4) ∧
      t.rg .CMP_STATUS_CHECK 0 = (if got = len then s.rg .CMP_STATUS_CHECK 0 else 1) ∧ t.comp.image = s.comp.image ∧ SameMem s t) ∧
  (∀ (s : State), s.live = true → s.cmp = 2 →
    ∃ t, exec .imageValidated s = .next t ∧ t.comp.image = s.comp.image ∧ SameMem s t ∧
      (∀ im, validate s s.comp.staging s.comp.staging.length s.comp.image.isSome = .ok im →
        t.cmp = 3 ∧ t.comp.staged = some im ∧ ∃ u, t = raise 0x0201 none [] u) ∧
      (∀ check tag, validate s s.comp.staging s.comp.staging.length s.comp.image.isSome = .error (check, tag) →
        t.cmp = 4 ∧ t.comp.staged = none ∧ t.rg .CMP_STATUS_CHECK 0 = check % 2 ^ RN.width .CMP_STATUS_CHECK ∧
        t.rg .CMP_STATUS_TAG 0 = tag % 2 ^ RN.width .CMP_STATUS_TAG)) ∧
  (∀ (s : State), s.live = true → s.cmp = 5 →
    exec .shadowTablesLoaded s = .next (onComp (fun c => { c with shadow := true }) s)) ∧
  (∀ (p : Port) (s : State), s.live = true → Reaches p 0x200000 s → s.holdsSem p.idx 0 = true → s.comp.image ≠ none →
    s.rg .CMP_STATUS_COMMIT_BUSY 0 ≠ 1 →
    ∃ t, exec (.commit p) s = .next t ∧ t.rg .CMP_STATUS_COMMIT_BUSY 0 = 1 ∧ t.comp.commit = some s.im.raw ∧
      SameRegs [.CMP_STATUS_COMMIT_BUSY] s t ∧ t.sec = s.sec ∧ SameMem s t) ∧
  (∀ (ok : Bool) (b : List Byte) (s : State), s.live = true → s.comp.commit = some b →
    ∃ t, exec (.commitDone ok) s = .next t ∧ t.rg .CMP_STATUS_COMMIT_BUSY 0 = 0 ∧ t.comp.commit = none ∧
      (ok = true → t.sec.flash.composition = b) ∧ (ok = false → t.sec = s.sec) ∧
      SameRegs (.CMP_STATUS_COMMIT_BUSY :: evrCells) s t ∧ SameMem s t ∧ ∃ u, t = raise 0x020A none [] u)

/-- EXPERT_UNLOCK and EXPERT_UNLOCK_EXPIRE. A port that holds semaphore 4 and asks for blocks that a grant of the
image in force names, in a life-cycle state that permits them, has those blocks' expert windows open and no other
port's change; blocks no grant names are refused with event 0x020B and nothing else. When MAX_UNLOCK_S of the grant
has passed, the unlock ends: the window is closed and event 0x020C is recorded (R70, R71). Rests on
spec/02_composition.md, spec/15_security.md. -/
def Obligations.ExpertUnlocksAreGrantedAndEnd : Prop :=
  (∀ (p : Port) (b : BitVec 16) (maxS : Nat) (s : State), s.live = true → Reaches p 0x200074 s → s.holdsSem p.idx 4 = true →
    b.toNat ≠ 0 → s.im.grantFor p.idx b.toNat = some maxS → unlockPermitted s b.toNat = true →
    ∃ t, exec (.expertUnlock p b) s = .next t ∧ (∀ k, t.expertOpen p.idx k = bit b.toNat k) ∧
      (∀ k, t.expertOpen p.other.idx k = s.expertOpen p.other.idx k) ∧
      look p.idx t.comp.unlocks = some (s.clk, maxS) ∧ SameRegs [.CMP_EXPERT_UNLOCK_BLOCKS] s t ∧ t.evr = s.evr ∧ SameMem s t) ∧
  (∀ (p : Port) (b : BitVec 16) (s : State), s.live = true → Reaches p 0x200074 s → s.holdsSem p.idx 4 = true →
    b.toNat ≠ 0 → s.im.grantFor p.idx b.toNat = none → exec (.expertUnlock p b) s = .next (raise 0x020B none [] s)) ∧
  (∀ (p : Port) (since maxS : Nat) (s : State), s.live = true → look p.idx s.comp.unlocks = some (since, maxS) →
    since + maxS * 1000000000 ≤ s.clk →
    ∃ t, exec (.expertUnlockExpire p) s = .next t ∧ look p.idx t.comp.unlocks = none ∧
      t.rg .CMP_EXPERT_UNLOCK_BLOCKS p.idx = 0 ∧ SameRegs (.CMP_EXPERT_UNLOCK_BLOCKS :: evrCells) s t ∧
      (∃ u, t = raise 0x020C none [] u) ∧ SameMem s t) ∧
  (∀ (p : Port) (since maxS : Nat) (s : State), s.live = true → look p.idx s.comp.unlocks = some (since, maxS) →
    s.clk < since + maxS * 1000000000 → exec (.expertUnlockExpire p) s = .next s)

/-- ARM, CANCEL and HOLDOVER_LIMIT. ARM by a port with semaphore 0 puts a VALID image into force at once while none is
(event 0x0205); while one is, it arms the switch when check 16 passes (state ARMED, a COMP_SWITCH entry at
CMP_SWITCH_FT, event 0x0203) and reads CHECK 16 when it fails, the image in force staying in both cases (R47, R54,
R55). CANCEL before the boundary takes the switch back (R56). After 10,000,000 ns of HOLDOVER the time state is FAULT
and FAULT_SEEN is set; pending entries of kinds 1 to 3 are cancelled (R57, R87, R89). A port without the semaphore is
refused with event 0x0207. Rests on spec/02_composition.md, spec/03_fabric_time.md. -/
def Obligations.SwitchIsArmedAndCancelled : Prop :=
  (∀ (p : Port) (im : Image) (s : State), s.live = true → Reaches p 0x200000 s → s.holdsSem p.idx 0 = true → s.cmp = 3 →
    s.comp.staged = some im → s.comp.image = none →
    exec (.arm p) s = .next (raise 0x0205 none [(2, im.epoch)] (putInForce im s))) ∧
  (∀ (p : Port) (im cur : Image) (i : Nat) (s : State), s.live = true → Reaches p 0x200000 s → s.holdsSem p.idx 0 = true →
    s.cmp = 3 → s.comp.staged = some im → s.comp.image = some cur → check16 s im = true → evtFree s 1 0 = some i →
    ∃ t, exec (.arm p) s = .next t ∧ t.cmp = 5 ∧ t.comp.image = some cur ∧ t.comp.entry = some i ∧
      (t.evt i).any (fun e => e.kind == 1 && e.st == 1 &&
        e.ft == s.rg .CMP_SWITCH_FT_LO_FT_LO 0 + s.rg .CMP_SWITCH_FT_HI_FT_HI 0 * 2 ^ 32) = true ∧ t.mem = s.mem ∧ t.seq = s.seq) ∧
  (∀ (p : Port) (im cur : Image) (s : State), s.live = true → Reaches p 0x200000 s → s.holdsSem p.idx 0 = true →
    s.cmp = 3 → s.comp.staged = some im → s.comp.image = some cur → check16 s im = false →
    ∃ t, exec (.arm p) s = .next t ∧ t.cmp = 3 ∧ t.rg .CMP_STATUS_CHECK 0 = 16 ∧ t.comp = s.comp ∧ t.time = s.time ∧ t.mem = s.mem) ∧
  (∀ (p : Port) (s : State), s.live = true → Reaches p 0x200000 s → s.holdsSem p.idx 0 = false →
    exec (.arm p) s = .next (raise 0x0207 none [] s) ∧ exec (.cancel p) s = .next (raise 0x0207 none [] s) ∧
    exec (.commit p) s = .next (raise 0x0207 none [] s)) ∧
  (∀ (p : Port) (at_ : Nat) (s : State), s.live = true → Reaches p 0x200000 s → s.holdsSem p.idx 0 = true → s.cmp = 5 →
    s.armedFt = some at_ → s.ft < at_ → exec (.cancel p) s = .next (cancelSwitch s)) ∧
  (∀ (p : Port) (s : State), s.live = true → Reaches p 0x200000 s → s.holdsSem p.idx 0 = true → s.cmp = 5 →
    s.armedFt.all (fun at_ => decide (at_ ≤ s.ft)) = true → exec (.cancel p) s = .next s) ∧
  (∀ (s : State), s.live = true → s.tt = 3 → s.time.holdFrom + 10000000 ≤ s.ft →
    let us := min ((s.ft - s.time.holdFrom) / 1000) 16383
    let u := noticeAll 0x01 us (raise 0x0104 none [] (setRg .TT_HOLD_HOLD_US 0 us (setRg .TT_STATUS_FAULT_SEEN 0 1
      (setRg .TT_STATUS_STATE 0 4 s))))
    exec .holdoverLimit s = .next (when (u.cmp == 5) cancelSwitch
      (forEach (faultEntries u) faultCancel u))) ∧
  (∀ (s : State), s.live = true → (s.tt ≠ 3 ∨ s.ft < s.time.holdFrom + 10000000) → exec .holdoverLimit s = .next s)

/-- SWITCH_BOUNDARY, DRAIN_WINDOW_CLOSE, RESOURCE_CLEAR_START, RESOURCE_CLEARED and OLD_EPOCH_GRACE_END. When the
COMP_SWITCH entry is due, the staged image is put into force, the losses of the boundary take place, and the held
commands and messages go on (R58, R63). DRAIN_US after the boundary the drain window closes: groups and slots are
handed over at once, and the first stale request is recorded from then on. A moved resource whose old-epoch work has
ended is cleared and, when its clearing time has passed, handed to its new owner; when all are handed over the state
is IDLE again with event 0x0205. At 400 microseconds after the window, old-epoch work on resources still waiting is
ended (R59, R60). Rests on spec/02_composition.md. -/
def Obligations.SwitchRunsItsSteps : Prop :=
  (∀ (i : Nat) (e : Evt) (b : Image) (s : State), s.live = true → s.comp.entry = some i → s.comp.staged = some b →
    s.evt i = some e → evtFires s i 1 = true →
    exec .switchBoundary s = .next (releaseMsgs (releaseCmds
      (boundaryLosses s.im b (newImage s.im b e.ft (evtFired i s)))))) ∧
  (∀ (a b : Image) (at_ : Nat) (s : State),
    (newImage a b at_ s).comp.image = some b ∧ (newImage a b at_ s).comp.prev = some a ∧ (newImage a b at_ s).cmp = 6 ∧
    (newImage a b at_ s).comp.boundary = at_ ∧ (newImage a b at_ s).rg .CMP_EPOCH_ARMED 0 = 0 ∧
    (newImage a b at_ s).mem = s.mem ∧ (newImage a b at_ s).seq = s.seq) ∧
  (∀ (s : State), s.live = true → s.cmp = 6 → s.comp.boundary + s.im.drainUs * 1000 ≤ s.ft →
    ∃ u, exec .drainWindowClose s = .next (switchComplete (ownMaps u)) ∧ u.cmp = 7 ∧ u.comp.drainEnd = s.ft ∧
      u.comp.firstStale = true ∧
      u.comp.moved = s.comp.moved.map (fun m => if resAtOnce m.1 then (m.1, .handed) else m) ∧ u.mem = s.mem) ∧
  (∀ (s : State), s.cmp = 7 → (s.comp.moved.all (fun m => m.2 == .handed)) = true →
    (switchComplete s).cmp = 0 ∧ (switchComplete s).comp.moved = [] ∧ (switchComplete s).comp.image = s.comp.image ∧
    (switchComplete s).mem = s.mem) ∧
  (∀ (r : Res) (s : State), s.live = true → s.cmp = 7 → look r s.comp.moved = some .waiting → oldWork s r = false →
    ∃ t, exec (.resourceClearStart r) s = .next t ∧ look r t.comp.moved = some (.clearing s.ft) ∧
      (∀ q, q ≠ r → look q t.comp.moved = look q s.comp.moved) ∧ t.mem = s.mem) ∧
  (∀ (r : Res) (since : Nat) (s : State), s.live = true → look r s.comp.moved = some (.clearing since) →
    since + clearTime r ≤ s.ft →
    exec (.resourceCleared r) s = .next (switchComplete (handOver r (setMoved r .handed s)))) ∧
  (∀ (r : Res) (since : Nat) (s : State), s.live = true → look r s.comp.moved = some (.clearing since) →
    s.ft < since + clearTime r → exec (.resourceCleared r) s = .next s) ∧
  (∀ (s : State), s.live = true → s.cmp = 7 → s.comp.drainEnd + 400000 ≤ s.ft →
    exec .oldEpochGraceEnd s = .next (forEach ((s.comp.moved.filter (fun m => m.2 == .waiting)).map Prod.fst) endOldWork s)) ∧
  (∀ (s : State), s.live = true → (s.cmp ≠ 7 ∨ s.ft < s.comp.drainEnd + 400000) → exec .oldEpochGraceEnd s = .next s)

/-- FT_REF_STABLE, FT_REF_LOST and FT_CODE_WORD. FT_REF present and stable sets REF_OK and takes FREE to ACQUIRING;
its loss clears REF_OK with event 0x0103 and takes LOCKED to HOLDOVER (R81, R85). A valid word that agrees with the
count is kept for its edge and ends a run of bad ones; an invalid word is counted and recorded, and in LOCKED the
second in a row leads to HOLDOVER (R79, R84). Fabric time itself and memory do not change. Rests on
spec/03_fabric_time.md. -/
def Obligations.TimebaseReferenceAndWords : Prop :=
  (∀ (s : State), s.live = true →
    ∃ t, exec .ftRefStable s = .next t ∧ t.rg .TT_STATUS_REF_OK 0 = 1 ∧ t.tt = (if s.tt = 0 then 1 else s.tt) ∧
      SameRegs [.TT_STATUS_REF_OK, .TT_STATUS_STATE] s t ∧ t.time = s.time ∧ t.ft = s.ft ∧ t.evr = s.evr ∧ SameMem s t) ∧
  (∀ (s : State), s.live = true → s.rg .TT_STATUS_REF_OK 0 ≠ 0 →
    ∃ t, exec .ftRefLost s = .next t ∧ t.rg .TT_STATUS_REF_OK 0 = 0 ∧ t.tt = (if s.tt = 2 then 3 else s.tt) ∧
      (s.tt = 2 → t.rg .TT_STATUS_STEERING 0 = 0 ∧ t.time.ppb = 0 ∧ t.time.holdFrom = s.ft) ∧
      (s.tt ≠ 2 → t.time = s.time) ∧ t.ft = s.ft ∧ SameMem s t) ∧
  (∀ (w : BitVec 128) (s : State), s.live = true → wordValid w = true → s.tt ≠ 0 →
    expects s = false ∨ disagrees s (wordNext w) = false →
    ∃ t, exec (.ftCodeWord w) s = .next t ∧ t.time.badRun = 0 ∧ t.tt = s.tt ∧ t.ft = s.ft ∧
      t.time.word = some { next := wordNext w, began := s.clk - 5120, ended := s.clk } ∧
      t.rg .TT_STATUS_TB_ID 0 = bits w.toNat 40 8 ∧ t.rg .TT_STATUS_TB_STATUS 0 = bits w.toNat 48 2 ∧
      SameRegs [.TT_STATUS_TB_ID, .TT_STATUS_TB_STATUS] s t ∧ SameMem s t) ∧
  (∀ (w : BitVec 128) (s : State), s.live = true → wordValid w = false →
    ∃ t, exec (.ftCodeWord w) s = .next t ∧
      t.rg .TT_CODE_ERR_CRC 0 = min (s.rg .TT_CODE_ERR_CRC 0 + 1) (2 ^ RN.width .TT_CODE_ERR_CRC - 1) ∧
      (s.tt = 2 ∧ 1 ≤ s.time.badRun → t.tt = 3 ∧ t.time.ppb = 0) ∧
      (¬ (s.tt = 2 ∧ 1 ≤ s.time.badRun) → t.tt = s.tt ∧ t.time.badRun = s.time.badRun + 1) ∧ t.ft = s.ft ∧ SameMem s t)

/-- FT_SYNC_EDGE and FT_SYNC_MISSING. An edge is captured in TT_CAP. In LOCKED an edge within the window (64 ns either
way) keeps the state and its error is slewed out, in whole nanoseconds where the timetable does not use the capture
timer (R104); one outside the window leads to HOLDOVER with event 0x0106, the edge of its boundary and that of the
word still awaited, and so does a missing edge (R80 to R83). In HOLDOVER an in-window edge at the FT that the waiting
word names relocks while FT_REF is present (R86). In FAULT an edge in the window of R88 after a valid word loads the
count and relocks. In ACQUIRING the first edge after a valid word loads the count, and a second confirming edge locks
(R80, R86). Memory does not change. Rests on spec/03_fabric_time.md. -/
def Obligations.SyncEdgesAreJudged : Prop :=
  (∀ (frac : BitVec 8) (s : State), s.live = true → s.tt = 2 → -16384 ≤ edgeErr s frac.toNat → edgeErr s frac.toNat ≤ 16384 →
    ∃ t, exec (.ftSyncEdge frac) s = .next t ∧ t.tt = 2 ∧ t.time.slew = trimOf s (edgeErr s frac.toNat) ∧ t.time.judged = edgeFrame s frac.toNat ∧
      t.rg .TT_CAP_LO_CAP_LO 0 = s.ft % 2 ^ 32 ∧ t.rg .TT_CAP_HI_CAP_HI 0 = s.ft / 2 ^ 32 % 2 ^ 32 ∧
      t.rg .TT_CAP_FRAC_FRAC 0 = frac.toNat ∧ t.ft = s.ft ∧ t.evr = s.evr ∧
      SameRegs [.TT_CAP_LO_CAP_LO, .TT_CAP_HI_CAP_HI, .TT_CAP_FRAC_FRAC, .TT_SYNC_ERR_ERR] s t ∧ SameMem s t) ∧
  (∀ (frac : BitVec 8) (s : State), s.live = true → s.tt = 2 →
    (edgeErr s frac.toNat < -16384 ∨ 16384 < edgeErr s frac.toNat) →
    ∃ t, exec (.ftSyncEdge frac) s = .next t ∧ t.tt = 3 ∧ t.time.holdFrom = s.ft ∧ t.time.ppb = 0 ∧
      t.time.judged = s.time.judged ∧ t.time.word = s.time.word ∧ t.ft = s.ft ∧ SameMem s t) ∧
  (∀ (frac : BitVec 8) (w : CodeWord) (s : State), s.live = true → s.tt = 1 → s.time.loaded = false → s.time.word = some w →
    ∃ t, exec (.ftSyncEdge frac) s = .next t ∧ t.tt = 1 ∧ t.time.loaded = true ∧ t.time.confirm = 1 ∧
      t.ft = max s.ft w.next ∧ t.time.held = s.ft - w.next ∧ t.time.acc = 0 ∧ SameMem s t) ∧
  (∀ (frac : BitVec 8) (s : State), s.live = true → s.tt = 1 → s.time.loaded = true → s.time.confirm = 1 →
    -16384 ≤ edgeErr s frac.toNat → edgeErr s frac.toNat ≤ 16384 → wordNames s (edgeFrame s frac.toNat) = true →
    ∃ t, exec (.ftSyncEdge frac) s = .next t ∧ t.tt = 2 ∧ t.ft = s.ft ∧ SameMem s t) ∧
  (∀ (frac : BitVec 8) (s : State), s.live = true → s.tt = 3 → s.rg .TT_STATUS_REF_OK 0 = 1 →
    -16384 ≤ edgeErr s frac.toNat → edgeErr s frac.toNat ≤ 16384 → wordNames s (edgeFrame s frac.toNat) = true →
    ∃ t, exec (.ftSyncEdge frac) s = .next t ∧ t.tt = 2 ∧ t.time.slew = trimOf s (edgeErr s frac.toNat) ∧ t.ft = s.ft ∧
      SameMem s t) ∧
  (∀ (frac : BitVec 8) (w : CodeWord) (s : State), s.live = true → s.tt = 4 → s.time.word = some w →
    w.ended + 10000 ≤ s.clk → s.clk < w.began + frameNs → s.rg .TT_STATUS_REF_OK 0 = 1 →
    ∃ t, exec (.ftSyncEdge frac) s = .next t ∧ t.tt = 2 ∧ t.ft = max s.ft w.next ∧ t.time.held = s.ft - w.next ∧ SameMem s t) ∧
  (∀ (s : State), s.live = true → s.tt = 2 → s.time.judged < tbTime s / frameNs → tbTime s / frameNs * frameNs + 64 ≤ tbTime s →
    ∃ t, exec .ftSyncMissing s = .next t ∧ t.tt = 3 ∧ t.time.holdFrom = s.ft ∧ t.ft = s.ft ∧ SameMem s t)

/-- STEER_UPDATE, STEER_LIMIT, TIME_XFER_SEND, TIME_XFER and LINK_TIME_UPDATE. At a frame boundary steering takes the
rate that TT_STEER asks for, held at 0 where the limit of 1,000 ns is reached and the rate leads away from 0, never
beyond 200 ppb, and in MODE 2 with the sign of the offset that the link reports; at the limit it stops with event
0x0109 (R94 to R96). The node's frame of an exchange is given to an UP link once per frame, from the first frame
boundary after UP on, by the end of the lower node ID in its window and by the other end in answer (R364, R399); the
peer's frame is kept with its arrival, unless it was replayed (R90). A link's report is the delay and offset of R91 in
250 ps units, from a pair at most 4 frames old, whatever the link's state; without one it is not VALID, and its loss
is recorded with event 0x0107 once. How large the rate of MODE 2 is, is free within the bounds (log entry 6). Rests on
spec/03_fabric_time.md, spec/11_fabric_port.md. -/
def Obligations.SteeringAndTimeTransfer : Prop :=
  (∀ (s : State), s.live = true → s.time.steerAt < s.frame →
    ∃ t, exec .steerUpdate s = .next t ∧ t.time.steerAt = s.frame ∧
      (let r := steerRate (steerLimit s)
       t.time.ppb = if 99999999999999 < s.time.acc.natAbs ∧ 0 < r * s.time.acc then 0 else r) ∧
      t.rg .TT_STATUS_STEERING 0 = b2n (t.time.ppb != 0) ∧ SameRegs (.TT_STATUS_STEERING :: evrCells) s t ∧ t.ft = s.ft ∧
      SameMem s t) ∧
  (∀ (s : State), -20000 ≤ steerRate s ∧ steerRate s ≤ 20000) ∧
  (∀ (s : State), s.tt = 2 → s.rg .TT_STEER_MODE 0 = 2 → s.rg .TT_LINK_OFFSET_VALID (s.rg .TT_STEER_LINK 0) = 1 →
    let off := signed 24 (s.rg .TT_LINK_OFFSET_OFFSET (s.rg .TT_STEER_LINK 0))
    (0 < off → 0 < steerRate s) ∧ (off < 0 → steerRate s < 0) ∧ (off = 0 → steerRate s = 0)) ∧
  (∀ (s : State), s.live = true → s.time.limited = false → 100000000000000 ≤ s.time.acc.natAbs →
    ∃ t, exec .steerLimit s = .next t ∧ t.time.ppb = 0 ∧ t.time.limited = true ∧ t.rg .TT_STATUS_STEERING 0 = 0 ∧
      (∃ u, t = raise 0x0109 none [] u) ∧ SameMem s t) ∧
  (∀ (l : Fin 8) (s : State), s.live = true → (s.link l.val).st = .up → s.tt ≠ 0 → s.rg .TT_CTRL_XFER_EN 0 = 1 →
    (s.linkTime l.val).upFrame < s.frame → (s.linkTime l.val).gave ≠ some s.frame →
    (if s.nodeId < s.rg .PRT_Ln_PEER_NODE l.val then 4096 * l.val ≤ s.ft % frameNs ∧ s.ft % frameNs < 65536
      else (s.linkTime l.val).heard = some s.frame) →
    ∃ b, exec (.timeXferSend l) s =
        .next (place l.val none b (setLinkTime l.val { s.linkTime l.val with gave := some s.frame } s)) ∧
      b.drop 104 = xferPayload s l.val) ∧
  (∀ (l : Fin 8) (body : List Byte) (frac : BitVec 8) (replayed : Bool) (s : State), s.live = true →
    (s.link l.val).st = .up → s.tt ≠ 0 → s.rg .TT_CTRL_XFER_EN 0 = 1 → body.length = 32 →
    ∃ t, exec (.timeXfer l body ⟨frac, replayed⟩) s = .next t ∧ SameRegs [] s t ∧ SameMem s t ∧
      (t.linkTime l.val).recv = (if replayed then (s.linkTime l.val).recv
        else ((u64 body 0 / frameNs, s.ft * 256 + frac.toNat) :: (s.linkTime l.val).recv).take 2) ∧
      (t.linkTime l.val).heard = some (u64 body 0 / frameNs) ∧ (t.linkTime l.val).sent = (s.linkTime l.val).sent) ∧
  (∀ (s : State), s.live = true → s.time.linkAt < s.frame → s.tt ≠ 0 →
    exec .linkTimeUpdate s = .next (forEach (List.range 8) reportLink (onTime (fun t => { t with linkAt := s.frame }) s))) ∧
  (∀ (l : Nat) (x : LinkTime) (s : State), look l s.time.links = some x → x.pair = none ∨ 4 ≤ x.since →
    (reportLink l s).rg .TT_LINK_DELAY_VALID l = 0 ∧ (reportLink l s).rg .TT_LINK_OFFSET_VALID l = 0 ∧
    (x.since = 4 → ∃ u, reportLink l s = raise 0x0107 none [(1, l)] u)) ∧
  (∀ (l t1 t2 t3 t4 : Nat) (x : LinkTime) (s : State), look l s.time.links = some x → x.pair = some (t1, t2, t3, t4) →
    x.since < 4 →
    let asym := signed 16 (s.rg .TT_LINK_ASYM_ASYM l)
    (reportLink l s).rg .TT_LINK_DELAY_VALID l = 1 ∧ (reportLink l s).rg .TT_LINK_OFFSET_VALID l = 1 ∧
    (reportLink l s).rg .TT_LINK_DELAY_DELAY l =
      unsigned 20 (reportUnits (fineDelay s) (((t4 : Int) - t1) - ((t3 : Int) - t2) - 128 * asym)) % 2 ^ 20 ∧
    (reportLink l s).rg .TT_LINK_OFFSET_OFFSET l =
      unsigned 24 (reportUnits (fineDelay s) (((t2 : Int) - t1) - ((t4 : Int) - t3) + 128 * asym)) % 2 ^ 24)

/-- EVT_ADD and EVT_CANCEL. An ADD whose kind, time, grid point and period are well formed, on a node that is LOCKED,
for a valid carriage with a free entry and (for a KEY_SWITCH) semaphore 1, takes that entry, pending, and the result
registers of the port read OK, DONE and the entry's index (R101). A CANCEL of a pending entry that software may cancel
makes it cancelled and reads OK; one of an entry never used reads BAD_COMMAND; one of a COMP_SWITCH or start-up entry
reads ACCESS_DENIED and leaves it (R103); a refused CANCEL leaves the result register's INDEX (log entry 34). Memory
does not change. Rests on spec/03_fabric_time.md. -/
def Obligations.ScheduledEventsAreAddedAndCancelled : Prop :=
  (∀ (p : Port) (i : Nat) (s : State), s.live = true → Reaches p 0x100040 s → s.tt = 2 →
    let ft := s.rg .TT_EVT_FT_LO_FT_LO p.idx + s.rg .TT_EVT_FT_HI_FT_HI p.idx * 2 ^ 32
    let kind := s.rg .TT_EVT_SPEC_KIND p.idx
    let car := s.rg .TT_EVT_SPEC_CARRIAGE p.idx
    let per := s.rg .TT_EVT_SPEC_PERIOD_EXP p.idx
    2 ≤ kind → kind ≤ 5 → s.ft + 10000 ≤ ft → ft ≤ s.ft + 4294967296 → evtPoint s kind ft = true →
    (per = 0 ∨ (kind = 4 ∧ s.gridK ≤ per ∧ per ≤ 30)) → s.im.carValid car = true → evtFree s kind car = some i →
    (kind ≠ 2 ∨ s.holdsSem p.idx 1 = true) →
    ∃ t, exec (.evtAdd p) s = .next t ∧
      t.evt i = some { ft := ft, kind := kind, car := car, per := per, st := 1, arg := s.rg .TT_EVT_ARG_ARG p.idx } ∧
      (∀ j, j ≠ i → t.evt j = s.evt j) ∧ t.rg .TT_EVT_RESULT_INDEX p.idx = i % 2 ^ RN.width .TT_EVT_RESULT_INDEX ∧
      t.rg .TT_EVT_RESULT_STATUS p.idx = Status.ok ∧ t.rg .TT_EVT_RESULT_DONE p.idx = 1 ∧
      SameRegs [.TT_EVT_RESULT_INDEX, .TT_EVT_RESULT_STATUS, .TT_EVT_RESULT_DONE] s t ∧ t.evr = s.evr ∧ SameMem s t) ∧
  (∀ (p : Port) (e : Evt) (s : State), s.live = true → Reaches p 0x100040 s →
    s.evt (s.rg .TT_EVT_CTRL_INDEX p.idx) = some e → e.st = 1 → (e.kind = 4 ∨ e.kind = 5) →
    ∃ t, exec (.evtCancel p) s = .next t ∧ t.evt (s.rg .TT_EVT_CTRL_INDEX p.idx) = some { e with st := 3 } ∧
      (∀ j, j ≠ s.rg .TT_EVT_CTRL_INDEX p.idx → t.evt j = s.evt j) ∧ t.rg .TT_EVT_RESULT_STATUS p.idx = Status.ok ∧
      t.rg .TT_EVT_RESULT_INDEX p.idx = s.rg .TT_EVT_CTRL_INDEX p.idx % 2 ^ RN.width .TT_EVT_RESULT_INDEX ∧
      t.rg .TT_EVT_RESULT_DONE p.idx = 1 ∧ SameMem s t) ∧
  (∀ (p : Port) (s : State), s.live = true → Reaches p 0x100040 s →
    (s.evt (s.rg .TT_EVT_CTRL_INDEX p.idx) = none →
      ∃ t, exec (.evtCancel p) s = .next t ∧ t.time = s.time ∧ t.rg .TT_EVT_RESULT_STATUS p.idx = Status.badCommand ∧
        SameRegs [.TT_EVT_RESULT_STATUS, .TT_EVT_RESULT_DONE] s t) ∧
    (∀ e, s.evt (s.rg .TT_EVT_CTRL_INDEX p.idx) = some e → e.st ≠ 0 → (e.kind = 1 ∨ e.kind = 6) →
      ∃ t, exec (.evtCancel p) s = .next t ∧ t.time = s.time ∧ t.rg .TT_EVT_RESULT_STATUS p.idx = Status.accessDenied ∧
          SameRegs [.TT_EVT_RESULT_STATUS, .TT_EVT_RESULT_DONE] s t))

/-- An event is one record in the ring, or one count. While a code has written fewer records in the running frame than
its limit, an event of it takes the next SEQ, carries the node's FT, its code, MARK 0xA5 and, in SUPPRESSED, the
records of that code dropped since its previous one, and goes to the front of a ring of 8,192; a record lost from a
full ring is counted. At the limit the event is dropped, EVR_SUPPRESSED counts it, and it is added to the SUPPRESSED
field of the code's next record. Codes 0x0104, 0x0C04, 0x0D04, 0x0D05, 0x0E01 and 0x0E03 are never dropped. The limit
is EVR_LIMIT (0 reads as 1) unless an expert entry overrides it. An event recorded first in a frame is left out before
this limit counts it. Nothing else changes. Rests on R570. -/
def Obligations.EventsAreRecordedUpToTheLimit : Prop :=
  (∀ (code : Nat) (car : Option Nat) (items : List Item) (s : State),
    let n := if s.evr.frame = s.frame then lookD code 0 s.evr.counts else 0
    let t := raise code car items s
    let r : EvRec := {
      seq := s.evr.next, ft := s.ft, code := code, ctx := contextByte car s, mark := 0xA5,
      supp := min (lookD code 0 s.evr.supp) 65535, data := dataBytes items }
    (code ∈ [0x0104, 0x0C04, 0x0D04, 0x0D05, 0x0E01, 0x0E03] ∨ n < codeLimit code s →
      t.evr.ring = (r :: s.evr.ring).take 8192 ∧
      t.evr.next = (s.evr.next + 1) % 2 ^ 32 ∧ lookD code 0 t.evr.supp = 0 ∧ lookD code 0 t.evr.counts = n + 1 ∧
      t.rg .EVR_SUPPRESSED_COUNT 0 = s.rg .EVR_SUPPRESSED_COUNT 0 ∧
      (s.evr.ring.length < 8192 → t.rg .EVR_LOST_COUNT 0 = s.rg .EVR_LOST_COUNT 0)) ∧
    (¬ (code ∈ [0x0104, 0x0C04, 0x0D04, 0x0D05, 0x0E01, 0x0E03] ∨ n < codeLimit code s) →
      t.evr.ring = s.evr.ring ∧ t.evr.next = s.evr.next ∧ lookD code 0 t.evr.supp = lookD code 0 s.evr.supp + 1 ∧
      t.rg .EVR_SUPPRESSED_COUNT 0 =
        min (s.rg .EVR_SUPPRESSED_COUNT 0 + 1) (2 ^ RN.width .EVR_SUPPRESSED_COUNT - 1) % 2 ^ RN.width .EVR_SUPPRESSED_COUNT) ∧
    SameRegs evrCells s t ∧ t.mem = s.mem ∧ t.que = s.que ∧ t.seq = s.seq ∧ t.sent = s.sent) ∧
  (∀ (code : Nat) (s : State), (∀ i, i < 32 → s.rg .EVR_X_CODE_LIMIT_VALID i = 0) →
    codeLimit code s = max 1 (s.rg .EVR_LIMIT_PER_FRAME 0)) ∧
  (∀ (code item : Nat) (car : Option Nat) (items : List Item) (s : State),
    look (code, item) s.evr.firsts = some s.frame → raiseFirst code item car items s = s)

/-- How a started command ends. A started command that ends gives back its slot, the queue's INFLIGHT and its CQ
reservation. With NO_CQE set and status OK nothing is written; in every other case one entry is, of 16 bytes in the
order of Table QUE-8, at the queue's CQ tail, with the phase of that lap (R133, R141, R146). A member's end is noted
in its list with its status (R145). Pages and memory are untouched by it; the sequences that the command was changing
are free for the next change (R607). Rests on spec/04_onzon_queues.md. -/
def Obligations.CommandsEndInOneCompletionEntry : Prop :=
  (∀ (k st detail res : Nat) (c : Cmd) (s : State), s.cmd k = some c → st ≠ Status.aborted → st ≠ Status.staleEpoch →
    let u := setCtx c.q { s.ctx c.q with inflight := (s.ctx c.q).inflight - 1, resv := (s.ctx c.q).resv - 1 }
      (onSeq (fun x => { x with busy := x.busy.filter (fun e => e.2 != k) })
        (onQue (fun x => { x with started := del k x.started, last := some (k, st) }) s))
    complete k st detail res s =
      whenSome c.parent (fun p => noteMember p st)
        (if st = Status.ok ∧ Op.noCqe c.bytes = true then u else writeCqe c st detail res u)) ∧
  (∀ (k st detail res : Nat) (s : State), s.cmd k = none → complete k st detail res s = s) ∧
  (∀ (k st detail res : Nat) (s : State), (complete k st detail res s).cmd k = none ∧
    (s.cmd k ≠ none → (complete k st detail res s).seq = { s.seq with busy := s.seq.busy.filter (fun e => e.2 != k) }) ∧
    (complete k st detail res s).mem = s.mem ∧
    (complete k st detail res s).fox = s.fox ∧ (complete k st detail res s).pending = s.pending) ∧
  (∀ (c : Cmd) (x : QCtx) (st detail res : Nat), (cqeBytes c x st detail res).length = 16 ∧
    u16 (cqeBytes c x st detail res) 0 = Op.cmdId c.bytes % 65536 ∧ u8 (cqeBytes c x st detail res) 2 = st % 256 ∧
    (u8 (cqeBytes c x st detail res) 3) % 2 = b2n x.phase ∧ u16 (cqeBytes c x st detail res) 4 = x.sqHead % 65536 ∧
    u16 (cqeBytes c x st detail res) 6 = detail % 65536 ∧ u64 (cqeBytes c x st detail res) 8 = res % 2 ^ 64) ∧
  (∀ (c : Cmd) (st detail res : Nat) (s : State), s.portUp (qPort c.q) = true → qConf s c.q = false →
    s.rg .QUE_CTX_CFG_IRQ_EN c.q = 0 →
    let x := s.ctx c.q
    writeCqe c st detail res s = setCtx c.q { x with
      cqTail := (x.cqTail + 1) % 65536
      phase := if (x.cqTail + 1) % 65536 % cqSize s c.q = 0 then !x.phase else x.phase
      sinceIrq := x.sinceIrq + 1
      oldest := some (x.oldest.getD s.clk) }
      (memWriteDue (qPort c.q) (cqBase s c.q + 16 * (x.cqTail % cqSize s c.q)) 0 (cqeBytes c x st detail res) s)) ∧
  (∀ (c : Cmd) (st detail res : Nat) (s : State), s.portUp (qPort c.q) = false →
    writeCqe c st detail res s = undelivered (qPort c.q) s)

/-- DOORBELL, QUEUE_ENABLE, QUEUE_DISABLE, QUEUE_RESET, QUEUE_DRAIN_DONE and IRQ_TIMER. A doorbell of the queue's own
port sets SQ_TAIL and CQ_HEAD together; one that leaves more than a ring of entries waiting, or a CQ_HEAD past
CQ_TAIL, stops an ENABLED queue with cause RING; one of the other port's queue is ignored with event 0x0306 (R119,
R130, R131). ENABLE takes a DISABLED queue that a carriage owns, not leaving, with exponents 4 to 15, ENGINE 1 to 6
and, for a confidential queue, a loaded session of its port and carriage, to ENABLED; without ownership it reads
ACCESS_DENIED and changes no queue (R136, R500). DISABLE takes ENABLED to DRAINING, is refused in STOPPED and has no
effect elsewhere; RESET of a DISABLED queue, or of a STOPPED one with nothing in flight, sets the four indices to 0
and the phase to 1 and leaves it DISABLED; in every other state it is refused BAD_COMMAND (R137). DRAINING ends in
DISABLED once INFLIGHT is 0 (R135). The interrupt timer sends the queue's interrupt when TIME_US has passed since the
oldest uncovered entry, and not earlier (R148). The result registers of the writing port, the queue named and what an
event writes are all that change. Rests on spec/04_onzon_queues.md. -/
def Obligations.QueuesAreEnabledDrainedAndReset : Prop :=
  (∀ (p : Port) (q : Fin 65536) (tail head : BitVec 16) (s : State), s.live = true → Reaches p (0x340000 + 4 * q.val) s →
    (qPort q.val ≠ p.idx → exec (.doorbell p q tail head) s = .next (raise 0x0306 none [] s)) ∧
    (qPort q.val = p.idx →
      let x := s.ctx q.val
      let t := setCtx q.val { x with sqTail := tail.toNat, cqHead := head.toNat } s
      exec (.doorbell p q tail head) s = .next (if x.st = 1 ∧ (sqSize s q.val < (tail.toNat + 65536 - x.sqHead % 65536) % 65536 ∨
        (x.cqTail + 65536 - x.cqHead % 65536) % 65536 < (head.toNat + 65536 - x.cqHead % 65536) % 65536)
        then stopQueue q.val 1 0 t else t))) ∧
  (∀ (p : Port) (s : State), s.live = true → Reaches p 0x300044 s →
    let q := s.rg .QUE_SEL_QUEUE p.idx
    let only := fun (n : Nat) (t : State) => t.rg .QUE_CTX_RESULT_STATUS p.idx = n ∧ t.rg .QUE_CTX_RESULT_DONE p.idx = 1 ∧
      SameRegs [.QUE_CTX_RESULT_STATUS, .QUE_CTX_RESULT_DONE] s t ∧ (∀ r, r ≠ q → t.ctx r = s.ctx r) ∧ t.evr = s.evr ∧
      t.que.started = s.que.started ∧ t.que.sems = s.que.sems ∧ SameMem s t
    (∃ t, exec (.queueEnable p) s = .next t ∧
      ((qOwner s q = none ∨ Res.queue q ∈ s.comp.leaving) → only Status.accessDenied t ∧ t.ctx q = s.ctx q) ∧
      (qOwner s q ≠ none → Res.queue q ∉ s.comp.leaving →
        (if (s.ctx q).st = 0 ∧ 4 ≤ s.rg .QUE_CTX_CFG_SQ_EXP q ∧ s.rg .QUE_CTX_CFG_SQ_EXP q ≤ 15 ∧
            4 ≤ s.rg .QUE_CTX_CFG_CQ_EXP q ∧ s.rg .QUE_CTX_CFG_CQ_EXP q ≤ 15 ∧ 1 ≤ s.rg .QUE_CTX_CFG_ENGINE q ∧
            s.rg .QUE_CTX_CFG_ENGINE q ≤ 6 ∧ sessionOk s q = true
          then only Status.ok t ∧ t.ctx q = { s.ctx q with st := 1, cause := 0 }
          else only Status.badCommand t ∧ t.ctx q = s.ctx q))) ∧
    (∃ t, exec (.queueDisable p) s = .next t ∧ only (if (s.ctx q).st = 3 then Status.badCommand else Status.ok) t ∧
      t.ctx q = if (s.ctx q).st = 1 then { s.ctx q with st := 2 } else s.ctx q) ∧
    (∃ t, exec (.queueReset p) s = .next t ∧
      (if (s.ctx q).st = 1 ∨ (s.ctx q).st = 2 ∨ ((s.ctx q).st = 3 ∧ (s.ctx q).inflight ≠ 0)
        then only Status.badCommand t ∧ t.ctx q = s.ctx q
        else only Status.ok t ∧ (t.ctx q).st = 0 ∧ (t.ctx q).sqHead = 0 ∧ (t.ctx q).sqTail = 0 ∧ (t.ctx q).cqHead = 0 ∧
          (t.ctx q).cqTail = 0 ∧ (t.ctx q).phase = true))) ∧
  (∀ (q : Fin 65536) (s : State), s.live = true → (s.ctx q.val).st = 2 →
    ((s.ctx q.val).inflight = 0 → ∃ t, exec (.queueDrainDone q) s = .next t ∧ (t.ctx q.val).st = 0 ∧
      (∀ r, r ≠ q.val → t.ctx r = s.ctx r) ∧ SameRegs [] s t ∧ t.evr = s.evr ∧ SameMem s t) ∧
    ((s.ctx q.val).inflight ≠ 0 → exec (.queueDrainDone q) s = .next s)) ∧
  (∀ (q : Fin 65536) (since : Nat) (s : State), s.live = true → s.rg .QUE_CTX_CFG_IRQ_EN q.val = 1 →
    s.rg .QUE_CTX_IRQ_MOD_TIME_US q.val ≠ 0 → (s.ctx q.val).oldest = some since →
    exec (.irqTimer q) s = .next (if since + s.rg .QUE_CTX_IRQ_MOD_TIME_US q.val * 1000 ≤ s.clk then sendIrq q.val s else s)) ∧
  (∀ (q : Nat) (s : State), s.portUp (qPort q) = true →
    sendIrq q s = memWriteDue (qPort q) (s.rg .QUE_CTX_IRQ_ADDR_LO_ADDR_LO q + s.rg .QUE_CTX_IRQ_ADDR_HI_ADDR_HI q * 2 ^ 32) 1
      (leBytes 4 (s.rg .QUE_CTX_IRQ_DATA_DATA q)) (setCtx q { s.ctx q with sinceIrq := 0, oldest := none } s))

/-- SQ_FETCH, COMMAND_START and MEM_RESP. A fetch reads, for a queue of the port that is ENABLED with waiting entries
and room in its CQ, at most QUE_FETCH_MAX entries and at most 4,096 bytes, never across the end of the ring (R132,
R133). The oldest fetched entry of a queue starts when a CQ slot, a command slot and, with FENCE, the end of every
earlier command allow it: it takes the next serial and raises INFLIGHT and the reservation by one; it is held where
its epoch asks for it. A command that breaks R139 ends at once, with BAD_COMMAND before ACCESS_DENIED; one of a stale
epoch ends STALE_EPOCH, or with the BAD_COMMAND or ACCESS_DENIED that its engine's own checks give (R17, R62, R139). A
MEM_RESP that arrives in sequence is acknowledged and its bytes go to what asked for them: entries become fetched with
SQ_HEAD moved on, data lands in the command's buffer; an error stops the queue with cause FETCH; a sealed entry that
is refused stops it with cause AUTH, the entries before it accepted (R152); the answer to a fetch that no longer runs
changes no queue. Rests on spec/04_onzon_queues.md. -/
def Obligations.CommandsAreFetchedAndStarted : Prop :=
  (∀ (p : Port) (q : Nat) (s : State), s.live = true → serving s = true → s.portUp p.idx = true → pickQueue s p.idx = some q →
    let n := min (min (max 1 (min 64 (s.rg .QUE_FETCH_MAX_ENTRIES 0))) (4096 / sqeBytes s q))
      (min (((s.ctx q).sqTail + 65536 - (s.ctx q).sqHead % 65536) % 65536) (sqSize s q - (s.ctx q).sqHead % sqSize s q))
    exec (.sqFetch p) s = .next (memRead p.idx (.sq q (s.ctx q).sqHead n ((s.ctx q).fetchNo + 1))
        (sqBase s q + sqeBytes s q * ((s.ctx q).sqHead % sqSize s q)) (sqeBytes s q * n)
        (setCtx q { s.ctx q with asked := ((s.ctx q).sqHead + n) % 65536, fetchNo := (s.ctx q).fetchNo + 1 } (fetched p.idx q s))) ∧
      n ≤ max 1 (s.rg .QUE_FETCH_MAX_ENTRIES 0) ∧ sqeBytes s q * n ≤ 4096 ∧
      (s.ctx q).sqHead % sqSize s q + n ≤ sqSize s q) ∧
  (∀ (p q : Nat) (s : State), pickQueue s p = some q → ∃ x, (q, x) ∈ s.que.ctx ∧ fetchable s p (q, x) = true) ∧
  (∀ (q : Fin 65536) (i : Nat) (b : List Byte) (r : List (Nat × List Byte)) (s : State), s.live = true →
    (s.ctx q.val).fetched = (i, b) :: r → (s.ctx q.val).st = 1 → serving s = true → mayStartCmd s q.val b none = true →
    ∃ u, exec (.commandStart q) s = .next (match startFault s q.val b with
        | some st => complete s.que.serial st 0 0 u
        | none => u) ∧
      (u.cmd s.que.serial).map (fun c => (c.q, c.bytes, c.parent, c.held, c.bad)) =
          some (q.val, b, none, decide (s.epochUse (Op.epoch b) = .hold),
            if s.epochUse (Op.epoch b) = .stale then some Status.staleEpoch else none) ∧
      u.que.serial = s.que.serial + 1 ∧ (u.ctx q.val).fetched = r ∧ (u.ctx q.val).inflight = (s.ctx q.val).inflight + 1 ∧
      (u.ctx q.val).resv = (s.ctx q.val).resv + 1 ∧ (∀ n, n ≠ q.val → u.ctx n = s.ctx n) ∧ SameRegs [] s u ∧ SameMem s u) ∧
  (∀ (q : Nat) (b : List Byte) (s : State),
    (opRow b = none → startFault s q b = some Status.badCommand) ∧
    (∀ r, opRow b = some r → reservedClear r b = true → (Op.engine b = 0 ∨ Op.engine b = s.rg .QUE_CTX_CFG_ENGINE q) →
      ¬ (Op.engine b = 0 ∧ Op.opcode b = 0xFE) →
      startFault s q b = if qOwner s q ≠ some (Op.car b) then some Status.accessDenied else none)) ∧
  (∀ (k engine opcode : Nat) (f : Cmd → State → State) (c : Cmd) (s : State), s.cmd k = some c → c.held = false →
    Op.engine c.bytes = engine → Op.opcode c.bytes = opcode → c.bad = some Status.staleEpoch →
    let t := withCmd k engine opcode f s
    t = complete k Status.staleEpoch 0 0 s ∨ (t.cmd k = none ∧
      (t.que.last = some (k, Status.badCommand) ∨ t.que.last = some (k, Status.accessDenied)))) ∧
  (∀ (p : Port) (seq tag : BitVec 16) (ok : Bool) (data : List Byte) (s : State), s.live = true → (s.onz p.idx).isUp = true →
    seq.toNat = (s.onz p.idx).rxSeq →
    exec (.memResp p seq tag ok data) s = .next (memRespIn p.idx tag.toNat ok data (oSendCtl p.idx OTy.ack 0 seq.toNat
      (setOnz p.idx { s.onz p.idx with rxSeq := (seq.toNat + 1) % 65536, lastRx := s.clk } s)))) ∧
  (∀ (p tag : Nat) (ok : Bool) (data : List Byte) (s : State),
    (look tag (s.onz p).tags = none → memRespIn p tag ok data s = s) ∧
    (∀ k off len c, look tag (s.onz p).tags = some (.data k off len) → s.cmd k = some c → data.length = ceilDiv len 4 * 4 →
      ∃ n, memRespIn p tag true data s = oIssue n p (setCmd k
        { c with want := c.want - len, buf := overwrite c.buf off (data.take len) } (setOnz p { s.onz p with tags := del tag (s.onz p).tags } s))) ∧
    (∀ q idx n no, look tag (s.onz p).tags = some (.sq q idx n no) → (s.ctx q).st = 1 → (s.ctx q).fetchNo = no →
      (s.ctx q).asked ≠ (s.ctx q).sqHead →
      ∃ m, memRespIn p tag false data s =
        oIssue m p (stopQueue q 2 0 (setOnz p { s.onz p with tags := del tag (s.onz p).tags } s)))) ∧
  (∀ (q idx n no : Nat) (data : List Byte) (s : State), (s.ctx q).st = 1 → (s.ctx q).fetchNo = no →
    (s.ctx q).asked ≠ (s.ctx q).sqHead → data.length = sqeBytes s q * n →
    let e := openEntries s q idx (chunks n (sqeBytes s q) data) { es := [], ctr := (s.ctx q).counter, bad := none }
    let t := sqArrive q idx n no true data s
    (e.bad = none → t.ctx q = { s.ctx q with
      fetched := (s.ctx q).fetched ++ e.es, sqHead := (idx + n) % 65536, counter := e.ctr }) ∧
    (e.bad ≠ none → (t.ctx q).st = 3 ∧ (t.ctx q).cause = 4 ∧ (t.ctx q).counter = e.ctr)) ∧
  (∀ (q idx n no : Nat) (ok : Bool) (data : List Byte) (s : State), (s.ctx q).fetchNo ≠ no →
    sqArrive q idx n no ok data s = s)

/-- LIST and LIST_COMPLETE. A LIST of 1 to 4,096 entries asks for its first block; any other count ends it
BAD_COMMAND; on a queue that is STOPPED by then it starts no entry and counts ABORTED at index 0 (R606). Its entries
start in list order; with SERIAL none starts while another runs. A LIST, a STEP or a CHAIN out of place ends the list:
it is not started and counts as BAD_COMMAND at its index (R142 to R144). The LIST completes after every started
command of it has; its status is OK, with 0xFFFFFFFF, when no entry failed, else that of the failed entry that is
first in list order, with that index; RESULT[31:0] is the number started (R145). Rests on spec/04_onzon_queues.md. -/
def Obligations.ListsStartTheirEntriesInOrder : Prop :=
  (∀ (k : Nat) (c : Cmd) (s : State), Started k 0 0xFF c s → look k s.que.lists = none →
    exec (.list k) s = .next (if u16 c.bytes 20 = 0 ∨ 4096 < u16 c.bytes 20 then complete k Status.badCommand 0 0 s
      else if (s.ctx c.q).st = 3 ∨ serving s = false then setList k { ListRun.init with ended := true, failed := [(0, Status.aborted)] } s
      else askBlock k (u64 c.bytes 12) (u16 c.bytes 20) (setList k ListRun.init s))) ∧
  (∀ (k : Nat) (c : Cmd) (r : ListRun) (b : List Byte) (s : State), Started k 0 0xFF c s → look k s.que.lists = some r →
    r.ended = false → c.want = 0 → r.entries[r.next]? = some b →
    (Op.engine b = 0 → (Op.opcode b = 0xFF ∨ Op.opcode b = 0xFE ∨ Op.opcode b = 0x12) →
      exec (.list k) s = .next (setList k { r with ended := true, failed := r.failed ++ [(r.next, Status.badCommand)] } s)) ∧
    ((Op.engine b ≠ 0 ∨ (Op.opcode b ≠ 0xFF ∧ Op.opcode b ≠ 0xFE ∧ Op.opcode b ≠ 0x12)) → r.next < 1048576 →
      (s.ctx c.q).st = 1 → mayStartCmd s c.q b (some (k, r.next)) = true →
      (bit (u8 c.bytes 22) 1 = true → r.open_ ≠ 0 → exec (.list k) s = .next s) ∧
      ((bit (u8 c.bytes 22) 1 = false ∨ r.open_ = 0) →
        exec (.list k) s = .next (startCommand c.q b (some (k, r.next)) (setList k
          { r with next := r.next + 1, started := r.started + 1, open_ := r.open_ + 1 } s))))) ∧
  (∀ (k : Nat) (c : Cmd) (r : ListRun) (s : State), s.live = true → look k s.que.lists = some r → s.cmd k = some c →
    Op.opcode c.bytes = 0xFF → (r.ended = true ∨ (r.more = false ∧ r.entries.length ≤ r.next ∧ c.want = 0)) →
    (r.open_ ≠ 0 → exec (.listComplete k) s = .next s) ∧
    (r.open_ = 0 → exec (.listComplete k) s = .next (complete k (listOutcome r).1 0 (listOutcome r).2
      (onQue (fun x => { x with lists := del k x.lists }) s)))) ∧
  (∀ r : ListRun, r.failed = [] → listOutcome r = (Status.ok, r.started + 0xFFFFFFFF * 2 ^ 32)) ∧
  (∀ r : ListRun, r.failed ≠ [] → ∃ e ∈ r.failed, (∀ f ∈ r.failed, e.1 ≤ f.1) ∧
    listOutcome r = (e.2, r.started + e.1 * 2 ^ 32)) ∧
  (∀ (k i status : Nat) (r : ListRun) (c : Cmd) (s : State), look k s.que.lists = some r → s.cmd k = some c →
    look k (noteMember (k, i) status s).que.lists = some { r with
      open_ := r.open_ - 1
      failed := if status = Status.ok then r.failed else r.failed ++ [(i, status)]
      ended := r.ended || (decide (status ≠ Status.ok) && bit (u8 c.bytes 22) 0) })

/-- The link states of a host port, ONZON_TRAINING_START to ONZON_LINK_RESET. Signal on at least 4 lanes takes a DOWN
port to TRAINING. Training that ends within 20 ms with all 8 lanes reaches UP, with lanes 0 to 3 or 4 to 7 whole
DEGRADED, else DOWN with the next attempt 10 ms later; at 20 ms it fails the same way; the retry is open from that
time on (R109). A port that reaches UP or DEGRADED starts its sequence numbers at 0, counts UP_COUNT, stops the leases
of its semaphores, returns 256 P and 64 N credits and records event 0x0301 (R109, R115, R126). Loss of lock, 10
microseconds without a frame, LINK_RESET and the eighth replay in a row take an UP port DOWN (R110); a port that is
not UP stays as it is. A frame without ACK for 4 microseconds is replayed with all that follow it (R116). The lane
trims that training reaches are the command's operand (log entry 7). Rests on spec/04_onzon_queues.md. -/
def Obligations.OnzonPortsTrainAndFail : Prop :=
  (∀ (p : Port) (lanes : BitVec 8) (s : State), s.powered = true →
    ((s.onz p.idx).link = .down → (s.onz p.idx).retryAt = none → 4 ≤ (bitsOf 8 lanes.toNat).length →
      ∃ t, exec (.onzonTrainingStart p lanes) s = .next t ∧ (t.onz p.idx).link = .training ∧ (t.onz p.idx).trainAt = s.clk ∧
        t.onz p.other.idx = s.onz p.other.idx ∧ t.sent = .train (8 + p.idx) :: s.sent ∧ SameRegs [] s t ∧ t.evr = s.evr ∧
        SameMem s t) ∧
    ((s.onz p.idx).link ≠ .down ∨ (s.onz p.idx).retryAt ≠ none ∨ (bitsOf 8 lanes.toNat).length < 4 →
      exec (.onzonTrainingStart p lanes) s = .next s)) ∧
  (∀ (p : Port) (lanes : BitVec 8) (trims : List Byte) (s : State), s.powered = true → (s.onz p.idx).link = .training →
    s.clk ≤ (s.onz p.idx).trainAt + 20000000 → trims.length ≠ 32 →
    let good := lanes.toNat = 255 ∨ lanes.toNat % 16 = 15 ∨ lanes.toNat / 16 = 15
    (good → exec (.onzonTrainingEnd p lanes trims) s =
      .next (portGoesUp p.idx (if lanes.toNat = 255 then .up else .degraded) s)) ∧
    (¬ good → ∃ t, exec (.onzonTrainingEnd p lanes trims) s = .next t ∧ (t.onz p.idx).link = .down ∧
      (t.onz p.idx).retryAt = some (s.clk + 10000000) ∧ t.onz p.other.idx = s.onz p.other.idx ∧ SameRegs [] s t ∧ SameMem s t)) ∧
  (∀ (p : Port) (lanes : BitVec 8) (trims : List Byte) (st : OLink) (s : State), s.powered = true →
    (s.onz p.idx).link = .training → s.clk ≤ (s.onz p.idx).trainAt + 20000000 → trims.length = 32 →
    trainedLink lanes.toNat = some st →
    exec (.onzonTrainingEnd p lanes trims) s = .next (portGoesUp p.idx st (serTrimLoad (8 + p.idx) trims s))) ∧
  (∀ (p : Port) (st : OLink) (s : State), ∃ u, portGoesUp p.idx st s =
      raise 0x0301 none [(1, p.idx), (1, if st = .up then 8 else 4)] u ∧ (u.onz p.idx).link = st ∧ (u.onz p.idx).txSeq = 0 ∧
    (u.onz p.idx).rxSeq = 0 ∧ u.onz p.other.idx = s.onz p.other.idx ∧
    u.rg .QUE_PORT_STATUS_UP_COUNT p.idx =
      (s.rg .QUE_PORT_STATUS_UP_COUNT p.idx + 1) % 2 ^ RN.width .QUE_PORT_STATUS_UP_COUNT ∧
    SameRegs [.QUE_PORT_STATUS_UP_COUNT] s u ∧
    (∀ n x, look n s.que.sems = some x →
      look n u.que.sems = some (if x.owner = p.idx then { x with lease := none } else x)) ∧
    u.sent = .onzon p.idx none
      { ty := OTy.credit, flags := 0, tag := 0, addr := 256 + 64 * 65536, len := 0, payload := [] } :: s.sent) ∧
  (∀ (p : Port) (s : State), s.powered = true → (s.onz p.idx).link = .training →
    ((s.onz p.idx).trainAt + 20000000 ≤ s.clk → ∃ t, exec (.onzonTrainingTimeout p) s = .next t ∧
      (t.onz p.idx).link = .down ∧ (t.onz p.idx).retryAt = some (s.clk + 10000000) ∧ SameRegs [] s t ∧ SameMem s t) ∧
    (s.clk < (s.onz p.idx).trainAt + 20000000 → exec (.onzonTrainingTimeout p) s = .next s)) ∧
  (∀ (p : Port) (at_ : Nat) (s : State), s.powered = true → (s.onz p.idx).link = .down → (s.onz p.idx).retryAt = some at_ →
    exec (.onzonRetry p) s = .next (if at_ ≤ s.clk then setOnz p.idx { s.onz p.idx with retryAt := none } s else s)) ∧
  (∀ (p : Port) (s : State), s.powered = true →
    exec (.onzonLockLoss p) s = .next (portDown p.idx 0 s) ∧ exec (.onzonLinkReset p) s = .next (portDown p.idx 2 s) ∧
    exec (.onzonRxIdleTimeout p) s = .next (if (s.onz p.idx).lastRx + 10000 ≤ s.clk then portDown p.idx 3 s else s)) ∧
  (∀ (p cause : Nat) (s : State), s.portUp p = false → portDown p cause s = s) ∧
  (∀ (p : Port) (cause : Nat) (s : State), s.portUp p.idx = true →
    ((portDown p.idx cause s).onz p.idx).link = .down ∧ (portDown p.idx cause s).mem = s.mem) ∧
  (∀ (p : Port) (e : Nat × OFrame × Nat) (r : List (Nat × OFrame × Nat)) (s : State), s.powered = true →
    s.portUp p.idx = true → (s.onz p.idx).replay = e :: r → e.2.2 + 4000 ≤ s.clk →
    exec (.onzonReplayTimeout p) s = .next (replayFrom p.idx e.1 s)) ∧
  (∀ (p : Port) (seq : Nat) (s : State),
    let again := (s.onz p.idx).replay.filter (fun e => seqLe 16 seq e.1)
    let t := replayFrom p.idx seq s
    again ≠ [] → (s.onz p.idx).replays + 1 < 8 →
      (t.onz p.idx).replays = (s.onz p.idx).replays + 1 ∧ (t.onz p.idx).link = (s.onz p.idx).link ∧
      t.sent = (again.map (fun e => Sent.onzon p.idx (some e.1) e.2.1)).reverse ++ s.sent ∧
      SameRegs [.QUE_PORT_ERR_REPLAY] s t) ∧
  (∀ (p : Port) (seq : Nat) (s : State), s.portUp p.idx = true → 8 ≤ (s.onz p.idx).replays + 1 →
    ((replayFrom p.idx seq s).onz p.idx).link = .down)

/-- ONZON_ACK, ONZON_NAK, ONZON_CREDIT, ONZON_FRAME_ERROR, CTRL_RD and CTRL_WR. An ACK takes the frames up to its SEQ
out of the replay store and no other; a NAK acknowledges what lies before its SEQ and replays from it. Returned
credits send what waited for them: a frame whose cost ceil((16 + LEN) / 256) is covered goes out with the next SEQ and
is kept for replay while the replay buffer of 512 KiB has room, one that is not covered or finds no room stays (R115,
R116). A frame's header and its length on the link are those of R111. A frame in error, or one out of sequence, is
discarded, counted as a CRC error and answered with NAK of the SEQ expected. A CTRL_RD in sequence of 1 to 64
registers inside the control space answers with its registers, read one after the other in ascending order, and its
credits go back as the answer leaves (R114, R115); a 65th outstanding one is discarded (log entry 36); one that
reaches beyond the space answers BAD_ADDR and no data; a CTRL_WR writes its registers in ascending order and is not
answered (R113). ACK at once is log entry 12, what a port answers in a state that answers nothing log entry 27. Rests
on spec/04_onzon_queues.md, spec/01_node_overview.md. -/
def Obligations.OnzonFramesAreSequencedAndCredited : Prop :=
  (∀ (p : Port) (seq : BitVec 16) (s : State), s.powered = true → s.portUp p.idx = true →
    ∃ u, exec (.onzonAck p seq) s = .next (oFlush p.idx u) ∧
      (∀ e, e ∈ (u.onz p.idx).replay ↔ e ∈ (s.onz p.idx).replay ∧ seqLe 16 e.1 seq.toNat = false) ∧
      (u.onz p.idx).link = (s.onz p.idx).link ∧ (u.onz p.idx).txSeq = (s.onz p.idx).txSeq ∧
      (u.onz p.idx).outq = (s.onz p.idx).outq ∧ u.onz p.other.idx = s.onz p.other.idx ∧ u.sent = s.sent ∧ SameRegs [] s u ∧
      SameMem s u) ∧
  (∀ (p : Port) (seq : BitVec 16) (s : State), s.powered = true → s.portUp p.idx = true →
    let u := ackUpTo p.idx ((seq.toNat + 65535) % 65536) s
    exec (.onzonNak p seq) s =
      .next (if (u.onz p.idx).replay.any (fun e => e.1 == seq.toNat) then replayFrom p.idx seq.toNat u else u)) ∧
  (∀ (p : Port) (posted reads : BitVec 16) (s : State), s.powered = true → s.portUp p.idx = true →
    exec (.onzonCredit p posted reads) s = .next (oFlush p.idx (setOnz p.idx { s.onz p.idx with
      creditP := (s.onz p.idx).creditP + posted.toNat
      creditN := (s.onz p.idx).creditN + reads.toNat
      lastRx := s.clk } s))) ∧
  (∀ (p : Port) (f : OFrame) (s : State), (s.onz p.idx).outq = [f] → f.ty = OTy.memWr →
    (oCost f ≤ (s.onz p.idx).creditP → replayRoom (s.onz p.idx) f = true → ∃ t, oFlush p.idx s = t ∧ (t.onz p.idx).outq = [] ∧
      (t.onz p.idx).creditP = (s.onz p.idx).creditP - oCost f ∧ (t.onz p.idx).txSeq = ((s.onz p.idx).txSeq + 1) % 65536 ∧
      (t.onz p.idx).replay = (s.onz p.idx).replay ++ [((s.onz p.idx).txSeq, f, s.clk)] ∧
      t.sent = .onzon p.idx (some (s.onz p.idx).txSeq) f :: s.sent) ∧
    ((s.onz p.idx).creditP < oCost f ∨ replayRoom (s.onz p.idx) f = false → (oFlush p.idx s).onz p.idx = s.onz p.idx ∧ (oFlush p.idx s).sent = s.sent)) ∧
  (∀ f : OFrame, oCost f = (16 + f.len + 255) / 256) ∧
  (∀ (o : OnzSt) (f : OFrame), replayRoom o f =
    decide (sumOf (fun e => 20 + e.2.1.payload.length) o.replay + (20 + f.payload.length) ≤ 524288)) ∧
  (∀ (f : OFrame) (seq : Nat), (f.wire seq).length = 20 + f.payload.length ∧ u8 (f.wire seq) 0 = f.ty % 256 ∧
    u16 (f.wire seq) 2 = f.len % 65536 ∧ u16 (f.wire seq) 4 = seq % 65536 ∧ u16 (f.wire seq) 6 = f.tag % 65536 ∧
    u64 (f.wire seq) 8 = f.addr % 2 ^ 64) ∧
  (∀ (p : Port) (cause : FrameError) (s : State), s.powered = true → s.portUp p.idx = true →
    ∃ t, exec (.onzonFrameError p cause) s = .next t ∧ SameRegs [.QUE_PORT_ERR_CRC] s t ∧ SameMem s t ∧
      t.rg .QUE_PORT_ERR_CRC p.idx = min (s.rg .QUE_PORT_ERR_CRC p.idx + 1) (2 ^ RN.width .QUE_PORT_ERR_CRC - 1) %
        2 ^ RN.width .QUE_PORT_ERR_CRC ∧
      t.sent = .onzon p.idx none
        { ty := OTy.nak, flags := 0, tag := 0, addr := (s.onz p.idx).rxSeq, len := 0, payload := [] } :: s.sent) ∧
  (∀ (p : Port) (seq tag : BitVec 16) (off n : Nat) (s : State), s.powered = true → (s.onz p.idx).isUp = true →
    1 ≤ n → n ≤ 64 →
    let u := oSendCtl p.idx OTy.ack 0 seq.toNat
      (setOnz p.idx { s.onz p.idx with rxSeq := (seq.toNat + 1) % 65536, lastRx := s.clk } s)
    let v := setOnz p.idx { u.onz p.idx with ctrlTags := put tag.toNat (lenCost (4 * n)) (u.onz p.idx).ctrlTags } u
    let r := readAll p.idx (frameOffsets off n) v
    (seq.toNat = (s.onz p.idx).rxSeq → (s.onz p.idx).ctrlTags.length < 64 → off + 4 * n ≤ 16777216 →
      exec (.ctrlRd p seq tag off n) s = .next (if (frameOffsets off n).any s.answers
        then ctrlResp p.idx tag.toNat off 0 r.1 r.2 else returnCredit p.idx 0 (lenCost (4 * n)) u)) ∧
    (seq.toNat = (s.onz p.idx).rxSeq → (s.onz p.idx).ctrlTags.length < 64 → 16777216 < off + 4 * n →
      exec (.ctrlRd p seq tag off n) s = .next (ctrlResp p.idx tag.toNat off 1 [] v)) ∧
    (seq.toNat = (s.onz p.idx).rxSeq → 64 ≤ (s.onz p.idx).ctrlTags.length →
      exec (.ctrlRd p seq tag off n) s = .next (bump .QUE_PORT_ERR_CRC p.idx 1 (returnCredit p.idx 0 (lenCost (4 * n)) u))) ∧
    (seq.toNat ≠ (s.onz p.idx).rxSeq → ∃ t, exec (.ctrlRd p seq tag off n) s = .next t ∧
      SameRegs [.QUE_PORT_ERR_CRC] s t ∧ SameMem s t ∧ (t.onz p.idx).rxSeq = (s.onz p.idx).rxSeq ∧
      t.sent = .onzon p.idx none
        { ty := OTy.nak, flags := 0, tag := 0, addr := (s.onz p.idx).rxSeq, len := 0, payload := [] } :: s.sent)) ∧
  (∀ (p cost : Nat) (f : OFrame) (s : State), f.ty = OTy.ctrlResp → look f.tag (s.onz p).ctrlTags = some cost →
    answerLeaves p f s =
      returnCredit p 0 cost (setOnz p { s.onz p with ctrlTags := del f.tag (s.onz p).ctrlTags } s)) ∧
  (∀ (p off : Nat) (r : List Nat) (s : State), s.answers off = true →
    readAll p (off :: r) s = ((portRead p off s).1 :: (readAll p r (portRead p off s).2).1, (readAll p r (portRead p off s).2).2)) ∧
  (∀ (p : Port) (seq : BitVec 16) (off : Nat) (vs : List Word) (s : State), s.powered = true → (s.onz p.idx).isUp = true →
    1 ≤ vs.length → vs.length ≤ 64 → seq.toNat = (s.onz p.idx).rxSeq → off + 4 * vs.length ≤ 16777216 →
    let u := oSendCtl p.idx OTy.ack 0 seq.toNat
      (setOnz p.idx { s.onz p.idx with rxSeq := (seq.toNat + 1) % 65536, lastRx := s.clk } s)
    exec (.ctrlWr p seq off vs) s = .next (forEach vs.zipIdx (fun x t =>
      if t.answers (off + 4 * x.2) then portWrite p.idx (off + 4 * x.2) x.1.toNat t else t)
      (returnCredit p.idx ((16 + 4 * vs.length + 255) / 256) 0 u)))

/-- The link states of a fabric link, LINK_TRAINING_START to OE_POLL. Signal takes an ENABLED DOWN link to TRAINING. A
training that ends within 50 ms with at most one faulty lane and one faulty wavelength, each replaced by a free spare,
and with the expected peer's IDENT, takes it to UP with sequence numbers and class credits afresh; a wrong peer takes
it to FAILED with event 0x0706; any other end is a failure, with the next attempt 10 ms later, and FAILED at the
sixteenth in a row (R363, R364, R370). RETRAIN takes it to DOWN with the count of failures 0. Loss of lock on an
active lane, LINK_RESET, 10 microseconds without a frame, and TX_FAULT or RX_LOS on a wavelength in use take an UP
link DOWN with event 0x0702; its replay buffer is discarded and its waiting packets are routed again (R365, R366). The
trained lanes, engine reports and trims are operands (log entry 7). Rests on spec/11_fabric_port.md,
spec/17_startup_shutdown.md. -/
def Obligations.LinksTrainAndFail : Prop :=
  (∀ (l : Fin 8) (s : State), s.live = true → (s.link l.val).st = .down → (s.link l.val).retryAt = none →
    (s.link l.val).started = true → s.im.linkEnabled l.val = true → s.rg .PRT_Ln_CTRL_DISABLE l.val = 0 →
    ∃ t, exec (.linkTrainingStart l) s = .next t ∧ (t.link l.val).st = .training ∧ (t.link l.val).trainAt = s.clk ∧
      (∀ m, m ≠ l.val → t.link m = s.link m) ∧ (∃ x, t.sent = .train l.val :: x ++ s.sent ∧ (s.im.optical l.val = false → x = [])) ∧
      SameRegs [.PRT_Ln_SPARE_LANE_REPLACED] s t ∧ t.evr = s.evr ∧ SameMem s t) ∧
  (∀ (l : Fin 8) (s : State), s.live = true → ((s.link l.val).st ≠ .down ∨ (s.link l.val).retryAt ≠ none ∨
    s.im.linkEnabled l.val = false ∨ s.rg .PRT_Ln_CTRL_DISABLE l.val ≠ 0) → exec (.linkTrainingStart l) s = .next s) ∧
  (∀ (l : Fin 8) (lanes : BitVec 9) (engine : BitVec 8) (faults : BitVec 10) (ident : Option (BitVec 12 × Fin 8)) (trims : List Byte) (s : State),
    s.live = true → (s.link l.val).st = .training → s.rg .PRT_X_Ln_SPARE_HOLD_TRAINING l.val = 0 →
    s.clk ≤ (s.link l.val).trainAt + 50000000 →
    exec (.linkTrainingEnd l lanes ⟨engine, faults⟩ ident trims) s = .next (match
        trainSpares s l.val lanes.toNat (if engine.toNat = 0 then 0 else faults.toNat), ident with
      | some (a, b), some i => linkIdent l.val i.1.toNat i.2.val (when (trims.length == 36) (serTrimLoad l.val trims)
          (whenSome b (waveReplace l.val) (whenSome a (laneReplace l.val) s)))
      | _, _ => linkTrainFailed l.val s)) ∧
  (∀ (bad : List Nat) (free ok : Bool), spareFor bad free ok =
    if bad.length = 0 then some none else if bad.length = 1 ∧ free = true ∧ ok = true then some bad.head? else none) ∧
  (∀ (l : Nat) (s : State), s.start.joinedDue = false →
    let t := linkUp l s
    (t.link l).st = .up ∧ (t.link l).txSeq = 0 ∧ (t.link l).rxSeq = 0 ∧ (t.link l).replay = [] ∧
    lookD 0 0 (t.link l).credits = 512 ∧ t.rg .PRT_Ln_STATUS_TRAIN_FAILS l = 0 ∧
    (∀ m, m ≠ l → t.link m = s.link m) ∧ t.mem = s.mem ∧
    (s.slotIm.slotOwners l = [] → (t.link l).credits = [(0, 512), (1, 3072), (2, 2048), (3, 2560)])) ∧
  (∀ (l node link : Nat) (s : State),
    let u := trainFrames l (setRg .PRT_Ln_PEER_VALID l 1 (setRg .PRT_Ln_PEER_LINK l link (setRg .PRT_Ln_PEER_NODE l node
      (setLink l { s.link l with named := true } s))))
    duplicateOf u l node link = none →
    linkIdent l node link s = if peerExpected u l node link = true then linkUp l u
      else linkFail l (raise 0x0706 none [(2, s.im.peerNode l), (1, s.im.peerLink l), (2, node), (1, link)] u)) ∧
  (∀ (l : Nat) (s : State), s.rg .PRT_Ln_STATUS_TRAIN_FAILS l < 15 →
    let t := linkTrainFailed l s
    t.rg .PRT_Ln_STATUS_TRAIN_FAILS l = s.rg .PRT_Ln_STATUS_TRAIN_FAILS l + 1 ∧ (t.link l).st = .down ∧
    (t.link l).retryAt = some (s.clk + 10000000) ∧ SameRegs [.PRT_Ln_STATUS_TRAIN_FAILS, .PRT_Ln_PEER_VALID] s t ∧ t.evr = s.evr ∧ t.mem = s.mem) ∧
  (∀ (l : Nat) (s : State), 15 ≤ s.rg .PRT_Ln_STATUS_TRAIN_FAILS l →
    linkTrainFailed l s = linkFail l (setRg .PRT_Ln_STATUS_TRAIN_FAILS l (s.rg .PRT_Ln_STATUS_TRAIN_FAILS l + 1) s)) ∧
  (∀ (l : Nat) (s : State), (s.link l).open_ = false → ∃ u,
    linkFail l s = noticeAll 0x03 (l + s.rg .PRT_Ln_PEER_NODE l * 65536) u ∧ (u.link l).st = .failed ∧
    (∀ m, m ≠ l → u.link m = s.link m) ∧ u.mem = s.mem) ∧
  (∀ (l : Fin 8) (at_ : Nat) (s : State), s.live = true → (s.link l.val).st = .down → (s.link l.val).retryAt = some at_ →
    exec (.linkRetry l) s = .next (if at_ ≤ s.clk then setLink l.val { s.link l.val with retryAt := none } s else s)) ∧
  (∀ (l : Fin 8) (s : State), s.live = true → s.answers (0x700108 + 64 * l.val) = true →
    ∃ t, exec (.linkRetrain l) s = .next t ∧ (t.link l.val).st = .down ∧ (t.link l.val).retryAt = none ∧
      t.rg .PRT_Ln_STATUS_TRAIN_FAILS l.val = 0 ∧
      t.rg .PRT_Ln_PEER_VALID l.val = 0 ∧
      ((s.link l.val).open_ = false → SameRegs [.PRT_Ln_STATUS_TRAIN_FAILS, .PRT_Ln_PEER_VALID] s t ∧ t.evr = s.evr ∧ SameMem s t)) ∧
  (∀ (l : Fin 8) (lane : Fin 9) (s : State), s.live = true →
    exec (.linkLockLoss l lane) s = .next (if lane.val ∈ (s.link l.val).lanes then linkDown l.val 0 s else s) ∧
    exec (.linkReset l) s = .next (if (s.link l.val).open_ then linkDown l.val 3 (linkGot l.val 40 s) else s) ∧
    exec (.linkRxIdleTimeout l) s = .next (if (s.link l.val).lastRx + 10000 ≤ s.clk then linkDown l.val 4 s else s)) ∧
  (∀ (l cause : Nat) (s : State),
    ((s.link l).open_ = false → linkDown l cause s = s) ∧
    ((s.link l).open_ = true → linkDown l cause s = raise 0x0702 none [(1, l), (1, cause)] (linkLeave l .down s))) ∧
  (∀ (l : Nat) (st : LState) (s : State), ∃ u, linkLeave l st s = forEach (s.link l).outq reroute u ∧
    (u.link l).st = st ∧ (u.link l).replay = [] ∧ (u.link l).outq = [] ∧ (st = .down → u.rg .PRT_Ln_PEER_VALID l = 0) ∧
    (∀ m, (u.link m).st = if m = l then st else (s.link m).st) ∧ u.mem = s.mem) ∧
  (∀ (l : Fin 8) (fault los warn : BitVec 10) (s : State), s.live = true → s.rg .PRT_CTRL_OE_POLL 0 = 1 →
    s.im.optical l.val = true →
    (∃ t, exec (.oePoll l false fault los warn) s = .next t ∧ t.rg .PRT_Ln_OE_POLL_OK l.val = 0 ∧
      SameRegs (.PRT_Ln_OE_POLL_OK :: evrCells) s t ∧ t.prt = s.prt ∧ (∃ u, t = raise 0x070C none [(1, l.val)] u)) ∧
    (∃ u, u.rg .PRT_Ln_OE_POLL_OK l.val = 1 ∧ u.rg .PRT_Ln_OE_TX_FAULT l.val = fault.toNat ∧
      u.rg .PRT_Ln_OE_RX_LOS l.val = los.toNat ∧
      SameRegs [.PRT_Ln_OE_POLL_OK, .PRT_Ln_OE_TX_FAULT, .PRT_Ln_OE_RX_LOS] s u ∧ u.prt = s.prt ∧ u.evr = s.evr ∧
      ((wavesInUse (s.link l.val)).any (bit fault.toNat) = true ∨ (rxWavesInUse (s.link l.val)).any (bit los.toNat) = true →
        exec (.oePoll l true fault los warn) s = .next (linkDown l.val 1 u)) ∧
      ((wavesInUse (s.link l.val)).any (bit fault.toNat) = false → (rxWavesInUse (s.link l.val)).any (bit los.toNat) = false →
        warn = 0 → exec (.oePoll l true fault los warn) s = .next u)))

/-- LANE_SWAP_TRIGGER, SWAP_LANE, SWAP_WAVE, SWAP_DONE, REPAIR_DONE, FORCE_LANE and FORCE_WAVE. At a frame's end the
corrected codewords are counted and the worst lane and its symbols reported; when they exceed the threshold on an UP
link with automatic sparing and a free spare, that lane is moved onto the spare, the peer is asked to do so and the
link is in REPAIR (R367, R404). A peer's request is acknowledged, recorded as event 0x0705 where the spare is in use,
and else takes the link to REPAIR with the lane or wavelength moved (R368). REPAIR ends in UP when the node's part has
ended well in time and, for a swap the node began, the peer's part too; a part that failed, or took more than 20
microseconds for a lane or 3 ms for a wavelength, takes the link DOWN. FORCE_LANE and FORCE_WAVE start a swap from an
open expert window. While a link is in REPAIR nothing starts on it. Rests on spec/11_fabric_port.md. -/
def Obligations.LanesAndWavesAreSpared : Prop :=
  (∀ (l : Fin 8) (symbols : List Nat) (n : BitVec 32) (s : State), s.live = true → (s.link l.val).open_ = true →
    ∃ u, u.rg .PRT_Ln_WORST_LANE_LANE l.val = (worstLane symbols).1 % 16 ∧
      u.rg .PRT_Ln_WORST_LANE_SYMBOLS l.val = min (worstLane symbols).2 16777215 ∧ u.prt = s.prt ∧ u.evr = s.evr ∧
      u.rg .PRT_Ln_FEC_CORR_COUNT l.val = min (s.rg .PRT_Ln_FEC_CORR_COUNT l.val + n.toNat)
        (2 ^ RN.width .PRT_Ln_FEC_CORR_COUNT - 1) % 2 ^ RN.width .PRT_Ln_FEC_CORR_COUNT ∧
      SameRegs [.PRT_Ln_FEC_CORR_COUNT, .PRT_Ln_WORST_LANE_LANE, .PRT_Ln_WORST_LANE_SYMBOLS] s u ∧ SameMem s u ∧
      (min (worstLane symbols).2 16777215 ≤ s.rg .PRT_X_SER_THR_SYMBOLS 0 ∨ (s.link l.val).st ≠ .up ∨
          s.rg .PRT_CTRL_AUTO_LANE_SPARE 0 = 0 ∨ laneSpareFree s l.val = false →
        exec (.laneSwapTrigger l symbols n) s = .next u) ∧
      (s.rg .PRT_X_SER_THR_SYMBOLS 0 < min (worstLane symbols).2 16777215 → (s.link l.val).st = .up →
        s.rg .PRT_CTRL_AUTO_LANE_SPARE 0 = 1 → laneSpareFree s l.val = true →
        exec (.laneSwapTrigger l symbols n) s =
          .next (whenSome ((s.link l.val).lanes.findIdx? (fun p => p == (worstLane symbols).1)) (laneSwap l.val) u))) ∧
  (∀ (l i : Nat) (s : State), (s.link l).open_ = true →
    let t := laneSwap l i s
    (t.link l).st = .repair ∧ (t.link l).swap = some { lane := true, what := i, since := s.clk, mine := true, peerDone := false } ∧
    (t.link l).lanes = (s.link l).lanes.map (fun x => if x = nth 0 (s.link l).lanes i then s.im.spareLane l else x) ∧
    t.rg .PRT_Ln_SPARE_LANE_REPLACED l = nth 0 (s.link l).lanes i % 16 ∧ SameRegs (.PRT_Ln_SPARE_LANE_REPLACED :: txCells) s t ∧
    t.mem = s.mem ∧ t.evr = s.evr) ∧
  (∀ (l : Fin 8) (i : Fin 8) (s : State), s.live = true → (s.link l.val).st = .up →
    (laneSpareFree s l.val = true → ∃ t, exec (.swapLane l i) s = .next t ∧ (t.link l.val).st = .repair ∧
      (t.link l.val).rxSeq = ((s.link l.val).rxSeq + 1) % 2 ^ 24 ∧
      (t.link l.val).lanes = (s.link l.val).lanes.map (fun x =>
        if x = nth 0 (s.link l.val).lanes i.val then s.im.spareLane l.val else x) ∧
      SameRegs (.PRT_Ln_SPARE_LANE_REPLACED :: txCells ++ rxCells) s t ∧ (∀ m, m ≠ l.val → t.link m = s.link m) ∧ SameMem s t) ∧
    (laneSpareFree s l.val = false → exec (.swapLane l i) s = .next (raise 0x0705 none [] (lctrlTaken l.val s)))) ∧
  (∀ (l i : Fin 8) (wave : Fin 16) (s : State), s.live = true → (s.link l.val).st = .up →
    (waveSpareFree s l.val = true → s.im.optical l.val = true → ∃ t, exec (.swapWave l i wave) s = .next t ∧
      (t.link l.val).st = .repair ∧
      (t.link l.val).rxWaves = (s.link l.val).rxWaves.set (nth 0 (s.link l.val).lanes i.val) wave.val ∧
      SameRegs (.PRT_Ln_SPARE_WAVE_REPLACED :: txCells ++ rxCells) s t ∧ (∀ m, m ≠ l.val → t.link m = s.link m) ∧ SameMem s t) ∧
    (waveSpareFree s l.val = false ∨ s.im.optical l.val = false →
      exec (.swapWave l i wave) s = .next (raise 0x0705 none [] (lctrlTaken l.val s)))) ∧
  (∀ (l : Fin 8) (w : Swap) (s : State), s.live = true → (s.link l.val).st = .repair → (s.link l.val).swap = some w →
    (w.mine = true → ∃ t, exec (.swapDone l) s = .next t ∧ (t.link l.val).swap = some { w with peerDone := true } ∧
      (t.link l.val).st = .repair ∧ (∀ m, m ≠ l.val → t.link m = s.link m) ∧ SameRegs (txCells ++ rxCells) s t ∧ SameMem s t) ∧
    (∀ ok : Bool, ok = false ∨ w.since + (if w.lane then 20000 else 3000000) < s.clk →
      exec (.repairDone l ok) s = .next (linkDown l.val 5 s)) ∧
    (s.clk ≤ w.since + (if w.lane then 20000 else 3000000) →
      exec (.repairDone l true) s = .next (if w.mine = true ∧ w.peerDone = false then s else swapEnd l.val w s))) ∧
  (∀ (l : Nat) (w : Swap) (s : State), w.mine = true → (s.link l).replay = [] → (s.link l).outq = [] →
    let t := swapEnd l w s
    (t.link l).st = .up ∧ (t.link l).swap = none ∧ (∀ m, m ≠ l → t.link m = s.link m) ∧ t.mem = s.mem) ∧
  (∀ (p : Port) (l : Fin 8) (s : State), s.live = true → Reaches p (0x780100 + 64 * l.val) s → s.expertOpen p.idx 7 = true →
    (s.link l.val).st = .up →
    (s.rg .PRT_X_Ln_SPARE_LANE l.val < 8 → exec (.forceLane p l) s = .next (if laneSpareFree s l.val = true
      then laneSwap l.val (s.rg .PRT_X_Ln_SPARE_LANE l.val) s else raise 0x0705 none [] s)) ∧
    (s.im.optical l.val = true → s.rg .PRT_X_Ln_SPARE_WAVE l.val ∈ wavesInUse (s.link l.val) →
      exec (.forceWave p l) s = .next (if waveSpareFree s l.val = true
        then waveSwap l.val (s.rg .PRT_X_Ln_SPARE_WAVE l.val) s else raise 0x0705 none [] s))) ∧
  (∀ (p : Port) (l : Fin 8) (s : State), s.live = true → Reaches p (0x780100 + 64 * l.val) s → s.expertOpen p.idx 7 = false →
    exec (.forceLane p l) s = .next (raise 0x0B01 none [(1, p.idx), (3, 0x780100 + 64 * l.val)] s)) ∧
  (∀ (l : Nat) (s : State), (s.link l).st = .repair → egress l s = countHeld l s)

/-- LACK, LNAK, LINK_REPLAY_TIMEOUT, LCREDIT, LINK_FRAME_ERROR, DATA_FRAME and EGRESS_SCHEDULE. On an UP or REPAIR
link an LACK takes the frames up to its LSEQ out of the replay buffer and no other, an LNAK replays from its LSEQ, and
a frame unacknowledged for 4 microseconds is replayed with all that follow, marked REPLAYED; the eighth replay in a
row takes the link DOWN (R365, R371). Returned credits fill the isolation holds first (R422). What a frame
acknowledges and returns in its own header is taken first. The next frame in sequence is acknowledged and taken in;
one seen before is acknowledged again and nothing else; one beyond a gap is discarded and answered with LNAK; a CRC-64
error is counted. A frame is sent with the length that Table PRT-4 gives it. A word of a port or replay buffer that
becomes uncorrectable takes its message or its frame with it (R468). A unicast packet for this node is received, one
with HOPS 0 for another is dropped and counted, any other goes on with HOPS one lower (R381); a multicast packet of a
group that is not valid, or from the wrong port, is dropped, counted and recorded (R382). An output starts only a
waiting packet that has credits, tokens, room in the replay buffer of 1 MiB (1 KiB of it kept for LCTRL frames, log
entry 36) and its time in the timetable, CONTROL before every other class (R373, R409, R420, R421), and takes its
credits. Rests on spec/11_fabric_port.md, spec/12_traffic.md. -/
def Obligations.LinkFramesAreSequencedAndRouted : Prop :=
  (∀ (l : Fin 8) (seq : BitVec 24) (s : State), s.live = true → (s.link l.val).open_ = true →
    ∃ t, exec (.lack l seq) s = .next t ∧
      (∀ e, e ∈ (t.link l.val).replay ↔ e ∈ (s.link l.val).replay ∧ seqLe 24 e.1.lseq seq.toNat = false) ∧
      (t.link l.val).st = (s.link l.val).st ∧ (∀ m, m ≠ l.val → t.link m = s.link m) ∧ t.sent = s.sent ∧
      SameRegs rxCells s t ∧ SameMem s t) ∧
  (∀ (l : Fin 8) (seq : BitVec 24) (s : State), s.live = true → (s.link l.val).open_ = true →
    let u := linkAckUpTo l.val ((seq.toNat + 2 ^ 24 - 1) % 2 ^ 24) (linkGot l.val 24 s)
    exec (.lnak l seq) s =
      .next (if (u.link l.val).replay.any (fun e => e.1.lseq == seq.toNat) then linkReplay l.val seq.toNat u else u)) ∧
  (∀ (l : Fin 8) (e : LFrame × Nat) (r : List (LFrame × Nat)) (s : State), s.live = true → (s.link l.val).replay = e :: r →
    exec (.linkReplayTimeout l) s = .next (if e.2 + 4000 ≤ s.clk then linkReplay l.val e.1.lseq s else s)) ∧
  (∀ (l seq : Nat) (s : State), (s.link l).st = .up → (s.link l).replays + 1 < 8 →
    let again := (s.link l).replay.filter (fun e => seqLe 24 seq e.1.lseq)
    let t := linkReplay l seq s
    (t.link l).replays = (s.link l).replays + 1 ∧ (t.link l).st = .up ∧
    t.sent = (again.map (fun e => Sent.link l { e.1 with flags := Nat.lor e.1.flags 4 })).reverse ++ s.sent ∧
    SameRegs (.PRT_Ln_REPLAY_COUNT :: txCells) s t ∧ t.mem = s.mem) ∧
  (∀ (l seq : Nat) (s : State), (s.link l).st = .up → 8 ≤ (s.link l).replays + 1 →
    ∃ u, linkReplay l seq s = linkDown l 2 u ∧ (u.link l).st = .up) ∧
  (∀ (l : Fin 8) (k : Fin 4) (n : BitVec 12) (s : State), s.live = true → (s.link l.val).open_ = true →
    exec (.lcredit l k n) s = .next (egress l.val (setLink l.val
      { creditBack (s.slotIm.isoCredit l.val) k.val n.toNat (if k.val = 0 then [] else s.slotIm.slotOwners l.val) (s.link l.val) with
        lastRx := s.clk } (linkGot l.val 24 s)))) ∧
  (∀ (iso k n : Nat) (x : Link), lookD k 0 (creditBack iso k n [] x).credits = lookD k 0 x.credits + n) ∧
  (∀ (iso k n c : Nat) (x : Link), let had := lookD (c, k) 0 x.isoCredits
    lookD (c, k) 0 (creditBack iso k n [c] x).isoCredits = had + min n (iso - had) ∧
    lookD k 0 (creditBack iso k n [c] x).credits = lookD k 0 x.credits + (n - min n (iso - had))) ∧
  (∀ (l : Fin 8) (cause : FrameError) (s : State), s.live = true → (s.link l.val).open_ = true →
    ∃ t, exec (.linkFrameError l cause) s = .next t ∧ (t.link l.val).rxSeq = (s.link l.val).rxSeq ∧
      t.rg .PRT_Ln_CRC_COUNT l.val = (if cause = .crc
        then min (s.rg .PRT_Ln_CRC_COUNT l.val + 1) (2 ^ RN.width .PRT_Ln_CRC_COUNT - 1) % 2 ^ RN.width .PRT_Ln_CRC_COUNT
        else s.rg .PRT_Ln_CRC_COUNT l.val) ∧
      SameRegs (.PRT_Ln_CRC_COUNT :: .PRT_Ln_FEC_UNCORR_COUNT :: txCells) s t ∧ SameMem s t ∧
      t.sent = .link l.val { ltype := 3, ack := some (((s.link l.val).rxSeq + 2 ^ 24 - 1) % 2 ^ 24) } :: s.sent) ∧
  (∀ (l : Fin 8) (lseq : BitVec 24) (ack : Option (BitVec 24)) (credit : Option (Fin 4 × BitVec 12)) (bad : List PortWord)
    (b : List Byte) (s : State), s.live = true →
    let u := dropWords bad s
    exec (.dataFrame l lseq ⟨ack, credit, bad, b⟩) s = .next (if (u.link l.val).open_
      then sequenced l.val lseq.toNat b (ridesAlong l.val (ack.map (fun a => a.toNat))
        (credit.map (fun c => (c.1.val, c.2.toNat))) (linkGot l.val (frameLen b) u))
      else u)) ∧
  (∀ (l a k n : Nat) (s : State), ridesAlong l none none s = s ∧ ridesAlong l (some a) none s = linkAckUpTo l a s ∧
    ridesAlong l none (some (k, n)) s = creditTaken l k n s) ∧
  (∀ (l lseq : Nat) (b : List Byte) (s : State),
    let x := s.link l
    (lseq = x.rxSeq → sequenced l lseq b s = ingress l lseq b (linkAck l lseq
      (setLink l { x with rxSeq := (lseq + 1) % 2 ^ 24, lastRx := s.clk } s))) ∧
    (lseq ≠ x.rxSeq → seqLe 24 lseq x.rxSeq = true → sequenced l lseq b s =
      linkAck l ((x.rxSeq + 2 ^ 24 - 1) % 2 ^ 24) (setLink l { x with lastRx := s.clk } s)) ∧
    (lseq ≠ x.rxSeq → seqLe 24 lseq x.rxSeq = false → sequenced l lseq b s = linkFrameError l .gap s)) ∧
  (∀ (l seq : Nat) (s : State), (linkAck l seq s).sent = .link l { ltype := 2, ack := some seq } :: s.sent ∧
    SameRegs txCells s (linkAck l seq s) ∧ (linkAck l seq s).prt = s.prt) ∧
  (∀ (f : LFrame), f.ltype = 1 → 104 ≤ f.body.length → f.flen = 104 + (f.body.length - 104 + 7) / 8 * 8 ∧
    f.wire.length = 24 + f.flen) ∧
  (∀ (l : Fin 8) (lseq : BitVec 24) (e : LFrame × Nat) (s : State), e ∈ ((dropWord (.replay l lseq) s).link l.val).replay ↔
    e ∈ (s.link l.val).replay ∧ e.1.lseq ≠ lseq.toNat) ∧
  (∀ (src : BitVec 12) (op : BitVec 32) (s : State),
    look (src.toNat, op.toNat) (dropWord (.message src op) s).prt.rx = none) ∧
  (∀ (a : Arrival) (b : List Byte) (s : State), transit a b s = if H.dest b = s.nodeId then receive b s
    else if H.hops b = 0 then raiseFirst 0x0708 0 (some (H.car b)) [] (bump .PRT_HOPS_EXP_COUNT 0 1 s)
    else routePacket (some a) (lowerHops b) s) ∧
  (∀ (a : Arrival) (b : List Byte) (s : State), (packetMap s b).groupValid (H.dest b) = false ∨
      ((packetMap s b).groupInPort (H.dest b) ≠ a.link ∧ (packetMap s b).groupInPort (H.dest b) ≠ 15) →
    replicate a b s = raise 0x070D (some (H.car b)) [(2, H.dest b), (1, a.link)] (bump .PRT_MCAST_DROP_COUNT 0 1 s)) ∧
  (∀ (l : Fin 8) (s : State), s.live = true → exec (.egressSchedule l) s = .next (egress l.val (gapReturn l.val s))) ∧
  (∀ (l : Nat) (s : State), ((s.link l).st ≠ .up → egress l s = countHeld l s) ∧
    ((s.link l).st = .up → egress l s = match pickNext (countHeld l s) l with
      | some p => startPacket l p (countHeld l s)
      | none => countHeld l s)) ∧
  (∀ (l : Nat) (p : OutPkt) (s : State), pickNext s l = some p → p ∈ (s.link l).outq ∧ hasCredit s l p = true ∧
    shaperPasses s l p = true ∧ slotAllows s l p = true ∧
    (s.link l).replayUse + frameLen p.body + 1024 ≤ 1048576) ∧
  (∀ (l : Nat) (p : OutPkt) (s : State), pickClass s l 0 = some p → pickNext s l = some p) ∧
  (∀ (l : Nat) (p : OutPkt) (s : State), p.from_ = none → usesHold s l p = false →
    let t := startPacket l p s
    lookD p.cls 0 (t.link l).credits = lookD p.cls 0 (s.link l).credits - (frameLen p.body + 127) / 128 ∧
    (t.link l).outq = dropFirst p (s.link l).outq ∧ (t.link l).txSeq = ((s.link l).txSeq + 1) % 2 ^ 24 ∧
    t.sent = .link l { lseq := (s.link l).txSeq, ltype := 1, flags := p.cls, op := 0, body := p.body } :: s.sent)

/-- BUCKET_TICK, TRF_APPLY and SHAPER_REFILL. At a tick the staged changes are applied, port A's before port B's, then
every enabled shaper and valid policer is refilled by its rate for each tick passed and capped at its burst (R408,
R425). TRF_APPLY stages what the port's staging registers spell, in place of a change that waits, or reads BAD_COMMAND
for a field out of range and ACCESS_DENIED for a carriage that is not valid, changing nothing (R425). A SHAPER_REFILL
entry that is due sets the bucket of an enabled shaper of its carriage to its burst; one of another carriage or of
class 0 records event 0x0805 (R412). A policer passes a green frame and takes its tokens; class 0 is never policed
(R413, R415). Memory stays. Rests on spec/12_traffic.md. -/
def Obligations.ShapersAndPolicersTickAndChange : Prop :=
  (∀ s : State, s.live = true → s.comp.image ≠ none → switchFirst s = false →
    let e := s.im.refillExp
    let n := s.ft / 2 ^ e - s.trf.tickAt / 2 ^ e
    let u := applyPending 1 (applyPending 0 s)
    n ≠ 0 → ∃ t, exec .bucketTick s = .next t ∧ t.trf.tickAt = s.ft ∧
      (∀ i, i < 512 → t.shaper i = if (u.shaper i).enable then (u.shaper i).refill e n else u.shaper i) ∧
      (∀ j, j < 256 → t.policer j = if (u.policer j).valid then (u.policer j).refill e n else u.policer j) ∧
      SameRegs [] u t ∧ t.evr = u.evr ∧ t.mem = s.mem) ∧
  (∀ s : State, s.live = true → s.ft / 2 ^ s.im.refillExp = s.trf.tickAt / 2 ^ s.im.refillExp →
    exec .bucketTick s = .next s) ∧
  (∀ (x : Shaper) (e n : Nat), x.enable = true →
    (x.refill e n).tokens = min (x.burst * 1024) (x.tokens + n * (x.rate * 2 ^ e * 1024 / 1000))) ∧
  (∀ (x : Policer) (e n : Nat), x.twoRate = true →
    (x.refill e n).tc = min (x.cbs * 1024) (x.tc + n * (x.cir * 2 ^ e * 1024 / 1000)) ∧
    (x.refill e n).te = min (x.ebs * 1024) (x.te + n * (x.pir * 2 ^ e * 1024 / 1000))) ∧
  (∀ (p : Nat) (c : TrfChange) (s : State), look p s.trf.pending = some c →
    (applyPending p s).rg .TRF_RESULT_STATUS p = Status.ok ∧ (applyPending p s).rg .TRF_RESULT_DONE p = 1 ∧
    look p (applyPending p s).trf.pending = none ∧
    (c.policer = false → (applyPending p s).shaper c.index =
      { s.shaper c.index with
        rate := c.rate
        enable := bit c.mode 0
        burst := c.burst
        tokens := if bit c.mode 0 then c.burst * (if c.fill then 1024 else 0) else 0 })) ∧
  (∀ (p : Port) (fill : Bool) (s : State), s.live = true → Reaches p 0x80001C s →
    let c := stagedChange s p.idx fill
    ∃ t, exec (.trfApply p fill) s = .next t ∧ t.trf.shapers = s.trf.shapers ∧ t.trf.policers = s.trf.policers ∧ SameMem s t ∧
      (c.well = true → changeCarOk s c = true → look p.idx t.trf.pending = some c ∧
        (∀ q, q ≠ p.idx → look q t.trf.pending = look q s.trf.pending) ∧ SameRegs [] s t) ∧
      (c.well = false → t.trf.pending = s.trf.pending ∧ t.rg .TRF_RESULT_STATUS p.idx = Status.badCommand ∧
        t.rg .TRF_RESULT_DONE p.idx = 1) ∧
      (c.well = true → changeCarOk s c = false → t.trf.pending = s.trf.pending ∧
        t.rg .TRF_RESULT_STATUS p.idx = Status.accessDenied ∧ t.rg .TRF_RESULT_DONE p.idx = 1)) ∧
  (∀ (i : Fin 256) (e : Evt) (s : State), s.live = true → s.evt i.val = some e → evtFires s i.val 4 = true →
    s.ft / 2 ^ s.im.refillExp = s.trf.tickAt / 2 ^ s.im.refillExp →
    (512 ≤ e.arg ∨ e.arg % 4 = 0 ∨ e.arg / 32 ≠ e.car →
      exec (.shaperRefill i) s = .next (raise 0x0805 (some e.car) [(2, i.val)] (evtFired i.val s))) ∧
    (e.arg < 512 → e.arg % 4 ≠ 0 → e.arg / 32 = e.car → (s.shaper e.arg).enable = true →
      ∃ t, exec (.shaperRefill i) s = .next t ∧ (t.shaper e.arg).tokens = (s.shaper e.arg).burst * 1024 ∧
        (∀ k, k ≠ e.arg → t.shaper k = s.shaper k) ∧ SameRegs [] s t ∧ SameMem s t)) ∧
  (∀ (i : Fin 256) (s : State), s.live = true → evtFires s i.val 4 = false → exec (.shaperRefill i) s = .next s) ∧
  (∀ (l : Nat) (b : List Byte) (s : State), pClass b = 0 → police l b s = (true, s)) ∧
  (∀ (p : Policer) (n : Nat), p.twoRate = false → p.aware = false → n ≤ p.tc →
    p.colour n 0 = (0, { p with tc := p.tc - n }))

/-- WALK, GATHER, PAGE_DIGEST and WALK_CACHE_FLUSH. WALK writes the leaf entries of the ordinals named to host memory
and reports their number; GATHER writes the records, and with its flag the scales, of the positions held in HBM or
CXL, and reports how many were written and how many are cold (R201), where the digest of each compressed sealed page
agrees (R212). Fields out of range end BAD_COMMAND, a protected sequence on a queue in clear ACCESS_DENIED. A command
on a sequence that is not present ends BAD_COMMAND, on another carriage's ACCESS_DENIED, and one whose tables cannot
be read UNCORRECTABLE (R469, R608). PAGE_DIGEST in mode 0 writes the digest of the bytes that FILL covers; in mode 1
it ends OK where the digest of a sealed page agrees with the entry's and, with event 0x0401, UNCORRECTABLE where it
does not (R206, R208). The walk caches are emptied from an open expert window (R227). Rests on spec/06_badger.md,
spec/05_sequences_pages.md, spec/14_memory.md. -/
def Obligations.PagesAreWalkedGatheredAndDigested : Prop :=
  (∀ (seq : Nat) (q : Seqd) (layer : Option Nat) (s : State), s.mem.bad = [] → readTables seq q layer s = (true, s)) ∧
  (∀ (k : Nat) (c : Cmd) (layer : Option Nat) (f : Seqd → State → State) (s : State),
    (look (Op.seqId c.bytes) s.seq.seqs = none → onOwnSeq k c layer f s = complete k Status.badCommand 0 0 s) ∧
    (∀ q, look (Op.seqId c.bytes) s.seq.seqs = some q →
      onOwnSeq k c layer f s = if q.car ≠ Op.car c.bytes then complete k Status.accessDenied 0 0 s
        else if (readTables (Op.seqId c.bytes) q layer s).1 = true then f q (readTables (Op.seqId c.bytes) q layer s).2
        else complete k Status.uncorrectable 0 0 (readTables (Op.seqId c.bytes) q layer s).2)) ∧
  (∀ (k : Nat) (c : Cmd) (q : Seqd) (s t : State), OwnSeq k 1 0x01 (some (u16 c.bytes 12)) c q s t →
    let layer := u16 c.bytes 12
    let head := u8 c.bytes 14
    let n := u32 c.bytes 20
    let r := layerOf t (Op.seqId c.bytes) q layer
    let ords := ((List.range n).map (fun i => u32 c.bytes 16 + i)).filter (fun o => o < r.ordinals)
    let es := ords.flatMap (fun o => (if head = 255 then List.range q.kv else [head]).map (fun h => look (o * q.kv + h) r.leaves))
    exec (.walk k) s = .next (
      if q.layers ≤ layer ∨ (q.kv ≤ head ∧ head ≠ 255) ∨ n = 0 ∨ 1048576 < n then complete k Status.badCommand 0 0 t
      else complete k Status.ok 0 es.length (hostWrite k (u64 c.bytes 24) (es.flatMap leafBytes) (noteWalk r.blocks t)))) ∧
  (∀ (k : Nat) (c : Cmd) (q : Seqd) (s t : State), OwnSeq k 1 0x02 (some (u16 c.bytes 12)) c q s t →
    let layer := u16 c.bytes 12
    let head := u8 c.bytes 14
    let n := u32 c.bytes 20
    let held := (List.range n).filterMap (fun i => positionAt t (Op.seqId c.bytes) q layer head (u32 c.bytes 16 + i))
    let warm := held.filter (fun x => x.1.loc != .cold)
    let sl := q.slot t.im
    let sc := q.scale t.im
    let u := forEach warm (fun x => notePage x.1 (x.2 * sl) sl) t
    (q.layers ≤ layer ∨ q.kv ≤ head ∨ n = 0 ∨ 65536 < n → exec (.gather k) s = .next (complete k Status.badCommand 0 0 t)) ∧
    (layer < q.layers → head < q.kv → 1 ≤ n → n ≤ 65536 →
      (q.protected_ = true → qConf t c.q = false → exec (.gather k) s = .next (complete k Status.accessDenied 0 0 t)) ∧
      (q.protected_ = false ∨ qConf t c.q = true → (∀ x ∈ warm, pageFault t x.1 = none) →
        (∀ x ∈ warm, canReadPage u x.1 (x.2 * sl) sl = true ∧ canReadPage u x.1 (u.im.dataArea + x.2 * sc) sc = true) →
        (∀ x ∈ warm, x.1.comp = true → x.1.sealed_ = true → pageDigest u x.1 = x.1.digest) →
        exec (.gather k) s = .next (complete k Status.ok 0 (warm.length + countOf (fun x => x.1.loc == .cold) held * 2 ^ 32)
          (hostWrite k (u64 c.bytes 24) (warm.flatMap (fun x => pageSlice u x.1 (x.2 * sl) sl) ++
            (if bit (u8 c.bytes 15) 0 then warm.flatMap (fun x => pageSlice u x.1 (u.im.dataArea + x.2 * sc) sc) else []))
            (noteWalk (layerOf u (Op.seqId c.bytes) q layer).blocks u)))))) ∧
  (∀ (k : Nat) (c : Cmd) (g : Page) (s : State), Started k 1 0x05 c s → look (u32 c.bytes 12) s.seq.pages = some g →
    g.loc ≠ .cold → g.car = Op.car c.bytes → keyFault s g = none → (g.comp = false ∨ bufferServes s (locHalf s g.loc) = true) →
    let u := notePage g 0 s.im.frameSize s
    pageReadable u g = true →
    (u8 c.bytes 16 = 0 → exec (.pageDigest k) s =
      .next (complete k Status.ok 0 0 (hostWrite k (u64 c.bytes 20) (digestOf (digestSpan u g)) u))) ∧
    (u8 c.bytes 16 = 1 → g.sealed_ = true → exec (.pageDigest k) s =
      .next (if (digestOf (digestSpan u g)).take 24 = g.digest then complete k Status.ok 0 0 u
        else complete k Status.uncorrectable 0 0 (digestFail (u32 c.bytes 12) g.car 0x05 u))) ∧
    (u8 c.bytes 16 = 1 → g.sealed_ = false → exec (.pageDigest k) s = .next (complete k Status.badCommand 0 0 s))) ∧
  (∀ (p : Port) (s : State), s.live = true → Reaches p 0x480008 s → exec (.walkCacheFlush p) s = .next (
    if s.expertOpen p.idx 4 = true then onSeq (fun x => { x with walkCache := [] }) s
    else raise 0x0B01 none [(1, p.idx), (3, 0x480008)] s))

/-- PAGE_COPY, PAGE_MOVE, PAGE_MOVE_COMMIT, GROUP_ZERO, GROUP_ZERO_DONE and PAGE_FREE. A PAGE_COPY whose checks pass
begins once it is its sequence's turn and a move has room, and marks the sequence as being changed; its second run
takes a frame and an entry, copies the page and re-points the leaf entry, or ends ACCESS_DENIED with reason 2 for want
of room (R202, R607). A PAGE_MOVE sets MOVING and takes its destination; at the commit the page's bytes go there and
LOCATION changes with them (R203). Copies, moves and zeroing end after the departure gathers of their carriage (R198).
Which free frame is taken is a free value (log entry 11). The frame a page leaves stays in use while a coach that
walked the page runs. GROUP_ZERO of an owned group that holds nothing begins, of any other ends BAD_COMMAND; when it
is done every byte of the group is 0 and event 0x0407 is recorded (R207). A page at REFCOUNT 0 that no running coach
walks is freed: its entry is no longer VALID, its generation goes up by one, and its frame is given back (R182). Rests
on spec/06_badger.md, spec/05_sequences_pages.md. -/
def Obligations.PagesAreCopiedMovedZeroedAndFreed : Prop :=
  (∀ (k : Nat) (c : Cmd) (q : Seqd) (s t : State), OwnChange k 1 0x03 (some (u16 c.bytes 12)) c q s t → c.phase = 0 →
    snapshotPos s (Op.seqId c.bytes) = none →
    (copyFault t c q = none → exec (.pageCopy k) s = .next (if moveRoom t q.car (u8 c.bytes 15) = true
      then noteMoves q.car (movesOfCar t q.car) (setCmd k { c with phase := 1 } (setBusy (Op.seqId c.bytes) k t)) else t)) ∧
    (∀ st, copyFault t c q = some st → st ≠ Status.keyRetired → st ≠ Status.claimed →
      exec (.pageCopy k) s = .next (complete k st 0 0 t))) ∧
  (∀ (k : Nat) (c : Cmd) (q : Seqd) (l : Leaf) (g : Page) (s : State), Started k 1 0x03 c s → c.phase ≠ 0 →
    gathersFirst s (Op.car c.bytes) = false →
    let u := clearBusy k s
    look (Op.seqId c.bytes) u.seq.seqs = some q → copyLeaf u c q = some l → look l.page u.seq.pages = some g →
    slotsReadable u q g g.fill = true → (g.sealed_ = true → pageDigest u g = g.digest) →
    exec (.pageCopy k) s = .next (match copyPlace u c q with
      | none => completeReason k Status.accessDenied 2 u
      | some (p, v) => match writeSlots q p 0 (slotsOf u q g g.fill) v with
        | none => complete k Status.uncorrectable 0 0 u
        | some w => copyCommit k c q l g p w)) ∧
  (∀ (k : Nat) (c : Cmd) (g : Page) (s : State), Started k 1 0x04 c s → c.phase = 0 → moveFault s c = none →
    look (u32 c.bytes 12) s.seq.pages = some g → u8 c.bytes 16 = 0 →
    (g.moving = true → exec (.pageMove k) s = .next (onSeq (fun x => { x with moveWait := addSet k x.moveWait }) s)) ∧
    (g.moving = false → moveRoom s g.car (locHalf s g.loc) = true →
      exec (.pageMove k) s = .next (match movePlace (u32 c.bytes 12) g c
          (onSeq (fun x => { x with moveWait := remSet k x.moveWait }) s) with
        | none => completeReason k Status.accessDenied 2 (onSeq (fun x => { x with moveWait := remSet k x.moveWait }) s)
        | some (dest, v) => beginMove (u32 c.bytes 12)
            { dest := dest, comp := none, cmd := some k, half := locHalf s g.loc, car := g.car }
            (setCmd k { c with phase := 1 } v)))) ∧
  (∀ (p : Nat) (m : Move) (g : Page) (s : State), look p s.seq.pages = some g →
    look p (beginMove p m s).seq.moves = some m ∧ (look p (beginMove p m s).seq.pages).map (fun x => x.moving) = some true ∧
    (beginMove p m s).mem = s.mem) ∧
  (∀ (p : BitVec 32) (m : Move) (g : Page) (s : State), s.live = true → look p.toNat s.seq.moves = some m →
    look p.toNat s.seq.pages = some g → gathersFirst s m.car = false →
    let u := notePage g 0 s.im.frameSize s
    (pageReadable u g = false → exec (.pageMoveCommit p) s = .next (moveFailed p.toNat m Status.uncorrectable u)) ∧
    (pageReadable u g = true → (g.comp = true → g.sealed_ = true → pageDigest u g = g.digest) →
      let form := moveForm u m (pageBytes u g)
      exec (.pageMoveCommit p) s = .next (whenSome m.cmd (fun k => complete k Status.ok 0 (2 * b2n form.1))
        (countTierMove m (moveTo p.toNat m g form u))))) ∧
  (∀ (p : BitVec 32) (m : Move) (s : State), s.live = true → look p.toNat s.seq.moves = some m → gathersFirst s m.car = true →
    exec (.pageMoveCommit p) s = .next s) ∧
  (∀ (p : Nat) (l : Loc) (s : State), (leaveFrame p l s).seq.vacated =
    if (walkers s p).isEmpty then s.seq.vacated else s.seq.vacated ++ [(l, walkers s p)]) ∧
  (∀ (p : Nat) (m : Move) (g : Page) (form : Bool × Nat) (s : State), look p s.seq.pages = some g →
    (look p (moveTo p m g form s).seq.pages).map (fun x => (x.loc, x.comp, x.moving)) = some (m.dest, form.1, false)) ∧
  (∀ (k : Nat) (c : Cmd) (s : State), Started k 1 0x06 c s → s.seq.zeroing.any (fun z => z.2 == k) = false →
    let g := u8 c.bytes 12
    (63 < g ∨ s.owner (.group g) ≠ some (Op.car c.bytes) ∨ has g s.seq.zeroing = true ∨ groupEmpty s g = false →
      exec (.groupZero k) s = .next (complete k Status.badCommand 0 0 s)) ∧
    (g ≤ 63 → s.owner (.group g) = some (Op.car c.bytes) → has g s.seq.zeroing = false → groupEmpty s g = true →
      exec (.groupZero k) s = .next (onSeq (fun x => { x with zeroing := put g k x.zeroing }) s))) ∧
  (∀ (g : Fin 64) (k : Nat) (s : State), s.live = true → look g.val s.seq.zeroing = some k →
    (∀ c, s.owner (.group g.val) = some c → gathersFirst s c = false) →
    ∃ t, exec (.groupZeroDone g) s = .next t ∧ look g.val t.seq.zeroing = none ∧ g.val ∈ t.seq.zeroed ∧ t.cmd k = none ∧
      (∀ a, hbmAddr g.val 0 ≤ a → a < hbmAddr g.val 0 + groupSize → memGet a t.mem.bytes = 0) ∧
      (s.Sound → ∀ a, a < hbmAddr g.val 0 ∨ hbmAddr g.val 0 + groupSize ≤ a → memGet a t.mem.bytes = memGet a s.mem.bytes)) ∧
  (∀ (p : BitVec 32) (g : Page) (s : State), s.live = true → look p.toNat s.seq.pages = some g →
    (p.toNat ∈ s.seq.freeing → walked s p.toNat = false → look p.toNat s.seq.moves = none →
      ∃ t, exec (.pageFree p) s = .next t ∧ look p.toNat t.seq.pages = none ∧ p.toNat ∉ t.seq.freeing ∧
        look p.toNat t.seq.gens = some ((lookD p.toNat 0 s.seq.gens + 1) % 65536) ∧
        (∀ gr f, g.loc = .hbm gr f → look (gr, f) t.seq.frames = none)) ∧
    (p.toNat ∉ s.seq.freeing ∨ walked s p.toNat = true → exec (.pageFree p) s = .next s))

/-- TABLE_INSTALL, TABLE_REMOVE, WEIGHT_LOAD and WEIGHT_FREE. TABLE_INSTALL of any other length than 18,496 bytes ends
BAD_COMMAND; it reads the header first, then the image (log entry 17). A malformed header ends BAD_COMMAND with reason
7, another carriage's class ACCESS_DENIED with reason 4, a resident table OK at once, and a class both of whose slots
are in use TABLE_BUSY; while another image for the class is fetched it waits; an accepted image becomes CURRENT in its
slot, its class the carriage's, with event 0x0402 (R214 to R218). What makes code words agree is uninterpreted (log
entry 5). TABLE_REMOVE frees an idle table's slot, and its class with the last one; it is refused for a table in use
or of another carriage (R219). WEIGHT_LOAD stores a matrix whose fields lie in their ranges and which fits, beside an
older one of its key that goes once no coach uses it; WEIGHT_FREE waits for the coaches that use a matrix it names
(R221 to R223). Rests on spec/06_badger.md. -/
def Obligations.TablesAndWeightsAreLoadedAndRemoved : Prop :=
  (∀ (k : Nat) (c : Cmd) (s : State), Started k 1 0x10 c s →
    (u32 c.bytes 20 ≠ 18496 → exec (.tableInstall k) s = .next (complete k Status.badCommand 0 0 s)) ∧
    (u32 c.bytes 20 = 18496 → c.want ≠ 0 → exec (.tableInstall k) s = .next s) ∧
    (u32 c.bytes 20 = 18496 → c.want = 0 → c.phase ≠ 2 → let c1 := { c with phase := 1 }
      exec (.tableInstall k) s = .next (fetchTo k c1 (u64 c.bytes 12) 64 false (installAccept k c1) s)) ∧
    (u32 c.bytes 20 = 18496 → c.want = 0 → c.phase = 2 →
      exec (.tableInstall k) s = .next (fetchTo k c (u64 c.bytes 12) 18496 true (installDone k c) s))) ∧
  (∀ (k addr n : Nat) (c : Cmd) (whole : Bool) (f : List Byte → State → State) (s : State), qConf s c.q = false →
    fetchTo k c addr n whole f s = if c.buf.length < n
      then hostReadRaw k (addr + c.buf.length) (n - c.buf.length) (setCmd k c s) else f (c.buf.take n) s) ∧
  (∀ (k : Nat) (c : Cmd) (d : List Byte) (s : State),
    let cls := u16 d 4 / 256
    (tableHeadOk d = false → installAccept k c d s = completeReason k Status.badCommand 7 s) ∧
    (tableHeadOk d = true → classForeign s (Op.car c.bytes) cls = true →
      installAccept k c d s = completeReason k Status.accessDenied 4 s) ∧
    (tableHeadOk d = true → classForeign s (Op.car c.bytes) cls = false →
      installAccept k c d s = if (tableOf s (u16 d 4)).isSome = true then complete k Status.ok 0 0 s
        else if installing s k cls = true then s
        else match installSlot s cls with
          | none => tableBusy k (Op.car c.bytes) cls s
          | some i => let c2 := { c with phase := 2, note := [u16 d 4, i] }
            fetchTo k c2 (u64 c.bytes 12) 18496 true (installDone k c2) s)) ∧
  (∀ (k id i : Nat) (c : Cmd) (d : List Byte) (s : State), c.note = [id, i] → tableHeadOk d = true → u16 d 4 = id →
    installDone k c d s = if Config.tableAgrees d = false then completeReason k Status.badCommand 7 s
      else if classLoad s (id / 256) i ≠ 0 then s
      else complete k Status.ok 0 0 (raise 0x0402 (some (Op.car c.bytes)) [(2, id), (1, i)] (onSeq (fun x => { x with
        tables := put (2 * (id / 256) + i) { id := id, cur := true, queued := 0, image := d }
          (upd (2 * (id / 256) + (1 - i)) (fun t => { t with cur := false }) x.tables)
        classOwner := put (id / 256) (Op.car c.bytes) x.classOwner }) s))) ∧
  (∀ (s : State) (cls i : Nat), installSlot s cls = some i → i < 2 ∧
    (look (2 * cls + i) s.seq.tables = none ∨ ∃ t, look (2 * cls + i) s.seq.tables = some t ∧ slotLoad s t = 0)) ∧
  (∀ (k i : Nat) (t : TSlot) (c : Cmd) (s : State), Started k 1 0x11 c s → tableOf s (u16 c.bytes 12) = some (i, t) →
    let foreign := classForeign s (Op.car c.bytes) (u16 c.bytes 12 / 256)
    (foreign = true → exec (.tableRemove k) s = .next (completeReason k Status.accessDenied 4 s)) ∧
    (foreign = false → slotLoad s t ≠ 0 → exec (.tableRemove k) s = .next (completeReason k Status.accessDenied 5 s)) ∧
    (foreign = false → slotLoad s t = 0 → ∃ u, exec (.tableRemove k) s = .next (complete k Status.ok 0 0 u) ∧
      look i u.seq.tables = none ∧ (∀ j, j ≠ i → look j u.seq.tables = look j s.seq.tables) ∧ SameRegs [] s u ∧ u.mem = s.mem)) ∧
  (∀ (k : Nat) (c : Cmd) (s : State), Started k 1 0x11 c s → tableOf s (u16 c.bytes 12) = none →
    classForeign s (Op.car c.bytes) (u16 c.bytes 12 / 256) = false →
    exec (.tableRemove k) s = .next (complete k Status.badCommand 0 0 s)) ∧
  (∀ (k : Nat) (c : Cmd) (s : State), Started k 1 0x18 c s → weightLoadFault s c.bytes = none →
    (c.phase = 0 → exec (.weightLoad k) s = .next (hostRead k (u64 c.bytes 28) (u32 c.bytes 36) (setCmd k { c with phase := 1 } s))) ∧
    (∀ d, c.phase = 1 → c.want = 0 → c.dataStep s (u32 c.bytes 36) true c.buf = .have_ d → bit (u8 c.bytes 18) 0 = false →
      exec (.weightLoad k) s = .next (
        if d.length = weightSize (u8 c.bytes 17) (u16 c.bytes 20) (u16 c.bytes 22) (u16 c.bytes 24) then storeWeight k c d s
        else complete k Status.badCommand 0 0 s))) ∧
  (∀ (k st : Nat) (c : Cmd) (s : State), Started k 1 0x18 c s → weightLoadFault s c.bytes = some st → st ≠ Status.claimed →
    exec (.weightLoad k) s = .next (complete k st 0 0 s)) ∧
  (∀ (b : List Byte) (s : State), weightInRange b = false → weightLoadFault s b = some Status.badCommand) ∧
  (∀ (k : Nat) (c : Cmd) (s : State), Started k 1 0x19 c s →
    let ws := freeTargets s (Op.car c.bytes) (u16 c.bytes 12) (u16 c.bytes 14)
    exec (.weightFree k) s = .next (if ws.all (fun w => w.2.users.isEmpty)
      then complete k Status.ok 0 0 (forEach (keys ws) dropWeight
        (onSeq (fun x => { x with weightFrees := x.weightFrees.filter (fun e => e.1 != k) }) s))
      else onSeq (fun x => { x with weightFrees := addSet (k, u16 c.bytes 12, u16 c.bytes 14) x.weightFrees }) s)) ∧
  (∀ (id : Nat) (s : State), look id (dropWeight id s).seq.weights = none)

/-- SEQ_CREATE, SEQ_FREE, SEQ_FORK, SEQ_FREEZE, SEQ_THAW, PAGE_LINK, NODESET_LOAD and SEQ_QUERY. A SEQ_CREATE whose
SEQ_ID is not present, whose fields and shape are in range and whose node set the carriage holds makes the sequence
ACTIVE with its P_EXP as the result, or ends ACCESS_DENIED with reason 1 for want of table memory. A fork reserves its
child, then makes it whole or leaves nothing; a frozen sequence has FREEZE_POS, the lower of two freezes; a thaw makes
it ACTIVE again and drops or replays what was staged, once no append of it waits (R198, R199); a link adds one
reference and one entry; a free drops them all (R179 to R187, R607, R608). In a park state these end FROZEN, held by a
job ABORTED. A node set is loaded where its carriage may; a query writes the descriptor and the layer records to a
64-byte boundary. Which free block is taken is a free value (log entry 11). Rests on spec/05_sequences_pages.md. -/
def Obligations.SequencesAreCreatedForkedFrozenAndQueried : Prop :=
  (∀ (k e : Nat) (c : Cmd) (s : State), Started k 1 0x20 c s →
    let b := c.bytes
    let seq := Op.seqId b
    let car := Op.car b
    pexpOf s.im (bit (u8 b 15) 0) (bits (u8 b 15) 1 3) (u16 b 12) = some e →
    ((seq = 0 ∨ seqPresent s seq = true ∨ createInRange b = false ∨ setUsable s car (u16 b 18) = false) →
      exec (.seqCreate k) s = .next (complete k Status.badCommand 0 0 s)) ∧
    (seq ≠ 0 → seqPresent s seq = false → createInRange b = true → setUsable s car (u16 b 18) = true →
      (s.im.maxSeqs car ≤ seqsOf s car → exec (.seqCreate k) s = .next (complete k Status.accessDenied 0 0 s)) ∧
      (seqsOf s car < s.im.maxSeqs car → (bit (u8 b 26) 0 = false ∨ (s.im.protected_ car = true ∧ s.canEncrypt car = true)) →
        exec (.seqCreate k) s = .next (match takeSeqTables car (u16 b 16) s with
          | none => completeReason k Status.accessDenied 1 s
          | some (d, r, v) => complete k Status.ok 0 e (setSeq seq (createDesc b e d r) v))))) ∧
  (∀ (b : List Byte) (e d r : Nat), (createDesc b e d r).st = 1 ∧ (createDesc b e d r).freeze = 0xFFFFFFFF ∧
    (createDesc b e d r).forkPos = 0xFFFFFFFF ∧ (createDesc b e d r).recs = [] ∧ (createDesc b e d r).pexp = e) ∧
  (∀ (k : Nat) (c : Cmd) (q : Seqd) (s t : State), OwnChange k 1 0x21 none c q s t → snapshotPos s (Op.seqId c.bytes) = none →
    exec (.seqFree k) s = .next (if q.st = 3 ∨ q.st = 6 then complete k Status.frozen 0 0 t
      else complete k Status.ok 0 0 (freeSeq (Op.seqId c.bytes) t))) ∧
  (∀ (seq : Nat) (s : State), look seq (freeSeq seq s).seq.seqs = none) ∧
  (∀ (k : Nat) (c : Cmd) (q : Seqd) (s t : State), OwnChange k 1 0x22 none c q s t → c.phase = 0 →
    mayChange s (u32 c.bytes 12) (.cmd k) = true →
    exec (.seqFork k) s = .next (match forkFault t (Op.seqId c.bytes) (u32 c.bytes 12) (u32 c.bytes 16) q with
      | some st => complete k st 0 0 t
      | none => setCmd k { c with phase := 1 } (setBusy (u32 c.bytes 12) k (setBusy (Op.seqId c.bytes) k t)))) ∧
  (∀ (k : Nat) (c : Cmd) (q : Seqd) (s : State), Started k 1 0x22 c s → c.phase ≠ 0 →
    look (Op.seqId c.bytes) s.seq.seqs = some q →
    exec (.seqFork k) s = .next (match forkChild (Op.seqId c.bytes) (u32 c.bytes 12) (u32 c.bytes 16) q (clearBusy k s) with
      | some v => complete k Status.ok 0 0 v
      | none => completeReason k Status.accessDenied 1 (clearBusy k s))) ∧
  (∀ (k : Nat) (c : Cmd) (q : Seqd) (s t : State), OwnChange k 1 0x23 none c q s t → snapshotPos s (Op.seqId c.bytes) = none →
    let n := u32 c.bytes 12
    (q.parked = true → exec (.seqFreeze k) s = .next (complete k Status.frozen 0 0 t)) ∧
    (q.parked = false → t.seqHeld q.car (Op.seqId c.bytes) = true →
      exec (.seqFreeze k) s = .next (complete k Status.aborted 0 0 t)) ∧
    (q.parked = false → t.seqHeld q.car (Op.seqId c.bytes) = false →
      exec (.seqFreeze k) s = .next (complete k Status.ok 0 0 (freezeAt (Op.seqId c.bytes) (if q.st = 2 then min q.freeze n else n)
        (if bit (u8 c.bytes 16) 0 then forEach q.recs (fun r => truncateLayer (Op.seqId c.bytes) n q r.1 r.2) t else t))))) ∧
  (∀ (seq n : Nat) (q : Seqd) (s : State), look seq s.seq.seqs = some q →
    look seq (freezeAt seq n s).seq.seqs = some { q with st := 2, freeze := n } ∧ (freezeAt seq n s).mem = s.mem) ∧
  (∀ (k : Nat) (c : Cmd) (q : Seqd) (s t : State), OwnChange k 1 0x24 none c q s t →
    let seq := Op.seqId c.bytes
    let u := onSeq (fun y => { y with staged := y.staged.filter (fun x => x.seq != seq) })
      (onSeqd seq (fun q => { q with st := 1, freeze := 0xFFFFFFFF }) t)
    let r := replay q.car (t.seq.staged.filter (fun x => x.seq == seq)) 0 u
    (q.st = 1 → t.seqHeld q.car seq = false → exec (.seqThaw k) s = .next (complete k Status.ok 0 0 t)) ∧
    (q.st = 2 → t.seqHeld q.car seq = false → bit (u8 c.bytes 12) 0 = true →
      (∃ x ∈ t.seq.staged, x.seq = seq ∧ appendWaits t (x.append q.car) = true) →
      exec (.seqThaw k) s = .next (waitChange seq (.cmd k) t)) ∧
    (q.st = 2 → t.seqHeld q.car seq = false →
      (∀ x ∈ t.seq.staged, x.seq = seq → appendWaits t (x.append q.car) = false) →
      exec (.seqThaw k) s = .next (if bit (u8 c.bytes 12) 0
      then complete k (if r.2.1 then Status.noPage else Status.ok) 0 (b2n (r.1 != 0) + r.1 * 65536) r.2.2
      else complete k Status.ok 0 0 u))) ∧
  (∀ (k : Nat) (c : Cmd) (q : Seqd) (s t : State), OwnChange k 1 0x25 (some (u16 c.bytes 16)) c q s t →
    let b := c.bytes
    let layer := u16 b 16
    let r := layerOf t (Op.seqId b) q layer
    linkFault t q.car (Op.seqId b) layer (u8 b 18) (u32 b 20) (u16 b 24) (u32 b 12) q = none →
    exec (.pageLink k) s = .next (match growLayer q.car (Op.seqId b) layer q.kv (r.ordinals + 1) r t with
      | none => completeReason k Status.accessDenied 1 t
      | some (r', v) => complete k Status.ok 0 0 (fixSplit (Op.seqId b) layer (addRef (u32 b 12) (setLayer (Op.seqId b) q layer
          { r' with leaves := put (r.ordinals * q.kv + u8 b 18) { page := u32 b 12, view := u16 b 24 } r'.leaves
                    ordinals := if u8 b 18 + 1 = q.kv then r.ordinals + 1 else r.ordinals } v))))) ∧
  (∀ (p : Nat) (g : Page) (s : State), look p s.seq.pages = some g →
    look p (addRef p s).seq.pages = some { g with refs := g.refs + 1 } ∧ p ∉ (addRef p s).seq.freeing) ∧
  (∀ (k : Nat) (c : Cmd) (s : State), Started k 1 0x27 c s → u16 c.bytes 12 ≤ 255 → 1 ≤ u16 c.bytes 14 → u16 c.bytes 14 ≤ 4096 →
    (c.phase = 0 →
      exec (.nodesetLoad k) s = .next (hostRead k (u64 c.bytes 16) (2 * u16 c.bytes 14) (setCmd k { c with phase := 1 } s))) ∧
    (∀ d, c.phase ≠ 0 → c.want = 0 → c.dataStep s (2 * u16 c.bytes 14) true c.buf = .have_ d →
      let raw := (List.range (u16 c.bytes 14)).map (fun i => u16 d (2 * i))
      ((∃ x ∈ raw, 4096 ≤ x) ∨ ¬ raw.Nodup → exec (.nodesetLoad k) s = .next (complete k Status.badCommand 0 0 s)) ∧
      ((∀ x ∈ raw, x < 4096) → raw.Nodup → look (u16 c.bytes 12) s.seq.sets = none → (∀ e ∈ s.seq.seqs, e.2.nodeset ≠ u16 c.bytes 12) →
        exec (.nodesetLoad k) s = .next (complete k Status.ok 0 0
          (onSeq (fun x => { x with sets := put (u16 c.bytes 12) { car := Op.car c.bytes, nodes := raw } x.sets }) s))))) ∧
  (∀ (k : Nat) (c : Cmd) (q : Seqd) (s t : State), OwnSeq k 1 0x28 none c q s t →
    exec (.seqQuery k) s = .next (if u64 c.bytes 12 % 64 ≠ 0 then complete k Status.badCommand 0 0 s
      else complete k Status.ok 0 0
        (hostWrite k (u64 c.bytes 12) (descBytes t (Op.seqId c.bytes) q ++ layersBytes t (Op.seqId c.bytes) q) t))) ∧
  (∀ (s : State) (seq : Nat) (q : Seqd), (descBytes s seq q).length = 64)

/-- APPEND, the append command, STAGED_EXPIRE, PAGE_SEAL and SEQUENCE_CHANGE_RESUME. An append runs when its
sequence's turn has come, else it waits in the order of R607; SEQUENCE_CHANGE_RESUME runs the oldest that waits once
none runs. An append of positions already held ends OK and writes nothing; one that leaves a gap, or reaches beyond
position 16,777,216 (R23), ends BAD_COMMAND; one beyond FREEZE_POS, or in a park state, FROZEN; one of a held sequence
ABORTED; one of another carriage ACCESS_DENIED; each changes nothing (R175, R185, R608). For want of a page it ends
NO_PAGE: nothing is written, the sequence freezes at START and the rejection is staged for 1 ms, after which event
0x0442 records its loss (R184). The answer of a fabric append is an ACK with the status, or a NAK of ACCESS_DENIED
(R388). An append waits for the departure gathers of its carriage, and one that copies a page for room for a page move
(R198, R199). A filled page is sealed by the tile of its half with the least queued seal work, which does no more jobs
between two coaches than BEAR_SEAL allows (R286), with its statistics (free within their rounding, log entry 6), or
event 0x0446 records that it cannot be read (R177, R178, R234). Rests on spec/05_sequences_pages.md. -/
def Obligations.AppendsAreOrderedAllOrNothing : Prop :=
  (∀ (k : Nat) (c : Cmd) (q : Seqd) (s : State), Started k 1 0x26 c s → look (Op.seqId c.bytes) s.seq.seqs = some q →
    let count := u8 c.bytes 14
    let n := nth 0 c.note 0
    let raw := nth 0 c.note 1
    (c.phase = 0 → count = 0 ∨ 32 < count → exec (.appendCmd k) s = .next (complete k Status.badCommand 0 0 s)) ∧
    (c.phase = 0 → 1 ≤ count → count ≤ 32 →
      exec (.appendCmd k) s = .next (if mayChange s (Op.seqId c.bytes) (.cmd k) = true
        then hostRead k (u64 c.bytes 20) (appendBytes s.im q count)
          (setCmd k { c with phase := 1, note := [appendBytes s.im q count] }
            (setBusy (Op.seqId c.bytes) k (dropWait (.cmd k) s)))
        else waitChange (Op.seqId c.bytes) (.cmd k) s)) ∧
    (∀ d, c.phase = 1 → c.want = 0 → c.dataStep s n true c.buf = .have_ d → exec (.appendCmd k) s =
      .next (hostRead k (u64 c.bytes 40) (4 * count) (setCmd k { c with phase := 2, note := [n, c.buf.length] } s))) ∧
    (∀ d tk, c.phase = 2 → c.want = 0 → c.dataStep s n true (c.buf.take raw) = .have_ d →
      c.dataStep s (4 * count) true (c.buf.drop raw) = .have_ tk →
      let a : AppIn := {
        car := Op.car c.bytes, seq := Op.seqId c.bytes, layer := u16 c.bytes 12, start := u32 c.bytes 16, count := count,
        data := d, tokens := tokensOf count tk, hash := if bit (u8 c.bytes 15) 0 then some (fieldAt c.bytes 28 12) else none }
      exec (.appendCmd k) s = .next (if appendWaits s a = true then s
        else complete k (append a s).1.1 0 (append a s).1.2 (append a s).2))) ∧
  (∀ (src : BitVec 12) (op : BitVec 32) (e : RxEntry) (q : Seqd) (s : State), Waits (src.toNat, op.toNat) 3 e s →
    let a := msgAppend e e.message
    look a.seq s.seq.seqs = some q → appendWell s.im q.kv (q.slot s.im) (q.scale s.im) e.message = true →
    (appendWaits s a = false → mayChange s a.seq (.msg src.toNat op.toNat) = true →
      let r := append a (dropWait (.msg src.toNat op.toNat) s)
      exec (.append src op) s = .next (if r.1.1 = Status.accessDenied then nakMsg (src.toNat, op.toNat) e r.1.1 0 0 r.2
        else ackMsg (src.toNat, op.toNat) e r.1.1 0 r.1.2 r.2)) ∧
    (appendWaits s a = true ∨ mayChange s a.seq (.msg src.toNat op.toNat) = false →
      exec (.append src op) s = .next (waitChange a.seq (.msg src.toNat op.toNat) s))) ∧
  (∀ (a : AppIn) (q : Seqd) (k : Nat) (s : State), look a.seq s.seq.seqs = some q → localOf s q a.layer (a.start / q.p) = some k →
    a.layer < q.layers → 1 ≤ a.count → a.count ≤ 32 → a.start + a.count ≤ 16777216 → (a.start + a.count - 1) / q.p = a.start / q.p →
    a.data.length = appendBytes s.im q a.count →
    (q.car ≠ a.car → append a s = ((Status.accessDenied, 0), s)) ∧
    (q.car = a.car → (q.protected_ = false ∨ s.canEncrypt q.car = true) →
      (q.parked = true ∨ (q.st = 2 ∧ q.freeze < a.start + a.count) → append a s = ((Status.frozen, 0), s)) ∧
      (q.parked = false → ¬ (q.st = 2 ∧ q.freeze < a.start + a.count) →
        (s.timeServes = false → append a s = ((Status.timeHoldover, 0), s)) ∧
        (s.timeServes = true → s.seqHeld q.car a.seq = true → append a s = ((Status.aborted, 0), s)) ∧
        (s.timeServes = true → s.seqHeld q.car a.seq = false → (readTables a.seq q (some a.layer) s).1 = true →
          append a s = appendPlaced a q k (readTables a.seq q (some a.layer) s).2)))) ∧
  (∀ (a : AppIn) (q : Seqd) (k : Nat) (s : State),
    let r := layerOf s a.seq q a.layer
    let base := a.start / q.p * q.p
    let view := viewOf q r (r.ordinals - 1)
    (k + 1 < r.ordinals ∨ (k + 1 = r.ordinals ∧ a.start + a.count ≤ base + view) → appendPlaced a q k s = ((Status.ok, 0), s)) ∧
    (r.ordinals < k ∨ (k = r.ordinals ∧ a.start ≠ base) → appendPlaced a q k s = ((Status.badCommand, 0), s)) ∧
    (k = r.ordinals → a.start = base → appendPlaced a q k s = match appendNew a q r k s with
      | .ok t => ((Status.ok, 0), appended a q a.start t)
      | .error st => if st = Status.noPage then ((st, a.start), noPage a q r.home s)
        else ((st, 0), when (st == Status.uncorrectable) (noteAppendReads q r k) (noteKey st (retiredPage q r k s) q.car s)))) ∧
  (∀ (a : AppIn) (q : Seqd) (home : Nat) (s : State), look a.seq s.seq.seqs = some q →
    let t := noPage a q home s
    look a.seq t.seq.seqs = some { q with st := 2, freeze := a.start } ∧ t.seq.pages = s.seq.pages ∧ t.mem = s.mem ∧
    (∃ x, t.seq.staged.getLast? = some x ∧ x.seq = a.seq ∧ x.start = a.start ∧ x.data = a.data ∧ x.due = s.clk + 1000000) ∧
    (∃ u, t = raise 0x0440 (some q.car) [(4, a.seq), (2, a.layer), (4, a.start)] u)) ∧
  (∀ (half : Fin 2) (s : State), s.live = true →
    ∃ t, exec (.stagedExpire half) s = .next t ∧
      t.seq.staged = s.seq.staged.filter (fun x => !(x.half == half.val && decide (x.due ≤ s.clk))) ∧
      t.seq.seqs = s.seq.seqs ∧ t.seq.pages = s.seq.pages ∧ SameRegs evrCells s t ∧ SameMem s t) ∧
  (∀ (a : AppIn) (s : State), 16777216 < a.start + a.count → (append a s).1.1 = Status.badCommand ∧ (append a s).2 = s) ∧
  (∀ (p : BitVec 32) (j : SealJob) (g : Page) (s : State), s.live = true → look p.toNat s.seq.sealing = some j →
    look p.toNat s.seq.pages = some g →
    let u := notePage g 0 s.im.frameSize (countJob j (onSeq (fun x => { x with sealing := del p.toNat x.sealing }) s))
    (sealMayRun s g.car j = false → exec (.pageSeal p) s = .next s) ∧
    (sealMayRun s g.car j = true → pageReadable u g = false →
      exec (.pageSeal p) s = .next (raise 0x0446 (some g.car) [(4, j.seq), (2, j.layer), (4, p.toNat)] u)) ∧
    (sealMayRun s g.car j = true → pageReadable u g = true → exec (.pageSeal p) s = .next (sealEnd p.toNat
      (bindRow p.toNat (locHalf u g.loc) (sealed_ u p.toNat g) (setPage p.toNat (sealed_ u p.toNat g) u))))) ∧
  (∀ (car : Nat) (j : SealJob) (s : State), sealMayRun s car j = true ↔ gathersFirst s car = false ∧
    ∀ t, j.tile = some t → (∃ e ∈ s.fox.coaches, e.2.open_ = true ∧ t ∈ e.2.own) →
      lookD t 0 s.fox.sealJobs < max 1 (s.rg .BEAR_SEAL_SLOTS 0)) ∧
  (∀ (t : Nat) (g : Page) (s : State), sealTile s g = some t → t ∈ s.tilesOf false g.car ∧ t / 32 = locHalf s g.loc ∧
    ∀ u ∈ s.tilesOf false g.car, u / 32 = locHalf s g.loc →
      countOf (fun j => j.2.tile == some t) s.seq.sealing ≤ countOf (fun j => j.2.tile == some u) s.seq.sealing) ∧
  (∀ (seq : BitVec 32) (w : Waiter) (s : State), s.live = true → look seq.toNat s.seq.waiting = some w →
    exec (.sequenceChangeResume seq) s = .next (if has seq.toNat s.seq.busy = true then s else resumeWaiter w s)) ∧
  (∀ (k : Nat) (c : Cmd) (s : State), s.cmd k = some c → Op.opcode c.bytes = 0x21 →
    resumeWaiter (.cmd k) s = withCmd k 1 0x21 (seqFree k) s) ∧
  (∀ (src op : Nat) (e : RxEntry) (s : State), look (src, op) s.prt.rx = some e →
    resumeWaiter (.msg src op) s = withMsg src op MTy.append (fabricAppend src op) s)

/-- FOX_PASS, SCOUT_SELECTION, FOX_SCORE, FOX_ROW_BIND, FOX_ROW_RELEASE and FOX_ROW_REFILL. A pass of a coach's next
vector scores every page whose row lies in an IN_CAL macro of a block that does the coach's work (R59, R256) from the
array's codes, which with the residuals are the command's operands (log entry 7), counts the pass and tracks the
macros used (R231, R237, R250). After the last pass the pages are selected vector by vector, those without a usable
row digitally, exactly and with a guard of 0 (R243), and the candidates go on to the gather or, of a FOX_SCORE, to the
host (R239 to R247, R257). In exact mode the candidates are every page below POS, in leaf order, marked ALWAYS where
R241 includes them (R244, log entry 34). A saturated code is always selected (R237); with fewer than K pages scored,
all are (R239). FOX_ROW_BIND gives sealed rowless pages rows while there are free ones and reports how many;
FOX_ROW_RELEASE takes them from unshared pages; refill binds the newest seal, one per 100 ns and half (R253, R255).
Rests on spec/07_fox.md. -/
def Obligations.FoxScoresSelectsAndBindsRows : Prop :=
  (∀ (id : Nat) (codes : List (Nat × Int)) (refs : List (Nat × List Int)) (c : Coach) (q : Seqd) (s : State),
    Working id c q s → passesLeft s c = true → c.whole = true → waitsFor s id c (passesLeft s) = false →
    let pages := (vectorPages s c q c.passes).filter (fun e => e.g.sealed_)
    let on := pages.filterMap (fun e => (usableRow s c e.g).map (fun r => (r, e)))
    let rows := on.map Prod.fst
    exec (.foxPass id codes refs) s = .next (if passWell rows codes refs = false then s else
      forEach (macrosIn rows) (fun m => trackMacro m (lookD m [] refs)) (bump .FOX_C_PASSES_COUNT c.car 1
        (setCoach id { c with
          scored := c.scored ++ [on.map (fun x => analogScore s c c.passes x.1 x.2 (lookD x.1 0 codes))]
          lost := c.lost ++ [pages.any (fun e => rowLost s e.g)]
          passes := c.passes + 1 } s)))) ∧
  (∀ (s : State) (c : Coach) (g : Page) (r : Nat), usableRow s c g = some r ↔
    g.foxRow = some r ∧ s.macroSt (r / 512) = 1 ∧ s.serves c.old (.fox (r / 32768)) = some c.car) ∧
  (∀ (s : State) (c : Coach) (v row : Nat) (e : Seen) (code : Int),
    ((analogScore s c v row e code).sat = true ↔ code = 31) ∧
    (∀ t, code = 31 → isPicked t (analogScore s c v row e code) = true) ∧
    (digitalScore c v e).guard = 0 ∧ isPicked none (digitalScore c v e) = true) ∧
  (∀ (d : List Byte) (all : List Scored), Desc.topK d = true → all.length < Desc.k d → threshold d all = none) ∧
  (∀ (id : Nat) (c : Coach) (q : Seqd) (s : State), Working id c q s → c.whole = true → c.cands = none → passesLeft s c = false →
    let d := { c with walked := (seenPages s c q).map (fun e => e.leaf) }
    (exactCoach s c = true →
      let cands := exactCands s c q (seenPages s c q)
      exec (.scoutSelection id) s = .next (selectionDone id d cands
        (exactReports (cands.filter (fun x => x.always)).length c.vectors) s)) ∧
    (exactCoach s c = false →
      let cs := (List.range c.vectors).map (chooseVector s c q)
      exec (.scoutSelection id) s = .next (selectionDone id d (candidatesOf (seenPages s c q) cs) (cs.flatMap (fun x => x.report))
        (forEach cs (noteChoice c.car) s)))) ∧
  (∀ (id : Nat) (c : Coach) (cands : List Cand) (reports : List Byte) (s : State), c.cmd = none →
    (selectionDone id c cands reports s).coach id = some { c with cands := some cands, reports := reports }) ∧
  (∀ (s : State) (c : Coach) (q : Seqd) (seen : List Seen) (x : Cand), x ∈ exactCands s c q seen → ∃ e ∈ seen,
    x.leaf = e.leaf ∧ x.page = e.page ∧ x.always = alwaysIn s c q e ∧ basePos s q c.layer e.leaf < Prm.pos c.params ∧ 0 < e.view) ∧
  (∀ (k : Nat) (c : Cmd) (q : Seqd) (s t : State), OwnSeq k 2 0x01 (some (u16 c.bytes 12)) c q s t →
    let v := u8 c.bytes 14
    (∀ st, c.phase < 2 → scoreFault c q = some st → exec (.foxScore k) s = .next (complete k st 0 0 t)) ∧
    (c.phase = 0 → scoreFault c q = none →
      exec (.foxScore k) s = .next (hostRead k (u64 c.bytes 20) (80 * v + 32) (setCmd k { c with phase := 1 } t))) ∧
    (∀ d, c.phase = 1 → scoreFault c q = none → c.want = 0 → c.dataStep t (80 * v + 32) true c.buf = .have_ d →
      (∀ i, i < v → descWell (slice (slice d (64 * v) (16 * v)) (16 * i) 16) = true) →
      ∃ u w, exec (.foxScore k) s = .next u ∧ u.fox.coaches = put t.fox.nextCoach w t.fox.coaches ∧
        u.fox.nextCoach = t.fox.nextCoach + 1 ∧ w.cmd = some k ∧ w.seq = Op.seqId c.bytes ∧ w.layer = u16 c.bytes 12 ∧
        w.vectors = v ∧ w.open_ = true ∧ w.whole = true ∧ w.old = c.old ∧ w.vecs = slice d 0 (64 * v) ∧
        (u.cmd k).map (fun x => x.phase) = some 2 ∧ u.mem = t.mem ∧ SameRegs [] t u)) ∧
  (∀ (k : Nat) (c : Cmd) (q : Seqd) (s t : State), OwnSeq k 2 0x03 none c q s t → rowCmdFault t c q = none →
    exec (.foxRowBind k) s = .next (complete k Status.ok 0 ((seqPagesOf q (u16 c.bytes 12)).foldl bindOne (0, t)).1
      ((seqPagesOf q (u16 c.bytes 12)).foldl bindOne (0, t)).2)) ∧
  (∀ (k : Nat) (c : Cmd) (q : Seqd) (s t : State), OwnSeq k 2 0x04 none c q s t → rowCmdFault t c q = none →
    exec (.foxRowRelease k) s = .next (complete k Status.ok 0 ((seqPagesOf q (u16 c.bytes 12)).foldl releaseOne (0, t)).1
      ((seqPagesOf q (u16 c.bytes 12)).foldl releaseOne (0, t)).2)) ∧
  (∀ (n p r : Nat) (g : Page) (s : State), look p s.seq.pages = some g → g.foxRow = some r →
    (g.refs = 1 → releaseOne (n, s) p = (n + 1, releaseRow p s)) ∧ (g.refs ≠ 1 → releaseOne (n, s) p = (n, s)) ∧
    bindOne (n, s) p = (n, s)) ∧
  (∀ (half : Fin 2) (s : State), s.live = true → s.fox.rowless.filter (refillable s half.val) = [] →
    exec (.foxRowRefill half) s = .next s) ∧
  (∀ (half : Fin 2) (p : Nat) (g : Page) (s : State), s.live = true → look p s.seq.pages = some g →
    s.fox.rowless.filter (refillable s half.val) = [p] →
    ((∃ at_, look half.val s.fox.refillAt = some at_ ∧ s.clk < at_ + 100) → exec (.foxRowRefill half) s = .next s) ∧
    (look half.val s.fox.refillAt = none → ∃ r, rowPick s g.car half.val = some r ∧ exec (.foxRowRefill half) s =
      .next (onFox (fun f => { f with refillAt := put half.val s.clk f.refillAt }) (bindTo p r g s))))

/-- FOX_CAL, FOX_CAL_DONE, FOX_RECAL, FOX_IDLE_PASS and FOX_COMPENSATE. FOX_CAL of blocks that do the carriage's work
calibrates their IN_CAL and OUT macros, which are OUT until they pass; another carriage's block ends ACCESS_DENIED, a
reserved mode BAD_COMMAND (R257). A calibration that passes with a deviation of at most 1.5 percent takes the macro to
IN_CAL with its failures 0, unless FORCE_OUT holds it, and a full one sets the trims (Table FOX-5), and ends only in
the window; one that fails leaves it OUT, and at the third failure in a row disables it, gives up its rows and records
event 0x0508 (R248, R251, R252). What the array finds is the operand (log entry 7). Recalibration starts on a macro
that is due, in a block that calibrates none, while no coach of the carriage claims passes (R252). An owned macro that
has run no pass for 1 ms runs an idle one; a pass moves the offset correction by 1/64 of the mean residual;
compensation follows the macro's sensor and monitor once per 65,536 ns (R250). A macro handed over to an owner binds
no row before it has passed (R256). Rests on spec/07_fox.md. -/
def Obligations.FoxMacrosCalibrate : Prop :=
  (∀ (k : Nat) (c : Cmd) (s : State), Started k 2 0x02 c s → c.phase = 0 →
    let blocks := u32 c.bytes 12
    let ms := ((bitsOf 32 blocks).flatMap (fun b => (List.range 64).map (fun i => 64 * b + i))).filter (fun m =>
      s.macroSt m == 1 || s.macroSt m == 2)
    let own := (bitsOf 32 blocks).all (fun b => s.serves c.old (.fox b) == some (Op.car c.bytes))
    (1 < u8 c.bytes 16 → exec (.foxCal k) s = .next (complete k Status.badCommand 0 0 s)) ∧
    (u8 c.bytes 16 ≤ 1 → own = false → exec (.foxCal k) s = .next (complete k Status.accessDenied 0 0 s)) ∧
    (u8 c.bytes 16 ≤ 1 → own = true →
      let u := onFox (fun f => { f with cals := put k ms f.cals })
        (forEach ms (fun m => beginCal m (if u8 c.bytes 16 = 1 then .verify else .cmd k)) (setCmd k { c with phase := 1 } s))
      exec (.foxCal k) s = .next (if ms = [] then calEnd k blocks u else u))) ∧
  (∀ (m : Nat) (cause : CalCause) (s : State), ((beginCal m cause s).macro_ m).cal = some cause ∧
    (s.macroSt m = 1 → (beginCal m cause s).macroSt m = 2) ∧ (beginCal m cause s).mem = s.mem) ∧
  (∀ (m : Fin 2048) (ok : Bool) (sigma : Nat) (off gain : Int) (s : State), s.live = true →
    ((s.macro_ m.val).cal = none → exec (.foxCalDone m ok sigma off gain) s = .next s) ∧
    ((s.macro_ m.val).cal ≠ none → verifyOnly (s.macro_ m.val).cal = false → inWindow s m.val = false →
      exec (.foxCalDone m ok sigma off gain) s = .next s) ∧
    ((s.macro_ m.val).cal ≠ none → verifyOnly (s.macro_ m.val).cal = true ∨ inWindow s m.val = true →
      exec (.foxCalDone m ok sigma off gain) s = .next (calsProgress m.val (if ok = true ∧ sigma ≤ 150 then calPass m.val sigma off gain s else calFail m.val sigma s)))) ∧
  (∀ (m sigma : Nat) (off gain : Int) (s : State), sigma ≤ 150 →
    let t := calPass m sigma off gain s
    t.rg .FOX_M_STAT_FAILS m = 0 ∧ t.rg .FOX_M_STAT_SIGMA m = sigma ∧ (t.macro_ m).cal = none ∧ (t.macro_ m).calAt = s.clk ∧
    (t.macro_ m).off = 512 * off ∧ (t.macro_ m).gain = 64 * gain ∧ (t.macro_ m).comp = 0 ∧ (t.macro_ m).fresh = false ∧
    (verifyOnly (s.macro_ m).cal = false → t.rg .FOX_M_ADC_GAIN m = (clampInt 0 4095 gain).toNat) ∧
    (verifyOnly (s.macro_ m).cal = true → t.rg .FOX_M_ADC_GAIN m = s.rg .FOX_M_ADC_GAIN m ∧
      t.rg .FOX_M_ADC_OFFSET m = s.rg .FOX_M_ADC_OFFSET m) ∧
    (s.rg .FOX_M_HOLD_FORCE_OUT m = 0 → t.macroSt m = 1) ∧ (s.rg .FOX_M_HOLD_FORCE_OUT m = 1 → t.macroSt m = s.macroSt m) ∧
    t.mem = s.mem) ∧
  (∀ (m sigma : Nat) (s : State),
    let t := calFail m sigma s
    (s.rg .FOX_M_STAT_FAILS m < 2 → t.macroSt m = 2 ∧ t.rg .FOX_M_STAT_FAILS m = s.rg .FOX_M_STAT_FAILS m + 1 ∧ t.evr = s.evr ∧
      t.fox.rows = s.fox.rows) ∧
    (2 ≤ s.rg .FOX_M_STAT_FAILS m → t.macroSt m = 3 ∧ (∃ u, t = raise 0x0508 none [] u)) ∧ t.mem = s.mem) ∧
  (∀ (m : Fin 2048) (s : State), s.live = true →
    let owner := s.serves false (.fox (m.val / 64))
    let claimed := s.fox.coaches.any (fun e => some e.2.car == owner && e.2.open_ && passesLeft s e.2)
    (s.rg .FOX_CTRL_AUTO_CAL 0 = 1 → owner ≠ none → recalDue s m.val = true → (s.macro_ m.val).cal = none →
      blockBusy s (m.val / 64) = false → claimed = false → s.rg .FOX_M_HOLD_FORCE_OUT m.val = 0 →
      exec (.foxRecal m) s = .next (beginCal m.val .recal s)) ∧
    (s.rg .FOX_CTRL_AUTO_CAL 0 = 0 ∨ owner = none ∨ recalDue s m.val = false ∨ (s.macro_ m.val).cal ≠ none ∨
      blockBusy s (m.val / 64) = true ∨ claimed = true → exec (.foxRecal m) s = .next s)) ∧
  (∀ (m : Fin 2048) (refs : List Int) (s : State), s.live = true → s.macroSt m.val ≠ 0 → refs.length = 8 →
    exec (.foxIdlePass m refs) s =
      .next (if (s.macro_ m.val).lastPass + 1000000 ≤ s.clk then trackMacro m.val refs s else s)) ∧
  (∀ (m : Nat) (rs : List Int) (s : State), s.rg .FOX_M_HOLD_FREEZE m = 0 →
    ((trackMacro m rs s).macro_ m).off = (s.macro_ m).off + rs.foldl (fun a r => a + r) 0 ∧
    ((trackMacro m rs s).macro_ m).lastPass = s.clk ∧ ((trackMacro m rs s).macro_ m).resid = (rs :: (s.macro_ m).resid).take 1024 ∧
    (trackMacro m rs s).rg .FOX_M_STAT_SIGMA m = min 255 (Config.foxSigma ((rs :: (s.macro_ m).resid).take 1024)) ∧
    (trackMacro m rs s).mem = s.mem) ∧
  (∀ s : State, s.live = true →
    (s.clk < s.fox.compAt + 65536 → exec .foxCompensate s = .next s) ∧
    (s.fox.compAt + 65536 ≤ s.clk → ∃ t, exec .foxCompensate s = .next t ∧ t.fox.compAt = s.clk ∧ SameRegs [] s t ∧
      t.evr = s.evr ∧ SameMem s t ∧
      (∀ m, m < 2048 → s.macroSt m = 0 ∨ s.rg .FOX_M_HOLD_FREEZE m = 1 → t.macro_ m = s.macro_ m) ∧
      (∀ m, m < 2048 → s.macroSt m ≠ 0 → s.rg .FOX_M_HOLD_FREEZE m = 0 → t.macro_ m = { s.macro_ m with
        comp := signed 16 (s.rg .FOX_M_TCOMP_ALPHA_T m) * (macroTemp s m - 8 * signed 8 (s.rg .FOX_M_CAL_POINT_TJ m)) +
          8 * signed 16 (s.rg .FOX_M_TCOMP_ALPHA_V m) * ((macroVolt s m : Int) - s.rg .FOX_M_CAL_POINT_MV m) }))) ∧
  (∀ (owned : Bool) (m : Nat) (s : State),
    let t := macroHandover owned m s
    (t.macro_ m).fresh = owned ∧ (owned = false → t.macroSt m = 0 ∧ (t.macro_ m).cal = none) ∧
    (owned = true → s.rg .FOX_M_STAT_FAILS m < 3 → t.macroSt m = 2 ∧ (t.macro_ m).cal = some .handover) ∧
    (owned = true → ∀ c half, m ∉ bindMacros t c half))

/-- GATHER_START, PAGE_READ_ISSUE, ABSORPTION_DONE, SCORING_DONE, HALF_MERGE, VALUE_EXPANSION and BEAR_ATTN. A coach's
gather starts in the order of departure, once the tail that it attends is written; a wait is counted once (R305,
R306). It reads the leaf entries as they stand then; a page added since the selection is always included, in exact
mode read where it holds a position below POS (R196, R241, R244; log entry 34). The TIER 1 candidates are read ahead
(R333). A page is read when its half's gather ring has room for its records in the carriage's share, 1 MiB for each of
its tiles there, and waits until then (R194, R197). A candidate is read from its page, whose age becomes 0, or ends
the coach with the status that forbids or prevents the read (R195, R197). A latent coach's query is absorbed with its
weights; each tile of a half then scores the records that fall to it, the half's partials are merged in ascending
rank, and, when every half that is needed has merged, the node partial is formed, and sent as the coach's contribution
or written to the host (R275 to R283, R293, R310). A partial over no position merges as nothing (R273). BEAR_ATTN
reads its parameter block, then the whole input, and runs as a coach of its own. exp2 and tanh are free within the
bounds of R271 (log entry 6). Rests on spec/08_bear.md, spec/06_badger.md, spec/09_departures.md. -/
def Obligations.CoachesAreGatheredScoredAndMerged : Prop :=
  (∀ (id : Nat) (c : Coach) (q : Seqd) (s : State), Working id c q s → c.gather = false → c.cands ≠ none →
    c.cmd.any (isScore s) = false → waitsFor s id c gatherLeft = false →
    exec (.gatherStart id) s = .next (match tailGap s c q with
      | none => readAhead id q (inTier1 s (readsOf s c (gatherCands s c q))) (setCoach id { c with
          gather := true
          cands := some (gatherCands s c q)
          toRead := readsOf s c (gatherCands s c q) } s)
      | some _ => if c.tailWaited = true then s
        else bump .PRT_DEP_C_TAILWAIT_COUNT c.car 1 (setCoach id { c with tailWaited := true } s))) ∧
  (∀ (c : Coach) (q : Seqd) (e : Seen) (s : State), e ∈ seenPages s c q → e.leaf ∉ c.walked →
    (exactCoach s c = false ∨ (basePos s q c.layer e.leaf < Prm.pos c.params ∧ 0 < e.view) →
      ∃ x ∈ gatherCands s c q, x.leaf = e.leaf ∧ x.page = e.page ∧ x.always = (!exactCoach s c || alwaysIn s c q e))) ∧
  (∀ (s : State) (c : Coach) (cs : List Cand) (h : Nat) (x : Cand), (h, x) ∈ readsOf s c cs ↔
    x ∈ cs ∧ (∃ g, look x.page s.seq.pages = some g ∧ locHalf s g.loc = h) ∧ ∃ t ∈ c.own, t / 32 = h) ∧
  (∀ (id : Nat) (half : Fin 2) (c : Coach) (q : Seqd) (s : State), Working id c q s →
    (c.gather = false ∨ waitsFor s id c gatherLeft = true ∨ (∀ e ∈ c.toRead, e.1 ≠ half.val) →
      exec (.pageReadIssue id half) s = .next s) ∧
    (∀ x, c.gather = true → waitsFor s id c gatherLeft = false → c.toRead.find? (fun e => e.1 == half.val) = some (half.val, x) →
      (ringShare c half.val < ringUsed s c.car half.val + candSize s c q x → exec (.pageReadIssue id half) s = .next s) ∧
      (ringUsed s c.car half.val + candSize s c q x ≤ ringShare c half.val →
        (∀ rs, look x.leaf c.ahead = some rs → exec (.pageReadIssue id half) s = .next (deliver id c half.val x rs s)) ∧
        (∀ rs t, look x.leaf c.ahead = none → fetchCand c q x s = (.ok rs, t) →
          exec (.pageReadIssue id half) s = .next (deliver id c half.val x rs t)) ∧
        (∀ st t, look x.leaf c.ahead = none → fetchCand c q x s = (.error st, t) →
          exec (.pageReadIssue id half) s = .next (failCoach id st 0 0 t))))) ∧
  (∀ (x : Cand) (g : Page) (c : Coach) (q : Seqd) (s : State), look x.page s.seq.pages = some g →
    (∀ st, pageFault s g = some st → st ≠ Status.keyRetired → st ≠ Status.claimed → fetchCand c q x s = (.error st, s)) ∧
    (pageFault s g = none → g.comp = false → s.mem.bad = [] → slotsReadable s q g (candSlots s c q x g) = true →
      ∃ t, fetchCand c q x s = (.ok (candRecs s c q x g), t) ∧ t.mem = s.mem ∧
        (look x.page t.seq.pages).map (fun y => y.age) = some 0)) ∧
  (∀ (id half : Nat) (c : Coach) (x : Cand) (rs : List Rec) (s : State), (deliver id c half x rs s).coach id = some { c with
    toRead := c.toRead.erase (half, x)
    ahead := del x.leaf c.ahead
    stream := c.stream ++ rs.map (fun r => (half, r)) }) ∧
  (∀ (id : Nat) (c : Coach) (q : Seqd) (s : State), Working id c q s → q.latent = true → c.whole = true → c.absorbed = none →
    c.cmd.any (isScore s) = false → spareFirst s c = false →
    waitsFor s id c (fun d => d.absorbed.isNone && (look d.seq s.seq.seqs).any (fun q => q.latent)) = false →
    exec (.absorptionDone id) s = .next (match usedWeights s c with
      | none => failCoach id Status.badCommand 6 0 s
      | some w => noteBad c.car (queryBad q c + weightBad w.1) (setCoach id { c with absorbed := some (absorbAll q c w.1) } s))) ∧
  (∀ (id : Nat) (tile : Fin 64) (c : Coach) (q : Seqd) (s : State), Working id c q s →
    let half := tile.val / 32
    let ts := c.on half
    let r := countOf (fun t => t < tile.val) ts
    tile.val ∈ ts → halfRead c half = true → c.whole = true → (q.latent = true → c.absorbed ≠ none) → has tile.val c.tiles = false →
    spareFirst s c = false → waitsFor s id c (fun d => !has tile.val d.tiles && d.result.isNone) = false →
    exec (.scoringDone id tile) s = .next (noteBad c.car (scoringBad q c half ts.length r)
      (setCoach id { c with tiles := put tile.val (tileParts q c half ts.length r) c.tiles } s))) ∧
  (∀ (id : Nat) (half : Fin 2) (c : Coach) (q : Seqd) (s : State), Working id c q s →
    let ts := c.on half.val
    ts ≠ [] → has half.val c.halves = false → (∀ t ∈ ts, has t c.tiles = true) →
    exec (.halfMerge id half) s =
      .next (setCoach id { c with halves := put half.val (mergeHalf c (ts.filterMap (fun t => look t c.tiles))) c.halves } s)) ∧
  (∀ (id : Nat) (half : Fin 2) (c : Coach) (q : Seqd) (s : State) (t : Nat), Working id c q s →
    t ∈ c.on half.val → has t c.tiles = false → exec (.halfMerge id half) s = .next s) ∧
  (∀ (id : Nat) (c : Coach) (q : Seqd) (s : State), Working id c q s → c.gather = true → c.toRead = [] → c.whole = true →
    (q.latent = true → c.absorbed ≠ none) → (∀ h ∈ neededHalves c q, has h c.halves = true) →
    let w := if q.latent then (usedWeights s c).map Prod.snd else none
    let d := { c with result := some (nodeParts q c w (crossMerge s c q)) }
    let u := compareShadows d (notePositions d.car (attended q d) (noteBad d.car (w.elim 0 weightBad) (setCoach id d s)))
    exec (.valueExpansion id) s = .next (match c.cmd with
      | some k => attnDone id k d q u
      | none => dropCoach id (contribute d Status.ok 0 0 u))) ∧
  (∀ (a b : Part), F32.max a.m b.m = F32.negInf → mergeParts a b = a) ∧
  (∀ (k : Nat) (m : Cmd) (q : Seqd) (s t : State), OwnSeq k 3 0x01 (some (u16 m.bytes 12)) m q s t → m.phase < 3 → m.want = 0 →
    (∀ n, m.dataStep t 32 false m.buf = .ask n → exec (.bearAttn k) s =
      .next (hostReadRaw k (u64 m.bytes 16 + m.buf.length) n (setCmd k { m with phase := max 1 m.phase } t))) ∧
    (∀ d, m.dataStep t 32 false m.buf = .have_ d → exec (.bearAttn k) s = .next (attnParams k m q d t))) ∧
  (∀ (k : Nat) (m : Cmd) (q : Seqd) (d : List Byte) (s : State),
    let v := u8 m.bytes 14
    let n := 32 + attnBytes q (slice d 0 32) v
    (∀ f, m.phase ≠ 2 → attnParamFault q v (slice d 0 32) = some f → attnParams k m q d s = completeReason k f.1 f.2 s) ∧
    (m.phase = 2 ∨ attnParamFault q v (slice d 0 32) = none →
      (∀ a, m.dataStep s n true m.buf = .ask a → attnParams k m q d s =
        hostReadRaw k (u64 m.bytes 16 + m.buf.length) a (setCmd k { m with phase := 2 } s)) ∧
      (∀ e, m.dataStep s n true m.buf = .have_ e → attnParams k m q d s = attnStart k m q e s))) ∧
  (∀ (k : Nat) (m : Cmd) (q : Seqd) (d : List Byte) (s : State),
    let p := slice d 0 32
    let n := queryBytes q p
    let v := u8 m.bytes 14
    let descs := slice d (32 + n + 64 * v) (16 * v)
    (∀ f, attnFault s m q p descs = some f → f ≠ (Status.badCommand, 8) → attnStart k m q d s = completeReason k f.1 f.2 s) ∧
    (attnFault s m q p descs = none → ∃ w, (attnStart k m q d s).fox.coaches = put s.fox.nextCoach w s.fox.coaches ∧
      w.cmd = some k ∧ w.car = q.car ∧ w.seq = Op.seqId m.bytes ∧ w.layer = u16 m.bytes 12 ∧ w.vectors = v ∧ w.params = p ∧
      w.query = slice d 32 n ∧ w.vecs = slice d (32 + n) (64 * v) ∧ w.descs = descs ∧ w.open_ = true ∧ w.whole = true))

/-- ATTN_REQ, COACH_DEPART, COACH_CUTOFF, ATTN_PART and CONTEXT_CLOSE. The header of a coach is acted on once its
first packet is held: one that this node's tree does not name as a contributor of its carriage is counted and recorded
as misrouted (R302), one that fails a check contributes its failure at once (R310, R312), any other is held until its
whole message has come. A coach of the armed epoch waits for the switch and takes coach memory meanwhile (R62, R309).
At DEPART_FT the window of a held coach opens after the checks that may have changed (R304); not before, and not at
its cutoff. What is unfinished at the cutoff is abandoned and contributes LATE (R307). The first packet of an input
takes its slot in its context, if its epoch's tree record lets it in (R321, R324); a complete input is merged, a
context that has every input sends at once, and at its close time one that has not sent sends what it holds and is
freed (R313 to R319). An input for a slot that is filled is counted as a duplicate, one at or after the close as late,
and neither changes the context (R313, R315). Rests on spec/09_departures.md. -/
def Obligations.CoachesArriveDepartAndCouple : Prop :=
  (∀ (src : BitVec 12) (op : BitVec 32) (e : RxEntry) (b : List Byte) (s : State), s.live = true →
    look (src.toNat, op.toNat) s.prt.rx = some e → H.mtype e.hdr = 1 →
    (∀ id, e.coach = some id → exec (.attnReq src op) s = .next (coachBody (src.toNat, op.toNat) id e s)) ∧
    (e.coach = none → e.firstPacket = some b →
      e.epochUse (Hd.epoch b) ≠ .hold ∨ coachShare s false e.car < coachMemUsed s e.car + e.coachSize →
      let t := rxMark (src.toNat, op.toNat) s.fox.nextCoach (coachArrives e b s)
      exec (.attnReq src op) s = .next (match look (src.toNat, op.toNat) t.prt.rx with
        | some e => coachBody (src.toNat, op.toNat) s.fox.nextCoach e t
        | none => t)) ∧
    (e.coach = none → e.firstPacket = some b → e.epochUse (Hd.epoch b) = .hold →
      coachMemUsed s e.car + e.coachSize ≤ coachShare s false e.car → exec (.attnReq src op) s =
        .next (onPrt (fun x => { x with rx := put (src.toNat, op.toNat) { e with held := true } x.rx }) s))) ∧
  (∀ (e : RxEntry) (b : List Byte) (s : State),
    let c := headerCoach s e b
    let named := ((s.mapOf (e.epochUse c.epoch)).tree (c.group % 4096)).any (fun t => Tree.contributor t && Tree.car t == c.car)
    (named = false → coachArrives e b s = misroute e.car s) ∧
    (∀ q, named = true → e.car = c.car → coachFault s e c b = none → look c.seq s.seq.seqs = some q →
      coachArrives e b s = acceptCoach c q s) ∧
    (∀ st r, named = true → e.car = c.car → coachFault s e c b = some (st, r) → st ≠ Status.late → (st, r) ≠ (Status.badCommand, 8) →
      coachArrives e b s = onFox (fun x => { x with nextCoach := x.nextCoach + 1 }) (contribute c st r 0 s))) ∧
  (∀ (id : Nat) (c : Coach) (q : Seqd) (s : State), s.live = true → s.coach id = some c → c.open_ = false → c.cmd = none →
    look c.seq s.seq.seqs = some q →
    let t := readTables c.seq q (some c.layer) s
    (s.ft < c.depart ∨ c.cutoff ≤ s.ft → exec (.coachDepart id) s = .next s) ∧
    (c.depart ≤ s.ft → s.ft < c.cutoff → areasWell c.own q c.params = true →
      (q.parked = true → exec (.coachDepart id) s = .next (failCoach id Status.frozen 0 0 t.2)) ∧
      (q.parked = false → exec (.coachDepart id) s = .next (if t.1 = true then startCoach id c q t.2
        else failCoach id Status.uncorrectable 0 0 t.2)))) ∧
  (∀ (id : Nat) (c : Coach) (q : Seqd) (s : State), q.latent = false →
    ∃ u, startCoach id c q s = bump .BEAR_C_COACHES_COUNT c.car 1 u ∧ u.coach id = some { c with open_ := true } ∧
      SameRegs [] s u ∧ u.mem = s.mem ∧ u.evr = s.evr) ∧
  (∀ (id : Nat) (c : Coach) (s : State), s.live = true → s.coach id = some c →
    (c.cmd ≠ none ∨ s.ft < c.cutoff → exec (.coachCutoff id) s = .next s) ∧
    (c.cmd = none → c.cutoff ≤ s.ft → (c.tailWaited = false ∨ c.gather = true ∨ ∀ q, look c.seq s.seq.seqs = some q → tailGap s c q = none) →
      exec (.coachCutoff id) s = .next (failCoach id Status.late 0 0 s))) ∧
  (∀ (id st cause : Nat) (c : Coach) (s : State), s.coach id = some c → c.cmd = none → st ≠ Status.badCommand →
    failCoach id st 0 cause s = dropCoach id (contribute c st 0 cause s)) ∧
  (∀ (c : Coach) (s : State), (contribution s c Status.late).records = 0 ∧ (contribution s c Status.late).covered = 0 ∧
    (contribution s c Status.late).failed = 1 ∧ (contribution s c Status.ok).covered = 1 ∧ (contribution s c Status.ok).missing = 0) ∧
  (∀ (src : BitVec 12) (op : BitVec 32) (e : RxEntry) (s : State), s.live = true →
    look (src.toNat, op.toNat) s.prt.rx = some e → H.mtype e.hdr = 2 →
    (e.coach = some 0 → exec (.attnPart src op) s =
      .next (if e.complete = true then inputComplete (src.toNat, op.toNat) e s else s)) ∧
    (∀ b, e.coach = none → e.firstPacket = some b → e.epochUse (u16 b 14) ≠ .hold →
      let r := inputFirst e b s
      let t := rxMark (src.toNat, op.toNat) (if r.1 then 0 else 1) r.2
      exec (.attnPart src op) s = .next (if e.complete = false then t
        else if r.1 = true then inputComplete (src.toNat, op.toNat) e t else rxFree (src.toNat, op.toNat) t))) ∧
  (∀ (e : RxEntry) (b : List Byte) (s : State),
    let m := parsePartMsg b
    let t := (s.mapOf (e.epochUse m.epoch)).tree m.group
    (e.epochUse m.epoch = .stale → inputFirst e b s = (false, inputRefused m.car (countStale s))) ∧
    (e.epochUse m.epoch ≠ .stale → (∀ r, t = some r → slotFits r m = false) → inputFirst e b s = (false, inputRefused m.car s)) ∧
    (∀ r, e.epochUse m.epoch ≠ .stale → t = some r → slotFits r m = true →
      (∀ c, s.dctx m.name = some c → c.sent = false → c.close ≤ s.ft → inputFirst e b s = (false, inputLate m.car s)) ∧
      (∀ c, s.dctx m.name = some c → slotFits c.tree m = true → c.sent = true ∨ (s.ft < c.close ∧ has m.slot c.slots = true) →
        inputFirst e b s = (false, inputDup m.car s)) ∧
      (s.dctx m.name = none → s.ft < (newCtx e m r).close →
        couplingRoom s m.car 1 (ceilDiv (H.msgLen e.hdr) 4096 + accBlocks m) = true →
        ∃ u, inputFirst e b s = (true, u) ∧ u.dctx m.name = some { newCtx e m r with
          slots := [(m.slot, newSlot (ceilDiv (H.msgLen e.hdr) 4096))] }))) ∧
  (∀ (key : Nat × Nat) (e : RxEntry) (c : Ctx) (s : State),
    let m := parsePartMsg e.message
    s.dctx m.name = some c →
    (c.sent = true ∨ (∃ x, look m.slot c.slots = some x ∧ x.complete = true) →
      inputComplete key e s = bump .PRT_DEP_C_DUP_COUNT m.car 1 (rxFree key s)) ∧
    (c.sent = false → look m.slot c.slots = none → c.close ≤ s.ft → inputComplete key e s = inputLate m.car (rxFree key s)) ∧
    (c.sent = false → look m.slot c.slots = none → s.ft < c.close → e.message.length = partLength m →
      (m.records = 0 ∨ c.acc = [] ∨ (c.acc.length = m.records ∧ c.vdim = m.vdim)) →
      inputComplete key e s = if slotsAbsent (mergeInput m c) = true then setDctx m.name (mergeInput m c) (rxFree key s)
        else sendOutput m.name (mergeInput m c) (setDctx m.name (mergeInput m c) (rxFree key s)))) ∧
  (∀ (m : PartMsg) (c : Ctx), (mergeInput m c).covered = c.covered + m.covered ∧ (mergeInput m c).missing = c.missing + m.missing ∧
    (mergeInput m c).failed = c.failed + m.failed ∧ (mergeInput m c).minFreeze = min c.minFreeze m.minFreeze ∧
    (∀ i, i ≠ m.slot → look i (mergeInput m c).slots = look i c.slots)) ∧
  (∀ (group reply : BitVec 16) (tag : BitVec 32) (c : Ctx) (s : State), s.live = true →
    let n := (group.toNat, reply.toNat, tag.toNat)
    s.dctx n = some c →
    (s.ft < c.close → exec (.contextClose group reply tag) s = .next s) ∧
    (c.close ≤ s.ft → exec (.contextClose group reply tag) s =
      .next (onDep (fun d => { d with ctxs := del n d.ctxs }) (if c.sent = true then s else sendOutput n c s))))

/-- RMA_WRITE, RMA_READ, RMA_RESP and PAGING_SERVED. Every packet of an RMA_WRITE that has arrived is checked by
itself (R393) and written at its offset in the named area of its page; the complete message is answered with ACK OK
(R385, R388). A failed check answers NAK with the first status under R17: BAD_COMMAND outside the area, ACCESS_DENIED
for another carriage, for a write to a sealed or shared page or to a directory entry, STALE_GEN for an old generation,
FROZEN for a write to a parked page, TIME_HOLDOVER, RETRY_AFTER for a cold page, ABORTED for a held one. A packet for
a TIER 1 page waits in the paging buffer of 8 MiB and is served from there, oldest first (R394); a packet that finds
no room is dropped and counted. An RMA_READ is answered with one RMA_RESP that carries the requested bytes to the
requester's window (R396); a response whose window or generation is not current is discarded and counted, the last
packet of a current one ends the operation with the window's bytes (R397). The page of an answered read is held until
the answer has left (R395). The epoch of a message is judged as it stood when the message arrived (R62). Rests on
spec/11_fabric_port.md, spec/14_memory.md. -/
def Obligations.RemoteReadsAndWritesAreCheckedAndServed : Prop :=
  (∀ (src : BitVec 12) (op : BitVec 32) (e : RxEntry) (s : State), s.live = true →
    look (src.toNat, op.toNat) s.prt.rx = some e → H.mtype e.hdr = 5 → e.tooLate s = false → e.epochUse (H.epoch e.hdr) ≠ .hold →
    exec (.rmaWrite src op) s = .next (rmaWritten (src.toNat, op.toNat)
      (forEach e.parts (rmaWritePart (src.toNat, op.toNat)) s))) ∧
  (∀ (key : Nat × Nat) (p : Nat × List Byte) (e : RxEntry) (g : Page) (s : State), look key s.prt.rx = some e →
    look (H.rkey e.hdr) s.seq.pages = some g →
    let e' := { e with parts := e.parts.filter (fun x => x.1 != p.1) }
    let u := onPrt (fun x => { x with rx := put key e' x.rx }) s
    let a := areaBase s.im (H.rflags e.hdr % 4) + H.roff e.hdr + p.1
    (∀ st, rmaFault u e' true = some st →
      rmaWritePart key p s = rmaRefuse key { e' with got := remSet (p.1 / 4096) e.got } st u) ∧
    (rmaFault u e' true = none → g.loc.isCxl = false → canWrite u g.loc a p.2.length = true →
      rmaWritePart key p s = writeLoc g.loc a p.2 u) ∧
    (rmaFault u e' true = none → g.loc.isCxl = true → rmaWritePart key p s = stallPacket key e' p.1 p.2 u)) ∧
  (∀ (key : Nat × Nat) (e : RxEntry) (s : State), look key s.prt.rx = some e → e.complete = true → e.parts = [] →
    s.prt.paging.any (fun x => (H.src x.body, H.opId x.body) == key) = false →
    rmaWritten key s = ackMsg key e Status.ok 0 0 s) ∧
  (∀ (e : RxEntry) (g : Page) (write : Bool) (s : State),
    let h := e.hdr
    H.rkind h = 1 → H.rflags h < 2 → look (H.rkey h) s.seq.pages = some g →
    (areaSize s.im (H.rflags h % 4) < H.roff h + H.msgLen h → rmaFault s e write = some Status.badCommand) ∧
    (H.roff h + H.msgLen h ≤ areaSize s.im (H.rflags h % 4) →
      (g.car ≠ H.car h ∨ (write = true ∧ (g.sealed_ = true ∨ 1 < g.refs)) → rmaFault s e write = some Status.accessDenied) ∧
      (g.car = H.car h → (write = true → g.sealed_ = false ∧ g.refs ≤ 1) → keyFault s g = none →
        (e.epochUse (H.epoch h) = .stale → rmaFault s e write = some Status.staleEpoch) ∧
        (e.epochUse (H.epoch h) ≠ .stale → H.rgen h ≠ pageGen s (H.rkey h) → rmaFault s e write = some Status.staleGen) ∧
        (e.epochUse (H.epoch h) ≠ .stale → H.rgen h = pageGen s (H.rkey h) → g.comp = false →
          (write = true → pageParked s (H.rkey h) = true → rmaFault s e write = some Status.frozen) ∧
          ((write = true → pageParked s (H.rkey h) = false) →
            rmaFault s e write = if s.timeServes = false then some Status.timeHoldover
              else if g.loc = .cold then some Status.retryAfter
              else if pageHeld s (H.rkey h) = true then some Status.aborted else none))))) ∧
  (∀ (e : RxEntry) (s : State), H.rkind e.hdr = 1 → H.rflags e.hdr = 2 → H.roff e.hdr + H.msgLen e.hdr ≤ 128 →
    rmaFault s e true = some Status.accessDenied) ∧
  (∀ (key : Nat × Nat) (e : RxEntry) (off : Nat) (d : List Byte) (s : State),
    (pagingUsed s + (packetAt e off d).length ≤ 8388608 → stallPacket key e off d s = onPrt (fun x => { x with
      paging := x.paging ++ [{ body := packetAt e off d, since := s.clk }] }) (bump .PRT_C_STALLS_COUNT e.car 1 s)) ∧
    (8388608 < pagingUsed s + (packetAt e off d).length → (stallPacket key e off d s).prt.paging = s.prt.paging ∧
      SameMem s (stallPacket key e off d s))) ∧
  (∀ (src : BitVec 12) (op : BitVec 32) (e : RxEntry) (g : Page) (s : State), s.live = true →
    look (src.toNat, op.toNat) s.prt.rx = some e → H.mtype e.hdr = 6 → e.tooLate s = false → e.epochUse (H.epoch e.hdr) ≠ .hold →
    s.prt.paging.any (fun x => (H.src x.body, H.opId x.body) == (src.toNat, op.toNat)) = false →
    look (H.rkey e.hdr) s.seq.pages = some g →
    (∀ st, rmaFault s e false = some st →
      exec (.rmaRead src op) s = .next (rmaRefuse (src.toNat, op.toNat) e st s)) ∧
    (rmaFault s e false = none → g.loc.isCxl = true → H.rflags e.hdr % 4 < 2 →
      exec (.rmaRead src op) s = .next (stallPacket (src.toNat, op.toNat) e 0 [] s)) ∧
    (rmaFault s e false = none → g.loc.isCxl = false ∨ 2 ≤ H.rflags e.hdr % 4 →
      exec (.rmaRead src op) s = .next (rmaServe (src.toNat, op.toNat) e g s))) ∧
  (∀ (key : Nat × Nat) (e : RxEntry) (g : Page) (d : List Byte) (s : State), H.rflags e.hdr % 4 < 2 → g.comp = false →
    let u := notePage g (areaBase s.im (H.rflags e.hdr % 4) + H.roff e.hdr) (H.msgLen e.hdr) s
    (areaBytes u (H.rkey e.hdr) g (H.rflags e.hdr % 4) (H.roff e.hdr) (H.msgLen e.hdr) = some d →
      rmaServe key e g s = holdRead key (H.rkey e.hdr) (sendPlain {
        mtype := 7, dest := H.src e.hdr, car := e.car, epoch := H.epoch e.hdr, echo := H.echo e.hdr,
        rkind := H.respKind e.hdr, rgen := H.respGen e.hdr, rkey := H.respKey e.hdr, roff := H.respOff e.hdr,
        msgLen := d.length } key.2 d (rxFree key u))) ∧
    (areaBytes u (H.rkey e.hdr) g (H.rflags e.hdr % 4) (H.roff e.hdr) (H.msgLen e.hdr) = none →
      rmaServe key e g s = rmaRefuse key e Status.uncorrectable u)) ∧
  (∀ (src : BitVec 12) (op : BitVec 32) (e : RxEntry) (s : State), s.live = true →
    look (answerKey src.toNat op.toNat) s.prt.rx = some e → H.mtype e.hdr = 7 →
    (windowCurrent s e.hdr = false → exec (.rmaResp src op) s =
      .next (bump .PRT_C_STALE_GEN_COUNT e.car e.parts.length (rxFree (answerKey src.toNat op.toNat) s))) ∧
    (windowCurrent s e.hdr = true →
      let u := onPrt (fun x => { x with
        windows := upd (H.rkey e.hdr)
          (fun w => { w with data := e.parts.foldl (fun d p => overwrite d (H.roff e.hdr + p.1) p.2) w.data }) x.windows,
        rx := put (answerKey src.toNat op.toNat) { e with parts := [] } x.rx }) s
      (e.complete = false → exec (.rmaResp src op) s = .next u) ∧
      (∀ w, e.complete = true → look (H.rkey e.hdr) u.prt.windows = some w → exec (.rmaResp src op) s =
        .next (opEnd op.toNat Status.ok 0 0 (slice w.data (H.roff e.hdr) (H.msgLen e.hdr)) (rxFree (answerKey src.toNat op.toNat) u))))) ∧
  (∀ (h : List Byte) (s : State), windowCurrent s h = true → H.rkind h = 2 ∧ H.roff h + H.msgLen h ≤ 1048576 ∧
    (∃ w, look (H.rkey h) s.prt.windows = some w ∧ w.gen = H.rgen h ∧ w.op = some (H.opId h)) ∧
    ∃ x, look (H.opId h) s.prt.ops = some x ∧ H.dest x.hdr = H.src h) ∧
  (∀ (key : Nat × Nat) (p : Nat) (s : State), (key, p) ∈ (holdRead key p s).prt.reads ∧ (holdRead key p s).mem = s.mem) ∧
  (∀ (x : Paging) (rest : List Paging) (e : RxEntry) (g : Page) (s : State), s.live = true → s.prt.paging = x :: rest →
    look (H.src x.body, H.opId x.body) s.prt.rx = some e → look (H.rkey e.hdr) s.seq.pages = some g →
    let key := (H.src x.body, H.opId x.body)
    let u := onPrt (fun y => { y with paging := rest }) s
    (∀ st, rmaFault u e (H.mtype e.hdr == 5) = some st → exec .pagingServed s = .next (rmaRefuse key e st u)) ∧
    (rmaFault u e (H.mtype e.hdr == 5) = none →
      (pagedWaits s (H.mtype e.hdr == 5) g = true → exec .pagingServed s = .next s) ∧
      (H.mtype e.hdr = 5 → pagedWaits s true g = false → exec .pagingServed s =
        .next (rmaWritten key (servePagedWrite key e g (H.msgOff x.body) (x.body.drop 104) u))) ∧
      (H.mtype e.hdr = 6 → exec .pagingServed s = .next (rmaServe key e g u)))) ∧
  (∀ (key : Nat × Nat) (e : RxEntry) (g : Page) (off : Nat) (d : List Byte) (s : State), g.comp = false →
    canWrite s g.loc (areaBase s.im (H.rflags e.hdr % 4) + H.roff e.hdr + off) d.length = true →
    servePagedWrite key e g off d s = writeLoc g.loc (areaBase s.im (H.rflags e.hdr % 4) + H.roff e.hdr + off) d s)

/-- ACK, NAK, FAULT_NOTICE, RETRANSMIT_TIMEOUT, RX_ENTRY_EXPIRE, NAK_FILTER_EXPIRE, RMA_WRITE_CMD, RMA_READ_CMD and
PAGE_SEND. An ACK or a NAK from an operation's destination ends it: its entry and its window are free and the command
that waits ends, OK with the bytes it moved, else with the answer's status and reason (R388, R392, R402); an ended
notice frees its reserved entry for one that waits (R383, log entry 36). An unanswered operation is sent again with
RETX after a wait that doubles, up to the retries, and then ends LATE, counted and recorded (R389). A receive entry
that is not complete in time is freed and counted; a filter entry lapses after 100 us (R386, R392). A FAULT_NOTICE is
counted, named in the latest notice's registers, recorded and answered OK (R400, R520). A port command is checked,
reads its host bytes or its page, takes an operation entry of its carriage, for which it waits, and sends its message;
a command whose destination has no way ends ACCESS_DENIED with reason 30. Waiting for an entry is log entry 20; the
free pick of a slot and of a window is log entry 11. Rests on spec/11_fabric_port.md, spec/16_faults.md. -/
def Obligations.OperationsEndOnAnswersOrLate : Prop :=
  (∀ (src : BitVec 12) (op : BitVec 32) (e : RxEntry) (s : State), s.live = true → look (answerKey src.toNat op.toNat) s.prt.rx = some e →
    let u := rxFree (answerKey src.toNat op.toNat) s
    let past := if answersOp s src.toNat op.toNat = true then
      opEnd op.toNat (H.status e.hdr) (H.reason e.hdr) (H.detail e.hdr) [] u else u
    (H.mtype e.hdr = 8 → exec (.ack src op) s = .next past) ∧ (H.mtype e.hdr = 9 → exec (.nak src op) s = .next past)) ∧
  (∀ (op status reason detail : Nat) (data : List Byte) (e : SendOp) (s : State), look op s.prt.ops = some e →
    let u := windowClose op (onPrt (fun x => { x with ops := del op x.ops }) s)
    look op u.prt.ops = none ∧ (∀ w x, look w u.prt.windows = some x → x.op ≠ some op) ∧
    (e.cmd = none → opEnd op status reason detail data s = if e.notice = true then sendWaitingNotice u else u) ∧
    (∀ k c, e.cmd = some k → e.notice = false → s.cmd k = some c →
      (status = Status.ok → e.mtype = 6 → opEnd op status reason detail data s =
        complete k Status.ok detail (u32 c.bytes 40) (hostWrite k (u64 c.bytes 32) data u)) ∧
      (status = Status.ok → e.mtype = 5 → opEnd op status reason detail data s = complete k Status.ok detail (u32 c.bytes 40) u) ∧
      (status ≠ Status.ok → opEnd op status reason detail data s = complete k status detail (reason * 2 ^ 56) u))) ∧
  (∀ (n : Nat × Nat × List Byte) (rest : List (Nat × Nat × List Byte)) (s : State), s.prt.notices = n :: rest →
    (s.noticeFree = true → sendWaitingNotice s = sendNotice n.1 n.2.1 n.2.2 (onPrt (fun x => { x with notices := rest }) s)) ∧
    (s.noticeFree = false → sendWaitingNotice s = s)) ∧
  (∀ (op : BitVec 32) (e : SendOp) (s : State), s.live = true → look op.toNat s.prt.ops = some e →
    let wait := max 1 (s.rg .PRT_RTO_BASE_US 0) * 1000 * 2 ^ (e.sends - 1)
    (s.clk < e.sentAt + wait → exec (.retransmitTimeout op) s = .next s) ∧
    (e.sentAt + wait ≤ s.clk → e.sends ≤ s.rg .PRT_RTO_RETRIES 0 → exec (.retransmitTimeout op) s =
      .next (sendPackets e.hdr e.payload true (bump .PRT_C_RETX_COUNT e.car 1
        (onPrt (fun x => { x with ops := put op.toNat { e with sends := e.sends + 1, sentAt := s.clk } x.ops }) s)))) ∧
    (e.sentAt + wait ≤ s.clk → s.rg .PRT_RTO_RETRIES 0 < e.sends → e.mtype ≠ 11 → exec (.retransmitTimeout op) s =
      .next (opEnd op.toNat Status.late 0 0 [] (raiseFirst 0x070A e.car (some e.car) [(2, H.dest e.hdr), (1, e.mtype)]
        (bump .PRT_C_LATE_OPS_COUNT e.car 1 s))))) ∧
  (∀ (tmpl : List Byte), packetsOf tmpl [] true = [overwrite tmpl 1 (leBytes 1 (Nat.lor (H.flags tmpl) 4))]) ∧
  (∀ (src : BitVec 12) (op : BitVec 32) (s : State), s.live = true → exec (.rxEntryExpire src op) s =
    .next (rxExpireAt (answerKey src.toNat op.toNat) (rxExpireAt (src.toNat, op.toNat) s))) ∧
  (∀ (key : Nat × Nat) (e : RxEntry) (s : State), look key s.prt.rx = some e →
    let dueAt := e.since + max 1 (s.rg .PRT_RX_TIMEOUT_US 0) * 1000
    let t := rxExpireAt key s
    (e.complete = true ∨ s.clk < dueAt → t = s) ∧
    (e.complete = false → dueAt ≤ s.clk → look key t.prt.rx = none ∧ (∀ k, k ≠ key → look k t.prt.rx = look k s.prt.rx) ∧
      (H.mtype e.hdr ≠ 5 → SameRegs [.PRT_C_RX_EXPIRED_COUNT] s t ∧ SameMem s t ∧
        t.rg .PRT_C_RX_EXPIRED_COUNT e.car = min (s.rg .PRT_C_RX_EXPIRED_COUNT e.car + 1) (2 ^ RN.width .PRT_C_RX_EXPIRED_COUNT - 1) %
          2 ^ RN.width .PRT_C_RX_EXPIRED_COUNT))) ∧
  (∀ (src : BitVec 12) (op : BitVec 32) (t : Nat) (s : State), s.live = true → look (src.toNat, op.toNat) s.prt.nakf = some t →
    (s.clk < t + 100000 → exec (.nakFilterExpire src op) s = .next s ∧ s.filtered (src.toNat, op.toNat) = true) ∧
    (t + 100000 ≤ s.clk → exec (.nakFilterExpire src op) s =
        .next (onPrt (fun x => { x with nakf := del (src.toNat, op.toNat) x.nakf }) s) ∧
      s.filtered (src.toNat, op.toNat) = false)) ∧
  (∀ (src : BitVec 12) (op : BitVec 32) (e : RxEntry) (s : State), Waits (src.toNat, op.toNat) 11 e s →
    ∃ v, exec (.faultNotice src op) s = .next (ackMsg (src.toNat, op.toNat) e Status.ok 0 0 (notifyBoth
        (raise 0x070E none [(2, u16 e.message 0 % 4096), (1, u8 e.message 2)] v))) ∧
      v.rg .RAS_LAST_RX_NODE 0 = u16 e.message 0 % 4096 % 2 ^ RN.width .RAS_LAST_RX_NODE ∧
      v.rg .RAS_LAST_RX_CAUSE 0 = u8 e.message 2 % 2 ^ RN.width .RAS_LAST_RX_CAUSE ∧
      v.rg .RAS_NOTICE_RX_COUNT 0 = min (s.rg .RAS_NOTICE_RX_COUNT 0 + 1) (2 ^ RN.width .RAS_NOTICE_RX_COUNT - 1) %
        2 ^ RN.width .RAS_NOTICE_RX_COUNT ∧
      SameRegs [.RAS_LAST_RX_NODE, .RAS_LAST_RX_CAUSE, .RAS_NOTICE_RX_COUNT] s v ∧ SameMem s v) ∧
  (∀ (h : Hdr) (d : List Byte) (cmd : Option Nat) (w : Option (Nat × Nat)) (n : Bool) (s : State),
    ∃ u, sendOp h d cmd w n s = sendPackets (h.bytes s.nodeId (nextOpId s) s.ft 0 0) d false u ∧
      look (nextOpId s) u.prt.ops = some { mtype := h.mtype, car := h.car, hdr := h.bytes s.nodeId (nextOpId s) s.ft 0 0, payload := d,
                                           sends := 1, sentAt := s.clk, cmd := cmd, window := w, notice := n }) ∧
  (∀ (k : Nat) (c : Cmd) (s : State), Started k 5 0x01 c s →
    (∀ r, c.phase = 0 → portCmdFault s c 5 = some r → exec (.rmaWriteCmd k) s = .next (completeReason k r.1 r.2 s)) ∧
    (c.phase = 0 → portCmdFault s c 5 = none → exec (.rmaWriteCmd k) s =
      .next (hostRead k (u64 c.bytes 32) (u32 c.bytes 40) (setCmd k { c with phase := 1 } s))) ∧
    (∀ d, c.phase = 1 → c.want = 0 → c.dataStep s (u32 c.bytes 40) true c.buf = .have_ d → exec (.rmaWriteCmd k) s =
      .next (if s.opFree (Op.car c.bytes) = true then
        sendOp (cmdHdr c 5) d (some k) none false (setCmd k { c with phase := 2 } s) else s))) ∧
  (∀ (k : Nat) (c : Cmd) (s : State), Started k 5 0x02 c s → c.phase = 0 →
    (∀ r, portCmdFault s c 6 = some r → exec (.rmaReadCmd k) s = .next (completeReason k r.1 r.2 s)) ∧
    (portCmdFault s c 6 = none → exec (.rmaReadCmd k) s = .next (match windowPick s with
      | some w => if s.opFree (Op.car c.bytes) = true then
          let u := setCmd k { c with phase := 2 } (freeTaken s)
          sendOp { cmdHdr c 6 with respKind := 2, respGen := w.2, respKey := w.1 } [] (some k) (some w) false
            (windowOpen w.1 w.2 (nextOpId u) u)
        else s
      | none => s))) ∧
  (∀ (w : Nat × Nat) (s : State), windowPick s = some w → w.1 < 32 ∧ (∀ x, look w.1 s.prt.windows = some x →
    x.op = none ∧ w.2 = (x.gen + 1) % 65536) ∧ (look w.1 s.prt.windows = none → w.2 = 0)) ∧
  (∀ (c : Cmd) (ty : Nat) (s : State), (u32 c.bytes 40 = 0 ∨ 1048576 < u32 c.bytes 40 → portCmdFault s c ty = some (Status.badCommand, 0)) ∧
    (u16 c.bytes 12 < 4096 → u8 c.bytes 14 < 16 → 1 ≤ u32 c.bytes 40 → u32 c.bytes 40 ≤ 1048576 →
      (s.im.protected_ (Op.car c.bytes) = true → qConf s c.q = false → portCmdFault s c ty = some (Status.accessDenied, 0)) ∧
      (s.im.protected_ (Op.car c.bytes) = false ∨ qConf s c.q = true → portCmdFault s c ty =
        if reachable s (cmdHdr c ty) = false then some (Status.accessDenied, 30)
        else if s.timeServes = false then some (Status.timeHoldover, 0) else none))) ∧
  (∀ (k : Nat) (c : Cmd) (g : Page) (s : State), Started k 5 0x03 c s → c.phase = 0 → look (u32 c.bytes 32) s.seq.pages = some g →
    let u := notePage g (areaBase s.im (u8 c.bytes 36)) (u32 c.bytes 40) s
    (∀ st, pageSendFault s c = some st → st ≠ Status.claimed → exec (.pageSend k) s =
      .next (complete k st 0 0 (noteKey st (some g) (Op.car c.bytes) s))) ∧
    (∀ d, pageSendFault s c = none → portCmdFault s c 5 = none → g.comp = false →
      areaBytes u (u32 c.bytes 32) g (u8 c.bytes 36) 0 (u32 c.bytes 40) = some d → exec (.pageSend k) s =
      .next (if u.opFree (Op.car c.bytes) = true then
        sendOp (cmdHdr c 5) d (some k) none false (setCmd k { c with phase := 2 } u) else u)) ∧
    (pageSendFault s c = none → portCmdFault s c 5 = none →
      areaBytes u (u32 c.bytes 32) g (u8 c.bytes 36) 0 (u32 c.bytes 40) = none → exec (.pageSend k) s =
      .next (complete k Status.uncorrectable 0 0 u)))

/-- OWL_LOOKUP, OWL_LOOKUP_LIST, OWL_INSERT, OWL_SHIFT_DONE, OWL_DELETE, OWL_READ and OWL_LOAD_AUTOMATON. An entry
matches where it is VALID and every cared-for bit agrees (R435). A lookup searches the PREFIX banks of its carriage; a
match is checked with the page directory, a false one is counted, recorded and passed over, a true one answers the
page, HIT and MULTI; a miss goes to the cascade where that is asked and possible, else it answers 0 (R439). A list
runs one lookup for each key and writes the answers in order. OWL_INSERT writes its entry where the place is free,
else the entries up to the next free place move up by one and the insert is done when they have moved; with no free
place it is refused with reason 41 (R441, R442). While HOLD pauses shifts, inserts wait and deletes behind them.
OWL_DELETE clears VALID in place. OWL_READ writes entries of 48 bytes to host memory. A bank command is refused in the
order of R17: its bank's mode, its other fields, the bank's owner. OWL_LOAD_AUTOMATON takes an image that passes every
check of R443 and refuses one while a context uses the bank. The choices are log entry 16. Rests on spec/13_owl.md. -/
def Obligations.OwlSearchesAndWritesItsBanks : Prop :=
  (∀ (e : OwlEntry) (w : Nat), e.matches_ w = true ↔ e.valid = true ∧ Nat.land (Nat.xor w e.value) e.care = 0) ∧
  (∀ (s : State) (banks : List Nat) (w b i : Nat) (e : OwlEntry), (b, i, e) ∈ owlMatches s banks w ↔
    b ∈ banks ∧ (i, e) ∈ (s.bank b).entries ∧ e.matches_ w = true) ∧
  (∀ (banks : List Nat) (key car b i fuel : Nat) (e : OwlEntry) (r : List (Nat × Nat × OwlEntry)) (s : State),
    (owlMatches s banks key = [] → prefixFind banks key car (fuel + 1) [] s = (none, s)) ∧
    (owlMatches s banks key = (b, i, e) :: r →
      (hitTrue s key (e.result % 2 ^ 32) = true →
        prefixFind banks key car (fuel + 1) [] s = (some (e.result % 2 ^ 32, decide (r ≠ [])), s)) ∧
      (hitTrue s key (e.result % 2 ^ 32) = false → prefixFind banks key car (fuel + 1) [] s =
        prefixFind banks key car fuel [(b, i)] (raise 0x0902 (some car) [(1, b), (2, i)]
          (bump .OWL_C_FALSE_HITS_COUNT car 1 s))))) ∧
  (∀ (k : Nat) (c : Cmd) (s : State), Started k 4 1 c s → c.phase = 0 → exec (.owlLookup k) s =
    .next (lookupKey k 0 (fieldAt c.bytes 12 12) (u16 c.bytes 24) (bit (u8 c.bytes 26) 0) (setCmd k { c with phase := 1 } s))) ∧
  (∀ (k item hash cls : Nat) (cascade : Bool) (c : Cmd) (s : State), s.cmd k = some c →
    let car := Op.car c.bytes
    let key := prefixKey hash cls car
    let l : Lookup := { cmd := k, item := item, key := key }
    let r := prefixFind (prefixBanks s c.old car) key car 5 [] (bump .OWL_C_LOOKUPS_COUNT car 1 s)
    (∀ page multi, r.1 = some (page, multi) → lookupKey k item hash cls cascade s =
      lookupDone l (lookupResult page r.2.sled true multi false) (bump .OWL_C_HITS_COUNT car 1 r.2)) ∧
    (r.1 = none → cascade = true → cascadeServes r.2 = true →
      lookupKey k item hash cls cascade s = onOwl (fun x => { x with queue := x.queue ++ [l] }) r.2) ∧
    (r.1 = none → cascade = false ∨ cascadeServes r.2 = false → lookupKey k item hash cls cascade s = lookupDone l 0 r.2)) ∧
  (∀ (l : Lookup) (r : Nat) (c : Cmd) (s : State), s.cmd l.cmd = some c →
    (Op.opcode c.bytes = 1 → lookupDone l r s = complete l.cmd Status.ok 0 r s) ∧
    (Op.opcode c.bytes = 2 → (lookD l.cmd [] s.owl.results).length + 1 < u16 c.bytes 20 → lookupDone l r s =
      onOwl (fun x => { x with results := put l.cmd (lookD l.cmd [] s.owl.results ++ [(l.item, r)]) x.results }) s)) ∧
  (∀ (k : Nat) (c : Cmd) (rs : List (Nat × Nat)) (s : State), s.cmd k = some c → look k s.owl.results = some rs →
    u16 c.bytes 20 ≤ rs.length → listFinish k s = complete k Status.ok 0 (countOf (fun r => bit r.2 36) (sortBy Prod.fst rs))
      (hostWrite k (u64 c.bytes 24) ((sortBy Prod.fst rs).flatMap (fun r => leBytes 8 r.2))
        (onOwl (fun x => { x with results := del k x.results }) s))) ∧
  (∀ (k : Nat) (c : Cmd) (s : State), Started k 4 2 c s →
    let n := u16 c.bytes 20
    (n = 0 ∨ 4096 < n → exec (.owlLookupList k) s = .next (complete k Status.badCommand 0 0 s)) ∧
    (1 ≤ n → n ≤ 4096 →
      (c.phase = 0 → exec (.owlLookupList k) s =
        .next (hostRead k (u64 c.bytes 12) (16 * n) (setCmd k { c with phase := 1 } s))) ∧
      (∀ d, c.phase = 1 → c.want = 0 → c.dataStep s (16 * n) true c.buf = .have_ d → exec (.owlLookupList k) s =
        .next (if (chunks n 16 d).any (fun e => u16 e 14 != 0) = true then complete k Status.badCommand 0 0 s
          else forEach (chunks n 16 d).zipIdx (fun e =>
            lookupKey k e.2 (fieldAt e.1 0 12) (u16 e.1 12) (bit (u8 c.bytes 22) 0)) (setCmd k { c with phase := 2 } s))))) ∧
  (∀ (k : Nat) (c : Cmd) (s : State), Started k 4 3 c s →
    let b := u8 c.bytes 12
    let fault := bankFault s c (s.im.bankMode b == 1 && s.im.bankClassify b) (decide (u16 c.bytes 14 < 16384)) 0
    (∀ f, fault = some f → exec (.owlInsert k) s = .next (completeReason k f.1 f.2 s)) ∧
    (fault = none →
      (c.phase = 0 → exec (.owlInsert k) s = .next (hostRead k (u64 c.bytes 16) 48 (setCmd k { c with phase := 1 } s))) ∧
      (∀ d, c.phase = 1 → c.want = 0 → c.dataStep s 48 true c.buf = .have_ d → exec (.owlInsert k) s =
        .next (if u64 d 40 / 1024 ≠ 0 then complete k Status.badCommand 0 0 s
          else bankQueue k b (setCmd k { c with phase := 2 } s))))) ∧
  (∀ (c : Cmd) (suits inRange : Bool) (reason : Nat) (s : State), bankFault s c suits inRange reason =
    if 16 ≤ u8 c.bytes 12 ∨ suits = false then some (Status.badCommand, 40)
    else if inRange = false then some (Status.badCommand, reason)
    else if s.serves c.old (.bank (u8 c.bytes 12)) = some (Op.car c.bytes) then none else some (Status.accessDenied, 0)) ∧
  (∀ (k b : Nat) (s : State), (s.bank b).wait = [] → (s.bank b).shift = none →
    s.rg .OWL_X_SHIFT_HOLD 0 ≠ 1 ∨ (∃ c, s.cmd k = some c ∧ Op.opcode c.bytes = 4) →
    ∃ u, bankQueue k b s = bankStart k b u ∧ u.bank b = s.bank b ∧ u.que = s.que ∧ SameRegs [] s u ∧ u.mem = s.mem) ∧
  (∀ (k b : Nat) (s : State), ((s.bank b).shift ≠ none ∨ s.rg .OWL_X_SHIFT_HOLD 0 = 1 ∧
      (∀ c, s.cmd ((s.bank b).wait.headD k) = some c → Op.opcode c.bytes ≠ 4)) →
    bankQueue k b s = setBank b { s.bank b with wait := addSet k (s.bank b).wait } s) ∧
  (∀ (k b : Nat) (c : Cmd) (s : State), s.cmd k = some c →
    (Op.opcode c.bytes = 4 → bankStart k b s = complete k Status.ok 0 0 (clearEntry b (u16 c.bytes 14) s)) ∧
    (∀ d, Op.opcode c.bytes = 3 → cmdData s c = some d → bankStart k b s =
      insertBegin k b (u16 c.bytes 14) { entryOf d with valid := true } s)) ∧
  (∀ (k b i : Nat) (e : OwlEntry) (s : State),
    (holeFrom s b i = none → insertBegin k b i e s = completeReason k Status.accessDenied 41 s) ∧
    (holeFrom s b i = some i → insertBegin k b i e s = complete k Status.ok 0 i (writeEntry b i e s)) ∧
    (∀ h, holeFrom s b i = some h → h ≠ i → insertBegin k b i e s =
      setBank b { s.bank b with shift := some { index := i, hole := h, entry := e, cmd := k, since := s.clk } } s)) ∧
  (∀ (b i h : Nat) (s : State), holeFrom s b i = some h → i ≤ h ∧ h < 16384 ∧
    (∀ j, i ≤ j → j < h → ∃ e, look j (s.bank b).entries = some e ∧ e.valid = true) ∧
    (∀ e, look h (s.bank b).entries = some e → e.valid = false)) ∧
  (∀ (b i : Nat) (e : OwlEntry) (s : State), let t := writeEntry b i e s
    look i (t.bank b).entries = some e ∧ (∀ j, j ≠ i → look j (t.bank b).entries = look j (s.bank b).entries) ∧
    (∀ m, m ≠ b → t.bank m = s.bank m)) ∧
  (∀ (b i : Nat) (e : OwlEntry) (s : State), look i (s.bank b).entries = some e →
    look i ((clearEntry b i s).bank b).entries = some { e with valid := false }) ∧
  (∀ (b : Fin 16) (x : Shift) (s : State), s.live = true → (s.bank b.val).shift = some x →
    (s.rg .OWL_X_SHIFT_HOLD 0 = 1 ∨ s.clk < x.since + (x.hole - x.index) → exec (.owlShiftDone b) s = .next s) ∧
    (s.rg .OWL_X_SHIFT_HOLD 0 ≠ 1 → x.since + (x.hole - x.index) ≤ s.clk →
      ∃ u n, exec (.owlShiftDone b) s = .next (bankRun b.val n (complete x.cmd Status.ok 0 x.index (writeEntry b.val x.index x.entry u))) ∧
        (u.bank b.val).shift = none ∧ (u.bank b.val).wait = (s.bank b.val).wait ∧
        (∀ j e, x.index ≤ j → j < x.hole → look j (s.bank b.val).entries = some e → look (j + 1) (u.bank b.val).entries = some e) ∧
        (∀ j, j ≤ x.index ∨ x.hole < j → look j (u.bank b.val).entries = look j (s.bank b.val).entries))) ∧
  (∀ (b : Fin 16) (s : State), s.live = true → (s.bank b.val).shift = none → exec (.owlShiftDone b) s = .next (bankGo b.val s)) ∧
  (∀ (k : Nat) (c : Cmd) (s : State), Started k 4 4 c s →
    let b := u8 c.bytes 12
    let fault := bankFault s c (s.im.bankMode b == 1) (decide (u16 c.bytes 14 < 16384)) 0
    (∀ f, fault = some f → exec (.owlDelete k) s = .next (completeReason k f.1 f.2 s)) ∧
    (fault = none → exec (.owlDelete k) s = .next (bankQueue k b s))) ∧
  (∀ (k : Nat) (c : Cmd) (s : State), Started k 4 5 c s →
    let b := u8 c.bytes 12
    let first := u16 c.bytes 14
    let n := u16 c.bytes 16
    let fault := bankFault s c (s.im.bankMode b == 1) (decide (0 < n) && decide (first + n ≤ 16384)) 0
    (∀ f, fault = some f → exec (.owlRead k) s = .next (completeReason k f.1 f.2 s)) ∧
    (fault = none → exec (.owlRead k) s = .next (complete k Status.ok 0 0 (hostWrite k (u64 c.bytes 24)
      ((List.range n).flatMap (fun i => entryBytes (lookD (first + i) emptyEntry (s.bank b).entries))) s)))) ∧
  (∀ (k : Nat) (c : Cmd) (s : State), Started k 4 6 c s →
    let b := u8 c.bytes 12
    let n := u32 c.bytes 24
    let fault := bankFault s c (s.im.bankMode b == 2) (decide (16 ≤ n) && decide (n ≤ 139280)) 43
    (∀ f, fault = some f → exec (.owlLoadAutomaton k) s = .next (completeReason k f.1 f.2 s)) ∧
    (fault = none → s.owl.watches.any (fun w => w.2.bank == b) = true →
      exec (.owlLoadAutomaton k) s = .next (completeReason k Status.accessDenied 42 s)) ∧
    (fault = none → s.owl.watches.any (fun w => w.2.bank == b) = false →
      (c.phase = 0 → exec (.owlLoadAutomaton k) s = .next (hostRead k (u64 c.bytes 16) n (setCmd k { c with phase := 1 } s))) ∧
      (∀ d, c.phase = 1 → c.want = 0 → c.dataStep s n true c.buf = .have_ d → exec (.owlLoadAutomaton k) s =
        .next (match parseAutomaton d with
          | none => completeReason k Status.badCommand 43 s
          | some a => complete k Status.ok 0 a.trans.length
              (raise 0x0909 (some (Op.car c.bytes)) [(1, b)] (loadAutomaton b a d s)))))) ∧
  (∀ (b : Nat) (a : Automaton) (d : List Byte) (s : State), ((loadAutomaton b a d s).bank b).autom = some a) ∧
  (∀ (d : List Byte) (a : Automaton), parseAutomaton d = some a → u32 d 0 = 0x414C574F ∧ a.states = u16 d 4 ∧ 1 ≤ a.states ∧
    a.states ≤ 4096 ∧ (∀ t, t ∈ a.trans → t.2.lo ≤ t.2.hi ∧ t.2.state < a.states ∧ t.2.next < a.states) ∧
    (∀ r, r ∈ a.ranges → r.1 ≤ r.2.1))

/-- OWL_WATCH_SET, OWL_WATCH_DISARM, OWL_WAIT, the CASCADE events, OWL_SCRUB and OWL_SCRUB_FORCE. OWL_WATCH_SET arms a
context in its start state; with DISARM it frees the context and ends its OWL_WAIT with DISARMED (R445, R449). A
context takes the lowest transition that qualifies for a token, else goes to state 0; a fire answers the waiting
OWL_WAIT, else it is latched, else counted as missed (R444, R448). In its own slot a node sends the oldest waiting
lookup, or in its first slot of a frame a PING (R452). Another node's frame is passed on and a SEARCH is searched in
the banks lent to the cascade; a node's own frame that comes back is noted, and its absence at S + 192 breaks the
cascade, which answers what waits (R453, R454). At S + 320 a node with a checked hit, or whose PRIO_IN is high, drives
PRIO_OUT; at S + 384 the one with PRIO_IN low sends RESULT; the origin takes it as the lookup's answer, and without
one at S + 512 the lookup is a miss (R453). The compare replaces an entry that differs from its shadow, and clears
VALID where the shadow cannot be read (R456). Rests on spec/13_owl.md. -/
def Obligations.OwlWatchesCascadesAndScrubs : Prop :=
  (∀ (k : Nat) (c : Cmd) (q : Seqd) (s : State), Started k 4 7 c s → bit (u8 c.bytes 15) 0 = false →
    look (Op.seqId c.bytes) s.seq.seqs = some q →
    let car := Op.car c.bytes
    let b := u8 c.bytes 14
    let start := u16 c.bytes 16
    (16 ≤ b ∨ s.im.bankMode b ≠ 2 ∨ s.serves c.old (.bank b) ≠ some car →
      exec (.owlWatchSet k) s = .next (completeReason k Status.badCommand 40 s)) ∧
    (b < 16 → s.im.bankMode b = 2 → s.serves c.old (.bank b) = some car → u16 c.bytes 12 < q.layers → start < 4096 →
      (∀ a, (s.bank b).autom = some a → start < a.states) → q.car = car → s.seqHeld car (Op.seqId c.bytes) = false →
      exec (.owlWatchSet k) s = .next (match pickBelow 16384 (fun i => !has i s.owl.watches) s with
        | none => completeReason k Status.accessDenied 44 s
        | some i => complete k Status.ok 0 i (setWatch i { car := car, seq := Op.seqId c.bytes, layer := u16 c.bytes 12, bank := b,
                                                           state := start, start := start, edgeReport := bit (u8 c.bytes 15) 1,
                                                           latched := none, missed := 0, wait := none } (freeTaken s))))) ∧
  (∀ (i : Nat) (s : State), pickBelow 16384 (fun i => !has i s.owl.watches) s = some i → i < 16384 ∧ look i s.owl.watches = none) ∧
  (∀ (k : Nat) (c : Cmd) (s : State), Started k 4 7 c s → bit (u8 c.bytes 15) 0 = true →
    let i := u16 c.bytes 20
    exec (.owlWatchDisarm k) s = .next (match look i s.owl.watches with
      | some w => if w.car = Op.car c.bytes ∧ w.seq = Op.seqId c.bytes then complete k Status.ok 0 i (watchFree i s)
          else complete k Status.badCommand 0 0 s
      | none => complete k Status.badCommand 0 0 s)) ∧
  (∀ (i : Nat) (w : Watch) (s : State), look i s.owl.watches = some w →
    let u := onOwl (fun x => { x with watches := del i x.watches }) s
    (w.wait = none → watchFree i s = u) ∧ (∀ k, w.wait = some k → watchFree i s = complete k Status.ok 0 (2 ^ 63) u)) ∧
  (∀ (k : Nat) (c : Cmd) (w : Watch) (s : State), Started k 4 8 c s → look (u16 c.bytes 12) s.owl.watches = some w →
    let i := u16 c.bytes 12
    (w.car ≠ Op.car c.bytes → exec (.owlWait k) s = .next (complete k Status.badCommand 0 0 s)) ∧
    (∀ r, w.car = Op.car c.bytes → w.latched = some r → exec (.owlWait k) s =
      .next (complete k Status.ok 0 (waitResult r w.missed) (setWatch i { w with latched := none, missed := 0 } s))) ∧
    (w.car = Op.car c.bytes → w.latched = none → w.wait = none →
      exec (.owlWait k) s = .next (setWatch i { w with wait := some k } s))) ∧
  (∀ (i pos token : Nat) (w : Watch) (a : Automaton) (s : State), look i s.owl.watches = some w →
    (s.bank w.bank).autom = some a →
    (transFor a w.state (tokenClass a (token % 2 ^ 24)) = none → watchStep i pos token false s = setWatch i { w with state := 0 } s) ∧
    (∀ t, transFor a w.state (tokenClass a (token % 2 ^ 24)) = some t → watchStep i pos token false s =
      if t.fire = true then owlReport i { pos := pos, fireId := t.fireId, state := t.next, edge := false }
        (setWatch i { w with state := t.next } s)
      else setWatch i { w with state := t.next } s)) ∧
  (∀ (a : Automaton) (st cls : Nat) (t : Trans), transFor a st cls = some t →
    ∃ n, (n, t) ∈ a.trans ∧ t.state = st ∧ t.lo ≤ cls ∧ cls ≤ t.hi ∧
      ∀ m u, (m, u) ∈ a.trans → u.state = st → u.lo ≤ cls → cls ≤ u.hi → n ≤ m) ∧
  (∀ (i : Nat) (r : Report) (w : Watch) (s : State), look i s.owl.watches = some w →
    let u := bump .OWL_C_FIRES_COUNT w.car 1 s
    (∀ k, w.wait = some k → owlReport i r s = complete k Status.ok 0 (waitResult r 0) (setWatch i { w with wait := none } u)) ∧
    (w.wait = none → w.latched = none →
      owlReport i r s = raise 0x0908 (some w.car) [(2, i)] (setWatch i { w with latched := some r } u)) ∧
    (∀ old, w.wait = none → w.latched = some old → ∃ v, owlReport i r s = raise 0x0908 (some w.car) [(2, i)] v ∧
      look i v.owl.watches = some { w with missed := min 255 (w.missed + 1) })) ∧
  (∀ s : State, s.live = true → cascadeOn s = true → s.timeServes = true → slotNode s = s.sled → s.owl.own = none →
    let u := onOwl (fun x => { x with pingFrame := some s.frame }) s
    (∀ l r, s.owl.queue = l :: r → cascadeServes s = true → exec .cascadeSlot s = .next (sendSlot (some l) (onOwl (fun x => { x with queue := r }) u))) ∧
    (s.owl.queue = [] → exec .cascadeSlot s = .next (if s.owl.pingFrame = some s.frame then u else sendSlot none u))) ∧
  (∀ s : State, s.live = true → cascadeServes s = false → s.owl.queue ≠ [] →
    exec .cascadeSlot s = .next (forEach s.owl.queue (fun l => lookupDone l 0) (onOwl (fun x => { x with queue := [] }) s))) ∧
  (∀ (l : Option Lookup) (s : State), (sendSlot l s).sent = .cascade (match l with
      | some x => searchFrame s.sled 0 x.key
      | none => searchFrame s.sled 1 0) :: s.sent ∧
    (sendSlot l s).owl.own = some { start := slotStart s, look := l, returned := false, checked := false }) ∧
  (∀ (f : BitVec 256) (s : State), s.live = true → s.im.cascadeCount ≠ 0 →
    let n := f.toNat
    let whole := bits n 0 8 = 0xC3 ∧ bits n 176 16 = owlCrc 176 (n % 2 ^ 176)
    (¬ whole → exec (.cascadeSearch f) s = .next (raiseFirst 0x0905 0 none [] (bump .OWL_CASCADE_ERR_CRC 0 1 s))) ∧
    (whole → bits n 8 3 = s.sled → exec (.cascadeSearch f) s = .next (ownReturned (bit n 11) s)) ∧
    (whole → bits n 8 3 ≠ s.sled → bit n 11 = true → exec (.cascadeSearch f) s = .next (emit (.cascade n) s)) ∧
    (whole → bits n 8 3 ≠ s.sled → bit n 11 = false →
      let key := bits n 16 128
      let r := prefixFind (cascadeBanks s (bits key 112 4)) key (bits key 112 4) 5 [] (emit (.cascade n) s)
      exec (.cascadeSearch f) s = .next (onOwl (fun x => { x with
        foreign := some { start := slotStart (emit (.cascade n) s), origin := bits n 8 3, key := key, hit := r.1 } }) r.2))) ∧
  (∀ (o : OwnSlot) (s : State), s.live = true → s.owl.own = some o →
    (o.checked = true ∨ s.ft < o.start + 192 → exec .cascadeReturnCheck s = .next s) ∧
    (o.checked = false → o.start + 192 ≤ s.ft →
      let u := onOwl (fun x => { x with own := some { o with checked := true } }) s
      (o.returned = true → exec .cascadeReturnCheck s = .next u) ∧
      (o.returned = false → s.owl.cascade = 2 → exec .cascadeReturnCheck s = .next (cascadeFlush u)) ∧
      (o.returned = false → s.owl.cascade ≠ 2 → exec .cascadeReturnCheck s = .next (cascadeFlush (raise 0x0904 none [(1, s.sled)]
        (bump .OWL_CASCADE_ERR_BROKEN 0 1 (onOwl (fun x => { x with cascade := 2 }) u))))))) ∧
  (∀ (h : Bool) (s : State), s.live = true → s.im.cascadeCount ≠ 0 →
    (s.ft < slotStart s + 320 → exec (.cascadePrio h) s = .next s) ∧
    (slotStart s + 320 ≤ s.ft → ∃ t, exec (.cascadePrio h) s = .next t ∧
      t.owl.prioOut = (h || s.owl.foreign.any (fun f => f.start == slotStart s && f.hit.isSome)) ∧
      t.sent = (if t.owl.prioOut = s.owl.prioOut then s.sent else .prioOut t.owl.prioOut :: s.sent) ∧ SameRegs [] s t ∧ SameMem s t)) ∧
  (∀ (f : Foreign) (hit : Nat × Bool) (s : State), s.live = true → s.owl.foreign = some f → f.hit = some hit →
    f.start + 384 ≤ s.ft → s.ft < f.start + 512 →
    exec (.cascadeWinnerSend true) s = .next s ∧
    exec (.cascadeWinnerSend false) s =
      .next (emit (.cascade (resultFrame f.origin s.sled hit.2 hit.1)) (onOwl (fun x => { x with foreign := none }) s))) ∧
  (∀ (f : BitVec 256) (s : State), s.live = true → s.im.cascadeCount ≠ 0 →
    let n := f.toNat
    let whole := bits n 0 8 = 0x3C ∧ bits n 80 16 = owlCrc 80 (n % 2 ^ 80)
    (¬ whole → exec (.cascadeResult f) s = .next (raiseFirst 0x0905 0 none [] (bump .OWL_CASCADE_ERR_CRC 0 1 s))) ∧
    (whole → bits n 8 3 ≠ s.sled → exec (.cascadeResult f) s = .next (emit (.cascade n) s)) ∧
    (∀ o l, whole → bits n 8 3 = s.sled → s.owl.own = some o → o.look = some l → s.ft < o.start + 512 →
      exec (.cascadeResult f) s = .next (lookupDone l (lookupResult (bits n 16 32) (bits n 11 3) true (bit n 14) true)
        (bump .OWL_C_CASCADE_HITS_COUNT (bits l.key 112 4) 1 (onOwl (fun x => { x with own := some { o with look := none } }) s))))) ∧
  (∀ (o : OwnSlot) (l : Lookup) (s : State), s.live = true → s.owl.own = some o → o.look = some l → s.owl.foreign = none →
    s.owl.prioOut = false →
    (s.ft < o.start + 512 → exec .cascadeSlotEnd s = .next s) ∧
    (o.start + 512 ≤ s.ft → exec .cascadeSlotEnd s =
      .next (lookupDone l (lookupResult 0 0 false false true) (onOwl (fun x => { x with own := none }) s)))) ∧
  (∀ (half : Fin 2) (s : State), s.live = true →
    (compareRuns s half.val = false ∨ compareBanks s half.val = [] → exec (.owlScrub half) s = .next s) ∧
    (∀ b i, compareRuns s half.val = true → compareBanks s half.val = [b] → look half.val s.owl.scrubPos = some (b, i) →
      exec (.owlScrub half) s = .next (onOwl (fun x => { x with
        scrubPos := put half.val (if i + 1024 < 16384 then (b, i + 1024) else (b, 0)) x.scrubPos }) (compareSpan b i 1024 s)))) ∧
  (∀ (b i : Nat) (s : State), inShift (s.bank b) i = false →
    (∀ d, shadowRead s b i = some d → heldBytes (s.bank b) i = d → compareEntry b i s = s) ∧
    (∀ d, shadowRead s b i = some d → (s.bank b).autom = none → entryBytes (lookD i emptyEntry (s.bank b).entries) ≠ d →
      ∃ t, compareEntry b i s = t ∧ look i (t.bank b).entries = some (entryOf d) ∧
        (∀ j, j ≠ i → look j (t.bank b).entries = look j (s.bank b).entries) ∧ SameMem s t) ∧
    (∀ d a, shadowRead s b i = some d → (s.bank b).autom = some a → heldBytes (s.bank b) i ≠ d →
      ((compareEntry b i s).bank b).autom = some { a with trans := put i (transOf d) a.trans }) ∧
    (∀ e, shadowRead s b i = none → look i (s.bank b).entries = some e →
      look i ((compareEntry b i s).bank b).entries = some { e with valid := false })) ∧
  (∀ (p : Port) (s : State), s.live = true → Reaches p 0x980000 s →
    (s.expertOpen p.idx 9 = false → exec (.owlScrubForce p) s = .next (raise 0x0B01 none [(1, p.idx), (3, 0x980000)] s)) ∧
    (s.expertOpen p.idx 9 = true → exec (.owlScrubForce p) s =
      .next (forEach (([0, 1].filter (compareRuns s)).flatMap (compareBanks s)) (fun b => compareSpan b 0 16384) s)))

/-- PATROL_SCRUB, SCRUB_FORCE, HBM_REFRESH, CE_THRESHOLD, INJECT_ARM and the CXL port events. With SCRUB_EN set,
patrol scrub reads the next codeword; one in correctable error is counted and written back, an uncorrectable one is
counted and left, and the end of a pass is recorded (R471). SCRUB_FORCE starts a pass at its first codeword. A trained
stack refreshes, at double rate above 85 C or by MEM_X_REFRESH (R465). A pseudo-channel over MEM_X_CE_THR corrected
codewords in a frame is recorded once (R474). INJECT_ARM arms a group with SYMBOLS errors, which the next whole-
codeword write to that group takes; any other write clears the errors of what it writes (R470, R484). A CXL port is
detected after its expander's reset is released, ends training UP at x16 and 64 GT/s, else DEGRADED, disables ranges
beyond its device and goes DOWN after 100 ms or on loss of its link, with CXL_DOWN where a range holds a frame; 10 ms
later it retrains (R477 to R479). One codeword per row of PATROL_SCRUB is the model's choice (log entry 7). Rests on
spec/14_memory.md. -/
def Obligations.MemoryIsScrubbedInjectedAndAttached : Prop :=
  (∀ s : State, s.live = true → s.rg .MEM_CTRL_SCRUB_EN 0 = 0 → exec .patrolScrub s = .next s) ∧
  (∀ s : State, s.live = true → s.rg .MEM_CTRL_SCRUB_EN 0 ≠ 0 →
    let key := scrubKey s.mem.scrubAt
    let on := onMem (fun m => { m with scrubAt := m.scrubAt + 1 })
    (s.mem.scrubAt + 1 < 64 * groupCodewords →
      (look key s.mem.bad = none → exec .patrolScrub s = .next (on s)) ∧
      (∀ n, look key s.mem.bad = some n → n < 2 → exec .patrolScrub s =
        .next (on (onMem (fun m => { m with scrubCorr := m.scrubCorr + 1 }) (cleanKey key (hbmError 1 key n s))))) ∧
      (∀ n, look key s.mem.bad = some n → 2 ≤ n → exec .patrolScrub s =
        .next (on (onMem (fun m => { m with scrubUncorr := m.scrubUncorr + 1 }) (hbmError 1 key n s))))) ∧
    (64 * groupCodewords ≤ s.mem.scrubAt + 1 → look key s.mem.bad = none → exec .patrolScrub s =
      .next (onMem (fun m => { m with scrubAt := 0, scrubCorr := 0, scrubUncorr := 0 })
        (raise 0x0A09 none [(4, s.mem.scrubCorr), (4, s.mem.scrubUncorr)] (on s))))) ∧
  (∀ (key : Nat) (s : State), look key (cleanKey key s).mem.bad = none ∧ (cleanKey key s).mem.bytes = s.mem.bytes) ∧
  (∀ (finder key sym : Nat) (s : State), let g := key * 32 / 2 ^ 34
    let ga := key * 32 % 2 ^ 34
    (sym < 2 → (hbmError finder key sym s).pcCount (8 * g + ga / 256 % 8) = s.pcCount (8 * g + ga / 256 % 8) + 1 ∧
      (hbmError finder key sym s).evr = s.evr ∧ (hbmError finder key sym s).mem.bytes = s.mem.bytes) ∧
    (2 ≤ sym → ∃ u, hbmError finder key sym s = raise 0x0A01 (s.owner (.group g)) [(7, ga), (1, finder)] u ∧ u.mem = s.mem ∧
      (∀ c, s.owner (.group g) = some c → u.rg .MEM_C_LAST_UE_HI_VALID c = 1))) ∧
  (∀ (p : Port) (s : State), s.live = true → Reaches p 0xA8000C s → s.expertOpen p.idx 10 = true →
    exec (.scrubForce p) s = .next (onMem (fun m => { m with scrubAt := 0, scrubCorr := 0, scrubUncorr := 0 }) s)) ∧
  (∀ (k : Fin 16) (s : State), s.live = true →
    (k.val ∉ s.mem.trained → exec (.hbmRefresh k) s = .next s) ∧
    (k.val ∈ s.mem.trained → ∃ t, exec (.hbmRefresh k) s = .next t ∧
      (k.val ∈ t.mem.double ↔ (stackHot s k.val = true ∨ s.rg .MEM_X_REFRESH_DOUBLE 0 = 1)) ∧
      lookD k.val 0 t.mem.refreshed = lookD k.val 0 s.mem.refreshed + 1 ∧ SameRegs [] s t ∧ SameMem s t)) ∧
  (∀ (g : Fin 64) (pc : Fin 8) (s : State), s.live = true →
    (s.pcCount (8 * g.val + pc.val) ≤ s.rg .MEM_X_CE_THR_COUNT 0 → exec (.ceThreshold g pc) s = .next s) ∧
    (s.rg .MEM_X_CE_THR_COUNT 0 < s.pcCount (8 * g.val + pc.val) → exec (.ceThreshold g pc) s =
      .next (raiseFirst 0x0A0A (8 * g.val + pc.val) (s.owner (.group g.val))
        [(1, g.val / 4), (1, 4 * (g.val % 4) + pc.val / 2), (1, pc.val % 2)] s))) ∧
  (∀ (p : Port) (s : State), s.live = true → Reaches p 0xA80010 s → s.expertOpen p.idx 10 = true →
    let n := s.rg .MEM_X_INJECT_SYMBOLS 0
    (n = 0 → exec (.injectArm p) s = .next s) ∧
    (n ≠ 0 → exec (.injectArm p) s = .next (setRg .MEM_X_INJECT_ARMED 0 1
      (onMem (fun m => { m with inject := some (s.rg .MEM_X_INJECT_GROUP 0, n) }) s)))) ∧
  (∀ (a : Nat) (bs : List Byte) (s : State), let w := wholeKeys a bs.length
    (s.mem.inject = none → ∀ e, e ∈ (writeAt a bs s).mem.bad ↔ e ∈ s.mem.bad ∧ inSpan a bs.length e.1 = false) ∧
    (∀ n, a < 2 ^ 40 → w.1 < w.2 → n ≠ 0 → s.mem.inject = some (a / 2 ^ 34, n) →
      (writeAt a bs s).mem.inject = none ∧ look w.1 (writeAt a bs s).mem.bad = some n ∧ (writeAt a bs s).rg .MEM_X_INJECT_ARMED 0 = 0)) ∧
  (∀ (n : Nat) (st : CxlSt) (s : State), n < 4 → let t := cxlEnter n st s
    t.cxlPort n = { s.cxlPort n with st := st } ∧ (∀ m, m ≠ n → m < 4 → t.cxlPort m = s.cxlPort m) ∧
    t.rg .MEM_CXLn_STATUS_STATE n = st.code % 2 ^ RN.width .MEM_CXLn_STATUS_STATE ∧ t.evr = s.evr ∧ SameMem s t ∧
    SameRegs [.MEM_CXLn_STATUS_STATE, .MEM_STATUS_CXL_ACTIVE] s t) ∧
  (∀ (c : Fin 4) (s : State), s.live = true →
    ((s.cxlPort c.val).st ≠ .absent ∨ c.val ∈ s.pkg.perst ∨ 8 ∉ s.start.done → exec (.cxlDetect c) s = .next s) ∧
    ((s.cxlPort c.val).st = .absent → c.val ∉ s.pkg.perst → 8 ∈ s.start.done → s.rg .BIST_SHUT_STATUS_STATE 0 < 2 → s.lc ≠ 4 →
      exec (.cxlDetect c) s = .next (cxlEnter c.val .training (setCxl c.val { s.cxlPort c.val with trainAt := s.clk } s)))) ∧
  (∀ (c : Fin 4) (width gts units : Nat) (s : State), s.live = true → (s.cxlPort c.val).st = .training →
    s.clk < (s.cxlPort c.val).trainAt + 100000000 →
    (width ≠ 16 ∧ width ≠ 8 → exec (.cxlTrainingEnd c width gts units) s = .next s) ∧
    ((width = 16 ∨ width = 8) → (gts = 64 ∨ gts = 32) → ∃ u, exec (.cxlTrainingEnd c width gts units) s =
        .next (disableRanges c.val units (raise 0x0A06 none [(1, width), (1, gts)] u)) ∧
      (u.cxlPort c.val).st = (if width = 16 ∧ gts = 64 then .up else .degraded) ∧
      u.rg .MEM_CXLn_STATUS_WIDTH c.val = width % 2 ^ RN.width .MEM_CXLn_STATUS_WIDTH ∧
      u.rg .MEM_CXLn_STATUS_GTS c.val = gts % 2 ^ RN.width .MEM_CXLn_STATUS_GTS ∧
      u.rg .MEM_CXLn_STATUS_UP_COUNT c.val = (s.rg .MEM_CXLn_STATUS_UP_COUNT c.val + 1) % 2 ^ RN.width .MEM_CXLn_STATUS_UP_COUNT ∧
      u.rg .MEM_CXLn_CAP_UNITS c.val = units % 2 ^ RN.width .MEM_CXLn_CAP_UNITS ∧
      u.sent = (programHdm c.val s).sent ∧ u.evr = s.evr ∧ SameMem s u)) ∧
  (∀ (n units : Nat) (s : State), n < 4 → ((disableRanges n units s).cxlPort n).disabled =
    ((s.im.cxlRanges.filter (fun r => decide (n ∈ r.ports))).filter (fun r => decide (units < r.base + r.size))).map (fun r => r.index)) ∧
  (∀ (c : Fin 4) (s : State), s.live = true →
    ((s.cxlPort c.val).st = .training → exec (.cxlTrainingTimeout c) s =
      .next (if (s.cxlPort c.val).trainAt + 100000000 ≤ s.clk then cxlDown c.val s else s)) ∧
    ((s.cxlPort c.val).active = true → exec (.cxlLinkDown c) s = .next (cxlDown c.val s)) ∧
    ((s.cxlPort c.val).active = false → exec (.cxlLinkDown c) s = .next s)) ∧
  (∀ (n : Nat) (s : State), n < 4 → ∃ u, cxlDown n s =
      (if cxlHolders s n = [] then raise 0x0A07 none [] u else notice 0x02 (cxlHolders s n) n (raise 0x0A07 none [] u)) ∧
    (u.cxlPort n).st = .down ∧ (u.cxlPort n).downAt = s.clk ∧ u.rg .MEM_CXLn_STATUS_WIDTH n = 0 ∧
    u.rg .MEM_CXLn_STATUS_GTS n = 0 ∧ u.evr = s.evr ∧ SameMem s u) ∧
  (∀ (c : Fin 4) (s : State), s.live = true →
    ((s.cxlPort c.val).st ≠ .down ∨ s.clk < (s.cxlPort c.val).downAt + 10000000 → exec (.cxlRetrain c) s = .next s) ∧
    ((s.cxlPort c.val).st = .down → (s.cxlPort c.val).downAt + 10000000 ≤ s.clk → s.rg .BIST_SHUT_STATUS_STATE 0 < 2 →
      ∃ t, exec (.cxlRetrain c) s = .next t ∧ (t.cxlPort c.val).st = .training ∧ (t.cxlPort c.val).trainAt = s.clk ∧
        c.val ∉ t.pkg.perst ∧ t.sent = .perst c.val false :: .perst c.val true :: s.sent ∧ SameMem s t))

/-- MONITOR_SAMPLE, THROTTLE_EVAL, THROTTLE_STEP, PERSIST_WRITE, PERSIST_WRITE_DONE, EVR_CLEAR and PURGE_DONE. A
sample stores each reading with its trim, raises the peak, records WARN once in a frame, and drives THERM_ALERT_N at
100 C; a sensor at 105 C in two samples running is a thermal trip and a core rail outside 660 to 800 mV for 1 ms a
rail fault, each a fatal fault (R561, R562). At a frame boundary the thermal step rises by one after a hot frame,
falls by one after four cool frames, and the step in force follows it, FLOOR and the forced step; the frames of the
old step are counted and a change is recorded (R564, R565). A persistence write takes the state as it stands to the
next good area, every 60 s; a write that ends well is the newest record, one that fails skips its area with event
0x0E04 (R572). A clear needs semaphore 2 and authority; it sets MARK 0 in every record up to SEQ and writes record
0x0E01, waits for a running write, writes two records, and then the purge erases every other area (R573, R574). The
readings are operands (log entry 7). Rests on spec/18_monitors_recorder.md. -/
def Obligations.MonitorsThrottleAndPersist : Prop :=
  (∀ (temps : List (Nat × Int)) (volts procs : List (Nat × Nat)) (s : State), s.live = true → (∀ e ∈ temps, e.1 < 48) →
    (∀ e ∈ volts, e.1 < 24) → (∀ e ∈ procs, e.1 < 16) → exec (.monitorSample temps volts procs) s =
    .next (forEach procs (fun e => sampleProc e.1 e.2) (forEach volts (fun e => sampleVolt e.1 e.2)
      (thermalPins (tripCheck (keys temps) (forEach temps (fun e => sampleTemp e.1 e.2) s)))))) ∧
  (∀ (i : Nat) (r : Int) (s : State), let t := sampleTemp i r s
    let v := clampInt (-2048) 2047 (r + signed 8 (s.rg .MON_X_TTRIM_OFFSET i))
    t.rg .MON_TEMP_VALUE i = unsigned 12 v % 2 ^ RN.width .MON_TEMP_VALUE ∧ (∀ j, j ≠ i → t.rg .MON_TEMP_VALUE j = s.rg .MON_TEMP_VALUE j) ∧
    (signed 12 (s.rg .MON_TEMP_MAX_MAX 0) < v → t.rg .MON_TEMP_MAX_MAX 0 = unsigned 12 v % 2 ^ RN.width .MON_TEMP_MAX_MAX) ∧
    (s.rg .MON_TEMP_EXCLUDED i = 1 ∨ v < (s.rg .MON_THRESH_WARN 0 * 8 : Int) → t.evr = s.evr) ∧
    (s.rg .MON_TEMP_EXCLUDED i ≠ 1 → (s.rg .MON_THRESH_WARN 0 * 8 : Int) ≤ v →
      ∃ u, t = raiseFirst 0x0D02 i none [(1, i), (2, unsigned 12 v)] u ∧ u.evr = s.evr)) ∧
  (∀ s : State, let t := thermalPins s
    let low := (includedSensors s).any (fun i => decide (800 ≤ s.temp i)) || s.mon.tripped
    t.pkg.thermAlert = low ∧ t.rg .MON_STATUS_ALERT 0 = b2n low ∧
    t.sent = (if low = s.pkg.thermAlert then s.sent else .ibi (if low then 2 else 3) :: .thermAlert low :: s.sent)) ∧
  (∀ (sampled : List Nat) (s : State),
    let now := (includedSensors s).filter (fun i => decide (i ∈ sampled) && decide (840 ≤ s.temp i))
    let u := onMon (fun m => { m with tripRun := now ++ m.tripRun.filter (fun i => decide (i ∉ sampled)) }) s
    tripCheck sampled s = forEach (now.filter (fun i => decide (i ∈ s.mon.tripRun))) thermalTrip u) ∧
  (∀ (i : Nat) (s : State), s.start.stopped = false →
    (thermalTrip i s).start.stopped = true ∧ (thermalTrip i s).ras.fatal = some 0) ∧
  (∀ (i mv : Nat) (s : State), coreRail i = true → s.rg .MON_VOLT_EXCLUDED i ≠ 1 →
    (660 ≤ mv → mv ≤ 800 → look i (sampleVolt i mv s).mon.railOut = none ∧ (sampleVolt i mv s).start = s.start) ∧
    (mv < 660 ∨ 800 < mv → (look i s.mon.railOut = none → look i (sampleVolt i mv s).mon.railOut = some s.clk) ∧
      (∀ t, look i s.mon.railOut = some t → t + 1000000 ≤ s.clk → s.start.stopped = false →
        (sampleVolt i mv s).start.stopped = true ∧ (sampleVolt i mv s).ras.fatal = some 2) ∧
      (∀ t, look i s.mon.railOut = some t → s.clk < t + 1000000 → (sampleVolt i mv s).start = s.start))) ∧
  (∀ s : State, s.live = true →
    let auto := s.rg .MON_CTRL_AUTO_THROTTLE 0 == 1
    let cool := if s.mon.warmNow then 0 else s.mon.coolFrames + 1
    let n := nextT auto s.mon.hot (decide (4 ≤ cool)) s.mon.t s.mon.sinceChange
    let new := stepOf auto (s.rg .MON_X_STEP_FORCE 0 == 1) (s.rg .MON_X_STEP_STEP 0) (s.rg .MON_STATUS_FLOOR 0) n.1
    (s.frame ≤ s.mon.evalAt → exec .throttleEval s = .next s) ∧
    (s.mon.evalAt < s.frame → ∃ u, exec .throttleEval s =
        .next (if new = s.rg .MON_STATUS_STEP 0 then u else raise 0x0D01 none
          [(1, s.rg .MON_STATUS_STEP 0), (1, new), (1, n.1), (1, s.rg .MON_STATUS_FLOOR 0)] u) ∧
      u.rg .MON_STATUS_STEP 0 = new % 2 ^ RN.width .MON_STATUS_STEP ∧ u.mon.t = n.1 ∧ u.mon.evalAt = s.frame ∧ u.mon.hot = false ∧
      SameRegs [.MON_STATUS_STEP, .MON_STEPCNT_FRAMES] s u ∧ SameMem s u ∧ u.evr = s.evr)) ∧
  (∀ (hot cool : Bool) (t since : Nat),
    (t < 3 → nextT true true cool t since = (t + 1, 0)) ∧ (3 ≤ t → nextT true true false t since = (t, since + 1)) ∧
    (0 < t → 4 ≤ since → nextT true false true t since = (t - 1, 0)) ∧ (nextT false hot cool t since).1 = 0) ∧
  (∀ (forced floor t : Nat), stepOf true false forced floor t = max t floor ∧ stepOf true true forced floor t = forced ∧
    stepOf false false forced floor t = max floor 0 ∧ stepOf false true forced floor t = max floor forced) ∧
  (∀ (i : Fin 256) (e : Evt) (s : State), s.live = true → s.evt i.val = some e → evtFires s i.val 5 = true →
    exec (.throttleStep i) s = .next (setRg .MON_STATUS_FLOOR 0 e.arg (evtFired i.val s))) ∧
  (∀ s : State, s.live = true → 3 ∈ s.start.done → s.start.writing = none → s.rg .BIST_SHUT_STATUS_STATE 0 < 2 →
    (s.clk < s.start.persistAt + 60000000000 → exec .persistWrite s = .next s) ∧
    (s.start.persistAt + 60000000000 ≤ s.clk → ∃ t, exec .persistWrite s = .next t ∧ t.start.persistAt = s.clk ∧
      t.start.writing = some (nextArea s, { snapshot false false s with seqNo := s.persisted.seqNo + 1 }, 0, s.ft) ∧
      look (nextArea s) t.sec.flash.areas = none ∧ (∀ a, a ≠ nextArea s → look a t.sec.flash.areas = look a s.sec.flash.areas) ∧
      SameRegs [] s t ∧ SameMem s t ∧ t.evr = s.evr)) ∧
  (∀ (ok : Bool) (a ft : Nat) (p : Persist) (s : State), s.start.writing = some (a, p, 0, ft) → s.start.stopped = false →
    s.rg .BIST_SHUT_STATUS_STATE 0 ≠ 3 → s.evr.clearWait = none → s.start.clearWrites = 0 →
    exec (.persistWriteDone ok) s = .next (persistEnd ok s)) ∧
  (∀ (a ft purpose : Nat) (p : Persist) (s : State), s.start.writing = some (a, p, purpose, ft) →
    ((persistEnd true s).start.writing = none ∧ (persistEnd true s).start.area = some a ∧
      look a (persistEnd true s).sec.flash.areas = some p ∧ (persistEnd true s).evr = s.evr ∧
      (persistEnd true s).rg .EVR_PERSIST_FT_LO_FT_LO 0 = ft % 2 ^ RN.width .EVR_PERSIST_FT_LO_FT_LO) ∧
    (∃ u, persistEnd false s = raise 0x0E04 none [] u ∧ u.start.writing = none ∧ a ∈ u.start.badAreas ∧ u.sec = s.sec)) ∧
  (∀ (p : Port) (s : State), s.live = true → Reaches p 0xE00018 s →
    let seq := s.rg .EVR_CLEAR_SEQ_SEQ p.idx
    let u := setRg .EVR_CLEAR_RESULT_DONE p.idx 1 (setRg .EVR_CLEAR_RESULT_STATUS p.idx Status.ok s)
    (s.holdsSem p.idx 2 = false → exec (.evrClear p) s = .next (raise 0x0E02 none [(1, p.idx), (1, 0)] s)) ∧
    (s.holdsSem p.idx 2 = true → s.evr.next - 1 < seq → ∃ t, exec (.evrClear p) s = .next t ∧
      t.rg .EVR_CLEAR_RESULT_STATUS p.idx = Status.badCommand ∧ t.evr = s.evr ∧
      SameRegs [.EVR_CLEAR_RESULT_STATUS, .EVR_CLEAR_RESULT_DONE] s t) ∧
    (s.holdsSem p.idx 2 = true → seq ≤ s.evr.next - 1 → clearAuthorised p.idx s = true →
      (s.start.writing = none → exec (.evrClear p) s = .next (clearWrite (evrClearNow p.idx seq u))) ∧
      (s.start.writing ≠ none → exec (.evrClear p) s = .next (onEvr (fun e => { e with clearWait := some (p.idx, max seq ((e.clearWait.map Prod.snd).getD 0)) }) u)))) ∧
  (∀ (p seq : Nat) (s : State), ∃ u lo, evrClearNow p seq s = onStart (fun x => { x with clearWrites := 2 })
      (raise 0x0E01 none [(1, p), (4, lo), (4, seq), (1, s.lc)] u) ∧
    u.evr.ring = s.evr.ring.map (fun r => if r.seq ≤ seq then { r with mark := 0 } else r) ∧ u.evr.next = s.evr.next) ∧
  (∀ s : State, s.live = true →
    (s.evr.purge = [] ∨ 0 < s.start.clearWrites ∨ s.start.writing ≠ none → exec .purgeDone s = .next s) ∧
    (s.evr.purge ≠ [] → s.start.clearWrites = 0 → s.start.writing = none → ∃ t, exec .purgeDone s = .next t ∧
      (∀ e, e ∈ t.sec.flash.areas ↔ e ∈ s.sec.flash.areas ∧ s.persisted.seqNo ≤ e.2.seqNo + 1) ∧ t.evr.purge = [] ∧
      t.evr.ring = s.evr.ring ∧ SameRegs [] s t ∧ SameMem s t))

/-- SEC_LOAD, SEC_LOAD_DONE, SEC_LOAD_COMMIT, SEC_COMMIT_DONE, ATTEST and ATTEST_DONE. A LOAD of an allowed kind, of 1
to 2 MiB at an address aligned to 64 bytes, reads the object in pieces of at most 4,096 bytes; a busy loader refuses
with ACCESS_DENIED, bad fields with BAD_COMMAND, a kind the life-cycle state forbids with ACCESS_DENIED and event
0x0B11 (R491, R496). When the bytes are there the object is checked: header, signature, rollback or serial or request
fields; the first failed check is CHECK and event 0x0B03, a passed one leaves a verified object, and in RECOVERY a
verified firmware image starts (R494 to R497). COMMIT writes the verified object; its end puts firmware and owner
record in flash, keeps a life-cycle request for the next start, and is recorded (R488, R489, R496); a write that fails
answers a code other than OK, which is a free value (log entry 15). ATTEST takes the port's nonce; the report stands
signed in the port's window and event 0x0B06 is recorded (R498). Signatures and digests are uninterpreted (log entry
5); the refusals are log entry 24. Rests on spec/15_security.md. -/
def Obligations.ObjectsAreLoadedCommittedAndAttested : Prop :=
  (∀ (p : Port) (s : State), s.live = true → Reaches p 0xB00020 s →
    let kind := s.rg .SEC_LOAD_CTRL_KIND 0
    let len := s.rg .SEC_LOAD_LEN_LEN p.idx
    let addr := s.rg .SEC_LOAD_ADDR_LO_ADDR_LO p.idx + s.rg .SEC_LOAD_ADDR_HI_ADDR_HI p.idx * 2 ^ 32
    (s.sec.loader ≠ none → exec (.secLoad p) s = .next (loadFailed p.idx kind Status.accessDenied 0 s)) ∧
    (s.sec.loader = none → kind = 0 ∨ len = 0 ∨ 2097152 < len ∨ addr % 64 ≠ 0 →
      exec (.secLoad p) s = .next (loadFailed p.idx kind Status.badCommand 0 s)) ∧
    (s.sec.loader = none → kind ≠ 0 → 1 ≤ len → len ≤ 2097152 → addr % 64 = 0 →
      (kindAllowed s kind = false → exec (.secLoad p) s = .next (raise 0x0B11 none [] (loadResult p.idx Status.accessDenied 0 s))) ∧
      (kindAllowed s kind = true → exec (.secLoad p) s = .next (forEach (List.range (ceilDiv len 4096)) (fun i t =>
          memRead p.idx (.load (4096 * i) (min 4096 (len - 4096 * i))) (addr + 4096 * i)
            (ceilDiv (min 4096 (len - 4096 * i)) 4 * 4) t)
        (onSec (fun x => { x with
          loader := some { port := p.idx, kind := kind, phase := 1, len := len, bytes := [], got := 0, bad := false },
          verified := none }) s))))) ∧
  (∀ (kind : Nat) (s : State), kindAllowed s kind = true ↔
    (kind = 2 → s.lc = 1 ∨ s.lc = 3) ∧ s.lc ≠ 4 ∧ (s.rg .SEC_BOOT_STATE 0 = 3 → kind = 1)) ∧
  (∀ (p st check : Nat) (s : State), (loadResult p st check s).rg .SEC_LOAD_STATUS_STATUS p = st % 2 ^ RN.width .SEC_LOAD_STATUS_STATUS ∧
    (loadResult p st check s).rg .SEC_LOAD_STATUS_CHECK p = check % 2 ^ RN.width .SEC_LOAD_STATUS_CHECK ∧
    (loadResult p st check s).rg .SEC_LOAD_STATUS_DONE p = 1 ∧
    SameRegs [.SEC_LOAD_STATUS_STATUS, .SEC_LOAD_STATUS_CHECK, .SEC_LOAD_STATUS_DONE] s (loadResult p st check s)) ∧
  (∀ (l : Loader) (s : State), s.live = true → s.sec.loader = some l → l.phase = 1 →
    let u := onSec (fun x => { x with loader := none }) s
    (l.bad = false → l.got < l.len → exec .secLoadDone s = .next s) ∧
    (l.bad = true → exec .secLoadDone s = .next (loadFailed l.port l.kind Status.badCommand 1 u)) ∧
    (l.bad = false → l.len ≤ l.got →
      (objCheck s l.kind l.bytes ≠ 0 →
        exec .secLoadDone s = .next (loadFailed l.port l.kind Status.badCommand (objCheck s l.kind l.bytes) u)) ∧
      (objCheck s l.kind l.bytes = 0 →
        let v := loadResult l.port Status.ok 0 (onSec (fun x => { x with verified := some (l.kind, l.bytes) }) u)
        exec .secLoadDone s = .next (if s.rg .SEC_BOOT_STATE 0 = 3 ∧ l.kind = 1 then firmwareStarts l.bytes v else v)))) ∧
  (∀ (b : List Byte) (s : State), (firmwareStarts b s).rg .SEC_BOOT_STATE 0 = 2 ∧ (firmwareStarts b s).rg .SEC_BOOT_CAUSE 0 = 0 ∧
    (firmwareStarts b s).sec.running = b ∧ 2 ∈ (firmwareStarts b s).start.done) ∧
  (∀ (b : List Byte) (s : State), objCheck s 1 b = if fwHeaderOk b = false then 2
    else if signedUnder (padTo 64 s.sec.fuses.fwSigner) b = false then 3 else if fwRollback b < s.sec.fuses.rollback then 4 else 0) ∧
  (∀ (b : List Byte) (s : State), objCheck s 2 b = if ownerBodyOk s b = false then 2
    else if signedUnder (padTo 64 s.sec.fuses.ownerRoot) b = false then 3
    else if ownerSerial b ≤ ownerSerial s.sec.owner then 5 else 0) ∧
  (∀ (count from_ next : Nat), transitionOk count from_ next = true ↔ (next = 4 ∧ from_ ≠ 4) ∨
    (count < 120 ∧ ((from_ = 0 ∧ next = 1) ∨ (from_ = 1 ∧ next = 2) ∨ (from_ = 2 ∧ next = 3) ∨ (from_ = 3 ∧ next = 2)))) ∧
  (∀ (p : Port) (s : State), s.live = true → Reaches p 0xB00020 s → s.sec.loader = none →
    let kind := s.rg .SEC_LOAD_CTRL_KIND 0
    (s.sec.verified = none → exec (.secLoadCommit p) s = .next (loadFailed p.idx kind Status.badCommand 0 s)) ∧
    (∀ b, s.sec.verified = some (kind, b) → kindAllowed s kind = true → exec (.secLoadCommit p) s =
      .next (onSec (fun x => { x with loader := some { port := p.idx, kind := kind, phase := 3, len := b.length, bytes := b,
                                                       got := b.length, bad := false } }) s)) ∧
    (∀ k b, s.sec.verified = some (k, b) → k ≠ kind →
      exec (.secLoadCommit p) s = .next (loadFailed p.idx kind Status.badCommand 0 s))) ∧
  (∀ (l : Loader) (s : State), s.live = true → s.sec.loader = some l → l.phase = 3 →
    let u := onSec (fun x => { x with loader := none }) s
    exec (.secCommitDone false) s = .next (freeTaken (loadResult l.port (openCode u) 0 u)) ∧ 1 ≤ openCode u ∧ openCode u < 16 ∧
    (∃ t, exec (.secCommitDone true) s = .next (raise 0x0B04 none [(1, l.kind)] t) ∧
      (l.kind = 1 → t.sec.flash.firmware = l.bytes) ∧ (l.kind = 2 → t.sec.flash.owner = l.bytes) ∧
      (l.kind = 3 → t.sec.lcPending = some l.bytes) ∧ t.sec.fuses = s.sec.fuses ∧ t.sec.loader = none ∧
      t.rg .SEC_LOAD_STATUS_STATUS l.port = Status.ok ∧ t.rg .SEC_LOAD_STATUS_DONE l.port = 1)) ∧
  (∀ (p : Port) (s : State), s.live = true → Reaches p 0xB00030 s →
    exec (.attest p) s = .next (onSec (fun x => { x with attest := put p.idx { nonce := nonceOf s p.idx } x.attest }) s)) ∧
  (∀ (p : Port) (a : Attest) (s : State), s.live = true → look p.idx s.sec.attest = some a →
    let body := padTo 512 (reportBody s p.idx a.nonce)
    ∃ u, exec (.attestDone p) s = .next (raise 0x0B06 none [(1, p.idx)] u) ∧
      look p.idx u.sec.reports = some (body ++ padTo 4627 (Config.mlDsaSign s.sec.fuses.idSeed (digestOf body)) ++ zeros 45) ∧
      look p.idx u.sec.attest = none ∧ u.rg .SEC_ATTEST_DONE p.idx = 1 ∧ SameRegs [.SEC_ATTEST_DONE] s u ∧ SameMem s u)

/-- SESSION_LOAD, SESSION_LOAD_DONE, SESSION_UNLOAD, KEY_SWITCH, RETIRE, FORCE_RETIRE and REKEY_PAGE. A SESSION_LOAD
in DEPLOYED or SERVICE, of a free index and a valid carriage, begins a decapsulation; its end installs the session
with its key, port and carriage and event 0x0B07, or answers BAD_COMMAND with event 0x0B08; any other load is
ACCESS_DENIED (R499, R500). An UNLOAD is done for the loading port alone, while no queue uses the session. A
KEY_SWITCH entry makes its slot current for its carriage and takes it off the retired list, with event 0x0B0A, unless
the slot is another owner's, current already, holds another carriage's pages, or the node is not DEPLOYED: then event
0x0B09 names the cause (R504). RETIRE needs semaphore 1 and an IDLE slot, FORCE_RETIRE a DRAINING one (R506, R507).
REKEY_PAGE moves one page of a DRAINING slot to its carriage's current slot; without one event 0x0B10 is recorded
(R506). Decapsulation is uninterpreted (log entry 5); the choices are log entry 24. Rests on spec/15_security.md. -/
def Obligations.SessionsAndKeySlotsAreKept : Prop :=
  (∀ (p : Port) (s : State), s.live = true → Reaches p 0xB00080 s →
    let i := s.rg .SEC_SESSION_CTRL_INDEX 0
    let c := s.rg .SEC_SESSION_CTRL_CARRIAGE 0
    (s.lc ≠ 2 → s.lc ≠ 3 → exec (.sessionLoad p) s =
      .next (raise 0x0B11 none [] (raise 0x0B08 none [] (sessionResult p.idx Status.accessDenied s)))) ∧
    (s.lc = 2 ∨ s.lc = 3 →
      (look i s.sec.sessions ≠ none ∨ s.im.carValid c = false → exec (.sessionLoad p) s =
        .next (raise 0x0B08 none [] (sessionResult p.idx Status.accessDenied s))) ∧
      (look i s.sec.sessions = none → s.im.carValid c = true → exec (.sessionLoad p) s =
        .next (onSec (fun x => { x with sessionLoads := put p.idx (i, c, lookD p.idx [] x.kemct) x.sessionLoads }) s)))) ∧
  (∀ (p : Port) (i c : Nat) (ct : List Byte) (s : State), s.live = true → look p.idx s.sec.sessionLoads = some (i, c, ct) →
    let u := onSec (fun x => { x with sessionLoads := del p.idx x.sessionLoads }) s
    look i s.sec.sessions = none → s.im.carValid c = true →
    exec (.sessionLoadDone p) s = .next (match Config.kemDecap s.sec.kem (padTo 1568 ct) with
      | none => raise 0x0B08 none [] (sessionResult p.idx Status.badCommand u)
      | some secret => sessionInstall p.idx i c (sessionKey s secret i p.idx) u)) ∧
  (∀ (p i c : Nat) (key : List Byte) (s : State), let t := sessionInstall p i c key s
    look i t.sec.sessions = some (p, c) ∧ look i t.sec.sessionKeys = some key ∧ look i t.que.sealCtr = none ∧
    t.rg .SEC_SESSION_RESULT_STATUS p = Status.ok ∧ t.rg .SEC_SESSION_RESULT_DONE p = 1 ∧
    (∀ j, j ≠ i → look j t.sec.sessions = look j s.sec.sessions)) ∧
  (∀ (p : Port) (o c : Nat) (s : State), s.live = true → Reaches p 0xB00080 s →
    let i := s.rg .SEC_SESSION_CTRL_INDEX 0
    look i s.sec.sessions = some (o, c) →
    (o ≠ p.idx ∨ sessionUsed s i = true → exec (.sessionUnload p) s = .next (sessionResult p.idx Status.accessDenied s)) ∧
    (o = p.idx → sessionUsed s i = false → exec (.sessionUnload p) s =
      .next (sessionResult p.idx Status.ok (raise 0x0B07 (some c) [(2, i), (1, c)] (onSec (sessionDrop i) s))))) ∧
  (∀ (i : Fin 256) (e : Evt) (s : State), s.live = true → s.evt i.val = some e → evtFires s i.val 2 = true →
    let u := evtFired i.val s
    (∀ cause, switchCause u e.car e.arg = cause → cause ≠ 0 →
      exec (.keySwitch i) s = .next (raise 0x0B09 (some e.car) [(2, i.val), (1, cause)] u)) ∧
    (switchCause u e.car e.arg = 0 → ∃ v, exec (.keySwitch i) s =
        .next (raise 0x0B0A (some e.car) [(1, e.car), (1, s.currentSlot e.car), (1, e.arg)] v) ∧
      look e.car v.sec.current = some e.arg ∧ e.arg ∉ v.sec.retired ∧ (∀ c, c ≠ e.car → look c v.sec.current = look c s.sec.current) ∧
      SameRegs [] u v ∧ SameMem s v)) ∧
  (∀ (c k : Nat) (s : State), switchCause s c k =
    if bit (s.im.keySlots c) k = false ∨ 32 ≤ k then 1 else if s.currentSlot c = k then 2
    else if s.seq.pages.any (fun p => p.2.keySlot == k && p.2.car != c) = true then 3 else if s.lc = 2 then 0 else 4) ∧
  (∀ (p : Port) (s : State), s.live = true → Reaches p 0xB00090 s →
    let k := s.rg .SEC_KEY_CTRL_SLOT 0
    ∃ t, exec (.retire p) s = .next t ∧ SameMem s t ∧ t.rg .SEC_KEY_RESULT_DONE p.idx = 1 ∧
      (s.holdsSem p.idx 1 = true → slotState s k = 0 → t.sec.retired = addSet k s.sec.retired ∧
        t.rg .SEC_KEY_RESULT_STATUS p.idx = Status.ok ∧ ∃ u, t = result .SEC_KEY_RESULT_STATUS .SEC_KEY_RESULT_DONE p.idx Status.ok
          (raise 0x0B0C none [] u)) ∧
      (s.holdsSem p.idx 1 = false ∨ slotState s k ≠ 0 → t.sec = s.sec ∧ t.rg .SEC_KEY_RESULT_STATUS p.idx = Status.accessDenied)) ∧
  (∀ (p : Port) (s : State), s.live = true → Reaches p 0xB80004 s → s.expertOpen p.idx 11 = true →
    let k := s.rg .SEC_X_FORCE_SLOT 0
    (s.holdsSem p.idx 1 = true → slotState s k = 2 → exec (.forceRetire p) s =
      .next (raise 0x0B12 none [] (onSec (fun x => { x with retired := addSet k x.retired }) s))) ∧
    (s.holdsSem p.idx 1 = false ∨ slotState s k ≠ 2 → exec (.forceRetire p) s = .next (raise 0x0B0D none [] s))) ∧
  (∀ (page : BitVec 32) (g : Page) (s : State), s.live = true → look page.toNat s.seq.pages = some g →
    (s.rg .SEC_X_SWEEP_HOLD 0 = 1 ∨ g.loc = .cold ∨ g.moving = true ∨ slotState s g.keySlot ≠ 2 →
      exec (.rekeyPage page) s = .next s) ∧
    (s.rg .SEC_X_SWEEP_HOLD 0 ≠ 1 → g.loc ≠ .cold → g.moving = false → slotState s g.keySlot = 2 →
      (look g.car s.sec.current = none → exec (.rekeyPage page) s = .next (raiseFirst 0x0B10 g.car (some g.car) [] s)) ∧
      (∀ k, look g.car s.sec.current = some k → rekeyable s g = true → exec (.rekeyPage page) s =
        .next (slotLeft g.keySlot (onPage page.toNat (fun g => { g with keySlot := k }) s))))) ∧
  (∀ (p k : Nat) (g : Page) (s : State), look p s.seq.pages = some g →
    look p (onPage p (fun g => { g with keySlot := k }) s).seq.pages = some { g with keySlot := k })

/-- JOB_ABORT, JOB_RELEASE, HOLD_EXPIRE, STEP, STEP_FORGET, SEND_NOTICE, PEER_LOST, CLEAR_STEPS, CLEAR_HOLDS and
FIRMWARE_HALT. JOB_ABORT holds every sequence it names from now on, ends ABORTED the appends, forks, parks and resumes
of its carriage on them, frees their watchers, is recorded and answers both counts; more than 4,096 holds are refused
with reason 51 (R522). JOB_RELEASE and the expiry of RAS_HOLD_US end holds (R523). A STEP with no record makes one and
runs its list, one whose record is DONE answers from it without running, and a full table refuses with reason 50;
STEP_FORGET drops the DONE records of its upper half (R525, R526). A notice goes out once per cause and detail in a
frame, while time and NOTICE_EN allow (R517, R519). PEER_LOST is sent once every link to the peer has been down for
RAS_PEER_WAIT (R518). The expert clears drop DONE steps and all holds (R531). FIRMWARE_HALT is a fatal fault, which
stops the node (R516). Choices are log entry 25. Rests on spec/16_faults.md. -/
def Obligations.JobsStepsAndNoticesAreKept : Prop :=
  (∀ (k : Nat) (c : Cmd) (s : State), Started k 0 0x10 c s →
    (jobRange c.bytes = false → exec (.jobAbort k) s = .next (complete k Status.badCommand 0 0 s)) ∧
    (u8 c.bytes 12 = 1 → exec (.jobAbort k) s = .next (jobAbortRun k c (jobSeqs s (Op.car c.bytes) 1 []) s)) ∧
    (u8 c.bytes 12 = 0 → jobRange c.bytes = true →
      (c.phase = 0 → exec (.jobAbort k) s =
        .next (hostRead k (u64 c.bytes 16) (4 * u16 c.bytes 14) (setCmd k { c with phase := 1 } s))) ∧
      (∀ d, c.phase = 1 → c.want = 0 → c.dataStep s (4 * u16 c.bytes 14) true c.buf = .have_ d → exec (.jobAbort k) s =
        .next (jobAbortRun k c (jobSeqs s (Op.car c.bytes) 0 (d.take (4 * u16 c.bytes 14))) s)))) ∧
  (∀ (k : Nat) (c : Cmd) (l : List Nat) (s : State),
    let car := Op.car c.bytes
    let ends := keys (s.que.started.filter (abortEnds car l))
    (4096 < holdCount s car l → jobAbortRun k c l s = completeReason k Status.accessDenied 51 (raise 0x0C08 (some car) [] s)) ∧
    (holdCount s car l ≤ 4096 → jobAbortRun k c l s = complete k Status.ok 0 (ends.length + l.length * 2 ^ 32)
      (raise 0x0C05 (some car) [(1, car), (4, l.length), (4, ends.length)]
        (abortWatches car l (forEach ends abortOne (holdAll car l s)))))) ∧
  (∀ (car q : Nat) (l : List Nat) (s : State), q ∈ l → (holdAll car l s).seqHeld car q = true ∧
    (holdAll car l s).que = s.que ∧ SameMem s (holdAll car l s)) ∧
  (∀ (car : Nat) (l : List Nat) (k : Nat) (c : Cmd), abortEnds car l (k, c) = true → Op.engine c.bytes = 1 ∧ Op.car c.bytes = car ∧
    (Op.opcode c.bytes = 0x26 ∨ Op.opcode c.bytes = 0x22 ∨ Op.opcode c.bytes = 0x30 ∨ Op.opcode c.bytes = 0x31)) ∧
  (∀ (k : Nat) (s : State), (s.parkOf k = none → abortOne k s = complete k Status.aborted 0 0 s) ∧
    (s.parkOf k ≠ none → abortOne k s = parkFail k Status.aborted 0 none s)) ∧
  (∀ (k : Nat) (c : Cmd) (s : State), Started k 0 0x11 c s → u8 c.bytes 12 = 1 →
    let mine := fun (h : Hold) => h.car == Op.car c.bytes && decide (h.seq ∈ (s.ras.holds.filter (fun h => h.car == Op.car c.bytes)).map (fun h => h.seq))
    exec (.jobRelease k) s = .next (complete k Status.ok 0 (countOf mine s.ras.holds) (endHolds mine s))) ∧
  (∀ (p : Hold → Bool) (s : State), (endHolds p s).ras.holds = s.ras.holds.filter (fun h => !p h)) ∧
  (∀ (seq : BitVec 32) (s : State), s.live = true → ∃ t, exec (.holdExpire seq) s = .next t ∧
    t.ras.holds = s.ras.holds.filter (fun h => !(h.seq == seq.toNat && decide (h.since + max 1 (s.rg .RAS_HOLD_US_US 0) * 1000 ≤ s.clk))) ∧
    SameRegs evrCells s t ∧ SameMem s t) ∧
  (∀ (k : Nat) (c : Cmd) (s : State), Started k 0 0x12 c s →
    let car := Op.car c.bytes
    let id := stepId c.bytes
    (stepRec s car id = none → stepFree s car = true → exec (.step k) s = .next (stepSweep k (listStep k c
      (onRas (fun x => { x with steps := x.steps ++ [{ car := car, id := id, done := none, cmd := k }] }) s)))) ∧
    (stepRec s car id = none → stepFree s car = false → exec (.step k) s =
      .next (stepSweep k (completeReason k Status.accessDenied 50 (raise 0x0C08 (some car) [] s)))) ∧
    (∀ r a, stepRec s car id = some r → r.done = some a → exec (.step k) s =
      .next (stepSweep k (complete k a.1 1 a.2 (raiseCar 0x0C07 car [(8, id)] (bump .RAS_C_REPLAYED_COUNT car 1 s))))) ∧
    (∀ r, stepRec s car id = some r → r.done = none → r.cmd = k → exec (.step k) s = .next (stepSweep k (listStep k c s)))) ∧
  (∀ (k status result : Nat) (r : StepRec) (s : State), r ∈ s.ras.steps → r.cmd = k → r.done = none →
    (status = Status.ok → { r with done := some (status, result) } ∈ (stepEnd k status result s).ras.steps) ∧
    (status ≠ Status.ok → ∀ x ∈ (stepEnd k status result s).ras.steps, ¬ (x.cmd = k ∧ x.done = none))) ∧
  (∀ (k : Nat) (c : Cmd) (s : State), Started k 0 0x13 c s →
    let p := fun (r : StepRec) => r.car == Op.car c.bytes && r.id / 2 ^ 32 == u32 c.bytes 12 && r.done.isSome
    exec (.stepForget k) s = .next (complete k Status.ok 0 (countOf p s.ras.steps)
      (onRas (fun x => { x with steps := x.steps.filter (fun r => !p r) }) s))) ∧
  (∀ (p : Port) (s : State), s.live = true → Reaches p 0xC00028 s → exec (.sendNotice p) s =
    .next (notice 0x0B (bitsOf 16 (s.rg .RAS_SEND_CARRIAGES 0))
      (s.rg .RAS_SEND_DETAIL_LO_DETAIL_LO 0 + s.rg .RAS_SEND_DETAIL_HI_DETAIL_HI 0 * 2 ^ 32) s)) ∧
  (∀ (cause : Nat) (cars : List Nat) (detail : Nat) (s : State),
    ((cause, detail, s.frame) ∈ s.ras.sentNotices → notice cause cars detail s = s) ∧
    (s.timeServes = false → cause ≠ 1 → notice cause cars detail s = s) ∧
    (s.rg .RAS_CTRL_NOTICE_EN 0 ≠ 1 → cause ≠ 1 → cause ≠ 0x0C → notice cause cars detail s = s) ∧
    (s.rg .RAS_CTRL_NOTICE_EN 0 = 1 → s.timeServes = true → (cause, detail, s.frame) ∉ s.ras.sentNotices →
      ∃ u, notice cause cars detail s = notifyBoth (raise 0x0C01 none [(1, cause), (2, bitMap cars), (8, detail)] u) ∧
        u.rg .RAS_LAST_TX_CAUSE 0 = cause % 2 ^ RN.width .RAS_LAST_TX_CAUSE)) ∧
  (∀ (node : BitVec 12) (s : State), s.live = true →
    let x := node.toNat
    let down := s.rg .RAS_CTRL_PEER_NOTICE 0 = 1 ∧ linksTo s x ≠ [] ∧ x ∉ s.ras.lostPeers ∧ ∀ l ∈ linksTo s x,
      (s.link l).open_ = false ∧ (s.link l).downAt + max 1 (s.rg .RAS_PEER_WAIT_MS 0) * 1000000 ≤ s.clk
    (¬ down → exec (.peerLost node) s = .next s) ∧
    (down → exec (.peerLost node) s = .next (noticeAll 0x04 x (raise 0x0C03 none [(2, x), (1, bitMap (linksTo s x))]
      (onRas (fun r => { r with lostPeers := r.lostPeers ++ [x] }) s))))) ∧
  (∀ (p : Port) (s : State), s.live = true → Reaches p 0xC80000 s → s.expertOpen p.idx 12 = true →
    exec (.clearSteps p) s = .next (raise 0x0C09 none [] (onRas (fun x => { x with steps := x.steps.filter (fun r => r.done.isNone) }) s)) ∧
    exec (.clearHolds p) s = .next (raise 0x0C09 none [] (onRas (fun x => { x with holds := [] }) s))) ∧
  (∀ s : State, s.live = true → exec .firmwareHalt s = .next (fatalFault 1 0x0C 1 s)) ∧
  (∀ (cause nc detail : Nat) (s : State), (s.start.stopped = true → fatalFault cause nc detail s = s) ∧
    (s.start.stopped = false → (fatalFault cause nc detail s).start.stopped = true ∧
      (fatalFault cause nc detail s).ras.fatal = some cause ∧ (fatalFault cause nc detail s).live = false ∧
      (cause ≠ 1 → (fatalFault cause nc detail s).start.writing ≠ none)))

/-- SEQ_PARK, CHECKPOINT, PARK_TRANSFER_START, PARK_COMPLETE and PARK_XFER. An accepted park waits for its checkpoint
or starts at once; one that is refused ends with its status and reason (R338, R339). Its start checks the sequence and
the room, takes a whole WARM or a COLD park to PARKING and is recorded as 0x0420; a firing CHECKPOINT starts every
park of its carriage that waits on its ID, at the entry's FT (R339, R340). When the work begun before it has ended,
and the carriage's gathers and page moves leave it its turn (R198, R199), the pages of a WARM park move to CXL in
order, those of a host image are checked and written; every sealed page of the image is checked against its digest,
those that stay in TIER 1 too (R347); a page that cannot be read, or a lack of frames, ends the park, the sequence has
its former state and nothing is freed (R340, R342, R345). At the end the header is written last and the sequence is
PARKED_WARM, PARKED_COLD, or unchanged for a slice or a snapshot; a COLD park leaves its unshared pages in TIER 2
(R342 to R344). A PARK_XFER that names a warm image and lies inside it is answered with the bytes, else with NAK
(R401). Choices are log entry 21. Rests on spec/10_parking.md. -/
def Obligations.SequencesAreParkedAndRead : Prop :=
  (∀ (k : Nat) (c : Cmd) (q : Seqd) (s t : State), OwnSeq k 1 0x30 none c q s t → s.parkOf k = none →
    let x : Park := { seq := Op.seqId c.bytes, waiting := true, was := q.st, cut := 0, desc := [], works := [], coaches := [],
                      moving := false, pages := [], entries := [], len := 0, ckpt := Pk.ckpt c.bytes }
    let u := onPark (fun y => { y with parks := put k x y.parks }) t
    (∀ f, parkAcceptFault t c q = some f → exec (.seqPark k) s = .next (completeReason k f.1 f.2 t)) ∧
    (parkAcceptFault t c q = none → exec (.seqPark k) s = .next (if Pk.atCkpt c.bytes = true then u else parkStart k u.ft u))) ∧
  (∀ (c : Cmd) (q : Seqd) (s : State), Pk.mode c.bytes = 0 → Pk.layers c.bytes = 0 → Pk.atCkpt c.bytes = false → q.protected_ = false →
    parkAcceptFault s c q = if q.parked = true then some (Status.frozen, 0)
      else if s.seqHeld q.car (Op.seqId c.bytes) = true then some (Status.aborted, 0) else none) ∧
  (∀ (k cut : Nat) (c : Cmd) (x : Park) (q : Seqd) (s : State), s.cmd k = some c → s.parkOf k = some x →
    look (Op.seqId c.bytes) s.seq.seqs = some q →
    (∀ f, parkStartFault s c.bytes q = some f → parkStart k cut s = parkFail k f.1 f.2 none s) ∧
    (parkStartFault s c.bytes q = none → ∃ y u, parkStart k cut s = parkEnter c.bytes (Op.seqId c.bytes)
        (raise 0x0420 (some q.car) [(4, Op.seqId c.bytes), (1, Pk.mode c.bytes), (4, Pk.image c.bytes)] u) ∧
      u.parkOf k = some y ∧ y.waiting = false ∧ y.was = q.st ∧ y.cut = cut ∧ y.desc = descBytes s (Op.seqId c.bytes) q ∧
      u.seq = s.seq ∧ SameRegs [] s u ∧ SameMem s u)) ∧
  (∀ (b : List Byte) (seq : Nat) (q : Seqd) (s : State), look seq s.seq.seqs = some q →
    look seq (parkEnter b seq s).seq.seqs = some (if Pk.whole b = true then { q with st := 3 } else q)) ∧
  (∀ (i : Fin 256) (e : Evt) (s : State), s.live = true → s.evt i.val = some e → evtFires s i.val 3 = true →
    exec (.checkpoint i) s = .next (forEach (parksWaiting (evtFired i.val s) e.car e.arg) (fun k => parkStart k e.ft) (evtFired i.val s))) ∧
  (∀ (s : State) (car ckpt k : Nat), k ∈ parksWaiting s car ckpt → ∃ x, (k, x) ∈ s.park.parks ∧ x.waiting = true ∧ x.ckpt = ckpt) ∧
  (∀ (k : Nat) (c : Cmd) (x : Park) (q : Seqd) (s : State), s.live = true → s.cmd k = some c → s.parkOf k = some x →
    look x.seq s.seq.seqs = some q → x.waiting = false → x.moving = false →
    ((∃ w ∈ x.works, has w s.que.started = true) ∨ (∃ i ∈ x.coaches, has i s.fox.coaches = true) ∨ pagesBusy s q = true ∨
        transferMayRun s q.car = false → exec (.parkTransferStart k) s = .next s) ∧
    ((∀ w ∈ x.works, has w s.que.started = false) → (∀ i ∈ x.coaches, has i s.fox.coaches = false) → pagesBusy s q = false →
      transferMayRun s q.car = true → exec (.parkTransferStart k) s = .next (if Pk.mode c.bytes ≠ 0 ∧ s.portUp (qPort c.q) = false
        then parkFail k Status.aborted 0 none (noteLost c s) else parkTransfer k c x q s))) ∧
  (∀ (k : Nat) (c : Cmd) (x : Park) (q : Seqd) (s : State),
    let r := if Pk.mode c.bytes = 0 then warmTransfer c.bytes q s
      else parkReads (fun s x => (parkPack s q x).isSome) q (parkPages s q (parkLimit c.bytes)) s
    (∀ f, r.1 = some f → parkTransfer k c x q s = parkFail k f.1 f.2.1 (some f.2.2) r.2) ∧
    (r.1 = none → let lay := parkLay r.2 c.bytes q
      (parkTransfer k c x q s).parkOf k = some { x with
        moving := true, pages := (parkPages r.2 q (parkLimit c.bytes)).map (fun p => p.page), entries := lay.1,
        len := imageLen (lay.1.length / 128) lay.2 })) ∧
  (∀ (b : List Byte) (q : Seqd) (s : State), let r := warmMoves q (parkMoves s b q) s
    (∀ f, r.1 = some f → (warmTransfer b q s).1 = some f) ∧
    (r.1 = none → warmTransfer b q s = parkReads (fun _ _ => false) q (parkStays s b q) r.2)) ∧
  (∀ (s : State) (b : List Byte) (q : Seqd) (x : ParkPage), Pk.slice b = false → x ∈ parkPages s q none →
    (∃ y ∈ parkMoves s b q, y.page = x.page) ∨ x ∈ parkStays s b q) ∧
  (∀ (packs : State → ParkPage → Bool) (q : Seqd) (x : ParkPage) (r : List ParkPage) (st : Nat) (s : State),
    (parkReadFault s x (packs s x) = some st → parkReads packs q (x :: r) s = (some (st, 0, x.page), noteParkRead q x st s)) ∧
    (parkReadFault s x (packs s x) = none → parkReads packs q (x :: r) s = parkReads packs q r (notePage x.g 0 s.im.frameSize s)) ∧
    (parkReadFault s x (parkTable s q x.g).isSome = some st →
      warmMoves q (x :: r) s = (some (st, 0, x.page), noteParkRead q x st s))) ∧
  (∀ (x : ParkPage) (packs : Bool) (s : State), x.g.sealed_ = true → pageDigest s x.g ≠ x.g.digest → keyFault s x.g = none →
    (x.g.comp = true ∨ packs = true → bufferServes s (locHalf s x.g.loc) = true) →
    parkReadFault s x packs = some Status.uncorrectable) ∧
  (∀ (k status reason : Nat) (page : Option Nat) (x : Park) (q : Seqd) (s : State), s.parkOf k = some x → x.waiting = false →
    look x.seq s.seq.seqs = some q → ∃ u car, parkFail k status reason page s = completeReason k status reason
        (raise 0x0422 car ([(4, x.seq), (1, status)] ++ page.toList.map (fun p => (4, p))) u) ∧
      u.parkOf k = none ∧ look x.seq u.seq.seqs = some (if q.st = 3 then { q with st := x.was } else q) ∧
      u.seq.pages = s.seq.pages ∧ u.seq.frames = s.seq.frames ∧ SameRegs [] s u ∧ SameMem s u) ∧
  (∀ (k : Nat) (c : Cmd) (x : Park) (q : Seqd) (s : State), s.live = true → s.cmd k = some c → s.parkOf k = some x →
    look x.seq s.seq.seqs = some q → x.moving = true → Pk.slice c.bytes = false →
    let h := headerBytes s c x
    (Pk.mode c.bytes = 0 → exec (.parkComplete k) s = .next (warmEnd k x q h s)) ∧
    (Pk.mode c.bytes = 1 → exec (.parkComplete k) s = .next (parkDone k x q.car x.len
      (onSeqd x.seq (fun q => { q with st := 5 }) (coldPages x.seq q (writeHeader k c x h s))))) ∧
    (Pk.mode c.bytes = 2 → exec (.parkComplete k) s = .next (parkDone k x q.car x.len (writeHeader k c x h s)))) ∧
  (∀ (k : Nat) (x : Park) (q : Seqd) (h : List Byte) (s : State), warmEnd k x q h s =
    match writeWarm q.car k (h ++ x.entries) (imageFrames s (x.entries.length / 128)) s with
    | none => parkFail k Status.accessDenied 2 none s
    | some r => parkDone k x q.car x.len (onSeqd x.seq (fun q => { q with st := 4 })
        (onPark (fun y => { y with warm := put x.seq { car := q.car, pages := x.pages, frames := r.1 } y.warm }) r.2))) ∧
  (∀ (k car len : Nat) (x : Park) (s : State), parkDone k x car len s = complete k Status.ok 0 len
    (raise 0x0421 (some car) [(4, x.seq), (8, len)] (onPark (fun y => { y with parks := del k y.parks }) s))) ∧
  (∀ (p : Nat) (g : Page) (s : State), look p s.seq.pages = some g →
    ∃ g', look p (coldPage p s).seq.pages = some g' ∧ g'.loc = .cold ∧ g'.stored = 0 ∧ g'.refs = g.refs) ∧
  (∀ (src : BitVec 12) (op : BitVec 32) (e : RxEntry) (s : State), Waits (src.toNat, op.toNat) 12 e s →
    let m := e.message
    (∀ f, xferFault s e m = some f → f.1 ≠ Status.keyRetired →
      exec (.parkXfer src op) s = .next (nakMsg (src.toNat, op.toNat) e f.1 f.2 0 s)) ∧
    (∀ q w, xferFault s e m = none → xferImage s m = some (q, w) →
      let u := noteXfer w (u64 m 8) (u32 m 16) s
      exec (.parkXfer src op) s = .next (if xferReadable u w (u64 m 8) (u32 m 16) = true
        then respond (src.toNat, op.toNat) e (warmSpan u q w (u32 m 4) (u64 m 8) (u32 m 16)) u
        else nakMsg (src.toNat, op.toNat) e Status.uncorrectable 0 0 u)))

/-- SEQ_RESUME. A resume whose operands, node set or descriptor do not fit is refused with the reasons of Table PARK-8
(R348, R349). ABANDON frees the sequence; LAST ends the resume: with pages missing it answers BAD_COMMAND with reason
21 and their number, else the sequence is ACTIVE, or FROZEN as its image says, its warm image goes and event 0x0423 is
recorded (R352, R353). A fetched image is checked: header, then the entry array's digest; a failed check ends it with
event 0x0424 and nothing imported, a passed one makes or keeps the descriptor in RESUMING (R349, R508). A page that
the resume has imported is not imported again; one whose bytes do not bear out its digest ends the import
UNCORRECTABLE, and the pages of that source are released, of a warm image too; any other failure keeps, counts and
reports those imported (R350, R351). Imports wait for the carriage's gathers and page moves (R198, R199). The stages
are log entry 8, the choices log entry 21. Rests on spec/10_parking.md, spec/15_security.md. -/
def Obligations.SequencesAreResumedFromTheirSources : Prop :=
  (∀ (k : Nat) (c : Cmd) (s : State), Started k 1 0x31 c s → c.phase = 0 →
    (∀ f, resumeFault s c.bytes = some f → exec (.seqResume k) s = .next (completeReason k f.1 f.2 s)) ∧
    (resumeFault s c.bytes = none →
      (Rs.abandon c.bytes = true → exec (.seqResume k) s = .next (complete k Status.ok 0 0 (freeSeq (Op.seqId c.bytes) s))) ∧
      (Rs.abandon c.bytes = false → Rs.source c.bytes = 3 → exec (.seqResume k) s = .next (resumeLast k 0 s)) ∧
      (∀ w, Rs.abandon c.bytes = false → Rs.source c.bytes = 0 → Rs.slice c.bytes = false →
        look (Op.seqId c.bytes) s.park.warm = some w → exec (.seqResume k) s =
          .next (if transferMayRun s (Op.car c.bytes) = true then warmWhole k c w s else s)) ∧
      (∀ q, Rs.abandon c.bytes = false → Rs.source c.bytes = 0 → Rs.slice c.bytes = true →
        look (Op.seqId c.bytes) s.seq.seqs = some q → exec (.seqResume k) s =
          .next (if transferMayRun s (Op.car c.bytes) = true then warmSlice k c q s else s)) ∧
      (Rs.abandon c.bytes = false → Rs.source c.bytes = 1 → ∃ t, exec (.seqResume k) s = .next t ∧
        t = askStage k (setCmd k { c with phase := 1 } s)) ∧
      (Rs.abandon c.bytes = false → Rs.source c.bytes = 2 → exec (.seqResume k) s = .next (setCmd k { c with phase := 1 } s)))) ∧
  (∀ (b : List Byte) (q : Seqd) (s : State), look (Op.seqId b) s.seq.seqs = some q → Op.seqId b ≠ 0 → Rs.node b ≤ 4095 →
    Rs.source b = 3 → Rs.last b = true → Rs.abandon b = false →
    resumeFault s b = if setUsable s (Op.car b) (Rs.nodeset b) = false then some (Status.badCommand, 26)
      else if q.st < 6 ∨ q.nodeset ≠ Rs.nodeset b ∨ resumePermits s b q = false then some (Status.badCommand, 25)
      else if q.car ≠ Op.car b then some (Status.accessDenied, 0) else none) ∧
  (∀ (b : List Byte) (q : Seqd) (r : Resume) (s : State), look (Op.seqId b) s.park.resumes = some r → q.st = 6 →
    r.image ≠ Rs.image b → Rs.slice b = false → resumePermits s b q = false) ∧
  (∀ (b : List Byte) (s : State), look (Op.seqId b) s.seq.seqs = none → Op.seqId b ≠ 0 → Rs.node b ≤ 4095 →
    Rs.source b = 1 ∨ Rs.source b = 2 → Rs.abandon b = false → Rs.slice b = false → has (Op.seqId b) s.seq.busy = false →
    resumeFault s b = if setUsable s (Op.car b) (Rs.nodeset b) = false then some (Status.badCommand, 26) else none) ∧
  (∀ (k n : Nat) (c : Cmd) (q : Seqd) (r : Resume) (s : State), s.cmd k = some c → look (Op.seqId c.bytes) s.seq.seqs = some q →
    look (Op.seqId c.bytes) s.park.resumes = some r →
    let seq := Op.seqId c.bytes
    let m := missingPages s seq q r.pos
    (m ≠ 0 → resumeLast k n s = complete k Status.badCommand 0 (n + min m 16777215 * 2 ^ 32 + 21 * 2 ^ 56)
      (raise 0x0425 (some q.car) [(4, m)] s)) ∧
    (m = 0 → resumeLast k n s = complete k Status.ok 0 n (raise 0x0423 (some q.car) [(4, seq), (4, r.imported)]
      (onPark (fun x => { x with resumes := del seq x.resumes }) (dropWarm seq (onSeqd seq (fun q => { q with
        st := if r.frozen then 2 else 1, freeze := if r.frozen then r.freeze else 0xFFFFFFFF, cold := 0 }) s)))))) ∧
  (∀ (k : Nat) (c : Cmd) (s : State), Started k 1 0x31 c s → Rs.source c.bytes = 1 →
    (c.phase ≠ 0 → c.want ≠ 0 → exec (.seqResume k) s = .next s) ∧
    (∀ i, c.phase ≠ 0 → c.want = 0 → fetchedHead s c = .error i → exec (.seqResume k) s = .next (recordLost k c i s)) ∧
    (∀ h, c.phase = 1 → c.want = 0 → fetchedHead s c = .ok h →
      (∀ f, headerFault s c h = some f → exec (.seqResume k) s = .next (resumeRefuse k c f.1 f.2.1 f.2.2 s)) ∧
      (headerFault s c h = none → exec (.seqResume k) s = .next (askStage k (setCmd k { c with phase := 2 } s)))) ∧
    (∀ h es, c.phase = 2 → c.want = 0 → fetchedHead s c = .ok h → fetchedArray s c h = .ok es → resumeFault s c.bytes = none →
      (∀ f, arrayFault s c h es = some f → exec (.seqResume k) s = .next (resumeRefuse k c f.1 f.2.1 f.2.2 s)) ∧
      (arrayFault s c h es = none → exec (.seqResume k) s = .next (match acceptSource c h s with
          | .error f => completeReason k f.1 f.2 s
          | .ok t => askStage k (setCmd k { c with
              phase := 3, note := ((look (Op.seqId c.bytes) t.seq.seqs).map (fun q => neededEntries t (Op.seqId c.bytes) q (entriesOf es))).getD [] } t)))) ∧
    (∀ h es, c.phase = 3 → c.want = 0 → fetchedHead s c = .ok h → fetchedArray s c h = .ok es →
      (transferMayRun s (Op.car c.bytes) = false → exec (.seqResume k) s = .next s) ∧
      (∀ pages, transferMayRun s (Op.car c.bytes) = true →
        takeSpans s c (Img.len h) (stageSpans s c).1 (stageSpans s c).2 = .ok pages →
        exec (.seqResume k) s = .next (importSource k c es pages s)))) ∧
  (∀ (c : Cmd) (h es : List Byte) (s : State),
    (digestOf es ≠ Img.table h → arrayFault s c h es = some (Status.uncorrectable, 0, 5)) ∧
    (digestOf es = Img.table h → has (Op.seqId c.bytes) s.seq.seqs = true → arrayFault s c h es = none)) ∧
  (∀ (c : Cmd) (h : List Byte) (q : Seqd) (s : State), look (Op.seqId c.bytes) s.seq.seqs = some q → ∃ t, acceptSource c h s = .ok t ∧
    look (Op.seqId c.bytes) t.seq.seqs = some { q with st := 6, lastAppend := 0 } ∧ t.seq.pages = s.seq.pages ∧ SameRegs [] s t) ∧
  (∀ (seq image i leaf : Nat) (q : Seqd) (e d : List Byte) (s : State), entryLeaf s q e = some leaf →
    (imported s seq q (Ent.layer e) leaf = true → ∃ t, importEntry seq image i q e d s = .ok (none, t) ∧ t = s) ∧
    (∀ raw, imported s seq q (Ent.layer e) leaf = false → entryRaw s q image i e d = .ok raw → entryDigestOk s q e raw = false →
      ∃ x, importEntry seq image i q e d s = .error x ∧ x = (Status.uncorrectable, 255))) ∧
  (∀ (q : Seqd) (e : List Byte) (s : State), q.layers ≤ Ent.layer e ∨ q.kv ≤ Ent.head e ∨ q.p < Ent.fill e ∨ Ent.fill e < Ent.view e →
    entryLeaf s q e = none) ∧
  (∀ (seq p : Nat) (r : Resume) (s : State), look seq s.park.resumes = some r →
    (look seq (markImported seq p s).park.resumes).map (fun x => decide (p ∈ x.got)) = some true ∧
    (look seq (unmarkImported seq p s).park.resumes).map (fun x => decide (p ∈ x.got)) = some false) ∧
  (∀ (k : Nat) (c : Cmd) (entries : List Byte) (pages : List (List Byte)) (s : State),
    let seq := Op.seqId c.bytes
    let r := importAll seq (Rs.image c.bytes) (entriesOf entries) (c.note.zip pages) [] s
    (r.1 = none → importSource k c entries pages s = sourceDone k r.2.1.length c (fixCounts seq r.2.2)) ∧
    (r.1 = some (Status.uncorrectable, 255) → importSource k c entries pages s =
      resumeRefuse k c Status.uncorrectable 0 6 (fixCounts seq (releaseImported seq r.2.1 r.2.2))) ∧
    (∀ x, r.1 = some x → x ≠ (Status.uncorrectable, 255) → importSource k c entries pages s =
      complete k x.1 0 (r.2.1.length + x.2 * 2 ^ 56)
        (noteImport (Op.car c.bytes) x (countImported seq r.2.1.length (fixCounts seq r.2.2))))) ∧
  (∀ (k : Nat) (c : Cmd) (w : WarmImage) (es : List (List Byte)) (q : Seqd) (s : State),
    let seq := Op.seqId c.bytes
    let ps := warmSources s seq q w es
    let r := warmAll seq q ps [] s
    (∀ p ∈ w.pages, ∀ g, look p s.seq.pages = some g → g.comp = false) →
    (r.1 = true → warmImport k c w es q s = sourceDone k ps.length c r.2.2) ∧
    (r.1 = false → warmImport k c w es q s =
      resumeRefuse k c Status.uncorrectable 0 6 (fixCounts seq (releaseImported seq r.2.1 r.2.2)))) ∧
  (∀ (k n : Nat) (c : Cmd) (s : State), sourceDone k n c s =
    if Rs.last c.bytes = true then resumeLast k n (countImported (Op.seqId c.bytes) n s)
    else complete k Status.ok 0 n (countImported (Op.seqId c.bytes) n s)) ∧
  (∀ (seq n : Nat) (r : Resume) (s : State), look seq s.park.resumes = some r →
    look seq (countImported seq n s).park.resumes = some { r with imported := r.imported + n })

/-- APPEND_SHADOW, LOG_READ, LOG_TRIM, AGE_TICK, DEMOTE and PROMOTE. An APPEND_SHADOW goes to the end of its
carriage's log and is answered OK; one that the log holds already is answered OK and not written again; with no frame
within the limit it is answered NO_PAGE, counted, recorded as 0x0428 and its loss is noted (R355). A bad one is
answered with its status. A node that holds no descriptor of the sequence logs its shadows too; their KV_HEADS is then
a free value (log entry 35). LOG_READ writes the entries of a sequence that reach above FROM, as many as fit; LOG_TRIM
discards those that end at or below BELOW (R356). AGE rises by one a frame, to 255, for every page that is not TIER 2
(R335). DEMOTE begins the move of the oldest sealed page of an ACTIVE or FROZEN sequence that no sequence always
includes, once free frames fall below LOW and until they reach HIGH, and stops with 0x0427 where no CXL frame is free
(R336). PROMOTE moves a TIER 1 page that a coach read, where free frames exceed HIGH (R337). The free frame taken is
log entry 11. Rests on spec/10_parking.md, spec/11_fabric_port.md. -/
def Obligations.LogsAgeAndTiersAreKept : Prop :=
  (∀ (src : BitVec 12) (op : BitVec 32) (e : RxEntry) (s : State), Waits (src.toNat, op.toNat) 4 e s → shadowWell s e.message = true →
    let m := e.message
    let key := (src.toNat, op.toNat)
    let x := logEntry s e m
    let u := if look (u32 m 0) s.seq.seqs = none then freeTaken s else s
    (∀ st, shadowFault s e m = some st → st ≠ Status.accessDenied → exec (.appendShadow src op) s = .next (ackMsg key e st 0 0 s)) ∧
    (shadowFault s e m = some Status.accessDenied → exec (.appendShadow src op) s = .next (nakMsg key e Status.accessDenied 0 0 s)) ∧
    (shadowFault s e m = none → s.park.log.any x.same = true → exec (.appendShadow src op) s = .next (ackMsg key e Status.ok 0 0 s)) ∧
    (shadowFault s e m = none → s.park.log.any x.same = false → exec (.appendShadow src op) s =
      .next (match logGrow e.car (logNeed u e.car x.bytes.length) u with
        | none => logFull src.toNat op.toNat e m u
        | some t => ackMsg key e Status.ok 0 0 (onPark (fun y => { y with log := y.log ++ [x] }) t)))) ∧
  (∀ (e : RxEntry) (m : List Byte) (q : Seqd) (s : State), look (u32 m 0) s.seq.seqs = some q →
    appendWell s.im q.kv (q.slot s.im) (q.scale s.im) m = true → 1 ≤ u8 m 6 → u8 m 6 ≤ 32 → u16 m 4 < q.layers →
    shadowFault s e m = if q.car ≠ e.car then some Status.accessDenied else if s.timeServes = false then some Status.timeHoldover
      else if s.seqHeld e.car (u32 m 0) = true then some Status.aborted else none) ∧
  (∀ (e : RxEntry) (m : List Byte) (s : State), look (u32 m 0) s.seq.seqs = none → 32 + 4 * u8 m 6 ≤ m.length → 1 ≤ u8 m 6 → u8 m 6 ≤ 32 →
    shadowFault s e m = if s.timeServes = false then some Status.timeHoldover
      else if s.seqHeld e.car (u32 m 0) = true then some Status.aborted else none) ∧
  (∀ (c n : Nat) (s t : State), logGrow c n s = some t → n ≤ s.rg .BDG_LOG_C_MAX_FRAMES c) ∧
  (∀ (src op : Nat) (e : RxEntry) (m : List Byte) (s : State), ∃ u, logFull src op e m s = ackMsg (src, op) e Status.noPage 0 0
      (notice 0x06 [e.car] (u32 m 0 + u16 m 24 % 4096 * 2 ^ 32) (raise 0x0428 (some e.car) [(4, u32 m 0), (2, u16 m 24 % 4096)] u)) ∧
    u.park.log = s.park.log ∧ (u32 m 0, u16 m 24 % 4096, e.car) ∈ u.park.lost ∧ SameRegs [.BDG_LOG_C_FULL_COUNT] s u) ∧
  (∀ (k : Nat) (c : Cmd) (s : State), Started k 1 0x32 c s → foreignSeq s c = false → logFrames s (Op.car c.bytes) = [] →
    let es := logFit (u64 c.bytes 24) ((logOf s (Op.car c.bytes)).filter (fun e =>
      e.seq == Op.seqId c.bytes && decide (u32 c.bytes 12 < e.start + e.count)))
    let lost := s.park.lost.any (fun x => x.1 == Op.seqId c.bytes && x.2.2 == Op.car c.bytes)
    exec (.logRead k) s = .next (complete k Status.ok 0 (es.length + b2n lost * 2 ^ 62)
      (hostWrite k (u64 c.bytes 16) (es.flatMap (fun e => e.bytes)) s))) ∧
  (∀ (k : Nat) (c : Cmd) (s : State), Started k 1 0x32 c s → foreignSeq s c = false →
    let u := forEach (logFrames s (Op.car c.bytes)) (fun f => noteRead (.hbm f.1 f.2) 0 s.im.dataArea) s
    (logFrames s (Op.car c.bytes)).all (fun f => canRead u (.hbm f.1 f.2) 0 u.im.dataArea) = false →
    exec (.logRead k) s = .next (complete k Status.uncorrectable 0 0 u)) ∧
  (∀ (n : Nat) (e : LogEntry) (r : List LogEntry), logFit n (e :: r) =
    if e.bytes.length ≤ n then e :: logFit (n - e.bytes.length) r else []) ∧
  (∀ (k : Nat) (c : Cmd) (s : State), (Started k 1 0x32 c s → foreignSeq s c = true →
      exec (.logRead k) s = .next (complete k Status.accessDenied 0 0 s)) ∧
    (Started k 1 0x33 c s → foreignSeq s c = true → exec (.logTrim k) s = .next (complete k Status.accessDenied 0 0 s))) ∧
  (∀ (k : Nat) (c : Cmd) (s : State), Started k 1 0x33 c s → foreignSeq s c = false →
    let car := Op.car c.bytes
    let seq := Op.seqId c.bytes
    let below := u32 c.bytes 12
    let gone := fun (e : LogEntry) => e.car == car && e.seq == seq && decide (e.start + e.count ≤ below)
    exec (.logTrim k) s = .next (complete k Status.ok 0 (countOf gone s.park.log) (logShrink car (onPark (fun x => { x with
      log := x.log.filter (fun e => !gone e),
      lost := if below = 0xFFFFFFFF then x.lost.filter (fun y => !(y.1 == seq && y.2.2 == car)) else x.lost }) s)))) ∧
  (∀ s : State, s.live = true →
    (s.frame ≤ s.park.ageAt → exec .ageTick s = .next s) ∧
    (s.park.ageAt < s.frame → ∃ t, exec .ageTick s = .next t ∧ t.park.ageAt = s.frame ∧ SameRegs [] s t ∧ SameMem s t ∧
      (∀ p g, look p s.seq.pages = some g → look p t.seq.pages =
        some (if g.loc = .cold then g else { g with age := min 255 (g.age + 1) })))) ∧
  (∀ (h : Fin 2) (s : State), s.live = true →
    let u := onPark (fun y => { y with demoting := y.demoting.filter (fun x => x.2 != h.val || demoteWants s x.1 h.val) }) s
    let due := (List.range 16).find? (fun c => demoteDue u c h.val && moveRoom u c h.val)
    (due = none → exec (.demote h) s = .next u) ∧
    (∀ c x, due = some c → demoteNext u c h.val = some x → exec (.demote h) s = .next (demoteOne c h.val x u))) ∧
  (∀ (s : State) (c h : Nat) (x : Nat × Page), demoteNext s c h = some x → x ∈ s.seq.pages ∧ demotable s c h x = true ∧
    ∀ y ∈ s.seq.pages, demotable s c h y = true → y.2.age ≤ x.2.age) ∧
  (∀ (s : State) (c h : Nat) (x : Nat × Page), demotable s c h x = true → x.2.car = c ∧ x.2.sealed_ = true ∧ x.2.moving = false ∧
    (∃ g f, x.2.loc = .hbm g f) ∧ (∃ q ∈ seqsOfPage s x.1, q.2.st = 1 ∨ q.2.st = 2) ∧
    ∀ q ∈ seqsOfPage s x.1, ∀ e ∈ q.2.entries, e.2.2.page = x.1 → alwaysHeld s q.2 e.1 e.2.1 e.2.2.view = false) ∧
  (∀ (c h : Nat) (x : Nat × Page) (s : State), (c, h) ∈ s.park.demoting →
    let v := onPark (fun y => { y with demoting := addSet (c, h) y.demoting }) s
    demoteOne c h x s = match takeCxl c h (.moveDest x.1) v with
      | none => raise 0x0427 (some c) [] (onPark (fun y => { y with demoting := remSet (c, h) y.demoting }) v)
      | some f => beginMove x.1 { dest := .cxl c f.1, comp := if bufferServes v h then demoteTable v x.1 x.2 else none,
                                  cmd := none, half := h, car := c } f.2) ∧
  (∀ (s : State) (c h : Nat), demoteDue s c h = true → s.rg .BDG_PARK_C_CTRL_DEMOTE c = 1 ∧
    (halfFree s c h + demoting s c h) * 1000 < parkHigh s c * halfFrames s c h ∧
    ((c, h) ∈ s.park.demoting ∨ halfFree s c h * 1000 < parkLow s c * halfFrames s c h)) ∧
  (∀ (h : Fin 2) (p : Nat) (g : Page) (s : State), s.live = true →
    s.park.toPromote.find? (fun x => x.2 == h.val) = some (p, h.val) → look p s.seq.pages = some g → g.moving = false →
    moveRoom s g.car h.val = true →
    let drop := onPark (fun y => { y with toPromote := y.toPromote.filter (fun z => decide (z ≠ (p, h.val))) })
    (g.loc.isCxl = false ∨ s.rg .BDG_PARK_C_CTRL_PROMOTE g.car = 0 ∨
        halfFree s g.car h.val * 1000 ≤ parkHigh s g.car * halfFrames s g.car h.val → exec (.promote h) s = .next (drop s)) ∧
    (g.loc.isCxl = true → pageParked s p = false → s.rg .BDG_PARK_C_CTRL_PROMOTE g.car ≠ 0 →
      parkHigh s g.car * halfFrames s g.car h.val < halfFree s g.car h.val * 1000 → g.comp = false →
      exec (.promote h) s = .next (match takeFrom [(allocGroups s g.car).filter (fun k => k / 32 == h.val)] (.moveDest p) s with
        | none => drop s
        | some f => beginMove p { dest := .hbm f.1.1 f.1.2, comp := none, cmd := none, half := locHalf s g.loc, car := g.car } (drop f.2))))

/-- RESET_ASSERT, POWER_FAIL, RESET_RELEASE, FIRMWARE_VERIFIED, PERSIST_RESTORE and COMPOSITION_LOAD. RESET_N low
holds the node in reset with its registers, queues, sequences and memory empty; fuses and flash outlive it (R5, R594).
PWR_GOOD low stops the node and abandons a flash write, whose record is then not valid (R534, R601). A release begins
a start: count and FT 0, the straps in GLB_NODE_ADDR, phase 1, an accepted life-cycle request in force (R25, R489,
R535). Verified firmware runs and raises ROLLBACK, any other enters RECOVERY with its cause (R494, R495). The newest
valid persistence record gives back the retired frames, the key slots and the clean mark (R503, R551). The composition
of flash is validated and put into force, or is INVALID with its check (R47). Signatures are uninterpreted (log entry
5); the choices are log entry 26. Rests on spec/17_startup_shutdown.md, spec/15_security.md, spec/02_composition.md.
-/
def Obligations.ResetPowerAndStartUpBegin : Prop :=
  (∀ s : State, (s.start.inReset = true → exec .resetAssert s = .next s) ∧
    (s.start.inReset = false → ∃ t, exec .resetAssert s = .next t ∧ t.start.inReset = true ∧ t.live = false ∧ t.powered = false ∧
      t.regs = State.reset.regs ∧ t.que = State.reset.que ∧ t.seq = State.reset.seq ∧ t.mem = State.reset.mem ∧ t.fox = State.reset.fox ∧
      t.comp = State.reset.comp ∧ t.prt = State.reset.prt ∧ t.evr = State.reset.evr ∧ t.sec.fuses = s.sec.fuses ∧ t.pending = s.pending ∧
      (s.start.writing = none → s.comp.commit = none → s.sec.loader = none → t.sec.flash = s.sec.flash))) ∧
  (∀ s : State, (s.start.powerGood = false → exec .powerFail s = .next s) ∧
    (s.start.powerGood = true → ∃ t, exec .powerFail s = .next t ∧ t.start.powerGood = false ∧ t.live = false ∧
      t.start.writing = none ∧ t.comp.commit = none ∧ t.sec.loader = none ∧ t.sec.fuses = s.sec.fuses ∧ SameRegs [] s t ∧
      (∀ a p purpose ft, s.start.inReset = false → s.start.writing = some (a, p, purpose, ft) →
        look a t.sec.flash.areas = some { p with valid := false }))) ∧
  (∀ (straps : BitVec 12) (s : State), s.start.powerGood = true → 1 ∉ s.start.done → s.sec.lcPending = none →
    ∃ t, exec (.resetRelease straps) s = .next t ∧ t.clk = 0 ∧ t.ft = 0 ∧ t.start.done = [1] ∧ t.start.inReset = false ∧
      t.sec.fuses = s.sec.fuses ∧ t.rg .BIST_SUP_PHASE 0 = 1 ∧
      t.rg .GLB_NODE_ADDR_RACK 0 = straps.toNat / 128 % 2 ^ RN.width .GLB_NODE_ADDR_RACK ∧
      t.rg .GLB_NODE_ADDR_SLED 0 = straps.toNat / 8 % 2 ^ RN.width .GLB_NODE_ADDR_SLED ∧
      t.rg .GLB_NODE_ADDR_NODE 0 = straps.toNat % 2 ^ RN.width .GLB_NODE_ADDR_NODE ∧
      (s.lc ≠ 4 → t.rg .SEC_BOOT_STATE 0 = 1) ∧ SameMem s t) ∧
  (∀ (b : List Byte) (s : State), s.sec.lcPending = some b → let t := lifeCycle s
    t.sec.fuses.lc = u8 b 13 ∧ t.sec.fuses.lcCount = s.sec.fuses.lcCount + 1 ∧ t.sec.lcPending = none ∧
    (u8 b 13 = 1 → t.sec.fuses.ownerRoot = slice b 16 64) ∧ (u8 b 13 = 4 → t.sec.fuses.idSeed = List.replicate 32 255)) ∧
  (∀ (ok : Bool) (s : State), s.live = true →
    let b := s.sec.flash.firmware
    let cause := if ok then fwCheck s b else 1
    (1 ∉ s.start.done ∨ 2 ∈ s.start.done ∨ s.rg .SEC_BOOT_STATE 0 ≠ 1 → exec (.firmwareVerified ok) s = .next s) ∧
    (1 ∈ s.start.done → 2 ∉ s.start.done → s.rg .SEC_BOOT_STATE 0 = 1 → exec (.firmwareVerified ok) s =
      .next (if cause = 0 then raiseRollback (fwRollback b) (firmwareStarts b s) else enterRecovery cause s))) ∧
  (∀ (cause : Nat) (s : State), ∃ u, enterRecovery cause s = raise 0x0B02 none [] u ∧ u.rg .SEC_BOOT_STATE 0 = 3 ∧
    u.rg .SEC_BOOT_CAUSE 0 = cause % 2 ^ RN.width .SEC_BOOT_CAUSE ∧ u.evr = s.evr) ∧
  (∀ (v : Nat) (s : State), (v ≤ s.sec.fuses.rollback → raiseRollback v s = s) ∧
    (s.sec.fuses.rollback < v → (raiseRollback v s).sec.fuses.rollback = v)) ∧
  (∀ s : State, s.live = true →
    (2 ∉ s.start.done ∨ 3 ∈ s.start.done → exec .persistRestore s = .next s) ∧
    (2 ∈ s.start.done → 3 ∉ s.start.done → ∃ t, exec .persistRestore s = .next t ∧ 3 ∈ t.start.done ∧ t.rg .BIST_SUP_PHASE 0 = 2 ∧
      t.start.persistAt = s.clk ∧ SameMem s t ∧
      (newestArea s = none → t.sec.stored = some ([], []) ∧ t.seq = s.seq) ∧
      (∀ a p, newestArea s = some (a, p) → t.seq.retired = p.retiredFrames ∧ t.sec.retired = p.retiredSlots ∧
        t.sec.stored = some (p.current, p.digest) ∧ t.start.persist = some p ∧ t.rg .BIST_SUP_CLEAN_LAST 0 = b2n p.clean))) ∧
  (∀ (s : State) (a : Nat) (p : Persist), newestArea s = some (a, p) → (a, p) ∈ s.sec.flash.areas ∧ p.valid = true ∧
    ∀ b q, (b, q) ∈ s.sec.flash.areas → q.valid = true → q.seqNo ≤ p.seqNo) ∧
  (∀ (ok : Bool) (s : State), s.live = true →
    (3 ∉ s.start.done ∨ s.start.tried = true ∨ s.comp.image ≠ none → exec (.compositionLoad ok) s = .next s) ∧
    (3 ∈ s.start.done → s.start.tried = false → s.comp.image = none →
      let u := onStart (fun x => { x with tried := true }) s
      let b := s.sec.flash.composition
      exec (.compositionLoad ok) s = .next (if ok then (match validate u (b.take (u32 b 12)) (u32 b 12) false with
          | .ok im => raise 0x0201 none [] (putInForce im u)
          | .error r => cmpInvalid r.1 r.2 u)
        else cmpInvalid 1 0 u))) ∧
  (∀ (check tag : Nat) (s : State), ∃ u, cmpInvalid check tag s = raise 0x0202 none [(1, check), (2, tag)] u ∧
    u.rg .CMP_STATUS_CHECK 0 = check % 2 ^ RN.width .CMP_STATUS_CHECK ∧ u.rg .CMP_STATUS_TAG 0 = tag % 2 ^ RN.width .CMP_STATUS_TAG ∧
    u.comp.fetch = none ∧ u.comp.staged = none ∧ u.comp.image = s.comp.image)

/-- TILE_LEVEL, ANCHOR, STARTUP_SLOT, HBM_TRAINING_DONE, HBM_INIT_DONE, DISCOVERY_TIMEOUT and READY. The tile level
runs each tile's KAT and the start-up calibration of every owned macro that is in its temperature and supply window
(another waits for it), and ends with event 0x0501; a tile that fails its KAT is FAILED, a spare with event 0x0605
(R249, R535). At the anchor A, the first multiple of 2^27 at least 2^26 ns after LOCKED and the composition, the node
adds its four STARTUP_SLOT entries and records 0x0F02 (R536, R537). A slot that fires starts its level: the node level
releases the expanders, every other its links (R538). HBM training leaves the trained stacks in use, each other left
out with event 0x0F05; the init clears the directory shares and ends the node level (R541, R542). A level that is not
complete BIST_DISC_WAIT after its slot is INCOMPLETE, with event 0x0F03 naming its links (R539). READY follows steps 1
to 9 and the fabric slot: phase 5, event 0x0F01, the interrupt and JOINED (R543). The choices are log entry 26. Rests
on spec/17_startup_shutdown.md, spec/07_fox.md, spec/08_bear.md. -/
def Obligations.StartUpReachesReady : Prop :=
  (∀ (w : BitVec 8) (fails : List (Nat × Nat)) (cals : List (Nat × (Nat × Int × Int))) (s : State), s.live = true →
    (4 ∉ s.start.done ∨ 6 ∈ s.start.done → exec (.tileLevel w fails cals) s = .next s) ∧
    (4 ∈ s.start.done → 6 ∉ s.start.done → ∃ u n x, exec (.tileLevel w fails cals) s =
        .next (onStart (fun x => { x with done := addSet 6 x.done }) (raise 0x0501 none [(4, n), (1, x)] (setRg .FOX_STATUS_STATE 0 2 u))) ∧
      SameMem s u)) ∧
  (∀ (t : Nat) (s : State), (s.tileSt t ≠ 1 → katFailed t s = setTileSt t 4 s) ∧
    (s.tileSt t = 1 → katFailed t s = raise 0x0605 none [] (setTileSt t 4 s)) ∧ (setTileSt t 4 s).tileSt t = 4) ∧
  (∀ (m sigma : Nat) (off gain : Int) (fails : List (Nat × Nat)) (cals : List (Nat × (Nat × Int × Int))) (s : State),
    look m s.persisted.foxTrims = none → look m cals = some (sigma, off, gain) →
    let u := setMacro m { s.macro_ m with cal := some .start } s
    foxStart m fails cals s = if inWindow s m = false then setRg .FOX_M_STAT_STATE m 2 u
      else if sigma ≤ 150 then calPass m sigma off gain u else calFail m sigma u) ∧
  (∀ (a : Nat) (s : State), s.live = true → anchorAt s = some a → s.start.anchor = none →
    (s.ft < a ∨ 4 ∉ s.start.done → exec .anchor s = .next s) ∧
    (a ≤ s.ft → 4 ∈ s.start.done → exec .anchor s = .next (match addSlots a [1, 2, 3, 4] s with
      | none => s
      | some t => setRg .BIST_SUP_PHASE 0 4 (onStart (fun x => { x with anchor := some a, done := addSet 7 x.done })
          (raise 0x0F02 none [(8, a)] (setRg .BIST_ANCHOR_HI_FT_HI 0 (a / 2 ^ 32) (setRg .BIST_ANCHOR_LO_FT_LO 0 a t))))))) ∧
  (∀ (c l a : Nat) (s : State), s.start.compAt = some c → s.start.lockAt = some l → anchorAt s = some a →
    a % 2 ^ 27 = 0 ∧ c + 2 ^ 26 ≤ a ∧ l + 2 ^ 26 ≤ a ∧ a < max c l + 2 ^ 26 + 2 ^ 27) ∧
  (∀ (a lvl i : Nat) (r : List Nat) (s : State), evtFree s 6 0 = some i →
    addSlots a (lvl :: r) s = addSlots a r (evtTake i (slotAt s a lvl) 6 0 0 lvl s)) ∧
  (∀ (s : State) (a : Nat), slotAt s a 1 = a + (16 * s.rg .GLB_NODE_ADDR_NODE 0 + s.rg .GLB_NODE_ADDR_SLED 0) * 1048576 ∧
    slotAt s a 2 = a + 2 ^ 28 ∧ slotAt s a 3 = a + 2 ^ 29 ∧ slotAt s a 4 = a + 2 ^ 30) ∧
  (∀ (i : Fin 256) (e : Evt) (s : State), s.live = true → s.evt i.val = some e → evtFires s i.val 6 = true →
    exec (.startupSlot i) s = .next (levelBegins e.arg (evtFired i.val s))) ∧
  (∀ s : State, look 1 (levelBegins 1 s).start.slots = some s.ft ∧ (∀ n, n < 4 → n ∉ (levelBegins 1 s).pkg.perst) ∧
    (levelBegins 1 s).evr = s.evr ∧ (levelBegins 1 s).level 1 = 1) ∧
  (∀ (lvl : Nat) (s : State), lvl ≠ 1 →
    let u := onStart (fun x => { x with slots := put lvl s.ft x.slots }) (setLevel lvl 1 s)
    levelBegins lvl s = levelCheck lvl (forEach (levelLinks u lvl) (fun l s => setLink l { s.link l with started := true } s) u)) ∧
  (∀ (warm cold : BitVec 16) (s : State), s.live = true →
    let w := (List.range 16).filter (fun k => bit warm.toNat k && hbmValid s k)
    let c := (List.range 16).filter (fun k => decide (k ∉ w) && (bit warm.toNat k || bit cold.toNat k))
    let out := (List.range 16).filter (fun k => decide (k ∉ w) && decide (k ∉ c))
    (7 ∉ s.start.done ∨ 8 ∈ s.start.done ∨ s.level 1 = 0 → exec (.hbmTrainingDone warm cold) s = .next s) ∧
    (7 ∈ s.start.done → 8 ∉ s.start.done → s.level 1 ≠ 0 → ∃ t, exec (.hbmTrainingDone warm cold) s = .next t ∧
      t.mem.trained = w ++ c ∧ t.mem.bytes = s.mem.bytes ∧ 8 ∈ t.start.done ∧ t.start.warm = w ∧
      t.rg .MEM_STATUS_STACKS 0 = bitMap (w ++ c) % 2 ^ RN.width .MEM_STATUS_STACKS ∧
      t.rg .BIST_STACK_FAIL_STACKS 0 = bitMap out % 2 ^ RN.width .BIST_STACK_FAIL_STACKS ∧
      t.rg .BIST_SUP_DEGRADED 0 = b2n (!out.isEmpty) ∧ t.rg .BIST_SUP_WARM 0 = b2n (w.length == 16))) ∧
  (∀ s : State, s.live = true →
    (8 ∉ s.start.done ∨ 9 ∈ s.start.done → exec .hbmInitDone s = .next s) ∧
    (8 ∈ s.start.done → 9 ∉ s.start.done → exec .hbmInitDone s = .next (onStart (fun x => { x with done := addSet 9 x.done })
      (levelCheck 1 (ownMaps (forEach (s.mem.trained.flatMap (fun k => (List.range 4).map (fun i => 4 * k + i)))
        (fun g => zeroAt (hbmAddr g 0) s.im.shareSize) s)))))) ∧
  (∀ (lvl : Nat) (s : State), (s.level lvl = 1 ∨ s.level lvl = 3) → levelMissing s lvl = [] →
    levelCheck lvl s = raise 0x0F03 none [(1, lvl), (1, 0)] (setLevel lvl 2 s)) ∧
  (∀ (l : Fin 4) (t : Nat) (s : State), s.live = true → look (l.val + 1) s.start.slots = some t →
    let lvl := l.val + 1
    (s.level lvl ≠ 1 ∨ levelMissing s lvl = [] ∨ s.ft < t + max 1 (s.rg .BIST_DISC_WAIT_MS 0) * 1000000 →
      exec (.discoveryTimeout l) s = .next s) ∧
    (s.level lvl = 1 → levelMissing s lvl ≠ [] → t + max 1 (s.rg .BIST_DISC_WAIT_MS 0) * 1000000 ≤ s.ft →
      exec (.discoveryTimeout l) s = .next (raise 0x0F03 none [(1, lvl), (1, bitMap (levelMissing s lvl))] (setLevel lvl 3 s)))) ∧
  (∀ s : State, s.live = true →
    (readyDue s = false ∨ 11 ∈ s.start.done ∨ firingAllowed s = false → exec .ready s = .next s) ∧
    (readyDue s = true → 11 ∉ s.start.done → firingAllowed s = true → ∃ u, exec .ready s =
        .next (if (List.range 8).any (fun l => (s.link l).st == .up) = true then sendJoined u
          else onStart (fun x => { x with joinedDue := true }) u) ∧
      u.rg .BIST_SUP_PHASE 0 = 5 ∧ 11 ∈ u.start.done ∧ u.sent = .ibi 1 :: s.sent ∧
      u.rg .BIST_SUP_MS_READY_MS 0 = min 65535 (s.clk / 1000000) % 2 ^ RN.width .BIST_SUP_MS_READY_MS ∧ SameMem s u)) ∧
  (∀ s : State, readyDue s = true ↔ (∀ n ∈ [1, 2, 3, 4, 6, 7, 8, 9], n ∈ s.start.done) ∧ s.start.lockAt ≠ none ∧
    look 4 s.start.slots ≠ none)

/-- SELFTEST_START, SELFTEST_DONE and the five SHUTDOWN rows. The full self-test needs semaphore 3, MANUFACTURE or
SERVICE, no sequence and no shutdown; it takes links and CXL ports down and ends with BIST_RESULT and NEED_RESET
(R554, R555). An item that is not in the set or is skipped reads NOT_RUN_OTHER, one outside the window NOT_RUN_WINDOW,
one with a failed unit FAIL, any other PASS. A shutdown is armed at a grid point 1 ms to 2^32 ns ahead, with the
notice and event 0x0F09, else event 0x0F0A (R547). At S the node stops fetching, fetched entries and lists end and
requests not begun end ABORTED; when all work has ended, or at S + 1 ms, the links are reset and the record is
written; with TEST the shutdown set runs; the last record has the clean mark, and with it STATE reads SAFE, event
0x0F0B (R548, R550). A write that fails goes to the next area (R601). Choices are log entry 27. Rests on
spec/17_startup_shutdown.md. -/
def Obligations.SelfTestsRunAndShutdownsEndSafe : Prop :=
  (∀ (p : Port) (s : State), s.live = true → Reaches p 0xF00040 s →
    let may := s.holdsSem p.idx 3 = true ∧ (s.lc = 0 ∨ s.lc = 3) ∧ s.seq.seqs = [] ∧ s.start.testing = none ∧ firingAllowed s = true
    (¬ may → exec (.selftestStart p) s = .next (raise 0x0B11 none [] (setRg .BIST_STATUS_STATUS 0 Status.accessDenied s))) ∧
    (may → ∃ t, exec (.selftestStart p) s = .next t ∧ t.start.testing = some true ∧ t.rg .BIST_STATUS_STATE 0 = 2 ∧
      t.rg .BIST_STATUS_STATUS 0 = Status.ok)) ∧
  (∀ (ref : BitVec 8) (fails : List (Nat × Nat)) (full : Bool) (s : State), s.live = true → s.start.testing = some full →
    let set := if full then [1, 2, 3, 4, 5, 6, 7, 8] else [1, 2, 3, 4, 5]
    let u := onStart (fun x => { x with testing := none }) (setRg .BIST_STATUS_STATE 0 3 (runItems set ref.toNat fails s))
    (full = true → exec (.selftestDone ref fails) s =
      .next (onStart (fun x => { x with stopped := true }) (setRg .BIST_STATUS_NEED_RESET 0 1 u))) ∧
    (full = false → exec (.selftestDone ref fails) s = .next (persistBegin 4 (finalRecord u) u))) ∧
  (∀ (s : State) (set : List Nat) (ref i : Nat) (fails : List (Nat × Nat)),
    (i ∉ set ∨ bit s.start.skip (i - 1) = true → itemOutcome s set ref fails i = 3) ∧
    (i ∈ set → bit s.start.skip (i - 1) = false → i ≠ 5 →
      (windowReading s ≠ none ∨ bit ref (i - 1) = false → itemOutcome s set ref fails i = 2) ∧
      (windowReading s = none → bit ref (i - 1) = true → itemOutcome s set ref fails i =
        if fails.any (fun f => f.1 == i) = true then 1 else 0))) ∧
  (∀ (set : List Nat) (ref : Nat) (fails : List (Nat × Nat)) (s : State), let t := runItems set ref fails s
    t.rg .BIST_RESULT_FT_LO_FT_LO 0 = s.ft % 2 ^ RN.width .BIST_RESULT_FT_LO_FT_LO ∧ (∀ f ∈ t.start.failed, f ∈ fails) ∧ t.mem = s.mem) ∧
  (∀ (p : Port) (s : State), s.live = true → Reaches p 0xF00038 s → exec (.shutdownStart p) s =
    .next (armShutdown (s.rg .BIST_SHUT_CTRL_TEST 0 == 1 && s.holdsSem p.idx 3) s)) ∧
  (∀ (s : State), (shutOk s (shutFt s) = false → ∀ want, armShutdown want s = raise 0x0F0A none [] s) ∧
    (shutOk s (shutFt s) = true → (s.lc = 0 ∨ s.lc = 2 ∨ s.lc = 3) → ∀ want, armShutdown want s =
      raise 0x0F09 none [(8, shutFt s), (1, b2n want)] (noticeAll 0x09 (shutFt s) (onStart (fun x => { x with
        shutAt := shutFt s, shutTest := want }) (setRg .BIST_SHUT_STATUS_STATE 0 1 s))))) ∧
  (∀ (s : State) (a : Nat), shutOk s a = true ↔ s.rg .BIST_SHUT_STATUS_STATE 0 < 2 ∧ s.gridPoint a = true ∧ s.ft + 1000000 ≤ a ∧
    a ≤ s.ft + 4294967296) ∧
  (∀ s : State, s.live = true →
    (s.rg .BIST_SHUT_STATUS_STATE 0 ≠ 1 ∨ s.ft < s.start.shutAt → exec .shutdownBegin s = .next s) ∧
    (s.rg .BIST_SHUT_STATUS_STATE 0 = 1 → s.start.shutAt ≤ s.ft →
      let u := endLists (setRg .BIST_SUP_PHASE 0 6 (setRg .BIST_SHUT_STATUS_STATE 0 2 s))
      let v := forEach (keys s.que.ctx) endQueue u
      exec .shutdownBegin s = .next (forEach s.prt.rx endMsg v) ∧ (u.rg .BIST_SHUT_STATUS_STATE 0 = 2 ∧ u.rg .BIST_SUP_PHASE 0 = 6) ∧
      (∀ k r, look k u.que.lists = some r → r.ended = true ∨ r.left = false))) ∧
  (∀ (q : Nat) (e : Nat × List Byte) (s : State), (mayStartCmd s q e.2 none = false → endFetched q e s = s) ∧
    (mayStartCmd s q e.2 none = true → endFetched q e s = complete s.que.serial Status.aborted 0 0 (startCommand q e.2 none s))) ∧
  (∀ (k : Nat × Nat) (e : RxEntry) (s : State), (refusedAtShutdown (H.mtype e.hdr) = false → endMsg (k, e) s = s) ∧
    (refusedAtShutdown (H.mtype e.hdr) = true → msgBegun s k e = false → endMsg (k, e) s = ackMsg k e Status.aborted 0 0 s)) ∧
  (∀ s : State, s.live = true →
    (s.rg .BIST_SHUT_STATUS_STATE 0 ≠ 2 ∨ (drained s = false ∧ s.ft < s.start.shutAt + 1000000) →
      exec .shutdownDrainEnd s = .next s) ∧
    (s.rg .BIST_SHUT_STATUS_STATE 0 = 2 → drained s = true ∨ s.start.shutAt + 1000000 ≤ s.ft →
      let u := setRg .BIST_SHUT_STATUS_STATE 0 3 (portsDown (resetLinks (endWork s)))
      exec .shutdownDrainEnd s = .next (if u.start.writing.isSome = true then u else persistBegin 1 (snapshot true false u) u))) ∧
  (∀ s : State, s.que.started = [] → s.fox.coaches = [] → s.prt.rx = [] → drained s = true ∧ endWork s = s) ∧
  (∀ (a ft : Nat) (r : Persist) (s : State), s.live = true → s.rg .BIST_SHUT_STATUS_STATE 0 = 3 → s.start.writing = some (a, r, 1, ft) →
    let u := persistEnd true s
    let v := persistEnd false s
    exec (.shutdownPersistDone false) s = .next (persistBegin 1 (snapshot true false v) v) ∧
    (s.start.shutTest = true → exec (.shutdownPersistDone true) s = .next (setRg .BIST_STATUS_STATE 0 2
      (onStart (fun x => { x with testing := some false }) (setRg .BIST_SHUT_STATUS_STATE 0 4
        (setRg .BIST_SHUT_STATUS_PERSIST_OK 0 1 u))))) ∧
    (s.start.shutTest = false → let w := setRg .BIST_SHUT_STATUS_PERSIST_OK 0 1 u
      exec (.shutdownPersistDone true) s = .next (persistBegin 4 (finalRecord w) w))) ∧
  (∀ (a ft : Nat) (r : Persist) (s : State), s.live = true → s.start.writing = some (a, r, 4, ft) →
    let u := persistEnd true s
    let v := persistEnd false s
    exec (.shutdownSafe false) s = .next (persistBegin 4 (finalRecord v) v) ∧
    exec (.shutdownSafe true) s = .next (emit (.ibi 5) (raise 0x0F0B none [(8, s.ft - s.start.shutAt)]
      (setRg .BIST_SHUT_STATUS_STATE 0 5 u)))) ∧
  (∀ s : State, (finalRecord s).clean = true ∧ (finalRecord s).valid = true ∧ (finalRecord s).ring = s.evr.ring ∧
    (s.start.shutTest = true → (finalRecord s).failed = s.start.failed))

/-- SHADOW_START, SHADOW_STOP, AUTO_SHADOW_START, SHADOW_KAT_DONE and TAKEOVER. BEAR_SPARE_CTRL.START on a SPARE and
an ACTIVE owned tile begins a shadow, with event 0x0602, else the result is BAD_COMMAND; STOP ends it with outcome 3,
the spare is SPARE again and event 0x0609 names the cause (R287, R291). An error in tile SRAM is counted; more
corrected ones in a frame than BEAR_SPARE_TRIG, or one that cannot be corrected, start a shadow where AUTO_SPARE
allows it, or record 0x0606 where the half has no spare (R265, R287). A coach compared is counted, and a difference,
whether there is one being a free value (log entry 11), is counted, recorded as 0x0603 and leads to the KAT, before
which the carriage's next coach does not begin (R288, R289). A passed KAT moves the shadow to its comparison, or after
a mismatch to takeover with outcome 4; a failed one ends it with outcome 2 and the spare FAILED, event 0x0605 (R288,
R289). Between coaches the spare takes the logical index, the old tile is RETIRED, and event 0x0604 is recorded
(R290). Outcome 3 of a stop that finds no shadow is log entry 18. Rests on spec/08_bear.md. -/
def Obligations.SparesShadowAndTakeOver : Prop :=
  (∀ (p : Port) (s : State), s.live = true → Reaches p 0x680000 s → s.expertOpen p.idx 6 = true →
    let tile := s.rg .BEAR_SPARE_CTRL_TILE 0
    let t := 64 * (tile / 32) + 32 + s.rg .BEAR_SPARE_CTRL_SPARE 0
    (s.tileSt t ≠ 1 ∨ shadowable s tile = false →
      exec (.shadowStart p) s = .next (shadowResult (some p.idx) 0 Status.badCommand (forgetPort p.idx s))) ∧
    (s.tileSt t = 1 → shadowable s tile = true → ∃ u, exec (.shadowStart p) s = .next u ∧ u.tileSt t = 2 ∧
      u.shadow t = some { tile := tile, step := 1, port := some p.idx, since := s.ft, outcome := 0 } ∧
      u.rg .BEAR_T_STAT_COMPARED t = 0 ∧ u.rg .BEAR_SPARE_RESULT_DONE p.idx = 0 ∧ SameMem s u) ∧
    exec (.shadowStop p) s = .next (shadowResult (some p.idx) 3 Status.ok (shadowStopped t 0 (forgetPort p.idx s)))) ∧
  (∀ (p t : Nat) (x : Shadow) (s : State), s.shadow t = some x →
    (forgetPort p s).shadow t = some (if x.port = some p then { x with port := none } else x)) ∧
  (∀ (s : State) (tile : Nat), shadowable s tile = true ↔ s.tileSt (s.rg .BEAR_MAP_PHYS tile) = 0 ∧ s.owner (.tile tile) ≠ none) ∧
  (∀ (t cause : Nat) (x : Shadow) (s : State), s.shadow t = some x → ∃ u, shadowStopped t cause s = raise 0x0609 none [(1, cause)] u ∧
    u.shadow t = none ∧ u.tileSt t = 1 ∧ (∀ p, x.port = some p → u.rg .BEAR_SPARE_RESULT_OUTCOME p = 3 ∧ u.rg .BEAR_SPARE_RESULT_DONE p = 1)) ∧
  (∀ (t cause : Nat) (s : State), s.shadow t = none → shadowStopped t cause s = s) ∧
  (∀ (k : Fin 68) (s : State), s.live = true →
    let t := k.val / 34 * 64 + k.val % 34
    let tile := tileLogical s t
    let active := s.tileSt t = 0 ∧ tile < 64
    let n := tileCorrected s t
    let u := onFox (fun f => { f with tileCorr := put t (s.frame, n) f.tileCorr }) (bump .BEAR_T_ECC_CORR t 1 s)
    let v := bump .BEAR_T_ECC_UNCORR t 1 s
    (¬ active ∨ n ≤ s.rg .BEAR_SPARE_TRIG_CORR 0 → exec (.autoShadowStart k false) s = .next u) ∧
    (active → s.rg .BEAR_SPARE_TRIG_CORR 0 < n → exec (.autoShadowStart k false) s = .next (autoShadow tile u)) ∧
    (¬ active → exec (.autoShadowStart k true) s = .next v) ∧
    (active → exec (.autoShadowStart k true) s = .next (autoShadow tile (tileUncorr t tile (shadowMismatch tile v))))) ∧
  (∀ (t : Nat) (s : State), (tileLogical s t < 64 → s.rg .BEAR_MAP_PHYS (tileLogical s t) = t) ∧
    (∀ l, l < 64 → s.rg .BEAR_MAP_PHYS l = t → tileLogical s t < 64)) ∧
  (∀ (tile : Nat) (s : State), (s.rg .BEAR_CTRL_AUTO_SPARE 0 = 0 → autoShadow tile s = s) ∧
    (s.rg .BEAR_CTRL_AUTO_SPARE 0 ≠ 0 → shadowable s tile = true → shadowsOf s tile = [] →
      (s.tileSt (64 * (tile / 32) + 32) = 1 → autoShadow tile s = shadowBegin (64 * (tile / 32) + 32) tile 0 none s) ∧
      (s.tileSt (64 * (tile / 32) + 32) ≠ 1 → s.tileSt (64 * (tile / 32) + 33) = 1 →
        autoShadow tile s = shadowBegin (64 * (tile / 32) + 33) tile 0 none s) ∧
      (s.tileSt (64 * (tile / 32) + 32) ≠ 1 → s.tileSt (64 * (tile / 32) + 33) ≠ 1 →
        autoShadow tile s = raise 0x0606 none [] s))) ∧
  (∀ (t tile : Nat) (s : State), s.owner (.tile tile) = none → tileUncorr t tile s = s) ∧
  (∀ (k : Fin 4) (x : Shadow) (s : State), s.live = true → s.shadow (sparePhys k.val) = some x →
    let t := sparePhys k.val
    (x.step ≠ 1 → x.step ≠ 6 → ∀ ok, exec (.shadowKatDone k ok) s = .next s) ∧
    (x.step = 1 ∨ x.step = 6 → exec (.shadowKatDone k false) s = .next (raise 0x0605 none [] (shadowEnd t 2 4 s))) ∧
    (x.step = 1 → exec (.shadowKatDone k true) s = .next (setShadow t { x with step := 4, since := s.ft } s)) ∧
    (x.step = 6 → exec (.shadowKatDone k true) s = .next (setShadow t { x with step := 5, outcome := 4 } s))) ∧
  (sparePhys 0 = 32 ∧ sparePhys 1 = 33 ∧ sparePhys 2 = 96 ∧ sparePhys 3 = 97) ∧
  (∀ (t outcome st : Nat) (x : Shadow) (s : State), s.shadow t = some x →
    (shadowEnd t outcome st s).shadow t = none ∧ (shadowEnd t outcome st s).tileSt t = st % 8 ∧
    (∀ p, x.port = some p → (shadowEnd t outcome st s).rg .BEAR_SPARE_RESULT_STATUS p = Status.ok ∧
      (shadowEnd t outcome st s).rg .BEAR_SPARE_RESULT_DONE p = 1)) ∧
  (∀ (k : Fin 4) (x : Shadow) (s : State), s.live = true → s.shadow (sparePhys k.val) = some x →
    let t := sparePhys k.val
    let old := s.rg .BEAR_MAP_PHYS x.tile
    (x.step ≠ 5 ∨ (s.owner (.tile x.tile)).any (tilesBusy s) = true → exec (.takeover k) s = .next s) ∧
    (x.step = 5 → (s.owner (.tile x.tile)).any (tilesBusy s) = false → old ≠ t → ∃ u, exec (.takeover k) s =
        .next (raise 0x0604 none [(1, x.tile), (1, old), (1, t)] u) ∧
      u.rg .BEAR_MAP_PHYS x.tile = t ∧ u.tileSt t = 0 ∧ u.tileSt old = 3 ∧ u.shadow t = none ∧
      SameRegs [.BEAR_MAP_PHYS, .BEAR_T_STAT_STATE, .BEAR_SPARE_RESULT_OUTCOME, .BEAR_SPARE_RESULT_STATUS, .BEAR_SPARE_RESULT_DONE] s u ∧
      SameMem s u)) ∧
  (∀ (c : Coach) (t : Nat) (x : Shadow) (s : State), x.step = 4 → x.since < c.depart →
    let u := bump .BEAR_T_STAT_COMPARED t 1 (freeTaken s)
    compareOne c (t, x) s = if freeNow s % 2 = 0
      then if shadowCount s ≤ u.rg .BEAR_T_STAT_COMPARED t then setShadow t { x with step := 5, outcome := 1 } u else u
      else raise 0x0603 (some c.car) [(1, t), (4, c.seq), (2, c.layer)]
        (setShadow t { x with step := 6 } (bump .BEAR_T_MISMATCH_COUNT t 1 u))) ∧
  (∀ (c : Coach) (t : Nat) (x : Shadow) (s : State), x.step ≠ 4 ∨ c.depart ≤ x.since → compareOne c (t, x) s = s) ∧
  (∀ (c : Coach) (t : Nat) (x : Shadow) (s : State), (t, x) ∈ s.fox.shadows → x.step = 5 ∨ x.step = 6 → x.tile ∈ c.own →
    c.begun = false → spareFirst s c = true)

/-- I3C_WRITE, I3C_READ, I3C_SETDASA and JTAG_INSTRUCTION. An I3C write sets the offset and writes the shutdown
registers that it reaches, one after the other, and no other register; a read answers the registers from the offset
on, and 0 for one that the controller may not read (R596). SETDASA gives the target its dynamic address. A JTAG
instruction comes into force while there is power: IDCODE shifts out 0x20416747, and the boundary-scan instructions
act as BYPASS unless the node is in MANUFACTURE or SERVICE with RESET_N low (R597). What a state that answers nothing
reads as is log entry 27. Rests on spec/19_package.md. -/
def Obligations.ManagementPinsAnswer : Prop :=
  (∀ (off : BitVec 24) (vs : List Word) (s : State), s.powered = true → exec (.i3cWrite off vs) s =
    .next (forEach vs.zipIdx (fun x t => if i3cWrites (off.toNat + 4 * x.2) && t.answers (off.toNat + 4 * x.2)
        then regWrite i3cSender (off.toNat + 4 * x.2) x.1.toNat t else t)
      (onPkg (fun x => { x with i3cOffset := off.toNat }) s))) ∧
  (∀ (off : BitVec 24) (vs : List Word) (s : State), s.powered = true → off.toNat + 4 * vs.length ≤ 0xF00030 ∨ 0xF00038 < off.toNat →
    exec (.i3cWrite off vs) s = .next (onPkg (fun x => { x with i3cOffset := off.toNat }) s)) ∧
  (∀ off : Nat, i3cWrites off = true ↔ 0xF00030 ≤ off ∧ off ≤ 0xF00038) ∧
  (∀ (n : Nat) (s : State), s.powered = true → ∃ t, exec (.i3cRead n) s = .next t ∧
    t = emit (.i3c (i3cReadFrom s.pkg.i3cOffset n s).1) (i3cReadFrom s.pkg.i3cOffset n s).2) ∧
  (∀ (off n : Nat) (s : State), (i3cReadFrom off n s).1.length = n ∧
    (i3cReads off = false ∨ s.answers off = false → i3cReadFrom off (n + 1) s =
      (0 :: (i3cReadFrom (off + 4) n s).1, (i3cReadFrom (off + 4) n s).2)) ∧
    (i3cReads off = true → s.answers off = true → i3cReadFrom off (n + 1) s =
      ((regRead i3cSender off s).1 :: (i3cReadFrom (off + 4) n (regRead i3cSender off s).2).1,
        (i3cReadFrom (off + 4) n (regRead i3cSender off s).2).2))) ∧
  (∀ off : Nat, 0xD00000 ≤ off → off < 0x1000000 → (i3cReads off = true ↔ inExpert off = false)) ∧
  (∀ off : Nat, 0x100000 ≤ off → off < 0xB00000 → i3cReads off = false) ∧
  (∀ (dyn : BitVec 7) (s : State), s.powered = true →
    exec (.i3cSetdasa dyn) s = .next (onPkg (fun x => { x with i3cAddr := dyn.toNat }) s)) ∧
  (∀ (i : JtagInstr) (s : State), (s.start.powerGood = false → exec (.jtagInstruction i) s = .next s) ∧
    (s.start.powerGood = true → ∃ t, exec (.jtagInstruction i) s = .next t ∧ t.pkg.jtag = jtagCode i s ∧
      t.sent = .jtag (jtagCode i s) (if i = .idcode then 0x20416747 else 0) :: s.sent ∧ SameRegs [] s t ∧ SameMem s t)) ∧
  (∀ s : State, jtagCode .bypass s = 0 ∧ jtagCode .idcode s = 1 ∧
    ((s.lc = 0 ∨ s.lc = 3) → s.start.inReset = true → jtagCode .samplePreload s = 2 ∧ jtagCode .extest s = 3) ∧
    ((s.lc ≠ 0 ∧ s.lc ≠ 3) ∨ s.start.inReset = false → jtagCode .samplePreload s = 0 ∧ jtagCode .extest s = 0))

/-- Several action bits in one write, a queue's configuration outside DISABLED, and an enable without its resource. A
write that sets more than one action bit of a register performs none of them, while its other fields take effect; the
writing port's result register, where there is one, reads BAD_COMMAND with DONE set, and a CMP_CTRL write records
event 0x0207 (R602), and so does each CMP_CTRL write of a port that does not hold semaphore 0, with or without an
action bit (R50). STEPS and HOLDS of RAS_X_CLEAR combine, and both act (R531). A write to a configuration field of a
queue that is not DISABLED is ignored and recorded as event 0x0308 (R135). An enable bit written 1 for a feature that
does not own its resource stays 0, sets the feature's bit in CMP_CLAIM_STATUS and records event 0x0208 (R67). Which
registers have action bits and results is read off the register tables. Rests on spec/00_scope.md,
spec/02_composition.md, spec/04_onzon_queues.md, spec/16_faults.md. -/
def Obligations.RefusedRegisterWritesActOnNothing : Prop :=
  (∀ (p : Port) (off : Nat) (v : Word) (r : Reg) (e : Nat) (s : State), offsetOk off = true → Reaches p off s →
    windowUsable p.idx off s = true → regAt off = some (r, e) → writeBarred p.idx off s = none →
    ownWrite p.idx e off v.toNat = none → 2 ≤ countOf (fun f => bit v.toNat f.lo) r.actions → r.combines = false →
    ∃ f, r.actions.head? = some f ∧
      exec (.registerWrite p off v) s = .next (actionsRefused p.idx f.cell (forEach r.fields (fieldWrite p.idx e r v.toNat) s))) ∧
  (∀ (p : Port) (v : Word) (s : State), Reaches p 0x200000 s →
    s.holdsSem p.idx 0 = false ∨
      2 ≤ b2n (bit v.toNat 0) + b2n (bit v.toNat 1) + b2n (bit v.toNat 2) + b2n (bit v.toNat 3) →
    exec (.registerWrite p 0x200000 v) s = .next (raise 0x0207 none [] s)) ∧
  (∀ (p : Port) (v : Word) (s : State), Reaches p 0x300044 s →
    2 ≤ b2n (bit v.toNat 0) + b2n (bit v.toNat 1) + b2n (bit v.toNat 2) →
    ∃ t, exec (.registerWrite p 0x300044 v) s = .next t ∧ t.rg .QUE_CTX_RESULT_STATUS p.idx = Status.badCommand ∧
      t.rg .QUE_CTX_RESULT_DONE p.idx = 1 ∧ SameRegs [.QUE_CTX_RESULT_STATUS, .QUE_CTX_RESULT_DONE] s t ∧ t.que = s.que ∧ SameMem s t) ∧
  (∀ (p : Port) (s : State), s.live = true → Reaches p 0xC80000 s → s.expertOpen p.idx 12 = true →
    ∃ t, exec (.registerWrite p 0xC80000 3) s = .next t ∧ t.ras.holds = [] ∧
      t.ras.steps = s.ras.steps.filter (fun r => r.done.isNone)) ∧
  (∀ (p : Port) (off : Nat) (v : Word) (s : State), Reaches p off s → 0x300020 ≤ off → off < 0x300044 → off % 4 = 0 →
    (s.ctx (s.rg .QUE_SEL_QUEUE p.idx)).st ≠ 0 → exec (.registerWrite p off v) s = .next (raise 0x0308 none [] s)) ∧
  (∀ (res code : Nat) (n : RN) (s : State), (res, code, n) ∈ enableBits → s.ownerCode res ≠ code →
    ∃ u c, enableWrite res code n 1 s = raise 0x0208 none [] u ∧ u.rg n 0 = 0 ∧
      c ∈ [.CMP_CLAIM_STATUS_RES1, .CMP_CLAIM_STATUS_RES2, .CMP_CLAIM_STATUS_RES3, .CMP_CLAIM_STATUS_RES4] ∧
      bit (u.rg c 0) (code - 1) = true ∧ SameRegs [n, c] s u)
end

