-- ==== Sys2Proof/Laws/Map.lean ====
section
/-! SUPPORT. The laws of sparse tables and of register cells: a read after a write gives the value written, and a write
leaves every other key alone. -/

namespace Sys2Proof.Machine

open Sys2Proof

variable {κ α σ : Type} [DecidableEq κ]

@[simp] theorem look_put_self (k : κ) (v : α) (m : List (κ × α)) : look k (put k v m) = some v := by
  induction m with
  | nil => simp [put, look]
  | cons e r ih =>
    obtain ⟨j, w⟩ := e
    by_cases h : j = k <;> simp [put, look, h, ih]

theorem look_put_ne {j k : κ} (v : α) (m : List (κ × α)) (h : j ≠ k) : look j (put k v m) = look j m := by
  induction m with
  | nil => simp [put, look, Ne.symm h]
  | cons e r ih =>
    obtain ⟨i, w⟩ := e
    by_cases h1 : i = k
    · subst h1
      simp [put, look, Ne.symm h]
    · simp only [put, h1, if_false, look, ih]

@[simp] theorem look_del_self (k : κ) (m : List (κ × α)) : look k (del k m) = none := by
  induction m with
  | nil => simp [del, look]
  | cons e r ih =>
    obtain ⟨j, w⟩ := e
    by_cases h : j = k
    · simpa [del, h] using ih
    · simpa [del, h, look] using ih

theorem look_del_ne {j k : κ} (m : List (κ × α)) (h : j ≠ k) : look j (del k m) = look j m := by
  induction m with
  | nil => simp [del, look]
  | cons e r ih =>
    obtain ⟨i, w⟩ := e
    by_cases h1 : i = k
    · subst h1
      simpa [del, look, Ne.symm h] using ih
    · have hd : del k ((i, w) :: r) = (i, w) :: del k r := by simp [del, h1]
      rw [hd, look, look, ih]

@[simp] theorem lookD_put_self (k : κ) (d v : α) (m : List (κ × α)) : lookD k d (put k v m) = v := by
  simp [lookD]

theorem lookD_put_ne {j k : κ} (d v : α) (m : List (κ × α)) (h : j ≠ k) : lookD j d (put k v m) = lookD j d m := by
  simp [lookD, look_put_ne v m h]

@[simp] theorem has_put_self (k : κ) (v : α) (m : List (κ × α)) : has k (put k v m) = true := by simp [has]

@[simp] theorem has_del_self (k : κ) (m : List (κ × α)) : has k (del k m) = false := by simp [has]

@[simp] theorem when_true (f : σ → σ) (s : σ) : when true f s = f s := rfl
@[simp] theorem when_false (f : σ → σ) (s : σ) : when false f s = s := rfl
@[simp] theorem whenSome_none (f : α → σ → σ) (s : σ) : whenSome none f s = s := rfl
@[simp] theorem whenSome_some (x : α) (f : α → σ → σ) (s : σ) : whenSome (some x) f s = f x s := rfl
@[simp] theorem forEach_nil (f : α → σ → σ) (s : σ) : forEach [] f s = s := rfl
@[simp] theorem forEach_cons (x : α) (l : List α) (f : α → σ → σ) (s : σ) :
    forEach (x :: l) f s = forEach l f (f x s) := rfl

/-- A property that each step keeps is kept by the whole of them. -/
theorem forEach_keeps {P : σ → Prop} (l : List α) (f : α → σ → σ) (s : σ) (h : P s)
    (hf : ∀ x u, P u → P (f x u)) : P (forEach l f s) := by
  induction l generalizing s with
  | nil => exact h
  | cons x r ih => exact ih (f x s) (hf x s h)

/-! ### Register cells -/

/-- A cell reads what was last written to it, cut to the field's width. -/
@[simp] theorem setRg_rg_self (n : RN) (i v : Nat) (s : State) : (setRg n i v s).rg n i = v % 2 ^ RN.width n := by
  simp [setRg, State.rg]

/-- A write of one cell leaves every other cell alone. -/
theorem setRg_rg_ne {n m : RN} {i j : Nat} (v : Nat) (s : State) (h : (m, j) ≠ (n, i)) :
    (setRg n i v s).rg m j = s.rg m j := by
  simp only [setRg, State.rg]
  exact lookD_put_ne _ _ _ h

end Sys2Proof.Machine
end

