-- ==== Sys2Proof/Laws/Memory.lean ====
section
/-! SUPPORT. The laws of the byte table: every operation keeps its canonical form, a read after a write gives the byte
written, and a write leaves every other byte alone. -/

namespace Sys2Proof.Machine

open Sys2Proof

/-! ### Canonical form -/

theorem memWfFrom_mono {lo hi : Nat} (m : List Host.Cell) (h : lo ≤ hi) (hw : memWfFrom hi m = true) :
    memWfFrom lo m = true := by
  cases m with
  | nil => rfl
  | cons e r =>
    obtain ⟨a, v⟩ := e
    simp only [memWfFrom, Bool.and_eq_true, decide_eq_true_eq] at hw ⊢
    exact ⟨⟨le_trans h hw.1.1, hw.1.2⟩, hw.2⟩

theorem memSet_wfFrom (a : Nat) (v : Byte) (m : List Host.Cell) (lo : Nat) (hl : lo ≤ a)
    (hw : memWfFrom lo m = true) : memWfFrom lo (memSet a v m) = true := by
  induction m generalizing lo with
  | nil =>
    unfold memSet
    split
    · rfl
    · rename_i hv
      simp only [memWfFrom, Bool.and_eq_true, decide_eq_true_eq, bne_iff_ne, ne_eq]
      exact ⟨⟨hl, hv⟩, trivial⟩
  | cons e r ih =>
    obtain ⟨b, w⟩ := e
    simp only [memWfFrom, Bool.and_eq_true, decide_eq_true_eq, bne_iff_ne, ne_eq] at hw
    obtain ⟨⟨hb, hw0⟩, hr⟩ := hw
    unfold memSet
    by_cases h1 : a < b
    · by_cases hv : v = (0 : Byte)
      · rw [if_pos h1, if_pos hv]
        simp only [memWfFrom, Bool.and_eq_true, decide_eq_true_eq, bne_iff_ne, ne_eq]
        exact ⟨⟨hb, hw0⟩, hr⟩
      · rw [if_pos h1, if_neg hv]
        simp only [memWfFrom, Bool.and_eq_true, decide_eq_true_eq, bne_iff_ne, ne_eq]
        exact ⟨⟨hl, hv⟩, ⟨⟨h1, hw0⟩, hr⟩⟩
    · by_cases h2 : a = b
      · subst h2
        by_cases hv : v = (0 : Byte)
        · rw [if_neg h1, if_pos rfl, if_pos hv]
          exact memWfFrom_mono r (by omega) hr
        · rw [if_neg h1, if_pos rfl, if_neg hv]
          simp only [memWfFrom, Bool.and_eq_true, decide_eq_true_eq, bne_iff_ne, ne_eq]
          exact ⟨⟨hl, hv⟩, hr⟩
      · simp only [h1, h2, if_false, memWfFrom, Bool.and_eq_true, decide_eq_true_eq, bne_iff_ne, ne_eq]
        exact ⟨⟨hb, hw0⟩, ih (b + 1) (by omega) hr⟩

/-- A byte set keeps the canonical form. -/
theorem memSet_wf (a : Nat) (v : Byte) (m : List Host.Cell) (h : memWf m = true) : memWf (memSet a v m) = true :=
  memSet_wfFrom a v m 0 (Nat.zero_le a) h

/-- Bytes set keep the canonical form. -/
theorem memSetN_wf (a : Nat) (bs : List Byte) (m : List Host.Cell) (h : memWf m = true) :
    memWf (memSetN a bs m) = true := by
  induction bs generalizing a m with
  | nil => exact h
  | cons b r ih => exact ih (a + 1) (memSet a b m) (memSet_wf a b m h)

theorem memFilter_wfFrom (p : Host.Cell → Bool) (m : List Host.Cell) (lo : Nat) (hw : memWfFrom lo m = true) :
    memWfFrom lo (m.filter p) = true := by
  induction m generalizing lo with
  | nil => rfl
  | cons e r ih =>
    obtain ⟨b, w⟩ := e
    simp only [memWfFrom, Bool.and_eq_true, decide_eq_true_eq, bne_iff_ne, ne_eq] at hw
    obtain ⟨⟨hb, hw0⟩, hr⟩ := hw
    by_cases hp : p (b, w) = true
    · simp only [List.filter_cons, hp, if_true, memWfFrom, Bool.and_eq_true, decide_eq_true_eq, bne_iff_ne, ne_eq]
      exact ⟨⟨hb, hw0⟩, ih (b + 1) hr⟩
    · simp only [List.filter_cons, hp]
      exact ih lo (memWfFrom_mono r (by omega) hr)

/-- A table with some of its bytes no longer listed keeps the canonical form. -/
theorem memFilter_wf (p : Host.Cell → Bool) (m : List Host.Cell) (h : memWf m = true) : memWf (m.filter p) = true :=
  memFilter_wfFrom p m 0 h

/-! ### Reads after writes -/

theorem memGet_of_low {lo a : Nat} (m : List Host.Cell) (hw : memWfFrom lo m = true) (h : a < lo) : memGet a m = 0 := by
  cases m with
  | nil => rfl
  | cons e r =>
    obtain ⟨b, w⟩ := e
    simp only [memWfFrom, Bool.and_eq_true, decide_eq_true_eq] at hw
    have h1 : b ≠ a := by omega
    have h2 : a < b := by omega
    simp [memGet, h1, h2]

theorem memGet_memSet_from (a b : Nat) (v : Byte) (m : List Host.Cell) (lo : Nat) (hw : memWfFrom lo m = true) :
    memGet b (memSet a v m) = if b = a then v else memGet b m := by
  induction m generalizing lo with
  | nil =>
    by_cases hv : v = 0#8 <;> by_cases hb : b = a
    · simp [memSet, memGet, hv, hb]
    · simp [memSet, memGet, hv, hb]
    · simp [memSet, memGet, hv, hb]
    · have h2 : ¬ a = b := fun h => hb h.symm
      simp [memSet, memGet, hv, hb, h2]
  | cons e r ih =>
    obtain ⟨c, w⟩ := e
    simp only [memWfFrom, Bool.and_eq_true, decide_eq_true_eq, bne_iff_ne, ne_eq] at hw
    obtain ⟨⟨hc, hw0⟩, hr⟩ := hw
    unfold memSet
    by_cases h1 : a < c
    · by_cases hv : v = 0#8
      · by_cases hb : b = a
        · subst hb
          have h3 : ¬ c = b := by omega
          simp [h1, hv, memGet, h3]
        · simp [h1, hv, hb]
      · by_cases hb : b = a
        · subst hb; simp [h1, hv, memGet]
        · have h3 : ¬ a = b := fun h => hb h.symm
          by_cases h4 : b < a
          · have h5 : ¬ c = b := by omega
            have h6 : b < c := by omega
            simp [h1, hv, memGet, hb, h3, h4, h5, h6]
          · simp [h1, hv, memGet, hb, h3, h4]
    · by_cases h2 : a = c
      · subst h2
        by_cases hv : v = 0#8
        · simp only [lt_irrefl, if_false, if_true, hv]
          by_cases hb : b = a
          · subst hb; simpa using memGet_of_low r hr (by omega)
          · have h3 : ¬ a = b := fun h => hb h.symm
            by_cases h4 : b < a
            · simpa [memGet, hb, h3, h4] using memGet_of_low r hr (by omega)
            · simp [memGet, hb, h3, h4]
        · by_cases hb : b = a
          · subst hb; simp [hv, memGet]
          · have h3 : ¬ a = b := fun h => hb h.symm
            simp [hv, memGet, hb, h3]
      · simp only [h1, h2, if_false, memGet]
        by_cases hb : b = a
        · subst hb
          have h3 : ¬ c = b := fun h => h2 h.symm
          simp [h3, h1, ih (c + 1) hr]
        · by_cases h3 : c = b
          · simp [h3, hb]
          · simp [h3, hb, ih (c + 1) hr]

/-- A byte reads what was last set, and every other byte what it read before. -/
theorem memGet_memSet (a b : Nat) (v : Byte) (m : List Host.Cell) (h : memWf m = true) :
    memGet b (memSet a v m) = if b = a then v else memGet b m :=
  memGet_memSet_from a b v m 0 h

/-- Bytes outside a span that is written read as before. -/
theorem memGet_memSetN_out (a b : Nat) (bs : List Byte) (m : List Host.Cell) (h : memWf m = true)
    (hb : b < a ∨ a + bs.length ≤ b) : memGet b (memSetN a bs m) = memGet b m := by
  induction bs generalizing a m with
  | nil => rfl
  | cons x r ih =>
    simp only [List.length_cons] at hb
    rw [memSetN, ih (a + 1) (memSet a x m) (memSet_wf a x m h) (by omega), memGet_memSet a b x m h]
    simp [show b ≠ a by omega]

/-- Bytes inside a span that is written read as written. -/
theorem memGet_memSetN_in (a i : Nat) (bs : List Byte) (m : List Host.Cell) (h : memWf m = true) (hi : i < bs.length) :
    memGet (a + i) (memSetN a bs m) = bs[i] := by
  induction bs generalizing a m i with
  | nil => simp at hi
  | cons x r ih =>
    cases i with
    | zero =>
      rw [memSetN, memGet_memSetN_out (a + 1) (a + 0) r _ (memSet_wf a x m h) (by omega), memGet_memSet a (a + 0) x m h]
      simp
    | succ j =>
      have hj : j < r.length := by simpa using hi
      have := ih (a + 1) j (memSet a x m) (memSet_wf a x m h) hj
      rw [memSetN, show a + (j + 1) = a + 1 + j by omega, this]
      simp

/-! ### The state's writes -/

/-- The bytes of memory are in canonical form. -/
def State.memOk (s : State) : Prop := memWf s.mem.bytes = true

@[simp] theorem injectInto_bytes (g key : Nat) (s : State) : (injectInto g key s).mem.bytes = s.mem.bytes := by
  unfold injectInto
  split
  · split <;> rfl
  · rfl

/-- What a write leaves in the byte table. -/
theorem writeAt_bytes (a : Nat) (bs : List Byte) (s : State) :
    (writeAt a bs s).mem.bytes = memSetN a bs s.mem.bytes := by
  unfold writeAt
  simp only
  split
  · rw [injectInto_bytes]; rfl
  · rfl

/-- What zeroing leaves in the byte table. -/
theorem zeroAt_bytes (a n : Nat) (s : State) :
    (zeroAt a n s).mem.bytes = s.mem.bytes.filter (fun e => decide (e.1 < a) || decide (a + n ≤ e.1)) := by
  unfold zeroAt
  simp only
  split
  · rw [injectInto_bytes]; rfl
  · rfl

theorem writeAt_memOk (a : Nat) (bs : List Byte) (s : State) (h : s.memOk) : (writeAt a bs s).memOk := by
  unfold State.memOk
  rw [writeAt_bytes]
  exact memSetN_wf a bs _ h

theorem zeroAt_memOk (a n : Nat) (s : State) (h : s.memOk) : (zeroAt a n s).memOk := by
  unfold State.memOk
  rw [zeroAt_bytes]
  exact memFilter_wf _ _ h

theorem writeLoc_memOk (l : Loc) (off : Nat) (bs : List Byte) (s : State) (h : s.memOk) :
    (writeLoc l off bs s).memOk := by
  unfold writeLoc
  split
  · exact writeAt_memOk _ _ _ h
  · exact h

/-- The table of the state after reset is in canonical form: it lists nothing. -/
theorem reset_memOk : State.reset.memOk := rfl

end Sys2Proof.Machine
end

