-- ==== Sys2Proof/Laws/Keep.lean ====
section
/-! SUPPORT. What the operations that build every command keep: the queue of commands, and a sound state. -/

namespace Sys2Proof.Machine

open Sys2Proof

/-- A state whose waiting commands are `q`, that is sound and, where `m` says so, whose bytes of memory are those of `m`.
An operation that stores nothing keeps this for every `m`; one that may store keeps it for `none`. -/
def Keep (q : List Instr) (m : Option (List Host.Cell)) (s : State) : Prop :=
  s.pending = q ∧ s.Sound ∧ ∀ b, m = some b → s.mem.bytes = b

/-- A command's answer, where it is a next state, keeps `q` waiting and is sound. -/
def KeepR (q : List Instr) (m : Option (List Host.Cell)) (r : Result) : Prop := ∀ t, r = .next t → Keep q m t

/-- The state of an option, where there is one. -/
def KeepO (q : List Instr) (m : Option (List Host.Cell)) (o : Option State) : Prop := ∀ t, o = some t → Keep q m t

/-- The state beside a value, where there is one. -/
def KeepP {α : Type} (q : List Instr) (m : Option (List Host.Cell)) (o : Option (α × State)) : Prop := ∀ r, o = some r → Keep q m r.2

/-- The state of an answer that is not an error. -/
def KeepE {ε : Type} (q : List Instr) (m : Option (List Host.Cell)) (o : Except ε State) : Prop := ∀ t, o = .ok t → Keep q m t

/-- The state beside a value of an answer that is not an error. -/
def KeepX {ε α : Type} (q : List Instr) (m : Option (List Host.Cell)) (o : Except ε (α × State)) : Prop := ∀ r, o = .ok r → Keep q m r.2

theorem keep_congr {q : List Instr} {m : Option (List Host.Cell)} {s t : State} (h : Keep q m s) (hp : t.pending = s.pending)
    (hm : t.mem.bytes = s.mem.bytes) (hr : t.regs = s.regs) (he : t.evr.ring = s.evr.ring) : Keep q m t := by
  obtain ⟨h1, ⟨h2, h3, h4⟩, h5⟩ := h
  refine ⟨hp.trans h1, ⟨?_, ?_, ?_⟩, fun b hb => hm.trans (h5 b hb)⟩
  · rw [hm]; exact h2
  · intro n i; unfold State.rg; rw [hr]; exact h3 n i
  · rw [he]; exact h4

theorem keep_ite {q : List Instr} {m : Option (List Host.Cell)} {c : Prop} [Decidable c] {a b : State} (ha : c → Keep q m a) (hb : ¬c → Keep q m b) :
    Keep q m (if c then a else b) := by
  by_cases h : c
  · rw [if_pos h]; exact ha h
  · rw [if_neg h]; exact hb h

theorem keepO_none {q : List Instr} {m : Option (List Host.Cell)} : KeepO q m none := by intro t h; cases h
theorem keepO_some {q : List Instr} {m : Option (List Host.Cell)} {s : State} (h : Keep q m s) : KeepO q m (some s) := by intro t e; cases e; exact h
theorem keepP_none {α : Type} {q : List Instr} {m : Option (List Host.Cell)} : KeepP q m (none : Option (α × State)) := by intro t h; cases h
theorem keepP_some {α : Type} {q : List Instr} {m : Option (List Host.Cell)} {r : α × State} (h : Keep q m r.2) : KeepP q m (some r) := by
  intro t e; cases e; exact h
theorem keepE_error {ε : Type} {q : List Instr} {m : Option (List Host.Cell)} {x : ε} : KeepE q m (.error x) := by intro t h; cases h
theorem keepE_ok {ε : Type} {q : List Instr} {m : Option (List Host.Cell)} {s : State} (h : Keep q m s) : KeepE q m (.ok s : Except ε State) := by
  intro t e; cases e; exact h
theorem keepX_error {ε α : Type} {q : List Instr} {m : Option (List Host.Cell)} {x : ε} : KeepX q m (.error x : Except ε (α × State)) := by
  intro t h; cases h
theorem keepX_ok {ε α : Type} {q : List Instr} {m : Option (List Host.Cell)} {r : α × State} (h : Keep q m r.2) :
    KeepX q m (.ok r : Except ε (α × State)) := by
  intro t e; cases e; exact h

theorem keep_getD {q : List Instr} {m : Option (List Host.Cell)} {o : Option State} {s : State} (ho : KeepO q m o) (h : Keep q m s) : Keep q m (o.getD s) := by
  cases o
  · exact h
  · exact ho _ rfl

theorem keepMapOn {α : Type} {q : List Instr} {m : Option (List Host.Cell)} {o : Option α} {f : α → State}
    (hf : ∀ x, Keep q m (f x)) : KeepO q m (o.map f) := by
  cases o with
  | none => intro t e; cases e
  | some x => intro t e; cases e; exact hf x
theorem keepMapOo {q : List Instr} {m : Option (List Host.Cell)} {o : Option State} {f : State → State} (ho : KeepO q m o)
    (hf : ∀ x, Keep q m x → Keep q m (f x)) : KeepO q m (o.map f) := by
  cases o with
  | none => intro t e; cases e
  | some x => intro t e; cases e; exact hf x (ho x rfl)
theorem keepMapOp {α : Type} {q : List Instr} {m : Option (List Host.Cell)} {o : Option (α × State)} {f : (α × State) → State} (ho : KeepP q m o)
    (hf : ∀ x, Keep q m x.2 → Keep q m (f x)) : KeepO q m (o.map f) := by
  cases o with
  | none => intro t e; cases e
  | some x => intro t e; cases e; exact hf x (ho x rfl)
theorem keepMapPn {α : Type} {β : Type} {q : List Instr} {m : Option (List Host.Cell)} {o : Option α} {f : α → (β × State)}
    (hf : ∀ x, Keep q m (f x).2) : KeepP q m (o.map f) := by
  cases o with
  | none => intro t e; cases e
  | some x => intro t e; cases e; exact hf x
theorem keepMapPo {β : Type} {q : List Instr} {m : Option (List Host.Cell)} {o : Option State} {f : State → (β × State)} (ho : KeepO q m o)
    (hf : ∀ x, Keep q m x → Keep q m (f x).2) : KeepP q m (o.map f) := by
  cases o with
  | none => intro t e; cases e
  | some x => intro t e; cases e; exact hf x (ho x rfl)
theorem keepMapPp {α : Type} {β : Type} {q : List Instr} {m : Option (List Host.Cell)} {o : Option (α × State)} {f : (α × State) → (β × State)} (ho : KeepP q m o)
    (hf : ∀ x, Keep q m x.2 → Keep q m (f x).2) : KeepP q m (o.map f) := by
  cases o with
  | none => intro t e; cases e
  | some x => intro t e; cases e; exact hf x (ho x rfl)
theorem keepBindOn {α : Type} {q : List Instr} {m : Option (List Host.Cell)} {o : Option α} {f : α → Option State}
    (hf : ∀ x, KeepO q m (f x)) : KeepO q m (o.bind f) := by
  cases o with
  | none => intro t e; cases e
  | some x => exact hf x
theorem keepBindOo {q : List Instr} {m : Option (List Host.Cell)} {o : Option State} {f : State → Option State} (ho : KeepO q m o)
    (hf : ∀ x, Keep q m x → KeepO q m (f x)) : KeepO q m (o.bind f) := by
  cases o with
  | none => intro t e; cases e
  | some x => exact hf x (ho x rfl)
theorem keepBindOp {α : Type} {q : List Instr} {m : Option (List Host.Cell)} {o : Option (α × State)} {f : (α × State) → Option State} (ho : KeepP q m o)
    (hf : ∀ x, Keep q m x.2 → KeepO q m (f x)) : KeepO q m (o.bind f) := by
  cases o with
  | none => intro t e; cases e
  | some x => exact hf x (ho x rfl)
theorem keepBindPn {α : Type} {β : Type} {q : List Instr} {m : Option (List Host.Cell)} {o : Option α} {f : α → Option (β × State)}
    (hf : ∀ x, KeepP q m (f x)) : KeepP q m (o.bind f) := by
  cases o with
  | none => intro t e; cases e
  | some x => exact hf x
theorem keepBindPo {β : Type} {q : List Instr} {m : Option (List Host.Cell)} {o : Option State} {f : State → Option (β × State)} (ho : KeepO q m o)
    (hf : ∀ x, Keep q m x → KeepP q m (f x)) : KeepP q m (o.bind f) := by
  cases o with
  | none => intro t e; cases e
  | some x => exact hf x (ho x rfl)
theorem keepBindPp {α : Type} {β : Type} {q : List Instr} {m : Option (List Host.Cell)} {o : Option (α × State)} {f : (α × State) → Option (β × State)} (ho : KeepP q m o)
    (hf : ∀ x, Keep q m x.2 → KeepP q m (f x)) : KeepP q m (o.bind f) := by
  cases o with
  | none => intro t e; cases e
  | some x => exact hf x (ho x rfl)

theorem keep_pair {α : Type} {q : List Instr} {m : Option (List Host.Cell)} {p : α × State} {a : α} {t : State} (h : Keep q m p.2) (e : p = (a, t)) :
    Keep q m t := by
  rw [e] at h
  exact h

theorem keep_foldl {α β : Type} {q : List Instr} {m : Option (List Host.Cell)} {l : List β} {f : α × State → β → α × State} {a : α × State}
    (h : Keep q m a.2) (hf : ∀ x, Keep q m x.2 → ∀ y, Keep q m (f x y).2) : Keep q m (l.foldl f a).2 := by
  induction l generalizing a with
  | nil => exact h
  | cons y r ih => exact ih (hf a h y)

theorem keepR_done {q : List Instr} {m : Option (List Host.Cell)} {s : State} (h : Keep q m s) : KeepR q m (done s) := by
  intro t ht
  cases ht
  exact h

theorem keep_setRg {q : List Instr} {m : Option (List Host.Cell)} {n : RN} {i v : Nat} {s : State} (h : Keep q m s) : Keep q m (setRg n i v s) := by
  obtain ⟨h1, ⟨h2, h3, h4⟩, h5⟩ := h
  refine ⟨h1, ⟨h2, ?_, h4⟩, h5⟩
  intro r j
  by_cases hk : (r, j) = (n, i)
  · cases hk
    rw [setRg_rg_self]
    exact Nat.mod_lt _ (Nat.pow_pos (by decide))
  · rw [setRg_rg_ne _ _ hk]
    exact h3 r j

theorem keep_onMemWf {q : List Instr} {f : MemSt → MemSt} {s : State} (h : Keep q none s)
    (hf : memWf (f s.mem).bytes = true) : Keep q none (onMem f s) :=
  ⟨h.1, ⟨hf, h.2.1.2⟩, fun _ e => nomatch e⟩

theorem keep_onEvrLen {q : List Instr} {m : Option (List Host.Cell)} {f : EvrSt → EvrSt} {s : State} (h : Keep q m s)
    (hf : (f s.evr).ring.length ≤ 8192) : Keep q m (onEvr f s) :=
  ⟨h.1, ⟨h.2.1.1, h.2.1.2.1, hf⟩, h.2.2⟩

theorem keep_onMem {q : List Instr} {m : Option (List Host.Cell)} {f : MemSt → MemSt} {s : State} (h : Keep q m s)
    (hf : ∀ m, (f m).bytes = m.bytes) : Keep q m (onMem f s) :=
  keep_congr h rfl (hf _) rfl rfl

theorem keep_onEvr {q : List Instr} {m : Option (List Host.Cell)} {f : EvrSt → EvrSt} {s : State} (h : Keep q m s)
    (hf : ∀ e, (f e).ring = e.ring) : Keep q m (onEvr f s) :=
  keep_congr h rfl rfl rfl (hf _)

theorem keep_forEach {α : Type} {q : List Instr} {m : Option (List Host.Cell)} {l : List α} {f : α → State → State} {s : State} (h : Keep q m s)
    (hf : ∀ x t, Keep q m t → Keep q m (f x t)) : Keep q m (forEach l f s) :=
  forEach_keeps l f s h hf

theorem keep_when {q : List Instr} {m : Option (List Host.Cell)} {c : Bool} {f : State → State} {s : State} (h : Keep q m s)
    (hf : ∀ t, Keep q m t → Keep q m (f t)) : Keep q m (when c f s) := by
  cases c
  · exact h
  · exact hf s h

theorem keep_whenSome {α : Type} {q : List Instr} {m : Option (List Host.Cell)} {o : Option α} {f : α → State → State} {s : State} (h : Keep q m s)
    (hf : ∀ x t, Keep q m t → Keep q m (f x t)) : Keep q m (whenSome o f s) := by
  cases o
  · exact h
  · exact hf _ s h

theorem keep_injectInto {q : List Instr} {m : Option (List Host.Cell)} {g key : Nat} {s : State} (h : Keep q m s) : Keep q m (injectInto g key s) := by
  unfold injectInto
  split
  · refine keep_ite (fun _ => ?_) (fun _ => h)
    exact keep_setRg (keep_onMem h (fun _ => rfl))
  · exact h

theorem keep_writeAt {q : List Instr} {a : Nat} {bs : List Byte} {s : State} (h : Keep q none s) : Keep q none (writeAt a bs s) := by
  unfold writeAt
  exact keep_ite (fun _ => keep_injectInto (keep_onMemWf h (memSetN_wf _ _ _ h.2.1.1)))
    (fun _ => keep_onMemWf h (memSetN_wf _ _ _ h.2.1.1))

theorem keep_zeroAt {q : List Instr} {a n : Nat} {s : State} (h : Keep q none s) : Keep q none (zeroAt a n s) := by
  unfold zeroAt
  exact keep_ite (fun _ => keep_injectInto (keep_onMemWf h (memFilter_wf _ _ h.2.1.1)))
    (fun _ => keep_onMemWf h (memFilter_wf _ _ h.2.1.1))

theorem pushRecord_length (r : EvRec) (ring : List EvRec) : (pushRecord r ring).length ≤ 8192 := by
  unfold pushRecord
  exact List.length_take_le _ _

/-! ### The state after reset -/

theorem reset_fits (n : RN) : RN.reset n < 2 ^ RN.width n := by
  cases n <;> decide

theorem lookD_of {κ α : Type} [DecidableEq κ] {P : α → Prop} (k : κ) (d : α) (m : List (κ × α)) (hd : P d)
    (hm : ∀ e ∈ m, e.1 = k → P e.2) : P (lookD k d m) := by
  unfold lookD
  induction m with
  | nil => exact hd
  | cons e r ih =>
    unfold look
    by_cases h : e.1 = k
    · rw [if_pos h]; exact hm e (List.mem_cons_self) h
    · rw [if_neg h]; exact ih (fun x hx => hm x (List.mem_cons_of_mem _ hx))

theorem tileCells_fit : ∀ e ∈ tileCells, e.2 < 2 ^ RN.width e.1.1 := by decide

/-- The state after reset is sound. -/
theorem reset_sound : State.reset.Sound := by
  refine ⟨rfl, ?_, by decide⟩
  intro n i
  refine lookD_of (P := fun v => v < 2 ^ RN.width n) _ _ _ (reset_fits n) (fun e he h => ?_)
  have := tileCells_fit e he
  rw [h] at this
  exact this

end Sys2Proof.Machine
end

