-- ==== Sys2Proof/Laws/KeepOps.lean ====
section
/-! SUPPORT. The operations of registers, events, links, memory and completion keep the queue of commands and a sound state. -/

namespace Sys2Proof.Machine

open Sys2Proof

/-! ### Ops -/

theorem keep_bump {q : List Instr} {m : Option (List Host.Cell)} {a0 a1 a2 a3 : _} (ha3 : Keep q m a3) :
    Keep q m (bump a0 a1 a2 a3) := by
  unfold bump
  exact keep_setRg ha3

theorem keep_wrapUp {q : List Instr} {m : Option (List Host.Cell)} {a0 a1 a2 : _} (ha2 : Keep q m a2) :
    Keep q m (wrapUp a0 a1 a2) := by
  unfold wrapUp
  exact keep_setRg ha2

theorem keep_peak {q : List Instr} {m : Option (List Host.Cell)} {a0 a1 a2 a3 : _} (ha3 : Keep q m a3) :
    Keep q m (peak a0 a1 a2 a3) := by
  unfold peak
  exact keep_ite (fun _ => keep_setRg ha3) (fun _ => ha3)

theorem keep_live {q : List Instr} {m : Option (List Host.Cell)} {a0 a1 : _} (ha0 : ∀ x0, Keep q m x0 → Keep q m (a0 x0)) (ha1 : Keep q m a1) :
    Keep q m (live a0 a1) := by
  unfold live
  exact keep_ite (fun _ => ha0 _ ha1) (fun _ => ha1)

theorem keep_onMon {q : List Instr} {m : Option (List Host.Cell)} {a0 a1 : _} (ha1 : Keep q m a1) :
    Keep q m (onMon a0 a1) := by
  unfold onMon
  exact keep_congr ha1 rfl rfl rfl rfl

theorem keep_onTime {q : List Instr} {m : Option (List Host.Cell)} {a0 a1 : _} (ha1 : Keep q m a1) :
    Keep q m (onTime a0 a1) := by
  unfold onTime
  exact keep_congr ha1 rfl rfl rfl rfl

theorem keep_onComp {q : List Instr} {m : Option (List Host.Cell)} {a0 a1 : _} (ha1 : Keep q m a1) :
    Keep q m (onComp a0 a1) := by
  unfold onComp
  exact keep_congr ha1 rfl rfl rfl rfl

theorem keep_onQue {q : List Instr} {m : Option (List Host.Cell)} {a0 a1 : _} (ha1 : Keep q m a1) :
    Keep q m (onQue a0 a1) := by
  unfold onQue
  exact keep_congr ha1 rfl rfl rfl rfl

theorem keep_onSeq {q : List Instr} {m : Option (List Host.Cell)} {a0 a1 : _} (ha1 : Keep q m a1) :
    Keep q m (onSeq a0 a1) := by
  unfold onSeq
  exact keep_congr ha1 rfl rfl rfl rfl

theorem keep_onOwl {q : List Instr} {m : Option (List Host.Cell)} {a0 a1 : _} (ha1 : Keep q m a1) :
    Keep q m (onOwl a0 a1) := by
  unfold onOwl
  exact keep_congr ha1 rfl rfl rfl rfl

theorem keep_onFox {q : List Instr} {m : Option (List Host.Cell)} {a0 a1 : _} (ha1 : Keep q m a1) :
    Keep q m (onFox a0 a1) := by
  unfold onFox
  exact keep_congr ha1 rfl rfl rfl rfl

theorem keep_onDep {q : List Instr} {m : Option (List Host.Cell)} {a0 a1 : _} (ha1 : Keep q m a1) :
    Keep q m (onDep a0 a1) := by
  unfold onDep
  exact keep_congr ha1 rfl rfl rfl rfl

theorem keep_onPark {q : List Instr} {m : Option (List Host.Cell)} {a0 a1 : _} (ha1 : Keep q m a1) :
    Keep q m (onPark a0 a1) := by
  unfold onPark
  exact keep_congr ha1 rfl rfl rfl rfl

theorem keep_onPrt {q : List Instr} {m : Option (List Host.Cell)} {a0 a1 : _} (ha1 : Keep q m a1) :
    Keep q m (onPrt a0 a1) := by
  unfold onPrt
  exact keep_congr ha1 rfl rfl rfl rfl

theorem keep_onTrf {q : List Instr} {m : Option (List Host.Cell)} {a0 a1 : _} (ha1 : Keep q m a1) :
    Keep q m (onTrf a0 a1) := by
  unfold onTrf
  exact keep_congr ha1 rfl rfl rfl rfl

theorem keep_onSec {q : List Instr} {m : Option (List Host.Cell)} {a0 a1 : _} (ha1 : Keep q m a1) :
    Keep q m (onSec a0 a1) := by
  unfold onSec
  exact keep_congr ha1 rfl rfl rfl rfl

theorem keep_onRas {q : List Instr} {m : Option (List Host.Cell)} {a0 a1 : _} (ha1 : Keep q m a1) :
    Keep q m (onRas a0 a1) := by
  unfold onRas
  exact keep_congr ha1 rfl rfl rfl rfl

theorem keep_onStart {q : List Instr} {m : Option (List Host.Cell)} {a0 a1 : _} (ha1 : Keep q m a1) :
    Keep q m (onStart a0 a1) := by
  unfold onStart
  exact keep_congr ha1 rfl rfl rfl rfl

theorem keep_onPkg {q : List Instr} {m : Option (List Host.Cell)} {a0 a1 : _} (ha1 : Keep q m a1) :
    Keep q m (onPkg a0 a1) := by
  unfold onPkg
  exact keep_congr ha1 rfl rfl rfl rfl

theorem keep_emit {q : List Instr} {m : Option (List Host.Cell)} {a0 a1 : _} (ha1 : Keep q m a1) :
    Keep q m (emit a0 a1) := by
  unfold emit
  exact keep_congr ha1 rfl rfl rfl rfl

theorem keep_freeTaken {q : List Instr} {m : Option (List Host.Cell)} {a0 : _} (ha0 : Keep q m a0) :
    Keep q m (freeTaken a0) := by
  unfold freeTaken
  exact keep_congr ha0 rfl rfl rfl rfl

theorem keep_writeRecord {q : List Instr} {m : Option (List Host.Cell)} {a0 a1 a2 a3 : _} (ha3 : Keep q m a3) :
    Keep q m (writeRecord a0 a1 a2 a3) := by
  unfold writeRecord
  exact keep_when ⟨ha3.1, ⟨ha3.2.1.1, ha3.2.1.2.1, pushRecord_length _ _⟩, ha3.2.2⟩ (fun _ h1 => keep_bump h1)

theorem keep_freshCounts {q : List Instr} {m : Option (List Host.Cell)} {a0 : _} (ha0 : Keep q m a0) :
    Keep q m (freshCounts a0) := by
  unfold freshCounts
  extract_lets -merge +onlyGivenNames y0
  exact keep_ite (fun _ => ha0) (fun _ => keep_congr ha0 rfl rfl rfl rfl)

theorem keep_raise {q : List Instr} {m : Option (List Host.Cell)} {a0 a1 a2 a3 : _} (ha3 : Keep q m a3) :
    Keep q m (raise a0 a1 a2 a3) := by
  unfold raise
  extract_lets -merge +onlyGivenNames x0 y1 x2 y3 y4 x5
  have hx0 : Keep q m x0 := keep_freshCounts ha3
  have hx2 : Keep q m x2 := keep_writeRecord hx0
  have hx5 : Keep q m x5 := keep_congr hx0 rfl rfl rfl rfl
  exact keep_ite (fun _ => keep_congr hx2 rfl rfl rfl rfl) (fun _ => keep_bump hx5)

theorem keep_raiseFirst {q : List Instr} {m : Option (List Host.Cell)} {a0 a1 a2 a3 a4 : _} (ha4 : Keep q m a4) :
    Keep q m (raiseFirst a0 a1 a2 a3 a4) := by
  unfold raiseFirst
  extract_lets -merge +onlyGivenNames y0
  exact keep_ite (fun _ => ha4) (fun _ => keep_raise (keep_congr ha4 rfl rfl rfl rfl))

theorem keep_setOnz {q : List Instr} {m : Option (List Host.Cell)} {a0 a1 a2 : _} (ha2 : Keep q m a2) :
    Keep q m (setOnz a0 a1 a2) := by
  unfold setOnz
  exact keep_ite (fun _ => keep_congr ha2 rfl rfl rfl rfl) (fun _ => keep_congr ha2 rfl rfl rfl rfl)

theorem keep_result {q : List Instr} {m : Option (List Host.Cell)} {a0 a1 a2 a3 a4 : _} (ha4 : Keep q m a4) :
    Keep q m (result a0 a1 a2 a3 a4) := by
  unfold result
  exact keep_setRg (keep_setRg ha4)

theorem keep_expertDo {q : List Instr} {m : Option (List Host.Cell)} {a0 a1 a2 a3 a4 : _} (ha3 : ∀ x0, Keep q m x0 → Keep q m (a3 x0)) (ha4 : Keep q m a4) :
    Keep q m (expertDo a0 a1 a2 a3 a4) := by
  unfold expertDo
  exact keep_ite (fun _ => ha3 _ ha4) (fun _ => keep_raise ha4)

theorem keep_powered {q : List Instr} {m : Option (List Host.Cell)} {a0 a1 : _} (ha0 : ∀ x0, Keep q m x0 → Keep q m (a0 x0)) (ha1 : Keep q m a1) :
    Keep q m (powered a0 a1) := by
  unfold powered
  exact keep_ite (fun _ => ha0 _ ha1) (fun _ => ha1)

theorem keep_access {q : List Instr} {m : Option (List Host.Cell)} {a0 a1 a2 a3 : _} (ha2 : ∀ x0, Keep q m x0 → Keep q m (a2 x0)) (ha3 : Keep q m a3) :
    Keep q m (access a0 a1 a2 a3) := by
  unfold access
  exact keep_ite (fun _ => ha2 _ ha3) (fun _ => ha3)

/-! ### Egress -/

theorem keep_setLink {q : List Instr} {m : Option (List Host.Cell)} {a0 a1 a2 : _} (ha2 : Keep q m a2) :
    Keep q m (setLink a0 a1 a2) := by
  unfold setLink
  extract_lets -merge +onlyGivenNames y0
  exact keep_congr ha2 rfl rfl rfl rfl

theorem keep_setLinkTime {q : List Instr} {m : Option (List Host.Cell)} {a0 a1 a2 : _} (ha2 : Keep q m a2) :
    Keep q m (setLinkTime a0 a1 a2) := by
  unfold setLinkTime
  exact keep_onTime ha2

theorem keep_raiseCar {q : List Instr} {m : Option (List Host.Cell)} {a0 a1 a2 a3 : _} (ha3 : Keep q m a3) :
    Keep q m (raiseCar a0 a1 a2 a3) := by
  unfold raiseCar
  exact keep_raiseFirst ha3

theorem keep_setShaper {q : List Instr} {m : Option (List Host.Cell)} {a0 a1 a2 : _} (ha2 : Keep q m a2) :
    Keep q m (setShaper a0 a1 a2) := by
  unfold setShaper
  extract_lets -merge +onlyGivenNames y0
  exact keep_congr ha2 rfl rfl rfl rfl

theorem keep_shaperTake {q : List Instr} {m : Option (List Host.Cell)} {a0 a1 a2 : _} (ha2 : Keep q m a2) :
    Keep q m (shaperTake a0 a1 a2) := by
  unfold shaperTake
  extract_lets -merge +onlyGivenNames y0 y1
  exact keep_ite (fun _ => ha2) (fun _ => keep_setShaper ha2)

theorem keep_isoFollow {q : List Instr} {m : Option (List Host.Cell)} {a0 : _} (ha0 : Keep q m a0) :
    Keep q m (isoFollow a0) := by
  unfold isoFollow
  exact keep_forEach ha0 (fun _ _ h0 => keep_ite (fun _ => keep_setLink h0) (fun _ => h0))

theorem keep_addBytes {q : List Instr} {m : Option (List Host.Cell)} {a0 a1 a2 a3 a4 : _} (ha4 : Keep q m a4) :
    Keep q m (addBytes a0 a1 a2 a3 a4) := by
  unfold addBytes
  extract_lets -merge +onlyGivenNames y0
  exact keep_setRg (keep_setRg ha4)

theorem keep_linkGot {q : List Instr} {m : Option (List Host.Cell)} {a0 a1 a2 : _} (ha2 : Keep q m a2) :
    Keep q m (linkGot a0 a1 a2) := by
  unfold linkGot
  exact keep_addBytes ha2

theorem keep_linkEmit {q : List Instr} {m : Option (List Host.Cell)} {a0 a1 a2 : _} (ha2 : Keep q m a2) :
    Keep q m (linkEmit a0 a1 a2) := by
  unfold linkEmit
  exact keep_addBytes (keep_emit ha2)

theorem keep_linkTransmit {q : List Instr} {m : Option (List Host.Cell)} {a0 a1 a2 a3 a4 a5 : _} (ha5 : Keep q m a5) :
    Keep q m (linkTransmit a0 a1 a2 a3 a4 a5) := by
  unfold linkTransmit
  extract_lets -merge +onlyGivenNames y0 y1
  exact keep_linkEmit (keep_setLink ha5)

theorem keep_linkAck {q : List Instr} {m : Option (List Host.Cell)} {a0 a1 a2 : _} (ha2 : Keep q m a2) :
    Keep q m (linkAck a0 a1 a2) := by
  unfold linkAck
  exact keep_linkEmit ha2

theorem keep_linkNak {q : List Instr} {m : Option (List Host.Cell)} {a0 a1 a2 : _} (ha2 : Keep q m a2) :
    Keep q m (linkNak a0 a1 a2) := by
  unfold linkNak
  exact keep_linkEmit ha2

theorem keep_linkReturn {q : List Instr} {m : Option (List Host.Cell)} {a0 a1 a2 a3 : _} (ha3 : Keep q m a3) :
    Keep q m (linkReturn a0 a1 a2 a3) := by
  unfold linkReturn
  exact keep_linkEmit ha3

theorem keep_setSlotUse {q : List Instr} {m : Option (List Host.Cell)} {a0 a1 a2 a3 : _} (ha3 : Keep q m a3) :
    Keep q m (setSlotUse a0 a1 a2 a3) := by
  unfold setSlotUse
  exact keep_onTrf ha3

theorem keep_arrivalLeft {q : List Instr} {m : Option (List Host.Cell)} {a0 a1 a2 : _} (ha2 : Keep q m a2) :
    Keep q m (arrivalLeft a0 a1 a2) := by
  unfold arrivalLeft
  split
  · exact ha2
  · exact keep_ite (fun _ => ha2) (fun _ => keep_ite (fun _ => keep_setSlotUse ha2) (fun _ => keep_linkReturn ha2))

theorem keep_captureDeparture {q : List Instr} {m : Option (List Host.Cell)} {a0 a1 a2 : _} (ha2 : Keep q m a2) :
    Keep q m (captureDeparture a0 a1 a2) := by
  unfold captureDeparture
  extract_lets -merge +onlyGivenNames y0
  exact keep_ite (fun _ => keep_freeTaken (keep_setLinkTime ha2)) (fun _ => ha2)

theorem keep_startPacket {q : List Instr} {m : Option (List Host.Cell)} {a0 a1 a2 : _} (ha2 : Keep q m a2) :
    Keep q m (startPacket a0 a1 a2) := by
  unfold startPacket
  extract_lets -merge +onlyGivenNames y0 y1 y2 y3 y4 y5 y6
  exact keep_arrivalLeft (keep_captureDeparture (keep_linkTransmit (keep_shaperTake (keep_setLink ha2))))

theorem keep_countHeld {q : List Instr} {m : Option (List Host.Cell)} {a0 a1 : _} (ha1 : Keep q m a1) :
    Keep q m (countHeld a0 a1) := by
  unfold countHeld
  extract_lets -merge +onlyGivenNames y0 y1 y2
  exact keep_forEach (keep_setLink ha1) (fun _ _ h3 => keep_bump h3)

theorem keep_egress {q : List Instr} {m : Option (List Host.Cell)} {a0 a1 : _} (ha1 : Keep q m a1) :
    Keep q m (egress a0 a1) := by
  unfold egress
  extract_lets -merge +onlyGivenNames x0
  have hx0 : Keep q m x0 := keep_countHeld ha1
  refine keep_ite (fun _ => ?_) (fun _ => ?_)
  · split
    · exact keep_startPacket hx0
    · exact hx0
  · exact hx0

theorem keep_place {q : List Instr} {m : Option (List Host.Cell)} {a0 a1 a2 a3 : _} (ha3 : Keep q m a3) :
    Keep q m (place a0 a1 a2 a3) := by
  unfold place
  extract_lets -merge +onlyGivenNames y0 y1 x2
  have hx2 : Keep q m x2 := keep_setLink ha3
  exact keep_ite (fun _ => keep_egress hx2) (fun _ => hx2)

/-! ### Onz -/

theorem keep_oSendCtl {q : List Instr} {m : Option (List Host.Cell)} {a0 a1 a2 a3 a4 : _} (ha4 : Keep q m a4) :
    Keep q m (oSendCtl a0 a1 a2 a3 a4) := by
  unfold oSendCtl
  exact keep_emit ha4

theorem keep_returnCredit {q : List Instr} {m : Option (List Host.Cell)} {a0 a1 a2 a3 : _} (ha3 : Keep q m a3) :
    Keep q m (returnCredit a0 a1 a2 a3) := by
  unfold returnCredit
  exact keep_oSendCtl ha3

theorem keep_answerLeaves {q : List Instr} {m : Option (List Host.Cell)} {a0 a1 a2 : _} (ha2 : Keep q m a2) :
    Keep q m (answerLeaves a0 a1 a2) := by
  unfold answerLeaves
  split
  · extract_lets -merge +onlyGivenNames y0
    exact keep_returnCredit (keep_setOnz ha2)
  · exact ha2

theorem keep_oTransmit {q : List Instr} {m : Option (List Host.Cell)} {a0 a1 a2 : _} (ha2 : Keep q m a2) :
    Keep q m (oTransmit a0 a1 a2) := by
  unfold oTransmit
  extract_lets -merge +onlyGivenNames y0 y1 y2
  exact keep_answerLeaves (keep_setOnz (keep_emit ha2))

theorem keep_oFlushFrom {q : List Instr} {m : Option (List Host.Cell)} {a0 a1 a2 a3 a4 : _} (ha4 : Keep q m a4) :
    Keep q m (oFlushFrom a0 a1 a2 a3 a4) := by
  induction a1 generalizing a2 a3 a4 with
  | nil => exact ha4
  | cons f r ih =>
    unfold oFlushFrom
    exact keep_ite (fun _ => ih (keep_setOnz ha4)) (fun _ => keep_ite (fun _ => ih (keep_setOnz ha4)) (fun _ => ih (keep_oTransmit ha4)))

theorem keep_oFlush {q : List Instr} {m : Option (List Host.Cell)} {a0 a1 : _} (ha1 : Keep q m a1) :
    Keep q m (oFlush a0 a1) := by
  unfold oFlush
  extract_lets -merge +onlyGivenNames y0 y1
  exact keep_oFlushFrom (keep_setOnz ha1)

theorem keep_oSend {q : List Instr} {m : Option (List Host.Cell)} {a0 a1 a2 : _} (ha2 : Keep q m a2) :
    Keep q m (oSend a0 a1 a2) := by
  unfold oSend
  extract_lets -merge +onlyGivenNames y0
  exact keep_ite (fun _ => keep_oFlush (keep_setOnz ha2)) (fun _ => ha2)

theorem keep_memWriteAs {q : List Instr} {m : Option (List Host.Cell)} {a0 a1 a2 a3 a4 a5 : _} (ha5 : Keep q m a5) :
    Keep q m (memWriteAs a0 a1 a2 a3 a4 a5) := by
  unfold memWriteAs
  extract_lets -merge +onlyGivenNames y0
  exact keep_forEach ha5 (fun _ _ h1 => keep_oSend h1)

theorem keep_memWrite {q : List Instr} {m : Option (List Host.Cell)} {a0 a1 a2 a3 a4 : _} (ha4 : Keep q m a4) :
    Keep q m (memWrite a0 a1 a2 a3 a4) := by
  unfold memWrite
  exact keep_memWriteAs ha4

theorem keep_memWriteDue {q : List Instr} {m : Option (List Host.Cell)} {a0 a1 a2 a3 a4 : _} (ha4 : Keep q m a4) :
    Keep q m (memWriteDue a0 a1 a2 a3 a4) := by
  unfold memWriteDue
  exact keep_memWriteAs ha4

theorem keep_memWritePadded {q : List Instr} {m : Option (List Host.Cell)} {a0 a1 a2 a3 : _} (ha3 : Keep q m a3) :
    Keep q m (memWritePadded a0 a1 a2 a3) := by
  unfold memWritePadded
  exact keep_memWrite ha3

theorem keep_undelivered {q : List Instr} {m : Option (List Host.Cell)} {a0 a1 : _} (ha1 : Keep q m a1) :
    Keep q m (undelivered a0 a1) := by
  unfold undelivered
  extract_lets -merge +onlyGivenNames y0 y1
  exact keep_when (keep_setOnz (keep_bump ha1)) (fun _ h2 => keep_raise h2)

theorem keep_oIssue {q : List Instr} {m : Option (List Host.Cell)} {a0 a1 a2 : _} (ha2 : Keep q m a2) :
    Keep q m (oIssue a0 a1 a2) := by
  induction a0 generalizing a2 with
  | zero => exact ha2
  | succ n ih =>
    unfold oIssue
    extract_lets -merge +onlyGivenNames y
    split
    · exact ih (keep_oSend (keep_setOnz (keep_freeTaken ha2)))
    · exact ha2

theorem keep_memRead {q : List Instr} {m : Option (List Host.Cell)} {a0 a1 a2 a3 a4 : _} (ha4 : Keep q m a4) :
    Keep q m (memRead a0 a1 a2 a3 a4) := by
  unfold memRead
  extract_lets -merge +onlyGivenNames y0 x1
  have hx1 : Keep q m x1 := keep_setOnz ha4
  exact keep_oIssue hx1

theorem keep_oReceive {q : List Instr} {m : Option (List Host.Cell)} {a0 a1 a2 a3 : _} (ha2 : ∀ x0, Keep q m x0 → Keep q m (a2 x0)) (ha3 : Keep q m a3) :
    Keep q m (oReceive a0 a1 a2 a3) := by
  unfold oReceive
  extract_lets -merge +onlyGivenNames y0
  exact keep_ite (fun _ => ha3) (fun _ => keep_ite (fun _ => ha2 _ (keep_oSendCtl (keep_setOnz ha3))) (fun _ => keep_oSendCtl (keep_bump (keep_setOnz ha3))))

theorem keep_oReplayFrom {q : List Instr} {m : Option (List Host.Cell)} {a0 a1 a2 : _} (ha2 : Keep q m a2) :
    Keep q m (oReplayFrom a0 a1 a2) := by
  unfold oReplayFrom
  extract_lets -merge +onlyGivenNames y0 y1 x2 y4
  have hx2 : Keep q m x2 := keep_forEach ha2 (fun _ _ h3 => keep_emit h3)
  exact keep_when (keep_setOnz hx2) (fun _ h5 => keep_bump h5)

/-! ### Fabric -/

theorem keep_rxPut {q : List Instr} {m : Option (List Host.Cell)} {a0 a1 a2 a3 : _} (ha3 : Keep q m a3) :
    Keep q m (rxPut a0 a1 a2 a3) := by
  unfold rxPut
  extract_lets -merge +onlyGivenNames y0 y1 y2 y3 y4
  exact keep_ite (fun _ => keep_when (keep_bump ha3) (fun _ h5 => keep_bump h5)) (fun _ => keep_congr ha3 rfl rfl rfl rfl)

theorem keep_receive {q : List Instr} {m : Option (List Host.Cell)} {a0 a1 : _} (ha1 : Keep q m a1) :
    Keep q m (receive a0 a1) := by
  unfold receive
  extract_lets -merge +onlyGivenNames y0 y1 y2
  clear_value y0 y1 y2
  refine keep_ite (fun _ => ?_) (fun _ => ?_)
  · exact keep_bump ha1
  · refine keep_ite (fun _ => ?_) (fun _ => ?_)
    · exact keep_bump ha1
    · refine keep_ite (fun _ => ?_) (fun _ => ?_)
      · exact ha1
      · split
        · exact keep_rxPut ha1
        · extract_lets -merge +onlyGivenNames y3 x4
          have hx4 : Keep q m x4 := keep_rxPut ha1
          exact keep_ite (fun _ => keep_bump ha1) (fun _ => keep_ite (fun _ => keep_raiseFirst (keep_bump ha1)) (fun _ => keep_peak hx4))

theorem keep_rxFree {q : List Instr} {m : Option (List Host.Cell)} {a0 a1 : _} (ha1 : Keep q m a1) :
    Keep q m (rxFree a0 a1) := by
  unfold rxFree
  extract_lets -merge +onlyGivenNames y0
  exact keep_congr ha1 rfl rfl rfl rfl

theorem keep_routePacket {q : List Instr} {m : Option (List Host.Cell)} {a0 a1 a2 : _} (ha2 : Keep q m a2) :
    Keep q m (routePacket a0 a1 a2) := by
  unfold routePacket
  extract_lets -merge +onlyGivenNames y0 y1 y2
  exact keep_ite (fun _ => keep_receive ha2) (fun _ => keep_ite (fun _ => keep_raiseFirst (keep_bump ha2)) (fun _ => keep_place (keep_congr ha2 rfl rfl rfl rfl)))

theorem keep_sendPackets {q : List Instr} {m : Option (List Host.Cell)} {a0 a1 a2 a3 : _} (ha3 : Keep q m a3) :
    Keep q m (sendPackets a0 a1 a2 a3) := by
  unfold sendPackets
  exact keep_forEach ha3 (fun _ _ h0 => keep_routePacket h0)

theorem keep_opIdTaken {q : List Instr} {m : Option (List Host.Cell)} {a0 a1 : _} (ha1 : Keep q m a1) :
    Keep q m (opIdTaken a0 a1) := by
  unfold opIdTaken
  extract_lets -merge +onlyGivenNames y0 y1
  exact keep_congr ha1 rfl rfl rfl rfl

theorem keep_sendPlain {q : List Instr} {m : Option (List Host.Cell)} {a0 a1 a2 a3 : _} (ha3 : Keep q m a3) :
    Keep q m (sendPlain a0 a1 a2 a3) := by
  unfold sendPlain
  exact keep_sendPackets ha3

theorem keep_sendOp {q : List Instr} {m : Option (List Host.Cell)} {a0 a1 a2 a3 a4 a5 : _} (ha5 : Keep q m a5) :
    Keep q m (sendOp a0 a1 a2 a3 a4 a5) := by
  unfold sendOp
  extract_lets -merge +onlyGivenNames y0 y1 y2 x3 y4 x5 x6
  have hx3 : Keep q m x3 := keep_freeTaken (keep_opIdTaken ha5)
  have hx5 : Keep q m x5 := keep_congr hx3 rfl rfl rfl rfl
  have hx6 : Keep q m x6 := keep_peak hx5
  exact keep_sendPackets hx6

theorem keep_noteAborted {q : List Instr} {m : Option (List Host.Cell)} {a0 a1 a2 : _} (ha2 : Keep q m a2) :
    Keep q m (noteAborted a0 a1 a2) := by
  unfold noteAborted
  exact keep_when ha2 (fun _ h0 => keep_bump h0)

theorem keep_ackMsg {q : List Instr} {m : Option (List Host.Cell)} {a0 a1 a2 a3 a4 a5 : _} (ha5 : Keep q m a5) :
    Keep q m (ackMsg a0 a1 a2 a3 a4 a5) := by
  unfold ackMsg
  extract_lets -merge +onlyGivenNames x0 y1
  have hx0 : Keep q m x0 := keep_noteAborted (keep_rxFree ha5)
  exact keep_ite (fun _ => keep_sendPlain hx0) (fun _ => hx0)

theorem keep_nakMsg {q : List Instr} {m : Option (List Host.Cell)} {a0 a1 a2 a3 a4 a5 : _} (ha5 : Keep q m a5) :
    Keep q m (nakMsg a0 a1 a2 a3 a4 a5) := by
  unfold nakMsg
  extract_lets -merge +onlyGivenNames x0 y1 x2 x3 y5
  have hx0 : Keep q m x0 := keep_rxFree ha5
  have hx2 : Keep q m x2 := keep_congr hx0 rfl rfl rfl rfl
  have hx3 : Keep q m x3 := keep_when (keep_noteAborted hx2) (fun _ h4 => keep_bump h4)
  exact keep_sendPlain hx3

theorem keep_countStale {q : List Instr} {m : Option (List Host.Cell)} {a0 : _} (ha0 : Keep q m a0) :
    Keep q m (countStale a0) := by
  unfold countStale
  extract_lets -merge +onlyGivenNames y0 y1
  exact keep_when (keep_bump (keep_congr ha0 rfl rfl rfl rfl)) (fun _ h2 => keep_raise h2)

theorem keep_notifyPort {q : List Instr} {m : Option (List Host.Cell)} {a0 a1 : _} (ha1 : Keep q m a1) :
    Keep q m (notifyPort a0 a1) := by
  unfold notifyPort
  extract_lets -merge +onlyGivenNames y0 y1 y2 x3
  have hx3 : Keep q m x3 := keep_congr ha1 rfl rfl rfl rfl
  exact keep_ite (fun _ => ha1) (fun _ => keep_ite (fun _ => keep_congr ha1 rfl rfl rfl rfl) (fun _ => keep_ite (fun _ => keep_memWriteDue hx3) (fun _ => keep_undelivered hx3)))

theorem keep_notifyBoth {q : List Instr} {m : Option (List Host.Cell)} {a0 : _} (ha0 : Keep q m a0) :
    Keep q m (notifyBoth a0) := by
  unfold notifyBoth
  exact keep_notifyPort (keep_notifyPort ha0)

theorem keep_sendNotice {q : List Instr} {m : Option (List Host.Cell)} {a0 a1 a2 a3 : _} (ha3 : Keep q m a3) :
    Keep q m (sendNotice a0 a1 a2 a3) := by
  unfold sendNotice
  exact keep_ite (fun _ => keep_sendOp ha3) (fun _ => keep_onPrt ha3)

theorem keep_sendWaitingNotice {q : List Instr} {m : Option (List Host.Cell)} {a0 : _} (ha0 : Keep q m a0) :
    Keep q m (sendWaitingNotice a0) := by
  unfold sendWaitingNotice
  split
  · exact ha0
  · exact keep_ite (fun _ => keep_sendNotice (keep_onPrt ha0)) (fun _ => ha0)

theorem keep_notice {q : List Instr} {m : Option (List Host.Cell)} {a0 a1 a2 a3 : _} (ha3 : Keep q m a3) :
    Keep q m (notice a0 a1 a2 a3) := by
  unfold notice
  extract_lets -merge +onlyGivenNames y0 y1 y2 y3 x4 x5
  have hx4 : Keep q m x4 := keep_onRas ha3
  have hx5 : Keep q m x5 := keep_forEach hx4 (fun _ _ h6 => keep_sendNotice h6)
  exact keep_ite (fun _ => ha3) (fun _ => keep_notifyBoth (keep_raise (keep_setRg (keep_bump hx5))))

theorem keep_noticeAll {q : List Instr} {m : Option (List Host.Cell)} {a0 a1 a2 : _} (ha2 : Keep q m a2) :
    Keep q m (noticeAll a0 a1 a2) := by
  unfold noticeAll
  exact keep_notice ha2

/-! ### Memory -/

theorem keep_cleanKey {q : List Instr} {m : Option (List Host.Cell)} {a0 a1 : _} (ha1 : Keep q m a1) :
    Keep q m (cleanKey a0 a1) := by
  unfold cleanKey
  exact keep_onMem ha1 (fun _ => rfl)

theorem keep_setCxl {q : List Instr} {m : Option (List Host.Cell)} {a0 a1 a2 : _} (ha2 : Keep q m a2) :
    Keep q m (setCxl a0 a1 a2) := by
  unfold setCxl
  exact keep_onMem ha2 (fun _ => rfl)

theorem keep_noteBadFrame {q : List Instr} {m : Option (List Host.Cell)} {a0 a1 : _} (ha1 : Keep q m a1) :
    Keep q m (noteBadFrame a0 a1) := by
  unfold noteBadFrame
  exact keep_onSeq ha1

theorem keep_lastUe {q : List Instr} {m : Option (List Host.Cell)} {a0 a1 a2 a3 a4 : _} (ha4 : Keep q m a4) :
    Keep q m (lastUe a0 a1 a2 a3 a4) := by
  unfold lastUe
  exact keep_setRg (keep_setRg (keep_setRg (keep_setRg (keep_setRg ha4))))

theorem keep_hbmError {q : List Instr} {m : Option (List Host.Cell)} {a0 a1 a2 a3 : _} (ha3 : Keep q m a3) :
    Keep q m (hbmError a0 a1 a2 a3) := by
  unfold hbmError
  extract_lets -merge +onlyGivenNames y0 y1 y2 y3 x4
  have hx4 : Keep q m x4 := keep_ite (fun _ => keep_noteBadFrame ha3) (fun _ => ha3)
  exact keep_ite (fun _ => keep_onMem (keep_whenSome (keep_bump ha3) (fun _ _ h5 => keep_bump h5)) (fun _ => rfl)) (fun _ => keep_raise (keep_whenSome (keep_bump hx4) (fun _ _ h6 => keep_lastUe (keep_bump h6))))

theorem keep_cxlError {q : List Instr} {m : Option (List Host.Cell)} {a0 a1 a2 : _} (ha2 : Keep q m a2) :
    Keep q m (cxlError a0 a1 a2) := by
  unfold cxlError
  extract_lets -merge +onlyGivenNames y0 y1 y2 y3 y4 y5
  exact keep_ite (fun _ => keep_bump ha2) (fun _ => keep_raise (keep_lastUe (keep_bump (keep_noteBadFrame ha2))))

theorem keep_codeError {q : List Instr} {m : Option (List Host.Cell)} {a0 a1 a2 : _} (ha2 : Keep q m a2) :
    Keep q m (codeError a0 a1 a2) := by
  unfold codeError
  exact keep_ite (fun _ => keep_hbmError ha2) (fun _ => keep_cxlError ha2)

theorem keep_noteSpan {q : List Instr} {m : Option (List Host.Cell)} {a0 a1 a2 : _} (ha2 : Keep q m a2) :
    Keep q m (noteSpan a0 a1 a2) := by
  unfold noteSpan
  exact keep_forEach ha2 (fun _ _ h0 => keep_codeError h0)

theorem keep_noteRead {q : List Instr} {m : Option (List Host.Cell)} {a0 a1 a2 a3 : _} (ha3 : Keep q m a3) :
    Keep q m (noteRead a0 a1 a2 a3) := by
  unfold noteRead
  split
  · exact keep_ite (fun _ => keep_noteSpan ha3) (fun _ => ha3)
  · exact ha3

theorem keep_readLoc {q : List Instr} {m : Option (List Host.Cell)} {a0 a1 a2 a3 : _} (ha3 : Keep q m a3) :
    Keep q m (readLoc a0 a1 a2 a3).2 := by
  unfold readLoc
  exact keep_noteRead ha3

theorem keep_writeLoc {q : List Instr} {a0 a1 a2 a3 : _} (ha3 : Keep q none a3) :
    Keep q none (writeLoc a0 a1 a2 a3) := by
  unfold writeLoc
  split
  · exact keep_writeAt ha3
  · exact ha3

theorem keep_zeroLoc {q : List Instr} {a0 a1 a2 a3 : _} (ha3 : Keep q none a3) :
    Keep q none (zeroLoc a0 a1 a2 a3) := by
  unfold zeroLoc
  split
  · exact keep_zeroAt ha3
  · exact ha3

theorem keep_countRetired {q : List Instr} {m : Option (List Host.Cell)} {a0 : _} (ha0 : Keep q m a0) :
    Keep q m (countRetired a0) := by
  unfold countRetired
  exact keep_setRg ha0

theorem keep_retireIfBad {q : List Instr} {m : Option (List Host.Cell)} {a0 a1 : _} (ha1 : Keep q m a1) :
    Keep q m (retireIfBad a0 a1) := by
  unfold retireIfBad
  extract_lets -merge +onlyGivenNames y0 x1 y2
  have hx1 : Keep q m x1 := keep_onSeq ha1
  exact keep_ite (fun _ => ha1) (fun _ => keep_ite (fun _ => keep_raise hx1) (fun _ => keep_raise (keep_countRetired (keep_onSeq hx1))))

theorem keep_scrubWrap {q : List Instr} {m : Option (List Host.Cell)} {a0 : _} (ha0 : Keep q m a0) :
    Keep q m (scrubWrap a0) := by
  unfold scrubWrap
  exact keep_ite (fun _ => ha0) (fun _ => keep_onMem (keep_raise ha0) (fun _ => rfl))

theorem keep_patrolScrub {q : List Instr} {m : Option (List Host.Cell)} {a0 : _} (ha0 : Keep q m a0) :
    Keep q m (patrolScrub a0) := by
  unfold patrolScrub
  extract_lets -merge +onlyGivenNames y0 x1
  have hx1 : Keep q m x1 := by
    unfold x1
    clear_value y0
    split
    · exact ha0
    · extract_lets -merge +onlyGivenNames x2
      have hx2 : Keep q m x2 := keep_hbmError ha0
      exact keep_ite (fun _ => keep_onMem (keep_cleanKey hx2) (fun _ => rfl)) (fun _ => keep_onMem hx2 (fun _ => rfl))
  exact keep_ite (fun _ => ha0) (fun _ => keep_scrubWrap (keep_onMem hx1 (fun _ => rfl)))

theorem keep_execPatrolScrub {q : List Instr} {m : Option (List Host.Cell)} {a0 : _} (ha0 : Keep q m a0) :
    KeepR q m (execPatrolScrub a0) := by
  unfold execPatrolScrub
  exact keepR_done (keep_live (fun _ h0 => keep_patrolScrub h0) ha0)

theorem keep_scrubForce {q : List Instr} {m : Option (List Host.Cell)} {a0 a1 : _} (ha1 : Keep q m a1) :
    Keep q m (scrubForce a0 a1) := by
  unfold scrubForce
  exact keep_expertDo (fun _ h0 => keep_onMem h0 (fun _ => rfl)) ha1

theorem keep_execScrubForce {q : List Instr} {m : Option (List Host.Cell)} {a0 a1 : _} (ha1 : Keep q m a1) :
    KeepR q m (execScrubForce a0 a1) := by
  unfold execScrubForce
  exact keepR_done (keep_live (fun _ h0 => keep_access (fun _ h1 => keep_scrubForce h1) h0) ha1)

theorem keep_hbmRefresh {q : List Instr} {m : Option (List Host.Cell)} {a0 a1 a2 : _} (ha2 : Keep q m a2) :
    Keep q m (hbmRefresh a0 a1 a2) := by
  unfold hbmRefresh
  extract_lets -merge +onlyGivenNames y0
  exact keep_ite (fun _ => ha2) (fun _ => keep_onMem ha2 (fun _ => rfl))

theorem keep_execHbmRefresh {q : List Instr} {m : Option (List Host.Cell)} {a0 a1 : _} (ha1 : Keep q m a1) :
    KeepR q m (execHbmRefresh a0 a1) := by
  unfold execHbmRefresh
  exact keepR_done (keep_live (fun _ h0 => keep_hbmRefresh h0) ha1)

theorem keep_ceThreshold {q : List Instr} {m : Option (List Host.Cell)} {a0 a1 a2 : _} (ha2 : Keep q m a2) :
    Keep q m (ceThreshold a0 a1 a2) := by
  unfold ceThreshold
  exact keep_ite (fun _ => keep_raiseFirst ha2) (fun _ => ha2)

theorem keep_execCeThreshold {q : List Instr} {m : Option (List Host.Cell)} {a0 a1 a2 : _} (ha2 : Keep q m a2) :
    KeepR q m (execCeThreshold a0 a1 a2) := by
  unfold execCeThreshold
  exact keepR_done (keep_live (fun _ h0 => keep_ceThreshold h0) ha2)

theorem keep_injectArm {q : List Instr} {m : Option (List Host.Cell)} {a0 a1 : _} (ha1 : Keep q m a1) :
    Keep q m (injectArm a0 a1) := by
  unfold injectArm
  refine keep_expertDo ?_ ha1
  intro _ h0
  extract_lets -merge +onlyGivenNames y1
  exact keep_ite (fun _ => h0) (fun _ => keep_setRg (keep_onMem h0 (fun _ => rfl)))

theorem keep_execInjectArm {q : List Instr} {m : Option (List Host.Cell)} {a0 a1 : _} (ha1 : Keep q m a1) :
    KeepR q m (execInjectArm a0 a1) := by
  unfold execInjectArm
  exact keepR_done (keep_live (fun _ h0 => keep_access (fun _ h1 => keep_injectArm h1) h0) ha1)

theorem keep_cxlEnter {q : List Instr} {m : Option (List Host.Cell)} {a0 a1 a2 : _} (ha2 : Keep q m a2) :
    Keep q m (cxlEnter a0 a1 a2) := by
  unfold cxlEnter
  extract_lets -merge +onlyGivenNames y0 x1 y2
  have hx1 : Keep q m x1 := keep_setCxl ha2
  exact keep_setRg (keep_setRg hx1)

theorem keep_drivePerst {q : List Instr} {m : Option (List Host.Cell)} {a0 a1 a2 : _} (ha2 : Keep q m a2) :
    Keep q m (drivePerst a0 a1 a2) := by
  unfold drivePerst
  exact keep_emit (keep_onPkg ha2)

theorem keep_cxlDetect {q : List Instr} {m : Option (List Host.Cell)} {a0 a1 : _} (ha1 : Keep q m a1) :
    Keep q m (cxlDetect a0 a1) := by
  unfold cxlDetect
  extract_lets -merge +onlyGivenNames y0
  exact keep_ite (fun _ => ha1) (fun _ => keep_cxlEnter (keep_setCxl ha1))

theorem keep_execCxlDetect {q : List Instr} {m : Option (List Host.Cell)} {a0 a1 : _} (ha1 : Keep q m a1) :
    KeepR q m (execCxlDetect a0 a1) := by
  unfold execCxlDetect
  exact keepR_done (keep_live (fun _ h0 => keep_cxlDetect h0) ha1)

theorem keep_programHdm {q : List Instr} {m : Option (List Host.Cell)} {a0 a1 : _} (ha1 : Keep q m a1) :
    Keep q m (programHdm a0 a1) := by
  unfold programHdm
  extract_lets -merge +onlyGivenNames y0
  clear_value y0
  split
  · exact keep_emit ha1
  · exact ha1

theorem keep_disableRanges {q : List Instr} {m : Option (List Host.Cell)} {a0 a1 a2 : _} (ha2 : Keep q m a2) :
    Keep q m (disableRanges a0 a1 a2) := by
  unfold disableRanges
  extract_lets -merge +onlyGivenNames y0 y1 y2 x3
  have hx3 : Keep q m x3 := keep_setCxl ha2
  exact keep_forEach hx3 (fun _ _ h4 => keep_raise h4)

theorem keep_cxlTrainingEnd {q : List Instr} {m : Option (List Host.Cell)} {a0 a1 a2 a3 a4 : _} (ha4 : Keep q m a4) :
    Keep q m (cxlTrainingEnd a0 a1 a2 a3 a4) := by
  unfold cxlTrainingEnd
  extract_lets -merge +onlyGivenNames y0
  exact keep_ite (fun _ => ha4) (fun _ => keep_disableRanges (keep_raise (keep_programHdm (keep_setRg (keep_wrapUp (keep_setRg (keep_setRg (keep_cxlEnter ha4))))))))

theorem keep_execCxlTrainingEnd {q : List Instr} {m : Option (List Host.Cell)} {a0 a1 a2 a3 a4 : _} (ha4 : Keep q m a4) :
    KeepR q m (execCxlTrainingEnd a0 a1 a2 a3 a4) := by
  unfold execCxlTrainingEnd
  exact keepR_done (keep_live (fun _ h0 => keep_cxlTrainingEnd h0) ha4)

theorem keep_cxlDown {q : List Instr} {m : Option (List Host.Cell)} {a0 a1 : _} (ha1 : Keep q m a1) :
    Keep q m (cxlDown a0 a1) := by
  unfold cxlDown
  extract_lets -merge +onlyGivenNames y0 y1
  exact keep_when (keep_raise (keep_setRg (keep_setRg (keep_cxlEnter (keep_setCxl ha1))))) (fun _ h2 => keep_notice h2)

theorem keep_cxlTrainingTimeout {q : List Instr} {m : Option (List Host.Cell)} {a0 a1 : _} (ha1 : Keep q m a1) :
    Keep q m (cxlTrainingTimeout a0 a1) := by
  unfold cxlTrainingTimeout
  exact keep_ite (fun _ => keep_cxlDown ha1) (fun _ => ha1)

theorem keep_execCxlTrainingTimeout {q : List Instr} {m : Option (List Host.Cell)} {a0 a1 : _} (ha1 : Keep q m a1) :
    KeepR q m (execCxlTrainingTimeout a0 a1) := by
  unfold execCxlTrainingTimeout
  exact keepR_done (keep_live (fun _ h0 => keep_cxlTrainingTimeout h0) ha1)

theorem keep_cxlLinkDown {q : List Instr} {m : Option (List Host.Cell)} {a0 a1 : _} (ha1 : Keep q m a1) :
    Keep q m (cxlLinkDown a0 a1) := by
  unfold cxlLinkDown
  exact keep_ite (fun _ => keep_cxlDown ha1) (fun _ => ha1)

theorem keep_execCxlLinkDown {q : List Instr} {m : Option (List Host.Cell)} {a0 a1 : _} (ha1 : Keep q m a1) :
    KeepR q m (execCxlLinkDown a0 a1) := by
  unfold execCxlLinkDown
  exact keepR_done (keep_live (fun _ h0 => keep_cxlLinkDown h0) ha1)

theorem keep_cxlRetrain {q : List Instr} {m : Option (List Host.Cell)} {a0 a1 : _} (ha1 : Keep q m a1) :
    Keep q m (cxlRetrain a0 a1) := by
  unfold cxlRetrain
  extract_lets -merge +onlyGivenNames y0
  exact keep_ite (fun _ => keep_cxlEnter (keep_setCxl (keep_drivePerst (keep_drivePerst ha1)))) (fun _ => ha1)

theorem keep_execCxlRetrain {q : List Instr} {m : Option (List Host.Cell)} {a0 a1 : _} (ha1 : Keep q m a1) :
    KeepR q m (execCxlRetrain a0 a1) := by
  unfold execCxlRetrain
  exact keepR_done (keep_live (fun _ h0 => keep_cxlRetrain h0) ha1)

/-! ### Queue -/

theorem keep_setCtx {q : List Instr} {m : Option (List Host.Cell)} {a0 a1 a2 : _} (ha2 : Keep q m a2) :
    Keep q m (setCtx a0 a1 a2) := by
  unfold setCtx
  exact keep_onQue ha2

theorem keep_sendIrq {q : List Instr} {m : Option (List Host.Cell)} {a0 a1 : _} (ha1 : Keep q m a1) :
    Keep q m (sendIrq a0 a1) := by
  unfold sendIrq
  extract_lets -merge +onlyGivenNames y0 y1 x2
  have hx2 : Keep q m x2 := keep_setCtx ha1
  exact keep_ite (fun _ => keep_memWriteDue hx2) (fun _ => keep_undelivered hx2)

theorem keep_stopQueue {q : List Instr} {m : Option (List Host.Cell)} {a0 a1 a2 a3 : _} (ha3 : Keep q m a3) :
    Keep q m (stopQueue a0 a1 a2 a3) := by
  unfold stopQueue
  extract_lets -merge +onlyGivenNames y0 x1 y2 x3
  have hx1 : Keep q m x1 := keep_setCtx ha3
  have hx3 : Keep q m x3 := keep_onQue hx1
  exact keep_ite (fun _ => ha3) (fun _ => keep_when (keep_raise hx3) (fun _ h4 => keep_sendIrq h4))

theorem keep_sealRecord {q : List Instr} {m : Option (List Host.Cell)} {a0 a1 a2 a3 a4 a5 a6 : _} (ha6 : Keep q m a6) :
    Keep q m (sealRecord a0 a1 a2 a3 a4 a5 a6).2 := by
  unfold sealRecord
  extract_lets -merge +onlyGivenNames y0 y1 y2 y3
  exact keep_onQue ha6

theorem keep_hostWrite {q : List Instr} {m : Option (List Host.Cell)} {a0 a1 a2 a3 : _} (ha3 : Keep q m a3) :
    Keep q m (hostWrite a0 a1 a2 a3) := by
  unfold hostWrite
  split
  · exact ha3
  · refine keep_ite (fun _ => ?_) (fun _ => ?_)
    · refine keep_foldl ha3 ?_
      intro _ h0 _
      extract_lets -merge +onlyGivenNames x1
      have hx1 : Keep q m x1.2 := keep_sealRecord h0
      exact keep_memWrite hx1
    · exact keep_memWritePadded ha3

theorem keep_setCmd {q : List Instr} {m : Option (List Host.Cell)} {a0 a1 a2 : _} (ha2 : Keep q m a2) :
    Keep q m (setCmd a0 a1 a2) := by
  unfold setCmd
  exact keep_onQue ha2

theorem keep_noteLost {q : List Instr} {m : Option (List Host.Cell)} {a0 a1 : _} (ha1 : Keep q m a1) :
    Keep q m (noteLost a0 a1) := by
  unfold noteLost
  exact keep_raise ha1

theorem keep_hostReadRaw {q : List Instr} {m : Option (List Host.Cell)} {a0 a1 a2 a3 : _} (ha3 : Keep q m a3) :
    Keep q m (hostReadRaw a0 a1 a2 a3) := by
  unfold hostReadRaw
  split
  · exact ha3
  · extract_lets -merge +onlyGivenNames y0
    exact keep_ite (fun _ => keep_forEach (keep_setCmd ha3) (fun _ _ h1 => keep_memRead h1)) (fun _ => keep_when (keep_setCmd ha3) (fun _ h2 => keep_noteLost h2))

theorem keep_hostRead {q : List Instr} {m : Option (List Host.Cell)} {a0 a1 a2 a3 : _} (ha3 : Keep q m a3) :
    Keep q m (hostRead a0 a1 a2 a3) := by
  unfold hostRead
  split
  · exact ha3
  · exact keep_hostReadRaw ha3

theorem keep_writeCqe {q : List Instr} {m : Option (List Host.Cell)} {a0 a1 a2 a3 a4 : _} (ha4 : Keep q m a4) :
    Keep q m (writeCqe a0 a1 a2 a3 a4) := by
  unfold writeCqe
  extract_lets -merge +onlyGivenNames y0 y1 y2 y3 y4 x5 x6 y7 y8 y9
  have hx5 : Keep q m x5.2 := keep_sealRecord ha4
  have hx6 : Keep q m x6 := keep_ite (fun _ => keep_memWriteDue hx5) (fun _ => keep_memWriteDue ha4)
  exact keep_ite (fun _ => keep_undelivered ha4) (fun _ => keep_when (keep_setCtx hx6) (fun _ h10 => keep_sendIrq h10))

theorem keep_noteMember {q : List Instr} {m : Option (List Host.Cell)} {a0 a1 a2 : _} (ha2 : Keep q m a2) :
    Keep q m (noteMember a0 a1 a2) := by
  unfold noteMember
  split
  · exact ha2
  · extract_lets -merge +onlyGivenNames y0 y1 y2
    exact keep_onQue ha2

theorem keep_complete {q : List Instr} {m : Option (List Host.Cell)} {a0 a1 a2 a3 a4 : _} (ha4 : Keep q m a4) :
    Keep q m (complete a0 a1 a2 a3 a4) := by
  unfold complete
  split
  · exact ha4
  · extract_lets -merge +onlyGivenNames x0 x1 y2 x3 x4 x6 x8
    have hx0 : Keep q m x0 := keep_onQue ha4
    have hx1 : Keep q m x1 := keep_onSeq hx0
    have hx3 : Keep q m x3 := keep_setCtx hx1
    have hx4 : Keep q m x4 := keep_when hx3 (fun _ h5 => keep_bump h5)
    have hx6 : Keep q m x6 := keep_when hx4 (fun _ h7 => keep_countStale h7)
    have hx8 : Keep q m x8 := keep_ite (fun _ => hx6) (fun _ => keep_writeCqe hx6)
    clear_value y2
    split
    · exact hx8
    · exact keep_noteMember hx8

theorem keep_completeReason {q : List Instr} {m : Option (List Host.Cell)} {a0 a1 a2 a3 : _} (ha3 : Keep q m a3) :
    Keep q m (completeReason a0 a1 a2 a3) := by
  unfold completeReason
  exact keep_complete ha3

theorem keep_staleEnd {q : List Instr} {m : Option (List Host.Cell)} {a0 a1 a2 a3 : _} (ha2 : ∀ x0 x1, Keep q m x1 → Keep q m (a2 x0 x1)) (ha3 : Keep q m a3) :
    Keep q m (staleEnd a0 a1 a2 a3) := by
  unfold staleEnd
  extract_lets -merge +onlyGivenNames y0 x1
  have hx1 : Keep q m x1 := ha2 _ _ (keep_setCmd ha3)
  exact keep_ite (fun _ => hx1) (fun _ => keep_complete ha3)

theorem keep_withCmd {q : List Instr} {m : Option (List Host.Cell)} {a0 a1 a2 a3 a4 : _} (ha3 : ∀ x0 x1, Keep q m x1 → Keep q m (a3 x0 x1)) (ha4 : Keep q m a4) :
    Keep q m (withCmd a0 a1 a2 a3 a4) := by
  unfold withCmd
  split
  · exact ha4
  · refine keep_ite (fun _ => ?_) (fun _ => ?_)
    · exact ha4
    · split
      · exact keep_ite (fun _ => keep_staleEnd ha3 ha4) (fun _ => keep_complete ha4)
      · exact ha3 _ _ ha4

theorem keep_recordLost {q : List Instr} {m : Option (List Host.Cell)} {a0 a1 a2 a3 : _} (ha3 : Keep q m a3) :
    Keep q m (recordLost a0 a1 a2 a3) := by
  unfold recordLost
  exact keep_complete (keep_raise ha3)

theorem keep_withData {q : List Instr} {m : Option (List Host.Cell)} {a0 a1 a2 a3 a4 a5 : _} (ha4 : ∀ x0 x1, Keep q m x1 → Keep q m (a4 x0 x1)) (ha5 : Keep q m a5) :
    Keep q m (withData a0 a1 a2 a3 a4 a5) := by
  unfold withData
  refine keep_ite (fun _ => ?_) (fun _ => ?_)
  · exact keep_hostRead (keep_setCmd ha5)
  · refine keep_ite (fun _ => ?_) (fun _ => ?_)
    · exact ha5
    · split
      · exact ha4 _ _ ha5
      · exact keep_hostReadRaw ha5
      · exact keep_recordLost ha5

theorem keep_fetchTo {q : List Instr} {m : Option (List Host.Cell)} {a0 a1 a2 a3 a4 a5 a6 : _} (ha5 : ∀ x0 x1, Keep q m x1 → Keep q m (a5 x0 x1)) (ha6 : Keep q m a6) :
    Keep q m (fetchTo a0 a1 a2 a3 a4 a5 a6) := by
  unfold fetchTo
  split
  · exact ha5 _ _ ha6
  · exact keep_hostReadRaw (keep_setCmd ha6)
  · exact keep_recordLost ha6

/-! ### Frames -/

theorem keep_takeFrame {q : List Instr} {m : Option (List Host.Cell)} {a0 a1 a2 a3 : _} (ha3 : Keep q m a3) :
    Keep q m (takeFrame a0 a1 a2 a3) := by
  unfold takeFrame
  exact keep_onSeq (keep_freeTaken ha3)

theorem keep_takeFrom {q : List Instr} {m : Option (List Host.Cell)} {a0 a1 a2 : _} (ha2 : Keep q m a2) :
    KeepP q m (takeFrom a0 a1 a2) := by
  unfold takeFrom
  split
  · exact keepMapPn (fun _ => keep_takeFrame ha2)
  · exact keepP_none

theorem keep_takeHbm {q : List Instr} {m : Option (List Host.Cell)} {a0 a1 a2 a3 : _} (ha3 : Keep q m a3) :
    KeepP q m (takeHbm a0 a1 a2 a3) := by
  unfold takeHbm
  extract_lets -merge +onlyGivenNames y0
  exact keep_takeFrom ha3

theorem keep_takeAny {q : List Instr} {m : Option (List Host.Cell)} {a0 a1 a2 : _} (ha2 : Keep q m a2) :
    KeepP q m (takeAny a0 a1 a2) := by
  unfold takeAny
  exact keep_takeFrom ha2

theorem keep_takeCxlOn {q : List Instr} {m : Option (List Host.Cell)} {a0 a1 a2 a3 : _} (ha3 : Keep q m a3) :
    KeepP q m (takeCxlOn a0 a1 a2 a3) := by
  unfold takeCxlOn
  exact keepMapPn (fun _ => keep_onSeq (keep_freeTaken ha3))

theorem keep_takeCxl {q : List Instr} {m : Option (List Host.Cell)} {a0 a1 a2 a3 : _} (ha3 : Keep q m a3) :
    KeepP q m (takeCxl a0 a1 a2 a3) := by
  unfold takeCxl
  split
  · exact keepP_some ((keep_takeCxlOn ha3) (_, _) (by assumption))
  · exact keep_takeCxlOn ha3

theorem keep_freeLoc {q : List Instr} {m : Option (List Host.Cell)} {a0 a1 : _} (ha1 : Keep q m a1) :
    Keep q m (freeLoc a0 a1) := by
  unfold freeLoc
  split
  · exact keep_retireIfBad (keep_onSeq ha1)
  · exact keep_retireIfBad (keep_onSeq ha1)
  · exact ha1

theorem keep_takeMany {q : List Instr} {m : Option (List Host.Cell)} {a0 a1 a2 a3 : _} (ha3 : Keep q m a3) :
    KeepP q m (takeMany a0 a1 a2 a3) := by
  induction a2 generalizing a3 with
  | zero => exact keepP_some ha3
  | succ n ih =>
    unfold takeMany
    split
    · exact keepP_none
    · rename_i _ t heq
      have ht : Keep q m t := keep_takeAny ha3 _ heq
      exact keepMapPp (ih ht) (fun _ h => h)

theorem keep_freeUse {q : List Instr} {m : Option (List Host.Cell)} {a0 a1 : _} (ha1 : Keep q m a1) :
    Keep q m (freeUse a0 a1) := by
  unfold freeUse
  exact keep_forEach ha1 (fun _ _ h0 => keep_freeLoc h0)

end Sys2Proof.Machine
end

