-- ==== Sys2Proof/Laws/KeepPages.lean ====
section
/-! SUPPORT. The operations of Owl banks, pages, sequences and Badger keep the queue of commands and a sound state. -/

namespace Sys2Proof.Machine

open Sys2Proof

/-! ### Owl -/

theorem keep_setBank {q : List Instr} {m : Option (List Host.Cell)} {a0 a1 a2 : _} (ha2 : Keep q m a2) :
    Keep q m (setBank a0 a1 a2) := by
  unfold setBank
  exact keep_onOwl ha2

theorem keep_shadowWrite {q : List Instr} {a0 a1 a2 a3 : _} (ha3 : Keep q none a3) :
    Keep q none (shadowWrite a0 a1 a2 a3) := by
  unfold shadowWrite
  exact keep_foldl ha3 (fun _ h0 _ => keep_ite (fun _ => keep_writeLoc h0) (fun _ => h0))

theorem keep_writeEntry {q : List Instr} {a0 a1 a2 a3 : _} (ha3 : Keep q none a3) :
    Keep q none (writeEntry a0 a1 a2 a3) := by
  unfold writeEntry
  extract_lets -merge +onlyGivenNames x0 y1
  have hx0 : Keep q none x0 := keep_shadowWrite ha3
  exact keep_setBank hx0

theorem keep_clearEntry {q : List Instr} {a0 a1 a2 : _} (ha2 : Keep q none a2) :
    Keep q none (clearEntry a0 a1 a2) := by
  unfold clearEntry
  split
  · exact keep_writeEntry ha2
  · exact ha2

theorem keep_zeroFrame {q : List Instr} {a0 a1 : _} (ha1 : Keep q none a1) :
    Keep q none (zeroFrame a0 a1) := by
  unfold zeroFrame
  exact keep_zeroAt ha1

theorem keep_takeShadow {q : List Instr} {a0 a1 : _} (ha1 : Keep q none a1) :
    Keep q none (takeShadow a0 a1) := by
  unfold takeShadow
  split
  · exact keep_ite (fun _ => ha1) (fun _ => keep_getD (keepMapOp (keep_takeMany ha1) (fun _ h0 => keep_forEach h0 (fun _ _ h1 => keep_zeroFrame h1))) ha1)
  · exact ha1

theorem keep_indexInsert {q : List Instr} {a0 a1 a2 : _} (ha2 : Keep q none a2) :
    Keep q none (indexInsert a0 a1 a2) := by
  unfold indexInsert
  extract_lets -merge +onlyGivenNames y0 y1
  clear_value y0 y1
  split
  · exact keep_onSeq (keep_writeEntry (keep_freeTaken ha2))
  · exact keep_raiseCar (keep_bump ha2)

theorem keep_indexRemove {q : List Instr} {a0 a1 a2 : _} (ha2 : Keep q none a2) :
    Keep q none (indexRemove a0 a1 a2) := by
  unfold indexRemove
  extract_lets -merge +onlyGivenNames y0 y1 y2
  exact keep_forEach ha2 (fun _ _ h3 => keep_clearEntry h3)

theorem keep_prefixFind {q : List Instr} {m : Option (List Host.Cell)} {a0 a1 a2 a3 a4 a5 : _} (ha5 : Keep q m a5) :
    Keep q m (prefixFind a0 a1 a2 a3 a4 a5).2 := by
  induction a3 generalizing a4 a5 with
  | zero => exact ha5
  | succ n ih =>
    unfold prefixFind
    extract_lets -merge +onlyGivenNames y0
    clear_value y0
    split
    · exact ha5
    · extract_lets -merge +onlyGivenNames y1
      split
      · exact ha5
      · exact ih (keep_raise (keep_bump ha5))

theorem keep_setWatch {q : List Instr} {m : Option (List Host.Cell)} {a0 a1 a2 : _} (ha2 : Keep q m a2) :
    Keep q m (setWatch a0 a1 a2) := by
  unfold setWatch
  exact keep_onOwl ha2

theorem keep_owlReport {q : List Instr} {m : Option (List Host.Cell)} {a0 a1 a2 : _} (ha2 : Keep q m a2) :
    Keep q m (owlReport a0 a1 a2) := by
  unfold owlReport
  split
  · exact ha2
  · extract_lets -merge +onlyGivenNames x0
    have hx0 : Keep q m x0 := keep_bump ha2
    split
    · exact keep_complete (keep_setWatch hx0)
    · exact keep_raise (keep_setWatch hx0)
    · exact keep_raise (keep_bump (keep_setWatch hx0))

theorem keep_watchStep {q : List Instr} {m : Option (List Host.Cell)} {a0 a1 a2 a3 a4 : _} (ha4 : Keep q m a4) :
    Keep q m (watchStep a0 a1 a2 a3 a4) := by
  unfold watchStep
  split
  · exact ha4
  · split
    · exact ha4
    · extract_lets -merge +onlyGivenNames y0 y1 x2 x3 x4
      have hx2 : Keep q m x2 := keep_setWatch ha4
      have hx3 : Keep q m x3 := by
        unfold x3
        clear_value y0 y1
        split
        · exact keep_ite (fun _ => keep_owlReport hx2) (fun _ => hx2)
        · exact hx2
      have hx4 : Keep q m x4 := keep_ite (fun _ => keep_owlReport hx3) (fun _ => hx3)
      exact keep_ite (fun _ => keep_onOwl hx4) (fun _ => hx3)

theorem keep_watchPositions {q : List Instr} {m : Option (List Host.Cell)} {a0 a1 a2 a3 a4 a5 a6 : _} (ha6 : Keep q m a6) :
    Keep q m (watchPositions a0 a1 a2 a3 a4 a5 a6) := by
  unfold watchPositions
  refine keep_forEach ha6 ?_
  intro _ _ h0
  extract_lets -merge +onlyGivenNames y1 y2
  exact keep_forEach h0 (fun _ _ h3 => keep_watchStep h3)

theorem keep_watchFree {q : List Instr} {m : Option (List Host.Cell)} {a0 a1 : _} (ha1 : Keep q m a1) :
    Keep q m (watchFree a0 a1) := by
  unfold watchFree
  split
  · exact ha1
  · extract_lets -merge +onlyGivenNames x0
    have hx0 : Keep q m x0 := keep_onOwl ha1
    exact keep_whenSome hx0 (fun _ _ h1 => keep_complete h1)

theorem keep_watchFreeSeq {q : List Instr} {m : Option (List Host.Cell)} {a0 a1 : _} (ha1 : Keep q m a1) :
    Keep q m (watchFreeSeq a0 a1) := by
  unfold watchFreeSeq
  exact keep_forEach ha1 (fun _ _ h0 => keep_watchFree h0)

theorem keep_bankHandover {q : List Instr} {a0 a1 : _} (ha1 : Keep q none a1) :
    Keep q none (bankHandover a0 a1) := by
  unfold bankHandover
  extract_lets -merge +onlyGivenNames y0 y1 x2 x4 x5
  have hx2 : Keep q none x2 := keep_forEach ha1 (fun _ _ h3 => keep_complete h3)
  have hx4 : Keep q none x4 := keep_onSeq hx2
  have hx5 : Keep q none x5 := keep_forEach hx4 (fun _ _ h6 => keep_watchFree h6)
  exact keep_raise (keep_takeShadow (keep_freeUse (keep_onOwl hx5)))

/-! ### FoxRows -/

theorem keep_setMacro {q : List Instr} {m : Option (List Host.Cell)} {a0 a1 a2 : _} (ha2 : Keep q m a2) :
    Keep q m (setMacro a0 a1 a2) := by
  unfold setMacro
  exact keep_onFox ha2

theorem keep_setPageRow {q : List Instr} {m : Option (List Host.Cell)} {a0 a1 a2 : _} (ha2 : Keep q m a2) :
    Keep q m (setPageRow a0 a1 a2) := by
  unfold setPageRow
  exact keep_onSeq ha2

theorem keep_bindTo {q : List Instr} {m : Option (List Host.Cell)} {a0 a1 a2 a3 : _} (ha3 : Keep q m a3) :
    Keep q m (bindTo a0 a1 a2 a3) := by
  unfold bindTo
  exact keep_setPageRow (keep_onFox ha3)

theorem keep_bindPick {q : List Instr} {m : Option (List Host.Cell)} {a0 a1 a2 a3 a4 : _} (ha4 : Keep q m a4) :
    Keep q m (bindPick a0 a1 a2 a3 a4) := by
  unfold bindPick
  split
  · exact keep_bindTo ha4
  · exact keep_raiseFirst (keep_onFox ha4)

theorem keep_bindRow {q : List Instr} {m : Option (List Host.Cell)} {a0 a1 a2 a3 : _} (ha3 : Keep q m a3) :
    Keep q m (bindRow a0 a1 a2 a3) := by
  unfold bindRow
  exact keep_bindPick ha3

theorem keep_releaseRow {q : List Instr} {m : Option (List Host.Cell)} {a0 a1 : _} (ha1 : Keep q m a1) :
    Keep q m (releaseRow a0 a1) := by
  unfold releaseRow
  split
  · exact keep_setPageRow (keep_onFox ha1)
  · exact ha1

/-! ### Pages -/

theorem keep_setSeq {q : List Instr} {m : Option (List Host.Cell)} {a0 a1 a2 : _} (ha2 : Keep q m a2) :
    Keep q m (setSeq a0 a1 a2) := by
  unfold setSeq
  exact keep_onSeq ha2

theorem keep_setLayer {q : List Instr} {m : Option (List Host.Cell)} {a0 a1 a2 a3 a4 : _} (ha4 : Keep q m a4) :
    Keep q m (setLayer a0 a1 a2 a3 a4) := by
  unfold setLayer
  exact keep_setSeq ha4

theorem keep_slotLeft {q : List Instr} {m : Option (List Host.Cell)} {a0 a1 : _} (ha1 : Keep q m a1) :
    Keep q m (slotLeft a0 a1) := by
  unfold slotLeft
  exact keep_ite (fun _ => keep_raise ha1) (fun _ => ha1)

theorem keep_noteKeyAt {q : List Instr} {m : Option (List Host.Cell)} {a0 a1 a2 a3 a4 : _} (ha4 : Keep q m a4) :
    Keep q m (noteKeyAt a0 a1 a2 a3 a4) := by
  unfold noteKeyAt
  exact keep_when ha4 (fun _ h0 => keep_freeTaken (keep_raise h0))

theorem keep_noteKey {q : List Instr} {m : Option (List Host.Cell)} {a0 a1 a2 a3 : _} (ha3 : Keep q m a3) :
    Keep q m (noteKey a0 a1 a2 a3) := by
  unfold noteKey
  exact keep_whenSome ha3 (fun _ _ h0 => keep_noteKeyAt h0)

theorem keep_markBlocks {q : List Instr} {a0 a1 a2 a3 : _} (ha3 : Keep q none a3) :
    Keep q none (markBlocks a0 a1 a2 a3) := by
  unfold markBlocks
  refine keep_forEach (keep_freeTaken ha3) ?_
  intro _ _ h0
  extract_lets -merge +onlyGivenNames y1
  exact keep_zeroAt (keep_onSeq h0)

theorem keep_takeRun {q : List Instr} {a0 a1 a2 : _} (ha2 : Keep q none a2) :
    KeepP q none (takeRun a0 a1 a2) := by
  unfold takeRun
  split
  · exact keepP_some (keep_markBlocks ha2)
  · exact keepBindPp (keep_takeAny ha2) (fun _ h0 => keepMapPn (fun _ => keep_markBlocks h0))

theorem keep_takeBlocks {q : List Instr} {a0 a1 a2 : _} (ha2 : Keep q none a2) :
    KeepP q none (takeBlocks a0 a1 a2) := by
  induction a1 generalizing a2 with
  | zero => exact keepP_some ha2
  | succ n ih =>
    unfold takeBlocks
    exact keepBindPp (keep_takeRun ha2) (fun _ h => keepMapPp (ih h) (fun _ h => h))

theorem keep_freeBlocks {q : List Instr} {m : Option (List Host.Cell)} {a0 a1 : _} (ha1 : Keep q m a1) :
    Keep q m (freeBlocks a0 a1) := by
  unfold freeBlocks
  extract_lets -merge +onlyGivenNames x0 y1
  have hx0 : Keep q m x0 := keep_onSeq ha1
  exact keep_forEach hx0 (fun _ _ h2 => keep_freeLoc h2)

theorem keep_takeScout {q : List Instr} {a0 a1 a2 a3 : _} (ha3 : Keep q none a3) :
    KeepO q none (takeScout a0 a1 a2 a3) := by
  unfold takeScout
  extract_lets -merge +onlyGivenNames y0
  clear_value y0
  split
  · exact keepO_some (keep_onSeq ha3)
  · exact keepMapOp (keep_takeRun ha3) (fun _ h1 => keep_onSeq h1)

theorem keep_takeScouts {q : List Instr} {a0 a1 a2 a3 a4 : _} (ha4 : Keep q none a4) :
    KeepO q none (takeScouts a0 a1 a2 a3 a4) := by
  induction a3 generalizing a4 with
  | zero => exact keepO_some ha4
  | succ n ih =>
    unfold takeScouts
    exact keepBindOo (keep_takeScout ha4) (fun _ h => ih h)

theorem keep_growLayer {q : List Instr} {a0 a1 a2 a3 a4 a5 a6 : _} (ha6 : Keep q none a6) :
    KeepP q none (growLayer a0 a1 a2 a3 a4 a5 a6) := by
  unfold growLayer
  extract_lets -merge +onlyGivenNames y0 y1
  refine keepBindPp (keep_takeBlocks ha6) ?_
  intro _ h2
  refine keepMapPo (keep_takeScouts h2) ?_
  intro _ h3
  extract_lets -merge +onlyGivenNames y4 y5
  exact h3

theorem keep_tableNotice {q : List Instr} {m : Option (List Host.Cell)} {a0 a1 a2 a3 : _} (ha3 : Keep q m a3) :
    Keep q m (tableNotice a0 a1 a2 a3) := by
  unfold tableNotice
  exact keep_notice ha3

theorem keep_readTables {q : List Instr} {m : Option (List Host.Cell)} {a0 a1 a2 a3 : _} (ha3 : Keep q m a3) :
    Keep q m (readTables a0 a1 a2 a3).2 := by
  unfold readTables
  extract_lets -merge +onlyGivenNames x0
  have hx0 : Keep q m x0 := keep_noteSpan ha3
  split
  · exact keep_tableNotice hx0
  · split
    · exact hx0
    · extract_lets -merge +onlyGivenNames y1 x2
      have hx2 : Keep q m x2 := keep_forEach hx0 (fun _ _ h3 => keep_noteSpan h3)
      clear_value y1
      split
      · exact hx2
      · exact keep_tableNotice hx2

theorem keep_notePage {q : List Instr} {m : Option (List Host.Cell)} {a0 a1 a2 a3 : _} (ha3 : Keep q m a3) :
    Keep q m (notePage a0 a1 a2 a3) := by
  unfold notePage
  exact keep_ite (fun _ => keep_noteRead ha3) (fun _ => keep_noteRead ha3)

theorem keep_noteSlots {q : List Instr} {m : Option (List Host.Cell)} {a0 a1 a2 a3 : _} (ha3 : Keep q m a3) :
    Keep q m (noteSlots a0 a1 a2 a3) := by
  unfold noteSlots
  exact keep_ite (fun _ => keep_notePage ha3) (fun _ => keep_noteRead (keep_forEach ha3 (fun _ _ h0 => keep_noteRead h0)))

theorem keep_setPage {q : List Instr} {m : Option (List Host.Cell)} {a0 a1 a2 : _} (ha2 : Keep q m a2) :
    Keep q m (setPage a0 a1 a2) := by
  unfold setPage
  exact keep_onSeq ha2

theorem keep_onPage {q : List Instr} {m : Option (List Host.Cell)} {a0 a1 a2 : _} (ha2 : Keep q m a2) :
    Keep q m (onPage a0 a1 a2) := by
  unfold onPage
  exact keep_onSeq ha2

theorem keep_enterIn {q : List Instr} {a0 a1 a2 a3 a4 a5 : _} (ha5 : Keep q none a5) :
    KeepP q none (enterIn a0 a1 a2 a3 a4 a5) := by
  unfold enterIn
  refine keepBindPn ?_
  intro _
  refine keepMapPn ?_
  intro _
  extract_lets -merge +onlyGivenNames y0 x1 y2 x3 x4
  have hx1 : Keep q none x1 := keep_onSeq (keep_zeroAt (keep_setPage (keep_freeTaken ha5)))
  have hx3 : Keep q none x3 := keep_ite (fun _ => keep_zeroLoc hx1) (fun _ => hx1)
  have hx4 : Keep q none x4 := by
    unfold x4
    clear_value y0 y2
    split
    · exact keep_onSeq hx3
    · exact keep_onSeq hx3
    · exact hx3
  exact hx4

theorem keep_enterPage {q : List Instr} {a0 a1 a2 a3 a4 : _} (ha4 : Keep q none a4) :
    KeepP q none (enterPage a0 a1 a2 a3 a4) := by
  unfold enterPage
  exact keep_enterIn ha4

theorem keep_allocPage {q : List Instr} {a0 a1 a2 a3 : _} (ha3 : Keep q none a3) :
    KeepP q none (allocPage a0 a1 a2 a3) := by
  unfold allocPage
  extract_lets -merge +onlyGivenNames y0
  clear_value y0
  split
  · exact keep_enterPage ((keep_takeHbm ha3) (_, _) (by assumption))
  · split
    · exact keepBindPp (keep_takeCxl ha3) (fun _ h1 => keepMapPp (keep_enterPage h1) (fun _ h2 => keep_raiseCar (keep_bump h2)))
    · exact keepP_none

theorem keep_allocPages {q : List Instr} {a0 a1 a2 a3 a4 : _} (ha4 : Keep q none a4) :
    KeepP q none (allocPages a0 a1 a2 a3 a4) := by
  induction a3 generalizing a4 with
  | zero => exact keepP_some ha4
  | succ n ih =>
    unfold allocPages
    exact keepBindPp (keep_allocPage ha4) (fun _ h => keepMapPp (ih h) (fun _ h => h))

theorem keep_queueTable {q : List Instr} {m : Option (List Host.Cell)} {a0 a1 a2 : _} (ha2 : Keep q m a2) :
    Keep q m (queueTable a0 a1 a2) := by
  unfold queueTable
  split
  · exact ha2
  · exact keep_onSeq ha2

theorem keep_endMove {q : List Instr} {m : Option (List Host.Cell)} {a0 a1 a2 : _} (ha2 : Keep q m a2) :
    Keep q m (endMove a0 a1 a2) := by
  unfold endMove
  exact keep_onPage (keep_onSeq (keep_queueTable (keep_queueTable ha2)))

theorem keep_abandonMove {q : List Instr} {m : Option (List Host.Cell)} {a0 a1 : _} (ha1 : Keep q m a1) :
    Keep q m (abandonMove a0 a1) := by
  unfold abandonMove
  split
  · exact ha1
  · extract_lets -merge +onlyGivenNames x0
    have hx0 : Keep q m x0 := keep_freeLoc (keep_endMove ha1)
    exact keep_whenSome hx0 (fun _ _ h1 => keep_raise (keep_complete h1))

theorem keep_freePage {q : List Instr} {a0 a1 : _} (ha1 : Keep q none a1) :
    Keep q none (freePage a0 a1) := by
  unfold freePage
  split
  · exact ha1
  · extract_lets -merge +onlyGivenNames x0
    have hx0 : Keep q none x0 := keep_onSeq (keep_onFox (keep_when (keep_releaseRow (keep_abandonMove ha1)) (fun _ h1 => keep_indexRemove h1)))
    exact keep_when (keep_freeLoc hx0) (fun _ h2 => keep_slotLeft h2)

theorem keep_unref {q : List Instr} {m : Option (List Host.Cell)} {a0 a1 : _} (ha1 : Keep q m a1) :
    Keep q m (unref a0 a1) := by
  unfold unref
  extract_lets -merge +onlyGivenNames x0
  have hx0 : Keep q m x0 := keep_onPage ha1
  exact keep_ite (fun _ => keep_onSeq hx0) (fun _ => hx0)

theorem keep_addRef {q : List Instr} {m : Option (List Host.Cell)} {a0 a1 : _} (ha1 : Keep q m a1) :
    Keep q m (addRef a0 a1) := by
  unfold addRef
  exact keep_onSeq (keep_onPage ha1)

theorem keep_pageFree {q : List Instr} {a0 a1 : _} (ha1 : Keep q none a1) :
    Keep q none (pageFree a0 a1) := by
  unfold pageFree
  exact keep_ite (fun _ => keep_freePage ha1) (fun _ => ha1)

theorem keep_execPageFree {q : List Instr} {a0 a1 : _} (ha1 : Keep q none a1) :
    KeepR q none (execPageFree a0 a1) := by
  unfold execPageFree
  exact keepR_done (keep_live (fun _ h0 => keep_pageFree h0) ha1)

/-! ### Ring -/

theorem keep_noteMoves {q : List Instr} {m : Option (List Host.Cell)} {a0 a1 a2 : _} (ha2 : Keep q m a2) :
    Keep q m (noteMoves a0 a1 a2) := by
  unfold noteMoves
  exact keep_ite (fun _ => keep_raiseCar ha2) (fun _ => ha2)

/-! ### Append -/

theorem keep_waitChange {q : List Instr} {m : Option (List Host.Cell)} {a0 a1 a2 : _} (ha2 : Keep q m a2) :
    Keep q m (waitChange a0 a1 a2) := by
  unfold waitChange
  exact keep_onSeq ha2

theorem keep_dropWait {q : List Instr} {m : Option (List Host.Cell)} {a0 a1 : _} (ha1 : Keep q m a1) :
    Keep q m (dropWait a0 a1) := by
  unfold dropWait
  exact keep_onSeq ha1

theorem keep_change {q : List Instr} {m : Option (List Host.Cell)} {a0 a1 a2 a3 : _} (ha2 : ∀ x0, Keep q m x0 → Keep q m (a2 x0)) (ha3 : Keep q m a3) :
    Keep q m (change a0 a1 a2 a3) := by
  unfold change
  exact keep_ite (fun _ => ha2 _ (keep_dropWait ha3)) (fun _ => keep_waitChange ha3)

theorem keep_change2 {q : List Instr} {m : Option (List Host.Cell)} {a0 a1 a2 a3 a4 : _} (ha3 : ∀ x0, Keep q m x0 → Keep q m (a3 x0)) (ha4 : Keep q m a4) :
    Keep q m (change2 a0 a1 a2 a3 a4) := by
  unfold change2
  exact keep_ite (fun _ => keep_waitChange ha4) (fun _ => keep_ite (fun _ => keep_waitChange ha4) (fun _ => ha3 _ (keep_dropWait ha4)))

theorem keep_setBusy {q : List Instr} {m : Option (List Host.Cell)} {a0 a1 a2 : _} (ha2 : Keep q m a2) :
    Keep q m (setBusy a0 a1 a2) := by
  unfold setBusy
  exact keep_onSeq ha2

theorem keep_clearBusy {q : List Instr} {m : Option (List Host.Cell)} {a0 a1 : _} (ha1 : Keep q m a1) :
    Keep q m (clearBusy a0 a1) := by
  unfold clearBusy
  exact keep_onSeq ha1

theorem keep_onSeqd {q : List Instr} {m : Option (List Host.Cell)} {a0 a1 a2 : _} (ha2 : Keep q m a2) :
    Keep q m (onSeqd a0 a1 a2) := by
  unfold onSeqd
  exact keep_onSeq ha2

theorem keep_onLayer {q : List Instr} {m : Option (List Host.Cell)} {a0 a1 a2 a3 : _} (ha3 : Keep q m a3) :
    Keep q m (onLayer a0 a1 a2 a3) := by
  unfold onLayer
  split
  · exact keep_setLayer ha3
  · exact ha3

theorem keep_setLeaf {q : List Instr} {m : Option (List Host.Cell)} {a0 a1 a2 a3 a4 : _} (ha4 : Keep q m a4) :
    Keep q m (setLeaf a0 a1 a2 a3 a4) := by
  unfold setLeaf
  exact keep_onLayer ha4

theorem keep_fixSplit {q : List Instr} {m : Option (List Host.Cell)} {a0 a1 a2 : _} (ha2 : Keep q m a2) :
    Keep q m (fixSplit a0 a1 a2) := by
  unfold fixSplit
  split
  · exact ha2
  · extract_lets -merge +onlyGivenNames y0 y1 x2
    have hx2 : Keep q m x2 := keep_setLayer ha2
    exact keep_ite (fun _ => hx2) (fun _ => keep_raise (keep_onSeq hx2))

theorem keep_writeSlots {q : List Instr} {a0 a1 a2 a3 a4 : _} (ha4 : Keep q none a4) :
    KeepO q none (writeSlots a0 a1 a2 a3 a4) := by
  unfold writeSlots
  refine keepBindOn ?_
  intro _
  extract_lets -merge +onlyGivenNames y0 y1
  clear_value y0 y1
  split
  · exact keepO_some (keep_writeLoc (keep_writeLoc ha4))
  · exact keepO_none

theorem keep_queueSeal {q : List Instr} {m : Option (List Host.Cell)} {a0 a1 a2 a3 : _} (ha3 : Keep q m a3) :
    Keep q m (queueSeal a0 a1 a2 a3) := by
  unfold queueSeal
  extract_lets -merge +onlyGivenNames y0
  exact keep_onSeq ha3

theorem keep_pageFilled {q : List Instr} {m : Option (List Host.Cell)} {a0 a1 a2 a3 : _} (ha3 : Keep q m a3) :
    Keep q m (pageFilled a0 a1 a2 a3) := by
  unfold pageFilled
  extract_lets -merge +onlyGivenNames y0
  exact keep_queueSeal (keep_onPage ha3)

theorem keep_raiseFill {q : List Instr} {m : Option (List Host.Cell)} {a0 a1 a2 a3 a4 a5 : _} (ha5 : Keep q m a5) :
    Keep q m (raiseFill a0 a1 a2 a3 a4 a5) := by
  unfold raiseFill
  exact keep_when (keep_setLeaf (keep_onPage ha5)) (fun _ h0 => keep_pageFilled h0)

theorem keep_ownPage {q : List Instr} {a0 a1 a2 a3 a4 a5 : _} (ha5 : Keep q none a5) :
    KeepX q none (ownPage a0 a1 a2 a3 a4 a5) := by
  unfold ownPage
  split
  · exact keepX_error
  · split
    · exact keepX_error
    · extract_lets -merge +onlyGivenNames y0
      clear_value y0
      split
      · exact keepX_ok ha5
      · split
        · exact keepX_error
        · split
          · exact keepX_error
          · split
            · exact keepX_error
            · exact keepX_ok (keep_noteMoves (keep_bump (keep_unref (keep_setLeaf (keep_onPage ((keep_writeSlots ((keep_allocPage ha5) (_, _) (by assumption))) _ (by assumption)))))))

theorem keep_appendHead {q : List Instr} {a0 a1 a2 a3 a4 a5 a6 : _} (ha6 : Keep q none a6) :
    KeepE q none (appendHead a0 a1 a2 a3 a4 a5 a6) := by
  unfold appendHead
  extract_lets -merge +onlyGivenNames y0
  clear_value y0
  split
  · exact keepE_error
  · split
    · exact keepE_ok ha6
    · split
      · exact keepE_error
      · split
        · exact keepE_ok (keep_raiseFill ((keep_writeSlots ((keep_ownPage ha6) (_, _) (by assumption))) _ (by assumption)))
        · exact keepE_error

theorem keep_appendHeads {q : List Instr} {a0 a1 a2 a3 a4 a5 a6 : _} (ha6 : Keep q none a6) :
    KeepE q none (appendHeads a0 a1 a2 a3 a4 a5 a6) := by
  induction a5 generalizing a6 with
  | nil => exact keepE_ok ha6
  | cons h r ih =>
    unfold appendHeads
    split
    · rename_i t heq
      exact ih (keep_appendHead ha6 _ heq)
    · exact keepE_error

theorem keep_appendFresh {q : List Instr} {a0 a1 a2 a3 a4 : _} (ha4 : Keep q none a4) :
    KeepE q none (appendFresh a0 a1 a2 a3 a4) := by
  induction a3 generalizing a4 with
  | nil => exact keepE_ok ha4
  | cons x r ih =>
    unfold appendFresh
    split
    · rename_i t heq
      exact ih (keep_raiseFill (keep_writeSlots ha4 _ heq))
    · exact keepE_error

theorem keep_appendNew {q : List Instr} {a0 a1 a2 a3 a4 : _} (ha4 : Keep q none a4) :
    KeepE q none (appendNew a0 a1 a2 a3 a4) := by
  unfold appendNew
  split
  · exact keepE_error
  · split
    · exact keepE_error
    · extract_lets -merge +onlyGivenNames y0 x1 x3
      have hx1 : Keep q none x1 := keep_forEach ((keep_allocPages ((keep_growLayer ha4) (_, _) (by assumption))) (_, _) (by assumption)) (fun _ _ h2 => keep_unref h2)
      have hx3 : Keep q none x3 := keep_setLayer hx1
      exact keep_appendFresh hx3

theorem keep_makeRoom {q : List Instr} {m : Option (List Host.Cell)} {a0 a1 a2 a3 : _} (ha3 : Keep q m a3) :
    Keep q m (makeRoom a0 a1 a2 a3) := by
  induction a2 generalizing a3 with
  | zero => exact ha3
  | succ n ih =>
    unfold makeRoom
    refine keep_ite (fun _ => ha3) (fun _ => ?_)
    split
    · exact ha3
    · exact ih (keep_raise (keep_onSeq ha3))

theorem keep_stageAppend {q : List Instr} {m : Option (List Host.Cell)} {a0 a1 a2 : _} (ha2 : Keep q m a2) :
    Keep q m (stageAppend a0 a1 a2) := by
  unfold stageAppend
  extract_lets -merge +onlyGivenNames y0 x1
  have hx1 : Keep q m x1 := keep_makeRoom ha2
  exact keep_onSeq hx1

theorem keep_freezeAt {q : List Instr} {m : Option (List Host.Cell)} {a0 a1 a2 : _} (ha2 : Keep q m a2) :
    Keep q m (freezeAt a0 a1 a2) := by
  unfold freezeAt
  exact keep_onSeqd ha2

theorem keep_noPage {q : List Instr} {m : Option (List Host.Cell)} {a0 a1 a2 a3 : _} (ha3 : Keep q m a3) :
    Keep q m (noPage a0 a1 a2 a3) := by
  unfold noPage
  exact keep_raise (keep_bump (keep_stageAppend (keep_freezeAt (keep_when ha3 (fun _ h0 => keep_raise h0)))))

theorem keep_appended {q : List Instr} {m : Option (List Host.Cell)} {a0 a1 a2 a3 : _} (ha3 : Keep q m a3) :
    Keep q m (appended a0 a1 a2 a3) := by
  unfold appended
  extract_lets -merge +onlyGivenNames y0
  exact keep_watchPositions (keep_fixSplit (keep_onSeqd ha3))

theorem keep_noteAppendReads {q : List Instr} {m : Option (List Host.Cell)} {a0 a1 a2 a3 : _} (ha3 : Keep q m a3) :
    Keep q m (noteAppendReads a0 a1 a2 a3) := by
  unfold noteAppendReads
  refine keep_forEach ha3 ?_
  intro _ _ h0
  split
  · exact keep_notePage h0
  · exact h0

theorem keep_appendPlaced {q : List Instr} {a0 a1 a2 a3 : _} (ha3 : Keep q none a3) :
    Keep q none (appendPlaced a0 a1 a2 a3).2 := by
  unfold appendPlaced
  extract_lets -merge +onlyGivenNames y0 y1 y2 x3
  have hx3 : KeepE q none x3 := by
    unfold x3
    split
    · exact keep_appendHeads ha3
    · exact keep_appendNew ha3
  clear_value y0 y1 y2 x3
  split
  · exact ha3
  · split
    · exact ha3
    · cases x3 with
      | ok t => exact keep_appended (hx3 _ rfl)
      | error st =>
        dsimp only
        split
        · exact keep_noPage ha3
        · exact keep_when (keep_noteKey ha3) (fun _ h5 => keep_noteAppendReads h5)

theorem keep_append {q : List Instr} {a0 a1 : _} (ha1 : Keep q none a1) :
    Keep q none (append a0 a1).2 := by
  unfold append
  split
  · exact ha1
  · extract_lets -merge +onlyGivenNames y0
    clear_value y0
    split
    · exact ha1
    · extract_lets -merge +onlyGivenNames y1
      clear_value y1
      split
      · exact ha1
      · extract_lets -merge +onlyGivenNames x2
        have hx2 : Keep q none x2.2 := keep_readTables ha1
        split
        · exact keep_appendPlaced hx2
        · exact hx2

theorem keep_stagedExpire {q : List Instr} {m : Option (List Host.Cell)} {a0 a1 : _} (ha1 : Keep q m a1) :
    Keep q m (stagedExpire a0 a1) := by
  unfold stagedExpire
  extract_lets -merge +onlyGivenNames y0 x1
  have hx1 : Keep q m x1 := keep_onSeq ha1
  exact keep_forEach hx1 (fun _ _ h2 => keep_raise h2)

theorem keep_execStagedExpire {q : List Instr} {m : Option (List Host.Cell)} {a0 a1 : _} (ha1 : Keep q m a1) :
    KeepR q m (execStagedExpire a0 a1) := by
  unfold execStagedExpire
  exact keepR_done (keep_live (fun _ h0 => keep_stagedExpire h0) ha1)

theorem keep_sealEnd {q : List Instr} {a0 a1 : _} (ha1 : Keep q none a1) :
    Keep q none (sealEnd a0 a1) := by
  unfold sealEnd
  extract_lets -merge +onlyGivenNames x0
  have hx0 : Keep q none x0 := keep_onPage ha1
  split
  · exact keep_ite (fun _ => keep_indexInsert hx0) (fun _ => hx0)
  · exact hx0

theorem keep_countJob {q : List Instr} {m : Option (List Host.Cell)} {a0 a1 : _} (ha1 : Keep q m a1) :
    Keep q m (countJob a0 a1) := by
  unfold countJob
  exact keep_whenSome ha1 (fun _ _ h0 => keep_onFox h0)

theorem keep_sealWork {q : List Instr} {a0 a1 a2 a3 : _} (ha3 : Keep q none a3) :
    Keep q none (sealWork a0 a1 a2 a3) := by
  unfold sealWork
  extract_lets -merge +onlyGivenNames x0 y1
  have hx0 : Keep q none x0 := keep_notePage (keep_countJob (keep_onSeq ha3))
  exact keep_ite (fun _ => keep_raise hx0) (fun _ => keep_sealEnd (keep_bindRow (keep_setPage hx0)))

theorem keep_pageSeal {q : List Instr} {a0 a1 : _} (ha1 : Keep q none a1) :
    Keep q none (pageSeal a0 a1) := by
  unfold pageSeal
  split
  · exact keep_ite (fun _ => keep_sealWork ha1) (fun _ => ha1)
  · exact ha1

theorem keep_execPageSeal {q : List Instr} {a0 a1 : _} (ha1 : Keep q none a1) :
    KeepR q none (execPageSeal a0 a1) := by
  unfold execPageSeal
  exact keepR_done (keep_live (fun _ h0 => keep_pageSeal h0) ha1)

/-! ### Seq -/

theorem keep_takeDesc {q : List Instr} {a0 a1 : _} (ha1 : Keep q none a1) :
    KeepP q none (takeDesc a0 a1) := by
  unfold takeDesc
  split
  · exact keepP_some ha1
  · exact keep_takeRun ha1

theorem keep_dropWarm {q : List Instr} {m : Option (List Host.Cell)} {a0 a1 : _} (ha1 : Keep q m a1) :
    Keep q m (dropWarm a0 a1) := by
  unfold dropWarm
  split
  · exact ha1
  · exact keep_forEach (keep_onPark ha1) (fun _ _ h0 => keep_freeLoc h0)

theorem keep_freeSeqTables {q : List Instr} {m : Option (List Host.Cell)} {a0 a1 a2 : _} (ha2 : Keep q m a2) :
    Keep q m (freeSeqTables a0 a1 a2) := by
  unfold freeSeqTables
  extract_lets -merge +onlyGivenNames y0 y1 x2 y3 y4
  have hx2 : Keep q m x2 := keep_onSeq ha2
  exact keep_freeBlocks hx2

theorem keep_freeSeq {q : List Instr} {m : Option (List Host.Cell)} {a0 a1 : _} (ha1 : Keep q m a1) :
    Keep q m (freeSeq a0 a1) := by
  unfold freeSeq
  split
  · exact ha1
  · extract_lets -merge +onlyGivenNames x0 x2
    have hx0 : Keep q m x0 := keep_forEach ha1 (fun _ _ h1 => keep_unref h1)
    have hx2 : Keep q m x2 := keep_onSeq hx0
    exact keep_onPark (keep_dropWarm (keep_watchFreeSeq (keep_freeSeqTables hx2)))

theorem keep_takeSeqTables {q : List Instr} {a0 a1 a2 : _} (ha2 : Keep q none a2) (r : Nat × Nat × State)
    (h : takeSeqTables a0 a1 a2 = some r) : Keep q none r.2.2 := by
  unfold takeSeqTables at h
  obtain ⟨x, hx, h⟩ := Option.bind_eq_some_iff.mp h
  obtain ⟨y, hy, h⟩ := Option.map_eq_some_iff.mp h
  cases h
  exact keep_takeRun (keep_takeDesc ha2 x hx) y hy

theorem keep_seqCreate {q : List Instr} {a0 a1 a2 : _} (ha2 : Keep q none a2) :
    Keep q none (seqCreate a0 a1 a2) := by
  unfold seqCreate
  extract_lets -merge +onlyGivenNames y0 y1 y2 y3 y4 y5
  clear_value y0 y1 y2 y3 y4 y5
  split
  · exact keep_complete ha2
  · split
    · exact keep_completeReason ha2
    · exact keep_complete (keep_setSeq (keep_takeSeqTables ha2 (_, _, _) (by assumption)))

theorem keep_execSeqCreate {q : List Instr} {a0 a1 : _} (ha1 : Keep q none a1) :
    KeepR q none (execSeqCreate a0 a1) := by
  unfold execSeqCreate
  exact keepR_done (keep_live (fun _ h0 => keep_withCmd (fun _ _ h1 => keep_seqCreate h1) h0) ha1)

theorem keep_notDuring {q : List Instr} {m : Option (List Host.Cell)} {a0 a1 a2 a3 : _} (ha2 : ∀ x0, Keep q m x0 → Keep q m (a2 x0)) (ha3 : Keep q m a3) :
    Keep q m (notDuring a0 a1 a2 a3) := by
  unfold notDuring
  exact keep_ite (fun _ => keep_waitChange ha3) (fun _ => keep_change ha2 ha3)

theorem keep_onOwnSeq {q : List Instr} {m : Option (List Host.Cell)} {a0 a1 a2 a3 a4 : _} (ha3 : ∀ x0 x1, Keep q m x1 → Keep q m (a3 x0 x1)) (ha4 : Keep q m a4) :
    Keep q m (onOwnSeq a0 a1 a2 a3 a4) := by
  unfold onOwnSeq
  split
  · exact keep_complete ha4
  · extract_lets -merge +onlyGivenNames x0
    have hx0 : Keep q m x0.2 := keep_readTables ha4
    exact keep_ite (fun _ => keep_complete ha4) (fun _ => keep_ite (fun _ => ha3 _ _ hx0) (fun _ => keep_complete hx0))

theorem keep_seqFree {q : List Instr} {m : Option (List Host.Cell)} {a0 a1 a2 : _} (ha2 : Keep q m a2) :
    Keep q m (seqFree a0 a1 a2) := by
  unfold seqFree
  extract_lets -merge +onlyGivenNames y0
  exact keep_notDuring (fun _ h1 => keep_onOwnSeq (fun _ _ h2 => keep_ite (fun _ => keep_complete h2) (fun _ => keep_complete (keep_freeSeq h2))) h1) ha2

theorem keep_execSeqFree {q : List Instr} {m : Option (List Host.Cell)} {a0 a1 : _} (ha1 : Keep q m a1) :
    KeepR q m (execSeqFree a0 a1) := by
  unfold execSeqFree
  exact keepR_done (keep_live (fun _ h0 => keep_withCmd (fun _ _ h1 => keep_seqFree h1) h0) ha1)

theorem keep_forkLayer {q : List Instr} {a0 a1 a2 a3 a4 a5 : _} (ha5 : Keep q none a5) :
    KeepO q none (forkLayer a0 a1 a2 a3 a4 a5) := by
  unfold forkLayer
  refine keepMapOp (keep_growLayer ha5) (fun _ h => ?_)
  exact keep_fixSplit (keep_forEach (keep_onLayer h) (fun _ _ h6 => keep_addRef h6))

theorem keep_forkLayers {q : List Instr} {a0 a1 a2 a3 a4 : _} (ha4 : Keep q none a4) :
    KeepO q none (forkLayers a0 a1 a2 a3 a4) := by
  induction a3 generalizing a4 with
  | nil => exact keepO_some ha4
  | cons x r ih =>
    unfold forkLayers
    exact keepBindOo (keep_forkLayer ha4) (fun _ h => ih h)

theorem keep_forkChild {q : List Instr} {a0 a1 a2 a3 a4 : _} (ha4 : Keep q none a4) :
    KeepO q none (forkChild a0 a1 a2 a3 a4) := by
  unfold forkChild
  intro t ht
  obtain ⟨x, hx, ht⟩ := Option.bind_eq_some_iff.mp ht
  exact keep_forkLayers (keep_setSeq (keep_takeSeqTables ha4 x hx)) t ht

theorem keep_forkBegin {q : List Instr} {m : Option (List Host.Cell)} {a0 a1 a2 : _} (ha2 : Keep q m a2) :
    Keep q m (forkBegin a0 a1 a2) := by
  unfold forkBegin
  extract_lets -merge +onlyGivenNames y0 y1
  clear_value y0 y1
  refine keep_change2 ?_ ha2
  intro _ h2
  refine keep_onOwnSeq ?_ h2
  intro _ _ h3
  split
  · exact keep_complete h3
  · exact keep_setCmd (keep_setBusy (keep_setBusy h3))

theorem keep_forkEnd {q : List Instr} {a0 a1 a2 : _} (ha2 : Keep q none a2) :
    Keep q none (forkEnd a0 a1 a2) := by
  unfold forkEnd
  extract_lets -merge +onlyGivenNames y0 x1
  have hx1 : Keep q none x1 := keep_clearBusy ha2
  clear_value y0
  split
  · exact keep_complete hx1
  · split
    · exact keep_complete ((keep_forkChild hx1) _ (by assumption))
    · exact keep_completeReason hx1

theorem keep_seqFork {q : List Instr} {a0 a1 a2 : _} (ha2 : Keep q none a2) :
    Keep q none (seqFork a0 a1 a2) := by
  unfold seqFork
  exact keep_ite (fun _ => keep_forkBegin ha2) (fun _ => keep_forkEnd ha2)

theorem keep_execSeqFork {q : List Instr} {a0 a1 : _} (ha1 : Keep q none a1) :
    KeepR q none (execSeqFork a0 a1) := by
  unfold execSeqFork
  exact keepR_done (keep_live (fun _ h0 => keep_withCmd (fun _ _ h1 => keep_seqFork h1) h0) ha1)

theorem keep_truncateLayer {q : List Instr} {m : Option (List Host.Cell)} {a0 a1 a2 a3 a4 a5 : _} (ha5 : Keep q m a5) :
    Keep q m (truncateLayer a0 a1 a2 a3 a4 a5) := by
  unfold truncateLayer
  extract_lets -merge +onlyGivenNames y0 y1 y2
  exact keep_fixSplit (keep_forEach (keep_onLayer ha5) (fun _ _ h3 => keep_unref h3))

theorem keep_seqFreeze {q : List Instr} {m : Option (List Host.Cell)} {a0 a1 a2 : _} (ha2 : Keep q m a2) :
    Keep q m (seqFreeze a0 a1 a2) := by
  unfold seqFreeze
  extract_lets -merge +onlyGivenNames y0 y1 y2 f3
  have hf3 : ∀ y0, Keep q m y0 → Keep q m (f3 y0) := by
    unfold f3
    intro _ h4
    refine keep_onOwnSeq ?_ h4
    intro _ _ h5
    extract_lets -merge +onlyGivenNames y6 x7
    have hx7 : Keep q m x7 := keep_ite (fun _ => keep_forEach h5 (fun _ _ h8 => keep_truncateLayer h8)) (fun _ => h5)
    exact keep_ite (fun _ => keep_complete h5) (fun _ => keep_ite (fun _ => keep_complete h5) (fun _ => keep_complete (keep_freezeAt hx7)))
  exact keep_ite (fun _ => keep_waitChange ha2) (fun _ => keep_change hf3 ha2)

theorem keep_execSeqFreeze {q : List Instr} {m : Option (List Host.Cell)} {a0 a1 : _} (ha1 : Keep q m a1) :
    KeepR q m (execSeqFreeze a0 a1) := by
  unfold execSeqFreeze
  exact keepR_done (keep_live (fun _ h0 => keep_withCmd (fun _ _ h1 => keep_seqFreeze h1) h0) ha1)

theorem keep_replay {q : List Instr} {a0 a1 a2 a3 : _} (ha3 : Keep q none a3) :
    Keep q none (replay a0 a1 a2 a3).2.2 := by
  induction a1 generalizing a2 a3 with
  | nil => exact ha3
  | cons x r ih =>
    unfold replay
    have hx : Keep q none (append (x.append a0) a3).2 := keep_append ha3
    extract_lets -merge +onlyGivenNames y0
    split
    · exact keep_forEach hx (fun _ _ h => keep_stageAppend h)
    · exact ih hx

theorem keep_thawRun {q : List Instr} {a0 a1 a2 a3 a4 a5 : _} (ha5 : Keep q none a5) :
    Keep q none (thawRun a0 a1 a2 a3 a4 a5) := by
  unfold thawRun
  extract_lets -merge +onlyGivenNames x0 x1
  have hx0 : Keep q none x0 := keep_onSeq (keep_onSeqd ha5)
  have hx1 : Keep q none x1.2.2 := keep_replay hx0
  exact keep_ite (fun _ => keep_complete hx1) (fun _ => keep_complete hx0)

theorem keep_seqThaw {q : List Instr} {a0 a1 a2 : _} (ha2 : Keep q none a2) :
    Keep q none (seqThaw a0 a1 a2) := by
  unfold seqThaw
  extract_lets -merge +onlyGivenNames y0
  refine keep_change ?_ ha2
  intro _ h1
  refine keep_onOwnSeq ?_ h1
  intro _ _ h2
  extract_lets -merge +onlyGivenNames y3 y4
  exact keep_ite (fun _ => keep_complete h2) (fun _ => keep_ite (fun _ => keep_complete h2) (fun _ => keep_ite (fun _ => keep_complete h2) (fun _ => keep_ite (fun _ => keep_waitChange h2) (fun _ => keep_thawRun h2))))

theorem keep_execSeqThaw {q : List Instr} {a0 a1 : _} (ha1 : Keep q none a1) :
    KeepR q none (execSeqThaw a0 a1) := by
  unfold execSeqThaw
  exact keepR_done (keep_live (fun _ h0 => keep_withCmd (fun _ _ h1 => keep_seqThaw h1) h0) ha1)

theorem keep_pageLink {q : List Instr} {a0 a1 a2 : _} (ha2 : Keep q none a2) :
    Keep q none (pageLink a0 a1 a2) := by
  unfold pageLink
  extract_lets -merge +onlyGivenNames y0 y1 y2 y3 y4 y5
  clear_value y0 y1 y2 y3 y4 y5
  refine keep_change ?_ ha2
  intro _ h6
  refine keep_onOwnSeq ?_ h6
  intro _ _ h7
  split
  · exact keep_complete h7
  · extract_lets -merge +onlyGivenNames y8
    clear_value y8
    split
    · exact keep_completeReason h7
    · extract_lets -merge +onlyGivenNames y9 y10
      exact keep_complete (keep_fixSplit (keep_addRef (keep_setLayer ((keep_growLayer h7) (_, _) (by assumption)))))

theorem keep_execPageLink {q : List Instr} {a0 a1 : _} (ha1 : Keep q none a1) :
    KeepR q none (execPageLink a0 a1) := by
  unfold execPageLink
  exact keepR_done (keep_live (fun _ h0 => keep_withCmd (fun _ _ h1 => keep_pageLink h1) h0) ha1)

theorem keep_appendCmdRun {q : List Instr} {a0 a1 a2 a3 a4 : _} (ha4 : Keep q none a4) :
    Keep q none (appendCmdRun a0 a1 a2 a3 a4) := by
  unfold appendCmdRun
  extract_lets -merge +onlyGivenNames y0 x1
  have hx1 : Keep q none x1.2 := keep_append ha4
  exact keep_ite (fun _ => ha4) (fun _ => keep_complete hx1)

theorem keep_appendCmdBegin {q : List Instr} {m : Option (List Host.Cell)} {a0 a1 a2 : _} (ha2 : Keep q m a2) :
    Keep q m (appendCmdBegin a0 a1 a2) := by
  unfold appendCmdBegin
  extract_lets -merge +onlyGivenNames y0 y1
  clear_value y0 y1
  split
  · exact keep_complete ha2
  · extract_lets -merge +onlyGivenNames y2
    exact keep_ite (fun _ => keep_complete ha2) (fun _ => keep_change (fun _ h3 => keep_hostRead (keep_setCmd (keep_setBusy h3))) ha2)

theorem keep_appendCmd {q : List Instr} {a0 a1 a2 : _} (ha2 : Keep q none a2) :
    Keep q none (appendCmd a0 a1 a2) := by
  unfold appendCmd
  extract_lets -merge +onlyGivenNames y0 y1 y2
  clear_value y0 y1 y2
  refine keep_ite (fun _ => ?_) (fun _ => ?_)
  · exact keep_appendCmdBegin ha2
  · refine keep_ite (fun _ => ?_) (fun _ => ?_)
    · exact ha2
    · split
      · exact keep_hostReadRaw ha2
      · exact keep_recordLost ha2
      · refine keep_ite (fun _ => ?_) (fun _ => ?_)
        · exact keep_hostRead (keep_setCmd ha2)
        · split
          · exact keep_hostReadRaw ha2
          · exact keep_recordLost ha2
          · exact keep_appendCmdRun ha2

theorem keep_execAppendCmd {q : List Instr} {a0 a1 : _} (ha1 : Keep q none a1) :
    KeepR q none (execAppendCmd a0 a1) := by
  unfold execAppendCmd
  exact keepR_done (keep_live (fun _ h0 => keep_withCmd (fun _ _ h1 => keep_appendCmd h1) h0) ha1)

theorem keep_nodesetLoad {q : List Instr} {m : Option (List Host.Cell)} {a0 a1 a2 : _} (ha2 : Keep q m a2) :
    Keep q m (nodesetLoad a0 a1 a2) := by
  unfold nodesetLoad
  extract_lets -merge +onlyGivenNames y0 y1 y2 y3
  clear_value y0 y1 y2 y3
  refine keep_ite (fun _ => ?_) (fun _ => ?_)
  · exact keep_complete ha2
  · refine keep_withData ?_ ha2
    intro _ _ h4
    extract_lets -merge +onlyGivenNames y5 y6
    clear_value y5 y6
    split
    · exact keep_complete h4
    · exact keep_complete (keep_onSeq h4)

theorem keep_execNodesetLoad {q : List Instr} {m : Option (List Host.Cell)} {a0 a1 : _} (ha1 : Keep q m a1) :
    KeepR q m (execNodesetLoad a0 a1) := by
  unfold execNodesetLoad
  exact keepR_done (keep_live (fun _ h0 => keep_withCmd (fun _ _ h1 => keep_nodesetLoad h1) h0) ha1)

theorem keep_seqQuery {q : List Instr} {m : Option (List Host.Cell)} {a0 a1 a2 : _} (ha2 : Keep q m a2) :
    Keep q m (seqQuery a0 a1 a2) := by
  unfold seqQuery
  extract_lets -merge +onlyGivenNames y0 y1
  exact keep_ite (fun _ => keep_complete ha2) (fun _ => keep_onOwnSeq (fun _ _ h2 => keep_complete (keep_hostWrite h2)) ha2)

theorem keep_execSeqQuery {q : List Instr} {m : Option (List Host.Cell)} {a0 a1 : _} (ha1 : Keep q m a1) :
    KeepR q m (execSeqQuery a0 a1) := by
  unfold execSeqQuery
  exact keepR_done (keep_live (fun _ h0 => keep_withCmd (fun _ _ h1 => keep_seqQuery h1) h0) ha1)

theorem keep_withMsg {q : List Instr} {m : Option (List Host.Cell)} {a0 a1 a2 a3 a4 : _} (ha3 : ∀ x0 x1, Keep q m x1 → Keep q m (a3 x0 x1)) (ha4 : Keep q m a4) :
    Keep q m (withMsg a0 a1 a2 a3 a4) := by
  unfold withMsg
  split
  · exact ha4
  · refine keep_ite (fun _ => ?_) (fun _ => ?_)
    · exact ha4
    · refine keep_ite (fun _ => ?_) (fun _ => ?_)
      · exact keep_ackMsg ha4
      · split
        · exact keep_onPrt ha4
        · exact keep_nakMsg (keep_countStale ha4)
        · exact ha3 _ _ ha4

theorem keep_answerAppend {q : List Instr} {m : Option (List Host.Cell)} {a0 a1 a2 : _} (ha2 : Keep q m a2.2) :
    Keep q m (answerAppend a0 a1 a2) := by
  unfold answerAppend
  exact keep_ite (fun _ => keep_nakMsg ha2) (fun _ => keep_ackMsg ha2)

theorem keep_fabricAppend {q : List Instr} {a0 a1 a2 a3 : _} (ha3 : Keep q none a3) :
    Keep q none (fabricAppend a0 a1 a2 a3) := by
  unfold fabricAppend
  extract_lets -merge +onlyGivenNames y0 y1
  clear_value y0 y1
  split
  · exact keep_ackMsg ha3
  · exact keep_ite (fun _ => keep_nakMsg ha3) (fun _ => keep_ite (fun _ => keep_waitChange ha3) (fun _ => keep_change (fun _ h2 => keep_answerAppend (keep_append h2)) ha3))

theorem keep_execAppend {q : List Instr} {a0 a1 a2 : _} (ha2 : Keep q none a2) :
    KeepR q none (execAppend a0 a1 a2) := by
  unfold execAppend
  exact keepR_done (keep_live (fun _ h0 => keep_withMsg (fun _ _ h1 => keep_fabricAppend h1) h0) ha2)

/-! ### Badger -/

theorem keep_refuseBuffer {q : List Instr} {m : Option (List Host.Cell)} {a0 a1 : _} (ha1 : Keep q m a1) :
    Keep q m (refuseBuffer a0 a1) := by
  unfold refuseBuffer
  exact keep_raise (keep_bump ha1)

theorem keep_digestFail {q : List Instr} {m : Option (List Host.Cell)} {a0 a1 a2 a3 : _} (ha3 : Keep q m a3) :
    Keep q m (digestFail a0 a1 a2 a3) := by
  unfold digestFail
  exact keep_raise (keep_bump (keep_bump ha3))

theorem keep_noteWalk {q : List Instr} {m : Option (List Host.Cell)} {a0 a1 : _} (ha1 : Keep q m a1) :
    Keep q m (noteWalk a0 a1) := by
  unfold noteWalk
  exact keep_onSeq ha1

theorem keep_walk {q : List Instr} {m : Option (List Host.Cell)} {a0 a1 a2 : _} (ha2 : Keep q m a2) :
    Keep q m (walk a0 a1 a2) := by
  unfold walk
  extract_lets -merge +onlyGivenNames y0 y1 y2 y3
  refine keep_onOwnSeq ?_ ha2
  intro _ _ h4
  extract_lets -merge +onlyGivenNames y5 y6 y7 y8
  exact keep_ite (fun _ => keep_complete h4) (fun _ => keep_complete (keep_hostWrite (keep_noteWalk h4)))

theorem keep_execWalk {q : List Instr} {m : Option (List Host.Cell)} {a0 a1 : _} (ha1 : Keep q m a1) :
    KeepR q m (execWalk a0 a1) := by
  unfold execWalk
  exact keepR_done (keep_live (fun _ h0 => keep_withCmd (fun _ _ h1 => keep_walk h1) h0) ha1)

theorem keep_gather {q : List Instr} {m : Option (List Host.Cell)} {a0 a1 a2 : _} (ha2 : Keep q m a2) :
    Keep q m (gather a0 a1 a2) := by
  unfold gather
  extract_lets -merge +onlyGivenNames y0 y1 y2 y3
  clear_value y0 y1 y2 y3
  refine keep_onOwnSeq ?_ ha2
  intro _ _ h4
  extract_lets -merge +onlyGivenNames y5 y6 y7
  clear_value y5 y6 y7
  refine keep_ite (fun _ => ?_) (fun _ => ?_)
  · exact keep_complete h4
  · refine keep_ite (fun _ => ?_) (fun _ => ?_)
    · exact keep_complete h4
    · split
      · exact keep_complete (keep_when (keep_noteKey h4) (fun _ h8 => keep_refuseBuffer h8))
      · extract_lets -merge +onlyGivenNames y9 y10 x11
        have hx11 : Keep q m x11 := keep_forEach h4 (fun _ _ h12 => keep_notePage h12)
        clear_value y9 y10
        refine keep_ite (fun _ => ?_) (fun _ => ?_)
        · exact keep_complete hx11
        · split
          · exact keep_complete (keep_digestFail hx11)
          · extract_lets -merge +onlyGivenNames y13 y14
            exact keep_complete (keep_hostWrite (keep_noteWalk hx11))

theorem keep_execGather {q : List Instr} {m : Option (List Host.Cell)} {a0 a1 : _} (ha1 : Keep q m a1) :
    KeepR q m (execGather a0 a1) := by
  unfold execGather
  exact keepR_done (keep_live (fun _ h0 => keep_withCmd (fun _ _ h1 => keep_gather h1) h0) ha1)

theorem keep_copyBegin {q : List Instr} {m : Option (List Host.Cell)} {a0 a1 a2 : _} (ha2 : Keep q m a2) :
    Keep q m (copyBegin a0 a1 a2) := by
  unfold copyBegin
  extract_lets -merge +onlyGivenNames y0
  clear_value y0
  refine keep_notDuring ?_ ha2
  intro _ h1
  refine keep_onOwnSeq ?_ h1
  intro _ _ h2
  split
  · exact keep_complete (keep_when (keep_noteKey h2) (fun _ h3 => keep_refuseBuffer h3))
  · exact keep_ite (fun _ => keep_noteMoves (keep_setCmd (keep_setBusy h2))) (fun _ => h2)

theorem keep_copyPlace {q : List Instr} {a0 a1 a2 : _} (ha0 : Keep q none a0) :
    KeepP q none (copyPlace a0 a1 a2) := by
  unfold copyPlace
  extract_lets -merge +onlyGivenNames y0
  exact keepBindPp (keep_takeFrom ha0) (fun _ h1 => keep_enterIn h1)

theorem keep_copyCommit {q : List Instr} {a0 a1 a2 a3 a4 a5 a6 : _} (ha6 : Keep q none a6) :
    Keep q none (copyCommit a0 a1 a2 a3 a4 a5 a6) := by
  unfold copyCommit
  extract_lets -merge +onlyGivenNames y0 y1 y2 x3 y4 x5 x6
  have hx3 : Keep q none x3 := keep_unref (keep_setLeaf (keep_onPage ha6))
  have hx5 : Keep q none x5 := keep_ite (fun _ => keep_onFox hx3) (fun _ => keep_ite (fun _ => keep_queueSeal hx3) (fun _ => hx3))
  have hx6 : Keep q none x6 := by
    unfold x6
    clear_value y0 y1 y2 y4
    split
    · exact keep_ite (fun _ => keep_indexInsert hx5) (fun _ => hx5)
    · exact hx5
  exact keep_complete (keep_fixSplit hx6)

theorem keep_copyEnd {q : List Instr} {a0 a1 a2 : _} (ha2 : Keep q none a2) :
    Keep q none (copyEnd a0 a1 a2) := by
  unfold copyEnd
  extract_lets -merge +onlyGivenNames x0
  have hx0 : Keep q none x0 := keep_clearBusy ha2
  split
  · exact keep_complete hx0
  · split
    · exact keep_complete hx0
    · split
      · exact keep_complete hx0
      · exact keep_completeReason hx0
      · refine keep_ite (fun _ => ?_) (fun _ => ?_)
        · exact keep_complete (keep_notePage hx0)
        · split
          · exact keep_complete hx0
          · exact keep_ite (fun _ => keep_complete (keep_digestFail hx0)) (fun _ => keep_copyCommit ((keep_writeSlots ((keep_copyPlace hx0) (_, _) (by assumption))) _ (by assumption)))

theorem keep_pageCopy {q : List Instr} {a0 a1 a2 : _} (ha2 : Keep q none a2) :
    Keep q none (pageCopy a0 a1 a2) := by
  unfold pageCopy
  exact keep_ite (fun _ => keep_copyBegin ha2) (fun _ => keep_ite (fun _ => ha2) (fun _ => keep_copyEnd ha2))

theorem keep_execPageCopy {q : List Instr} {a0 a1 : _} (ha1 : Keep q none a1) :
    KeepR q none (execPageCopy a0 a1) := by
  unfold execPageCopy
  exact keepR_done (keep_live (fun _ h0 => keep_withCmd (fun _ _ h1 => keep_pageCopy h1) h0) ha1)

theorem keep_beginMove {q : List Instr} {m : Option (List Host.Cell)} {a0 a1 a2 : _} (ha2 : Keep q m a2) :
    Keep q m (beginMove a0 a1 a2) := by
  unfold beginMove
  exact keep_onPage (keep_onSeq (keep_noteMoves (keep_queueTable (keep_queueTable ha2))))

theorem keep_movePlace {q : List Instr} {m : Option (List Host.Cell)} {a0 a1 a2 a3 : _} (ha3 : Keep q m a3) :
    KeepP q m (movePlace a0 a1 a2 a3) := by
  unfold movePlace
  extract_lets -merge +onlyGivenNames y0
  clear_value y0
  split
  · exact keepMapPp (keep_takeFrom ha3) (fun _ h1 => h1)
  · exact keepMapPp (keep_takeCxl ha3) (fun _ h2 => h2)

theorem keep_moveBegin {q : List Instr} {m : Option (List Host.Cell)} {a0 a1 a2 a3 a4 : _} (ha4 : Keep q m a4) :
    Keep q m (moveBegin a0 a1 a2 a3 a4) := by
  unfold moveBegin
  extract_lets -merge +onlyGivenNames y0 x1
  have hx1 : Keep q m x1 := keep_onSeq ha4
  clear_value y0
  refine keep_ite (fun _ => ?_) (fun _ => ?_)
  · exact keep_onSeq ha4
  · refine keep_ite (fun _ => ?_) (fun _ => ?_)
    · exact keep_complete hx1
    · split
      · exact keep_completeReason hx1
      · extract_lets -merge +onlyGivenNames y2
        exact keep_beginMove (keep_setCmd ((keep_movePlace hx1) (_, _) (by assumption)))

theorem keep_pageMove {q : List Instr} {m : Option (List Host.Cell)} {a0 a1 a2 : _} (ha2 : Keep q m a2) :
    Keep q m (pageMove a0 a1 a2) := by
  unfold pageMove
  extract_lets -merge +onlyGivenNames y0
  clear_value y0
  refine keep_ite (fun _ => ?_) (fun _ => ?_)
  · exact ha2
  · split
    · exact keep_completeReason (keep_when ha2 (fun _ h1 => keep_refuseBuffer h1))
    · exact keep_complete ha2
    · exact keep_moveBegin ha2

theorem keep_execPageMove {q : List Instr} {m : Option (List Host.Cell)} {a0 a1 : _} (ha1 : Keep q m a1) :
    KeepR q m (execPageMove a0 a1) := by
  unfold execPageMove
  exact keepR_done (keep_live (fun _ h0 => keep_withCmd (fun _ _ h1 => keep_pageMove h1) h0) ha1)

theorem keep_markFrame {q : List Instr} {m : Option (List Host.Cell)} {a0 a1 a2 : _} (ha2 : Keep q m a2) :
    Keep q m (markFrame a0 a1 a2) := by
  unfold markFrame
  split
  · exact keep_onSeq ha2
  · exact keep_onSeq ha2
  · exact ha2

theorem keep_leaveFrame {q : List Instr} {m : Option (List Host.Cell)} {a0 a1 a2 : _} (ha2 : Keep q m a2) :
    Keep q m (leaveFrame a0 a1 a2) := by
  unfold leaveFrame
  extract_lets -merge +onlyGivenNames y0
  exact keep_ite (fun _ => keep_freeLoc ha2) (fun _ => keep_onSeq (keep_markFrame ha2))

theorem keep_dropWalker {q : List Instr} {m : Option (List Host.Cell)} {a0 a1 : _} (ha1 : Keep q m a1) :
    Keep q m (dropWalker a0 a1) := by
  unfold dropWalker
  extract_lets -merge +onlyGivenNames y0
  exact keep_forEach (keep_onSeq ha1) (fun _ _ h1 => keep_freeLoc h1)

theorem keep_moveFailed {q : List Instr} {m : Option (List Host.Cell)} {a0 a1 a2 a3 : _} (ha3 : Keep q m a3) :
    Keep q m (moveFailed a0 a1 a2 a3) := by
  unfold moveFailed
  extract_lets -merge +onlyGivenNames x0
  have hx0 : Keep q m x0 := keep_freeLoc (keep_endMove ha3)
  exact keep_whenSome hx0 (fun _ _ h1 => keep_complete h1)

theorem keep_moveTo {q : List Instr} {a0 a1 a2 a3 a4 : _} (ha4 : Keep q none a4) :
    Keep q none (moveTo a0 a1 a2 a3 a4) := by
  unfold moveTo
  extract_lets -merge +onlyGivenNames x0
  have hx0 : Keep q none x0 := keep_onPage (keep_markFrame (keep_endMove (keep_writeLoc ha4)))
  exact keep_forEach (keep_leaveFrame hx0) (fun _ _ h1 => keep_forEach h1 (fun _ _ h2 => keep_fixSplit h2))

theorem keep_countTierMove {q : List Instr} {m : Option (List Host.Cell)} {a0 a1 : _} (ha1 : Keep q m a1) :
    Keep q m (countTierMove a0 a1) := by
  unfold countTierMove
  exact keep_ite (fun _ => ha1) (fun _ => keep_ite (fun _ => keep_bump ha1) (fun _ => keep_bump ha1))

theorem keep_commitMove {q : List Instr} {a0 a1 a2 a3 : _} (ha3 : Keep q none a3) :
    Keep q none (commitMove a0 a1 a2 a3) := by
  unfold commitMove
  extract_lets -merge +onlyGivenNames x0 y1
  have hx0 : Keep q none x0 := keep_notePage ha3
  exact keep_ite (fun _ => keep_moveFailed hx0) (fun _ => keep_ite (fun _ => keep_moveFailed (keep_digestFail hx0)) (fun _ => keep_whenSome (keep_countTierMove (keep_moveTo hx0)) (fun _ _ h2 => keep_complete h2)))

theorem keep_pageMoveCommit {q : List Instr} {a0 a1 : _} (ha1 : Keep q none a1) :
    Keep q none (pageMoveCommit a0 a1) := by
  unfold pageMoveCommit
  split
  · exact keep_ite (fun _ => ha1) (fun _ => keep_commitMove ha1)
  · exact ha1

theorem keep_execPageMoveCommit {q : List Instr} {a0 a1 : _} (ha1 : Keep q none a1) :
    KeepR q none (execPageMoveCommit a0 a1) := by
  unfold execPageMoveCommit
  exact keepR_done (keep_live (fun _ h0 => keep_pageMoveCommit h0) ha1)

theorem keep_pageDigestCmd {q : List Instr} {m : Option (List Host.Cell)} {a0 a1 a2 : _} (ha2 : Keep q m a2) :
    Keep q m (pageDigestCmd a0 a1 a2) := by
  unfold pageDigestCmd
  extract_lets -merge +onlyGivenNames y0 y1 y2
  clear_value y0 y1 y2
  split
  · exact keep_complete ha2
  · extract_lets -merge +onlyGivenNames y3
    clear_value y3
    split
    · exact keep_complete (keep_when (keep_noteKey ha2) (fun _ h4 => keep_refuseBuffer h4))
    · extract_lets -merge +onlyGivenNames x5 y6
      have hx5 : Keep q m x5 := keep_notePage ha2
      exact keep_ite (fun _ => keep_complete hx5) (fun _ => keep_ite (fun _ => keep_complete (keep_hostWrite hx5)) (fun _ => keep_ite (fun _ => keep_complete hx5) (fun _ => keep_complete (keep_digestFail hx5))))

theorem keep_execPageDigest {q : List Instr} {m : Option (List Host.Cell)} {a0 a1 : _} (ha1 : Keep q m a1) :
    KeepR q m (execPageDigest a0 a1) := by
  unfold execPageDigest
  exact keepR_done (keep_live (fun _ h0 => keep_withCmd (fun _ _ h1 => keep_pageDigestCmd h1) h0) ha1)

theorem keep_groupZero {q : List Instr} {m : Option (List Host.Cell)} {a0 a1 a2 : _} (ha2 : Keep q m a2) :
    Keep q m (groupZero a0 a1 a2) := by
  unfold groupZero
  extract_lets -merge +onlyGivenNames y0
  exact keep_ite (fun _ => ha2) (fun _ => keep_ite (fun _ => keep_complete ha2) (fun _ => keep_onSeq ha2))

theorem keep_execGroupZero {q : List Instr} {m : Option (List Host.Cell)} {a0 a1 : _} (ha1 : Keep q m a1) :
    KeepR q m (execGroupZero a0 a1) := by
  unfold execGroupZero
  exact keepR_done (keep_live (fun _ h0 => keep_withCmd (fun _ _ h1 => keep_groupZero h1) h0) ha1)

theorem keep_groupZeroDone {q : List Instr} {a0 a1 : _} (ha1 : Keep q none a1) :
    Keep q none (groupZeroDone a0 a1) := by
  unfold groupZeroDone
  split
  · exact ha1
  · exact keep_ite (fun _ => ha1) (fun _ => keep_complete (keep_raise (keep_onSeq (keep_zeroAt ha1))))

theorem keep_execGroupZeroDone {q : List Instr} {a0 a1 : _} (ha1 : Keep q none a1) :
    KeepR q none (execGroupZeroDone a0 a1) := by
  unfold execGroupZeroDone
  exact keepR_done (keep_live (fun _ h0 => keep_groupZeroDone h0) ha1)

theorem keep_dropWeight {q : List Instr} {m : Option (List Host.Cell)} {a0 a1 : _} (ha1 : Keep q m a1) :
    Keep q m (dropWeight a0 a1) := by
  unfold dropWeight
  exact keep_freeUse (keep_onSeq ha1)

theorem keep_sweepWeights {q : List Instr} {m : Option (List Host.Cell)} {a0 : _} (ha0 : Keep q m a0) :
    Keep q m (sweepWeights a0) := by
  unfold sweepWeights
  exact keep_forEach ha0 (fun _ _ h0 => keep_dropWeight h0)

theorem keep_takeManyOn {q : List Instr} {m : Option (List Host.Cell)} {a0 a1 a2 a3 a4 : _} (ha4 : Keep q m a4) :
    KeepO q m (takeManyOn a0 a1 a2 a3 a4) := by
  induction a3 generalizing a4 with
  | zero => exact keepO_some ha4
  | succ n ih =>
    unfold takeManyOn
    exact keepBindOp (keep_takeHbm ha4) (fun _ h => ih h)

theorem keep_storeWeight {q : List Instr} {m : Option (List Host.Cell)} {a0 a1 a2 a3 : _} (ha3 : Keep q m a3) :
    Keep q m (storeWeight a0 a1 a2 a3) := by
  unfold storeWeight
  extract_lets -merge +onlyGivenNames y0 y1 y2 y3
  clear_value y0 y1 y2 y3
  split
  · exact keep_completeReason ha3
  · extract_lets -merge +onlyGivenNames y5 y6
    exact keep_complete (keep_sweepWeights (keep_onSeq ((keepBindOo (keep_takeManyOn ha3) (fun _ h4 => keep_takeManyOn h4)) _ (by assumption))))

theorem keep_weightLoadRun {q : List Instr} {m : Option (List Host.Cell)} {a0 a1 a2 a3 : _} (ha3 : Keep q m a3) :
    Keep q m (weightLoadRun a0 a1 a2 a3) := by
  unfold weightLoadRun
  extract_lets -merge +onlyGivenNames y0 y1 y2
  clear_value y0 y1 y2
  split
  · exact keep_complete (keep_when ha3 (fun _ h3 => keep_refuseBuffer h3))
  · refine keep_withData ?_ ha3
    intro _ _ h4
    split
    · exact keep_completeReason (keep_when h4 (fun _ h5 => keep_raise h5))
    · exact keep_ite (fun _ => keep_storeWeight h4) (fun _ => keep_complete h4)

theorem keep_weightLoad {q : List Instr} {m : Option (List Host.Cell)} {a0 a1 a2 : _} (ha2 : Keep q m a2) :
    Keep q m (weightLoad a0 a1 a2) := by
  unfold weightLoad
  exact keep_weightLoadRun ha2

theorem keep_execWeightLoad {q : List Instr} {m : Option (List Host.Cell)} {a0 a1 : _} (ha1 : Keep q m a1) :
    KeepR q m (execWeightLoad a0 a1) := by
  unfold execWeightLoad
  exact keepR_done (keep_live (fun _ h0 => keep_withCmd (fun _ _ h1 => keep_weightLoad h1) h0) ha1)

theorem keep_weightFree {q : List Instr} {m : Option (List Host.Cell)} {a0 a1 a2 : _} (ha2 : Keep q m a2) :
    Keep q m (weightFree a0 a1 a2) := by
  unfold weightFree
  extract_lets -merge +onlyGivenNames y0 y1 y2
  exact keep_ite (fun _ => keep_complete (keep_forEach (keep_onSeq ha2) (fun _ _ h3 => keep_dropWeight h3))) (fun _ => keep_onSeq ha2)

theorem keep_execWeightFree {q : List Instr} {m : Option (List Host.Cell)} {a0 a1 : _} (ha1 : Keep q m a1) :
    KeepR q m (execWeightFree a0 a1) := by
  unfold execWeightFree
  exact keepR_done (keep_live (fun _ h0 => keep_withCmd (fun _ _ h1 => keep_weightFree h1) h0) ha1)

theorem keep_releaseWeights {q : List Instr} {m : Option (List Host.Cell)} {a0 a1 : _} (ha1 : Keep q m a1) :
    Keep q m (releaseWeights a0 a1) := by
  unfold releaseWeights
  extract_lets -merge +onlyGivenNames x0
  have hx0 : Keep q m x0 := keep_onSeq ha1
  exact keep_forEach (keep_sweepWeights hx0) (fun _ _ h1 => keep_withCmd (fun _ _ h2 => keep_weightFree h2) h1)

theorem keep_walkCacheFlush {q : List Instr} {m : Option (List Host.Cell)} {a0 a1 : _} (ha1 : Keep q m a1) :
    Keep q m (walkCacheFlush a0 a1) := by
  unfold walkCacheFlush
  exact keep_expertDo (fun _ h0 => keep_onSeq h0) ha1

theorem keep_execWalkCacheFlush {q : List Instr} {m : Option (List Host.Cell)} {a0 a1 : _} (ha1 : Keep q m a1) :
    KeepR q m (execWalkCacheFlush a0 a1) := by
  unfold execWalkCacheFlush
  exact keepR_done (keep_live (fun _ h0 => keep_access (fun _ h1 => keep_walkCacheFlush h1) h0) ha1)

end Sys2Proof.Machine
end

