-- ==== Sys2Proof/Laws/KeepCoach.lean ====
section
/-! SUPPORT. The operations of Fox, Bear, coaches and coupling keep the queue of commands and a sound state. -/

namespace Sys2Proof.Machine

open Sys2Proof

/-! ### Coach -/

theorem keep_sendPart {q : List Instr} {m : Option (List Host.Cell)} {a0 a1 a2 : _} (ha2 : Keep q m a2) :
    Keep q m (sendPart a0 a1 a2) := by
  unfold sendPart
  extract_lets -merge +onlyGivenNames y0 y1 y2
  exact keep_sendPlain (keep_freeTaken (keep_opIdTaken ha2))

theorem keep_noteContribution {q : List Instr} {m : Option (List Host.Cell)} {a0 a1 a2 a3 a4 : _} (ha4 : Keep q m a4) :
    Keep q m (noteContribution a0 a1 a2 a3 a4) := by
  unfold noteContribution
  extract_lets -merge +onlyGivenNames x0 y1 x2 x3
  have hx0 : Keep q m x0 := keep_bump ha4
  have hx2 : Keep q m x2 := keep_ite (fun _ => keep_setRg hx0) (fun _ => hx0)
  have hx3 : Keep q m x3 := keep_when hx2 (fun _ h4 => keep_countStale h4)
  exact keep_ite (fun _ => hx3) (fun _ => keep_ite (fun _ => keep_raiseCar (keep_bump hx3)) (fun _ => keep_when (keep_raiseCar (keep_bump hx3)) (fun _ h5 => keep_raise h5)))

theorem keep_contribute {q : List Instr} {m : Option (List Host.Cell)} {a0 a1 a2 a3 a4 : _} (ha4 : Keep q m a4) :
    Keep q m (contribute a0 a1 a2 a3 a4) := by
  unfold contribute
  exact keep_sendPart (keep_noteContribution ha4)

theorem keep_setCoach {q : List Instr} {m : Option (List Host.Cell)} {a0 a1 a2 : _} (ha2 : Keep q m a2) :
    Keep q m (setCoach a0 a1 a2) := by
  unfold setCoach
  exact keep_onFox ha2

theorem keep_dropCoach {q : List Instr} {m : Option (List Host.Cell)} {a0 a1 : _} (ha1 : Keep q m a1) :
    Keep q m (dropCoach a0 a1) := by
  unfold dropCoach
  exact keep_releaseWeights (keep_dropWalker (keep_onFox ha1))

theorem keep_failCoach {q : List Instr} {m : Option (List Host.Cell)} {a0 a1 a2 a3 a4 : _} (ha4 : Keep q m a4) :
    Keep q m (failCoach a0 a1 a2 a3 a4) := by
  unfold failCoach
  split
  · exact ha4
  · extract_lets -merge +onlyGivenNames x0
    have hx0 : Keep q m x0 := keep_when ha4 (fun _ h1 => keep_raiseCar (keep_bump h1))
    split
    · exact keep_completeReason (keep_dropCoach hx0)
    · exact keep_dropCoach (keep_contribute hx0)

theorem keep_withCoach {q : List Instr} {m : Option (List Host.Cell)} {a0 a1 a2 : _} (ha1 : ∀ x0 x1 x2, Keep q m x2 → Keep q m (a1 x0 x1 x2)) (ha2 : Keep q m a2) :
    Keep q m (withCoach a0 a1 a2) := by
  unfold withCoach
  split
  · exact ha2
  · refine keep_ite (fun _ => ?_) (fun _ => ?_)
    · exact ha2
    · split
      · exact ha1 _ _ _ ha2
      · exact keep_failCoach ha2

/-! ### Fox -/

theorem keep_macroOut {q : List Instr} {m : Option (List Host.Cell)} {a0 a1 a2 : _} (ha2 : Keep q m a2) :
    Keep q m (macroOut a0 a1 a2) := by
  unfold macroOut
  exact keep_ite (fun _ => keep_raise (keep_setRg ha2)) (fun _ => ha2)

theorem keep_macroCheck {q : List Instr} {m : Option (List Host.Cell)} {a0 a1 a2 a3 : _} (ha3 : Keep q m a3) :
    Keep q m (macroCheck a0 a1 a2 a3) := by
  unfold macroCheck
  exact keep_ite (fun _ => keep_macroOut ha3) (fun _ => keep_ite (fun _ => keep_macroOut ha3) (fun _ => keep_ite (fun _ => keep_macroOut ha3) (fun _ => ha3)))

theorem keep_trackMacro {q : List Instr} {m : Option (List Host.Cell)} {a0 a1 a2 : _} (ha2 : Keep q m a2) :
    Keep q m (trackMacro a0 a1 a2) := by
  unfold trackMacro
  extract_lets -merge +onlyGivenNames y0 y1 y2 y3 y4 y5 y6 y7
  exact keep_ite (fun _ => keep_setMacro ha2) (fun _ => keep_macroCheck (keep_setRg (keep_setRg (keep_setRg (keep_setMacro ha2)))))

theorem keep_foxPass {q : List Instr} {m : Option (List Host.Cell)} {a0 a1 a2 a3 : _} (ha3 : Keep q m a3) :
    Keep q m (foxPass a0 a1 a2 a3) := by
  unfold foxPass
  refine keep_withCoach ?_ ha3
  intro _ _ _ h0
  extract_lets -merge +onlyGivenNames y1 y2 y3 y4 y5 y6
  exact keep_ite (fun _ => h0) (fun _ => keep_ite (fun _ => h0) (fun _ => keep_forEach (keep_bump (keep_setCoach h0)) (fun _ _ h7 => keep_trackMacro h7)))

theorem keep_execFoxPass {q : List Instr} {m : Option (List Host.Cell)} {a0 a1 a2 a3 : _} (ha3 : Keep q m a3) :
    KeepR q m (execFoxPass a0 a1 a2 a3) := by
  unfold execFoxPass
  exact keepR_done (keep_live (fun _ h0 => keep_foxPass h0) ha3)

theorem keep_noteChoice {q : List Instr} {m : Option (List Host.Cell)} {a0 a1 a2 : _} (ha2 : Keep q m a2) :
    Keep q m (noteChoice a0 a1 a2) := by
  unfold noteChoice
  extract_lets -merge +onlyGivenNames y0
  exact keep_when (keep_when (keep_bump ha2) (fun _ h2 => keep_raiseCar (keep_bump h2))) (fun _ h1 => keep_raiseCar (keep_bump h1))

theorem keep_scoreDone {q : List Instr} {m : Option (List Host.Cell)} {a0 a1 a2 a3 a4 : _} (ha4 : Keep q m a4) :
    Keep q m (scoreDone a0 a1 a2 a3 a4) := by
  unfold scoreDone
  split
  · exact keep_dropCoach ha4
  · extract_lets -merge +onlyGivenNames y0
    exact keep_complete (keep_dropCoach (keep_hostWrite (keep_hostWrite (keep_forEach ha4 (fun _ _ h1 => keep_onPage h1)))))

theorem keep_selectionDone {q : List Instr} {m : Option (List Host.Cell)} {a0 a1 a2 a3 a4 : _} (ha4 : Keep q m a4) :
    Keep q m (selectionDone a0 a1 a2 a3 a4) := by
  unfold selectionDone
  split
  · exact keep_ite (fun _ => keep_scoreDone ha4) (fun _ => keep_setCoach ha4)
  · exact keep_setCoach ha4

theorem keep_scoutSelection {q : List Instr} {m : Option (List Host.Cell)} {a0 a1 : _} (ha1 : Keep q m a1) :
    Keep q m (scoutSelection a0 a1) := by
  unfold scoutSelection
  refine keep_withCoach ?_ ha1
  intro _ _ _ h0
  extract_lets -merge +onlyGivenNames y1 y2 y3 y4
  exact keep_ite (fun _ => h0) (fun _ => keep_ite (fun _ => keep_selectionDone h0) (fun _ => keep_selectionDone (keep_forEach h0 (fun _ _ h5 => keep_noteChoice h5))))

theorem keep_execScoutSelection {q : List Instr} {m : Option (List Host.Cell)} {a0 a1 : _} (ha1 : Keep q m a1) :
    KeepR q m (execScoutSelection a0 a1) := by
  unfold execScoutSelection
  exact keepR_done (keep_live (fun _ h0 => keep_scoutSelection h0) ha1)

theorem keep_addCoach {q : List Instr} {m : Option (List Host.Cell)} {a0 a1 : _} (ha1 : Keep q m a1) :
    Keep q m (addCoach a0 a1) := by
  unfold addCoach
  exact keep_onDep (keep_onFox ha1)

theorem keep_foxScore {q : List Instr} {m : Option (List Host.Cell)} {a0 a1 a2 : _} (ha2 : Keep q m a2) :
    Keep q m (foxScore a0 a1 a2) := by
  unfold foxScore
  refine keep_ite (fun _ => ?_) (fun _ => ?_)
  · exact ha2
  · refine keep_onOwnSeq ?_ ha2
    intro _ _ h0
    extract_lets -merge +onlyGivenNames y1 y2
    clear_value y1 y2
    split
    · exact keep_complete h0
    · refine keep_withData ?_ h0
      intro _ _ h3
      extract_lets -merge +onlyGivenNames y4 y5
      exact keep_ite (fun _ => keep_addCoach (keep_setCmd h3)) (fun _ => keep_complete h3)

theorem keep_execFoxScore {q : List Instr} {m : Option (List Host.Cell)} {a0 a1 : _} (ha1 : Keep q m a1) :
    KeepR q m (execFoxScore a0 a1) := by
  unfold execFoxScore
  exact keepR_done (keep_live (fun _ h0 => keep_withCmd (fun _ _ h1 => keep_foxScore h1) h0) ha1)

theorem keep_bindOne {q : List Instr} {m : Option (List Host.Cell)} {a0 a1 : _} (ha0 : Keep q m a0.2) :
    Keep q m (bindOne a0 a1).2 := by
  unfold bindOne
  split
  · exact ha0
  · split
    · exact ha0
    · split
      · exact keep_bindTo ha0
      · exact keep_raiseFirst ha0

theorem keep_foxRowBind {q : List Instr} {m : Option (List Host.Cell)} {a0 a1 a2 : _} (ha2 : Keep q m a2) :
    Keep q m (foxRowBind a0 a1 a2) := by
  unfold foxRowBind
  refine keep_onOwnSeq ?_ ha2
  intro _ _ h0
  split
  · exact keep_complete h0
  · extract_lets -merge +onlyGivenNames x1
    have hx1 : Keep q m x1.2 := keep_foldl h0 (fun _ h2 _ => keep_bindOne h2)
    exact keep_complete hx1

theorem keep_execFoxRowBind {q : List Instr} {m : Option (List Host.Cell)} {a0 a1 : _} (ha1 : Keep q m a1) :
    KeepR q m (execFoxRowBind a0 a1) := by
  unfold execFoxRowBind
  exact keepR_done (keep_live (fun _ h0 => keep_withCmd (fun _ _ h1 => keep_foxRowBind h1) h0) ha1)

theorem keep_releaseOne {q : List Instr} {m : Option (List Host.Cell)} {a0 a1 : _} (ha0 : Keep q m a0.2) :
    Keep q m (releaseOne a0 a1).2 := by
  unfold releaseOne
  split
  · exact keep_releaseRow ha0
  · exact ha0

theorem keep_foxRowRelease {q : List Instr} {m : Option (List Host.Cell)} {a0 a1 a2 : _} (ha2 : Keep q m a2) :
    Keep q m (foxRowRelease a0 a1 a2) := by
  unfold foxRowRelease
  refine keep_onOwnSeq ?_ ha2
  intro _ _ h0
  split
  · exact keep_complete h0
  · extract_lets -merge +onlyGivenNames x1
    have hx1 : Keep q m x1.2 := keep_foldl h0 (fun _ h2 _ => keep_releaseOne h2)
    exact keep_complete hx1

theorem keep_execFoxRowRelease {q : List Instr} {m : Option (List Host.Cell)} {a0 a1 : _} (ha1 : Keep q m a1) :
    KeepR q m (execFoxRowRelease a0 a1) := by
  unfold execFoxRowRelease
  exact keepR_done (keep_live (fun _ h0 => keep_withCmd (fun _ _ h1 => keep_foxRowRelease h1) h0) ha1)

theorem keep_foxRowRefill {q : List Instr} {m : Option (List Host.Cell)} {a0 a1 : _} (ha1 : Keep q m a1) :
    Keep q m (foxRowRefill a0 a1) := by
  unfold foxRowRefill
  extract_lets -merge +onlyGivenNames y0
  clear_value y0
  split
  · exact ha1
  · refine keep_ite (fun _ => ?_) (fun _ => ?_)
    · exact ha1
    · split
      · split
        · exact keep_onFox (keep_bindTo ha1)
        · exact ha1
      · exact ha1

theorem keep_execFoxRowRefill {q : List Instr} {m : Option (List Host.Cell)} {a0 a1 : _} (ha1 : Keep q m a1) :
    KeepR q m (execFoxRowRefill a0 a1) := by
  unfold execFoxRowRefill
  exact keepR_done (keep_live (fun _ h0 => keep_foxRowRefill h0) ha1)

/-! ### Persist -/

theorem keep_foxTrimLoad {q : List Instr} {m : Option (List Host.Cell)} {a0 a1 a2 : _} (ha2 : Keep q m a2) :
    Keep q m (foxTrimLoad a0 a1 a2) := by
  unfold foxTrimLoad
  extract_lets -merge +onlyGivenNames x0
  have hx0 : Keep q m x0 := keep_setRg (keep_setRg (keep_setRg (keep_setRg ha2)))
  exact keep_forEach hx0 (fun _ _ h1 => keep_forEach h1 (fun _ _ h2 => keep_setRg h2))

theorem keep_serTrimLoad {q : List Instr} {m : Option (List Host.Cell)} {a0 a1 a2 : _} (ha2 : Keep q m a2) :
    Keep q m (serTrimLoad a0 a1 a2) := by
  unfold serTrimLoad
  exact keep_ite (fun _ => keep_forEach ha2 (fun _ _ h0 => keep_setRg (keep_setRg (keep_setRg (keep_setRg h0))))) (fun _ => keep_ite (fun _ => keep_forEach ha2 (fun _ _ h1 => keep_setRg (keep_setRg (keep_setRg (keep_setRg h1))))) (fun _ => keep_ite (fun _ => keep_setRg ha2) (fun _ => ha2)))

theorem keep_persistBegin {q : List Instr} {m : Option (List Host.Cell)} {a0 a1 a2 : _} (ha2 : Keep q m a2) :
    Keep q m (persistBegin a0 a1 a2) := by
  unfold persistBegin
  extract_lets -merge +onlyGivenNames y0 y1
  exact keep_onStart (keep_onSec ha2)

theorem keep_persistEnd {q : List Instr} {m : Option (List Host.Cell)} {a0 a1 : _} (ha1 : Keep q m a1) :
    Keep q m (persistEnd a0 a1) := by
  unfold persistEnd
  split
  · exact ha1
  · extract_lets -merge +onlyGivenNames x0
    have hx0 : Keep q m x0 := keep_onStart ha1
    exact keep_ite (fun _ => keep_setRg (keep_setRg (keep_onStart (keep_onSec hx0)))) (fun _ => keep_raise (keep_onStart hx0))

/-! ### Spare -/

theorem keep_setTileSt {q : List Instr} {m : Option (List Host.Cell)} {a0 a1 a2 : _} (ha2 : Keep q m a2) :
    Keep q m (setTileSt a0 a1 a2) := by
  unfold setTileSt
  exact keep_setRg ha2

theorem keep_setShadow {q : List Instr} {m : Option (List Host.Cell)} {a0 a1 a2 : _} (ha2 : Keep q m a2) :
    Keep q m (setShadow a0 a1 a2) := by
  unfold setShadow
  exact keep_onFox ha2

theorem keep_shadowResult {q : List Instr} {m : Option (List Host.Cell)} {a0 a1 a2 a3 : _} (ha3 : Keep q m a3) :
    Keep q m (shadowResult a0 a1 a2 a3) := by
  unfold shadowResult
  exact keep_whenSome ha3 (fun _ _ h0 => keep_setRg (keep_setRg (keep_setRg h0)))

theorem keep_shadowEnd {q : List Instr} {m : Option (List Host.Cell)} {a0 a1 a2 a3 : _} (ha3 : Keep q m a3) :
    Keep q m (shadowEnd a0 a1 a2 a3) := by
  unfold shadowEnd
  split
  · exact ha3
  · exact keep_shadowResult (keep_setTileSt (keep_onFox ha3))

theorem keep_shadowStopped {q : List Instr} {m : Option (List Host.Cell)} {a0 a1 a2 : _} (ha2 : Keep q m a2) :
    Keep q m (shadowStopped a0 a1 a2) := by
  unfold shadowStopped
  exact keep_ite (fun _ => keep_raise (keep_shadowEnd ha2)) (fun _ => ha2)

theorem keep_shadowBegin {q : List Instr} {m : Option (List Host.Cell)} {a0 a1 a2 a3 a4 : _} (ha4 : Keep q m a4) :
    Keep q m (shadowBegin a0 a1 a2 a3 a4) := by
  unfold shadowBegin
  exact keep_raise (keep_setShadow (keep_setRg (keep_setRg (keep_setTileSt ha4))))

theorem keep_forgetPort {q : List Instr} {m : Option (List Host.Cell)} {a0 a1 : _} (ha1 : Keep q m a1) :
    Keep q m (forgetPort a0 a1) := by
  unfold forgetPort
  exact keep_onFox ha1

theorem keep_shadowStart {q : List Instr} {m : Option (List Host.Cell)} {a0 a1 : _} (ha1 : Keep q m a1) :
    Keep q m (shadowStart a0 a1) := by
  unfold shadowStart
  refine keep_expertDo ?_ ha1
  intro _ h0
  extract_lets -merge +onlyGivenNames x1 y2 y3
  have hx1 : Keep q m x1 := keep_forgetPort h0
  exact keep_ite (fun _ => keep_setRg (keep_setRg (keep_setRg (keep_shadowBegin hx1)))) (fun _ => keep_shadowResult hx1)

theorem keep_execShadowStart {q : List Instr} {m : Option (List Host.Cell)} {a0 a1 : _} (ha1 : Keep q m a1) :
    KeepR q m (execShadowStart a0 a1) := by
  unfold execShadowStart
  exact keepR_done (keep_live (fun _ h0 => keep_access (fun _ h1 => keep_shadowStart h1) h0) ha1)

theorem keep_shadowStop {q : List Instr} {m : Option (List Host.Cell)} {a0 a1 : _} (ha1 : Keep q m a1) :
    Keep q m (shadowStop a0 a1) := by
  unfold shadowStop
  refine keep_expertDo ?_ ha1
  intro _ h0
  extract_lets -merge +onlyGivenNames y1
  exact keep_shadowResult (keep_shadowStopped (keep_forgetPort h0))

theorem keep_execShadowStop {q : List Instr} {m : Option (List Host.Cell)} {a0 a1 : _} (ha1 : Keep q m a1) :
    KeepR q m (execShadowStop a0 a1) := by
  unfold execShadowStop
  exact keepR_done (keep_live (fun _ h0 => keep_access (fun _ h1 => keep_shadowStop h1) h0) ha1)

theorem keep_tileUncorr {q : List Instr} {m : Option (List Host.Cell)} {a0 a1 a2 : _} (ha2 : Keep q m a2) :
    Keep q m (tileUncorr a0 a1 a2) := by
  unfold tileUncorr
  split
  · exact ha2
  · exact keep_failCoach (keep_bump (keep_raise ha2))

theorem keep_shadowDoubt {q : List Instr} {m : Option (List Host.Cell)} {a0 a1 a2 a3 : _} (ha3 : Keep q m a3) :
    Keep q m (shadowDoubt a0 a1 a2 a3) := by
  unfold shadowDoubt
  extract_lets -merge +onlyGivenNames y0
  exact keep_raise (keep_setShadow ha3)

theorem keep_shadowMismatch {q : List Instr} {m : Option (List Host.Cell)} {a0 a1 : _} (ha1 : Keep q m a1) :
    Keep q m (shadowMismatch a0 a1) := by
  unfold shadowMismatch
  extract_lets -merge +onlyGivenNames y0 y1
  exact keep_forEach ha1 (fun _ _ h2 => keep_shadowDoubt h2)

theorem keep_autoShadow {q : List Instr} {m : Option (List Host.Cell)} {a0 a1 : _} (ha1 : Keep q m a1) :
    Keep q m (autoShadow a0 a1) := by
  unfold autoShadow
  extract_lets -merge +onlyGivenNames y0
  clear_value y0
  refine keep_ite (fun _ => ?_) (fun _ => ?_)
  · exact ha1
  · split
    · exact keep_shadowBegin ha1
    · exact keep_raise ha1

theorem keep_tileError {q : List Instr} {m : Option (List Host.Cell)} {a0 a1 a2 : _} (ha2 : Keep q m a2) :
    Keep q m (tileError a0 a1 a2) := by
  unfold tileError
  extract_lets -merge +onlyGivenNames y0 y1 y2
  exact keep_ite (fun _ => keep_when (keep_bump ha2) (fun _ h3 => keep_autoShadow (keep_tileUncorr (keep_shadowMismatch h3)))) (fun _ => keep_when (keep_onFox (keep_bump ha2)) (fun _ h4 => keep_autoShadow h4))

theorem keep_execAutoShadowStart {q : List Instr} {m : Option (List Host.Cell)} {a0 a1 a2 : _} (ha2 : Keep q m a2) :
    KeepR q m (execAutoShadowStart a0 a1 a2) := by
  unfold execAutoShadowStart
  exact keepR_done (keep_live (fun _ h0 => keep_tileError h0) ha2)

theorem keep_shadowKat {q : List Instr} {m : Option (List Host.Cell)} {a0 a1 a2 : _} (ha2 : Keep q m a2) :
    Keep q m (shadowKat a0 a1 a2) := by
  unfold shadowKat
  split
  · exact ha2
  · exact keep_ite (fun _ => ha2) (fun _ => keep_ite (fun _ => keep_raise (keep_shadowEnd ha2)) (fun _ => keep_ite (fun _ => keep_setShadow ha2) (fun _ => keep_setShadow ha2)))

theorem keep_execShadowKatDone {q : List Instr} {m : Option (List Host.Cell)} {a0 a1 a2 : _} (ha2 : Keep q m a2) :
    KeepR q m (execShadowKatDone a0 a1 a2) := by
  unfold execShadowKatDone
  exact keepR_done (keep_live (fun _ h0 => keep_shadowKat h0) ha2)

theorem keep_compareOne {q : List Instr} {m : Option (List Host.Cell)} {a0 a1 a2 : _} (ha2 : Keep q m a2) :
    Keep q m (compareOne a0 a1 a2) := by
  unfold compareOne
  extract_lets -merge +onlyGivenNames y0 x1 y2
  have hx1 : Keep q m x1 := keep_bump (keep_freeTaken ha2)
  exact keep_ite (fun _ => keep_ite (fun _ => keep_shadowDoubt (keep_bump hx1)) (fun _ => keep_ite (fun _ => keep_setShadow hx1) (fun _ => hx1))) (fun _ => ha2)

theorem keep_compareShadows {q : List Instr} {m : Option (List Host.Cell)} {a0 a1 : _} (ha1 : Keep q m a1) :
    Keep q m (compareShadows a0 a1) := by
  unfold compareShadows
  exact keep_forEach ha1 (fun _ _ h0 => keep_compareOne h0)

theorem keep_takeover {q : List Instr} {m : Option (List Host.Cell)} {a0 a1 : _} (ha1 : Keep q m a1) :
    Keep q m (takeover a0 a1) := by
  unfold takeover
  split
  · exact ha1
  · extract_lets -merge +onlyGivenNames y0
    exact keep_ite (fun _ => ha1) (fun _ => keep_raise (keep_setTileSt (keep_setRg (keep_shadowEnd ha1))))

theorem keep_execTakeover {q : List Instr} {m : Option (List Host.Cell)} {a0 a1 : _} (ha1 : Keep q m a1) :
    KeepR q m (execTakeover a0 a1) := by
  unfold execTakeover
  exact keepR_done (keep_live (fun _ h0 => keep_takeover h0) ha1)

/-! ### Bear -/

theorem keep_setWindows {q : List Instr} {m : Option (List Host.Cell)} {a0 a1 a2 : _} (ha2 : Keep q m a2) :
    Keep q m (setWindows a0 a1 a2) := by
  unfold setWindows
  exact keep_onSeq ha2

theorem keep_loadWindow {q : List Instr} {m : Option (List Host.Cell)} {a0 a1 a2 a3 : _} (ha3 : Keep q m a3) :
    Keep q m (loadWindow a0 a1 a2 a3) := by
  unfold loadWindow
  extract_lets -merge +onlyGivenNames y0
  exact keep_ite (fun _ => ha3) (fun _ => keep_setWindows ha3)

theorem keep_prefetch {q : List Instr} {m : Option (List Host.Cell)} {a0 a1 a2 : _} (ha2 : Keep q m a2) :
    Keep q m (prefetch a0 a1 a2) := by
  unfold prefetch
  extract_lets -merge +onlyGivenNames y0
  exact keep_ite (fun _ => keep_forEach ha2 (fun _ _ h1 => keep_loadWindow h1)) (fun _ => ha2)

theorem keep_openWindows {q : List Instr} {m : Option (List Host.Cell)} {a0 a1 a2 : _} (ha2 : Keep q m a2) :
    Keep q m (openWindows a0 a1 a2) := by
  unfold openWindows
  extract_lets -merge +onlyGivenNames y0 y1 x2
  have hx2 : Keep q m x2 := keep_when ha2 (fun _ h3 => keep_raiseCar (keep_bump h3))
  exact keep_ite (fun _ => keep_forEach hx2 (fun _ _ h4 => keep_loadWindow h4)) (fun _ => keep_forEach ha2 (fun _ _ h5 => keep_setWindows h5))

theorem keep_useWeights {q : List Instr} {m : Option (List Host.Cell)} {a0 a1 a2 : _} (ha2 : Keep q m a2) :
    Keep q m (useWeights a0 a1 a2) := by
  unfold useWeights
  exact keep_whenSome ha2 (fun _ _ h0 => keep_onSeq h0)

theorem keep_acceptCoach {q : List Instr} {m : Option (List Host.Cell)} {a0 a1 a2 : _} (ha2 : Keep q m a2) :
    Keep q m (acceptCoach a0 a1 a2) := by
  unfold acceptCoach
  extract_lets -merge +onlyGivenNames y0
  exact keep_prefetch (keep_addCoach (keep_useWeights ha2))

theorem keep_startCoach {q : List Instr} {m : Option (List Host.Cell)} {a0 a1 a2 a3 : _} (ha3 : Keep q m a3) :
    Keep q m (startCoach a0 a1 a2 a3) := by
  unfold startCoach
  exact keep_bump (keep_openWindows (keep_onFox (keep_setCoach ha3)))

theorem keep_pageRead {q : List Instr} {m : Option (List Host.Cell)} {a0 a1 a2 a3 a4 : _} (ha4 : Keep q m a4) :
    Keep q m (pageRead a0 a1 a2 a3 a4) := by
  unfold pageRead
  extract_lets -merge +onlyGivenNames x0 y1
  have hx0 : Keep q m x0 := keep_onPage ha4
  exact keep_ite (fun _ => keep_onPark (keep_bump hx0)) (fun _ => hx0)

theorem keep_fetchSlots {q : List Instr} {m : Option (List Host.Cell)} {a0 a1 a2 a3 a4 : _} (ha4 : Keep q m a4) :
    Keep q m (fetchSlots a0 a1 a2 a3 a4).2 := by
  unfold fetchSlots
  extract_lets -merge +onlyGivenNames y0 x1
  have hx1 : Keep q m x1 := keep_noteSlots ha4
  clear_value y0
  split
  · exact hx1
  · split
    · exact keep_digestFail hx1
    · exact keep_pageRead hx1

theorem keep_fetchCand {q : List Instr} {m : Option (List Host.Cell)} {a0 a1 a2 a3 : _} (ha3 : Keep q m a3) :
    Keep q m (fetchCand a0 a1 a2 a3).2 := by
  unfold fetchCand
  split
  · exact ha3
  · split
    · exact keep_when (keep_noteKey ha3) (fun _ h0 => keep_refuseBuffer h0)
    · exact keep_fetchSlots ha3

theorem keep_readAhead {q : List Instr} {m : Option (List Host.Cell)} {a0 a1 a2 a3 : _} (ha3 : Keep q m a3) :
    Keep q m (readAhead a0 a1 a2 a3) := by
  induction a2 generalizing a3 with
  | nil => exact ha3
  | cons x r ih =>
    unfold readAhead
    split
    · exact ha3
    · split
      · rename_i e
        exact ih (keep_setCoach (keep_pair (keep_fetchCand ha3) e))
      · rename_i e
        exact keep_failCoach (keep_pair (keep_fetchCand ha3) e)

theorem keep_gatherStart {q : List Instr} {m : Option (List Host.Cell)} {a0 a1 : _} (ha1 : Keep q m a1) :
    Keep q m (gatherStart a0 a1) := by
  unfold gatherStart
  refine keep_withCoach ?_ ha1
  intro _ _ _ h0
  refine keep_ite (fun _ => ?_) (fun _ => ?_)
  · exact h0
  · split
    · extract_lets -merge +onlyGivenNames y1 y2
      exact keep_readAhead (keep_setCoach h0)
    · exact keep_ite (fun _ => h0) (fun _ => keep_bump (keep_setCoach h0))

theorem keep_execGatherStart {q : List Instr} {m : Option (List Host.Cell)} {a0 a1 : _} (ha1 : Keep q m a1) :
    KeepR q m (execGatherStart a0 a1) := by
  unfold execGatherStart
  exact keepR_done (keep_live (fun _ h0 => keep_gatherStart h0) ha1)

theorem keep_deliver {q : List Instr} {m : Option (List Host.Cell)} {a0 a1 a2 a3 a4 a5 : _} (ha5 : Keep q m a5) :
    Keep q m (deliver a0 a1 a2 a3 a4 a5) := by
  unfold deliver
  exact keep_setCoach ha5

theorem keep_pageReadIssue {q : List Instr} {m : Option (List Host.Cell)} {a0 a1 a2 : _} (ha2 : Keep q m a2) :
    Keep q m (pageReadIssue a0 a1 a2) := by
  unfold pageReadIssue
  refine keep_withCoach ?_ ha2
  intro _ _ _ h0
  split
  · exact h0
  · split
    · exact keep_deliver h0
    · split
      · exact keep_deliver (keep_pair (keep_fetchCand h0) (by assumption))
      · exact keep_failCoach (keep_pair (keep_fetchCand h0) (by assumption))

theorem keep_execPageReadIssue {q : List Instr} {m : Option (List Host.Cell)} {a0 a1 a2 : _} (ha2 : Keep q m a2) :
    KeepR q m (execPageReadIssue a0 a1 a2) := by
  unfold execPageReadIssue
  exact keepR_done (keep_live (fun _ h0 => keep_pageReadIssue h0) ha2)

theorem keep_noteBad {q : List Instr} {m : Option (List Host.Cell)} {a0 a1 a2 : _} (ha2 : Keep q m a2) :
    Keep q m (noteBad a0 a1 a2) := by
  unfold noteBad
  exact keep_ite (fun _ => ha2) (fun _ => keep_raiseCar (keep_bump ha2))

theorem keep_absorption {q : List Instr} {m : Option (List Host.Cell)} {a0 a1 : _} (ha1 : Keep q m a1) :
    Keep q m (absorption a0 a1) := by
  unfold absorption
  refine keep_withCoach ?_ ha1
  intro _ _ _ h0
  refine keep_ite (fun _ => ?_) (fun _ => ?_)
  · exact h0
  · split
    · exact keep_failCoach h0
    · exact keep_noteBad (keep_setCoach h0)

theorem keep_execAbsorptionDone {q : List Instr} {m : Option (List Host.Cell)} {a0 a1 : _} (ha1 : Keep q m a1) :
    KeepR q m (execAbsorptionDone a0 a1) := by
  unfold execAbsorptionDone
  exact keepR_done (keep_live (fun _ h0 => keep_absorption h0) ha1)

theorem keep_scoring {q : List Instr} {m : Option (List Host.Cell)} {a0 a1 a2 : _} (ha2 : Keep q m a2) :
    Keep q m (scoring a0 a1 a2) := by
  unfold scoring
  refine keep_withCoach ?_ ha2
  intro _ _ _ h0
  extract_lets -merge +onlyGivenNames y1 y2 y3
  exact keep_ite (fun _ => h0) (fun _ => keep_noteBad (keep_setCoach h0))

theorem keep_execScoringDone {q : List Instr} {m : Option (List Host.Cell)} {a0 a1 a2 : _} (ha2 : Keep q m a2) :
    KeepR q m (execScoringDone a0 a1 a2) := by
  unfold execScoringDone
  exact keepR_done (keep_live (fun _ h0 => keep_scoring h0) ha2)

theorem keep_halfMerge {q : List Instr} {m : Option (List Host.Cell)} {a0 a1 a2 : _} (ha2 : Keep q m a2) :
    Keep q m (halfMerge a0 a1 a2) := by
  unfold halfMerge
  refine keep_withCoach ?_ ha2
  intro _ _ _ h0
  extract_lets -merge +onlyGivenNames y1
  exact keep_ite (fun _ => h0) (fun _ => keep_setCoach h0)

theorem keep_execHalfMerge {q : List Instr} {m : Option (List Host.Cell)} {a0 a1 a2 : _} (ha2 : Keep q m a2) :
    KeepR q m (execHalfMerge a0 a1 a2) := by
  unfold execHalfMerge
  exact keepR_done (keep_live (fun _ h0 => keep_halfMerge h0) ha2)

theorem keep_notePositions {q : List Instr} {m : Option (List Host.Cell)} {a0 a1 a2 : _} (ha2 : Keep q m a2) :
    Keep q m (notePositions a0 a1 a2) := by
  unfold notePositions
  extract_lets -merge +onlyGivenNames y0
  exact keep_bump (keep_onFox ha2)

theorem keep_attnDone {q : List Instr} {m : Option (List Host.Cell)} {a0 a1 a2 a3 a4 : _} (ha4 : Keep q m a4) :
    Keep q m (attnDone a0 a1 a2 a3 a4) := by
  unfold attnDone
  split
  · exact keep_dropCoach ha4
  · extract_lets -merge +onlyGivenNames y0
    exact keep_complete (keep_dropCoach (keep_hostWrite (keep_hostWrite ha4)))

theorem keep_valueExpansion {q : List Instr} {m : Option (List Host.Cell)} {a0 a1 : _} (ha1 : Keep q m a1) :
    Keep q m (valueExpansion a0 a1) := by
  unfold valueExpansion
  refine keep_withCoach ?_ ha1
  intro _ _ _ h0
  extract_lets -merge +onlyGivenNames y1 y2 x3
  have hx3 : Keep q m x3 := keep_compareShadows (keep_notePositions (keep_noteBad (keep_setCoach h0)))
  clear_value y1 y2
  refine keep_ite (fun _ => ?_) (fun _ => ?_)
  · exact h0
  · split
    · exact keep_attnDone hx3
    · exact keep_dropCoach (keep_contribute hx3)

theorem keep_execValueExpansion {q : List Instr} {m : Option (List Host.Cell)} {a0 a1 : _} (ha1 : Keep q m a1) :
    KeepR q m (execValueExpansion a0 a1) := by
  unfold execValueExpansion
  exact keepR_done (keep_live (fun _ h0 => keep_valueExpansion h0) ha1)

theorem keep_attnRefused {q : List Instr} {m : Option (List Host.Cell)} {a0 a1 a2 a3 : _} (ha3 : Keep q m a3) :
    Keep q m (attnRefused a0 a1 a2 a3) := by
  unfold attnRefused
  exact keep_completeReason (keep_when ha3 (fun _ h0 => keep_raiseCar (keep_bump h0)))

theorem keep_attnTake {q : List Instr} {m : Option (List Host.Cell)} {a0 a1 a2 a3 a4 a5 : _} (ha5 : Keep q m a5) :
    Keep q m (attnTake a0 a1 a2 a3 a4 a5) := by
  unfold attnTake
  extract_lets -merge +onlyGivenNames y0 y1 y2 y3
  clear_value y0 y1 y2 y3
  split
  · exact keep_attnRefused ha5
  · extract_lets -merge +onlyGivenNames y4 y5 x6
    have hx6 : Keep q m x6 := keep_acceptCoach (keep_setCmd ha5)
    clear_value y4 y5
    split
    · exact keep_startCoach hx6
    · exact hx6

theorem keep_attnStart {q : List Instr} {m : Option (List Host.Cell)} {a0 a1 a2 a3 a4 : _} (ha4 : Keep q m a4) :
    Keep q m (attnStart a0 a1 a2 a3 a4) := by
  unfold attnStart
  extract_lets -merge +onlyGivenNames y0 y1
  exact keep_attnTake ha4

theorem keep_attnParams {q : List Instr} {m : Option (List Host.Cell)} {a0 a1 a2 a3 a4 : _} (ha4 : Keep q m a4) :
    Keep q m (attnParams a0 a1 a2 a3 a4) := by
  unfold attnParams
  extract_lets -merge +onlyGivenNames y0 y1 y2
  clear_value y0 y1 y2
  split
  · exact keep_attnRefused ha4
  · exact keep_fetchTo (fun _ _ h3 => keep_attnStart h3) ha4

theorem keep_bearAttn {q : List Instr} {m : Option (List Host.Cell)} {a0 a1 a2 : _} (ha2 : Keep q m a2) :
    Keep q m (bearAttn a0 a1 a2) := by
  unfold bearAttn
  exact keep_ite (fun _ => ha2) (fun _ => keep_onOwnSeq (fun _ _ h0 => keep_ite (fun _ => h0) (fun _ => keep_fetchTo (fun _ _ h1 => keep_attnParams h1) h0)) ha2)

theorem keep_execBearAttn {q : List Instr} {m : Option (List Host.Cell)} {a0 a1 : _} (ha1 : Keep q m a1) :
    KeepR q m (execBearAttn a0 a1) := by
  unfold execBearAttn
  exact keepR_done (keep_live (fun _ h0 => keep_withCmd (fun _ _ h1 => keep_bearAttn h1) h0) ha1)

/-! ### ParkEnd -/

theorem keep_parkFail {q : List Instr} {m : Option (List Host.Cell)} {a0 a1 a2 a3 a4 : _} (ha4 : Keep q m a4) :
    Keep q m (parkFail a0 a1 a2 a3 a4) := by
  unfold parkFail
  split
  · exact ha4
  · extract_lets -merge +onlyGivenNames y0 x1 y3
    have hx1 : Keep q m x1 := keep_when (keep_onPark ha4) (fun _ h2 => keep_onSeq h2)
    exact keep_completeReason (keep_when hx1 (fun _ h4 => keep_raise h4))

theorem keep_parksTimeFault {q : List Instr} {m : Option (List Host.Cell)} {a0 a1 a2 : _} (ha2 : Keep q m a2) :
    Keep q m (parksTimeFault a0 a1 a2) := by
  unfold parksTimeFault
  exact keep_forEach ha2 (fun _ _ h0 => keep_parkFail h0)

theorem keep_parksCancelled {q : List Instr} {m : Option (List Host.Cell)} {a0 a1 a2 : _} (ha2 : Keep q m a2) :
    Keep q m (parksCancelled a0 a1 a2) := by
  unfold parksCancelled
  extract_lets -merge +onlyGivenNames y0
  exact keep_when (keep_forEach ha2 (fun _ _ h2 => keep_parkFail h2)) (fun _ h1 => keep_raise h1)

theorem keep_parksPortDown {q : List Instr} {m : Option (List Host.Cell)} {a0 a1 : _} (ha1 : Keep q m a1) :
    Keep q m (parksPortDown a0 a1) := by
  unfold parksPortDown
  extract_lets -merge +onlyGivenNames y0
  clear_value y0
  refine keep_forEach ha1 ?_
  intro _ _ h1
  split
  · exact keep_parkFail (keep_noteLost h1)
  · exact h1

/-! ### Depart -/

theorem keep_rxMark {q : List Instr} {m : Option (List Host.Cell)} {a0 a1 a2 : _} (ha2 : Keep q m a2) :
    Keep q m (rxMark a0 a1 a2) := by
  unfold rxMark
  exact keep_onPrt ha2

theorem keep_misroute {q : List Instr} {m : Option (List Host.Cell)} {a0 a1 : _} (ha1 : Keep q m a1) :
    Keep q m (misroute a0 a1) := by
  unfold misroute
  exact keep_onFox (keep_raise (keep_bump ha1))

theorem keep_coachArrives {q : List Instr} {m : Option (List Host.Cell)} {a0 a1 a2 : _} (ha2 : Keep q m a2) :
    Keep q m (coachArrives a0 a1 a2) := by
  unfold coachArrives
  extract_lets -merge +onlyGivenNames y0 y1
  clear_value y0 y1
  refine keep_ite (fun _ => ?_) (fun _ => ?_)
  · exact keep_misroute ha2
  · split
    · exact keep_acceptCoach ha2
    · extract_lets -merge +onlyGivenNames y2
      exact keep_onFox (keep_contribute (keep_when ha2 (fun _ h3 => keep_raiseCar (keep_bump h3))))
    · exact ha2

theorem keep_coachWhole {q : List Instr} {m : Option (List Host.Cell)} {a0 a1 a2 : _} (ha2 : Keep q m a2) :
    Keep q m (coachWhole a0 a1 a2) := by
  unfold coachWhole
  split
  · exact ha2
  · extract_lets -merge +onlyGivenNames y0 y1
    exact keep_setCoach ha2

theorem keep_coachBody {q : List Instr} {m : Option (List Host.Cell)} {a0 a1 a2 a3 : _} (ha3 : Keep q m a3) :
    Keep q m (coachBody a0 a1 a2 a3) := by
  unfold coachBody
  exact keep_ite (fun _ => keep_rxFree (keep_coachWhole ha3)) (fun _ => ha3)

theorem keep_attnReq {q : List Instr} {m : Option (List Host.Cell)} {a0 a1 a2 : _} (ha2 : Keep q m a2) :
    Keep q m (attnReq a0 a1 a2) := by
  unfold attnReq
  extract_lets -merge +onlyGivenNames y0
  clear_value y0
  split
  · exact ha2
  · refine keep_ite (fun _ => ?_) (fun _ => ?_)
    · exact ha2
    · split
      · exact keep_coachBody ha2
      · exact ha2
      · extract_lets -merge +onlyGivenNames y1 x2
        have hx2 : Keep q m x2 := keep_rxMark (keep_coachArrives ha2)
        clear_value y1
        refine keep_ite (fun _ => ?_) (fun _ => ?_)
        · exact keep_onPrt ha2
        · split
          · exact keep_coachBody hx2
          · exact hx2

theorem keep_execAttnReq {q : List Instr} {m : Option (List Host.Cell)} {a0 a1 a2 : _} (ha2 : Keep q m a2) :
    KeepR q m (execAttnReq a0 a1 a2) := by
  unfold execAttnReq
  exact keepR_done (keep_live (fun _ h0 => keep_attnReq h0) ha2)

theorem keep_coachDepart {q : List Instr} {m : Option (List Host.Cell)} {a0 a1 : _} (ha1 : Keep q m a1) :
    Keep q m (coachDepart a0 a1) := by
  unfold coachDepart
  split
  · exact ha1
  · refine keep_ite (fun _ => ?_) (fun _ => ?_)
    · exact ha1
    · split
      · exact keep_failCoach ha1
      · extract_lets -merge +onlyGivenNames x0
        have hx0 : Keep q m x0.2 := keep_readTables ha1
        split
        · exact keep_failCoach hx0
        · exact keep_startCoach hx0

theorem keep_execCoachDepart {q : List Instr} {m : Option (List Host.Cell)} {a0 a1 : _} (ha1 : Keep q m a1) :
    KeepR q m (execCoachDepart a0 a1) := by
  unfold execCoachDepart
  exact keepR_done (keep_live (fun _ h0 => keep_coachDepart h0) ha1)

theorem keep_coachCutoff {q : List Instr} {m : Option (List Host.Cell)} {a0 a1 : _} (ha1 : Keep q m a1) :
    Keep q m (coachCutoff a0 a1) := by
  unfold coachCutoff
  split
  · exact ha1
  · extract_lets -merge +onlyGivenNames y0
    exact keep_ite (fun _ => ha1) (fun _ => keep_failCoach (keep_when ha1 (fun _ h1 => keep_whenSome h1 (fun _ _ h2 => keep_raise h2))))

theorem keep_execCoachCutoff {q : List Instr} {m : Option (List Host.Cell)} {a0 a1 : _} (ha1 : Keep q m a1) :
    KeepR q m (execCoachCutoff a0 a1) := by
  unfold execCoachCutoff
  exact keepR_done (keep_live (fun _ h0 => keep_coachCutoff h0) ha1)

/-! ### Couple -/

theorem keep_setDctx {q : List Instr} {m : Option (List Host.Cell)} {a0 a1 a2 : _} (ha2 : Keep q m a2) :
    Keep q m (setDctx a0 a1 a2) := by
  unfold setDctx
  exact keep_onDep ha2

theorem keep_couplingPeaks {q : List Instr} {m : Option (List Host.Cell)} {a0 : _} (ha0 : Keep q m a0) :
    Keep q m (couplingPeaks a0) := by
  unfold couplingPeaks
  exact keep_peak (keep_peak ha0)

theorem keep_inputLate {q : List Instr} {m : Option (List Host.Cell)} {a0 a1 : _} (ha1 : Keep q m a1) :
    Keep q m (inputLate a0 a1) := by
  unfold inputLate
  exact keep_raiseCar (keep_bump ha1)

theorem keep_inputRefused {q : List Instr} {m : Option (List Host.Cell)} {a0 a1 : _} (ha1 : Keep q m a1) :
    Keep q m (inputRefused a0 a1) := by
  unfold inputRefused
  exact keep_raise (keep_bump ha1)

theorem keep_inputDup {q : List Instr} {m : Option (List Host.Cell)} {a0 a1 : _} (ha1 : Keep q m a1) :
    Keep q m (inputDup a0 a1) := by
  unfold inputDup
  exact keep_bump ha1

theorem keep_inputBegins {q : List Instr} {m : Option (List Host.Cell)} {a0 a1 a2 a3 a4 : _} (ha4 : Keep q m a4) :
    Keep q m (inputBegins a0 a1 a2 a3 a4).2 := by
  unfold inputBegins
  extract_lets -merge +onlyGivenNames y0 y1 y2
  clear_value y0 y1 y2
  split
  · exact keep_inputRefused ha4
  · split
    · exact keep_inputDup ha4
    · split
      · exact keep_inputRefused ha4
      · exact keep_couplingPeaks (keep_setDctx ha4)

theorem keep_inputFirst {q : List Instr} {m : Option (List Host.Cell)} {a0 a1 a2 : _} (ha2 : Keep q m a2) :
    Keep q m (inputFirst a0 a1 a2).2 := by
  unfold inputFirst
  extract_lets -merge +onlyGivenNames y0 y1
  clear_value y0 y1
  split
  · exact keep_inputRefused (keep_countStale ha2)
  · split
    · exact keep_inputRefused ha2
    · extract_lets -merge +onlyGivenNames y2
      clear_value y2
      split
      · exact keep_inputRefused ha2
      · split
        · exact keep_inputLate ha2
        · exact keep_inputBegins ha2

theorem keep_sendOutput {q : List Instr} {m : Option (List Host.Cell)} {a0 a1 a2 : _} (ha2 : Keep q m a2) :
    Keep q m (sendOutput a0 a1 a2) := by
  unfold sendOutput
  extract_lets -merge +onlyGivenNames y0 y1
  exact keep_sendPart (keep_when (keep_setDctx ha2) (fun _ h2 => keep_raise (keep_bump h2)))

theorem keep_inputComplete {q : List Instr} {m : Option (List Host.Cell)} {a0 a1 a2 : _} (ha2 : Keep q m a2) :
    Keep q m (inputComplete a0 a1 a2) := by
  unfold inputComplete
  extract_lets -merge +onlyGivenNames x0 y1
  have hx0 : Keep q m x0 := keep_rxFree ha2
  clear_value y1
  split
  · exact keep_inputLate hx0
  · extract_lets -merge +onlyGivenNames y2 x3
    have hx3 : Keep q m x3 := keep_setDctx hx0
    exact keep_ite (fun _ => keep_inputDup hx0) (fun _ => keep_ite (fun _ => keep_inputLate hx0) (fun _ => keep_ite (fun _ => keep_inputRefused (keep_setDctx hx0)) (fun _ => keep_ite (fun _ => hx3) (fun _ => keep_sendOutput hx3))))

theorem keep_attnPart {q : List Instr} {m : Option (List Host.Cell)} {a0 a1 a2 : _} (ha2 : Keep q m a2) :
    Keep q m (attnPart a0 a1 a2) := by
  unfold attnPart
  extract_lets -merge +onlyGivenNames y0
  clear_value y0
  split
  · exact ha2
  · refine keep_ite (fun _ => ?_) (fun _ => ?_)
    · exact ha2
    · split
      · exact keep_ite (fun _ => keep_inputComplete ha2) (fun _ => ha2)
      · exact keep_ite (fun _ => keep_rxFree ha2) (fun _ => ha2)
      · exact ha2
      · extract_lets -merge +onlyGivenNames x1 x2
        have hx1 : Keep q m x1.2 := keep_inputFirst ha2
        have hx2 : Keep q m x2 := keep_rxMark hx1
        exact keep_ite (fun _ => keep_onPrt ha2) (fun _ => keep_ite (fun _ => hx2) (fun _ => keep_ite (fun _ => keep_inputComplete hx2) (fun _ => keep_rxFree hx2)))

theorem keep_execAttnPart {q : List Instr} {m : Option (List Host.Cell)} {a0 a1 a2 : _} (ha2 : Keep q m a2) :
    KeepR q m (execAttnPart a0 a1 a2) := by
  unfold execAttnPart
  exact keepR_done (keep_live (fun _ h0 => keep_attnPart h0) ha2)

theorem keep_contextClose {q : List Instr} {m : Option (List Host.Cell)} {a0 a1 : _} (ha1 : Keep q m a1) :
    Keep q m (contextClose a0 a1) := by
  unfold contextClose
  split
  · exact ha1
  · extract_lets -merge +onlyGivenNames x0
    have hx0 : Keep q m x0 := keep_ite (fun _ => ha1) (fun _ => keep_sendOutput ha1)
    exact keep_ite (fun _ => ha1) (fun _ => keep_onDep hx0)

theorem keep_execContextClose {q : List Instr} {m : Option (List Host.Cell)} {a0 a1 a2 a3 : _} (ha3 : Keep q m a3) :
    KeepR q m (execContextClose a0 a1 a2 a3) := by
  unfold execContextClose
  exact keepR_done (keep_live (fun _ h0 => keep_contextClose h0) ha3)

/-! ### FoxCal -/

theorem keep_releaseMacro {q : List Instr} {m : Option (List Host.Cell)} {a0 a1 : _} (ha1 : Keep q m a1) :
    Keep q m (releaseMacro a0 a1) := by
  unfold releaseMacro
  exact keep_forEach ha1 (fun _ _ h0 => keep_releaseRow h0)

theorem keep_beginCal {q : List Instr} {m : Option (List Host.Cell)} {a0 a1 a2 : _} (ha2 : Keep q m a2) :
    Keep q m (beginCal a0 a1 a2) := by
  unfold beginCal
  extract_lets -merge +onlyGivenNames y0
  exact keep_setMacro (keep_macroOut ha2)

theorem keep_calColumns {q : List Instr} {m : Option (List Host.Cell)} {a0 a1 : _} (ha1 : Keep q m a1) :
    Keep q m (calColumns a0 a1) := by
  unfold calColumns
  exact keep_forEach ha1 (fun _ _ h0 => keep_forEach h0 (fun _ _ h1 => keep_freeTaken (keep_setRg h1)))

theorem keep_calEnd {q : List Instr} {m : Option (List Host.Cell)} {a0 a1 a2 : _} (ha2 : Keep q m a2) :
    Keep q m (calEnd a0 a1 a2) := by
  unfold calEnd
  extract_lets -merge +onlyGivenNames y0
  exact keep_complete (keep_onFox ha2)

theorem keep_foxCal {q : List Instr} {m : Option (List Host.Cell)} {a0 a1 a2 : _} (ha2 : Keep q m a2) :
    Keep q m (foxCal a0 a1 a2) := by
  unfold foxCal
  extract_lets -merge +onlyGivenNames y0 y1
  clear_value y0 y1
  refine keep_ite (fun _ => ?_) (fun _ => ?_)
  · exact ha2
  · split
    · exact keep_complete ha2
    · extract_lets -merge +onlyGivenNames y2 x3
      have hx3 : Keep q m x3 := keep_onFox (keep_forEach (keep_setCmd ha2) (fun _ _ h4 => keep_beginCal h4))
      exact keep_ite (fun _ => keep_calEnd hx3) (fun _ => hx3)

theorem keep_execFoxCal {q : List Instr} {m : Option (List Host.Cell)} {a0 a1 : _} (ha1 : Keep q m a1) :
    KeepR q m (execFoxCal a0 a1) := by
  unfold execFoxCal
  exact keepR_done (keep_live (fun _ h0 => keep_withCmd (fun _ _ h1 => keep_foxCal h1) h0) ha1)

theorem keep_calsProgress {q : List Instr} {m : Option (List Host.Cell)} {a0 a1 : _} (ha1 : Keep q m a1) :
    Keep q m (calsProgress a0 a1) := by
  unfold calsProgress
  extract_lets -merge +onlyGivenNames x0
  have hx0 : Keep q m x0 := keep_onFox ha1
  refine keep_forEach hx0 ?_
  intro _ _ h1
  split
  · exact keep_calEnd h1
  · exact keep_onFox h1

theorem keep_calTrims {q : List Instr} {m : Option (List Host.Cell)} {a0 a1 a2 a3 : _} (ha3 : Keep q m a3) :
    Keep q m (calTrims a0 a1 a2 a3) := by
  unfold calTrims
  exact keep_calColumns (keep_setRg (keep_setRg ha3))

theorem keep_calPass {q : List Instr} {m : Option (List Host.Cell)} {a0 a1 a2 a3 a4 : _} (ha4 : Keep q m a4) :
    Keep q m (calPass a0 a1 a2 a3 a4) := by
  unfold calPass
  extract_lets -merge +onlyGivenNames y0 y1 y2 y3 x4
  have hx4 : Keep q m x4 := keep_setRg (keep_setRg (keep_setRg (keep_setRg (keep_when (keep_setMacro ha4) (fun _ h5 => keep_calTrims h5)))))
  exact keep_ite (fun _ => hx4) (fun _ => keep_when (keep_setRg hx4) (fun _ h6 => keep_raise h6))

theorem keep_calFail {q : List Instr} {m : Option (List Host.Cell)} {a0 a1 a2 : _} (ha2 : Keep q m a2) :
    Keep q m (calFail a0 a1 a2) := by
  unfold calFail
  extract_lets -merge +onlyGivenNames y0 y1 x2
  have hx2 : Keep q m x2 := keep_setRg (keep_setRg (keep_setMacro ha2))
  exact keep_ite (fun _ => keep_raise (keep_releaseMacro (keep_setRg hx2))) (fun _ => keep_setRg hx2)

theorem keep_foxCalDone {q : List Instr} {m : Option (List Host.Cell)} {a0 a1 a2 a3 a4 a5 : _} (ha5 : Keep q m a5) :
    Keep q m (foxCalDone a0 a1 a2 a3 a4 a5) := by
  unfold foxCalDone
  extract_lets -merge +onlyGivenNames x0
  have hx0 : Keep q m x0 := keep_ite (fun _ => keep_calPass ha5) (fun _ => keep_calFail ha5)
  exact keep_ite (fun _ => ha5) (fun _ => keep_calsProgress hx0)

theorem keep_execFoxCalDone {q : List Instr} {m : Option (List Host.Cell)} {a0 a1 a2 a3 a4 a5 : _} (ha5 : Keep q m a5) :
    KeepR q m (execFoxCalDone a0 a1 a2 a3 a4 a5) := by
  unfold execFoxCalDone
  exact keepR_done (keep_live (fun _ h0 => keep_foxCalDone h0) ha5)

theorem keep_foxRecal {q : List Instr} {m : Option (List Host.Cell)} {a0 a1 : _} (ha1 : Keep q m a1) :
    Keep q m (foxRecal a0 a1) := by
  unfold foxRecal
  extract_lets -merge +onlyGivenNames y0 y1
  exact keep_ite (fun _ => keep_beginCal ha1) (fun _ => ha1)

theorem keep_execFoxRecal {q : List Instr} {m : Option (List Host.Cell)} {a0 a1 : _} (ha1 : Keep q m a1) :
    KeepR q m (execFoxRecal a0 a1) := by
  unfold execFoxRecal
  exact keepR_done (keep_live (fun _ h0 => keep_foxRecal h0) ha1)

theorem keep_foxIdlePass {q : List Instr} {m : Option (List Host.Cell)} {a0 a1 a2 : _} (ha2 : Keep q m a2) :
    Keep q m (foxIdlePass a0 a1 a2) := by
  unfold foxIdlePass
  exact keep_ite (fun _ => ha2) (fun _ => keep_trackMacro ha2)

theorem keep_execFoxIdlePass {q : List Instr} {m : Option (List Host.Cell)} {a0 a1 a2 : _} (ha2 : Keep q m a2) :
    KeepR q m (execFoxIdlePass a0 a1 a2) := by
  unfold execFoxIdlePass
  exact keepR_done (keep_live (fun _ h0 => keep_foxIdlePass h0) ha2)

theorem keep_compensate {q : List Instr} {m : Option (List Host.Cell)} {a0 a1 : _} (ha1 : Keep q m a1) :
    Keep q m (compensate a0 a1) := by
  unfold compensate
  extract_lets -merge +onlyGivenNames y0 y1 y2 y3
  exact keep_ite (fun _ => ha1) (fun _ => keep_setMacro ha1)

theorem keep_foxCompensate {q : List Instr} {m : Option (List Host.Cell)} {a0 : _} (ha0 : Keep q m a0) :
    Keep q m (foxCompensate a0) := by
  unfold foxCompensate
  exact keep_ite (fun _ => ha0) (fun _ => keep_forEach (keep_onFox ha0) (fun _ _ h0 => keep_compensate h0))

theorem keep_execFoxCompensate {q : List Instr} {m : Option (List Host.Cell)} {a0 : _} (ha0 : Keep q m a0) :
    KeepR q m (execFoxCompensate a0) := by
  unfold execFoxCompensate
  exact keepR_done (keep_live (fun _ h0 => keep_foxCompensate h0) ha0)

theorem keep_blockRowless {q : List Instr} {m : Option (List Host.Cell)} {a0 a1 : _} (ha1 : Keep q m a1) :
    Keep q m (blockRowless a0 a1) := by
  unfold blockRowless
  exact keep_forEach ha1 (fun _ _ h0 => keep_releaseRow h0)

theorem keep_macroHandover {q : List Instr} {m : Option (List Host.Cell)} {a0 a1 a2 : _} (ha2 : Keep q m a2) :
    Keep q m (macroHandover a0 a1 a2) := by
  unfold macroHandover
  extract_lets -merge +onlyGivenNames y0 y1 y2
  exact keep_setMacro (keep_setRg ha2)

theorem keep_blockHandover {q : List Instr} {m : Option (List Host.Cell)} {a0 a1 : _} (ha1 : Keep q m a1) :
    Keep q m (blockHandover a0 a1) := by
  unfold blockHandover
  extract_lets -merge +onlyGivenNames y0
  exact keep_forEach (keep_blockRowless ha1) (fun _ _ h1 => keep_macroHandover h1)

end Sys2Proof.Machine
end

