-- ==== Sys2Proof/Laws/KeepPorts.lean ====
section
/-! SUPPORT. The operations of time, composition, queues, links and the Owl commands keep the queue of commands and a sound state. -/

namespace Sys2Proof.Machine

open Sys2Proof

/-! ### Events -/

theorem keep_setEvt {q : List Instr} {m : Option (List Host.Cell)} {a0 a1 a2 : _} (ha2 : Keep q m a2) :
    Keep q m (setEvt a0 a1 a2) := by
  unfold setEvt
  exact keep_onTime ha2

theorem keep_evtFired {q : List Instr} {m : Option (List Host.Cell)} {a0 a1 : _} (ha1 : Keep q m a1) :
    Keep q m (evtFired a0 a1) := by
  unfold evtFired
  split
  · exact keep_setEvt ha1
  · exact ha1

theorem keep_fireEntry {q : List Instr} {m : Option (List Host.Cell)} {a0 a1 a2 a3 : _} (ha2 : ∀ x0 x1, Keep q m x1 → Keep q m (a2 x0 x1)) (ha3 : Keep q m a3) :
    Keep q m (fireEntry a0 a1 a2 a3) := by
  unfold fireEntry
  split
  · exact keep_ite (fun _ => ha2 _ _ (keep_evtFired ha3)) (fun _ => ha3)
  · exact ha3

theorem keep_evtTake {q : List Instr} {m : Option (List Host.Cell)} {a0 a1 a2 a3 a4 a5 a6 : _} (ha6 : Keep q m a6) :
    Keep q m (evtTake a0 a1 a2 a3 a4 a5 a6) := by
  unfold evtTake
  exact keep_freeTaken (keep_setEvt ha6)

theorem keep_evtCancel {q : List Instr} {m : Option (List Host.Cell)} {a0 a1 : _} (ha1 : Keep q m a1) :
    Keep q m (evtCancel a0 a1) := by
  unfold evtCancel
  split
  · exact keep_ite (fun _ => keep_setEvt ha1) (fun _ => ha1)
  · exact ha1

theorem keep_evtAdd {q : List Instr} {m : Option (List Host.Cell)} {a0 a1 : _} (ha1 : Keep q m a1) :
    Keep q m (evtAdd a0 a1) := by
  unfold evtAdd
  extract_lets -merge +onlyGivenNames y0 y1 y2 y3 y4 y5
  clear_value y0 y1 y2 y3 y4 y5
  split
  · exact keep_result ha1
  · exact ha1
  · exact keep_result (keep_setRg (keep_evtTake ha1))

theorem keep_evtCancelCmd {q : List Instr} {m : Option (List Host.Cell)} {a0 a1 : _} (ha1 : Keep q m a1) :
    Keep q m (evtCancelCmd a0 a1) := by
  unfold evtCancelCmd
  extract_lets -merge +onlyGivenNames y0 y1 f2
  have hf2 : ∀ y0 y1, Keep q m y1 → Keep q m (f2 y0 y1) := fun _ _ h3 => keep_when h3 (fun _ h4 => keep_parksCancelled h4)
  exact keep_result (keep_when (keep_whenSome (keep_when ha1 (fun _ h6 => keep_evtCancel h6)) hf2) (fun _ h5 => keep_setRg h5))

theorem keep_execEvtAdd {q : List Instr} {m : Option (List Host.Cell)} {a0 a1 : _} (ha1 : Keep q m a1) :
    KeepR q m (execEvtAdd a0 a1) := by
  unfold execEvtAdd
  exact keepR_done (keep_live (fun _ h0 => keep_access (fun _ h1 => keep_evtAdd h1) h0) ha1)

theorem keep_execEvtCancel {q : List Instr} {m : Option (List Host.Cell)} {a0 a1 : _} (ha1 : Keep q m a1) :
    KeepR q m (execEvtCancel a0 a1) := by
  unfold execEvtCancel
  exact keepR_done (keep_live (fun _ h0 => keep_access (fun _ h1 => keep_evtCancelCmd h1) h0) ha1)

/-! ### Comp -/

theorem keep_setCmp {q : List Instr} {m : Option (List Host.Cell)} {a0 a1 : _} (ha1 : Keep q m a1) :
    Keep q m (setCmp a0 a1) := by
  unfold setCmp
  exact keep_setRg ha1

theorem keep_cmpRefused {q : List Instr} {m : Option (List Host.Cell)} {a0 : _} (ha0 : Keep q m a0) :
    Keep q m (cmpRefused a0) := by
  unfold cmpRefused
  exact keep_raise ha0

theorem keep_cmpInvalid {q : List Instr} {m : Option (List Host.Cell)} {a0 a1 a2 : _} (ha2 : Keep q m a2) :
    Keep q m (cmpInvalid a0 a1 a2) := by
  unfold cmpInvalid
  exact keep_raise (keep_onComp (keep_setRg (keep_setRg (keep_setCmp ha2))))

theorem keep_stage {q : List Instr} {m : Option (List Host.Cell)} {a0 a1 : _} (ha1 : Keep q m a1) :
    Keep q m (stage a0 a1) := by
  unfold stage
  extract_lets -merge +onlyGivenNames y0 y1 x2
  have hx2 : Keep q m x2 := keep_onComp (keep_setRg (keep_setRg (keep_setCmp ha1)))
  exact keep_ite (fun _ => keep_cmpRefused ha1) (fun _ => keep_ite (fun _ => keep_cmpInvalid ha1) (fun _ => keep_ite (fun _ => keep_forEach hx2 (fun _ _ h3 => keep_memRead h3)) (fun _ => hx2)))

theorem keep_execStage {q : List Instr} {m : Option (List Host.Cell)} {a0 a1 : _} (ha1 : Keep q m a1) :
    KeepR q m (execStage a0 a1) := by
  unfold execStage
  exact keepR_done (keep_live (fun _ h0 => keep_access (fun _ h1 => keep_stage h1) h0) ha1)

theorem keep_imageFetchDone {q : List Instr} {m : Option (List Host.Cell)} {a0 : _} (ha0 : Keep q m a0) :
    Keep q m (imageFetchDone a0) := by
  unfold imageFetchDone
  split
  · exact ha0
  · exact keep_ite (fun _ => ha0) (fun _ => keep_ite (fun _ => keep_onComp (keep_setCmp ha0)) (fun _ => keep_cmpInvalid ha0))

theorem keep_execImageFetchDone {q : List Instr} {m : Option (List Host.Cell)} {a0 : _} (ha0 : Keep q m a0) :
    KeepR q m (execImageFetchDone a0) := by
  unfold execImageFetchDone
  exact keepR_done (keep_live (fun _ h0 => keep_imageFetchDone h0) ha0)

theorem keep_imageValidated {q : List Instr} {m : Option (List Host.Cell)} {a0 : _} (ha0 : Keep q m a0) :
    Keep q m (imageValidated a0) := by
  unfold imageValidated
  refine keep_ite (fun _ => ?_) (fun _ => ?_)
  · exact ha0
  · split
    · exact keep_cmpInvalid ha0
    · exact keep_raise (keep_onComp (keep_setCmp ha0))

theorem keep_execImageValidated {q : List Instr} {m : Option (List Host.Cell)} {a0 : _} (ha0 : Keep q m a0) :
    KeepR q m (execImageValidated a0) := by
  unfold execImageValidated
  exact keepR_done (keep_live (fun _ h0 => keep_imageValidated h0) ha0)

theorem keep_commit {q : List Instr} {m : Option (List Host.Cell)} {a0 a1 : _} (ha1 : Keep q m a1) :
    Keep q m (commit a0 a1) := by
  unfold commit
  exact keep_ite (fun _ => keep_cmpRefused ha1) (fun _ => keep_onComp (keep_setRg ha1))

theorem keep_execCommit {q : List Instr} {m : Option (List Host.Cell)} {a0 a1 : _} (ha1 : Keep q m a1) :
    KeepR q m (execCommit a0 a1) := by
  unfold execCommit
  exact keepR_done (keep_live (fun _ h0 => keep_access (fun _ h1 => keep_commit h1) h0) ha1)

theorem keep_commitDone {q : List Instr} {m : Option (List Host.Cell)} {a0 a1 : _} (ha1 : Keep q m a1) :
    Keep q m (commitDone a0 a1) := by
  unfold commitDone
  split
  · exact ha1
  · exact keep_raise (keep_when (keep_onComp (keep_setRg ha1)) (fun _ h0 => keep_onSec h0))

theorem keep_execCommitDone {q : List Instr} {m : Option (List Host.Cell)} {a0 a1 : _} (ha1 : Keep q m a1) :
    KeepR q m (execCommitDone a0 a1) := by
  unfold execCommitDone
  exact keepR_done (keep_live (fun _ h0 => keep_commitDone h0) ha1)

theorem keep_armWith {q : List Instr} {m : Option (List Host.Cell)} {a0 a1 a2 a3 : _} (ha3 : Keep q m a3) :
    Keep q m (armWith a0 a1 a2 a3) := by
  unfold armWith
  split
  · extract_lets -merge +onlyGivenNames y0
    exact keep_raise (keep_onComp (keep_setRg (keep_setRg (keep_setCmp (keep_evtTake ha3)))))
  · exact keep_setRg (keep_setRg ha3)

theorem keep_armSwitch {q : List Instr} {m : Option (List Host.Cell)} {a0 a1 : _} (ha1 : Keep q m a1) :
    Keep q m (armSwitch a0 a1) := by
  unfold armSwitch
  exact keep_armWith ha1

theorem keep_shadowTablesLoaded {q : List Instr} {m : Option (List Host.Cell)} {a0 : _} (ha0 : Keep q m a0) :
    Keep q m (shadowTablesLoaded a0) := by
  unfold shadowTablesLoaded
  exact keep_ite (fun _ => keep_onComp ha0) (fun _ => ha0)

theorem keep_execShadowTablesLoaded {q : List Instr} {m : Option (List Host.Cell)} {a0 : _} (ha0 : Keep q m a0) :
    KeepR q m (execShadowTablesLoaded a0) := by
  unfold execShadowTablesLoaded
  exact keepR_done (keep_live (fun _ h0 => keep_shadowTablesLoaded h0) ha0)

theorem keep_endUnlock {q : List Instr} {m : Option (List Host.Cell)} {a0 a1 : _} (ha1 : Keep q m a1) :
    Keep q m (endUnlock a0 a1) := by
  unfold endUnlock
  exact keep_ite (fun _ => keep_raise (keep_setRg (keep_onComp ha1))) (fun _ => ha1)

theorem keep_expertUnlock {q : List Instr} {m : Option (List Host.Cell)} {a0 a1 a2 : _} (ha2 : Keep q m a2) :
    Keep q m (expertUnlock a0 a1 a2) := by
  unfold expertUnlock
  refine keep_ite (fun _ => ?_) (fun _ => ?_)
  · exact keep_raise ha2
  · refine keep_ite (fun _ => ?_) (fun _ => ?_)
    · exact keep_endUnlock ha2
    · split
      · exact keep_onComp (keep_setRg ha2)
      · exact keep_raise (keep_raise ha2)
      · exact keep_raise ha2

theorem keep_execExpertUnlock {q : List Instr} {m : Option (List Host.Cell)} {a0 a1 a2 : _} (ha2 : Keep q m a2) :
    KeepR q m (execExpertUnlock a0 a1 a2) := by
  unfold execExpertUnlock
  exact keepR_done (keep_live (fun _ h0 => keep_access (fun _ h1 => keep_expertUnlock h1) h0) ha2)

theorem keep_expertUnlockExpire {q : List Instr} {m : Option (List Host.Cell)} {a0 a1 : _} (ha1 : Keep q m a1) :
    Keep q m (expertUnlockExpire a0 a1) := by
  unfold expertUnlockExpire
  split
  · exact keep_ite (fun _ => keep_endUnlock ha1) (fun _ => ha1)
  · exact ha1

theorem keep_execExpertUnlockExpire {q : List Instr} {m : Option (List Host.Cell)} {a0 a1 : _} (ha1 : Keep q m a1) :
    KeepR q m (execExpertUnlockExpire a0 a1) := by
  unfold execExpertUnlockExpire
  exact keepR_done (keep_live (fun _ h0 => keep_expertUnlockExpire h0) ha1)

/-! ### Semaphores -/

theorem keep_setSem {q : List Instr} {m : Option (List Host.Cell)} {a0 a1 a2 : _} (ha2 : Keep q m a2) :
    Keep q m (setSem a0 a1 a2) := by
  unfold setSem
  exact keep_onQue ha2

theorem keep_freeSem {q : List Instr} {m : Option (List Host.Cell)} {a0 a1 : _} (ha1 : Keep q m a1) :
    Keep q m (freeSem a0 a1) := by
  unfold freeSem
  exact keep_onQue ha1

theorem keep_semTake {q : List Instr} {m : Option (List Host.Cell)} {a0 a1 a2 : _} (ha2 : Keep q m a2) :
    Keep q m (semTake a0 a1 a2) := by
  unfold semTake
  refine keep_ite (fun _ => ?_) (fun _ => ?_)
  · exact keep_raise ha2
  · split
    · exact keep_setSem ha2
    · exact ha2

theorem keep_semRead {q : List Instr} {m : Option (List Host.Cell)} {a0 a1 a2 : _} (ha2 : Keep q m a2) :
    Keep q m (semRead a0 a1 a2) := by
  unfold semRead
  extract_lets -merge +onlyGivenNames x0
  have hx0 : Keep q m x0 := keep_semTake ha2
  exact keep_emit hx0

theorem keep_execSemRead {q : List Instr} {m : Option (List Host.Cell)} {a0 a1 a2 : _} (ha2 : Keep q m a2) :
    KeepR q m (execSemRead a0 a1 a2) := by
  unfold execSemRead
  exact keepR_done (keep_access (fun _ h0 => keep_semRead h0) ha2)

theorem keep_semLost {q : List Instr} {m : Option (List Host.Cell)} {a0 a1 a2 : _} (ha2 : Keep q m a2) :
    Keep q m (semLost a0 a1 a2) := by
  unfold semLost
  exact keep_when ha2 (fun _ h0 => keep_endUnlock h0)

theorem keep_semRelease {q : List Instr} {m : Option (List Host.Cell)} {a0 a1 a2 : _} (ha2 : Keep q m a2) :
    Keep q m (semRelease a0 a1 a2) := by
  unfold semRelease
  exact keep_ite (fun _ => keep_semLost (keep_freeSem ha2)) (fun _ => keep_raise ha2)

theorem keep_execSemRelease {q : List Instr} {m : Option (List Host.Cell)} {a0 a1 a2 : _} (ha2 : Keep q m a2) :
    KeepR q m (execSemRelease a0 a1 a2) := by
  unfold execSemRelease
  exact keepR_done (keep_access (fun _ h0 => keep_semRelease h0) ha2)

theorem keep_semLeaseExpire {q : List Instr} {m : Option (List Host.Cell)} {a0 a1 : _} (ha1 : Keep q m a1) :
    Keep q m (semLeaseExpire a0 a1) := by
  unfold semLeaseExpire
  split
  · split
    · exact keep_ite (fun _ => keep_semLost (keep_raise (keep_freeSem ha1))) (fun _ => ha1)
    · exact ha1
  · exact ha1

theorem keep_execSemLeaseExpire {q : List Instr} {m : Option (List Host.Cell)} {a0 a1 : _} (ha1 : Keep q m a1) :
    KeepR q m (execSemLeaseExpire a0 a1) := by
  unfold execSemLeaseExpire
  exact keepR_done (keep_live (fun _ h0 => keep_semLeaseExpire h0) ha1)

theorem keep_startLeases {q : List Instr} {m : Option (List Host.Cell)} {a0 a1 : _} (ha1 : Keep q m a1) :
    Keep q m (startLeases a0 a1) := by
  unfold startLeases
  exact keep_onQue ha1

theorem keep_stopLeases {q : List Instr} {m : Option (List Host.Cell)} {a0 a1 : _} (ha1 : Keep q m a1) :
    Keep q m (stopLeases a0 a1) := by
  unfold stopLeases
  exact keep_onQue ha1

/-! ### Onzon -/

theorem keep_portGoesUp {q : List Instr} {m : Option (List Host.Cell)} {a0 a1 a2 : _} (ha2 : Keep q m a2) :
    Keep q m (portGoesUp a0 a1 a2) := by
  unfold portGoesUp
  extract_lets -merge +onlyGivenNames y0
  exact keep_raise (keep_returnCredit (keep_stopLeases (keep_wrapUp (keep_setOnz ha2))))

theorem keep_dataLost {q : List Instr} {m : Option (List Host.Cell)} {a0 a1 : _} (ha1 : Keep q m a1) :
    Keep q m (dataLost a0 a1) := by
  unfold dataLost
  split
  · exact ha1
  · extract_lets -merge +onlyGivenNames x0
    have hx0 : Keep q m x0 := keep_noteLost ha1
    refine keep_ite (fun _ => ?_) (fun _ => ?_)
    · exact ha1
    · split
      · extract_lets -merge +onlyGivenNames y1 y2
        exact keep_onQue (keep_setCmd hx0)
      · exact keep_complete hx0

theorem keep_waitingLost {q : List Instr} {m : Option (List Host.Cell)} {a0 a1 a2 : _} (ha2 : Keep q m a2) :
    Keep q m (waitingLost a0 a1 a2) := by
  unfold waitingLost
  exact keep_forEach ha2 (fun _ _ h0 => keep_undelivered h0)

theorem keep_portDown {q : List Instr} {m : Option (List Host.Cell)} {a0 a1 a2 : _} (ha2 : Keep q m a2) :
    Keep q m (portDown a0 a1 a2) := by
  unfold portDown
  extract_lets -merge +onlyGivenNames y0 x1 x2 y3 x4 y6 x7 x9
  have hx1 : Keep q m x1 := keep_setOnz ha2
  have hx2 : Keep q m x2 := keep_waitingLost (keep_raise (keep_startLeases hx1))
  have hx4 : Keep q m x4 := keep_forEach hx2 (fun _ _ h5 => keep_stopQueue h5)
  have hx7 : Keep q m x7 := keep_forEach hx4 (fun _ _ h8 => keep_dataLost h8)
  have hx9 : Keep q m x9 := keep_parksPortDown hx7
  exact keep_ite (fun _ => ha2) (fun _ => keep_onSec hx9)

theorem keep_onzonTrainingStart {q : List Instr} {m : Option (List Host.Cell)} {a0 a1 a2 : _} (ha2 : Keep q m a2) :
    Keep q m (onzonTrainingStart a0 a1 a2) := by
  unfold onzonTrainingStart
  extract_lets -merge +onlyGivenNames y0
  exact keep_ite (fun _ => keep_emit (keep_setOnz ha2)) (fun _ => ha2)

theorem keep_execOnzonTrainingStart {q : List Instr} {m : Option (List Host.Cell)} {a0 a1 a2 : _} (ha2 : Keep q m a2) :
    KeepR q m (execOnzonTrainingStart a0 a1 a2) := by
  unfold execOnzonTrainingStart
  exact keepR_done (keep_powered (fun _ h0 => keep_onzonTrainingStart h0) ha2)

theorem keep_onzonTrainFailed {q : List Instr} {m : Option (List Host.Cell)} {a0 a1 : _} (ha1 : Keep q m a1) :
    Keep q m (onzonTrainFailed a0 a1) := by
  unfold onzonTrainFailed
  extract_lets -merge +onlyGivenNames y0
  exact keep_setOnz ha1

theorem keep_onzonTrainingEnd {q : List Instr} {m : Option (List Host.Cell)} {a0 a1 a2 a3 : _} (ha3 : Keep q m a3) :
    Keep q m (onzonTrainingEnd a0 a1 a2 a3) := by
  unfold onzonTrainingEnd
  extract_lets -merge +onlyGivenNames y0
  clear_value y0
  refine keep_ite (fun _ => ?_) (fun _ => ?_)
  · exact ha3
  · split
    · exact keep_portGoesUp (keep_when ha3 (fun _ h1 => keep_serTrimLoad h1))
    · exact keep_onzonTrainFailed ha3

theorem keep_execOnzonTrainingEnd {q : List Instr} {m : Option (List Host.Cell)} {a0 a1 a2 a3 : _} (ha3 : Keep q m a3) :
    KeepR q m (execOnzonTrainingEnd a0 a1 a2 a3) := by
  unfold execOnzonTrainingEnd
  exact keepR_done (keep_powered (fun _ h0 => keep_onzonTrainingEnd h0) ha3)

theorem keep_onzonTrainingTimeout {q : List Instr} {m : Option (List Host.Cell)} {a0 a1 : _} (ha1 : Keep q m a1) :
    Keep q m (onzonTrainingTimeout a0 a1) := by
  unfold onzonTrainingTimeout
  extract_lets -merge +onlyGivenNames y0
  exact keep_ite (fun _ => keep_onzonTrainFailed ha1) (fun _ => ha1)

theorem keep_execOnzonTrainingTimeout {q : List Instr} {m : Option (List Host.Cell)} {a0 a1 : _} (ha1 : Keep q m a1) :
    KeepR q m (execOnzonTrainingTimeout a0 a1) := by
  unfold execOnzonTrainingTimeout
  exact keepR_done (keep_powered (fun _ h0 => keep_onzonTrainingTimeout h0) ha1)

theorem keep_onzonRetry {q : List Instr} {m : Option (List Host.Cell)} {a0 a1 : _} (ha1 : Keep q m a1) :
    Keep q m (onzonRetry a0 a1) := by
  unfold onzonRetry
  extract_lets -merge +onlyGivenNames y0
  clear_value y0
  split
  · exact keep_ite (fun _ => keep_setOnz ha1) (fun _ => ha1)
  · exact ha1

theorem keep_execOnzonRetry {q : List Instr} {m : Option (List Host.Cell)} {a0 a1 : _} (ha1 : Keep q m a1) :
    KeepR q m (execOnzonRetry a0 a1) := by
  unfold execOnzonRetry
  exact keepR_done (keep_powered (fun _ h0 => keep_onzonRetry h0) ha1)

theorem keep_execOnzonLockLoss {q : List Instr} {m : Option (List Host.Cell)} {a0 a1 : _} (ha1 : Keep q m a1) :
    KeepR q m (execOnzonLockLoss a0 a1) := by
  unfold execOnzonLockLoss
  exact keepR_done (keep_powered (fun _ h0 => keep_portDown h0) ha1)

theorem keep_onzonRxIdle {q : List Instr} {m : Option (List Host.Cell)} {a0 a1 : _} (ha1 : Keep q m a1) :
    Keep q m (onzonRxIdle a0 a1) := by
  unfold onzonRxIdle
  exact keep_ite (fun _ => keep_portDown ha1) (fun _ => ha1)

theorem keep_execOnzonRxIdleTimeout {q : List Instr} {m : Option (List Host.Cell)} {a0 a1 : _} (ha1 : Keep q m a1) :
    KeepR q m (execOnzonRxIdleTimeout a0 a1) := by
  unfold execOnzonRxIdleTimeout
  exact keepR_done (keep_powered (fun _ h0 => keep_onzonRxIdle h0) ha1)

theorem keep_replayFrom {q : List Instr} {m : Option (List Host.Cell)} {a0 a1 a2 : _} (ha2 : Keep q m a2) :
    Keep q m (replayFrom a0 a1 a2) := by
  unfold replayFrom
  extract_lets -merge +onlyGivenNames y0 x1 y2 x3
  have hx1 : Keep q m x1 := keep_oReplayFrom ha2
  have hx3 : Keep q m x3 := keep_setOnz hx1
  exact keep_ite (fun _ => keep_portDown hx3) (fun _ => hx3)

theorem keep_onzonReplayTimeout {q : List Instr} {m : Option (List Host.Cell)} {a0 a1 : _} (ha1 : Keep q m a1) :
    Keep q m (onzonReplayTimeout a0 a1) := by
  unfold onzonReplayTimeout
  refine keep_ite (fun _ => ?_) (fun _ => ?_)
  · exact ha1
  · split
    · exact ha1
    · exact keep_ite (fun _ => keep_replayFrom ha1) (fun _ => ha1)

theorem keep_execOnzonReplayTimeout {q : List Instr} {m : Option (List Host.Cell)} {a0 a1 : _} (ha1 : Keep q m a1) :
    KeepR q m (execOnzonReplayTimeout a0 a1) := by
  unfold execOnzonReplayTimeout
  exact keepR_done (keep_powered (fun _ h0 => keep_onzonReplayTimeout h0) ha1)

theorem keep_execOnzonLinkReset {q : List Instr} {m : Option (List Host.Cell)} {a0 a1 : _} (ha1 : Keep q m a1) :
    KeepR q m (execOnzonLinkReset a0 a1) := by
  unfold execOnzonLinkReset
  exact keepR_done (keep_powered (fun _ h0 => keep_portDown h0) ha1)

theorem keep_ackUpTo {q : List Instr} {m : Option (List Host.Cell)} {a0 a1 a2 : _} (ha2 : Keep q m a2) :
    Keep q m (ackUpTo a0 a1 a2) := by
  unfold ackUpTo
  extract_lets -merge +onlyGivenNames y0 y1
  exact keep_oFlush (keep_setOnz ha2)

theorem keep_onzonAck {q : List Instr} {m : Option (List Host.Cell)} {a0 a1 a2 : _} (ha2 : Keep q m a2) :
    Keep q m (onzonAck a0 a1 a2) := by
  unfold onzonAck
  exact keep_ite (fun _ => keep_ackUpTo ha2) (fun _ => ha2)

theorem keep_execOnzonAck {q : List Instr} {m : Option (List Host.Cell)} {a0 a1 a2 : _} (ha2 : Keep q m a2) :
    KeepR q m (execOnzonAck a0 a1 a2) := by
  unfold execOnzonAck
  exact keepR_done (keep_powered (fun _ h0 => keep_onzonAck h0) ha2)

theorem keep_onzonNak {q : List Instr} {m : Option (List Host.Cell)} {a0 a1 a2 : _} (ha2 : Keep q m a2) :
    Keep q m (onzonNak a0 a1 a2) := by
  unfold onzonNak
  extract_lets -merge +onlyGivenNames x0
  have hx0 : Keep q m x0 := keep_ackUpTo ha2
  exact keep_ite (fun _ => ha2) (fun _ => keep_ite (fun _ => keep_replayFrom hx0) (fun _ => hx0))

theorem keep_execOnzonNak {q : List Instr} {m : Option (List Host.Cell)} {a0 a1 a2 : _} (ha2 : Keep q m a2) :
    KeepR q m (execOnzonNak a0 a1 a2) := by
  unfold execOnzonNak
  exact keepR_done (keep_powered (fun _ h0 => keep_onzonNak h0) ha2)

theorem keep_onzonCredit {q : List Instr} {m : Option (List Host.Cell)} {a0 a1 a2 a3 : _} (ha3 : Keep q m a3) :
    Keep q m (onzonCredit a0 a1 a2 a3) := by
  unfold onzonCredit
  extract_lets -merge +onlyGivenNames y0
  exact keep_ite (fun _ => ha3) (fun _ => keep_oFlush (keep_setOnz ha3))

theorem keep_execOnzonCredit {q : List Instr} {m : Option (List Host.Cell)} {a0 a1 a2 a3 : _} (ha3 : Keep q m a3) :
    KeepR q m (execOnzonCredit a0 a1 a2 a3) := by
  unfold execOnzonCredit
  exact keepR_done (keep_powered (fun _ h0 => keep_onzonCredit h0) ha3)

theorem keep_onzonFrameError {q : List Instr} {m : Option (List Host.Cell)} {a0 a1 a2 : _} (ha2 : Keep q m a2) :
    Keep q m (onzonFrameError a0 a1 a2) := by
  unfold onzonFrameError
  extract_lets -merge +onlyGivenNames y0
  exact keep_ite (fun _ => ha2) (fun _ => keep_oSendCtl (keep_bump (keep_setOnz ha2)))

theorem keep_execOnzonFrameError {q : List Instr} {m : Option (List Host.Cell)} {a0 a1 a2 : _} (ha2 : Keep q m a2) :
    KeepR q m (execOnzonFrameError a0 a1 a2) := by
  unfold execOnzonFrameError
  exact keepR_done (keep_powered (fun _ h0 => keep_onzonFrameError h0) ha2)

/-! ### Commands -/

theorem keep_doorbell {q : List Instr} {m : Option (List Host.Cell)} {a0 a1 a2 a3 a4 : _} (ha4 : Keep q m a4) :
    Keep q m (doorbell a0 a1 a2 a3 a4) := by
  unfold doorbell
  extract_lets -merge +onlyGivenNames y0 y1 y2 x3
  have hx3 : Keep q m x3 := keep_setCtx ha4
  exact keep_ite (fun _ => keep_raise ha4) (fun _ => keep_ite (fun _ => keep_stopQueue hx3) (fun _ => hx3))

theorem keep_execDoorbell {q : List Instr} {m : Option (List Host.Cell)} {a0 a1 a2 a3 a4 : _} (ha4 : Keep q m a4) :
    KeepR q m (execDoorbell a0 a1 a2 a3 a4) := by
  unfold execDoorbell
  exact keepR_done (keep_live (fun _ h0 => keep_access (fun _ h1 => keep_doorbell h1) h0) ha4)

theorem keep_ctxResult {q : List Instr} {m : Option (List Host.Cell)} {a0 a1 a2 : _} (ha2 : Keep q m a2) :
    Keep q m (ctxResult a0 a1 a2) := by
  unfold ctxResult
  exact keep_result ha2

theorem keep_queueEnable {q : List Instr} {m : Option (List Host.Cell)} {a0 a1 : _} (ha1 : Keep q m a1) :
    Keep q m (queueEnable a0 a1) := by
  unfold queueEnable
  extract_lets -merge +onlyGivenNames y0 y1 y2 y3
  exact keep_ite (fun _ => keep_ctxResult ha1) (fun _ => keep_ite (fun _ => keep_ctxResult (keep_setCtx ha1)) (fun _ => keep_ctxResult ha1))

theorem keep_execQueueEnable {q : List Instr} {m : Option (List Host.Cell)} {a0 a1 : _} (ha1 : Keep q m a1) :
    KeepR q m (execQueueEnable a0 a1) := by
  unfold execQueueEnable
  exact keepR_done (keep_live (fun _ h0 => keep_access (fun _ h1 => keep_queueEnable h1) h0) ha1)

theorem keep_queueDisable {q : List Instr} {m : Option (List Host.Cell)} {a0 a1 : _} (ha1 : Keep q m a1) :
    Keep q m (queueDisable a0 a1) := by
  unfold queueDisable
  extract_lets -merge +onlyGivenNames y0 y1
  exact keep_ite (fun _ => keep_ctxResult (keep_setCtx ha1)) (fun _ => keep_ite (fun _ => keep_ctxResult ha1) (fun _ => keep_ctxResult ha1))

theorem keep_execQueueDisable {q : List Instr} {m : Option (List Host.Cell)} {a0 a1 : _} (ha1 : Keep q m a1) :
    KeepR q m (execQueueDisable a0 a1) := by
  unfold execQueueDisable
  exact keepR_done (keep_live (fun _ h0 => keep_access (fun _ h1 => keep_queueDisable h1) h0) ha1)

theorem keep_queueReset {q : List Instr} {m : Option (List Host.Cell)} {a0 a1 : _} (ha1 : Keep q m a1) :
    Keep q m (queueReset a0 a1) := by
  unfold queueReset
  extract_lets -merge +onlyGivenNames y0 y1
  exact keep_ite (fun _ => keep_ctxResult ha1) (fun _ => keep_ctxResult (keep_setCtx ha1))

theorem keep_execQueueReset {q : List Instr} {m : Option (List Host.Cell)} {a0 a1 : _} (ha1 : Keep q m a1) :
    KeepR q m (execQueueReset a0 a1) := by
  unfold execQueueReset
  exact keepR_done (keep_live (fun _ h0 => keep_access (fun _ h1 => keep_queueReset h1) h0) ha1)

theorem keep_queueDrainDone {q : List Instr} {m : Option (List Host.Cell)} {a0 a1 : _} (ha1 : Keep q m a1) :
    Keep q m (queueDrainDone a0 a1) := by
  unfold queueDrainDone
  extract_lets -merge +onlyGivenNames y0
  exact keep_ite (fun _ => keep_setCtx ha1) (fun _ => ha1)

theorem keep_execQueueDrainDone {q : List Instr} {m : Option (List Host.Cell)} {a0 a1 : _} (ha1 : Keep q m a1) :
    KeepR q m (execQueueDrainDone a0 a1) := by
  unfold execQueueDrainDone
  exact keepR_done (keep_live (fun _ h0 => keep_queueDrainDone h0) ha1)

theorem keep_irqTimer {q : List Instr} {m : Option (List Host.Cell)} {a0 a1 : _} (ha1 : Keep q m a1) :
    Keep q m (irqTimer a0 a1) := by
  unfold irqTimer
  extract_lets -merge +onlyGivenNames y0
  clear_value y0
  split
  · exact keep_ite (fun _ => keep_sendIrq ha1) (fun _ => ha1)
  · exact ha1

theorem keep_execIrqTimer {q : List Instr} {m : Option (List Host.Cell)} {a0 a1 : _} (ha1 : Keep q m a1) :
    KeepR q m (execIrqTimer a0 a1) := by
  unfold execIrqTimer
  exact keepR_done (keep_live (fun _ h0 => keep_irqTimer h0) ha1)

theorem keep_fetched {q : List Instr} {m : Option (List Host.Cell)} {a0 a1 a2 : _} (ha2 : Keep q m a2) :
    Keep q m (fetched a0 a1 a2) := by
  unfold fetched
  extract_lets -merge +onlyGivenNames y0 y1 y2
  exact keep_onQue ha2

theorem keep_sqFetch {q : List Instr} {m : Option (List Host.Cell)} {a0 a1 : _} (ha1 : Keep q m a1) :
    Keep q m (sqFetch a0 a1) := by
  unfold sqFetch
  refine keep_ite (fun _ => ?_) (fun _ => ?_)
  · exact ha1
  · split
    · exact ha1
    · extract_lets -merge +onlyGivenNames y0 y1 y2 y3
      exact keep_memRead (keep_setCtx (keep_fetched ha1))

theorem keep_execSqFetch {q : List Instr} {m : Option (List Host.Cell)} {a0 a1 : _} (ha1 : Keep q m a1) :
    KeepR q m (execSqFetch a0 a1) := by
  unfold execSqFetch
  exact keepR_done (keep_live (fun _ h0 => keep_sqFetch h0) ha1)

theorem keep_startCommand {q : List Instr} {m : Option (List Host.Cell)} {a0 a1 a2 a3 : _} (ha3 : Keep q m a3) :
    Keep q m (startCommand a0 a1 a2 a3) := by
  unfold startCommand
  extract_lets -merge +onlyGivenNames y0 y1 y2 y3 x4
  have hx4 : Keep q m x4 := keep_setCtx (keep_onQue ha3)
  clear_value y0 y1 y2 y3
  split
  · exact keep_complete hx4
  · exact hx4

theorem keep_commandStart {q : List Instr} {m : Option (List Host.Cell)} {a0 a1 : _} (ha1 : Keep q m a1) :
    Keep q m (commandStart a0 a1) := by
  unfold commandStart
  extract_lets -merge +onlyGivenNames y0
  clear_value y0
  split
  · exact ha1
  · exact keep_ite (fun _ => keep_startCommand (keep_setCtx ha1)) (fun _ => ha1)

theorem keep_execCommandStart {q : List Instr} {m : Option (List Host.Cell)} {a0 a1 : _} (ha1 : Keep q m a1) :
    KeepR q m (execCommandStart a0 a1) := by
  unfold execCommandStart
  exact keepR_done (keep_live (fun _ h0 => keep_commandStart h0) ha1)

theorem keep_setList {q : List Instr} {m : Option (List Host.Cell)} {a0 a1 a2 : _} (ha2 : Keep q m a2) :
    Keep q m (setList a0 a1 a2) := by
  unfold setList
  exact keep_onQue ha2

theorem keep_askBytes {q : List Instr} {m : Option (List Host.Cell)} {a0 a1 a2 a3 : _} (ha3 : Keep q m a3) :
    Keep q m (askBytes a0 a1 a2 a3) := by
  unfold askBytes
  split
  · exact ha3
  · extract_lets -merge +onlyGivenNames y0 x1
    have hx1 : Keep q m x1 := keep_setCmd ha3
    exact keep_ite (fun _ => keep_forEach hx1 (fun _ _ h2 => keep_memRead h2)) (fun _ => keep_dataLost hx1)

theorem keep_askBlock {q : List Instr} {m : Option (List Host.Cell)} {a0 a1 a2 a3 : _} (ha3 : Keep q m a3) :
    Keep q m (askBlock a0 a1 a2 a3) := by
  unfold askBlock
  split
  · exact ha3
  · exact keep_askBytes (keep_setCmd ha3)

theorem keep_listBegin {q : List Instr} {m : Option (List Host.Cell)} {a0 a1 a2 : _} (ha2 : Keep q m a2) :
    Keep q m (listBegin a0 a1 a2) := by
  unfold listBegin
  extract_lets -merge +onlyGivenNames y0
  exact keep_ite (fun _ => keep_complete ha2) (fun _ => keep_ite (fun _ => keep_setList ha2) (fun _ => keep_askBlock (keep_setList ha2)))

theorem keep_listOffend {q : List Instr} {m : Option (List Host.Cell)} {a0 a1 a2 a3 : _} (ha3 : Keep q m a3) :
    Keep q m (listOffend a0 a1 a2 a3) := by
  unfold listOffend
  exact keep_setList ha3

theorem keep_takeBlock {q : List Instr} {m : Option (List Host.Cell)} {a0 a1 a2 a3 a4 a5 : _} (ha5 : Keep q m a5) :
    Keep q m (takeBlock a0 a1 a2 a3 a4 a5) := by
  unfold takeBlock
  split
  · exact keep_stopQueue (keep_setCmd (keep_raise ha5))
  · exact keep_askBytes ha5
  · extract_lets -merge +onlyGivenNames y0 y1
    exact keep_ite (fun _ => keep_setList (keep_setCmd ha5)) (fun _ => keep_setList (keep_setCmd ha5))

theorem keep_listNext {q : List Instr} {m : Option (List Host.Cell)} {a0 a1 a2 a3 a4 : _} (ha4 : Keep q m a4) :
    Keep q m (listNext a0 a1 a2 a3 a4) := by
  unfold listNext
  extract_lets -merge +onlyGivenNames y0
  exact keep_ite (fun _ => keep_listOffend ha4) (fun _ => keep_ite (fun _ => ha4) (fun _ => keep_ite (fun _ => ha4) (fun _ => keep_startCommand (keep_setList ha4))))

theorem keep_listStep {q : List Instr} {m : Option (List Host.Cell)} {a0 a1 a2 : _} (ha2 : Keep q m a2) :
    Keep q m (listStep a0 a1 a2) := by
  unfold listStep
  split
  · exact keep_listBegin ha2
  · refine keep_ite (fun _ => ?_) (fun _ => ?_)
    · exact ha2
    · refine keep_ite (fun _ => ?_) (fun _ => ?_)
      · exact ha2
      · split
        · exact keep_listNext ha2
        · exact keep_takeBlock ha2
        · exact keep_ite (fun _ => keep_listOffend ha2) (fun _ => keep_askBlock ha2)
        · exact ha2

theorem keep_execList {q : List Instr} {m : Option (List Host.Cell)} {a0 a1 : _} (ha1 : Keep q m a1) :
    KeepR q m (execList a0 a1) := by
  unfold execList
  exact keepR_done (keep_live (fun _ h0 => keep_withCmd (fun _ _ h1 => keep_listStep h1) h0) ha1)

theorem keep_stepEnd {q : List Instr} {m : Option (List Host.Cell)} {a0 a1 a2 a3 : _} (ha3 : Keep q m a3) :
    Keep q m (stepEnd a0 a1 a2 a3) := by
  unfold stepEnd
  exact keep_onRas ha3

theorem keep_listComplete {q : List Instr} {m : Option (List Host.Cell)} {a0 a1 : _} (ha1 : Keep q m a1) :
    Keep q m (listComplete a0 a1) := by
  unfold listComplete
  split
  · extract_lets -merge +onlyGivenNames y0 y1
    exact keep_ite (fun _ => keep_when (keep_complete (keep_onQue ha1)) (fun _ h2 => keep_stepEnd h2)) (fun _ => ha1)
  · exact ha1

theorem keep_execListComplete {q : List Instr} {m : Option (List Host.Cell)} {a0 a1 : _} (ha1 : Keep q m a1) :
    KeepR q m (execListComplete a0 a1) := by
  unfold execListComplete
  exact keepR_done (keep_live (fun _ h0 => keep_listComplete h0) ha1)

theorem keep_sqArrive {q : List Instr} {m : Option (List Host.Cell)} {a0 a1 a2 a3 a4 a5 a6 : _} (ha6 : Keep q m a6) :
    Keep q m (sqArrive a0 a1 a2 a3 a4 a5 a6) := by
  unfold sqArrive
  extract_lets -merge +onlyGivenNames y0 y1 x2
  have hx2 : Keep q m x2 := keep_setCtx ha6
  clear_value y0 y1
  refine keep_ite (fun _ => ?_) (fun _ => ?_)
  · exact ha6
  · refine keep_ite (fun _ => ?_) (fun _ => ?_)
    · exact keep_stopQueue ha6
    · split
      · exact keep_stopQueue (keep_raise hx2)
      · exact hx2

theorem keep_dataArrive {q : List Instr} {m : Option (List Host.Cell)} {a0 a1 a2 a3 a4 a5 : _} (ha5 : Keep q m a5) :
    Keep q m (dataArrive a0 a1 a2 a3 a4 a5) := by
  unfold dataArrive
  split
  · exact ha5
  · extract_lets -merge +onlyGivenNames y0
    exact keep_ite (fun _ => keep_setCmd ha5) (fun _ => keep_freeTaken (keep_setCmd ha5))

theorem keep_blockArrive {q : List Instr} {m : Option (List Host.Cell)} {a0 a1 a2 a3 a4 a5 : _} (ha5 : Keep q m a5) :
    Keep q m (blockArrive a0 a1 a2 a3 a4 a5) := by
  unfold blockArrive
  split
  · extract_lets -merge +onlyGivenNames y0
    exact keep_ite (fun _ => keep_setCmd ha5) (fun _ => keep_setList (keep_setCmd ha5))
  · exact ha5

theorem keep_imageArrive {q : List Instr} {m : Option (List Host.Cell)} {a0 a1 a2 a3 a4 : _} (ha4 : Keep q m a4) :
    Keep q m (imageArrive a0 a1 a2 a3 a4) := by
  unfold imageArrive
  split
  · exact keep_ite (fun _ => keep_onComp ha4) (fun _ => ha4)
  · exact ha4

theorem keep_loadArrive {q : List Instr} {m : Option (List Host.Cell)} {a0 a1 a2 a3 a4 : _} (ha4 : Keep q m a4) :
    Keep q m (loadArrive a0 a1 a2 a3 a4) := by
  unfold loadArrive
  extract_lets -merge +onlyGivenNames y0
  exact keep_onSec ha4

theorem keep_memRespIn {q : List Instr} {m : Option (List Host.Cell)} {a0 a1 a2 a3 a4 : _} (ha4 : Keep q m a4) :
    Keep q m (memRespIn a0 a1 a2 a3 a4) := by
  unfold memRespIn
  extract_lets -merge +onlyGivenNames y0
  clear_value y0
  split
  · exact ha4
  · extract_lets -merge +onlyGivenNames x1 x2
    have hx1 : Keep q m x1 := keep_setOnz ha4
    have hx2 : Keep q m x2 := by
      unfold x2
      split
      · exact keep_sqArrive hx1
      · exact keep_imageArrive hx1
      · exact keep_dataArrive hx1
      · exact keep_blockArrive hx1
      · exact keep_loadArrive hx1
    exact keep_oIssue hx2

theorem keep_execMemResp {q : List Instr} {m : Option (List Host.Cell)} {a0 a1 a2 a3 a4 a5 : _} (ha5 : Keep q m a5) :
    KeepR q m (execMemResp a0 a1 a2 a3 a4 a5) := by
  unfold execMemResp
  exact keepR_done (keep_live (fun _ h0 => keep_oReceive (fun _ h1 => keep_memRespIn h1) h0) ha5)

/-! ### Time -/

theorem keep_enterLocked {q : List Instr} {m : Option (List Host.Cell)} {a0 : _} (ha0 : Keep q m a0) :
    Keep q m (enterLocked a0) := by
  unfold enterLocked
  extract_lets -merge +onlyGivenNames y0
  exact keep_raise (keep_onStart (keep_onTrf (keep_onTime (keep_setRg (keep_when ha0 (fun _ h1 => keep_setRg h1))))))

theorem keep_enterHoldover {q : List Instr} {m : Option (List Host.Cell)} {a0 a1 : _} (ha1 : Keep q m a1) :
    Keep q m (enterHoldover a0 a1) := by
  unfold enterHoldover
  exact keep_raise (keep_onTime (keep_setRg (keep_setRg ha1)))

theorem keep_loadCount {q : List Instr} {m : Option (List Host.Cell)} {a0 a1 : _} (ha1 : Keep q m a1) :
    Keep q m (loadCount a0 a1) := by
  unfold loadCount
  extract_lets -merge +onlyGivenNames x0
  have hx0 : Keep q m x0 := keep_onTime ha1
  exact keep_ite (fun _ => keep_congr hx0 rfl rfl rfl rfl) (fun _ => hx0)

theorem keep_ftRefStable {q : List Instr} {m : Option (List Host.Cell)} {a0 : _} (ha0 : Keep q m a0) :
    Keep q m (ftRefStable a0) := by
  unfold ftRefStable
  exact keep_when (keep_setRg ha0) (fun _ h0 => keep_setRg h0)

theorem keep_execFtRefStable {q : List Instr} {m : Option (List Host.Cell)} {a0 : _} (ha0 : Keep q m a0) :
    KeepR q m (execFtRefStable a0) := by
  unfold execFtRefStable
  exact keepR_done (keep_live (fun _ h0 => keep_ftRefStable h0) ha0)

theorem keep_ftRefLost {q : List Instr} {m : Option (List Host.Cell)} {a0 : _} (ha0 : Keep q m a0) :
    Keep q m (ftRefLost a0) := by
  unfold ftRefLost
  exact keep_ite (fun _ => ha0) (fun _ => keep_when (keep_raise (keep_setRg ha0)) (fun _ h0 => keep_enterHoldover h0))

theorem keep_execFtRefLost {q : List Instr} {m : Option (List Host.Cell)} {a0 : _} (ha0 : Keep q m a0) :
    KeepR q m (execFtRefLost a0) := by
  unfold execFtRefLost
  exact keepR_done (keep_live (fun _ h0 => keep_ftRefLost h0) ha0)

theorem keep_badWord {q : List Instr} {m : Option (List Host.Cell)} {a0 : _} (ha0 : Keep q m a0) :
    Keep q m (badWord a0) := by
  unfold badWord
  extract_lets -merge +onlyGivenNames y0
  exact keep_when (keep_onTime (keep_raise ha0)) (fun _ h1 => keep_enterHoldover h1)

theorem keep_ftCodeWord {q : List Instr} {m : Option (List Host.Cell)} {a0 a1 : _} (ha1 : Keep q m a1) :
    Keep q m (ftCodeWord a0 a1) := by
  unfold ftCodeWord
  extract_lets -merge +onlyGivenNames y0 x1 x2
  have hx1 : Keep q m x1 := keep_setRg (keep_setRg ha1)
  have hx2 : Keep q m x2 := keep_bump hx1
  exact keep_ite (fun _ => keep_badWord (keep_bump ha1)) (fun _ => keep_ite (fun _ => hx1) (fun _ => keep_ite (fun _ => keep_ite (fun _ => keep_onTime (keep_raise hx2)) (fun _ => keep_badWord hx2)) (fun _ => keep_onTime hx1)))

theorem keep_execFtCodeWord {q : List Instr} {m : Option (List Host.Cell)} {a0 a1 : _} (ha1 : Keep q m a1) :
    KeepR q m (execFtCodeWord a0 a1) := by
  unfold execFtCodeWord
  exact keepR_done (keep_live (fun _ h0 => keep_ftCodeWord h0) ha1)

theorem keep_judgeEdge {q : List Instr} {m : Option (List Host.Cell)} {a0 a1 : _} (ha1 : Keep q m a1) :
    Keep q m (judgeEdge a0 a1) := by
  unfold judgeEdge
  extract_lets -merge +onlyGivenNames y0 y1 x2 y3 y4 x5 x6 x7
  have hx2 : Keep q m x2 := keep_setRg ha1
  have hx5 : Keep q m x5 := keep_onTime hx2
  have hx6 : Keep q m x6 := keep_onTime hx5
  have hx7 : Keep q m x7 := keep_raise hx2
  exact keep_ite (fun _ => keep_ite (fun _ => keep_onTime hx5) (fun _ => keep_ite (fun _ => keep_ite (fun _ => keep_enterLocked (keep_onTime hx5)) (fun _ => hx5)) (fun _ => keep_ite (fun _ => keep_ite (fun _ => keep_enterLocked hx6) (fun _ => hx6)) (fun _ => keep_onTime hx5)))) (fun _ => keep_ite (fun _ => keep_enterHoldover hx7) (fun _ => keep_ite (fun _ => keep_onTime hx7) (fun _ => hx7)))

theorem keep_ftSyncEdge {q : List Instr} {m : Option (List Host.Cell)} {a0 a1 : _} (ha1 : Keep q m a1) :
    Keep q m (ftSyncEdge a0 a1) := by
  unfold ftSyncEdge
  extract_lets -merge +onlyGivenNames x0
  have hx0 : Keep q m x0 := keep_setRg (keep_setRg (keep_setRg ha1))
  refine keep_ite (fun _ => ?_) (fun _ => ?_)
  · exact keep_judgeEdge hx0
  · refine keep_ite (fun _ => ?_) (fun _ => ?_)
    · split
      · exact keep_onTime (keep_loadCount hx0)
      · exact hx0
    · refine keep_ite (fun _ => ?_) (fun _ => ?_)
      · split
        · exact keep_enterLocked (keep_loadCount hx0)
        · exact hx0
      · exact hx0

theorem keep_execFtSyncEdge {q : List Instr} {m : Option (List Host.Cell)} {a0 a1 : _} (ha1 : Keep q m a1) :
    KeepR q m (execFtSyncEdge a0 a1) := by
  unfold execFtSyncEdge
  exact keepR_done (keep_live (fun _ h0 => keep_ftSyncEdge h0) ha1)

theorem keep_ftSyncMissing {q : List Instr} {m : Option (List Host.Cell)} {a0 : _} (ha0 : Keep q m a0) :
    Keep q m (ftSyncMissing a0) := by
  unfold ftSyncMissing
  extract_lets -merge +onlyGivenNames y0 x1
  have hx1 : Keep q m x1 := keep_onTime (keep_raise ha0)
  exact keep_ite (fun _ => keep_ite (fun _ => keep_enterHoldover hx1) (fun _ => keep_ite (fun _ => keep_onTime hx1) (fun _ => hx1))) (fun _ => ha0)

theorem keep_execFtSyncMissing {q : List Instr} {m : Option (List Host.Cell)} {a0 : _} (ha0 : Keep q m a0) :
    KeepR q m (execFtSyncMissing a0) := by
  unfold execFtSyncMissing
  exact keepR_done (keep_live (fun _ h0 => keep_ftSyncMissing h0) ha0)

theorem keep_steerLimit {q : List Instr} {m : Option (List Host.Cell)} {a0 : _} (ha0 : Keep q m a0) :
    Keep q m (steerLimit a0) := by
  unfold steerLimit
  exact keep_ite (fun _ => keep_raise (keep_setRg (keep_onTime ha0))) (fun _ => ha0)

theorem keep_execSteerLimit {q : List Instr} {m : Option (List Host.Cell)} {a0 : _} (ha0 : Keep q m a0) :
    KeepR q m (execSteerLimit a0) := by
  unfold execSteerLimit
  exact keepR_done (keep_live (fun _ h0 => keep_steerLimit h0) ha0)

theorem keep_steerUpdate {q : List Instr} {m : Option (List Host.Cell)} {a0 : _} (ha0 : Keep q m a0) :
    Keep q m (steerUpdate a0) := by
  unfold steerUpdate
  extract_lets -merge +onlyGivenNames x0 y1 y2 y3 y4
  have hx0 : Keep q m x0 := keep_steerLimit ha0
  exact keep_ite (fun _ => ha0) (fun _ => keep_setRg (keep_onTime hx0))

theorem keep_execSteerUpdate {q : List Instr} {m : Option (List Host.Cell)} {a0 : _} (ha0 : Keep q m a0) :
    KeepR q m (execSteerUpdate a0) := by
  unfold execSteerUpdate
  exact keepR_done (keep_live (fun _ h0 => keep_steerUpdate h0) ha0)

theorem keep_timeXferSend {q : List Instr} {m : Option (List Host.Cell)} {a0 a1 : _} (ha1 : Keep q m a1) :
    Keep q m (timeXferSend a0 a1) := by
  unfold timeXferSend
  extract_lets -merge +onlyGivenNames y0 y1 y2
  exact keep_ite (fun _ => keep_place (keep_setLinkTime ha1)) (fun _ => ha1)

theorem keep_execTimeXferSend {q : List Instr} {m : Option (List Host.Cell)} {a0 a1 : _} (ha1 : Keep q m a1) :
    KeepR q m (execTimeXferSend a0 a1) := by
  unfold execTimeXferSend
  exact keepR_done (keep_live (fun _ h0 => keep_timeXferSend h0) ha1)

theorem keep_timeXfer {q : List Instr} {m : Option (List Host.Cell)} {a0 a1 a2 a3 a4 : _} (ha4 : Keep q m a4) :
    Keep q m (timeXfer a0 a1 a2 a3 a4) := by
  unfold timeXfer
  extract_lets -merge +onlyGivenNames y0 y1 y2 y3 y4 y5 y6 y7
  exact keep_ite (fun _ => ha4) (fun _ => keep_setLinkTime ha4)

theorem keep_execTimeXfer {q : List Instr} {m : Option (List Host.Cell)} {a0 a1 a2 a3 : _} (ha3 : Keep q m a3) :
    KeepR q m (execTimeXfer a0 a1 a2 a3) := by
  unfold execTimeXfer
  exact keepR_done (keep_live (fun _ h0 => keep_timeXfer h0) ha3)

theorem keep_reportNone {q : List Instr} {m : Option (List Host.Cell)} {a0 a1 a2 : _} (ha2 : Keep q m a2) :
    Keep q m (reportNone a0 a1 a2) := by
  unfold reportNone
  exact keep_when (keep_setRg (keep_setRg ha2)) (fun _ h0 => keep_raise h0)

theorem keep_reportLink {q : List Instr} {m : Option (List Host.Cell)} {a0 a1 : _} (ha1 : Keep q m a1) :
    Keep q m (reportLink a0 a1) := by
  unfold reportLink
  split
  · exact ha1
  · extract_lets -merge +onlyGivenNames y0 x1
    have hx1 : Keep q m x1 := keep_setLinkTime ha1
    clear_value y0
    split
    · extract_lets -merge +onlyGivenNames y2 y3 y4
      exact keep_ite (fun _ => keep_setRg (keep_setRg (keep_setRg (keep_setRg hx1)))) (fun _ => keep_reportNone hx1)
    · exact keep_reportNone hx1

theorem keep_linkTimeUpdate {q : List Instr} {m : Option (List Host.Cell)} {a0 : _} (ha0 : Keep q m a0) :
    Keep q m (linkTimeUpdate a0) := by
  unfold linkTimeUpdate
  exact keep_ite (fun _ => ha0) (fun _ => keep_forEach (keep_onTime ha0) (fun _ _ h0 => keep_reportLink h0))

theorem keep_execLinkTimeUpdate {q : List Instr} {m : Option (List Host.Cell)} {a0 : _} (ha0 : Keep q m a0) :
    KeepR q m (execLinkTimeUpdate a0) := by
  unfold execLinkTimeUpdate
  exact keepR_done (keep_live (fun _ h0 => keep_linkTimeUpdate h0) ha0)

/-! ### Links -/

theorem keep_setLevel {q : List Instr} {m : Option (List Host.Cell)} {a0 a1 a2 : _} (ha2 : Keep q m a2) :
    Keep q m (setLevel a0 a1 a2) := by
  unfold setLevel
  exact keep_setRg ha2

theorem keep_levelCheck {q : List Instr} {m : Option (List Host.Cell)} {a0 a1 : _} (ha1 : Keep q m a1) :
    Keep q m (levelCheck a0 a1) := by
  unfold levelCheck
  exact keep_ite (fun _ => keep_raise (keep_setLevel ha1)) (fun _ => ha1)

theorem keep_sendJoined {q : List Instr} {m : Option (List Host.Cell)} {a0 : _} (ha0 : Keep q m a0) :
    Keep q m (sendJoined a0) := by
  unfold sendJoined
  exact keep_onStart (keep_setRg (keep_noticeAll ha0))

theorem keep_laneReplace {q : List Instr} {m : Option (List Host.Cell)} {a0 a1 a2 : _} (ha2 : Keep q m a2) :
    Keep q m (laneReplace a0 a1 a2) := by
  unfold laneReplace
  extract_lets -merge +onlyGivenNames y0 y1
  exact keep_setRg (keep_setLink ha2)

theorem keep_engineApply {q : List Instr} {m : Option (List Host.Cell)} {a0 a1 : _} (ha1 : Keep q m a1) :
    Keep q m (engineApply a0 a1) := by
  unfold engineApply
  exact keep_emit (keep_emit ha1)

theorem keep_engineStart {q : List Instr} {m : Option (List Host.Cell)} {a0 a1 : _} (ha1 : Keep q m a1) :
    Keep q m (engineStart a0 a1) := by
  unfold engineStart
  extract_lets -merge +onlyGivenNames y0 y1
  exact keep_ite (fun _ => keep_engineApply (keep_forEach (keep_forEach (keep_emit (keep_emit ha1)) (fun _ _ h3 => keep_emit h3)) (fun _ _ h2 => keep_emit h2))) (fun _ => ha1)

theorem keep_engineWrite {q : List Instr} {m : Option (List Host.Cell)} {a0 a1 a2 a3 a4 : _} (ha4 : Keep q m a4) :
    Keep q m (engineWrite a0 a1 a2 a3 a4) := by
  unfold engineWrite
  extract_lets -merge +onlyGivenNames y0
  exact keep_engineApply (keep_emit ha4)

theorem keep_waveReplace {q : List Instr} {m : Option (List Host.Cell)} {a0 a1 a2 : _} (ha2 : Keep q m a2) :
    Keep q m (waveReplace a0 a1 a2) := by
  unfold waveReplace
  extract_lets -merge +onlyGivenNames y0 y1
  exact keep_engineWrite (keep_setRg (keep_setLink ha2))

theorem keep_forgetArrivals {q : List Instr} {m : Option (List Host.Cell)} {a0 a1 : _} (ha1 : Keep q m a1) :
    Keep q m (forgetArrivals a0 a1) := by
  unfold forgetArrivals
  extract_lets -merge +onlyGivenNames y0
  exact keep_onPrt ha1

theorem keep_reroute {q : List Instr} {m : Option (List Host.Cell)} {a0 a1 : _} (ha1 : Keep q m a1) :
    Keep q m (reroute a0 a1) := by
  unfold reroute
  exact keep_ite (fun _ => keep_arrivalLeft ha1) (fun _ => keep_arrivalLeft (keep_routePacket ha1))

theorem keep_linkLeave {q : List Instr} {m : Option (List Host.Cell)} {a0 a1 a2 : _} (ha2 : Keep q m a2) :
    Keep q m (linkLeave a0 a1 a2) := by
  unfold linkLeave
  extract_lets -merge +onlyGivenNames y0 y1 y2
  exact keep_forEach (keep_onTrf (keep_forgetArrivals (keep_when (keep_setLink ha2) (fun _ h4 => keep_setRg h4)))) (fun _ _ h3 => keep_reroute h3)

theorem keep_linkDown {q : List Instr} {m : Option (List Host.Cell)} {a0 a1 a2 : _} (ha2 : Keep q m a2) :
    Keep q m (linkDown a0 a1 a2) := by
  unfold linkDown
  exact keep_ite (fun _ => keep_raise (keep_linkLeave ha2)) (fun _ => ha2)

theorem keep_linkFail {q : List Instr} {m : Option (List Host.Cell)} {a0 a1 : _} (ha1 : Keep q m a1) :
    Keep q m (linkFail a0 a1) := by
  unfold linkFail
  extract_lets -merge +onlyGivenNames y0 x1
  have hx1 : Keep q m x1 := keep_ite (fun _ => keep_linkLeave ha1) (fun _ => keep_setLink ha1)
  exact keep_noticeAll (keep_raise hx1)

theorem keep_linkTrainingStart {q : List Instr} {m : Option (List Host.Cell)} {a0 a1 : _} (ha1 : Keep q m a1) :
    Keep q m (linkTrainingStart a0 a1) := by
  unfold linkTrainingStart
  extract_lets -merge +onlyGivenNames y0 y1 y2 y3 y4
  exact keep_ite (fun _ => keep_emit (keep_engineStart (keep_when (keep_setLink ha1) (fun _ h5 => keep_whenSome h5 (fun _ _ h6 => keep_laneReplace h6))))) (fun _ => ha1)

theorem keep_execLinkTrainingStart {q : List Instr} {m : Option (List Host.Cell)} {a0 a1 : _} (ha1 : Keep q m a1) :
    KeepR q m (execLinkTrainingStart a0 a1) := by
  unfold execLinkTrainingStart
  exact keepR_done (keep_live (fun _ h0 => keep_linkTrainingStart h0) ha1)

theorem keep_linkUp {q : List Instr} {m : Option (List Host.Cell)} {a0 a1 : _} (ha1 : Keep q m a1) :
    Keep q m (linkUp a0 a1) := by
  unfold linkUp
  extract_lets -merge +onlyGivenNames y0 y1 y2 y3 y4 y5 y6
  exact keep_when (keep_levelCheck (keep_onRas (keep_raise (keep_wrapUp (keep_setRg (keep_setLinkTime (keep_setLink ha1))))))) (fun _ h7 => keep_sendJoined h7)

theorem keep_linkTrainFailed {q : List Instr} {m : Option (List Host.Cell)} {a0 a1 : _} (ha1 : Keep q m a1) :
    Keep q m (linkTrainFailed a0 a1) := by
  unfold linkTrainFailed
  extract_lets -merge +onlyGivenNames y0 x1 y2
  have hx1 : Keep q m x1 := keep_setRg ha1
  exact keep_ite (fun _ => keep_linkFail hx1) (fun _ => keep_setRg (keep_setLink hx1))

theorem keep_trainFrames {q : List Instr} {m : Option (List Host.Cell)} {a0 a1 : _} (ha1 : Keep q m a1) :
    Keep q m (trainFrames a0 a1) := by
  unfold trainFrames
  extract_lets -merge +onlyGivenNames y0 y1 y2
  exact keep_linkGot (keep_linkEmit (keep_linkEmit ha1))

theorem keep_duplicate {q : List Instr} {m : Option (List Host.Cell)} {a0 a1 a2 a3 : _} (ha3 : Keep q m a3) :
    Keep q m (duplicate a0 a1 a2 a3) := by
  unfold duplicate
  extract_lets -merge +onlyGivenNames y0
  exact keep_forEach (keep_raise (keep_setRg ha3)) (fun _ _ h1 => keep_linkFail h1)

theorem keep_linkIdent {q : List Instr} {m : Option (List Host.Cell)} {a0 a1 a2 a3 : _} (ha3 : Keep q m a3) :
    Keep q m (linkIdent a0 a1 a2 a3) := by
  unfold linkIdent
  extract_lets -merge +onlyGivenNames y0 x1
  have hx1 : Keep q m x1 := keep_trainFrames (keep_setRg (keep_setRg (keep_setRg (keep_setLink ha3))))
  clear_value y0
  split
  · exact keep_duplicate hx1
  · exact keep_ite (fun _ => keep_linkUp hx1) (fun _ => keep_linkFail (keep_raise hx1))

theorem keep_linkTrainingEnd {q : List Instr} {m : Option (List Host.Cell)} {a0 a1 a2 a3 a4 a5 a6 : _} (ha6 : Keep q m a6) :
    Keep q m (linkTrainingEnd a0 a1 a2 a3 a4 a5 a6) := by
  unfold linkTrainingEnd
  extract_lets -merge +onlyGivenNames y0
  clear_value y0
  refine keep_ite (fun _ => ?_) (fun _ => ?_)
  · exact ha6
  · refine keep_ite (fun _ => ?_) (fun _ => ?_)
    · exact keep_linkTrainFailed ha6
    · split
      · exact keep_linkIdent (keep_when (keep_whenSome (keep_whenSome ha6 (fun _ _ h3 => keep_laneReplace h3)) (fun _ _ h2 => keep_waveReplace h2)) (fun _ h1 => keep_serTrimLoad h1))
      · exact keep_linkTrainFailed ha6

theorem keep_execLinkTrainingEnd {q : List Instr} {m : Option (List Host.Cell)} {a0 a1 a2 a3 a4 a5 : _} (ha5 : Keep q m a5) :
    KeepR q m (execLinkTrainingEnd a0 a1 a2 a3 a4 a5) := by
  unfold execLinkTrainingEnd
  exact keepR_done (keep_live (fun _ h0 => keep_linkTrainingEnd h0) ha5)

theorem keep_linkRetry {q : List Instr} {m : Option (List Host.Cell)} {a0 a1 : _} (ha1 : Keep q m a1) :
    Keep q m (linkRetry a0 a1) := by
  unfold linkRetry
  extract_lets -merge +onlyGivenNames y0
  clear_value y0
  split
  · exact keep_ite (fun _ => keep_setLink ha1) (fun _ => ha1)
  · exact ha1

theorem keep_execLinkRetry {q : List Instr} {m : Option (List Host.Cell)} {a0 a1 : _} (ha1 : Keep q m a1) :
    KeepR q m (execLinkRetry a0 a1) := by
  unfold execLinkRetry
  exact keepR_done (keep_live (fun _ h0 => keep_linkRetry h0) ha1)

theorem keep_linkToDown {q : List Instr} {m : Option (List Host.Cell)} {a0 a1 : _} (ha1 : Keep q m a1) :
    Keep q m (linkToDown a0 a1) := by
  unfold linkToDown
  extract_lets -merge +onlyGivenNames x0 y1
  have hx0 : Keep q m x0 := keep_linkDown ha1
  exact keep_setRg (keep_setLink hx0)

theorem keep_linkRetrain {q : List Instr} {m : Option (List Host.Cell)} {a0 a1 : _} (ha1 : Keep q m a1) :
    Keep q m (linkRetrain a0 a1) := by
  unfold linkRetrain
  exact keep_setRg (keep_linkToDown ha1)

theorem keep_execLinkRetrain {q : List Instr} {m : Option (List Host.Cell)} {a0 a1 : _} (ha1 : Keep q m a1) :
    KeepR q m (execLinkRetrain a0 a1) := by
  unfold execLinkRetrain
  exact keepR_done (keep_live (fun _ h0 => keep_when h0 (fun _ h1 => keep_linkRetrain h1)) ha1)

theorem keep_linkLockLoss {q : List Instr} {m : Option (List Host.Cell)} {a0 a1 a2 : _} (ha2 : Keep q m a2) :
    Keep q m (linkLockLoss a0 a1 a2) := by
  unfold linkLockLoss
  exact keep_ite (fun _ => keep_linkDown ha2) (fun _ => ha2)

theorem keep_execLinkLockLoss {q : List Instr} {m : Option (List Host.Cell)} {a0 a1 a2 : _} (ha2 : Keep q m a2) :
    KeepR q m (execLinkLockLoss a0 a1 a2) := by
  unfold execLinkLockLoss
  exact keepR_done (keep_live (fun _ h0 => keep_linkLockLoss h0) ha2)

theorem keep_linkRxIdle {q : List Instr} {m : Option (List Host.Cell)} {a0 a1 : _} (ha1 : Keep q m a1) :
    Keep q m (linkRxIdle a0 a1) := by
  unfold linkRxIdle
  exact keep_ite (fun _ => keep_linkDown ha1) (fun _ => ha1)

theorem keep_execLinkRxIdleTimeout {q : List Instr} {m : Option (List Host.Cell)} {a0 a1 : _} (ha1 : Keep q m a1) :
    KeepR q m (execLinkRxIdleTimeout a0 a1) := by
  unfold execLinkRxIdleTimeout
  exact keepR_done (keep_live (fun _ h0 => keep_linkRxIdle h0) ha1)

theorem keep_linkReset {q : List Instr} {m : Option (List Host.Cell)} {a0 a1 : _} (ha1 : Keep q m a1) :
    Keep q m (linkReset a0 a1) := by
  unfold linkReset
  exact keep_ite (fun _ => keep_linkDown (keep_linkGot ha1)) (fun _ => ha1)

theorem keep_execLinkReset {q : List Instr} {m : Option (List Host.Cell)} {a0 a1 : _} (ha1 : Keep q m a1) :
    KeepR q m (execLinkReset a0 a1) := by
  unfold execLinkReset
  exact keepR_done (keep_live (fun _ h0 => keep_linkReset h0) ha1)

theorem keep_swapBegin {q : List Instr} {m : Option (List Host.Cell)} {a0 a1 a2 a3 a4 : _} (ha4 : Keep q m a4) :
    Keep q m (swapBegin a0 a1 a2 a3 a4) := by
  unfold swapBegin
  extract_lets -merge +onlyGivenNames y0
  exact keep_setLink ha4

theorem keep_laneSwap {q : List Instr} {m : Option (List Host.Cell)} {a0 a1 a2 : _} (ha2 : Keep q m a2) :
    Keep q m (laneSwap a0 a1 a2) := by
  unfold laneSwap
  extract_lets -merge +onlyGivenNames y0
  exact keep_laneReplace (keep_linkTransmit (keep_swapBegin ha2))

theorem keep_waveSwap {q : List Instr} {m : Option (List Host.Cell)} {a0 a1 a2 : _} (ha2 : Keep q m a2) :
    Keep q m (waveSwap a0 a1 a2) := by
  unfold waveSwap
  extract_lets -merge +onlyGivenNames y0 y1
  exact keep_waveReplace (keep_linkTransmit (keep_swapBegin ha2))

theorem keep_laneSwapTrigger {q : List Instr} {m : Option (List Host.Cell)} {a0 a1 a2 a3 : _} (ha3 : Keep q m a3) :
    Keep q m (laneSwapTrigger a0 a1 a2 a3) := by
  unfold laneSwapTrigger
  extract_lets -merge +onlyGivenNames y0 y1 y2 x3 y4
  have hx3 : Keep q m x3 := keep_setRg (keep_setRg (keep_bump ha3))
  exact keep_ite (fun _ => ha3) (fun _ => keep_ite (fun _ => keep_whenSome hx3 (fun _ _ h5 => keep_laneSwap h5)) (fun _ => hx3))

theorem keep_execLaneSwapTrigger {q : List Instr} {m : Option (List Host.Cell)} {a0 a1 a2 a3 : _} (ha3 : Keep q m a3) :
    KeepR q m (execLaneSwapTrigger a0 a1 a2 a3) := by
  unfold execLaneSwapTrigger
  exact keepR_done (keep_live (fun _ h0 => keep_laneSwapTrigger h0) ha3)

theorem keep_lctrlTaken {q : List Instr} {m : Option (List Host.Cell)} {a0 a1 : _} (ha1 : Keep q m a1) :
    Keep q m (lctrlTaken a0 a1) := by
  unfold lctrlTaken
  extract_lets -merge +onlyGivenNames y0
  exact keep_linkAck (keep_linkGot (keep_setLink ha1))

theorem keep_swapLane {q : List Instr} {m : Option (List Host.Cell)} {a0 a1 a2 : _} (ha2 : Keep q m a2) :
    Keep q m (swapLane a0 a1 a2) := by
  unfold swapLane
  extract_lets -merge +onlyGivenNames x0
  have hx0 : Keep q m x0 := keep_lctrlTaken ha2
  exact keep_ite (fun _ => ha2) (fun _ => keep_ite (fun _ => keep_laneReplace (keep_swapBegin hx0)) (fun _ => keep_raise hx0))

theorem keep_execSwapLane {q : List Instr} {m : Option (List Host.Cell)} {a0 a1 a2 : _} (ha2 : Keep q m a2) :
    KeepR q m (execSwapLane a0 a1 a2) := by
  unfold execSwapLane
  exact keepR_done (keep_live (fun _ h0 => keep_swapLane h0) ha2)

theorem keep_swapWave {q : List Instr} {m : Option (List Host.Cell)} {a0 a1 a2 a3 : _} (ha3 : Keep q m a3) :
    Keep q m (swapWave a0 a1 a2 a3) := by
  unfold swapWave
  extract_lets -merge +onlyGivenNames x0 y1 y2 y3
  have hx0 : Keep q m x0 := keep_lctrlTaken ha3
  exact keep_ite (fun _ => ha3) (fun _ => keep_ite (fun _ => keep_engineWrite (keep_setRg (keep_swapBegin (keep_setLink hx0)))) (fun _ => keep_raise hx0))

theorem keep_execSwapWave {q : List Instr} {m : Option (List Host.Cell)} {a0 a1 a2 a3 : _} (ha3 : Keep q m a3) :
    KeepR q m (execSwapWave a0 a1 a2 a3) := by
  unfold execSwapWave
  exact keepR_done (keep_live (fun _ h0 => keep_swapWave h0) ha3)

theorem keep_swapDone {q : List Instr} {m : Option (List Host.Cell)} {a0 a1 : _} (ha1 : Keep q m a1) :
    Keep q m (swapDone a0 a1) := by
  unfold swapDone
  extract_lets -merge +onlyGivenNames y0
  clear_value y0
  split
  · extract_lets -merge +onlyGivenNames x1 y2
    have hx1 : Keep q m x1 := keep_lctrlTaken ha1
    exact keep_ite (fun _ => keep_setLink hx1) (fun _ => ha1)
  · exact ha1

theorem keep_execSwapDone {q : List Instr} {m : Option (List Host.Cell)} {a0 a1 : _} (ha1 : Keep q m a1) :
    KeepR q m (execSwapDone a0 a1) := by
  unfold execSwapDone
  exact keepR_done (keep_live (fun _ h0 => keep_swapDone h0) ha1)

theorem keep_linkReplayFrom {q : List Instr} {m : Option (List Host.Cell)} {a0 a1 a2 : _} (ha2 : Keep q m a2) :
    Keep q m (linkReplayFrom a0 a1 a2) := by
  unfold linkReplayFrom
  extract_lets -merge +onlyGivenNames y0 y1 y2 y3 x4 y8
  have hx4 : Keep q m x4 := by
    unfold x4
    refine keep_when ?_ (fun _ h5 => keep_bump h5)
    refine keep_forEach (keep_setLink ha2) ?_
    intro _ _ h6
    extract_lets -merge +onlyGivenNames y7
    exact keep_linkEmit h6
  exact keep_when hx4 (fun _ h9 => keep_setLinkTime h9)

theorem keep_swapEnd {q : List Instr} {m : Option (List Host.Cell)} {a0 a1 a2 : _} (ha2 : Keep q m a2) :
    Keep q m (swapEnd a0 a1 a2) := by
  unfold swapEnd
  extract_lets -merge +onlyGivenNames y0 x1 x2
  have hx1 : Keep q m x1 := keep_wrapUp (keep_setLink ha2)
  have hx2 : Keep q m x2 := by
    unfold x2
    clear_value y0
    split
    · exact hx1
    · exact keep_linkReplayFrom hx1
  exact keep_egress (keep_levelCheck (keep_raise (keep_when hx2 (fun _ h3 => keep_linkTransmit h3))))

theorem keep_repairDone {q : List Instr} {m : Option (List Host.Cell)} {a0 a1 a2 : _} (ha2 : Keep q m a2) :
    Keep q m (repairDone a0 a1 a2) := by
  unfold repairDone
  extract_lets -merge +onlyGivenNames y0
  clear_value y0
  split
  · exact keep_ite (fun _ => ha2) (fun _ => keep_ite (fun _ => keep_linkDown ha2) (fun _ => keep_ite (fun _ => ha2) (fun _ => keep_swapEnd ha2)))
  · exact ha2

theorem keep_execRepairDone {q : List Instr} {m : Option (List Host.Cell)} {a0 a1 a2 : _} (ha2 : Keep q m a2) :
    KeepR q m (execRepairDone a0 a1 a2) := by
  unfold execRepairDone
  exact keepR_done (keep_live (fun _ h0 => keep_repairDone h0) ha2)

theorem keep_forceLane {q : List Instr} {m : Option (List Host.Cell)} {a0 a1 a2 : _} (ha2 : Keep q m a2) :
    Keep q m (forceLane a0 a1 a2) := by
  unfold forceLane
  refine keep_expertDo ?_ ha2
  intro _ h0
  extract_lets -merge +onlyGivenNames y1
  exact keep_ite (fun _ => h0) (fun _ => keep_ite (fun _ => keep_laneSwap h0) (fun _ => keep_raise h0))

theorem keep_execForceLane {q : List Instr} {m : Option (List Host.Cell)} {a0 a1 a2 : _} (ha2 : Keep q m a2) :
    KeepR q m (execForceLane a0 a1 a2) := by
  unfold execForceLane
  exact keepR_done (keep_live (fun _ h0 => keep_access (fun _ h1 => keep_forceLane h1) h0) ha2)

theorem keep_forceWave {q : List Instr} {m : Option (List Host.Cell)} {a0 a1 a2 : _} (ha2 : Keep q m a2) :
    Keep q m (forceWave a0 a1 a2) := by
  unfold forceWave
  refine keep_expertDo ?_ ha2
  intro _ h0
  extract_lets -merge +onlyGivenNames y1
  exact keep_ite (fun _ => h0) (fun _ => keep_ite (fun _ => keep_waveSwap h0) (fun _ => keep_raise h0))

theorem keep_execForceWave {q : List Instr} {m : Option (List Host.Cell)} {a0 a1 a2 : _} (ha2 : Keep q m a2) :
    KeepR q m (execForceWave a0 a1 a2) := by
  unfold execForceWave
  exact keepR_done (keep_live (fun _ h0 => keep_access (fun _ h1 => keep_forceWave h1) h0) ha2)

theorem keep_engineReports {q : List Instr} {m : Option (List Host.Cell)} {a0 a1 a2 a3 a4 : _} (ha4 : Keep q m a4) :
    Keep q m (engineReports a0 a1 a2 a3 a4) := by
  unfold engineReports
  extract_lets -merge +onlyGivenNames x0 y1
  have hx0 : Keep q m x0 := keep_setRg (keep_setRg (keep_setRg ha4))
  exact keep_ite (fun _ => keep_linkDown hx0) (fun _ => keep_ite (fun _ => keep_whenSome hx0 (fun _ _ h2 => keep_waveSwap h2)) (fun _ => hx0))

theorem keep_enginePoll {q : List Instr} {m : Option (List Host.Cell)} {a0 a1 : _} (ha1 : Keep q m a1) :
    Keep q m (enginePoll a0 a1) := by
  unfold enginePoll
  exact keep_emit (keep_emit (keep_emit ha1))

theorem keep_oePoll {q : List Instr} {m : Option (List Host.Cell)} {a0 a1 a2 a3 a4 a5 : _} (ha5 : Keep q m a5) :
    Keep q m (oePoll a0 a1 a2 a3 a4 a5) := by
  unfold oePoll
  extract_lets -merge +onlyGivenNames x0
  have hx0 : Keep q m x0 := keep_enginePoll ha5
  exact keep_ite (fun _ => ha5) (fun _ => keep_ite (fun _ => keep_raise (keep_setRg hx0)) (fun _ => keep_engineReports hx0))

theorem keep_execOePoll {q : List Instr} {m : Option (List Host.Cell)} {a0 a1 a2 a3 a4 a5 : _} (ha5 : Keep q m a5) :
    KeepR q m (execOePoll a0 a1 a2 a3 a4 a5) := by
  unfold execOePoll
  exact keepR_done (keep_live (fun _ h0 => keep_oePoll h0) ha5)

/-! ### Traffic -/

theorem keep_setPolicer {q : List Instr} {m : Option (List Host.Cell)} {a0 a1 a2 : _} (ha2 : Keep q m a2) :
    Keep q m (setPolicer a0 a1 a2) := by
  unfold setPolicer
  exact keep_onTrf ha2

theorem keep_policerFor {q : List Instr} {m : Option (List Host.Cell)} {a0 a1 a2 : _} (ha2 : Keep q m a2) :
    Keep q m (policerFor a0 a1 a2).2 := by
  unfold policerFor
  extract_lets -merge +onlyGivenNames y0
  clear_value y0
  split
  · exact ha2
  · extract_lets -merge +onlyGivenNames x1 y2
    have hx1 : Keep q m x1 := keep_bump ha2
    clear_value y2
    split
    · exact hx1
    · exact keep_raise (keep_bump hx1)

theorem keep_police {q : List Instr} {m : Option (List Host.Cell)} {a0 a1 a2 : _} (ha2 : Keep q m a2) :
    Keep q m (police a0 a1 a2).2 := by
  unfold police
  extract_lets -merge +onlyGivenNames y0 x1
  have hx1 : Keep q m x1.2 := keep_policerFor ha2
  clear_value y0
  split
  · exact ha2
  · split
    · exact keep_bump hx1
    · extract_lets -merge +onlyGivenNames y2 y3 y4
      exact keep_when (keep_bump (keep_setPolicer hx1)) (fun _ h5 => keep_raiseCar h5)

theorem keep_trfChange {q : List Instr} {m : Option (List Host.Cell)} {a0 a1 : _} (ha1 : Keep q m a1) :
    Keep q m (trfChange a0 a1) := by
  unfold trfChange
  extract_lets -merge +onlyGivenNames y0 y1 y2 y3 y4 y5 x6
  have hx6 : Keep q m x6 := keep_ite (fun _ => keep_setPolicer ha1) (fun _ => keep_setShaper ha1)
  exact keep_raise hx6

theorem keep_applyPending {q : List Instr} {m : Option (List Host.Cell)} {a0 a1 : _} (ha1 : Keep q m a1) :
    Keep q m (applyPending a0 a1) := by
  unfold applyPending
  split
  · exact ha1
  · exact keep_result (keep_onTrf (keep_trfChange ha1))

theorem keep_bucketTick {q : List Instr} {m : Option (List Host.Cell)} {a0 : _} (ha0 : Keep q m a0) :
    Keep q m (bucketTick a0) := by
  unfold bucketTick
  extract_lets -merge +onlyGivenNames y0 y1 x2 x3 x5
  have hx2 : Keep q m x2 := keep_applyPending (keep_applyPending ha0)
  have hx3 : Keep q m x3 := keep_forEach hx2 (fun _ _ h4 => keep_setShaper h4)
  have hx5 : Keep q m x5 := keep_forEach hx3 (fun _ _ h6 => keep_setPolicer h6)
  exact keep_ite (fun _ => ha0) (fun _ => keep_onTrf hx5)

theorem keep_execBucketTick {q : List Instr} {m : Option (List Host.Cell)} {a0 : _} (ha0 : Keep q m a0) :
    KeepR q m (execBucketTick a0) := by
  unfold execBucketTick
  exact keepR_done (keep_live (fun _ h0 => keep_bucketTick h0) ha0)

theorem keep_trfApply {q : List Instr} {m : Option (List Host.Cell)} {a0 a1 a2 : _} (ha2 : Keep q m a2) :
    Keep q m (trfApply a0 a1 a2) := by
  unfold trfApply
  extract_lets -merge +onlyGivenNames y0
  clear_value y0
  split
  · exact keep_result ha2
  · exact keep_onTrf ha2

theorem keep_execTrfApply {q : List Instr} {m : Option (List Host.Cell)} {a0 a1 a2 : _} (ha2 : Keep q m a2) :
    KeepR q m (execTrfApply a0 a1 a2) := by
  unfold execTrfApply
  exact keepR_done (keep_live (fun _ h0 => keep_access (fun _ h1 => keep_trfApply h1) h0) ha2)

theorem keep_refillEntry {q : List Instr} {m : Option (List Host.Cell)} {a0 a1 a2 : _} (ha2 : Keep q m a2) :
    Keep q m (refillEntry a0 a1 a2) := by
  unfold refillEntry
  extract_lets -merge +onlyGivenNames y0
  exact keep_ite (fun _ => keep_raise ha2) (fun _ => keep_ite (fun _ => keep_setShaper ha2) (fun _ => ha2))

theorem keep_shaperRefill {q : List Instr} {m : Option (List Host.Cell)} {a0 a1 : _} (ha1 : Keep q m a1) :
    Keep q m (shaperRefill a0 a1) := by
  unfold shaperRefill
  exact keep_ite (fun _ => keep_fireEntry (fun _ _ h0 => keep_refillEntry h0) (keep_bucketTick ha1)) (fun _ => ha1)

theorem keep_execShaperRefill {q : List Instr} {m : Option (List Host.Cell)} {a0 a1 : _} (ha1 : Keep q m a1) :
    KeepR q m (execShaperRefill a0 a1) := by
  unfold execShaperRefill
  exact keepR_done (keep_live (fun _ h0 => keep_shaperRefill h0) ha1)

theorem keep_dropPending {q : List Instr} {m : Option (List Host.Cell)} {a0 a1 : _} (ha1 : Keep q m a1) :
    Keep q m (dropPending a0 a1) := by
  unfold dropPending
  exact keep_ite (fun _ => keep_raise (keep_result (keep_onTrf ha1))) (fun _ => ha1)

theorem keep_trafficSwitch {q : List Instr} {m : Option (List Host.Cell)} {a0 a1 : _} (ha1 : Keep q m a1) :
    Keep q m (trafficSwitch a0 a1) := by
  unfold trafficSwitch
  extract_lets -merge +onlyGivenNames y0 y1
  exact keep_dropPending (keep_dropPending (keep_onTrf ha1))

/-! ### Fatal -/

theorem keep_resetLinks {q : List Instr} {m : Option (List Host.Cell)} {a0 : _} (ha0 : Keep q m a0) :
    Keep q m (resetLinks a0) := by
  unfold resetLinks
  exact keep_forEach ha0 (fun _ _ h0 => keep_ite (fun _ => keep_linkTransmit h0) (fun _ => h0))

theorem keep_resetPorts {q : List Instr} {m : Option (List Host.Cell)} {a0 : _} (ha0 : Keep q m a0) :
    Keep q m (resetPorts a0) := by
  unfold resetPorts
  exact keep_forEach ha0 (fun _ _ h0 => keep_when h0 (fun _ h1 => keep_oSendCtl h1))

theorem keep_fatalFault {q : List Instr} {m : Option (List Host.Cell)} {a0 a1 a2 a3 : _} (ha3 : Keep q m a3) :
    Keep q m (fatalFault a0 a1 a2 a3) := by
  unfold fatalFault
  extract_lets -merge +onlyGivenNames x0 x1
  have hx0 : Keep q m x0 := keep_emit (keep_notifyBoth (keep_raise (keep_noticeAll ha3)))
  have hx1 : Keep q m x1 := keep_onRas (keep_onStart (keep_resetPorts (keep_resetLinks hx0)))
  exact keep_ite (fun _ => ha3) (fun _ => keep_ite (fun _ => hx1) (fun _ => keep_ite (fun _ => hx1) (fun _ => keep_persistBegin hx1)))

/-! ### Monitors -/

theorem keep_sampleTemp {q : List Instr} {m : Option (List Host.Cell)} {a0 a1 a2 : _} (ha2 : Keep q m a2) :
    Keep q m (sampleTemp a0 a1 a2) := by
  unfold sampleTemp
  extract_lets -merge +onlyGivenNames y0 x1 x2 x3
  have hx1 : Keep q m x1 := keep_setRg ha2
  have hx2 : Keep q m x2 := keep_ite (fun _ => keep_setRg hx1) (fun _ => hx1)
  have hx3 : Keep q m x3 := keep_onMon hx2
  exact keep_ite (fun _ => hx2) (fun _ => keep_ite (fun _ => keep_raiseFirst hx3) (fun _ => hx3))

theorem keep_thermalPins {q : List Instr} {m : Option (List Host.Cell)} {a0 : _} (ha0 : Keep q m a0) :
    Keep q m (thermalPins a0) := by
  unfold thermalPins
  extract_lets -merge +onlyGivenNames y0 y1 y2 x3
  have hx3 : Keep q m x3 := keep_setRg (keep_setRg ha0)
  exact keep_ite (fun _ => hx3) (fun _ => keep_emit (keep_emit (keep_onPkg hx3)))

theorem keep_thermalTrip {q : List Instr} {m : Option (List Host.Cell)} {a0 a1 : _} (ha1 : Keep q m a1) :
    Keep q m (thermalTrip a0 a1) := by
  unfold thermalTrip
  exact keep_fatalFault (keep_onMon (keep_raise ha1))

theorem keep_tripCheck {q : List Instr} {m : Option (List Host.Cell)} {a0 a1 : _} (ha1 : Keep q m a1) :
    Keep q m (tripCheck a0 a1) := by
  unfold tripCheck
  extract_lets -merge +onlyGivenNames y0 y1 x2
  have hx2 : Keep q m x2 := keep_onMon ha1
  exact keep_forEach hx2 (fun _ _ h3 => keep_thermalTrip h3)

theorem keep_sampleVolt {q : List Instr} {m : Option (List Host.Cell)} {a0 a1 a2 : _} (ha2 : Keep q m a2) :
    Keep q m (sampleVolt a0 a1 a2) := by
  unfold sampleVolt
  extract_lets -merge +onlyGivenNames x0 x1
  have hx0 : Keep q m x0 := keep_setRg ha2
  have hx1 : Keep q m x1 := keep_ite (fun _ => keep_raiseFirst hx0) (fun _ => hx0)
  refine keep_ite (fun _ => ?_) (fun _ => ?_)
  · exact hx0
  · refine keep_ite (fun _ => ?_) (fun _ => ?_)
    · exact keep_onMon hx1
    · split
      · exact keep_onMon hx1
      · exact keep_ite (fun _ => keep_fatalFault (keep_raise hx1)) (fun _ => hx1)

theorem keep_sampleProc {q : List Instr} {m : Option (List Host.Cell)} {a0 a1 a2 : _} (ha2 : Keep q m a2) :
    Keep q m (sampleProc a0 a1 a2) := by
  unfold sampleProc
  extract_lets -merge +onlyGivenNames x0
  have hx0 : Keep q m x0 := keep_setRg ha2
  split
  · exact keep_onMon hx0
  · extract_lets -merge +onlyGivenNames y1
    exact keep_ite (fun _ => keep_raise (keep_onMon hx0)) (fun _ => hx0)

theorem keep_monitorSample {q : List Instr} {m : Option (List Host.Cell)} {a0 a1 a2 a3 : _} (ha3 : Keep q m a3) :
    Keep q m (monitorSample a0 a1 a2 a3) := by
  unfold monitorSample
  extract_lets -merge +onlyGivenNames y0 y1 y2
  exact keep_forEach (keep_forEach (keep_thermalPins (keep_tripCheck (keep_forEach ha3 (fun _ _ h5 => keep_sampleTemp h5)))) (fun _ _ h4 => keep_sampleVolt h4)) (fun _ _ h3 => keep_sampleProc h3)

theorem keep_execMonitorSample {q : List Instr} {m : Option (List Host.Cell)} {a0 a1 a2 a3 : _} (ha3 : Keep q m a3) :
    KeepR q m (execMonitorSample a0 a1 a2 a3) := by
  unfold execMonitorSample
  exact keepR_done (keep_live (fun _ h0 => keep_monitorSample h0) ha3)

theorem keep_throttleEval {q : List Instr} {m : Option (List Host.Cell)} {a0 : _} (ha0 : Keep q m a0) :
    Keep q m (throttleEval a0) := by
  unfold throttleEval
  extract_lets -merge +onlyGivenNames y0 y1 y2 y3 y4 y5 y6
  exact keep_ite (fun _ => ha0) (fun _ => keep_when (keep_setRg (keep_bump (keep_onMon ha0))) (fun _ h7 => keep_raise h7))

theorem keep_execThrottleEval {q : List Instr} {m : Option (List Host.Cell)} {a0 : _} (ha0 : Keep q m a0) :
    KeepR q m (execThrottleEval a0) := by
  unfold execThrottleEval
  exact keepR_done (keep_live (fun _ h0 => keep_throttleEval h0) ha0)

theorem keep_execThrottleStep {q : List Instr} {m : Option (List Host.Cell)} {a0 a1 : _} (ha1 : Keep q m a1) :
    KeepR q m (execThrottleStep a0 a1) := by
  unfold execThrottleStep
  exact keepR_done (keep_live (fun _ h0 => keep_fireEntry (fun _ _ h1 => keep_setRg h1) h0) ha1)

theorem keep_persistWrite {q : List Instr} {m : Option (List Host.Cell)} {a0 : _} (ha0 : Keep q m a0) :
    Keep q m (persistWrite a0) := by
  unfold persistWrite
  exact keep_ite (fun _ => keep_persistBegin (keep_onStart ha0)) (fun _ => ha0)

theorem keep_execPersistWrite {q : List Instr} {m : Option (List Host.Cell)} {a0 : _} (ha0 : Keep q m a0) :
    KeepR q m (execPersistWrite a0) := by
  unfold execPersistWrite
  exact keepR_done (keep_live (fun _ h0 => keep_persistWrite h0) ha0)

theorem keep_evrClearNow {q : List Instr} {m : Option (List Host.Cell)} {a0 a1 a2 : _} (ha2 : Keep q m a2) :
    Keep q m (evrClearNow a0 a1 a2) := by
  unfold evrClearNow
  refine keep_onStart (keep_raise (keep_onEvrLen ha2 ?_))
  simpa using ha2.2.1.2.2

theorem keep_clearWrite {q : List Instr} {m : Option (List Host.Cell)} {a0 : _} (ha0 : Keep q m a0) :
    Keep q m (clearWrite a0) := by
  unfold clearWrite
  exact keep_ite (fun _ => keep_persistBegin (keep_onStart ha0)) (fun _ => ha0)

theorem keep_persistWriteDone {q : List Instr} {m : Option (List Host.Cell)} {a0 a1 : _} (ha1 : Keep q m a1) :
    Keep q m (persistWriteDone a0 a1) := by
  unfold persistWriteDone
  split
  · exact ha1
  · extract_lets -merge +onlyGivenNames x0 x1 x3
    have hx0 : Keep q m x0 := keep_persistEnd ha1
    have hx1 : Keep q m x1 := keep_when hx0 (fun _ h2 => keep_onStart h2)
    have hx3 : Keep q m x3 := by
      unfold x3
      split
      · exact keep_evrClearNow (keep_onEvr hx1 (fun _ => rfl))
      · exact hx1
    exact keep_ite (fun _ => ha1) (fun _ => keep_ite (fun _ => keep_ite (fun _ => keep_persistBegin hx1) (fun _ => hx1)) (fun _ => keep_ite (fun _ => keep_persistBegin hx1) (fun _ => keep_clearWrite hx3)))

theorem keep_execPersistWriteDone {q : List Instr} {m : Option (List Host.Cell)} {a0 a1 : _} (ha1 : Keep q m a1) :
    KeepR q m (execPersistWriteDone a0 a1) := by
  unfold execPersistWriteDone
  exact keepR_done (keep_persistWriteDone ha1)

theorem keep_evrClear {q : List Instr} {m : Option (List Host.Cell)} {a0 a1 : _} (ha1 : Keep q m a1) :
    Keep q m (evrClear a0 a1) := by
  unfold evrClear
  extract_lets -merge +onlyGivenNames y0 y1 x2
  have hx2 : Keep q m x2 := keep_result ha1
  exact keep_ite (fun _ => keep_raise ha1) (fun _ => keep_ite (fun _ => keep_result ha1) (fun _ => keep_ite (fun _ => keep_result (keep_raise (keep_raise ha1))) (fun _ => keep_ite (fun _ => keep_onEvr hx2 (fun _ => rfl)) (fun _ => keep_clearWrite (keep_evrClearNow hx2)))))

theorem keep_execEvrClear {q : List Instr} {m : Option (List Host.Cell)} {a0 a1 : _} (ha1 : Keep q m a1) :
    KeepR q m (execEvrClear a0 a1) := by
  unfold execEvrClear
  exact keepR_done (keep_live (fun _ h0 => keep_access (fun _ h1 => keep_evrClear h1) h0) ha1)

theorem keep_purgeDone {q : List Instr} {m : Option (List Host.Cell)} {a0 : _} (ha0 : Keep q m a0) :
    Keep q m (purgeDone a0) := by
  unfold purgeDone
  extract_lets -merge +onlyGivenNames y0
  exact keep_ite (fun _ => ha0) (fun _ => keep_onEvr (keep_onSec ha0) (fun _ => rfl))

theorem keep_execPurgeDone {q : List Instr} {m : Option (List Host.Cell)} {a0 : _} (ha0 : Keep q m a0) :
    KeepR q m (execPurgeDone a0) := by
  unfold execPurgeDone
  exact keepR_done (keep_live (fun _ h0 => keep_purgeDone h0) ha0)

/-! ### OwlCmd -/

theorem keep_listFinish {q : List Instr} {m : Option (List Host.Cell)} {a0 a1 : _} (ha1 : Keep q m a1) :
    Keep q m (listFinish a0 a1) := by
  unfold listFinish
  split
  · extract_lets -merge +onlyGivenNames y0 y1
    exact keep_ite (fun _ => ha1) (fun _ => keep_complete (keep_hostWrite (keep_onOwl ha1)))
  · exact ha1

theorem keep_lookupDone {q : List Instr} {m : Option (List Host.Cell)} {a0 a1 a2 : _} (ha2 : Keep q m a2) :
    Keep q m (lookupDone a0 a1 a2) := by
  unfold lookupDone
  split
  · exact ha2
  · extract_lets -merge +onlyGivenNames y0
    exact keep_ite (fun _ => keep_complete ha2) (fun _ => keep_listFinish (keep_onOwl ha2))

theorem keep_lookupKey {q : List Instr} {m : Option (List Host.Cell)} {a0 a1 a2 a3 a4 a5 : _} (ha5 : Keep q m a5) :
    Keep q m (lookupKey a0 a1 a2 a3 a4 a5) := by
  unfold lookupKey
  split
  · exact ha5
  · extract_lets -merge +onlyGivenNames y0 y1 x2 x3 x4 y5
    have hx2 : Keep q m x2 := keep_bump ha5
    have hx3 : Keep q m x3.2 := keep_prefixFind hx2
    have hx4 : Keep q m x4 := hx3
    clear_value y0 y1 y5
    split
    · exact keep_lookupDone (keep_bump hx4)
    · exact keep_ite (fun _ => keep_onOwl hx4) (fun _ => keep_lookupDone hx4)

theorem keep_setPhase {q : List Instr} {m : Option (List Host.Cell)} {a0 a1 a2 : _} (ha2 : Keep q m a2) :
    Keep q m (setPhase a0 a1 a2) := by
  unfold setPhase
  split
  · exact keep_setCmd ha2
  · exact ha2

theorem keep_owlLookup {q : List Instr} {m : Option (List Host.Cell)} {a0 a1 a2 : _} (ha2 : Keep q m a2) :
    Keep q m (owlLookup a0 a1 a2) := by
  unfold owlLookup
  exact keep_ite (fun _ => keep_lookupKey (keep_setPhase ha2)) (fun _ => ha2)

theorem keep_execOwlLookup {q : List Instr} {m : Option (List Host.Cell)} {a0 a1 : _} (ha1 : Keep q m a1) :
    KeepR q m (execOwlLookup a0 a1) := by
  unfold execOwlLookup
  exact keepR_done (keep_live (fun _ h0 => keep_withCmd (fun _ _ h1 => keep_owlLookup h1) h0) ha1)

theorem keep_owlLookupList {q : List Instr} {m : Option (List Host.Cell)} {a0 a1 a2 : _} (ha2 : Keep q m a2) :
    Keep q m (owlLookupList a0 a1 a2) := by
  unfold owlLookupList
  extract_lets -merge +onlyGivenNames y0
  refine keep_ite (fun _ => ?_) (fun _ => ?_)
  · exact keep_complete ha2
  · refine keep_ite (fun _ => ?_) (fun _ => ?_)
    · exact ha2
    · refine keep_withData ?_ ha2
      intro _ _ h1
      extract_lets -merge +onlyGivenNames y2
      exact keep_ite (fun _ => keep_complete h1) (fun _ => keep_forEach (keep_setPhase h1) (fun _ _ h3 => keep_lookupKey h3))

theorem keep_execOwlLookupList {q : List Instr} {m : Option (List Host.Cell)} {a0 a1 : _} (ha1 : Keep q m a1) :
    KeepR q m (execOwlLookupList a0 a1) := by
  unfold execOwlLookupList
  exact keepR_done (keep_live (fun _ h0 => keep_withCmd (fun _ _ h1 => keep_owlLookupList h1) h0) ha1)

theorem keep_moveUp {q : List Instr} {a0 a1 a2 : _} (ha2 : Keep q none a2) :
    Keep q none (moveUp a0 a1 a2) := by
  unfold moveUp
  split
  · exact keep_writeEntry ha2
  · exact ha2

theorem keep_insertDone {q : List Instr} {a0 a1 a2 : _} (ha2 : Keep q none a2) :
    Keep q none (insertDone a0 a1 a2) := by
  unfold insertDone
  exact keep_complete (keep_writeEntry ha2)

theorem keep_insertBegin {q : List Instr} {a0 a1 a2 a3 a4 : _} (ha4 : Keep q none a4) :
    Keep q none (insertBegin a0 a1 a2 a3 a4) := by
  unfold insertBegin
  split
  · exact keep_completeReason ha4
  · extract_lets -merge +onlyGivenNames y0 y1
    exact keep_ite (fun _ => keep_insertDone ha4) (fun _ => keep_setBank ha4)

theorem keep_bankStart {q : List Instr} {a0 a1 a2 : _} (ha2 : Keep q none a2) :
    Keep q none (bankStart a0 a1 a2) := by
  unfold bankStart
  split
  · exact ha2
  · exact keep_ite (fun _ => keep_complete (keep_clearEntry ha2)) (fun _ => keep_insertBegin ha2)

theorem keep_bankRun {q : List Instr} {a0 a1 a2 : _} (ha2 : Keep q none a2) :
    Keep q none (bankRun a0 a1 a2) := by
  induction a1 generalizing a2 with
  | zero => exact ha2
  | succ n ih =>
    unfold bankRun
    extract_lets -merge +onlyGivenNames y0
    clear_value y0
    split
    · split
      · exact ih (keep_bankStart (keep_setBank ha2))
      · exact ha2
    · exact ha2

theorem keep_bankGo {q : List Instr} {a0 a1 : _} (ha1 : Keep q none a1) :
    Keep q none (bankGo a0 a1) := by
  unfold bankGo
  exact keep_bankRun ha1

theorem keep_bankQueue {q : List Instr} {a0 a1 a2 : _} (ha2 : Keep q none a2) :
    Keep q none (bankQueue a0 a1 a2) := by
  unfold bankQueue
  extract_lets -merge +onlyGivenNames y0
  exact keep_bankGo (keep_setBank ha2)

theorem keep_owlInsert {q : List Instr} {a0 a1 a2 : _} (ha2 : Keep q none a2) :
    Keep q none (owlInsert a0 a1 a2) := by
  unfold owlInsert
  extract_lets -merge +onlyGivenNames y0
  clear_value y0
  split
  · exact keep_completeReason ha2
  · exact keep_ite (fun _ => keep_ite (fun _ => ha2) (fun _ => keep_bankQueue ha2)) (fun _ => keep_withData (fun _ _ h1 => keep_ite (fun _ => keep_complete h1) (fun _ => keep_bankQueue (keep_setPhase h1))) ha2)

theorem keep_execOwlInsert {q : List Instr} {a0 a1 : _} (ha1 : Keep q none a1) :
    KeepR q none (execOwlInsert a0 a1) := by
  unfold execOwlInsert
  exact keepR_done (keep_live (fun _ h0 => keep_withCmd (fun _ _ h1 => keep_owlInsert h1) h0) ha1)

theorem keep_owlShiftDone {q : List Instr} {a0 a1 : _} (ha1 : Keep q none a1) :
    Keep q none (owlShiftDone a0 a1) := by
  unfold owlShiftDone
  split
  · exact keep_bankGo ha1
  · extract_lets -merge +onlyGivenNames y0 x1 x2
    have hx1 : Keep q none x1 := keep_setBank ha1
    have hx2 : Keep q none x2 := keep_forEach hx1 (fun _ _ h3 => keep_moveUp h3)
    exact keep_ite (fun _ => ha1) (fun _ => keep_bankGo (keep_insertDone hx2))

theorem keep_shiftPause {q : List Instr} {m : Option (List Host.Cell)} {a0 : _} (ha0 : Keep q m a0) :
    Keep q m (shiftPause a0) := by
  unfold shiftPause
  exact keep_onOwl ha0

theorem keep_execOwlShiftDone {q : List Instr} {a0 a1 : _} (ha1 : Keep q none a1) :
    KeepR q none (execOwlShiftDone a0 a1) := by
  unfold execOwlShiftDone
  exact keepR_done (keep_live (fun _ h0 => keep_owlShiftDone h0) ha1)

theorem keep_owlDelete {q : List Instr} {a0 a1 a2 : _} (ha2 : Keep q none a2) :
    Keep q none (owlDelete a0 a1 a2) := by
  unfold owlDelete
  extract_lets -merge +onlyGivenNames y0
  clear_value y0
  split
  · exact keep_completeReason ha2
  · exact keep_bankQueue ha2

theorem keep_execOwlDelete {q : List Instr} {a0 a1 : _} (ha1 : Keep q none a1) :
    KeepR q none (execOwlDelete a0 a1) := by
  unfold execOwlDelete
  exact keepR_done (keep_live (fun _ h0 => keep_withCmd (fun _ _ h1 => keep_owlDelete h1) h0) ha1)

theorem keep_owlRead {q : List Instr} {m : Option (List Host.Cell)} {a0 a1 a2 : _} (ha2 : Keep q m a2) :
    Keep q m (owlRead a0 a1 a2) := by
  unfold owlRead
  extract_lets -merge +onlyGivenNames y0 y1 y2
  clear_value y0 y1 y2
  split
  · exact keep_completeReason ha2
  · extract_lets -merge +onlyGivenNames y3
    exact keep_complete (keep_hostWrite ha2)

theorem keep_execOwlRead {q : List Instr} {m : Option (List Host.Cell)} {a0 a1 : _} (ha1 : Keep q m a1) :
    KeepR q m (execOwlRead a0 a1) := by
  unfold execOwlRead
  exact keepR_done (keep_live (fun _ h0 => keep_withCmd (fun _ _ h1 => keep_owlRead h1) h0) ha1)

theorem keep_loadAutomaton {q : List Instr} {a0 a1 a2 a3 : _} (ha3 : Keep q none a3) :
    Keep q none (loadAutomaton a0 a1 a2 a3) := by
  unfold loadAutomaton
  extract_lets -merge +onlyGivenNames y0 x1 x3 y5
  have hx1 : Keep q none x1 := keep_forEach ha3 (fun _ _ h2 => keep_zeroFrame h2)
  have hx3 : Keep q none x3 := keep_forEach hx1 (fun _ _ h4 => keep_shadowWrite h4)
  exact keep_setBank hx3

theorem keep_owlLoadAutomaton {q : List Instr} {a0 a1 a2 : _} (ha2 : Keep q none a2) :
    Keep q none (owlLoadAutomaton a0 a1 a2) := by
  unfold owlLoadAutomaton
  extract_lets -merge +onlyGivenNames y0 y1
  clear_value y0 y1
  split
  · exact keep_completeReason ha2
  · refine keep_ite (fun _ => ?_) (fun _ => ?_)
    · exact keep_completeReason ha2
    · refine keep_withData ?_ ha2
      intro _ _ h2
      split
      · exact keep_completeReason h2
      · exact keep_complete (keep_raise (keep_loadAutomaton h2))

theorem keep_execOwlLoadAutomaton {q : List Instr} {a0 a1 : _} (ha1 : Keep q none a1) :
    KeepR q none (execOwlLoadAutomaton a0 a1) := by
  unfold execOwlLoadAutomaton
  exact keepR_done (keep_live (fun _ h0 => keep_withCmd (fun _ _ h1 => keep_owlLoadAutomaton h1) h0) ha1)

theorem keep_owlWatchSet {q : List Instr} {m : Option (List Host.Cell)} {a0 a1 a2 : _} (ha2 : Keep q m a2) :
    Keep q m (owlWatchSet a0 a1 a2) := by
  unfold owlWatchSet
  extract_lets -merge +onlyGivenNames y0 y1 y2
  clear_value y0 y1 y2
  refine keep_ite (fun _ => ?_) (fun _ => ?_)
  · exact ha2
  · split
    · exact keep_complete ha2
    · refine keep_ite (fun _ => ?_) (fun _ => ?_)
      · exact keep_completeReason ha2
      · refine keep_ite (fun _ => ?_) (fun _ => ?_)
        · exact keep_complete ha2
        · refine keep_ite (fun _ => ?_) (fun _ => ?_)
          · exact keep_complete ha2
          · refine keep_ite (fun _ => ?_) (fun _ => ?_)
            · exact keep_complete ha2
            · split
              · exact keep_completeReason ha2
              · extract_lets -merge +onlyGivenNames y3
                exact keep_complete (keep_setWatch (keep_freeTaken ha2))

theorem keep_execOwlWatchSet {q : List Instr} {m : Option (List Host.Cell)} {a0 a1 : _} (ha1 : Keep q m a1) :
    KeepR q m (execOwlWatchSet a0 a1) := by
  unfold execOwlWatchSet
  exact keepR_done (keep_live (fun _ h0 => keep_withCmd (fun _ _ h1 => keep_owlWatchSet h1) h0) ha1)

theorem keep_owlWatchDisarm {q : List Instr} {m : Option (List Host.Cell)} {a0 a1 a2 : _} (ha2 : Keep q m a2) :
    Keep q m (owlWatchDisarm a0 a1 a2) := by
  unfold owlWatchDisarm
  extract_lets -merge +onlyGivenNames y0
  clear_value y0
  refine keep_ite (fun _ => ?_) (fun _ => ?_)
  · exact ha2
  · split
    · exact keep_ite (fun _ => keep_complete (keep_watchFree ha2)) (fun _ => keep_complete ha2)
    · exact keep_complete ha2

theorem keep_execOwlWatchDisarm {q : List Instr} {m : Option (List Host.Cell)} {a0 a1 : _} (ha1 : Keep q m a1) :
    KeepR q m (execOwlWatchDisarm a0 a1) := by
  unfold execOwlWatchDisarm
  exact keepR_done (keep_live (fun _ h0 => keep_withCmd (fun _ _ h1 => keep_owlWatchDisarm h1) h0) ha1)

theorem keep_owlWait {q : List Instr} {m : Option (List Host.Cell)} {a0 a1 a2 : _} (ha2 : Keep q m a2) :
    Keep q m (owlWait a0 a1 a2) := by
  unfold owlWait
  extract_lets -merge +onlyGivenNames y0
  clear_value y0
  split
  · refine keep_ite (fun _ => ?_) (fun _ => ?_)
    · exact keep_complete ha2
    · split
      · exact keep_complete (keep_setWatch ha2)
      · exact keep_setWatch ha2
      · exact ha2
  · exact keep_complete ha2

theorem keep_execOwlWait {q : List Instr} {m : Option (List Host.Cell)} {a0 a1 : _} (ha1 : Keep q m a1) :
    KeepR q m (execOwlWait a0 a1) := by
  unfold execOwlWait
  exact keepR_done (keep_live (fun _ h0 => keep_withCmd (fun _ _ h1 => keep_owlWait h1) h0) ha1)

theorem keep_sendSlot {q : List Instr} {m : Option (List Host.Cell)} {a0 a1 : _} (ha1 : Keep q m a1) :
    Keep q m (sendSlot a0 a1) := by
  unfold sendSlot
  extract_lets -merge +onlyGivenNames y0
  exact keep_emit (keep_onOwl ha1)

theorem keep_answerWaiting {q : List Instr} {m : Option (List Host.Cell)} {a0 : _} (ha0 : Keep q m a0) :
    Keep q m (answerWaiting a0) := by
  unfold answerWaiting
  exact keep_forEach (keep_onOwl ha0) (fun _ _ h0 => keep_lookupDone h0)

theorem keep_cascadeSlot {q : List Instr} {m : Option (List Host.Cell)} {a0 : _} (ha0 : Keep q m a0) :
    Keep q m (cascadeSlot a0) := by
  unfold cascadeSlot
  extract_lets -merge +onlyGivenNames y0 x1
  have hx1 : Keep q m x1 := keep_onOwl ha0
  clear_value y0
  refine keep_ite (fun _ => ?_) (fun _ => ?_)
  · exact keep_answerWaiting ha0
  · refine keep_ite (fun _ => ?_) (fun _ => ?_)
    · exact ha0
    · split
      · exact keep_sendSlot (keep_onOwl hx1)
      · exact keep_ite (fun _ => keep_sendSlot hx1) (fun _ => hx1)

theorem keep_execCascadeSlot {q : List Instr} {m : Option (List Host.Cell)} {a0 : _} (ha0 : Keep q m a0) :
    KeepR q m (execCascadeSlot a0) := by
  unfold execCascadeSlot
  exact keepR_done (keep_live (fun _ h0 => keep_cascadeSlot h0) ha0)

theorem keep_cascadeCrc {q : List Instr} {m : Option (List Host.Cell)} {a0 : _} (ha0 : Keep q m a0) :
    Keep q m (cascadeCrc a0) := by
  unfold cascadeCrc
  exact keep_raiseFirst (keep_bump ha0)

theorem keep_ownReturned {q : List Instr} {m : Option (List Host.Cell)} {a0 a1 : _} (ha1 : Keep q m a1) :
    Keep q m (ownReturned a0 a1) := by
  unfold ownReturned
  split
  · extract_lets -merge +onlyGivenNames x0
    have hx0 : Keep q m x0 := keep_onOwl ha1
    exact keep_ite (fun _ => keep_ite (fun _ => keep_raise (keep_onOwl hx0)) (fun _ => hx0)) (fun _ => ha1)
  · exact ha1

theorem keep_cascadeSearch {q : List Instr} {m : Option (List Host.Cell)} {a0 a1 : _} (ha1 : Keep q m a1) :
    Keep q m (cascadeSearch a0 a1) := by
  unfold cascadeSearch
  extract_lets -merge +onlyGivenNames x0 y1 y2 x3
  have hx0 : Keep q m x0 := keep_emit ha1
  have hx3 : Keep q m x3.2 := keep_prefixFind hx0
  exact keep_ite (fun _ => ha1) (fun _ => keep_ite (fun _ => keep_cascadeCrc ha1) (fun _ => keep_ite (fun _ => keep_ownReturned ha1) (fun _ => keep_ite (fun _ => hx0) (fun _ => keep_onOwl hx3))))

theorem keep_execCascadeSearch {q : List Instr} {m : Option (List Host.Cell)} {a0 a1 : _} (ha1 : Keep q m a1) :
    KeepR q m (execCascadeSearch a0 a1) := by
  unfold execCascadeSearch
  exact keepR_done (keep_live (fun _ h0 => keep_cascadeSearch h0) ha1)

theorem keep_cascadeFlush {q : List Instr} {m : Option (List Host.Cell)} {a0 : _} (ha0 : Keep q m a0) :
    Keep q m (cascadeFlush a0) := by
  unfold cascadeFlush
  extract_lets -merge +onlyGivenNames y0
  exact keep_forEach (keep_onOwl ha0) (fun _ _ h1 => keep_lookupDone h1)

theorem keep_cascadeReturnCheck {q : List Instr} {m : Option (List Host.Cell)} {a0 : _} (ha0 : Keep q m a0) :
    Keep q m (cascadeReturnCheck a0) := by
  unfold cascadeReturnCheck
  split
  · extract_lets -merge +onlyGivenNames x0 x1
    have hx0 : Keep q m x0 := keep_onOwl ha0
    have hx1 : Keep q m x1 := keep_ite (fun _ => hx0) (fun _ => keep_raise (keep_bump (keep_onOwl hx0)))
    exact keep_ite (fun _ => ha0) (fun _ => keep_ite (fun _ => hx0) (fun _ => keep_cascadeFlush hx1))
  · exact ha0

theorem keep_execCascadeReturnCheck {q : List Instr} {m : Option (List Host.Cell)} {a0 : _} (ha0 : Keep q m a0) :
    KeepR q m (execCascadeReturnCheck a0) := by
  unfold execCascadeReturnCheck
  exact keepR_done (keep_live (fun _ h0 => keep_cascadeReturnCheck h0) ha0)

theorem keep_drivePrio {q : List Instr} {m : Option (List Host.Cell)} {a0 a1 : _} (ha1 : Keep q m a1) :
    Keep q m (drivePrio a0 a1) := by
  unfold drivePrio
  exact keep_ite (fun _ => ha1) (fun _ => keep_emit (keep_onOwl ha1))

theorem keep_cascadePrio {q : List Instr} {m : Option (List Host.Cell)} {a0 a1 : _} (ha1 : Keep q m a1) :
    Keep q m (cascadePrio a0 a1) := by
  unfold cascadePrio
  exact keep_ite (fun _ => ha1) (fun _ => keep_drivePrio ha1)

theorem keep_execCascadePrio {q : List Instr} {m : Option (List Host.Cell)} {a0 a1 : _} (ha1 : Keep q m a1) :
    KeepR q m (execCascadePrio a0 a1) := by
  unfold execCascadePrio
  exact keepR_done (keep_live (fun _ h0 => keep_cascadePrio h0) ha1)

theorem keep_cascadeWinnerSend {q : List Instr} {m : Option (List Host.Cell)} {a0 a1 : _} (ha1 : Keep q m a1) :
    Keep q m (cascadeWinnerSend a0 a1) := by
  unfold cascadeWinnerSend
  split
  · split
    · exact keep_ite (fun _ => ha1) (fun _ => keep_emit (keep_onOwl ha1))
    · exact ha1
  · exact ha1

theorem keep_execCascadeWinnerSend {q : List Instr} {m : Option (List Host.Cell)} {a0 a1 : _} (ha1 : Keep q m a1) :
    KeepR q m (execCascadeWinnerSend a0 a1) := by
  unfold execCascadeWinnerSend
  exact keepR_done (keep_live (fun _ h0 => keep_cascadeWinnerSend h0) ha1)

theorem keep_cascadeResult {q : List Instr} {m : Option (List Host.Cell)} {a0 a1 : _} (ha1 : Keep q m a1) :
    Keep q m (cascadeResult a0 a1) := by
  unfold cascadeResult
  refine keep_ite (fun _ => ?_) (fun _ => ?_)
  · exact ha1
  · refine keep_ite (fun _ => ?_) (fun _ => ?_)
    · exact keep_cascadeCrc ha1
    · refine keep_ite (fun _ => ?_) (fun _ => ?_)
      · exact keep_emit ha1
      · split
        · split
          · exact keep_ite (fun _ => ha1) (fun _ => keep_lookupDone (keep_bump (keep_onOwl ha1)))
          · exact ha1
        · exact ha1

theorem keep_execCascadeResult {q : List Instr} {m : Option (List Host.Cell)} {a0 a1 : _} (ha1 : Keep q m a1) :
    KeepR q m (execCascadeResult a0 a1) := by
  unfold execCascadeResult
  exact keepR_done (keep_live (fun _ h0 => keep_cascadeResult h0) ha1)

theorem keep_cascadeSlotEnd {q : List Instr} {m : Option (List Host.Cell)} {a0 : _} (ha0 : Keep q m a0) :
    Keep q m (cascadeSlotEnd a0) := by
  unfold cascadeSlotEnd
  extract_lets -merge +onlyGivenNames x0 x1 x3
  have hx0 : Keep q m x0 := keep_onOwl ha0
  have hx1 : Keep q m x1 := by
    unfold x1
    split
    · exact keep_ite (fun _ => ha0) (fun _ => keep_whenSome hx0 (fun _ _ h2 => keep_lookupDone h2))
    · exact ha0
  have hx3 : Keep q m x3 := keep_onOwl hx1
  exact keep_ite (fun _ => keep_drivePrio hx3) (fun _ => hx3)

theorem keep_execCascadeSlotEnd {q : List Instr} {m : Option (List Host.Cell)} {a0 : _} (ha0 : Keep q m a0) :
    KeepR q m (execCascadeSlotEnd a0) := by
  unfold execCascadeSlotEnd
  exact keepR_done (keep_live (fun _ h0 => keep_cascadeSlotEnd h0) ha0)

theorem keep_entryLost {q : List Instr} {m : Option (List Host.Cell)} {a0 a1 a2 : _} (ha2 : Keep q m a2) :
    Keep q m (entryLost a0 a1 a2) := by
  unfold entryLost
  extract_lets -merge +onlyGivenNames y0 y1
  exact keep_raise (keep_bump (keep_setBank ha2))

theorem keep_compareEntry {q : List Instr} {m : Option (List Host.Cell)} {a0 a1 a2 : _} (ha2 : Keep q m a2) :
    Keep q m (compareEntry a0 a1 a2) := by
  unfold compareEntry
  refine keep_ite (fun _ => ?_) (fun _ => ?_)
  · exact ha2
  · split
    · exact keep_entryLost ha2
    · exact keep_ite (fun _ => ha2) (fun _ => keep_raise (keep_bump (keep_setBank ha2)))

theorem keep_compareSpan {q : List Instr} {m : Option (List Host.Cell)} {a0 a1 a2 a3 : _} (ha3 : Keep q m a3) :
    Keep q m (compareSpan a0 a1 a2 a3) := by
  unfold compareSpan
  exact keep_forEach ha3 (fun _ _ h0 => keep_compareEntry h0)

theorem keep_owlScrub {q : List Instr} {m : Option (List Host.Cell)} {a0 a1 : _} (ha1 : Keep q m a1) :
    Keep q m (owlScrub a0 a1) := by
  unfold owlScrub
  extract_lets -merge +onlyGivenNames y0 y1 y2 y3 y4
  exact keep_ite (fun _ => ha1) (fun _ => keep_onOwl (keep_compareSpan ha1))

theorem keep_execOwlScrub {q : List Instr} {m : Option (List Host.Cell)} {a0 a1 : _} (ha1 : Keep q m a1) :
    KeepR q m (execOwlScrub a0 a1) := by
  unfold execOwlScrub
  exact keepR_done (keep_live (fun _ h0 => keep_owlScrub h0) ha1)

theorem keep_owlScrubForce {q : List Instr} {m : Option (List Host.Cell)} {a0 a1 : _} (ha1 : Keep q m a1) :
    Keep q m (owlScrubForce a0 a1) := by
  unfold owlScrubForce
  refine keep_expertDo ?_ ha1
  intro _ h0
  extract_lets -merge +onlyGivenNames y1
  exact keep_forEach h0 (fun _ _ h2 => keep_compareSpan h2)

theorem keep_execOwlScrubForce {q : List Instr} {m : Option (List Host.Cell)} {a0 a1 : _} (ha1 : Keep q m a1) :
    KeepR q m (execOwlScrubForce a0 a1) := by
  unfold execOwlScrubForce
  exact keepR_done (keep_live (fun _ h0 => keep_access (fun _ h1 => keep_owlScrubForce h1) h0) ha1)

end Sys2Proof.Machine
end

