-- ==== Sys2Proof/Laws/KeepFabric.lean ====
section
/-! SUPPORT. The operations of remote memory operations, what arrives on links, parking, tables and tiers keep the queue of commands and a sound state. -/

namespace Sys2Proof.Machine

open Sys2Proof

/-! ### Rma -/

theorem keep_windowOpen {q : List Instr} {m : Option (List Host.Cell)} {a0 a1 a2 a3 : _} (ha3 : Keep q m a3) :
    Keep q m (windowOpen a0 a1 a2 a3) := by
  unfold windowOpen
  exact keep_onPrt ha3

theorem keep_windowClose {q : List Instr} {m : Option (List Host.Cell)} {a0 a1 : _} (ha1 : Keep q m a1) :
    Keep q m (windowClose a0 a1) := by
  unfold windowClose
  exact keep_onPrt ha1

theorem keep_answerCmd {q : List Instr} {m : Option (List Host.Cell)} {a0 a1 a2 a3 a4 a5 a6 : _} (ha6 : Keep q m a6) :
    Keep q m (answerCmd a0 a1 a2 a3 a4 a5 a6) := by
  unfold answerCmd
  split
  · exact ha6
  · exact keep_ite (fun _ => keep_setCmd ha6) (fun _ => keep_ite (fun _ => keep_complete (keep_when ha6 (fun _ h0 => keep_hostWrite h0))) (fun _ => keep_complete ha6))

theorem keep_opEnd {q : List Instr} {m : Option (List Host.Cell)} {a0 a1 a2 a3 a4 a5 : _} (ha5 : Keep q m a5) :
    Keep q m (opEnd a0 a1 a2 a3 a4 a5) := by
  unfold opEnd
  split
  · exact ha5
  · extract_lets -merge +onlyGivenNames x0
    have hx0 : Keep q m x0 := keep_when (keep_windowClose (keep_onPrt ha5)) (fun _ h1 => keep_sendWaitingNotice h1)
    exact keep_whenSome hx0 (fun _ _ h2 => keep_answerCmd h2)

theorem keep_fabricAck {q : List Instr} {m : Option (List Host.Cell)} {a0 a1 a2 : _} (ha2 : Keep q m a2) :
    Keep q m (fabricAck a0 a1 a2) := by
  unfold fabricAck
  split
  · exact ha2
  · exact keep_ite (fun _ => ha2) (fun _ => keep_when (keep_rxFree ha2) (fun _ h0 => keep_opEnd h0))

theorem keep_execAck {q : List Instr} {m : Option (List Host.Cell)} {a0 a1 a2 : _} (ha2 : Keep q m a2) :
    KeepR q m (execAck a0 a1 a2) := by
  unfold execAck
  exact keepR_done (keep_live (fun _ h0 => keep_fabricAck h0) ha2)

theorem keep_fabricNak {q : List Instr} {m : Option (List Host.Cell)} {a0 a1 a2 : _} (ha2 : Keep q m a2) :
    Keep q m (fabricNak a0 a1 a2) := by
  unfold fabricNak
  split
  · exact ha2
  · exact keep_ite (fun _ => ha2) (fun _ => keep_when (keep_rxFree ha2) (fun _ h0 => keep_opEnd h0))

theorem keep_execNak {q : List Instr} {m : Option (List Host.Cell)} {a0 a1 a2 : _} (ha2 : Keep q m a2) :
    KeepR q m (execNak a0 a1 a2) := by
  unfold execNak
  exact keepR_done (keep_live (fun _ h0 => keep_fabricNak h0) ha2)

theorem keep_noteLate {q : List Instr} {m : Option (List Host.Cell)} {a0 a1 : _} (ha1 : Keep q m a1) :
    Keep q m (noteLate a0 a1) := by
  unfold noteLate
  exact keep_when (keep_raiseFirst (keep_bump ha1)) (fun _ h0 => keep_raise (keep_bump h0))

theorem keep_retransmit {q : List Instr} {m : Option (List Host.Cell)} {a0 a1 : _} (ha1 : Keep q m a1) :
    Keep q m (retransmit a0 a1) := by
  unfold retransmit
  split
  · exact ha1
  · exact keep_ite (fun _ => ha1) (fun _ => keep_ite (fun _ => keep_sendPackets (keep_bump (keep_onPrt ha1))) (fun _ => keep_opEnd (keep_noteLate ha1)))

theorem keep_execRetransmitTimeout {q : List Instr} {m : Option (List Host.Cell)} {a0 a1 : _} (ha1 : Keep q m a1) :
    KeepR q m (execRetransmitTimeout a0 a1) := by
  unfold execRetransmitTimeout
  exact keepR_done (keep_live (fun _ h0 => keep_retransmit h0) ha1)

theorem keep_noteRefusal {q : List Instr} {m : Option (List Host.Cell)} {a0 a1 a2 : _} (ha2 : Keep q m a2) :
    Keep q m (noteRefusal a0 a1 a2) := by
  unfold noteRefusal
  extract_lets -merge +onlyGivenNames y0
  exact keep_ite (fun _ => keep_raiseFirst (keep_bump ha2)) (fun _ => keep_ite (fun _ => keep_bump ha2) (fun _ => keep_ite (fun _ => keep_refuseBuffer ha2) (fun _ => keep_ite (fun _ => keep_countStale ha2) (fun _ => keep_noteKey ha2))))

theorem keep_undefineWrites {q : List Instr} {a0 a1 a2 : _} (ha2 : Keep q none a2) :
    Keep q none (undefineWrites a0 a1 a2) := by
  unfold undefineWrites
  split
  · exact ha2
  · exact keep_ite (fun _ => ha2) (fun _ => keep_forEach ha2 (fun _ _ h0 => keep_ite (fun _ => keep_freeTaken (keep_writeLoc h0)) (fun _ => h0)))

theorem keep_dropPaging {q : List Instr} {m : Option (List Host.Cell)} {a0 a1 : _} (ha1 : Keep q m a1) :
    Keep q m (dropPaging a0 a1) := by
  unfold dropPaging
  exact keep_onPrt ha1

theorem keep_rmaRefuse {q : List Instr} {a0 a1 a2 a3 : _} (ha3 : Keep q none a3) :
    Keep q none (rmaRefuse a0 a1 a2 a3) := by
  unfold rmaRefuse
  extract_lets -merge +onlyGivenNames y0
  exact keep_nakMsg (keep_noteRefusal (keep_dropPaging (keep_undefineWrites ha3)))

theorem keep_stallPacket {q : List Instr} {m : Option (List Host.Cell)} {a0 a1 a2 a3 a4 : _} (ha4 : Keep q m a4) :
    Keep q m (stallPacket a0 a1 a2 a3 a4) := by
  unfold stallPacket
  extract_lets -merge +onlyGivenNames y0 y1 y2 x3
  have hx3 : Keep q m x3 := keep_ite (fun _ => keep_rxFree ha4) (fun _ => keep_onPrt ha4)
  exact keep_ite (fun _ => keep_onPrt (keep_bump ha4)) (fun _ => keep_raiseFirst (keep_bump hx3))

theorem keep_rmaWritten {q : List Instr} {m : Option (List Host.Cell)} {a0 a1 : _} (ha1 : Keep q m a1) :
    Keep q m (rmaWritten a0 a1) := by
  unfold rmaWritten
  split
  · exact ha1
  · extract_lets -merge +onlyGivenNames y0
    exact keep_ite (fun _ => keep_ackMsg ha1) (fun _ => ha1)

theorem keep_rmaPlace {q : List Instr} {a0 a1 a2 a3 a4 a5 : _} (ha5 : Keep q none a5) :
    Keep q none (rmaPlace a0 a1 a2 a3 a4 a5) := by
  unfold rmaPlace
  extract_lets -merge +onlyGivenNames y0
  exact keep_ite (fun _ => keep_writeLoc ha5) (fun _ => keep_rmaRefuse (keep_noteRead ha5))

theorem keep_rmaWritePart {q : List Instr} {a0 a1 a2 : _} (ha2 : Keep q none a2) :
    Keep q none (rmaWritePart a0 a1 a2) := by
  unfold rmaWritePart
  split
  · exact ha2
  · extract_lets -merge +onlyGivenNames y0 x1
    have hx1 : Keep q none x1 := keep_onPrt ha2
    clear_value y0
    split
    · exact keep_rmaRefuse hx1
    · exact hx1
    · exact keep_ite (fun _ => keep_stallPacket hx1) (fun _ => keep_rmaPlace hx1)

theorem keep_rmaWrite {q : List Instr} {a0 a1 a2 : _} (ha2 : Keep q none a2) :
    Keep q none (rmaWrite a0 a1 a2) := by
  unfold rmaWrite
  split
  · exact ha2
  · exact keep_ite (fun _ => ha2) (fun _ => keep_ite (fun _ => keep_rmaRefuse ha2) (fun _ => keep_ite (fun _ => keep_onPrt ha2) (fun _ => keep_rmaWritten (keep_forEach ha2 (fun _ _ h0 => keep_rmaWritePart h0)))))

theorem keep_execRmaWrite {q : List Instr} {a0 a1 a2 : _} (ha2 : Keep q none a2) :
    KeepR q none (execRmaWrite a0 a1 a2) := by
  unfold execRmaWrite
  exact keepR_done (keep_live (fun _ h0 => keep_rmaWrite h0) ha2)

theorem keep_holdRead {q : List Instr} {m : Option (List Host.Cell)} {a0 a1 a2 : _} (ha2 : Keep q m a2) :
    Keep q m (holdRead a0 a1 a2) := by
  unfold holdRead
  exact keep_onPrt ha2

theorem keep_respond {q : List Instr} {m : Option (List Host.Cell)} {a0 a1 a2 a3 : _} (ha3 : Keep q m a3) :
    Keep q m (respond a0 a1 a2 a3) := by
  unfold respond
  extract_lets -merge +onlyGivenNames y0 y1
  exact keep_sendPlain (keep_rxFree ha3)

theorem keep_rmaServe {q : List Instr} {a0 a1 a2 a3 : _} (ha3 : Keep q none a3) :
    Keep q none (rmaServe a0 a1 a2 a3) := by
  unfold rmaServe
  extract_lets -merge +onlyGivenNames y0 y1 y2 x3
  have hx3 : Keep q none x3 := keep_ite (fun _ => keep_noteSpan ha3) (fun _ => keep_notePage ha3)
  clear_value y0 y1 y2
  split
  · exact keep_rmaRefuse hx3
  · exact keep_ite (fun _ => keep_rmaRefuse (keep_digestFail hx3)) (fun _ => keep_holdRead (keep_respond hx3))

theorem keep_rmaRead {q : List Instr} {a0 a1 a2 : _} (ha2 : Keep q none a2) :
    Keep q none (rmaRead a0 a1 a2) := by
  unfold rmaRead
  split
  · exact ha2
  · refine keep_ite (fun _ => ?_) (fun _ => ?_)
    · exact ha2
    · refine keep_ite (fun _ => ?_) (fun _ => ?_)
      · exact keep_rmaRefuse ha2
      · refine keep_ite (fun _ => ?_) (fun _ => ?_)
        · exact keep_onPrt ha2
        · split
          · exact keep_rmaRefuse ha2
          · exact ha2
          · exact keep_ite (fun _ => keep_stallPacket ha2) (fun _ => keep_rmaServe ha2)

theorem keep_execRmaRead {q : List Instr} {a0 a1 a2 : _} (ha2 : Keep q none a2) :
    KeepR q none (execRmaRead a0 a1 a2) := by
  unfold execRmaRead
  exact keepR_done (keep_live (fun _ h0 => keep_rmaRead h0) ha2)

theorem keep_rmaResp {q : List Instr} {m : Option (List Host.Cell)} {a0 a1 a2 : _} (ha2 : Keep q m a2) :
    Keep q m (rmaResp a0 a1 a2) := by
  unfold rmaResp
  split
  · exact ha2
  · extract_lets -merge +onlyGivenNames y0 x1 y2
    have hx1 : Keep q m x1 := keep_onPrt ha2
    exact keep_ite (fun _ => ha2) (fun _ => keep_ite (fun _ => keep_bump (keep_rxFree ha2)) (fun _ => keep_ite (fun _ => keep_opEnd (keep_rxFree hx1)) (fun _ => hx1)))

theorem keep_execRmaResp {q : List Instr} {m : Option (List Host.Cell)} {a0 a1 a2 : _} (ha2 : Keep q m a2) :
    KeepR q m (execRmaResp a0 a1 a2) := by
  unfold execRmaResp
  exact keepR_done (keep_live (fun _ h0 => keep_rmaResp h0) ha2)

theorem keep_moveNow {q : List Instr} {a0 a1 a2 : _} (ha2 : Keep q none a2) :
    KeepO q none (moveNow a0 a1 a2) := by
  unfold moveNow
  refine keepMapOp (keep_takeHbm ha2) ?_
  intro _ h0
  extract_lets -merge +onlyGivenNames y1
  exact keep_moveTo (keep_beginMove h0)

theorem keep_servePagedWrite {q : List Instr} {a0 a1 a2 a3 a4 a5 : _} (ha5 : Keep q none a5) :
    Keep q none (servePagedWrite a0 a1 a2 a3 a4 a5) := by
  unfold servePagedWrite
  refine keep_ite (fun _ => ?_) (fun _ => ?_)
  · split
    · exact keep_rmaRefuse ha5
    · split
      · exact keep_rmaPlace ((keep_moveNow ha5) _ (by assumption))
      · exact ((keep_moveNow ha5) _ (by assumption))
  · exact keep_rmaPlace ha5

theorem keep_pagingServed {q : List Instr} {a0 : _} (ha0 : Keep q none a0) :
    Keep q none (pagingServed a0) := by
  unfold pagingServed
  split
  · exact ha0
  · extract_lets -merge +onlyGivenNames y0 x1 x2
    have hx1 : Keep q none x1 := ha0
    have hx2 : Keep q none x2 := keep_onPrt ha0
    clear_value y0
    split
    · exact hx2
    · extract_lets -merge +onlyGivenNames y3
      clear_value y3
      split
      · exact keep_rmaRefuse hx2
      · exact hx2
      · exact keep_ite (fun _ => hx1) (fun _ => keep_ite (fun _ => keep_rmaWritten (keep_servePagedWrite hx2)) (fun _ => keep_rmaServe hx2))

theorem keep_execPagingServed {q : List Instr} {a0 : _} (ha0 : Keep q none a0) :
    KeepR q none (execPagingServed a0) := by
  unfold execPagingServed
  exact keepR_done (keep_live (fun _ h0 => keep_pagingServed h0) ha0)

theorem keep_rxExpireAt {q : List Instr} {a0 a1 : _} (ha1 : Keep q none a1) :
    Keep q none (rxExpireAt a0 a1) := by
  unfold rxExpireAt
  split
  · exact ha1
  · exact keep_ite (fun _ => ha1) (fun _ => keep_bump (keep_rxFree (keep_dropPaging (keep_undefineWrites ha1))))

theorem keep_rxExpire {q : List Instr} {a0 a1 a2 : _} (ha2 : Keep q none a2) :
    Keep q none (rxExpire a0 a1 a2) := by
  unfold rxExpire
  exact keep_rxExpireAt (keep_rxExpireAt ha2)

theorem keep_execRxEntryExpire {q : List Instr} {a0 a1 a2 : _} (ha2 : Keep q none a2) :
    KeepR q none (execRxEntryExpire a0 a1 a2) := by
  unfold execRxEntryExpire
  exact keepR_done (keep_live (fun _ h0 => keep_rxExpire h0) ha2)

theorem keep_nakFilterExpire {q : List Instr} {m : Option (List Host.Cell)} {a0 a1 a2 : _} (ha2 : Keep q m a2) :
    Keep q m (nakFilterExpire a0 a1 a2) := by
  unfold nakFilterExpire
  split
  · exact keep_ite (fun _ => keep_onPrt ha2) (fun _ => ha2)
  · exact ha2

theorem keep_execNakFilterExpire {q : List Instr} {m : Option (List Host.Cell)} {a0 a1 a2 : _} (ha2 : Keep q m a2) :
    KeepR q m (execNakFilterExpire a0 a1 a2) := by
  unfold execNakFilterExpire
  exact keepR_done (keep_live (fun _ h0 => keep_nakFilterExpire h0) ha2)

theorem keep_faultNotice {q : List Instr} {m : Option (List Host.Cell)} {a0 a1 a2 a3 : _} (ha3 : Keep q m a3) :
    Keep q m (faultNotice a0 a1 a2 a3) := by
  unfold faultNotice
  extract_lets -merge +onlyGivenNames y0 y1
  exact keep_ackMsg (keep_notifyBoth (keep_raise (keep_setRg (keep_setRg (keep_bump ha3)))))

theorem keep_execFaultNotice {q : List Instr} {m : Option (List Host.Cell)} {a0 a1 a2 : _} (ha2 : Keep q m a2) :
    KeepR q m (execFaultNotice a0 a1 a2) := by
  unfold execFaultNotice
  exact keepR_done (keep_live (fun _ h0 => keep_withMsg (fun _ _ h1 => keep_faultNotice h1) h0) ha2)

theorem keep_portCmd {q : List Instr} {m : Option (List Host.Cell)} {a0 a1 a2 a3 a4 : _} (ha3 : ∀ x0, Keep q m x0 → Keep q m (a3 x0)) (ha4 : Keep q m a4) :
    Keep q m (portCmd a0 a1 a2 a3 a4) := by
  unfold portCmd
  refine keep_ite (fun _ => ?_) (fun _ => ?_)
  · exact ha4
  · split
    · exact keep_completeReason ha4
    · exact ha3 _ ha4

theorem keep_portSend {q : List Instr} {m : Option (List Host.Cell)} {a0 a1 a2 a3 a4 : _} (ha4 : Keep q m a4) :
    Keep q m (portSend a0 a1 a2 a3 a4) := by
  unfold portSend
  exact keep_ite (fun _ => keep_sendOp (keep_setCmd ha4)) (fun _ => ha4)

theorem keep_rmaWriteCmd {q : List Instr} {m : Option (List Host.Cell)} {a0 a1 a2 : _} (ha2 : Keep q m a2) :
    Keep q m (rmaWriteCmd a0 a1 a2) := by
  unfold rmaWriteCmd
  exact keep_portCmd (fun _ h0 => keep_withData (fun _ _ h1 => keep_portSend h1) h0) ha2

theorem keep_execRmaWriteCmd {q : List Instr} {m : Option (List Host.Cell)} {a0 a1 : _} (ha1 : Keep q m a1) :
    KeepR q m (execRmaWriteCmd a0 a1) := by
  unfold execRmaWriteCmd
  exact keepR_done (keep_live (fun _ h0 => keep_withCmd (fun _ _ h1 => keep_rmaWriteCmd h1) h0) ha1)

theorem keep_rmaReadCmd {q : List Instr} {m : Option (List Host.Cell)} {a0 a1 a2 : _} (ha2 : Keep q m a2) :
    Keep q m (rmaReadCmd a0 a1 a2) := by
  unfold rmaReadCmd
  refine keep_portCmd ?_ ha2
  intro _ h0
  split
  · extract_lets -merge +onlyGivenNames y1 y2
    exact keep_ite (fun _ => keep_sendOp (keep_windowOpen (keep_setCmd (keep_freeTaken h0)))) (fun _ => h0)
  · exact h0

theorem keep_execRmaReadCmd {q : List Instr} {m : Option (List Host.Cell)} {a0 a1 : _} (ha1 : Keep q m a1) :
    KeepR q m (execRmaReadCmd a0 a1) := by
  unfold execRmaReadCmd
  exact keepR_done (keep_live (fun _ h0 => keep_withCmd (fun _ _ h1 => keep_rmaReadCmd h1) h0) ha1)

theorem keep_pageSend {q : List Instr} {m : Option (List Host.Cell)} {a0 a1 a2 : _} (ha2 : Keep q m a2) :
    Keep q m (pageSend a0 a1 a2) := by
  unfold pageSend
  extract_lets -merge +onlyGivenNames y0 y1 y2
  clear_value y0 y1 y2
  split
  · exact keep_complete (keep_when (keep_noteKey ha2) (fun _ h3 => keep_refuseBuffer h3))
  · exact keep_ite (fun _ => ha2) (fun _ => keep_complete ha2)
  · refine keep_portCmd ?_ ha2
    intro _ h4
    extract_lets -merge +onlyGivenNames x5
    have hx5 : Keep q m x5 := keep_notePage h4
    split
    · exact keep_complete hx5
    · exact keep_ite (fun _ => keep_complete (keep_digestFail hx5)) (fun _ => keep_portSend hx5)

theorem keep_execPageSend {q : List Instr} {m : Option (List Host.Cell)} {a0 a1 : _} (ha1 : Keep q m a1) :
    KeepR q m (execPageSend a0 a1) := by
  unfold execPageSend
  exact keepR_done (keep_live (fun _ h0 => keep_withCmd (fun _ _ h1 => keep_pageSend h1) h0) ha1)

/-! ### Upsets -/

theorem keep_dropInput {q : List Instr} {m : Option (List Host.Cell)} {a0 a1 a2 : _} (ha2 : Keep q m a2) :
    Keep q m (dropInput a0 a1 a2) := by
  unfold dropInput
  exact keep_whenSome ha2 (fun _ _ h0 => keep_when h0 (fun _ h1 => keep_setDctx h1))

theorem keep_dropWaitingCoach {q : List Instr} {m : Option (List Host.Cell)} {a0 a1 : _} (ha1 : Keep q m a1) :
    Keep q m (dropWaitingCoach a0 a1) := by
  unfold dropWaitingCoach
  exact keep_ite (fun _ => keep_dropCoach ha1) (fun _ => ha1)

theorem keep_dropMessage {q : List Instr} {a0 a1 : _} (ha1 : Keep q none a1) :
    Keep q none (dropMessage a0 a1) := by
  unfold dropMessage
  split
  · exact ha1
  · exact keep_when (keep_whenSome (keep_rxFree (keep_dropPaging (keep_undefineWrites ha1))) (fun _ _ h2 => keep_dropInput h2)) (fun _ h0 => keep_whenSome h0 (fun _ _ h1 => keep_dropWaitingCoach h1))

theorem keep_dropContext {q : List Instr} {m : Option (List Host.Cell)} {a0 a1 : _} (ha1 : Keep q m a1) :
    Keep q m (dropContext a0 a1) := by
  unfold dropContext
  exact keep_whenSome ha1 (fun _ _ h0 => keep_setDctx h0)

theorem keep_dropWord {q : List Instr} {a0 a1 : _} (ha1 : Keep q none a1) :
    Keep q none (dropWord a0 a1) := by
  unfold dropWord
  split
  · exact keep_dropMessage ha1
  · exact keep_dropMessage ha1
  · exact keep_forEach (keep_dropWaitingCoach ha1) (fun _ _ h0 => keep_rxFree h0)
  · extract_lets -merge +onlyGivenNames y1
    exact keep_dropInput (keep_forEach ha1 (fun _ _ h2 => keep_dropMessage h2))
  · exact keep_dropContext ha1
  · extract_lets -merge +onlyGivenNames y3
    exact keep_setLink ha1

theorem keep_dropWords {q : List Instr} {a0 a1 : _} (ha1 : Keep q none a1) :
    Keep q none (dropWords a0 a1) := by
  unfold dropWords
  exact keep_forEach ha1 (fun _ _ h0 => keep_dropWord h0)

/-! ### Ingress -/

theorem keep_linkAckUpTo {q : List Instr} {m : Option (List Host.Cell)} {a0 a1 a2 : _} (ha2 : Keep q m a2) :
    Keep q m (linkAckUpTo a0 a1 a2) := by
  unfold linkAckUpTo
  extract_lets -merge +onlyGivenNames y0 y1 y2
  exact keep_setLink ha2

theorem keep_lack {q : List Instr} {m : Option (List Host.Cell)} {a0 a1 a2 : _} (ha2 : Keep q m a2) :
    Keep q m (lack a0 a1 a2) := by
  unfold lack
  exact keep_ite (fun _ => keep_linkAckUpTo (keep_linkGot ha2)) (fun _ => ha2)

theorem keep_execLack {q : List Instr} {m : Option (List Host.Cell)} {a0 a1 a2 : _} (ha2 : Keep q m a2) :
    KeepR q m (execLack a0 a1 a2) := by
  unfold execLack
  exact keepR_done (keep_live (fun _ h0 => keep_lack h0) ha2)

theorem keep_linkReplay {q : List Instr} {m : Option (List Host.Cell)} {a0 a1 a2 : _} (ha2 : Keep q m a2) :
    Keep q m (linkReplay a0 a1 a2) := by
  unfold linkReplay
  extract_lets -merge +onlyGivenNames y0 x1 y2 x3
  have hx1 : Keep q m x1 := keep_linkReplayFrom ha2
  have hx3 : Keep q m x3 := keep_setLink hx1
  exact keep_ite (fun _ => ha2) (fun _ => keep_ite (fun _ => keep_linkDown hx3) (fun _ => hx3))

theorem keep_lnak {q : List Instr} {m : Option (List Host.Cell)} {a0 a1 a2 : _} (ha2 : Keep q m a2) :
    Keep q m (lnak a0 a1 a2) := by
  unfold lnak
  extract_lets -merge +onlyGivenNames x0
  have hx0 : Keep q m x0 := keep_linkAckUpTo (keep_linkGot ha2)
  exact keep_ite (fun _ => ha2) (fun _ => keep_ite (fun _ => keep_linkReplay hx0) (fun _ => hx0))

theorem keep_execLnak {q : List Instr} {m : Option (List Host.Cell)} {a0 a1 a2 : _} (ha2 : Keep q m a2) :
    KeepR q m (execLnak a0 a1 a2) := by
  unfold execLnak
  exact keepR_done (keep_live (fun _ h0 => keep_lnak h0) ha2)

theorem keep_linkReplayTimeout {q : List Instr} {m : Option (List Host.Cell)} {a0 a1 : _} (ha1 : Keep q m a1) :
    Keep q m (linkReplayTimeout a0 a1) := by
  unfold linkReplayTimeout
  split
  · exact ha1
  · exact keep_ite (fun _ => keep_linkReplay ha1) (fun _ => ha1)

theorem keep_execLinkReplayTimeout {q : List Instr} {m : Option (List Host.Cell)} {a0 a1 : _} (ha1 : Keep q m a1) :
    KeepR q m (execLinkReplayTimeout a0 a1) := by
  unfold execLinkReplayTimeout
  exact keepR_done (keep_live (fun _ h0 => keep_linkReplayTimeout h0) ha1)

theorem keep_creditTaken {q : List Instr} {m : Option (List Host.Cell)} {a0 a1 a2 a3 : _} (ha3 : Keep q m a3) :
    Keep q m (creditTaken a0 a1 a2 a3) := by
  unfold creditTaken
  extract_lets -merge +onlyGivenNames y0 y1
  exact keep_egress (keep_setLink ha3)

theorem keep_lcredit {q : List Instr} {m : Option (List Host.Cell)} {a0 a1 a2 a3 : _} (ha3 : Keep q m a3) :
    Keep q m (lcredit a0 a1 a2 a3) := by
  unfold lcredit
  exact keep_ite (fun _ => keep_creditTaken (keep_linkGot ha3)) (fun _ => ha3)

theorem keep_execLcredit {q : List Instr} {m : Option (List Host.Cell)} {a0 a1 a2 a3 : _} (ha3 : Keep q m a3) :
    KeepR q m (execLcredit a0 a1 a2 a3) := by
  unfold execLcredit
  exact keepR_done (keep_live (fun _ h0 => keep_lcredit h0) ha3)

theorem keep_linkFrameError {q : List Instr} {m : Option (List Host.Cell)} {a0 a1 a2 : _} (ha2 : Keep q m a2) :
    Keep q m (linkFrameError a0 a1 a2) := by
  unfold linkFrameError
  extract_lets -merge +onlyGivenNames y0
  exact keep_ite (fun _ => ha2) (fun _ => keep_linkNak (keep_when (keep_when (keep_setLink ha2) (fun _ h2 => keep_bump h2)) (fun _ h1 => keep_bump h1)))

theorem keep_execLinkFrameError {q : List Instr} {m : Option (List Host.Cell)} {a0 a1 a2 : _} (ha2 : Keep q m a2) :
    KeepR q m (execLinkFrameError a0 a1 a2) := by
  unfold execLinkFrameError
  exact keepR_done (keep_live (fun _ h0 => keep_linkFrameError h0) ha2)

theorem keep_hopsOut {q : List Instr} {m : Option (List Host.Cell)} {a0 a1 : _} (ha1 : Keep q m a1) :
    Keep q m (hopsOut a0 a1) := by
  unfold hopsOut
  exact keep_raiseFirst (keep_bump ha1)

theorem keep_transit {q : List Instr} {m : Option (List Host.Cell)} {a0 a1 a2 : _} (ha2 : Keep q m a2) :
    Keep q m (transit a0 a1 a2) := by
  unfold transit
  exact keep_ite (fun _ => keep_receive ha2) (fun _ => keep_ite (fun _ => keep_hopsOut ha2) (fun _ => keep_routePacket ha2))

theorem keep_replicate {q : List Instr} {m : Option (List Host.Cell)} {a0 a1 a2 : _} (ha2 : Keep q m a2) :
    Keep q m (replicate a0 a1 a2) := by
  unfold replicate
  extract_lets -merge +onlyGivenNames y0 y1 y2 y3 x4
  have hx4 : Keep q m x4 := keep_ite (fun _ => ha2) (fun _ => keep_ite (fun _ => keep_hopsOut ha2) (fun _ => keep_forEach ha2 (fun _ _ h5 => keep_place h5)))
  exact keep_ite (fun _ => keep_raise (keep_bump ha2)) (fun _ => keep_ite (fun _ => keep_raise (keep_bump ha2)) (fun _ => keep_when hx4 (fun _ h6 => keep_receive h6)))

theorem keep_gapOwes {q : List Instr} {m : Option (List Host.Cell)} {a0 a1 a2 a3 : _} (ha3 : Keep q m a3) :
    Keep q m (gapOwes a0 a1 a2 a3) := by
  unfold gapOwes
  exact keep_onTrf ha3

theorem keep_crossbar {q : List Instr} {m : Option (List Host.Cell)} {a0 a1 a2 : _} (ha2 : Keep q m a2) :
    Keep q m (crossbar a0 a1 a2) := by
  unfold crossbar
  extract_lets -merge +onlyGivenNames x0 x1
  have hx0 : Keep q m x0.2 := keep_police ha2
  have hx1 : Keep q m x1 := keep_ite (fun _ => hx0) (fun _ => keep_ite (fun _ => keep_replicate hx0) (fun _ => keep_transit hx0))
  exact keep_arrivalLeft hx1

theorem keep_ingress {q : List Instr} {m : Option (List Host.Cell)} {a0 a1 a2 a3 : _} (ha3 : Keep q m a3) :
    Keep q m (ingress a0 a1 a2 a3) := by
  unfold ingress
  extract_lets -merge +onlyGivenNames y0 y1 x2
  have hx2 : Keep q m x2 := keep_gapOwes ha3
  exact keep_ite (fun _ => keep_arrivalLeft (keep_bump ha3)) (fun _ => keep_ite (fun _ => keep_arrivalLeft ha3) (fun _ => keep_ite (fun _ => keep_arrivalLeft (keep_raise (keep_bump ha3))) (fun _ => keep_ite (fun _ => keep_ite (fun _ => keep_raiseCar (keep_bump hx2)) (fun _ => keep_crossbar (keep_setSlotUse hx2))) (fun _ => keep_crossbar ha3))))

theorem keep_ridesAlong {q : List Instr} {m : Option (List Host.Cell)} {a0 a1 a2 a3 : _} (ha3 : Keep q m a3) :
    Keep q m (ridesAlong a0 a1 a2 a3) := by
  unfold ridesAlong
  exact keep_whenSome (keep_whenSome ha3 (fun _ _ h1 => keep_linkAckUpTo h1)) (fun _ _ h0 => keep_creditTaken h0)

theorem keep_sequenced {q : List Instr} {m : Option (List Host.Cell)} {a0 a1 a2 a3 : _} (ha3 : Keep q m a3) :
    Keep q m (sequenced a0 a1 a2 a3) := by
  unfold sequenced
  extract_lets -merge +onlyGivenNames y0
  exact keep_ite (fun _ => keep_ingress (keep_linkAck (keep_setLink ha3))) (fun _ => keep_ite (fun _ => keep_linkAck (keep_setLink ha3)) (fun _ => keep_linkFrameError ha3))

theorem keep_dataFrame {q : List Instr} {a0 a1 a2 a3 a4 a5 a6 : _} (ha6 : Keep q none a6) :
    Keep q none (dataFrame a0 a1 a2 a3 a4 a5 a6) := by
  unfold dataFrame
  extract_lets -merge +onlyGivenNames x0
  have hx0 : Keep q none x0 := keep_dropWords ha6
  exact keep_ite (fun _ => hx0) (fun _ => keep_sequenced (keep_ridesAlong (keep_linkGot hx0)))

theorem keep_execDataFrame {q : List Instr} {a0 a1 a2 a3 : _} (ha3 : Keep q none a3) :
    KeepR q none (execDataFrame a0 a1 a2 a3) := by
  unfold execDataFrame
  exact keepR_done (keep_live (fun _ h0 => keep_dataFrame h0) ha3)

theorem keep_gapReturn {q : List Instr} {m : Option (List Host.Cell)} {a0 a1 : _} (ha1 : Keep q m a1) :
    Keep q m (gapReturn a0 a1) := by
  unfold gapReturn
  extract_lets -merge +onlyGivenNames y0
  exact keep_ite (fun _ => ha1) (fun _ => keep_forEach (keep_onTrf ha1) (fun _ _ h1 => keep_linkReturn h1))

theorem keep_egressSchedule {q : List Instr} {m : Option (List Host.Cell)} {a0 a1 : _} (ha1 : Keep q m a1) :
    Keep q m (egressSchedule a0 a1) := by
  unfold egressSchedule
  exact keep_egress (keep_gapReturn ha1)

theorem keep_execEgressSchedule {q : List Instr} {m : Option (List Host.Cell)} {a0 a1 : _} (ha1 : Keep q m a1) :
    KeepR q m (execEgressSchedule a0 a1) := by
  unfold execEgressSchedule
  exact keepR_done (keep_live (fun _ h0 => keep_egressSchedule h0) ha1)

/-! ### ParkImage -/

theorem keep_noteWarm {q : List Instr} {m : Option (List Host.Cell)} {a0 a1 : _} (ha1 : Keep q m a1) :
    Keep q m (noteWarm a0 a1) := by
  unfold noteWarm
  exact keep_forEach ha1 (fun _ _ h0 => keep_noteRead h0)

theorem keep_writeWarm {q : List Instr} {a0 a1 a2 a3 a4 : _} (ha4 : Keep q none a4) :
    KeepP q none (writeWarm a0 a1 a2 a3 a4) := by
  induction a3 generalizing a2 a4 with
  | zero => exact keepP_some ha4
  | succ n ih =>
    unfold writeWarm
    exact keepBindPp (keep_takeCxl ha4) (fun _ h => keepMapPp (ih h) (fun _ h => keep_writeLoc h))

/-! ### Park -/

theorem keep_parkEnter {q : List Instr} {m : Option (List Host.Cell)} {a0 a1 a2 : _} (ha2 : Keep q m a2) :
    Keep q m (parkEnter a0 a1 a2) := by
  unfold parkEnter
  exact keep_ite (fun _ => keep_onSeqd ha2) (fun _ => ha2)

theorem keep_parkStart {q : List Instr} {m : Option (List Host.Cell)} {a0 a1 a2 : _} (ha2 : Keep q m a2) :
    Keep q m (parkStart a0 a1 a2) := by
  unfold parkStart
  split
  · extract_lets -merge +onlyGivenNames y0
    clear_value y0
    split
    · exact keep_parkFail ha2
    · split
      · exact keep_parkFail ha2
      · extract_lets -merge +onlyGivenNames y1
        exact keep_parkEnter (keep_raise (keep_onPark ha2))
  · exact ha2

theorem keep_seqPark {q : List Instr} {m : Option (List Host.Cell)} {a0 a1 a2 : _} (ha2 : Keep q m a2) :
    Keep q m (seqPark a0 a1 a2) := by
  unfold seqPark
  refine keep_ite (fun _ => ?_) (fun _ => ?_)
  · exact ha2
  · refine keep_onOwnSeq ?_ ha2
    intro _ _ h0
    split
    · exact keep_completeReason h0
    · extract_lets -merge +onlyGivenNames y1 x2
      have hx2 : Keep q m x2 := keep_onPark h0
      exact keep_ite (fun _ => hx2) (fun _ => keep_parkStart hx2)

theorem keep_execSeqPark {q : List Instr} {m : Option (List Host.Cell)} {a0 a1 : _} (ha1 : Keep q m a1) :
    KeepR q m (execSeqPark a0 a1) := by
  unfold execSeqPark
  exact keepR_done (keep_live (fun _ h0 => keep_withCmd (fun _ _ h1 => keep_seqPark h1) h0) ha1)

theorem keep_checkpoint {q : List Instr} {m : Option (List Host.Cell)} {a0 a1 : _} (ha1 : Keep q m a1) :
    Keep q m (checkpoint a0 a1) := by
  unfold checkpoint
  exact keep_fireEntry (fun _ _ h0 => keep_forEach h0 (fun _ _ h1 => keep_parkStart h1)) ha1

theorem keep_execCheckpoint {q : List Instr} {m : Option (List Host.Cell)} {a0 a1 : _} (ha1 : Keep q m a1) :
    KeepR q m (execCheckpoint a0 a1) := by
  unfold execCheckpoint
  exact keepR_done (keep_live (fun _ h0 => keep_checkpoint h0) ha1)

theorem keep_noteParkRead {q : List Instr} {m : Option (List Host.Cell)} {a0 a1 a2 a3 : _} (ha3 : Keep q m a3) :
    Keep q m (noteParkRead a0 a1 a2 a3) := by
  unfold noteParkRead
  extract_lets -merge +onlyGivenNames x0
  have hx0 : Keep q m x0 := keep_notePage ha3
  exact keep_ite (fun _ => keep_digestFail hx0) (fun _ => keep_when (keep_noteKey hx0) (fun _ h1 => keep_refuseBuffer h1))

theorem keep_moveToCxl {q : List Instr} {a0 a1 a2 : _} (ha2 : Keep q none a2) :
    KeepO q none (moveToCxl a0 a1 a2) := by
  unfold moveToCxl
  refine keepMapOp (keep_takeCxl ha2) ?_
  intro _ h0
  extract_lets -merge +onlyGivenNames y1
  exact keep_moveTo (keep_beginMove h0)

theorem keep_warmMoves {q : List Instr} {a0 a1 a2 : _} (ha2 : Keep q none a2) :
    Keep q none (warmMoves a0 a1 a2).2 := by
  induction a1 generalizing a2 with
  | nil => exact ha2
  | cons x r ih =>
    unfold warmMoves
    split
    · exact keep_noteParkRead ha2
    · split
      · exact ha2
      · exact ih (keep_moveToCxl (keep_notePage ha2) _ (by assumption))

theorem keep_parkReads {q : List Instr} {m : Option (List Host.Cell)} {a0 a1 a2 a3 : _} (ha3 : Keep q m a3) :
    Keep q m (parkReads a0 a1 a2 a3).2 := by
  induction a2 generalizing a3 with
  | nil => exact ha3
  | cons x r ih =>
    unfold parkReads
    split
    · exact keep_noteParkRead ha3
    · exact ih (keep_notePage ha3)

theorem keep_warmTransfer {q : List Instr} {a0 a1 a2 : _} (ha2 : Keep q none a2) :
    Keep q none (warmTransfer a0 a1 a2).2 := by
  unfold warmTransfer
  extract_lets -merge +onlyGivenNames y0 x1
  have hx1 : Keep q none x1.2 := keep_warmMoves ha2
  clear_value y0
  split
  · exact hx1
  · exact keep_parkReads hx1

theorem keep_writeRecords {q : List Instr} {m : Option (List Host.Cell)} {a0 a1 a2 a3 a4 : _} (ha4 : Keep q m a4) :
    Keep q m (writeRecords a0 a1 a2 a3 a4) := by
  induction a3 generalizing a2 a4 with
  | nil => exact ha4
  | cons x r ih =>
    unfold writeRecords
    exact ih (keep_memWrite (keep_sealRecord ha4))

theorem keep_writeImage {q : List Instr} {m : Option (List Host.Cell)} {a0 a1 a2 a3 a4 a5 : _} (ha5 : Keep q m a5) :
    Keep q m (writeImage a0 a1 a2 a3 a4 a5) := by
  unfold writeImage
  extract_lets -merge +onlyGivenNames y0
  exact keep_ite (fun _ => keep_writeRecords ha5) (fun _ => keep_forEach (keep_hostWrite ha5) (fun _ _ h1 => keep_hostWrite h1))

theorem keep_writeHeader {q : List Instr} {m : Option (List Host.Cell)} {a0 a1 a2 a3 a4 : _} (ha4 : Keep q m a4) :
    Keep q m (writeHeader a0 a1 a2 a3 a4) := by
  unfold writeHeader
  exact keep_ite (fun _ => keep_writeRecords ha4) (fun _ => keep_hostWrite ha4)

theorem keep_parkTransfer {q : List Instr} {a0 a1 a2 a3 a4 : _} (ha4 : Keep q none a4) :
    Keep q none (parkTransfer a0 a1 a2 a3 a4) := by
  unfold parkTransfer
  extract_lets -merge +onlyGivenNames y0 x1
  have hx1 : Keep q none x1.2 := by
    unfold x1
    clear_value y0
    split
    · exact keep_warmTransfer ha4
    · exact keep_parkReads ha4
  clear_value y0
  split
  · exact keep_parkFail hx1
  · extract_lets -merge +onlyGivenNames x2 y3 y4 y5 y6 y7
    have hx2 : Keep q none x2 := hx1
    exact keep_onPark (keep_when hx2 (fun _ h8 => keep_writeImage h8))

theorem keep_parkTransferStart {q : List Instr} {a0 a1 : _} (ha1 : Keep q none a1) :
    Keep q none (parkTransferStart a0 a1) := by
  unfold parkTransferStart
  split
  · split
    · exact keep_parkFail ha1
    · exact keep_ite (fun _ => ha1) (fun _ => keep_ite (fun _ => keep_parkFail (keep_noteLost ha1)) (fun _ => keep_parkTransfer ha1))
  · exact ha1

theorem keep_execParkTransferStart {q : List Instr} {a0 a1 : _} (ha1 : Keep q none a1) :
    KeepR q none (execParkTransferStart a0 a1) := by
  unfold execParkTransferStart
  exact keepR_done (keep_live (fun _ h0 => keep_parkTransferStart h0) ha1)

theorem keep_coldPage {q : List Instr} {a0 a1 : _} (ha1 : Keep q none a1) :
    Keep q none (coldPage a0 a1) := by
  unfold coldPage
  split
  · exact ha1
  · exact keep_when (keep_freeLoc (keep_onPage (keep_onFox (keep_when (keep_releaseRow ha1) (fun _ h1 => keep_indexRemove h1))))) (fun _ h0 => keep_slotLeft h0)

theorem keep_clearLeaf {q : List Instr} {m : Option (List Host.Cell)} {a0 a1 a2 a3 a4 : _} (ha4 : Keep q m a4) :
    Keep q m (clearLeaf a0 a1 a2 a3 a4) := by
  unfold clearLeaf
  exact keep_unref (keep_onLayer ha4)

theorem keep_fixCold {q : List Instr} {m : Option (List Host.Cell)} {a0 a1 : _} (ha1 : Keep q m a1) :
    Keep q m (fixCold a0 a1) := by
  unfold fixCold
  extract_lets -merge +onlyGivenNames y0
  exact keep_onSeqd ha1

theorem keep_coldPages {q : List Instr} {a0 a1 a2 : _} (ha2 : Keep q none a2) :
    Keep q none (coldPages a0 a1 a2) := by
  unfold coldPages
  extract_lets -merge +onlyGivenNames x0
  have hx0 : Keep q none x0 := keep_forEach ha2 (fun _ _ h1 => keep_ite (fun _ => keep_coldPage h1) (fun _ => keep_clearLeaf h1))
  exact keep_fixCold (keep_forEach hx0 (fun _ _ h2 => keep_fixSplit h2))

theorem keep_parkDone {q : List Instr} {m : Option (List Host.Cell)} {a0 a1 a2 a3 a4 : _} (ha4 : Keep q m a4) :
    Keep q m (parkDone a0 a1 a2 a3 a4) := by
  unfold parkDone
  exact keep_complete (keep_raise (keep_onPark ha4))

theorem keep_warmEnd {q : List Instr} {a0 a1 a2 a3 a4 : _} (ha4 : Keep q none a4) :
    Keep q none (warmEnd a0 a1 a2 a3 a4) := by
  unfold warmEnd
  split
  · exact keep_parkFail ha4
  · exact keep_parkDone (keep_onSeqd (keep_onPark ((keep_writeWarm ha4) (_, _) (by assumption))))

theorem keep_parkComplete {q : List Instr} {a0 a1 : _} (ha1 : Keep q none a1) :
    Keep q none (parkComplete a0 a1) := by
  unfold parkComplete
  split
  · split
    · exact keep_parkFail ha1
    · extract_lets -merge +onlyGivenNames y0
      exact keep_ite (fun _ => ha1) (fun _ => keep_ite (fun _ => keep_parkDone ha1) (fun _ => keep_ite (fun _ => keep_warmEnd ha1) (fun _ => keep_ite (fun _ => keep_parkDone (keep_onSeqd (keep_coldPages (keep_writeHeader ha1)))) (fun _ => keep_parkDone (keep_writeHeader ha1)))))
  · exact ha1

theorem keep_execParkComplete {q : List Instr} {a0 a1 : _} (ha1 : Keep q none a1) :
    KeepR q none (execParkComplete a0 a1) := by
  unfold execParkComplete
  exact keepR_done (keep_live (fun _ h0 => keep_parkComplete h0) ha1)

theorem keep_noteXfer {q : List Instr} {m : Option (List Host.Cell)} {a0 a1 a2 a3 : _} (ha3 : Keep q m a3) :
    Keep q m (noteXfer a0 a1 a2 a3) := by
  unfold noteXfer
  extract_lets -merge +onlyGivenNames y0
  exact keep_forEach (keep_noteWarm ha3) (fun _ _ h1 => keep_whenSome h1 (fun _ _ h2 => keep_notePage h2))

theorem keep_parkXfer {q : List Instr} {m : Option (List Host.Cell)} {a0 a1 a2 a3 : _} (ha3 : Keep q m a3) :
    Keep q m (parkXfer a0 a1 a2 a3) := by
  unfold parkXfer
  extract_lets -merge +onlyGivenNames y0 y1 y2
  clear_value y0 y1 y2
  split
  · exact keep_nakMsg (keep_noteKeyAt ha3)
  · exact ha3
  · extract_lets -merge +onlyGivenNames x3
    have hx3 : Keep q m x3 := keep_noteXfer ha3
    exact keep_ite (fun _ => keep_respond hx3) (fun _ => keep_nakMsg hx3)

theorem keep_execParkXfer {q : List Instr} {m : Option (List Host.Cell)} {a0 a1 a2 : _} (ha2 : Keep q m a2) :
    KeepR q m (execParkXfer a0 a1 a2) := by
  unfold execParkXfer
  exact keepR_done (keep_live (fun _ h0 => keep_withMsg (fun _ _ h1 => keep_parkXfer h1) h0) ha2)

/-! ### Resume -/

theorem keep_resumeRefuse {q : List Instr} {m : Option (List Host.Cell)} {a0 a1 a2 a3 a4 a5 : _} (ha5 : Keep q m a5) :
    Keep q m (resumeRefuse a0 a1 a2 a3 a4 a5) := by
  unfold resumeRefuse
  exact keep_completeReason (keep_noteKeyAt (keep_raise ha5))

theorem keep_acceptSource {q : List Instr} {a0 a1 a2 : _} (ha2 : Keep q none a2) :
    KeepE q none (acceptSource a0 a1 a2) := by
  unfold acceptSource
  extract_lets -merge +onlyGivenNames y0 y1 f2
  have hf : ∀ t, Keep q none t → Keep q none (f2 t) := fun _ h => keep_onPark h
  clear_value y0 y1 f2
  split
  · exact keepE_ok (hf _ (keep_setSeq ha2))
  · split
    · exact keepE_error
    · split
      · exact keepE_error
      · exact keepE_ok (hf _ (keep_setSeq (keep_takeSeqTables ha2 (_, _, _) (by assumption))))

theorem keep_askPiece {q : List Instr} {m : Option (List Host.Cell)} {a0 a1 a2 a3 : _} (ha3 : Keep q m a3) :
    Keep q m (askPiece a0 a1 a2 a3) := by
  unfold askPiece
  extract_lets -merge +onlyGivenNames y0
  clear_value y0
  split
  · exact ha3
  · extract_lets -merge +onlyGivenNames y1
    exact keep_ite (fun _ => keep_sendOp (keep_windowOpen (keep_freeTaken ha3))) (fun _ => ha3)

theorem keep_askStage {q : List Instr} {m : Option (List Host.Cell)} {a0 a1 : _} (ha1 : Keep q m a1) :
    Keep q m (askStage a0 a1) := by
  unfold askStage
  split
  · exact ha1
  · extract_lets -merge +onlyGivenNames y0
    refine keep_ite (fun _ => ?_) (fun _ => ?_)
    · exact ha1
    · refine keep_forEach ha1 ?_
      intro _ _ h1
      extract_lets -merge +onlyGivenNames y2
      exact keep_when h1 (fun _ h3 => keep_hostReadRaw h3)

theorem keep_markImported {q : List Instr} {m : Option (List Host.Cell)} {a0 a1 a2 : _} (ha2 : Keep q m a2) :
    Keep q m (markImported a0 a1 a2) := by
  unfold markImported
  exact keep_onPark ha2

theorem keep_unmarkImported {q : List Instr} {m : Option (List Host.Cell)} {a0 a1 a2 : _} (ha2 : Keep q m a2) :
    Keep q m (unmarkImported a0 a1 a2) := by
  unfold unmarkImported
  exact keep_onPark ha2

theorem keep_refillPage {q : List Instr} {m : Option (List Host.Cell)} {a0 a1 a2 a3 : _} (ha3 : Keep q m a3) :
    KeepO q m (refillPage a0 a1 a2 a3) := by
  unfold refillPage
  extract_lets -merge +onlyGivenNames f0
  have hf0 : ∀ y0 y1, Keep q m y1 → Keep q m (f0 y0 y1) := fun _ _ h1 => keep_onPage h1
  split
  · exact keepO_some (hf0 _ _ ((keep_takeHbm ha3) (_, _) (by assumption)))
  · split
    · exact keepMapOp (keep_takeCxl ha3) (fun _ h2 => keep_raiseCar (keep_bump (hf0 _ _ h2)))
    · exact keepO_none

theorem keep_landPage {q : List Instr} {a0 a1 a2 a3 a4 a5 : _} (ha5 : Keep q none a5) :
    Keep q none (landPage a0 a1 a2 a3 a4 a5) := by
  unfold landPage
  extract_lets -merge +onlyGivenNames x0
  have hx0 : Keep q none x0 := keep_setLeaf (keep_onPage ha5)
  split
  · exact hx0
  · exact keep_when (keep_when hx0 (fun _ h2 => keep_bindRow h2)) (fun _ h1 => keep_indexInsert h1)

theorem keep_entryPage {q : List Instr} {a0 a1 a2 a3 a4 : _} (ha4 : Keep q none a4) (r : Nat × Bool × State)
    (h : entryPage a0 a1 a2 a3 a4 = .ok r) : Keep q none r.2.2 := by
  unfold entryPage at h
  extract_lets -merge +onlyGivenNames r0 ords at h
  split at h
  · cases h
  · rename_i r' s1 heq
    extract_lets -merge +onlyGivenNames s2 fresh at h
    have h2 : Keep q none s2 := keep_onLayer (keep_growLayer ha4 (_, _) heq)
    have hf : ∀ t, Keep q none t → ∀ y, fresh t = .ok y → Keep q none y.2.2 := by
      intro t ht y hy
      unfold fresh at hy
      split at hy
      · cases hy
        exact keep_allocPage ht (_, _) (by assumption)
      · cases hy
    clear_value s2 fresh
    split at h
    · exact hf _ h2 _ h
    · split at h
      · split at h
        · cases h
          exact keep_refillPage h2 _ (by assumption)
        · cases h
      · exact hf _ (keep_pageFree (keep_clearLeaf h2)) _ h

theorem keep_importEntry {q : List Instr} {a0 a1 a2 a3 a4 a5 a6 : _} (ha6 : Keep q none a6) :
    KeepX q none (importEntry a0 a1 a2 a3 a4 a5 a6) := by
  unfold importEntry
  split
  · exact keepX_ok ha6
  · extract_lets -merge +onlyGivenNames y0
    clear_value y0
    split
    · exact keepX_ok ha6
    · split
      · exact keepX_error
      · split
        · exact keepX_error
        · split
          · exact keepX_error
          · extract_lets -merge +onlyGivenNames y1
            clear_value y1
            split
            · exact keepX_error
            · refine keepX_ok (keep_landPage (keep_writeSlots ?_ _ (by assumption)))
              exact keep_entryPage ha6 (_, _, _) (by assumption)

theorem keep_releaseImported {q : List Instr} {a0 a1 a2 : _} (ha2 : Keep q none a2) :
    Keep q none (releaseImported a0 a1 a2) := by
  unfold releaseImported
  refine keep_forEach ha2 ?_
  intro _ _ h0
  extract_lets -merge +onlyGivenNames x1
  have hx1 : Keep q none x1 := keep_unmarkImported h0
  exact keep_ite (fun _ => keep_coldPage hx1) (fun _ => keep_pageFree (keep_clearLeaf hx1))

theorem keep_importAll {q : List Instr} {a0 a1 a2 a3 a4 a5 : _} (ha5 : Keep q none a5) :
    Keep q none (importAll a0 a1 a2 a3 a4 a5).2.2 := by
  induction a3 generalizing a4 a5 with
  | nil => exact ha5
  | cons x r ih =>
    unfold importAll
    split
    · exact ha5
    · split
      · exact ha5
      · exact ih (keep_importEntry ha5 (_, _) (by assumption))

theorem keep_resumeLast {q : List Instr} {m : Option (List Host.Cell)} {a0 a1 a2 : _} (ha2 : Keep q m a2) :
    Keep q m (resumeLast a0 a1 a2) := by
  unfold resumeLast
  split
  · exact ha2
  · extract_lets -merge +onlyGivenNames y0
    clear_value y0
    split
    · extract_lets -merge +onlyGivenNames y1 y2
      exact keep_ite (fun _ => keep_complete (keep_raise ha2)) (fun _ => keep_complete (keep_raise (keep_onPark (keep_dropWarm (keep_onSeqd ha2)))))
    · exact keep_completeReason ha2

theorem keep_countImported {q : List Instr} {m : Option (List Host.Cell)} {a0 a1 a2 : _} (ha2 : Keep q m a2) :
    Keep q m (countImported a0 a1 a2) := by
  unfold countImported
  exact keep_onPark ha2

theorem keep_fixCounts {q : List Instr} {m : Option (List Host.Cell)} {a0 a1 : _} (ha1 : Keep q m a1) :
    Keep q m (fixCounts a0 a1) := by
  unfold fixCounts
  exact keep_fixCold (keep_forEach ha1 (fun _ _ h0 => keep_fixSplit h0))

theorem keep_sourceDone {q : List Instr} {m : Option (List Host.Cell)} {a0 a1 a2 a3 : _} (ha3 : Keep q m a3) :
    Keep q m (sourceDone a0 a1 a2 a3) := by
  unfold sourceDone
  extract_lets -merge +onlyGivenNames x0
  have hx0 : Keep q m x0 := keep_countImported ha3
  exact keep_ite (fun _ => keep_resumeLast hx0) (fun _ => keep_complete hx0)

theorem keep_noteImport {q : List Instr} {m : Option (List Host.Cell)} {a0 a1 a2 : _} (ha2 : Keep q m a2) :
    Keep q m (noteImport a0 a1 a2) := by
  unfold noteImport
  exact keep_when (keep_when ha2 (fun _ h1 => keep_refuseBuffer h1)) (fun _ h0 => keep_raise h0)

theorem keep_importSource {q : List Instr} {a0 a1 a2 a3 a4 : _} (ha4 : Keep q none a4) :
    Keep q none (importSource a0 a1 a2 a3 a4) := by
  unfold importSource
  extract_lets -merge +onlyGivenNames y0 x1 y2
  have hx1 : Keep q none x1.2.2 := keep_importAll ha4
  clear_value y0 y2
  split
  · exact keep_sourceDone (keep_fixCounts hx1)
  · exact keep_ite (fun _ => keep_resumeRefuse (keep_fixCounts (keep_releaseImported hx1))) (fun _ => keep_complete (keep_noteImport (keep_countImported (keep_fixCounts hx1))))

theorem keep_arrayDone {q : List Instr} {a0 a1 a2 a3 a4 : _} (ha4 : Keep q none a4) :
    Keep q none (arrayDone a0 a1 a2 a3 a4) := by
  unfold arrayDone
  extract_lets -merge +onlyGivenNames y0
  clear_value y0
  split
  · exact keep_completeReason ha4
  · exact keep_resumeRefuse ha4
  · split
    · exact keep_completeReason ha4
    · extract_lets -merge +onlyGivenNames y1
      exact keep_askStage (keep_setCmd ((keep_acceptSource ha4) _ (by assumption)))

theorem keep_pagesDone {q : List Instr} {a0 a1 a2 a3 a4 : _} (ha4 : Keep q none a4) :
    Keep q none (pagesDone a0 a1 a2 a3 a4) := by
  unfold pagesDone
  extract_lets -merge +onlyGivenNames y0
  clear_value y0
  refine keep_ite (fun _ => ?_) (fun _ => ?_)
  · exact ha4
  · split
    · exact keep_recordLost ha4
    · exact keep_importSource ha4

theorem keep_stageDone {q : List Instr} {a0 a1 a2 : _} (ha2 : Keep q none a2) :
    Keep q none (stageDone a0 a1 a2) := by
  unfold stageDone
  split
  · exact keep_recordLost ha2
  · refine keep_ite (fun _ => ?_) (fun _ => ?_)
    · split
      · exact keep_resumeRefuse ha2
      · exact keep_askStage (keep_setCmd ha2)
    · split
      · exact keep_recordLost ha2
      · exact keep_ite (fun _ => keep_arrayDone ha2) (fun _ => keep_pagesDone ha2)

theorem keep_warmBack {q : List Instr} {a0 a1 a2 : _} (ha2 : Keep q none a2) :
    Keep q none (warmBack a0 a1 a2) := by
  unfold warmBack
  split
  · exact ha2
  · extract_lets -merge +onlyGivenNames x0
    have hx0 : Keep q none x0 := by
      unfold x0
      refine keep_ite (fun _ => ?_) (fun _ => ?_)
      · split
        · extract_lets -merge +onlyGivenNames y1
          exact keep_moveTo (keep_beginMove ((keep_takeHbm ha2) (_, _) (by assumption)))
        · exact ha2
      · exact ha2
    split
    · exact keep_when hx0 (fun _ h2 => keep_bindRow h2)
    · exact hx0

theorem keep_noteWarmFail {q : List Instr} {m : Option (List Host.Cell)} {a0 a1 a2 : _} (ha2 : Keep q m a2) :
    Keep q m (noteWarmFail a0 a1 a2) := by
  unfold noteWarmFail
  exact keep_ite (fun _ => keep_digestFail ha2) (fun _ => ha2)

theorem keep_warmAll {q : List Instr} {a0 a1 a2 a3 a4 : _} (ha4 : Keep q none a4) :
    Keep q none (warmAll a0 a1 a2 a3 a4).2.2 := by
  induction a2 generalizing a3 a4 with
  | nil => exact ha4
  | cons x r ih =>
    unfold warmAll
    extract_lets -merge +onlyGivenNames y0 x0
    have hx0 : Keep q none x0 := by
      unfold x0
      split
      · exact keep_notePage ha4
      · exact ha4
    split
    · exact ih (keep_markImported (keep_warmBack hx0))
    · exact keep_noteWarmFail hx0

theorem keep_warmSlice {q : List Instr} {a0 a1 a2 a3 : _} (ha3 : Keep q none a3) :
    Keep q none (warmSlice a0 a1 a2 a3) := by
  unfold warmSlice
  extract_lets -merge +onlyGivenNames y0 y1 x2
  have hx2 : Keep q none x2.2.2 := keep_warmAll ha3
  exact keep_ite (fun _ => keep_complete (keep_refuseBuffer ha3)) (fun _ => keep_ite (fun _ => keep_complete hx2) (fun _ => keep_resumeRefuse hx2))

theorem keep_warmImport {q : List Instr} {a0 a1 a2 a3 a4 a5 : _} (ha5 : Keep q none a5) :
    Keep q none (warmImport a0 a1 a2 a3 a4 a5) := by
  unfold warmImport
  extract_lets -merge +onlyGivenNames y0 y1 y2 x3
  have hx3 : Keep q none x3.2.2 := keep_warmAll ha5
  exact keep_ite (fun _ => keep_complete (keep_refuseBuffer ha5)) (fun _ => keep_ite (fun _ => keep_sourceDone hx3) (fun _ => keep_resumeRefuse (keep_fixCounts (keep_releaseImported hx3))))

theorem keep_warmWhole {q : List Instr} {a0 a1 a2 a3 : _} (ha3 : Keep q none a3) :
    Keep q none (warmWhole a0 a1 a2 a3) := by
  unfold warmWhole
  extract_lets -merge +onlyGivenNames y0 x1 y2 y3 y4
  have hx1 : Keep q none x1 := keep_noteWarm ha3
  clear_value y0 y2 y3 y4
  refine keep_ite (fun _ => ?_) (fun _ => ?_)
  · exact keep_resumeRefuse hx1
  · split
    · exact keep_resumeRefuse hx1
    · exact keep_resumeRefuse hx1
    · split
      · exact keep_completeReason hx1
      · exact keep_whenSome ((keep_acceptSource hx1) _ (by assumption)) (fun _ _ h5 => keep_warmImport h5)

theorem keep_resumeWarm {q : List Instr} {a0 a1 a2 : _} (ha2 : Keep q none a2) :
    Keep q none (resumeWarm a0 a1 a2) := by
  unfold resumeWarm
  extract_lets -merge +onlyGivenNames y0
  clear_value y0
  refine keep_ite (fun _ => ?_) (fun _ => ?_)
  · split
    · exact keep_warmSlice ha2
    · exact ha2
  · split
    · exact keep_warmWhole ha2
    · exact keep_completeReason ha2

theorem keep_resumeBegin {q : List Instr} {a0 a1 a2 : _} (ha2 : Keep q none a2) :
    Keep q none (resumeBegin a0 a1 a2) := by
  unfold resumeBegin
  split
  · exact keep_completeReason ha2
  · exact keep_ite (fun _ => keep_complete (keep_freeSeq ha2)) (fun _ => keep_ite (fun _ => keep_resumeLast ha2) (fun _ => keep_ite (fun _ => keep_ite (fun _ => keep_resumeWarm ha2) (fun _ => ha2)) (fun _ => keep_askStage (keep_setCmd ha2))))

theorem keep_seqResume {q : List Instr} {a0 a1 a2 : _} (ha2 : Keep q none a2) :
    Keep q none (seqResume a0 a1 a2) := by
  unfold seqResume
  extract_lets -merge +onlyGivenNames y0
  clear_value y0
  refine keep_ite (fun _ => ?_) (fun _ => ?_)
  · exact keep_resumeBegin ha2
  · refine keep_ite (fun _ => ?_) (fun _ => ?_)
    · exact keep_ite (fun _ => keep_stageDone ha2) (fun _ => ha2)
    · refine keep_ite (fun _ => ?_) (fun _ => ?_)
      · exact ha2
      · split
        · exact keep_askPiece ha2
        · exact keep_stageDone ha2

theorem keep_execSeqResume {q : List Instr} {a0 a1 : _} (ha1 : Keep q none a1) :
    KeepR q none (execSeqResume a0 a1) := by
  unfold execSeqResume
  exact keepR_done (keep_live (fun _ h0 => keep_withCmd (fun _ _ h1 => keep_seqResume h1) h0) ha1)

/-! ### Tables -/

theorem keep_tableBusy {q : List Instr} {m : Option (List Host.Cell)} {a0 a1 a2 a3 : _} (ha3 : Keep q m a3) :
    Keep q m (tableBusy a0 a1 a2 a3) := by
  unfold tableBusy
  extract_lets -merge +onlyGivenNames y0 y1
  exact keep_complete (keep_raise ha3)

theorem keep_installDone {q : List Instr} {m : Option (List Host.Cell)} {a0 a1 a2 a3 : _} (ha3 : Keep q m a3) :
    Keep q m (installDone a0 a1 a2 a3) := by
  unfold installDone
  extract_lets -merge +onlyGivenNames y0 y1 y2 y3 y4
  exact keep_ite (fun _ => keep_completeReason ha3) (fun _ => keep_ite (fun _ => ha3) (fun _ => keep_complete (keep_raise (keep_onSeq ha3))))

theorem keep_installAccept {q : List Instr} {m : Option (List Host.Cell)} {a0 a1 a2 a3 : _} (ha3 : Keep q m a3) :
    Keep q m (installAccept a0 a1 a2 a3) := by
  unfold installAccept
  extract_lets -merge +onlyGivenNames y0 y1 y2
  clear_value y0 y1 y2
  refine keep_ite (fun _ => ?_) (fun _ => ?_)
  · exact keep_completeReason ha3
  · refine keep_ite (fun _ => ?_) (fun _ => ?_)
    · exact keep_completeReason ha3
    · refine keep_ite (fun _ => ?_) (fun _ => ?_)
      · exact keep_complete ha3
      · refine keep_ite (fun _ => ?_) (fun _ => ?_)
        · exact ha3
        · split
          · exact keep_tableBusy ha3
          · extract_lets -merge +onlyGivenNames y3
            exact keep_fetchTo (fun _ _ h4 => keep_installDone h4) ha3

theorem keep_tableInstall {q : List Instr} {m : Option (List Host.Cell)} {a0 a1 a2 : _} (ha2 : Keep q m a2) :
    Keep q m (tableInstall a0 a1 a2) := by
  unfold tableInstall
  extract_lets -merge +onlyGivenNames y0
  exact keep_ite (fun _ => keep_complete ha2) (fun _ => keep_ite (fun _ => ha2) (fun _ => keep_ite (fun _ => keep_fetchTo (fun _ _ h1 => keep_installDone h1) ha2) (fun _ => keep_fetchTo (fun _ _ h2 => keep_installAccept h2) ha2)))

theorem keep_execTableInstall {q : List Instr} {m : Option (List Host.Cell)} {a0 a1 : _} (ha1 : Keep q m a1) :
    KeepR q m (execTableInstall a0 a1) := by
  unfold execTableInstall
  exact keepR_done (keep_live (fun _ h0 => keep_withCmd (fun _ _ h1 => keep_tableInstall h1) h0) ha1)

theorem keep_tableRemove {q : List Instr} {m : Option (List Host.Cell)} {a0 a1 a2 : _} (ha2 : Keep q m a2) :
    Keep q m (tableRemove a0 a1 a2) := by
  unfold tableRemove
  extract_lets -merge +onlyGivenNames y0 y1
  clear_value y0 y1
  split
  · exact keep_ite (fun _ => keep_completeReason ha2) (fun _ => keep_complete ha2)
  · extract_lets -merge +onlyGivenNames x2 y3
    have hx2 : Keep q m x2 := keep_onSeq ha2
    exact keep_ite (fun _ => keep_completeReason ha2) (fun _ => keep_ite (fun _ => keep_completeReason ha2) (fun _ => keep_complete (keep_when hx2 (fun _ h4 => keep_onSeq h4))))

theorem keep_execTableRemove {q : List Instr} {m : Option (List Host.Cell)} {a0 a1 : _} (ha1 : Keep q m a1) :
    KeepR q m (execTableRemove a0 a1) := by
  unfold execTableRemove
  exact keepR_done (keep_live (fun _ h0 => keep_withCmd (fun _ _ h1 => keep_tableRemove h1) h0) ha1)

/-! ### Tiers -/

theorem keep_logGrow {q : List Instr} {m : Option (List Host.Cell)} {a0 a1 a2 : _} (ha2 : Keep q m a2) :
    KeepO q m (logGrow a0 a1 a2) := by
  unfold logGrow
  split
  · exact keepO_none
  · exact keepMapOp (keep_takeMany ha2) (fun _ h0 => h0)

theorem keep_logShrink {q : List Instr} {m : Option (List Host.Cell)} {a0 a1 : _} (ha1 : Keep q m a1) :
    Keep q m (logShrink a0 a1) := by
  unfold logShrink
  exact keep_forEach ha1 (fun _ _ h0 => keep_freeLoc h0)

theorem keep_logFull {q : List Instr} {m : Option (List Host.Cell)} {a0 a1 a2 a3 a4 : _} (ha4 : Keep q m a4) :
    Keep q m (logFull a0 a1 a2 a3 a4) := by
  unfold logFull
  extract_lets -merge +onlyGivenNames y0
  exact keep_ackMsg (keep_notice (keep_raise (keep_onPark (keep_bump ha4))))

theorem keep_appendShadow {q : List Instr} {m : Option (List Host.Cell)} {a0 a1 a2 a3 : _} (ha3 : Keep q m a3) :
    Keep q m (appendShadow a0 a1 a2 a3) := by
  unfold appendShadow
  extract_lets -merge +onlyGivenNames y0
  clear_value y0
  split
  · exact keep_ite (fun _ => keep_nakMsg ha3) (fun _ => keep_ackMsg ha3)
  · extract_lets -merge +onlyGivenNames y1 x2
    have hx2 : Keep q m x2 := keep_when ha3 (fun _ h3 => keep_freeTaken h3)
    clear_value y1
    refine keep_ite (fun _ => ?_) (fun _ => ?_)
    · exact keep_ackMsg ha3
    · split
      · exact keep_logFull hx2
      · exact keep_ackMsg (keep_onPark ((keep_logGrow hx2) _ (by assumption)))

theorem keep_execAppendShadow {q : List Instr} {m : Option (List Host.Cell)} {a0 a1 a2 : _} (ha2 : Keep q m a2) :
    KeepR q m (execAppendShadow a0 a1 a2) := by
  unfold execAppendShadow
  exact keepR_done (keep_live (fun _ h0 => keep_withMsg (fun _ _ h1 => keep_appendShadow h1) h0) ha2)

theorem keep_logRead {q : List Instr} {m : Option (List Host.Cell)} {a0 a1 a2 : _} (ha2 : Keep q m a2) :
    Keep q m (logRead a0 a1 a2) := by
  unfold logRead
  extract_lets -merge +onlyGivenNames y0 y1 y2 y3 x4 y6 y7
  have hx4 : Keep q m x4 := keep_forEach ha2 (fun _ _ h5 => keep_noteRead h5)
  exact keep_ite (fun _ => keep_complete ha2) (fun _ => keep_ite (fun _ => keep_complete hx4) (fun _ => keep_complete (keep_hostWrite hx4)))

theorem keep_execLogRead {q : List Instr} {m : Option (List Host.Cell)} {a0 a1 : _} (ha1 : Keep q m a1) :
    KeepR q m (execLogRead a0 a1) := by
  unfold execLogRead
  exact keepR_done (keep_live (fun _ h0 => keep_withCmd (fun _ _ h1 => keep_logRead h1) h0) ha1)

theorem keep_logTrim {q : List Instr} {m : Option (List Host.Cell)} {a0 a1 a2 : _} (ha2 : Keep q m a2) :
    Keep q m (logTrim a0 a1 a2) := by
  unfold logTrim
  extract_lets -merge +onlyGivenNames y0 y1 y2 y3 y4 x5
  have hx5 : Keep q m x5 := keep_onPark ha2
  exact keep_ite (fun _ => keep_complete ha2) (fun _ => keep_complete (keep_logShrink hx5))

theorem keep_execLogTrim {q : List Instr} {m : Option (List Host.Cell)} {a0 a1 : _} (ha1 : Keep q m a1) :
    KeepR q m (execLogTrim a0 a1) := by
  unfold execLogTrim
  exact keepR_done (keep_live (fun _ h0 => keep_withCmd (fun _ _ h1 => keep_logTrim h1) h0) ha1)

theorem keep_ageTick {q : List Instr} {m : Option (List Host.Cell)} {a0 : _} (ha0 : Keep q m a0) :
    Keep q m (ageTick a0) := by
  unfold ageTick
  exact keep_ite (fun _ => keep_onSeq (keep_onPark ha0)) (fun _ => ha0)

theorem keep_execAgeTick {q : List Instr} {m : Option (List Host.Cell)} {a0 : _} (ha0 : Keep q m a0) :
    KeepR q m (execAgeTick a0) := by
  unfold execAgeTick
  exact keepR_done (keep_live (fun _ h0 => keep_ageTick h0) ha0)

theorem keep_demoteOne {q : List Instr} {m : Option (List Host.Cell)} {a0 a1 a2 a3 : _} (ha3 : Keep q m a3) :
    Keep q m (demoteOne a0 a1 a2 a3) := by
  unfold demoteOne
  extract_lets -merge +onlyGivenNames y0 x1
  have hx1 : Keep q m x1 := keep_onPark (keep_when ha3 (fun _ h2 => keep_raiseFirst h2))
  clear_value y0
  split
  · exact keep_raise (keep_onPark hx1)
  · extract_lets -merge +onlyGivenNames y3
    exact keep_beginMove ((keep_takeCxl hx1) (_, _) (by assumption))

theorem keep_demote {q : List Instr} {m : Option (List Host.Cell)} {a0 a1 : _} (ha1 : Keep q m a1) :
    Keep q m (demote a0 a1) := by
  unfold demote
  extract_lets -merge +onlyGivenNames x0
  have hx0 : Keep q m x0 := keep_onPark ha1
  split
  · exact hx0
  · exact keep_whenSome hx0 (fun _ _ h1 => keep_demoteOne h1)

theorem keep_execDemote {q : List Instr} {m : Option (List Host.Cell)} {a0 a1 : _} (ha1 : Keep q m a1) :
    KeepR q m (execDemote a0 a1) := by
  unfold execDemote
  exact keepR_done (keep_live (fun _ h0 => keep_demote h0) ha1)

theorem keep_promote {q : List Instr} {m : Option (List Host.Cell)} {a0 a1 : _} (ha1 : Keep q m a1) :
    Keep q m (promote a0 a1) := by
  unfold promote
  split
  · exact ha1
  · extract_lets -merge +onlyGivenNames f0
    have hf0 : ∀ y0, Keep q m y0 → Keep q m (f0 y0) := fun _ h1 => keep_onPark h1
    split
    · exact hf0 _ ha1
    · extract_lets -merge +onlyGivenNames y2
      clear_value y2
      refine keep_ite (fun _ => ?_) (fun _ => ?_)
      · exact ha1
      · refine keep_ite (fun _ => ?_) (fun _ => ?_)
        · exact hf0 _ ha1
        · split
          · exact hf0 _ ha1
          · exact keep_beginMove (hf0 _ ((keep_takeFrom ha1) (_, _) (by assumption)))

theorem keep_execPromote {q : List Instr} {m : Option (List Host.Cell)} {a0 a1 : _} (ha1 : Keep q m a1) :
    KeepR q m (execPromote a0 a1) := by
  unfold execPromote
  exact keepR_done (keep_live (fun _ h0 => keep_promote h0) ha1)

/-! ### Serve -/

theorem keep_changeCmd {q : List Instr} {a0 a1 a2 a3 : _} (ha3 : Keep q none a3) :
    Keep q none (changeCmd a0 a1 a2 a3) := by
  unfold changeCmd
  split
  · exact keep_pageCopy ha3
  · exact keep_seqFree ha3
  · exact keep_seqFork ha3
  · exact keep_seqFreeze ha3
  · exact keep_seqThaw ha3
  · exact keep_pageLink ha3
  · exact keep_appendCmd ha3
  · exact ha3

theorem keep_resumeWaiter {q : List Instr} {a0 a1 : _} (ha1 : Keep q none a1) :
    Keep q none (resumeWaiter a0 a1) := by
  unfold resumeWaiter
  split
  · split
    · exact keep_withCmd (fun _ _ h0 => keep_changeCmd h0) ha1
    · exact keep_dropWait ha1
  · exact keep_ite (fun _ => keep_withMsg (fun _ _ h1 => keep_fabricAppend h1) ha1) (fun _ => keep_dropWait ha1)

theorem keep_sequenceChangeResume {q : List Instr} {a0 a1 : _} (ha1 : Keep q none a1) :
    Keep q none (sequenceChangeResume a0 a1) := by
  unfold sequenceChangeResume
  split
  · exact keep_ite (fun _ => ha1) (fun _ => keep_resumeWaiter ha1)
  · exact ha1

theorem keep_execSequenceChangeResume {q : List Instr} {a0 a1 : _} (ha1 : Keep q none a1) :
    KeepR q none (execSequenceChangeResume a0 a1) := by
  unfold execSequenceChangeResume
  exact keepR_done (keep_live (fun _ h0 => keep_sequenceChangeResume h0) ha1)

theorem keep_serveMsg {q : List Instr} {a0 a1 : _} (ha1 : Keep q none a1) :
    Keep q none (serveMsg a0 a1) := by
  unfold serveMsg
  split
  · exact ha1
  · split
    · exact keep_attnReq ha1
    · exact keep_attnPart ha1
    · exact keep_withMsg (fun _ _ h0 => keep_fabricAppend h0) ha1
    · exact keep_withMsg (fun _ _ h1 => keep_appendShadow h1) ha1
    · exact keep_rmaWrite ha1
    · exact keep_rmaRead ha1
    · exact keep_withMsg (fun _ _ h2 => keep_parkXfer h2) ha1
    · exact ha1

theorem keep_releaseMsgs {q : List Instr} {a0 : _} (ha0 : Keep q none a0) :
    Keep q none (releaseMsgs a0) := by
  unfold releaseMsgs
  extract_lets -merge +onlyGivenNames y0
  exact keep_forEach (keep_onPrt ha0) (fun _ _ h1 => keep_serveMsg h1)

theorem keep_releaseCmds {q : List Instr} {m : Option (List Host.Cell)} {a0 : _} (ha0 : Keep q m a0) :
    Keep q m (releaseCmds a0) := by
  unfold releaseCmds
  exact keep_onQue ha0

theorem keep_staleCmds {q : List Instr} {m : Option (List Host.Cell)} {a0 : _} (ha0 : Keep q m a0) :
    Keep q m (staleCmds a0) := by
  unfold staleCmds
  exact keep_onQue ha0

end Sys2Proof.Machine
end

