-- ==== Sys2Proof/Laws/KeepNode.lean ====
section
/-! SUPPORT. The operations of faults, security, switches, start-up, shutdown and register accesses keep the queue of commands and a sound state. -/

namespace Sys2Proof.Machine

open Sys2Proof

/-! ### Selftest -/

theorem keep_itemEvents {q : List Instr} {m : Option (List Host.Cell)} {a0 a1 a2 a3 : _} (ha3 : Keep q m a3) :
    Keep q m (itemEvents a0 a1 a2 a3) := by
  unfold itemEvents
  split
  · exact keep_forEach ha3 (fun _ _ h0 => keep_raise h0)
  · exact keep_raise ha3
  · exact keep_ite (fun _ => keep_raise (keep_setRg ha3)) (fun _ => ha3)
  · exact ha3

theorem keep_runItems {q : List Instr} {m : Option (List Host.Cell)} {a0 a1 a2 a3 : _} (ha3 : Keep q m a3) :
    Keep q m (runItems a0 a1 a2 a3) := by
  unfold runItems
  extract_lets -merge +onlyGivenNames y0 y1
  exact keep_onStart (keep_setRg (keep_setRg (keep_setRg (keep_forEach ha3 (fun _ _ h2 => keep_itemEvents h2)))))

theorem keep_excludeMonitor {q : List Instr} {m : Option (List Host.Cell)} {a0 a1 : _} (ha1 : Keep q m a1) :
    Keep q m (excludeMonitor a0 a1) := by
  unfold excludeMonitor
  extract_lets -merge +onlyGivenNames x0
  have hx0 : Keep q m x0 := keep_ite (fun _ => keep_setRg ha1) (fun _ => keep_ite (fun _ => keep_setRg ha1) (fun _ => keep_setRg ha1))
  exact keep_raise hx0

theorem keep_excludeFailed {q : List Instr} {m : Option (List Host.Cell)} {a0 a1 : _} (ha1 : Keep q m a1) :
    Keep q m (excludeFailed a0 a1) := by
  unfold excludeFailed
  exact keep_forEach ha1 (fun _ _ h0 => keep_excludeMonitor h0)

theorem keep_trimsRefused {q : List Instr} {m : Option (List Host.Cell)} {a0 a1 a2 : _} (ha2 : Keep q m a2) :
    Keep q m (trimsRefused a0 a1 a2) := by
  unfold trimsRefused
  exact keep_forEach ha2 (fun _ _ h0 => keep_raise h0)

theorem keep_portsDown {q : List Instr} {m : Option (List Host.Cell)} {a0 : _} (ha0 : Keep q m a0) :
    Keep q m (portsDown a0) := by
  unfold portsDown
  extract_lets -merge +onlyGivenNames x0
  have hx0 : Keep q m x0 := by
    unfold x0
    refine keep_forEach ha0 ?_
    intro _ _ h1
    extract_lets -merge +onlyGivenNames x2 y3
    have hx2 : Keep q m x2 := keep_linkDown h1
    exact keep_setLink hx2
  exact keep_forEach hx0 (fun _ _ h4 => keep_ite (fun _ => keep_cxlDown h4) (fun _ => h4))

theorem keep_selftestStart {q : List Instr} {m : Option (List Host.Cell)} {a0 a1 : _} (ha1 : Keep q m a1) :
    Keep q m (selftestStart a0 a1) := by
  unfold selftestStart
  exact keep_ite (fun _ => keep_setRg (keep_setRg (keep_onStart (keep_portsDown ha1)))) (fun _ => keep_raise (keep_setRg ha1))

theorem keep_execSelftestStart {q : List Instr} {m : Option (List Host.Cell)} {a0 a1 : _} (ha1 : Keep q m a1) :
    KeepR q m (execSelftestStart a0 a1) := by
  unfold execSelftestStart
  exact keepR_done (keep_live (fun _ h0 => keep_access (fun _ h1 => keep_selftestStart h1) h0) ha1)

theorem keep_selftestDone {q : List Instr} {m : Option (List Host.Cell)} {a0 a1 a2 : _} (ha2 : Keep q m a2) :
    Keep q m (selftestDone a0 a1 a2) := by
  unfold selftestDone
  split
  · exact ha2
  · extract_lets -merge +onlyGivenNames x0
    have hx0 : Keep q m x0 := keep_onStart (keep_setRg (keep_runItems ha2))
    exact keep_ite (fun _ => keep_onStart (keep_setRg hx0)) (fun _ => keep_persistBegin hx0)

theorem keep_execSelftestDone {q : List Instr} {m : Option (List Host.Cell)} {a0 a1 a2 : _} (ha2 : Keep q m a2) :
    KeepR q m (execSelftestDone a0 a1 a2) := by
  unfold execSelftestDone
  exact keepR_done (keep_live (fun _ h0 => keep_selftestDone h0) ha2)

/-! ### Recovery -/

theorem keep_withSeqs {q : List Instr} {m : Option (List Host.Cell)} {a0 a1 a2 a3 : _} (ha2 : ∀ x0 x1, Keep q m x1 → Keep q m (a2 x0 x1)) (ha3 : Keep q m a3) :
    Keep q m (withSeqs a0 a1 a2 a3) := by
  unfold withSeqs
  extract_lets -merge +onlyGivenNames y0
  exact keep_ite (fun _ => keep_complete ha3) (fun _ => keep_ite (fun _ => ha2 _ _ ha3) (fun _ => keep_withData (fun _ _ h1 => ha2 _ _ h1) ha3))

theorem keep_abortOne {q : List Instr} {m : Option (List Host.Cell)} {a0 a1 : _} (ha1 : Keep q m a1) :
    Keep q m (abortOne a0 a1) := by
  unfold abortOne
  exact keep_ite (fun _ => keep_parkFail ha1) (fun _ => keep_complete ha1)

theorem keep_holdAll {q : List Instr} {m : Option (List Host.Cell)} {a0 a1 a2 : _} (ha2 : Keep q m a2) :
    Keep q m (holdAll a0 a1 a2) := by
  unfold holdAll
  extract_lets -merge +onlyGivenNames y0 y1
  exact keep_onRas ha2

theorem keep_abortWatches {q : List Instr} {m : Option (List Host.Cell)} {a0 a1 a2 : _} (ha2 : Keep q m a2) :
    Keep q m (abortWatches a0 a1 a2) := by
  unfold abortWatches
  exact keep_forEach ha2 (fun _ _ h0 => keep_watchFree h0)

theorem keep_jobAbortRun {q : List Instr} {m : Option (List Host.Cell)} {a0 a1 a2 a3 : _} (ha3 : Keep q m a3) :
    Keep q m (jobAbortRun a0 a1 a2 a3) := by
  unfold jobAbortRun
  extract_lets -merge +onlyGivenNames y0 y1 x2
  have hx2 : Keep q m x2 := keep_abortWatches (keep_forEach (keep_holdAll ha3) (fun _ _ h3 => keep_abortOne h3))
  exact keep_ite (fun _ => keep_completeReason (keep_raise ha3)) (fun _ => keep_complete (keep_raise hx2))

theorem keep_execJobAbort {q : List Instr} {m : Option (List Host.Cell)} {a0 a1 : _} (ha1 : Keep q m a1) :
    KeepR q m (execJobAbort a0 a1) := by
  unfold execJobAbort
  exact keepR_done (keep_live (fun _ h0 => keep_withCmd (fun _ _ h1 => keep_withSeqs (fun _ _ h2 => keep_jobAbortRun h2) h1) h0) ha1)

theorem keep_endHolds {q : List Instr} {m : Option (List Host.Cell)} {a0 a1 : _} (ha1 : Keep q m a1) :
    Keep q m (endHolds a0 a1) := by
  unfold endHolds
  extract_lets -merge +onlyGivenNames y0
  exact keep_forEach (keep_onRas ha1) (fun _ _ h1 => keep_raiseCar h1)

theorem keep_jobReleaseRun {q : List Instr} {m : Option (List Host.Cell)} {a0 a1 a2 a3 : _} (ha3 : Keep q m a3) :
    Keep q m (jobReleaseRun a0 a1 a2 a3) := by
  unfold jobReleaseRun
  extract_lets -merge +onlyGivenNames y0
  exact keep_complete (keep_endHolds ha3)

theorem keep_execJobRelease {q : List Instr} {m : Option (List Host.Cell)} {a0 a1 : _} (ha1 : Keep q m a1) :
    KeepR q m (execJobRelease a0 a1) := by
  unfold execJobRelease
  exact keepR_done (keep_live (fun _ h0 => keep_withCmd (fun _ _ h1 => keep_withSeqs (fun _ _ h2 => keep_jobReleaseRun h2) h1) h0) ha1)

theorem keep_holdExpire {q : List Instr} {m : Option (List Host.Cell)} {a0 a1 : _} (ha1 : Keep q m a1) :
    Keep q m (holdExpire a0 a1) := by
  unfold holdExpire
  extract_lets -merge +onlyGivenNames y0
  exact keep_endHolds ha1

theorem keep_execHoldExpire {q : List Instr} {m : Option (List Host.Cell)} {a0 a1 : _} (ha1 : Keep q m a1) :
    KeepR q m (execHoldExpire a0 a1) := by
  unfold execHoldExpire
  exact keepR_done (keep_live (fun _ h0 => keep_holdExpire h0) ha1)

theorem keep_stepRun {q : List Instr} {m : Option (List Host.Cell)} {a0 a1 a2 : _} (ha2 : Keep q m a2) :
    Keep q m (stepRun a0 a1 a2) := by
  unfold stepRun
  extract_lets -merge +onlyGivenNames y0 y1
  clear_value y0 y1
  split
  · exact keep_ite (fun _ => keep_listStep (keep_onRas ha2)) (fun _ => keep_completeReason (keep_raise ha2))
  · split
    · exact keep_complete (keep_raiseCar (keep_bump ha2))
    · exact keep_ite (fun _ => keep_listStep ha2) (fun _ => ha2)

theorem keep_stepSweep {q : List Instr} {m : Option (List Host.Cell)} {a0 a1 : _} (ha1 : Keep q m a1) :
    Keep q m (stepSweep a0 a1) := by
  unfold stepSweep
  exact keep_ite (fun _ => ha1) (fun _ => keep_onRas ha1)

theorem keep_execStep {q : List Instr} {m : Option (List Host.Cell)} {a0 a1 : _} (ha1 : Keep q m a1) :
    KeepR q m (execStep a0 a1) := by
  unfold execStep
  exact keepR_done (keep_live (fun _ h0 => keep_stepSweep (keep_withCmd (fun _ _ h1 => keep_stepRun h1) h0)) ha1)

theorem keep_stepForget {q : List Instr} {m : Option (List Host.Cell)} {a0 a1 a2 : _} (ha2 : Keep q m a2) :
    Keep q m (stepForget a0 a1 a2) := by
  unfold stepForget
  extract_lets -merge +onlyGivenNames y0
  exact keep_complete (keep_onRas ha2)

theorem keep_execStepForget {q : List Instr} {m : Option (List Host.Cell)} {a0 a1 : _} (ha1 : Keep q m a1) :
    KeepR q m (execStepForget a0 a1) := by
  unfold execStepForget
  exact keepR_done (keep_live (fun _ h0 => keep_withCmd (fun _ _ h1 => keep_stepForget h1) h0) ha1)

theorem keep_writeNotice {q : List Instr} {m : Option (List Host.Cell)} {a0 : _} (ha0 : Keep q m a0) :
    Keep q m (writeNotice a0) := by
  unfold writeNotice
  exact keep_notice ha0

theorem keep_execSendNotice {q : List Instr} {m : Option (List Host.Cell)} {a0 a1 : _} (ha1 : Keep q m a1) :
    KeepR q m (execSendNotice a0 a1) := by
  unfold execSendNotice
  exact keepR_done (keep_live (fun _ h0 => keep_access (fun _ h1 => keep_writeNotice h1) h0) ha1)

theorem keep_peerLost {q : List Instr} {m : Option (List Host.Cell)} {a0 a1 : _} (ha1 : Keep q m a1) :
    Keep q m (peerLost a0 a1) := by
  unfold peerLost
  extract_lets -merge +onlyGivenNames y0 y1
  exact keep_ite (fun _ => keep_noticeAll (keep_raise (keep_onRas ha1))) (fun _ => ha1)

theorem keep_execPeerLost {q : List Instr} {m : Option (List Host.Cell)} {a0 a1 : _} (ha1 : Keep q m a1) :
    KeepR q m (execPeerLost a0 a1) := by
  unfold execPeerLost
  exact keepR_done (keep_live (fun _ h0 => keep_peerLost h0) ha1)

theorem keep_clearSteps {q : List Instr} {m : Option (List Host.Cell)} {a0 a1 : _} (ha1 : Keep q m a1) :
    Keep q m (clearSteps a0 a1) := by
  unfold clearSteps
  exact keep_expertDo (fun _ h0 => keep_raise (keep_onRas h0)) ha1

theorem keep_execClearSteps {q : List Instr} {m : Option (List Host.Cell)} {a0 a1 : _} (ha1 : Keep q m a1) :
    KeepR q m (execClearSteps a0 a1) := by
  unfold execClearSteps
  exact keepR_done (keep_live (fun _ h0 => keep_access (fun _ h1 => keep_clearSteps h1) h0) ha1)

theorem keep_clearHolds {q : List Instr} {m : Option (List Host.Cell)} {a0 a1 : _} (ha1 : Keep q m a1) :
    Keep q m (clearHolds a0 a1) := by
  unfold clearHolds
  exact keep_expertDo (fun _ h0 => keep_raise (keep_onRas h0)) ha1

theorem keep_execClearHolds {q : List Instr} {m : Option (List Host.Cell)} {a0 a1 : _} (ha1 : Keep q m a1) :
    KeepR q m (execClearHolds a0 a1) := by
  unfold execClearHolds
  exact keepR_done (keep_live (fun _ h0 => keep_access (fun _ h1 => keep_clearHolds h1) h0) ha1)

theorem keep_execFirmwareHalt {q : List Instr} {m : Option (List Host.Cell)} {a0 : _} (ha0 : Keep q m a0) :
    KeepR q m (execFirmwareHalt a0) := by
  unfold execFirmwareHalt
  exact keepR_done (keep_live (fun _ h0 => keep_fatalFault h0) ha0)

/-! ### Shutdown -/

theorem keep_setShut {q : List Instr} {m : Option (List Host.Cell)} {a0 a1 : _} (ha1 : Keep q m a1) :
    Keep q m (setShut a0 a1) := by
  unfold setShut
  exact keep_setRg ha1

theorem keep_armShutdown {q : List Instr} {m : Option (List Host.Cell)} {a0 a1 : _} (ha1 : Keep q m a1) :
    Keep q m (armShutdown a0 a1) := by
  unfold armShutdown
  extract_lets -merge +onlyGivenNames y0 y1
  exact keep_ite (fun _ => keep_raise (keep_noticeAll (keep_onStart (keep_setShut (keep_when ha1 (fun _ h2 => keep_raise h2)))))) (fun _ => keep_raise ha1)

theorem keep_shutdownStart {q : List Instr} {m : Option (List Host.Cell)} {a0 a1 : _} (ha1 : Keep q m a1) :
    Keep q m (shutdownStart a0 a1) := by
  unfold shutdownStart
  exact keep_armShutdown ha1

theorem keep_execShutdownStart {q : List Instr} {m : Option (List Host.Cell)} {a0 a1 : _} (ha1 : Keep q m a1) :
    KeepR q m (execShutdownStart a0 a1) := by
  unfold execShutdownStart
  exact keepR_done (keep_live (fun _ h0 => keep_access (fun _ h1 => keep_shutdownStart h1) h0) ha1)

theorem keep_endFetched {q : List Instr} {m : Option (List Host.Cell)} {a0 a1 a2 : _} (ha2 : Keep q m a2) :
    Keep q m (endFetched a0 a1 a2) := by
  unfold endFetched
  extract_lets -merge +onlyGivenNames y0 x1
  have hx1 : Keep q m x1 := keep_startCommand ha2
  exact keep_ite (fun _ => keep_complete hx1) (fun _ => ha2)

theorem keep_endQueue {q : List Instr} {m : Option (List Host.Cell)} {a0 a1 : _} (ha1 : Keep q m a1) :
    Keep q m (endQueue a0 a1) := by
  unfold endQueue
  extract_lets -merge +onlyGivenNames y0
  exact keep_forEach (keep_setCtx ha1) (fun _ _ h1 => keep_endFetched h1)

theorem keep_endLists {q : List Instr} {m : Option (List Host.Cell)} {a0 : _} (ha0 : Keep q m a0) :
    Keep q m (endLists a0) := by
  unfold endLists
  exact keep_onQue ha0

theorem keep_endMsg {q : List Instr} {m : Option (List Host.Cell)} {a0 a1 : _} (ha1 : Keep q m a1) :
    Keep q m (endMsg a0 a1) := by
  unfold endMsg
  exact keep_ite (fun _ => ha1) (fun _ => keep_ite (fun _ => keep_onPrt ha1) (fun _ => keep_ackMsg ha1))

theorem keep_shutdownBegin {q : List Instr} {m : Option (List Host.Cell)} {a0 : _} (ha0 : Keep q m a0) :
    Keep q m (shutdownBegin a0) := by
  unfold shutdownBegin
  exact keep_ite (fun _ => ha0) (fun _ => keep_forEach (keep_forEach (keep_endLists (keep_setRg (keep_setShut ha0))) (fun _ _ h1 => keep_endQueue h1)) (fun _ _ h0 => keep_endMsg h0))

theorem keep_execShutdownBegin {q : List Instr} {m : Option (List Host.Cell)} {a0 : _} (ha0 : Keep q m a0) :
    KeepR q m (execShutdownBegin a0) := by
  unfold execShutdownBegin
  exact keepR_done (keep_live (fun _ h0 => keep_shutdownBegin h0) ha0)

theorem keep_endCoach {q : List Instr} {m : Option (List Host.Cell)} {a0 a1 : _} (ha1 : Keep q m a1) :
    Keep q m (endCoach a0 a1) := by
  unfold endCoach
  split
  · exact keep_ite (fun _ => keep_failCoach ha1) (fun _ => keep_failCoach ha1)
  · exact ha1

theorem keep_endWork {q : List Instr} {m : Option (List Host.Cell)} {a0 : _} (ha0 : Keep q m a0) :
    Keep q m (endWork a0) := by
  unfold endWork
  extract_lets -merge +onlyGivenNames x0 x2
  have hx0 : Keep q m x0 := keep_forEach ha0 (fun _ _ h1 => keep_endCoach h1)
  have hx2 : Keep q m x2 := keep_forEach hx0 (fun _ _ h3 => keep_abortOne h3)
  exact keep_forEach hx2 (fun _ _ h4 => keep_ackMsg h4)

theorem keep_shutdownDrainEnd {q : List Instr} {m : Option (List Host.Cell)} {a0 : _} (ha0 : Keep q m a0) :
    Keep q m (shutdownDrainEnd a0) := by
  unfold shutdownDrainEnd
  extract_lets -merge +onlyGivenNames x0
  have hx0 : Keep q m x0 := keep_setShut (keep_portsDown (keep_resetLinks (keep_endWork ha0)))
  exact keep_ite (fun _ => ha0) (fun _ => keep_ite (fun _ => hx0) (fun _ => keep_persistBegin hx0))

theorem keep_execShutdownDrainEnd {q : List Instr} {m : Option (List Host.Cell)} {a0 : _} (ha0 : Keep q m a0) :
    KeepR q m (execShutdownDrainEnd a0) := by
  unfold execShutdownDrainEnd
  exact keepR_done (keep_live (fun _ h0 => keep_shutdownDrainEnd h0) ha0)

theorem keep_shutdownPersistDone {q : List Instr} {m : Option (List Host.Cell)} {a0 a1 : _} (ha1 : Keep q m a1) :
    Keep q m (shutdownPersistDone a0 a1) := by
  unfold shutdownPersistDone
  extract_lets -merge +onlyGivenNames x0 x1
  have hx0 : Keep q m x0 := keep_persistEnd ha1
  have hx1 : Keep q m x1 := keep_setRg hx0
  exact keep_ite (fun _ => ha1) (fun _ => keep_ite (fun _ => keep_persistBegin hx0) (fun _ => keep_ite (fun _ => keep_setRg (keep_onStart (keep_setShut hx1))) (fun _ => keep_persistBegin hx1)))

theorem keep_execShutdownPersistDone {q : List Instr} {m : Option (List Host.Cell)} {a0 a1 : _} (ha1 : Keep q m a1) :
    KeepR q m (execShutdownPersistDone a0 a1) := by
  unfold execShutdownPersistDone
  exact keepR_done (keep_live (fun _ h0 => keep_shutdownPersistDone h0) ha1)

theorem keep_shutdownSafe {q : List Instr} {m : Option (List Host.Cell)} {a0 a1 : _} (ha1 : Keep q m a1) :
    Keep q m (shutdownSafe a0 a1) := by
  unfold shutdownSafe
  extract_lets -merge +onlyGivenNames x0
  have hx0 : Keep q m x0 := keep_persistEnd ha1
  exact keep_ite (fun _ => ha1) (fun _ => keep_ite (fun _ => keep_persistBegin hx0) (fun _ => keep_emit (keep_raise (keep_setShut hx0))))

theorem keep_execShutdownSafe {q : List Instr} {m : Option (List Host.Cell)} {a0 a1 : _} (ha1 : Keep q m a1) :
    KeepR q m (execShutdownSafe a0 a1) := by
  unfold execShutdownSafe
  exact keepR_done (keep_live (fun _ h0 => keep_shutdownSafe h0) ha1)

/-! ### Security -/

theorem keep_loadResult {q : List Instr} {m : Option (List Host.Cell)} {a0 a1 a2 a3 : _} (ha3 : Keep q m a3) :
    Keep q m (loadResult a0 a1 a2 a3) := by
  unfold loadResult
  exact keep_setRg (keep_setRg (keep_setRg ha3))

theorem keep_loadFailed {q : List Instr} {m : Option (List Host.Cell)} {a0 a1 a2 a3 a4 : _} (ha4 : Keep q m a4) :
    Keep q m (loadFailed a0 a1 a2 a3 a4) := by
  unfold loadFailed
  exact keep_raise (keep_loadResult ha4)

theorem keep_lcRefused {q : List Instr} {m : Option (List Host.Cell)} {a0 : _} (ha0 : Keep q m a0) :
    Keep q m (lcRefused a0) := by
  unfold lcRefused
  exact keep_raise ha0

theorem keep_secLoad {q : List Instr} {m : Option (List Host.Cell)} {a0 a1 : _} (ha1 : Keep q m a1) :
    Keep q m (secLoad a0 a1) := by
  unfold secLoad
  extract_lets -merge +onlyGivenNames y0 y1 y2 y3 x4
  have hx4 : Keep q m x4 := keep_onSec ha1
  refine keep_ite (fun _ => ?_) (fun _ => ?_)
  · exact keep_loadFailed ha1
  · refine keep_ite (fun _ => ?_) (fun _ => ?_)
    · exact keep_loadFailed ha1
    · refine keep_ite (fun _ => ?_) (fun _ => ?_)
      · exact keep_lcRefused (keep_loadResult ha1)
      · refine keep_ite (fun _ => ?_) (fun _ => ?_)
        · exact hx4
        · refine keep_forEach hx4 ?_
          intro _ _ h5
          extract_lets -merge +onlyGivenNames y6
          exact keep_memRead h5

theorem keep_execSecLoad {q : List Instr} {m : Option (List Host.Cell)} {a0 a1 : _} (ha1 : Keep q m a1) :
    KeepR q m (execSecLoad a0 a1) := by
  unfold execSecLoad
  exact keepR_done (keep_live (fun _ h0 => keep_access (fun _ h1 => keep_secLoad h1) h0) ha1)

theorem keep_firmwareStarts {q : List Instr} {m : Option (List Host.Cell)} {a0 a1 : _} (ha1 : Keep q m a1) :
    Keep q m (firmwareStarts a0 a1) := by
  unfold firmwareStarts
  exact keep_onStart (keep_setRg (keep_setRg (keep_setRg (keep_freeTaken (keep_onSec ha1)))))

theorem keep_secLoadDone {q : List Instr} {m : Option (List Host.Cell)} {a0 : _} (ha0 : Keep q m a0) :
    Keep q m (secLoadDone a0) := by
  unfold secLoadDone
  split
  · exact ha0
  · extract_lets -merge +onlyGivenNames y0 x1
    have hx1 : Keep q m x1 := keep_onSec ha0
    exact keep_ite (fun _ => ha0) (fun _ => keep_ite (fun _ => keep_loadFailed hx1) (fun _ => keep_when (keep_loadResult (keep_onSec hx1)) (fun _ h2 => keep_firmwareStarts h2)))

theorem keep_execSecLoadDone {q : List Instr} {m : Option (List Host.Cell)} {a0 : _} (ha0 : Keep q m a0) :
    KeepR q m (execSecLoadDone a0) := by
  unfold execSecLoadDone
  exact keepR_done (keep_live (fun _ h0 => keep_secLoadDone h0) ha0)

theorem keep_secLoadCommit {q : List Instr} {m : Option (List Host.Cell)} {a0 a1 : _} (ha1 : Keep q m a1) :
    Keep q m (secLoadCommit a0 a1) := by
  unfold secLoadCommit
  extract_lets -merge +onlyGivenNames y0
  clear_value y0
  refine keep_ite (fun _ => ?_) (fun _ => ?_)
  · exact keep_loadFailed ha1
  · split
    · exact keep_loadFailed ha1
    · exact keep_ite (fun _ => keep_loadFailed ha1) (fun _ => keep_ite (fun _ => keep_lcRefused (keep_loadResult ha1)) (fun _ => keep_onSec ha1))

theorem keep_execSecLoadCommit {q : List Instr} {m : Option (List Host.Cell)} {a0 a1 : _} (ha1 : Keep q m a1) :
    KeepR q m (execSecLoadCommit a0 a1) := by
  unfold execSecLoadCommit
  exact keepR_done (keep_live (fun _ h0 => keep_access (fun _ h1 => keep_secLoadCommit h1) h0) ha1)

theorem keep_secCommitDone {q : List Instr} {m : Option (List Host.Cell)} {a0 a1 : _} (ha1 : Keep q m a1) :
    Keep q m (secCommitDone a0 a1) := by
  unfold secCommitDone
  split
  · exact ha1
  · extract_lets -merge +onlyGivenNames x0
    have hx0 : Keep q m x0 := keep_onSec ha1
    exact keep_ite (fun _ => ha1) (fun _ => keep_ite (fun _ => keep_raise (keep_loadResult (keep_onSec hx0))) (fun _ => keep_freeTaken (keep_loadResult hx0)))

theorem keep_execSecCommitDone {q : List Instr} {m : Option (List Host.Cell)} {a0 a1 : _} (ha1 : Keep q m a1) :
    KeepR q m (execSecCommitDone a0 a1) := by
  unfold execSecCommitDone
  exact keepR_done (keep_live (fun _ h0 => keep_secCommitDone h0) ha1)

theorem keep_attestStart {q : List Instr} {m : Option (List Host.Cell)} {a0 a1 : _} (ha1 : Keep q m a1) :
    Keep q m (attestStart a0 a1) := by
  unfold attestStart
  exact keep_onSec ha1

theorem keep_execAttest {q : List Instr} {m : Option (List Host.Cell)} {a0 a1 : _} (ha1 : Keep q m a1) :
    KeepR q m (execAttest a0 a1) := by
  unfold execAttest
  exact keepR_done (keep_live (fun _ h0 => keep_access (fun _ h1 => keep_attestStart h1) h0) ha1)

theorem keep_attestDone {q : List Instr} {m : Option (List Host.Cell)} {a0 a1 : _} (ha1 : Keep q m a1) :
    Keep q m (attestDone a0 a1) := by
  unfold attestDone
  split
  · exact ha1
  · extract_lets -merge +onlyGivenNames y0 y1
    exact keep_raise (keep_setRg (keep_onSec ha1))

theorem keep_execAttestDone {q : List Instr} {m : Option (List Host.Cell)} {a0 a1 : _} (ha1 : Keep q m a1) :
    KeepR q m (execAttestDone a0 a1) := by
  unfold execAttestDone
  exact keepR_done (keep_live (fun _ h0 => keep_attestDone h0) ha1)

theorem keep_sessionResult {q : List Instr} {m : Option (List Host.Cell)} {a0 a1 a2 : _} (ha2 : Keep q m a2) :
    Keep q m (sessionResult a0 a1 a2) := by
  unfold sessionResult
  exact keep_result ha2

theorem keep_sessionLoad {q : List Instr} {m : Option (List Host.Cell)} {a0 a1 : _} (ha1 : Keep q m a1) :
    Keep q m (sessionLoad a0 a1) := by
  unfold sessionLoad
  extract_lets -merge +onlyGivenNames y0 y1
  exact keep_ite (fun _ => keep_lcRefused (keep_raise (keep_sessionResult ha1))) (fun _ => keep_ite (fun _ => keep_raise (keep_sessionResult ha1)) (fun _ => keep_onSec ha1))

theorem keep_execSessionLoad {q : List Instr} {m : Option (List Host.Cell)} {a0 a1 : _} (ha1 : Keep q m a1) :
    KeepR q m (execSessionLoad a0 a1) := by
  unfold execSessionLoad
  exact keepR_done (keep_live (fun _ h0 => keep_access (fun _ h1 => keep_sessionLoad h1) h0) ha1)

theorem keep_sessionInstall {q : List Instr} {m : Option (List Host.Cell)} {a0 a1 a2 a3 a4 : _} (ha4 : Keep q m a4) :
    Keep q m (sessionInstall a0 a1 a2 a3 a4) := by
  unfold sessionInstall
  exact keep_sessionResult (keep_raise (keep_onQue (keep_onSec ha4)))

theorem keep_sessionLoadDone {q : List Instr} {m : Option (List Host.Cell)} {a0 a1 : _} (ha1 : Keep q m a1) :
    Keep q m (sessionLoadDone a0 a1) := by
  unfold sessionLoadDone
  split
  · exact ha1
  · extract_lets -merge +onlyGivenNames x0
    have hx0 : Keep q m x0 := keep_onSec ha1
    refine keep_ite (fun _ => ?_) (fun _ => ?_)
    · exact keep_raise (keep_sessionResult hx0)
    · split
      · exact keep_raise (keep_sessionResult hx0)
      · exact keep_sessionInstall hx0

theorem keep_execSessionLoadDone {q : List Instr} {m : Option (List Host.Cell)} {a0 a1 : _} (ha1 : Keep q m a1) :
    KeepR q m (execSessionLoadDone a0 a1) := by
  unfold execSessionLoadDone
  exact keepR_done (keep_live (fun _ h0 => keep_sessionLoadDone h0) ha1)

theorem keep_sessionUnload {q : List Instr} {m : Option (List Host.Cell)} {a0 a1 : _} (ha1 : Keep q m a1) :
    Keep q m (sessionUnload a0 a1) := by
  unfold sessionUnload
  extract_lets -merge +onlyGivenNames y0
  clear_value y0
  split
  · exact keep_ite (fun _ => keep_sessionResult (keep_raise (keep_onSec ha1))) (fun _ => keep_sessionResult ha1)
  · exact keep_sessionResult ha1

theorem keep_execSessionUnload {q : List Instr} {m : Option (List Host.Cell)} {a0 a1 : _} (ha1 : Keep q m a1) :
    KeepR q m (execSessionUnload a0 a1) := by
  unfold execSessionUnload
  exact keepR_done (keep_live (fun _ h0 => keep_access (fun _ h1 => keep_sessionUnload h1) h0) ha1)

theorem keep_setCurrent {q : List Instr} {m : Option (List Host.Cell)} {a0 a1 a2 : _} (ha2 : Keep q m a2) :
    Keep q m (setCurrent a0 a1 a2) := by
  unfold setCurrent
  exact keep_onSec ha2

theorem keep_keySwitch {q : List Instr} {m : Option (List Host.Cell)} {a0 a1 a2 : _} (ha2 : Keep q m a2) :
    Keep q m (keySwitch a0 a1 a2) := by
  unfold keySwitch
  extract_lets -merge +onlyGivenNames y0 y1
  exact keep_ite (fun _ => keep_raise ha2) (fun _ => keep_raise (keep_onSec (keep_setCurrent ha2)))

theorem keep_execKeySwitch {q : List Instr} {m : Option (List Host.Cell)} {a0 a1 : _} (ha1 : Keep q m a1) :
    KeepR q m (execKeySwitch a0 a1) := by
  unfold execKeySwitch
  exact keepR_done (keep_live (fun _ h0 => keep_fireEntry (fun _ _ h1 => keep_keySwitch h1) h0) ha1)

theorem keep_slotFallback {q : List Instr} {m : Option (List Host.Cell)} {a0 a1 a2 : _} (ha2 : Keep q m a2) :
    Keep q m (slotFallback a0 a1 a2) := by
  unfold slotFallback
  split
  · exact ha2
  · exact keep_ite (fun _ => ha2) (fun _ => keep_raise (keep_setCurrent ha2))

theorem keep_slotsAtStart {q : List Instr} {m : Option (List Host.Cell)} {a0 a1 : _} (ha1 : Keep q m a1) :
    Keep q m (slotsAtStart a0 a1) := by
  unfold slotsAtStart
  split
  · exact ha1
  · extract_lets -merge +onlyGivenNames y0 x1
    have hx1 : Keep q m x1 := by
      unfold x1
      refine keep_forEach ha1 ?_
      intro _ _ h2
      extract_lets -merge +onlyGivenNames y3
      exact keep_setCurrent h2
    exact keep_onSec hx1

theorem keep_retireSlot {q : List Instr} {m : Option (List Host.Cell)} {a0 a1 : _} (ha1 : Keep q m a1) :
    Keep q m (retireSlot a0 a1) := by
  unfold retireSlot
  extract_lets -merge +onlyGivenNames y0
  exact keep_ite (fun _ => keep_result (keep_raise (keep_onSec ha1))) (fun _ => keep_result (keep_raise ha1))

theorem keep_execRetire {q : List Instr} {m : Option (List Host.Cell)} {a0 a1 : _} (ha1 : Keep q m a1) :
    KeepR q m (execRetire a0 a1) := by
  unfold execRetire
  exact keepR_done (keep_live (fun _ h0 => keep_access (fun _ h1 => keep_retireSlot h1) h0) ha1)

theorem keep_forceRetire {q : List Instr} {m : Option (List Host.Cell)} {a0 a1 : _} (ha1 : Keep q m a1) :
    Keep q m (forceRetire a0 a1) := by
  unfold forceRetire
  refine keep_expertDo ?_ ha1
  intro _ h0
  extract_lets -merge +onlyGivenNames y1
  exact keep_ite (fun _ => keep_raise (keep_onSec h0)) (fun _ => keep_raise h0)

theorem keep_execForceRetire {q : List Instr} {m : Option (List Host.Cell)} {a0 a1 : _} (ha1 : Keep q m a1) :
    KeepR q m (execForceRetire a0 a1) := by
  unfold execForceRetire
  exact keepR_done (keep_live (fun _ h0 => keep_access (fun _ h1 => keep_forceRetire h1) h0) ha1)

theorem keep_rekeyPage {q : List Instr} {m : Option (List Host.Cell)} {a0 a1 : _} (ha1 : Keep q m a1) :
    Keep q m (rekeyPage a0 a1) := by
  unfold rekeyPage
  split
  · exact ha1
  · refine keep_ite (fun _ => ?_) (fun _ => ?_)
    · exact ha1
    · split
      · exact keep_raiseFirst ha1
      · exact keep_ite (fun _ => keep_slotLeft (keep_onPage ha1)) (fun _ => ha1)

theorem keep_execRekeyPage {q : List Instr} {m : Option (List Host.Cell)} {a0 a1 : _} (ha1 : Keep q m a1) :
    KeepR q m (execRekeyPage a0 a1) := by
  unfold execRekeyPage
  exact keepR_done (keep_live (fun _ h0 => keep_rekeyPage h0) ha1)

/-! ### Switch -/

theorem keep_ageFit {q : List Instr} {m : Option (List Host.Cell)} {a0 a1 : _} (ha1 : Keep q m a1) :
    Keep q m (ageFit a0 a1) := by
  unfold ageFit
  extract_lets -merge +onlyGivenNames y0 y1
  exact keep_ite (fun _ => keep_forEach ha1 (fun _ _ h2 => keep_freeLoc h2)) (fun _ => keep_getD (keepMapOp (keep_takeMany ha1) (fun _ h3 => h3)) ha1)

theorem keep_ownMaps {q : List Instr} {a0 : _} (ha0 : Keep q none a0) :
    Keep q none (ownMaps a0) := by
  unfold ownMaps
  extract_lets -merge +onlyGivenNames x0
  have hx0 : Keep q none x0 := keep_forEach ha0 (fun _ _ h1 => keep_ageFit h1)
  exact keep_forEach hx0 (fun _ _ h2 => keep_takeShadow h2)

theorem keep_ownersAtStart {q : List Instr} {m : Option (List Host.Cell)} {a0 : _} (ha0 : Keep q m a0) :
    Keep q m (ownersAtStart a0) := by
  unfold ownersAtStart
  exact keep_forEach ha0 (fun _ _ h0 => keep_setRg h0)

theorem keep_loseResource {q : List Instr} {m : Option (List Host.Cell)} {a0 a1 a2 : _} (ha2 : Keep q m a2) :
    Keep q m (loseResource a0 a1 a2) := by
  unfold loseResource
  exact keep_raise (keep_when (keep_forEach ha2 (fun _ _ h1 => keep_setRg h1)) (fun _ h0 => keep_cascadeFlush h0))

theorem keep_loseResources {q : List Instr} {m : Option (List Host.Cell)} {a0 a1 a2 : _} (ha2 : Keep q m a2) :
    Keep q m (loseResources a0 a1 a2) := by
  unfold loseResources
  extract_lets -merge +onlyGivenNames y0
  exact keep_forEach ha2 (fun _ _ h1 => keep_loseResource h1)

theorem keep_putInForce {q : List Instr} {a0 a1 : _} (ha1 : Keep q none a1) :
    Keep q none (putInForce a0 a1) := by
  unfold putInForce
  exact keep_setRg (keep_onStart (keep_ownMaps (keep_ownersAtStart (keep_slotsAtStart (keep_when (keep_setRg (keep_setRg (keep_setCmp (keep_onComp (keep_trafficSwitch ha1))))) (fun _ h0 => keep_setRg h0))))))

theorem keep_arm {q : List Instr} {a0 a1 : _} (ha1 : Keep q none a1) :
    Keep q none (arm a0 a1) := by
  unfold arm
  refine keep_ite (fun _ => ?_) (fun _ => ?_)
  · exact keep_cmpRefused ha1
  · split
    · exact keep_ite (fun _ => keep_raise (keep_putInForce ha1)) (fun _ => ha1)
    · exact keep_ite (fun _ => keep_armSwitch ha1) (fun _ => ha1)
    · exact ha1

theorem keep_execArm {q : List Instr} {a0 a1 : _} (ha1 : Keep q none a1) :
    KeepR q none (execArm a0 a1) := by
  unfold execArm
  exact keepR_done (keep_live (fun _ h0 => keep_access (fun _ h1 => keep_arm h1) h0) ha1)

theorem keep_onSeen {q : List Instr} {m : Option (List Host.Cell)} {a0 a1 : _} (ha1 : Keep q m a1) :
    Keep q m (onSeen a0 a1) := by
  unfold onSeen
  exact keep_onPrt ha1

theorem keep_cancelSwitch {q : List Instr} {a0 : _} (ha0 : Keep q none a0) :
    Keep q none (cancelSwitch a0) := by
  unfold cancelSwitch
  exact keep_releaseMsgs (keep_staleCmds (keep_onSeen (keep_raise (keep_setCmp (keep_setRg (keep_onComp (keep_whenSome ha0 (fun _ _ h0 => keep_evtCancel h0))))))))

theorem keep_cancel {q : List Instr} {a0 a1 : _} (ha1 : Keep q none a1) :
    Keep q none (cancel a0 a1) := by
  unfold cancel
  exact keep_ite (fun _ => keep_cmpRefused ha1) (fun _ => keep_ite (fun _ => keep_cancelSwitch ha1) (fun _ => ha1))

theorem keep_execCancel {q : List Instr} {a0 a1 : _} (ha1 : Keep q none a1) :
    KeepR q none (execCancel a0 a1) := by
  unfold execCancel
  exact keepR_done (keep_live (fun _ h0 => keep_access (fun _ h1 => keep_cancel h1) h0) ha1)

theorem keep_workIsOld {q : List Instr} {m : Option (List Host.Cell)} {a0 : _} (ha0 : Keep q m a0) :
    Keep q m (workIsOld a0) := by
  unfold workIsOld
  exact keep_onQue (keep_onFox (keep_onSeen ha0))

theorem keep_sessionsLost {q : List Instr} {m : Option (List Host.Cell)} {a0 a1 : _} (ha1 : Keep q m a1) :
    Keep q m (sessionsLost a0 a1) := by
  unfold sessionsLost
  extract_lets -merge +onlyGivenNames y0
  refine keep_forEach ha1 ?_
  intro _ _ h1
  extract_lets -merge +onlyGivenNames y2
  exact keep_onSec (keep_forEach h1 (fun _ _ h3 => keep_stopQueue h3))

theorem keep_shadowsLost {q : List Instr} {m : Option (List Host.Cell)} {a0 a1 a2 : _} (ha2 : Keep q m a2) :
    Keep q m (shadowsLost a0 a1 a2) := by
  unfold shadowsLost
  exact keep_forEach ha2 (fun _ _ h0 => keep_shadowStopped h0)

theorem keep_unlocksLost {q : List Instr} {m : Option (List Host.Cell)} {a0 a1 : _} (ha1 : Keep q m a1) :
    Keep q m (unlocksLost a0 a1) := by
  unfold unlocksLost
  exact keep_forEach ha1 (fun _ _ h0 => keep_ite (fun _ => h0) (fun _ => keep_endUnlock h0))

theorem keep_newImage {q : List Instr} {m : Option (List Host.Cell)} {a0 a1 a2 a3 : _} (ha3 : Keep q m a3) :
    Keep q m (newImage a0 a1 a2 a3) := by
  unfold newImage
  exact keep_raise (keep_setRg (keep_setCmp (keep_onComp (keep_workIsOld (keep_trafficSwitch ha3)))))

theorem keep_boundaryLosses {q : List Instr} {m : Option (List Host.Cell)} {a0 a1 a2 : _} (ha2 : Keep q m a2) :
    Keep q m (boundaryLosses a0 a1 a2) := by
  unfold boundaryLosses
  exact keep_unlocksLost (keep_forEach (keep_forEach (keep_forEach (keep_loseResources ha2) (fun _ _ h2 => keep_slotFallback h2)) (fun _ _ h1 => keep_sessionsLost h1)) (fun _ _ h0 => keep_shadowsLost h0))

theorem keep_switchBoundary {q : List Instr} {a0 : _} (ha0 : Keep q none a0) :
    Keep q none (switchBoundary a0) := by
  unfold switchBoundary
  split
  · exact keep_fireEntry (fun _ _ h0 => keep_releaseMsgs (keep_releaseCmds (keep_boundaryLosses (keep_newImage h0)))) ha0
  · exact ha0

theorem keep_execSwitchBoundary {q : List Instr} {a0 : _} (ha0 : Keep q none a0) :
    KeepR q none (execSwitchBoundary a0) := by
  unfold execSwitchBoundary
  exact keepR_done (keep_live (fun _ h0 => keep_switchBoundary h0) ha0)

theorem keep_setMoved {q : List Instr} {m : Option (List Host.Cell)} {a0 a1 a2 : _} (ha2 : Keep q m a2) :
    Keep q m (setMoved a0 a1 a2) := by
  unfold setMoved
  exact keep_onComp ha2

theorem keep_switchComplete {q : List Instr} {m : Option (List Host.Cell)} {a0 : _} (ha0 : Keep q m a0) :
    Keep q m (switchComplete a0) := by
  unfold switchComplete
  exact keep_ite (fun _ => keep_raise (keep_onComp (keep_setCmp ha0))) (fun _ => ha0)

theorem keep_drainWindowClose {q : List Instr} {a0 : _} (ha0 : Keep q none a0) :
    Keep q none (drainWindowClose a0) := by
  unfold drainWindowClose
  exact keep_ite (fun _ => ha0) (fun _ => keep_switchComplete (keep_ownMaps (keep_onComp (keep_isoFollow (keep_setCmp ha0)))))

theorem keep_execDrainWindowClose {q : List Instr} {a0 : _} (ha0 : Keep q none a0) :
    KeepR q none (execDrainWindowClose a0) := by
  unfold execDrainWindowClose
  exact keepR_done (keep_live (fun _ h0 => keep_drainWindowClose h0) ha0)

theorem keep_resourceClearStart {q : List Instr} {m : Option (List Host.Cell)} {a0 a1 : _} (ha1 : Keep q m a1) :
    Keep q m (resourceClearStart a0 a1) := by
  unfold resourceClearStart
  extract_lets -merge +onlyGivenNames x0
  have hx0 : Keep q m x0 := keep_setMoved ha1
  refine keep_ite (fun _ => ?_) (fun _ => ?_)
  · split
    · exact keep_blockRowless hx0
    · exact hx0
  · exact ha1

theorem keep_execResourceClearStart {q : List Instr} {m : Option (List Host.Cell)} {a0 a1 : _} (ha1 : Keep q m a1) :
    KeepR q m (execResourceClearStart a0 a1) := by
  unfold execResourceClearStart
  exact keepR_done (keep_live (fun _ h0 => keep_resourceClearStart h0) ha1)

theorem keep_handOver {q : List Instr} {a0 a1 : _} (ha1 : Keep q none a1) :
    Keep q none (handOver a0 a1) := by
  unfold handOver
  split
  · exact keep_onSeq (keep_forEach ha1 (fun _ _ h0 => keep_shadowStopped h0))
  · exact keep_blockHandover ha1
  · exact keep_bankHandover ha1
  · exact keep_setCtx ha1
  · exact ha1

theorem keep_resourceCleared {q : List Instr} {a0 a1 : _} (ha1 : Keep q none a1) :
    Keep q none (resourceCleared a0 a1) := by
  unfold resourceCleared
  split
  · exact keep_ite (fun _ => ha1) (fun _ => keep_switchComplete (keep_handOver (keep_setMoved ha1)))
  · exact ha1

theorem keep_execResourceCleared {q : List Instr} {a0 a1 : _} (ha1 : Keep q none a1) :
    KeepR q none (execResourceCleared a0 a1) := by
  unfold execResourceCleared
  exact keepR_done (keep_live (fun _ h0 => keep_resourceCleared h0) ha1)

theorem keep_endOldWork {q : List Instr} {m : Option (List Host.Cell)} {a0 a1 : _} (ha1 : Keep q m a1) :
    Keep q m (endOldWork a0 a1) := by
  unfold endOldWork
  refine keep_forEach ?_ (fun _ _ h0 => keep_complete h0)
  refine keep_forEach ha1 ?_
  intro _ _ h1
  split
  · exact keep_failCoach h1
  · exact h1

theorem keep_oldEpochGraceEnd {q : List Instr} {m : Option (List Host.Cell)} {a0 : _} (ha0 : Keep q m a0) :
    Keep q m (oldEpochGraceEnd a0) := by
  unfold oldEpochGraceEnd
  exact keep_ite (fun _ => ha0) (fun _ => keep_forEach ha0 (fun _ _ h0 => keep_endOldWork h0))

theorem keep_execOldEpochGraceEnd {q : List Instr} {m : Option (List Host.Cell)} {a0 : _} (ha0 : Keep q m a0) :
    KeepR q m (execOldEpochGraceEnd a0) := by
  unfold execOldEpochGraceEnd
  exact keepR_done (keep_live (fun _ h0 => keep_oldEpochGraceEnd h0) ha0)

theorem keep_faultCancel {q : List Instr} {m : Option (List Host.Cell)} {a0 a1 : _} (ha1 : Keep q m a1) :
    Keep q m (faultCancel a0 a1) := by
  unfold faultCancel
  split
  · exact keep_when (keep_raise (keep_evtCancel ha1)) (fun _ h0 => keep_parksTimeFault h0)
  · exact ha1

theorem keep_holdoverLimit {q : List Instr} {a0 : _} (ha0 : Keep q none a0) :
    Keep q none (holdoverLimit a0) := by
  unfold holdoverLimit
  extract_lets -merge +onlyGivenNames y0 x1
  have hx1 : Keep q none x1 := keep_noticeAll (keep_raise (keep_setRg (keep_setRg (keep_setRg ha0))))
  exact keep_ite (fun _ => ha0) (fun _ => keep_when (keep_forEach hx1 (fun _ _ h3 => keep_faultCancel h3)) (fun _ h2 => keep_cancelSwitch h2))

theorem keep_execHoldoverLimit {q : List Instr} {a0 : _} (ha0 : Keep q none a0) :
    KeepR q none (execHoldoverLimit a0) := by
  unfold execHoldoverLimit
  exact keepR_done (keep_live (fun _ h0 => keep_holdoverLimit h0) ha0)

/-! ### Start -/

theorem keep_flashCut {q : List Instr} {m : Option (List Host.Cell)} {a0 : _} (ha0 : Keep q m a0) :
    Keep q m (flashCut a0) := by
  unfold flashCut
  extract_lets -merge +onlyGivenNames y0 y1 y2 y3 y4
  exact keep_onSec (keep_freeTaken ha0)

theorem keep_resetState {q : List Instr} {a0 a1 : _} (ha1 : Keep q none a1) :
    Keep q none (resetState a0 a1) :=
  ⟨ha1.1, reset_sound, fun _ e => nomatch e⟩

theorem keep_resetAssert {q : List Instr} {a0 : _} (ha0 : Keep q none a0) :
    Keep q none (resetAssert a0) := by
  unfold resetAssert
  extract_lets -merge +onlyGivenNames y0 x1
  have hx1 : Keep q none x1 := keep_resetState (keep_flashCut ha0)
  exact keep_ite (fun _ => ha0) (fun _ => keep_when (keep_onStart hx1) (fun _ h2 => keep_emit h2))

theorem keep_execResetAssert {q : List Instr} {a0 : _} (ha0 : Keep q none a0) :
    KeepR q none (execResetAssert a0) := by
  unfold execResetAssert
  exact keepR_done (keep_resetAssert ha0)

theorem keep_powerFail {q : List Instr} {m : Option (List Host.Cell)} {a0 : _} (ha0 : Keep q m a0) :
    Keep q m (powerFail a0) := by
  unfold powerFail
  exact keep_ite (fun _ => ha0) (fun _ => keep_onSec (keep_onComp (keep_onStart (keep_when ha0 (fun _ h0 => keep_flashCut h0)))))

theorem keep_execPowerFail {q : List Instr} {m : Option (List Host.Cell)} {a0 : _} (ha0 : Keep q m a0) :
    KeepR q m (execPowerFail a0) := by
  unfold execPowerFail
  exact keepR_done (keep_powerFail ha0)

theorem keep_lifeCycle {q : List Instr} {m : Option (List Host.Cell)} {a0 : _} (ha0 : Keep q m a0) :
    Keep q m (lifeCycle a0) := by
  unfold lifeCycle
  split
  · exact ha0
  · extract_lets -merge +onlyGivenNames y0 y1 y2 y3 y4 y5
    exact keep_onSec ha0

theorem keep_ownerLoaded {q : List Instr} {m : Option (List Host.Cell)} {a0 : _} (ha0 : Keep q m a0) :
    Keep q m (ownerLoaded a0) := by
  unfold ownerLoaded
  extract_lets -merge +onlyGivenNames y0
  exact keep_ite (fun _ => keep_onSec ha0) (fun _ => keep_onSec ha0)

theorem keep_resetRelease {q : List Instr} {a0 a1 : _} (ha1 : Keep q none a1) :
    Keep q none (resetRelease a0 a1) := by
  unfold resetRelease
  extract_lets -merge +onlyGivenNames x0
  have hx0 : Keep q none x0 := keep_ite (fun _ => ha1) (fun _ => keep_resetState ha1)
  exact keep_ite (fun _ => ha1) (fun _ => keep_when (keep_setRg (keep_onPkg (keep_setRg (keep_setRg (keep_setRg (keep_setRg (keep_onStart (keep_ownerLoaded (keep_lifeCycle (keep_congr hx0 rfl rfl rfl rfl)))))))))) (fun _ h1 => keep_setRg h1))

theorem keep_execResetRelease {q : List Instr} {a0 a1 : _} (ha1 : Keep q none a1) :
    KeepR q none (execResetRelease a0 a1) := by
  unfold execResetRelease
  exact keepR_done (keep_resetRelease ha1)

theorem keep_enterRecovery {q : List Instr} {m : Option (List Host.Cell)} {a0 a1 : _} (ha1 : Keep q m a1) :
    Keep q m (enterRecovery a0 a1) := by
  unfold enterRecovery
  exact keep_raise (keep_setRg (keep_setRg ha1))

theorem keep_raiseRollback {q : List Instr} {m : Option (List Host.Cell)} {a0 a1 : _} (ha1 : Keep q m a1) :
    Keep q m (raiseRollback a0 a1) := by
  unfold raiseRollback
  exact keep_ite (fun _ => keep_raise (keep_onSec ha1)) (fun _ => ha1)

theorem keep_firmwareVerified {q : List Instr} {m : Option (List Host.Cell)} {a0 a1 : _} (ha1 : Keep q m a1) :
    Keep q m (firmwareVerified a0 a1) := by
  unfold firmwareVerified
  extract_lets -merge +onlyGivenNames y0 y1
  exact keep_ite (fun _ => ha1) (fun _ => keep_ite (fun _ => keep_raiseRollback (keep_firmwareStarts ha1)) (fun _ => keep_enterRecovery ha1))

theorem keep_execFirmwareVerified {q : List Instr} {m : Option (List Host.Cell)} {a0 a1 : _} (ha1 : Keep q m a1) :
    KeepR q m (execFirmwareVerified a0 a1) := by
  unfold execFirmwareVerified
  exact keepR_done (keep_live (fun _ h0 => keep_firmwareVerified h0) ha1)

theorem keep_restoreRing {q : List Instr} {m : Option (List Host.Cell)} {a0 a1 a2 : _} (ha2 : Keep q m a2) :
    Keep q m (restoreRing a0 a1 a2) := by
  unfold restoreRing
  refine keep_forEach (keep_raise (keep_onEvrLen ha2 (List.length_take_le _ _))) (fun _ _ h1 => ?_)
  exact keep_onEvrLen h1 (pushRecord_length _ _)

theorem keep_restoreTiles {q : List Instr} {m : Option (List Host.Cell)} {a0 a1 : _} (ha1 : Keep q m a1) :
    Keep q m (restoreTiles a0 a1) := by
  unfold restoreTiles
  refine keep_forEach ha1 ?_
  intro _ _ h0
  extract_lets -merge +onlyGivenNames y1
  exact keep_when (keep_setRg h0) (fun _ h2 => keep_setRg h2)

theorem keep_restoreSer {q : List Instr} {m : Option (List Host.Cell)} {a0 a1 : _} (ha1 : Keep q m a1) :
    Keep q m (restoreSer a0 a1) := by
  unfold restoreSer
  extract_lets -merge +onlyGivenNames y0
  exact keep_ite (fun _ => ha1) (fun _ => keep_trimsRefused (keep_forEach ha1 (fun _ _ h1 => keep_serTrimLoad h1)))

theorem keep_restoreFrom {q : List Instr} {m : Option (List Host.Cell)} {a0 a1 a2 : _} (ha2 : Keep q m a2) :
    Keep q m (restoreFrom a0 a1 a2) := by
  unfold restoreFrom
  exact keep_setRg (keep_excludeFailed (keep_restoreSer (keep_when (keep_onSec (keep_onSeq (keep_restoreRing (keep_onStart ha2)))) (fun _ h0 => keep_restoreTiles h0))))

theorem keep_persistRestore {q : List Instr} {m : Option (List Host.Cell)} {a0 : _} (ha0 : Keep q m a0) :
    Keep q m (persistRestore a0) := by
  unfold persistRestore
  extract_lets -merge +onlyGivenNames y0 x1 x3
  have hx1 : Keep q m x1 := keep_forEach ha0 (fun _ _ h2 => keep_raise h2)
  have hx3 : Keep q m x3 := by
    unfold x3
    clear_value y0
    split
    · exact keep_restoreFrom hx1
    · exact keep_onSec hx1
  exact keep_ite (fun _ => ha0) (fun _ => keep_setRg (keep_onStart (keep_countRetired hx3)))

theorem keep_execPersistRestore {q : List Instr} {m : Option (List Host.Cell)} {a0 : _} (ha0 : Keep q m a0) :
    KeepR q m (execPersistRestore a0) := by
  unfold execPersistRestore
  exact keepR_done (keep_live (fun _ h0 => keep_persistRestore h0) ha0)

theorem keep_compositionLoad {q : List Instr} {a0 a1 : _} (ha1 : Keep q none a1) :
    Keep q none (compositionLoad a0 a1) := by
  unfold compositionLoad
  extract_lets -merge +onlyGivenNames x0 y1 y2
  have hx0 : Keep q none x0 := keep_onStart ha1
  clear_value y1 y2
  refine keep_ite (fun _ => ?_) (fun _ => ?_)
  · exact ha1
  · refine keep_ite (fun _ => ?_) (fun _ => ?_)
    · exact keep_cmpInvalid hx0
    · split
      · exact keep_raise (keep_putInForce hx0)
      · exact keep_cmpInvalid hx0

theorem keep_execCompositionLoad {q : List Instr} {a0 a1 : _} (ha1 : Keep q none a1) :
    KeepR q none (execCompositionLoad a0 a1) := by
  unfold execCompositionLoad
  exact keepR_done (keep_live (fun _ h0 => keep_compositionLoad h0) ha1)

theorem keep_foxStart {q : List Instr} {m : Option (List Host.Cell)} {a0 a1 a2 a3 : _} (ha3 : Keep q m a3) :
    Keep q m (foxStart a0 a1 a2 a3) := by
  unfold foxStart
  extract_lets -merge +onlyGivenNames y0 y1 y2 y3 x4 y5 y6 x6
  have hx4 : Keep q m x4 := keep_when ha3 (fun _ h5 => keep_raise h5)
  have hx6 : Keep q m x6 := by
    unfold x6
    clear_value y0 y1 y2 y3
    split
    · exact keep_setMacro (keep_setRg (keep_foxTrimLoad hx4))
    · exact keep_setMacro hx4
  clear_value y0 y1 y2 y3
  refine keep_ite (fun _ => keep_setRg hx6) (fun _ => ?_)
  split
  · exact keep_ite (fun _ => keep_calPass hx6) (fun _ => keep_calFail hx6)
  · exact keep_freeTaken (keep_calFail hx6)

theorem keep_katFailed {q : List Instr} {m : Option (List Host.Cell)} {a0 a1 : _} (ha1 : Keep q m a1) :
    Keep q m (katFailed a0 a1) := by
  unfold katFailed
  extract_lets -merge +onlyGivenNames y0
  exact keep_when (keep_setTileSt ha1) (fun _ h1 => keep_raise h1)

theorem keep_tileLevel {q : List Instr} {m : Option (List Host.Cell)} {a0 a1 a2 a3 : _} (ha3 : Keep q m a3) :
    Keep q m (tileLevel a0 a1 a2 a3) := by
  unfold tileLevel
  extract_lets -merge +onlyGivenNames y0 x1 y3 x4 y6 x7 x9 y11 y12
  have hx1 : Keep q m x1 := keep_when ha3 (fun _ h2 => keep_excludeFailed (keep_runItems h2))
  have hx4 : Keep q m x4 := keep_forEach hx1 (fun _ _ h5 => keep_katFailed h5)
  have hx7 : Keep q m x7 := keep_when hx4 (fun _ h8 => keep_trimsRefused h8)
  have hx9 : Keep q m x9 := keep_forEach hx7 (fun _ _ h10 => keep_foxStart h10)
  exact keep_ite (fun _ => ha3) (fun _ => keep_onStart (keep_raise (keep_setRg hx9)))

theorem keep_execTileLevel {q : List Instr} {m : Option (List Host.Cell)} {a0 a1 a2 a3 : _} (ha3 : Keep q m a3) :
    KeepR q m (execTileLevel a0 a1 a2 a3) := by
  unfold execTileLevel
  exact keepR_done (keep_live (fun _ h0 => keep_tileLevel h0) ha3)

theorem keep_addSlots {q : List Instr} {m : Option (List Host.Cell)} {a0 a1 a2 : _} (ha2 : Keep q m a2) :
    KeepO q m (addSlots a0 a1 a2) := by
  induction a1 generalizing a2 with
  | nil => exact keepO_some ha2
  | cons x r ih =>
    unfold addSlots
    split
    · exact ih (keep_evtTake ha2)
    · exact keepO_none

theorem keep_anchor {q : List Instr} {m : Option (List Host.Cell)} {a0 : _} (ha0 : Keep q m a0) :
    Keep q m (anchor a0) := by
  unfold anchor
  split
  · refine keep_ite (fun _ => ?_) (fun _ => ?_)
    · exact ha0
    · split
      · exact keep_setRg (keep_onStart (keep_raise (keep_setRg (keep_setRg ((keep_addSlots ha0) _ (by assumption))))))
      · exact ha0
  · exact ha0

theorem keep_execAnchor {q : List Instr} {m : Option (List Host.Cell)} {a0 : _} (ha0 : Keep q m a0) :
    KeepR q m (execAnchor a0) := by
  unfold execAnchor
  exact keepR_done (keep_live (fun _ h0 => keep_anchor h0) ha0)

theorem keep_levelBegins {q : List Instr} {m : Option (List Host.Cell)} {a0 a1 : _} (ha1 : Keep q m a1) :
    Keep q m (levelBegins a0 a1) := by
  unfold levelBegins
  extract_lets -merge +onlyGivenNames x0
  have hx0 : Keep q m x0 := keep_onStart (keep_setLevel ha1)
  refine keep_ite (fun _ => ?_) (fun _ => ?_)
  · exact keep_forEach hx0 (fun _ _ h1 => keep_drivePerst h1)
  · refine keep_levelCheck ?_
    refine keep_forEach hx0 ?_
    intro _ _ h2
    extract_lets -merge +onlyGivenNames y3
    exact keep_setLink h2

theorem keep_execStartupSlot {q : List Instr} {m : Option (List Host.Cell)} {a0 a1 : _} (ha1 : Keep q m a1) :
    KeepR q m (execStartupSlot a0 a1) := by
  unfold execStartupSlot
  exact keepR_done (keep_live (fun _ h0 => keep_fireEntry (fun _ _ h1 => keep_levelBegins h1) h0) ha1)

theorem keep_takeHbm_ {q : List Instr} {m : Option (List Host.Cell)} {a0 a1 : _} (ha1 : Keep q m a1) :
    Keep q m (takeHbm_ a0 a1) := by
  unfold takeHbm_
  refine keep_forEach ha1 ?_
  intro _ _ h0
  extract_lets -merge +onlyGivenNames y1 y2
  exact keep_onStart (keep_freeTaken h0)

theorem keep_hbmTrainingDone {q : List Instr} {m : Option (List Host.Cell)} {a0 a1 a2 : _} (ha2 : Keep q m a2) :
    Keep q m (hbmTrainingDone a0 a1 a2) := by
  unfold hbmTrainingDone
  extract_lets -merge +onlyGivenNames y0 y1 y2 y3 y4
  exact keep_ite (fun _ => ha2) (fun _ => keep_onStart (keep_takeHbm_ (keep_forEach (keep_setRg (keep_setRg (keep_setRg (keep_setRg (keep_onMem (keep_when ha2 (fun _ h6 => keep_trimsRefused h6)) (fun _ => rfl)))))) (fun _ _ h5 => keep_raise h5))))

theorem keep_execHbmTrainingDone {q : List Instr} {m : Option (List Host.Cell)} {a0 a1 a2 : _} (ha2 : Keep q m a2) :
    KeepR q m (execHbmTrainingDone a0 a1 a2) := by
  unfold execHbmTrainingDone
  exact keepR_done (keep_live (fun _ h0 => keep_hbmTrainingDone h0) ha2)

theorem keep_hbmInitDone {q : List Instr} {a0 : _} (ha0 : Keep q none a0) :
    Keep q none (hbmInitDone a0) := by
  unfold hbmInitDone
  extract_lets -merge +onlyGivenNames y0
  exact keep_ite (fun _ => ha0) (fun _ => keep_onStart (keep_levelCheck (keep_ownMaps (keep_forEach ha0 (fun _ _ h1 => keep_zeroAt h1)))))

theorem keep_execHbmInitDone {q : List Instr} {a0 : _} (ha0 : Keep q none a0) :
    KeepR q none (execHbmInitDone a0) := by
  unfold execHbmInitDone
  exact keepR_done (keep_live (fun _ h0 => keep_hbmInitDone h0) ha0)

theorem keep_discoveryTimeout {q : List Instr} {m : Option (List Host.Cell)} {a0 a1 : _} (ha1 : Keep q m a1) :
    Keep q m (discoveryTimeout a0 a1) := by
  unfold discoveryTimeout
  extract_lets -merge +onlyGivenNames y0 y1
  clear_value y0 y1
  split
  · exact keep_ite (fun _ => keep_raise (keep_setLevel ha1)) (fun _ => ha1)
  · exact ha1

theorem keep_execDiscoveryTimeout {q : List Instr} {m : Option (List Host.Cell)} {a0 a1 : _} (ha1 : Keep q m a1) :
    KeepR q m (execDiscoveryTimeout a0 a1) := by
  unfold execDiscoveryTimeout
  exact keepR_done (keep_live (fun _ h0 => keep_discoveryTimeout h0) ha1)

theorem keep_ready {q : List Instr} {m : Option (List Host.Cell)} {a0 : _} (ha0 : Keep q m a0) :
    Keep q m (ready a0) := by
  unfold ready
  extract_lets -merge +onlyGivenNames y0 x1
  have hx1 : Keep q m x1 := keep_onStart (keep_emit (keep_raise (keep_setRg (keep_setRg ha0))))
  exact keep_ite (fun _ => ha0) (fun _ => keep_ite (fun _ => keep_sendJoined hx1) (fun _ => keep_onStart hx1))

theorem keep_execReady {q : List Instr} {m : Option (List Host.Cell)} {a0 : _} (ha0 : Keep q m a0) :
    KeepR q m (execReady a0) := by
  unfold execReady
  exact keepR_done (keep_live (fun _ h0 => keep_ready h0) ha0)

/-! ### Registers -/

theorem keep_afterRead {q : List Instr} {m : Option (List Host.Cell)} {a0 a1 a2 : _} (ha2 : Keep q m a2) :
    Keep q m (afterRead a0 a1 a2) := by
  unfold afterRead
  split
  · exact ha2
  · refine keep_forEach ha2 ?_
    intro _ _ h0
    extract_lets -merge +onlyGivenNames y1
    exact keep_setRg h0

theorem keep_regRead {q : List Instr} {m : Option (List Host.Cell)} {a0 a1 a2 : _} (ha2 : Keep q m a2) :
    Keep q m (regRead a0 a1 a2).2 := by
  unfold regRead
  extract_lets -merge +onlyGivenNames x0 y2 x3 x4
  have hx0 : Keep q m x0 := keep_whenSome ha2 (fun _ _ h1 => keep_semTake h1)
  have hx3 : Keep q m x3 := keep_congr hx0 rfl rfl rfl rfl
  have hx4 : Keep q m x4 := keep_when hx3 (fun _ h5 => keep_congr h5 rfl rfl rfl rfl)
  exact keep_afterRead hx4

theorem keep_windowRefused {q : List Instr} {m : Option (List Host.Cell)} {a0 a1 a2 : _} (ha2 : Keep q m a2) :
    Keep q m (windowRefused a0 a1 a2) := by
  unfold windowRefused
  exact keep_raise ha2

theorem keep_portRead {q : List Instr} {m : Option (List Host.Cell)} {a0 a1 a2 : _} (ha2 : Keep q m a2) :
    Keep q m (portRead a0 a1 a2).2 := by
  unfold portRead
  split
  · exact keep_regRead ha2
  · exact keep_windowRefused ha2

theorem keep_claimRefused {q : List Instr} {m : Option (List Host.Cell)} {a0 a1 a2 : _} (ha2 : Keep q m a2) :
    Keep q m (claimRefused a0 a1 a2) := by
  unfold claimRefused
  extract_lets -merge +onlyGivenNames y0
  exact keep_raise (keep_setRg ha2)

theorem keep_enableWrite {q : List Instr} {m : Option (List Host.Cell)} {a0 a1 a2 a3 a4 : _} (ha4 : Keep q m a4) :
    Keep q m (enableWrite a0 a1 a2 a3 a4) := by
  unfold enableWrite
  exact keep_ite (fun _ => keep_claimRefused (keep_setRg ha4)) (fun _ => keep_setRg (keep_when ha4 (fun _ h0 => keep_cascadeFlush h0)))

theorem keep_fieldSetsOff {q : List Instr} {m : Option (List Host.Cell)} {a0 a1 a2 a3 : _} (ha3 : Keep q m a3) :
    Keep q m (fieldSetsOff a0 a1 a2 a3) := by
  unfold fieldSetsOff
  exact keep_ite (fun _ => keep_macroOut ha3) (fun _ => keep_ite (fun _ => keep_macroOut ha3) (fun _ => keep_ite (fun _ => keep_macroOut ha3) (fun _ => keep_ite (fun _ => keep_linkToDown ha3) (fun _ => ha3))))

theorem keep_fieldWrite {q : List Instr} {m : Option (List Host.Cell)} {a0 a1 a2 a3 a4 a5 : _} (ha5 : Keep q m a5) :
    Keep q m (fieldWrite a0 a1 a2 a3 a4 a5) := by
  unfold fieldWrite
  extract_lets -merge +onlyGivenNames y0 y1
  clear_value y0 y1
  split
  · exact keep_enableWrite ha5
  · extract_lets -merge +onlyGivenNames y2
    exact keep_fieldSetsOff (keep_setRg (keep_when ha5 (fun _ h3 => keep_shiftPause h3)))
  · exact ha5

theorem keep_action {q : List Instr} {a0 a1 a2 a3 a4 : _} (ha4 : Keep q none a4) :
    Keep q none (action a0 a1 a2 a3 a4) := by
  unfold action
  split
  · exact keep_stage ha4
  · exact keep_arm ha4
  · exact keep_cancel ha4
  · exact keep_commit ha4
  · exact keep_evtAdd ha4
  · exact keep_evtCancelCmd ha4
  · exact keep_queueEnable ha4
  · exact keep_queueDisable ha4
  · exact keep_queueReset ha4
  · exact keep_walkCacheFlush ha4
  · exact keep_shadowStart ha4
  · exact keep_shadowStop ha4
  · exact keep_linkRetrain ha4
  · exact keep_forceLane ha4
  · exact keep_forceWave ha4
  · exact keep_trfApply ha4
  · exact keep_owlScrubForce ha4
  · exact keep_scrubForce ha4
  · exact keep_injectArm ha4
  · exact keep_secLoad ha4
  · exact keep_secLoadCommit ha4
  · exact keep_attestStart ha4
  · exact keep_sessionLoad ha4
  · exact keep_sessionUnload ha4
  · exact keep_retireSlot ha4
  · exact keep_forceRetire ha4
  · exact keep_writeNotice ha4
  · exact keep_clearSteps ha4
  · exact keep_clearHolds ha4
  · exact keep_shutdownStart ha4
  · exact keep_selftestStart ha4
  · exact keep_evrClear ha4
  · exact ha4

theorem keep_actionsRefused {q : List Instr} {m : Option (List Host.Cell)} {a0 a1 a2 : _} (ha2 : Keep q m a2) :
    Keep q m (actionsRefused a0 a1 a2) := by
  unfold actionsRefused
  split
  · exact keep_cmpRefused ha2
  · exact keep_result ha2
  · exact keep_ctxResult ha2
  · exact keep_result ha2
  · exact keep_loadResult ha2
  · exact keep_sessionResult ha2
  · exact ha2

theorem keep_runActions {q : List Instr} {a0 a1 a2 a3 a4 : _} (ha4 : Keep q none a4) :
    Keep q none (runActions a0 a1 a2 a3 a4) := by
  unfold runActions
  extract_lets -merge +onlyGivenNames y0
  exact keep_ite (fun _ => keep_live (fun _ h1 => keep_forEach h1 (fun _ _ h2 => keep_action h2)) ha4) (fun _ => keep_getD (keepMapOn (fun _ => keep_actionsRefused ha4)) ha4)

theorem keep_writeBarred {q : List Instr} {m : Option (List Host.Cell)} {a0 a1 a2 : _} (ha2 : Keep q m a2) :
    KeepO q m (writeBarred a0 a1 a2) := by
  unfold writeBarred
  split
  · exact keepO_some (keep_cmpRefused ha2)
  · split
    · exact keepO_some ha2
    · split
      · exact keepO_some (keep_raise ha2)
      · exact keepO_none

theorem keep_ownWrite {q : List Instr} {p e off v : Nat} {f : State → State} {s : State} (h : Keep q none s)
    (hf : ownWrite p e off v = some f) : Keep q none (f s) := by
  unfold ownWrite at hf
  split at hf
  · cases hf; exact keep_semRelease h
  · split at hf
    · cases hf; exact keep_expertUnlock h
    · split at hf
      · cases hf; exact keep_live (fun _ h => keep_doorbell h) h
      · split at hf
        · cases hf; exact keep_onTrf h
        · split at hf
          · cases hf; exact keep_onDep h
          · split at hf
            · cases hf; exact keep_onSec h
            · cases hf

theorem keep_regWrite {q : List Instr} {a0 a1 a2 a3 : _} (ha3 : Keep q none a3) :
    Keep q none (regWrite a0 a1 a2 a3) := by
  unfold regWrite
  split
  · exact ha3
  · exact keep_writeBarred ha3 _ (by assumption)
  · split
    · exact keep_ownWrite ha3 (by assumption)
    · exact keep_runActions (keep_forEach ha3 (fun _ _ h => keep_fieldWrite h))

theorem keep_portWrite {q : List Instr} {a0 a1 a2 a3 : _} (ha3 : Keep q none a3) :
    Keep q none (portWrite a0 a1 a2 a3) := by
  unfold portWrite
  exact keep_ite (fun _ => keep_regWrite ha3) (fun _ => keep_windowRefused ha3)

theorem keep_ctrlDiscard {q : List Instr} {m : Option (List Host.Cell)} {a0 a1 : _} (ha1 : Keep q m a1) :
    Keep q m (ctrlDiscard a0 a1) := by
  unfold ctrlDiscard
  exact keep_bump ha1

theorem keep_readAccess {q : List Instr} {m : Option (List Host.Cell)} {a0 a1 a2 : _} (ha2 : Keep q m a2) :
    Keep q m (readAccess a0 a1 a2) := by
  unfold readAccess
  refine keep_ite (fun _ => ?_) (fun _ => ?_)
  · refine keep_access ?_ ha2
    intro _ h0
    extract_lets -merge +onlyGivenNames x1
    have hx1 : Keep q m x1.2 := keep_portRead h0
    exact keep_emit hx1
  · exact ha2

theorem keep_writeAccess {q : List Instr} {a0 a1 a2 a3 : _} (ha3 : Keep q none a3) :
    Keep q none (writeAccess a0 a1 a2 a3) := by
  unfold writeAccess
  exact keep_ite (fun _ => keep_access (fun _ h0 => keep_portWrite h0) ha3) (fun _ => keep_ite (fun _ => keep_ctrlDiscard ha3) (fun _ => ha3))

theorem keep_execRegisterWrite {q : List Instr} {a0 a1 a2 a3 : _} (ha3 : Keep q none a3) :
    KeepR q none (execRegisterWrite a0 a1 a2 a3) := by
  unfold execRegisterWrite
  exact keepR_done (keep_writeAccess ha3)

theorem keep_execReadClear {q : List Instr} {m : Option (List Host.Cell)} {a0 a1 a2 : _} (ha2 : Keep q m a2) :
    KeepR q m (execReadClear a0 a1 a2) := by
  unfold execReadClear
  exact keepR_done (keep_readAccess ha2)

theorem keep_execLatchedRead {q : List Instr} {m : Option (List Host.Cell)} {a0 a1 a2 : _} (ha2 : Keep q m a2) :
    KeepR q m (execLatchedRead a0 a1 a2) := by
  unfold execLatchedRead
  exact keepR_done (keep_readAccess ha2)

theorem keep_execExpertWindowAccess {q : List Instr} {a0 a1 a2 a3 : _} (ha3 : Keep q none a3) :
    KeepR q none (execExpertWindowAccess a0 a1 a2 a3) := by
  unfold execExpertWindowAccess
  refine keepR_done ?_
  split
  · exact keep_readAccess ha3
  · exact keep_writeAccess ha3

theorem keep_readAll {q : List Instr} {m : Option (List Host.Cell)} {a0 a1 a2 : _} (ha2 : Keep q m a2) :
    Keep q m (readAll a0 a1 a2).2 := by
  induction a1 generalizing a2 with
  | nil => exact ha2
  | cons x r ih =>
    unfold readAll
    refine ih ?_
    split
    · exact keep_portRead ha2
    · exact ha2

theorem keep_ctrlResp {q : List Instr} {m : Option (List Host.Cell)} {a0 a1 a2 a3 a4 a5 : _} (ha5 : Keep q m a5) :
    Keep q m (ctrlResp a0 a1 a2 a3 a4 a5) := by
  unfold ctrlResp
  extract_lets -merge +onlyGivenNames y0
  exact keep_oSend ha5

theorem keep_ctrlAccept {q : List Instr} {m : Option (List Host.Cell)} {a0 a1 a2 a3 : _} (ha3 : Keep q m a3) :
    Keep q m (ctrlAccept a0 a1 a2 a3) := by
  unfold ctrlAccept
  extract_lets -merge +onlyGivenNames y0
  exact keep_setOnz ha3

theorem keep_ctrlRead {q : List Instr} {m : Option (List Host.Cell)} {a0 a1 a2 a3 a4 : _} (ha4 : Keep q m a4) :
    Keep q m (ctrlRead a0 a1 a2 a3 a4) := by
  unfold ctrlRead
  extract_lets -merge +onlyGivenNames x0
  have hx0 : Keep q m x0.2 := keep_readAll (keep_ctrlAccept ha4)
  exact keep_ite (fun _ => keep_ctrlResp (keep_ctrlAccept ha4)) (fun _ => keep_ite (fun _ => keep_ctrlResp hx0) (fun _ => keep_returnCredit ha4))

theorem keep_execCtrlRd {q : List Instr} {m : Option (List Host.Cell)} {a0 a1 a2 a3 a4 a5 : _} (ha5 : Keep q m a5) :
    KeepR q m (execCtrlRd a0 a1 a2 a3 a4 a5) := by
  unfold execCtrlRd
  exact keepR_done (keep_powered (fun _ h0 => keep_oReceive (fun _ h1 => keep_ite (fun _ => keep_ctrlRead h1) (fun _ => keep_ctrlDiscard (keep_returnCredit h1))) h0) ha5)

theorem keep_ctrlWrite {q : List Instr} {a0 a1 a2 a3 : _} (ha3 : Keep q none a3) :
    Keep q none (ctrlWrite a0 a1 a2 a3) := by
  unfold ctrlWrite
  refine keep_ite (fun _ => ?_) (fun _ => ?_)
  · exact keep_ctrlDiscard ha3
  · refine keep_forEach ha3 ?_
    intro _ _ h0
    extract_lets -merge +onlyGivenNames y1
    exact keep_ite (fun _ => keep_portWrite h0) (fun _ => h0)

theorem keep_execCtrlWr {q : List Instr} {a0 a1 a2 a3 a4 : _} (ha4 : Keep q none a4) :
    KeepR q none (execCtrlWr a0 a1 a2 a3 a4) := by
  unfold execCtrlWr
  refine keepR_done ?_
  refine keep_powered ?_ ha4
  intro _ h0
  refine keep_oReceive ?_ h0
  intro _ h1
  extract_lets -merge +onlyGivenNames x2
  have hx2 : Keep q none x2 := keep_returnCredit h1
  exact keep_ite (fun _ => keep_ctrlWrite hx2) (fun _ => keep_ctrlDiscard hx2)

/-! ### Pkg -/

theorem keep_i3cReadFrom {q : List Instr} {m : Option (List Host.Cell)} {a0 a1 a2 : _} (ha2 : Keep q m a2) :
    Keep q m (i3cReadFrom a0 a1 a2).2 := by
  induction a1 generalizing a0 a2 with
  | zero => exact ha2
  | succ n ih =>
    unfold i3cReadFrom
    refine ih ?_
    split
    · exact keep_regRead ha2
    · exact ha2

theorem keep_i3cRead {q : List Instr} {m : Option (List Host.Cell)} {a0 a1 : _} (ha1 : Keep q m a1) :
    Keep q m (i3cRead a0 a1) := by
  unfold i3cRead
  extract_lets -merge +onlyGivenNames x0
  have hx0 : Keep q m x0.2 := keep_i3cReadFrom ha1
  exact keep_emit hx0

theorem keep_execI3cRead {q : List Instr} {m : Option (List Host.Cell)} {a0 a1 : _} (ha1 : Keep q m a1) :
    KeepR q m (execI3cRead a0 a1) := by
  unfold execI3cRead
  exact keepR_done (keep_powered (fun _ h0 => keep_i3cRead h0) ha1)

theorem keep_i3cWrite {q : List Instr} {a0 a1 a2 : _} (ha2 : Keep q none a2) :
    Keep q none (i3cWrite a0 a1 a2) := by
  unfold i3cWrite
  refine keep_forEach (keep_onPkg ha2) ?_
  intro _ _ h0
  extract_lets -merge +onlyGivenNames y1
  exact keep_ite (fun _ => keep_regWrite h0) (fun _ => h0)

theorem keep_execI3cWrite {q : List Instr} {a0 a1 a2 : _} (ha2 : Keep q none a2) :
    KeepR q none (execI3cWrite a0 a1 a2) := by
  unfold execI3cWrite
  exact keepR_done (keep_powered (fun _ h0 => keep_i3cWrite h0) ha2)

theorem keep_execI3cSetdasa {q : List Instr} {m : Option (List Host.Cell)} {a0 a1 : _} (ha1 : Keep q m a1) :
    KeepR q m (execI3cSetdasa a0 a1) := by
  unfold execI3cSetdasa
  exact keepR_done (keep_powered (fun _ h0 => keep_onPkg h0) ha1)

theorem keep_jtagInstruction {q : List Instr} {m : Option (List Host.Cell)} {a0 a1 : _} (ha1 : Keep q m a1) :
    Keep q m (jtagInstruction a0 a1) := by
  unfold jtagInstruction
  extract_lets -merge +onlyGivenNames y0
  exact keep_ite (fun _ => keep_emit (keep_onPkg ha1)) (fun _ => ha1)

theorem keep_execJtagInstruction {q : List Instr} {m : Option (List Host.Cell)} {a0 a1 : _} (ha1 : Keep q m a1) :
    KeepR q m (execJtagInstruction a0 a1) := by
  unfold execJtagInstruction
  exact keepR_done (keep_jtagInstruction ha1)

/-! ### Tick -/

theorem keep_steerTick {q : List Instr} {m : Option (List Host.Cell)} {a0 : _} (ha0 : Keep q m a0) :
    Keep q m (steerTick a0).1 := by
  unfold steerTick
  extract_lets -merge +onlyGivenNames y0 y1 y2
  clear_value y0 y1 y2
  split
  · exact ha0
  · exact keep_onTime ha0

theorem keep_slewTick {q : List Instr} {m : Option (List Host.Cell)} {a0 : _} (ha0 : Keep q m a0) :
    Keep q m (slewTick a0).1 := by
  unfold slewTick
  extract_lets -merge +onlyGivenNames y0
  clear_value y0
  split
  · exact ha0
  · split
    · exact keep_onTime ha0
    · split
      · exact keep_onTime ha0
      · exact ha0

theorem keep_tick {q : List Instr} {m : Option (List Host.Cell)} {a0 : _} (ha0 : Keep q m a0) :
    Keep q m (tick a0) := by
  unfold tick
  extract_lets -merge +onlyGivenNames x0 x1 x2 y3 x4 x5
  have hx0 : Keep q m x0 := keep_congr ha0 rfl rfl rfl rfl
  have hx1 : Keep q m x1.1 := keep_steerTick hx0
  have hx2 : Keep q m x2.1 := keep_slewTick hx1
  have hx4 : Keep q m x4 := hx2
  have hx5 : Keep q m x5 := keep_ite (fun _ => keep_onTime hx0) (fun _ => keep_onTime (keep_congr hx4 rfl rfl rfl rfl))
  exact keep_ite (fun _ => ha0) (fun _ => keep_forEach hx5 (fun _ _ h6 => keep_notifyPort h6))

end Sys2Proof.Machine
end

