-- ==== Sys2Proof/Laws/Ports.lean ====
section
/-! SUPPORT. The operations by which every block reaches the hosts and the recorder (events, completion entries, reads
and writes of host memory, results) change only the register cells, the free-value counter, what was sent, the
recorder, the ports, the queues and the note of the first stale request: every other part of the state stays. -/

namespace Sys2Proof.Machine

open Sys2Proof

/-- A state without the parts that these operations change. -/
def strip (s : State) : State :=
  { s with regs := [], freeCtr := 0, sent := [], evr := EvrSt.init, onzA := OnzSt.init, onzB := OnzSt.init,
           que := QueSt.init, comp := CompSt.init }

/-- A state whose other parts are those of `r`. -/
def Rest (r s : State) : Prop := strip s = r

theorem rest_congr {r s t : State} (h : Rest r s) (e : strip t = strip s) : Rest r t := e.trans h

theorem rest_ite {r : State} {c : Prop} [Decidable c] {a b : State} (ha : c → Rest r a) (hb : ¬c → Rest r b) :
    Rest r (if c then a else b) := by
  by_cases h : c
  · rw [if_pos h]; exact ha h
  · rw [if_neg h]; exact hb h

theorem rest_setRg {r : State} {n : RN} {i v : Nat} {s : State} (h : Rest r s) : Rest r (setRg n i v s) := h
theorem rest_onQue {r : State} {f : QueSt → QueSt} {s : State} (h : Rest r s) : Rest r (onQue f s) := h
theorem rest_onEvr {r : State} {f : EvrSt → EvrSt} {s : State} (h : Rest r s) : Rest r (onEvr f s) := h
theorem rest_emit {r : State} {x : Sent} {s : State} (h : Rest r s) : Rest r (emit x s) := h
theorem rest_freeTaken {r s : State} (h : Rest r s) : Rest r (freeTaken s) := h
theorem rest_setOnz {r : State} {p : Nat} {o : OnzSt} {s : State} (h : Rest r s) : Rest r (setOnz p o s) := by
  unfold setOnz
  exact rest_ite (fun _ => h) (fun _ => h)

theorem rest_forEach {α : Type} {r : State} {l : List α} {f : α → State → State} {s : State} (h : Rest r s)
    (hf : ∀ x t, Rest r t → Rest r (f x t)) : Rest r (forEach l f s) :=
  forEach_keeps l f s h hf

theorem rest_when {r : State} {c : Bool} {f : State → State} {s : State} (h : Rest r s)
    (hf : ∀ t, Rest r t → Rest r (f t)) : Rest r (when c f s) := by
  cases c
  · exact h
  · exact hf s h

theorem rest_foldl {α β : Type} {r : State} {l : List β} {f : α × State → β → α × State} {a : α × State}
    (h : Rest r a.2) (hf : ∀ x, Rest r x.2 → ∀ y, Rest r (f x y).2) : Rest r (l.foldl f a).2 := by
  induction l generalizing a with
  | nil => exact h
  | cons y l ih => exact ih (hf a h y)

theorem rest_bump {r : State} {a0 a1 a2 a3 : _} (ha3 : Rest r a3) :
    Rest r (bump a0 a1 a2 a3) := by
  unfold bump
  exact rest_setRg ha3

theorem rest_writeRecord {r : State} {a0 a1 a2 a3 : _} (ha3 : Rest r a3) :
    Rest r (writeRecord a0 a1 a2 a3) := by
  unfold writeRecord
  exact rest_when ha3 (fun _ h1 => rest_bump h1)

theorem rest_freshCounts {r : State} {a0 : _} (ha0 : Rest r a0) :
    Rest r (freshCounts a0) := by
  unfold freshCounts
  extract_lets -merge +onlyGivenNames y0
  exact rest_ite (fun _ => ha0) (fun _ => rest_congr ha0 rfl)

theorem rest_raise {r : State} {a0 a1 a2 a3 : _} (ha3 : Rest r a3) :
    Rest r (raise a0 a1 a2 a3) := by
  unfold raise
  extract_lets -merge +onlyGivenNames x0 y1 x2 y3 y4 x5
  have hx0 : Rest r x0 := rest_freshCounts ha3
  have hx2 : Rest r x2 := rest_writeRecord hx0
  have hx5 : Rest r x5 := rest_congr hx0 rfl
  exact rest_ite (fun _ => rest_congr hx2 rfl) (fun _ => rest_bump hx5)

theorem rest_raiseFirst {r : State} {a0 a1 a2 a3 a4 : _} (ha4 : Rest r a4) :
    Rest r (raiseFirst a0 a1 a2 a3 a4) := by
  unfold raiseFirst
  extract_lets -merge +onlyGivenNames y0
  exact rest_ite (fun _ => ha4) (fun _ => rest_raise (rest_congr ha4 rfl))

theorem rest_result {r : State} {a0 a1 a2 a3 a4 : _} (ha4 : Rest r a4) :
    Rest r (result a0 a1 a2 a3 a4) := by
  unfold result
  exact rest_setRg (rest_setRg ha4)

theorem rest_expertDo {r : State} {a0 a1 a2 a3 a4 : _} (ha3 : ∀ x0, Rest r x0 → Rest r (a3 x0)) (ha4 : Rest r a4) :
    Rest r (expertDo a0 a1 a2 a3 a4) := by
  unfold expertDo
  exact rest_ite (fun _ => ha3 _ ha4) (fun _ => rest_raise ha4)

theorem rest_raiseCar {r : State} {a0 a1 a2 a3 : _} (ha3 : Rest r a3) :
    Rest r (raiseCar a0 a1 a2 a3) := by
  unfold raiseCar
  exact rest_raiseFirst ha3

theorem rest_oSendCtl {r : State} {a0 a1 a2 a3 a4 : _} (ha4 : Rest r a4) :
    Rest r (oSendCtl a0 a1 a2 a3 a4) := by
  unfold oSendCtl
  exact rest_emit ha4

theorem rest_returnCredit {r : State} {a0 a1 a2 a3 : _} (ha3 : Rest r a3) :
    Rest r (returnCredit a0 a1 a2 a3) := by
  unfold returnCredit
  exact rest_oSendCtl ha3

theorem rest_answerLeaves {r : State} {a0 a1 a2 : _} (ha2 : Rest r a2) :
    Rest r (answerLeaves a0 a1 a2) := by
  unfold answerLeaves
  split
  · extract_lets -merge +onlyGivenNames y0
    exact rest_returnCredit (rest_setOnz ha2)
  · exact ha2

theorem rest_oTransmit {r : State} {a0 a1 a2 : _} (ha2 : Rest r a2) :
    Rest r (oTransmit a0 a1 a2) := by
  unfold oTransmit
  extract_lets -merge +onlyGivenNames y0 y1 y2
  exact rest_answerLeaves (rest_setOnz (rest_emit ha2))

theorem rest_oFlushFrom {r : State} {a0 a1 a2 a3 a4 : _} (ha4 : Rest r a4) :
    Rest r (oFlushFrom a0 a1 a2 a3 a4) := by
  induction a1 generalizing a2 a3 a4 with
  | nil => exact ha4
  | cons f r ih =>
    unfold oFlushFrom
    exact rest_ite (fun _ => ih (rest_setOnz ha4)) (fun _ => rest_ite (fun _ => ih (rest_setOnz ha4)) (fun _ => ih (rest_oTransmit ha4)))

theorem rest_oFlush {r : State} {a0 a1 : _} (ha1 : Rest r a1) :
    Rest r (oFlush a0 a1) := by
  unfold oFlush
  extract_lets -merge +onlyGivenNames y0 y1
  exact rest_oFlushFrom (rest_setOnz ha1)

theorem rest_oSend {r : State} {a0 a1 a2 : _} (ha2 : Rest r a2) :
    Rest r (oSend a0 a1 a2) := by
  unfold oSend
  extract_lets -merge +onlyGivenNames y0
  exact rest_ite (fun _ => rest_oFlush (rest_setOnz ha2)) (fun _ => ha2)

theorem rest_memWriteAs {r : State} {a0 a1 a2 a3 a4 a5 : _} (ha5 : Rest r a5) :
    Rest r (memWriteAs a0 a1 a2 a3 a4 a5) := by
  unfold memWriteAs
  extract_lets -merge +onlyGivenNames y0
  exact rest_forEach ha5 (fun _ _ h1 => rest_oSend h1)

theorem rest_memWrite {r : State} {a0 a1 a2 a3 a4 : _} (ha4 : Rest r a4) :
    Rest r (memWrite a0 a1 a2 a3 a4) := by
  unfold memWrite
  exact rest_memWriteAs ha4

theorem rest_memWriteDue {r : State} {a0 a1 a2 a3 a4 : _} (ha4 : Rest r a4) :
    Rest r (memWriteDue a0 a1 a2 a3 a4) := by
  unfold memWriteDue
  exact rest_memWriteAs ha4

theorem rest_memWritePadded {r : State} {a0 a1 a2 a3 : _} (ha3 : Rest r a3) :
    Rest r (memWritePadded a0 a1 a2 a3) := by
  unfold memWritePadded
  exact rest_memWrite ha3

theorem rest_undelivered {r : State} {a0 a1 : _} (ha1 : Rest r a1) :
    Rest r (undelivered a0 a1) := by
  unfold undelivered
  extract_lets -merge +onlyGivenNames y0 y1
  exact rest_when (rest_setOnz (rest_bump ha1)) (fun _ h2 => rest_raise h2)

theorem rest_oIssue {r : State} {a0 a1 a2 : _} (ha2 : Rest r a2) :
    Rest r (oIssue a0 a1 a2) := by
  induction a0 generalizing a2 with
  | zero => exact ha2
  | succ n ih =>
    unfold oIssue
    extract_lets -merge +onlyGivenNames y
    split
    · exact ih (rest_oSend (rest_setOnz (rest_freeTaken ha2)))
    · exact ha2

theorem rest_memRead {r : State} {a0 a1 a2 a3 a4 : _} (ha4 : Rest r a4) :
    Rest r (memRead a0 a1 a2 a3 a4) := by
  unfold memRead
  extract_lets -merge +onlyGivenNames y0 x1
  have hx1 : Rest r x1 := rest_setOnz ha4
  exact rest_oIssue hx1

theorem rest_oReceive {r : State} {a0 a1 a2 a3 : _} (ha2 : ∀ x0, Rest r x0 → Rest r (a2 x0)) (ha3 : Rest r a3) :
    Rest r (oReceive a0 a1 a2 a3) := by
  unfold oReceive
  extract_lets -merge +onlyGivenNames y0
  exact rest_ite (fun _ => ha3) (fun _ => rest_ite (fun _ => ha2 _ (rest_oSendCtl (rest_setOnz ha3))) (fun _ => rest_oSendCtl (rest_bump (rest_setOnz ha3))))

theorem rest_countStale {r : State} {a0 : _} (ha0 : Rest r a0) :
    Rest r (countStale a0) := by
  unfold countStale
  extract_lets -merge +onlyGivenNames y0 y1
  exact rest_when (rest_bump (rest_congr ha0 rfl)) (fun _ h2 => rest_raise h2)

theorem rest_setCtx {r : State} {a0 a1 a2 : _} (ha2 : Rest r a2) :
    Rest r (setCtx a0 a1 a2) := by
  unfold setCtx
  exact rest_onQue ha2

theorem rest_sendIrq {r : State} {a0 a1 : _} (ha1 : Rest r a1) :
    Rest r (sendIrq a0 a1) := by
  unfold sendIrq
  extract_lets -merge +onlyGivenNames y0 y1 x2
  have hx2 : Rest r x2 := rest_setCtx ha1
  exact rest_ite (fun _ => rest_memWriteDue hx2) (fun _ => rest_undelivered hx2)

theorem rest_stopQueue {r : State} {a0 a1 a2 a3 : _} (ha3 : Rest r a3) :
    Rest r (stopQueue a0 a1 a2 a3) := by
  unfold stopQueue
  extract_lets -merge +onlyGivenNames y0 x1 y2 x3
  have hx1 : Rest r x1 := rest_setCtx ha3
  have hx3 : Rest r x3 := rest_onQue hx1
  exact rest_ite (fun _ => ha3) (fun _ => rest_when (rest_raise hx3) (fun _ h4 => rest_sendIrq h4))

theorem rest_sealRecord {r : State} {a0 a1 a2 a3 a4 a5 a6 : _} (ha6 : Rest r a6) :
    Rest r (sealRecord a0 a1 a2 a3 a4 a5 a6).2 := by
  unfold sealRecord
  extract_lets -merge +onlyGivenNames y0 y1 y2 y3
  exact rest_onQue ha6

theorem rest_hostWrite {r : State} {a0 a1 a2 a3 : _} (ha3 : Rest r a3) :
    Rest r (hostWrite a0 a1 a2 a3) := by
  unfold hostWrite
  split
  · exact ha3
  · refine rest_ite (fun _ => ?_) (fun _ => ?_)
    · refine rest_foldl ha3 ?_
      intro _ h0 _
      extract_lets -merge +onlyGivenNames x1
      have hx1 : Rest r x1.2 := rest_sealRecord h0
      exact rest_memWrite hx1
    · exact rest_memWritePadded ha3

theorem rest_setCmd {r : State} {a0 a1 a2 : _} (ha2 : Rest r a2) :
    Rest r (setCmd a0 a1 a2) := by
  unfold setCmd
  exact rest_onQue ha2

theorem rest_noteLost {r : State} {a0 a1 : _} (ha1 : Rest r a1) :
    Rest r (noteLost a0 a1) := by
  unfold noteLost
  exact rest_raise ha1

theorem rest_hostReadRaw {r : State} {a0 a1 a2 a3 : _} (ha3 : Rest r a3) :
    Rest r (hostReadRaw a0 a1 a2 a3) := by
  unfold hostReadRaw
  split
  · exact ha3
  · extract_lets -merge +onlyGivenNames y0
    exact rest_ite (fun _ => rest_forEach (rest_setCmd ha3) (fun _ _ h1 => rest_memRead h1)) (fun _ => rest_when (rest_setCmd ha3) (fun _ h2 => rest_noteLost h2))

theorem rest_hostRead {r : State} {a0 a1 a2 a3 : _} (ha3 : Rest r a3) :
    Rest r (hostRead a0 a1 a2 a3) := by
  unfold hostRead
  split
  · exact ha3
  · exact rest_hostReadRaw ha3

theorem rest_writeCqe {r : State} {a0 a1 a2 a3 a4 : _} (ha4 : Rest r a4) :
    Rest r (writeCqe a0 a1 a2 a3 a4) := by
  unfold writeCqe
  extract_lets -merge +onlyGivenNames y0 y1 y2 y3 y4 x5 x6 y7 y8 y9
  have hx5 : Rest r x5.2 := rest_sealRecord ha4
  have hx6 : Rest r x6 := rest_ite (fun _ => rest_memWriteDue hx5) (fun _ => rest_memWriteDue ha4)
  exact rest_ite (fun _ => rest_undelivered ha4) (fun _ => rest_when (rest_setCtx hx6) (fun _ h10 => rest_sendIrq h10))

theorem rest_noteMember {r : State} {a0 a1 a2 : _} (ha2 : Rest r a2) :
    Rest r (noteMember a0 a1 a2) := by
  unfold noteMember
  split
  · exact ha2
  · extract_lets -merge +onlyGivenNames y0 y1 y2
    exact rest_onQue ha2

theorem rest_cmpRefused {r : State} {a0 : _} (ha0 : Rest r a0) :
    Rest r (cmpRefused a0) := by
  unfold cmpRefused
  exact rest_raise ha0

theorem rest_windowRefused {r : State} {a0 a1 a2 : _} (ha2 : Rest r a2) :
    Rest r (windowRefused a0 a1 a2) := by
  unfold windowRefused
  exact rest_raise ha2

theorem rest_ctrlDiscard {r : State} {a0 a1 : _} (ha1 : Rest r a1) :
    Rest r (ctrlDiscard a0 a1) := by
  unfold ctrlDiscard
  exact rest_bump ha1

theorem rest_ctrlResp {r : State} {a0 a1 a2 a3 a4 a5 : _} (ha5 : Rest r a5) :
    Rest r (ctrlResp a0 a1 a2 a3 a4 a5) := by
  unfold ctrlResp
  extract_lets -merge +onlyGivenNames y0
  exact rest_oSend ha5

/-! ### Field by field -/

@[simp] theorem raise_clk (a0 a1 a2 : _) (s : State) : (raise a0 a1 a2 s).clk = s.clk :=
  (congrArg State.clk (show strip (raise a0 a1 a2 s) = strip s from rest_raise rfl) :)
@[simp] theorem raise_ft (a0 a1 a2 : _) (s : State) : (raise a0 a1 a2 s).ft = s.ft :=
  (congrArg State.ft (show strip (raise a0 a1 a2 s) = strip s from rest_raise rfl) :)
@[simp] theorem raise_hi (a0 a1 a2 : _) (s : State) : (raise a0 a1 a2 s).hi = s.hi :=
  (congrArg State.hi (show strip (raise a0 a1 a2 s) = strip s from rest_raise rfl) :)
@[simp] theorem raise_pending (a0 a1 a2 : _) (s : State) : (raise a0 a1 a2 s).pending = s.pending :=
  (congrArg State.pending (show strip (raise a0 a1 a2 s) = strip s from rest_raise rfl) :)
@[simp] theorem raise_mon (a0 a1 a2 : _) (s : State) : (raise a0 a1 a2 s).mon = s.mon :=
  (congrArg State.mon (show strip (raise a0 a1 a2 s) = strip s from rest_raise rfl) :)
@[simp] theorem raise_time (a0 a1 a2 : _) (s : State) : (raise a0 a1 a2 s).time = s.time :=
  (congrArg State.time (show strip (raise a0 a1 a2 s) = strip s from rest_raise rfl) :)
@[simp] theorem raise_seq (a0 a1 a2 : _) (s : State) : (raise a0 a1 a2 s).seq = s.seq :=
  (congrArg State.seq (show strip (raise a0 a1 a2 s) = strip s from rest_raise rfl) :)
@[simp] theorem raise_owl (a0 a1 a2 : _) (s : State) : (raise a0 a1 a2 s).owl = s.owl :=
  (congrArg State.owl (show strip (raise a0 a1 a2 s) = strip s from rest_raise rfl) :)
@[simp] theorem raise_fox (a0 a1 a2 : _) (s : State) : (raise a0 a1 a2 s).fox = s.fox :=
  (congrArg State.fox (show strip (raise a0 a1 a2 s) = strip s from rest_raise rfl) :)
@[simp] theorem raise_dep (a0 a1 a2 : _) (s : State) : (raise a0 a1 a2 s).dep = s.dep :=
  (congrArg State.dep (show strip (raise a0 a1 a2 s) = strip s from rest_raise rfl) :)
@[simp] theorem raise_park (a0 a1 a2 : _) (s : State) : (raise a0 a1 a2 s).park = s.park :=
  (congrArg State.park (show strip (raise a0 a1 a2 s) = strip s from rest_raise rfl) :)
@[simp] theorem raise_prt (a0 a1 a2 : _) (s : State) : (raise a0 a1 a2 s).prt = s.prt :=
  (congrArg State.prt (show strip (raise a0 a1 a2 s) = strip s from rest_raise rfl) :)
@[simp] theorem raise_trf (a0 a1 a2 : _) (s : State) : (raise a0 a1 a2 s).trf = s.trf :=
  (congrArg State.trf (show strip (raise a0 a1 a2 s) = strip s from rest_raise rfl) :)
@[simp] theorem raise_mem (a0 a1 a2 : _) (s : State) : (raise a0 a1 a2 s).mem = s.mem :=
  (congrArg State.mem (show strip (raise a0 a1 a2 s) = strip s from rest_raise rfl) :)
@[simp] theorem raise_sec (a0 a1 a2 : _) (s : State) : (raise a0 a1 a2 s).sec = s.sec :=
  (congrArg State.sec (show strip (raise a0 a1 a2 s) = strip s from rest_raise rfl) :)
@[simp] theorem raise_ras (a0 a1 a2 : _) (s : State) : (raise a0 a1 a2 s).ras = s.ras :=
  (congrArg State.ras (show strip (raise a0 a1 a2 s) = strip s from rest_raise rfl) :)
@[simp] theorem raise_start (a0 a1 a2 : _) (s : State) : (raise a0 a1 a2 s).start = s.start :=
  (congrArg State.start (show strip (raise a0 a1 a2 s) = strip s from rest_raise rfl) :)
@[simp] theorem raise_pkg (a0 a1 a2 : _) (s : State) : (raise a0 a1 a2 s).pkg = s.pkg :=
  (congrArg State.pkg (show strip (raise a0 a1 a2 s) = strip s from rest_raise rfl) :)

@[simp] theorem hostRead_clk (a0 a1 a2 : _) (s : State) : (hostRead a0 a1 a2 s).clk = s.clk :=
  (congrArg State.clk (show strip (hostRead a0 a1 a2 s) = strip s from rest_hostRead rfl) :)
@[simp] theorem hostRead_ft (a0 a1 a2 : _) (s : State) : (hostRead a0 a1 a2 s).ft = s.ft :=
  (congrArg State.ft (show strip (hostRead a0 a1 a2 s) = strip s from rest_hostRead rfl) :)
@[simp] theorem hostRead_hi (a0 a1 a2 : _) (s : State) : (hostRead a0 a1 a2 s).hi = s.hi :=
  (congrArg State.hi (show strip (hostRead a0 a1 a2 s) = strip s from rest_hostRead rfl) :)
@[simp] theorem hostRead_pending (a0 a1 a2 : _) (s : State) : (hostRead a0 a1 a2 s).pending = s.pending :=
  (congrArg State.pending (show strip (hostRead a0 a1 a2 s) = strip s from rest_hostRead rfl) :)
@[simp] theorem hostRead_mon (a0 a1 a2 : _) (s : State) : (hostRead a0 a1 a2 s).mon = s.mon :=
  (congrArg State.mon (show strip (hostRead a0 a1 a2 s) = strip s from rest_hostRead rfl) :)
@[simp] theorem hostRead_time (a0 a1 a2 : _) (s : State) : (hostRead a0 a1 a2 s).time = s.time :=
  (congrArg State.time (show strip (hostRead a0 a1 a2 s) = strip s from rest_hostRead rfl) :)
@[simp] theorem hostRead_seq (a0 a1 a2 : _) (s : State) : (hostRead a0 a1 a2 s).seq = s.seq :=
  (congrArg State.seq (show strip (hostRead a0 a1 a2 s) = strip s from rest_hostRead rfl) :)
@[simp] theorem hostRead_owl (a0 a1 a2 : _) (s : State) : (hostRead a0 a1 a2 s).owl = s.owl :=
  (congrArg State.owl (show strip (hostRead a0 a1 a2 s) = strip s from rest_hostRead rfl) :)
@[simp] theorem hostRead_fox (a0 a1 a2 : _) (s : State) : (hostRead a0 a1 a2 s).fox = s.fox :=
  (congrArg State.fox (show strip (hostRead a0 a1 a2 s) = strip s from rest_hostRead rfl) :)
@[simp] theorem hostRead_dep (a0 a1 a2 : _) (s : State) : (hostRead a0 a1 a2 s).dep = s.dep :=
  (congrArg State.dep (show strip (hostRead a0 a1 a2 s) = strip s from rest_hostRead rfl) :)
@[simp] theorem hostRead_park (a0 a1 a2 : _) (s : State) : (hostRead a0 a1 a2 s).park = s.park :=
  (congrArg State.park (show strip (hostRead a0 a1 a2 s) = strip s from rest_hostRead rfl) :)
@[simp] theorem hostRead_prt (a0 a1 a2 : _) (s : State) : (hostRead a0 a1 a2 s).prt = s.prt :=
  (congrArg State.prt (show strip (hostRead a0 a1 a2 s) = strip s from rest_hostRead rfl) :)
@[simp] theorem hostRead_trf (a0 a1 a2 : _) (s : State) : (hostRead a0 a1 a2 s).trf = s.trf :=
  (congrArg State.trf (show strip (hostRead a0 a1 a2 s) = strip s from rest_hostRead rfl) :)
@[simp] theorem hostRead_mem (a0 a1 a2 : _) (s : State) : (hostRead a0 a1 a2 s).mem = s.mem :=
  (congrArg State.mem (show strip (hostRead a0 a1 a2 s) = strip s from rest_hostRead rfl) :)
@[simp] theorem hostRead_sec (a0 a1 a2 : _) (s : State) : (hostRead a0 a1 a2 s).sec = s.sec :=
  (congrArg State.sec (show strip (hostRead a0 a1 a2 s) = strip s from rest_hostRead rfl) :)
@[simp] theorem hostRead_ras (a0 a1 a2 : _) (s : State) : (hostRead a0 a1 a2 s).ras = s.ras :=
  (congrArg State.ras (show strip (hostRead a0 a1 a2 s) = strip s from rest_hostRead rfl) :)
@[simp] theorem hostRead_start (a0 a1 a2 : _) (s : State) : (hostRead a0 a1 a2 s).start = s.start :=
  (congrArg State.start (show strip (hostRead a0 a1 a2 s) = strip s from rest_hostRead rfl) :)
@[simp] theorem hostRead_pkg (a0 a1 a2 : _) (s : State) : (hostRead a0 a1 a2 s).pkg = s.pkg :=
  (congrArg State.pkg (show strip (hostRead a0 a1 a2 s) = strip s from rest_hostRead rfl) :)

@[simp] theorem hostWrite_clk (a0 a1 a2 : _) (s : State) : (hostWrite a0 a1 a2 s).clk = s.clk :=
  (congrArg State.clk (show strip (hostWrite a0 a1 a2 s) = strip s from rest_hostWrite rfl) :)
@[simp] theorem hostWrite_ft (a0 a1 a2 : _) (s : State) : (hostWrite a0 a1 a2 s).ft = s.ft :=
  (congrArg State.ft (show strip (hostWrite a0 a1 a2 s) = strip s from rest_hostWrite rfl) :)
@[simp] theorem hostWrite_hi (a0 a1 a2 : _) (s : State) : (hostWrite a0 a1 a2 s).hi = s.hi :=
  (congrArg State.hi (show strip (hostWrite a0 a1 a2 s) = strip s from rest_hostWrite rfl) :)
@[simp] theorem hostWrite_pending (a0 a1 a2 : _) (s : State) : (hostWrite a0 a1 a2 s).pending = s.pending :=
  (congrArg State.pending (show strip (hostWrite a0 a1 a2 s) = strip s from rest_hostWrite rfl) :)
@[simp] theorem hostWrite_mon (a0 a1 a2 : _) (s : State) : (hostWrite a0 a1 a2 s).mon = s.mon :=
  (congrArg State.mon (show strip (hostWrite a0 a1 a2 s) = strip s from rest_hostWrite rfl) :)
@[simp] theorem hostWrite_time (a0 a1 a2 : _) (s : State) : (hostWrite a0 a1 a2 s).time = s.time :=
  (congrArg State.time (show strip (hostWrite a0 a1 a2 s) = strip s from rest_hostWrite rfl) :)
@[simp] theorem hostWrite_seq (a0 a1 a2 : _) (s : State) : (hostWrite a0 a1 a2 s).seq = s.seq :=
  (congrArg State.seq (show strip (hostWrite a0 a1 a2 s) = strip s from rest_hostWrite rfl) :)
@[simp] theorem hostWrite_owl (a0 a1 a2 : _) (s : State) : (hostWrite a0 a1 a2 s).owl = s.owl :=
  (congrArg State.owl (show strip (hostWrite a0 a1 a2 s) = strip s from rest_hostWrite rfl) :)
@[simp] theorem hostWrite_fox (a0 a1 a2 : _) (s : State) : (hostWrite a0 a1 a2 s).fox = s.fox :=
  (congrArg State.fox (show strip (hostWrite a0 a1 a2 s) = strip s from rest_hostWrite rfl) :)
@[simp] theorem hostWrite_dep (a0 a1 a2 : _) (s : State) : (hostWrite a0 a1 a2 s).dep = s.dep :=
  (congrArg State.dep (show strip (hostWrite a0 a1 a2 s) = strip s from rest_hostWrite rfl) :)
@[simp] theorem hostWrite_park (a0 a1 a2 : _) (s : State) : (hostWrite a0 a1 a2 s).park = s.park :=
  (congrArg State.park (show strip (hostWrite a0 a1 a2 s) = strip s from rest_hostWrite rfl) :)
@[simp] theorem hostWrite_prt (a0 a1 a2 : _) (s : State) : (hostWrite a0 a1 a2 s).prt = s.prt :=
  (congrArg State.prt (show strip (hostWrite a0 a1 a2 s) = strip s from rest_hostWrite rfl) :)
@[simp] theorem hostWrite_trf (a0 a1 a2 : _) (s : State) : (hostWrite a0 a1 a2 s).trf = s.trf :=
  (congrArg State.trf (show strip (hostWrite a0 a1 a2 s) = strip s from rest_hostWrite rfl) :)
@[simp] theorem hostWrite_mem (a0 a1 a2 : _) (s : State) : (hostWrite a0 a1 a2 s).mem = s.mem :=
  (congrArg State.mem (show strip (hostWrite a0 a1 a2 s) = strip s from rest_hostWrite rfl) :)
@[simp] theorem hostWrite_sec (a0 a1 a2 : _) (s : State) : (hostWrite a0 a1 a2 s).sec = s.sec :=
  (congrArg State.sec (show strip (hostWrite a0 a1 a2 s) = strip s from rest_hostWrite rfl) :)
@[simp] theorem hostWrite_ras (a0 a1 a2 : _) (s : State) : (hostWrite a0 a1 a2 s).ras = s.ras :=
  (congrArg State.ras (show strip (hostWrite a0 a1 a2 s) = strip s from rest_hostWrite rfl) :)
@[simp] theorem hostWrite_start (a0 a1 a2 : _) (s : State) : (hostWrite a0 a1 a2 s).start = s.start :=
  (congrArg State.start (show strip (hostWrite a0 a1 a2 s) = strip s from rest_hostWrite rfl) :)
@[simp] theorem hostWrite_pkg (a0 a1 a2 : _) (s : State) : (hostWrite a0 a1 a2 s).pkg = s.pkg :=
  (congrArg State.pkg (show strip (hostWrite a0 a1 a2 s) = strip s from rest_hostWrite rfl) :)

@[simp] theorem memWrite_clk (a0 a1 a2 a3 : _) (s : State) : (memWrite a0 a1 a2 a3 s).clk = s.clk :=
  (congrArg State.clk (show strip (memWrite a0 a1 a2 a3 s) = strip s from rest_memWrite rfl) :)
@[simp] theorem memWrite_ft (a0 a1 a2 a3 : _) (s : State) : (memWrite a0 a1 a2 a3 s).ft = s.ft :=
  (congrArg State.ft (show strip (memWrite a0 a1 a2 a3 s) = strip s from rest_memWrite rfl) :)
@[simp] theorem memWrite_hi (a0 a1 a2 a3 : _) (s : State) : (memWrite a0 a1 a2 a3 s).hi = s.hi :=
  (congrArg State.hi (show strip (memWrite a0 a1 a2 a3 s) = strip s from rest_memWrite rfl) :)
@[simp] theorem memWrite_pending (a0 a1 a2 a3 : _) (s : State) : (memWrite a0 a1 a2 a3 s).pending = s.pending :=
  (congrArg State.pending (show strip (memWrite a0 a1 a2 a3 s) = strip s from rest_memWrite rfl) :)
@[simp] theorem memWrite_mon (a0 a1 a2 a3 : _) (s : State) : (memWrite a0 a1 a2 a3 s).mon = s.mon :=
  (congrArg State.mon (show strip (memWrite a0 a1 a2 a3 s) = strip s from rest_memWrite rfl) :)
@[simp] theorem memWrite_time (a0 a1 a2 a3 : _) (s : State) : (memWrite a0 a1 a2 a3 s).time = s.time :=
  (congrArg State.time (show strip (memWrite a0 a1 a2 a3 s) = strip s from rest_memWrite rfl) :)
@[simp] theorem memWrite_seq (a0 a1 a2 a3 : _) (s : State) : (memWrite a0 a1 a2 a3 s).seq = s.seq :=
  (congrArg State.seq (show strip (memWrite a0 a1 a2 a3 s) = strip s from rest_memWrite rfl) :)
@[simp] theorem memWrite_owl (a0 a1 a2 a3 : _) (s : State) : (memWrite a0 a1 a2 a3 s).owl = s.owl :=
  (congrArg State.owl (show strip (memWrite a0 a1 a2 a3 s) = strip s from rest_memWrite rfl) :)
@[simp] theorem memWrite_fox (a0 a1 a2 a3 : _) (s : State) : (memWrite a0 a1 a2 a3 s).fox = s.fox :=
  (congrArg State.fox (show strip (memWrite a0 a1 a2 a3 s) = strip s from rest_memWrite rfl) :)
@[simp] theorem memWrite_dep (a0 a1 a2 a3 : _) (s : State) : (memWrite a0 a1 a2 a3 s).dep = s.dep :=
  (congrArg State.dep (show strip (memWrite a0 a1 a2 a3 s) = strip s from rest_memWrite rfl) :)
@[simp] theorem memWrite_park (a0 a1 a2 a3 : _) (s : State) : (memWrite a0 a1 a2 a3 s).park = s.park :=
  (congrArg State.park (show strip (memWrite a0 a1 a2 a3 s) = strip s from rest_memWrite rfl) :)
@[simp] theorem memWrite_prt (a0 a1 a2 a3 : _) (s : State) : (memWrite a0 a1 a2 a3 s).prt = s.prt :=
  (congrArg State.prt (show strip (memWrite a0 a1 a2 a3 s) = strip s from rest_memWrite rfl) :)
@[simp] theorem memWrite_trf (a0 a1 a2 a3 : _) (s : State) : (memWrite a0 a1 a2 a3 s).trf = s.trf :=
  (congrArg State.trf (show strip (memWrite a0 a1 a2 a3 s) = strip s from rest_memWrite rfl) :)
@[simp] theorem memWrite_mem (a0 a1 a2 a3 : _) (s : State) : (memWrite a0 a1 a2 a3 s).mem = s.mem :=
  (congrArg State.mem (show strip (memWrite a0 a1 a2 a3 s) = strip s from rest_memWrite rfl) :)
@[simp] theorem memWrite_sec (a0 a1 a2 a3 : _) (s : State) : (memWrite a0 a1 a2 a3 s).sec = s.sec :=
  (congrArg State.sec (show strip (memWrite a0 a1 a2 a3 s) = strip s from rest_memWrite rfl) :)
@[simp] theorem memWrite_ras (a0 a1 a2 a3 : _) (s : State) : (memWrite a0 a1 a2 a3 s).ras = s.ras :=
  (congrArg State.ras (show strip (memWrite a0 a1 a2 a3 s) = strip s from rest_memWrite rfl) :)
@[simp] theorem memWrite_start (a0 a1 a2 a3 : _) (s : State) : (memWrite a0 a1 a2 a3 s).start = s.start :=
  (congrArg State.start (show strip (memWrite a0 a1 a2 a3 s) = strip s from rest_memWrite rfl) :)
@[simp] theorem memWrite_pkg (a0 a1 a2 a3 : _) (s : State) : (memWrite a0 a1 a2 a3 s).pkg = s.pkg :=
  (congrArg State.pkg (show strip (memWrite a0 a1 a2 a3 s) = strip s from rest_memWrite rfl) :)

@[simp] theorem setCmd_clk (a0 a1 : _) (s : State) : (setCmd a0 a1 s).clk = s.clk :=
  (congrArg State.clk (show strip (setCmd a0 a1 s) = strip s from rest_setCmd rfl) :)
@[simp] theorem setCmd_ft (a0 a1 : _) (s : State) : (setCmd a0 a1 s).ft = s.ft :=
  (congrArg State.ft (show strip (setCmd a0 a1 s) = strip s from rest_setCmd rfl) :)
@[simp] theorem setCmd_hi (a0 a1 : _) (s : State) : (setCmd a0 a1 s).hi = s.hi :=
  (congrArg State.hi (show strip (setCmd a0 a1 s) = strip s from rest_setCmd rfl) :)
@[simp] theorem setCmd_pending (a0 a1 : _) (s : State) : (setCmd a0 a1 s).pending = s.pending :=
  (congrArg State.pending (show strip (setCmd a0 a1 s) = strip s from rest_setCmd rfl) :)
@[simp] theorem setCmd_mon (a0 a1 : _) (s : State) : (setCmd a0 a1 s).mon = s.mon :=
  (congrArg State.mon (show strip (setCmd a0 a1 s) = strip s from rest_setCmd rfl) :)
@[simp] theorem setCmd_time (a0 a1 : _) (s : State) : (setCmd a0 a1 s).time = s.time :=
  (congrArg State.time (show strip (setCmd a0 a1 s) = strip s from rest_setCmd rfl) :)
@[simp] theorem setCmd_seq (a0 a1 : _) (s : State) : (setCmd a0 a1 s).seq = s.seq :=
  (congrArg State.seq (show strip (setCmd a0 a1 s) = strip s from rest_setCmd rfl) :)
@[simp] theorem setCmd_owl (a0 a1 : _) (s : State) : (setCmd a0 a1 s).owl = s.owl :=
  (congrArg State.owl (show strip (setCmd a0 a1 s) = strip s from rest_setCmd rfl) :)
@[simp] theorem setCmd_fox (a0 a1 : _) (s : State) : (setCmd a0 a1 s).fox = s.fox :=
  (congrArg State.fox (show strip (setCmd a0 a1 s) = strip s from rest_setCmd rfl) :)
@[simp] theorem setCmd_dep (a0 a1 : _) (s : State) : (setCmd a0 a1 s).dep = s.dep :=
  (congrArg State.dep (show strip (setCmd a0 a1 s) = strip s from rest_setCmd rfl) :)
@[simp] theorem setCmd_park (a0 a1 : _) (s : State) : (setCmd a0 a1 s).park = s.park :=
  (congrArg State.park (show strip (setCmd a0 a1 s) = strip s from rest_setCmd rfl) :)
@[simp] theorem setCmd_prt (a0 a1 : _) (s : State) : (setCmd a0 a1 s).prt = s.prt :=
  (congrArg State.prt (show strip (setCmd a0 a1 s) = strip s from rest_setCmd rfl) :)
@[simp] theorem setCmd_trf (a0 a1 : _) (s : State) : (setCmd a0 a1 s).trf = s.trf :=
  (congrArg State.trf (show strip (setCmd a0 a1 s) = strip s from rest_setCmd rfl) :)
@[simp] theorem setCmd_mem (a0 a1 : _) (s : State) : (setCmd a0 a1 s).mem = s.mem :=
  (congrArg State.mem (show strip (setCmd a0 a1 s) = strip s from rest_setCmd rfl) :)
@[simp] theorem setCmd_sec (a0 a1 : _) (s : State) : (setCmd a0 a1 s).sec = s.sec :=
  (congrArg State.sec (show strip (setCmd a0 a1 s) = strip s from rest_setCmd rfl) :)
@[simp] theorem setCmd_ras (a0 a1 : _) (s : State) : (setCmd a0 a1 s).ras = s.ras :=
  (congrArg State.ras (show strip (setCmd a0 a1 s) = strip s from rest_setCmd rfl) :)
@[simp] theorem setCmd_start (a0 a1 : _) (s : State) : (setCmd a0 a1 s).start = s.start :=
  (congrArg State.start (show strip (setCmd a0 a1 s) = strip s from rest_setCmd rfl) :)
@[simp] theorem setCmd_pkg (a0 a1 : _) (s : State) : (setCmd a0 a1 s).pkg = s.pkg :=
  (congrArg State.pkg (show strip (setCmd a0 a1 s) = strip s from rest_setCmd rfl) :)

@[simp] theorem bump_clk (a0 a1 a2 : _) (s : State) : (bump a0 a1 a2 s).clk = s.clk :=
  (congrArg State.clk (show strip (bump a0 a1 a2 s) = strip s from rest_bump rfl) :)
@[simp] theorem bump_ft (a0 a1 a2 : _) (s : State) : (bump a0 a1 a2 s).ft = s.ft :=
  (congrArg State.ft (show strip (bump a0 a1 a2 s) = strip s from rest_bump rfl) :)
@[simp] theorem bump_hi (a0 a1 a2 : _) (s : State) : (bump a0 a1 a2 s).hi = s.hi :=
  (congrArg State.hi (show strip (bump a0 a1 a2 s) = strip s from rest_bump rfl) :)
@[simp] theorem bump_pending (a0 a1 a2 : _) (s : State) : (bump a0 a1 a2 s).pending = s.pending :=
  (congrArg State.pending (show strip (bump a0 a1 a2 s) = strip s from rest_bump rfl) :)
@[simp] theorem bump_mon (a0 a1 a2 : _) (s : State) : (bump a0 a1 a2 s).mon = s.mon :=
  (congrArg State.mon (show strip (bump a0 a1 a2 s) = strip s from rest_bump rfl) :)
@[simp] theorem bump_time (a0 a1 a2 : _) (s : State) : (bump a0 a1 a2 s).time = s.time :=
  (congrArg State.time (show strip (bump a0 a1 a2 s) = strip s from rest_bump rfl) :)
@[simp] theorem bump_seq (a0 a1 a2 : _) (s : State) : (bump a0 a1 a2 s).seq = s.seq :=
  (congrArg State.seq (show strip (bump a0 a1 a2 s) = strip s from rest_bump rfl) :)
@[simp] theorem bump_owl (a0 a1 a2 : _) (s : State) : (bump a0 a1 a2 s).owl = s.owl :=
  (congrArg State.owl (show strip (bump a0 a1 a2 s) = strip s from rest_bump rfl) :)
@[simp] theorem bump_fox (a0 a1 a2 : _) (s : State) : (bump a0 a1 a2 s).fox = s.fox :=
  (congrArg State.fox (show strip (bump a0 a1 a2 s) = strip s from rest_bump rfl) :)
@[simp] theorem bump_dep (a0 a1 a2 : _) (s : State) : (bump a0 a1 a2 s).dep = s.dep :=
  (congrArg State.dep (show strip (bump a0 a1 a2 s) = strip s from rest_bump rfl) :)
@[simp] theorem bump_park (a0 a1 a2 : _) (s : State) : (bump a0 a1 a2 s).park = s.park :=
  (congrArg State.park (show strip (bump a0 a1 a2 s) = strip s from rest_bump rfl) :)
@[simp] theorem bump_prt (a0 a1 a2 : _) (s : State) : (bump a0 a1 a2 s).prt = s.prt :=
  (congrArg State.prt (show strip (bump a0 a1 a2 s) = strip s from rest_bump rfl) :)
@[simp] theorem bump_trf (a0 a1 a2 : _) (s : State) : (bump a0 a1 a2 s).trf = s.trf :=
  (congrArg State.trf (show strip (bump a0 a1 a2 s) = strip s from rest_bump rfl) :)
@[simp] theorem bump_mem (a0 a1 a2 : _) (s : State) : (bump a0 a1 a2 s).mem = s.mem :=
  (congrArg State.mem (show strip (bump a0 a1 a2 s) = strip s from rest_bump rfl) :)
@[simp] theorem bump_sec (a0 a1 a2 : _) (s : State) : (bump a0 a1 a2 s).sec = s.sec :=
  (congrArg State.sec (show strip (bump a0 a1 a2 s) = strip s from rest_bump rfl) :)
@[simp] theorem bump_ras (a0 a1 a2 : _) (s : State) : (bump a0 a1 a2 s).ras = s.ras :=
  (congrArg State.ras (show strip (bump a0 a1 a2 s) = strip s from rest_bump rfl) :)
@[simp] theorem bump_start (a0 a1 a2 : _) (s : State) : (bump a0 a1 a2 s).start = s.start :=
  (congrArg State.start (show strip (bump a0 a1 a2 s) = strip s from rest_bump rfl) :)
@[simp] theorem bump_pkg (a0 a1 a2 : _) (s : State) : (bump a0 a1 a2 s).pkg = s.pkg :=
  (congrArg State.pkg (show strip (bump a0 a1 a2 s) = strip s from rest_bump rfl) :)

@[simp] theorem undelivered_clk (a0 : _) (s : State) : (undelivered a0 s).clk = s.clk :=
  (congrArg State.clk (show strip (undelivered a0 s) = strip s from rest_undelivered rfl) :)
@[simp] theorem undelivered_ft (a0 : _) (s : State) : (undelivered a0 s).ft = s.ft :=
  (congrArg State.ft (show strip (undelivered a0 s) = strip s from rest_undelivered rfl) :)
@[simp] theorem undelivered_hi (a0 : _) (s : State) : (undelivered a0 s).hi = s.hi :=
  (congrArg State.hi (show strip (undelivered a0 s) = strip s from rest_undelivered rfl) :)
@[simp] theorem undelivered_pending (a0 : _) (s : State) : (undelivered a0 s).pending = s.pending :=
  (congrArg State.pending (show strip (undelivered a0 s) = strip s from rest_undelivered rfl) :)
@[simp] theorem undelivered_mon (a0 : _) (s : State) : (undelivered a0 s).mon = s.mon :=
  (congrArg State.mon (show strip (undelivered a0 s) = strip s from rest_undelivered rfl) :)
@[simp] theorem undelivered_time (a0 : _) (s : State) : (undelivered a0 s).time = s.time :=
  (congrArg State.time (show strip (undelivered a0 s) = strip s from rest_undelivered rfl) :)
@[simp] theorem undelivered_seq (a0 : _) (s : State) : (undelivered a0 s).seq = s.seq :=
  (congrArg State.seq (show strip (undelivered a0 s) = strip s from rest_undelivered rfl) :)
@[simp] theorem undelivered_owl (a0 : _) (s : State) : (undelivered a0 s).owl = s.owl :=
  (congrArg State.owl (show strip (undelivered a0 s) = strip s from rest_undelivered rfl) :)
@[simp] theorem undelivered_fox (a0 : _) (s : State) : (undelivered a0 s).fox = s.fox :=
  (congrArg State.fox (show strip (undelivered a0 s) = strip s from rest_undelivered rfl) :)
@[simp] theorem undelivered_dep (a0 : _) (s : State) : (undelivered a0 s).dep = s.dep :=
  (congrArg State.dep (show strip (undelivered a0 s) = strip s from rest_undelivered rfl) :)
@[simp] theorem undelivered_park (a0 : _) (s : State) : (undelivered a0 s).park = s.park :=
  (congrArg State.park (show strip (undelivered a0 s) = strip s from rest_undelivered rfl) :)
@[simp] theorem undelivered_prt (a0 : _) (s : State) : (undelivered a0 s).prt = s.prt :=
  (congrArg State.prt (show strip (undelivered a0 s) = strip s from rest_undelivered rfl) :)
@[simp] theorem undelivered_trf (a0 : _) (s : State) : (undelivered a0 s).trf = s.trf :=
  (congrArg State.trf (show strip (undelivered a0 s) = strip s from rest_undelivered rfl) :)
@[simp] theorem undelivered_mem (a0 : _) (s : State) : (undelivered a0 s).mem = s.mem :=
  (congrArg State.mem (show strip (undelivered a0 s) = strip s from rest_undelivered rfl) :)
@[simp] theorem undelivered_sec (a0 : _) (s : State) : (undelivered a0 s).sec = s.sec :=
  (congrArg State.sec (show strip (undelivered a0 s) = strip s from rest_undelivered rfl) :)
@[simp] theorem undelivered_ras (a0 : _) (s : State) : (undelivered a0 s).ras = s.ras :=
  (congrArg State.ras (show strip (undelivered a0 s) = strip s from rest_undelivered rfl) :)
@[simp] theorem undelivered_start (a0 : _) (s : State) : (undelivered a0 s).start = s.start :=
  (congrArg State.start (show strip (undelivered a0 s) = strip s from rest_undelivered rfl) :)
@[simp] theorem undelivered_pkg (a0 : _) (s : State) : (undelivered a0 s).pkg = s.pkg :=
  (congrArg State.pkg (show strip (undelivered a0 s) = strip s from rest_undelivered rfl) :)

@[simp] theorem stopQueue_clk (a0 a1 a2 : _) (s : State) : (stopQueue a0 a1 a2 s).clk = s.clk :=
  (congrArg State.clk (show strip (stopQueue a0 a1 a2 s) = strip s from rest_stopQueue rfl) :)
@[simp] theorem stopQueue_ft (a0 a1 a2 : _) (s : State) : (stopQueue a0 a1 a2 s).ft = s.ft :=
  (congrArg State.ft (show strip (stopQueue a0 a1 a2 s) = strip s from rest_stopQueue rfl) :)
@[simp] theorem stopQueue_hi (a0 a1 a2 : _) (s : State) : (stopQueue a0 a1 a2 s).hi = s.hi :=
  (congrArg State.hi (show strip (stopQueue a0 a1 a2 s) = strip s from rest_stopQueue rfl) :)
@[simp] theorem stopQueue_pending (a0 a1 a2 : _) (s : State) : (stopQueue a0 a1 a2 s).pending = s.pending :=
  (congrArg State.pending (show strip (stopQueue a0 a1 a2 s) = strip s from rest_stopQueue rfl) :)
@[simp] theorem stopQueue_mon (a0 a1 a2 : _) (s : State) : (stopQueue a0 a1 a2 s).mon = s.mon :=
  (congrArg State.mon (show strip (stopQueue a0 a1 a2 s) = strip s from rest_stopQueue rfl) :)
@[simp] theorem stopQueue_time (a0 a1 a2 : _) (s : State) : (stopQueue a0 a1 a2 s).time = s.time :=
  (congrArg State.time (show strip (stopQueue a0 a1 a2 s) = strip s from rest_stopQueue rfl) :)
@[simp] theorem stopQueue_seq (a0 a1 a2 : _) (s : State) : (stopQueue a0 a1 a2 s).seq = s.seq :=
  (congrArg State.seq (show strip (stopQueue a0 a1 a2 s) = strip s from rest_stopQueue rfl) :)
@[simp] theorem stopQueue_owl (a0 a1 a2 : _) (s : State) : (stopQueue a0 a1 a2 s).owl = s.owl :=
  (congrArg State.owl (show strip (stopQueue a0 a1 a2 s) = strip s from rest_stopQueue rfl) :)
@[simp] theorem stopQueue_fox (a0 a1 a2 : _) (s : State) : (stopQueue a0 a1 a2 s).fox = s.fox :=
  (congrArg State.fox (show strip (stopQueue a0 a1 a2 s) = strip s from rest_stopQueue rfl) :)
@[simp] theorem stopQueue_dep (a0 a1 a2 : _) (s : State) : (stopQueue a0 a1 a2 s).dep = s.dep :=
  (congrArg State.dep (show strip (stopQueue a0 a1 a2 s) = strip s from rest_stopQueue rfl) :)
@[simp] theorem stopQueue_park (a0 a1 a2 : _) (s : State) : (stopQueue a0 a1 a2 s).park = s.park :=
  (congrArg State.park (show strip (stopQueue a0 a1 a2 s) = strip s from rest_stopQueue rfl) :)
@[simp] theorem stopQueue_prt (a0 a1 a2 : _) (s : State) : (stopQueue a0 a1 a2 s).prt = s.prt :=
  (congrArg State.prt (show strip (stopQueue a0 a1 a2 s) = strip s from rest_stopQueue rfl) :)
@[simp] theorem stopQueue_trf (a0 a1 a2 : _) (s : State) : (stopQueue a0 a1 a2 s).trf = s.trf :=
  (congrArg State.trf (show strip (stopQueue a0 a1 a2 s) = strip s from rest_stopQueue rfl) :)
@[simp] theorem stopQueue_mem (a0 a1 a2 : _) (s : State) : (stopQueue a0 a1 a2 s).mem = s.mem :=
  (congrArg State.mem (show strip (stopQueue a0 a1 a2 s) = strip s from rest_stopQueue rfl) :)
@[simp] theorem stopQueue_sec (a0 a1 a2 : _) (s : State) : (stopQueue a0 a1 a2 s).sec = s.sec :=
  (congrArg State.sec (show strip (stopQueue a0 a1 a2 s) = strip s from rest_stopQueue rfl) :)
@[simp] theorem stopQueue_ras (a0 a1 a2 : _) (s : State) : (stopQueue a0 a1 a2 s).ras = s.ras :=
  (congrArg State.ras (show strip (stopQueue a0 a1 a2 s) = strip s from rest_stopQueue rfl) :)
@[simp] theorem stopQueue_start (a0 a1 a2 : _) (s : State) : (stopQueue a0 a1 a2 s).start = s.start :=
  (congrArg State.start (show strip (stopQueue a0 a1 a2 s) = strip s from rest_stopQueue rfl) :)
@[simp] theorem stopQueue_pkg (a0 a1 a2 : _) (s : State) : (stopQueue a0 a1 a2 s).pkg = s.pkg :=
  (congrArg State.pkg (show strip (stopQueue a0 a1 a2 s) = strip s from rest_stopQueue rfl) :)

@[simp] theorem noteMember_clk (a0 a1 : _) (s : State) : (noteMember a0 a1 s).clk = s.clk :=
  (congrArg State.clk (show strip (noteMember a0 a1 s) = strip s from rest_noteMember rfl) :)
@[simp] theorem noteMember_ft (a0 a1 : _) (s : State) : (noteMember a0 a1 s).ft = s.ft :=
  (congrArg State.ft (show strip (noteMember a0 a1 s) = strip s from rest_noteMember rfl) :)
@[simp] theorem noteMember_hi (a0 a1 : _) (s : State) : (noteMember a0 a1 s).hi = s.hi :=
  (congrArg State.hi (show strip (noteMember a0 a1 s) = strip s from rest_noteMember rfl) :)
@[simp] theorem noteMember_pending (a0 a1 : _) (s : State) : (noteMember a0 a1 s).pending = s.pending :=
  (congrArg State.pending (show strip (noteMember a0 a1 s) = strip s from rest_noteMember rfl) :)
@[simp] theorem noteMember_mon (a0 a1 : _) (s : State) : (noteMember a0 a1 s).mon = s.mon :=
  (congrArg State.mon (show strip (noteMember a0 a1 s) = strip s from rest_noteMember rfl) :)
@[simp] theorem noteMember_time (a0 a1 : _) (s : State) : (noteMember a0 a1 s).time = s.time :=
  (congrArg State.time (show strip (noteMember a0 a1 s) = strip s from rest_noteMember rfl) :)
@[simp] theorem noteMember_seq (a0 a1 : _) (s : State) : (noteMember a0 a1 s).seq = s.seq :=
  (congrArg State.seq (show strip (noteMember a0 a1 s) = strip s from rest_noteMember rfl) :)
@[simp] theorem noteMember_owl (a0 a1 : _) (s : State) : (noteMember a0 a1 s).owl = s.owl :=
  (congrArg State.owl (show strip (noteMember a0 a1 s) = strip s from rest_noteMember rfl) :)
@[simp] theorem noteMember_fox (a0 a1 : _) (s : State) : (noteMember a0 a1 s).fox = s.fox :=
  (congrArg State.fox (show strip (noteMember a0 a1 s) = strip s from rest_noteMember rfl) :)
@[simp] theorem noteMember_dep (a0 a1 : _) (s : State) : (noteMember a0 a1 s).dep = s.dep :=
  (congrArg State.dep (show strip (noteMember a0 a1 s) = strip s from rest_noteMember rfl) :)
@[simp] theorem noteMember_park (a0 a1 : _) (s : State) : (noteMember a0 a1 s).park = s.park :=
  (congrArg State.park (show strip (noteMember a0 a1 s) = strip s from rest_noteMember rfl) :)
@[simp] theorem noteMember_prt (a0 a1 : _) (s : State) : (noteMember a0 a1 s).prt = s.prt :=
  (congrArg State.prt (show strip (noteMember a0 a1 s) = strip s from rest_noteMember rfl) :)
@[simp] theorem noteMember_trf (a0 a1 : _) (s : State) : (noteMember a0 a1 s).trf = s.trf :=
  (congrArg State.trf (show strip (noteMember a0 a1 s) = strip s from rest_noteMember rfl) :)
@[simp] theorem noteMember_mem (a0 a1 : _) (s : State) : (noteMember a0 a1 s).mem = s.mem :=
  (congrArg State.mem (show strip (noteMember a0 a1 s) = strip s from rest_noteMember rfl) :)
@[simp] theorem noteMember_sec (a0 a1 : _) (s : State) : (noteMember a0 a1 s).sec = s.sec :=
  (congrArg State.sec (show strip (noteMember a0 a1 s) = strip s from rest_noteMember rfl) :)
@[simp] theorem noteMember_ras (a0 a1 : _) (s : State) : (noteMember a0 a1 s).ras = s.ras :=
  (congrArg State.ras (show strip (noteMember a0 a1 s) = strip s from rest_noteMember rfl) :)
@[simp] theorem noteMember_start (a0 a1 : _) (s : State) : (noteMember a0 a1 s).start = s.start :=
  (congrArg State.start (show strip (noteMember a0 a1 s) = strip s from rest_noteMember rfl) :)
@[simp] theorem noteMember_pkg (a0 a1 : _) (s : State) : (noteMember a0 a1 s).pkg = s.pkg :=
  (congrArg State.pkg (show strip (noteMember a0 a1 s) = strip s from rest_noteMember rfl) :)

@[simp] theorem oSend_clk (a0 a1 : _) (s : State) : (oSend a0 a1 s).clk = s.clk :=
  (congrArg State.clk (show strip (oSend a0 a1 s) = strip s from rest_oSend rfl) :)
@[simp] theorem oSend_ft (a0 a1 : _) (s : State) : (oSend a0 a1 s).ft = s.ft :=
  (congrArg State.ft (show strip (oSend a0 a1 s) = strip s from rest_oSend rfl) :)
@[simp] theorem oSend_hi (a0 a1 : _) (s : State) : (oSend a0 a1 s).hi = s.hi :=
  (congrArg State.hi (show strip (oSend a0 a1 s) = strip s from rest_oSend rfl) :)
@[simp] theorem oSend_pending (a0 a1 : _) (s : State) : (oSend a0 a1 s).pending = s.pending :=
  (congrArg State.pending (show strip (oSend a0 a1 s) = strip s from rest_oSend rfl) :)
@[simp] theorem oSend_mon (a0 a1 : _) (s : State) : (oSend a0 a1 s).mon = s.mon :=
  (congrArg State.mon (show strip (oSend a0 a1 s) = strip s from rest_oSend rfl) :)
@[simp] theorem oSend_time (a0 a1 : _) (s : State) : (oSend a0 a1 s).time = s.time :=
  (congrArg State.time (show strip (oSend a0 a1 s) = strip s from rest_oSend rfl) :)
@[simp] theorem oSend_seq (a0 a1 : _) (s : State) : (oSend a0 a1 s).seq = s.seq :=
  (congrArg State.seq (show strip (oSend a0 a1 s) = strip s from rest_oSend rfl) :)
@[simp] theorem oSend_owl (a0 a1 : _) (s : State) : (oSend a0 a1 s).owl = s.owl :=
  (congrArg State.owl (show strip (oSend a0 a1 s) = strip s from rest_oSend rfl) :)
@[simp] theorem oSend_fox (a0 a1 : _) (s : State) : (oSend a0 a1 s).fox = s.fox :=
  (congrArg State.fox (show strip (oSend a0 a1 s) = strip s from rest_oSend rfl) :)
@[simp] theorem oSend_dep (a0 a1 : _) (s : State) : (oSend a0 a1 s).dep = s.dep :=
  (congrArg State.dep (show strip (oSend a0 a1 s) = strip s from rest_oSend rfl) :)
@[simp] theorem oSend_park (a0 a1 : _) (s : State) : (oSend a0 a1 s).park = s.park :=
  (congrArg State.park (show strip (oSend a0 a1 s) = strip s from rest_oSend rfl) :)
@[simp] theorem oSend_prt (a0 a1 : _) (s : State) : (oSend a0 a1 s).prt = s.prt :=
  (congrArg State.prt (show strip (oSend a0 a1 s) = strip s from rest_oSend rfl) :)
@[simp] theorem oSend_trf (a0 a1 : _) (s : State) : (oSend a0 a1 s).trf = s.trf :=
  (congrArg State.trf (show strip (oSend a0 a1 s) = strip s from rest_oSend rfl) :)
@[simp] theorem oSend_mem (a0 a1 : _) (s : State) : (oSend a0 a1 s).mem = s.mem :=
  (congrArg State.mem (show strip (oSend a0 a1 s) = strip s from rest_oSend rfl) :)
@[simp] theorem oSend_sec (a0 a1 : _) (s : State) : (oSend a0 a1 s).sec = s.sec :=
  (congrArg State.sec (show strip (oSend a0 a1 s) = strip s from rest_oSend rfl) :)
@[simp] theorem oSend_ras (a0 a1 : _) (s : State) : (oSend a0 a1 s).ras = s.ras :=
  (congrArg State.ras (show strip (oSend a0 a1 s) = strip s from rest_oSend rfl) :)
@[simp] theorem oSend_start (a0 a1 : _) (s : State) : (oSend a0 a1 s).start = s.start :=
  (congrArg State.start (show strip (oSend a0 a1 s) = strip s from rest_oSend rfl) :)
@[simp] theorem oSend_pkg (a0 a1 : _) (s : State) : (oSend a0 a1 s).pkg = s.pkg :=
  (congrArg State.pkg (show strip (oSend a0 a1 s) = strip s from rest_oSend rfl) :)

@[simp] theorem setCtx_clk (a0 a1 : _) (s : State) : (setCtx a0 a1 s).clk = s.clk :=
  (congrArg State.clk (show strip (setCtx a0 a1 s) = strip s from rest_setCtx rfl) :)
@[simp] theorem setCtx_ft (a0 a1 : _) (s : State) : (setCtx a0 a1 s).ft = s.ft :=
  (congrArg State.ft (show strip (setCtx a0 a1 s) = strip s from rest_setCtx rfl) :)
@[simp] theorem setCtx_hi (a0 a1 : _) (s : State) : (setCtx a0 a1 s).hi = s.hi :=
  (congrArg State.hi (show strip (setCtx a0 a1 s) = strip s from rest_setCtx rfl) :)
@[simp] theorem setCtx_pending (a0 a1 : _) (s : State) : (setCtx a0 a1 s).pending = s.pending :=
  (congrArg State.pending (show strip (setCtx a0 a1 s) = strip s from rest_setCtx rfl) :)
@[simp] theorem setCtx_mon (a0 a1 : _) (s : State) : (setCtx a0 a1 s).mon = s.mon :=
  (congrArg State.mon (show strip (setCtx a0 a1 s) = strip s from rest_setCtx rfl) :)
@[simp] theorem setCtx_time (a0 a1 : _) (s : State) : (setCtx a0 a1 s).time = s.time :=
  (congrArg State.time (show strip (setCtx a0 a1 s) = strip s from rest_setCtx rfl) :)
@[simp] theorem setCtx_seq (a0 a1 : _) (s : State) : (setCtx a0 a1 s).seq = s.seq :=
  (congrArg State.seq (show strip (setCtx a0 a1 s) = strip s from rest_setCtx rfl) :)
@[simp] theorem setCtx_owl (a0 a1 : _) (s : State) : (setCtx a0 a1 s).owl = s.owl :=
  (congrArg State.owl (show strip (setCtx a0 a1 s) = strip s from rest_setCtx rfl) :)
@[simp] theorem setCtx_fox (a0 a1 : _) (s : State) : (setCtx a0 a1 s).fox = s.fox :=
  (congrArg State.fox (show strip (setCtx a0 a1 s) = strip s from rest_setCtx rfl) :)
@[simp] theorem setCtx_dep (a0 a1 : _) (s : State) : (setCtx a0 a1 s).dep = s.dep :=
  (congrArg State.dep (show strip (setCtx a0 a1 s) = strip s from rest_setCtx rfl) :)
@[simp] theorem setCtx_park (a0 a1 : _) (s : State) : (setCtx a0 a1 s).park = s.park :=
  (congrArg State.park (show strip (setCtx a0 a1 s) = strip s from rest_setCtx rfl) :)
@[simp] theorem setCtx_prt (a0 a1 : _) (s : State) : (setCtx a0 a1 s).prt = s.prt :=
  (congrArg State.prt (show strip (setCtx a0 a1 s) = strip s from rest_setCtx rfl) :)
@[simp] theorem setCtx_trf (a0 a1 : _) (s : State) : (setCtx a0 a1 s).trf = s.trf :=
  (congrArg State.trf (show strip (setCtx a0 a1 s) = strip s from rest_setCtx rfl) :)
@[simp] theorem setCtx_mem (a0 a1 : _) (s : State) : (setCtx a0 a1 s).mem = s.mem :=
  (congrArg State.mem (show strip (setCtx a0 a1 s) = strip s from rest_setCtx rfl) :)
@[simp] theorem setCtx_sec (a0 a1 : _) (s : State) : (setCtx a0 a1 s).sec = s.sec :=
  (congrArg State.sec (show strip (setCtx a0 a1 s) = strip s from rest_setCtx rfl) :)
@[simp] theorem setCtx_ras (a0 a1 : _) (s : State) : (setCtx a0 a1 s).ras = s.ras :=
  (congrArg State.ras (show strip (setCtx a0 a1 s) = strip s from rest_setCtx rfl) :)
@[simp] theorem setCtx_start (a0 a1 : _) (s : State) : (setCtx a0 a1 s).start = s.start :=
  (congrArg State.start (show strip (setCtx a0 a1 s) = strip s from rest_setCtx rfl) :)
@[simp] theorem setCtx_pkg (a0 a1 : _) (s : State) : (setCtx a0 a1 s).pkg = s.pkg :=
  (congrArg State.pkg (show strip (setCtx a0 a1 s) = strip s from rest_setCtx rfl) :)

/-! ### Events -/

/-- An event changes the recorder and its two counters, and nothing else. -/
theorem raise_eq (code : Nat) (car : Option Nat) (items : List Item) (s : State) :
    raise code car items s = { s with evr := (raise code car items s).evr, regs := (raise code car items s).regs } := by
  unfold raise writeRecord freshCounts
  simp only
  split <;> split <;> first | rfl | (unfold when; split <;> rfl)

@[simp] theorem raise_que (code : Nat) (car : Option Nat) (items : List Item) (s : State) :
    (raise code car items s).que = s.que := by rw [raise_eq]

@[simp] theorem raise_comp (code : Nat) (car : Option Nat) (items : List Item) (s : State) :
    (raise code car items s).comp = s.comp := by rw [raise_eq]

@[simp] theorem raise_onzA (code : Nat) (car : Option Nat) (items : List Item) (s : State) :
    (raise code car items s).onzA = s.onzA := by rw [raise_eq]

@[simp] theorem raise_onzB (code : Nat) (car : Option Nat) (items : List Item) (s : State) :
    (raise code car items s).onzB = s.onzB := by rw [raise_eq]

@[simp] theorem raise_onz (code : Nat) (car : Option Nat) (items : List Item) (p : Nat) (s : State) :
    (raise code car items s).onz p = s.onz p := by simp [State.onz]

@[simp] theorem raise_sent (code : Nat) (car : Option Nat) (items : List Item) (s : State) :
    (raise code car items s).sent = s.sent := by rw [raise_eq]

@[simp] theorem raise_freeCtr (code : Nat) (car : Option Nat) (items : List Item) (s : State) :
    (raise code car items s).freeCtr = s.freeCtr := by rw [raise_eq]

/-- The cells that an event changes. -/
theorem raise_rg (code : Nat) (car : Option Nat) (items : List Item) (s : State) (n : RN) (i : Nat)
    (h1 : n ≠ .EVR_LOST_COUNT) (h2 : n ≠ .EVR_SUPPRESSED_COUNT) : (raise code car items s).rg n i = s.rg n i := by
  have k1 : ∀ j v t, (setRg .EVR_LOST_COUNT j v t).rg n i = t.rg n i :=
    fun j v t => setRg_rg_ne v t (fun e => h1 (congrArg Prod.fst e))
  have k2 : ∀ j v t, (setRg .EVR_SUPPRESSED_COUNT j v t).rg n i = t.rg n i :=
    fun j v t => setRg_rg_ne v t (fun e => h2 (congrArg Prod.fst e))
  unfold raise writeRecord freshCounts
  simp only
  split <;> split <;> first
    | exact k2 _ _ _
    | (unfold when bump; split
       · exact k1 _ _ _
       · rfl)

end Sys2Proof.Machine
end

