-- ==== Sys2Proof/Laws/State.lean ====
section
/-! SUPPORT. What each update of the state leaves and what it writes: one lemma for each field of each update, true by
definition, so that no proof unfolds a record update. -/

namespace Sys2Proof.Machine

open Sys2Proof

/-! ### onEvr -/

@[simp] theorem onEvr_clk (f : EvrSt → EvrSt) (s : State) : (onEvr f s).clk = s.clk := rfl
@[simp] theorem onEvr_ft (f : EvrSt → EvrSt) (s : State) : (onEvr f s).ft = s.ft := rfl
@[simp] theorem onEvr_regs (f : EvrSt → EvrSt) (s : State) : (onEvr f s).regs = s.regs := rfl
@[simp] theorem onEvr_hi (f : EvrSt → EvrSt) (s : State) : (onEvr f s).hi = s.hi := rfl
@[simp] theorem onEvr_freeCtr (f : EvrSt → EvrSt) (s : State) : (onEvr f s).freeCtr = s.freeCtr := rfl
@[simp] theorem onEvr_pending (f : EvrSt → EvrSt) (s : State) : (onEvr f s).pending = s.pending := rfl
@[simp] theorem onEvr_sent (f : EvrSt → EvrSt) (s : State) : (onEvr f s).sent = s.sent := rfl
@[simp] theorem onEvr_evr (f : EvrSt → EvrSt) (s : State) : (onEvr f s).evr = f s.evr := rfl
@[simp] theorem onEvr_mon (f : EvrSt → EvrSt) (s : State) : (onEvr f s).mon = s.mon := rfl
@[simp] theorem onEvr_time (f : EvrSt → EvrSt) (s : State) : (onEvr f s).time = s.time := rfl
@[simp] theorem onEvr_comp (f : EvrSt → EvrSt) (s : State) : (onEvr f s).comp = s.comp := rfl
@[simp] theorem onEvr_onzA (f : EvrSt → EvrSt) (s : State) : (onEvr f s).onzA = s.onzA := rfl
@[simp] theorem onEvr_onzB (f : EvrSt → EvrSt) (s : State) : (onEvr f s).onzB = s.onzB := rfl
@[simp] theorem onEvr_que (f : EvrSt → EvrSt) (s : State) : (onEvr f s).que = s.que := rfl
@[simp] theorem onEvr_seq (f : EvrSt → EvrSt) (s : State) : (onEvr f s).seq = s.seq := rfl
@[simp] theorem onEvr_owl (f : EvrSt → EvrSt) (s : State) : (onEvr f s).owl = s.owl := rfl
@[simp] theorem onEvr_fox (f : EvrSt → EvrSt) (s : State) : (onEvr f s).fox = s.fox := rfl
@[simp] theorem onEvr_dep (f : EvrSt → EvrSt) (s : State) : (onEvr f s).dep = s.dep := rfl
@[simp] theorem onEvr_park (f : EvrSt → EvrSt) (s : State) : (onEvr f s).park = s.park := rfl
@[simp] theorem onEvr_prt (f : EvrSt → EvrSt) (s : State) : (onEvr f s).prt = s.prt := rfl
@[simp] theorem onEvr_trf (f : EvrSt → EvrSt) (s : State) : (onEvr f s).trf = s.trf := rfl
@[simp] theorem onEvr_mem (f : EvrSt → EvrSt) (s : State) : (onEvr f s).mem = s.mem := rfl
@[simp] theorem onEvr_sec (f : EvrSt → EvrSt) (s : State) : (onEvr f s).sec = s.sec := rfl
@[simp] theorem onEvr_ras (f : EvrSt → EvrSt) (s : State) : (onEvr f s).ras = s.ras := rfl
@[simp] theorem onEvr_start (f : EvrSt → EvrSt) (s : State) : (onEvr f s).start = s.start := rfl
@[simp] theorem onEvr_pkg (f : EvrSt → EvrSt) (s : State) : (onEvr f s).pkg = s.pkg := rfl

/-! ### onMon -/

@[simp] theorem onMon_clk (f : MonSt → MonSt) (s : State) : (onMon f s).clk = s.clk := rfl
@[simp] theorem onMon_ft (f : MonSt → MonSt) (s : State) : (onMon f s).ft = s.ft := rfl
@[simp] theorem onMon_regs (f : MonSt → MonSt) (s : State) : (onMon f s).regs = s.regs := rfl
@[simp] theorem onMon_hi (f : MonSt → MonSt) (s : State) : (onMon f s).hi = s.hi := rfl
@[simp] theorem onMon_freeCtr (f : MonSt → MonSt) (s : State) : (onMon f s).freeCtr = s.freeCtr := rfl
@[simp] theorem onMon_pending (f : MonSt → MonSt) (s : State) : (onMon f s).pending = s.pending := rfl
@[simp] theorem onMon_sent (f : MonSt → MonSt) (s : State) : (onMon f s).sent = s.sent := rfl
@[simp] theorem onMon_evr (f : MonSt → MonSt) (s : State) : (onMon f s).evr = s.evr := rfl
@[simp] theorem onMon_mon (f : MonSt → MonSt) (s : State) : (onMon f s).mon = f s.mon := rfl
@[simp] theorem onMon_time (f : MonSt → MonSt) (s : State) : (onMon f s).time = s.time := rfl
@[simp] theorem onMon_comp (f : MonSt → MonSt) (s : State) : (onMon f s).comp = s.comp := rfl
@[simp] theorem onMon_onzA (f : MonSt → MonSt) (s : State) : (onMon f s).onzA = s.onzA := rfl
@[simp] theorem onMon_onzB (f : MonSt → MonSt) (s : State) : (onMon f s).onzB = s.onzB := rfl
@[simp] theorem onMon_que (f : MonSt → MonSt) (s : State) : (onMon f s).que = s.que := rfl
@[simp] theorem onMon_seq (f : MonSt → MonSt) (s : State) : (onMon f s).seq = s.seq := rfl
@[simp] theorem onMon_owl (f : MonSt → MonSt) (s : State) : (onMon f s).owl = s.owl := rfl
@[simp] theorem onMon_fox (f : MonSt → MonSt) (s : State) : (onMon f s).fox = s.fox := rfl
@[simp] theorem onMon_dep (f : MonSt → MonSt) (s : State) : (onMon f s).dep = s.dep := rfl
@[simp] theorem onMon_park (f : MonSt → MonSt) (s : State) : (onMon f s).park = s.park := rfl
@[simp] theorem onMon_prt (f : MonSt → MonSt) (s : State) : (onMon f s).prt = s.prt := rfl
@[simp] theorem onMon_trf (f : MonSt → MonSt) (s : State) : (onMon f s).trf = s.trf := rfl
@[simp] theorem onMon_mem (f : MonSt → MonSt) (s : State) : (onMon f s).mem = s.mem := rfl
@[simp] theorem onMon_sec (f : MonSt → MonSt) (s : State) : (onMon f s).sec = s.sec := rfl
@[simp] theorem onMon_ras (f : MonSt → MonSt) (s : State) : (onMon f s).ras = s.ras := rfl
@[simp] theorem onMon_start (f : MonSt → MonSt) (s : State) : (onMon f s).start = s.start := rfl
@[simp] theorem onMon_pkg (f : MonSt → MonSt) (s : State) : (onMon f s).pkg = s.pkg := rfl

/-! ### onTime -/

@[simp] theorem onTime_clk (f : TimeSt → TimeSt) (s : State) : (onTime f s).clk = s.clk := rfl
@[simp] theorem onTime_ft (f : TimeSt → TimeSt) (s : State) : (onTime f s).ft = s.ft := rfl
@[simp] theorem onTime_regs (f : TimeSt → TimeSt) (s : State) : (onTime f s).regs = s.regs := rfl
@[simp] theorem onTime_hi (f : TimeSt → TimeSt) (s : State) : (onTime f s).hi = s.hi := rfl
@[simp] theorem onTime_freeCtr (f : TimeSt → TimeSt) (s : State) : (onTime f s).freeCtr = s.freeCtr := rfl
@[simp] theorem onTime_pending (f : TimeSt → TimeSt) (s : State) : (onTime f s).pending = s.pending := rfl
@[simp] theorem onTime_sent (f : TimeSt → TimeSt) (s : State) : (onTime f s).sent = s.sent := rfl
@[simp] theorem onTime_evr (f : TimeSt → TimeSt) (s : State) : (onTime f s).evr = s.evr := rfl
@[simp] theorem onTime_mon (f : TimeSt → TimeSt) (s : State) : (onTime f s).mon = s.mon := rfl
@[simp] theorem onTime_time (f : TimeSt → TimeSt) (s : State) : (onTime f s).time = f s.time := rfl
@[simp] theorem onTime_comp (f : TimeSt → TimeSt) (s : State) : (onTime f s).comp = s.comp := rfl
@[simp] theorem onTime_onzA (f : TimeSt → TimeSt) (s : State) : (onTime f s).onzA = s.onzA := rfl
@[simp] theorem onTime_onzB (f : TimeSt → TimeSt) (s : State) : (onTime f s).onzB = s.onzB := rfl
@[simp] theorem onTime_que (f : TimeSt → TimeSt) (s : State) : (onTime f s).que = s.que := rfl
@[simp] theorem onTime_seq (f : TimeSt → TimeSt) (s : State) : (onTime f s).seq = s.seq := rfl
@[simp] theorem onTime_owl (f : TimeSt → TimeSt) (s : State) : (onTime f s).owl = s.owl := rfl
@[simp] theorem onTime_fox (f : TimeSt → TimeSt) (s : State) : (onTime f s).fox = s.fox := rfl
@[simp] theorem onTime_dep (f : TimeSt → TimeSt) (s : State) : (onTime f s).dep = s.dep := rfl
@[simp] theorem onTime_park (f : TimeSt → TimeSt) (s : State) : (onTime f s).park = s.park := rfl
@[simp] theorem onTime_prt (f : TimeSt → TimeSt) (s : State) : (onTime f s).prt = s.prt := rfl
@[simp] theorem onTime_trf (f : TimeSt → TimeSt) (s : State) : (onTime f s).trf = s.trf := rfl
@[simp] theorem onTime_mem (f : TimeSt → TimeSt) (s : State) : (onTime f s).mem = s.mem := rfl
@[simp] theorem onTime_sec (f : TimeSt → TimeSt) (s : State) : (onTime f s).sec = s.sec := rfl
@[simp] theorem onTime_ras (f : TimeSt → TimeSt) (s : State) : (onTime f s).ras = s.ras := rfl
@[simp] theorem onTime_start (f : TimeSt → TimeSt) (s : State) : (onTime f s).start = s.start := rfl
@[simp] theorem onTime_pkg (f : TimeSt → TimeSt) (s : State) : (onTime f s).pkg = s.pkg := rfl

/-! ### onComp -/

@[simp] theorem onComp_clk (f : CompSt → CompSt) (s : State) : (onComp f s).clk = s.clk := rfl
@[simp] theorem onComp_ft (f : CompSt → CompSt) (s : State) : (onComp f s).ft = s.ft := rfl
@[simp] theorem onComp_regs (f : CompSt → CompSt) (s : State) : (onComp f s).regs = s.regs := rfl
@[simp] theorem onComp_hi (f : CompSt → CompSt) (s : State) : (onComp f s).hi = s.hi := rfl
@[simp] theorem onComp_freeCtr (f : CompSt → CompSt) (s : State) : (onComp f s).freeCtr = s.freeCtr := rfl
@[simp] theorem onComp_pending (f : CompSt → CompSt) (s : State) : (onComp f s).pending = s.pending := rfl
@[simp] theorem onComp_sent (f : CompSt → CompSt) (s : State) : (onComp f s).sent = s.sent := rfl
@[simp] theorem onComp_evr (f : CompSt → CompSt) (s : State) : (onComp f s).evr = s.evr := rfl
@[simp] theorem onComp_mon (f : CompSt → CompSt) (s : State) : (onComp f s).mon = s.mon := rfl
@[simp] theorem onComp_time (f : CompSt → CompSt) (s : State) : (onComp f s).time = s.time := rfl
@[simp] theorem onComp_comp (f : CompSt → CompSt) (s : State) : (onComp f s).comp = f s.comp := rfl
@[simp] theorem onComp_onzA (f : CompSt → CompSt) (s : State) : (onComp f s).onzA = s.onzA := rfl
@[simp] theorem onComp_onzB (f : CompSt → CompSt) (s : State) : (onComp f s).onzB = s.onzB := rfl
@[simp] theorem onComp_que (f : CompSt → CompSt) (s : State) : (onComp f s).que = s.que := rfl
@[simp] theorem onComp_seq (f : CompSt → CompSt) (s : State) : (onComp f s).seq = s.seq := rfl
@[simp] theorem onComp_owl (f : CompSt → CompSt) (s : State) : (onComp f s).owl = s.owl := rfl
@[simp] theorem onComp_fox (f : CompSt → CompSt) (s : State) : (onComp f s).fox = s.fox := rfl
@[simp] theorem onComp_dep (f : CompSt → CompSt) (s : State) : (onComp f s).dep = s.dep := rfl
@[simp] theorem onComp_park (f : CompSt → CompSt) (s : State) : (onComp f s).park = s.park := rfl
@[simp] theorem onComp_prt (f : CompSt → CompSt) (s : State) : (onComp f s).prt = s.prt := rfl
@[simp] theorem onComp_trf (f : CompSt → CompSt) (s : State) : (onComp f s).trf = s.trf := rfl
@[simp] theorem onComp_mem (f : CompSt → CompSt) (s : State) : (onComp f s).mem = s.mem := rfl
@[simp] theorem onComp_sec (f : CompSt → CompSt) (s : State) : (onComp f s).sec = s.sec := rfl
@[simp] theorem onComp_ras (f : CompSt → CompSt) (s : State) : (onComp f s).ras = s.ras := rfl
@[simp] theorem onComp_start (f : CompSt → CompSt) (s : State) : (onComp f s).start = s.start := rfl
@[simp] theorem onComp_pkg (f : CompSt → CompSt) (s : State) : (onComp f s).pkg = s.pkg := rfl

/-! ### onQue -/

@[simp] theorem onQue_clk (f : QueSt → QueSt) (s : State) : (onQue f s).clk = s.clk := rfl
@[simp] theorem onQue_ft (f : QueSt → QueSt) (s : State) : (onQue f s).ft = s.ft := rfl
@[simp] theorem onQue_regs (f : QueSt → QueSt) (s : State) : (onQue f s).regs = s.regs := rfl
@[simp] theorem onQue_hi (f : QueSt → QueSt) (s : State) : (onQue f s).hi = s.hi := rfl
@[simp] theorem onQue_freeCtr (f : QueSt → QueSt) (s : State) : (onQue f s).freeCtr = s.freeCtr := rfl
@[simp] theorem onQue_pending (f : QueSt → QueSt) (s : State) : (onQue f s).pending = s.pending := rfl
@[simp] theorem onQue_sent (f : QueSt → QueSt) (s : State) : (onQue f s).sent = s.sent := rfl
@[simp] theorem onQue_evr (f : QueSt → QueSt) (s : State) : (onQue f s).evr = s.evr := rfl
@[simp] theorem onQue_mon (f : QueSt → QueSt) (s : State) : (onQue f s).mon = s.mon := rfl
@[simp] theorem onQue_time (f : QueSt → QueSt) (s : State) : (onQue f s).time = s.time := rfl
@[simp] theorem onQue_comp (f : QueSt → QueSt) (s : State) : (onQue f s).comp = s.comp := rfl
@[simp] theorem onQue_onzA (f : QueSt → QueSt) (s : State) : (onQue f s).onzA = s.onzA := rfl
@[simp] theorem onQue_onzB (f : QueSt → QueSt) (s : State) : (onQue f s).onzB = s.onzB := rfl
@[simp] theorem onQue_que (f : QueSt → QueSt) (s : State) : (onQue f s).que = f s.que := rfl
@[simp] theorem onQue_seq (f : QueSt → QueSt) (s : State) : (onQue f s).seq = s.seq := rfl
@[simp] theorem onQue_owl (f : QueSt → QueSt) (s : State) : (onQue f s).owl = s.owl := rfl
@[simp] theorem onQue_fox (f : QueSt → QueSt) (s : State) : (onQue f s).fox = s.fox := rfl
@[simp] theorem onQue_dep (f : QueSt → QueSt) (s : State) : (onQue f s).dep = s.dep := rfl
@[simp] theorem onQue_park (f : QueSt → QueSt) (s : State) : (onQue f s).park = s.park := rfl
@[simp] theorem onQue_prt (f : QueSt → QueSt) (s : State) : (onQue f s).prt = s.prt := rfl
@[simp] theorem onQue_trf (f : QueSt → QueSt) (s : State) : (onQue f s).trf = s.trf := rfl
@[simp] theorem onQue_mem (f : QueSt → QueSt) (s : State) : (onQue f s).mem = s.mem := rfl
@[simp] theorem onQue_sec (f : QueSt → QueSt) (s : State) : (onQue f s).sec = s.sec := rfl
@[simp] theorem onQue_ras (f : QueSt → QueSt) (s : State) : (onQue f s).ras = s.ras := rfl
@[simp] theorem onQue_start (f : QueSt → QueSt) (s : State) : (onQue f s).start = s.start := rfl
@[simp] theorem onQue_pkg (f : QueSt → QueSt) (s : State) : (onQue f s).pkg = s.pkg := rfl

/-! ### onSeq -/

@[simp] theorem onSeq_clk (f : SeqSt → SeqSt) (s : State) : (onSeq f s).clk = s.clk := rfl
@[simp] theorem onSeq_ft (f : SeqSt → SeqSt) (s : State) : (onSeq f s).ft = s.ft := rfl
@[simp] theorem onSeq_regs (f : SeqSt → SeqSt) (s : State) : (onSeq f s).regs = s.regs := rfl
@[simp] theorem onSeq_hi (f : SeqSt → SeqSt) (s : State) : (onSeq f s).hi = s.hi := rfl
@[simp] theorem onSeq_freeCtr (f : SeqSt → SeqSt) (s : State) : (onSeq f s).freeCtr = s.freeCtr := rfl
@[simp] theorem onSeq_pending (f : SeqSt → SeqSt) (s : State) : (onSeq f s).pending = s.pending := rfl
@[simp] theorem onSeq_sent (f : SeqSt → SeqSt) (s : State) : (onSeq f s).sent = s.sent := rfl
@[simp] theorem onSeq_evr (f : SeqSt → SeqSt) (s : State) : (onSeq f s).evr = s.evr := rfl
@[simp] theorem onSeq_mon (f : SeqSt → SeqSt) (s : State) : (onSeq f s).mon = s.mon := rfl
@[simp] theorem onSeq_time (f : SeqSt → SeqSt) (s : State) : (onSeq f s).time = s.time := rfl
@[simp] theorem onSeq_comp (f : SeqSt → SeqSt) (s : State) : (onSeq f s).comp = s.comp := rfl
@[simp] theorem onSeq_onzA (f : SeqSt → SeqSt) (s : State) : (onSeq f s).onzA = s.onzA := rfl
@[simp] theorem onSeq_onzB (f : SeqSt → SeqSt) (s : State) : (onSeq f s).onzB = s.onzB := rfl
@[simp] theorem onSeq_que (f : SeqSt → SeqSt) (s : State) : (onSeq f s).que = s.que := rfl
@[simp] theorem onSeq_seq (f : SeqSt → SeqSt) (s : State) : (onSeq f s).seq = f s.seq := rfl
@[simp] theorem onSeq_owl (f : SeqSt → SeqSt) (s : State) : (onSeq f s).owl = s.owl := rfl
@[simp] theorem onSeq_fox (f : SeqSt → SeqSt) (s : State) : (onSeq f s).fox = s.fox := rfl
@[simp] theorem onSeq_dep (f : SeqSt → SeqSt) (s : State) : (onSeq f s).dep = s.dep := rfl
@[simp] theorem onSeq_park (f : SeqSt → SeqSt) (s : State) : (onSeq f s).park = s.park := rfl
@[simp] theorem onSeq_prt (f : SeqSt → SeqSt) (s : State) : (onSeq f s).prt = s.prt := rfl
@[simp] theorem onSeq_trf (f : SeqSt → SeqSt) (s : State) : (onSeq f s).trf = s.trf := rfl
@[simp] theorem onSeq_mem (f : SeqSt → SeqSt) (s : State) : (onSeq f s).mem = s.mem := rfl
@[simp] theorem onSeq_sec (f : SeqSt → SeqSt) (s : State) : (onSeq f s).sec = s.sec := rfl
@[simp] theorem onSeq_ras (f : SeqSt → SeqSt) (s : State) : (onSeq f s).ras = s.ras := rfl
@[simp] theorem onSeq_start (f : SeqSt → SeqSt) (s : State) : (onSeq f s).start = s.start := rfl
@[simp] theorem onSeq_pkg (f : SeqSt → SeqSt) (s : State) : (onSeq f s).pkg = s.pkg := rfl

/-! ### onOwl -/

@[simp] theorem onOwl_clk (f : OwlSt → OwlSt) (s : State) : (onOwl f s).clk = s.clk := rfl
@[simp] theorem onOwl_ft (f : OwlSt → OwlSt) (s : State) : (onOwl f s).ft = s.ft := rfl
@[simp] theorem onOwl_regs (f : OwlSt → OwlSt) (s : State) : (onOwl f s).regs = s.regs := rfl
@[simp] theorem onOwl_hi (f : OwlSt → OwlSt) (s : State) : (onOwl f s).hi = s.hi := rfl
@[simp] theorem onOwl_freeCtr (f : OwlSt → OwlSt) (s : State) : (onOwl f s).freeCtr = s.freeCtr := rfl
@[simp] theorem onOwl_pending (f : OwlSt → OwlSt) (s : State) : (onOwl f s).pending = s.pending := rfl
@[simp] theorem onOwl_sent (f : OwlSt → OwlSt) (s : State) : (onOwl f s).sent = s.sent := rfl
@[simp] theorem onOwl_evr (f : OwlSt → OwlSt) (s : State) : (onOwl f s).evr = s.evr := rfl
@[simp] theorem onOwl_mon (f : OwlSt → OwlSt) (s : State) : (onOwl f s).mon = s.mon := rfl
@[simp] theorem onOwl_time (f : OwlSt → OwlSt) (s : State) : (onOwl f s).time = s.time := rfl
@[simp] theorem onOwl_comp (f : OwlSt → OwlSt) (s : State) : (onOwl f s).comp = s.comp := rfl
@[simp] theorem onOwl_onzA (f : OwlSt → OwlSt) (s : State) : (onOwl f s).onzA = s.onzA := rfl
@[simp] theorem onOwl_onzB (f : OwlSt → OwlSt) (s : State) : (onOwl f s).onzB = s.onzB := rfl
@[simp] theorem onOwl_que (f : OwlSt → OwlSt) (s : State) : (onOwl f s).que = s.que := rfl
@[simp] theorem onOwl_seq (f : OwlSt → OwlSt) (s : State) : (onOwl f s).seq = s.seq := rfl
@[simp] theorem onOwl_owl (f : OwlSt → OwlSt) (s : State) : (onOwl f s).owl = f s.owl := rfl
@[simp] theorem onOwl_fox (f : OwlSt → OwlSt) (s : State) : (onOwl f s).fox = s.fox := rfl
@[simp] theorem onOwl_dep (f : OwlSt → OwlSt) (s : State) : (onOwl f s).dep = s.dep := rfl
@[simp] theorem onOwl_park (f : OwlSt → OwlSt) (s : State) : (onOwl f s).park = s.park := rfl
@[simp] theorem onOwl_prt (f : OwlSt → OwlSt) (s : State) : (onOwl f s).prt = s.prt := rfl
@[simp] theorem onOwl_trf (f : OwlSt → OwlSt) (s : State) : (onOwl f s).trf = s.trf := rfl
@[simp] theorem onOwl_mem (f : OwlSt → OwlSt) (s : State) : (onOwl f s).mem = s.mem := rfl
@[simp] theorem onOwl_sec (f : OwlSt → OwlSt) (s : State) : (onOwl f s).sec = s.sec := rfl
@[simp] theorem onOwl_ras (f : OwlSt → OwlSt) (s : State) : (onOwl f s).ras = s.ras := rfl
@[simp] theorem onOwl_start (f : OwlSt → OwlSt) (s : State) : (onOwl f s).start = s.start := rfl
@[simp] theorem onOwl_pkg (f : OwlSt → OwlSt) (s : State) : (onOwl f s).pkg = s.pkg := rfl

/-! ### onFox -/

@[simp] theorem onFox_clk (f : FoxSt → FoxSt) (s : State) : (onFox f s).clk = s.clk := rfl
@[simp] theorem onFox_ft (f : FoxSt → FoxSt) (s : State) : (onFox f s).ft = s.ft := rfl
@[simp] theorem onFox_regs (f : FoxSt → FoxSt) (s : State) : (onFox f s).regs = s.regs := rfl
@[simp] theorem onFox_hi (f : FoxSt → FoxSt) (s : State) : (onFox f s).hi = s.hi := rfl
@[simp] theorem onFox_freeCtr (f : FoxSt → FoxSt) (s : State) : (onFox f s).freeCtr = s.freeCtr := rfl
@[simp] theorem onFox_pending (f : FoxSt → FoxSt) (s : State) : (onFox f s).pending = s.pending := rfl
@[simp] theorem onFox_sent (f : FoxSt → FoxSt) (s : State) : (onFox f s).sent = s.sent := rfl
@[simp] theorem onFox_evr (f : FoxSt → FoxSt) (s : State) : (onFox f s).evr = s.evr := rfl
@[simp] theorem onFox_mon (f : FoxSt → FoxSt) (s : State) : (onFox f s).mon = s.mon := rfl
@[simp] theorem onFox_time (f : FoxSt → FoxSt) (s : State) : (onFox f s).time = s.time := rfl
@[simp] theorem onFox_comp (f : FoxSt → FoxSt) (s : State) : (onFox f s).comp = s.comp := rfl
@[simp] theorem onFox_onzA (f : FoxSt → FoxSt) (s : State) : (onFox f s).onzA = s.onzA := rfl
@[simp] theorem onFox_onzB (f : FoxSt → FoxSt) (s : State) : (onFox f s).onzB = s.onzB := rfl
@[simp] theorem onFox_que (f : FoxSt → FoxSt) (s : State) : (onFox f s).que = s.que := rfl
@[simp] theorem onFox_seq (f : FoxSt → FoxSt) (s : State) : (onFox f s).seq = s.seq := rfl
@[simp] theorem onFox_owl (f : FoxSt → FoxSt) (s : State) : (onFox f s).owl = s.owl := rfl
@[simp] theorem onFox_fox (f : FoxSt → FoxSt) (s : State) : (onFox f s).fox = f s.fox := rfl
@[simp] theorem onFox_dep (f : FoxSt → FoxSt) (s : State) : (onFox f s).dep = s.dep := rfl
@[simp] theorem onFox_park (f : FoxSt → FoxSt) (s : State) : (onFox f s).park = s.park := rfl
@[simp] theorem onFox_prt (f : FoxSt → FoxSt) (s : State) : (onFox f s).prt = s.prt := rfl
@[simp] theorem onFox_trf (f : FoxSt → FoxSt) (s : State) : (onFox f s).trf = s.trf := rfl
@[simp] theorem onFox_mem (f : FoxSt → FoxSt) (s : State) : (onFox f s).mem = s.mem := rfl
@[simp] theorem onFox_sec (f : FoxSt → FoxSt) (s : State) : (onFox f s).sec = s.sec := rfl
@[simp] theorem onFox_ras (f : FoxSt → FoxSt) (s : State) : (onFox f s).ras = s.ras := rfl
@[simp] theorem onFox_start (f : FoxSt → FoxSt) (s : State) : (onFox f s).start = s.start := rfl
@[simp] theorem onFox_pkg (f : FoxSt → FoxSt) (s : State) : (onFox f s).pkg = s.pkg := rfl

/-! ### onDep -/

@[simp] theorem onDep_clk (f : DepSt → DepSt) (s : State) : (onDep f s).clk = s.clk := rfl
@[simp] theorem onDep_ft (f : DepSt → DepSt) (s : State) : (onDep f s).ft = s.ft := rfl
@[simp] theorem onDep_regs (f : DepSt → DepSt) (s : State) : (onDep f s).regs = s.regs := rfl
@[simp] theorem onDep_hi (f : DepSt → DepSt) (s : State) : (onDep f s).hi = s.hi := rfl
@[simp] theorem onDep_freeCtr (f : DepSt → DepSt) (s : State) : (onDep f s).freeCtr = s.freeCtr := rfl
@[simp] theorem onDep_pending (f : DepSt → DepSt) (s : State) : (onDep f s).pending = s.pending := rfl
@[simp] theorem onDep_sent (f : DepSt → DepSt) (s : State) : (onDep f s).sent = s.sent := rfl
@[simp] theorem onDep_evr (f : DepSt → DepSt) (s : State) : (onDep f s).evr = s.evr := rfl
@[simp] theorem onDep_mon (f : DepSt → DepSt) (s : State) : (onDep f s).mon = s.mon := rfl
@[simp] theorem onDep_time (f : DepSt → DepSt) (s : State) : (onDep f s).time = s.time := rfl
@[simp] theorem onDep_comp (f : DepSt → DepSt) (s : State) : (onDep f s).comp = s.comp := rfl
@[simp] theorem onDep_onzA (f : DepSt → DepSt) (s : State) : (onDep f s).onzA = s.onzA := rfl
@[simp] theorem onDep_onzB (f : DepSt → DepSt) (s : State) : (onDep f s).onzB = s.onzB := rfl
@[simp] theorem onDep_que (f : DepSt → DepSt) (s : State) : (onDep f s).que = s.que := rfl
@[simp] theorem onDep_seq (f : DepSt → DepSt) (s : State) : (onDep f s).seq = s.seq := rfl
@[simp] theorem onDep_owl (f : DepSt → DepSt) (s : State) : (onDep f s).owl = s.owl := rfl
@[simp] theorem onDep_fox (f : DepSt → DepSt) (s : State) : (onDep f s).fox = s.fox := rfl
@[simp] theorem onDep_dep (f : DepSt → DepSt) (s : State) : (onDep f s).dep = f s.dep := rfl
@[simp] theorem onDep_park (f : DepSt → DepSt) (s : State) : (onDep f s).park = s.park := rfl
@[simp] theorem onDep_prt (f : DepSt → DepSt) (s : State) : (onDep f s).prt = s.prt := rfl
@[simp] theorem onDep_trf (f : DepSt → DepSt) (s : State) : (onDep f s).trf = s.trf := rfl
@[simp] theorem onDep_mem (f : DepSt → DepSt) (s : State) : (onDep f s).mem = s.mem := rfl
@[simp] theorem onDep_sec (f : DepSt → DepSt) (s : State) : (onDep f s).sec = s.sec := rfl
@[simp] theorem onDep_ras (f : DepSt → DepSt) (s : State) : (onDep f s).ras = s.ras := rfl
@[simp] theorem onDep_start (f : DepSt → DepSt) (s : State) : (onDep f s).start = s.start := rfl
@[simp] theorem onDep_pkg (f : DepSt → DepSt) (s : State) : (onDep f s).pkg = s.pkg := rfl

/-! ### onPark -/

@[simp] theorem onPark_clk (f : ParkSt → ParkSt) (s : State) : (onPark f s).clk = s.clk := rfl
@[simp] theorem onPark_ft (f : ParkSt → ParkSt) (s : State) : (onPark f s).ft = s.ft := rfl
@[simp] theorem onPark_regs (f : ParkSt → ParkSt) (s : State) : (onPark f s).regs = s.regs := rfl
@[simp] theorem onPark_hi (f : ParkSt → ParkSt) (s : State) : (onPark f s).hi = s.hi := rfl
@[simp] theorem onPark_freeCtr (f : ParkSt → ParkSt) (s : State) : (onPark f s).freeCtr = s.freeCtr := rfl
@[simp] theorem onPark_pending (f : ParkSt → ParkSt) (s : State) : (onPark f s).pending = s.pending := rfl
@[simp] theorem onPark_sent (f : ParkSt → ParkSt) (s : State) : (onPark f s).sent = s.sent := rfl
@[simp] theorem onPark_evr (f : ParkSt → ParkSt) (s : State) : (onPark f s).evr = s.evr := rfl
@[simp] theorem onPark_mon (f : ParkSt → ParkSt) (s : State) : (onPark f s).mon = s.mon := rfl
@[simp] theorem onPark_time (f : ParkSt → ParkSt) (s : State) : (onPark f s).time = s.time := rfl
@[simp] theorem onPark_comp (f : ParkSt → ParkSt) (s : State) : (onPark f s).comp = s.comp := rfl
@[simp] theorem onPark_onzA (f : ParkSt → ParkSt) (s : State) : (onPark f s).onzA = s.onzA := rfl
@[simp] theorem onPark_onzB (f : ParkSt → ParkSt) (s : State) : (onPark f s).onzB = s.onzB := rfl
@[simp] theorem onPark_que (f : ParkSt → ParkSt) (s : State) : (onPark f s).que = s.que := rfl
@[simp] theorem onPark_seq (f : ParkSt → ParkSt) (s : State) : (onPark f s).seq = s.seq := rfl
@[simp] theorem onPark_owl (f : ParkSt → ParkSt) (s : State) : (onPark f s).owl = s.owl := rfl
@[simp] theorem onPark_fox (f : ParkSt → ParkSt) (s : State) : (onPark f s).fox = s.fox := rfl
@[simp] theorem onPark_dep (f : ParkSt → ParkSt) (s : State) : (onPark f s).dep = s.dep := rfl
@[simp] theorem onPark_park (f : ParkSt → ParkSt) (s : State) : (onPark f s).park = f s.park := rfl
@[simp] theorem onPark_prt (f : ParkSt → ParkSt) (s : State) : (onPark f s).prt = s.prt := rfl
@[simp] theorem onPark_trf (f : ParkSt → ParkSt) (s : State) : (onPark f s).trf = s.trf := rfl
@[simp] theorem onPark_mem (f : ParkSt → ParkSt) (s : State) : (onPark f s).mem = s.mem := rfl
@[simp] theorem onPark_sec (f : ParkSt → ParkSt) (s : State) : (onPark f s).sec = s.sec := rfl
@[simp] theorem onPark_ras (f : ParkSt → ParkSt) (s : State) : (onPark f s).ras = s.ras := rfl
@[simp] theorem onPark_start (f : ParkSt → ParkSt) (s : State) : (onPark f s).start = s.start := rfl
@[simp] theorem onPark_pkg (f : ParkSt → ParkSt) (s : State) : (onPark f s).pkg = s.pkg := rfl

/-! ### onPrt -/

@[simp] theorem onPrt_clk (f : PrtSt → PrtSt) (s : State) : (onPrt f s).clk = s.clk := rfl
@[simp] theorem onPrt_ft (f : PrtSt → PrtSt) (s : State) : (onPrt f s).ft = s.ft := rfl
@[simp] theorem onPrt_regs (f : PrtSt → PrtSt) (s : State) : (onPrt f s).regs = s.regs := rfl
@[simp] theorem onPrt_hi (f : PrtSt → PrtSt) (s : State) : (onPrt f s).hi = s.hi := rfl
@[simp] theorem onPrt_freeCtr (f : PrtSt → PrtSt) (s : State) : (onPrt f s).freeCtr = s.freeCtr := rfl
@[simp] theorem onPrt_pending (f : PrtSt → PrtSt) (s : State) : (onPrt f s).pending = s.pending := rfl
@[simp] theorem onPrt_sent (f : PrtSt → PrtSt) (s : State) : (onPrt f s).sent = s.sent := rfl
@[simp] theorem onPrt_evr (f : PrtSt → PrtSt) (s : State) : (onPrt f s).evr = s.evr := rfl
@[simp] theorem onPrt_mon (f : PrtSt → PrtSt) (s : State) : (onPrt f s).mon = s.mon := rfl
@[simp] theorem onPrt_time (f : PrtSt → PrtSt) (s : State) : (onPrt f s).time = s.time := rfl
@[simp] theorem onPrt_comp (f : PrtSt → PrtSt) (s : State) : (onPrt f s).comp = s.comp := rfl
@[simp] theorem onPrt_onzA (f : PrtSt → PrtSt) (s : State) : (onPrt f s).onzA = s.onzA := rfl
@[simp] theorem onPrt_onzB (f : PrtSt → PrtSt) (s : State) : (onPrt f s).onzB = s.onzB := rfl
@[simp] theorem onPrt_que (f : PrtSt → PrtSt) (s : State) : (onPrt f s).que = s.que := rfl
@[simp] theorem onPrt_seq (f : PrtSt → PrtSt) (s : State) : (onPrt f s).seq = s.seq := rfl
@[simp] theorem onPrt_owl (f : PrtSt → PrtSt) (s : State) : (onPrt f s).owl = s.owl := rfl
@[simp] theorem onPrt_fox (f : PrtSt → PrtSt) (s : State) : (onPrt f s).fox = s.fox := rfl
@[simp] theorem onPrt_dep (f : PrtSt → PrtSt) (s : State) : (onPrt f s).dep = s.dep := rfl
@[simp] theorem onPrt_park (f : PrtSt → PrtSt) (s : State) : (onPrt f s).park = s.park := rfl
@[simp] theorem onPrt_prt (f : PrtSt → PrtSt) (s : State) : (onPrt f s).prt = f s.prt := rfl
@[simp] theorem onPrt_trf (f : PrtSt → PrtSt) (s : State) : (onPrt f s).trf = s.trf := rfl
@[simp] theorem onPrt_mem (f : PrtSt → PrtSt) (s : State) : (onPrt f s).mem = s.mem := rfl
@[simp] theorem onPrt_sec (f : PrtSt → PrtSt) (s : State) : (onPrt f s).sec = s.sec := rfl
@[simp] theorem onPrt_ras (f : PrtSt → PrtSt) (s : State) : (onPrt f s).ras = s.ras := rfl
@[simp] theorem onPrt_start (f : PrtSt → PrtSt) (s : State) : (onPrt f s).start = s.start := rfl
@[simp] theorem onPrt_pkg (f : PrtSt → PrtSt) (s : State) : (onPrt f s).pkg = s.pkg := rfl

/-! ### onTrf -/

@[simp] theorem onTrf_clk (f : TrfSt → TrfSt) (s : State) : (onTrf f s).clk = s.clk := rfl
@[simp] theorem onTrf_ft (f : TrfSt → TrfSt) (s : State) : (onTrf f s).ft = s.ft := rfl
@[simp] theorem onTrf_regs (f : TrfSt → TrfSt) (s : State) : (onTrf f s).regs = s.regs := rfl
@[simp] theorem onTrf_hi (f : TrfSt → TrfSt) (s : State) : (onTrf f s).hi = s.hi := rfl
@[simp] theorem onTrf_freeCtr (f : TrfSt → TrfSt) (s : State) : (onTrf f s).freeCtr = s.freeCtr := rfl
@[simp] theorem onTrf_pending (f : TrfSt → TrfSt) (s : State) : (onTrf f s).pending = s.pending := rfl
@[simp] theorem onTrf_sent (f : TrfSt → TrfSt) (s : State) : (onTrf f s).sent = s.sent := rfl
@[simp] theorem onTrf_evr (f : TrfSt → TrfSt) (s : State) : (onTrf f s).evr = s.evr := rfl
@[simp] theorem onTrf_mon (f : TrfSt → TrfSt) (s : State) : (onTrf f s).mon = s.mon := rfl
@[simp] theorem onTrf_time (f : TrfSt → TrfSt) (s : State) : (onTrf f s).time = s.time := rfl
@[simp] theorem onTrf_comp (f : TrfSt → TrfSt) (s : State) : (onTrf f s).comp = s.comp := rfl
@[simp] theorem onTrf_onzA (f : TrfSt → TrfSt) (s : State) : (onTrf f s).onzA = s.onzA := rfl
@[simp] theorem onTrf_onzB (f : TrfSt → TrfSt) (s : State) : (onTrf f s).onzB = s.onzB := rfl
@[simp] theorem onTrf_que (f : TrfSt → TrfSt) (s : State) : (onTrf f s).que = s.que := rfl
@[simp] theorem onTrf_seq (f : TrfSt → TrfSt) (s : State) : (onTrf f s).seq = s.seq := rfl
@[simp] theorem onTrf_owl (f : TrfSt → TrfSt) (s : State) : (onTrf f s).owl = s.owl := rfl
@[simp] theorem onTrf_fox (f : TrfSt → TrfSt) (s : State) : (onTrf f s).fox = s.fox := rfl
@[simp] theorem onTrf_dep (f : TrfSt → TrfSt) (s : State) : (onTrf f s).dep = s.dep := rfl
@[simp] theorem onTrf_park (f : TrfSt → TrfSt) (s : State) : (onTrf f s).park = s.park := rfl
@[simp] theorem onTrf_prt (f : TrfSt → TrfSt) (s : State) : (onTrf f s).prt = s.prt := rfl
@[simp] theorem onTrf_trf (f : TrfSt → TrfSt) (s : State) : (onTrf f s).trf = f s.trf := rfl
@[simp] theorem onTrf_mem (f : TrfSt → TrfSt) (s : State) : (onTrf f s).mem = s.mem := rfl
@[simp] theorem onTrf_sec (f : TrfSt → TrfSt) (s : State) : (onTrf f s).sec = s.sec := rfl
@[simp] theorem onTrf_ras (f : TrfSt → TrfSt) (s : State) : (onTrf f s).ras = s.ras := rfl
@[simp] theorem onTrf_start (f : TrfSt → TrfSt) (s : State) : (onTrf f s).start = s.start := rfl
@[simp] theorem onTrf_pkg (f : TrfSt → TrfSt) (s : State) : (onTrf f s).pkg = s.pkg := rfl

/-! ### onMem -/

@[simp] theorem onMem_clk (f : MemSt → MemSt) (s : State) : (onMem f s).clk = s.clk := rfl
@[simp] theorem onMem_ft (f : MemSt → MemSt) (s : State) : (onMem f s).ft = s.ft := rfl
@[simp] theorem onMem_regs (f : MemSt → MemSt) (s : State) : (onMem f s).regs = s.regs := rfl
@[simp] theorem onMem_hi (f : MemSt → MemSt) (s : State) : (onMem f s).hi = s.hi := rfl
@[simp] theorem onMem_freeCtr (f : MemSt → MemSt) (s : State) : (onMem f s).freeCtr = s.freeCtr := rfl
@[simp] theorem onMem_pending (f : MemSt → MemSt) (s : State) : (onMem f s).pending = s.pending := rfl
@[simp] theorem onMem_sent (f : MemSt → MemSt) (s : State) : (onMem f s).sent = s.sent := rfl
@[simp] theorem onMem_evr (f : MemSt → MemSt) (s : State) : (onMem f s).evr = s.evr := rfl
@[simp] theorem onMem_mon (f : MemSt → MemSt) (s : State) : (onMem f s).mon = s.mon := rfl
@[simp] theorem onMem_time (f : MemSt → MemSt) (s : State) : (onMem f s).time = s.time := rfl
@[simp] theorem onMem_comp (f : MemSt → MemSt) (s : State) : (onMem f s).comp = s.comp := rfl
@[simp] theorem onMem_onzA (f : MemSt → MemSt) (s : State) : (onMem f s).onzA = s.onzA := rfl
@[simp] theorem onMem_onzB (f : MemSt → MemSt) (s : State) : (onMem f s).onzB = s.onzB := rfl
@[simp] theorem onMem_que (f : MemSt → MemSt) (s : State) : (onMem f s).que = s.que := rfl
@[simp] theorem onMem_seq (f : MemSt → MemSt) (s : State) : (onMem f s).seq = s.seq := rfl
@[simp] theorem onMem_owl (f : MemSt → MemSt) (s : State) : (onMem f s).owl = s.owl := rfl
@[simp] theorem onMem_fox (f : MemSt → MemSt) (s : State) : (onMem f s).fox = s.fox := rfl
@[simp] theorem onMem_dep (f : MemSt → MemSt) (s : State) : (onMem f s).dep = s.dep := rfl
@[simp] theorem onMem_park (f : MemSt → MemSt) (s : State) : (onMem f s).park = s.park := rfl
@[simp] theorem onMem_prt (f : MemSt → MemSt) (s : State) : (onMem f s).prt = s.prt := rfl
@[simp] theorem onMem_trf (f : MemSt → MemSt) (s : State) : (onMem f s).trf = s.trf := rfl
@[simp] theorem onMem_mem (f : MemSt → MemSt) (s : State) : (onMem f s).mem = f s.mem := rfl
@[simp] theorem onMem_sec (f : MemSt → MemSt) (s : State) : (onMem f s).sec = s.sec := rfl
@[simp] theorem onMem_ras (f : MemSt → MemSt) (s : State) : (onMem f s).ras = s.ras := rfl
@[simp] theorem onMem_start (f : MemSt → MemSt) (s : State) : (onMem f s).start = s.start := rfl
@[simp] theorem onMem_pkg (f : MemSt → MemSt) (s : State) : (onMem f s).pkg = s.pkg := rfl

/-! ### onSec -/

@[simp] theorem onSec_clk (f : SecSt → SecSt) (s : State) : (onSec f s).clk = s.clk := rfl
@[simp] theorem onSec_ft (f : SecSt → SecSt) (s : State) : (onSec f s).ft = s.ft := rfl
@[simp] theorem onSec_regs (f : SecSt → SecSt) (s : State) : (onSec f s).regs = s.regs := rfl
@[simp] theorem onSec_hi (f : SecSt → SecSt) (s : State) : (onSec f s).hi = s.hi := rfl
@[simp] theorem onSec_freeCtr (f : SecSt → SecSt) (s : State) : (onSec f s).freeCtr = s.freeCtr := rfl
@[simp] theorem onSec_pending (f : SecSt → SecSt) (s : State) : (onSec f s).pending = s.pending := rfl
@[simp] theorem onSec_sent (f : SecSt → SecSt) (s : State) : (onSec f s).sent = s.sent := rfl
@[simp] theorem onSec_evr (f : SecSt → SecSt) (s : State) : (onSec f s).evr = s.evr := rfl
@[simp] theorem onSec_mon (f : SecSt → SecSt) (s : State) : (onSec f s).mon = s.mon := rfl
@[simp] theorem onSec_time (f : SecSt → SecSt) (s : State) : (onSec f s).time = s.time := rfl
@[simp] theorem onSec_comp (f : SecSt → SecSt) (s : State) : (onSec f s).comp = s.comp := rfl
@[simp] theorem onSec_onzA (f : SecSt → SecSt) (s : State) : (onSec f s).onzA = s.onzA := rfl
@[simp] theorem onSec_onzB (f : SecSt → SecSt) (s : State) : (onSec f s).onzB = s.onzB := rfl
@[simp] theorem onSec_que (f : SecSt → SecSt) (s : State) : (onSec f s).que = s.que := rfl
@[simp] theorem onSec_seq (f : SecSt → SecSt) (s : State) : (onSec f s).seq = s.seq := rfl
@[simp] theorem onSec_owl (f : SecSt → SecSt) (s : State) : (onSec f s).owl = s.owl := rfl
@[simp] theorem onSec_fox (f : SecSt → SecSt) (s : State) : (onSec f s).fox = s.fox := rfl
@[simp] theorem onSec_dep (f : SecSt → SecSt) (s : State) : (onSec f s).dep = s.dep := rfl
@[simp] theorem onSec_park (f : SecSt → SecSt) (s : State) : (onSec f s).park = s.park := rfl
@[simp] theorem onSec_prt (f : SecSt → SecSt) (s : State) : (onSec f s).prt = s.prt := rfl
@[simp] theorem onSec_trf (f : SecSt → SecSt) (s : State) : (onSec f s).trf = s.trf := rfl
@[simp] theorem onSec_mem (f : SecSt → SecSt) (s : State) : (onSec f s).mem = s.mem := rfl
@[simp] theorem onSec_sec (f : SecSt → SecSt) (s : State) : (onSec f s).sec = f s.sec := rfl
@[simp] theorem onSec_ras (f : SecSt → SecSt) (s : State) : (onSec f s).ras = s.ras := rfl
@[simp] theorem onSec_start (f : SecSt → SecSt) (s : State) : (onSec f s).start = s.start := rfl
@[simp] theorem onSec_pkg (f : SecSt → SecSt) (s : State) : (onSec f s).pkg = s.pkg := rfl

/-! ### onRas -/

@[simp] theorem onRas_clk (f : RasSt → RasSt) (s : State) : (onRas f s).clk = s.clk := rfl
@[simp] theorem onRas_ft (f : RasSt → RasSt) (s : State) : (onRas f s).ft = s.ft := rfl
@[simp] theorem onRas_regs (f : RasSt → RasSt) (s : State) : (onRas f s).regs = s.regs := rfl
@[simp] theorem onRas_hi (f : RasSt → RasSt) (s : State) : (onRas f s).hi = s.hi := rfl
@[simp] theorem onRas_freeCtr (f : RasSt → RasSt) (s : State) : (onRas f s).freeCtr = s.freeCtr := rfl
@[simp] theorem onRas_pending (f : RasSt → RasSt) (s : State) : (onRas f s).pending = s.pending := rfl
@[simp] theorem onRas_sent (f : RasSt → RasSt) (s : State) : (onRas f s).sent = s.sent := rfl
@[simp] theorem onRas_evr (f : RasSt → RasSt) (s : State) : (onRas f s).evr = s.evr := rfl
@[simp] theorem onRas_mon (f : RasSt → RasSt) (s : State) : (onRas f s).mon = s.mon := rfl
@[simp] theorem onRas_time (f : RasSt → RasSt) (s : State) : (onRas f s).time = s.time := rfl
@[simp] theorem onRas_comp (f : RasSt → RasSt) (s : State) : (onRas f s).comp = s.comp := rfl
@[simp] theorem onRas_onzA (f : RasSt → RasSt) (s : State) : (onRas f s).onzA = s.onzA := rfl
@[simp] theorem onRas_onzB (f : RasSt → RasSt) (s : State) : (onRas f s).onzB = s.onzB := rfl
@[simp] theorem onRas_que (f : RasSt → RasSt) (s : State) : (onRas f s).que = s.que := rfl
@[simp] theorem onRas_seq (f : RasSt → RasSt) (s : State) : (onRas f s).seq = s.seq := rfl
@[simp] theorem onRas_owl (f : RasSt → RasSt) (s : State) : (onRas f s).owl = s.owl := rfl
@[simp] theorem onRas_fox (f : RasSt → RasSt) (s : State) : (onRas f s).fox = s.fox := rfl
@[simp] theorem onRas_dep (f : RasSt → RasSt) (s : State) : (onRas f s).dep = s.dep := rfl
@[simp] theorem onRas_park (f : RasSt → RasSt) (s : State) : (onRas f s).park = s.park := rfl
@[simp] theorem onRas_prt (f : RasSt → RasSt) (s : State) : (onRas f s).prt = s.prt := rfl
@[simp] theorem onRas_trf (f : RasSt → RasSt) (s : State) : (onRas f s).trf = s.trf := rfl
@[simp] theorem onRas_mem (f : RasSt → RasSt) (s : State) : (onRas f s).mem = s.mem := rfl
@[simp] theorem onRas_sec (f : RasSt → RasSt) (s : State) : (onRas f s).sec = s.sec := rfl
@[simp] theorem onRas_ras (f : RasSt → RasSt) (s : State) : (onRas f s).ras = f s.ras := rfl
@[simp] theorem onRas_start (f : RasSt → RasSt) (s : State) : (onRas f s).start = s.start := rfl
@[simp] theorem onRas_pkg (f : RasSt → RasSt) (s : State) : (onRas f s).pkg = s.pkg := rfl

/-! ### onStart -/

@[simp] theorem onStart_clk (f : StartSt → StartSt) (s : State) : (onStart f s).clk = s.clk := rfl
@[simp] theorem onStart_ft (f : StartSt → StartSt) (s : State) : (onStart f s).ft = s.ft := rfl
@[simp] theorem onStart_regs (f : StartSt → StartSt) (s : State) : (onStart f s).regs = s.regs := rfl
@[simp] theorem onStart_hi (f : StartSt → StartSt) (s : State) : (onStart f s).hi = s.hi := rfl
@[simp] theorem onStart_freeCtr (f : StartSt → StartSt) (s : State) : (onStart f s).freeCtr = s.freeCtr := rfl
@[simp] theorem onStart_pending (f : StartSt → StartSt) (s : State) : (onStart f s).pending = s.pending := rfl
@[simp] theorem onStart_sent (f : StartSt → StartSt) (s : State) : (onStart f s).sent = s.sent := rfl
@[simp] theorem onStart_evr (f : StartSt → StartSt) (s : State) : (onStart f s).evr = s.evr := rfl
@[simp] theorem onStart_mon (f : StartSt → StartSt) (s : State) : (onStart f s).mon = s.mon := rfl
@[simp] theorem onStart_time (f : StartSt → StartSt) (s : State) : (onStart f s).time = s.time := rfl
@[simp] theorem onStart_comp (f : StartSt → StartSt) (s : State) : (onStart f s).comp = s.comp := rfl
@[simp] theorem onStart_onzA (f : StartSt → StartSt) (s : State) : (onStart f s).onzA = s.onzA := rfl
@[simp] theorem onStart_onzB (f : StartSt → StartSt) (s : State) : (onStart f s).onzB = s.onzB := rfl
@[simp] theorem onStart_que (f : StartSt → StartSt) (s : State) : (onStart f s).que = s.que := rfl
@[simp] theorem onStart_seq (f : StartSt → StartSt) (s : State) : (onStart f s).seq = s.seq := rfl
@[simp] theorem onStart_owl (f : StartSt → StartSt) (s : State) : (onStart f s).owl = s.owl := rfl
@[simp] theorem onStart_fox (f : StartSt → StartSt) (s : State) : (onStart f s).fox = s.fox := rfl
@[simp] theorem onStart_dep (f : StartSt → StartSt) (s : State) : (onStart f s).dep = s.dep := rfl
@[simp] theorem onStart_park (f : StartSt → StartSt) (s : State) : (onStart f s).park = s.park := rfl
@[simp] theorem onStart_prt (f : StartSt → StartSt) (s : State) : (onStart f s).prt = s.prt := rfl
@[simp] theorem onStart_trf (f : StartSt → StartSt) (s : State) : (onStart f s).trf = s.trf := rfl
@[simp] theorem onStart_mem (f : StartSt → StartSt) (s : State) : (onStart f s).mem = s.mem := rfl
@[simp] theorem onStart_sec (f : StartSt → StartSt) (s : State) : (onStart f s).sec = s.sec := rfl
@[simp] theorem onStart_ras (f : StartSt → StartSt) (s : State) : (onStart f s).ras = s.ras := rfl
@[simp] theorem onStart_start (f : StartSt → StartSt) (s : State) : (onStart f s).start = f s.start := rfl
@[simp] theorem onStart_pkg (f : StartSt → StartSt) (s : State) : (onStart f s).pkg = s.pkg := rfl

/-! ### onPkg -/

@[simp] theorem onPkg_clk (f : PkgSt → PkgSt) (s : State) : (onPkg f s).clk = s.clk := rfl
@[simp] theorem onPkg_ft (f : PkgSt → PkgSt) (s : State) : (onPkg f s).ft = s.ft := rfl
@[simp] theorem onPkg_regs (f : PkgSt → PkgSt) (s : State) : (onPkg f s).regs = s.regs := rfl
@[simp] theorem onPkg_hi (f : PkgSt → PkgSt) (s : State) : (onPkg f s).hi = s.hi := rfl
@[simp] theorem onPkg_freeCtr (f : PkgSt → PkgSt) (s : State) : (onPkg f s).freeCtr = s.freeCtr := rfl
@[simp] theorem onPkg_pending (f : PkgSt → PkgSt) (s : State) : (onPkg f s).pending = s.pending := rfl
@[simp] theorem onPkg_sent (f : PkgSt → PkgSt) (s : State) : (onPkg f s).sent = s.sent := rfl
@[simp] theorem onPkg_evr (f : PkgSt → PkgSt) (s : State) : (onPkg f s).evr = s.evr := rfl
@[simp] theorem onPkg_mon (f : PkgSt → PkgSt) (s : State) : (onPkg f s).mon = s.mon := rfl
@[simp] theorem onPkg_time (f : PkgSt → PkgSt) (s : State) : (onPkg f s).time = s.time := rfl
@[simp] theorem onPkg_comp (f : PkgSt → PkgSt) (s : State) : (onPkg f s).comp = s.comp := rfl
@[simp] theorem onPkg_onzA (f : PkgSt → PkgSt) (s : State) : (onPkg f s).onzA = s.onzA := rfl
@[simp] theorem onPkg_onzB (f : PkgSt → PkgSt) (s : State) : (onPkg f s).onzB = s.onzB := rfl
@[simp] theorem onPkg_que (f : PkgSt → PkgSt) (s : State) : (onPkg f s).que = s.que := rfl
@[simp] theorem onPkg_seq (f : PkgSt → PkgSt) (s : State) : (onPkg f s).seq = s.seq := rfl
@[simp] theorem onPkg_owl (f : PkgSt → PkgSt) (s : State) : (onPkg f s).owl = s.owl := rfl
@[simp] theorem onPkg_fox (f : PkgSt → PkgSt) (s : State) : (onPkg f s).fox = s.fox := rfl
@[simp] theorem onPkg_dep (f : PkgSt → PkgSt) (s : State) : (onPkg f s).dep = s.dep := rfl
@[simp] theorem onPkg_park (f : PkgSt → PkgSt) (s : State) : (onPkg f s).park = s.park := rfl
@[simp] theorem onPkg_prt (f : PkgSt → PkgSt) (s : State) : (onPkg f s).prt = s.prt := rfl
@[simp] theorem onPkg_trf (f : PkgSt → PkgSt) (s : State) : (onPkg f s).trf = s.trf := rfl
@[simp] theorem onPkg_mem (f : PkgSt → PkgSt) (s : State) : (onPkg f s).mem = s.mem := rfl
@[simp] theorem onPkg_sec (f : PkgSt → PkgSt) (s : State) : (onPkg f s).sec = s.sec := rfl
@[simp] theorem onPkg_ras (f : PkgSt → PkgSt) (s : State) : (onPkg f s).ras = s.ras := rfl
@[simp] theorem onPkg_start (f : PkgSt → PkgSt) (s : State) : (onPkg f s).start = s.start := rfl
@[simp] theorem onPkg_pkg (f : PkgSt → PkgSt) (s : State) : (onPkg f s).pkg = f s.pkg := rfl

/-! ### setRg -/

@[simp] theorem setRg_clk (n : RN) (i v : Nat) (s : State) : (setRg n i v s).clk = s.clk := rfl
@[simp] theorem setRg_ft (n : RN) (i v : Nat) (s : State) : (setRg n i v s).ft = s.ft := rfl
@[simp] theorem setRg_regs (n : RN) (i v : Nat) (s : State) : (setRg n i v s).regs = put (n, i) (v % 2 ^ RN.width n) s.regs := rfl
@[simp] theorem setRg_hi (n : RN) (i v : Nat) (s : State) : (setRg n i v s).hi = s.hi := rfl
@[simp] theorem setRg_freeCtr (n : RN) (i v : Nat) (s : State) : (setRg n i v s).freeCtr = s.freeCtr := rfl
@[simp] theorem setRg_pending (n : RN) (i v : Nat) (s : State) : (setRg n i v s).pending = s.pending := rfl
@[simp] theorem setRg_sent (n : RN) (i v : Nat) (s : State) : (setRg n i v s).sent = s.sent := rfl
@[simp] theorem setRg_evr (n : RN) (i v : Nat) (s : State) : (setRg n i v s).evr = s.evr := rfl
@[simp] theorem setRg_mon (n : RN) (i v : Nat) (s : State) : (setRg n i v s).mon = s.mon := rfl
@[simp] theorem setRg_time (n : RN) (i v : Nat) (s : State) : (setRg n i v s).time = s.time := rfl
@[simp] theorem setRg_comp (n : RN) (i v : Nat) (s : State) : (setRg n i v s).comp = s.comp := rfl
@[simp] theorem setRg_onzA (n : RN) (i v : Nat) (s : State) : (setRg n i v s).onzA = s.onzA := rfl
@[simp] theorem setRg_onzB (n : RN) (i v : Nat) (s : State) : (setRg n i v s).onzB = s.onzB := rfl
@[simp] theorem setRg_que (n : RN) (i v : Nat) (s : State) : (setRg n i v s).que = s.que := rfl
@[simp] theorem setRg_seq (n : RN) (i v : Nat) (s : State) : (setRg n i v s).seq = s.seq := rfl
@[simp] theorem setRg_owl (n : RN) (i v : Nat) (s : State) : (setRg n i v s).owl = s.owl := rfl
@[simp] theorem setRg_fox (n : RN) (i v : Nat) (s : State) : (setRg n i v s).fox = s.fox := rfl
@[simp] theorem setRg_dep (n : RN) (i v : Nat) (s : State) : (setRg n i v s).dep = s.dep := rfl
@[simp] theorem setRg_park (n : RN) (i v : Nat) (s : State) : (setRg n i v s).park = s.park := rfl
@[simp] theorem setRg_prt (n : RN) (i v : Nat) (s : State) : (setRg n i v s).prt = s.prt := rfl
@[simp] theorem setRg_trf (n : RN) (i v : Nat) (s : State) : (setRg n i v s).trf = s.trf := rfl
@[simp] theorem setRg_mem (n : RN) (i v : Nat) (s : State) : (setRg n i v s).mem = s.mem := rfl
@[simp] theorem setRg_sec (n : RN) (i v : Nat) (s : State) : (setRg n i v s).sec = s.sec := rfl
@[simp] theorem setRg_ras (n : RN) (i v : Nat) (s : State) : (setRg n i v s).ras = s.ras := rfl
@[simp] theorem setRg_start (n : RN) (i v : Nat) (s : State) : (setRg n i v s).start = s.start := rfl
@[simp] theorem setRg_pkg (n : RN) (i v : Nat) (s : State) : (setRg n i v s).pkg = s.pkg := rfl

/-! ### emit -/

@[simp] theorem emit_clk (x : Sent) (s : State) : (emit x s).clk = s.clk := rfl
@[simp] theorem emit_ft (x : Sent) (s : State) : (emit x s).ft = s.ft := rfl
@[simp] theorem emit_regs (x : Sent) (s : State) : (emit x s).regs = s.regs := rfl
@[simp] theorem emit_hi (x : Sent) (s : State) : (emit x s).hi = s.hi := rfl
@[simp] theorem emit_freeCtr (x : Sent) (s : State) : (emit x s).freeCtr = s.freeCtr := rfl
@[simp] theorem emit_pending (x : Sent) (s : State) : (emit x s).pending = s.pending := rfl
@[simp] theorem emit_sent (x : Sent) (s : State) : (emit x s).sent = x :: s.sent := rfl
@[simp] theorem emit_evr (x : Sent) (s : State) : (emit x s).evr = s.evr := rfl
@[simp] theorem emit_mon (x : Sent) (s : State) : (emit x s).mon = s.mon := rfl
@[simp] theorem emit_time (x : Sent) (s : State) : (emit x s).time = s.time := rfl
@[simp] theorem emit_comp (x : Sent) (s : State) : (emit x s).comp = s.comp := rfl
@[simp] theorem emit_onzA (x : Sent) (s : State) : (emit x s).onzA = s.onzA := rfl
@[simp] theorem emit_onzB (x : Sent) (s : State) : (emit x s).onzB = s.onzB := rfl
@[simp] theorem emit_que (x : Sent) (s : State) : (emit x s).que = s.que := rfl
@[simp] theorem emit_seq (x : Sent) (s : State) : (emit x s).seq = s.seq := rfl
@[simp] theorem emit_owl (x : Sent) (s : State) : (emit x s).owl = s.owl := rfl
@[simp] theorem emit_fox (x : Sent) (s : State) : (emit x s).fox = s.fox := rfl
@[simp] theorem emit_dep (x : Sent) (s : State) : (emit x s).dep = s.dep := rfl
@[simp] theorem emit_park (x : Sent) (s : State) : (emit x s).park = s.park := rfl
@[simp] theorem emit_prt (x : Sent) (s : State) : (emit x s).prt = s.prt := rfl
@[simp] theorem emit_trf (x : Sent) (s : State) : (emit x s).trf = s.trf := rfl
@[simp] theorem emit_mem (x : Sent) (s : State) : (emit x s).mem = s.mem := rfl
@[simp] theorem emit_sec (x : Sent) (s : State) : (emit x s).sec = s.sec := rfl
@[simp] theorem emit_ras (x : Sent) (s : State) : (emit x s).ras = s.ras := rfl
@[simp] theorem emit_start (x : Sent) (s : State) : (emit x s).start = s.start := rfl
@[simp] theorem emit_pkg (x : Sent) (s : State) : (emit x s).pkg = s.pkg := rfl

/-! ### freeTaken -/

@[simp] theorem freeTaken_clk  (s : State) : (freeTaken s).clk = s.clk := rfl
@[simp] theorem freeTaken_ft  (s : State) : (freeTaken s).ft = s.ft := rfl
@[simp] theorem freeTaken_regs  (s : State) : (freeTaken s).regs = s.regs := rfl
@[simp] theorem freeTaken_hi  (s : State) : (freeTaken s).hi = s.hi := rfl
@[simp] theorem freeTaken_freeCtr  (s : State) : (freeTaken s).freeCtr = s.freeCtr + 1 := rfl
@[simp] theorem freeTaken_pending  (s : State) : (freeTaken s).pending = s.pending := rfl
@[simp] theorem freeTaken_sent  (s : State) : (freeTaken s).sent = s.sent := rfl
@[simp] theorem freeTaken_evr  (s : State) : (freeTaken s).evr = s.evr := rfl
@[simp] theorem freeTaken_mon  (s : State) : (freeTaken s).mon = s.mon := rfl
@[simp] theorem freeTaken_time  (s : State) : (freeTaken s).time = s.time := rfl
@[simp] theorem freeTaken_comp  (s : State) : (freeTaken s).comp = s.comp := rfl
@[simp] theorem freeTaken_onzA  (s : State) : (freeTaken s).onzA = s.onzA := rfl
@[simp] theorem freeTaken_onzB  (s : State) : (freeTaken s).onzB = s.onzB := rfl
@[simp] theorem freeTaken_que  (s : State) : (freeTaken s).que = s.que := rfl
@[simp] theorem freeTaken_seq  (s : State) : (freeTaken s).seq = s.seq := rfl
@[simp] theorem freeTaken_owl  (s : State) : (freeTaken s).owl = s.owl := rfl
@[simp] theorem freeTaken_fox  (s : State) : (freeTaken s).fox = s.fox := rfl
@[simp] theorem freeTaken_dep  (s : State) : (freeTaken s).dep = s.dep := rfl
@[simp] theorem freeTaken_park  (s : State) : (freeTaken s).park = s.park := rfl
@[simp] theorem freeTaken_prt  (s : State) : (freeTaken s).prt = s.prt := rfl
@[simp] theorem freeTaken_trf  (s : State) : (freeTaken s).trf = s.trf := rfl
@[simp] theorem freeTaken_mem  (s : State) : (freeTaken s).mem = s.mem := rfl
@[simp] theorem freeTaken_sec  (s : State) : (freeTaken s).sec = s.sec := rfl
@[simp] theorem freeTaken_ras  (s : State) : (freeTaken s).ras = s.ras := rfl
@[simp] theorem freeTaken_start  (s : State) : (freeTaken s).start = s.start := rfl
@[simp] theorem freeTaken_pkg  (s : State) : (freeTaken s).pkg = s.pkg := rfl

/-! ### withPending -/

@[simp] theorem withPending_clk (q : List Instr) (s : State) : (s.withPending q).clk = s.clk := rfl
@[simp] theorem withPending_ft (q : List Instr) (s : State) : (s.withPending q).ft = s.ft := rfl
@[simp] theorem withPending_regs (q : List Instr) (s : State) : (s.withPending q).regs = s.regs := rfl
@[simp] theorem withPending_hi (q : List Instr) (s : State) : (s.withPending q).hi = s.hi := rfl
@[simp] theorem withPending_freeCtr (q : List Instr) (s : State) : (s.withPending q).freeCtr = s.freeCtr := rfl
@[simp] theorem withPending_pending (q : List Instr) (s : State) : (s.withPending q).pending = q := rfl
@[simp] theorem withPending_sent (q : List Instr) (s : State) : (s.withPending q).sent = s.sent := rfl
@[simp] theorem withPending_evr (q : List Instr) (s : State) : (s.withPending q).evr = s.evr := rfl
@[simp] theorem withPending_mon (q : List Instr) (s : State) : (s.withPending q).mon = s.mon := rfl
@[simp] theorem withPending_time (q : List Instr) (s : State) : (s.withPending q).time = s.time := rfl
@[simp] theorem withPending_comp (q : List Instr) (s : State) : (s.withPending q).comp = s.comp := rfl
@[simp] theorem withPending_onzA (q : List Instr) (s : State) : (s.withPending q).onzA = s.onzA := rfl
@[simp] theorem withPending_onzB (q : List Instr) (s : State) : (s.withPending q).onzB = s.onzB := rfl
@[simp] theorem withPending_que (q : List Instr) (s : State) : (s.withPending q).que = s.que := rfl
@[simp] theorem withPending_seq (q : List Instr) (s : State) : (s.withPending q).seq = s.seq := rfl
@[simp] theorem withPending_owl (q : List Instr) (s : State) : (s.withPending q).owl = s.owl := rfl
@[simp] theorem withPending_fox (q : List Instr) (s : State) : (s.withPending q).fox = s.fox := rfl
@[simp] theorem withPending_dep (q : List Instr) (s : State) : (s.withPending q).dep = s.dep := rfl
@[simp] theorem withPending_park (q : List Instr) (s : State) : (s.withPending q).park = s.park := rfl
@[simp] theorem withPending_prt (q : List Instr) (s : State) : (s.withPending q).prt = s.prt := rfl
@[simp] theorem withPending_trf (q : List Instr) (s : State) : (s.withPending q).trf = s.trf := rfl
@[simp] theorem withPending_mem (q : List Instr) (s : State) : (s.withPending q).mem = s.mem := rfl
@[simp] theorem withPending_sec (q : List Instr) (s : State) : (s.withPending q).sec = s.sec := rfl
@[simp] theorem withPending_ras (q : List Instr) (s : State) : (s.withPending q).ras = s.ras := rfl
@[simp] theorem withPending_start (q : List Instr) (s : State) : (s.withPending q).start = s.start := rfl
@[simp] theorem withPending_pkg (q : List Instr) (s : State) : (s.withPending q).pkg = s.pkg := rfl

/-! ### setOnz: the port it names -/

@[simp] theorem setOnz_clk (p : Nat) (k : OnzSt) (s : State) : (setOnz p k s).clk = s.clk := by
  unfold setOnz; split <;> rfl
@[simp] theorem setOnz_ft (p : Nat) (k : OnzSt) (s : State) : (setOnz p k s).ft = s.ft := by
  unfold setOnz; split <;> rfl
@[simp] theorem setOnz_regs (p : Nat) (k : OnzSt) (s : State) : (setOnz p k s).regs = s.regs := by
  unfold setOnz; split <;> rfl
@[simp] theorem setOnz_hi (p : Nat) (k : OnzSt) (s : State) : (setOnz p k s).hi = s.hi := by
  unfold setOnz; split <;> rfl
@[simp] theorem setOnz_freeCtr (p : Nat) (k : OnzSt) (s : State) : (setOnz p k s).freeCtr = s.freeCtr := by
  unfold setOnz; split <;> rfl
@[simp] theorem setOnz_pending (p : Nat) (k : OnzSt) (s : State) : (setOnz p k s).pending = s.pending := by
  unfold setOnz; split <;> rfl
@[simp] theorem setOnz_sent (p : Nat) (k : OnzSt) (s : State) : (setOnz p k s).sent = s.sent := by
  unfold setOnz; split <;> rfl
@[simp] theorem setOnz_evr (p : Nat) (k : OnzSt) (s : State) : (setOnz p k s).evr = s.evr := by
  unfold setOnz; split <;> rfl
@[simp] theorem setOnz_mon (p : Nat) (k : OnzSt) (s : State) : (setOnz p k s).mon = s.mon := by
  unfold setOnz; split <;> rfl
@[simp] theorem setOnz_time (p : Nat) (k : OnzSt) (s : State) : (setOnz p k s).time = s.time := by
  unfold setOnz; split <;> rfl
@[simp] theorem setOnz_comp (p : Nat) (k : OnzSt) (s : State) : (setOnz p k s).comp = s.comp := by
  unfold setOnz; split <;> rfl
@[simp] theorem setOnz_que (p : Nat) (k : OnzSt) (s : State) : (setOnz p k s).que = s.que := by
  unfold setOnz; split <;> rfl
@[simp] theorem setOnz_seq (p : Nat) (k : OnzSt) (s : State) : (setOnz p k s).seq = s.seq := by
  unfold setOnz; split <;> rfl
@[simp] theorem setOnz_owl (p : Nat) (k : OnzSt) (s : State) : (setOnz p k s).owl = s.owl := by
  unfold setOnz; split <;> rfl
@[simp] theorem setOnz_fox (p : Nat) (k : OnzSt) (s : State) : (setOnz p k s).fox = s.fox := by
  unfold setOnz; split <;> rfl
@[simp] theorem setOnz_dep (p : Nat) (k : OnzSt) (s : State) : (setOnz p k s).dep = s.dep := by
  unfold setOnz; split <;> rfl
@[simp] theorem setOnz_park (p : Nat) (k : OnzSt) (s : State) : (setOnz p k s).park = s.park := by
  unfold setOnz; split <;> rfl
@[simp] theorem setOnz_prt (p : Nat) (k : OnzSt) (s : State) : (setOnz p k s).prt = s.prt := by
  unfold setOnz; split <;> rfl
@[simp] theorem setOnz_trf (p : Nat) (k : OnzSt) (s : State) : (setOnz p k s).trf = s.trf := by
  unfold setOnz; split <;> rfl
@[simp] theorem setOnz_mem (p : Nat) (k : OnzSt) (s : State) : (setOnz p k s).mem = s.mem := by
  unfold setOnz; split <;> rfl
@[simp] theorem setOnz_sec (p : Nat) (k : OnzSt) (s : State) : (setOnz p k s).sec = s.sec := by
  unfold setOnz; split <;> rfl
@[simp] theorem setOnz_ras (p : Nat) (k : OnzSt) (s : State) : (setOnz p k s).ras = s.ras := by
  unfold setOnz; split <;> rfl
@[simp] theorem setOnz_start (p : Nat) (k : OnzSt) (s : State) : (setOnz p k s).start = s.start := by
  unfold setOnz; split <;> rfl
@[simp] theorem setOnz_pkg (p : Nat) (k : OnzSt) (s : State) : (setOnz p k s).pkg = s.pkg := by
  unfold setOnz; split <;> rfl

@[simp] theorem setOnz_onz_self (p : Nat) (k : OnzSt) (s : State) : (setOnz p k s).onz p = k := by
  unfold setOnz State.onz; split <;> rfl

/-! ### done, live, powered, access -/

@[simp] theorem live_of_live (f : State → State) (s : State) (h : s.live = true) : live f s = f s := by
  simp [live, h]

@[simp] theorem powered_of_powered (f : State → State) (s : State) (h : s.powered = true) : powered f s = f s := by
  simp [powered, h]

@[simp] theorem access_of_reaches (p off : Nat) (f : State → State) (s : State) (hw : s.powered = true)
    (hp : s.portUp p = true) (ha : s.answers off = true) : access p off f s = f s := by
  simp [access, hw, hp, ha]

/-- A change of state that a condition guards does all of the change or nothing. -/
theorem live_cases (f : State → State) (s : State) : live f s = f s ∨ live f s = s := by
  unfold live; split <;> simp

theorem powered_cases (f : State → State) (s : State) : powered f s = f s ∨ powered f s = s := by
  unfold powered; split <;> simp

theorem access_cases (p off : Nat) (f : State → State) (s : State) : access p off f s = f s ∨ access p off f s = s := by
  unfold access; split <;> simp

end Sys2Proof.Machine
end

