-- ==== Sys2Proof/Tests/Slice0.lean ====
section
/-! SUPPORT. Tests: what the checks of WellFormed refuse, one step of a few commands with the result that the spec gives, and
for every statement that has premises the concrete states and operands that meet those of each of its clauses. -/

namespace Sys2Proof.Tests

open Sys2Proof Sys2Proof.Machine

set_option Elab.async false

/-! ### Small states -/

/-- Carriage 0 of the test map: an isolated-free, plain carriage with two groups, two tiles, three banks and slots 0 to 2. -/
def car0 (flags slots : Nat) : List Byte :=
  leBytes 1 0 ++ leBytes 1 flags ++ zeros 2 ++ leBytes 4 slots ++ leBytes 8 0x100000001 ++ leBytes 8 0x100000001 ++
  leBytes 2 0x0F ++ zeros 2 ++ leBytes 4 100 ++ leBytes 4 4

/-- A map with one carriage: drain window 10 us, pages of 16 KiB, banks 0 PREFIX, 1 CLASSIFY, 2 AUTOMATA, every Fox block
and queues 0 to 7 of port A, grid 2^9, owner code 1 everywhere, one grant of every block to both ports. -/
def imOf (flags slots : Nat) : Image :=
  { raw := [], epoch := 0
    sects := [(1, leBytes 2 10 ++ zeros 62 ++ car0 flags slots), (2, zeros 16), (3, [1, 5, 2, 9] ++ zeros 28), (4, zeros 32),
      (5, leBytes 2 0 ++ leBytes 2 8), (13, [9]), (14, [0, 1, 1, 1, 1]), (15, leBytes 2 0xFFFF ++ [3, 0] ++ leBytes 2 10 ++ zeros 2)] }

def im0 : Image := imOf 1 7

/-- A node whose start-up has ended, with both ports UP and the test map in force. -/
def up : State :=
  { State.reset with
    onzA := { OnzSt.init with link := .up }
    onzB := { OnzSt.init with link := .up }
    comp := { CompSt.init with image := some im0 }
    start := { StartSt.init with done := [1, 2, 3, 4, 6, 7, 8, 9, 11] } }

/-- The same at a node count and fabric time. -/
def at_ (clk ft : Nat) (s : State) : State := { s with clk := clk, ft := ft }

/-- Semaphore `n` held by port `p`. -/
def sem (n p : Nat) (s : State) : State := onQue (fun x => { x with sems := put n { owner := p, lease := none } x.sems }) s

/-- Started command `k`. -/
def run (k : Nat) (c : Cmd) (s : State) : State := onQue (fun x => { x with started := put k c x.started }) s

/-- A command of an engine and opcode on a sequence, with operand bytes from byte 12 on. -/
def cmdB (engine opcode seq : Nat) (rest : List Byte) : List Byte :=
  padTo 64 (leBytes 1 opcode ++ leBytes 1 engine ++ zeros 6 ++ leBytes 4 seq ++ rest)

/-- A started command of queue 0 in its first phase. -/
def cmd (b : List Byte) : Cmd :=
  { q := 0, bytes := b, parent := none, order := 0, held := false, old := false, phase := 0, buf := [], want := 0, bad := none,
    note := [] }

/-- An option that holds a value holds the one it gives. -/
theorem some_getD {α : Type} (d : α) : ∀ o : Option α, o.isSome = true → o = some (o.getD d)
  | some _, _ => rfl

/-- Bytes cut or filled to a length have it. -/
theorem padTo_length (n : Nat) (d : List Byte) : (padTo n d).length = n := by
  simp only [padTo, zeros, List.length_append, List.length_take, List.length_replicate]
  omega

/-- A digest has 64 bytes. -/
theorem digest_length (d : List Byte) : (digestOf d).length = 64 := padTo_length 64 _

/-- The time state. -/
def tt (v : Nat) (s : State) : State := setRg .TT_STATUS_STATE 0 v s

/-- Link `l` in a state. -/
def lnk (l : Nat) (x : Link) (s : State) : State := onPrt (fun p => { p with links := put l x p.links }) s

def linkUp : Link := { Link.init with st := .up, started := true }

/-! ### A sequence with one page -/

/-- A plain page in frame 0 of group 0 that holds 4 positions of a BF16 sequence. -/
def pg : Page :=
  { summary := [], digest := [], hash := 0, radius := 0, scale := 0, refs := 1, loc := .hbm 0 0, fill := 4, tableId := 0,
    keySlot := 255, car := 0, latent := false, elem := 5, pexp := 8, foxRow := none, sealed_ := false, prot := false,
    comp := false, indexed := false, moving := false, cls := 0, stored := 0, age := 0, sealAt := 0 }

/-- A layer with one ordinal, whose leaf entry is page 3. -/
def layer0 : Layer := { root := 0, depth := 1, home := 0, ordinals := 1, split := 0, leaves := [(0, { page := 3, view := 4 })], blocks := [] }

/-- A sequence of carriage 0 with one layer, one KV head and elements of 16 BF16 numbers. -/
def sq : Seqd :=
  { car := 0, st := 1, latent := false, elem := 5, pexp := 8, elems := 16, kv := 1, flags := 0, layers := 1, nodeset := 0,
    stride := 0, mclass := 0, sinks := 0, comp := 0, tail := 0, parent := 0, forkPos := 0xFFFFFFFF, freeze := 0xFFFFFFFF,
    layerTable := 0, buddy := 0, cold := 0, lastAppend := 0, descBlock := 0, recs := [(0, layer0)] }

/-- Sequence 7 is `q` and page 3 is `g`, in a state. -/
def paged (q : Seqd) (g : Page) (s : State) : State :=
  onSeq (fun x => { x with seqs := [(7, q)], pages := [(3, g)], sets := [(0, { car := 0, nodes := [0] })] }) s

/-- A started command in a later phase, with the host data it has. -/
def cmdAt (phase : Nat) (b buf : List Byte) : Cmd := { cmd b with phase := phase, buf := buf }

/-- A coach of carriage 0 on sequence 7 with one vector, its window open until FT 100. -/
def coach0 : Coach :=
  { car := 0, seq := 7, layer := 0, epoch := 0, depart := 0, deadline := 100, tag := 1, group := 0, reply := 0, vectors := 1,
    params := zeros 16 ++ leBytes 4 4 ++ zeros 12, ranges := zeros 32, query := [], vecs := zeros 64, descs := zeros 16,
    order := 0, size := 1, whole := true, cmd := none, old := false, tree := [], own := [0, 32], open_ := true, cutoff := 100, weights := none,
    scored := [], lost := [], passes := 0, cands := none, reports := [], walked := [], tailWaited := false, gather := false, toRead := [],
    ahead := [], stream := [], absorbed := none, tiles := [], halves := [], result := none, failed := none }

/-- Coach 0 held in a state. -/
def coached (c : Coach) (s : State) : State := onFox (fun f => { f with coaches := [(0, c)], nextCoach := 1 }) (paged sq pg s)

/-- A complete one-packet message of a type to this node. -/
def msg0 (ty : Nat) (payload : List Byte) : RxEntry :=
  { hdr := leBytes 1 ty ++ zeros 103, car := 0, count := 1, got := [0], parts := [(0, payload)], since := 0, mem := 0,
    complete := true, held := false, coach := none, headAt := 0, seen := { cur := some 0, old := [], armed := none }, lead := 0 }

/-- A message that waits under source 5 and operation 6. -/
def rxed (e : RxEntry) (s : State) : State := onPrt (fun p => { p with rx := [((5, 6), e)] }) s

/-- An answer received from node 5 for operation 6. -/
def answered (e : RxEntry) (s : State) : State := onPrt (fun p => { p with rx := [(answerKey 5 6, e)] }) s

/-- The header of a remote memory packet for page 3, carriage 0 and epoch 0. -/
def rmaH (ty rkind rflags rgen msgLen : Nat) : List Byte :=
  leBytes 1 ty ++ zeros 15 ++ leBytes 4 msgLen ++ zeros 4 ++ leBytes 1 rkind ++ leBytes 1 rflags ++ leBytes 2 rgen ++
  leBytes 4 3 ++ zeros 72

/-- A receive entry with such a header. -/
def rmaE (h : List Byte) (parts : List (Nat × List Byte)) : RxEntry := { msg0 0 [] with hdr := h, parts := parts }

/-! ### What WellFormed refuses -/

theorem test_wf_refuses_write : Instr.wf (.registerWrite .a 0x1000000 0) = false := by decide
theorem test_wf_refuses_read_clear : Instr.wf (.readClear .a 0x1000000) = false := by decide
theorem test_wf_refuses_latched_read : Instr.wf (.latchedRead .b 0x1000000) = false := by decide
theorem test_wf_refuses_expert_access : Instr.wf (.expertWindowAccess .b 0x1000000 none) = false := by decide
theorem test_wf_accepts_last_offset : Instr.wf (.registerWrite .a 0xFFFFFC 0) = true := by decide

/-- Whether a command stops at a state. -/
def stops (c : Instr) (s : State) : Bool :=
  match exec c s with
  | .fault _ => true
  | _ => false

/-- A register access outside the control space stops nothing, as one inside it does not (R29). -/
theorem test_no_access_stops :
    stops (.registerWrite .a 0x1000000 0) up = false ∧ stops (.readClear .a 0x1000000) up = false ∧
    stops (.latchedRead .a 0x1000000) up = false ∧ stops (.expertWindowAccess .a 0x1000000 none) up = false ∧
    stops (.registerWrite .a 0xFFFFFC 0) up = false := by decide +kernel

/-- No row of the table gives bits. -/
theorem test_no_word_spells_a_command (nbits w : Nat) : decodeTableWord nbits w = none := rfl

/-! ### Values from the spec's worked examples -/

/-- The state that a step answers. -/
def after (c : Instr) (s : State) : State :=
  match exec c s with
  | .next t => t
  | _ => s

/-- Node 0x12B is rack 2, sled 5, node 3 (worked example of 17_startup_shutdown.md). -/
theorem test_straps_name_the_node :
    (let t := after (.resetRelease 0x12B) State.reset
     (t.rg .GLB_NODE_ADDR_RACK 0, t.rg .GLB_NODE_ADDR_SLED 0, t.rg .GLB_NODE_ADDR_NODE 0)) = (2, 5, 3) := by decide +kernel

/-- The node-level slot of node 0x12B lies 55,574,528 ns after the anchor (same example). -/
theorem test_node_slot_offset : slotAt (after (.resetRelease 0x12B) State.reset) 0 1 = 55574528 := by decide +kernel

/-- A delay of 296.500 ns is reported as 1,186 and an offset of 6.750 ns as 27 (worked example after R92). -/
theorem test_time_transfer_units : (reportUnits true (2 * 256 * 296 + 256), reportUnits true (2 * 256 * 6 + 384)) = (1186, 27) := by decide

/-- At 20,000 MB/s and REFILL_EXP 11 a tick adds 40,960 bytes (Table TRF-1). -/
theorem test_shaper_tick : tickTokens 20000 11 = 40960 * 1024 := by decide

/-- Position 9,000,000 of layer 37, of ordinal 70,312, is local ordinal 137 on set[205] of 512 nodes (worked example before R174). -/
theorem test_ordinal_placement :
    localOf (onSeq (fun x => { x with sets := [(0, { car := 0, nodes := (List.range 512).map (fun i => (i + 307) % 512) })] }) up)
      { car := 0, st := 1, latent := false, elem := 1, pexp := 7, elems := 128, kv := 1, flags := 0, layers := 61, nodeset := 0,
        stride := 1, mclass := 0, sinks := 0, comp := 0, tail := 0, parent := 0, forkPos := 0, freeze := 0, layerTable := 0,
        buddy := 0, cold := 0, lastAppend := 0, descBlock := 0, recs := [] } 37 70312 = some 137 := by decide +kernel

/-- 95.25 C records WARN and 100.125 C drives THERM_ALERT_N low (Table MON-4). -/
theorem test_thermal_alert :
    (((after (.monitorSample [(3, 762)] [] []) up).evr.ring.map (fun r => r.code)).headD 0,
     (after (.monitorSample [(3, 762)] [] []) up).pkg.thermAlert, (after (.monitorSample [(3, 801)] [] []) up).pkg.thermAlert) =
    (0x0D02, false, true) := by decide +kernel

/-- An edge missing at a boundary puts a LOCKED node in HOLDOVER with event 0x0102, 64 ns after it (Table TT-5). -/
theorem test_missing_edge_is_holdover :
    (let t := after .ftSyncMissing (at_ 0 (2 * frameNs + 64) (onTime (fun x => { x with judged := 1 }) (tt 2 up)))
     (t.tt, t.evr.ring.any (fun r => r.code == 0x0102))) = (3, true) := by decide +kernel

/-- 63 ns after the boundary it is not missing yet (R80). -/
theorem test_edge_still_awaited :
    (after .ftSyncMissing (at_ 0 (2 * frameNs + 63) (onTime (fun x => { x with judged := 1 }) (tt 2 up)))).tt = 2 := by decide +kernel

/-- A mu of 7, -3.5 and 0: SCALE 1, SUMMARY 7, -4 (a tie to even) and 0; a mu of 1 takes 1/7 rounded up, one of 0 takes
2^-126 (R234). -/
theorem test_seal_scale : (sealScale [0x40E00000, 0xC0600000, 0], sealSummary [0x40E00000, 0xC0600000, 0] 0x3F80,
    sealScale [0x3F800000], sealScale [0, 0x80000000]) = (0x3F80, [7, -4, 0], 0x3E13, 0x0080) := by decide +kernel

/-- A distance of 1 times 1 + 2^-16 rounds up to the next BF16 number, and SUMMARY packs low bits first (R163, R234). -/
theorem test_seal_radius : (sealRadius 0x3F800000, (packSummary [7, -4]).take 2) = (0x3F81, [0xC7, 0]) := by decide +kernel

/-- A firmware image with a well-formed header that its signer's key bears out passes every check (R494). -/
def fw0 : List Byte := leBytes 4 0x4D524946 ++ zeros 4 ++ leBytes 4 256 ++ zeros 244 ++ zeros 7232

/-- The checks of a firmware image read the fuses and nothing else of the state. -/
theorem fwCheck_passes (s : State) (b : List Byte) (hh : fwHeaderOk b = true)
    (h : signedUnder (padTo 64 s.sec.fuses.fwSigner) b = true) (hr : ¬ (fwRollback b < s.sec.fuses.rollback)) : fwCheck s b = 0 := by
  simp [fwCheck, hh, h, hr]

/-- A node whose loader holds `fw0`, all of it loaded. -/
def loader0 : Loader := { port := 0, kind := 1, phase := 1, len := 64, bytes := fw0, got := 64, bad := false }
def loading0 (s : State) : State := onSec (fun x => { x with loader := some loader0 }) s
theorem loading0_fuses (s : State) : (loading0 s).sec.fuses = s.sec.fuses := rfl

theorem test_signed_firmware_passes (h : signedUnder (padTo 64 up.sec.fuses.fwSigner) fw0 = true) :
    ∃ (l : Loader) (s : State), s.live = true ∧ s.sec.loader = some l ∧ l.phase = 1 ∧ l.bad = false ∧ l.len ≤ l.got ∧
      objCheck s l.kind l.bytes = 0 := by
  have hh : fwHeaderOk fw0 = true := by decide +kernel
  have hr : ¬ (fwRollback fw0 < up.sec.fuses.rollback) := by decide +kernel
  have hc : fwCheck (loading0 up) fw0 = 0 :=
    fwCheck_passes (loading0 up) fw0 hh (by rw [loading0_fuses]; exact h) (by rw [loading0_fuses]; exact hr)
  have ho : ∀ (s : State) (b : List Byte), objCheck s 1 b = fwCheck s b := fun s b => by simp [objCheck]
  exact ⟨loader0, loading0 up, rfl, rfl, rfl, rfl, Nat.le_refl _, (ho _ fw0).trans hc⟩

/-! ### The statements about every sound state -/

/-- The node after reset with one command in its queue. -/
def queued (c : Instr) : State := { State.reset with pending := [c] }

/-- The premises of Obligations.StepKeepsSound are met. -/
theorem witness_StepKeepsSound : ∃ s t : State, s.Sound ∧ step s = .next t :=
  ⟨queued (.resetRelease 0x12B), _, reset_sound, rfl⟩

/-- The premises of Obligations.ExecLeavesTheQueue are met. -/
theorem witness_ExecLeavesTheQueue : ∃ (c : Instr) (s t : State), s.Sound ∧ exec c s = .next t :=
  ⟨.resetRelease 0x12B, queued .powerFail, _, reset_sound, rfl⟩

/-- The premises of Obligations.StorelessCommandsKeepMemory are met. -/
theorem witness_StorelessCommandsKeepMemory : ∃ (c : Instr) (s t : State), s.Sound ∧ mayStore c = false ∧ exec c s = .next t :=
  ⟨.powerFail, State.reset, _, reset_sound, rfl, rfl⟩

/-- The premises of Obligations.MemoryWritesOnlyItsSpan are met. -/
theorem witness_MemoryWritesOnlyItsSpan : ∃ s : State, s.Sound := ⟨State.reset, reset_sound⟩

namespace W00b

/-- Every clause of Obligations.EmptyQueueTicks has states and operands that meet its premises. -/
theorem witness_EmptyQueueTicks :
    (∃ (s : State), s.pending = []) ∧
    (∃ (s : State), s.powered = false) ∧
    (∃ (s : State), s.powered = true) :=
  ⟨⟨up, by decide +kernel⟩,
   ⟨(onStart (fun x => { x with inReset := true }) up), by decide +kernel⟩,
   ⟨up, by decide +kernel⟩⟩

end W00b

namespace W01a

/-- Every clause of Obligations.LatchedReadLatchesTheHighWord has states and operands that meet its premises. -/
theorem witness_LatchedReadLatchesTheHighWord :
    (∃ (p : Port) (off : Nat) (s : State), offsetOk off = true ∧ Reaches p off s ∧ inExpert off = false ∧ isLow off = true ∧
      look (p.idx, off) s.hi = none) ∧
    (∃ (p : Port) (off : Nat) (v : Nat) (s : State), offsetOk off = true ∧ Reaches p off s ∧ inExpert off = false ∧
      semAt off = none ∧ look (p.idx, off) s.hi = some v) :=
  ⟨⟨.a, 0x200008, up, by unfold Reaches; decide +kernel⟩,
   ⟨.a, 0x20000C, 7, ({ up with hi := [((0, 0x20000C), 7)] }), by unfold Reaches; decide +kernel⟩⟩

end W01a

namespace W01b

def readRC : State := { up with sent := [.value 0 0xB00084 0] }

/-- Every clause of Obligations.ReadClearReturnsAndClears has states and operands that meet its premises. -/
theorem witness_ReadClearReturnsAndClears :
    (∃ (p : Port) (off : Nat) (r : Reg) (e : Nat) (s : State) (f : _), offsetOk off = true ∧ Reaches p off s ∧
      windowUsable p.idx off s = true ∧ semAt off = none ∧ look (p.idx, off) s.hi = none ∧ regAt off = some (r, e) ∧
      f ∈ r.fields ∧ f.acc = .rc) ∧
    (∃ (p : Port) (q : Port) (off : Nat) (r : Reg) (e : Nat) (s : State) (t : State), offsetOk off = true ∧ Reaches p off s ∧
      Reaches q off t ∧ windowUsable p.idx off s = true ∧ windowUsable q.idx off t = true ∧ semAt off = none ∧ look (q.idx,
      off) t.hi = none ∧ regAt off = some (r, e) ∧ exec (.readClear p off) s = .next t) :=
  ⟨⟨.a, 0xB00084, (⟨0xB00084, [], .port, false, [⟨7, 0, .ro, .SEC_SESSION_RESULT_STATUS, 0⟩, ⟨8, 8, .rc,
     .SEC_SESSION_RESULT_DONE, 0⟩]⟩), 0, up, (⟨8, 8, .rc, .SEC_SESSION_RESULT_DONE, 0⟩), by unfold Reaches; decide +kernel⟩,
   ⟨.a, .b, 0xB00084, (⟨0xB00084, [], .port, false, [⟨7, 0, .ro, .SEC_SESSION_RESULT_STATUS, 0⟩, ⟨8, 8, .rc,
     .SEC_SESSION_RESULT_DONE, 0⟩]⟩), 0, up, (readAccess 0 0xB00084 up),
     by unfold Reaches; first | decide +kernel | ((repeat' apply And.intro) <;> first | decide +kernel | rfl)⟩⟩

end W01b

namespace W01c

/-- Every clause of Obligations.LockedExpertWindowIsSilent has states and operands that meet its premises. -/
theorem witness_LockedExpertWindowIsSilent :
    (∃ (p : Port) (off : Nat) (s : State), offsetOk off = true ∧ Reaches p off s ∧ inExpert off = true ∧
      s.expertOpen p.idx (off / 1048576) = false) ∧
    (∃ (p : Port) (off : Nat) (s : State), offsetOk off = true ∧ Reaches p off s ∧ inExpert off = true ∧
      s.expertOpen p.idx (off / 1048576) = false) ∧
    (∃ (p : Port) (off : Nat) (s : State), offsetOk off = true ∧ Reaches p off s ∧ inExpert off = true ∧
      s.expertOpen p.idx (off / 1048576) = true ∧ semAt off = none ∧ look (p.idx, off) s.hi = none) :=
  ⟨⟨.a, 0x280000, up, by unfold Reaches; decide +kernel⟩,
   ⟨.a, 0x280000, up, by unfold Reaches; decide +kernel⟩,
   ⟨.a, 0x280000, (setRg .CMP_EXPERT_UNLOCK_BLOCKS 0 4 up), by unfold Reaches; decide +kernel⟩⟩

end W01c

namespace W01d

/-- Every clause of Obligations.UndefinedOffsetsAreSilent has states and operands that meet its premises. -/
theorem witness_UndefinedOffsetsAreSilent :
    (∃ (p : Port) (off : Nat) (s : State), offsetOk off = true ∧ Reaches p off s ∧ inExpert off = false ∧ regAt off = none ∧
      look (p.idx, off) s.hi = none) ∧
    (∃ (p : Port) (off : Nat) (s : State), offsetOk off = true ∧ Reaches p off s ∧ inExpert off = false ∧ regAt off = none) ∧
    (∃ (off : Nat), offsetOk off = false) :=
  ⟨⟨.a, 0x27FFFC, up, by unfold Reaches; decide +kernel⟩,
   ⟨.a, 0x27FFFC, up, by unfold Reaches; decide +kernel⟩,
   ⟨16777216, by decide +kernel⟩⟩

end W01d

namespace W01e

/-- Every clause of Obligations.RegisterWriteSetsItsFields has states and operands that meet its premises. -/
theorem witness_RegisterWriteSetsItsFields :
    (∃ (p : Port) (off : Nat) (v : Word) (r : Reg) (e : Nat) (s : State), offsetOk off = true ∧ Reaches p off s ∧
      windowUsable p.idx off s = true ∧ regAt off = some (r, e) ∧ writeBarred p.idx off s = none ∧
      ownWrite p.idx e off v.toNat = none ∧ r.actions = []) ∧
    (∃ (f : Fld), (enableBits.find? (fun b => b.2.2 == f.cell) = none) ∧
      f.cell ∉ foxMacroTrims ++ foxColumnTrims ++ [.FOX_M_HOLD_FORCE_OUT, .PRT_Ln_CTRL_DISABLE, .BIST_SHUT_CTRL_TEST] ∧
      f.acc = .rw) ∧
    (∃ (f : Fld), (enableBits.find? (fun b => b.2.2 == f.cell) = none) ∧
      f.cell ∉ foxMacroTrims ++ foxColumnTrims ++ [.FOX_M_HOLD_FORCE_OUT, .PRT_Ln_CTRL_DISABLE, .BIST_SHUT_CTRL_TEST] ∧
      f.acc = .w1c) ∧
    (∃ (f : Fld), (enableBits.find? (fun b => b.2.2 == f.cell) = none) ∧
      f.cell ∉ foxMacroTrims ++ foxColumnTrims ++ [.FOX_M_HOLD_FORCE_OUT, .PRT_Ln_CTRL_DISABLE, .BIST_SHUT_CTRL_TEST] ∧
      f.acc = .w1s) ∧
    (∃ (f : Fld), (enableBits.find? (fun b => b.2.2 == f.cell) = none) ∧
      f.cell ∉ foxMacroTrims ++ foxColumnTrims ++ [.FOX_M_HOLD_FORCE_OUT, .PRT_Ln_CTRL_DISABLE, .BIST_SHUT_CTRL_TEST] ∧
      (f.acc = .ro ∨ f.acc = .rc ∨ f.acc = .wo)) ∧
    (∃ (r : Reg) (f : Fld), r.bank = .plain ∧ f.acc = .rw ∧ (enableBits.find? (fun b => b.2.2 == f.cell) = none) ∧
      f.cell ∉ foxMacroTrims ++ foxColumnTrims ++ [.FOX_M_HOLD_FORCE_OUT, .PRT_Ln_CTRL_DISABLE, .BIST_SHUT_CTRL_TEST]) :=
  ⟨⟨.a, 0x200004, 0, (⟨0x200004, [], .plain, false, [⟨3, 0, .ro, .CMP_STATUS_STATE, 0⟩, ⟨4, 4, .ro, .CMP_STATUS_COMMIT_BUSY,
     0⟩, ⟨15, 8, .ro, .CMP_STATUS_CHECK, 0⟩, ⟨31, 16, .ro, .CMP_STATUS_TAG, 0⟩]⟩), 0, up, by unfold Reaches; decide +kernel⟩,
   ⟨(⟨31, 0, .rw, .CMP_SRC_ADDR_LO_ADDR_LO, 0⟩), by decide +kernel⟩,
   ⟨(⟨3, 3, .w1c, .TT_STATUS_FAULT_SEEN, 0⟩), by decide +kernel⟩,
   ⟨(⟨3, 3, .w1s, .TT_STATUS_FAULT_SEEN, 0⟩), by decide +kernel⟩,
   ⟨(⟨3, 0, .ro, .CMP_STATUS_STATE, 0⟩), by decide +kernel⟩,
   ⟨(⟨0x20000C, [], .plain, false, [⟨31, 0, .rw, .CMP_SRC_ADDR_HI_ADDR_HI, 0⟩]⟩), (⟨31, 0, .rw, .CMP_SRC_ADDR_HI_ADDR_HI, 0⟩),
     by decide +kernel⟩⟩

end W01e

namespace W01f

/-- Every clause of Obligations.WritesWithoutTheSemaphoreAreIgnored has states and operands that meet its premises. -/
theorem witness_WritesWithoutTheSemaphoreAreIgnored :
    (∃ (p : Port) (k : Fin 6) (s : State), Reaches p (0x200008 + 4 * k.val) s ∧ s.holdsSem p.idx 0 = false) ∧
    (∃ (p : Port) (s : State), Reaches p 0x200074 s ∧ s.holdsSem p.idx 4 = false) ∧
    (∃ (p : Port) (s : State), s.live = true ∧ Reaches p 0x200074 s ∧ s.holdsSem p.idx 4 = false) :=
  ⟨⟨.a, 5, up, by unfold Reaches; decide +kernel⟩,
   ⟨.a, up, by unfold Reaches; decide +kernel⟩,
   ⟨.a, up, by unfold Reaches; decide +kernel⟩⟩

end W01f

namespace W01g

def leased (since clk : Nat) : State := at_ clk clk (onQue (fun x => { x with sems := [(63, { owner := 0, lease := some since })] }) up)

/-- Every clause of Obligations.SemaphoresAreTakenAndFreed has states and operands that meet its premises. -/
theorem witness_SemaphoresAreTakenAndFreed :
    (∃ (p : Port) (n : Fin 64) (s : State), Reaches p (semOffset n.val) s ∧ semReserved n.val = true) ∧
    (∃ (p : Port) (n : Fin 64) (s : State), Reaches p (semOffset n.val) s ∧ semReserved n.val = false ∧
      look n.val s.que.sems = none) ∧
    (∃ (p : Port) (n : Fin 64) (s : State) (x : _), Reaches p (semOffset n.val) s ∧ semReserved n.val = false ∧
      look n.val s.que.sems = some x) ∧
    (∃ (p : Port) (n : Fin 64) (s : State), Reaches p 0x200 s ∧ s.holdsSem p.idx n.val = true ∧ (n.val ≠ 4)) ∧
    (∃ (p : Port) (n : Fin 64) (s : State), Reaches p 0x200 s ∧ s.holdsSem p.idx n.val = false) ∧
    (∃ (n : Fin 64) (x : Sem) (since : Nat) (s : State), s.live = true ∧ look n.val s.que.sems = some x ∧
      x.lease = some since ∧ since + 100000000 ≤ s.clk ∧ (n.val ≠ 4)) ∧
    (∃ (n : Fin 64) (x : Sem) (s : State), s.live = true ∧ look n.val s.que.sems = some x ∧ ((x.lease = none ∨ ∃ since,
      x.lease = some since ∧ s.clk < since + 100000000))) :=
  ⟨⟨.a, 8, up, by unfold Reaches; decide +kernel⟩,
   ⟨.a, 63, up, by unfold Reaches; decide +kernel⟩,
   ⟨.a, 63, (sem 63 1 up), ({ owner := 1, lease := none }), by unfold Reaches; decide +kernel⟩,
   ⟨.a, 63, (sem 63 0 up), by unfold Reaches; decide +kernel⟩,
   ⟨.a, 63, (sem 63 1 up), by unfold Reaches; decide +kernel⟩,
   ⟨63, ({ owner := 0, lease := some 5 }), 5, (leased 5 100000005), by decide +kernel⟩,
   ⟨63, ({ owner := 0, lease := none }), (sem 63 0 up), by decide +kernel⟩⟩

end W01g

namespace W02a

def cmpAt (v : Nat) : State := setCmp v (sem 0 0 up)

/-- Every clause of Obligations.CompositionIsStagedAndCommitted has states and operands that meet its premises. The clause about an image that passes its checks has no concrete witness: the signature check is not interpreted (log entry 5). -/
theorem witness_CompositionIsStagedAndCommitted :
    (∃ (p : Port) (s : State), s.live = true ∧ Reaches p 0x200000 s ∧ s.holdsSem p.idx 0 = true ∧ stageRefused s.cmp = false) ∧
    (∃ (p : Port) (s : State), s.live = true ∧ Reaches p 0x200000 s ∧
      (s.holdsSem p.idx 0 = false ∨ stageRefused s.cmp = true)) ∧
    (∃ (p : Nat) (len : Nat) (got : Nat) (s : State), s.live = true ∧ s.comp.fetch = some (p, len, got) ∧
      imageWaits (s.onz p) = false) ∧
    (∃ (s : State) (check : _) (tag : _), s.live = true ∧ s.cmp = 2 ∧
      validate s s.comp.staging s.comp.staging.length s.comp.image.isSome = .error (check, tag)) ∧
    (∃ (s : State), s.live = true ∧ s.cmp = 5) ∧
    (∃ (p : Port) (s : State), s.live = true ∧ Reaches p 0x200000 s ∧ s.holdsSem p.idx 0 = true ∧ (s.comp.image ≠ none) ∧
      (s.rg .CMP_STATUS_COMMIT_BUSY 0 ≠ 1)) ∧
    (∃ (ok : Bool) (b : List Byte) (s : State), s.live = true ∧ s.comp.commit = some b ∧ ok = true) ∧
    (∃ (ok : Bool) (b : List Byte) (s : State), s.live = true ∧ s.comp.commit = some b ∧ ok = false) :=
  ⟨⟨.a, (cmpAt 0), by unfold Reaches; decide +kernel⟩,
   ⟨.a, up, by unfold Reaches; decide +kernel⟩,
   ⟨0, 256, 256, (onComp (fun c => { c with fetch := some (0, 256, 256) }) up), by decide +kernel⟩,
   ⟨(cmpAt 2), 2, 0, by decide +kernel⟩,
   ⟨(cmpAt 5), by decide +kernel⟩,
   ⟨.a, (cmpAt 0), by unfold Reaches; decide +kernel⟩,
   ⟨true, [1], (onComp (fun c => { c with commit := some [1] }) up), by decide +kernel⟩,
   ⟨false, [1], (onComp (fun c => { c with commit := some [1] }) up), by decide +kernel⟩⟩

end W02a

namespace W02b

def unlocked (clk : Nat) : State := at_ clk clk (onComp (fun c => { c with unlocks := [(0, (5, 10))] }) up)

/-- Every clause of Obligations.ExpertUnlocksAreGrantedAndEnd has states and operands that meet its premises. -/
theorem witness_ExpertUnlocksAreGrantedAndEnd :
    (∃ (p : Port) (b : BitVec 16) (maxS : Nat) (s : State), s.live = true ∧ Reaches p 0x200074 s ∧ s.holdsSem p.idx 4 = true ∧
      (b.toNat ≠ 0) ∧ s.im.grantFor p.idx b.toNat = some maxS ∧ unlockPermitted s b.toNat = true) ∧
    (∃ (p : Port) (b : BitVec 16) (s : State), s.live = true ∧ Reaches p 0x200074 s ∧ s.holdsSem p.idx 4 = true ∧
      (b.toNat ≠ 0) ∧ s.im.grantFor p.idx b.toNat = none) ∧
    (∃ (p : Port) (since : Nat) (maxS : Nat) (s : State), s.live = true ∧ look p.idx s.comp.unlocks = some (since, maxS) ∧
      since + maxS * 1000000000 ≤ s.clk) ∧
    (∃ (p : Port) (since : Nat) (maxS : Nat) (s : State), s.live = true ∧ look p.idx s.comp.unlocks = some (since, maxS) ∧
      s.clk < since + maxS * 1000000000) :=
  ⟨⟨.a, 0xFFFF, 10, (sem 4 0 up), by unfold Reaches; decide +kernel⟩,
   ⟨.a, 4, (sem 4 0 { up with comp := CompSt.init }), by unfold Reaches; decide +kernel⟩,
   ⟨.a, 5, 10, (unlocked 10000000005), by decide +kernel⟩,
   ⟨.a, 5, 10, (unlocked 10000000004), by decide +kernel⟩⟩

end W02b

namespace W02c

def arming (cur : Option Image) (ft : Nat) : State :=
  setRg .TT_STATUS_STATE 0 2 (setRg .CMP_SWITCH_FT_LO_FT_LO 0 ft (setCmp 3 (sem 0 0 (onComp (fun c => { c with image := cur, staged := some im0 }) up))))
def armed (ft now : Nat) : State :=
  at_ now now (setCmp 5 (sem 0 0 (onComp (fun c => { c with entry := some 7 }) (setEvt 7 { ft := ft, kind := 1, car := 0, per := 0, st := 1, arg := 0 } up))))
def holding (now : Nat) : State := at_ now now (setRg .TT_STATUS_STATE 0 3 up)
theorem evt_free (s : State) (h : s.time.evts = []) : (evtFree s 1 0).isSome = true := by
  simp [evtFree, evtRange, pickBelow, firstBelow, evtPending, State.evt, h, look]
  rfl

theorem changed_self (a : Image) : changed a a = [] := by
  simp [changed]
theorem arming_check : check16 (arming (some im0) 100352) im0 = true := by
  unfold check16
  rw [evt_free _ rfl, show (arming (some im0) 100352).im = im0 from rfl, changed_self]
  decide

/-- Every clause of Obligations.SwitchIsArmedAndCancelled has states and operands that meet its premises. -/
theorem witness_SwitchIsArmedAndCancelled :
    (∃ (p : Port) (im : Image) (s : State), s.live = true ∧ Reaches p 0x200000 s ∧ s.holdsSem p.idx 0 = true ∧ s.cmp = 3 ∧
      s.comp.staged = some im ∧ s.comp.image = none) ∧
    (∃ (p : Port) (im : Image) (cur : Image) (i : Nat) (s : State), s.live = true ∧ Reaches p 0x200000 s ∧
      s.holdsSem p.idx 0 = true ∧ s.cmp = 3 ∧ s.comp.staged = some im ∧ s.comp.image = some cur ∧ check16 s im = true ∧
      evtFree s 1 0 = some i) ∧
    (∃ (p : Port) (im : Image) (cur : Image) (s : State), s.live = true ∧ Reaches p 0x200000 s ∧ s.holdsSem p.idx 0 = true ∧
      s.cmp = 3 ∧ s.comp.staged = some im ∧ s.comp.image = some cur ∧ check16 s im = false) ∧
    (∃ (p : Port) (s : State), s.live = true ∧ Reaches p 0x200000 s ∧ s.holdsSem p.idx 0 = false) ∧
    (∃ (p : Port) (at_ : Nat) (s : State), s.live = true ∧ Reaches p 0x200000 s ∧ s.holdsSem p.idx 0 = true ∧ s.cmp = 5 ∧
      s.armedFt = some at_ ∧ s.ft < at_) ∧
    (∃ (p : Port) (s : State), s.live = true ∧ Reaches p 0x200000 s ∧ s.holdsSem p.idx 0 = true ∧ s.cmp = 5 ∧
      (s.armedFt.all (fun at_ => decide (at_ ≤ s.ft)) = true)) ∧
    (∃ (s : State), s.live = true ∧ s.tt = 3 ∧ s.time.holdFrom + 10000000 ≤ s.ft) ∧
    (∃ (s : State), s.live = true ∧ ((s.tt ≠ 3 ∨ s.ft < s.time.holdFrom + 10000000))) :=
  ⟨⟨.a, im0, (arming none 0), by unfold Reaches; decide +kernel⟩,
   ⟨.a, im0, im0, (evtFree (arming (some im0) 100352) 1 0).getD 0, (arming (some im0) 100352), by decide,
     by unfold Reaches; decide, by decide, by decide, rfl, rfl, arming_check, some_getD _ _ (evt_free _ rfl)⟩,
   ⟨.a, im0, im0, (arming (some im0) 100353), by unfold Reaches; decide +kernel⟩,
   ⟨.a, up, by unfold Reaches; decide +kernel⟩,
   ⟨.a, 512, (armed 512 511), by unfold Reaches; decide +kernel⟩,
   ⟨.a, (armed 512 512), by unfold Reaches; decide +kernel⟩,
   ⟨(holding 10000000), by decide +kernel⟩,
   ⟨(holding 9999999), by decide +kernel⟩⟩

end W02c

namespace W02d

def boundary : State :=
  at_ 512 512 (onComp (fun c => { c with entry := some 7, staged := some im0 }) (setEvt 7 { ft := 512, kind := 1, car := 0, per := 0, st := 1, arg := 0 } up))
def switching (st : Nat) (moved : List (Res × MovePhase)) (now : Nat) : State :=
  at_ now now (setCmp st (onComp (fun c => { c with moved := moved }) up))

/-- Every clause of Obligations.SwitchRunsItsSteps has states and operands that meet its premises. -/
theorem witness_SwitchRunsItsSteps :
    (∃ (i : Nat) (e : Evt) (b : Image) (s : State), s.live = true ∧ s.comp.entry = some i ∧ s.comp.staged = some b ∧
      s.evt i = some e ∧ evtFires s i 1 = true) ∧
    (∃ (s : State), s.live = true ∧ s.cmp = 6 ∧ s.comp.boundary + s.im.drainUs * 1000 ≤ s.ft) ∧
    (∃ (s : State), s.cmp = 7 ∧ ((s.comp.moved.all (fun m => m.2 == .handed)) = true)) ∧
    (∃ (r : Res) (s : State), s.live = true ∧ s.cmp = 7 ∧ look r s.comp.moved = some .waiting ∧ oldWork s r = false) ∧
    (∃ (r : Res) (since : Nat) (s : State), s.live = true ∧ look r s.comp.moved = some (.clearing since) ∧
      since + clearTime r ≤ s.ft) ∧
    (∃ (r : Res) (since : Nat) (s : State), s.live = true ∧ look r s.comp.moved = some (.clearing since) ∧
      s.ft < since + clearTime r) ∧
    (∃ (s : State), s.live = true ∧ s.cmp = 7 ∧ s.comp.drainEnd + 400000 ≤ s.ft) ∧
    (∃ (s : State), s.live = true ∧ ((s.cmp ≠ 7 ∨ s.ft < s.comp.drainEnd + 400000))) :=
  ⟨⟨7, ({ ft := 512, kind := 1, car := 0, per := 0, st := 1, arg := 0 }), im0, boundary, by decide +kernel⟩,
   ⟨(switching 6 [] 10000), by decide +kernel⟩,
   ⟨(switching 7 [(.tile 0, .handed)] 0), by decide +kernel⟩,
   ⟨(.tile 0), (switching 7 [(.tile 0, .waiting)] 0), by decide +kernel⟩,
   ⟨(.tile 0), 0, (switching 7 [(.tile 0, .clearing 0)] 4400), by decide +kernel⟩,
   ⟨(.tile 0), 0, (switching 7 [(.tile 0, .clearing 0)] 4399), by decide +kernel⟩,
   ⟨(switching 7 [] 400000), by decide +kernel⟩,
   ⟨(switching 7 [] 399999), by decide +kernel⟩⟩

end W02d

namespace W03a

def goodWord : BitVec 128 := BitVec.ofNat 128 (0x5A * 2 ^ 120 + crc32 (natBits 96 (0x5A * 2 ^ 88)))

/-- Every clause of Obligations.TimebaseReferenceAndWords has states and operands that meet its premises. -/
theorem witness_TimebaseReferenceAndWords :
    (∃ (s : State), s.live = true) ∧
    (∃ (s : State), s.live = true ∧ (s.rg .TT_STATUS_REF_OK 0 ≠ 0) ∧ s.tt = 2) ∧
    (∃ (s : State), s.live = true ∧ (s.rg .TT_STATUS_REF_OK 0 ≠ 0) ∧ (s.tt ≠ 2)) ∧
    (∃ (w : BitVec 128) (s : State), s.live = true ∧ wordValid w = true ∧ (s.tt ≠ 0) ∧
      (expects s = false ∨ disagrees s (wordNext w) = false)) ∧
    (∃ (w : BitVec 128) (s : State), s.live = true ∧ wordValid w = false ∧ (s.tt = 2 ∧ 1 ≤ s.time.badRun)) ∧
    (∃ (w : BitVec 128) (s : State), s.live = true ∧ wordValid w = false ∧ (¬ (s.tt = 2 ∧ 1 ≤ s.time.badRun))) :=
  ⟨⟨up, by decide +kernel⟩,
   ⟨(tt 2 (setRg .TT_STATUS_REF_OK 0 1 up)), by decide +kernel⟩,
   ⟨(tt 3 (setRg .TT_STATUS_REF_OK 0 1 up)), by decide +kernel⟩,
   ⟨goodWord, (tt 1 up), by decide +kernel⟩,
   ⟨(goodWord + 1#128), (tt 2 (onTime (fun t => { t with badRun := 1 }) up)), by decide +kernel⟩,
   ⟨(goodWord + 1#128), (tt 2 up), by decide +kernel⟩⟩

end W03a

namespace W03b

def acquiring (loaded : Bool) (confirm : Nat) : State :=
  at_ 1048576 1048576 (tt 1 (onTime (fun t => { t with loaded := loaded, confirm := confirm, word := some { next := 1048576, began := 0, ended := 5120 } }) up))

/-- Every clause of Obligations.SyncEdgesAreJudged has states and operands that meet its premises. -/
theorem witness_SyncEdgesAreJudged :
    (∃ (frac : BitVec 8) (s : State), s.live = true ∧ s.tt = 2 ∧ -16384 ≤ edgeErr s frac.toNat ∧ edgeErr s frac.toNat ≤ 16384) ∧
    (∃ (frac : BitVec 8) (s : State), s.live = true ∧ s.tt = 2 ∧
      ((edgeErr s frac.toNat < -16384 ∨ 16384 < edgeErr s frac.toNat))) ∧
    (∃ (w : CodeWord) (s : State), s.live = true ∧ s.tt = 1 ∧ s.time.loaded = false ∧ s.time.word = some w) ∧
    (∃ (frac : BitVec 8) (s : State), s.live = true ∧ s.tt = 1 ∧ s.time.loaded = true ∧ s.time.confirm = 1 ∧
      -16384 ≤ edgeErr s frac.toNat ∧ edgeErr s frac.toNat ≤ 16384 ∧ wordNames s (edgeFrame s frac.toNat) = true) ∧
    (∃ (frac : BitVec 8) (s : State), s.live = true ∧ s.tt = 3 ∧ s.rg .TT_STATUS_REF_OK 0 = 1 ∧
      -16384 ≤ edgeErr s frac.toNat ∧ edgeErr s frac.toNat ≤ 16384 ∧ wordNames s (edgeFrame s frac.toNat) = true) ∧
    (∃ (w : CodeWord) (s : State), s.live = true ∧ s.tt = 4 ∧ s.time.word = some w ∧ w.ended + 10000 ≤ s.clk ∧
      s.clk < w.began + frameNs ∧ s.rg .TT_STATUS_REF_OK 0 = 1) ∧
    (∃ (s : State), s.live = true ∧ s.tt = 2 ∧ s.time.judged < tbTime s / frameNs ∧
      tbTime s / frameNs * frameNs + 64 ≤ tbTime s) :=
  ⟨⟨0, (at_ 0 64 (tt 2 up)), by decide +kernel⟩,
   ⟨1, (at_ 0 64 (tt 2 up)), by decide +kernel⟩,
   ⟨({ next := 1048576, began := 0, ended := 5120 }), (acquiring false 0), by decide +kernel⟩,
   ⟨0, (acquiring true 1), by decide +kernel⟩,
   ⟨0, (setRg .TT_STATUS_REF_OK 0 1 (tt 3 (acquiring true 0))), by decide +kernel⟩,
   ⟨({ next := 1048576, began := 0, ended := 5120 }),
     (at_ 15120 1048576 (setRg .TT_STATUS_REF_OK 0 1 (tt 4 (acquiring true 0)))), by decide +kernel⟩,
   ⟨(at_ 0 1048640 (tt 2 up)), by decide +kernel⟩⟩

end W03b

namespace W03c

def xferring (ft : Nat) : State := at_ 0 ft (tt 2 (setRg .TT_CTRL_XFER_EN 0 1 (lnk 7 linkUp up)))
def following (off : Nat) : State := setRg .TT_STEER_MODE 0 2 (setRg .TT_LINK_OFFSET_VALID 0 1 (setRg .TT_LINK_OFFSET_OFFSET 0 off (tt 2 up)))

/-- Every clause of Obligations.SteeringAndTimeTransfer has states and operands that meet its premises. -/
theorem witness_SteeringAndTimeTransfer :
    (∃ (s : State), s.live = true ∧ s.time.steerAt < s.frame) ∧
    (∃ (s : State), s.tt = 2 ∧ s.rg .TT_STEER_MODE 0 = 2 ∧ s.rg .TT_LINK_OFFSET_VALID (s.rg .TT_STEER_LINK 0) = 1 ∧
      (let off := signed 24 (s.rg .TT_LINK_OFFSET_OFFSET (s.rg .TT_STEER_LINK 0)); 0 < off)) ∧
    (∃ (s : State), s.tt = 2 ∧ s.rg .TT_STEER_MODE 0 = 2 ∧ s.rg .TT_LINK_OFFSET_VALID (s.rg .TT_STEER_LINK 0) = 1 ∧
      (let off := signed 24 (s.rg .TT_LINK_OFFSET_OFFSET (s.rg .TT_STEER_LINK 0)); off < 0)) ∧
    (∃ (s : State), s.tt = 2 ∧ s.rg .TT_STEER_MODE 0 = 2 ∧ s.rg .TT_LINK_OFFSET_VALID (s.rg .TT_STEER_LINK 0) = 1 ∧
      (let off := signed 24 (s.rg .TT_LINK_OFFSET_OFFSET (s.rg .TT_STEER_LINK 0)); off = 0)) ∧
    (∃ (s : State), s.live = true ∧ s.time.limited = false ∧ 100000000000000 ≤ s.time.acc.natAbs) ∧
    (∃ (l : Fin 8) (s : State), s.live = true ∧ (s.link l.val).st = .up ∧ (s.tt ≠ 0) ∧ s.rg .TT_CTRL_XFER_EN 0 = 1 ∧
      (s.linkTime l.val).upFrame < s.frame ∧ ((s.linkTime l.val).gave ≠ some s.frame) ∧
      ((if s.nodeId < s.rg .PRT_Ln_PEER_NODE l.val then 4096 * l.val ≤ s.ft % frameNs ∧
      s.ft % frameNs < 65536 else (s.linkTime l.val).heard = some s.frame))) ∧
    (∃ (l : Fin 8) (body : List Byte) (s : State), s.live = true ∧ (s.link l.val).st = .up ∧ (s.tt ≠ 0) ∧
      s.rg .TT_CTRL_XFER_EN 0 = 1 ∧ body.length = 32) ∧
    (∃ (s : State), s.live = true ∧ s.time.linkAt < s.frame ∧ (s.tt ≠ 0)) ∧
    (∃ (l : Nat) (x : LinkTime) (s : State), look l s.time.links = some x ∧ (x.pair = none ∨ 4 ≤ x.since) ∧ x.since = 4) ∧
    (∃ (l : Nat) (t1 : Nat) (t2 : Nat) (t3 : Nat) (t4 : Nat) (x : LinkTime) (s : State), look l s.time.links = some x ∧
      x.pair = some (t1, t2, t3, t4) ∧ x.since < 4) :=
  ⟨⟨(at_ 0 1048576 up), by decide +kernel⟩,
   ⟨(following 4), by decide +kernel⟩,
   ⟨(following 0xFFFFFF), by decide +kernel⟩,
   ⟨(following 0), by decide +kernel⟩,
   ⟨(onTime (fun t => { t with acc := -100000000000000 }) up), by decide +kernel⟩,
   ⟨7, (setRg .PRT_Ln_PEER_NODE 7 5 (xferring 1077248)), by decide +kernel⟩,
   ⟨7, (zeros 32), (xferring 0), by decide +kernel⟩,
   ⟨(at_ 0 1048576 (tt 2 up)), by decide +kernel⟩,
   ⟨0, ({ LinkTime.init with since := 4 }), (onTime (fun t => { t with links := [(0, { LinkTime.init with since := 4 })] }) up),
     by decide +kernel⟩,
   ⟨7, 1, 2, 3, 4, ({ LinkTime.init with pair := some (1, 2, 3, 4), since := 3 }), (onTime (fun t => { t with links := [(7, { LinkTime.init with pair := some (1, 2, 3, 4), since := 3 })] }) (xferring 0)),
     by decide +kernel⟩⟩

end W03c

namespace W03d

def adding : State :=
  tt 2 (setRg .TT_EVT_FT_LO_FT_LO 0 10240 (setRg .TT_EVT_SPEC_KIND 0 4 (setRg .TT_EVT_SPEC_PERIOD_EXP 0 30 up)))
theorem evt_free4 (s : State) (h : s.time.evts = []) : (evtFree s 4 0).isSome = true := by
  simp [evtFree, evtRange, pickBelow, firstBelow, evtPending, State.evt, h, look]
  rfl
def entryOf (kind st : Nat) : State := setEvt 0 { ft := 9, kind := kind, car := 0, per := 0, st := st, arg := 0 } up

/-- Every clause of Obligations.ScheduledEventsAreAddedAndCancelled has states and operands that meet its premises. -/
theorem witness_ScheduledEventsAreAddedAndCancelled :
    (∃ (p : Port) (i : Nat) (s : State), s.live = true ∧ Reaches p 0x100040 s ∧ s.tt = 2 ∧
      (let ft := s.rg .TT_EVT_FT_LO_FT_LO p.idx + s.rg .TT_EVT_FT_HI_FT_HI p.idx * 2 ^ 32; (let kind := s.rg .TT_EVT_SPEC_KIND p.idx; (let car := s.rg .TT_EVT_SPEC_CARRIAGE p.idx; (let per := s.rg .TT_EVT_SPEC_PERIOD_EXP p.idx; 2 ≤ kind ∧
      kind ≤ 5 ∧ s.ft + 10000 ≤ ft ∧ ft ≤ s.ft + 4294967296 ∧ evtPoint s kind ft = true ∧ ((per = 0 ∨ (kind = 4 ∧
      s.gridK ≤ per ∧ per ≤ 30))) ∧ s.im.carValid car = true ∧ evtFree s kind car = some i ∧
      ((kind ≠ 2 ∨ s.holdsSem p.idx 1 = true))))))) ∧
    (∃ (p : Port) (e : Evt) (s : State), s.live = true ∧ Reaches p 0x100040 s ∧
      s.evt (s.rg .TT_EVT_CTRL_INDEX p.idx) = some e ∧ e.st = 1 ∧ ((e.kind = 4 ∨ e.kind = 5))) ∧
    (∃ (p : Port) (s : State), s.live = true ∧ Reaches p 0x100040 s ∧ s.evt (s.rg .TT_EVT_CTRL_INDEX p.idx) = none) ∧
    (∃ (p : Port) (s : State) (e : _), s.live = true ∧ Reaches p 0x100040 s ∧ s.evt (s.rg .TT_EVT_CTRL_INDEX p.idx) = some e ∧
      (e.st ≠ 0) ∧ ((e.kind = 1 ∨ e.kind = 6))) :=
  ⟨⟨.a, (evtFree adding 4 0).getD 0, adding, by decide, by unfold Reaches; decide, by decide, by decide, by decide, by decide,
     by decide, by decide, by decide, by decide, some_getD _ _ (evt_free4 _ rfl), by decide⟩,
   ⟨.a, ({ ft := 9, kind := 4, car := 0, per := 0, st := 1, arg := 0 }), (entryOf 4 1), by unfold Reaches; decide +kernel⟩,
   ⟨.a, up, by unfold Reaches; decide +kernel⟩,
   ⟨.a, (entryOf 6 1), ({ ft := 9, kind := 6, car := 0, per := 0, st := 1, arg := 0 }), by unfold Reaches; decide +kernel⟩⟩

end W03d

namespace W04a

def counted (n : Nat) : State := onEvr (fun e => { e with counts := [(0x0101, n)], firsts := [((0x0C06, 3), 0)] }) up

/-- Every clause of Obligations.EventsAreRecordedUpToTheLimit has states and operands that meet its premises. -/
theorem witness_EventsAreRecordedUpToTheLimit :
    (∃ (code : Nat) (s : State), (let n := if s.evr.frame = s.frame then lookD code 0 s.evr.counts else 0; (code ∈ [0x0104,
      0x0C04, 0x0D04, 0x0D05, 0x0E01, 0x0E03] ∨ n < codeLimit code s) ∧ s.evr.ring.length < 8192)) ∧
    (∃ (code : Nat) (s : State), (let n := if s.evr.frame = s.frame then lookD code 0 s.evr.counts else 0; (¬ (code ∈ [0x0104,
      0x0C04, 0x0D04, 0x0D05, 0x0E01, 0x0E03] ∨ n < codeLimit code s)))) ∧
    (∃ (s : State), ((∀ i, i < 32 → s.rg .EVR_X_CODE_LIMIT_VALID i = 0))) ∧
    (∃ (code : Nat) (item : Nat) (s : State), look (code, item) s.evr.firsts = some s.frame) :=
  ⟨⟨0x0101, (counted 0), by decide +kernel⟩,
   ⟨0x0101, (counted 64), by decide +kernel⟩,
   ⟨up, by decide +kernel⟩,
   ⟨0x0C06, 3, (counted 0), by decide +kernel⟩⟩

end W04a

namespace W04b

/-- Every clause of Obligations.CommandsEndInOneCompletionEntry has states and operands that meet its premises. -/
theorem witness_CommandsEndInOneCompletionEntry :
    (∃ (k : Nat) (st : Nat) (c : Cmd) (s : State), s.cmd k = some c ∧ (st ≠ Status.aborted) ∧ (st ≠ Status.staleEpoch)) ∧
    (∃ (k : Nat) (s : State), s.cmd k = none) ∧
    (∃ (k : Nat) (s : State), (s.cmd k ≠ none)) ∧
    (∃ (c : Cmd) (s : State), s.portUp (qPort c.q) = true ∧ qConf s c.q = false ∧ s.rg .QUE_CTX_CFG_IRQ_EN c.q = 0) ∧
    (∃ (c : Cmd) (s : State), s.portUp (qPort c.q) = false) :=
  ⟨⟨1, 0, (cmd []), (run 1 (cmd []) up), by decide +kernel⟩,
   ⟨1, up, by decide +kernel⟩,
   ⟨1, (run 1 (cmd []) up), by decide +kernel⟩,
   ⟨(cmd []), up, by decide +kernel⟩,
   ⟨(cmd []), State.reset, by decide +kernel⟩⟩

end W04b

namespace W04c

def selq (q : Nat) (s : State) : State := setRg .QUE_SEL_QUEUE 0 q s
def qst (st inflight : Nat) (s : State) : State := setCtx 0 { QCtx.init with st := st, inflight := inflight } s

/-- Every clause of Obligations.QueuesAreEnabledDrainedAndReset has states and operands that meet its premises. -/
theorem witness_QueuesAreEnabledDrainedAndReset :
    (∃ (p : Port) (q : Fin 65536) (s : State), s.live = true ∧ Reaches p (0x340000 + 4 * q.val) s ∧ (qPort q.val ≠ p.idx)) ∧
    (∃ (p : Port) (q : Fin 65536) (s : State), s.live = true ∧ Reaches p (0x340000 + 4 * q.val) s ∧ qPort q.val = p.idx) ∧
    (∃ (p : Port) (s : State), s.live = true ∧ Reaches p 0x300044 s ∧
      (let q := s.rg .QUE_SEL_QUEUE p.idx; ((qOwner s q = none ∨ Res.queue q ∈ s.comp.leaving)))) ∧
    (∃ (p : Port) (s : State), s.live = true ∧ Reaches p 0x300044 s ∧
      (let q := s.rg .QUE_SEL_QUEUE p.idx; (qOwner s q ≠ none) ∧ Res.queue q ∉ s.comp.leaving)) ∧
    (∃ (q : Fin 65536) (s : State), s.live = true ∧ (s.ctx q.val).st = 2 ∧ (s.ctx q.val).inflight = 0) ∧
    (∃ (q : Fin 65536) (s : State), s.live = true ∧ (s.ctx q.val).st = 2 ∧ ((s.ctx q.val).inflight ≠ 0)) ∧
    (∃ (q : Fin 65536) (since : Nat) (s : State), s.live = true ∧ s.rg .QUE_CTX_CFG_IRQ_EN q.val = 1 ∧
      (s.rg .QUE_CTX_IRQ_MOD_TIME_US q.val ≠ 0) ∧ (s.ctx q.val).oldest = some since) ∧
    (∃ (q : Nat) (s : State), s.portUp (qPort q) = true) :=
  ⟨⟨.b, 0, up, by unfold Reaches; decide +kernel⟩,
   ⟨.a, 32767, up, by unfold Reaches; decide +kernel⟩,
   ⟨.a, (selq 9 up), by unfold Reaches; decide +kernel⟩,
   ⟨.a, (selq 7 up), by unfold Reaches; decide +kernel⟩,
   ⟨0, (qst 2 0 up), by decide +kernel⟩,
   ⟨0, (qst 2 1 up), by decide +kernel⟩,
   ⟨0, 0,
     (setRg .QUE_CTX_CFG_IRQ_EN 0 1 (setRg .QUE_CTX_IRQ_MOD_TIME_US 0 1 (setCtx 0 { QCtx.init with oldest := some 0 } up))),
     by decide +kernel⟩,
   ⟨65535, up, by decide +kernel⟩⟩

end W04c

namespace W04d

def exps (s : State) : State := setRg .QUE_CTX_CFG_SQ_EXP 0 4 (setRg .QUE_CTX_CFG_CQ_EXP 0 4 (setRg .QUE_CTX_CFG_ENGINE 0 1 s))
def ready (s : State) : State := setRg .BIST_SUP_PHASE 0 5 (exps s)
def waiting1 : State := setCtx 0 { QCtx.init with st := 1, sqTail := 1 } (ready up)
def tagged (t : Nat) (u : MemUse) (s : State) : State := setOnz 0 { s.onzA with tags := put t u s.onzA.tags } s
def fetchedOne : State := setCtx 0 { QCtx.init with st := 1, fetched := [(0, cmdB 1 1 0 [])] } (ready up)
def late : Cmd := { cmd (cmdB 1 1 0 []) with bad := some Status.staleEpoch }

/-- Every clause of Obligations.CommandsAreFetchedAndStarted has states and operands that meet its premises. -/
theorem witness_CommandsAreFetchedAndStarted :
    (∃ (p : Port) (q : Nat) (s : State), s.live = true ∧ serving s = true ∧ s.portUp p.idx = true ∧
      pickQueue s p.idx = some q) ∧
    (∃ (p : Nat) (q : Nat) (s : State), pickQueue s p = some q) ∧
    (∃ (q : Fin 65536) (i : Nat) (b : List Byte) (r : List (Nat × List Byte)) (s : State), s.live = true ∧
      (s.ctx q.val).fetched = (i, b) :: r ∧ (s.ctx q.val).st = 1 ∧ serving s = true ∧ mayStartCmd s q.val b none = true) ∧
    (∃ (b : List Byte), opRow b = none) ∧
    (∃ (q : Nat) (b : List Byte) (s : State) (r : _), opRow b = some r ∧ reservedClear r b = true ∧
      ((Op.engine b = 0 ∨ Op.engine b = s.rg .QUE_CTX_CFG_ENGINE q)) ∧ (¬ (Op.engine b = 0 ∧ Op.opcode b = 0xFE))) ∧
    (∃ (k : Nat) (engine : Nat) (opcode : Nat) (c : Cmd) (s : State), s.cmd k = some c ∧ c.held = false ∧
      Op.engine c.bytes = engine ∧ Op.opcode c.bytes = opcode ∧ c.bad = some Status.staleEpoch) ∧
    (∃ (p : Port) (seq : BitVec 16) (s : State), s.live = true ∧ (s.onz p.idx).isUp = true ∧ seq.toNat = (s.onz p.idx).rxSeq) ∧
    (∃ (p : Nat) (tag : Nat) (s : State), look tag (s.onz p).tags = none) ∧
    (∃ (p : Nat) (tag : Nat) (data : List Byte) (s : State) (k : _) (off : _) (len : _) (c : _),
      look tag (s.onz p).tags = some (.data k off len) ∧ s.cmd k = some c ∧ data.length = ceilDiv len 4 * 4) ∧
    (∃ (p : Nat) (tag : Nat) (s : State) (q : _) (idx : _) (n : _) (no : _), look tag (s.onz p).tags = some (.sq q idx n no) ∧
      (s.ctx q).st = 1 ∧ (s.ctx q).fetchNo = no ∧ ((s.ctx q).asked ≠ (s.ctx q).sqHead)) ∧
    (∃ (q : Nat) (idx : Nat) (n : Nat) (no : Nat) (data : List Byte) (s : State), (s.ctx q).st = 1 ∧ (s.ctx q).fetchNo = no ∧
      ((s.ctx q).asked ≠ (s.ctx q).sqHead) ∧ data.length = sqeBytes s q * n ∧
      (let e := openEntries s q idx (chunks n (sqeBytes s q) data) { es := [], ctr := (s.ctx q).counter, bad := none }; e.bad = none)) ∧
    (∃ (q : Nat) (idx : Nat) (n : Nat) (no : Nat) (data : List Byte) (s : State), (s.ctx q).st = 1 ∧ (s.ctx q).fetchNo = no ∧
      ((s.ctx q).asked ≠ (s.ctx q).sqHead) ∧ data.length = sqeBytes s q * n ∧
      (let e := openEntries s q idx (chunks n (sqeBytes s q) data) { es := [], ctr := (s.ctx q).counter, bad := none }; (e.bad ≠ none))) ∧
    (∃ (q : Nat) (no : Nat) (s : State), ((s.ctx q).fetchNo ≠ no)) :=
  ⟨⟨.a, 0, waiting1, by decide +kernel⟩,
   ⟨0, 0, waiting1, by decide +kernel⟩,
   ⟨0, 0, (cmdB 1 1 0 []), [], fetchedOne, by decide +kernel⟩,
   ⟨(cmdB 0 0 0 []), by decide +kernel⟩,
   ⟨0, (cmdB 0 0xFF 0 []), (ready up), _, rfl, by decide, by decide, by decide⟩,
   ⟨1, 1, 1, late, (run 1 late up), by decide +kernel⟩,
   ⟨.a, 0, up, by decide +kernel⟩,
   ⟨0, 0, up, by decide +kernel⟩,
   ⟨0, 65535, [1, 2, 3, 4], (tagged 65535 (.data 1 0 1) (run 1 (cmd []) up)), 1, 0, 1, (cmd []), by decide +kernel⟩,
   ⟨0, 0, (tagged 0 (.sq 0 65535 1 0) (setCtx 0 { QCtx.init with st := 1, asked := 1 } up)), 0, 65535, 1, 0,
     by decide +kernel⟩,
   ⟨0, 65535, 1, 0, (zeros 64), (setCtx 0 { QCtx.init with st := 1, asked := 1 } up), by decide +kernel⟩,
   ⟨0, 65535, 1, 0, (zeros 128), (setRg .QUE_CTX_CFG_CONF 0 1 (setCtx 0 { QCtx.init with st := 1, asked := 1 } up)),
     by decide +kernel⟩,
   ⟨0, 1, up, by decide +kernel⟩⟩

end W04d

namespace W04e

def listB (count : Nat) : List Byte := cmdB 0 0xFF 0 (leBytes 8 0x1000 ++ leBytes 2 count ++ [2])
def lrun (es : List (List Byte)) (open_ : Nat) : ListRun :=
  { entries := es, next := 0, more := false, started := 0, open_ := open_, failed := [], ended := false }
def onList (r : ListRun) : State :=
  setList 1 r (run 1 (cmd (listB 1)) (setCtx 0 { QCtx.init with st := 1 } (setRg .QUE_CTX_CFG_SQ_EXP 0 4 (setRg .QUE_CTX_CFG_CQ_EXP 0 4 up))))
def bare : ListRun := { entries := [], next := 0, more := false, started := 3, open_ := 0, failed := [], ended := true }

/-- Every clause of Obligations.ListsStartTheirEntriesInOrder has states and operands that meet its premises. -/
theorem witness_ListsStartTheirEntriesInOrder :
    (∃ (k : Nat) (c : Cmd) (s : State), Started k 0 0xFF c s ∧ look k s.que.lists = none) ∧
    (∃ (k : Nat) (c : Cmd) (r : ListRun) (b : List Byte) (s : State), Started k 0 0xFF c s ∧ look k s.que.lists = some r ∧
      r.ended = false ∧ c.want = 0 ∧ r.entries[r.next]? = some b ∧ Op.engine b = 0 ∧
      ((Op.opcode b = 0xFF ∨ Op.opcode b = 0xFE ∨ Op.opcode b = 0x12))) ∧
    (∃ (k : Nat) (c : Cmd) (r : ListRun) (b : List Byte) (s : State), Started k 0 0xFF c s ∧ look k s.que.lists = some r ∧
      r.ended = false ∧ c.want = 0 ∧ r.entries[r.next]? = some b ∧ ((Op.engine b ≠ 0 ∨ (Op.opcode b ≠ 0xFF ∧
      Op.opcode b ≠ 0xFE ∧ Op.opcode b ≠ 0x12))) ∧ r.next < 1048576 ∧ (s.ctx c.q).st = 1 ∧ mayStartCmd s c.q b (some (k,
      r.next)) = true ∧ bit (u8 c.bytes 22) 1 = true ∧ (r.open_ ≠ 0)) ∧
    (∃ (k : Nat) (c : Cmd) (r : ListRun) (b : List Byte) (s : State), Started k 0 0xFF c s ∧ look k s.que.lists = some r ∧
      r.ended = false ∧ c.want = 0 ∧ r.entries[r.next]? = some b ∧ ((Op.engine b ≠ 0 ∨ (Op.opcode b ≠ 0xFF ∧
      Op.opcode b ≠ 0xFE ∧ Op.opcode b ≠ 0x12))) ∧ r.next < 1048576 ∧ (s.ctx c.q).st = 1 ∧ mayStartCmd s c.q b (some (k,
      r.next)) = true ∧ ((bit (u8 c.bytes 22) 1 = false ∨ r.open_ = 0))) ∧
    (∃ (k : Nat) (c : Cmd) (r : ListRun) (s : State), s.live = true ∧ look k s.que.lists = some r ∧ s.cmd k = some c ∧
      Op.opcode c.bytes = 0xFF ∧ ((r.ended = true ∨ (r.more = false ∧ r.entries.length ≤ r.next ∧ c.want = 0))) ∧
      (r.open_ ≠ 0)) ∧
    (∃ (k : Nat) (c : Cmd) (r : ListRun) (s : State), s.live = true ∧ look k s.que.lists = some r ∧ s.cmd k = some c ∧
      Op.opcode c.bytes = 0xFF ∧ ((r.ended = true ∨ (r.more = false ∧ r.entries.length ≤ r.next ∧ c.want = 0))) ∧ r.open_ = 0) ∧
    (∃ (r : ListRun), r.failed = []) ∧
    (∃ (r : ListRun), (r.failed ≠ [])) ∧
    (∃ (k : Nat) (r : ListRun) (c : Cmd) (s : State), look k s.que.lists = some r ∧ s.cmd k = some c) :=
  ⟨⟨1, (cmd (listB 4096)), (run 1 (cmd (listB 4096)) up), by unfold Started; decide +kernel⟩,
   ⟨1, (cmd (listB 1)), (lrun [cmdB 0 0xFE 0 []] 0), (cmdB 0 0xFE 0 []), (onList (lrun [cmdB 0 0xFE 0 []] 0)),
     by unfold Started; decide +kernel⟩,
   ⟨1, (cmd (listB 1)), (lrun [cmdB 1 1 0 []] 1), (cmdB 1 1 0 []), (onList (lrun [cmdB 1 1 0 []] 1)),
     by unfold Started; decide +kernel⟩,
   ⟨1, (cmd (listB 1)), (lrun [cmdB 1 1 0 []] 0), (cmdB 1 1 0 []), (onList (lrun [cmdB 1 1 0 []] 0)),
     by unfold Started; decide +kernel⟩,
   ⟨1, (cmd (listB 1)), (lrun [] 1), (onList (lrun [] 1)), by decide +kernel⟩,
   ⟨1, (cmd (listB 1)), (lrun [] 0), (onList (lrun [] 0)), by decide +kernel⟩,
   ⟨bare, by decide +kernel⟩,
   ⟨({ bare with failed := [(5, 9), (2, 7)] }), by decide +kernel⟩,
   ⟨1, bare, (cmd (listB 1)), (onList bare), by decide +kernel⟩⟩

end W04e

namespace W05a

def onzS (o : OnzSt) : State := setOnz 0 o State.reset
def frame1 : OFrame := { ty := 5, flags := 0, tag := 0, addr := 0, len := 4, payload := zeros 4 }
def training (now : Nat) : State := at_ now 0 (onzS { OnzSt.init with link := .training })
def unacked (now : Nat) (replays : Nat) : State := at_ now 0 (setOnz 0 { OnzSt.init with link := .up, replay := [(0, frame1, 0)], replays := replays } up)

/-- Every clause of Obligations.OnzonPortsTrainAndFail has states and operands that meet its premises. -/
theorem witness_OnzonPortsTrainAndFail :
    (∃ (p : Port) (lanes : BitVec 8) (s : State), s.powered = true ∧ (s.onz p.idx).link = .down ∧
      (s.onz p.idx).retryAt = none ∧ 4 ≤ (bitsOf 8 lanes.toNat).length) ∧
    (∃ (p : Port) (lanes : BitVec 8) (s : State), s.powered = true ∧
      ((s.onz p.idx).link ≠ .down ∨ (s.onz p.idx).retryAt ≠ none ∨ (bitsOf 8 lanes.toNat).length < 4)) ∧
    (∃ (p : Port) (lanes : BitVec 8) (trims : List Byte) (s : State), s.powered = true ∧ (s.onz p.idx).link = .training ∧
      s.clk ≤ (s.onz p.idx).trainAt + 20000000 ∧ (trims.length ≠ 32) ∧
      (let good := lanes.toNat = 255 ∨ lanes.toNat % 16 = 15 ∨ lanes.toNat / 16 = 15; good)) ∧
    (∃ (p : Port) (lanes : BitVec 8) (trims : List Byte) (s : State), s.powered = true ∧ (s.onz p.idx).link = .training ∧
      s.clk ≤ (s.onz p.idx).trainAt + 20000000 ∧ (trims.length ≠ 32) ∧
      (let good := lanes.toNat = 255 ∨ lanes.toNat % 16 = 15 ∨ lanes.toNat / 16 = 15; ¬ good)) ∧
    (∃ (p : Port) (lanes : BitVec 8) (trims : List Byte) (st : OLink) (s : State), s.powered = true ∧
      (s.onz p.idx).link = .training ∧ s.clk ≤ (s.onz p.idx).trainAt + 20000000 ∧ trims.length = 32 ∧
      trainedLink lanes.toNat = some st) ∧
    (∃ (s : State) (n : _) (x : _), look n s.que.sems = some x) ∧
    (∃ (p : Port) (s : State), s.powered = true ∧ (s.onz p.idx).link = .training ∧ (s.onz p.idx).trainAt + 20000000 ≤ s.clk) ∧
    (∃ (p : Port) (s : State), s.powered = true ∧ (s.onz p.idx).link = .training ∧ s.clk < (s.onz p.idx).trainAt + 20000000) ∧
    (∃ (p : Port) (at_ : Nat) (s : State), s.powered = true ∧ (s.onz p.idx).link = .down ∧ (s.onz p.idx).retryAt = some at_) ∧
    (∃ (s : State), s.powered = true) ∧
    (∃ (p : Nat) (s : State), s.portUp p = false) ∧
    (∃ (p : Port) (s : State), s.portUp p.idx = true) ∧
    (∃ (p : Port) (e : Nat × OFrame × Nat) (r : List (Nat × OFrame × Nat)) (s : State), s.powered = true ∧
      s.portUp p.idx = true ∧ (s.onz p.idx).replay = e :: r ∧ e.2.2 + 4000 ≤ s.clk) ∧
    (∃ (p : Port) (seq : Nat) (s : State),
      (let again := (s.onz p.idx).replay.filter (fun e => seqLe 16 seq e.1); (again ≠ []) ∧ (s.onz p.idx).replays + 1 < 8)) ∧
    (∃ (p : Port) (s : State), s.portUp p.idx = true ∧ 8 ≤ (s.onz p.idx).replays + 1) :=
  ⟨⟨.a, 0x0F, State.reset, by decide +kernel⟩,
   ⟨.a, 0x07, State.reset, by decide +kernel⟩,
   ⟨.a, 0xF0, [], (training 20000000), by decide +kernel⟩,
   ⟨.a, 0x3C, [], (training 20000000), by decide +kernel⟩,
   ⟨.a, 0xF0, (zeros 32), .degraded, (training 20000000), by decide, rfl, by decide, by decide, rfl⟩,
   ⟨(sem 0 0 State.reset), 0, ({ owner := 0, lease := none }), by decide +kernel⟩,
   ⟨.a, (training 20000000), by decide +kernel⟩,
   ⟨.a, (training 19999999), by decide +kernel⟩,
   ⟨.a, 7, (onzS { OnzSt.init with retryAt := some 7 }), by decide +kernel⟩,
   ⟨State.reset, by decide +kernel⟩,
   ⟨0, State.reset, by decide +kernel⟩,
   ⟨.a, up, by decide +kernel⟩,
   ⟨.a, (0, frame1, 0), [], (unacked 4000 0), by decide +kernel⟩,
   ⟨.a, 0, (unacked 0 6), by decide +kernel⟩,
   ⟨.a, (unacked 0 7), by decide +kernel⟩⟩

end W05a

namespace W05b

def queuedFrame (credit : Nat) : State :=
  setOnz 0 { OnzSt.init with link := .up, creditP := credit, outq := [{ ty := 5, flags := 0, tag := 0, addr := 0, len := 241, payload := [] }] } up
def answering (n : Nat) : State := setOnz 0 { up.onzA with ctrlTags := (List.range n).map (fun i => (i, 1)) } up

/-- Every clause of Obligations.OnzonFramesAreSequencedAndCredited has states and operands that meet its premises. -/
theorem witness_OnzonFramesAreSequencedAndCredited :
    (∃ (p : Port) (s : State), s.powered = true ∧ s.portUp p.idx = true) ∧
    (∃ (p : Port) (s : State), s.powered = true ∧ s.portUp p.idx = true) ∧
    (∃ (p : Port) (s : State), s.powered = true ∧ s.portUp p.idx = true) ∧
    (∃ (p : Port) (f : OFrame) (s : State), (s.onz p.idx).outq = [f] ∧ f.ty = OTy.memWr ∧ oCost f ≤ (s.onz p.idx).creditP ∧
      replayRoom (s.onz p.idx) f = true) ∧
    (∃ (p : Port) (f : OFrame) (s : State), (s.onz p.idx).outq = [f] ∧ f.ty = OTy.memWr ∧
      ((s.onz p.idx).creditP < oCost f ∨ replayRoom (s.onz p.idx) f = false)) ∧
    (∃ (p : Port) (s : State), s.powered = true ∧ s.portUp p.idx = true) ∧
    (∃ (p : Port) (seq : BitVec 16) (off : Nat) (n : Nat) (s : State), s.powered = true ∧ (s.onz p.idx).isUp = true ∧ 1 ≤ n ∧
      n ≤ 64 ∧ seq.toNat = (s.onz p.idx).rxSeq ∧ (s.onz p.idx).ctrlTags.length < 64 ∧ 16777216 < off + 4 * n) ∧
    (∃ (p : Port) (seq : BitVec 16) (n : Nat) (s : State), s.powered = true ∧ (s.onz p.idx).isUp = true ∧ 1 ≤ n ∧ n ≤ 64 ∧
      seq.toNat = (s.onz p.idx).rxSeq ∧ 64 ≤ (s.onz p.idx).ctrlTags.length) ∧
    (∃ (p : Port) (seq : BitVec 16) (n : Nat) (s : State), s.powered = true ∧ (s.onz p.idx).isUp = true ∧ 1 ≤ n ∧ n ≤ 64 ∧
      (seq.toNat ≠ (s.onz p.idx).rxSeq)) ∧
    (∃ (p : Nat) (cost : Nat) (f : OFrame) (s : State), f.ty = OTy.ctrlResp ∧ look f.tag (s.onz p).ctrlTags = some cost) ∧
    (∃ (off : Nat) (s : State), s.answers off = true) ∧
    (∃ (p : Port) (seq : BitVec 16) (off : Nat) (vs : List Word) (s : State), s.powered = true ∧ (s.onz p.idx).isUp = true ∧
      1 ≤ vs.length ∧ vs.length ≤ 64 ∧ seq.toNat = (s.onz p.idx).rxSeq ∧ off + 4 * vs.length ≤ 16777216) :=
  ⟨⟨.a, up, by decide +kernel⟩,
   ⟨.a, up, by decide +kernel⟩,
   ⟨.a, up, by decide +kernel⟩,
   ⟨.a, ({ ty := 5, flags := 0, tag := 0, addr := 0, len := 241, payload := [] }), (queuedFrame 2), by decide +kernel⟩,
   ⟨.a, ({ ty := 5, flags := 0, tag := 0, addr := 0, len := 241, payload := [] }), (queuedFrame 1), by decide +kernel⟩,
   ⟨.a, up, by decide +kernel⟩,
   ⟨.a, 0, 16777212, 2, up, by decide +kernel⟩,
   ⟨.a, 0, 2, (answering 64), by decide +kernel⟩,
   ⟨.a, 1, 2, up, by decide +kernel⟩,
   ⟨0, 1, ({ ty := OTy.ctrlResp, flags := 0, tag := 63, addr := 0, len := 4, payload := zeros 4 }), (answering 64),
     by decide +kernel⟩,
   ⟨16777212, up, by decide +kernel⟩,
   ⟨.a, 0, 16777212, [0], up, by decide +kernel⟩⟩

end W05b

namespace W06a

def lane0 (flags : Nat) : List Byte := leBytes 1 flags ++ leBytes 1 8 ++ zeros 5 ++ leBytes 1 9 ++ zeros 24
def linked (s : State) : State := onComp (fun c => { c with image := some { im0 with sects := (9, lane0 5) :: im0.sects } }) s
def linkAt (x : Link) : State := lnk 0 x (linked up)
def poll : State := setRg .PRT_CTRL_OE_POLL 0 1 (linkAt { linkUp with lanes := [0, 1, 2, 3, 4, 5, 6, 7], waves := [0, 1, 2, 3, 4, 5, 6, 7, 8], rxWaves := [0, 1, 2, 3, 4, 5, 6, 7, 8] })
def copper : State := lnk 0 { Link.init with started := true } (onComp (fun c => { c with image := some { im0 with sects := (9, lane0 1) :: im0.sects } }) up)

/-- Every clause of Obligations.LinksTrainAndFail has states and operands that meet its premises. -/
theorem witness_LinksTrainAndFail :
    (∃ (l : Fin 8) (s : State), s.live = true ∧ (s.link l.val).st = .down ∧ (s.link l.val).retryAt = none ∧
      (s.link l.val).started = true ∧ s.im.linkEnabled l.val = true ∧ s.rg .PRT_Ln_CTRL_DISABLE l.val = 0 ∧
      s.im.optical l.val = false) ∧
    (∃ (l : Fin 8) (s : State), s.live = true ∧
      (((s.link l.val).st ≠ .down ∨ (s.link l.val).retryAt ≠ none ∨ s.im.linkEnabled l.val = false ∨ s.rg .PRT_Ln_CTRL_DISABLE l.val ≠ 0))) ∧
    (∃ (l : Fin 8) (s : State), s.live = true ∧ (s.link l.val).st = .training ∧ s.rg .PRT_X_Ln_SPARE_HOLD_TRAINING l.val = 0 ∧
      s.clk ≤ (s.link l.val).trainAt + 50000000) ∧
    (∃ (l : Nat) (s : State), s.start.joinedDue = false ∧ s.slotIm.slotOwners l = []) ∧
    (∃ (l : Nat) (node : Nat) (link : Nat) (s : State),
      (let u := trainFrames l (setRg .PRT_Ln_PEER_VALID l 1 (setRg .PRT_Ln_PEER_LINK l link (setRg .PRT_Ln_PEER_NODE l node (setLink l { s.link l with named := true } s)))); duplicateOf u l node link = none)) ∧
    (∃ (l : Nat) (s : State), s.rg .PRT_Ln_STATUS_TRAIN_FAILS l < 15) ∧
    (∃ (l : Nat) (s : State), 15 ≤ s.rg .PRT_Ln_STATUS_TRAIN_FAILS l) ∧
    (∃ (l : Nat) (s : State), (s.link l).open_ = false) ∧
    (∃ (l : Fin 8) (at_ : Nat) (s : State), s.live = true ∧ (s.link l.val).st = .down ∧ (s.link l.val).retryAt = some at_) ∧
    (∃ (l : Fin 8) (s : State), s.live = true ∧ s.answers (0x700108 + 64 * l.val) = true ∧ (s.link l.val).open_ = false) ∧
    (∃ (s : State), s.live = true) ∧
    (∃ (l : Nat) (s : State), (s.link l).open_ = false) ∧
    (∃ (l : Nat) (s : State), (s.link l).open_ = true) ∧
    (∃ (st : LState), st = .down) ∧
    (∃ (l : Fin 8) (fault : BitVec 10) (los : BitVec 10) (s : State), s.live = true ∧ s.rg .PRT_CTRL_OE_POLL 0 = 1 ∧
      s.im.optical l.val = true ∧
      ((wavesInUse (s.link l.val)).any (bit fault.toNat) = true ∨ (rxWavesInUse (s.link l.val)).any (bit los.toNat) = true)) ∧
    (∃ (l : Fin 8) (fault : BitVec 10) (los : BitVec 10) (warn : BitVec 10) (s : State), s.live = true ∧
      s.rg .PRT_CTRL_OE_POLL 0 = 1 ∧ s.im.optical l.val = true ∧ (wavesInUse (s.link l.val)).any (bit fault.toNat) = false ∧
      (rxWavesInUse (s.link l.val)).any (bit los.toNat) = false ∧ warn = 0) :=
  ⟨⟨0, copper, by decide +kernel⟩,
   ⟨0, (linkAt linkUp), by decide +kernel⟩,
   ⟨0, (at_ 50000000 0 (linkAt { Link.init with st := .training })), by decide +kernel⟩,
   ⟨0, up, by decide +kernel⟩,
   ⟨0, 5, 1, up, by decide +kernel⟩,
   ⟨7, (setRg .PRT_Ln_STATUS_TRAIN_FAILS 7 14 up), by decide +kernel⟩,
   ⟨7, (setRg .PRT_Ln_STATUS_TRAIN_FAILS 7 15 up), by decide +kernel⟩,
   ⟨0, up, by decide +kernel⟩,
   ⟨0, 5, (linkAt { Link.init with retryAt := some 5 }), by decide +kernel⟩,
   ⟨7, up, by decide +kernel⟩,
   ⟨up, by decide +kernel⟩,
   ⟨0, up, by decide +kernel⟩,
   ⟨0, (linkAt linkUp), by decide +kernel⟩,
   ⟨.down, by decide +kernel⟩,
   ⟨0, 1, 0, poll, by decide +kernel⟩,
   ⟨0, 0, 0, 0, poll, by decide +kernel⟩⟩

end W06a

namespace W06b

def lanes8 : List Nat := [0, 1, 2, 3, 4, 5, 6, 7]
def spareable (free : Bool) (s : State) : State :=
  when (!free) (setRg .PRT_Ln_SPARE_LANE_REPLACED 0 3) <| lnk 0 { linkUp with lanes := if free then lanes8 else lanes8.set 3 8, waves := lanes8, rxWaves := lanes8 }
    (onComp (fun c => { c with image := some { im0 with sects := (9, leBytes 1 5 ++ leBytes 1 8 ++ zeros 5 ++ leBytes 1 8 ++ zeros 24) :: im0.sects } }) s)
def worn : State := setRg .PRT_X_SER_THR_SYMBOLS 0 4 (setRg .PRT_CTRL_AUTO_LANE_SPARE 0 1 (spareable true up))
def swap0 (mine : Bool) : Swap := { lane := true, what := 3, since := 0, mine := mine, peerDone := false }
def repairing (mine : Bool) (now : Nat) : State :=
  at_ now 0 (lnk 0 { linkUp with st := .repair, lanes := lanes8, swap := some (swap0 mine) } (spareable true up))
def opened (s : State) : State := setRg .CMP_EXPERT_UNLOCK_BLOCKS 0 128 s

/-- Every clause of Obligations.LanesAndWavesAreSpared has states and operands that meet its premises. -/
theorem witness_LanesAndWavesAreSpared :
    (∃ (l : Fin 8) (symbols : List Nat) (s : State), s.live = true ∧ (s.link l.val).open_ = true ∧
      (min (worstLane symbols).2 16777215 ≤ s.rg .PRT_X_SER_THR_SYMBOLS 0 ∨ (s.link l.val).st ≠ .up ∨ s.rg .PRT_CTRL_AUTO_LANE_SPARE 0 = 0 ∨ laneSpareFree s l.val = false)) ∧
    (∃ (l : Fin 8) (symbols : List Nat) (s : State), s.live = true ∧ (s.link l.val).open_ = true ∧
      s.rg .PRT_X_SER_THR_SYMBOLS 0 < min (worstLane symbols).2 16777215 ∧ (s.link l.val).st = .up ∧
      s.rg .PRT_CTRL_AUTO_LANE_SPARE 0 = 1 ∧ laneSpareFree s l.val = true) ∧
    (∃ (l : Nat) (s : State), (s.link l).open_ = true) ∧
    (∃ (l : Fin 8) (s : State), s.live = true ∧ (s.link l.val).st = .up ∧ laneSpareFree s l.val = true) ∧
    (∃ (l : Fin 8) (s : State), s.live = true ∧ (s.link l.val).st = .up ∧ laneSpareFree s l.val = false) ∧
    (∃ (l : Fin 8) (s : State), s.live = true ∧ (s.link l.val).st = .up ∧ waveSpareFree s l.val = true ∧
      s.im.optical l.val = true) ∧
    (∃ (l : Fin 8) (s : State), s.live = true ∧ (s.link l.val).st = .up ∧
      (waveSpareFree s l.val = false ∨ s.im.optical l.val = false)) ∧
    (∃ (l : Fin 8) (w : Swap) (s : State), s.live = true ∧ (s.link l.val).st = .repair ∧ (s.link l.val).swap = some w ∧
      w.mine = true) ∧
    (∃ (l : Fin 8) (w : Swap) (s : State) (ok : Bool), s.live = true ∧ (s.link l.val).st = .repair ∧
      (s.link l.val).swap = some w ∧ (ok = false ∨ w.since + (if w.lane then 20000 else 3000000) < s.clk)) ∧
    (∃ (l : Fin 8) (w : Swap) (s : State), s.live = true ∧ (s.link l.val).st = .repair ∧ (s.link l.val).swap = some w ∧
      (s.clk ≤ w.since + (if w.lane then 20000 else 3000000))) ∧
    (∃ (l : Nat) (w : Swap) (s : State), w.mine = true ∧ (s.link l).replay = [] ∧ (s.link l).outq = []) ∧
    (∃ (p : Port) (l : Fin 8) (s : State), s.live = true ∧ Reaches p (0x780100 + 64 * l.val) s ∧ s.expertOpen p.idx 7 = true ∧
      (s.link l.val).st = .up ∧ s.rg .PRT_X_Ln_SPARE_LANE l.val < 8) ∧
    (∃ (p : Port) (l : Fin 8) (s : State), s.live = true ∧ Reaches p (0x780100 + 64 * l.val) s ∧ s.expertOpen p.idx 7 = true ∧
      (s.link l.val).st = .up ∧ s.im.optical l.val = true ∧ s.rg .PRT_X_Ln_SPARE_WAVE l.val ∈ wavesInUse (s.link l.val)) ∧
    (∃ (p : Port) (l : Fin 8) (s : State), s.live = true ∧ Reaches p (0x780100 + 64 * l.val) s ∧ s.expertOpen p.idx 7 = false) ∧
    (∃ (l : Nat) (s : State), (s.link l).st = .repair) :=
  ⟨⟨0, [0, 0, 4], worn, by decide +kernel⟩,
   ⟨0, [0, 0, 5], worn, by decide +kernel⟩,
   ⟨0, (lnk 0 linkUp up), by decide +kernel⟩,
   ⟨0, (spareable true up), by decide +kernel⟩,
   ⟨0, (spareable false up), by decide +kernel⟩,
   ⟨0, (spareable true up), by decide +kernel⟩,
   ⟨0, (setRg .PRT_Ln_SPARE_WAVE_REPLACED 0 1 (spareable true up)), by decide +kernel⟩,
   ⟨0, (swap0 true), (repairing true 20000), by decide +kernel⟩,
   ⟨0, (swap0 true), (repairing true 20001), true, by decide +kernel⟩,
   ⟨0, (swap0 true), (repairing true 20000), by decide +kernel⟩,
   ⟨0, (swap0 true), (lnk 0 linkUp up), by decide +kernel⟩,
   ⟨.a, 0, (opened (spareable true up)), by unfold Reaches; decide +kernel⟩,
   ⟨.a, 0, (opened (spareable true up)), by unfold Reaches; decide +kernel⟩,
   ⟨.a, 0, (spareable true up), by unfold Reaches; decide +kernel⟩,
   ⟨0, (repairing true 0), by decide +kernel⟩⟩

end W06b

namespace W06c

def lf (seq : Nat) : LFrame := { lseq := seq, ltype := 1, flags := 0, op := 0, body := [] }
def kept (replays : Nat) : State := lnk 0 { linkUp with replay := [(lf 0, 0)], replays := replays } up
def expecting : State := lnk 0 { linkUp with rxSeq := 5 } up
def waits0 : OutPkt := { cls := 0, body := zeros 104, from_ := none, held := false }
def busyOut : State := lnk 0 { linkUp with outq := [waits0], credits := [(0, 512)] } up

/-- Every clause of Obligations.LinkFramesAreSequencedAndRouted has states and operands that meet its premises. -/
theorem witness_LinkFramesAreSequencedAndRouted :
    (∃ (l : Fin 8) (s : State), s.live = true ∧ (s.link l.val).open_ = true) ∧
    (∃ (l : Fin 8) (s : State), s.live = true ∧ (s.link l.val).open_ = true) ∧
    (∃ (l : Fin 8) (e : LFrame × Nat) (r : List (LFrame × Nat)) (s : State), s.live = true ∧ (s.link l.val).replay = e :: r) ∧
    (∃ (l : Nat) (s : State), (s.link l).st = .up ∧ (s.link l).replays + 1 < 8) ∧
    (∃ (l : Nat) (s : State), (s.link l).st = .up ∧ 8 ≤ (s.link l).replays + 1) ∧
    (∃ (l : Fin 8) (s : State), s.live = true ∧ (s.link l.val).open_ = true) ∧
    (∃ (l : Fin 8) (s : State), s.live = true ∧ (s.link l.val).open_ = true) ∧
    (∃ (s : State), s.live = true) ∧
    (∃ (l : Nat) (lseq : Nat) (s : State), (let x := s.link l; lseq = x.rxSeq)) ∧
    (∃ (l : Nat) (lseq : Nat) (s : State), (let x := s.link l; (lseq ≠ x.rxSeq) ∧ seqLe 24 lseq x.rxSeq = true)) ∧
    (∃ (l : Nat) (lseq : Nat) (s : State), (let x := s.link l; (lseq ≠ x.rxSeq) ∧ seqLe 24 lseq x.rxSeq = false)) ∧
    (∃ (f : LFrame), f.ltype = 1 ∧ 104 ≤ f.body.length) ∧
    (∃ (a : Arrival) (b : List Byte) (s : State),
      ((packetMap s b).groupValid (H.dest b) = false ∨ ((packetMap s b).groupInPort (H.dest b) ≠ a.link ∧
      (packetMap s b).groupInPort (H.dest b) ≠ 15))) ∧
    (∃ (s : State), s.live = true) ∧
    (∃ (l : Nat) (s : State), ((s.link l).st ≠ .up)) ∧
    (∃ (l : Nat) (s : State), (s.link l).st = .up) ∧
    (∃ (l : Nat) (p : OutPkt) (s : State), pickNext s l = some p) ∧
    (∃ (l : Nat) (p : OutPkt) (s : State), pickClass s l 0 = some p) ∧
    (∃ (l : Nat) (p : OutPkt) (s : State), p.from_ = none ∧ usesHold s l p = false) :=
  ⟨⟨0, (kept 6), by decide +kernel⟩,
   ⟨0, (kept 6), by decide +kernel⟩,
   ⟨0, (lf 0, 0), [], (kept 6), by decide +kernel⟩,
   ⟨0, (kept 6), by decide +kernel⟩,
   ⟨0, (kept 7), by decide +kernel⟩,
   ⟨0, (kept 6), by decide +kernel⟩,
   ⟨0, (kept 6), by decide +kernel⟩,
   ⟨up, by decide +kernel⟩,
   ⟨0, 5, expecting, by decide +kernel⟩,
   ⟨0, 4, expecting, by decide +kernel⟩,
   ⟨0, 6, expecting, by decide +kernel⟩,
   ⟨({ lf 0 with body := zeros 104 }), by decide +kernel⟩,
   ⟨({ link := 0, lseq := 0, slot := false, owed := false }), [], up, by decide +kernel⟩,
   ⟨(kept 6), by decide +kernel⟩,
   ⟨0, up, by decide +kernel⟩,
   ⟨0, expecting, by decide +kernel⟩,
   ⟨0, waits0, busyOut, by decide +kernel⟩,
   ⟨0, waits0, busyOut, by decide +kernel⟩,
   ⟨0, waits0, busyOut, by decide +kernel⟩⟩

end W06c

namespace W07

def selTrf (index : Nat) (s : State) : State := setRg .TRF_SEL_INDEX 0 index s
def change0 : TrfChange := { policer := false, index := 1, mode := 0, rate := 0, burst := 0, rate2 := 0, burst2 := 0, fill := false }
def refills (arg : Nat) : Evt := { ft := 0, kind := 4, car := 0, per := 0, st := 1, arg := arg }
def refilling (arg : Nat) : State :=
  onTrf (fun t => { t with shapers := [(1, { rate := 8, enable := true, onSwitch := false, burst := 64, tokens := 0 })] }) (setEvt 255 (refills arg) up)
def pol (two : Bool) (tc : Nat) : Policer :=
  { car := 0, valid := true, twoRate := two, aware := false, yellowDrop := false, redPass := false, onSwitch := false, cbs := 64,
    ebs := 64, cir := 8, pir := 8, tc := tc, te := 0 }

/-- Every clause of Obligations.ShapersAndPolicersTickAndChange has states and operands that meet its premises. -/
theorem witness_ShapersAndPolicersTickAndChange :
    (∃ (s : State) (i : _), s.live = true ∧ (s.comp.image ≠ none) ∧ switchFirst s = false ∧
      (let e := s.im.refillExp; (let n := s.ft / 2 ^ e - s.trf.tickAt / 2 ^ e; (n ≠ 0) ∧ i < 512))) ∧
    (∃ (s : State) (j : _), s.live = true ∧ (s.comp.image ≠ none) ∧ switchFirst s = false ∧
      (let e := s.im.refillExp; (let n := s.ft / 2 ^ e - s.trf.tickAt / 2 ^ e; (n ≠ 0) ∧ j < 256))) ∧
    (∃ (s : State), s.live = true ∧ s.ft / 2 ^ s.im.refillExp = s.trf.tickAt / 2 ^ s.im.refillExp) ∧
    (∃ (x : Shaper), x.enable = true) ∧
    (∃ (x : Policer), x.twoRate = true) ∧
    (∃ (p : Nat) (c : TrfChange) (s : State), look p s.trf.pending = some c ∧ c.policer = false) ∧
    (∃ (p : Port) (fill : Bool) (s : State), s.live = true ∧ Reaches p 0x80001C s ∧
      (let c := stagedChange s p.idx fill; c.well = true ∧ changeCarOk s c = true)) ∧
    (∃ (p : Port) (fill : Bool) (s : State), s.live = true ∧ Reaches p 0x80001C s ∧
      (let c := stagedChange s p.idx fill; c.well = false)) ∧
    (∃ (p : Port) (fill : Bool) (s : State), s.live = true ∧ Reaches p 0x80001C s ∧
      (let c := stagedChange s p.idx fill; c.well = true ∧ changeCarOk s c = false)) ∧
    (∃ (i : Fin 256) (e : Evt) (s : State), s.live = true ∧ s.evt i.val = some e ∧ evtFires s i.val 4 = true ∧
      s.ft / 2 ^ s.im.refillExp = s.trf.tickAt / 2 ^ s.im.refillExp ∧ (512 ≤ e.arg ∨ e.arg % 4 = 0 ∨ e.arg / 32 ≠ e.car)) ∧
    (∃ (i : Fin 256) (e : Evt) (s : State), s.live = true ∧ s.evt i.val = some e ∧ evtFires s i.val 4 = true ∧
      s.ft / 2 ^ s.im.refillExp = s.trf.tickAt / 2 ^ s.im.refillExp ∧ e.arg < 512 ∧ (e.arg % 4 ≠ 0) ∧ e.arg / 32 = e.car ∧
      (s.shaper e.arg).enable = true) ∧
    (∃ (i : Fin 256) (s : State), s.live = true ∧ evtFires s i.val 4 = false) ∧
    (∃ (b : List Byte), pClass b = 0) ∧
    (∃ (p : Policer) (n : Nat), p.twoRate = false ∧ p.aware = false ∧ n ≤ p.tc) :=
  ⟨⟨(at_ 1 1 up), 511, by decide +kernel⟩,
   ⟨(at_ 1 1 up), 255, by decide +kernel⟩,
   ⟨up, by decide +kernel⟩,
   ⟨({ rate := 8, enable := true, onSwitch := false, burst := 64, tokens := 0 }), by decide +kernel⟩,
   ⟨(pol true 0), by decide +kernel⟩,
   ⟨0, change0, (onTrf (fun t => { t with pending := [(0, change0)] }) up), by decide +kernel⟩,
   ⟨.a, false, (selTrf 1 up), by unfold Reaches; decide +kernel⟩,
   ⟨.a, false, (selTrf 4 up), by unfold Reaches; decide +kernel⟩,
   ⟨.a, false, (selTrf 33 up), by unfold Reaches; decide +kernel⟩,
   ⟨255, (refills 33), (refilling 33), by decide +kernel⟩,
   ⟨255, (refills 1), (refilling 1), by decide +kernel⟩,
   ⟨0, up, by decide +kernel⟩,
   ⟨[8], by decide +kernel⟩,
   ⟨(pol false 100), 100, by decide +kernel⟩⟩

end W07

namespace W08a

def walkB : List Byte := cmdB 1 0x01 7 (zeros 8 ++ leBytes 4 1)
def gatherB (layer n : Nat) : List Byte := cmdB 1 0x02 7 (leBytes 2 layer ++ zeros 6 ++ leBytes 4 n)
def digestB (mode : Nat) : List Byte := cmdB 1 0x05 0 (leBytes 4 3 ++ leBytes 1 mode)
def own (b : List Byte) (q : Seqd) (g : Page) : State := run 1 (cmd b) (paged q g up)

/-- Every clause of Obligations.PagesAreWalkedGatheredAndDigested has states and operands that meet its premises. -/
theorem witness_PagesAreWalkedGatheredAndDigested :
    (∃ (s : State), s.mem.bad = []) ∧
    (∃ (c : Cmd) (s : State), look (Op.seqId c.bytes) s.seq.seqs = none) ∧
    (∃ (c : Cmd) (s : State) (q : _), look (Op.seqId c.bytes) s.seq.seqs = some q) ∧
    (∃ (k : Nat) (c : Cmd) (q : Seqd) (s : State) (t : State), OwnSeq k 1 0x01 (some (u16 c.bytes 12)) c q s t) ∧
    (∃ (k : Nat) (c : Cmd) (q : Seqd) (s : State) (t : State), OwnSeq k 1 0x02 (some (u16 c.bytes 12)) c q s t ∧
      (let layer := u16 c.bytes 12; (let head := u8 c.bytes 14; (let n := u32 c.bytes 20; (q.layers ≤ layer ∨ q.kv ≤ head ∨ n = 0 ∨ 65536 < n))))) ∧
    (∃ (k : Nat) (c : Cmd) (q : Seqd) (s : State) (t : State), OwnSeq k 1 0x02 (some (u16 c.bytes 12)) c q s t ∧
      (let layer := u16 c.bytes 12; (let head := u8 c.bytes 14; (let n := u32 c.bytes 20; layer < q.layers ∧ head < q.kv ∧
      1 ≤ n ∧ n ≤ 65536 ∧ q.protected_ = true ∧ qConf t c.q = false)))) ∧
    (∃ (k : Nat) (c : Cmd) (q : Seqd) (s : State) (t : State), OwnSeq k 1 0x02 (some (u16 c.bytes 12)) c q s t ∧
      (let layer := u16 c.bytes 12; (let head := u8 c.bytes 14; (let n := u32 c.bytes 20; (let held := (List.range n).filterMap (fun i => positionAt t (Op.seqId c.bytes) q layer head (u32 c.bytes 16 + i)); (let warm := held.filter (fun x => x.1.loc != .cold); (let sl := q.slot t.im; (let sc := q.scale t.im; (let u := forEach warm (fun x => notePage x.1 (x.2 * sl) sl) t; layer < q.layers ∧
      head < q.kv ∧ 1 ≤ n ∧ n ≤ 65536 ∧ (q.protected_ = false ∨ qConf t c.q = true) ∧ ((∀ x ∈ warm, pageFault t x.1 = none)) ∧
      ((∀ x ∈ warm, canReadPage u x.1 (x.2 * sl) sl = true ∧ canReadPage u x.1 (u.im.dataArea + x.2 * sc) sc = true)) ∧
      ((∀ x ∈ warm, x.1.comp = true → x.1.sealed_ = true → pageDigest u x.1 = x.1.digest))))))))))) ∧
    (∃ (k : Nat) (c : Cmd) (g : Page) (s : State), Started k 1 0x05 c s ∧ look (u32 c.bytes 12) s.seq.pages = some g ∧
      (g.loc ≠ .cold) ∧ g.car = Op.car c.bytes ∧ keyFault s g = none ∧
      ((g.comp = false ∨ bufferServes s (locHalf s g.loc) = true)) ∧
      (let u := notePage g 0 s.im.frameSize s; pageReadable u g = true ∧ u8 c.bytes 16 = 0)) ∧
    (∃ (k : Nat) (c : Cmd) (g : Page) (s : State), Started k 1 0x05 c s ∧ look (u32 c.bytes 12) s.seq.pages = some g ∧
      (g.loc ≠ .cold) ∧ g.car = Op.car c.bytes ∧ keyFault s g = none ∧
      ((g.comp = false ∨ bufferServes s (locHalf s g.loc) = true)) ∧
      (let u := notePage g 0 s.im.frameSize s; pageReadable u g = true ∧ u8 c.bytes 16 = 1 ∧ g.sealed_ = true)) ∧
    (∃ (k : Nat) (c : Cmd) (g : Page) (s : State), Started k 1 0x05 c s ∧ look (u32 c.bytes 12) s.seq.pages = some g ∧
      (g.loc ≠ .cold) ∧ g.car = Op.car c.bytes ∧ keyFault s g = none ∧
      ((g.comp = false ∨ bufferServes s (locHalf s g.loc) = true)) ∧
      (let u := notePage g 0 s.im.frameSize s; pageReadable u g = true ∧ u8 c.bytes 16 = 1 ∧ g.sealed_ = false)) ∧
    (∃ (p : Port) (s : State), s.live = true ∧ Reaches p 0x480008 s) :=
  ⟨⟨up, by decide +kernel⟩,
   ⟨(cmd walkB), up, by decide +kernel⟩,
   ⟨(cmd walkB), (own walkB sq pg), sq, by decide +kernel⟩,
   ⟨1, (cmd walkB), sq, (own walkB sq pg), (own walkB sq pg), by unfold OwnSeq Started; decide +kernel⟩,
   ⟨1, (cmd (gatherB 1 1)), sq, (own (gatherB 1 1) sq pg), (own (gatherB 1 1) sq pg),
     by unfold OwnSeq Started; decide +kernel⟩,
   ⟨1, (cmd (gatherB 0 1)), ({ sq with flags := 1 }), (own (gatherB 0 1) { sq with flags := 1 } pg),
     (own (gatherB 0 1) { sq with flags := 1 } pg), by unfold OwnSeq Started; decide +kernel⟩,
   ⟨1, (cmd (gatherB 0 1)), sq, (own (gatherB 0 1) sq pg), (own (gatherB 0 1) sq pg),
     by unfold OwnSeq Started; decide +kernel⟩,
   ⟨1, (cmd (digestB 0)), pg, (own (digestB 0) sq pg), by unfold Started; decide +kernel⟩,
   ⟨1, (cmd (digestB 1)), ({ pg with sealed_ := true }), (own (digestB 1) sq { pg with sealed_ := true }),
     by unfold Started; decide +kernel⟩,
   ⟨1, (cmd (digestB 1)), pg, (own (digestB 1) sq pg), by unfold Started; decide +kernel⟩,
   ⟨.a, up, by unfold Reaches; decide +kernel⟩⟩

end W08a

namespace W08b

def copyB (head : Nat) : List Byte := cmdB 1 0x03 7 (leBytes 2 0 ++ leBytes 1 head ++ zeros 5 ++ leBytes 1 255)
def moveB : List Byte := cmdB 1 0x04 0 (leBytes 4 3 ++ leBytes 1 0 ++ leBytes 1 255)
def zeroB (g : Nat) : List Byte := cmdB 1 0x06 0 (leBytes 1 g)
def own2 (c : Cmd) (g : Page) : State := run 1 c (paged sq g up)
def bad3 (s : State) : State := onMem (fun m => { m with bad := [(codeKey (hbmAddr 0 im0.shareSize), 2)] }) s
def move3 : Move := { dest := .hbm 32 0, comp := none, cmd := none, half := 0, car := 0 }
def moving3 (s : State) : State := onSeq (fun x => { x with moves := [(3, move3)] }) s
def zeroingG : State := onSeq (fun x => { x with zeroing := [(0, 1)] }) State.reset
theorem zeroingG_owner : zeroingG.owner (.group 0) = none := by decide +kernel
def gathering : State := onFox (fun f => { f with coaches := [(0, { coach0 with gather := true, toRead := [(0, { leaf := 0, page := 3, always := true, digital := false, sat := false, b0 := 0 })] })] }) (moving3 (paged sq pg up))

/-- Every clause of Obligations.PagesAreCopiedMovedZeroedAndFreed has states and operands that meet its premises. -/
theorem witness_PagesAreCopiedMovedZeroedAndFreed :
    (∃ (k : Nat) (c : Cmd) (q : Seqd) (s : State) (t : State), OwnChange k 1 0x03 (some (u16 c.bytes 12)) c q s t ∧
      c.phase = 0 ∧ snapshotPos s (Op.seqId c.bytes) = none ∧ copyFault t c q = none) ∧
    (∃ (k : Nat) (c : Cmd) (q : Seqd) (s : State) (t : State) (st : _), OwnChange k 1 0x03 (some (u16 c.bytes 12)) c q s t ∧
      c.phase = 0 ∧ snapshotPos s (Op.seqId c.bytes) = none ∧ copyFault t c q = some st ∧ (st ≠ Status.keyRetired) ∧
      (st ≠ Status.claimed)) ∧
    (∃ (k : Nat) (c : Cmd) (q : Seqd) (l : Leaf) (g : Page) (s : State), Started k 1 0x03 c s ∧ (c.phase ≠ 0) ∧
      gathersFirst s (Op.car c.bytes) = false ∧ (let u := clearBusy k s; look (Op.seqId c.bytes) u.seq.seqs = some q ∧
      copyLeaf u c q = some l ∧ look l.page u.seq.pages = some g ∧ slotsReadable u q g g.fill = true ∧
      ((g.sealed_ = true → pageDigest u g = g.digest)))) ∧
    (∃ (k : Nat) (c : Cmd) (g : Page) (s : State), Started k 1 0x04 c s ∧ c.phase = 0 ∧ moveFault s c = none ∧
      look (u32 c.bytes 12) s.seq.pages = some g ∧ u8 c.bytes 16 = 0 ∧ g.moving = true) ∧
    (∃ (k : Nat) (c : Cmd) (g : Page) (s : State), Started k 1 0x04 c s ∧ c.phase = 0 ∧ moveFault s c = none ∧
      look (u32 c.bytes 12) s.seq.pages = some g ∧ u8 c.bytes 16 = 0 ∧ g.moving = false ∧
      moveRoom s g.car (locHalf s g.loc) = true) ∧
    (∃ (p : Nat) (g : Page) (s : State), look p s.seq.pages = some g) ∧
    (∃ (p : BitVec 32) (m : Move) (g : Page) (s : State), s.live = true ∧ look p.toNat s.seq.moves = some m ∧
      look p.toNat s.seq.pages = some g ∧ gathersFirst s m.car = false ∧
      (let u := notePage g 0 s.im.frameSize s; pageReadable u g = false)) ∧
    (∃ (p : BitVec 32) (m : Move) (g : Page) (s : State), s.live = true ∧ look p.toNat s.seq.moves = some m ∧
      look p.toNat s.seq.pages = some g ∧ gathersFirst s m.car = false ∧
      (let u := notePage g 0 s.im.frameSize s; pageReadable u g = true ∧
      ((g.comp = true → g.sealed_ = true → pageDigest u g = g.digest)))) ∧
    (∃ (p : BitVec 32) (m : Move) (s : State), s.live = true ∧ look p.toNat s.seq.moves = some m ∧
      gathersFirst s m.car = true) ∧
    (∃ (p : Nat) (g : Page) (s : State), look p s.seq.pages = some g) ∧
    (∃ (k : Nat) (c : Cmd) (s : State), Started k 1 0x06 c s ∧ (s.seq.zeroing.any (fun z => z.2 == k) = false) ∧
      (let g := u8 c.bytes 12; (63 < g ∨ s.owner (.group g) ≠ some (Op.car c.bytes) ∨ has g s.seq.zeroing = true ∨ groupEmpty s g = false))) ∧
    (∃ (k : Nat) (c : Cmd) (s : State), Started k 1 0x06 c s ∧ (s.seq.zeroing.any (fun z => z.2 == k) = false) ∧
      (let g := u8 c.bytes 12; g ≤ 63 ∧ s.owner (.group g) = some (Op.car c.bytes) ∧ has g s.seq.zeroing = false ∧
      groupEmpty s g = true)) ∧
    (∃ (g : Fin 64) (k : Nat) (s : State) (a : _), s.live = true ∧ look g.val s.seq.zeroing = some k ∧ ((∀ c,
      s.owner (.group g.val) = some c → gathersFirst s c = false)) ∧ hbmAddr g.val 0 ≤ a ∧ a < hbmAddr g.val 0 + groupSize) ∧
    (∃ (g : Fin 64) (k : Nat) (s : State) (a : _), s.live = true ∧ look g.val s.seq.zeroing = some k ∧ ((∀ c,
      s.owner (.group g.val) = some c → gathersFirst s c = false)) ∧ s.Sound ∧
      (a < hbmAddr g.val 0 ∨ hbmAddr g.val 0 + groupSize ≤ a)) ∧
    (∃ (p : BitVec 32) (g : Page) (s : State) (gr : _) (f : _), s.live = true ∧ look p.toNat s.seq.pages = some g ∧
      p.toNat ∈ s.seq.freeing ∧ walked s p.toNat = false ∧ look p.toNat s.seq.moves = none ∧ g.loc = .hbm gr f) ∧
    (∃ (p : BitVec 32) (g : Page) (s : State), s.live = true ∧ look p.toNat s.seq.pages = some g ∧
      (p.toNat ∉ s.seq.freeing ∨ walked s p.toNat = true)) :=
  ⟨⟨1, (cmd (copyB 0)), sq, (own2 (cmd (copyB 0)) pg), (dropWait (.cmd 1) (own2 (cmd (copyB 0)) pg)),
     by unfold OwnChange Started; decide +kernel⟩,
   ⟨1, (cmd (copyB 1)), sq, (own2 (cmd (copyB 1)) pg), (dropWait (.cmd 1) (own2 (cmd (copyB 1)) pg)), 0x0C,
     by unfold OwnChange Started; decide +kernel⟩,
   ⟨1, (cmdAt 1 (copyB 0) []), sq, ({ page := 3, view := 4 }), pg, (own2 (cmdAt 1 (copyB 0) []) pg),
     by unfold Started; decide +kernel⟩,
   ⟨1, (cmd moveB), ({ pg with moving := true }), (own2 (cmd moveB) { pg with moving := true }),
     by unfold Started; decide +kernel⟩,
   ⟨1, (cmd moveB), pg, (own2 (cmd moveB) pg), by unfold Started; decide +kernel⟩,
   ⟨3, pg, (paged sq pg up), by decide +kernel⟩,
   ⟨3, move3, pg, (bad3 (moving3 (paged sq pg up))), by decide +kernel⟩,
   ⟨3, move3, pg, (moving3 (paged sq pg up)), by decide +kernel⟩,
   ⟨3, move3, gathering, by decide +kernel⟩,
   ⟨3, pg, (paged sq pg up), by decide +kernel⟩,
   ⟨1, (cmd (zeroB 0)), (own2 (cmd (zeroB 0)) pg), by unfold Started; decide +kernel⟩,
   ⟨1, (cmd (zeroB 0)), (run 1 (cmd (zeroB 0)) up), by unfold Started; decide +kernel⟩,
   ⟨0, 1, zeroingG, 12884901887, by decide +kernel⟩,
   ⟨0, 1, zeroingG, 12884901888, rfl, rfl, (by intro c h; exact absurd (zeroingG_owner.symm.trans h) (by simp)), reset_sound,
     by decide⟩,
   ⟨3, pg, (onSeq (fun x => { x with freeing := [3] }) (paged sq pg up)), 0, 0, by decide +kernel⟩,
   ⟨3, pg, (paged sq pg up), by decide +kernel⟩⟩

end W08b

namespace W08c

def tabB (len : Nat) : List Byte := cmdB 1 0x10 0 (leBytes 8 0x1000 ++ leBytes 4 len)
def head (id : Nat) : List Byte := leBytes 4 0x42415442 ++ leBytes 2 id ++ leBytes 1 12 ++ zeros 57
def remB : List Byte := cmdB 1 0x11 0 (leBytes 2 0x105)
def slot0 (queued : Nat) : TSlot := { id := 0x105, cur := true, queued := queued, image := [] }
def tabs (queued owner : Nat) (s : State) : State := onSeq (fun x => { x with tables := [(2, slot0 queued)], classOwner := [(1, owner)] }) s
def wB (heads : Nat) : List Byte :=
  cmdB 1 0x18 0 (zeros 4 ++ leBytes 1 0 ++ leBytes 1 5 ++ zeros 2 ++ leBytes 2 heads ++ leBytes 2 1 ++ leBytes 2 16 ++ zeros 10 ++ leBytes 4 32)

/-- Every clause of Obligations.TablesAndWeightsAreLoadedAndRemoved has states and operands that meet its premises. -/
theorem witness_TablesAndWeightsAreLoadedAndRemoved :
    (∃ (k : Nat) (c : Cmd) (s : State), Started k 1 0x10 c s ∧ (u32 c.bytes 20 ≠ 18496)) ∧
    (∃ (k : Nat) (c : Cmd) (s : State), Started k 1 0x10 c s ∧ u32 c.bytes 20 = 18496 ∧ (c.want ≠ 0)) ∧
    (∃ (k : Nat) (c : Cmd) (s : State), Started k 1 0x10 c s ∧ u32 c.bytes 20 = 18496 ∧ c.want = 0 ∧ (c.phase ≠ 2)) ∧
    (∃ (k : Nat) (c : Cmd) (s : State), Started k 1 0x10 c s ∧ u32 c.bytes 20 = 18496 ∧ c.want = 0 ∧ c.phase = 2) ∧
    (∃ (c : Cmd) (s : State), qConf s c.q = false) ∧
    (∃ (d : List Byte), tableHeadOk d = false) ∧
    (∃ (c : Cmd) (d : List Byte) (s : State), (let cls := u16 d 4 / 256; tableHeadOk d = true ∧
      classForeign s (Op.car c.bytes) cls = true)) ∧
    (∃ (c : Cmd) (d : List Byte) (s : State), (let cls := u16 d 4 / 256; tableHeadOk d = true ∧
      classForeign s (Op.car c.bytes) cls = false)) ∧
    (∃ (id : Nat) (i : Nat) (c : Cmd) (d : List Byte), c.note = [id, i] ∧ tableHeadOk d = true ∧ u16 d 4 = id) ∧
    (∃ (s : State) (cls : Nat) (i : Nat), installSlot s cls = some i) ∧
    (∃ (k : Nat) (i : Nat) (t : TSlot) (c : Cmd) (s : State), Started k 1 0x11 c s ∧ tableOf s (u16 c.bytes 12) = some (i,
      t) ∧ (let foreign := classForeign s (Op.car c.bytes) (u16 c.bytes 12 / 256); foreign = true)) ∧
    (∃ (k : Nat) (i : Nat) (t : TSlot) (c : Cmd) (s : State), Started k 1 0x11 c s ∧ tableOf s (u16 c.bytes 12) = some (i,
      t) ∧ (let foreign := classForeign s (Op.car c.bytes) (u16 c.bytes 12 / 256); foreign = false ∧ (slotLoad s t ≠ 0))) ∧
    (∃ (k : Nat) (i : Nat) (t : TSlot) (c : Cmd) (s : State), Started k 1 0x11 c s ∧ tableOf s (u16 c.bytes 12) = some (i,
      t) ∧ (let foreign := classForeign s (Op.car c.bytes) (u16 c.bytes 12 / 256); foreign = false ∧ slotLoad s t = 0)) ∧
    (∃ (k : Nat) (c : Cmd) (s : State), Started k 1 0x11 c s ∧ tableOf s (u16 c.bytes 12) = none ∧
      classForeign s (Op.car c.bytes) (u16 c.bytes 12 / 256) = false) ∧
    (∃ (k : Nat) (c : Cmd) (s : State), Started k 1 0x18 c s ∧ weightLoadFault s c.bytes = none ∧ c.phase = 0) ∧
    (∃ (k : Nat) (c : Cmd) (s : State) (d : _), Started k 1 0x18 c s ∧ weightLoadFault s c.bytes = none ∧ c.phase = 1 ∧
      c.want = 0 ∧ c.dataStep s (u32 c.bytes 36) true c.buf = .have_ d ∧ bit (u8 c.bytes 18) 0 = false) ∧
    (∃ (k : Nat) (st : Nat) (c : Cmd) (s : State), Started k 1 0x18 c s ∧ weightLoadFault s c.bytes = some st ∧
      (st ≠ Status.claimed)) ∧
    (∃ (b : List Byte), weightInRange b = false) ∧
    (∃ (k : Nat) (c : Cmd) (s : State), Started k 1 0x19 c s) :=
  ⟨⟨1, (cmd (tabB 0)), (run 1 (cmd (tabB 0)) up), by unfold Started; decide +kernel⟩,
   ⟨1, ({ cmd (tabB 18496) with want := 1 }), (run 1 { cmd (tabB 18496) with want := 1 } up),
     by unfold Started; decide +kernel⟩,
   ⟨1, (cmd (tabB 18496)), (run 1 (cmd (tabB 18496)) up), by unfold Started; decide +kernel⟩,
   ⟨1, (cmdAt 2 (tabB 18496) [5]), (run 1 (cmdAt 2 (tabB 18496) [5]) up), by unfold Started; decide +kernel⟩,
   ⟨(cmd []), up, by decide +kernel⟩,
   ⟨[], by decide +kernel⟩,
   ⟨(cmd (tabB 18496)), (head 0x105), (tabs 0 3 up), by decide +kernel⟩,
   ⟨(cmd (tabB 18496)), (head 0x105), up, by decide +kernel⟩,
   ⟨0x105, 1, ({ cmd (tabB 18496) with note := [0x105, 1] }), (head 0x105), by decide +kernel⟩,
   ⟨up, 15, 0, by decide +kernel⟩,
   ⟨1, 2, (slot0 0), (cmd remB), (tabs 0 3 (run 1 (cmd remB) up)), by unfold Started; decide +kernel⟩,
   ⟨1, 2, (slot0 1), (cmd remB), (tabs 1 0 (run 1 (cmd remB) up)), by unfold Started; decide +kernel⟩,
   ⟨1, 2, (slot0 0), (cmd remB), (tabs 0 0 (run 1 (cmd remB) up)), by unfold Started; decide +kernel⟩,
   ⟨1, (cmd remB), (run 1 (cmd remB) up), by unfold Started; decide +kernel⟩,
   ⟨1, (cmd (wB 1)), (run 1 (cmd (wB 1)) up), by unfold Started; decide +kernel⟩,
   ⟨1, (cmdAt 1 (wB 1) (zeros 32)), (run 1 (cmdAt 1 (wB 1) (zeros 32)) up), (zeros 32), by unfold Started; decide +kernel⟩,
   ⟨1, 0x0C, (cmd (wB 0)), (run 1 (cmd (wB 0)) up), by unfold Started; decide +kernel⟩,
   ⟨[], by decide +kernel⟩,
   ⟨1, (cmd (cmdB 1 0x19 0 [])), (run 1 (cmd (cmdB 1 0x19 0 [])) up), by unfold Started; decide +kernel⟩⟩

end W08c

namespace W09a

def createB (nodeset : Nat) : List Byte :=
  cmdB 1 0x20 9 (leBytes 2 16 ++ leBytes 1 1 ++ leBytes 1 10 ++ leBytes 2 1 ++ leBytes 2 nodeset)
def noRoom (s : State) : State :=
  onComp (fun c => { c with image := some { im0 with sects := (1, overwrite (im0.sect 1) 92 (zeros 4)) :: im0.sects } }) s
def own9 (b : List Byte) (q : Seqd) : State := run 1 (cmd b) (paged q pg up)
def forkB : List Byte := cmdB 1 0x22 7 (leBytes 4 9 ++ leBytes 4 4)
def freezeB : List Byte := cmdB 1 0x23 7 (leBytes 4 4)
def heldSeq (s : State) : State := onRas (fun r => { r with holds := [{ seq := 7, car := 0, since := 0 }] }) s
def thawB : List Byte := cmdB 1 0x24 7 []
def linkB : List Byte := cmdB 1 0x25 7 (leBytes 4 3 ++ zeros 4 ++ leBytes 4 1 ++ leBytes 2 4)
def setB : List Byte := cmdB 1 0x27 0 (leBytes 2 255 ++ leBytes 2 2)
def thawR : List Byte := cmdB 1 0x24 7 [1]
def frozen9 : Seqd := { sq with st := 2, freeze := 4 }
def staged9 : Staged :=
  { half := 0, seq := 7, layer := 0, start := 4, count := 1, data := zeros 64, tokens := [0], hash := none, due := 9 }
def thawing (s : State) : State :=
  onSeq (fun x => { x with staged := [staged9] }) (onFox (fun f => { f with coaches := [(0, { coach0 with gather := true, toRead := [(0, { leaf := 0, page := 3, always := true, digital := false, sat := false, b0 := 0 })] })] }) s)

/-- Every clause of Obligations.SequencesAreCreatedForkedFrozenAndQueried has states and operands that meet its premises. -/
theorem witness_SequencesAreCreatedForkedFrozenAndQueried :
    (∃ (k : Nat) (e : Nat) (c : Cmd) (s : State), Started k 1 0x20 c s ∧
      (let b := c.bytes; (let seq := Op.seqId b; (let car := Op.car b; pexpOf s.im (bit (u8 b 15) 0) (bits (u8 b 15) 1 3) (u16 b 12) = some e ∧
      ((seq = 0 ∨ seqPresent s seq = true ∨ createInRange b = false ∨ setUsable s car (u16 b 18) = false)))))) ∧
    (∃ (k : Nat) (e : Nat) (c : Cmd) (s : State), Started k 1 0x20 c s ∧
      (let b := c.bytes; (let seq := Op.seqId b; (let car := Op.car b; pexpOf s.im (bit (u8 b 15) 0) (bits (u8 b 15) 1 3) (u16 b 12) = some e ∧
      (seq ≠ 0) ∧ seqPresent s seq = false ∧ createInRange b = true ∧ setUsable s car (u16 b 18) = true ∧
      s.im.maxSeqs car ≤ seqsOf s car)))) ∧
    (∃ (k : Nat) (e : Nat) (c : Cmd) (s : State), Started k 1 0x20 c s ∧
      (let b := c.bytes; (let seq := Op.seqId b; (let car := Op.car b; pexpOf s.im (bit (u8 b 15) 0) (bits (u8 b 15) 1 3) (u16 b 12) = some e ∧
      (seq ≠ 0) ∧ seqPresent s seq = false ∧ createInRange b = true ∧ setUsable s car (u16 b 18) = true ∧
      seqsOf s car < s.im.maxSeqs car ∧ ((bit (u8 b 26) 0 = false ∨ (s.im.protected_ car = true ∧
      s.canEncrypt car = true))))))) ∧
    (∃ (k : Nat) (c : Cmd) (q : Seqd) (s : State) (t : State), OwnChange k 1 0x21 none c q s t ∧
      snapshotPos s (Op.seqId c.bytes) = none) ∧
    (∃ (k : Nat) (c : Cmd) (q : Seqd) (s : State) (t : State), OwnChange k 1 0x22 none c q s t ∧ c.phase = 0 ∧
      mayChange s (u32 c.bytes 12) (.cmd k) = true) ∧
    (∃ (k : Nat) (c : Cmd) (q : Seqd) (s : State), Started k 1 0x22 c s ∧ (c.phase ≠ 0) ∧
      look (Op.seqId c.bytes) s.seq.seqs = some q) ∧
    (∃ (k : Nat) (c : Cmd) (q : Seqd) (s : State) (t : State), OwnChange k 1 0x23 none c q s t ∧
      snapshotPos s (Op.seqId c.bytes) = none ∧ q.parked = true) ∧
    (∃ (k : Nat) (c : Cmd) (q : Seqd) (s : State) (t : State), OwnChange k 1 0x23 none c q s t ∧
      snapshotPos s (Op.seqId c.bytes) = none ∧ q.parked = false ∧ t.seqHeld q.car (Op.seqId c.bytes) = true) ∧
    (∃ (k : Nat) (c : Cmd) (q : Seqd) (s : State) (t : State), OwnChange k 1 0x23 none c q s t ∧
      snapshotPos s (Op.seqId c.bytes) = none ∧ q.parked = false ∧ t.seqHeld q.car (Op.seqId c.bytes) = false) ∧
    (∃ (seq : Nat) (q : Seqd) (s : State), look seq s.seq.seqs = some q) ∧
    (∃ (k : Nat) (c : Cmd) (q : Seqd) (s : State) (t : State), OwnChange k 1 0x24 none c q s t ∧
      (let seq := Op.seqId c.bytes; q.st = 2 ∧ t.seqHeld q.car seq = false ∧ bit (u8 c.bytes 12) 0 = true ∧
      ((∃ x ∈ t.seq.staged, x.seq = seq ∧ appendWaits t (x.append q.car) = true)))) ∧
    (∃ (k : Nat) (c : Cmd) (q : Seqd) (s : State) (t : State), OwnChange k 1 0x24 none c q s t ∧
      (let seq := Op.seqId c.bytes; q.st = 2 ∧ t.seqHeld q.car seq = false ∧ ((∀ x ∈ t.seq.staged,
      x.seq = seq → appendWaits t (x.append q.car) = false)))) ∧
    (∃ (k : Nat) (c : Cmd) (q : Seqd) (s : State) (t : State), OwnChange k 1 0x25 (some (u16 c.bytes 16)) c q s t ∧
      (let b := c.bytes; (let layer := u16 b 16; linkFault t q.car (Op.seqId b) layer (u8 b 18) (u32 b 20) (u16 b 24) (u32 b 12) q = none))) ∧
    (∃ (p : Nat) (g : Page) (s : State), look p s.seq.pages = some g) ∧
    (∃ (k : Nat) (c : Cmd) (s : State), Started k 1 0x27 c s ∧ u16 c.bytes 12 ≤ 255 ∧ 1 ≤ u16 c.bytes 14 ∧
      u16 c.bytes 14 ≤ 4096 ∧ c.phase = 0) ∧
    (∃ (k : Nat) (c : Cmd) (s : State) (d : _), Started k 1 0x27 c s ∧ u16 c.bytes 12 ≤ 255 ∧ 1 ≤ u16 c.bytes 14 ∧
      u16 c.bytes 14 ≤ 4096 ∧ (c.phase ≠ 0) ∧ c.want = 0 ∧ c.dataStep s (2 * u16 c.bytes 14) true c.buf = .have_ d ∧
      (let raw := (List.range (u16 c.bytes 14)).map (fun i => u16 d (2 * i)); ((∃ x ∈ raw, 4096 ≤ x) ∨ ¬ raw.Nodup))) ∧
    (∃ (k : Nat) (c : Cmd) (s : State) (d : _), Started k 1 0x27 c s ∧ u16 c.bytes 12 ≤ 255 ∧ 1 ≤ u16 c.bytes 14 ∧
      u16 c.bytes 14 ≤ 4096 ∧ (c.phase ≠ 0) ∧ c.want = 0 ∧ c.dataStep s (2 * u16 c.bytes 14) true c.buf = .have_ d ∧
      (let raw := (List.range (u16 c.bytes 14)).map (fun i => u16 d (2 * i)); ((∀ x ∈ raw, x < 4096)) ∧ raw.Nodup ∧
      look (u16 c.bytes 12) s.seq.sets = none ∧ ((∀ e ∈ s.seq.seqs, e.2.nodeset ≠ u16 c.bytes 12)))) ∧
    (∃ (k : Nat) (c : Cmd) (q : Seqd) (s : State) (t : State), OwnSeq k 1 0x28 none c q s t) :=
  ⟨⟨1, 8, (cmd (createB 1)), (own9 (createB 1) sq), by unfold Started; decide +kernel⟩,
   ⟨1, 8, (cmd (createB 0)), (noRoom (own9 (createB 0) sq)), by unfold Started; decide +kernel⟩,
   ⟨1, 8, (cmd (createB 0)), (own9 (createB 0) sq), by unfold Started; decide +kernel⟩,
   ⟨1, (cmd (cmdB 1 0x21 7 [])), sq, (own9 (cmdB 1 0x21 7 []) sq), (dropWait (.cmd 1) (own9 (cmdB 1 0x21 7 []) sq)),
     by unfold OwnChange Started; decide +kernel⟩,
   ⟨1, (cmd forkB), sq, (own9 forkB sq), (dropWait (.cmd 1) (own9 forkB sq)), by unfold OwnChange Started; decide +kernel⟩,
   ⟨1, (cmdAt 1 forkB []), sq, (run 1 (cmdAt 1 forkB []) (paged sq pg up)), by unfold Started; decide +kernel⟩,
   ⟨1, (cmd freezeB), ({ sq with st := 3 }), (own9 freezeB { sq with st := 3 }),
     (dropWait (.cmd 1) (own9 freezeB { sq with st := 3 })), by unfold OwnChange Started; decide +kernel⟩,
   ⟨1, (cmd freezeB), sq, (heldSeq (own9 freezeB sq)), (dropWait (.cmd 1) (heldSeq (own9 freezeB sq))),
     by unfold OwnChange Started; decide +kernel⟩,
   ⟨1, (cmd freezeB), sq, (own9 freezeB sq), (dropWait (.cmd 1) (own9 freezeB sq)),
     by unfold OwnChange Started; decide +kernel⟩,
   ⟨7, sq, (paged sq pg up), by decide +kernel⟩,
   ⟨1, (cmd thawR), frozen9, (thawing (own9 thawR frozen9)), (dropWait (.cmd 1) (thawing (own9 thawR frozen9))),
     by unfold OwnChange Started; decide +kernel⟩,
   ⟨1, (cmd thawB), ({ sq with st := 2, freeze := 4 }), (own9 thawB { sq with st := 2, freeze := 4 }),
     (dropWait (.cmd 1) (own9 thawB { sq with st := 2, freeze := 4 })), by unfold OwnChange Started; decide +kernel⟩,
   ⟨1, (cmd linkB), sq, (own9 linkB sq), (dropWait (.cmd 1) (own9 linkB sq)), by unfold OwnChange Started; decide +kernel⟩,
   ⟨3, pg, (paged sq pg up), by decide +kernel⟩,
   ⟨1, (cmd setB), (run 1 (cmd setB) up), by unfold Started; decide +kernel⟩,
   ⟨1, (cmdAt 1 setB [0, 0, 0, 0]), (run 1 (cmdAt 1 setB [0, 0, 0, 0]) up), [0, 0, 0, 0], by unfold Started; decide +kernel⟩,
   ⟨1, (cmdAt 1 setB [255, 15, 0, 0]), (run 1 (cmdAt 1 setB [255, 15, 0, 0]) up), [255, 15, 0, 0],
     by unfold Started; decide +kernel⟩,
   ⟨1, (cmd (cmdB 1 0x28 7 (leBytes 8 64))), sq, (own9 (cmdB 1 0x28 7 (leBytes 8 64)) sq),
     (own9 (cmdB 1 0x28 7 (leBytes 8 64)) sq), by unfold OwnSeq Started; decide +kernel⟩⟩

end W09a

namespace W09b

def appB (count : Nat) : List Byte := cmdB 1 0x26 7 (leBytes 2 0 ++ leBytes 1 count ++ zeros 1 ++ leBytes 4 4)
def appCmd (phase : Nat) : Cmd := { cmdAt phase (appB 1) (zeros 68) with note := [64, 64] }
def on9 (c : Cmd) : State := run 1 c (paged sq pg up)
def appMsg : List Byte := leBytes 4 7 ++ leBytes 2 0 ++ leBytes 1 1 ++ zeros 1 ++ leBytes 4 4 ++ zeros 20 ++ zeros 4 ++ zeros 64
def locked9 (q : Seqd) : State := tt 2 (paged q pg up)
def app0 : AppIn := { car := 0, seq := 7, layer := 0, start := 4, count := 1, data := zeros 64, tokens := [0], hash := none }
def job9 (t : Option Nat) : SealJob := { seq := 7, layer := 0, tile := t }
def sealing9 : State := onSeq (fun x => { x with sealing := [(3, job9 none)] }) (paged sq pg up)
def busyTile : State := onSeq (fun x => { x with sealing := [(3, job9 (some 0))] }) (onFox (fun f => { f with sealJobs := [(0, 255)] }) (coached coach0 up))

/-- Every clause of Obligations.AppendsAreOrderedAllOrNothing has states and operands that meet its premises. -/
theorem witness_AppendsAreOrderedAllOrNothing :
    (∃ (k : Nat) (c : Cmd) (q : Seqd) (s : State), Started k 1 0x26 c s ∧ look (Op.seqId c.bytes) s.seq.seqs = some q ∧
      (let count := u8 c.bytes 14; c.phase = 0 ∧ (count = 0 ∨ 32 < count))) ∧
    (∃ (k : Nat) (c : Cmd) (q : Seqd) (s : State), Started k 1 0x26 c s ∧ look (Op.seqId c.bytes) s.seq.seqs = some q ∧
      (let count := u8 c.bytes 14; c.phase = 0 ∧ 1 ≤ count ∧ count ≤ 32)) ∧
    (∃ (k : Nat) (c : Cmd) (q : Seqd) (s : State) (d : _), Started k 1 0x26 c s ∧
      look (Op.seqId c.bytes) s.seq.seqs = some q ∧ (let n := nth 0 c.note 0; c.phase = 1 ∧ c.want = 0 ∧
      c.dataStep s n true c.buf = .have_ d)) ∧
    (∃ (k : Nat) (c : Cmd) (q : Seqd) (s : State) (d : _) (tk : _), Started k 1 0x26 c s ∧
      look (Op.seqId c.bytes) s.seq.seqs = some q ∧
      (let count := u8 c.bytes 14; (let n := nth 0 c.note 0; (let raw := nth 0 c.note 1; c.phase = 2 ∧ c.want = 0 ∧
      c.dataStep s n true (c.buf.take raw) = .have_ d ∧ c.dataStep s (4 * count) true (c.buf.drop raw) = .have_ tk)))) ∧
    (∃ (src : BitVec 12) (op : BitVec 32) (e : RxEntry) (q : Seqd) (s : State), Waits (src.toNat, op.toNat) 3 e s ∧
      (let a := msgAppend e e.message; look a.seq s.seq.seqs = some q ∧
      appendWell s.im q.kv (q.slot s.im) (q.scale s.im) e.message = true ∧ appendWaits s a = false ∧
      mayChange s a.seq (.msg src.toNat op.toNat) = true)) ∧
    (∃ (src : BitVec 12) (op : BitVec 32) (e : RxEntry) (q : Seqd) (s : State), Waits (src.toNat, op.toNat) 3 e s ∧
      (let a := msgAppend e e.message; look a.seq s.seq.seqs = some q ∧
      appendWell s.im q.kv (q.slot s.im) (q.scale s.im) e.message = true ∧
      (appendWaits s a = true ∨ mayChange s a.seq (.msg src.toNat op.toNat) = false))) ∧
    (∃ (a : AppIn) (q : Seqd) (k : Nat) (s : State), look a.seq s.seq.seqs = some q ∧
      localOf s q a.layer (a.start / q.p) = some k ∧ a.layer < q.layers ∧ 1 ≤ a.count ∧ a.count ≤ 32 ∧
      a.start + a.count ≤ 16777216 ∧ (a.start + a.count - 1) / q.p = a.start / q.p ∧
      a.data.length = appendBytes s.im q a.count ∧ (q.car ≠ a.car)) ∧
    (∃ (a : AppIn) (q : Seqd) (k : Nat) (s : State), look a.seq s.seq.seqs = some q ∧
      localOf s q a.layer (a.start / q.p) = some k ∧ a.layer < q.layers ∧ 1 ≤ a.count ∧ a.count ≤ 32 ∧
      a.start + a.count ≤ 16777216 ∧ (a.start + a.count - 1) / q.p = a.start / q.p ∧
      a.data.length = appendBytes s.im q a.count ∧ q.car = a.car ∧ ((q.protected_ = false ∨ s.canEncrypt q.car = true)) ∧
      (q.parked = true ∨ (q.st = 2 ∧ q.freeze < a.start + a.count))) ∧
    (∃ (a : AppIn) (q : Seqd) (k : Nat) (s : State), look a.seq s.seq.seqs = some q ∧
      localOf s q a.layer (a.start / q.p) = some k ∧ a.layer < q.layers ∧ 1 ≤ a.count ∧ a.count ≤ 32 ∧
      a.start + a.count ≤ 16777216 ∧ (a.start + a.count - 1) / q.p = a.start / q.p ∧
      a.data.length = appendBytes s.im q a.count ∧ q.car = a.car ∧ ((q.protected_ = false ∨ s.canEncrypt q.car = true)) ∧
      q.parked = false ∧ (¬ (q.st = 2 ∧ q.freeze < a.start + a.count)) ∧ s.timeServes = false) ∧
    (∃ (a : AppIn) (q : Seqd) (k : Nat) (s : State), look a.seq s.seq.seqs = some q ∧
      localOf s q a.layer (a.start / q.p) = some k ∧ a.layer < q.layers ∧ 1 ≤ a.count ∧ a.count ≤ 32 ∧
      a.start + a.count ≤ 16777216 ∧ (a.start + a.count - 1) / q.p = a.start / q.p ∧
      a.data.length = appendBytes s.im q a.count ∧ q.car = a.car ∧ ((q.protected_ = false ∨ s.canEncrypt q.car = true)) ∧
      q.parked = false ∧ (¬ (q.st = 2 ∧ q.freeze < a.start + a.count)) ∧ s.timeServes = true ∧ s.seqHeld q.car a.seq = true) ∧
    (∃ (a : AppIn) (q : Seqd) (k : Nat) (s : State), look a.seq s.seq.seqs = some q ∧
      localOf s q a.layer (a.start / q.p) = some k ∧ a.layer < q.layers ∧ 1 ≤ a.count ∧ a.count ≤ 32 ∧
      a.start + a.count ≤ 16777216 ∧ (a.start + a.count - 1) / q.p = a.start / q.p ∧
      a.data.length = appendBytes s.im q a.count ∧ q.car = a.car ∧ ((q.protected_ = false ∨ s.canEncrypt q.car = true)) ∧
      q.parked = false ∧ (¬ (q.st = 2 ∧ q.freeze < a.start + a.count)) ∧ s.timeServes = true ∧ s.seqHeld q.car a.seq = false ∧
      (readTables a.seq q (some a.layer) s).1 = true) ∧
    (∃ (a : AppIn) (q : Seqd) (k : Nat) (s : State),
      (let r := layerOf s a.seq q a.layer; (let base := a.start / q.p * q.p; (let view := viewOf q r (r.ordinals - 1); (k + 1 < r.ordinals ∨ (k + 1 = r.ordinals ∧
      a.start + a.count ≤ base + view)))))) ∧
    (∃ (a : AppIn) (q : Seqd) (k : Nat) (s : State),
      (let r := layerOf s a.seq q a.layer; (let base := a.start / q.p * q.p; (r.ordinals < k ∨ (k = r.ordinals ∧
      a.start ≠ base))))) ∧
    (∃ (a : AppIn) (q : Seqd) (k : Nat) (s : State),
      (let r := layerOf s a.seq q a.layer; (let base := a.start / q.p * q.p; k = r.ordinals ∧ a.start = base))) ∧
    (∃ (a : AppIn) (q : Seqd) (s : State), look a.seq s.seq.seqs = some q) ∧
    (∃ (s : State), s.live = true) ∧
    (∃ (a : AppIn), 16777216 < a.start + a.count) ∧
    (∃ (p : BitVec 32) (j : SealJob) (g : Page) (s : State), s.live = true ∧ look p.toNat s.seq.sealing = some j ∧
      look p.toNat s.seq.pages = some g ∧ sealMayRun s g.car j = false) ∧
    (∃ (p : BitVec 32) (j : SealJob) (g : Page) (s : State), s.live = true ∧ look p.toNat s.seq.sealing = some j ∧
      look p.toNat s.seq.pages = some g ∧
      (let u := notePage g 0 s.im.frameSize (countJob j (onSeq (fun x => { x with sealing := del p.toNat x.sealing }) s)); sealMayRun s g.car j = true ∧
      pageReadable u g = false)) ∧
    (∃ (p : BitVec 32) (j : SealJob) (g : Page) (s : State), s.live = true ∧ look p.toNat s.seq.sealing = some j ∧
      look p.toNat s.seq.pages = some g ∧
      (let u := notePage g 0 s.im.frameSize (countJob j (onSeq (fun x => { x with sealing := del p.toNat x.sealing }) s)); sealMayRun s g.car j = true ∧
      pageReadable u g = true)) ∧
    (∃ (j : SealJob) (s : State) (t : _), j.tile = some t ∧ ((∃ e ∈ s.fox.coaches, e.2.open_ = true ∧ t ∈ e.2.own))) ∧
    (∃ (t : Nat) (g : Page) (s : State) (u : _), sealTile s g = some t ∧ u ∈ s.tilesOf false g.car ∧ u / 32 = locHalf s g.loc) ∧
    (∃ (seq : BitVec 32) (w : Waiter) (s : State), s.live = true ∧ look seq.toNat s.seq.waiting = some w) ∧
    (∃ (k : Nat) (c : Cmd) (s : State), s.cmd k = some c ∧ Op.opcode c.bytes = 0x21) ∧
    (∃ (src : Nat) (op : Nat) (e : RxEntry) (s : State), look (src, op) s.prt.rx = some e) :=
  ⟨⟨1, (cmd (appB 33)), sq, (on9 (cmd (appB 33))), by unfold Started; decide +kernel⟩,
   ⟨1, (cmd (appB 32)), sq, (on9 (cmd (appB 32))), by unfold Started; decide +kernel⟩,
   ⟨1, (appCmd 1), sq, (on9 (appCmd 1)), (zeros 64), by unfold Started; decide +kernel⟩,
   ⟨1, (appCmd 2), sq, (on9 (appCmd 2)), (zeros 64), (zeros 4), by unfold Started; decide +kernel⟩,
   ⟨5, 6, (msg0 3 appMsg), sq, (rxed (msg0 3 appMsg) (paged sq pg up)), by unfold Waits; decide +kernel⟩,
   ⟨5, 6, (msg0 3 appMsg), sq, (onSeq (fun x => { x with busy := [(7, 1)] }) (rxed (msg0 3 appMsg) (paged sq pg up))),
     by unfold Waits; decide +kernel⟩,
   ⟨({ app0 with car := 1 }), sq, 0, (locked9 sq), by decide +kernel⟩,
   ⟨app0, ({ sq with st := 2, freeze := 4 }), 0, (locked9 { sq with st := 2, freeze := 4 }), by decide +kernel⟩,
   ⟨app0, sq, 0, (paged sq pg up), by decide +kernel⟩,
   ⟨app0, sq, 0, (onRas (fun r => { r with holds := [{ seq := 7, car := 0, since := 0 }] }) (locked9 sq)), by decide +kernel⟩,
   ⟨app0, sq, 0, (locked9 sq), by decide +kernel⟩,
   ⟨({ app0 with start := 3 }), sq, 0, (locked9 sq), by decide +kernel⟩,
   ⟨({ app0 with start := 257 }), sq, 1, (locked9 sq), by decide +kernel⟩,
   ⟨({ app0 with start := 256 }), sq, 1, (locked9 sq), by decide +kernel⟩,
   ⟨app0, sq, (paged sq pg up), by decide +kernel⟩,
   ⟨up, by decide +kernel⟩,
   ⟨({ app0 with start := 16777216 }), by decide +kernel⟩,
   ⟨3, (job9 (some 0)), pg, busyTile, by decide +kernel⟩,
   ⟨3, (job9 none), pg, (onMem (fun m => { m with bad := [(codeKey (hbmAddr 0 im0.shareSize), 2)] }) sealing9),
     by decide +kernel⟩,
   ⟨3, (job9 none), pg, sealing9, by decide +kernel⟩,
   ⟨(job9 (some 0)), busyTile, 0, by decide +kernel⟩,
   ⟨0, pg, up, 0, by decide +kernel⟩,
   ⟨7, (.cmd 1), (onSeq (fun x => { x with waiting := [(7, .cmd 1)] }) up), by decide +kernel⟩,
   ⟨1, (cmd (cmdB 1 0x21 7 [])), (on9 (cmd (cmdB 1 0x21 7 []))), by decide +kernel⟩,
   ⟨5, 6, (msg0 3 appMsg), (rxed (msg0 3 appMsg) up), by decide +kernel⟩⟩

end W09b

namespace W10a

def seen0 : Seen := { leaf := 0, view := 4, page := 3, g := pg }
def scoreB (vectors : Nat) : List Byte :=
  cmdB 2 0x01 7 (leBytes 2 0 ++ leBytes 1 vectors ++ zeros 1 ++ leBytes 4 4 ++ zeros 16 ++ leBytes 4 1)
def own10 (c : Cmd) : State := run 1 c (paged sq pg up)
def scoreD : List Byte := zeros 64 ++ leBytes 2 0x3F80 ++ zeros 46
def rowB (op : Nat) : List Byte := cmdB 2 op 7 (leBytes 2 0xFFFF)
def rowed (refs : Nat) : Page := { pg with foxRow := some 5, refs := refs }
def sealedPg : Page := { pg with sealed_ := true }
def rowless10 (at_ : List (Nat × Nat)) : State :=
  setRg .FOX_C_CTRL_REFILL 0 1 (setRg .FOX_M_STAT_STATE 0 1 (onFox (fun f => { f with rowless := [3], refillAt := at_ })
    (onComp (fun c => { c with image := some { im0 with sects := (4, [0] ++ List.replicate 31 255) :: im0.sects } }) (paged sq sealedPg up))))
theorem rowless10_now : (rowless10 [(0, 0)]).fox.rowless.filter (refillable (rowless10 [(0, 0)]) 0) = [3] := by decide +kernel
theorem rowless10_first : (rowless10 []).fox.rowless.filter (refillable (rowless10 []) 0) = [3] := by decide +kernel

/-- Every clause of Obligations.FoxScoresSelectsAndBindsRows has states and operands that meet its premises. -/
theorem witness_FoxScoresSelectsAndBindsRows :
    (∃ (id : Nat) (c : Coach) (q : Seqd) (s : State), Working id c q s ∧ passesLeft s c = true ∧ c.whole = true ∧
      waitsFor s id c (passesLeft s) = false) ∧
    (∃ (code : Int), code = 31) ∧
    (∃ (d : List Byte) (all : List Scored), Desc.topK d = true ∧ all.length < Desc.k d) ∧
    (∃ (id : Nat) (c : Coach) (q : Seqd) (s : State), Working id c q s ∧ c.whole = true ∧ c.cands = none ∧
      passesLeft s c = false ∧ exactCoach s c = true) ∧
    (∃ (id : Nat) (c : Coach) (q : Seqd) (s : State), Working id c q s ∧ c.whole = true ∧ c.cands = none ∧
      passesLeft s c = false ∧ exactCoach s c = false) ∧
    (∃ (c : Coach), c.cmd = none) ∧
    (∃ (s : State) (c : Coach) (q : Seqd) (seen : List Seen) (x : Cand), x ∈ exactCands s c q seen) ∧
    (∃ (k : Nat) (c : Cmd) (q : Seqd) (s : State) (t : State) (st : _), OwnSeq k 2 0x01 (some (u16 c.bytes 12)) c q s t ∧
      c.phase < 2 ∧ scoreFault c q = some st) ∧
    (∃ (k : Nat) (c : Cmd) (q : Seqd) (s : State) (t : State), OwnSeq k 2 0x01 (some (u16 c.bytes 12)) c q s t ∧ c.phase = 0 ∧
      scoreFault c q = none) ∧
    (∃ (k : Nat) (c : Cmd) (q : Seqd) (s : State) (t : State) (d : _), OwnSeq k 2 0x01 (some (u16 c.bytes 12)) c q s t ∧
      (let v := u8 c.bytes 14; c.phase = 1 ∧ scoreFault c q = none ∧ c.want = 0 ∧
      c.dataStep t (80 * v + 32) true c.buf = .have_ d ∧ ((∀ i,
      i < v → descWell (slice (slice d (64 * v) (16 * v)) (16 * i) 16) = true)))) ∧
    (∃ (k : Nat) (c : Cmd) (q : Seqd) (s : State) (t : State), OwnSeq k 2 0x03 none c q s t ∧ rowCmdFault t c q = none) ∧
    (∃ (k : Nat) (c : Cmd) (q : Seqd) (s : State) (t : State), OwnSeq k 2 0x04 none c q s t ∧ rowCmdFault t c q = none) ∧
    (∃ (p : Nat) (r : Nat) (g : Page) (s : State), look p s.seq.pages = some g ∧ g.foxRow = some r ∧ g.refs = 1) ∧
    (∃ (p : Nat) (r : Nat) (g : Page) (s : State), look p s.seq.pages = some g ∧ g.foxRow = some r ∧ (g.refs ≠ 1)) ∧
    (∃ (half : Fin 2) (s : State), s.live = true ∧ s.fox.rowless.filter (refillable s half.val) = []) ∧
    (∃ (half : Fin 2) (p : Nat) (g : Page) (s : State), s.live = true ∧ look p s.seq.pages = some g ∧
      s.fox.rowless.filter (refillable s half.val) = [p] ∧ ((∃ at_, look half.val s.fox.refillAt = some at_ ∧
      s.clk < at_ + 100))) ∧
    (∃ (half : Fin 2) (p : Nat) (g : Page) (s : State), s.live = true ∧ look p s.seq.pages = some g ∧
      s.fox.rowless.filter (refillable s half.val) = [p] ∧ look half.val s.fox.refillAt = none) :=
  ⟨⟨0, coach0, sq, (coached coach0 up), by unfold Working; decide +kernel⟩,
   ⟨31, by decide +kernel⟩,
   ⟨(zeros 6 ++ [1] ++ zeros 5 ++ [1, 0, 0, 0]), [], by decide +kernel⟩,
   ⟨0, coach0, sq, (setRg .FOX_C_CTRL_EXACT 0 1 (coached coach0 up)), by unfold Working; decide +kernel⟩,
   ⟨0, ({ coach0 with vectors := 0 }), sq, (coached { coach0 with vectors := 0 } up), by unfold Working; decide +kernel⟩,
   ⟨coach0, by decide +kernel⟩,
   ⟨up, coach0, sq, [seen0], (candOf (alwaysIn up coach0 sq seen0) seen0 []), by decide +kernel⟩,
   ⟨1, (cmd (scoreB 0)), sq, (own10 (cmd (scoreB 0))), (own10 (cmd (scoreB 0))), 0x0C,
     by unfold OwnSeq Started; decide +kernel⟩,
   ⟨1, (cmd (scoreB 1)), sq, (own10 (cmd (scoreB 1))), (own10 (cmd (scoreB 1))), by unfold OwnSeq Started; decide +kernel⟩,
   ⟨1, (cmdAt 1 (scoreB 1) scoreD), sq, (own10 (cmdAt 1 (scoreB 1) scoreD)), (own10 (cmdAt 1 (scoreB 1) scoreD)), scoreD,
     by unfold OwnSeq Started; decide +kernel⟩,
   ⟨1, (cmd (rowB 3)), sq, (own10 (cmd (rowB 3))), (own10 (cmd (rowB 3))), by unfold OwnSeq Started; decide +kernel⟩,
   ⟨1, (cmd (rowB 4)), sq, (own10 (cmd (rowB 4))), (own10 (cmd (rowB 4))), by unfold OwnSeq Started; decide +kernel⟩,
   ⟨3, 5, (rowed 1), (paged sq (rowed 1) up), by decide +kernel⟩,
   ⟨3, 5, (rowed 2), (paged sq (rowed 2) up), by decide +kernel⟩,
   ⟨1, up, by decide +kernel⟩,
   ⟨0, 3, sealedPg, (rowless10 [(0, 0)]), rfl, rfl, rowless10_now, 0, rfl, by decide⟩,
   ⟨0, 3, sealedPg, (rowless10 []), rfl, rfl, rowless10_first, rfl⟩⟩

end W10a

namespace W10b

def calB (mode : Nat) : List Byte := cmdB 2 0x02 0 (leBytes 4 0x80000000 ++ leBytes 1 mode)
def macroAt (st : Nat) (cal : Option CalCause) (s : State) : State := setRg .FOX_M_STAT_STATE 2047 st (setMacro 2047 { Macro.init with cal := cal } s)

/-- Every clause of Obligations.FoxMacrosCalibrate has states and operands that meet its premises. -/
theorem witness_FoxMacrosCalibrate :
    (∃ (k : Nat) (c : Cmd) (s : State), Started k 2 0x02 c s ∧ c.phase = 0 ∧ 1 < u8 c.bytes 16) ∧
    (∃ (k : Nat) (c : Cmd) (s : State), Started k 2 0x02 c s ∧ c.phase = 0 ∧
      (let blocks := u32 c.bytes 12; (let own := (bitsOf 32 blocks).all (fun b => s.serves c.old (.fox b) == some (Op.car c.bytes)); u8 c.bytes 16 ≤ 1 ∧
      own = false))) ∧
    (∃ (k : Nat) (c : Cmd) (s : State), Started k 2 0x02 c s ∧ c.phase = 0 ∧
      (let blocks := u32 c.bytes 12; (let own := (bitsOf 32 blocks).all (fun b => s.serves c.old (.fox b) == some (Op.car c.bytes)); u8 c.bytes 16 ≤ 1 ∧
      own = true))) ∧
    (∃ (m : Nat) (s : State), s.macroSt m = 1) ∧
    (∃ (m : Fin 2048) (s : State), s.live = true ∧ (s.macro_ m.val).cal = none) ∧
    (∃ (m : Fin 2048) (s : State), s.live = true ∧ ((s.macro_ m.val).cal ≠ none) ∧ verifyOnly (s.macro_ m.val).cal = false ∧
      inWindow s m.val = false) ∧
    (∃ (m : Fin 2048) (s : State), s.live = true ∧ ((s.macro_ m.val).cal ≠ none) ∧
      (verifyOnly (s.macro_ m.val).cal = true ∨ inWindow s m.val = true)) ∧
    (∃ (m : Nat) (sigma : Nat) (s : State), sigma ≤ 150 ∧ verifyOnly (s.macro_ m).cal = false) ∧
    (∃ (m : Nat) (sigma : Nat) (s : State), sigma ≤ 150 ∧ verifyOnly (s.macro_ m).cal = true) ∧
    (∃ (m : Nat) (sigma : Nat) (s : State), sigma ≤ 150 ∧ s.rg .FOX_M_HOLD_FORCE_OUT m = 0) ∧
    (∃ (m : Nat) (sigma : Nat) (s : State), sigma ≤ 150 ∧ s.rg .FOX_M_HOLD_FORCE_OUT m = 1) ∧
    (∃ (m : Nat) (s : State), s.rg .FOX_M_STAT_FAILS m < 2) ∧
    (∃ (m : Nat) (s : State), 2 ≤ s.rg .FOX_M_STAT_FAILS m) ∧
    (∃ (m : Fin 2048) (s : State), s.live = true ∧
      (let owner := s.serves false (.fox (m.val / 64)); (let claimed := s.fox.coaches.any (fun e => some e.2.car == owner && e.2.open_ && passesLeft s e.2); s.rg .FOX_CTRL_AUTO_CAL 0 = 1 ∧
      (owner ≠ none) ∧ recalDue s m.val = true ∧ (s.macro_ m.val).cal = none ∧ blockBusy s (m.val / 64) = false ∧
      claimed = false ∧ s.rg .FOX_M_HOLD_FORCE_OUT m.val = 0))) ∧
    (∃ (m : Fin 2048) (s : State), s.live = true ∧
      (let owner := s.serves false (.fox (m.val / 64)); (let claimed := s.fox.coaches.any (fun e => some e.2.car == owner && e.2.open_ && passesLeft s e.2); (s.rg .FOX_CTRL_AUTO_CAL 0 = 0 ∨ owner = none ∨ recalDue s m.val = false ∨ (s.macro_ m.val).cal ≠ none ∨ blockBusy s (m.val / 64) = true ∨ claimed = true)))) ∧
    (∃ (m : Fin 2048) (refs : List Int) (s : State), s.live = true ∧ (s.macroSt m.val ≠ 0) ∧ refs.length = 8) ∧
    (∃ (m : Nat) (s : State), s.rg .FOX_M_HOLD_FREEZE m = 0) ∧
    (∃ (s : State), s.live = true ∧ s.clk < s.fox.compAt + 65536) ∧
    (∃ (s : State) (m : _), s.live = true ∧ s.fox.compAt + 65536 ≤ s.clk ∧ m < 2048 ∧
      (s.macroSt m = 0 ∨ s.rg .FOX_M_HOLD_FREEZE m = 1)) ∧
    (∃ (s : State) (m : _), s.live = true ∧ s.fox.compAt + 65536 ≤ s.clk ∧ m < 2048 ∧ (s.macroSt m ≠ 0) ∧
      s.rg .FOX_M_HOLD_FREEZE m = 0) ∧
    (∃ (owned : Bool), owned = false) ∧
    (∃ (owned : Bool) (m : Nat) (s : State), owned = true ∧ s.rg .FOX_M_STAT_FAILS m < 3) :=
  ⟨⟨1, (cmd (calB 2)), (run 1 (cmd (calB 2)) up), by unfold Started; decide +kernel⟩,
   ⟨1, (cmd (calB 1)), (run 1 (cmd (calB 1)) State.reset), by unfold Started; decide +kernel⟩,
   ⟨1, (cmd (calB 1)), (run 1 (cmd (calB 1)) up), by unfold Started; decide +kernel⟩,
   ⟨2047, (macroAt 1 none up), by decide +kernel⟩,
   ⟨2047, (macroAt 1 none up), by decide +kernel⟩,
   ⟨2047, (macroAt 1 (some .recal) up), by decide +kernel⟩,
   ⟨2047, (macroAt 1 (some .verify) up), by decide +kernel⟩,
   ⟨2047, 150, up, by decide +kernel⟩,
   ⟨2047, 150, (macroAt 1 (some .verify) up), by decide +kernel⟩,
   ⟨2047, 150, up, by decide +kernel⟩,
   ⟨2047, 150, (setRg .FOX_M_HOLD_FORCE_OUT 2047 1 up), by decide +kernel⟩,
   ⟨2047, (setRg .FOX_M_STAT_FAILS 2047 1 up), by decide +kernel⟩,
   ⟨2047, (setRg .FOX_M_STAT_FAILS 2047 2 up), by decide +kernel⟩,
   ⟨2047, (setRg .FOX_CTRL_AUTO_CAL 0 1 (macroAt 2 none up)), by decide +kernel⟩,
   ⟨2047, (setRg .FOX_CTRL_AUTO_CAL 0 1 (macroAt 2 (some .recal) up)), by decide +kernel⟩,
   ⟨2047, [0, 0, 0, 0, 0, 0, 0, 0], (macroAt 1 none up), by decide +kernel⟩,
   ⟨2047, up, by decide +kernel⟩,
   ⟨(at_ 65535 0 up), by decide +kernel⟩,
   ⟨(at_ 65536 0 up), 2047, by decide +kernel⟩,
   ⟨(at_ 65536 0 (macroAt 1 none up)), 2047, by decide +kernel⟩,
   ⟨false, by decide +kernel⟩,
   ⟨true, 2047, up, by decide +kernel⟩⟩

end W10b

namespace W11

def cand0 : Cand := { leaf := 0, page := 3, always := true, digital := false, sat := false, b0 := 0 }
def on11 (c : Coach) (q : Seqd) (g : Page) : State := onFox (fun f => { f with coaches := [(0, c)], nextCoach := 1 }) (paged q g up)
def selected : Coach := { coach0 with cands := some [cand0] }
def reading : Coach := { coach0 with gather := true, cands := some [cand0], toRead := [(0, cand0)] }
def readC (tiles : List (Nat × List (Nat × Part))) : Coach := { coach0 with gather := true, cands := some [], tiles := tiles }
def attnB : List Byte := cmdB 3 0x01 7 (leBytes 2 0 ++ leBytes 1 1)
def attnP : List Byte := leBytes 2 1 ++ leBytes 1 1 ++ zeros 1 ++ leBytes 4 0x3F800000 ++ zeros 8 ++ leBytes 4 4 ++ zeros 2 ++ leBytes 2 16 ++ zeros 8
def own11 (c : Cmd) : State := run 1 c (paged sq pg up)
def fetchOf (c : Coach) (s : State) : Except Nat (List Rec) × State := fetchCand c sq cand0 s
def d11 : List Byte := attnP ++ zeros 96 ++ leBytes 2 0x3F80 ++ zeros 14

/-- Every clause of Obligations.CoachesAreGatheredScoredAndMerged has states and operands that meet its premises. -/
theorem witness_CoachesAreGatheredScoredAndMerged :
    (∃ (id : Nat) (c : Coach) (q : Seqd) (s : State), Working id c q s ∧ c.gather = false ∧ (c.cands ≠ none) ∧
      c.cmd.any (isScore s) = false ∧ waitsFor s id c gatherLeft = false) ∧
    (∃ (c : Coach) (q : Seqd) (e : Seen) (s : State), e ∈ seenPages s c q ∧ e.leaf ∉ c.walked ∧
      (exactCoach s c = false ∨ (basePos s q c.layer e.leaf < Prm.pos c.params ∧ 0 < e.view))) ∧
    (∃ (id : Nat) (half : Fin 2) (c : Coach) (q : Seqd) (s : State), Working id c q s ∧
      (c.gather = false ∨ waitsFor s id c gatherLeft = true ∨ (∀ e ∈ c.toRead, e.1 ≠ half.val))) ∧
    (∃ (id : Nat) (half : Fin 2) (c : Coach) (q : Seqd) (s : State) (x : _), Working id c q s ∧ c.gather = true ∧
      waitsFor s id c gatherLeft = false ∧ (c.toRead.find? (fun e => e.1 == half.val) = some (half.val, x)) ∧
      ringShare c half.val < ringUsed s c.car half.val + candSize s c q x) ∧
    (∃ (id : Nat) (half : Fin 2) (c : Coach) (q : Seqd) (s : State) (x : _) (rs : _), Working id c q s ∧ c.gather = true ∧
      waitsFor s id c gatherLeft = false ∧ (c.toRead.find? (fun e => e.1 == half.val) = some (half.val, x)) ∧
      ringUsed s c.car half.val + candSize s c q x ≤ ringShare c half.val ∧ look x.leaf c.ahead = some rs) ∧
    (∃ (id : Nat) (half : Fin 2) (c : Coach) (q : Seqd) (s : State) (x : _) (rs : _) (t : _), Working id c q s ∧
      c.gather = true ∧ waitsFor s id c gatherLeft = false ∧ (c.toRead.find? (fun e => e.1 == half.val) = some (half.val,
      x)) ∧ ringUsed s c.car half.val + candSize s c q x ≤ ringShare c half.val ∧ look x.leaf c.ahead = none ∧
      fetchCand c q x s = (.ok rs, t)) ∧
    (∃ (id : Nat) (half : Fin 2) (c : Coach) (q : Seqd) (s : State) (x : _) (st : _) (t : _), Working id c q s ∧
      c.gather = true ∧ waitsFor s id c gatherLeft = false ∧ (c.toRead.find? (fun e => e.1 == half.val) = some (half.val,
      x)) ∧ ringUsed s c.car half.val + candSize s c q x ≤ ringShare c half.val ∧ look x.leaf c.ahead = none ∧
      fetchCand c q x s = (.error st, t)) ∧
    (∃ (x : Cand) (g : Page) (s : State) (st : _), look x.page s.seq.pages = some g ∧ pageFault s g = some st ∧
      (st ≠ Status.keyRetired) ∧ (st ≠ Status.claimed)) ∧
    (∃ (x : Cand) (g : Page) (c : Coach) (q : Seqd) (s : State), look x.page s.seq.pages = some g ∧ pageFault s g = none ∧
      g.comp = false ∧ s.mem.bad = [] ∧ slotsReadable s q g (candSlots s c q x g) = true) ∧
    (∃ (id : Nat) (c : Coach) (q : Seqd) (s : State), Working id c q s ∧ q.latent = true ∧ c.whole = true ∧
      c.absorbed = none ∧ c.cmd.any (isScore s) = false ∧ spareFirst s c = false ∧
      (waitsFor s id c (fun d => d.absorbed.isNone && (look d.seq s.seq.seqs).any (fun q => q.latent)) = false)) ∧
    (∃ (id : Nat) (tile : Fin 64) (c : Coach) (q : Seqd) (s : State), Working id c q s ∧
      (let half := tile.val / 32; (let ts := c.on half; tile.val ∈ ts ∧ halfRead c half = true ∧ c.whole = true ∧
      ((q.latent = true → c.absorbed ≠ none)) ∧ has tile.val c.tiles = false ∧ spareFirst s c = false ∧
      (waitsFor s id c (fun d => !has tile.val d.tiles && d.result.isNone) = false)))) ∧
    (∃ (id : Nat) (half : Fin 2) (c : Coach) (q : Seqd) (s : State), Working id c q s ∧ (let ts := c.on half.val; (ts ≠ []) ∧
      has half.val c.halves = false ∧ ((∀ t ∈ ts, has t c.tiles = true)))) ∧
    (∃ (id : Nat) (half : Fin 2) (c : Coach) (q : Seqd) (s : State) (t : Nat), Working id c q s ∧ t ∈ c.on half.val ∧
      has t c.tiles = false) ∧
    (∃ (id : Nat) (c : Coach) (q : Seqd) (s : State), Working id c q s ∧ c.gather = true ∧ c.toRead = [] ∧ c.whole = true ∧
      ((q.latent = true → c.absorbed ≠ none)) ∧ ((∀ h ∈ neededHalves c q, has h c.halves = true))) ∧
    (∃ (a : Part) (b : Part), F32.max a.m b.m = F32.negInf) ∧
    (∃ (k : Nat) (m : Cmd) (q : Seqd) (s : State) (t : State) (n : _), OwnSeq k 3 0x01 (some (u16 m.bytes 12)) m q s t ∧
      m.phase < 3 ∧ m.want = 0 ∧ m.dataStep t 32 false m.buf = .ask n) ∧
    (∃ (k : Nat) (m : Cmd) (q : Seqd) (s : State) (t : State) (d : _), OwnSeq k 3 0x01 (some (u16 m.bytes 12)) m q s t ∧
      m.phase < 3 ∧ m.want = 0 ∧ m.dataStep t 32 false m.buf = .have_ d) ∧
    (∃ (m : Cmd) (q : Seqd) (d : List Byte) (f : _), (let v := u8 m.bytes 14; (m.phase ≠ 2) ∧
      attnParamFault q v (slice d 0 32) = some f)) ∧
    (∃ (m : Cmd) (q : Seqd) (d : List Byte) (s : State) (a : _),
      (let v := u8 m.bytes 14; (let n := 32 + attnBytes q (slice d 0 32) v; (m.phase = 2 ∨ attnParamFault q v (slice d 0 32) = none) ∧
      m.dataStep s n true m.buf = .ask a))) ∧
    (∃ (m : Cmd) (q : Seqd) (d : List Byte) (s : State) (e : _),
      (let v := u8 m.bytes 14; (let n := 32 + attnBytes q (slice d 0 32) v; (m.phase = 2 ∨ attnParamFault q v (slice d 0 32) = none) ∧
      m.dataStep s n true m.buf = .have_ e))) ∧
    (∃ (m : Cmd) (q : Seqd) (d : List Byte) (s : State) (f : _),
      (let p := slice d 0 32; (let n := queryBytes q p; (let v := u8 m.bytes 14; (let descs := slice d (32 + n + 64 * v) (16 * v); attnFault s m q p descs = some f ∧
      (f ≠ (Status.badCommand, 8))))))) ∧
    (∃ (m : Cmd) (q : Seqd) (d : List Byte) (s : State),
      (let p := slice d 0 32; (let n := queryBytes q p; (let v := u8 m.bytes 14; (let descs := slice d (32 + n + 64 * v) (16 * v); attnFault s m q p descs = none))))) :=
  ⟨⟨0, selected, sq, (on11 selected sq pg), by unfold Working; decide +kernel⟩,
   ⟨coach0, sq, ({ leaf := 0, view := 4, page := 3, g := pg }), (on11 coach0 sq pg), by decide +kernel⟩,
   ⟨0, 1, reading, sq, (on11 reading sq pg), by unfold Working; decide +kernel⟩,
   ⟨0, 0, ({ reading with own := [] }), sq, (on11 { reading with own := [] } sq pg), cand0, by unfold Working; decide +kernel⟩,
   ⟨0, 0, ({ reading with ahead := [(0, [])] }), sq, (on11 { reading with ahead := [(0, [])] } sq pg), cand0, [],
     by unfold Working; decide +kernel⟩,
   ⟨0, 0, reading, sq, (on11 reading sq pg), cand0, (fetchOf reading (on11 reading sq pg)).1.toOption.getD [],
     (fetchOf reading (on11 reading sq pg)).2, by unfold Working; decide +kernel⟩,
   ⟨0, 0, reading, sq, (on11 reading sq { pg with prot := true }), cand0, Status.accessDenied,
     (fetchOf reading (on11 reading sq { pg with prot := true })).2, by unfold Working; decide +kernel⟩,
   ⟨cand0, ({ pg with prot := true }), (on11 reading sq { pg with prot := true }), Status.accessDenied, by decide +kernel⟩,
   ⟨cand0, pg, reading, sq, (on11 reading sq pg), by decide +kernel⟩,
   ⟨0, coach0, ({ sq with latent := true }), (on11 coach0 { sq with latent := true } pg), by unfold Working; decide +kernel⟩,
   ⟨0, 0, (readC []), sq, (on11 (readC []) sq pg), by unfold Working; decide +kernel⟩,
   ⟨0, 1, (readC [(32, [])]), sq, (on11 (readC [(32, [])]) sq pg), by unfold Working; decide +kernel⟩,
   ⟨0, 1, (readC []), sq, (on11 (readC []) sq pg), 32, by unfold Working; decide +kernel⟩,
   ⟨0, (readC []), sq, (on11 (readC []) sq pg), by unfold Working; decide +kernel⟩,
   ⟨(Part.empty 1), (Part.empty 1), by decide +kernel⟩,
   ⟨1, (cmd attnB), sq, (own11 (cmd attnB)), (own11 (cmd attnB)), 32, by unfold OwnSeq Started; decide +kernel⟩,
   ⟨1, (cmdAt 1 attnB attnP), sq, (own11 (cmdAt 1 attnB attnP)), (own11 (cmdAt 1 attnB attnP)), attnP,
     by unfold OwnSeq Started; decide +kernel⟩,
   ⟨(cmd attnB), sq, [], (0x0C, 10), by decide +kernel⟩,
   ⟨(cmdAt 2 attnB attnP), sq, attnP, up, (attnBytes sq attnP 1), by decide +kernel⟩,
   ⟨(cmdAt 2 attnB (attnP ++ zeros (attnBytes sq attnP 1))), sq, attnP, up, (attnP ++ zeros (attnBytes sq attnP 1)),
     by decide +kernel⟩,
   ⟨(cmd attnB), sq, attnP, up, (attnFault up (cmd attnB) sq attnP (zeros 16)).getD (0, 0), by decide +kernel⟩,
   ⟨(cmd attnB), sq, d11, up, by decide +kernel⟩⟩

end W11

namespace W12

def treed (s : State) : State := onComp (fun c => { c with image := some { im0 with sects := (11, leBytes 2 1 ++ zeros 126 ++ zeros 3 ++ [1] ++ zeros 28) :: im0.sects } }) s
def holdsNext (s : State) : State := setRg .CMP_STATUS_STATE 0 5 (onComp (fun c => { c with staged := some { im0 with epoch := 1 } }) s)
def headB : List Byte :=
  leBytes 4 7 ++ zeros 4 ++ leBytes 8 0 ++ leBytes 8 1000 ++ zeros 8 ++ zeros 2 ++ leBytes 2 128 ++ leBytes 4 32 ++ zeros 24 ++
  leBytes 2 1 ++ leBytes 1 1 ++ leBytes 1 32 ++ leBytes 4 0x3F800000 ++ zeros 8 ++ leBytes 4 4 ++ zeros 2 ++ leBytes 2 16 ++ zeros 8 ++ zeros 32
def headE : RxEntry := { msg0 1 headB with hdr := leBytes 1 1 ++ zeros 15 ++ leBytes 4 160 ++ zeros 84 }
def arriving : State := treed (paged sq pg up)
def firstB (epoch : Nat) : List Byte := zeros 6 ++ leBytes 2 epoch ++ zeros 6 ++ leBytes 2 epoch ++ zeros 144
def first12 (ty epoch : Nat) (coach : Option Nat) : RxEntry := { msg0 ty (firstB epoch) with coach := coach }
def shut : Coach := { coach0 with open_ := false }
def on12 (c : Coach) (q : Seqd) (ft : Nat) : State := at_ 0 ft (onFox (fun f => { f with coaches := [(0, c)], nextCoach := 1 }) (paged q pg up))
def ctx0 (sent : Bool) : Ctx :=
  { car := 0, seq := 7, layer := 0, epoch := 0, deadline := 100, close := 50, tree := zeros 32, blocks := 1, slots := [], acc := [],
    covered := 0, missing := 0, failed := 0, worst := 0, minFreeze := 0xFFFFFFFF, flags := 0, vectors := 0, vdim := 0,
    summaries := [], sent := sent }
def coupled (sent : Bool) (ft : Nat) : State := at_ 0 ft (onDep (fun d => { d with ctxs := [((0, 0, 0), ctx0 sent)] }) up)
def next12 : RxEntry := { first12 1 1 none with seen := { cur := some 0, old := [], armed := some 1 } }
def tree0 (s : State) : List Byte := (s.im.tree 0).getD []
def treeC : List Byte := zeros 3 ++ [2] ++ zeros 7 ++ [1] ++ zeros 20
def forked (s : State) : State :=
  onComp (fun c => { c with image := some { im0 with sects :=
    (11, leBytes 2 1 ++ zeros 2 ++ leBytes 2 9 ++ zeros 30 ++ leBytes 2 9 ++ zeros 90 ++ treeC) :: im0.sects } }) s
def partC : List Byte := zeros 16 ++ leBytes 8 1000 ++ zeros 136
def coupledC (sent : Bool) (ft : Nat) : State :=
  forked (at_ 0 ft (onDep (fun d => { d with ctxs := [((0, 0, 0), { ctx0 sent with tree := treeC })] }) up))

/-- Every clause of Obligations.CoachesArriveDepartAndCouple has states and operands that meet its premises. -/
theorem witness_CoachesArriveDepartAndCouple :
    (∃ (src : BitVec 12) (op : BitVec 32) (e : RxEntry) (s : State) (id : _), s.live = true ∧ look (src.toNat,
      op.toNat) s.prt.rx = some e ∧ H.mtype e.hdr = 1 ∧ e.coach = some id) ∧
    (∃ (src : BitVec 12) (op : BitVec 32) (e : RxEntry) (b : List Byte) (s : State), s.live = true ∧ look (src.toNat,
      op.toNat) s.prt.rx = some e ∧ H.mtype e.hdr = 1 ∧ e.coach = none ∧ e.firstPacket = some b ∧
      (e.epochUse (Hd.epoch b) ≠ .hold ∨ coachShare s false e.car < coachMemUsed s e.car + e.coachSize)) ∧
    (∃ (src : BitVec 12) (op : BitVec 32) (e : RxEntry) (b : List Byte) (s : State), s.live = true ∧ look (src.toNat,
      op.toNat) s.prt.rx = some e ∧ H.mtype e.hdr = 1 ∧ e.coach = none ∧ e.firstPacket = some b ∧
      e.epochUse (Hd.epoch b) = .hold ∧ coachMemUsed s e.car + e.coachSize ≤ coachShare s false e.car) ∧
    (∃ (e : RxEntry) (b : List Byte) (s : State),
      (let c := headerCoach s e b; (let named := ((s.mapOf (e.epochUse c.epoch)).tree (c.group % 4096)).any (fun t => Tree.contributor t && Tree.car t == c.car); named = false))) ∧
    (∃ (e : RxEntry) (b : List Byte) (s : State) (q : _),
      (let c := headerCoach s e b; (let named := ((s.mapOf (e.epochUse c.epoch)).tree (c.group % 4096)).any (fun t => Tree.contributor t && Tree.car t == c.car); named = true ∧
      e.car = c.car ∧ coachFault s e c b = none ∧ look c.seq s.seq.seqs = some q))) ∧
    (∃ (e : RxEntry) (b : List Byte) (s : State) (st : _) (r : _),
      (let c := headerCoach s e b; (let named := ((s.mapOf (e.epochUse c.epoch)).tree (c.group % 4096)).any (fun t => Tree.contributor t && Tree.car t == c.car); named = true ∧
      e.car = c.car ∧ coachFault s e c b = some (st, r) ∧ (st ≠ Status.late) ∧ ((st, r) ≠ (Status.badCommand, 8))))) ∧
    (∃ (id : Nat) (c : Coach) (q : Seqd) (s : State), s.live = true ∧ s.coach id = some c ∧ c.open_ = false ∧ c.cmd = none ∧
      look c.seq s.seq.seqs = some q ∧ (s.ft < c.depart ∨ c.cutoff ≤ s.ft)) ∧
    (∃ (id : Nat) (c : Coach) (q : Seqd) (s : State), s.live = true ∧ s.coach id = some c ∧ c.open_ = false ∧ c.cmd = none ∧
      look c.seq s.seq.seqs = some q ∧ c.depart ≤ s.ft ∧ s.ft < c.cutoff ∧ areasWell c.own q c.params = true ∧
      q.parked = true) ∧
    (∃ (id : Nat) (c : Coach) (q : Seqd) (s : State), s.live = true ∧ s.coach id = some c ∧ c.open_ = false ∧ c.cmd = none ∧
      look c.seq s.seq.seqs = some q ∧ c.depart ≤ s.ft ∧ s.ft < c.cutoff ∧ areasWell c.own q c.params = true ∧
      q.parked = false) ∧
    (∃ (q : Seqd), q.latent = false) ∧
    (∃ (id : Nat) (c : Coach) (s : State), s.live = true ∧ s.coach id = some c ∧ (c.cmd ≠ none ∨ s.ft < c.cutoff)) ∧
    (∃ (id : Nat) (c : Coach) (s : State), s.live = true ∧ s.coach id = some c ∧ c.cmd = none ∧ c.cutoff ≤ s.ft ∧
      ((c.tailWaited = false ∨ c.gather = true ∨ ∀ q, look c.seq s.seq.seqs = some q → tailGap s c q = none))) ∧
    (∃ (id : Nat) (st : Nat) (c : Coach) (s : State), s.coach id = some c ∧ c.cmd = none ∧ (st ≠ Status.badCommand)) ∧
    (∃ (src : BitVec 12) (op : BitVec 32) (e : RxEntry) (s : State), s.live = true ∧ look (src.toNat,
      op.toNat) s.prt.rx = some e ∧ H.mtype e.hdr = 2 ∧ e.coach = some 0) ∧
    (∃ (src : BitVec 12) (op : BitVec 32) (e : RxEntry) (s : State) (b : _), s.live = true ∧ look (src.toNat,
      op.toNat) s.prt.rx = some e ∧ H.mtype e.hdr = 2 ∧ e.coach = none ∧ e.firstPacket = some b ∧
      (e.epochUse (u16 b 14) ≠ .hold)) ∧
    (∃ (e : RxEntry) (b : List Byte), (let m := parsePartMsg b; e.epochUse m.epoch = .stale)) ∧
    (∃ (e : RxEntry) (b : List Byte) (s : State),
      (let m := parsePartMsg b; (let t := (s.mapOf (e.epochUse m.epoch)).tree m.group; (e.epochUse m.epoch ≠ .stale) ∧ ((∀ r,
      t = some r → slotFits r m = false))))) ∧
    (∃ (e : RxEntry) (b : List Byte) (s : State) (r : _) (c : _),
      (let m := parsePartMsg b; (let t := (s.mapOf (e.epochUse m.epoch)).tree m.group; (e.epochUse m.epoch ≠ .stale) ∧
      t = some r ∧ slotFits r m = true ∧ s.dctx m.name = some c ∧ c.sent = false ∧ c.close ≤ s.ft))) ∧
    (∃ (e : RxEntry) (b : List Byte) (s : State) (r : _) (c : _),
      (let m := parsePartMsg b; (let t := (s.mapOf (e.epochUse m.epoch)).tree m.group; (e.epochUse m.epoch ≠ .stale) ∧
      t = some r ∧ slotFits r m = true ∧ s.dctx m.name = some c ∧ slotFits c.tree m = true ∧
      (c.sent = true ∨ (s.ft < c.close ∧ has m.slot c.slots = true))))) ∧
    (∃ (e : RxEntry) (b : List Byte) (s : State) (r : _),
      (let m := parsePartMsg b; (let t := (s.mapOf (e.epochUse m.epoch)).tree m.group; (e.epochUse m.epoch ≠ .stale) ∧
      t = some r ∧ slotFits r m = true ∧ s.dctx m.name = none ∧ s.ft < (newCtx e m r).close ∧
      couplingRoom s m.car 1 (ceilDiv (H.msgLen e.hdr) 4096 + accBlocks m) = true))) ∧
    (∃ (e : RxEntry) (c : Ctx) (s : State), (let m := parsePartMsg e.message; s.dctx m.name = some c ∧ (c.sent = true ∨ (∃ x,
      look m.slot c.slots = some x ∧ x.complete = true)))) ∧
    (∃ (e : RxEntry) (c : Ctx) (s : State), (let m := parsePartMsg e.message; s.dctx m.name = some c ∧ c.sent = false ∧
      look m.slot c.slots = none ∧ c.close ≤ s.ft)) ∧
    (∃ (e : RxEntry) (c : Ctx) (s : State), (let m := parsePartMsg e.message; s.dctx m.name = some c ∧ c.sent = false ∧
      look m.slot c.slots = none ∧ s.ft < c.close ∧ e.message.length = partLength m ∧
      ((m.records = 0 ∨ c.acc = [] ∨ (c.acc.length = m.records ∧ c.vdim = m.vdim))))) ∧
    (∃ (group : BitVec 16) (reply : BitVec 16) (tag : BitVec 32) (c : Ctx) (s : State), s.live = true ∧
      (let n := (group.toNat, reply.toNat, tag.toNat); s.dctx n = some c ∧ s.ft < c.close)) ∧
    (∃ (group : BitVec 16) (reply : BitVec 16) (tag : BitVec 32) (c : Ctx) (s : State), s.live = true ∧
      (let n := (group.toNat, reply.toNat, tag.toNat); s.dctx n = some c ∧ c.close ≤ s.ft)) :=
  ⟨⟨5, 6, (first12 1 0 (some 0)), (rxed (first12 1 0 (some 0)) up), 0, by decide +kernel⟩,
   ⟨5, 6, (first12 1 0 none), (firstB 0), (rxed (first12 1 0 none) up), by decide +kernel⟩,
   ⟨5, 6, next12, (firstB 1), (holdsNext (rxed next12 up)), by decide +kernel⟩,
   ⟨headE, headB, up, by decide +kernel⟩,
   ⟨headE, headB, (tt 2 arriving), sq, by decide +kernel⟩,
   ⟨headE, headB, arriving, 0x0E, 0, by decide +kernel⟩,
   ⟨0, shut, sq, (on12 shut sq 100), by decide +kernel⟩,
   ⟨0, shut, ({ sq with st := 3 }), (on12 shut { sq with st := 3 } 99), by decide +kernel⟩,
   ⟨0, shut, sq, (on12 shut sq 99), by decide +kernel⟩,
   ⟨sq, by decide +kernel⟩,
   ⟨0, coach0, (on12 coach0 sq 99), by decide +kernel⟩,
   ⟨0, coach0, (on12 coach0 sq 100), by decide +kernel⟩,
   ⟨0, 0x08, coach0, (on12 coach0 sq 100), by decide +kernel⟩,
   ⟨5, 6, (first12 2 0 (some 0)), (rxed (first12 2 0 (some 0)) up), by decide +kernel⟩,
   ⟨5, 6, (first12 2 0 none), (rxed (first12 2 0 none) up), (firstB 0), by decide +kernel⟩,
   ⟨({ msg0 2 [] with seen := { cur := some 1, old := [], armed := none } }), (zeros 160), by decide +kernel⟩,
   ⟨(msg0 2 []), (zeros 160), up, by decide +kernel⟩,
   ⟨(msg0 2 []), (zeros 160), (coupledC false 50), treeC, ({ ctx0 false with tree := treeC }), by decide +kernel⟩,
   ⟨(msg0 2 []), (zeros 160), (coupledC true 0), treeC, ({ ctx0 true with tree := treeC }), by decide +kernel⟩,
   ⟨(msg0 2 []), partC, (forked up), treeC, by decide +kernel⟩,
   ⟨(msg0 2 (zeros 160)), (ctx0 true), (coupled true 0), by decide +kernel⟩,
   ⟨(msg0 2 (zeros 160)), (ctx0 false), (coupled false 50), by decide +kernel⟩,
   ⟨(msg0 2 (zeros 160)), (ctx0 false), (coupled false 49), by decide +kernel⟩,
   ⟨0, 0, 0, (ctx0 false), (coupled false 49), by decide +kernel⟩,
   ⟨0, 0, 0, (ctx0 false), (coupled false 50), by decide +kernel⟩⟩

end W12

namespace W13a

def p0 : Nat × List Byte := (0, [1, 2, 3, 4])
def wr (rgen : Nat) : RxEntry := rmaE (rmaH 5 1 0 rgen 4) [p0]
def rd (rgen : Nat) : RxEntry := rmaE (rmaH 6 1 0 rgen 4) []
def far : Page := { pg with loc := .cxl 0 0 }
def on13 (e : RxEntry) (g : Page) : State := tt 2 (rxed e (paged sq g up))
def win (e : RxEntry) : State :=
  onPrt (fun x => { x with windows := [(3, { gen := 0, op := some 0, data := [] })],
                           ops := [(0, { mtype := 6, car := 0, hdr := zeros 104, payload := [], sends := 1, sentAt := 0, cmd := none, window := none, notice := false })] }) (answered e up)
def resp (complete : Bool) : RxEntry := { rmaE (rmaH 7 2 0 0 4) [p0] with complete := complete }
def lost : State := onMem (fun m => { m with bad := [(codeKey (hbmAddr 0 im0.shareSize), 2)] }) (paged sq pg up)
def held13 (e : RxEntry) (g : Page) : State :=
  tt 2 (onPrt (fun x => { x with rx := [((0, 0), e)], paging := [{ body := e.hdr, since := 0 }] }) (paged sq g up))
def paging13 (n : Nat) : State := onPrt (fun x => { x with paging := [{ body := List.replicate n 0, since := 0 }] }) State.reset
theorem paging13_used (n : Nat) : pagingUsed (paging13 n) = n := by
  have h : pagingUsed (paging13 n) = sumOf (fun x : Paging => x.body.length) [{ body := List.replicate n 0, since := 0 }] := rfl
  simp [h, sumOf]
theorem paging13_full (e : RxEntry) (d : List Byte) (n : Nat) (h : 8388608 < n) :
    8388608 < pagingUsed (paging13 n) + (packetAt e 0 d).length := by
  have := paging13_used n
  omega
def packed13 : Page := { far with comp := true, moving := true }

/-- Every clause of Obligations.RemoteReadsAndWritesAreCheckedAndServed has states and operands that meet its premises. -/
theorem witness_RemoteReadsAndWritesAreCheckedAndServed :
    (∃ (src : BitVec 12) (op : BitVec 32) (e : RxEntry) (s : State), s.live = true ∧ look (src.toNat,
      op.toNat) s.prt.rx = some e ∧ H.mtype e.hdr = 5 ∧ e.tooLate s = false ∧ (e.epochUse (H.epoch e.hdr) ≠ .hold)) ∧
    (∃ (key : Nat × Nat) (p : Nat × List Byte) (e : RxEntry) (g : Page) (s : State) (st : _), look key s.prt.rx = some e ∧
      look (H.rkey e.hdr) s.seq.pages = some g ∧
      (let e' := { e with parts := e.parts.filter (fun x => x.1 != p.1) }; (let u := onPrt (fun x => { x with rx := put key e' x.rx }) s; rmaFault u e' true = some st))) ∧
    (∃ (key : Nat × Nat) (p : Nat × List Byte) (e : RxEntry) (g : Page) (s : State), look key s.prt.rx = some e ∧
      look (H.rkey e.hdr) s.seq.pages = some g ∧
      (let e' := { e with parts := e.parts.filter (fun x => x.1 != p.1) }; (let u := onPrt (fun x => { x with rx := put key e' x.rx }) s; (let a := areaBase s.im (H.rflags e.hdr % 4) + H.roff e.hdr + p.1; rmaFault u e' true = none ∧
      g.loc.isCxl = false ∧ canWrite u g.loc a p.2.length = true)))) ∧
    (∃ (key : Nat × Nat) (p : Nat × List Byte) (e : RxEntry) (g : Page) (s : State), look key s.prt.rx = some e ∧
      look (H.rkey e.hdr) s.seq.pages = some g ∧
      (let e' := { e with parts := e.parts.filter (fun x => x.1 != p.1) }; (let u := onPrt (fun x => { x with rx := put key e' x.rx }) s; rmaFault u e' true = none ∧
      g.loc.isCxl = true))) ∧
    (∃ (key : Nat × Nat) (e : RxEntry) (s : State), look key s.prt.rx = some e ∧ e.complete = true ∧ e.parts = [] ∧
      (s.prt.paging.any (fun x => (H.src x.body, H.opId x.body) == key) = false)) ∧
    (∃ (e : RxEntry) (g : Page) (s : State), (let h := e.hdr; H.rkind h = 1 ∧ H.rflags h < 2 ∧
      look (H.rkey h) s.seq.pages = some g ∧ areaSize s.im (H.rflags h % 4) < H.roff h + H.msgLen h)) ∧
    (∃ (e : RxEntry) (g : Page) (write : Bool) (s : State), (let h := e.hdr; H.rkind h = 1 ∧ H.rflags h < 2 ∧
      look (H.rkey h) s.seq.pages = some g ∧ H.roff h + H.msgLen h ≤ areaSize s.im (H.rflags h % 4) ∧
      (g.car ≠ H.car h ∨ (write = true ∧ (g.sealed_ = true ∨ 1 < g.refs))))) ∧
    (∃ (e : RxEntry) (g : Page) (write : Bool) (s : State), (let h := e.hdr; H.rkind h = 1 ∧ H.rflags h < 2 ∧
      look (H.rkey h) s.seq.pages = some g ∧ H.roff h + H.msgLen h ≤ areaSize s.im (H.rflags h % 4) ∧ g.car = H.car h ∧
      ((write = true → g.sealed_ = false ∧ g.refs ≤ 1)) ∧ keyFault s g = none ∧ e.epochUse (H.epoch h) = .stale)) ∧
    (∃ (e : RxEntry) (g : Page) (write : Bool) (s : State), (let h := e.hdr; H.rkind h = 1 ∧ H.rflags h < 2 ∧
      look (H.rkey h) s.seq.pages = some g ∧ H.roff h + H.msgLen h ≤ areaSize s.im (H.rflags h % 4) ∧ g.car = H.car h ∧
      ((write = true → g.sealed_ = false ∧ g.refs ≤ 1)) ∧ keyFault s g = none ∧ (e.epochUse (H.epoch h) ≠ .stale) ∧
      (H.rgen h ≠ pageGen s (H.rkey h)))) ∧
    (∃ (e : RxEntry) (g : Page) (write : Bool) (s : State), (let h := e.hdr; H.rkind h = 1 ∧ H.rflags h < 2 ∧
      look (H.rkey h) s.seq.pages = some g ∧ H.roff h + H.msgLen h ≤ areaSize s.im (H.rflags h % 4) ∧ g.car = H.car h ∧
      ((write = true → g.sealed_ = false ∧ g.refs ≤ 1)) ∧ keyFault s g = none ∧ (e.epochUse (H.epoch h) ≠ .stale) ∧
      H.rgen h = pageGen s (H.rkey h) ∧ g.comp = false ∧ write = true ∧ pageParked s (H.rkey h) = true)) ∧
    (∃ (e : RxEntry) (g : Page) (write : Bool) (s : State), (let h := e.hdr; H.rkind h = 1 ∧ H.rflags h < 2 ∧
      look (H.rkey h) s.seq.pages = some g ∧ H.roff h + H.msgLen h ≤ areaSize s.im (H.rflags h % 4) ∧ g.car = H.car h ∧
      ((write = true → g.sealed_ = false ∧ g.refs ≤ 1)) ∧ keyFault s g = none ∧ (e.epochUse (H.epoch h) ≠ .stale) ∧
      H.rgen h = pageGen s (H.rkey h) ∧ g.comp = false ∧ ((write = true → pageParked s (H.rkey h) = false)))) ∧
    (∃ (e : RxEntry), H.rkind e.hdr = 1 ∧ H.rflags e.hdr = 2 ∧ H.roff e.hdr + H.msgLen e.hdr ≤ 128) ∧
    (∃ (e : RxEntry) (off : Nat) (d : List Byte) (s : State), pagingUsed s + (packetAt e off d).length ≤ 8388608) ∧
    (∃ (e : RxEntry) (off : Nat) (d : List Byte) (s : State), 8388608 < pagingUsed s + (packetAt e off d).length) ∧
    (∃ (src : BitVec 12) (op : BitVec 32) (e : RxEntry) (g : Page) (s : State) (st : _), s.live = true ∧ look (src.toNat,
      op.toNat) s.prt.rx = some e ∧ H.mtype e.hdr = 6 ∧ e.tooLate s = false ∧ (e.epochUse (H.epoch e.hdr) ≠ .hold) ∧
      (s.prt.paging.any (fun x => (H.src x.body, H.opId x.body) == (src.toNat, op.toNat)) = false) ∧
      look (H.rkey e.hdr) s.seq.pages = some g ∧ rmaFault s e false = some st) ∧
    (∃ (src : BitVec 12) (op : BitVec 32) (e : RxEntry) (g : Page) (s : State), s.live = true ∧ look (src.toNat,
      op.toNat) s.prt.rx = some e ∧ H.mtype e.hdr = 6 ∧ e.tooLate s = false ∧ (e.epochUse (H.epoch e.hdr) ≠ .hold) ∧
      (s.prt.paging.any (fun x => (H.src x.body, H.opId x.body) == (src.toNat, op.toNat)) = false) ∧
      look (H.rkey e.hdr) s.seq.pages = some g ∧ rmaFault s e false = none ∧ g.loc.isCxl = true ∧ H.rflags e.hdr % 4 < 2) ∧
    (∃ (src : BitVec 12) (op : BitVec 32) (e : RxEntry) (g : Page) (s : State), s.live = true ∧ look (src.toNat,
      op.toNat) s.prt.rx = some e ∧ H.mtype e.hdr = 6 ∧ e.tooLate s = false ∧ (e.epochUse (H.epoch e.hdr) ≠ .hold) ∧
      (s.prt.paging.any (fun x => (H.src x.body, H.opId x.body) == (src.toNat, op.toNat)) = false) ∧
      look (H.rkey e.hdr) s.seq.pages = some g ∧ rmaFault s e false = none ∧ (g.loc.isCxl = false ∨ 2 ≤ H.rflags e.hdr % 4)) ∧
    (∃ (e : RxEntry) (g : Page) (d : List Byte) (s : State), H.rflags e.hdr % 4 < 2 ∧ g.comp = false ∧
      (let u := notePage g (areaBase s.im (H.rflags e.hdr % 4) + H.roff e.hdr) (H.msgLen e.hdr) s; areaBytes u (H.rkey e.hdr) g (H.rflags e.hdr % 4) (H.roff e.hdr) (H.msgLen e.hdr) = some d)) ∧
    (∃ (e : RxEntry) (g : Page) (s : State), H.rflags e.hdr % 4 < 2 ∧ g.comp = false ∧
      (let u := notePage g (areaBase s.im (H.rflags e.hdr % 4) + H.roff e.hdr) (H.msgLen e.hdr) s; areaBytes u (H.rkey e.hdr) g (H.rflags e.hdr % 4) (H.roff e.hdr) (H.msgLen e.hdr) = none)) ∧
    (∃ (src : BitVec 12) (op : BitVec 32) (e : RxEntry) (s : State), s.live = true ∧
      look (answerKey src.toNat op.toNat) s.prt.rx = some e ∧ H.mtype e.hdr = 7 ∧ windowCurrent s e.hdr = false) ∧
    (∃ (src : BitVec 12) (op : BitVec 32) (e : RxEntry) (s : State), s.live = true ∧
      look (answerKey src.toNat op.toNat) s.prt.rx = some e ∧ H.mtype e.hdr = 7 ∧ windowCurrent s e.hdr = true ∧
      e.complete = false) ∧
    (∃ (src : BitVec 12) (op : BitVec 32) (e : RxEntry) (s : State) (w : _), s.live = true ∧
      look (answerKey src.toNat op.toNat) s.prt.rx = some e ∧ H.mtype e.hdr = 7 ∧ windowCurrent s e.hdr = true ∧
      (let u := onPrt (fun x => { x with windows := upd (H.rkey e.hdr) (fun w => { w with data := e.parts.foldl (fun d p => overwrite d (H.roff e.hdr + p.1) p.2) w.data }) x.windows, rx := put (answerKey src.toNat op.toNat) { e with parts := [] } x.rx }) s; e.complete = true ∧
      look (H.rkey e.hdr) u.prt.windows = some w)) ∧
    (∃ (h : List Byte) (s : State), windowCurrent s h = true) ∧
    (∃ (x : Paging) (rest : List Paging) (e : RxEntry) (g : Page) (s : State) (st : _), s.live = true ∧
      s.prt.paging = x :: rest ∧ look (H.src x.body, H.opId x.body) s.prt.rx = some e ∧
      look (H.rkey e.hdr) s.seq.pages = some g ∧
      (let u := onPrt (fun y => { y with paging := rest }) s; rmaFault u e (H.mtype e.hdr == 5) = some st)) ∧
    (∃ (x : Paging) (rest : List Paging) (e : RxEntry) (g : Page) (s : State), s.live = true ∧ s.prt.paging = x :: rest ∧
      look (H.src x.body, H.opId x.body) s.prt.rx = some e ∧ look (H.rkey e.hdr) s.seq.pages = some g ∧
      (let u := onPrt (fun y => { y with paging := rest }) s; rmaFault u e (H.mtype e.hdr == 5) = none ∧
      pagedWaits s (H.mtype e.hdr == 5) g = true)) ∧
    (∃ (x : Paging) (rest : List Paging) (e : RxEntry) (g : Page) (s : State), s.live = true ∧ s.prt.paging = x :: rest ∧
      look (H.src x.body, H.opId x.body) s.prt.rx = some e ∧ look (H.rkey e.hdr) s.seq.pages = some g ∧
      (let u := onPrt (fun y => { y with paging := rest }) s; rmaFault u e (H.mtype e.hdr == 5) = none ∧ H.mtype e.hdr = 5 ∧
      pagedWaits s true g = false)) ∧
    (∃ (x : Paging) (rest : List Paging) (e : RxEntry) (g : Page) (s : State), s.live = true ∧ s.prt.paging = x :: rest ∧
      look (H.src x.body, H.opId x.body) s.prt.rx = some e ∧ look (H.rkey e.hdr) s.seq.pages = some g ∧
      (let u := onPrt (fun y => { y with paging := rest }) s; rmaFault u e (H.mtype e.hdr == 5) = none ∧ H.mtype e.hdr = 6)) ∧
    (∃ (e : RxEntry) (g : Page) (off : Nat) (d : List Byte) (s : State), g.comp = false ∧
      canWrite s g.loc (areaBase s.im (H.rflags e.hdr % 4) + H.roff e.hdr + off) d.length = true) :=
  ⟨⟨5, 6, (wr 0), (on13 (wr 0) pg), by decide +kernel⟩,
   ⟨(5, 6), p0, (wr 1), pg, (on13 (wr 1) pg), 0x03, by decide +kernel⟩,
   ⟨(5, 6), p0, (wr 0), pg, (on13 (wr 0) pg), by decide +kernel⟩,
   ⟨(5, 6), p0, (wr 0), far, (on13 (wr 0) far), by decide +kernel⟩,
   ⟨(5, 6), (rd 0), (on13 (rd 0) pg), by decide +kernel⟩,
   ⟨(rmaE (rmaH 5 1 0 0 16385) []), pg, (paged sq pg up), by decide +kernel⟩,
   ⟨(rmaE (rmaH 5 1 0 0 16384) []), ({ pg with refs := 2 }), true, (paged sq { pg with refs := 2 } up), by decide +kernel⟩,
   ⟨({ rmaE (rmaH 5 1 0 0 16384) [] with seen := { cur := some 1, old := [], armed := none } }), pg, true,
     (paged { sq with st := 3 } pg up), by decide +kernel⟩,
   ⟨(rmaE (rmaH 5 1 0 1 16384) []), pg, true, (paged sq pg up), by decide +kernel⟩,
   ⟨(rmaE (rmaH 5 1 0 0 16384) []), pg, true, (paged { sq with st := 3 } pg up), by decide +kernel⟩,
   ⟨(rmaE (rmaH 5 1 0 0 16384) []), pg, true, (paged sq pg up), by decide +kernel⟩,
   ⟨(rmaE (rmaH 6 1 2 0 128) []), by decide +kernel⟩,
   ⟨(wr 0), 0, [], up, by decide +kernel⟩,
   ⟨(wr 0), 0, [], (paging13 8388609), paging13_full _ _ _ (by decide)⟩,
   ⟨5, 6, (rd 1), pg, (on13 (rd 1) pg), 0x03, by decide +kernel⟩,
   ⟨5, 6, (rd 0), far, (on13 (rd 0) far), by decide +kernel⟩,
   ⟨5, 6, (rd 0), pg, (on13 (rd 0) pg), by decide +kernel⟩,
   ⟨(rd 0), pg, (zeros 4), (paged sq pg up), by decide +kernel⟩,
   ⟨(rd 0), pg, lost, by decide +kernel⟩,
   ⟨5, 6, (resp true), (answered (resp true) up), by decide +kernel⟩,
   ⟨5, 6, (resp false), (win (resp false)), by decide +kernel⟩,
   ⟨5, 6, (resp true), (win (resp true)), ({ gen := 0, op := some 0, data := [1, 2, 3, 4] }), by decide +kernel⟩,
   ⟨(rmaH 7 2 0 0 4), (win (resp true)), by decide +kernel⟩,
   ⟨({ body := rmaH 5 1 0 1 4, since := 0 }), [], (wr 1), pg, (held13 (wr 1) pg), 0x03, by decide +kernel⟩,
   ⟨({ body := rmaH 5 1 0 0 4, since := 0 }), [], (wr 0), packed13, (setRg .BDG_CTRL_EXPAND_E 0 1 (held13 (wr 0) packed13)),
     by decide +kernel⟩,
   ⟨({ body := rmaH 5 1 0 0 4, since := 0 }), [], (wr 0), pg, (held13 (wr 0) pg), by decide +kernel⟩,
   ⟨({ body := rmaH 6 1 0 0 4, since := 0 }), [], (rd 0), pg, (held13 (rd 0) pg), by decide +kernel⟩,
   ⟨(wr 0), pg, 0, [1, 2, 3, 4], (paged sq pg up), by decide +kernel⟩⟩

end W13a

namespace W13b

def op0 (ty sends : Nat) (cmd : Option Nat) : SendOp :=
  { mtype := ty, car := 0, hdr := zeros 104, payload := [], sends := sends, sentAt := 0, cmd := cmd, window := none, notice := false }
def on13b (e : SendOp) (s : State) : State := onPrt (fun x => { x with ops := [(6, e)], windows := [(3, { gen := 0, op := some 6, data := [] })] }) s
def retry13 (clk sends : Nat) : State := at_ clk 0 (setRg .PRT_RTO_RETRIES 0 3 (setRg .PRT_RTO_BASE_US 0 1 (on13b (op0 5 sends none) up)))
def late13 (complete : Bool) : RxEntry := { msg0 3 [] with complete := complete }
def expiring (clk : Nat) (complete : Bool) : State := at_ clk 0 (setRg .PRT_RX_TIMEOUT_US 0 1 (rxed (late13 complete) up))
def nakked (clk : Nat) : State := at_ clk 0 (onPrt (fun x => { x with nakf := [((5, 6), 0)] }) up)
def portB (op len : Nat) : List Byte := cmdB 5 op 0 (zeros 28 ++ leBytes 4 len)
def on13c (c : Cmd) : State := tt 2 (run 1 c up)
def sendB : List Byte := cmdB 5 0x03 0 (zeros 20 ++ leBytes 4 3 ++ zeros 4 ++ leBytes 4 4)
def on13d (g : Page) : State := tt 2 (run 1 (cmd sendB) (paged sq g up))
def lost13 : State := onMem (fun m => { m with bad := [(codeKey (hbmAddr 0 im0.shareSize), 2)] }) (on13d pg)
def idleWindow : Window := { gen := 65535, op := none, data := [] }
def windows13 : State := onPrt (fun x => { x with windows := (List.range 32).map (fun w => (w, idleWindow)) }) up
theorem windows13_look : ∀ w : Fin 32, look w.val windows13.prt.windows = some idleWindow := by decide
theorem windows13_pick : windowPick windows13 = some (Config.freeValue 0 % 32, 0) := by
  have h : ∀ n : Nat, look (n % 32) windows13.prt.windows = some idleWindow := fun n =>
    windows13_look ⟨n % 32, Nat.mod_lt _ (by decide)⟩
  simp only [windowPick, pickBelow, windowCount, firstBelow, firstFrom, h]
  simp [idleWindow, freeNow]
  exact ⟨rfl, by rw [h]; rfl⟩
theorem windows_none_pick : windowPick up = some (Config.freeValue 0 % 32, 0) := by
  have h : ∀ n : Nat, look n up.prt.windows = none := fun _ => rfl
  simp only [windowPick, pickBelow, windowCount, firstBelow, firstFrom, h]
  simp [freeNow]
  rfl
def noticed13 (n : Nat) : State :=
  onPrt (fun x => { x with notices := [(0, 5, [])], ops := (List.range n).map (fun i => (i, { op0 13 1 none with notice := true })) }) up

/-- Every clause of Obligations.OperationsEndOnAnswersOrLate has states and operands that meet its premises. -/
theorem witness_OperationsEndOnAnswersOrLate :
    (∃ (src : BitVec 12) (op : BitVec 32) (e : RxEntry) (s : State), s.live = true ∧
      look (answerKey src.toNat op.toNat) s.prt.rx = some e ∧ H.mtype e.hdr = 8) ∧
    (∃ (src : BitVec 12) (op : BitVec 32) (e : RxEntry) (s : State), s.live = true ∧
      look (answerKey src.toNat op.toNat) s.prt.rx = some e ∧ H.mtype e.hdr = 9) ∧
    (∃ (op : Nat) (e : SendOp) (s : State) (w : _) (x : _), look op s.prt.ops = some e ∧
      (let u := windowClose op (onPrt (fun x => { x with ops := del op x.ops }) s); look w u.prt.windows = some x)) ∧
    (∃ (op : Nat) (e : SendOp) (s : State), look op s.prt.ops = some e ∧ e.cmd = none) ∧
    (∃ (op : Nat) (status : Nat) (e : SendOp) (s : State) (k : _) (c : _), look op s.prt.ops = some e ∧ e.cmd = some k ∧
      e.notice = false ∧ s.cmd k = some c ∧ status = Status.ok ∧ e.mtype = 6) ∧
    (∃ (op : Nat) (status : Nat) (e : SendOp) (s : State) (k : _) (c : _), look op s.prt.ops = some e ∧ e.cmd = some k ∧
      e.notice = false ∧ s.cmd k = some c ∧ status = Status.ok ∧ e.mtype = 5) ∧
    (∃ (op : Nat) (status : Nat) (e : SendOp) (s : State) (k : _) (c : _), look op s.prt.ops = some e ∧ e.cmd = some k ∧
      e.notice = false ∧ s.cmd k = some c ∧ (status ≠ Status.ok)) ∧
    (∃ (n : Nat × Nat × List Byte) (rest : List (Nat × Nat × List Byte)) (s : State), s.prt.notices = n :: rest ∧
      s.noticeFree = true) ∧
    (∃ (n : Nat × Nat × List Byte) (rest : List (Nat × Nat × List Byte)) (s : State), s.prt.notices = n :: rest ∧
      s.noticeFree = false) ∧
    (∃ (op : BitVec 32) (e : SendOp) (s : State), s.live = true ∧ look op.toNat s.prt.ops = some e ∧
      (let wait := max 1 (s.rg .PRT_RTO_BASE_US 0) * 1000 * 2 ^ (e.sends - 1); s.clk < e.sentAt + wait)) ∧
    (∃ (op : BitVec 32) (e : SendOp) (s : State), s.live = true ∧ look op.toNat s.prt.ops = some e ∧
      (let wait := max 1 (s.rg .PRT_RTO_BASE_US 0) * 1000 * 2 ^ (e.sends - 1); e.sentAt + wait ≤ s.clk ∧
      e.sends ≤ s.rg .PRT_RTO_RETRIES 0)) ∧
    (∃ (op : BitVec 32) (e : SendOp) (s : State), s.live = true ∧ look op.toNat s.prt.ops = some e ∧
      (let wait := max 1 (s.rg .PRT_RTO_BASE_US 0) * 1000 * 2 ^ (e.sends - 1); e.sentAt + wait ≤ s.clk ∧
      s.rg .PRT_RTO_RETRIES 0 < e.sends ∧ (e.mtype ≠ 11))) ∧
    (∃ (s : State), s.live = true) ∧
    (∃ (key : Nat × Nat) (e : RxEntry) (s : State), look key s.prt.rx = some e ∧
      (let dueAt := e.since + max 1 (s.rg .PRT_RX_TIMEOUT_US 0) * 1000; (e.complete = true ∨ s.clk < dueAt))) ∧
    (∃ (key : Nat × Nat) (e : RxEntry) (s : State), look key s.prt.rx = some e ∧
      (let dueAt := e.since + max 1 (s.rg .PRT_RX_TIMEOUT_US 0) * 1000; e.complete = false ∧ dueAt ≤ s.clk ∧
      (H.mtype e.hdr ≠ 5))) ∧
    (∃ (src : BitVec 12) (op : BitVec 32) (t : Nat) (s : State), s.live = true ∧ look (src.toNat,
      op.toNat) s.prt.nakf = some t ∧ s.clk < t + 100000) ∧
    (∃ (src : BitVec 12) (op : BitVec 32) (t : Nat) (s : State), s.live = true ∧ look (src.toNat,
      op.toNat) s.prt.nakf = some t ∧ t + 100000 ≤ s.clk) ∧
    (∃ (src : BitVec 12) (op : BitVec 32) (e : RxEntry) (s : State), Waits (src.toNat, op.toNat) 11 e s) ∧
    (∃ (k : Nat) (c : Cmd) (s : State) (r : _), Started k 5 0x01 c s ∧ c.phase = 0 ∧ portCmdFault s c 5 = some r) ∧
    (∃ (k : Nat) (c : Cmd) (s : State), Started k 5 0x01 c s ∧ c.phase = 0 ∧ portCmdFault s c 5 = none) ∧
    (∃ (k : Nat) (c : Cmd) (s : State) (d : _), Started k 5 0x01 c s ∧ c.phase = 1 ∧ c.want = 0 ∧
      c.dataStep s (u32 c.bytes 40) true c.buf = .have_ d) ∧
    (∃ (k : Nat) (c : Cmd) (s : State) (r : _), Started k 5 0x02 c s ∧ c.phase = 0 ∧ portCmdFault s c 6 = some r) ∧
    (∃ (k : Nat) (c : Cmd) (s : State), Started k 5 0x02 c s ∧ c.phase = 0 ∧ portCmdFault s c 6 = none) ∧
    (∃ (w : Nat × Nat) (s : State) (x : _), windowPick s = some w ∧ look w.1 s.prt.windows = some x) ∧
    (∃ (w : Nat × Nat) (s : State), windowPick s = some w ∧ look w.1 s.prt.windows = none) ∧
    (∃ (c : Cmd), (u32 c.bytes 40 = 0 ∨ 1048576 < u32 c.bytes 40)) ∧
    (∃ (c : Cmd) (s : State), u16 c.bytes 12 < 4096 ∧ u8 c.bytes 14 < 16 ∧ 1 ≤ u32 c.bytes 40 ∧ u32 c.bytes 40 ≤ 1048576 ∧
      s.im.protected_ (Op.car c.bytes) = true ∧ qConf s c.q = false) ∧
    (∃ (c : Cmd) (s : State), u16 c.bytes 12 < 4096 ∧ u8 c.bytes 14 < 16 ∧ 1 ≤ u32 c.bytes 40 ∧ u32 c.bytes 40 ≤ 1048576 ∧
      (s.im.protected_ (Op.car c.bytes) = false ∨ qConf s c.q = true)) ∧
    (∃ (k : Nat) (c : Cmd) (g : Page) (s : State) (st : _), Started k 5 0x03 c s ∧ c.phase = 0 ∧
      look (u32 c.bytes 32) s.seq.pages = some g ∧ pageSendFault s c = some st ∧ (st ≠ Status.claimed)) ∧
    (∃ (k : Nat) (c : Cmd) (g : Page) (s : State) (d : _), Started k 5 0x03 c s ∧ c.phase = 0 ∧
      look (u32 c.bytes 32) s.seq.pages = some g ∧
      (let u := notePage g (areaBase s.im (u8 c.bytes 36)) (u32 c.bytes 40) s; pageSendFault s c = none ∧
      portCmdFault s c 5 = none ∧ g.comp = false ∧
      areaBytes u (u32 c.bytes 32) g (u8 c.bytes 36) 0 (u32 c.bytes 40) = some d)) ∧
    (∃ (k : Nat) (c : Cmd) (g : Page) (s : State), Started k 5 0x03 c s ∧ c.phase = 0 ∧
      look (u32 c.bytes 32) s.seq.pages = some g ∧
      (let u := notePage g (areaBase s.im (u8 c.bytes 36)) (u32 c.bytes 40) s; pageSendFault s c = none ∧
      portCmdFault s c 5 = none ∧ areaBytes u (u32 c.bytes 32) g (u8 c.bytes 36) 0 (u32 c.bytes 40) = none)) :=
  ⟨⟨5, 6, (msg0 8 []), (answered (msg0 8 []) up), by decide +kernel⟩,
   ⟨5, 6, (msg0 9 []), (answered (msg0 9 []) up), by decide +kernel⟩,
   ⟨6, (op0 5 1 none), (on13b (op0 5 1 none) up), 3, ({ gen := 0, op := none, data := [] }), by decide +kernel⟩,
   ⟨6, (op0 5 1 none), (on13b (op0 5 1 none) up), by decide +kernel⟩,
   ⟨6, 0, (op0 6 1 (some 1)), (on13b (op0 6 1 (some 1)) (run 1 (cmd []) up)), 1, (cmd []), by decide +kernel⟩,
   ⟨6, 0, (op0 5 1 (some 1)), (on13b (op0 5 1 (some 1)) (run 1 (cmd []) up)), 1, (cmd []), by decide +kernel⟩,
   ⟨6, 1, (op0 5 1 (some 1)), (on13b (op0 5 1 (some 1)) (run 1 (cmd []) up)), 1, (cmd []), by decide +kernel⟩,
   ⟨(0, 5, []), [], (noticed13 0), by decide +kernel⟩,
   ⟨(0, 5, []), [], (noticed13 256), by decide +kernel⟩,
   ⟨6, (op0 5 1 none), (retry13 999 1), by decide +kernel⟩,
   ⟨6, (op0 5 1 none), (retry13 1000 1), by decide +kernel⟩,
   ⟨6, (op0 5 4 none), (retry13 8000 4), by decide +kernel⟩,
   ⟨up, by decide +kernel⟩,
   ⟨(5, 6), (late13 false), (expiring 999 false), by decide +kernel⟩,
   ⟨(5, 6), (late13 false), (expiring 1000 false), by decide +kernel⟩,
   ⟨5, 6, 0, (nakked 99999), by decide +kernel⟩,
   ⟨5, 6, 0, (nakked 100000), by decide +kernel⟩,
   ⟨5, 6, (msg0 11 []), (rxed (msg0 11 []) up), by unfold Waits; decide +kernel⟩,
   ⟨1, (cmd (portB 1 0)), (on13c (cmd (portB 1 0))), (0x0C, 0), by unfold Started; decide +kernel⟩,
   ⟨1, (cmd (portB 1 1048576)), (on13c (cmd (portB 1 1048576))), by unfold Started; decide +kernel⟩,
   ⟨1, (cmdAt 1 (portB 1 4) (zeros 4)), (on13c (cmdAt 1 (portB 1 4) (zeros 4))), (zeros 4), by unfold Started; decide +kernel⟩,
   ⟨1, (cmd (portB 2 0)), (on13c (cmd (portB 2 0))), (0x0C, 0), by unfold Started; decide +kernel⟩,
   ⟨1, (cmd (portB 2 1)), (on13c (cmd (portB 2 1))), by unfold Started; decide +kernel⟩,
   ⟨(Config.freeValue 0 % 32, 0), windows13, idleWindow, windows13_pick, windows13_look ⟨_, Nat.mod_lt _ (by decide)⟩⟩,
   ⟨(Config.freeValue 0 % 32, 0), up, windows_none_pick, rfl⟩,
   ⟨(cmd (portB 1 1048577)), by decide +kernel⟩,
   ⟨(cmd (portB 1 1)), (onComp (fun x => { x with image := some (imOf 5 7) }) up), by decide +kernel⟩,
   ⟨(cmd (portB 1 1)), up, by decide +kernel⟩,
   ⟨1, (cmd sendB), ({ pg with car := 1 }), (on13d { pg with car := 1 }), 0x0B, by unfold Started; decide +kernel⟩,
   ⟨1, (cmd sendB), pg, (on13d pg), (zeros 4), by unfold Started; decide +kernel⟩,
   ⟨1, (cmd sendB), pg, lost13, by unfold Started; decide +kernel⟩⟩

end W13b

namespace W14a

def ent (v : Nat) (valid : Bool) (r : Nat) : OwlEntry := { value := v, care := 2 ^ 128 - 1, result := r, valid := valid }
def bank (b : Nat) (es : List (Nat × OwlEntry)) (s : State) : State := setBank b { Bank.init with entries := es } s
def idx : Page := { pg with indexed := true, hash := 9 }
def hitting (s : State) : State := bank 0 [(4, ent (prefixKey 9 0 0) true 3)] (paged sq idx s)
def missing (s : State) : State := bank 0 [(4, ent (prefixKey 9 0 0) true 3)] (paged sq pg s)
def lookB : List Byte := cmdB 4 1 0 (leBytes 12 9)
def listB (n : Nat) : List Byte := cmdB 4 2 0 (zeros 8 ++ leBytes 2 n)
def cascading (s : State) : State :=
  onOwl (fun x => { x with cascade := 1 }) (tt 2 (setRg .OWL_CTRL_CASCADE_EN 0 1
    (onComp (fun c => { c with image := some { im0 with sects := [(3, [1, 5, 2, 9] ++ zeros 12 ++ [2] ++ zeros 11)] ++ im0.sects } }) s)))
def insB (b i : Nat) : List Byte := cmdB 4 3 0 ([BitVec.ofNat 8 b, 0] ++ leBytes 2 i)
def delB (b i : Nat) : List Byte := cmdB 4 4 0 ([BitVec.ofNat 8 b, 0] ++ leBytes 2 i)
def readB (b i n : Nat) : List Byte := cmdB 4 5 0 ([BitVec.ofNat 8 b, 0] ++ leBytes 2 i ++ leBytes 2 n)
def autB (b n : Nat) : List Byte := cmdB 4 6 0 ([BitVec.ofNat 8 b] ++ zeros 11 ++ leBytes 4 n)
def full : Nat → List (Nat × OwlEntry) := fun n => (List.range n).map (fun j => (j, ent 1 true 0))
def watch0 : Watch := { car := 0, seq := 7, layer := 0, bank := 2, state := 0, start := 0, edgeReport := false, latched := none, missed := 0, wait := none }
def watched (s : State) : State := setWatch 0 watch0 s
def shift0 : Shift := { index := 0, hole := 1, entry := ent 2 true 0, cmd := 1, since := 0 }
def shifting (h : Nat) (s : State) : State :=
  setRg .OWL_X_SHIFT_HOLD 0 h (setBank 1 { Bank.init with entries := full 1, shift := some shift0 } s)
def autD : List Byte := leBytes 4 0x414C574F ++ leBytes 2 1 ++ leBytes 2 1 ++ leBytes 2 1 ++ zeros 6 ++ zeros 8 ++ zeros 8
def aut0 : Automaton :=
  { states := 1, ranges := [(0, 0, 0)], trans := [(0, { state := 0, lo := 0, hi := 0, next := 0, fire := false, fireId := 0 })] }

/-- Every clause of Obligations.OwlSearchesAndWritesItsBanks has states and operands that meet its premises. -/
theorem witness_OwlSearchesAndWritesItsBanks :
    (∃ (banks : List Nat) (key : Nat) (s : State), owlMatches s banks key = []) ∧
    (∃ (banks : List Nat) (key : Nat) (b : Nat) (i : Nat) (e : OwlEntry) (r : List (Nat × Nat × OwlEntry)) (s : State),
      owlMatches s banks key = (b, i, e) :: r ∧ hitTrue s key (e.result % 2 ^ 32) = true) ∧
    (∃ (banks : List Nat) (key : Nat) (b : Nat) (i : Nat) (e : OwlEntry) (r : List (Nat × Nat × OwlEntry)) (s : State),
      owlMatches s banks key = (b, i, e) :: r ∧ hitTrue s key (e.result % 2 ^ 32) = false) ∧
    (∃ (k : Nat) (c : Cmd) (s : State), Started k 4 1 c s ∧ c.phase = 0) ∧
    (∃ (k : Nat) (hash : Nat) (cls : Nat) (c : Cmd) (s : State) (page : _) (multi : _), s.cmd k = some c ∧
      (let car := Op.car c.bytes; (let key := prefixKey hash cls car; (let r := prefixFind (prefixBanks s c.old car) key car 5 [] (bump .OWL_C_LOOKUPS_COUNT car 1 s); r.1 = some (page,
      multi))))) ∧
    (∃ (k : Nat) (hash : Nat) (cls : Nat) (cascade : Bool) (c : Cmd) (s : State), s.cmd k = some c ∧
      (let car := Op.car c.bytes; (let key := prefixKey hash cls car; (let r := prefixFind (prefixBanks s c.old car) key car 5 [] (bump .OWL_C_LOOKUPS_COUNT car 1 s); r.1 = none ∧
      cascade = true ∧ cascadeServes r.2 = true)))) ∧
    (∃ (k : Nat) (hash : Nat) (cls : Nat) (cascade : Bool) (c : Cmd) (s : State), s.cmd k = some c ∧
      (let car := Op.car c.bytes; (let key := prefixKey hash cls car; (let r := prefixFind (prefixBanks s c.old car) key car 5 [] (bump .OWL_C_LOOKUPS_COUNT car 1 s); r.1 = none ∧
      (cascade = false ∨ cascadeServes r.2 = false))))) ∧
    (∃ (l : Lookup) (c : Cmd) (s : State), s.cmd l.cmd = some c ∧ Op.opcode c.bytes = 1) ∧
    (∃ (l : Lookup) (c : Cmd) (s : State), s.cmd l.cmd = some c ∧ Op.opcode c.bytes = 2 ∧
      (lookD l.cmd [] s.owl.results).length + 1 < u16 c.bytes 20) ∧
    (∃ (k : Nat) (c : Cmd) (rs : List (Nat × Nat)) (s : State), s.cmd k = some c ∧ look k s.owl.results = some rs ∧
      u16 c.bytes 20 ≤ rs.length) ∧
    (∃ (k : Nat) (c : Cmd) (s : State), Started k 4 2 c s ∧ (let n := u16 c.bytes 20; (n = 0 ∨ 4096 < n))) ∧
    (∃ (k : Nat) (c : Cmd) (s : State), Started k 4 2 c s ∧ (let n := u16 c.bytes 20; 1 ≤ n ∧ n ≤ 4096 ∧ c.phase = 0)) ∧
    (∃ (k : Nat) (c : Cmd) (s : State) (d : _), Started k 4 2 c s ∧ (let n := u16 c.bytes 20; 1 ≤ n ∧ n ≤ 4096 ∧ c.phase = 1 ∧
      c.want = 0 ∧ c.dataStep s (16 * n) true c.buf = .have_ d)) ∧
    (∃ (k : Nat) (c : Cmd) (s : State) (f : _), Started k 4 3 c s ∧
      (let b := u8 c.bytes 12; (let fault := bankFault s c (s.im.bankMode b == 1 && s.im.bankClassify b) (decide (u16 c.bytes 14 < 16384)) 0; fault = some f))) ∧
    (∃ (k : Nat) (c : Cmd) (s : State), Started k 4 3 c s ∧
      (let b := u8 c.bytes 12; (let fault := bankFault s c (s.im.bankMode b == 1 && s.im.bankClassify b) (decide (u16 c.bytes 14 < 16384)) 0; fault = none ∧
      c.phase = 0))) ∧
    (∃ (k : Nat) (c : Cmd) (s : State) (d : _), Started k 4 3 c s ∧
      (let b := u8 c.bytes 12; (let fault := bankFault s c (s.im.bankMode b == 1 && s.im.bankClassify b) (decide (u16 c.bytes 14 < 16384)) 0; fault = none ∧
      c.phase = 1 ∧ c.want = 0 ∧ c.dataStep s 48 true c.buf = .have_ d))) ∧
    (∃ (k : Nat) (b : Nat) (s : State), (s.bank b).wait = [] ∧ (s.bank b).shift = none ∧ (s.rg .OWL_X_SHIFT_HOLD 0 ≠ 1 ∨ (∃ c,
      s.cmd k = some c ∧ Op.opcode c.bytes = 4))) ∧
    (∃ (k : Nat) (b : Nat) (s : State), (((s.bank b).shift ≠ none ∨ s.rg .OWL_X_SHIFT_HOLD 0 = 1 ∧ (∀ c,
      s.cmd ((s.bank b).wait.headD k) = some c → Op.opcode c.bytes ≠ 4)))) ∧
    (∃ (k : Nat) (c : Cmd) (s : State), s.cmd k = some c ∧ Op.opcode c.bytes = 4) ∧
    (∃ (k : Nat) (c : Cmd) (s : State) (d : _), s.cmd k = some c ∧ Op.opcode c.bytes = 3 ∧ cmdData s c = some d) ∧
    (∃ (b : Nat) (i : Nat) (s : State), holeFrom s b i = none) ∧
    (∃ (b : Nat) (i : Nat) (s : State), holeFrom s b i = some i) ∧
    (∃ (b : Nat) (i : Nat) (s : State) (h : _), holeFrom s b i = some h ∧ (h ≠ i)) ∧
    (∃ (b : Nat) (i : Nat) (h : Nat) (s : State) (j : _), holeFrom s b i = some h ∧ i ≤ j ∧ j < h) ∧
    (∃ (b : Nat) (i : Nat) (h : Nat) (s : State) (e : _), holeFrom s b i = some h ∧ look h (s.bank b).entries = some e) ∧
    (∃ (b : Nat) (i : Nat) (e : OwlEntry) (s : State), look i (s.bank b).entries = some e) ∧
    (∃ (b : Fin 16) (x : Shift) (s : State), s.live = true ∧ (s.bank b.val).shift = some x ∧
      (s.rg .OWL_X_SHIFT_HOLD 0 = 1 ∨ s.clk < x.since + (x.hole - x.index))) ∧
    (∃ (b : Fin 16) (x : Shift) (s : State) (j : _) (e : _), s.live = true ∧ (s.bank b.val).shift = some x ∧
      (s.rg .OWL_X_SHIFT_HOLD 0 ≠ 1) ∧ x.since + (x.hole - x.index) ≤ s.clk ∧ x.index ≤ j ∧ j < x.hole ∧
      look j (s.bank b.val).entries = some e) ∧
    (∃ (b : Fin 16) (x : Shift) (s : State) (j : _), s.live = true ∧ (s.bank b.val).shift = some x ∧
      (s.rg .OWL_X_SHIFT_HOLD 0 ≠ 1) ∧ x.since + (x.hole - x.index) ≤ s.clk ∧ (j ≤ x.index ∨ x.hole < j)) ∧
    (∃ (b : Fin 16) (s : State), s.live = true ∧ (s.bank b.val).shift = none) ∧
    (∃ (k : Nat) (c : Cmd) (s : State) (f : _), Started k 4 4 c s ∧
      (let b := u8 c.bytes 12; (let fault := bankFault s c (s.im.bankMode b == 1) (decide (u16 c.bytes 14 < 16384)) 0; fault = some f))) ∧
    (∃ (k : Nat) (c : Cmd) (s : State), Started k 4 4 c s ∧
      (let b := u8 c.bytes 12; (let fault := bankFault s c (s.im.bankMode b == 1) (decide (u16 c.bytes 14 < 16384)) 0; fault = none))) ∧
    (∃ (k : Nat) (c : Cmd) (s : State) (f : _), Started k 4 5 c s ∧
      (let b := u8 c.bytes 12; (let first := u16 c.bytes 14; (let n := u16 c.bytes 16; (let fault := bankFault s c (s.im.bankMode b == 1) (decide (0 < n) && decide (first + n ≤ 16384)) 0; fault = some f))))) ∧
    (∃ (k : Nat) (c : Cmd) (s : State), Started k 4 5 c s ∧
      (let b := u8 c.bytes 12; (let first := u16 c.bytes 14; (let n := u16 c.bytes 16; (let fault := bankFault s c (s.im.bankMode b == 1) (decide (0 < n) && decide (first + n ≤ 16384)) 0; fault = none))))) ∧
    (∃ (k : Nat) (c : Cmd) (s : State) (f : _), Started k 4 6 c s ∧
      (let b := u8 c.bytes 12; (let n := u32 c.bytes 24; (let fault := bankFault s c (s.im.bankMode b == 2) (decide (16 ≤ n) && decide (n ≤ 139280)) 43; fault = some f)))) ∧
    (∃ (k : Nat) (c : Cmd) (s : State), Started k 4 6 c s ∧
      (let b := u8 c.bytes 12; (let n := u32 c.bytes 24; (let fault := bankFault s c (s.im.bankMode b == 2) (decide (16 ≤ n) && decide (n ≤ 139280)) 43; fault = none ∧
      (s.owl.watches.any (fun w => w.2.bank == b) = true))))) ∧
    (∃ (k : Nat) (c : Cmd) (s : State), Started k 4 6 c s ∧
      (let b := u8 c.bytes 12; (let n := u32 c.bytes 24; (let fault := bankFault s c (s.im.bankMode b == 2) (decide (16 ≤ n) && decide (n ≤ 139280)) 43; fault = none ∧
      (s.owl.watches.any (fun w => w.2.bank == b) = false) ∧ c.phase = 0)))) ∧
    (∃ (k : Nat) (c : Cmd) (s : State) (d : _), Started k 4 6 c s ∧
      (let b := u8 c.bytes 12; (let n := u32 c.bytes 24; (let fault := bankFault s c (s.im.bankMode b == 2) (decide (16 ≤ n) && decide (n ≤ 139280)) 43; fault = none ∧
      (s.owl.watches.any (fun w => w.2.bank == b) = false) ∧ c.phase = 1 ∧ c.want = 0 ∧
      c.dataStep s n true c.buf = .have_ d)))) ∧
    (∃ (d : List Byte) (a : Automaton) (t : _), parseAutomaton d = some a ∧ t ∈ a.trans) ∧
    (∃ (d : List Byte) (a : Automaton) (r : _), parseAutomaton d = some a ∧ r ∈ a.ranges) :=
  ⟨⟨[], 0, up, by decide +kernel⟩,
   ⟨[0], (prefixKey 9 0 0), 0, 4, (ent (prefixKey 9 0 0) true 3), [], (hitting up), by decide +kernel⟩,
   ⟨[0], (prefixKey 9 0 0), 0, 4, (ent (prefixKey 9 0 0) true 3), [], (missing up), by decide +kernel⟩,
   ⟨1, (cmd lookB), (run 1 (cmd lookB) up), by unfold Started; decide +kernel⟩,
   ⟨1, 9, 0, (cmd lookB), (run 1 (cmd lookB) (hitting up)), 3, false, by decide +kernel⟩,
   ⟨1, 8, 0, true, (cmd lookB), (run 1 (cmd lookB) (cascading up)), by decide +kernel⟩,
   ⟨1, 8, 0, false, (cmd lookB), (run 1 (cmd lookB) (hitting up)), by decide +kernel⟩,
   ⟨({ cmd := 1, item := 0, key := 0 }), (cmd lookB), (run 1 (cmd lookB) up), by decide +kernel⟩,
   ⟨({ cmd := 1, item := 0, key := 0 }), (cmd (listB 2)), (run 1 (cmd (listB 2)) up), by decide +kernel⟩,
   ⟨1, (cmd (listB 1)), [(0, 0)], (onOwl (fun x => { x with results := [(1, [(0, 0)])] }) (run 1 (cmd (listB 1)) up)),
     by decide +kernel⟩,
   ⟨1, (cmd (listB 0)), (run 1 (cmd (listB 0)) up), by unfold Started; decide +kernel⟩,
   ⟨1, (cmd (listB 1)), (run 1 (cmd (listB 1)) up), by unfold Started; decide +kernel⟩,
   ⟨1, (cmdAt 1 (listB 1) (zeros 16)), (run 1 (cmdAt 1 (listB 1) (zeros 16)) up), (zeros 16),
     by unfold Started; decide +kernel⟩,
   ⟨1, (cmd (insB 16 0)), (run 1 (cmd (insB 16 0)) up), (Status.badCommand, 40), by unfold Started; decide +kernel⟩,
   ⟨1, (cmd (insB 1 0)), (run 1 (cmd (insB 1 0)) up), by unfold Started; decide +kernel⟩,
   ⟨1, (cmdAt 1 (insB 1 0) (zeros 48)), (run 1 (cmdAt 1 (insB 1 0) (zeros 48)) up), (zeros 48),
     by unfold Started; decide +kernel⟩,
   ⟨1, 1, up, by decide, by decide, .inl (by decide)⟩,
   ⟨1, 1, (shifting 0 up), .inl (by decide)⟩,
   ⟨1, (cmd (delB 1 0)), (run 1 (cmd (delB 1 0)) up), by decide +kernel⟩,
   ⟨1, (cmdAt 2 (insB 1 0) (zeros 48)), (run 1 (cmdAt 2 (insB 1 0) (zeros 48)) up), (zeros 48), by decide +kernel⟩,
   ⟨1, 16383, (bank 1 [(16383, ent 1 true 0)] up), by decide +kernel⟩,
   ⟨1, 1, (bank 1 (full 1) up), by decide +kernel⟩,
   ⟨1, 0, (bank 1 (full 1) up), 1, by decide +kernel⟩,
   ⟨1, 0, 1, (bank 1 (full 1) up), 0, by decide +kernel⟩,
   ⟨1, 0, 1, (bank 1 (full 1 ++ [(1, ent 1 false 0)]) up), (ent 1 false 0), by decide +kernel⟩,
   ⟨1, 0, (ent 1 true 0), (bank 1 (full 1) up), by decide +kernel⟩,
   ⟨1, shift0, (shifting 0 up), by decide +kernel⟩,
   ⟨1, shift0, (shifting 0 (at_ 1 0 up)), 0, (ent 1 true 0), by decide +kernel⟩,
   ⟨1, shift0, (shifting 0 (at_ 1 0 up)), 0, by decide +kernel⟩,
   ⟨1, up, by decide +kernel⟩,
   ⟨1, (cmd (delB 16 0)), (run 1 (cmd (delB 16 0)) up), (Status.badCommand, 40), by unfold Started; decide +kernel⟩,
   ⟨1, (cmd (delB 1 0)), (run 1 (cmd (delB 1 0)) up), by unfold Started; decide +kernel⟩,
   ⟨1, (cmd (readB 5 0 1)), (run 1 (cmd (readB 5 0 1)) up), (0x0C, 40), by unfold Started; decide +kernel⟩,
   ⟨1, (cmd (readB 1 0 1)), (run 1 (cmd (readB 1 0 1)) up), by unfold Started; decide +kernel⟩,
   ⟨1, (cmd (autB 5 32)), (run 1 (cmd (autB 5 32)) up), (0x0C, 40), by unfold Started; decide +kernel⟩,
   ⟨1, (cmd (autB 2 32)), (watched (run 1 (cmd (autB 2 32)) up)), by unfold Started; decide +kernel⟩,
   ⟨1, (cmd (autB 2 32)), (run 1 (cmd (autB 2 32)) up), by unfold Started; decide +kernel⟩,
   ⟨1, (cmdAt 1 (autB 2 32) autD), (run 1 (cmdAt 1 (autB 2 32) autD) up), autD, by unfold Started; decide +kernel⟩,
   ⟨autD, aut0, (0, { state := 0, lo := 0, hi := 0, next := 0, fire := false, fireId := 0 }), by decide +kernel⟩,
   ⟨autD, aut0, (0, 0, 0), by decide +kernel⟩⟩

end W14a

namespace W14b

def watch0 : Watch := { car := 0, seq := 7, layer := 0, bank := 2, state := 0, start := 0, edgeReport := false, latched := none, missed := 0, wait := none }
def rep0 : Report := { pos := 0, fireId := 1, state := 0, edge := false }
def watched (w : Watch) (s : State) : State := setWatch 0 w s
def setB (flags b : Nat) : List Byte := cmdB 4 7 7 (leBytes 2 0 ++ leBytes 1 b ++ leBytes 1 flags)
def waitB : List Byte := cmdB 4 8 7 []
def fire0 : Trans := { state := 0, lo := 0, hi := 0, next := 0, fire := true, fireId := 1 }
def aut (ts : List (Nat × Trans)) : Automaton := { states := 1, ranges := [], trans := ts }
def machined (a : Automaton) (s : State) : State := setBank 2 { Bank.init with autom := some a } s
def cascading (s : State) : State :=
  onOwl (fun x => { x with cascade := 1 }) (tt 2 (setRg .OWL_CTRL_CASCADE_EN 0 1
    (onComp (fun c => { c with image := some { im0 with sects := [(3, [1, 5, 2, 9] ++ zeros 12 ++ [2] ++ zeros 11)] ++ im0.sects } }) s)))
def look0 : Lookup := { cmd := 1, item := 0, key := 0 }
def slot0 (returned checked : Bool) : OwnSlot := { start := 0, look := some look0, returned := returned, checked := checked }
def owning (o : OwnSlot) (s : State) : State := onOwl (fun x => { x with own := some o }) s
def foreign0 : Foreign := { start := 0, origin := 1, key := 0, hit := some (3, false) }
def comparing (im : Image) (b : Nat) (s : State) : State :=
  setRg .OWL_CTRL_SCRUB_E 0 1 (setRg .OWL_CTRL_SCRUB_W 0 1 (onOwl (fun x => { x with scrubPos := [(0, (b, 0)), (1, (b, 0))] })
    (onSeq (fun x => { x with frames := [((0, 0), .owl b)] }) (onComp (fun c => { c with image := some { im with sects := [(14, [0, 1, 1, 2, 2])] ++ im.sects } }) s))))
def ent (v : Nat) (valid : Bool) (r : Nat) : OwlEntry := { value := v, care := 0, result := r, valid := valid }
def shadowed (e : OwlEntry) : State := setBank 0 { Bank.init with entries := [(0, e)] } (onSeq (fun x => { x with frames := [((0, 0), .owl 0)] }) up)
def shadowedAut : State := setBank 0 { Bank.init with autom := some (aut [(0, fire0)]) } (onSeq (fun x => { x with frames := [((0, 0), .owl 0)] }) up)
def lostShadow (e : OwlEntry) : State :=
  onMem (fun m => { m with bad := [(codeKey (hbmAddr 0 im0.shareSize), 2)] }) (shadowed e)
def expert9 (s : State) : State := setRg .CMP_EXPERT_UNLOCK_BLOCKS 0 512 s

/-- Every clause of Obligations.OwlWatchesCascadesAndScrubs has states and operands that meet its premises. -/
theorem witness_OwlWatchesCascadesAndScrubs :
    (∃ (k : Nat) (c : Cmd) (q : Seqd) (s : State), Started k 4 7 c s ∧ bit (u8 c.bytes 15) 0 = false ∧
      look (Op.seqId c.bytes) s.seq.seqs = some q ∧
      (let car := Op.car c.bytes; (let b := u8 c.bytes 14; (16 ≤ b ∨ s.im.bankMode b ≠ 2 ∨ s.serves c.old (.bank b) ≠ some car)))) ∧
    (∃ (k : Nat) (c : Cmd) (q : Seqd) (s : State), Started k 4 7 c s ∧ bit (u8 c.bytes 15) 0 = false ∧
      look (Op.seqId c.bytes) s.seq.seqs = some q ∧
      (let car := Op.car c.bytes; (let b := u8 c.bytes 14; (let start := u16 c.bytes 16; b < 16 ∧ s.im.bankMode b = 2 ∧
      s.serves c.old (.bank b) = some car ∧ u16 c.bytes 12 < q.layers ∧ start < 4096 ∧ ((∀ a,
      (s.bank b).autom = some a → start < a.states)) ∧ q.car = car ∧ s.seqHeld car (Op.seqId c.bytes) = false)))) ∧
    (∃ (i : Nat) (s : State), (pickBelow 16384 (fun i => !has i s.owl.watches) s = some i)) ∧
    (∃ (k : Nat) (c : Cmd) (s : State), Started k 4 7 c s ∧ bit (u8 c.bytes 15) 0 = true) ∧
    (∃ (i : Nat) (w : Watch) (s : State), look i s.owl.watches = some w ∧ w.wait = none) ∧
    (∃ (i : Nat) (w : Watch) (s : State) (k : _), look i s.owl.watches = some w ∧ w.wait = some k) ∧
    (∃ (k : Nat) (c : Cmd) (w : Watch) (s : State), Started k 4 8 c s ∧ look (u16 c.bytes 12) s.owl.watches = some w ∧
      (w.car ≠ Op.car c.bytes)) ∧
    (∃ (k : Nat) (c : Cmd) (w : Watch) (s : State) (r : _), Started k 4 8 c s ∧ look (u16 c.bytes 12) s.owl.watches = some w ∧
      w.car = Op.car c.bytes ∧ w.latched = some r) ∧
    (∃ (k : Nat) (c : Cmd) (w : Watch) (s : State), Started k 4 8 c s ∧ look (u16 c.bytes 12) s.owl.watches = some w ∧
      w.car = Op.car c.bytes ∧ w.latched = none ∧ w.wait = none) ∧
    (∃ (i : Nat) (token : Nat) (w : Watch) (a : Automaton) (s : State), look i s.owl.watches = some w ∧
      (s.bank w.bank).autom = some a ∧ transFor a w.state (tokenClass a (token % 2 ^ 24)) = none) ∧
    (∃ (i : Nat) (token : Nat) (w : Watch) (a : Automaton) (s : State) (t : _), look i s.owl.watches = some w ∧
      (s.bank w.bank).autom = some a ∧ transFor a w.state (tokenClass a (token % 2 ^ 24)) = some t) ∧
    (∃ (a : Automaton) (st : Nat) (cls : Nat) (t : Trans) (m : _) (u : _), transFor a st cls = some t ∧ (m, u) ∈ a.trans ∧
      u.state = st ∧ u.lo ≤ cls ∧ cls ≤ u.hi) ∧
    (∃ (i : Nat) (w : Watch) (s : State) (k : _), look i s.owl.watches = some w ∧ w.wait = some k) ∧
    (∃ (i : Nat) (w : Watch) (s : State), look i s.owl.watches = some w ∧ w.wait = none ∧ w.latched = none) ∧
    (∃ (i : Nat) (w : Watch) (s : State) (old : _), look i s.owl.watches = some w ∧ w.wait = none ∧ w.latched = some old) ∧
    (∃ (s : State) (l : _) (r : _), s.live = true ∧ cascadeOn s = true ∧ s.timeServes = true ∧ slotNode s = s.sled ∧
      s.owl.own = none ∧ s.owl.queue = l :: r ∧ cascadeServes s = true) ∧
    (∃ (s : State), s.live = true ∧ cascadeOn s = true ∧ s.timeServes = true ∧ slotNode s = s.sled ∧ s.owl.own = none ∧
      s.owl.queue = []) ∧
    (∃ (s : State), s.live = true ∧ cascadeServes s = false ∧ (s.owl.queue ≠ [])) ∧
    (∃ (f : BitVec 256) (s : State), s.live = true ∧ (s.im.cascadeCount ≠ 0) ∧
      (let n := f.toNat; (let whole := bits n 0 8 = 0xC3 ∧ bits n 176 16 = owlCrc 176 (n % 2 ^ 176); ¬ whole))) ∧
    (∃ (f : BitVec 256) (s : State), s.live = true ∧ (s.im.cascadeCount ≠ 0) ∧
      (let n := f.toNat; (let whole := bits n 0 8 = 0xC3 ∧ bits n 176 16 = owlCrc 176 (n % 2 ^ 176); whole ∧
      bits n 8 3 = s.sled))) ∧
    (∃ (f : BitVec 256) (s : State), s.live = true ∧ (s.im.cascadeCount ≠ 0) ∧
      (let n := f.toNat; (let whole := bits n 0 8 = 0xC3 ∧ bits n 176 16 = owlCrc 176 (n % 2 ^ 176); whole ∧
      (bits n 8 3 ≠ s.sled) ∧ bit n 11 = true))) ∧
    (∃ (f : BitVec 256) (s : State), s.live = true ∧ (s.im.cascadeCount ≠ 0) ∧
      (let n := f.toNat; (let whole := bits n 0 8 = 0xC3 ∧ bits n 176 16 = owlCrc 176 (n % 2 ^ 176); whole ∧
      (bits n 8 3 ≠ s.sled) ∧ bit n 11 = false))) ∧
    (∃ (o : OwnSlot) (s : State), s.live = true ∧ s.owl.own = some o ∧ (o.checked = true ∨ s.ft < o.start + 192)) ∧
    (∃ (o : OwnSlot) (s : State), s.live = true ∧ s.owl.own = some o ∧ o.checked = false ∧ o.start + 192 ≤ s.ft ∧
      o.returned = true) ∧
    (∃ (o : OwnSlot) (s : State), s.live = true ∧ s.owl.own = some o ∧ o.checked = false ∧ o.start + 192 ≤ s.ft ∧
      o.returned = false ∧ s.owl.cascade = 2) ∧
    (∃ (o : OwnSlot) (s : State), s.live = true ∧ s.owl.own = some o ∧ o.checked = false ∧ o.start + 192 ≤ s.ft ∧
      o.returned = false ∧ (s.owl.cascade ≠ 2)) ∧
    (∃ (s : State), s.live = true ∧ (s.im.cascadeCount ≠ 0) ∧ s.ft < slotStart s + 320) ∧
    (∃ (s : State), s.live = true ∧ (s.im.cascadeCount ≠ 0) ∧ slotStart s + 320 ≤ s.ft) ∧
    (∃ (f : Foreign) (hit : Nat × Bool) (s : State), s.live = true ∧ s.owl.foreign = some f ∧ f.hit = some hit ∧
      f.start + 384 ≤ s.ft ∧ s.ft < f.start + 512) ∧
    (∃ (f : BitVec 256) (s : State), s.live = true ∧ (s.im.cascadeCount ≠ 0) ∧
      (let n := f.toNat; (let whole := bits n 0 8 = 0x3C ∧ bits n 80 16 = owlCrc 80 (n % 2 ^ 80); ¬ whole))) ∧
    (∃ (f : BitVec 256) (s : State), s.live = true ∧ (s.im.cascadeCount ≠ 0) ∧
      (let n := f.toNat; (let whole := bits n 0 8 = 0x3C ∧ bits n 80 16 = owlCrc 80 (n % 2 ^ 80); whole ∧
      (bits n 8 3 ≠ s.sled)))) ∧
    (∃ (f : BitVec 256) (s : State) (o : _) (l : _), s.live = true ∧ (s.im.cascadeCount ≠ 0) ∧
      (let n := f.toNat; (let whole := bits n 0 8 = 0x3C ∧ bits n 80 16 = owlCrc 80 (n % 2 ^ 80); whole ∧
      bits n 8 3 = s.sled ∧ s.owl.own = some o ∧ o.look = some l ∧ s.ft < o.start + 512))) ∧
    (∃ (o : OwnSlot) (l : Lookup) (s : State), s.live = true ∧ s.owl.own = some o ∧ o.look = some l ∧ s.owl.foreign = none ∧
      s.owl.prioOut = false ∧ s.ft < o.start + 512) ∧
    (∃ (o : OwnSlot) (l : Lookup) (s : State), s.live = true ∧ s.owl.own = some o ∧ o.look = some l ∧ s.owl.foreign = none ∧
      s.owl.prioOut = false ∧ o.start + 512 ≤ s.ft) ∧
    (∃ (half : Fin 2) (s : State), s.live = true ∧ (compareRuns s half.val = false ∨ compareBanks s half.val = [])) ∧
    (∃ (half : Fin 2) (s : State) (b : _) (i : _), s.live = true ∧ compareRuns s half.val = true ∧
      compareBanks s half.val = [b] ∧ look half.val s.owl.scrubPos = some (b, i)) ∧
    (∃ (b : Nat) (i : Nat) (s : State) (d : _), inShift (s.bank b) i = false ∧ shadowRead s b i = some d ∧
      heldBytes (s.bank b) i = d) ∧
    (∃ (b : Nat) (i : Nat) (s : State) (d : _), inShift (s.bank b) i = false ∧ shadowRead s b i = some d ∧
      (s.bank b).autom = none ∧ (entryBytes (lookD i emptyEntry (s.bank b).entries) ≠ d)) ∧
    (∃ (b : Nat) (i : Nat) (s : State) (d : _) (a : _), inShift (s.bank b) i = false ∧ shadowRead s b i = some d ∧
      (s.bank b).autom = some a ∧ (heldBytes (s.bank b) i ≠ d)) ∧
    (∃ (b : Nat) (i : Nat) (s : State) (e : _), inShift (s.bank b) i = false ∧ shadowRead s b i = none ∧
      look i (s.bank b).entries = some e) ∧
    (∃ (p : Port) (s : State), s.live = true ∧ Reaches p 0x980000 s ∧ s.expertOpen p.idx 9 = false) ∧
    (∃ (p : Port) (s : State), s.live = true ∧ Reaches p 0x980000 s ∧ s.expertOpen p.idx 9 = true) :=
  ⟨⟨1, (cmd (setB 0 16)), sq, (run 1 (cmd (setB 0 16)) (paged sq pg up)), by unfold Started; decide +kernel⟩,
   ⟨1, (cmd (setB 0 2)), sq, (run 1 (cmd (setB 0 2)) (paged sq pg up)), by unfold Started; decide +kernel⟩,
   ⟨(Config.freeValue 0 % 16384), State.reset,
     by first | decide +kernel | ((repeat' apply And.intro) <;> first | decide +kernel | rfl)⟩,
   ⟨1, (cmd (setB 1 2)), (run 1 (cmd (setB 1 2)) up), by unfold Started; decide +kernel⟩,
   ⟨0, watch0, (watched watch0 up), by decide +kernel⟩,
   ⟨0, ({ watch0 with wait := some 1 }), (watched { watch0 with wait := some 1 } up), 1, by decide +kernel⟩,
   ⟨1, (cmd waitB), ({ watch0 with car := 1 }), (run 1 (cmd waitB) (watched { watch0 with car := 1 } up)),
     by unfold Started; decide +kernel⟩,
   ⟨1, (cmd waitB), ({ watch0 with latched := some rep0 }),
     (run 1 (cmd waitB) (watched { watch0 with latched := some rep0 } up)), rep0, by unfold Started; decide +kernel⟩,
   ⟨1, (cmd waitB), watch0, (run 1 (cmd waitB) (watched watch0 up)), by unfold Started; decide +kernel⟩,
   ⟨0, 0, watch0, (aut []), (machined (aut []) (watched watch0 up)), by decide +kernel⟩,
   ⟨0, 0, watch0, (aut [(0, fire0)]), (machined (aut [(0, fire0)]) (watched watch0 up)), fire0, by decide +kernel⟩,
   ⟨(aut [(0, fire0)]), 0, 0, fire0, 0, fire0, by decide +kernel⟩,
   ⟨0, ({ watch0 with wait := some 1 }), (watched { watch0 with wait := some 1 } up), 1, by decide +kernel⟩,
   ⟨0, watch0, (watched watch0 up), by decide +kernel⟩,
   ⟨0, ({ watch0 with latched := some rep0 }), (watched { watch0 with latched := some rep0 } up), rep0, by decide +kernel⟩,
   ⟨(onOwl (fun x => { x with queue := [look0] }) (cascading up)), look0, [], by decide +kernel⟩,
   ⟨(cascading up), by decide +kernel⟩,
   ⟨(onOwl (fun x => { x with queue := [look0] }) up), by decide +kernel⟩,
   ⟨0, (cascading up), by decide +kernel⟩,
   ⟨(BitVec.ofNat 256 (searchFrame 0 0 0)), (cascading up), by decide +kernel⟩,
   ⟨(BitVec.ofNat 256 (searchFrame 1 1 0)), (cascading up), by decide +kernel⟩,
   ⟨(BitVec.ofNat 256 (searchFrame 1 0 5)), (cascading up), by decide +kernel⟩,
   ⟨(slot0 false true), (owning (slot0 false true) up), by decide +kernel⟩,
   ⟨(slot0 true false), (owning (slot0 true false) (at_ 0 192 up)), by decide +kernel⟩,
   ⟨(slot0 false false), (owning (slot0 false false) (onOwl (fun x => { x with cascade := 2 }) (at_ 0 192 up))),
     by decide +kernel⟩,
   ⟨(slot0 false false), (owning (slot0 false false) (at_ 0 192 up)), by decide +kernel⟩,
   ⟨(at_ 0 319 (cascading up)), by decide +kernel⟩,
   ⟨(at_ 0 320 (cascading up)), by decide +kernel⟩,
   ⟨foreign0, (3, false), (onOwl (fun x => { x with foreign := some foreign0 }) (at_ 0 511 up)), by decide +kernel⟩,
   ⟨0, (cascading up), by decide +kernel⟩,
   ⟨(BitVec.ofNat 256 (resultFrame 1 0 false 3)), (cascading up), by decide +kernel⟩,
   ⟨(BitVec.ofNat 256 (resultFrame 0 1 false 3)), (owning (slot0 true true) (at_ 0 511 (cascading up))), (slot0 true true),
     look0, by decide +kernel⟩,
   ⟨(slot0 true true), look0, (owning (slot0 true true) (at_ 0 511 up)), by decide +kernel⟩,
   ⟨(slot0 true true), look0, (owning (slot0 true true) (at_ 0 512 up)), by decide +kernel⟩,
   ⟨0, up, by decide +kernel⟩,
   ⟨0, (comparing im0 0 up), 0, 0, by decide +kernel⟩,
   ⟨0, 0, (shadowed (ent 0 false 0)), (zeros 48), by decide +kernel⟩,
   ⟨0, 0, (shadowed (ent 1 true 0)), (zeros 48), by decide +kernel⟩,
   ⟨0, 0, shadowedAut, (zeros 48), (aut [(0, fire0)]), by decide +kernel⟩,
   ⟨0, 0, (lostShadow (ent 1 true 0)), (ent 1 true 0), by decide +kernel⟩,
   ⟨.a, up, by unfold Reaches; decide +kernel⟩,
   ⟨.a, (expert9 up), by unfold Reaches; decide +kernel⟩⟩

end W14b

namespace W15

def scrubbing (at_ : Nat) (bad : List (Nat × Nat)) : State :=
  setRg .MEM_CTRL_SCRUB_EN 0 1 (onMem (fun m => { m with scrubAt := at_, bad := bad }) up)
def expert10 (n : Nat) : State := setRg .MEM_X_INJECT_SYMBOLS 0 n (setRg .CMP_EXPERT_UNLOCK_BLOCKS 0 1024 up)
def corrected (n : Nat) : State := onMem (fun m => { m with pcCorr := [(8, (up.frame, n))] }) up
def port15 (st : CxlSt) (clk : Nat) : State := at_ clk 0 (setCxl 1 { Cxl.init with st := st } up)

/-- Every clause of Obligations.MemoryIsScrubbedInjectedAndAttached has states and operands that meet its premises. -/
theorem witness_MemoryIsScrubbedInjectedAndAttached :
    (∃ (s : State), s.live = true ∧ s.rg .MEM_CTRL_SCRUB_EN 0 = 0) ∧
    (∃ (s : State), s.live = true ∧ (s.rg .MEM_CTRL_SCRUB_EN 0 ≠ 0) ∧
      (let key := scrubKey s.mem.scrubAt; s.mem.scrubAt + 1 < 64 * groupCodewords ∧ look key s.mem.bad = none)) ∧
    (∃ (s : State) (n : _), s.live = true ∧ (s.rg .MEM_CTRL_SCRUB_EN 0 ≠ 0) ∧
      (let key := scrubKey s.mem.scrubAt; s.mem.scrubAt + 1 < 64 * groupCodewords ∧ look key s.mem.bad = some n ∧ n < 2)) ∧
    (∃ (s : State) (n : _), s.live = true ∧ (s.rg .MEM_CTRL_SCRUB_EN 0 ≠ 0) ∧
      (let key := scrubKey s.mem.scrubAt; s.mem.scrubAt + 1 < 64 * groupCodewords ∧ look key s.mem.bad = some n ∧ 2 ≤ n)) ∧
    (∃ (s : State), s.live = true ∧ (s.rg .MEM_CTRL_SCRUB_EN 0 ≠ 0) ∧
      (let key := scrubKey s.mem.scrubAt; 64 * groupCodewords ≤ s.mem.scrubAt + 1 ∧ look key s.mem.bad = none)) ∧
    (∃ (sym : Nat), sym < 2) ∧
    (∃ (key : Nat) (sym : Nat) (s : State) (c : _), (let g := key * 32 / 2 ^ 34; 2 ≤ sym ∧ s.owner (.group g) = some c)) ∧
    (∃ (p : Port) (s : State), s.live = true ∧ Reaches p 0xA8000C s ∧ s.expertOpen p.idx 10 = true) ∧
    (∃ (k : Fin 16) (s : State), s.live = true ∧ k.val ∉ s.mem.trained) ∧
    (∃ (k : Fin 16) (s : State), s.live = true ∧ k.val ∈ s.mem.trained) ∧
    (∃ (g : Fin 64) (pc : Fin 8) (s : State), s.live = true ∧ s.pcCount (8 * g.val + pc.val) ≤ s.rg .MEM_X_CE_THR_COUNT 0) ∧
    (∃ (g : Fin 64) (pc : Fin 8) (s : State), s.live = true ∧ s.rg .MEM_X_CE_THR_COUNT 0 < s.pcCount (8 * g.val + pc.val)) ∧
    (∃ (p : Port) (s : State), s.live = true ∧ Reaches p 0xA80010 s ∧ s.expertOpen p.idx 10 = true ∧
      (let n := s.rg .MEM_X_INJECT_SYMBOLS 0; n = 0)) ∧
    (∃ (p : Port) (s : State), s.live = true ∧ Reaches p 0xA80010 s ∧ s.expertOpen p.idx 10 = true ∧
      (let n := s.rg .MEM_X_INJECT_SYMBOLS 0; (n ≠ 0))) ∧
    (∃ (s : State), s.mem.inject = none) ∧
    (∃ (a : Nat) (bs : List Byte) (s : State) (n : _), (let w := wholeKeys a bs.length; a < 2 ^ 40 ∧ w.1 < w.2 ∧ (n ≠ 0) ∧
      s.mem.inject = some (a / 2 ^ 34, n))) ∧
    (∃ (n : Nat) (m : _), n < 4 ∧ (m ≠ n) ∧ m < 4) ∧
    (∃ (c : Fin 4) (s : State), s.live = true ∧ ((s.cxlPort c.val).st ≠ .absent ∨ c.val ∈ s.pkg.perst ∨ 8 ∉ s.start.done)) ∧
    (∃ (c : Fin 4) (s : State), s.live = true ∧ (s.cxlPort c.val).st = .absent ∧ c.val ∉ s.pkg.perst ∧ 8 ∈ s.start.done ∧
      s.rg .BIST_SHUT_STATUS_STATE 0 < 2 ∧ (s.lc ≠ 4)) ∧
    (∃ (c : Fin 4) (width : Nat) (s : State), s.live = true ∧ (s.cxlPort c.val).st = .training ∧
      s.clk < (s.cxlPort c.val).trainAt + 100000000 ∧ (width ≠ 16 ∧ width ≠ 8)) ∧
    (∃ (c : Fin 4) (width : Nat) (gts : Nat) (s : State), s.live = true ∧ (s.cxlPort c.val).st = .training ∧
      s.clk < (s.cxlPort c.val).trainAt + 100000000 ∧ ((width = 16 ∨ width = 8)) ∧ ((gts = 64 ∨ gts = 32))) ∧
    (∃ (n : Nat), n < 4) ∧
    (∃ (c : Fin 4) (s : State), s.live = true ∧ (s.cxlPort c.val).st = .training) ∧
    (∃ (c : Fin 4) (s : State), s.live = true ∧ (s.cxlPort c.val).active = true) ∧
    (∃ (c : Fin 4) (s : State), s.live = true ∧ (s.cxlPort c.val).active = false) ∧
    (∃ (n : Nat), n < 4) ∧
    (∃ (c : Fin 4) (s : State), s.live = true ∧ ((s.cxlPort c.val).st ≠ .down ∨ s.clk < (s.cxlPort c.val).downAt + 10000000)) ∧
    (∃ (c : Fin 4) (s : State), s.live = true ∧ (s.cxlPort c.val).st = .down ∧ (s.cxlPort c.val).downAt + 10000000 ≤ s.clk ∧
      s.rg .BIST_SHUT_STATUS_STATE 0 < 2) :=
  ⟨⟨(setRg .MEM_CTRL_SCRUB_EN 0 0 up), by decide +kernel⟩,
   ⟨(scrubbing 0 []), by decide +kernel⟩,
   ⟨(scrubbing 0 [(scrubKey 0, 1)]), 1, by decide +kernel⟩,
   ⟨(scrubbing 0 [(scrubKey 0, 2)]), 2, by decide +kernel⟩,
   ⟨(scrubbing (64 * groupCodewords - 1) []), by decide +kernel⟩,
   ⟨1, by decide +kernel⟩,
   ⟨0, 2, up, 0, by decide +kernel⟩,
   ⟨.a, (expert10 0), by unfold Reaches; decide +kernel⟩,
   ⟨15, (onMem (fun m => { m with trained := [] }) up), by decide +kernel⟩,
   ⟨15, (onMem (fun m => { m with trained := [15] }) up), by decide +kernel⟩,
   ⟨1, 0, (setRg .MEM_X_CE_THR_COUNT 0 4 (corrected 4)), by decide +kernel⟩,
   ⟨1, 0, (setRg .MEM_X_CE_THR_COUNT 0 4 (corrected 5)), by decide +kernel⟩,
   ⟨.a, (expert10 0), by unfold Reaches; decide +kernel⟩,
   ⟨.a, (expert10 1), by unfold Reaches; decide +kernel⟩,
   ⟨up, by decide +kernel⟩,
   ⟨0, (zeros 32), (onMem (fun m => { m with inject := some (0, 1) }) up), 1, by decide +kernel⟩,
   ⟨0, 3, by decide +kernel⟩,
   ⟨1, (port15 .up 0), by decide +kernel⟩,
   ⟨1, (onStart (fun x => { x with done := [8] }) (onPkg (fun x => { x with perst := [] }) (port15 .absent 0))),
     by decide +kernel⟩,
   ⟨1, 4, (port15 .training 99999999), by decide +kernel⟩,
   ⟨1, 8, 32, (port15 .training 99999999), by decide +kernel⟩,
   ⟨3, by decide +kernel⟩,
   ⟨1, (port15 .training 0), by decide +kernel⟩,
   ⟨1, (port15 .degraded 0), by decide +kernel⟩,
   ⟨1, (port15 .training 0), by decide +kernel⟩,
   ⟨3, by decide +kernel⟩,
   ⟨1, (port15 .down 9999999), by decide +kernel⟩,
   ⟨1, (port15 .down 10000000), by decide +kernel⟩⟩

end W15

namespace W16

def rail (clk : Nat) (out : Option Nat) : State := at_ clk 0 (onMon (fun m => { m with railOut := (out.map (fun t => (0, t))).toList }) up)
def stepEvt : Evt := { ft := 0, kind := 5, car := 0, per := 0, st := 1, arg := 2 }
def persisting (clk : Nat) : State := at_ clk 0 (onStart (fun x => { x with persistAt := 0 }) up)
def writing16 (purpose : Nat) : State := onStart (fun x => { x with writing := some (1, Persist.empty, purpose, 5) }) up
def clearing (seq : Nat) (s : State) : State := setRg .EVR_CLEAR_SEQ_SEQ 0 seq (sem 2 0 s)

/-- Every clause of Obligations.MonitorsThrottleAndPersist has states and operands that meet its premises. -/
theorem witness_MonitorsThrottleAndPersist :
    (∃ (temps : List (Nat × Int)) (volts : List (Nat × Nat)) (procs : List (Nat × Nat)) (s : State), s.live = true ∧
      ((∀ e ∈ temps, e.1 < 48)) ∧ ((∀ e ∈ volts, e.1 < 24)) ∧ ((∀ e ∈ procs, e.1 < 16))) ∧
    (∃ (i : Nat) (r : Int) (s : State),
      (let v := clampInt (-2048) 2047 (r + signed 8 (s.rg .MON_X_TTRIM_OFFSET i)); signed 12 (s.rg .MON_TEMP_MAX_MAX 0) < v)) ∧
    (∃ (i : Nat) (r : Int) (s : State),
      (let v := clampInt (-2048) 2047 (r + signed 8 (s.rg .MON_X_TTRIM_OFFSET i)); (s.rg .MON_TEMP_EXCLUDED i = 1 ∨ v < (s.rg .MON_THRESH_WARN 0 * 8 : Int)))) ∧
    (∃ (i : Nat) (r : Int) (s : State),
      (let v := clampInt (-2048) 2047 (r + signed 8 (s.rg .MON_X_TTRIM_OFFSET i)); (s.rg .MON_TEMP_EXCLUDED i ≠ 1) ∧
      (s.rg .MON_THRESH_WARN 0 * 8 : Int) ≤ v)) ∧
    (∃ (s : State), s.start.stopped = false) ∧
    (∃ (i : Nat) (mv : Nat) (s : State), coreRail i = true ∧ (s.rg .MON_VOLT_EXCLUDED i ≠ 1) ∧ 660 ≤ mv ∧ mv ≤ 800) ∧
    (∃ (i : Nat) (mv : Nat) (s : State), coreRail i = true ∧ (s.rg .MON_VOLT_EXCLUDED i ≠ 1) ∧ (mv < 660 ∨ 800 < mv) ∧
      look i s.mon.railOut = none) ∧
    (∃ (i : Nat) (mv : Nat) (s : State) (t : _), coreRail i = true ∧ (s.rg .MON_VOLT_EXCLUDED i ≠ 1) ∧ (mv < 660 ∨ 800 < mv) ∧
      look i s.mon.railOut = some t ∧ t + 1000000 ≤ s.clk ∧ s.start.stopped = false) ∧
    (∃ (i : Nat) (mv : Nat) (s : State) (t : _), coreRail i = true ∧ (s.rg .MON_VOLT_EXCLUDED i ≠ 1) ∧ (mv < 660 ∨ 800 < mv) ∧
      look i s.mon.railOut = some t ∧ s.clk < t + 1000000) ∧
    (∃ (s : State), s.live = true ∧ s.frame ≤ s.mon.evalAt) ∧
    (∃ (s : State), s.live = true ∧ s.mon.evalAt < s.frame) ∧
    (∃ (t : Nat), t < 3) ∧
    (∃ (t : Nat), 3 ≤ t) ∧
    (∃ (t : Nat) (since : Nat), 0 < t ∧ 4 ≤ since) ∧
    (∃ (i : Fin 256) (e : Evt) (s : State), s.live = true ∧ s.evt i.val = some e ∧ evtFires s i.val 5 = true) ∧
    (∃ (s : State), s.live = true ∧ 3 ∈ s.start.done ∧ s.start.writing = none ∧ s.rg .BIST_SHUT_STATUS_STATE 0 < 2 ∧
      s.clk < s.start.persistAt + 60000000000) ∧
    (∃ (s : State), s.live = true ∧ 3 ∈ s.start.done ∧ s.start.writing = none ∧ s.rg .BIST_SHUT_STATUS_STATE 0 < 2 ∧
      s.start.persistAt + 60000000000 ≤ s.clk) ∧
    (∃ (a : Nat) (ft : Nat) (p : Persist) (s : State), s.start.writing = some (a, p, 0, ft) ∧ s.start.stopped = false ∧
      (s.rg .BIST_SHUT_STATUS_STATE 0 ≠ 3) ∧ s.evr.clearWait = none ∧ s.start.clearWrites = 0) ∧
    (∃ (a : Nat) (ft : Nat) (purpose : Nat) (p : Persist) (s : State), s.start.writing = some (a, p, purpose, ft)) ∧
    (∃ (p : Port) (s : State), s.live = true ∧ Reaches p 0xE00018 s ∧ s.holdsSem p.idx 2 = false) ∧
    (∃ (p : Port) (s : State), s.live = true ∧ Reaches p 0xE00018 s ∧
      (let seq := s.rg .EVR_CLEAR_SEQ_SEQ p.idx; s.holdsSem p.idx 2 = true ∧ s.evr.next - 1 < seq)) ∧
    (∃ (p : Port) (s : State), s.live = true ∧ Reaches p 0xE00018 s ∧
      (let seq := s.rg .EVR_CLEAR_SEQ_SEQ p.idx; s.holdsSem p.idx 2 = true ∧ seq ≤ s.evr.next - 1 ∧
      clearAuthorised p.idx s = true ∧ s.start.writing = none)) ∧
    (∃ (p : Port) (s : State), s.live = true ∧ Reaches p 0xE00018 s ∧
      (let seq := s.rg .EVR_CLEAR_SEQ_SEQ p.idx; s.holdsSem p.idx 2 = true ∧ seq ≤ s.evr.next - 1 ∧
      clearAuthorised p.idx s = true ∧ (s.start.writing ≠ none))) ∧
    (∃ (s : State), s.live = true ∧ (s.evr.purge = [] ∨ 0 < s.start.clearWrites ∨ s.start.writing ≠ none)) ∧
    (∃ (s : State), s.live = true ∧ (s.evr.purge ≠ []) ∧ s.start.clearWrites = 0 ∧ s.start.writing = none) :=
  ⟨⟨[(47, 2047)], [(23, 1)], [(15, 0)], up, by decide +kernel⟩,
   ⟨0, 2047, (setRg .MON_TEMP_MAX_MAX 0 0 up), by decide +kernel⟩,
   ⟨0, 2047, (setRg .MON_TEMP_EXCLUDED 0 1 up), by decide +kernel⟩,
   ⟨0, 2047, (setRg .MON_TEMP_MAX_MAX 0 0 up), by decide +kernel⟩,
   ⟨up, by decide +kernel⟩,
   ⟨0, 660, (rail 0 none), by decide +kernel⟩,
   ⟨0, 801, (rail 0 none), by decide +kernel⟩,
   ⟨0, 659, (rail 1000000 (some 0)), 0, by decide +kernel⟩,
   ⟨0, 659, (rail 999999 (some 0)), 0, by decide +kernel⟩,
   ⟨up, by decide +kernel⟩,
   ⟨(at_ 0 (2 * frameNs) (onMon (fun m => { m with evalAt := 1 }) up)), by decide +kernel⟩,
   ⟨2, by decide +kernel⟩,
   ⟨3, by decide +kernel⟩,
   ⟨2, 4, by decide +kernel⟩,
   ⟨255, stepEvt, (setEvt 255 stepEvt up), by decide +kernel⟩,
   ⟨(persisting 59999999999), by decide +kernel⟩,
   ⟨(persisting 60000000000), by decide +kernel⟩,
   ⟨1, 5, Persist.empty, (writing16 0), by decide +kernel⟩,
   ⟨1, 5, 2, Persist.empty, (writing16 2), by decide +kernel⟩,
   ⟨.a, up, by unfold Reaches; decide +kernel⟩,
   ⟨.a, (clearing 5 up), by unfold Reaches; decide +kernel⟩,
   ⟨.a, (clearing 0 up), by unfold Reaches; decide +kernel⟩,
   ⟨.a, (clearing 0 (writing16 0)), by unfold Reaches; decide +kernel⟩,
   ⟨up, by decide +kernel⟩,
   ⟨(onEvr (fun e => { e with purge := [2] }) up), by decide +kernel⟩⟩

end W16

namespace W17a

def lcAt (v : Nat) (s : State) : State := onSec (fun x => { x with fuses := { x.fuses with lc := v } }) s
def loadOf (kind len : Nat) (s : State) : State := setRg .SEC_LOAD_CTRL_KIND 0 kind (setRg .SEC_LOAD_LEN_LEN 0 len s)
def ld (kind phase : Nat) (bad : Bool) (got : Nat) : Loader := { port := 0, kind := kind, phase := phase, len := 64, bytes := zeros 64, got := got, bad := bad }
def loading (l : Loader) (s : State) : State := onSec (fun x => { x with loader := some l }) s
def verified17 (kind : Nat) (s : State) : State := onSec (fun x => { x with verified := some (kind, zeros 64) }) s
def att0 : Attest := { nonce := zeros 32 }

/-- Every clause of Obligations.ObjectsAreLoadedCommittedAndAttested has states and operands that meet its premises. The clause about an object that passes its checks has its witness in test_signed_firmware_passes: the signature check is not interpreted (log entry 5). -/
theorem witness_ObjectsAreLoadedCommittedAndAttested :
    (∃ (p : Port) (s : State), s.live = true ∧ Reaches p 0xB00020 s ∧ (s.sec.loader ≠ none)) ∧
    (∃ (p : Port) (s : State), s.live = true ∧ Reaches p 0xB00020 s ∧
      (let kind := s.rg .SEC_LOAD_CTRL_KIND 0; (let len := s.rg .SEC_LOAD_LEN_LEN p.idx; (let addr := s.rg .SEC_LOAD_ADDR_LO_ADDR_LO p.idx + s.rg .SEC_LOAD_ADDR_HI_ADDR_HI p.idx * 2 ^ 32; s.sec.loader = none ∧
      (kind = 0 ∨ len = 0 ∨ 2097152 < len ∨ addr % 64 ≠ 0))))) ∧
    (∃ (p : Port) (s : State), s.live = true ∧ Reaches p 0xB00020 s ∧
      (let kind := s.rg .SEC_LOAD_CTRL_KIND 0; (let len := s.rg .SEC_LOAD_LEN_LEN p.idx; (let addr := s.rg .SEC_LOAD_ADDR_LO_ADDR_LO p.idx + s.rg .SEC_LOAD_ADDR_HI_ADDR_HI p.idx * 2 ^ 32; s.sec.loader = none ∧
      (kind ≠ 0) ∧ 1 ≤ len ∧ len ≤ 2097152 ∧ addr % 64 = 0 ∧ kindAllowed s kind = false)))) ∧
    (∃ (p : Port) (s : State), s.live = true ∧ Reaches p 0xB00020 s ∧
      (let kind := s.rg .SEC_LOAD_CTRL_KIND 0; (let len := s.rg .SEC_LOAD_LEN_LEN p.idx; (let addr := s.rg .SEC_LOAD_ADDR_LO_ADDR_LO p.idx + s.rg .SEC_LOAD_ADDR_HI_ADDR_HI p.idx * 2 ^ 32; s.sec.loader = none ∧
      (kind ≠ 0) ∧ 1 ≤ len ∧ len ≤ 2097152 ∧ addr % 64 = 0 ∧ kindAllowed s kind = true)))) ∧
    (∃ (s : State), s.rg .SEC_BOOT_STATE 0 = 3) ∧
    (∃ (l : Loader) (s : State), s.live = true ∧ s.sec.loader = some l ∧ l.phase = 1 ∧ l.bad = false ∧ l.got < l.len) ∧
    (∃ (l : Loader) (s : State), s.live = true ∧ s.sec.loader = some l ∧ l.phase = 1 ∧ l.bad = true) ∧
    (∃ (l : Loader) (s : State), s.live = true ∧ s.sec.loader = some l ∧ l.phase = 1 ∧ l.bad = false ∧ l.len ≤ l.got ∧
      (objCheck s l.kind l.bytes ≠ 0)) ∧
    (∃ (p : Port) (s : State), s.live = true ∧ Reaches p 0xB00020 s ∧ s.sec.loader = none ∧ s.sec.verified = none) ∧
    (∃ (p : Port) (s : State) (b : _), s.live = true ∧ Reaches p 0xB00020 s ∧ s.sec.loader = none ∧
      (let kind := s.rg .SEC_LOAD_CTRL_KIND 0; s.sec.verified = some (kind, b) ∧ kindAllowed s kind = true)) ∧
    (∃ (p : Port) (s : State) (k : _) (b : _), s.live = true ∧ Reaches p 0xB00020 s ∧ s.sec.loader = none ∧
      (let kind := s.rg .SEC_LOAD_CTRL_KIND 0; s.sec.verified = some (k, b) ∧ (k ≠ kind))) ∧
    (∃ (l : Loader) (s : State), s.live = true ∧ s.sec.loader = some l ∧ l.phase = 3 ∧ l.kind = 1) ∧
    (∃ (l : Loader) (s : State), s.live = true ∧ s.sec.loader = some l ∧ l.phase = 3 ∧ l.kind = 2) ∧
    (∃ (l : Loader) (s : State), s.live = true ∧ s.sec.loader = some l ∧ l.phase = 3 ∧ l.kind = 3) ∧
    (∃ (p : Port) (s : State), s.live = true ∧ Reaches p 0xB00030 s) ∧
    (∃ (p : Port) (a : Attest) (s : State), s.live = true ∧ look p.idx s.sec.attest = some a) :=
  ⟨⟨.a, (loading (ld 1 1 false 0) up), by unfold Reaches; decide +kernel⟩,
   ⟨.a, (loadOf 1 0 up), by unfold Reaches; decide +kernel⟩,
   ⟨.a, (loadOf 2 64 (lcAt 2 up)), by unfold Reaches; decide +kernel⟩,
   ⟨.a, (loadOf 1 2097152 (lcAt 2 up)), by unfold Reaches; decide +kernel⟩,
   ⟨(setRg .SEC_BOOT_STATE 0 3 up), by decide +kernel⟩,
   ⟨(ld 1 1 false 63), (loading (ld 1 1 false 63) up), by decide +kernel⟩,
   ⟨(ld 1 1 true 63), (loading (ld 1 1 true 63) up), by decide +kernel⟩,
   ⟨(ld 1 1 false 64), (loading (ld 1 1 false 64) up), by decide +kernel⟩,
   ⟨.a, up, by unfold Reaches; decide +kernel⟩,
   ⟨.a, (verified17 1 (loadOf 1 64 (lcAt 2 up))), (zeros 64), by unfold Reaches; decide +kernel⟩,
   ⟨.a, (verified17 1 (loadOf 3 64 up)), 1, (zeros 64), by unfold Reaches; decide +kernel⟩,
   ⟨(ld 1 3 false 64), (loading (ld 1 3 false 64) up), by decide +kernel⟩,
   ⟨(ld 2 3 false 64), (loading (ld 2 3 false 64) up), by decide +kernel⟩,
   ⟨(ld 3 3 false 64), (loading (ld 3 3 false 64) up), by decide +kernel⟩,
   ⟨.a, up, by unfold Reaches; decide +kernel⟩,
   ⟨.a, att0, (onSec (fun x => { x with attest := [(0, att0)] }) up), by decide +kernel⟩⟩

end W17a

namespace W17b

def lcAt (v : Nat) (s : State) : State := onSec (fun x => { x with fuses := { x.fuses with lc := v } }) s
def owned17 (o : Nat) (s : State) : State := onSec (fun x => { x with sessions := [(0, (o, 0))] }) s
def used17 (s : State) : State :=
  setRg .QUE_CTX_CFG_CONF 3 1 (setRg .QUE_CTX_CFG_SESSION 3 0 (setCtx 3 { QCtx.init with st := 1 } s))
def keyEvt (arg : Nat) : Evt := { ft := 0, kind := 2, car := 0, per := 0, st := 1, arg := arg }
def cur17 (l : List (Nat × Nat)) (s : State) : State := onSec (fun x => { x with current := l }) s
def slot17 (g : Page) : State := paged sq g up
def key5 : Page := { pg with keySlot := 5 }

/-- Every clause of Obligations.SessionsAndKeySlotsAreKept has states and operands that meet its premises. -/
theorem witness_SessionsAndKeySlotsAreKept :
    (∃ (p : Port) (s : State), s.live = true ∧ Reaches p 0xB00080 s ∧ (s.lc ≠ 2) ∧ (s.lc ≠ 3)) ∧
    (∃ (p : Port) (s : State), s.live = true ∧ Reaches p 0xB00080 s ∧
      (let i := s.rg .SEC_SESSION_CTRL_INDEX 0; (let c := s.rg .SEC_SESSION_CTRL_CARRIAGE 0; (s.lc = 2 ∨ s.lc = 3) ∧
      (look i s.sec.sessions ≠ none ∨ s.im.carValid c = false)))) ∧
    (∃ (p : Port) (s : State), s.live = true ∧ Reaches p 0xB00080 s ∧
      (let i := s.rg .SEC_SESSION_CTRL_INDEX 0; (let c := s.rg .SEC_SESSION_CTRL_CARRIAGE 0; (s.lc = 2 ∨ s.lc = 3) ∧
      look i s.sec.sessions = none ∧ s.im.carValid c = true))) ∧
    (∃ (p : Port) (i : Nat) (c : Nat) (ct : List Byte) (s : State), s.live = true ∧ look p.idx s.sec.sessionLoads = some (i,
      c, ct) ∧ look i s.sec.sessions = none ∧ s.im.carValid c = true) ∧
    (∃ (p : Port) (o : Nat) (c : Nat) (s : State), s.live = true ∧ Reaches p 0xB00080 s ∧
      (let i := s.rg .SEC_SESSION_CTRL_INDEX 0; look i s.sec.sessions = some (o, c) ∧ (o ≠ p.idx ∨ sessionUsed s i = true))) ∧
    (∃ (p : Port) (o : Nat) (c : Nat) (s : State), s.live = true ∧ Reaches p 0xB00080 s ∧
      (let i := s.rg .SEC_SESSION_CTRL_INDEX 0; look i s.sec.sessions = some (o, c) ∧ o = p.idx ∧ sessionUsed s i = false)) ∧
    (∃ (i : Fin 256) (e : Evt) (s : State) (cause : _), s.live = true ∧ s.evt i.val = some e ∧ evtFires s i.val 2 = true ∧
      (let u := evtFired i.val s; switchCause u e.car e.arg = cause ∧ (cause ≠ 0))) ∧
    (∃ (i : Fin 256) (e : Evt) (s : State), s.live = true ∧ s.evt i.val = some e ∧ evtFires s i.val 2 = true ∧
      (let u := evtFired i.val s; switchCause u e.car e.arg = 0)) ∧
    (∃ (p : Port) (s : State), s.live = true ∧ Reaches p 0xB00090 s ∧
      (let k := s.rg .SEC_KEY_CTRL_SLOT 0; s.holdsSem p.idx 1 = true ∧ slotState s k = 0)) ∧
    (∃ (p : Port) (s : State), s.live = true ∧ Reaches p 0xB00090 s ∧
      (let k := s.rg .SEC_KEY_CTRL_SLOT 0; (s.holdsSem p.idx 1 = false ∨ slotState s k ≠ 0))) ∧
    (∃ (p : Port) (s : State), s.live = true ∧ Reaches p 0xB80004 s ∧ s.expertOpen p.idx 11 = true ∧
      (let k := s.rg .SEC_X_FORCE_SLOT 0; s.holdsSem p.idx 1 = true ∧ slotState s k = 2)) ∧
    (∃ (p : Port) (s : State), s.live = true ∧ Reaches p 0xB80004 s ∧ s.expertOpen p.idx 11 = true ∧
      (let k := s.rg .SEC_X_FORCE_SLOT 0; (s.holdsSem p.idx 1 = false ∨ slotState s k ≠ 2))) ∧
    (∃ (page : BitVec 32) (g : Page) (s : State), s.live = true ∧ look page.toNat s.seq.pages = some g ∧
      (s.rg .SEC_X_SWEEP_HOLD 0 = 1 ∨ g.loc = .cold ∨ g.moving = true ∨ slotState s g.keySlot ≠ 2)) ∧
    (∃ (page : BitVec 32) (g : Page) (s : State), s.live = true ∧ look page.toNat s.seq.pages = some g ∧
      (s.rg .SEC_X_SWEEP_HOLD 0 ≠ 1) ∧ (g.loc ≠ .cold) ∧ g.moving = false ∧ slotState s g.keySlot = 2 ∧
      look g.car s.sec.current = none) ∧
    (∃ (page : BitVec 32) (g : Page) (s : State) (k : _), s.live = true ∧ look page.toNat s.seq.pages = some g ∧
      (s.rg .SEC_X_SWEEP_HOLD 0 ≠ 1) ∧ (g.loc ≠ .cold) ∧ g.moving = false ∧ slotState s g.keySlot = 2 ∧
      look g.car s.sec.current = some k ∧ rekeyable s g = true) ∧
    (∃ (p : Nat) (g : Page) (s : State), look p s.seq.pages = some g) :=
  ⟨⟨.a, (lcAt 1 up), by unfold Reaches; decide +kernel⟩,
   ⟨.a, (owned17 0 (lcAt 2 up)), by unfold Reaches; decide +kernel⟩,
   ⟨.a, (lcAt 3 up), by unfold Reaches; decide +kernel⟩,
   ⟨.a, 0, 0, [], (onSec (fun x => { x with sessionLoads := [(0, (0, 0, []))] }) up), by decide +kernel⟩,
   ⟨.a, 1, 0, (owned17 1 up), by unfold Reaches; decide +kernel⟩,
   ⟨.a, 0, 0, (owned17 0 up), by unfold Reaches; decide +kernel⟩,
   ⟨255, (keyEvt 3), (setEvt 255 (keyEvt 3) up), 1, by decide +kernel⟩,
   ⟨255, (keyEvt 1), (setEvt 255 (keyEvt 1) (cur17 [(0, 0)] (lcAt 2 up))), by decide +kernel⟩,
   ⟨.a, (setRg .SEC_KEY_CTRL_SLOT 0 31 (sem 1 0 up)), by unfold Reaches; decide +kernel⟩,
   ⟨.a, up, by unfold Reaches; decide +kernel⟩,
   ⟨.a, (setRg .SEC_X_FORCE_SLOT 0 5 (setRg .CMP_EXPERT_UNLOCK_BLOCKS 0 2048 (sem 1 0 (slot17 key5)))),
     by unfold Reaches; decide +kernel⟩,
   ⟨.a, (setRg .CMP_EXPERT_UNLOCK_BLOCKS 0 2048 up), by unfold Reaches; decide +kernel⟩,
   ⟨3, key5, (setRg .SEC_X_SWEEP_HOLD 0 1 (slot17 key5)), by decide +kernel⟩,
   ⟨3, key5, (slot17 key5), by decide +kernel⟩,
   ⟨3, key5, (cur17 [(0, 0)] (slot17 key5)), 0, by decide +kernel⟩,
   ⟨3, pg, (slot17 pg), by decide +kernel⟩⟩

end W17b

namespace W18

def jobB (mode n : Nat) : List Byte := cmdB 0 0x10 0 (leBytes 1 mode ++ zeros 1 ++ leBytes 2 n)
def relB : List Byte := cmdB 0 0x11 0 (leBytes 1 1)
def stepB : List Byte := cmdB 0 0x12 0 (zeros 12 ++ leBytes 8 9)
def forgetB : List Byte := cmdB 0 0x13 0 []
def rec18 (done : Option (Nat × Nat)) (k : Nat) : StepRec := { car := 0, id := 9, done := done, cmd := k }
def stepped (rs : List StepRec) (s : State) : State := onRas (fun x => { x with steps := rs }) s
def park0 : Park :=
  { seq := 7, waiting := false, was := 1, cut := 0, desc := [], works := [], coaches := [], moving := false, pages := [], entries := [], len := 0, ckpt := 0 }
def peers (clk : Nat) : State :=
  at_ clk 0 (setRg .RAS_CTRL_PEER_NOTICE 0 1 (setRg .RAS_PEER_WAIT_MS 0 1 (setRg .PRT_Ln_PEER_NODE 2 9 (lnk 2 { Link.init with named := true, downAt := 0 } up))))
def noticing (n : Nat) (s : State) : State := setRg .RAS_CTRL_NOTICE_EN 0 n s

/-- Every clause of Obligations.JobsStepsAndNoticesAreKept has states and operands that meet its premises. -/
theorem witness_JobsStepsAndNoticesAreKept :
    (∃ (k : Nat) (c : Cmd) (s : State), Started k 0 0x10 c s ∧ jobRange c.bytes = false) ∧
    (∃ (k : Nat) (c : Cmd) (s : State), Started k 0 0x10 c s ∧ u8 c.bytes 12 = 1) ∧
    (∃ (k : Nat) (c : Cmd) (s : State), Started k 0 0x10 c s ∧ u8 c.bytes 12 = 0 ∧ jobRange c.bytes = true ∧ c.phase = 0) ∧
    (∃ (k : Nat) (c : Cmd) (s : State) (d : _), Started k 0 0x10 c s ∧ u8 c.bytes 12 = 0 ∧ jobRange c.bytes = true ∧
      c.phase = 1 ∧ c.want = 0 ∧ c.dataStep s (4 * u16 c.bytes 14) true c.buf = .have_ d) ∧
    (∃ (c : Cmd) (l : List Nat) (s : State), (let car := Op.car c.bytes; 4096 < holdCount s car l)) ∧
    (∃ (c : Cmd) (l : List Nat) (s : State), (let car := Op.car c.bytes; holdCount s car l ≤ 4096)) ∧
    (∃ (q : Nat) (l : List Nat), q ∈ l) ∧
    (∃ (car : Nat) (l : List Nat) (k : Nat) (c : Cmd), abortEnds car l (k, c) = true) ∧
    (∃ (k : Nat) (s : State), s.parkOf k = none) ∧
    (∃ (k : Nat) (s : State), (s.parkOf k ≠ none)) ∧
    (∃ (k : Nat) (c : Cmd) (s : State), Started k 0 0x11 c s ∧ u8 c.bytes 12 = 1) ∧
    (∃ (s : State), s.live = true) ∧
    (∃ (k : Nat) (c : Cmd) (s : State), Started k 0 0x12 c s ∧
      (let car := Op.car c.bytes; (let id := stepId c.bytes; stepRec s car id = none ∧ stepFree s car = true))) ∧
    (∃ (k : Nat) (c : Cmd) (s : State), Started k 0 0x12 c s ∧
      (let car := Op.car c.bytes; (let id := stepId c.bytes; stepRec s car id = none ∧ stepFree s car = false))) ∧
    (∃ (k : Nat) (c : Cmd) (s : State) (r : _) (a : _), Started k 0 0x12 c s ∧
      (let car := Op.car c.bytes; (let id := stepId c.bytes; stepRec s car id = some r ∧ r.done = some a))) ∧
    (∃ (k : Nat) (c : Cmd) (s : State) (r : _), Started k 0 0x12 c s ∧
      (let car := Op.car c.bytes; (let id := stepId c.bytes; stepRec s car id = some r ∧ r.done = none ∧ r.cmd = k))) ∧
    (∃ (k : Nat) (status : Nat) (r : StepRec) (s : State), r ∈ s.ras.steps ∧ r.cmd = k ∧ r.done = none ∧ status = Status.ok) ∧
    (∃ (k : Nat) (status : Nat) (r : StepRec) (s : State), r ∈ s.ras.steps ∧ r.cmd = k ∧ r.done = none ∧ (status ≠ Status.ok)) ∧
    (∃ (k : Nat) (c : Cmd) (s : State), Started k 0 0x13 c s) ∧
    (∃ (p : Port) (s : State), s.live = true ∧ Reaches p 0xC00028 s) ∧
    (∃ (cause : Nat) (detail : Nat) (s : State), (cause, detail, s.frame) ∈ s.ras.sentNotices) ∧
    (∃ (cause : Nat) (s : State), s.timeServes = false ∧ (cause ≠ 1)) ∧
    (∃ (cause : Nat) (s : State), (s.rg .RAS_CTRL_NOTICE_EN 0 ≠ 1) ∧ (cause ≠ 1) ∧ (cause ≠ 0x0C)) ∧
    (∃ (cause : Nat) (detail : Nat) (s : State), s.rg .RAS_CTRL_NOTICE_EN 0 = 1 ∧ s.timeServes = true ∧ (cause, detail,
      s.frame) ∉ s.ras.sentNotices) ∧
    (∃ (node : BitVec 12) (s : State), s.live = true ∧ (let x := node.toNat; (let down := s.rg .RAS_CTRL_PEER_NOTICE 0 = 1 ∧ linksTo s x ≠ [] ∧ x ∉ s.ras.lostPeers ∧ ∀ l ∈ linksTo s x, (s.link l).open_ = false ∧ (s.link l).downAt + max 1 (s.rg .RAS_PEER_WAIT_MS 0) * 1000000 ≤ s.clk; ¬ down))) ∧
    (∃ (node : BitVec 12) (s : State), s.live = true ∧ (let x := node.toNat; (let down := s.rg .RAS_CTRL_PEER_NOTICE 0 = 1 ∧ linksTo s x ≠ [] ∧ x ∉ s.ras.lostPeers ∧ ∀ l ∈ linksTo s x, (s.link l).open_ = false ∧ (s.link l).downAt + max 1 (s.rg .RAS_PEER_WAIT_MS 0) * 1000000 ≤ s.clk; down))) ∧
    (∃ (p : Port) (s : State), s.live = true ∧ Reaches p 0xC80000 s ∧ s.expertOpen p.idx 12 = true) ∧
    (∃ (s : State), s.live = true) ∧
    (∃ (s : State), s.start.stopped = true) ∧
    (∃ (cause : Nat) (s : State), s.start.stopped = false ∧ (cause ≠ 1)) :=
  ⟨⟨1, (cmd (jobB 0 0)), (run 1 (cmd (jobB 0 0)) up), by unfold Started; decide +kernel⟩,
   ⟨1, (cmd (jobB 1 0)), (run 1 (cmd (jobB 1 0)) up), by unfold Started; decide +kernel⟩,
   ⟨1, (cmd (jobB 0 1)), (run 1 (cmd (jobB 0 1)) up), by unfold Started; decide +kernel⟩,
   ⟨1, (cmdAt 1 (jobB 0 1) (leBytes 4 7)), (run 1 (cmdAt 1 (jobB 0 1) (leBytes 4 7)) up), (leBytes 4 7),
     by unfold Started; decide +kernel⟩,
   ⟨(cmd (jobB 1 0)), (List.range 4097), up, by decide +kernel⟩,
   ⟨(cmd (jobB 1 0)), (List.range 4096), up, by decide +kernel⟩,
   ⟨7, [7], by decide +kernel⟩,
   ⟨0, [7], 1, (cmd (cmdB 1 0x26 7 [])), by decide +kernel⟩,
   ⟨1, up, by decide +kernel⟩,
   ⟨1, (onPark (fun x => { x with parks := [(1, park0)] }) up), by decide +kernel⟩,
   ⟨1, (cmd relB), (run 1 (cmd relB) up), by unfold Started; decide +kernel⟩,
   ⟨up, by decide +kernel⟩,
   ⟨1, (cmd stepB), (run 1 (cmd stepB) up), by unfold Started; decide +kernel⟩,
   ⟨1, (cmd stepB), (stepped (List.replicate 64 { rec18 none 2 with id := 8 }) (run 1 (cmd stepB) up)),
     by unfold Started; decide +kernel⟩,
   ⟨1, (cmd stepB), (stepped [rec18 (some (0, 5)) 2] (run 1 (cmd stepB) up)), (rec18 (some (0, 5)) 2), (0, 5),
     by unfold Started; decide +kernel⟩,
   ⟨1, (cmd stepB), (stepped [rec18 none 1] (run 1 (cmd stepB) up)), (rec18 none 1), by unfold Started; decide +kernel⟩,
   ⟨1, Status.ok, (rec18 none 1), (stepped [rec18 none 1] up), by decide +kernel⟩,
   ⟨1, 1, (rec18 none 1), (stepped [rec18 none 1] up), by decide +kernel⟩,
   ⟨1, (cmd forgetB), (run 1 (cmd forgetB) up), by unfold Started; decide +kernel⟩,
   ⟨.a, up, by unfold Reaches; decide +kernel⟩,
   ⟨4, 0, (onRas (fun x => { x with sentNotices := [(4, 0, 0)] }) up), by decide +kernel⟩,
   ⟨4, (onRas (fun x => { x with sentNotices := [(4, 0, 0)] }) up), by decide +kernel⟩,
   ⟨4, (noticing 0 up), by decide +kernel⟩,
   ⟨4, 0, (noticing 1 (tt 2 up)), by decide +kernel⟩,
   ⟨9, (peers 999999), by decide +kernel⟩,
   ⟨9, (peers 1000000), by decide +kernel⟩,
   ⟨.a, (setRg .CMP_EXPERT_UNLOCK_BLOCKS 0 4096 up), by unfold Reaches; decide +kernel⟩,
   ⟨up, by decide +kernel⟩,
   ⟨(onStart (fun x => { x with stopped := true }) up), by decide +kernel⟩,
   ⟨2, up, by decide +kernel⟩⟩

end W18

namespace W19a

def sq0 : Seqd := { sq with recs := [(0, { layer0 with ordinals := 0, leaves := [] })] }
def pkB (mode pos len : Nat) : List Byte := cmdB 1 0x30 7 (leBytes 1 mode ++ zeros 7 ++ leBytes 4 pos ++ zeros 16 ++ leBytes 8 len)
def park0 : Park :=
  { seq := 7, waiting := true, was := 1, cut := 0, desc := [], works := [], coaches := [], moving := false, pages := [], entries := [], len := 0, ckpt := 0 }
def begun : Park := { park0 with waiting := false }
def on19 (b : List Byte) (q : Seqd) : State := run 1 (cmd b) (paged q pg up)
def parked19 (x : Park) (s : State) : State := onPark (fun y => { y with parks := [(1, x)] }) s
def ckEvt : Evt := { ft := 0, kind := 3, car := 0, per := 0, st := 1, arg := 0 }
def noBuffer (s : State) : State := onComp (fun c => { c with image := some { im0 with sects := (14, [0, 1, 1, 0, 0]) :: im0.sects } }) s
def seen19 : ParkPage := { layer := 0, ord := 0, head := 0, leaf := 0, page := 3, g := { pg with prot := true }, fill := 4, view := 4 }
def xferM : List Byte := leBytes 4 7 ++ zeros 12 ++ leBytes 4 1 ++ zeros 4
def warm19 : WarmImage := { car := 0, pages := [], frames := [(0, 0)] }
def held19 (m : List Byte) : State :=
  onMem (fun x => { x with bytes := [(2 ^ 40 + 40, 1)] }) (onPark (fun y => { y with warm := [(7, warm19)] }) (rxed (msg0 12 m) (paged { sq with st := 4 } pg up)))
def plain19 : ParkPage := { seen19 with g := pg }
def wrong19 : ParkPage := { seen19 with g := { pg with sealed_ := true } }
theorem wrong19_digest (s : State) : pageDigest s wrong19.g ≠ wrong19.g.digest := by
  intro h
  have h' : (pageDigest s wrong19.g).length = 0 := by rw [h]; rfl
  have h2 : (digestOf (pageBytes s wrong19.g)).length = 64 := padTo_length 64 _
  rw [pageDigest, List.length_take, h2] at h'
  cases h'

/-- Every clause of Obligations.SequencesAreParkedAndRead has states and operands that meet its premises. -/
theorem witness_SequencesAreParkedAndRead :
    (∃ (k : Nat) (c : Cmd) (q : Seqd) (s : State) (t : State) (f : _), OwnSeq k 1 0x30 none c q s t ∧ s.parkOf k = none ∧
      parkAcceptFault t c q = some f) ∧
    (∃ (k : Nat) (c : Cmd) (q : Seqd) (s : State) (t : State), OwnSeq k 1 0x30 none c q s t ∧ s.parkOf k = none ∧
      parkAcceptFault t c q = none) ∧
    (∃ (c : Cmd) (q : Seqd), Pk.mode c.bytes = 0 ∧ Pk.layers c.bytes = 0 ∧ Pk.atCkpt c.bytes = false ∧ q.protected_ = false) ∧
    (∃ (k : Nat) (c : Cmd) (x : Park) (q : Seqd) (s : State) (f : _), s.cmd k = some c ∧ s.parkOf k = some x ∧
      look (Op.seqId c.bytes) s.seq.seqs = some q ∧ parkStartFault s c.bytes q = some f) ∧
    (∃ (k : Nat) (c : Cmd) (x : Park) (q : Seqd) (s : State), s.cmd k = some c ∧ s.parkOf k = some x ∧
      look (Op.seqId c.bytes) s.seq.seqs = some q ∧ parkStartFault s c.bytes q = none) ∧
    (∃ (seq : Nat) (q : Seqd) (s : State), look seq s.seq.seqs = some q) ∧
    (∃ (i : Fin 256) (e : Evt) (s : State), s.live = true ∧ s.evt i.val = some e ∧ evtFires s i.val 3 = true) ∧
    (∃ (s : State) (car : Nat) (ckpt : Nat) (k : Nat), k ∈ parksWaiting s car ckpt) ∧
    (∃ (k : Nat) (c : Cmd) (x : Park) (q : Seqd) (s : State), s.live = true ∧ s.cmd k = some c ∧ s.parkOf k = some x ∧
      look x.seq s.seq.seqs = some q ∧ x.waiting = false ∧ x.moving = false ∧ ((∃ w ∈ x.works,
      has w s.que.started = true) ∨ (∃ i ∈ x.coaches,
      has i s.fox.coaches = true) ∨ pagesBusy s q = true ∨ transferMayRun s q.car = false)) ∧
    (∃ (k : Nat) (c : Cmd) (x : Park) (q : Seqd) (s : State), s.live = true ∧ s.cmd k = some c ∧ s.parkOf k = some x ∧
      look x.seq s.seq.seqs = some q ∧ x.waiting = false ∧ x.moving = false ∧ ((∀ w ∈ x.works, has w s.que.started = false)) ∧
      ((∀ i ∈ x.coaches, has i s.fox.coaches = false)) ∧ pagesBusy s q = false ∧ transferMayRun s q.car = true) ∧
    (∃ (c : Cmd) (x : Park) (q : Seqd) (s : State) (f : _),
      (let r := if Pk.mode c.bytes = 0 then warmTransfer c.bytes q s else parkReads (fun s x => (parkPack s q x).isSome) q (parkPages s q (parkLimit c.bytes)) s; r.1 = some f)) ∧
    (∃ (c : Cmd) (x : Park) (q : Seqd) (s : State),
      (let r := if Pk.mode c.bytes = 0 then warmTransfer c.bytes q s else parkReads (fun s x => (parkPack s q x).isSome) q (parkPages s q (parkLimit c.bytes)) s; r.1 = none)) ∧
    (∃ (b : List Byte) (q : Seqd) (s : State) (f : _), (let r := warmMoves q (parkMoves s b q) s; r.1 = some f)) ∧
    (∃ (b : List Byte) (q : Seqd) (s : State), (let r := warmMoves q (parkMoves s b q) s; r.1 = none)) ∧
    (∃ (s : State) (b : List Byte) (q : Seqd) (x : ParkPage), Pk.slice b = false ∧ x ∈ parkPages s q none) ∧
    (∃ (packs : State → ParkPage → Bool) (x : ParkPage) (st : Nat) (s : State), parkReadFault s x (packs s x) = some st) ∧
    (∃ (packs : State → ParkPage → Bool) (x : ParkPage) (s : State), parkReadFault s x (packs s x) = none) ∧
    (∃ (q : Seqd) (x : ParkPage) (st : Nat) (s : State), parkReadFault s x (parkTable s q x.g).isSome = some st) ∧
    (∃ (x : ParkPage) (packs : Bool) (s : State), x.g.sealed_ = true ∧ (pageDigest s x.g ≠ x.g.digest) ∧
      keyFault s x.g = none ∧ ((x.g.comp = true ∨ packs = true → bufferServes s (locHalf s x.g.loc) = true))) ∧
    (∃ (k : Nat) (x : Park) (q : Seqd) (s : State), s.parkOf k = some x ∧ x.waiting = false ∧ look x.seq s.seq.seqs = some q) ∧
    (∃ (k : Nat) (c : Cmd) (x : Park) (q : Seqd) (s : State), s.live = true ∧ s.cmd k = some c ∧ s.parkOf k = some x ∧
      look x.seq s.seq.seqs = some q ∧ x.moving = true ∧ Pk.slice c.bytes = false ∧ Pk.mode c.bytes = 0) ∧
    (∃ (k : Nat) (c : Cmd) (x : Park) (q : Seqd) (s : State), s.live = true ∧ s.cmd k = some c ∧ s.parkOf k = some x ∧
      look x.seq s.seq.seqs = some q ∧ x.moving = true ∧ Pk.slice c.bytes = false ∧ Pk.mode c.bytes = 1) ∧
    (∃ (k : Nat) (c : Cmd) (x : Park) (q : Seqd) (s : State), s.live = true ∧ s.cmd k = some c ∧ s.parkOf k = some x ∧
      look x.seq s.seq.seqs = some q ∧ x.moving = true ∧ Pk.slice c.bytes = false ∧ Pk.mode c.bytes = 2) ∧
    (∃ (p : Nat) (g : Page) (s : State), look p s.seq.pages = some g) ∧
    (∃ (src : BitVec 12) (op : BitVec 32) (e : RxEntry) (s : State) (f : _), Waits (src.toNat, op.toNat) 12 e s ∧
      (let m := e.message; xferFault s e m = some f ∧ (f.1 ≠ Status.keyRetired))) ∧
    (∃ (src : BitVec 12) (op : BitVec 32) (e : RxEntry) (s : State) (q : _) (w : _), Waits (src.toNat, op.toNat) 12 e s ∧
      (let m := e.message; xferFault s e m = none ∧ xferImage s m = some (q, w))) :=
  ⟨⟨1, (cmd (pkB 3 0 0)), sq, (on19 (pkB 3 0 0) sq), (on19 (pkB 3 0 0) sq), (Status.badCommand, 0),
     by unfold OwnSeq Started; decide +kernel⟩,
   ⟨1, (cmd (pkB 0 4 0)), sq, (on19 (pkB 0 4 0) sq), (on19 (pkB 0 4 0) sq), by unfold OwnSeq Started; decide +kernel⟩,
   ⟨(cmd (pkB 0 4 0)), sq, by decide +kernel⟩,
   ⟨1, (cmd (pkB 0 5 0)), park0, sq, (parked19 park0 (on19 (pkB 0 5 0) sq)), (Status.badCommand, 20), by decide +kernel⟩,
   ⟨1, (cmd (pkB 1 0 4096)), park0, sq0, (parked19 park0 (on19 (pkB 1 0 4096) sq0)), by decide +kernel⟩,
   ⟨7, sq, (paged sq pg up), by decide +kernel⟩,
   ⟨255, ckEvt, (setEvt 255 ckEvt up), by decide +kernel⟩,
   ⟨(parked19 park0 (on19 (pkB 0 4 0) sq)), 0, 0, 1, by decide +kernel⟩,
   ⟨1, (cmd (pkB 0 4 0)), ({ begun with coaches := [0] }), sq,
     (parked19 { begun with coaches := [0] } (coached coach0 (on19 (pkB 0 4 0) sq))), by decide +kernel⟩,
   ⟨1, (cmd (pkB 0 4 0)), begun, sq, (parked19 begun (on19 (pkB 0 4 0) sq)), by decide +kernel⟩,
   ⟨(cmd (pkB 1 4 0)), begun, sq, (paged sq { pg with prot := true } up), (Status.accessDenied, 0, 3), by decide +kernel⟩,
   ⟨(cmd (pkB 1 0 0)), begun, sq0, (paged sq0 pg up), by decide +kernel⟩,
   ⟨(pkB 0 4 0), sq, (paged sq { pg with prot := true } up), (Status.accessDenied, 0, 3), by decide +kernel⟩,
   ⟨(pkB 0 4 0), sq0, (paged sq0 pg up), by decide +kernel⟩,
   ⟨(paged sq pg up), (pkB 0 4 0), sq, plain19, by decide +kernel⟩,
   ⟨(fun _ _ => false), seen19, Status.accessDenied, (paged sq { pg with prot := true } up), by decide +kernel⟩,
   ⟨(fun _ _ => false), plain19, (paged sq pg up), by decide +kernel⟩,
   ⟨sq, seen19, Status.accessDenied, (paged sq { pg with prot := true } up), by decide +kernel⟩,
   ⟨wrong19, false, (paged sq pg up), rfl, wrong19_digest _, rfl, by decide⟩,
   ⟨1, begun, sq, (parked19 begun (paged sq pg up)), by decide +kernel⟩,
   ⟨1, (cmd (pkB 0 4 0)), ({ begun with moving := true }), sq, (parked19 { begun with moving := true } (on19 (pkB 0 4 0) sq)),
     by decide +kernel⟩,
   ⟨1, (cmd (pkB 1 4 0)), ({ begun with moving := true }), sq, (parked19 { begun with moving := true } (on19 (pkB 1 4 0) sq)),
     by decide +kernel⟩,
   ⟨1, (cmd (pkB 2 4 0)), ({ begun with moving := true }), sq, (parked19 { begun with moving := true } (on19 (pkB 2 4 0) sq)),
     by decide +kernel⟩,
   ⟨3, pg, (paged sq pg up), by decide +kernel⟩,
   ⟨5, 6, (msg0 12 (zeros 24)), (rxed (msg0 12 (zeros 24)) up), (Status.badCommand, 22), by unfold Waits; decide +kernel⟩,
   ⟨5, 6, (msg0 12 xferM), (held19 xferM), ({ sq with st := 4 }), warm19, by unfold Waits; decide +kernel⟩⟩

end W19a

namespace W19b

def rsB (source flags layers : Nat) : List Byte := cmdB 1 0x31 7 (leBytes 1 source ++ leBytes 1 flags ++ zeros 6 ++ leBytes 2 layers ++ zeros 2)
def on19 (c : Cmd) (q : Seqd) : State := run 1 c (paged q pg up)
def res6 : Seqd := { sq with st := 6 }
def none19 (c : Cmd) : State := onSeq (fun x => { x with seqs := [] }) (on19 c sq)
def warm19 : WarmImage := { car := 0, pages := [3], frames := [] }
def resume0 (pos : Nat) : Resume := { image := 0, pos := pos, frozen := false, freeze := 0, imported := 0, got := [] }
def resuming (r : Resume) (s : State) : State := onPark (fun x => { x with resumes := [(7, r)] }) s
def at19 (phase : Nat) (buf : List Byte) : Cmd := cmdAt phase (rsB 1 0 0) buf
def marked : List Byte := zeros 384
def entryB (layer fill : Nat) : List Byte := zeros 108 ++ leBytes 2 layer ++ zeros 2 ++ leBytes 2 fill ++ zeros 14
def out19 : State := onSeq (fun x => { x with pages := [] }) (paged res6 pg up)
def first19 : Byte := (digestOf []).getD 0 0
/-- An entry of no slots whose DIGEST is not that of no bytes. -/
def bad19 : List Byte := zeros 64 ++ [first19 + 1] ++ zeros 63
theorem digest19 : ((digestOf []).take 24 == slice bad19 64 24) = false := by
  have h : slice bad19 64 24 = (first19 + 1) :: zeros 23 := rfl
  rw [h]
  cases hd : digestOf [] with
  | nil => rfl
  | cons b r =>
    have : first19 = b := by simp [first19, hd]
    rw [this]
    have hn : (b == b + 1) = false := by
      apply beq_eq_false_iff_ne.mpr
      intro e
      have := congrArg (fun x => x - b) e
      simp at this
    simp [hn]
set_option maxRecDepth 8000 in
theorem import19 : (importAll 7 0 (entriesOf bad19) [(0, [])] [] out19).1 = some (Status.uncorrectable, 255) := by
  have hd : entryDigestOk out19 res6 bad19 [] = false := digest19
  have hr : entryRaw out19 res6 0 0 bad19 [] = .ok [] := rfl
  have hl : entryLeaf out19 res6 bad19 = some 0 := rfl
  have hi : imported out19 7 res6 (Ent.layer bad19) 0 = false := rfl
  have h : importEntry 7 0 0 res6 bad19 [] out19 = .error (Status.uncorrectable, 255) := by
    simp [importEntry, hl, hi, hr, hd]
  have hq : look 7 out19.seq.seqs = some res6 := rfl
  have hn : nth [] (entriesOf bad19) 0 = bad19 := rfl
  simp [importAll, hq, hn, h]
def head0 : List Byte := leBytes 4 0x4B524150 ++ leBytes 2 1 ++ zeros 2 ++ leBytes 4 7 ++ zeros 52
def desc0 : List Byte := zeros 5 ++ leBytes 1 (5 * 2 + 8 * 16) ++ leBytes 2 16 ++ leBytes 2 1 ++ leBytes 2 1 ++ zeros 52
def tabled : List Byte := head0 ++ (desc0 ++ (digestOf desc0 ++ zeros 64))
def well19 : List Byte := tabled ++ (digestOf tabled ++ zeros 64)
theorem head_drops : head0.drop 64 = [] ∧ head0.drop 128 = [] ∧ desc0.drop 64 = [] ∧ desc0.take 64 = desc0 := by decide +kernel
theorem desc_length : desc0.length = 64 := rfl
theorem head_length : head0.length = 64 := rfl
theorem tabled_length : tabled.length = 256 := by
  simp [tabled, desc_length, head_length, digest_length, zeros]
theorem well_length : well19.length = 384 := by simp [well19, tabled_length, digest_length, zeros]
theorem well_digests : Img.digests well19 = true := by
  have h1 : well19.take 256 = tabled := by simp [well19, tabled_length]
  have h2 : slice well19 256 64 = digestOf tabled := by
    simp [slice, well19, List.drop_append, tabled_length, digest_length]
  have h3 : slice well19 64 64 = desc0 := by
    simp [slice, well19, tabled, List.drop_append, List.take_append, head_length, desc_length, head_drops]
  have h4 : slice well19 128 64 = digestOf desc0 := by
    simp [slice, well19, tabled, List.drop_append, List.take_append, head_length, desc_length, digest_length, head_drops]
  simp [Img.digests, h1, h2, h3, h4]
theorem well_head : fetchedHead (on19 (at19 1 well19) sq) (at19 1 well19) = .ok well19 := by
  have h : slice well19 0 384 = well19 := by simp [slice, List.take_of_length_le, well_length]
  have : fetchedHead (on19 (at19 1 well19) sq) (at19 1 well19) = .ok (slice well19 0 384) := rfl
  rw [this, h]
theorem well_fault : headerFault (on19 (at19 1 well19) sq) (at19 1 well19) well19 = none := by
  have h1 : Img.wellMarked well19 = true := rfl
  have h2 : Img.desc well19 = desc0 := by
    simp [Img.desc, slice, well19, tabled, List.drop_append, List.take_append, head_length, desc_length, head_drops]
  have h3 : Img.seq well19 = 7 := rfl
  have h4 : Img.image well19 = 0 := rfl
  simp only [headerFault, h1, h2, h3, h4, well_digests]
  rfl
/-- A header whose entry-array digest is not that of no bytes, and one whose is. -/
def wrongT : List Byte := zeros 192 ++ ((first19 + 1) :: zeros 191)
def rightT : List Byte := zeros 192 ++ (digestOf [] ++ zeros 128)
set_option maxRecDepth 8000 in
theorem wrong_table : digestOf [] ≠ Img.table wrongT := by
  intro h
  have h2 : Img.table wrongT = (first19 + 1) :: zeros 63 := rfl
  have h3 : (first19 : Byte) = first19 + 1 := by
    conv_lhs => rw [first19, h, h2]
    rfl
  have := congrArg (fun x => x - first19) h3
  simp at this
set_option maxRecDepth 8000 in
theorem right_table : digestOf [] = Img.table rightT := by
  simp [Img.table, slice, rightT, List.drop_append, digest_length, zeros, List.take_append]
set_option maxRecDepth 8000 in
theorem right_length : rightT.length = 384 := by simp [rightT, digest_length, zeros]
def st19 (c : Cmd) : State := resuming (resume0 4) (on19 c res6)
theorem right_head : fetchedHead (st19 (at19 2 rightT)) (at19 2 rightT) = .ok rightT := by
  have h : slice rightT 0 384 = rightT := by simp [slice, List.take_of_length_le, right_length]
  have : fetchedHead (st19 (at19 2 rightT)) (at19 2 rightT) = .ok (slice rightT 0 384) := rfl
  rw [this, h]
theorem right_fault : arrayFault (st19 (at19 2 rightT)) (at19 2 rightT) rightT [] = none := by
  have h : has (Op.seqId (at19 2 rightT).bytes) (st19 (at19 2 rightT)).seq.seqs = true := rfl
  simp [arrayFault, ← right_table, h]
set_option maxRecDepth 8000 in
theorem wrong_length : wrongT.length = 384 := by simp [wrongT, zeros]
set_option maxRecDepth 8000 in
theorem wrong_head : fetchedHead (st19 (at19 2 wrongT)) (at19 2 wrongT) = .ok wrongT ∧
    fetchedArray (st19 (at19 2 wrongT)) (at19 2 wrongT) wrongT = .ok [] := by
  have h : slice wrongT 0 384 = wrongT := by simp [slice, List.take_of_length_le, wrong_length]
  have h2 : fetchedHead (st19 (at19 2 wrongT)) (at19 2 wrongT) = .ok (slice wrongT 0 384) := rfl
  exact ⟨h2.trans (by rw [h]), rfl⟩
theorem wrong_fault : arrayFault (st19 (at19 2 wrongT)) (at19 2 wrongT) wrongT [] = some (Status.uncorrectable, 0, 5) := by
  simp [arrayFault, wrong_table]
def sealedQ (s : State) : State := setRg .QUE_CTX_CFG_CONF 0 1 s
def gathers19 (s : State) : State :=
  onFox (fun f => { f with coaches := [(0, { coach0 with gather := true, toRead := [(0, { leaf := 0, page := 3, always := true, digital := false, sat := false, b0 := 0 })] })] }) s
def got0 : Resume := { resume0 4 with got := [3] }
def blind19 (s : State) : State := onMem (fun m => { m with bad := [(codeKey (hbmAddr 0 im0.shareSize), 2)] }) s

/-- Every clause of Obligations.SequencesAreResumedFromTheirSources has states and operands that meet its premises. -/
theorem witness_SequencesAreResumedFromTheirSources :
    (∃ (k : Nat) (c : Cmd) (s : State) (f : _), Started k 1 0x31 c s ∧ c.phase = 0 ∧ resumeFault s c.bytes = some f) ∧
    (∃ (k : Nat) (c : Cmd) (s : State), Started k 1 0x31 c s ∧ c.phase = 0 ∧ resumeFault s c.bytes = none ∧
      Rs.abandon c.bytes = true) ∧
    (∃ (k : Nat) (c : Cmd) (s : State), Started k 1 0x31 c s ∧ c.phase = 0 ∧ resumeFault s c.bytes = none ∧
      Rs.abandon c.bytes = false ∧ Rs.source c.bytes = 3) ∧
    (∃ (k : Nat) (c : Cmd) (s : State) (w : _), Started k 1 0x31 c s ∧ c.phase = 0 ∧ resumeFault s c.bytes = none ∧
      Rs.abandon c.bytes = false ∧ Rs.source c.bytes = 0 ∧ Rs.slice c.bytes = false ∧
      look (Op.seqId c.bytes) s.park.warm = some w) ∧
    (∃ (k : Nat) (c : Cmd) (s : State) (q : _), Started k 1 0x31 c s ∧ c.phase = 0 ∧ resumeFault s c.bytes = none ∧
      Rs.abandon c.bytes = false ∧ Rs.source c.bytes = 0 ∧ Rs.slice c.bytes = true ∧
      look (Op.seqId c.bytes) s.seq.seqs = some q) ∧
    (∃ (k : Nat) (c : Cmd) (s : State), Started k 1 0x31 c s ∧ c.phase = 0 ∧ resumeFault s c.bytes = none ∧
      Rs.abandon c.bytes = false ∧ Rs.source c.bytes = 1) ∧
    (∃ (k : Nat) (c : Cmd) (s : State), Started k 1 0x31 c s ∧ c.phase = 0 ∧ resumeFault s c.bytes = none ∧
      Rs.abandon c.bytes = false ∧ Rs.source c.bytes = 2) ∧
    (∃ (b : List Byte) (q : Seqd) (s : State), look (Op.seqId b) s.seq.seqs = some q ∧ (Op.seqId b ≠ 0) ∧ Rs.node b ≤ 4095 ∧
      Rs.source b = 3 ∧ Rs.last b = true ∧ Rs.abandon b = false) ∧
    (∃ (b : List Byte) (q : Seqd) (r : Resume) (s : State), look (Op.seqId b) s.park.resumes = some r ∧ q.st = 6 ∧
      (r.image ≠ Rs.image b) ∧ Rs.slice b = false) ∧
    (∃ (b : List Byte) (s : State), look (Op.seqId b) s.seq.seqs = none ∧ (Op.seqId b ≠ 0) ∧ Rs.node b ≤ 4095 ∧
      (Rs.source b = 1 ∨ Rs.source b = 2) ∧ Rs.abandon b = false ∧ Rs.slice b = false ∧ has (Op.seqId b) s.seq.busy = false) ∧
    (∃ (k : Nat) (c : Cmd) (q : Seqd) (r : Resume) (s : State), s.cmd k = some c ∧
      look (Op.seqId c.bytes) s.seq.seqs = some q ∧ look (Op.seqId c.bytes) s.park.resumes = some r ∧
      (let seq := Op.seqId c.bytes; (let m := missingPages s seq q r.pos; (m ≠ 0)))) ∧
    (∃ (k : Nat) (c : Cmd) (q : Seqd) (r : Resume) (s : State), s.cmd k = some c ∧
      look (Op.seqId c.bytes) s.seq.seqs = some q ∧ look (Op.seqId c.bytes) s.park.resumes = some r ∧
      (let seq := Op.seqId c.bytes; (let m := missingPages s seq q r.pos; m = 0))) ∧
    (∃ (k : Nat) (c : Cmd) (s : State), Started k 1 0x31 c s ∧ Rs.source c.bytes = 1 ∧ (c.phase ≠ 0) ∧ (c.want ≠ 0)) ∧
    (∃ (k : Nat) (c : Cmd) (s : State) (i : _), Started k 1 0x31 c s ∧ Rs.source c.bytes = 1 ∧ (c.phase ≠ 0) ∧ c.want = 0 ∧
      fetchedHead s c = .error i) ∧
    (∃ (k : Nat) (c : Cmd) (s : State) (h : _) (f : _), Started k 1 0x31 c s ∧ Rs.source c.bytes = 1 ∧ c.phase = 1 ∧
      c.want = 0 ∧ fetchedHead s c = .ok h ∧ headerFault s c h = some f) ∧
    (∃ (k : Nat) (c : Cmd) (s : State) (h : _), Started k 1 0x31 c s ∧ Rs.source c.bytes = 1 ∧ c.phase = 1 ∧ c.want = 0 ∧
      fetchedHead s c = .ok h ∧ headerFault s c h = none) ∧
    (∃ (k : Nat) (c : Cmd) (s : State) (h : _) (es : _) (f : _), Started k 1 0x31 c s ∧ Rs.source c.bytes = 1 ∧ c.phase = 2 ∧
      c.want = 0 ∧ fetchedHead s c = .ok h ∧ fetchedArray s c h = .ok es ∧ resumeFault s c.bytes = none ∧
      arrayFault s c h es = some f) ∧
    (∃ (k : Nat) (c : Cmd) (s : State) (h : _) (es : _), Started k 1 0x31 c s ∧ Rs.source c.bytes = 1 ∧ c.phase = 2 ∧
      c.want = 0 ∧ fetchedHead s c = .ok h ∧ fetchedArray s c h = .ok es ∧ resumeFault s c.bytes = none ∧
      arrayFault s c h es = none) ∧
    (∃ (k : Nat) (c : Cmd) (s : State) (h : _) (es : _), Started k 1 0x31 c s ∧ Rs.source c.bytes = 1 ∧ c.phase = 3 ∧
      c.want = 0 ∧ fetchedHead s c = .ok h ∧ fetchedArray s c h = .ok es ∧ transferMayRun s (Op.car c.bytes) = false) ∧
    (∃ (k : Nat) (c : Cmd) (s : State) (h : _) (es : _) (pages : _), Started k 1 0x31 c s ∧ Rs.source c.bytes = 1 ∧
      c.phase = 3 ∧ c.want = 0 ∧ fetchedHead s c = .ok h ∧ fetchedArray s c h = .ok es ∧
      transferMayRun s (Op.car c.bytes) = true ∧ takeSpans s c (Img.len h) (stageSpans s c).1 (stageSpans s c).2 = .ok pages) ∧
    (∃ (h : List Byte) (es : List Byte), (digestOf es ≠ Img.table h)) ∧
    (∃ (c : Cmd) (h : List Byte) (es : List Byte) (s : State), digestOf es = Img.table h ∧
      has (Op.seqId c.bytes) s.seq.seqs = true) ∧
    (∃ (c : Cmd) (q : Seqd) (s : State), look (Op.seqId c.bytes) s.seq.seqs = some q) ∧
    (∃ (seq : Nat) (leaf : Nat) (q : Seqd) (e : List Byte) (s : State), entryLeaf s q e = some leaf ∧
      imported s seq q (Ent.layer e) leaf = true) ∧
    (∃ (seq : Nat) (image : Nat) (i : Nat) (leaf : Nat) (q : Seqd) (e : List Byte) (d : List Byte) (s : State) (raw : _),
      entryLeaf s q e = some leaf ∧ imported s seq q (Ent.layer e) leaf = false ∧ entryRaw s q image i e d = .ok raw ∧
      entryDigestOk s q e raw = false) ∧
    (∃ (q : Seqd) (e : List Byte), (q.layers ≤ Ent.layer e ∨ q.kv ≤ Ent.head e ∨ q.p < Ent.fill e ∨ Ent.fill e < Ent.view e)) ∧
    (∃ (seq : Nat) (r : Resume) (s : State), look seq s.park.resumes = some r) ∧
    (∃ (c : Cmd) (entries : List Byte) (pages : List (List Byte)) (s : State),
      (let seq := Op.seqId c.bytes; (let r := importAll seq (Rs.image c.bytes) (entriesOf entries) (c.note.zip pages) [] s; r.1 = none))) ∧
    (∃ (c : Cmd) (entries : List Byte) (pages : List (List Byte)) (s : State),
      (let seq := Op.seqId c.bytes; (let r := importAll seq (Rs.image c.bytes) (entriesOf entries) (c.note.zip pages) [] s; r.1 = some (Status.uncorrectable,
      255)))) ∧
    (∃ (c : Cmd) (entries : List Byte) (pages : List (List Byte)) (s : State) (x : _),
      (let seq := Op.seqId c.bytes; (let r := importAll seq (Rs.image c.bytes) (entriesOf entries) (c.note.zip pages) [] s; r.1 = some x ∧
      (x ≠ (Status.uncorrectable, 255))))) ∧
    (∃ (c : Cmd) (w : WarmImage) (es : List (List Byte)) (q : Seqd) (s : State),
      (let seq := Op.seqId c.bytes; (let ps := warmSources s seq q w es; (let r := warmAll seq q ps [] s; ((∀ p ∈ w.pages,
      ∀ g, look p s.seq.pages = some g → g.comp = false)) ∧ r.1 = true)))) ∧
    (∃ (c : Cmd) (w : WarmImage) (es : List (List Byte)) (q : Seqd) (s : State),
      (let seq := Op.seqId c.bytes; (let ps := warmSources s seq q w es; (let r := warmAll seq q ps [] s; ((∀ p ∈ w.pages,
      ∀ g, look p s.seq.pages = some g → g.comp = false)) ∧ r.1 = false)))) ∧
    (∃ (seq : Nat) (r : Resume) (s : State), look seq s.park.resumes = some r) :=
  ⟨⟨1, (cmd (rsB 4 0 0)), (on19 (cmd (rsB 4 0 0)) sq), (Status.badCommand, 0), by unfold Started; decide +kernel⟩,
   ⟨1, (cmd (rsB 0 2 0)), (on19 (cmd (rsB 0 2 0)) res6), by unfold Started; decide +kernel⟩,
   ⟨1, (cmd (rsB 3 1 0)), (on19 (cmd (rsB 3 1 0)) res6), by unfold Started; decide +kernel⟩,
   ⟨1, (cmd (rsB 0 0 0)), (onPark (fun x => { x with warm := [(7, warm19)] }) (on19 (cmd (rsB 0 0 0)) { sq with st := 4 })),
     warm19, by unfold Started; decide +kernel⟩,
   ⟨1, (cmd (rsB 0 0 1)), (on19 (cmd (rsB 0 0 1)) sq), sq, by unfold Started; decide +kernel⟩,
   ⟨1, (cmd (rsB 1 0 0)), (none19 (cmd (rsB 1 0 0))), by unfold Started; decide +kernel⟩,
   ⟨1, (cmd (rsB 2 0 0)), (none19 (cmd (rsB 2 0 0))), by unfold Started; decide +kernel⟩,
   ⟨(rsB 3 1 0), res6, (paged res6 pg up), by decide +kernel⟩,
   ⟨(rsB 1 0 0), res6, ({ resume0 4 with image := 5 }), (resuming { resume0 4 with image := 5 } up), by decide +kernel⟩,
   ⟨(rsB 1 0 0), up, by decide +kernel⟩,
   ⟨1, (cmd (rsB 3 1 0)), res6, (resume0 257), (resuming (resume0 257) (on19 (cmd (rsB 3 1 0)) res6)), by decide +kernel⟩,
   ⟨1, (cmd (rsB 3 1 0)), res6, (resume0 0), (resuming (resume0 0) (on19 (cmd (rsB 3 1 0)) res6)), by decide +kernel⟩,
   ⟨1, ({ at19 1 [] with want := 8 }), (on19 { at19 1 [] with want := 8 } sq), by unfold Started; decide +kernel⟩,
   ⟨1, (at19 1 []), (sealedQ (on19 (at19 1 []) sq)), 0, by unfold Started; decide +kernel⟩,
   ⟨1, (at19 1 marked), (on19 (at19 1 marked) sq), marked, (Status.badCommand, 22, 1), by unfold Started; decide +kernel⟩,
   ⟨1, (at19 1 well19), (on19 (at19 1 well19) sq), well19, ⟨rfl, rfl, rfl, rfl, rfl, rfl⟩, rfl, rfl, rfl, well_head,
     well_fault⟩,
   ⟨1, (at19 2 wrongT), (st19 (at19 2 wrongT)), wrongT, [], (Status.uncorrectable, 0, 5), ⟨rfl, rfl, rfl, rfl, rfl, rfl⟩, rfl,
     rfl, rfl, wrong_head.1, wrong_head.2, rfl, wrong_fault⟩,
   ⟨1, (at19 2 rightT), (st19 (at19 2 rightT)), rightT, [], ⟨rfl, rfl, rfl, rfl, rfl, rfl⟩, rfl, rfl, rfl, right_head, rfl,
     rfl, right_fault⟩,
   ⟨1, (at19 3 marked), (gathers19 (on19 (at19 3 marked) sq)), marked, [], by unfold Started; decide +kernel⟩,
   ⟨1, (at19 3 marked), (none19 (at19 3 marked)), marked, [], [], by unfold Started; decide +kernel⟩,
   ⟨wrongT, [], wrong_table⟩,
   ⟨(cmd (rsB 1 0 0)), rightT, [], (paged sq pg up), right_table, rfl⟩,
   ⟨(cmd (rsB 1 0 0)), sq, (paged sq pg up), by decide +kernel⟩,
   ⟨7, 0, sq, (entryB 0 4), (resuming got0 (paged sq pg up)), by decide +kernel⟩,
   ⟨7, 0, 0, 0, res6, bad19, [], out19, [], rfl, rfl, rfl, digest19⟩,
   ⟨sq, (entryB 1 0), by decide +kernel⟩,
   ⟨7, (resume0 4), (resuming (resume0 4) up), by decide +kernel⟩,
   ⟨(cmd (rsB 1 1 0)), [], [], (paged sq pg up), by decide +kernel⟩,
   ⟨({ cmd (rsB 1 1 0) with note := [0] }), bad19, [[]], out19, import19⟩,
   ⟨({ cmd (rsB 1 1 0) with note := [0] }), [], [[]], up, (Status.badCommand, 25), by decide +kernel⟩,
   ⟨(cmd (rsB 0 1 0)), warm19, [], res6, (paged res6 pg up), by decide +kernel⟩,
   ⟨(cmd (rsB 0 1 0)), warm19, [entryB 0 4], res6, (blind19 (paged res6 pg up)), by decide +kernel⟩,
   ⟨7, (resume0 4), (resuming (resume0 4) up), by decide +kernel⟩⟩

end W19b

namespace W20

def shB (n : Nat) : List Byte := leBytes 4 7 ++ leBytes 2 0 ++ leBytes 1 n ++ zeros 1 ++ leBytes 4 4 ++ zeros 12 ++ leBytes 2 9 ++ zeros 6 ++ zeros (68 * n)
def shE (n : Nat) : RxEntry := msg0 4 (shB n)
def on20 (e : RxEntry) (q : Seqd) (log : List LogEntry) : State := tt 2 (onPark (fun x => { x with log := log }) (rxed e (paged q pg up)))
def logged (n : Nat) : LogEntry := { car := 0, seq := 7, served := 9, layer := 0, start := 4, count := n, bytes := [] }
def lrB : List Byte := cmdB 1 0x32 7 (leBytes 4 0)
def ltB : List Byte := cmdB 1 0x33 7 (leBytes 4 0)
def other20 : Seqd := { sq with car := 1 }
def framed20 (s : State) : State := onSeq (fun x => { x with frames := [((0, 0), .log)] }) s
def lost20 (s : State) : State := onMem (fun m => { m with bad := [(codeKey (hbmAddr 0 im0.shareSize), 2)] }) (framed20 s)
def old20 : Page := { pg with sealed_ := true, age := 9 }
def far20 : Page := { pg with loc := .cxl 0 0 }
def demoting20 (s : State) : State :=
  setRg .BDG_PARK_C_CTRL_DEMOTE 0 1 (setRg .BDG_PARK_C_CTRL_HIGH 0 1000 (onPark (fun x => { x with demoting := [(0, 0)] })
    (onSeq (fun x => { x with frames := [((0, 0), .page 3)] }) s)))
def promoting (g : Page) (n : Nat) : State :=
  setRg .BDG_PARK_C_CTRL_PROMOTE 0 n (setRg .BDG_PARK_C_CTRL_HIGH 0 500 (onPark (fun x => { x with toPromote := [(3, 0)] }) (paged sq g up)))

/-- Every clause of Obligations.LogsAgeAndTiersAreKept has states and operands that meet its premises. -/
theorem witness_LogsAgeAndTiersAreKept :
    (∃ (src : BitVec 12) (op : BitVec 32) (e : RxEntry) (s : State) (st : _), Waits (src.toNat, op.toNat) 4 e s ∧
      shadowWell s e.message = true ∧ (let m := e.message; shadowFault s e m = some st ∧ (st ≠ Status.accessDenied))) ∧
    (∃ (src : BitVec 12) (op : BitVec 32) (e : RxEntry) (s : State), Waits (src.toNat, op.toNat) 4 e s ∧
      shadowWell s e.message = true ∧ (let m := e.message; shadowFault s e m = some Status.accessDenied)) ∧
    (∃ (src : BitVec 12) (op : BitVec 32) (e : RxEntry) (s : State), Waits (src.toNat, op.toNat) 4 e s ∧
      shadowWell s e.message = true ∧ (let m := e.message; (let x := logEntry s e m; shadowFault s e m = none ∧
      s.park.log.any x.same = true))) ∧
    (∃ (src : BitVec 12) (op : BitVec 32) (e : RxEntry) (s : State), Waits (src.toNat, op.toNat) 4 e s ∧
      shadowWell s e.message = true ∧ (let m := e.message; (let x := logEntry s e m; shadowFault s e m = none ∧
      s.park.log.any x.same = false))) ∧
    (∃ (m : List Byte) (q : Seqd) (s : State), look (u32 m 0) s.seq.seqs = some q ∧
      appendWell s.im q.kv (q.slot s.im) (q.scale s.im) m = true ∧ 1 ≤ u8 m 6 ∧ u8 m 6 ≤ 32 ∧ u16 m 4 < q.layers) ∧
    (∃ (m : List Byte) (s : State), look (u32 m 0) s.seq.seqs = none ∧ 32 + 4 * u8 m 6 ≤ m.length ∧ 1 ≤ u8 m 6 ∧ u8 m 6 ≤ 32) ∧
    (∃ (c : Nat) (n : Nat) (s : State) (t : State), logGrow c n s = some t) ∧
    (∃ (k : Nat) (c : Cmd) (s : State), Started k 1 0x32 c s ∧ foreignSeq s c = false ∧ logFrames s (Op.car c.bytes) = []) ∧
    (∃ (k : Nat) (c : Cmd) (s : State), Started k 1 0x32 c s ∧ foreignSeq s c = false ∧
      (let u := forEach (logFrames s (Op.car c.bytes)) (fun f => noteRead (.hbm f.1 f.2) 0 s.im.dataArea) s; ((logFrames s (Op.car c.bytes)).all (fun f => canRead u (.hbm f.1 f.2) 0 u.im.dataArea) = false))) ∧
    (∃ (k : Nat) (c : Cmd) (s : State), Started k 1 0x32 c s ∧ foreignSeq s c = true) ∧
    (∃ (k : Nat) (c : Cmd) (s : State), Started k 1 0x33 c s ∧ foreignSeq s c = true) ∧
    (∃ (k : Nat) (c : Cmd) (s : State), Started k 1 0x33 c s ∧ foreignSeq s c = false) ∧
    (∃ (s : State), s.live = true ∧ s.frame ≤ s.park.ageAt) ∧
    (∃ (s : State) (p : _) (g : _), s.live = true ∧ s.park.ageAt < s.frame ∧ look p s.seq.pages = some g) ∧
    (∃ (h : Fin 2) (s : State), s.live = true ∧
      (let u := onPark (fun y => { y with demoting := y.demoting.filter (fun x => x.2 != h.val || demoteWants s x.1 h.val) }) s; (let due := (List.range 16).find? (fun c => demoteDue u c h.val && moveRoom u c h.val); due = none))) ∧
    (∃ (h : Fin 2) (s : State) (c : _) (x : _), s.live = true ∧
      (let u := onPark (fun y => { y with demoting := y.demoting.filter (fun x => x.2 != h.val || demoteWants s x.1 h.val) }) s; (let due := (List.range 16).find? (fun c => demoteDue u c h.val && moveRoom u c h.val); due = some c ∧
      demoteNext u c h.val = some x))) ∧
    (∃ (s : State) (c : Nat) (h : Nat) (x : Nat × Page) (y : _), demoteNext s c h = some x ∧ y ∈ s.seq.pages ∧
      demotable s c h y = true) ∧
    (∃ (s : State) (c : Nat) (h : Nat) (x : Nat × Page) (q : _) (e : _), demotable s c h x = true ∧ q ∈ seqsOfPage s x.1 ∧
      e ∈ q.2.entries ∧ e.2.2.page = x.1) ∧
    (∃ (c : Nat) (h : Nat) (s : State), (c, h) ∈ s.park.demoting) ∧
    (∃ (s : State) (c : Nat) (h : Nat), demoteDue s c h = true) ∧
    (∃ (h : Fin 2) (p : Nat) (g : Page) (s : State), s.live = true ∧
      (s.park.toPromote.find? (fun x => x.2 == h.val) = some (p, h.val)) ∧ look p s.seq.pages = some g ∧ g.moving = false ∧
      moveRoom s g.car h.val = true ∧
      (g.loc.isCxl = false ∨ s.rg .BDG_PARK_C_CTRL_PROMOTE g.car = 0 ∨ halfFree s g.car h.val * 1000 ≤ parkHigh s g.car * halfFrames s g.car h.val)) ∧
    (∃ (h : Fin 2) (p : Nat) (g : Page) (s : State), s.live = true ∧
      (s.park.toPromote.find? (fun x => x.2 == h.val) = some (p, h.val)) ∧ look p s.seq.pages = some g ∧ g.moving = false ∧
      moveRoom s g.car h.val = true ∧ g.loc.isCxl = true ∧ pageParked s p = false ∧
      (s.rg .BDG_PARK_C_CTRL_PROMOTE g.car ≠ 0) ∧
      parkHigh s g.car * halfFrames s g.car h.val < halfFree s g.car h.val * 1000 ∧ g.comp = false) :=
  ⟨⟨5, 6, (shE 0), (on20 (shE 0) sq []), Status.badCommand, by unfold Waits; decide +kernel⟩,
   ⟨5, 6, (shE 1), (on20 (shE 1) other20 []), by unfold Waits; decide +kernel⟩,
   ⟨5, 6, (shE 1), (on20 (shE 1) sq [logged 1]), by unfold Waits; decide +kernel⟩,
   ⟨5, 6, (shE 1), (on20 (shE 1) sq []), by unfold Waits; decide +kernel⟩,
   ⟨(shB 1), sq, (paged sq pg up), by decide +kernel⟩,
   ⟨(shB 1), up, by decide +kernel⟩,
   ⟨0, 0, up, up, by decide +kernel⟩,
   ⟨1, (cmd lrB), (run 1 (cmd lrB) (paged sq pg up)), by unfold Started; decide +kernel⟩,
   ⟨1, (cmd lrB), (lost20 (run 1 (cmd lrB) (paged sq pg up))), ⟨rfl, rfl, rfl, rfl, rfl, rfl⟩, rfl, by decide +kernel⟩,
   ⟨1, (cmd lrB), (run 1 (cmd lrB) (paged other20 pg up)), by unfold Started; decide +kernel⟩,
   ⟨1, (cmd ltB), (run 1 (cmd ltB) (paged other20 pg up)), by unfold Started; decide +kernel⟩,
   ⟨1, (cmd ltB), (run 1 (cmd ltB) (paged sq pg up)), by unfold Started; decide +kernel⟩,
   ⟨up, by decide +kernel⟩,
   ⟨(at_ 0 frameNs (paged sq pg up)), 3, pg, by decide +kernel⟩,
   ⟨1, up, by decide +kernel, by decide +kernel⟩,
   ⟨0, (demoting20 (paged sq old20 up)), 0, (3, old20), by decide +kernel, by decide +kernel⟩,
   ⟨(demoting20 (paged sq old20 up)), 0, 0, (3, old20), (3, old20), by decide +kernel⟩,
   ⟨(demoting20 (paged sq old20 up)), 0, 0, (3, old20), (7, sq), (0, 0, { page := 3, view := 4 }), by decide +kernel⟩,
   ⟨0, 0, (demoting20 up), by decide +kernel⟩,
   ⟨(demoting20 (paged sq old20 up)), 0, 0, by decide +kernel⟩,
   ⟨0, 3, pg, (promoting pg 1), by decide +kernel⟩,
   ⟨0, 3, far20, (promoting far20 1), by decide +kernel⟩⟩

end W20

namespace W21a

def start21 (f : StartSt → StartSt) (s : State) : State := onStart f s
def down21 : State := { up with start := { up.start with inReset := true } }
def writing21 : State := onStart (fun x => { x with writing := some (2, Persist.empty, 0, 0) }) up
def pend21 (v : Nat) : State := onSec (fun x => { x with lcPending := some (zeros 13 ++ [BitVec.ofNat 8 v] ++ zeros 200) }) up
def stepsDone (l : List Nat) (s : State) : State := onStart (fun x => { x with done := l }) s
def rec21 : Persist := { Persist.empty with valid := true }
def area21 (s : State) : State := onSec (fun x => { x with flash := { x.flash with areas := [(2, rec21)] } }) s

/-- Every clause of Obligations.ResetPowerAndStartUpBegin has states and operands that meet its premises. -/
theorem witness_ResetPowerAndStartUpBegin :
    (∃ (s : State), s.start.inReset = true) ∧
    (∃ (s : State), s.start.inReset = false ∧ s.start.writing = none ∧ s.comp.commit = none ∧ s.sec.loader = none) ∧
    (∃ (s : State), s.start.powerGood = false) ∧
    (∃ (s : State) (a : _) (p : _) (purpose : _) (ft : _), s.start.powerGood = true ∧ s.start.inReset = false ∧
      s.start.writing = some (a, p, purpose, ft)) ∧
    (∃ (s : State), s.start.powerGood = true ∧ 1 ∉ s.start.done ∧ s.sec.lcPending = none ∧ (s.lc ≠ 4)) ∧
    (∃ (b : List Byte) (s : State), s.sec.lcPending = some b ∧ u8 b 13 = 1) ∧
    (∃ (b : List Byte) (s : State), s.sec.lcPending = some b ∧ u8 b 13 = 4) ∧
    (∃ (s : State), s.live = true ∧ (1 ∉ s.start.done ∨ 2 ∈ s.start.done ∨ s.rg .SEC_BOOT_STATE 0 ≠ 1)) ∧
    (∃ (s : State), s.live = true ∧ 1 ∈ s.start.done ∧ 2 ∉ s.start.done ∧ s.rg .SEC_BOOT_STATE 0 = 1) ∧
    (∃ (v : Nat) (s : State), v ≤ s.sec.fuses.rollback) ∧
    (∃ (v : Nat) (s : State), s.sec.fuses.rollback < v) ∧
    (∃ (s : State), s.live = true ∧ (2 ∉ s.start.done ∨ 3 ∈ s.start.done)) ∧
    (∃ (s : State), s.live = true ∧ 2 ∈ s.start.done ∧ 3 ∉ s.start.done ∧ newestArea s = none) ∧
    (∃ (s : State) (a : _) (p : _), s.live = true ∧ 2 ∈ s.start.done ∧ 3 ∉ s.start.done ∧ newestArea s = some (a, p)) ∧
    (∃ (s : State) (a : Nat) (p : Persist) (b : _) (q : _), newestArea s = some (a, p) ∧ (b, q) ∈ s.sec.flash.areas ∧
      q.valid = true) ∧
    (∃ (s : State), s.live = true ∧ (3 ∉ s.start.done ∨ s.start.tried = true ∨ s.comp.image ≠ none)) ∧
    (∃ (s : State), s.live = true ∧ 3 ∈ s.start.done ∧ s.start.tried = false ∧ s.comp.image = none) :=
  ⟨⟨down21, by decide +kernel⟩,
   ⟨up, by decide +kernel⟩,
   ⟨(onStart (fun x => { x with powerGood := false }) up), by decide +kernel⟩,
   ⟨writing21, 2, Persist.empty, 0, 0, by decide +kernel⟩,
   ⟨(stepsDone [] up), by decide +kernel⟩,
   ⟨(zeros 13 ++ [BitVec.ofNat 8 1] ++ zeros 200), (pend21 1), by decide +kernel⟩,
   ⟨(zeros 13 ++ [BitVec.ofNat 8 4] ++ zeros 200), (pend21 4), by decide +kernel⟩,
   ⟨up, by decide +kernel⟩,
   ⟨(setRg .SEC_BOOT_STATE 0 1 (stepsDone [1] up)), by decide +kernel⟩,
   ⟨0, up, by decide +kernel⟩,
   ⟨1, up, by decide +kernel⟩,
   ⟨up, by decide +kernel⟩,
   ⟨(stepsDone [1, 2] up), by decide +kernel⟩,
   ⟨(area21 (stepsDone [1, 2] up)), 2, rec21, by decide +kernel⟩,
   ⟨(area21 up), 2, rec21, 2, rec21, by decide +kernel⟩,
   ⟨up, by decide +kernel⟩,
   ⟨(onComp (fun c => { c with image := none }) (stepsDone [1, 2, 3] up)), by decide +kernel⟩⟩

end W21a

namespace W21b

def stepsDone (l : List Nat) (s : State) : State := onStart (fun x => { x with done := l }) s
def anchored (ft : Nat) : State := at_ 0 ft (onStart (fun x => { x with compAt := some 0, lockAt := some 5, anchor := none }) up)
def slotEvt : Evt := { ft := 0, kind := 6, car := 0, per := 0, st := 1, arg := 1 }
def levels (v : Nat) (s : State) : State := setRg .BIST_LEVEL_LEVELS 0 v s
def linked21 (s : State) : State :=
  onComp (fun c => { c with image := some { im0 with sects := (9, (List.replicate 8 (leBytes 1 1 ++ zeros 7 ++ leBytes 2 1 ++ zeros 22)).flatMap id) :: im0.sects } }) s
def slotted (ft : Nat) (s : State) : State := at_ 0 ft (onStart (fun x => { x with slots := [(2, 0), (4, 0)], lockAt := some 0 }) s)

/-- Every clause of Obligations.StartUpReachesReady has states and operands that meet its premises. -/
theorem witness_StartUpReachesReady :
    (∃ (s : State), s.live = true ∧ (4 ∉ s.start.done ∨ 6 ∈ s.start.done)) ∧
    (∃ (s : State), s.live = true ∧ 4 ∈ s.start.done ∧ 6 ∉ s.start.done) ∧
    (∃ (t : Nat) (s : State), (s.tileSt t ≠ 1)) ∧
    (∃ (t : Nat) (s : State), s.tileSt t = 1) ∧
    (∃ (m : Nat) (sigma : Nat) (off : Int) (gain : Int) (cals : List (Nat × (Nat × Int × Int))) (s : State),
      look m s.persisted.foxTrims = none ∧ look m cals = some (sigma, off, gain)) ∧
    (∃ (a : Nat) (s : State), s.live = true ∧ anchorAt s = some a ∧ s.start.anchor = none ∧ (s.ft < a ∨ 4 ∉ s.start.done)) ∧
    (∃ (a : Nat) (s : State), s.live = true ∧ anchorAt s = some a ∧ s.start.anchor = none ∧ a ≤ s.ft ∧ 4 ∈ s.start.done) ∧
    (∃ (c : Nat) (l : Nat) (a : Nat) (s : State), s.start.compAt = some c ∧ s.start.lockAt = some l ∧ anchorAt s = some a) ∧
    (∃ (i : Nat) (s : State), evtFree s 6 0 = some i) ∧
    (∃ (i : Fin 256) (e : Evt) (s : State), s.live = true ∧ s.evt i.val = some e ∧ evtFires s i.val 6 = true) ∧
    (∃ (n : _), n < 4) ∧
    (∃ (lvl : Nat), (lvl ≠ 1)) ∧
    (∃ (s : State), s.live = true ∧ (7 ∉ s.start.done ∨ 8 ∈ s.start.done ∨ s.level 1 = 0)) ∧
    (∃ (s : State), s.live = true ∧ 7 ∈ s.start.done ∧ 8 ∉ s.start.done ∧ (s.level 1 ≠ 0)) ∧
    (∃ (s : State), s.live = true ∧ (8 ∉ s.start.done ∨ 9 ∈ s.start.done)) ∧
    (∃ (s : State), s.live = true ∧ 8 ∈ s.start.done ∧ 9 ∉ s.start.done) ∧
    (∃ (lvl : Nat) (s : State), ((s.level lvl = 1 ∨ s.level lvl = 3)) ∧ levelMissing s lvl = []) ∧
    (∃ (l : Fin 4) (t : Nat) (s : State), s.live = true ∧ look (l.val + 1) s.start.slots = some t ∧
      (let lvl := l.val + 1; (s.level lvl ≠ 1 ∨ levelMissing s lvl = [] ∨ s.ft < t + max 1 (s.rg .BIST_DISC_WAIT_MS 0) * 1000000))) ∧
    (∃ (l : Fin 4) (t : Nat) (s : State), s.live = true ∧ look (l.val + 1) s.start.slots = some t ∧
      (let lvl := l.val + 1; s.level lvl = 1 ∧ (levelMissing s lvl ≠ []) ∧
      t + max 1 (s.rg .BIST_DISC_WAIT_MS 0) * 1000000 ≤ s.ft)) ∧
    (∃ (s : State), s.live = true ∧ (readyDue s = false ∨ 11 ∈ s.start.done ∨ firingAllowed s = false)) ∧
    (∃ (s : State), s.live = true ∧ readyDue s = true ∧ 11 ∉ s.start.done ∧ firingAllowed s = true) :=
  ⟨⟨(stepsDone [1, 2, 3] up), by decide +kernel⟩,
   ⟨(stepsDone [1, 2, 3, 4] up), by decide +kernel⟩,
   ⟨32, (setRg .BEAR_T_STAT_STATE 32 0 up), by decide +kernel⟩,
   ⟨32, (setRg .BEAR_T_STAT_STATE 32 1 up), by decide +kernel⟩,
   ⟨0, 100, 0, 2048, [(0, (100, 0, 2048))], up, by decide +kernel⟩,
   ⟨134217728, (anchored 134217727), by decide +kernel⟩,
   ⟨134217728, (anchored 134217728), by decide +kernel⟩,
   ⟨0, 5, 134217728, (anchored 0), by decide +kernel⟩,
   ⟨(224 + Config.freeValue 0 % 32), up,
     by first | decide +kernel | ((repeat' apply And.intro) <;> first | decide +kernel | rfl)⟩,
   ⟨255, slotEvt, (setEvt 255 slotEvt up), by decide +kernel⟩,
   ⟨3, by decide +kernel⟩,
   ⟨2, by decide +kernel⟩,
   ⟨(levels 0 up), by decide +kernel⟩,
   ⟨(levels 1 (stepsDone [1, 2, 3, 4, 6, 7] up)), by decide +kernel⟩,
   ⟨(stepsDone [] up), by decide +kernel⟩,
   ⟨(stepsDone [8] up), by decide +kernel⟩,
   ⟨1, (levels 1 up), by decide +kernel⟩,
   ⟨1, 0, (slotted 0 (levels 0 up)), by decide +kernel⟩,
   ⟨1, 0, (slotted 2000000000 (levels 4 (linked21 (setRg .BIST_DISC_WAIT_MS 0 1 up)))), by decide +kernel⟩,
   ⟨up, by decide +kernel⟩,
   ⟨(slotted 0 (stepsDone [1, 2, 3, 4, 6, 7, 8, 9] up)), by decide +kernel⟩⟩

end W21b

namespace W22

def lcAt (v : Nat) (s : State) : State := onSec (fun x => { x with fuses := { x.fuses with lc := v } }) s
def testing22 (full : Bool) (s : State) : State := onStart (fun x => { x with testing := some full }) s
def warm22 (s : State) : State :=
  forEach (List.range 24) (fun i => setRg .MON_VOLT_MV i 730) (forEach (List.range 48) (fun i => setRg .MON_TEMP_VALUE i 400) s)
def shutAt22 (lo : Nat) (s : State) : State := setRg .BIST_SHUT_FT_LO_FT_LO 0 lo s
def shutSt (n : Nat) (s : State) : State := setRg .BIST_SHUT_STATUS_STATE 0 n s
def list22 (s : State) : State :=
  onQue (fun x => { x with lists := [(1, { entries := [], next := 0, more := true, started := 0, open_ := 0, failed := [], ended := false })] }) s
def full22 (s : State) : State := setCtx 3 { QCtx.init with resv := 1 } s
def wrote22 (purpose : Nat) (test : Bool) (s : State) : State := onStart (fun x => { x with writing := some (1, Persist.empty, purpose, 0), shutTest := test }) s

/-- Every clause of Obligations.SelfTestsRunAndShutdownsEndSafe has states and operands that meet its premises. -/
theorem witness_SelfTestsRunAndShutdownsEndSafe :
    (∃ (p : Port) (s : State), s.live = true ∧ Reaches p 0xF00040 s ∧ (let may := s.holdsSem p.idx 3 = true ∧ (s.lc = 0 ∨ s.lc = 3) ∧ s.seq.seqs = [] ∧ s.start.testing = none ∧ firingAllowed s = true; ¬ may)) ∧
    (∃ (p : Port) (s : State), s.live = true ∧ Reaches p 0xF00040 s ∧ (let may := s.holdsSem p.idx 3 = true ∧ (s.lc = 0 ∨ s.lc = 3) ∧ s.seq.seqs = [] ∧ s.start.testing = none ∧ firingAllowed s = true; may)) ∧
    (∃ (full : Bool) (s : State), s.live = true ∧ s.start.testing = some full ∧ full = true) ∧
    (∃ (full : Bool) (s : State), s.live = true ∧ s.start.testing = some full ∧ full = false) ∧
    (∃ (s : State) (set : List Nat) (i : Nat), (i ∉ set ∨ bit s.start.skip (i - 1) = true)) ∧
    (∃ (s : State) (set : List Nat) (ref : Nat) (i : Nat), i ∈ set ∧ bit s.start.skip (i - 1) = false ∧ (i ≠ 5) ∧
      (windowReading s ≠ none ∨ bit ref (i - 1) = false)) ∧
    (∃ (s : State) (set : List Nat) (ref : Nat) (i : Nat), i ∈ set ∧ bit s.start.skip (i - 1) = false ∧ (i ≠ 5) ∧
      windowReading s = none ∧ bit ref (i - 1) = true) ∧
    (∃ (p : Port) (s : State), s.live = true ∧ Reaches p 0xF00038 s) ∧
    (∃ (s : State), shutOk s (shutFt s) = false) ∧
    (∃ (s : State), shutOk s (shutFt s) = true ∧ ((s.lc = 0 ∨ s.lc = 2 ∨ s.lc = 3))) ∧
    (∃ (s : State), s.live = true ∧ (s.rg .BIST_SHUT_STATUS_STATE 0 ≠ 1 ∨ s.ft < s.start.shutAt)) ∧
    (∃ (s : State) (k : _) (r : _), s.live = true ∧ s.rg .BIST_SHUT_STATUS_STATE 0 = 1 ∧ s.start.shutAt ≤ s.ft ∧
      (let u := endLists (setRg .BIST_SUP_PHASE 0 6 (setRg .BIST_SHUT_STATUS_STATE 0 2 s)); look k u.que.lists = some r)) ∧
    (∃ (q : Nat) (e : Nat × List Byte) (s : State), mayStartCmd s q e.2 none = false) ∧
    (∃ (q : Nat) (e : Nat × List Byte) (s : State), mayStartCmd s q e.2 none = true) ∧
    (∃ (e : RxEntry), refusedAtShutdown (H.mtype e.hdr) = false) ∧
    (∃ (k : Nat × Nat) (e : RxEntry) (s : State), refusedAtShutdown (H.mtype e.hdr) = true ∧ msgBegun s k e = false) ∧
    (∃ (s : State), s.live = true ∧ (s.rg .BIST_SHUT_STATUS_STATE 0 ≠ 2 ∨ (drained s = false ∧
      s.ft < s.start.shutAt + 1000000))) ∧
    (∃ (s : State), s.live = true ∧ s.rg .BIST_SHUT_STATUS_STATE 0 = 2 ∧ (drained s = true ∨ s.start.shutAt + 1000000 ≤ s.ft)) ∧
    (∃ (s : State), s.que.started = [] ∧ s.fox.coaches = [] ∧ s.prt.rx = []) ∧
    (∃ (a : Nat) (ft : Nat) (r : Persist) (s : State), s.live = true ∧ s.rg .BIST_SHUT_STATUS_STATE 0 = 3 ∧
      s.start.writing = some (a, r, 1, ft) ∧ s.start.shutTest = true) ∧
    (∃ (a : Nat) (ft : Nat) (r : Persist) (s : State), s.live = true ∧ s.rg .BIST_SHUT_STATUS_STATE 0 = 3 ∧
      s.start.writing = some (a, r, 1, ft) ∧ s.start.shutTest = false) ∧
    (∃ (a : Nat) (ft : Nat) (r : Persist) (s : State), s.live = true ∧ s.start.writing = some (a, r, 4, ft)) ∧
    (∃ (s : State), s.start.shutTest = true) :=
  ⟨⟨.a, up, by unfold Reaches; decide +kernel⟩,
   ⟨.a, (onSeq (fun x => { x with seqs := [] }) (sem 3 0 (lcAt 3 up))), by unfold Reaches; decide +kernel⟩,
   ⟨true, (testing22 true up), by decide +kernel⟩,
   ⟨false, (testing22 false up), by decide +kernel⟩,
   ⟨up, [], 1, by decide +kernel⟩,
   ⟨up, [1], 0, 1, by decide +kernel⟩,
   ⟨(warm22 up), [1], 255, 1, by decide +kernel⟩,
   ⟨.a, up, by unfold Reaches; decide +kernel⟩,
   ⟨(shutAt22 1048577 up), by decide +kernel⟩,
   ⟨(shutAt22 1048576 up), by decide +kernel⟩,
   ⟨(shutSt 0 up), by decide +kernel⟩,
   ⟨(list22 (shutSt 1 up)), 1, ({ entries := [], next := 0, more := true, started := 0, open_ := 0, failed := [(0, Status.aborted)], ended := true }),
     by decide +kernel⟩,
   ⟨3, (0, zeros 64), (full22 up), by decide +kernel⟩,
   ⟨3, (0, zeros 64), up, by decide +kernel⟩,
   ⟨(msg0 2 []), by decide +kernel⟩,
   ⟨(5, 6), (msg0 4 []), up, by decide +kernel⟩,
   ⟨up, by decide +kernel⟩,
   ⟨(shutSt 2 up), by decide +kernel⟩,
   ⟨up, by decide +kernel⟩,
   ⟨1, 0, Persist.empty, (wrote22 1 true (shutSt 3 up)), by decide +kernel⟩,
   ⟨1, 0, Persist.empty, (wrote22 1 false (shutSt 3 up)), by decide +kernel⟩,
   ⟨1, 0, Persist.empty, (wrote22 4 false (shutSt 4 up)), by decide +kernel⟩,
   ⟨(wrote22 1 true up), by decide +kernel⟩⟩

end W22

namespace W23

def expert6 (s : State) : State := setRg .CMP_EXPERT_UNLOCK_BLOCKS 0 64 s
def tile23 (t st : Nat) (s : State) : State := setRg .BEAR_T_STAT_STATE t st s
def auto23 (s : State) : State := setRg .BEAR_CTRL_AUTO_SPARE 0 1 (tile23 0 0 (setRg .BEAR_MAP_PHYS 0 0 s))
def sh0 (step : Nat) : Shadow := { tile := 0, step := step, port := some 0, since := 0, outcome := 1 }
def shaded (step : Nat) (s : State) : State := onFox (fun f => { f with shadows := [(32, sh0 step)] }) s

/-- Every clause of Obligations.SparesShadowAndTakeOver has states and operands that meet its premises. -/
theorem witness_SparesShadowAndTakeOver :
    (∃ (p : Port) (s : State), s.live = true ∧ Reaches p 0x680000 s ∧ s.expertOpen p.idx 6 = true ∧
      (let tile := s.rg .BEAR_SPARE_CTRL_TILE 0; (let t := 64 * (tile / 32) + 32 + s.rg .BEAR_SPARE_CTRL_SPARE 0; (s.tileSt t ≠ 1 ∨ shadowable s tile = false)))) ∧
    (∃ (p : Port) (s : State), s.live = true ∧ Reaches p 0x680000 s ∧ s.expertOpen p.idx 6 = true ∧
      (let tile := s.rg .BEAR_SPARE_CTRL_TILE 0; (let t := 64 * (tile / 32) + 32 + s.rg .BEAR_SPARE_CTRL_SPARE 0; s.tileSt t = 1 ∧
      shadowable s tile = true))) ∧
    (∃ (t : Nat) (x : Shadow) (s : State), s.shadow t = some x) ∧
    (∃ (t : Nat) (x : Shadow) (s : State) (p : _), s.shadow t = some x ∧ x.port = some p) ∧
    (∃ (t : Nat) (s : State), s.shadow t = none) ∧
    (∃ (k : Fin 68) (s : State), s.live = true ∧
      (let t := k.val / 34 * 64 + k.val % 34; (let tile := tileLogical s t; (let active := s.tileSt t = 0 ∧ tile < 64; (let n := tileCorrected s t; (¬ active ∨ n ≤ s.rg .BEAR_SPARE_TRIG_CORR 0)))))) ∧
    (∃ (k : Fin 68) (s : State), s.live = true ∧
      (let t := k.val / 34 * 64 + k.val % 34; (let tile := tileLogical s t; (let active := s.tileSt t = 0 ∧ tile < 64; (let n := tileCorrected s t; active ∧
      s.rg .BEAR_SPARE_TRIG_CORR 0 < n))))) ∧
    (∃ (k : Fin 68) (s : State), s.live = true ∧
      (let t := k.val / 34 * 64 + k.val % 34; (let tile := tileLogical s t; (let active := s.tileSt t = 0 ∧ tile < 64; ¬ active)))) ∧
    (∃ (t : Nat) (s : State), tileLogical s t < 64) ∧
    (∃ (t : Nat) (s : State) (l : _), l < 64 ∧ s.rg .BEAR_MAP_PHYS l = t) ∧
    (∃ (s : State), s.rg .BEAR_CTRL_AUTO_SPARE 0 = 0) ∧
    (∃ (tile : Nat) (s : State), (s.rg .BEAR_CTRL_AUTO_SPARE 0 ≠ 0) ∧ shadowable s tile = true ∧ shadowsOf s tile = [] ∧
      s.tileSt (64 * (tile / 32) + 32) = 1) ∧
    (∃ (tile : Nat) (s : State), (s.rg .BEAR_CTRL_AUTO_SPARE 0 ≠ 0) ∧ shadowable s tile = true ∧ shadowsOf s tile = [] ∧
      (s.tileSt (64 * (tile / 32) + 32) ≠ 1) ∧ s.tileSt (64 * (tile / 32) + 33) = 1) ∧
    (∃ (tile : Nat) (s : State), (s.rg .BEAR_CTRL_AUTO_SPARE 0 ≠ 0) ∧ shadowable s tile = true ∧ shadowsOf s tile = [] ∧
      (s.tileSt (64 * (tile / 32) + 32) ≠ 1) ∧ (s.tileSt (64 * (tile / 32) + 33) ≠ 1)) ∧
    (∃ (tile : Nat) (s : State), s.owner (.tile tile) = none) ∧
    (∃ (k : Fin 4) (x : Shadow) (s : State), s.live = true ∧ s.shadow (sparePhys k.val) = some x ∧ (x.step ≠ 1) ∧
      (x.step ≠ 6)) ∧
    (∃ (k : Fin 4) (x : Shadow) (s : State), s.live = true ∧ s.shadow (sparePhys k.val) = some x ∧ (x.step = 1 ∨ x.step = 6)) ∧
    (∃ (k : Fin 4) (x : Shadow) (s : State), s.live = true ∧ s.shadow (sparePhys k.val) = some x ∧ x.step = 1) ∧
    (∃ (k : Fin 4) (x : Shadow) (s : State), s.live = true ∧ s.shadow (sparePhys k.val) = some x ∧ x.step = 6) ∧
    (∃ (t : Nat) (x : Shadow) (s : State) (p : _), s.shadow t = some x ∧ x.port = some p) ∧
    (∃ (k : Fin 4) (x : Shadow) (s : State), s.live = true ∧ s.shadow (sparePhys k.val) = some x ∧
      (x.step ≠ 5 ∨ (s.owner (.tile x.tile)).any (tilesBusy s) = true)) ∧
    (∃ (k : Fin 4) (x : Shadow) (s : State), s.live = true ∧ s.shadow (sparePhys k.val) = some x ∧
      (let t := sparePhys k.val; (let old := s.rg .BEAR_MAP_PHYS x.tile; x.step = 5 ∧
      (s.owner (.tile x.tile)).any (tilesBusy s) = false ∧ (old ≠ t)))) ∧
    (∃ (c : Coach) (x : Shadow), x.step = 4 ∧ x.since < c.depart) ∧
    (∃ (c : Coach) (x : Shadow), (x.step ≠ 4 ∨ c.depart ≤ x.since)) ∧
    (∃ (c : Coach) (t : Nat) (x : Shadow) (s : State), (t, x) ∈ s.fox.shadows ∧ (x.step = 5 ∨ x.step = 6) ∧ x.tile ∈ c.own ∧
      c.begun = false) :=
  ⟨⟨.a, (expert6 (tile23 32 0 up)), by unfold Reaches; decide +kernel⟩,
   ⟨.a, (expert6 (tile23 32 1 (auto23 up))), by unfold Reaches; decide +kernel⟩,
   ⟨32, (sh0 4), (shaded 4 up), by decide +kernel⟩,
   ⟨32, (sh0 4), (shaded 4 up), 0, by decide +kernel⟩,
   ⟨33, (shaded 4 up), by decide +kernel⟩,
   ⟨67, (setRg .BEAR_SPARE_TRIG_CORR 0 4 up), by decide +kernel⟩,
   ⟨0, (setRg .BEAR_SPARE_TRIG_CORR 0 0 (auto23 up)), by decide +kernel⟩,
   ⟨67, (setRg .BEAR_SPARE_TRIG_CORR 0 4 up), by decide +kernel⟩,
   ⟨0, (setRg .BEAR_MAP_PHYS 0 0 up), by decide +kernel⟩,
   ⟨0, (setRg .BEAR_MAP_PHYS 0 0 up), 0, by decide +kernel⟩,
   ⟨(setRg .BEAR_CTRL_AUTO_SPARE 0 0 up), by decide +kernel⟩,
   ⟨0, (tile23 32 1 (auto23 up)), by decide +kernel⟩,
   ⟨0, (tile23 33 1 (tile23 32 4 (auto23 up))), by decide +kernel⟩,
   ⟨0, (tile23 33 4 (tile23 32 4 (auto23 up))), by decide +kernel⟩,
   ⟨63, up, by decide +kernel⟩,
   ⟨0, (sh0 4), (shaded 4 up), by decide +kernel⟩,
   ⟨0, (sh0 6), (shaded 6 up), by decide +kernel⟩,
   ⟨0, (sh0 1), (shaded 1 up), by decide +kernel⟩,
   ⟨0, (sh0 6), (shaded 6 up), by decide +kernel⟩,
   ⟨32, (sh0 4), (shaded 4 up), 0, by decide +kernel⟩,
   ⟨0, (sh0 4), (shaded 4 up), by decide +kernel⟩,
   ⟨0, (sh0 5), (shaded 5 (auto23 up)), by decide +kernel⟩,
   ⟨({ coach0 with depart := 1 }), (sh0 4), by decide +kernel⟩,
   ⟨coach0, (sh0 5), by decide +kernel⟩,
   ⟨coach0, 32, (sh0 5), (shaded 5 up), by decide +kernel⟩⟩

end W23

namespace W24

/-- Every clause of Obligations.ManagementPinsAnswer has states and operands that meet its premises. -/
theorem witness_ManagementPinsAnswer :
    (∃ (s : State), s.powered = true) ∧
    (∃ (off : BitVec 24) (vs : List Word) (s : State), s.powered = true ∧
      (off.toNat + 4 * vs.length ≤ 0xF00030 ∨ 0xF00038 < off.toNat)) ∧
    (∃ (s : State), s.powered = true) ∧
    (∃ (off : Nat) (s : State), (i3cReads off = false ∨ s.answers off = false)) ∧
    (∃ (off : Nat) (s : State), i3cReads off = true ∧ s.answers off = true) ∧
    (∃ (off : Nat), 0xD00000 ≤ off ∧ off < 0x1000000) ∧
    (∃ (off : Nat), 0x100000 ≤ off ∧ off < 0xB00000) ∧
    (∃ (s : State), s.powered = true) ∧
    (∃ (s : State), s.start.powerGood = false) ∧
    (∃ (s : State), s.start.powerGood = true) ∧
    (∃ (s : State), ((s.lc = 0 ∨ s.lc = 3)) ∧ s.start.inReset = true) ∧
    (∃ (s : State), ((s.lc ≠ 0 ∧ s.lc ≠ 3) ∨ s.start.inReset = false)) :=
  ⟨⟨up, by decide +kernel⟩,
   ⟨0xD00000, [0], up, by decide +kernel⟩,
   ⟨up, by decide +kernel⟩,
   ⟨0x100000, up, by decide +kernel⟩,
   ⟨0, up, by decide +kernel⟩,
   ⟨0xD00000, by decide +kernel⟩,
   ⟨0x100000, by decide +kernel⟩,
   ⟨up, by decide +kernel⟩,
   ⟨(onStart (fun x => { x with powerGood := false }) up), by decide +kernel⟩,
   ⟨up, by decide +kernel⟩,
   ⟨(onStart (fun x => { x with inReset := true }) (onSec (fun x => { x with fuses := { x.fuses with lc := 3 } }) up)),
     by decide +kernel⟩,
   ⟨up, by decide +kernel⟩⟩

end W24

namespace W25

def none25 : Reg × Nat := (⟨0, [], .plain, false, []⟩, 0)
def ctrl25 : Reg × Nat := (regAt 0x200000).getD none25

/-- Every clause of Obligations.RefusedRegisterWritesActOnNothing has states and operands that meet its premises. -/
theorem witness_RefusedRegisterWritesActOnNothing :
    (∃ (p : Port) (off : Nat) (v : Word) (r : Reg) (e : Nat) (s : State), offsetOk off = true ∧ Reaches p off s ∧
      windowUsable p.idx off s = true ∧ regAt off = some (r, e) ∧ writeBarred p.idx off s = none ∧
      ownWrite p.idx e off v.toNat = none ∧ (2 ≤ countOf (fun f => bit v.toNat f.lo) r.actions) ∧ r.combines = false) ∧
    (∃ (p : Port) (v : Word) (s : State), Reaches p 0x200000 s ∧
      (s.holdsSem p.idx 0 = false ∨ 2 ≤ b2n (bit v.toNat 0) + b2n (bit v.toNat 1) + b2n (bit v.toNat 2) + b2n (bit v.toNat 3))) ∧
    (∃ (p : Port) (v : Word) (s : State), Reaches p 0x300044 s ∧
      2 ≤ b2n (bit v.toNat 0) + b2n (bit v.toNat 1) + b2n (bit v.toNat 2)) ∧
    (∃ (p : Port) (s : State), s.live = true ∧ Reaches p 0xC80000 s ∧ s.expertOpen p.idx 12 = true) ∧
    (∃ (p : Port) (off : Nat) (s : State), Reaches p off s ∧ 0x300020 ≤ off ∧ off < 0x300044 ∧ off % 4 = 0 ∧
      ((s.ctx (s.rg .QUE_SEL_QUEUE p.idx)).st ≠ 0)) ∧
    (∃ (res : Nat) (code : Nat) (n : RN) (s : State), (res, code, n) ∈ enableBits ∧ (s.ownerCode res ≠ code)) :=
  ⟨⟨.a, 0x200000, 3, ctrl25.1, ctrl25.2, (sem 0 0 up), rfl, by unfold Reaches; decide +kernel, rfl,
     some_getD none25 _ (by decide +kernel), rfl, rfl, by decide +kernel, by decide +kernel⟩,
   ⟨.a, 12, up, by unfold Reaches; decide +kernel⟩,
   ⟨.a, 6, up, by unfold Reaches; decide +kernel⟩,
   ⟨.a, (setRg .CMP_EXPERT_UNLOCK_BLOCKS 0 4096 up), by unfold Reaches; decide +kernel⟩,
   ⟨.a, 0x300040, (setCtx 0 { QCtx.init with st := 1 } up), by unfold Reaches; decide +kernel⟩,
   ⟨4, 2, .OWL_CTRL_SCRUB_W, up, by decide +kernel⟩⟩

end W25

end Sys2Proof.Tests
end

section
/-! PROOF. The table of latched high words (R8) is read by the latched read alone: no field of a register shows it, so
that a change of it leaves the word at every offset. -/

namespace Sys2Proof.Machine

open Sys2Proof

/-- The state with another table of latched high words. -/
def withHi (h : List ((Nat × Nat) × Nat)) (s : State) : State := { s with hi := h }

section
variable (h : List ((Nat × Nat) × Nat)) (s : State)

@[simp] theorem withHi_hi : (withHi h s).hi = h := rfl
@[simp] theorem withHi_sent : (withHi h s).sent = s.sent := rfl
@[simp] theorem withHi_mem : (withHi h s).mem = s.mem := rfl
@[simp] theorem withHi_rg (n : RN) (i : Nat) : (withHi h s).rg n i = s.rg n i := rfl
@[simp] theorem withHi_cellIndex (p e : Nat) (r : Reg) (base : Nat) :
    cellIndex p e r base (withHi h s) = cellIndex p e r base s := rfl

/-! ### QUEUED of a table

A resume's part of it runs through the sealed records of the resume's image, a recursion on the records and on the spans, so
that it needs an induction; every other reading is the same term in both states. -/

theorem openRecord_withHi : openRecord (withHi h s) = openRecord s := rfl

theorem openRun_withHi (q kind cmdId : Nat) (idx : Nat → Nat → Nat) (fuel : Nat) (o : Opened) :
    openRun (withHi h s) q kind cmdId idx fuel o = openRun s q kind cmdId idx fuel o := by
  induction fuel generalizing o with
  | zero => rfl
  | succ n ih => simp only [openRun, openRecord_withHi, ih]

theorem openBuf_withHi : openBuf (withHi h s) = openBuf s := by
  funext q kind cmdId idx bs
  exact openRun_withHi ..

theorem imageSealed_withHi (c : Cmd) : imageSealed (withHi h s) c = imageSealed s c := rfl

theorem takeSpan_withHi (c : Cmd) (sp : Nat × Nat) (d : List Byte) :
    takeSpan (withHi h s) c sp d = takeSpan s c sp d := by
  simp only [takeSpan, imageSealed_withHi, openBuf_withHi]

theorem takeSpans_withHi (c : Cmd) (len : Nat) (sps : List (Nat × Nat)) (at_ : Nat) :
    takeSpans (withHi h s) c len sps at_ = takeSpans s c len sps at_ := by
  induction sps generalizing at_ with
  | nil => rfl
  | cons sp r ih => simp only [takeSpans, imageSealed_withHi, takeSpan_withHi, ih]

theorem arrayOf_withHi (c : Cmd) : arrayOf (withHi h s) c = arrayOf s c := by
  simp only [arrayOf, headOf_, fetchedHead, fetchedArray, spansLen, takeSpans_withHi, imageSealed_withHi]

theorem resumeBlocks_withHi (id : Nat) : resumeBlocks (withHi h s) id = resumeBlocks s id := by
  simp only [resumeBlocks, arrayOf_withHi]
  rfl

theorem queuedNow_withHi : queuedNow (withHi h s) = queuedNow s := by
  funext t
  have hwait : waitingBlocks (withHi h s) = waitingBlocks s := rfl
  have hcopy : copyBlocks (withHi h s) = copyBlocks s := rfl
  have hcoach : coachBlocks (withHi h s) = coachBlocks s := rfl
  have hpark : parkBlocks (withHi h s) = parkBlocks s := rfl
  simp only [queuedNow, resumeBlocks_withHi, hwait, hcopy, hcoach, hpark]

/-! ### What a field shows, and the word of a register -/

theorem fieldValue1_withHi (p : Nat) (n : RN) (i : Nat) : fieldValue1 p (withHi h s) n i = fieldValue1 p s n i := by
  unfold fieldValue1
  rw [queuedNow_withHi]
  rfl

theorem shown_withHi (p blk : Nat) (n : RN) (i : Nat) : shown p (withHi h s) blk n i = shown p s blk n i := by
  have h0 : fieldValue0 p (withHi h s) n i = fieldValue0 p s n i := rfl
  have h2 : fieldValue2 p (withHi h s) n i = fieldValue2 p s n i := rfl
  have h3 : fieldValue3 p (withHi h s) n i = fieldValue3 p s n i := rfl
  simp only [shown, h0, fieldValue1_withHi, h2, h3]

theorem fieldRead_withHi (p e : Nat) (r : Reg) : fieldRead p e r (withHi h s) = fieldRead p e r s := by
  funext f
  simp only [fieldRead, fieldHolds, shown_withHi, withHi_rg, withHi_cellIndex]

@[simp] theorem regValue_withHi (p off : Nat) : regValue p off (withHi h s) = regValue p off s := by
  simp only [regValue, fieldRead_withHi]

end

end Sys2Proof.Machine
end

section
/-! PROOF. What a register read by a port does: the value it sends, the high word it latches (R8), the RC fields it clears
(R12), and the silence of a locked expert window (R15). -/

namespace Sys2Proof.Machine

open Sys2Proof

/-! ### The commands as accesses -/

theorem exec_latchedRead (p : Port) (off : Nat) (s : State) :
    exec (.latchedRead p off) s = .next (readAccess p.idx off s) := rfl

theorem exec_readClear (p : Port) (off : Nat) (s : State) :
    exec (.readClear p off) s = .next (readAccess p.idx off s) := rfl

theorem exec_expertRead (p : Port) (off : Nat) (s : State) :
    exec (.expertWindowAccess p off none) s = .next (readAccess p.idx off s) := rfl

theorem exec_expertWrite (p : Port) (off : Nat) (w : Word) (s : State) :
    exec (.expertWindowAccess p off (some w)) s = .next (writeAccess p.idx off w.toNat s) := rfl

/-! ### What a read leaves in the fields -/

/-- A field after a read of its register: one of access type RC is reset, any other keeps its value. -/
def fieldAfterRead (p e : Nat) (r : Reg) (s : State) (f : Fld) (t : State) : State :=
  setRg f.cell (cellIndex p e r f.base s)
    (f.acc.afterRead (RN.reset f.cell) (t.rg f.cell (cellIndex p e r f.base s))) t

/-- The RC fields of a register. -/
def Reg.rcFields (r : Reg) : List Fld := r.fields.filter (fun f => f.acc == .rc)

theorem afterRead_none {p off : Nat} {s : State} (h : regAt off = none) : afterRead p off s = s := by
  simp only [afterRead, h]

theorem afterRead_some {p off e : Nat} {r : Reg} {s : State} (h : regAt off = some (r, e)) :
    afterRead p off s = forEach r.rcFields (fieldAfterRead p e r s) s := by
  simp only [afterRead, h]
  rfl

/-- What no write of a register cell changes, a read does not change. -/
theorem afterRead_eq_of_setRg {α : Type} (g : State → α) (hg : ∀ n i v t, g (setRg n i v t) = g t) (p off : Nat)
    (s : State) : g (afterRead p off s) = g s := by
  cases h : regAt off with
  | none => rw [afterRead_none h]
  | some x =>
    rw [afterRead_some h]
    exact forEach_keeps (P := fun t => g t = g s) _ _ s rfl (fun f t ht => (hg ..).trans ht)

@[simp] theorem afterRead_hi (p off : Nat) (s : State) : (afterRead p off s).hi = s.hi :=
  afterRead_eq_of_setRg State.hi setRg_hi p off s

@[simp] theorem afterRead_sent (p off : Nat) (s : State) : (afterRead p off s).sent = s.sent :=
  afterRead_eq_of_setRg State.sent setRg_sent p off s

@[simp] theorem afterRead_mem (p off : Nat) (s : State) : (afterRead p off s).mem = s.mem :=
  afterRead_eq_of_setRg State.mem setRg_mem p off s

section
variable (p e : Nat) (r : Reg) (s : State)

theorem fieldAfterRead_rg_of_rc {f : Fld} (hf : f.acc = .rc) (t : State) :
    (fieldAfterRead p e r s f t).rg f.cell (cellIndex p e r f.base s) = RN.reset f.cell := by
  simp only [fieldAfterRead, setRg_rg_self, Acc.afterRead, hf, if_true]
  exact Nat.mod_eq_of_lt (reset_fits f.cell)

/-- A cell at its Reset value stays there, whichever field the read takes. -/
theorem fieldAfterRead_keeps_reset {n : RN} {i : Nat} (f : Fld) {t : State} (h : t.rg n i = RN.reset n) :
    (fieldAfterRead p e r s f t).rg n i = RN.reset n := by
  by_cases hc : (n, i) = (f.cell, cellIndex p e r f.base s)
  · obtain ⟨rfl, rfl⟩ := Prod.mk.inj hc
    simp only [fieldAfterRead, setRg_rg_self, Acc.afterRead, h, ite_self]
    exact Nat.mod_eq_of_lt (reset_fits f.cell)
  · exact (setRg_rg_ne _ _ hc).trans h

theorem forEach_fieldAfterRead_rg_of_mem {l : List Fld} {f : Fld} (hf : f ∈ l) (hrc : f.acc = .rc) (t : State) :
    (forEach l (fieldAfterRead p e r s) t).rg f.cell (cellIndex p e r f.base s) = RN.reset f.cell := by
  induction l generalizing t with
  | nil => cases hf
  | cons x l ih =>
    rw [forEach_cons]
    rcases List.mem_cons.mp hf with rfl | hl
    · exact forEach_keeps (P := fun u : State => u.rg f.cell (cellIndex p e r f.base s) = RN.reset f.cell) l _ _
        (fieldAfterRead_rg_of_rc p e r s hrc t)
        (fun y u hu => fieldAfterRead_keeps_reset p e r s y hu)
    · exact ih hl _

theorem forEach_fieldAfterRead_rg_of_not_mem {l : List Fld} {n : RN} (hn : n ∉ l.map Fld.cell) (i : Nat) (t : State) :
    (forEach l (fieldAfterRead p e r s) t).rg n i = t.rg n i := by
  induction l generalizing t with
  | nil => rfl
  | cons x l ih =>
    obtain ⟨hx, hl⟩ := List.ne_and_not_mem_of_not_mem_cons hn
    rw [forEach_cons, ih hl]
    exact setRg_rg_ne _ _ (fun hc => hx (congrArg Prod.fst hc))

end

/-- A read leaves every RC field of its register at its Reset value. -/
theorem afterRead_rg_of_rc {p off e : Nat} {r : Reg} {f : Fld} (s : State) (h : regAt off = some (r, e))
    (hf : f ∈ r.fields) (hrc : f.acc = .rc) :
    (afterRead p off s).rg f.cell (cellIndex p e r f.base s) = RN.reset f.cell := by
  rw [afterRead_some h]
  exact forEach_fieldAfterRead_rg_of_mem p e r s (List.mem_filter.mpr ⟨hf, by simp [hrc]⟩) hrc s

/-- A read leaves the cells of every other field. -/
theorem sameRegs_afterRead {p off e : Nat} {r : Reg} (s : State) (h : regAt off = some (r, e)) :
    SameRegs (r.rcFields.map Fld.cell) s (afterRead p off s) := by
  intro n i hn
  rw [afterRead_some h]
  exact forEach_fieldAfterRead_rg_of_not_mem p e r s hn i s

/-! ### The latch -/

/-- The table of latched high words after a read: the read uses up what was latched at its offset, and one of a low word
latches the high word of that moment. -/
def hiAfterRead (p off : Nat) (s : State) : List ((Nat × Nat) × Nat) :=
  when (isLow off) (put (p, off + 4) (regValue p (off + 4) s)) (del (p, off) s.hi)

/-- What a read gives its port. -/
def valueRead (p off : Nat) (s : State) : Nat := (look (p, off) s.hi).getD (regValue p off s)

theorem valueRead_of_latched {p off v : Nat} {s : State} (h : look (p, off) s.hi = some v) : valueRead p off s = v := by
  simp [valueRead, h]

theorem valueRead_of_not_latched {p off : Nat} {s : State} (h : look (p, off) s.hi = none) :
    valueRead p off s = regValue p off s := by
  simp [valueRead, h]

theorem look_hiAfterRead_high {p off : Nat} (s : State) (h : isLow off = true) :
    look (p, off + 4) (hiAfterRead p off s) = some (regValue p (off + 4) s) := by
  simp [hiAfterRead, h]

theorem look_hiAfterRead_self (p off : Nat) (s : State) : look (p, off) (hiAfterRead p off s) = none := by
  cases h : isLow off with
  | false => simp [hiAfterRead, h]
  | true => simp [hiAfterRead, h, look_put_ne]

theorem look_hiAfterRead_ne {p off : Nat} {k : Nat × Nat} (s : State) (hself : k ≠ (p, off))
    (hhigh : k ≠ (p, off + 4)) : look k (hiAfterRead p off s) = look k s.hi := by
  cases h : isLow off with
  | false => simp [hiAfterRead, h, look_del_ne _ hself]
  | true => simp [hiAfterRead, h, look_put_ne _ _ hhigh, look_del_ne _ hself]

/-- A read at an offset that is no semaphore, as one equation. -/
theorem regRead_of_not_sem {p off : Nat} (s : State) (h : semAt off = none) :
    regRead p off s = (valueRead p off s, afterRead p off (withHi (hiAfterRead p off s) s)) := by
  have hhigh : regValue p (off + 4) { s with hi := del (p, off) s.hi } = regValue p (off + 4) s :=
    regValue_withHi (del (p, off) s.hi) s p (off + 4)
  cases hl : isLow off with
  | false => simp [regRead, hiAfterRead, valueRead, withHi, h, hl]
  | true => simp [regRead, hiAfterRead, valueRead, withHi, h, hl, hhigh]

/-! ### A read access as a whole -/

theorem readAccess_of_usable {p : Port} {off : Nat} {s : State} (hoff : offsetOk off = true) (hr : Reaches p off s)
    (hw : windowUsable p.idx off s = true) (hsem : semAt off = none) :
    readAccess p.idx off s = emit (.value p.idx off (valueRead p.idx off s))
      (afterRead p.idx off (withHi (hiAfterRead p.idx off s) s)) := by
  obtain ⟨hpow, hup, hans⟩ := hr
  simp only [readAccess, hoff, if_true, access_of_reaches _ _ _ _ hpow hup hans, portRead, hw, regRead_of_not_sem s hsem]

theorem readAccess_of_locked {p : Port} {off : Nat} {s : State} (hoff : offsetOk off = true) (hr : Reaches p off s)
    (hw : windowUsable p.idx off s = false) :
    readAccess p.idx off s = emit (.value p.idx off 0) (windowRefused p.idx off s) := by
  obtain ⟨hpow, hup, hans⟩ := hr
  simp [readAccess, hoff, access_of_reaches _ _ _ _ hpow hup hans, portRead, hw]

theorem writeAccess_of_locked {p : Port} {off : Nat} {s : State} (v : Nat) (hoff : offsetOk off = true)
    (hr : Reaches p off s) (hw : windowUsable p.idx off s = false) :
    writeAccess p.idx off v s = windowRefused p.idx off s := by
  obtain ⟨hpow, hup, hans⟩ := hr
  simp [writeAccess, hoff, access_of_reaches _ _ _ _ hpow hup hans, portWrite, hw]

/-! ### Windows and semaphores -/

theorem windowUsable_of_basic {p off : Nat} {s : State} (h : inExpert off = false) : windowUsable p off s = true := by
  simp [windowUsable, h]

theorem windowUsable_of_expert {p off : Nat} {s : State} (h : inExpert off = true) :
    windowUsable p off s = s.expertOpen p (off / 1048576) := by
  simp [windowUsable, h]

theorem isLow_sem : ∀ n : Fin 64, isLow (0x100 + 4 * n.val) = false := by decide

/-- A low word is no semaphore, so that a read of it takes none. -/
theorem semAt_of_isLow {off : Nat} (h : isLow off = true) : semAt off = none := by
  refine if_neg (fun ⟨hlo, hhi, hdvd⟩ => ?_)
  have hoff : off = 0x100 + 4 * ((off - 0x100) / 4) := by omega
  have hfalse := isLow_sem ⟨(off - 0x100) / 4, by omega⟩
  rw [← hoff, h] at hfalse
  exact Bool.noConfusion hfalse

end Sys2Proof.Machine
end

section
/-! PROOF. The statements about register access of spec/00_scope.md: latched high words, read-clear fields and locked expert
windows. -/

namespace Sys2Proof.Proofs

open Sys2Proof Sys2Proof.Machine

/-- Settles O8: both reads send valueRead and leave the latch table hiAfterRead. The word latched is that of the moment of the
read, since no register's word depends on the latch table. -/
theorem latchedReadLatchesTheHighWord : Obligations.LatchedReadLatchesTheHighWord := by
  unfold Obligations.LatchedReadLatchesTheHighWord
  refine ⟨fun p off s hoff hr hbasic hlow hnone => ?_, fun p off v s hoff hr hbasic hsem hsome => ?_⟩
  · refine ⟨_, exec_latchedRead p off s, ?_⟩
    rw [readAccess_of_usable hoff hr (windowUsable_of_basic hbasic) (semAt_of_isLow hlow), valueRead_of_not_latched hnone]
    refine ⟨by simp, by simp [look_hiAfterRead_high s hlow], fun k hk => ?_, by simp⟩
    by_cases hself : k = (p.idx, off)
    · subst hself
      simp [look_hiAfterRead_self, hnone]
    · simp [look_hiAfterRead_ne s hself hk]
  · refine ⟨_, exec_latchedRead p off s, ?_⟩
    rw [readAccess_of_usable hoff hr (windowUsable_of_basic hbasic) hsem, valueRead_of_latched hsome]
    exact ⟨by simp, by simp [look_hiAfterRead_self], by simp⟩

/-- Settles O9: a read resets the cells of its register's RC fields one after the other and writes no cell besides; the
second read is a read of the state that the first one left. -/
theorem readClearReturnsAndClears : Obligations.ReadClearReturnsAndClears := by
  unfold Obligations.ReadClearReturnsAndClears
  refine ⟨fun p off r e s hoff hr hw hsem hnone hreg => ?_,
    fun p q off r e s t hoff _ hr _ hw hsem hnone hreg _ => ?_⟩
  · refine ⟨_, exec_readClear p off s, ?_⟩
    rw [readAccess_of_usable hoff hr hw hsem, valueRead_of_not_latched hnone]
    refine ⟨by simp, fun f hf hrc => ?_, ?_, by simp⟩
    · exact afterRead_rg_of_rc (withHi (hiAfterRead p.idx off s) s) hreg hf hrc
    · exact sameRegs_afterRead (withHi (hiAfterRead p.idx off s) s) hreg
  · refine ⟨_, exec_readClear q off t, ?_⟩
    rw [readAccess_of_usable hoff hr hw hsem, valueRead_of_not_latched hnone]
    simp

/-- Settles O10: a locked window makes of an access its record alone; through an open one a read is that of a basic
register. -/
theorem lockedExpertWindowIsSilent : Obligations.LockedExpertWindowIsSilent := by
  unfold Obligations.LockedExpertWindowIsSilent
  refine ⟨fun p off s hoff hr hexp hlock => ?_, fun p off w s hoff hr hexp hlock => ?_,
    fun p off s hoff hr hexp hopen hsem hnone => ?_⟩
  · rw [exec_expertRead, readAccess_of_locked hoff hr ((windowUsable_of_expert hexp).trans hlock), windowRefused]
  · rw [exec_expertWrite, writeAccess_of_locked _ hoff hr ((windowUsable_of_expert hexp).trans hlock), windowRefused]
  · refine ⟨_, exec_expertRead p off s, ?_⟩
    rw [readAccess_of_usable hoff hr ((windowUsable_of_expert hexp).trans hopen) hsem, valueRead_of_not_latched hnone]
    simp

end Sys2Proof.Proofs
end

section
/-! PROOF. What a register write by a port does: the write that goes through its usable window, the one that is barred for
want of a semaphore (R73), and the one with a rule of its own. -/

namespace Sys2Proof.Machine

open Sys2Proof

theorem exec_registerWrite (p : Port) (off : Nat) (v : Word) (s : State) :
    exec (.registerWrite p off v) s = .next (writeAccess p.idx off v.toNat s) := rfl

theorem writeAccess_of_usable {p : Port} {off : Nat} {s : State} (v : Nat) (hoff : offsetOk off = true)
    (hr : Reaches p off s) (hw : windowUsable p.idx off s = true) :
    writeAccess p.idx off v s = regWrite p.idx off v s := by
  obtain ⟨hpow, hup, hans⟩ := hr
  simp only [writeAccess, hoff, if_true, access_of_reaches _ _ _ _ hpow hup hans, portWrite, hw]

/-- A write that is barred without a record changes nothing, whether or not a table defines its offset. -/
theorem regWrite_of_barred {p off : Nat} {s : State} (v : Nat) (h : writeBarred p off s = some s) :
    regWrite p off v s = s := by
  unfold regWrite
  cases regAt off with
  | none => rfl
  | some x => simp only [h]

/-- A write of a register with a rule of its own follows that rule. -/
theorem regWrite_of_ownWrite {p off v : Nat} {s : State} {f : State → State} (hreg : (regAt off).isSome = true)
    (hbar : writeBarred p off s = none) (hown : ∀ e, ownWrite p e off v = some f) : regWrite p off v s = f s := by
  obtain ⟨⟨r, e⟩, hreg⟩ := Option.isSome_iff_exists.mp hreg
  simp only [regWrite, hreg, hbar, hown]

/-! ### The composition registers that need a semaphore -/

/-- CMP_SRC and CMP_SWITCH_FT need semaphore 0 (R73). -/
theorem writeBarred_cmpSource {p off : Nat} {s : State} (hlo : 0x200008 ≤ off) (hhi : off < 0x200020)
    (hsem : s.holdsSem p 0 = false) : writeBarred p off s = some s := by
  rw [writeBarred, if_neg (fun h => by omega), if_pos ⟨hlo, hhi, hsem⟩]

/-- CMP_EXPERT_UNLOCK is barred by none of the rules for other registers: its own rule judges the semaphore. -/
theorem writeBarred_cmpExpertUnlock (p : Nat) (s : State) : writeBarred p 0x200074 s = none := by
  simp [writeBarred]

theorem regAt_cmpExpertUnlock : (regAt 0x200074).isSome = true := by decide

theorem ownWrite_cmpExpertUnlock (p e v : Nat) : ownWrite p e 0x200074 v = some (expertUnlock p (v % 65536)) := by
  simp [ownWrite]

theorem regWrite_cmpExpertUnlock (p v : Nat) (s : State) :
    regWrite p 0x200074 v s = expertUnlock p (v % 65536) s :=
  regWrite_of_ownWrite regAt_cmpExpertUnlock (writeBarred_cmpExpertUnlock p s) (fun e => ownWrite_cmpExpertUnlock p e v)

/-! ### The command of a write of CMP_EXPERT_UNLOCK -/

theorem exec_expertUnlock {p : Port} {s : State} (b : BitVec 16) (hlive : s.live = true)
    (hr : Reaches p 0x200074 s) : exec (.expertUnlock p b) s = .next (expertUnlock p.idx b.toNat s) := by
  obtain ⟨hpow, hup, hans⟩ := hr
  have haccess : access p.idx 0x200074 (expertUnlock p.idx b.toNat) s = expertUnlock p.idx b.toNat s :=
    access_of_reaches _ _ _ _ hpow hup hans
  calc exec (.expertUnlock p b) s
      = .next (live (access p.idx 0x200074 (expertUnlock p.idx b.toNat)) s) := rfl
    _ = .next (expertUnlock p.idx b.toNat s) := by rw [live_of_live _ _ hlive, haccess]

/-- Without semaphore 4 a request to unlock leaves its record alone (R70, R73). -/
theorem expertUnlock_without_semaphore {p : Nat} {s : State} (blocks : Nat) (h : s.holdsSem p 4 = false) :
    expertUnlock p blocks s = raise 0x020B none [] s := if_pos h

/-! ### An event in the words of the claims -/

theorem sameRegs_raise (code : Nat) (car : Option Nat) (items : List Item) (s : State) :
    SameRegs evrCells s (raise code car items s) := by
  intro n i hn
  obtain ⟨hlost, hsupp⟩ : n ≠ .EVR_LOST_COUNT ∧ n ≠ .EVR_SUPPRESSED_COUNT := by simpa [evrCells] using hn
  exact raise_rg code car items s n i hlost hsupp

theorem sameMem_raise (code : Nat) (car : Option Nat) (items : List Item) (s : State) :
    SameMem s (raise code car items s) := fun a => by rw [raise_mem]

end Sys2Proof.Machine
end

section
/-! PROOF. The statements about the composition registers of spec/02_composition.md: writes without the semaphore that a
register needs. -/

namespace Sys2Proof.Proofs

open Sys2Proof Sys2Proof.Machine

/-- Settles O13: a write of CMP_SRC or CMP_SWITCH_FT is barred before any field is reached (0x200014, which no table defines,
among them), and a request to unlock leaves the record of event 0x020B alone, whether a write or the command brings it. -/
theorem writesWithoutTheSemaphoreAreIgnored : Obligations.WritesWithoutTheSemaphoreAreIgnored := by
  unfold Obligations.WritesWithoutTheSemaphoreAreIgnored
  refine ⟨fun p k v s hr hsem => ?_, fun p v s hr hsem => ?_, fun p b s hlive hr hsem => ?_⟩
  · have hk : k.val < 6 := k.isLt
    have hoff : offsetOk (0x200008 + 4 * k.val) = true := decide_eq_true (by omega)
    have hbasic : inExpert (0x200008 + 4 * k.val) = false := decide_eq_false (by omega)
    have hbar : writeBarred p.idx (0x200008 + 4 * k.val) s = some s :=
      writeBarred_cmpSource (by omega) (by omega) hsem
    rw [exec_registerWrite, writeAccess_of_usable _ hoff hr (windowUsable_of_basic hbasic), regWrite_of_barred _ hbar]
  · rw [exec_registerWrite, writeAccess_of_usable _ rfl hr (windowUsable_of_basic rfl), regWrite_cmpExpertUnlock,
      expertUnlock_without_semaphore _ hsem]
  · refine ⟨raise 0x020B none [] s, ?_, raise_comp .., sameRegs_raise _ _ _ s, sameMem_raise _ _ _ s⟩
    rw [exec_expertUnlock b hlive hr, expertUnlock_without_semaphore _ hsem]

end Sys2Proof.Proofs
end

section
/-! PROOF. The semaphore operations of spec/04_onzon_queues.md: what a read of GLB_SEMn takes and returns, and what a
release and the end of a lease free. -/

namespace Sys2Proof.Machine

open Sys2Proof

/-! ### The commands as operations -/

theorem exec_semRead {p : Port} {n : Fin 64} {s : State} (hr : Reaches p (semOffset n.val) s) :
    exec (.semRead p n) s = .next (semRead p.idx n.val s) := by
  obtain ⟨hpow, hup, hans⟩ := hr
  exact congrArg Host.Outcome.next (access_of_reaches _ _ (semRead p.idx n.val) s hpow hup hans)

theorem exec_semRelease {p : Port} {s : State} (n : Fin 64) (hr : Reaches p 0x200 s) :
    exec (.semRelease p n) s = .next (semRelease p.idx n.val s) := by
  obtain ⟨hpow, hup, hans⟩ := hr
  exact congrArg Host.Outcome.next (access_of_reaches _ _ (semRelease p.idx n.val) s hpow hup hans)

theorem exec_semLeaseExpire {s : State} (n : Fin 64) (hlive : s.live = true) :
    exec (.semLeaseExpire n) s = .next (semLeaseExpire n.val s) :=
  congrArg Host.Outcome.next (live_of_live (semLeaseExpire n.val) s hlive)

/-! ### The table of holders -/

@[simp] theorem setSem_sems (n : Nat) (x : Sem) (s : State) : (setSem n x s).que.sems = put n x s.que.sems := rfl
@[simp] theorem setSem_evr (n : Nat) (x : Sem) (s : State) : (setSem n x s).evr = s.evr := rfl
@[simp] theorem setSem_sent (n : Nat) (x : Sem) (s : State) : (setSem n x s).sent = s.sent := rfl
@[simp] theorem setSem_mem (n : Nat) (x : Sem) (s : State) : (setSem n x s).mem = s.mem := rfl
@[simp] theorem setSem_rg (n : Nat) (x : Sem) (s : State) (c : RN) (i : Nat) : (setSem n x s).rg c i = s.rg c i := rfl

@[simp] theorem freeSem_sems (n : Nat) (s : State) : (freeSem n s).que.sems = del n s.que.sems := rfl
@[simp] theorem freeSem_evr (n : Nat) (s : State) : (freeSem n s).evr = s.evr := rfl
@[simp] theorem freeSem_comp (n : Nat) (s : State) : (freeSem n s).comp = s.comp := rfl
@[simp] theorem freeSem_mem (n : Nat) (s : State) : (freeSem n s).mem = s.mem := rfl

/-! ### What the loss of a semaphore ends -/

@[simp] theorem endUnlock_que (p : Nat) (s : State) : (endUnlock p s).que = s.que := by
  unfold endUnlock; split <;> simp

@[simp] theorem endUnlock_mem (p : Nat) (s : State) : (endUnlock p s).mem = s.mem := by
  unfold endUnlock; split <;> simp

/-- Only semaphore 4 guards something that ends with it (R127). -/
theorem semLost_of_ne_four {n : Nat} (p : Nat) (s : State) (h : n ≠ 4) : semLost p n s = s := by
  rw [semLost, beq_false_of_ne h, when_false]

theorem semLost_cases (p n : Nat) (s : State) : semLost p n s = endUnlock p s ∨ semLost p n s = s := by
  by_cases h : n = 4
  · exact .inl (by simp [semLost, h])
  · exact .inr (semLost_of_ne_four p s h)

@[simp] theorem semLost_que (p n : Nat) (s : State) : (semLost p n s).que = s.que := by
  rcases semLost_cases p n s with h | h <;> simp [h]

@[simp] theorem semLost_mem (p n : Nat) (s : State) : (semLost p n s).mem = s.mem := by
  rcases semLost_cases p n s with h | h <;> simp [h]

/-! ### What a read takes -/

section
variable {p n : Nat} {s : State}

theorem semTake_of_reserved (h : semReserved n = true) : semTake p n s = raise 0x0002 none [] s := by
  simp [semTake, h]

theorem semTake_of_free (h : semReserved n = false) (hfree : look n s.que.sems = none) :
    semTake p n s = setSem n { owner := p, lease := none } s := by
  simp [semTake, h, hfree]

theorem semTake_of_held {x : Sem} (h : semReserved n = false) (hheld : look n s.que.sems = some x) :
    semTake p n s = s := by
  simp [semTake, h, hheld]

/-- What a read of GLB_SEMn can do to the state. -/
theorem semTake_cases (p n : Nat) (s : State) :
    semTake p n s = raise 0x0002 none [] s ∨ semTake p n s = setSem n { owner := p, lease := none } s ∨ semTake p n s = s := by
  cases hres : semReserved n with
  | true => exact .inl (semTake_of_reserved hres)
  | false =>
    cases hheld : look n s.que.sems with
    | none => exact .inr (.inl (semTake_of_free hres hheld))
    | some x => exact .inr (.inr (semTake_of_held hres hheld))

@[simp] theorem semTake_sent (p n : Nat) (s : State) : (semTake p n s).sent = s.sent := by
  rcases semTake_cases p n s with h | h | h <;> simp [h]

@[simp] theorem semTake_mem (p n : Nat) (s : State) : (semTake p n s).mem = s.mem := by
  rcases semTake_cases p n s with h | h | h <;> simp [h]

theorem sameRegs_semTake (p n : Nat) (s : State) : SameRegs evrCells s (semTake p n s) := by
  rcases semTake_cases p n s with h | h | h
  · rw [h]; exact sameRegs_raise _ _ _ s
  · rw [h]; exact fun c i _ => setSem_rg _ _ s c i
  · rw [h]; exact fun _ _ _ => rfl

/-- A read answers with the word after its effect, and does nothing else. -/
theorem semRead_eq (p n : Nat) (s : State) :
    semRead p n s = emit (.value p (semOffset n) (semWord (semTake p n s) p n)) (semTake p n s) := rfl

/-! ### The word a read returns -/

theorem semWord_of_reserved (h : semReserved n = true) : semWord s p n = 0 := by
  simp [semWord, h]

/-- GRANTED of a held semaphore's word. OWNER takes the two bits below it, so that a holder's number past 2 carries into
it. -/
theorem semWord_granted {x : Sem} (h : semReserved n = false) (hheld : look n s.que.sems = some x) :
    semWord s p n / 4 % 2 = ((x.owner + 1) / 4 + b2n (x.owner == p)) % 2 := by
  simp only [semWord, h, hheld]
  omega

theorem semWord_granted_of_port {x : Sem} (h : semReserved n = false) (hheld : look n s.que.sems = some x)
    (hport : x.owner < 2) : semWord s p n / 4 % 2 = if x.owner = p then 1 else 0 := by
  rw [semWord_granted h hheld, show (x.owner + 1) / 4 = 0 by omega]
  by_cases hown : x.owner = p <;> simp [b2n, hown]

/-! ### What a release and the end of a lease leave -/

theorem semRelease_of_holder (h : s.holdsSem p n = true) : semRelease p n s = semLost p n (freeSem n s) := by
  simp [semRelease, h]

theorem semRelease_of_other (h : s.holdsSem p n = false) : semRelease p n s = raise 0x0003 none [] s := by
  simp [semRelease, h]

theorem semLeaseExpire_of_expired {x : Sem} {since : Nat} (hheld : look n s.que.sems = some x)
    (hlease : x.lease = some since) (hend : since + 100000000 ≤ s.clk) :
    semLeaseExpire n s = semLost x.owner n (raise 0x0001 none [(1, n), (1, x.owner + 1)] (freeSem n s)) := by
  simp [semLeaseExpire, hheld, hlease, hend]

theorem semLeaseExpire_of_running {x : Sem} (hheld : look n s.que.sems = some x)
    (hrun : ∀ since, x.lease = some since → s.clk < since + 100000000) : semLeaseExpire n s = s := by
  cases hlease : x.lease with
  | none => simp [semLeaseExpire, hheld, hlease]
  | some since => simp [semLeaseExpire, hheld, hlease, Nat.not_le.mpr (hrun since hlease)]

end

end Sys2Proof.Machine
end

section
/-! PROOF. The statement about the semaphores of spec/04_onzon_queues.md: it fails in a state whose holder is no port, and
each of its clauses holds where the holders are ports. -/

namespace Sys2Proof.Proofs

open Sys2Proof Sys2Proof.Machine

/-- A holder with a number that no port has. -/
def strangeHolder : Sem := { owner := 3, lease := none }

/-- A node whose start-up has reached step 4, with port A UP, in which a holder that is no port holds semaphore 0. -/
def strangelyHeld : State :=
  { State.reset with
    onzA := { OnzSt.init with link := .up }
    start := { StartSt.init with done := [4] }
    que := { QueSt.init with sems := [(0, strangeHolder)] } }

theorem reaches_strangelyHeld : Reaches .a (semOffset 0) strangelyHeld := by
  unfold Reaches
  decide

/-- Port A reads GRANTED of a semaphore that it does not hold: the holder's number 3 shows in OWNER as 4. -/
theorem strangelyHeld_granted : semWord strangelyHeld 0 0 / 4 % 2 = 1 :=
  semWord_granted (x := strangeHolder) rfl rfl

/-- Refutes O14: a holder's number is any natural number in the statement's states, and number 3 overflows OWNER into
GRANTED, so that a read by another port returns GRANTED 1. No clause fails where the holders are ports, as the theorems
below say. -/
theorem not_semaphoresAreTakenAndFreed : ¬ Obligations.SemaphoresAreTakenAndFreed := by
  unfold Obligations.SemaphoresAreTakenAndFreed
  rintro ⟨hread, -⟩
  obtain ⟨t, v, hexec, hsent, -, -, -, hunreserved⟩ := hread .a 0 strangelyHeld reaches_strangelyHeld
  obtain ⟨-, -, -, hheld⟩ := hunreserved rfl
  obtain ⟨-, hv⟩ := hheld strangeHolder rfl
  have ht : semRead 0 0 strangelyHeld = t := Host.Outcome.next.inj ((exec_semRead reaches_strangelyHeld).symm.trans hexec)
  have hvalue : semWord strangelyHeld 0 0 = v := by
    subst ht
    exact (Sent.value.inj (List.cons.inj hsent).1).2.2
  rw [← hvalue, strangelyHeld_granted] at hv
  exact absurd hv (by decide)

/-! ### What holds of the commands -/

/-- The first clause of O14, of a semaphore that no one but a port holds (R123). -/
theorem semRead_takes_and_returns {p : Port} {n : Fin 64} {s : State} (hr : Reaches p (semOffset n.val) s)
    (hport : ∀ x, look n.val s.que.sems = some x → x.owner < 2) :
    ∃ (t : State) (v : Nat), exec (.semRead p n) s = .next t ∧ t.sent = .value p.idx (semOffset n.val) v :: s.sent ∧
      SameRegs evrCells s t ∧ t.mem = s.mem ∧
      (semReserved n.val = true → v / 4 % 2 = 0 ∧ t.que = s.que ∧ t.evr = (raise 0x0002 none [] s).evr) ∧
      (semReserved n.val = false → t.evr = s.evr ∧ (∀ m, m ≠ n.val → look m t.que.sems = look m s.que.sems) ∧
        (look n.val s.que.sems = none → look n.val t.que.sems = some { owner := p.idx, lease := none } ∧ v / 4 % 2 = 1) ∧
        (∀ x, look n.val s.que.sems = some x → t.que = s.que ∧ v / 4 % 2 = if x.owner = p.idx then 1 else 0)) := by
  refine ⟨_, _, exec_semRead hr, by rw [semRead_eq, emit_sent, semTake_sent], sameRegs_semTake _ _ s,
    by simp [semRead_eq], fun hres => ?_, fun hres => ?_⟩
  · rw [semRead_eq, semWord_of_reserved hres, semTake_of_reserved hres]
    simp
  · rw [semRead_eq]
    cases hheld : look n.val s.que.sems with
    | none =>
      have hown : p.idx < 2 := by cases p <;> decide
      have hword : semWord (setSem n.val { owner := p.idx, lease := none } s) p.idx n.val / 4 % 2 = 1 :=
        (semWord_granted_of_port hres (look_put_self ..) hown).trans (if_pos rfl)
      rw [semTake_of_free hres hheld]
      exact ⟨by simp, fun m hm => by simp [look_put_ne _ _ hm], fun _ => ⟨by simp, hword⟩, by simp⟩
    | some x =>
      rw [semTake_of_held hres hheld]
      refine ⟨rfl, fun m _ => rfl, by simp, fun y hy => ⟨rfl, ?_⟩⟩
      cases hy
      exact semWord_granted_of_port hres hheld (hport x hheld)

/-- A release by the holder frees the semaphore and no other (R125). -/
theorem semRelease_by_holder {p : Port} {n : Fin 64} {s : State} (hr : Reaches p 0x200 s)
    (hold : s.holdsSem p.idx n.val = true) :
    ∃ t, exec (.semRelease p n) s = .next t ∧ look n.val t.que.sems = none ∧
      (∀ m, m ≠ n.val → look m t.que.sems = look m s.que.sems) ∧ (n.val ≠ 4 → t.comp = s.comp ∧ t.evr = s.evr) ∧
      t.mem = s.mem := by
  refine ⟨_, exec_semRelease n hr, ?_⟩
  rw [semRelease_of_holder hold]
  exact ⟨by simp, fun m hm => by simp [look_del_ne _ hm], fun hn => by simp [semLost_of_ne_four _ _ hn], by simp⟩

/-- A release by a port that does not hold the semaphore leaves its record alone (R125). -/
theorem semRelease_by_other {p : Port} {n : Fin 64} {s : State} (hr : Reaches p 0x200 s)
    (hold : s.holdsSem p.idx n.val = false) : exec (.semRelease p n) s = .next (raise 0x0003 none [] s) := by
  rw [exec_semRelease n hr, semRelease_of_other hold]

/-- A lease that has run for 100 ms frees its semaphore and no other (R126). -/
theorem semLeaseExpire_at_end {n : Fin 64} {x : Sem} {since : Nat} {s : State} (hlive : s.live = true)
    (hheld : look n.val s.que.sems = some x) (hlease : x.lease = some since) (hend : since + 100000000 ≤ s.clk) :
    ∃ t, exec (.semLeaseExpire n) s = .next t ∧ look n.val t.que.sems = none ∧
      (∀ m, m ≠ n.val → look m t.que.sems = look m s.que.sems) ∧ (n.val ≠ 4 → t.comp = s.comp) ∧ t.mem = s.mem := by
  refine ⟨_, exec_semLeaseExpire n hlive, ?_⟩
  rw [semLeaseExpire_of_expired hheld hlease hend]
  exact ⟨by simp, fun m hm => by simp [look_del_ne _ hm], fun hn => by simp [semLost_of_ne_four _ _ hn], by simp⟩

/-- A lease that runs shorter, or not at all, leaves the state as it is (R126). -/
theorem semLeaseExpire_before_end {n : Fin 64} {x : Sem} {s : State} (hlive : s.live = true)
    (hheld : look n.val s.que.sems = some x)
    (hrun : x.lease = none ∨ ∃ since, x.lease = some since ∧ s.clk < since + 100000000) :
    exec (.semLeaseExpire n) s = .next s := by
  rw [exec_semLeaseExpire n hlive, semLeaseExpire_of_running hheld]
  rintro since hlease
  rcases hrun with hnone | ⟨since', hsome, hlt⟩
  · simp [hnone] at hlease
  · cases hlease.symm.trans hsome
    exact hlt

end Sys2Proof.Proofs
end

section
/-! PROOF. The event recorder: what a raised event leaves when the limit of its code lets it be recorded and when it is
dropped (R567, R568, R570), and the limit itself (R578). -/

namespace Sys2Proof.Machine

open Sys2Proof

/-! ### A search that finds nothing -/

theorem firstFrom_eq_none {p : Nat → Bool} (n i : Nat) (h : ∀ j, j < i + n → p j = false) :
    firstFrom p n i = none := by
  induction n generalizing i with
  | zero => rfl
  | succ n ih =>
    have hi : p i = false := h i (by omega)
    simp only [firstFrom, hi, Bool.false_eq_true, if_false]
    exact ih (i + 1) fun j hj => h j (by omega)

theorem firstBelow_eq_none {p : Nat → Bool} {n : Nat} (h : ∀ i, i < n → p i = false) : firstBelow n p = none :=
  firstFrom_eq_none n 0 (by simpa using h)

/-! ### The limit of a code -/

theorem codeLimit_of_no_entry {s : State} (code : Nat) (h : ∀ i, i < 32 → s.rg .EVR_X_CODE_LIMIT_VALID i = 0) :
    codeLimit code s = max 1 (s.rg .EVR_LIMIT_PER_FRAME 0) := by
  have hnone : firstBelow 32 (fun i => s.rg .EVR_X_CODE_LIMIT_VALID i == 1 && s.rg .EVR_X_CODE_LIMIT_CODE i == code) =
      none := firstBelow_eq_none fun i hi => by simp [h i hi]
  simp only [codeLimit, hnone]

/-! ### The counts of the running frame -/

/-- The records written per code in the running frame. -/
def frameCounts (s : State) : List (Nat × Nat) := if s.evr.frame = s.frame then s.evr.counts else []

theorem lookD_frameCounts (code : Nat) (s : State) :
    lookD code 0 (frameCounts s) = if s.evr.frame = s.frame then lookD code 0 s.evr.counts else 0 := by
  by_cases hf : s.evr.frame = s.frame <;> simp [frameCounts, hf, lookD, look]

theorem freshCounts_eq (s : State) :
    freshCounts s = { s with evr := { s.evr with frame := s.frame, counts := frameCounts s } } := by
  by_cases hf : s.evr.frame = s.frame
  · simp only [freshCounts, frameCounts, hf, if_true]
    rw [← hf]
  · simp only [freshCounts, frameCounts, hf, if_false]

/-! ### What an event leaves -/

/-- Whether an event of the code is recorded now: its code is exempt, or has records left in the running frame (R570). -/
def Recorded (code : Nat) (s : State) : Prop := code ∈ exemptCodes ∨ lookD code 0 (frameCounts s) < codeLimit code s

/-- The record of an event (Table MON-5). -/
def eventRecord (code : Nat) (car : Option Nat) (items : List Item) (s : State) : EvRec :=
  { seq := s.evr.next, ft := s.ft, code := code, ctx := contextByte car s, mark := 0xA5,
    supp := min (lookD code 0 s.evr.supp) 65535, data := dataBytes items }

/-- The recorder with the record of an event in its ring. -/
def evrWritten (code : Nat) (car : Option Nat) (items : List Item) (s : State) : EvrSt :=
  { s.evr with
    ring := pushRecord (eventRecord code car items s) s.evr.ring
    next := (s.evr.next + 1) % 2 ^ 32
    supp := del code s.evr.supp }

/-- The recorder after an event that was recorded. -/
def evrRecorded (code : Nat) (car : Option Nat) (items : List Item) (s : State) : EvrSt :=
  { evrWritten code car items s with
    frame := s.frame
    counts := put code (lookD code 0 (frameCounts s) + 1) (frameCounts s) }

/-- The recorder after an event that was dropped. -/
def evrDropped (code : Nat) (s : State) : EvrSt :=
  { s.evr with
    frame := s.frame
    counts := frameCounts s
    supp := put code (lookD code 0 s.evr.supp + 1) s.evr.supp }

theorem rg_withEvr (e : EvrSt) (s : State) (n : RN) (i : Nat) : ({ s with evr := e } : State).rg n i = s.rg n i := rfl

@[simp] theorem bump_evr (n : RN) (i k : Nat) (s : State) : (bump n i k s).evr = s.evr := rfl

@[simp] theorem bump_rg_self (n : RN) (i k : Nat) (s : State) :
    (bump n i k s).rg n i = min (s.rg n i + k) (2 ^ RN.width n - 1) % 2 ^ RN.width n := setRg_rg_self ..

theorem bump_rg_ne {n m : RN} {i j k : Nat} (s : State) (h : (m, j) ≠ (n, i)) :
    (bump n i k s).rg m j = s.rg m j := setRg_rg_ne _ s h

variable {code : Nat} {s : State} (car : Option Nat) (items : List Item)

theorem recorded_iff (code : Nat) (s : State) : Recorded code s ↔
    code ∈ exemptCodes ∨ lookD code 0 (freshCounts s).evr.counts < codeLimit code (freshCounts s) := by
  rw [freshCounts_eq]
  rfl

theorem writeRecord_of_full (h : 8192 ≤ s.evr.ring.length) :
    writeRecord code car items s = bump .EVR_LOST_COUNT 0 1 { s with evr := evrWritten code car items s } :=
  if_pos (decide_eq_true h)

theorem writeRecord_of_room (h : s.evr.ring.length < 8192) :
    writeRecord code car items s = { s with evr := evrWritten code car items s } :=
  if_neg (mt of_decide_eq_true (Nat.not_le.mpr h))

theorem raise_of_recorded_full (h : Recorded code s) (hfull : 8192 ≤ s.evr.ring.length) :
    raise code car items s = bump .EVR_LOST_COUNT 0 1 { s with evr := evrRecorded code car items s } := by
  refine (if_pos ((recorded_iff code s).mp h)).trans ?_
  rw [freshCounts_eq, writeRecord_of_full]
  · rfl
  · exact hfull

theorem raise_of_recorded_room (h : Recorded code s) (hroom : s.evr.ring.length < 8192) :
    raise code car items s = { s with evr := evrRecorded code car items s } := by
  refine (if_pos ((recorded_iff code s).mp h)).trans ?_
  rw [freshCounts_eq, writeRecord_of_room]
  · rfl
  · exact hroom

theorem raise_of_dropped (h : ¬ Recorded code s) :
    raise code car items s = bump .EVR_SUPPRESSED_COUNT 0 1 { s with evr := evrDropped code s } := by
  refine (if_neg (mt (recorded_iff code s).mpr h)).trans ?_
  rw [freshCounts_eq]
  rfl

theorem raise_evr_of_recorded (h : Recorded code s) :
    (raise code car items s).evr = evrRecorded code car items s := by
  rcases Nat.lt_or_ge s.evr.ring.length 8192 with hroom | hfull
  · rw [raise_of_recorded_room car items h hroom]
  · rw [raise_of_recorded_full car items h hfull, bump_evr]

theorem raise_evr_of_dropped (h : ¬ Recorded code s) : (raise code car items s).evr = evrDropped code s := by
  rw [raise_of_dropped car items h, bump_evr]

theorem raise_lost_of_room (h : Recorded code s) (hroom : s.evr.ring.length < 8192) :
    (raise code car items s).rg .EVR_LOST_COUNT 0 = s.rg .EVR_LOST_COUNT 0 := by
  rw [raise_of_recorded_room car items h hroom, rg_withEvr]

theorem raise_suppressed_of_recorded (h : Recorded code s) :
    (raise code car items s).rg .EVR_SUPPRESSED_COUNT 0 = s.rg .EVR_SUPPRESSED_COUNT 0 := by
  rcases Nat.lt_or_ge s.evr.ring.length 8192 with hroom | hfull
  · rw [raise_of_recorded_room car items h hroom, rg_withEvr]
  · rw [raise_of_recorded_full car items h hfull, bump_rg_ne _ (by simp), rg_withEvr]

theorem raise_suppressed_of_dropped (h : ¬ Recorded code s) :
    (raise code car items s).rg .EVR_SUPPRESSED_COUNT 0 =
      min (s.rg .EVR_SUPPRESSED_COUNT 0 + 1) (2 ^ RN.width .EVR_SUPPRESSED_COUNT - 1) %
        2 ^ RN.width .EVR_SUPPRESSED_COUNT := by
  rw [raise_of_dropped car items h, bump_rg_self, rg_withEvr]

end Sys2Proof.Machine
end

section
/-! PROOF. The statement about the event recorder of spec/18_monitors_recorder.md. -/

namespace Sys2Proof.Proofs

open Sys2Proof Sys2Proof.Machine

/-- Settles O23: an event within its code's limit leaves the recorder evrRecorded and one past it evrDropped, whatever frame
the counts were of. -/
theorem eventsAreRecordedUpToTheLimit : Obligations.EventsAreRecordedUpToTheLimit := by
  unfold Obligations.EventsAreRecordedUpToTheLimit
  refine ⟨fun code car items s => ?_, fun code s hnone => codeLimit_of_no_entry code hnone,
    fun code item car items s hfirst => if_pos hfirst⟩
  simp only [← lookD_frameCounts]
  refine ⟨fun (hrec : Recorded code s) => ?_, fun (hdrop : ¬ Recorded code s) => ?_, sameRegs_raise code car items s,
    raise_mem .., raise_que .., raise_seq .., raise_sent ..⟩
  · rw [raise_evr_of_recorded car items hrec]
    refine ⟨rfl, rfl, ?_, ?_, raise_suppressed_of_recorded car items hrec, raise_lost_of_room car items hrec⟩
    · simp [evrRecorded, evrWritten, lookD]
    · simp [evrRecorded]
  · rw [raise_evr_of_dropped car items hdrop]
    exact ⟨rfl, rfl, by simp [evrDropped], raise_suppressed_of_dropped car items hdrop⟩

/-- The count of lost records that O23 claims in its words and no clause states: a full ring loses its oldest record to the
new one, and EVR_LOST counts it (R567). -/
theorem raise_lost_of_full {code : Nat} {s : State} (car : Option Nat) (items : List Item) (h : Recorded code s)
    (hfull : 8192 ≤ s.evr.ring.length) :
    (raise code car items s).rg .EVR_LOST_COUNT 0 =
      min (s.rg .EVR_LOST_COUNT 0 + 1) (2 ^ RN.width .EVR_LOST_COUNT - 1) % 2 ^ RN.width .EVR_LOST_COUNT := by
  rw [raise_of_recorded_full car items h hfull, bump_rg_self, rg_withEvr]

end Sys2Proof.Proofs
end

section
/-! PROOF. What every command keeps, from the Keep lemma of each: the waiting commands, a sound state and, where it stores
nothing, the bytes of memory. -/

namespace Sys2Proof.Machine

open Sys2Proof

variable {q : List Instr} {m : Option (List Host.Cell)}

/-- A DATA_FRAME that names no bad word of the port's buffers drops nothing, and stores nothing. -/
theorem keep_execDataFrame_of {l : Fin 8} {lseq : BitVec 24} {d : LinkData} {s : State} (hm : d.bad ≠ [] → m = none)
    (h : Keep q m s) : KeepR q m (execDataFrame l lseq d s) := by
  by_cases hb : d.bad = []
  · unfold execDataFrame
    rw [hb]
    refine keepR_done (keep_live (fun t ht => ?_) h)
    unfold dataFrame
    exact keep_ite (fun _ => ht) (fun _ => keep_sequenced (keep_ridesAlong (keep_linkGot ht)))
  · obtain rfl := hm hb
    exact keep_execDataFrame h

theorem mayStore_dataFrame {l : Fin 8} {lseq : BitVec 24} {d : LinkData} (h : d.bad ≠ []) :
    mayStore (.dataFrame l lseq d) = true := by
  show (!d.bad.isEmpty) = true
  simpa using h

/-- Every command keeps the waiting commands and a sound state, and one that may not store keeps memory as well. -/
theorem keepR_exec (c : Instr) {s : State} (hm : mayStore c = true → m = none) (h : Keep q m s) : KeepR q m (exec c s) := by
  cases c with
  | registerWrite p off v => obtain rfl := hm rfl; exact keep_execRegisterWrite h
  | readClear p off => exact keep_execReadClear h
  | latchedRead p off => exact keep_execLatchedRead h
  | expertWindowAccess p off v => obtain rfl := hm rfl; exact keep_execExpertWindowAccess h
  | semRead p n => exact keep_execSemRead h
  | semRelease p n => exact keep_execSemRelease h
  | semLeaseExpire n => exact keep_execSemLeaseExpire h
  | stage p => exact keep_execStage h
  | imageFetchDone => exact keep_execImageFetchDone h
  | imageValidated => exact keep_execImageValidated h
  | arm p => obtain rfl := hm rfl; exact keep_execArm h
  | cancel p => obtain rfl := hm rfl; exact keep_execCancel h
  | commit p => exact keep_execCommit h
  | commitDone ok => exact keep_execCommitDone h
  | shadowTablesLoaded => exact keep_execShadowTablesLoaded h
  | switchBoundary => obtain rfl := hm rfl; exact keep_execSwitchBoundary h
  | drainWindowClose => obtain rfl := hm rfl; exact keep_execDrainWindowClose h
  | resourceClearStart r => exact keep_execResourceClearStart h
  | resourceCleared r => obtain rfl := hm rfl; exact keep_execResourceCleared h
  | oldEpochGraceEnd => exact keep_execOldEpochGraceEnd h
  | expertUnlock p blocks => exact keep_execExpertUnlock h
  | expertUnlockExpire p => exact keep_execExpertUnlockExpire h
  | ftRefStable => exact keep_execFtRefStable h
  | ftRefLost => exact keep_execFtRefLost h
  | ftCodeWord w => exact keep_execFtCodeWord h
  | ftSyncEdge frac => exact keep_execFtSyncEdge h
  | ftSyncMissing => exact keep_execFtSyncMissing h
  | holdoverLimit => obtain rfl := hm rfl; exact keep_execHoldoverLimit h
  | steerUpdate => exact keep_execSteerUpdate h
  | steerLimit => exact keep_execSteerLimit h
  | timeXferSend l => exact keep_execTimeXferSend h
  | timeXfer l body arrival => exact keep_execTimeXfer h
  | linkTimeUpdate => exact keep_execLinkTimeUpdate h
  | evtAdd p => exact keep_execEvtAdd h
  | evtCancel p => exact keep_execEvtCancel h
  | keySwitch j => exact keep_execKeySwitch h
  | checkpoint j => exact keep_execCheckpoint h
  | shaperRefill j => exact keep_execShaperRefill h
  | throttleStep j => exact keep_execThrottleStep h
  | startupSlot j => exact keep_execStartupSlot h
  | throttleEval => exact keep_execThrottleEval h
  | onzonTrainingStart p lanes => exact keep_execOnzonTrainingStart h
  | onzonTrainingEnd p lanes trims => exact keep_execOnzonTrainingEnd h
  | onzonTrainingTimeout p => exact keep_execOnzonTrainingTimeout h
  | onzonRetry p => exact keep_execOnzonRetry h
  | onzonLockLoss p => exact keep_execOnzonLockLoss h
  | onzonRxIdleTimeout p => exact keep_execOnzonRxIdleTimeout h
  | onzonReplayTimeout p => exact keep_execOnzonReplayTimeout h
  | onzonLinkReset p => exact keep_execOnzonLinkReset h
  | ctrlRd p seq tag off n => exact keep_execCtrlRd h
  | ctrlWr p seq off vs => obtain rfl := hm rfl; exact keep_execCtrlWr h
  | memResp p seq tag ok data => exact keep_execMemResp h
  | onzonAck p seq => exact keep_execOnzonAck h
  | onzonNak p seq => exact keep_execOnzonNak h
  | onzonCredit p posted reads => exact keep_execOnzonCredit h
  | doorbell p q tail head => exact keep_execDoorbell h
  | sqFetch p => exact keep_execSqFetch h
  | commandStart q => exact keep_execCommandStart h
  | queueEnable p => exact keep_execQueueEnable h
  | queueDisable p => exact keep_execQueueDisable h
  | queueReset p => exact keep_execQueueReset h
  | queueDrainDone q => exact keep_execQueueDrainDone h
  | irqTimer q => exact keep_execIrqTimer h
  | list k => exact keep_execList h
  | listComplete k => exact keep_execListComplete h
  | seqCreate k => obtain rfl := hm rfl; exact keep_execSeqCreate h
  | seqFree k => exact keep_execSeqFree h
  | seqFork k => obtain rfl := hm rfl; exact keep_execSeqFork h
  | seqFreeze k => exact keep_execSeqFreeze h
  | seqThaw k => obtain rfl := hm rfl; exact keep_execSeqThaw h
  | pageLink k => obtain rfl := hm rfl; exact keep_execPageLink h
  | appendCmd k => obtain rfl := hm rfl; exact keep_execAppendCmd h
  | nodesetLoad k => exact keep_execNodesetLoad h
  | seqQuery k => exact keep_execSeqQuery h
  | sequenceChangeResume seq => obtain rfl := hm rfl; exact keep_execSequenceChangeResume h
  | append src op => obtain rfl := hm rfl; exact keep_execAppend h
  | stagedExpire half => exact keep_execStagedExpire h
  | pageSeal page => obtain rfl := hm rfl; exact keep_execPageSeal h
  | pageFree page => obtain rfl := hm rfl; exact keep_execPageFree h
  | walk k => exact keep_execWalk h
  | gather k => exact keep_execGather h
  | pageCopy k => obtain rfl := hm rfl; exact keep_execPageCopy h
  | pageMove k => exact keep_execPageMove h
  | pageMoveCommit page => obtain rfl := hm rfl; exact keep_execPageMoveCommit h
  | pageDigest k => exact keep_execPageDigest h
  | groupZero k => exact keep_execGroupZero h
  | groupZeroDone g => obtain rfl := hm rfl; exact keep_execGroupZeroDone h
  | tableInstall k => exact keep_execTableInstall h
  | tableRemove k => exact keep_execTableRemove h
  | weightLoad k => exact keep_execWeightLoad h
  | weightFree k => exact keep_execWeightFree h
  | walkCacheFlush p => exact keep_execWalkCacheFlush h
  | attnReq src op => exact keep_execAttnReq h
  | coachDepart id => exact keep_execCoachDepart h
  | foxPass id codes refs => exact keep_execFoxPass h
  | scoutSelection id => exact keep_execScoutSelection h
  | gatherStart id => exact keep_execGatherStart h
  | pageReadIssue id half => exact keep_execPageReadIssue h
  | absorptionDone id => exact keep_execAbsorptionDone h
  | scoringDone id tile => exact keep_execScoringDone h
  | halfMerge id half => exact keep_execHalfMerge h
  | valueExpansion id => exact keep_execValueExpansion h
  | coachCutoff id => exact keep_execCoachCutoff h
  | attnPart src op => exact keep_execAttnPart h
  | contextClose group reply tag => exact keep_execContextClose h
  | foxScore k => exact keep_execFoxScore h
  | foxCal k => exact keep_execFoxCal h
  | foxRowBind k => exact keep_execFoxRowBind h
  | foxRowRelease k => exact keep_execFoxRowRelease h
  | foxIdlePass m refs => exact keep_execFoxIdlePass h
  | foxCompensate => exact keep_execFoxCompensate h
  | foxRecal m => exact keep_execFoxRecal h
  | foxCalDone m ok sigma off gain => exact keep_execFoxCalDone h
  | foxRowRefill half => exact keep_execFoxRowRefill h
  | bearAttn k => exact keep_execBearAttn h
  | shadowStart p => exact keep_execShadowStart h
  | shadowStop p => exact keep_execShadowStop h
  | autoShadowStart tile uncorrectable => exact keep_execAutoShadowStart h
  | shadowKatDone spare ok => exact keep_execShadowKatDone h
  | takeover spare => exact keep_execTakeover h
  | seqPark k => exact keep_execSeqPark h
  | parkTransferStart k => obtain rfl := hm rfl; exact keep_execParkTransferStart h
  | parkComplete k => obtain rfl := hm rfl; exact keep_execParkComplete h
  | seqResume k => obtain rfl := hm rfl; exact keep_execSeqResume h
  | logRead k => exact keep_execLogRead h
  | logTrim k => exact keep_execLogTrim h
  | appendShadow src op => exact keep_execAppendShadow h
  | parkXfer src op => exact keep_execParkXfer h
  | demote half => exact keep_execDemote h
  | promote half => exact keep_execPromote h
  | ageTick => exact keep_execAgeTick h
  | linkTrainingStart l => exact keep_execLinkTrainingStart h
  | linkTrainingEnd l lanes engine ident trims => exact keep_execLinkTrainingEnd h
  | linkRetry l => exact keep_execLinkRetry h
  | linkRetrain l => exact keep_execLinkRetrain h
  | linkLockLoss l lane => exact keep_execLinkLockLoss h
  | linkRxIdleTimeout l => exact keep_execLinkRxIdleTimeout h
  | linkReplayTimeout l => exact keep_execLinkReplayTimeout h
  | linkReset l => exact keep_execLinkReset h
  | lack l seq => exact keep_execLack h
  | lnak l seq => exact keep_execLnak h
  | lcredit l cls units => exact keep_execLcredit h
  | swapLane l lane => exact keep_execSwapLane h
  | swapWave l lane wave => exact keep_execSwapWave h
  | swapDone l => exact keep_execSwapDone h
  | laneSwapTrigger l symbols codewords => exact keep_execLaneSwapTrigger h
  | repairDone l ok => exact keep_execRepairDone h
  | forceLane p l => exact keep_execForceLane h
  | forceWave p l => exact keep_execForceWave h
  | oePoll l ack fault los warn => exact keep_execOePoll h
  | dataFrame l lseq d => exact keep_execDataFrame_of (fun hb => hm (mayStore_dataFrame hb)) h
  | rmaWrite src op => obtain rfl := hm rfl; exact keep_execRmaWrite h
  | rmaRead src op => obtain rfl := hm rfl; exact keep_execRmaRead h
  | rmaResp src op => exact keep_execRmaResp h
  | ack src op => exact keep_execAck h
  | nak src op => exact keep_execNak h
  | faultNotice src op => exact keep_execFaultNotice h
  | retransmitTimeout op => exact keep_execRetransmitTimeout h
  | rxEntryExpire src op => obtain rfl := hm rfl; exact keep_execRxEntryExpire h
  | nakFilterExpire src op => exact keep_execNakFilterExpire h
  | pagingServed => obtain rfl := hm rfl; exact keep_execPagingServed h
  | rmaWriteCmd k => exact keep_execRmaWriteCmd h
  | rmaReadCmd k => exact keep_execRmaReadCmd h
  | pageSend k => exact keep_execPageSend h
  | peerLost node => exact keep_execPeerLost h
  | bucketTick => exact keep_execBucketTick h
  | trfApply p fill => exact keep_execTrfApply h
  | owlLookup k => exact keep_execOwlLookup h
  | owlLookupList k => exact keep_execOwlLookupList h
  | owlInsert k => obtain rfl := hm rfl; exact keep_execOwlInsert h
  | owlShiftDone bank => obtain rfl := hm rfl; exact keep_execOwlShiftDone h
  | owlDelete k => obtain rfl := hm rfl; exact keep_execOwlDelete h
  | owlRead k => exact keep_execOwlRead h
  | owlLoadAutomaton k => obtain rfl := hm rfl; exact keep_execOwlLoadAutomaton h
  | owlWatchSet k => exact keep_execOwlWatchSet h
  | owlWatchDisarm k => exact keep_execOwlWatchDisarm h
  | owlWait k => exact keep_execOwlWait h
  | cascadeSlot => exact keep_execCascadeSlot h
  | cascadeSearch frame => exact keep_execCascadeSearch h
  | cascadeReturnCheck => exact keep_execCascadeReturnCheck h
  | cascadePrio prioIn => exact keep_execCascadePrio h
  | cascadeWinnerSend prioIn => exact keep_execCascadeWinnerSend h
  | cascadeResult frame => exact keep_execCascadeResult h
  | cascadeSlotEnd => exact keep_execCascadeSlotEnd h
  | owlScrub half => exact keep_execOwlScrub h
  | owlScrubForce p => exact keep_execOwlScrubForce h
  | patrolScrub => exact keep_execPatrolScrub h
  | scrubForce p => exact keep_execScrubForce h
  | hbmRefresh stack => exact keep_execHbmRefresh h
  | ceThreshold g pc => exact keep_execCeThreshold h
  | injectArm p => exact keep_execInjectArm h
  | cxlDetect c => exact keep_execCxlDetect h
  | cxlTrainingEnd c width gts units => exact keep_execCxlTrainingEnd h
  | cxlTrainingTimeout c => exact keep_execCxlTrainingTimeout h
  | cxlLinkDown c => exact keep_execCxlLinkDown h
  | cxlRetrain c => exact keep_execCxlRetrain h
  | secLoad p => exact keep_execSecLoad h
  | secLoadDone => exact keep_execSecLoadDone h
  | secLoadCommit p => exact keep_execSecLoadCommit h
  | attest p => exact keep_execAttest h
  | attestDone p => exact keep_execAttestDone h
  | sessionLoad p => exact keep_execSessionLoad h
  | sessionUnload p => exact keep_execSessionUnload h
  | retire p => exact keep_execRetire h
  | forceRetire p => exact keep_execForceRetire h
  | rekeyPage page => exact keep_execRekeyPage h
  | jobAbort k => exact keep_execJobAbort h
  | jobRelease k => exact keep_execJobRelease h
  | step k => exact keep_execStep h
  | stepForget k => exact keep_execStepForget h
  | holdExpire seq => exact keep_execHoldExpire h
  | sendNotice p => exact keep_execSendNotice h
  | clearSteps p => exact keep_execClearSteps h
  | clearHolds p => exact keep_execClearHolds h
  | firmwareHalt => exact keep_execFirmwareHalt h
  | resetRelease straps => obtain rfl := hm rfl; exact keep_execResetRelease h
  | firmwareVerified readOk => exact keep_execFirmwareVerified h
  | persistRestore => exact keep_execPersistRestore h
  | compositionLoad readOk => obtain rfl := hm rfl; exact keep_execCompositionLoad h
  | tileLevel windowOk fails cals => exact keep_execTileLevel h
  | anchor => exact keep_execAnchor h
  | hbmTrainingDone warm cold => exact keep_execHbmTrainingDone h
  | hbmInitDone => obtain rfl := hm rfl; exact keep_execHbmInitDone h
  | discoveryTimeout level => exact keep_execDiscoveryTimeout h
  | ready => exact keep_execReady h
  | powerFail => exact keep_execPowerFail h
  | shutdownStart p => exact keep_execShutdownStart h
  | shutdownBegin => exact keep_execShutdownBegin h
  | shutdownDrainEnd => exact keep_execShutdownDrainEnd h
  | shutdownPersistDone ok => exact keep_execShutdownPersistDone h
  | shutdownSafe ok => exact keep_execShutdownSafe h
  | selftestStart p => exact keep_execSelftestStart h
  | selftestDone windowOk fails => exact keep_execSelftestDone h
  | monitorSample temps volts procs => exact keep_execMonitorSample h
  | persistWrite => exact keep_execPersistWrite h
  | persistWriteDone ok => exact keep_execPersistWriteDone h
  | evrClear p => exact keep_execEvrClear h
  | purgeDone => exact keep_execPurgeDone h
  | i3cWrite off vs => obtain rfl := hm rfl; exact keep_execI3cWrite h
  | i3cRead n => exact keep_execI3cRead h
  | jtagInstruction j => exact keep_execJtagInstruction h
  | onzonFrameError p cause => exact keep_execOnzonFrameError h
  | linkFrameError l cause => exact keep_execLinkFrameError h
  | egressSchedule l => exact keep_execEgressSchedule h
  | sessionLoadDone p => exact keep_execSessionLoadDone h
  | secCommitDone ok => exact keep_execSecCommitDone h
  | i3cSetdasa dyn => exact keep_execI3cSetdasa h
  | resetAssert => obtain rfl := hm rfl; exact keep_execResetAssert h

/-- A sound state keeps itself, and any demand on memory that holds of it. -/
theorem Keep.of_sound {s : State} (h : s.Sound) (hm : ∀ b, m = some b → s.mem.bytes = b) : Keep s.pending m s := ⟨rfl, h, hm⟩

end Sys2Proof.Machine
end

section
/-! PROOF. The statements about every step: which invariant it keeps, which commands leave memory alone. -/

namespace Sys2Proof.Proofs

open Sys2Proof Sys2Proof.Machine

/-- Settles O4: the front command is run on a state that differs in its waiting commands alone, and keeps it sound; so does
one nanosecond. -/
theorem stepKeepsSound : Obligations.StepKeepsSound := by
  unfold Obligations.StepKeepsSound
  intro s t hs hstep
  have hnone : ∀ b, (none : Option (List Host.Cell)) = some b → s.mem.bytes = b := fun _ h => nomatch h
  unfold step at hstep
  cases hp : s.pending with
  | nil =>
    rw [hp] at hstep
    obtain rfl := Host.Outcome.next.inj hstep
    exact (keep_tick (Keep.of_sound hs hnone)).2.1
  | cons c rest =>
    rw [hp] at hstep
    have hrest : Keep rest none (s.withPending rest) := ⟨rfl, hs, hnone⟩
    exact (keepR_exec c (fun _ => rfl) hrest t hstep).2.1

/-- Settles O5. -/
theorem execLeavesTheQueue : Obligations.ExecLeavesTheQueue := by
  unfold Obligations.ExecLeavesTheQueue
  intro c s t hs hexec
  exact (keepR_exec c (fun _ => rfl) (Keep.of_sound (m := none) hs nofun) t hexec).1

/-- Settles O6: a command outside mayStore keeps the very list of bytes. -/
theorem storelessCommandsKeepMemory : Obligations.StorelessCommandsKeepMemory := by
  unfold Obligations.StorelessCommandsKeepMemory
  intro c s t hs hstore hexec a
  have hkeep : Keep s.pending (some s.mem.bytes) s := Keep.of_sound hs (fun _ h => Option.some.inj h)
  have hbytes := (keepR_exec c (fun h => absurd h (by simp [hstore])) hkeep t hexec).2.2 _ rfl
  rw [hbytes]

end Sys2Proof.Proofs
end

section
/-! PROOF. The byte table under a span of bytes written or zeroed, and the node's time under one nanosecond. -/

namespace Sys2Proof.Machine

open Sys2Proof

/-- In a canonical table a byte is that of the first entry of its address. -/
theorem memGet_cons {a b lo : Nat} {v : Byte} {r : List Host.Cell} (hw : memWfFrom lo ((a, v) :: r) = true) :
    memGet b ((a, v) :: r) = if a = b then v else memGet b r := by
  simp only [memWfFrom, Bool.and_eq_true] at hw
  by_cases hlt : b < a
  · simp [memGet, hlt, memGet_of_low r hw.2 (show b < a + 1 by omega)]
  · simp [memGet, hlt]

/-- A byte of a table filtered by address reads as before where its address is kept, and 0 elsewhere. -/
theorem memGet_filter_from (p : Nat → Bool) (b : Nat) (m : List Host.Cell) (lo : Nat) (hw : memWfFrom lo m = true) :
    memGet b (m.filter (fun e => p e.1)) = if p b then memGet b m else 0 := by
  induction m generalizing lo with
  | nil => simp [memGet]
  | cons e r ih =>
    obtain ⟨a, v⟩ := e
    have hr : memWfFrom (a + 1) r = true := by simp only [memWfFrom, Bool.and_eq_true] at hw; exact hw.2
    rw [memGet_cons hw]
    by_cases hp : p a
    · have hf := memFilter_wfFrom (fun e => p e.1) _ lo hw
      rw [List.filter_cons_of_pos (by exact hp)] at hf ⊢
      rw [memGet_cons hf, ih _ hr]
      by_cases hab : a = b
      · simp [hab, ← hab ▸ hp]
      · simp [hab]
    · rw [List.filter_cons_of_neg (by simpa using hp), ih _ hr]
      by_cases hab : a = b
      · simp [← hab, hp]
      · simp [hab]

theorem memGet_filter (p : Nat → Bool) (b : Nat) (m : List Host.Cell) (hw : memWf m = true) :
    memGet b (m.filter (fun e => p e.1)) = if p b then memGet b m else 0 :=
  memGet_filter_from p b m 0 hw

/-! ### One nanosecond -/

theorem tick_of_unpowered {s : State} (h : s.powered = false) : tick s = s := by
  unfold tick
  refine if_pos ?_
  simpa [State.powered, Decidable.or_iff_not_imp_left] using h

/-- What one nanosecond's parts leave alone: the count, fabric time, memory and the waiting commands. -/
def SameClock (s t : State) : Prop := t.clk = s.clk ∧ t.ft = s.ft ∧ t.mem = s.mem ∧ t.pending = s.pending

theorem sameClock_of_rest {s t : State} (h : strip t = strip s) : SameClock s t :=
  ⟨(congrArg State.clk h :), (congrArg State.ft h :), (congrArg State.mem h :), (congrArg State.pending h :)⟩

theorem SameClock.trans {s t u : State} (h : SameClock s t) (k : SameClock t u) : SameClock s u :=
  ⟨k.1.trans h.1, k.2.1.trans h.2.1, k.2.2.1.trans h.2.2.1, k.2.2.2.trans h.2.2.2⟩

theorem sameClock_notifyPort (p : Nat) (s : State) : SameClock s (notifyPort p s) := by
  unfold notifyPort
  split
  · exact ⟨rfl, rfl, rfl, rfl⟩
  · split
    · exact ⟨rfl, rfl, rfl, rfl⟩
    · extract_lets -merge +onlyGivenNames addr ras t
      have ht : SameClock s t := ⟨rfl, rfl, rfl, rfl⟩
      split
      · exact ht.trans (sameClock_of_rest (rest_memWriteDue rfl))
      · exact ht.trans (sameClock_of_rest (rest_undelivered rfl))

theorem sameClock_steerTick (s : State) : SameClock s (steerTick s).1 := by
  unfold steerTick
  dsimp only
  split <;> exact ⟨rfl, rfl, rfl, rfl⟩

theorem sameClock_slewTick (s : State) : SameClock s (slewTick s).1 := by
  unfold slewTick
  dsimp only
  repeat' split
  all_goals exact ⟨rfl, rfl, rfl, rfl⟩

/-- A nanosecond of a powered node: the count advances by one and fabric time does not fall back. -/
theorem tick_of_powered {s : State} (h : s.powered = true) :
    (tick s).clk = s.clk + 1 ∧ s.ft ≤ (tick s).ft ∧ (tick s).mem = s.mem ∧ (tick s).pending = s.pending := by
  have hon : ¬ (s.start.inReset = true ∨ s.start.powerGood = false) := by
    simpa [State.powered] using h
  unfold tick
  rw [if_neg hon]
  extract_lets -merge +onlyGivenNames t a b n v u
  obtain ⟨hclk, hft, hmem, hpend⟩ := (sameClock_steerTick t).trans (sameClock_slewTick a.1)
  refine forEach_keeps (P := fun t : State => t.clk = s.clk + 1 ∧ s.ft ≤ t.ft ∧ t.mem = s.mem ∧ t.pending = s.pending)
    _ _ _ ?_ (fun p t ⟨hc, hf, hm, hp⟩ => ?_)
  · show _ = _ ∧ _
    dsimp only [u]
    split
    · exact ⟨rfl, le_refl _, rfl, rfl⟩
    · exact ⟨hclk, by rw [onTime_ft]; exact hft ▸ Nat.le_add_right _ _, hmem, hpend⟩
  · obtain ⟨kc, kf, km, kp⟩ := sameClock_notifyPort p t
    exact ⟨kc.trans hc, kf ▸ hf, km.trans hm, kp.trans hp⟩

end Sys2Proof.Machine
end

section
/-! PROOF. The statements about a step, the state after reset and what a write to memory changes. -/

namespace Sys2Proof.Proofs

open Sys2Proof Sys2Proof.Machine

/-- Settles O1. -/
theorem stepRunsFrontCommand : Obligations.StepRunsFrontCommand := by
  unfold Obligations.StepRunsFrontCommand
  intro c rest s
  rfl

/-- Settles O2. -/
theorem emptyQueueTicks : Obligations.EmptyQueueTicks := by
  unfold Obligations.EmptyQueueTicks
  refine ⟨fun s h => ?_, fun s h => tick_of_unpowered h, fun s h => tick_of_powered h⟩
  unfold step
  rw [h]

/-- Settles O3. -/
theorem resetIsSound : Obligations.ResetIsSound := by
  unfold Obligations.ResetIsSound
  exact ⟨reset_sound, rfl, rfl, rfl⟩

/-- Settles O7. -/
theorem memoryWritesOnlyItsSpan : Obligations.MemoryWritesOnlyItsSpan := by
  unfold Obligations.MemoryWritesOnlyItsSpan
  refine ⟨fun a b bs s hs => ?_, fun a n b s hs => ?_⟩
  · rw [writeAt_bytes]
    split
    · next h =>
      obtain ⟨hab, hlen⟩ := h
      conv_lhs => rw [← Nat.add_sub_cancel' hab]
      exact memGet_memSetN_in a (b - a) bs _ hs.1 hlen
    · exact memGet_memSetN_out a b bs _ hs.1 (by omega)
  · rw [zeroAt_bytes, memGet_filter (fun x => decide (x < a) || decide (a + n ≤ x)) b _ hs.1]
    by_cases h : a ≤ b ∧ b < a + n
    · rw [if_pos h, if_neg (by simpa using h)]
    · rw [if_neg h, if_pos (by simp only [Bool.or_eq_true, decide_eq_true_eq]; omega)]

end Sys2Proof.Proofs
end

section
/-! PROOF. Accesses at offsets that no table defines or that lie beyond the control space, and what a write of one field of
a register does. -/

namespace Sys2Proof.Machine

open Sys2Proof

/-! ### Offsets without a register -/

theorem regAt_sem : ∀ n : Fin 64, (regAt (semOffset n.val)).isSome = true := by decide

/-- The semaphores' registers are in the tables, so that an offset without a register is none of theirs (R30, R123). -/
theorem semAt_of_regAt_none {off : Nat} (h : regAt off = none) : semAt off = none := by
  unfold semAt
  split
  · next hs =>
    have hsome := regAt_sem ⟨(off - 0x100) / 4, by omega⟩
    rw [show semOffset ((off - 0x100) / 4) = off by unfold semOffset; omega, h] at hsome
    cases hsome
  · rfl

theorem regValue_of_regAt_none {p off : Nat} {s : State} (h : regAt off = none) : regValue p off s = 0 := by
  unfold regValue
  rw [h]

theorem regWrite_of_regAt_none {p off v : Nat} {s : State} (h : regAt off = none) : regWrite p off v s = s := by
  unfold regWrite
  rw [h]

theorem readAccess_beyond {p off : Nat} {s : State} (h : offsetOk off = false) : readAccess p off s = s := by
  unfold readAccess
  rw [h]
  rfl

theorem writeAccess_beyond {p off v : Nat} {s : State} (h : offsetOk off = false) :
    writeAccess p off v s = if s.powered && s.portUp p then ctrlDiscard p s else s := by
  unfold writeAccess
  rw [h]
  rfl

/-! ### One field written -/

/-- A field that no rule but its access type governs: no enable bit, no Fox trim or FORCE_OUT, no link's DISABLE and not
the shutdown test. -/
def Fld.ordinary (f : Fld) : Prop :=
  enableBits.find? (fun b => b.2.2 == f.cell) = none ∧
    f.cell ∉ foxMacroTrims ++ foxColumnTrims ++ [.FOX_M_HOLD_FORCE_OUT, .PRT_Ln_CTRL_DISABLE, .BIST_SHUT_CTRL_TEST]

@[simp] theorem shiftPause_rg (s : State) (n : RN) (i : Nat) : (shiftPause s).rg n i = s.rg n i := rfl
@[simp] theorem shiftPause_mem (s : State) : (shiftPause s).mem = s.mem := rfl

theorem when_shiftPause_rg (c : Bool) (s : State) (n : RN) (i : Nat) : (when c shiftPause s).rg n i = s.rg n i := by
  cases c <;> rfl

theorem when_shiftPause_mem (c : Bool) (s : State) : (when c shiftPause s).mem = s.mem := by
  cases c <;> rfl

/-- An ordinary field of a type that stores: the cell takes what the type makes of the value, and a change of SHIFT_HOLD
stops the shifts' time. -/
theorem fieldWrite_of_stores {f : Fld} (hf : f.ordinary) (hs : f.acc.stores = true) (p e : Nat) (r : Reg) (v : Nat)
    (s : State) :
    let i := cellIndex p e r f.base s
    let x := fieldTakes f.cell (bits v f.lo (f.hi - f.lo + 1))
    fieldWrite p e r v f s =
      setRg f.cell i (f.acc.afterWrite (s.rg f.cell i) x)
        (when (f.cell == .OWL_X_SHIFT_HOLD && s.rg f.cell i != x) shiftPause s) := by
  obtain ⟨hbit, hcell⟩ := hf
  simp only [List.mem_append, List.mem_cons, List.not_mem_nil, or_false, not_or] at hcell
  obtain ⟨⟨hmacro, hcolumn⟩, hforce, hdisable, htest⟩ := hcell
  unfold fieldWrite offered
  simp only [hbit, hs, htest, false_and, if_false]
  unfold fieldSetsOff
  simp [hmacro, hcolumn, hforce, hdisable]

theorem fieldWrite_of_not_stores {f : Fld} (hs : f.acc.stores = false) (p e : Nat) (r : Reg) (v : Nat) (s : State) :
    fieldWrite p e r v f s = s := by
  unfold fieldWrite
  rw [hs]
  split
  · simp_all
  · simp_all
  · rfl

theorem fieldWrite_rg_self {f : Fld} (hf : f.ordinary) (hs : f.acc.stores = true) (p e : Nat) (r : Reg) (v : Nat) (s : State) :
    (fieldWrite p e r v f s).rg f.cell (cellIndex p e r f.base s) =
      f.acc.afterWrite (s.rg f.cell (cellIndex p e r f.base s)) (fieldTakes f.cell (bits v f.lo (f.hi - f.lo + 1))) %
        2 ^ RN.width f.cell := by
  rw [fieldWrite_of_stores hf hs]
  exact setRg_rg_self ..

theorem fieldWrite_rg_ne {f : Fld} (hf : f.ordinary) (p e : Nat) (r : Reg) (v : Nat) (s : State) {m : RN} {j : Nat}
    (h : (m, j) ≠ (f.cell, cellIndex p e r f.base s)) : (fieldWrite p e r v f s).rg m j = s.rg m j := by
  cases hs : f.acc.stores with
  | true => rw [fieldWrite_of_stores hf hs, setRg_rg_ne _ _ h, when_shiftPause_rg]
  | false => rw [fieldWrite_of_not_stores hs]

theorem fieldWrite_mem {f : Fld} (hf : f.ordinary) (p e : Nat) (r : Reg) (v : Nat) (s : State) :
    (fieldWrite p e r v f s).mem = s.mem := by
  cases hs : f.acc.stores with
  | true => rw [fieldWrite_of_stores hf hs, setRg_mem, when_shiftPause_mem]
  | false => rw [fieldWrite_of_not_stores hs]

theorem runActions_of_none {r : Reg} (h : r.actions = []) (p e v : Nat) (s : State) : runActions p e r v s = s := by
  unfold runActions
  rw [h]
  simp only [List.filter_nil, List.length_nil, Nat.zero_le, true_or, if_true]
  exact (live_cases _ s).elim id id

/-- A write that reaches a register with no rule of its own and no action bits writes its fields one after the other. -/
theorem regWrite_of_plain {p off v e : Nat} {r : Reg} {s : State} (hreg : regAt off = some (r, e))
    (hbar : writeBarred p off s = none) (hown : ownWrite p e off v = none) (hact : r.actions = []) :
    regWrite p off v s = forEach r.fields (fieldWrite p e r v) s := by
  unfold regWrite
  rw [hreg, hbar]
  dsimp only
  rw [hown]
  exact runActions_of_none hact ..

end Sys2Proof.Machine
end

section
/-! PROOF. The statements about undefined offsets and about the fields of a register written. -/

namespace Sys2Proof.Proofs

open Sys2Proof Sys2Proof.Machine

/-- Settles O11. -/
theorem undefinedOffsetsAreSilent : Obligations.UndefinedOffsetsAreSilent := by
  unfold Obligations.UndefinedOffsetsAreSilent
  refine ⟨fun p off s hoff hr hx hreg hlatch => ?_, fun p off v s hoff hr hx hreg => ?_, fun p off v s hoff => ?_⟩
  · refine ⟨_, exec_readClear p off s, ?_⟩
    rw [readAccess_of_usable hoff hr (windowUsable_of_basic hx) (semAt_of_regAt_none hreg), afterRead_none hreg,
      valueRead_of_not_latched hlatch, regValue_of_regAt_none hreg]
    exact ⟨rfl, rfl, rfl, rfl⟩
  · rw [exec_registerWrite, writeAccess_of_usable _ hoff hr (windowUsable_of_basic hx), regWrite_of_regAt_none hreg]
  · rw [exec_readClear, exec_latchedRead, exec_registerWrite, readAccess_beyond hoff, writeAccess_beyond hoff]
    exact ⟨rfl, rfl, rfl⟩

/-- Settles O12: an ordinary field's cell takes what its access type makes of the old value and the new (Table SCP-3). -/
theorem registerWriteSetsItsFields : Obligations.RegisterWriteSetsItsFields := by
  unfold Obligations.RegisterWriteSetsItsFields
  refine ⟨fun p off v r e s hoff hr hw hreg hbar hown hact => ?_, fun p e r v f s hbit hcell => ?_,
    fun p q e r v w f s hplain hrw hbit hcell => ?_⟩
  · rw [exec_registerWrite, writeAccess_of_usable _ hoff hr hw, regWrite_of_plain hreg hbar hown hact]
  · have hf : f.ordinary := ⟨hbit, hcell⟩
    refine ⟨fun ha => ?_, fun ha => ?_, fun ha => ?_, fun ha => ?_, fun m j h => fieldWrite_rg_ne hf p e r v s h,
      fun a => by rw [fieldWrite_mem hf]⟩
    · rw [fieldWrite_rg_self hf (by rw [ha]; rfl), ha]; rfl
    · rw [fieldWrite_rg_self hf (by rw [ha]; rfl), ha]; rfl
    · rw [fieldWrite_rg_self hf (by rw [ha]; rfl), ha]; rfl
    · exact fieldWrite_of_not_stores (by rcases ha with ha | ha | ha <;> rw [ha] <;> rfl) p e r v s
  · have hf : f.ordinary := ⟨hbit, hcell⟩
    have hindex : ∀ t : State, cellIndex q e r f.base t = f.base + e := fun t => by unfold cellIndex; rw [hplain]
    have hstores : f.acc.stores = true := by rw [hrw]; rfl
    rw [hindex s, ← hindex (fieldWrite p e r v f s), fieldWrite_rg_self hf hstores, hrw]
    rfl

end Sys2Proof.Proofs
end

section
/-! PROOF. Which parts of the state an operation touches. The Keep lemmas say what every operation leaves of a sound state;
these say, of any state, that the parts outside a list stay. -/

namespace Sys2Proof.Machine

open Sys2Proof

/-- The parts of the state: its fields, with the register cells told apart by their field's name, and the link states of the
host ports beside the rest of them. -/
inductive StPart where
  | clk | ft | reg (n : RN) | hi | freeCtr | pending | sent | evr | mon | time | comp | onz | link | que | seq | owl | fox | dep
  | park | prt | trf | mem | sec | ras | start | pkg
deriving DecidableEq

/-- A part reads the same in both states. -/
def StPart.Same (s t : State) : StPart → Prop
  | .clk => t.clk = s.clk
  | .ft => t.ft = s.ft
  | .reg n => ∀ i, t.rg n i = s.rg n i
  | .hi => t.hi = s.hi
  | .freeCtr => t.freeCtr = s.freeCtr
  | .pending => t.pending = s.pending
  | .sent => t.sent = s.sent
  | .evr => t.evr = s.evr
  | .mon => t.mon = s.mon
  | .time => t.time = s.time
  | .comp => t.comp = s.comp
  | .onz => t.onzA = s.onzA ∧ t.onzB = s.onzB
  | .link => t.onzA.link = s.onzA.link ∧ t.onzB.link = s.onzB.link
  | .que => t.que = s.que
  | .seq => t.seq = s.seq
  | .owl => t.owl = s.owl
  | .fox => t.fox = s.fox
  | .dep => t.dep = s.dep
  | .park => t.park = s.park
  | .prt => t.prt = s.prt
  | .trf => t.trf = s.trf
  | .mem => t.mem = s.mem
  | .sec => t.sec = s.sec
  | .ras => t.ras = s.ras
  | .start => t.start = s.start
  | .pkg => t.pkg = s.pkg

/-- Every part outside the list reads in `t` as in `s`. -/
def Touches (L : List StPart) (s t : State) : Prop := ∀ p, p ∉ L → p.Same s t

section
variable {L : List StPart} {r s t : State}

theorem touch_refl (L : List StPart) (s : State) : Touches L s s := by
  intro p _
  cases p <;> simp [StPart.Same]

theorem StPart.Same.trans {p : StPart} (h : p.Same r s) (k : p.Same s t) : p.Same r t := by
  cases p
  case reg n => exact fun i => (k i).trans (h i)
  case onz => exact ⟨k.1.trans h.1, k.2.trans h.2⟩
  case link => exact ⟨k.1.trans h.1, k.2.trans h.2⟩
  all_goals exact Eq.trans k h

theorem Touches.trans (h : Touches L r s) (k : Touches L s t) : Touches L r t := fun p hp => (h p hp).trans (k p hp)

theorem Touches.mono {K : List StPart} (h : Touches K s t) (hK : K ⊆ L) : Touches L s t :=
  fun p hp => h p (fun hk => hp (hK hk))

/-! ### What a list of touched parts leaves -/

theorem Touches.clk (h : Touches L s t) (hp : StPart.clk ∉ L) : t.clk = s.clk := h .clk hp
theorem Touches.ft (h : Touches L s t) (hp : StPart.ft ∉ L) : t.ft = s.ft := h .ft hp
theorem Touches.rg (h : Touches L s t) {n : RN} (hp : StPart.reg n ∉ L) (i : Nat) : t.rg n i = s.rg n i := h (.reg n) hp i
theorem Touches.sent (h : Touches L s t) (hp : StPart.sent ∉ L) : t.sent = s.sent := h .sent hp
theorem Touches.evr (h : Touches L s t) (hp : StPart.evr ∉ L) : t.evr = s.evr := h .evr hp
theorem Touches.mon (h : Touches L s t) (hp : StPart.mon ∉ L) : t.mon = s.mon := h .mon hp
theorem Touches.time (h : Touches L s t) (hp : StPart.time ∉ L) : t.time = s.time := h .time hp
theorem Touches.comp (h : Touches L s t) (hp : StPart.comp ∉ L) : t.comp = s.comp := h .comp hp
theorem Touches.que (h : Touches L s t) (hp : StPart.que ∉ L) : t.que = s.que := h .que hp
theorem Touches.seq (h : Touches L s t) (hp : StPart.seq ∉ L) : t.seq = s.seq := h .seq hp
theorem Touches.owl (h : Touches L s t) (hp : StPart.owl ∉ L) : t.owl = s.owl := h .owl hp
theorem Touches.fox (h : Touches L s t) (hp : StPart.fox ∉ L) : t.fox = s.fox := h .fox hp
theorem Touches.dep (h : Touches L s t) (hp : StPart.dep ∉ L) : t.dep = s.dep := h .dep hp
theorem Touches.park (h : Touches L s t) (hp : StPart.park ∉ L) : t.park = s.park := h .park hp
theorem Touches.prt (h : Touches L s t) (hp : StPart.prt ∉ L) : t.prt = s.prt := h .prt hp
theorem Touches.trf (h : Touches L s t) (hp : StPart.trf ∉ L) : t.trf = s.trf := h .trf hp
theorem Touches.mem (h : Touches L s t) (hp : StPart.mem ∉ L) : t.mem = s.mem := h .mem hp
theorem Touches.sec (h : Touches L s t) (hp : StPart.sec ∉ L) : t.sec = s.sec := h .sec hp
theorem Touches.ras (h : Touches L s t) (hp : StPart.ras ∉ L) : t.ras = s.ras := h .ras hp
theorem Touches.start (h : Touches L s t) (hp : StPart.start ∉ L) : t.start = s.start := h .start hp
theorem Touches.pending (h : Touches L s t) (hp : StPart.pending ∉ L) : t.pending = s.pending := h .pending hp

theorem Touches.onz (h : Touches L s t) (hp : StPart.onz ∉ L) (p : Nat) : t.onz p = s.onz p := by
  obtain ⟨ha, hb⟩ := h .onz hp
  unfold State.onz
  rw [ha, hb]

theorem Touches.sameMem (h : Touches L s t) (hp : StPart.mem ∉ L) : SameMem s t := fun a => by rw [h.mem hp]

theorem Touches.link (h : Touches L s t) (hp : StPart.link ∉ L) (p : Nat) : (t.onz p).link = (s.onz p).link := by
  obtain ⟨ha, hb⟩ := h .link hp
  unfold State.onz
  split
  · exact ha
  · exact hb

theorem Touches.portUp (h : Touches L s t) (hp : StPart.link ∉ L) (p : Nat) : t.portUp p = s.portUp p := by
  unfold State.portUp OnzSt.isUp
  rw [h.link hp]

/-- The register fields that a list of parts names. -/
def StPart.regs (L : List StPart) : List RN := L.filterMap (fun p => match p with | .reg n => some n | _ => none)

theorem Touches.sameRegs {but : List RN} (h : Touches L s t) (hbut : StPart.regs L ⊆ but) : SameRegs but s t := by
  intro n i hn
  refine h.rg (fun hmem => hn (hbut ?_)) i
  exact List.mem_filterMap.mpr ⟨.reg n, hmem, rfl⟩

/-! ### Updates -/

theorem touch_setRg {n : RN} {i v : Nat} (hL : [StPart.reg n] ⊆ L) (h : Touches L r s) : Touches L r (setRg n i v s) := by
  refine h.trans fun p hp => ?_
  cases p
  case reg m =>
    have hne : m ≠ n := fun e => hp (hL (by simp [e]))
    exact fun j => setRg_rg_ne v s (fun e => hne (congrArg Prod.fst e))
  all_goals simp [StPart.Same]

theorem touch_setOnz {p : Nat} {o : OnzSt} (hL : [StPart.onz, .link] ⊆ L) (h : Touches L r s) :
    Touches L r (setOnz p o s) := by
  refine h.trans fun q hq => ?_
  cases q
  case onz => exact absurd (hL (by simp)) hq
  case link => exact absurd (hL (by simp)) hq
  case reg n => intro i; unfold State.rg; rw [setOnz_regs]
  all_goals simp [StPart.Same]

/-- A port whose link state stays. -/
theorem touch_setOnz_of_link {p : Nat} {o : OnzSt} (ho : o.link = (s.onz p).link) (hL : [StPart.onz] ⊆ L) (h : Touches L r s) :
    Touches L r (setOnz p o s) := by
  refine h.trans fun q hq => ?_
  cases q
  case onz => exact absurd (hL (by simp)) hq
  case link =>
    unfold State.onz at ho
    unfold setOnz
    split
    · rw [if_pos ‹_›] at ho; exact ⟨ho, rfl⟩
    · rw [if_neg ‹_›] at ho; exact ⟨rfl, ho⟩
  case reg n => intro i; unfold State.rg; rw [setOnz_regs]
  all_goals simp [StPart.Same]

theorem touch_emit {x : Sent} (hL : [StPart.sent] ⊆ L) (h : Touches L r s) : Touches L r (emit x s) := by
  refine h.trans fun p hp => ?_
  cases p
  case sent => exact absurd (hL (by simp)) hp
  case reg n => exact fun i => rfl
  all_goals simp [StPart.Same]

theorem touch_freeTaken (hL : [StPart.freeCtr] ⊆ L) (h : Touches L r s) : Touches L r (freeTaken s) := by
  refine h.trans fun p hp => ?_
  cases p
  case freeCtr => exact absurd (hL (by simp)) hp
  case reg n => exact fun i => rfl
  all_goals simp [StPart.Same]

theorem touch_ft {x : Nat} (hL : [StPart.ft] ⊆ L) (h : Touches L r s) : Touches L r { s with ft := x } :=
  h.trans fun p hp => by
    cases p
    case ft => exact absurd (hL (by simp)) hp
    all_goals simp [StPart.Same, State.rg]

theorem touch_evr {x : EvrSt} (hL : [StPart.evr] ⊆ L) (h : Touches L r s) : Touches L r { s with evr := x } :=
  h.trans fun p hp => by
    cases p
    case evr => exact absurd (hL (by simp)) hp
    all_goals simp [StPart.Same, State.rg]

theorem touch_onEvr {f : EvrSt → EvrSt} (hL : [StPart.evr] ⊆ L) (h : Touches L r s) : Touches L r (onEvr f s) := touch_evr hL h

theorem touch_mon {x : MonSt} (hL : [StPart.mon] ⊆ L) (h : Touches L r s) : Touches L r { s with mon := x } :=
  h.trans fun p hp => by
    cases p
    case mon => exact absurd (hL (by simp)) hp
    all_goals simp [StPart.Same, State.rg]

theorem touch_onMon {f : MonSt → MonSt} (hL : [StPart.mon] ⊆ L) (h : Touches L r s) : Touches L r (onMon f s) := touch_mon hL h

theorem touch_time {x : TimeSt} (hL : [StPart.time] ⊆ L) (h : Touches L r s) : Touches L r { s with time := x } :=
  h.trans fun p hp => by
    cases p
    case time => exact absurd (hL (by simp)) hp
    all_goals simp [StPart.Same, State.rg]

theorem touch_onTime {f : TimeSt → TimeSt} (hL : [StPart.time] ⊆ L) (h : Touches L r s) : Touches L r (onTime f s) := touch_time hL h

theorem touch_comp {x : CompSt} (hL : [StPart.comp] ⊆ L) (h : Touches L r s) : Touches L r { s with comp := x } :=
  h.trans fun p hp => by
    cases p
    case comp => exact absurd (hL (by simp)) hp
    all_goals simp [StPart.Same, State.rg]

theorem touch_onComp {f : CompSt → CompSt} (hL : [StPart.comp] ⊆ L) (h : Touches L r s) : Touches L r (onComp f s) := touch_comp hL h

theorem touch_que {x : QueSt} (hL : [StPart.que] ⊆ L) (h : Touches L r s) : Touches L r { s with que := x } :=
  h.trans fun p hp => by
    cases p
    case que => exact absurd (hL (by simp)) hp
    all_goals simp [StPart.Same, State.rg]

theorem touch_onQue {f : QueSt → QueSt} (hL : [StPart.que] ⊆ L) (h : Touches L r s) : Touches L r (onQue f s) := touch_que hL h

theorem touch_seq {x : SeqSt} (hL : [StPart.seq] ⊆ L) (h : Touches L r s) : Touches L r { s with seq := x } :=
  h.trans fun p hp => by
    cases p
    case seq => exact absurd (hL (by simp)) hp
    all_goals simp [StPart.Same, State.rg]

theorem touch_onSeq {f : SeqSt → SeqSt} (hL : [StPart.seq] ⊆ L) (h : Touches L r s) : Touches L r (onSeq f s) := touch_seq hL h

theorem touch_owl {x : OwlSt} (hL : [StPart.owl] ⊆ L) (h : Touches L r s) : Touches L r { s with owl := x } :=
  h.trans fun p hp => by
    cases p
    case owl => exact absurd (hL (by simp)) hp
    all_goals simp [StPart.Same, State.rg]

theorem touch_onOwl {f : OwlSt → OwlSt} (hL : [StPart.owl] ⊆ L) (h : Touches L r s) : Touches L r (onOwl f s) := touch_owl hL h

theorem touch_fox {x : FoxSt} (hL : [StPart.fox] ⊆ L) (h : Touches L r s) : Touches L r { s with fox := x } :=
  h.trans fun p hp => by
    cases p
    case fox => exact absurd (hL (by simp)) hp
    all_goals simp [StPart.Same, State.rg]

theorem touch_onFox {f : FoxSt → FoxSt} (hL : [StPart.fox] ⊆ L) (h : Touches L r s) : Touches L r (onFox f s) := touch_fox hL h

theorem touch_dep {x : DepSt} (hL : [StPart.dep] ⊆ L) (h : Touches L r s) : Touches L r { s with dep := x } :=
  h.trans fun p hp => by
    cases p
    case dep => exact absurd (hL (by simp)) hp
    all_goals simp [StPart.Same, State.rg]

theorem touch_onDep {f : DepSt → DepSt} (hL : [StPart.dep] ⊆ L) (h : Touches L r s) : Touches L r (onDep f s) := touch_dep hL h

theorem touch_park {x : ParkSt} (hL : [StPart.park] ⊆ L) (h : Touches L r s) : Touches L r { s with park := x } :=
  h.trans fun p hp => by
    cases p
    case park => exact absurd (hL (by simp)) hp
    all_goals simp [StPart.Same, State.rg]

theorem touch_onPark {f : ParkSt → ParkSt} (hL : [StPart.park] ⊆ L) (h : Touches L r s) : Touches L r (onPark f s) := touch_park hL h

theorem touch_prt {x : PrtSt} (hL : [StPart.prt] ⊆ L) (h : Touches L r s) : Touches L r { s with prt := x } :=
  h.trans fun p hp => by
    cases p
    case prt => exact absurd (hL (by simp)) hp
    all_goals simp [StPart.Same, State.rg]

theorem touch_onPrt {f : PrtSt → PrtSt} (hL : [StPart.prt] ⊆ L) (h : Touches L r s) : Touches L r (onPrt f s) := touch_prt hL h

theorem touch_trf {x : TrfSt} (hL : [StPart.trf] ⊆ L) (h : Touches L r s) : Touches L r { s with trf := x } :=
  h.trans fun p hp => by
    cases p
    case trf => exact absurd (hL (by simp)) hp
    all_goals simp [StPart.Same, State.rg]

theorem touch_onTrf {f : TrfSt → TrfSt} (hL : [StPart.trf] ⊆ L) (h : Touches L r s) : Touches L r (onTrf f s) := touch_trf hL h

theorem touch_mem {x : MemSt} (hL : [StPart.mem] ⊆ L) (h : Touches L r s) : Touches L r { s with mem := x } :=
  h.trans fun p hp => by
    cases p
    case mem => exact absurd (hL (by simp)) hp
    all_goals simp [StPart.Same, State.rg]

theorem touch_onMem {f : MemSt → MemSt} (hL : [StPart.mem] ⊆ L) (h : Touches L r s) : Touches L r (onMem f s) := touch_mem hL h

theorem touch_sec {x : SecSt} (hL : [StPart.sec] ⊆ L) (h : Touches L r s) : Touches L r { s with sec := x } :=
  h.trans fun p hp => by
    cases p
    case sec => exact absurd (hL (by simp)) hp
    all_goals simp [StPart.Same, State.rg]

theorem touch_onSec {f : SecSt → SecSt} (hL : [StPart.sec] ⊆ L) (h : Touches L r s) : Touches L r (onSec f s) := touch_sec hL h

theorem touch_ras {x : RasSt} (hL : [StPart.ras] ⊆ L) (h : Touches L r s) : Touches L r { s with ras := x } :=
  h.trans fun p hp => by
    cases p
    case ras => exact absurd (hL (by simp)) hp
    all_goals simp [StPart.Same, State.rg]

theorem touch_onRas {f : RasSt → RasSt} (hL : [StPart.ras] ⊆ L) (h : Touches L r s) : Touches L r (onRas f s) := touch_ras hL h

theorem touch_start {x : StartSt} (hL : [StPart.start] ⊆ L) (h : Touches L r s) : Touches L r { s with start := x } :=
  h.trans fun p hp => by
    cases p
    case start => exact absurd (hL (by simp)) hp
    all_goals simp [StPart.Same, State.rg]

theorem touch_onStart {f : StartSt → StartSt} (hL : [StPart.start] ⊆ L) (h : Touches L r s) : Touches L r (onStart f s) := touch_start hL h

theorem touch_pkg {x : PkgSt} (hL : [StPart.pkg] ⊆ L) (h : Touches L r s) : Touches L r { s with pkg := x } :=
  h.trans fun p hp => by
    cases p
    case pkg => exact absurd (hL (by simp)) hp
    all_goals simp [StPart.Same, State.rg]

theorem touch_onPkg {f : PkgSt → PkgSt} (hL : [StPart.pkg] ⊆ L) (h : Touches L r s) : Touches L r (onPkg f s) := touch_pkg hL h

/-! ### Combinations -/

theorem touch_ite {c : Prop} [Decidable c] {a b : State} (ha : c → Touches L r a) (hb : ¬ c → Touches L r b) :
    Touches L r (if c then a else b) := by
  split
  · exact ha ‹_›
  · exact hb ‹_›

theorem touch_when {c : Bool} {f : State → State} (h : Touches L r s) (hf : ∀ t, Touches L r t → Touches L r (f t)) :
    Touches L r (when c f s) := by
  cases c
  · exact h
  · exact hf s h

theorem touch_whenSome {α : Type} {o : Option α} {f : α → State → State} (h : Touches L r s)
    (hf : ∀ x t, Touches L r t → Touches L r (f x t)) : Touches L r (whenSome o f s) := by
  cases o
  · exact h
  · exact hf _ s h

theorem touch_forEach {α : Type} {l : List α} {f : α → State → State} (h : Touches L r s)
    (hf : ∀ x t, Touches L r t → Touches L r (f x t)) : Touches L r (forEach l f s) :=
  forEach_keeps l f s h hf

theorem touch_foldl {α β : Type} {l : List β} {f : α × State → β → α × State} {a : α × State} (h : Touches L r a.2)
    (hf : ∀ x, Touches L r x.2 → ∀ y, Touches L r (f x y).2) : Touches L r (l.foldl f a).2 := by
  induction l generalizing a with
  | nil => exact h
  | cons y l ih => exact ih (hf a h y)

/-! ### Register counters and events -/

/-- The parts that an event touches, and those that a transfer to or from a host port touches. -/
def evrParts : List StPart := [.evr, .reg .EVR_LOST_COUNT, .reg .EVR_SUPPRESSED_COUNT]
def portParts : List StPart := [.sent, .onz, .freeCtr]

theorem sub_trans {K M L : List StPart} (hL : M ⊆ L) (h : K ⊆ M) : K ⊆ L := fun _ hx => hL (h hx)

theorem sub_one {p : StPart} {M L : List StPart} (hL : M ⊆ L) (h : p ∈ M) : [p] ⊆ L :=
  fun x hx => hL (by rwa [List.mem_singleton.mp hx])

theorem touch_bump {n : RN} {i k : Nat} (hL : [StPart.reg n] ⊆ L) (h : Touches L r s) : Touches L r (bump n i k s) :=
  touch_setRg hL h

theorem touch_wrapUp {n : RN} {i : Nat} (hL : [StPart.reg n] ⊆ L) (h : Touches L r s) : Touches L r (wrapUp n i s) :=
  touch_setRg hL h

theorem touch_peak {n : RN} {i v : Nat} (hL : [StPart.reg n] ⊆ L) (h : Touches L r s) : Touches L r (peak n i v s) :=
  touch_ite (fun _ => touch_setRg hL h) (fun _ => h)

theorem touch_result {st dn : RN} {p code : Nat} (hL : [StPart.reg st, StPart.reg dn] ⊆ L) (h : Touches L r s) :
    Touches L r (result st dn p code s) :=
  touch_setRg (sub_one hL (by simp)) (touch_setRg (sub_one hL (by simp)) h)

theorem touch_addBytes {lo hi : RN} {i n : Nat} (hL : [StPart.reg lo, StPart.reg hi] ⊆ L) (h : Touches L r s) :
    Touches L r (addBytes lo hi i n s) :=
  touch_setRg (sub_one hL (by simp)) (touch_setRg (sub_one hL (by simp)) h)

theorem touch_freshCounts (hL : [StPart.evr] ⊆ L) (h : Touches L r s) : Touches L r (freshCounts s) :=
  touch_ite (fun _ => h) (fun _ => touch_evr hL h)

theorem touch_writeRecord {code : Nat} {car : Option Nat} {items : List Item} (hL : evrParts ⊆ L) (h : Touches L r s) :
    Touches L r (writeRecord code car items s) :=
  touch_when (touch_evr (sub_trans hL (by decide)) h) (fun _ h => touch_bump (sub_trans hL (by decide)) h)

theorem touch_raise {code : Nat} {car : Option Nat} {items : List Item} (hL : evrParts ⊆ L) (h : Touches L r s) :
    Touches L r (raise code car items s) := by
  have hfresh := touch_freshCounts (sub_trans hL (by decide)) h
  exact touch_ite
    (fun _ => touch_evr (sub_trans hL (by decide)) (touch_writeRecord hL hfresh))
    (fun _ => touch_bump (sub_trans hL (by decide)) (touch_evr (sub_trans hL (by decide)) hfresh))

end

end Sys2Proof.Machine
end

section
/-! PROOF. What the shared operations touch: events, transfers to and from the host ports, the end of a command, packets and
notices. -/

namespace Sys2Proof.Machine

open Sys2Proof

variable {L : List StPart} {r : State}

theorem touch_raiseFirst {a0 a1 a2 a3 a4 : _} (hL : evrParts ⊆ L) (ha4 : Touches L r a4) :
    Touches L r (raiseFirst a0 a1 a2 a3 a4) := by
  unfold raiseFirst
  extract_lets -merge +onlyGivenNames y0
  exact touch_ite (fun _ => ha4) (fun _ => touch_raise (sub_trans hL (by decide)) (touch_evr (sub_trans hL (by decide)) ha4))

theorem touch_raiseCar {a0 a1 a2 a3 : _} (hL : evrParts ⊆ L) (ha3 : Touches L r a3) :
    Touches L r (raiseCar a0 a1 a2 a3) := by
  unfold raiseCar
  exact touch_raiseFirst (sub_trans hL (by decide)) ha3

theorem touch_oSendCtl {a0 a1 a2 a3 a4 : _} (hL : [.sent] ⊆ L) (ha4 : Touches L r a4) :
    Touches L r (oSendCtl a0 a1 a2 a3 a4) := by
  unfold oSendCtl
  exact touch_emit (sub_trans hL (by decide)) ha4

theorem touch_returnCredit {a0 a1 a2 a3 : _} (hL : [.sent] ⊆ L) (ha3 : Touches L r a3) :
    Touches L r (returnCredit a0 a1 a2 a3) := by
  unfold returnCredit
  exact touch_oSendCtl (sub_trans hL (by decide)) ha3

theorem touch_answerLeaves {a0 a1 a2 : _} (hL : [.onz, .sent] ⊆ L) (ha2 : Touches L r a2) :
    Touches L r (answerLeaves a0 a1 a2) := by
  unfold answerLeaves
  split
  · extract_lets -merge +onlyGivenNames y0
    exact touch_returnCredit (sub_trans hL (by decide)) (touch_setOnz_of_link rfl (sub_trans hL (by decide)) ha2)
  · exact ha2

theorem touch_oTransmit {a0 a1 a2 : _} (hL : [.onz, .sent] ⊆ L) (ha2 : Touches L r a2) :
    Touches L r (oTransmit a0 a1 a2) := by
  unfold oTransmit
  extract_lets -merge +onlyGivenNames y0 y1 y2
  exact touch_answerLeaves (sub_trans hL (by decide)) (touch_setOnz_of_link rfl (sub_trans hL (by decide)) (touch_emit (sub_trans hL (by decide)) ha2))

theorem touch_oFlushFrom {a0 a1 a2 a3 a4 : _} (hL : [.onz, .sent] ⊆ L) (ha4 : Touches L r a4) :
    Touches L r (oFlushFrom a0 a1 a2 a3 a4) := by
  induction a1 generalizing a2 a3 a4 with
  | nil => exact ha4
  | cons f r ih =>
    unfold oFlushFrom
    exact touch_ite (fun _ => ih (touch_setOnz_of_link rfl (sub_trans hL (by decide)) ha4)) (fun _ => touch_ite (fun _ => ih (touch_setOnz_of_link rfl (sub_trans hL (by decide)) ha4)) (fun _ => ih (touch_oTransmit (sub_trans hL (by decide)) ha4)))

theorem touch_oFlush {a0 a1 : _} (hL : [.onz, .sent] ⊆ L) (ha1 : Touches L r a1) :
    Touches L r (oFlush a0 a1) := by
  unfold oFlush
  extract_lets -merge +onlyGivenNames y0 y1
  exact touch_oFlushFrom (sub_trans hL (by decide)) (touch_setOnz_of_link rfl (sub_trans hL (by decide)) ha1)

theorem touch_oSend {a0 a1 a2 : _} (hL : [.onz, .sent] ⊆ L) (ha2 : Touches L r a2) :
    Touches L r (oSend a0 a1 a2) := by
  unfold oSend
  extract_lets -merge +onlyGivenNames y0
  exact touch_ite (fun _ => touch_oFlush (sub_trans hL (by decide)) (touch_setOnz_of_link rfl (sub_trans hL (by decide)) ha2)) (fun _ => ha2)

theorem touch_memWriteAs {a0 a1 a2 a3 a4 a5 : _} (hL : [.onz, .sent] ⊆ L) (ha5 : Touches L r a5) :
    Touches L r (memWriteAs a0 a1 a2 a3 a4 a5) := by
  unfold memWriteAs
  extract_lets -merge +onlyGivenNames y0
  exact touch_forEach ha5 (fun _ _ h1 => touch_oSend (sub_trans hL (by decide)) h1)

theorem touch_memWriteDue {a0 a1 a2 a3 a4 : _} (hL : [.onz, .sent] ⊆ L) (ha4 : Touches L r a4) :
    Touches L r (memWriteDue a0 a1 a2 a3 a4) := by
  unfold memWriteDue
  exact touch_memWriteAs (sub_trans hL (by decide)) ha4

theorem touch_oIssue {a0 a1 a2 : _} (hL : portParts ⊆ L) (ha2 : Touches L r a2) :
    Touches L r (oIssue a0 a1 a2) := by
  induction a0 generalizing a2 with
  | zero => exact ha2
  | succ n ih =>
    unfold oIssue
    extract_lets -merge +onlyGivenNames y
    split
    · exact ih (touch_oSend (sub_trans hL (by decide)) (touch_setOnz_of_link rfl (sub_trans hL (by decide)) (touch_freeTaken (sub_trans hL (by decide)) ha2)))
    · exact ha2

theorem touch_memRead {a0 a1 a2 a3 a4 : _} (hL : portParts ⊆ L) (ha4 : Touches L r a4) :
    Touches L r (memRead a0 a1 a2 a3 a4) := by
  unfold memRead
  extract_lets -merge +onlyGivenNames y0 x1
  have hx1 : Touches L r x1 := touch_setOnz_of_link rfl (sub_trans hL (by decide)) ha4
  exact touch_oIssue (sub_trans hL (by decide)) hx1

theorem touch_setCmd {a0 a1 a2 : _} (hL : [.que] ⊆ L) (ha2 : Touches L r a2) :
    Touches L r (setCmd a0 a1 a2) := by
  unfold setCmd
  exact touch_onQue (sub_trans hL (by decide)) ha2

theorem touch_noteLost {a0 a1 : _} (hL : evrParts ⊆ L) (ha1 : Touches L r a1) :
    Touches L r (noteLost a0 a1) := by
  unfold noteLost
  exact touch_raise (sub_trans hL (by decide)) ha1

theorem touch_sealRecord {a0 a1 a2 a3 a4 a5 a6 : _} (hL : [.que] ⊆ L) (ha6 : Touches L r a6) :
    Touches L r (sealRecord a0 a1 a2 a3 a4 a5 a6).2 := by
  unfold sealRecord
  extract_lets -merge +onlyGivenNames y0 y1 y2 y3
  exact touch_onQue (sub_trans hL (by decide)) ha6

theorem touch_setCtx {a0 a1 a2 : _} (hL : [.que] ⊆ L) (ha2 : Touches L r a2) :
    Touches L r (setCtx a0 a1 a2) := by
  unfold setCtx
  exact touch_onQue (sub_trans hL (by decide)) ha2

theorem touch_undelivered {a0 a1 : _} (hL : evrParts ++ [.reg .QUE_CQE_DROP, .onz] ⊆ L) (ha1 : Touches L r a1) :
    Touches L r (undelivered a0 a1) := by
  unfold undelivered
  extract_lets -merge +onlyGivenNames y0 y1
  exact touch_when (touch_setOnz_of_link rfl (sub_trans hL (by decide)) (touch_bump (sub_trans hL (by decide)) ha1)) (fun _ h2 => touch_raise (sub_trans hL (by decide)) h2)

theorem touch_sendIrq {a0 a1 : _} (hL : evrParts ++ [.que, .reg .QUE_CQE_DROP, .onz, .sent] ⊆ L) (ha1 : Touches L r a1) :
    Touches L r (sendIrq a0 a1) := by
  unfold sendIrq
  extract_lets -merge +onlyGivenNames y0 y1 x2
  have hx2 : Touches L r x2 := touch_setCtx (sub_trans hL (by decide)) ha1
  exact touch_ite (fun _ => touch_memWriteDue (sub_trans hL (by decide)) hx2) (fun _ => touch_undelivered (sub_trans hL (by decide)) hx2)

theorem touch_writeCqe {a0 a1 a2 a3 a4 : _} (hL : evrParts ++ [.reg .QUE_CQE_DROP, .onz, .que, .sent] ⊆ L) (ha4 : Touches L r a4) :
    Touches L r (writeCqe a0 a1 a2 a3 a4) := by
  unfold writeCqe
  extract_lets -merge +onlyGivenNames y0 y1 y2 y3 y4 x5 x6 y7 y8 y9
  have hx5 : Touches L r x5.2 := touch_sealRecord (sub_trans hL (by decide)) ha4
  have hx6 : Touches L r x6 := touch_ite (fun _ => touch_memWriteDue (sub_trans hL (by decide)) hx5) (fun _ => touch_memWriteDue (sub_trans hL (by decide)) ha4)
  exact touch_ite (fun _ => touch_undelivered (sub_trans hL (by decide)) ha4) (fun _ => touch_when (touch_setCtx (sub_trans hL (by decide)) hx6) (fun _ h10 => touch_sendIrq (sub_trans hL (by decide)) h10))

theorem touch_countStale {a0 : _} (hL : evrParts ++ [.reg .CMP_STALE_CNT_COUNT, .comp] ⊆ L) (ha0 : Touches L r a0) :
    Touches L r (countStale a0) := by
  unfold countStale
  extract_lets -merge +onlyGivenNames y0 y1
  exact touch_when (touch_bump (sub_trans hL (by decide)) (touch_comp (sub_trans hL (by decide)) ha0)) (fun _ h2 => touch_raise (sub_trans hL (by decide)) h2)

theorem touch_noteMember {a0 a1 a2 : _} (hL : [.que] ⊆ L) (ha2 : Touches L r a2) :
    Touches L r (noteMember a0 a1 a2) := by
  unfold noteMember
  split
  · exact ha2
  · extract_lets -merge +onlyGivenNames y0 y1 y2
    exact touch_onQue (sub_trans hL (by decide)) ha2

theorem touch_complete {a0 a1 a2 a3 a4 : _} (hL : evrParts ++ [.reg .RAS_C_ABORTED_COUNT, .que, .reg .QUE_CQE_DROP, .onz, .sent, .reg .CMP_STALE_CNT_COUNT, .comp, .seq] ⊆ L) (ha4 : Touches L r a4) :
    Touches L r (complete a0 a1 a2 a3 a4) := by
  unfold complete
  split
  · exact ha4
  · extract_lets -merge +onlyGivenNames x0 x1 y2 x3 x4 x6 x8
    have hx0 : Touches L r x0 := touch_onQue (sub_trans hL (by decide)) ha4
    have hx1 : Touches L r x1 := touch_onSeq (sub_trans hL (by decide)) hx0
    have hx3 : Touches L r x3 := touch_setCtx (sub_trans hL (by decide)) hx1
    have hx4 : Touches L r x4 := touch_when hx3 (fun _ h5 => touch_bump (sub_trans hL (by decide)) h5)
    have hx6 : Touches L r x6 := touch_when hx4 (fun _ h7 => touch_countStale (sub_trans hL (by decide)) h7)
    have hx8 : Touches L r x8 := touch_ite (fun _ => hx6) (fun _ => touch_writeCqe (sub_trans hL (by decide)) hx6)
    clear_value y2
    split
    · exact hx8
    · exact touch_noteMember (sub_trans hL (by decide)) hx8

theorem touch_completeReason {a0 a1 a2 a3 : _} (hL : evrParts ++ [.reg .RAS_C_ABORTED_COUNT, .que, .reg .QUE_CQE_DROP, .onz, .sent, .reg .CMP_STALE_CNT_COUNT, .comp, .seq] ⊆ L) (ha3 : Touches L r a3) :
    Touches L r (completeReason a0 a1 a2 a3) := by
  unfold completeReason
  exact touch_complete (sub_trans hL (by decide)) ha3

theorem touch_staleEnd {a0 a1 a2 a3 : _} (hL : evrParts ++ [.reg .RAS_C_ABORTED_COUNT, .que, .reg .QUE_CQE_DROP, .onz, .sent, .reg .CMP_STALE_CNT_COUNT, .comp, .seq] ⊆ L) (ha2 : ∀ x0 x1, Touches L r x1 → Touches L r (a2 x0 x1)) (ha3 : Touches L r a3) :
    Touches L r (staleEnd a0 a1 a2 a3) := by
  unfold staleEnd
  extract_lets -merge +onlyGivenNames y0 x1
  have hx1 : Touches L r x1 := ha2 _ _ (touch_setCmd (sub_trans hL (by decide)) ha3)
  exact touch_ite (fun _ => hx1) (fun _ => touch_complete (sub_trans hL (by decide)) ha3)

theorem touch_withCmd {a0 a1 a2 a3 a4 : _} (hL : evrParts ++ [.reg .RAS_C_ABORTED_COUNT, .que, .reg .QUE_CQE_DROP, .onz, .sent, .reg .CMP_STALE_CNT_COUNT, .comp, .seq] ⊆ L) (ha3 : ∀ x0 x1, Touches L r x1 → Touches L r (a3 x0 x1)) (ha4 : Touches L r a4) :
    Touches L r (withCmd a0 a1 a2 a3 a4) := by
  unfold withCmd
  split
  · exact ha4
  · refine touch_ite (fun _ => ?_) (fun _ => ?_)
    · exact ha4
    · split
      · exact touch_ite (fun _ => touch_staleEnd (sub_trans hL (by decide)) ha3 ha4) (fun _ => touch_complete (sub_trans hL (by decide)) ha4)
      · exact ha3 _ _ ha4

theorem touch_stopQueue {a0 a1 a2 a3 : _} (hL : evrParts ++ [.que, .reg .QUE_CQE_DROP, .onz, .sent] ⊆ L) (ha3 : Touches L r a3) :
    Touches L r (stopQueue a0 a1 a2 a3) := by
  unfold stopQueue
  extract_lets -merge +onlyGivenNames y0 x1 y2 x3
  have hx1 : Touches L r x1 := touch_setCtx (sub_trans hL (by decide)) ha3
  have hx3 : Touches L r x3 := touch_onQue (sub_trans hL (by decide)) hx1
  exact touch_ite (fun _ => ha3) (fun _ => touch_when (touch_raise (sub_trans hL (by decide)) hx3) (fun _ h4 => touch_sendIrq (sub_trans hL (by decide)) h4))

theorem touch_setLinkTime {a0 a1 a2 : _} (hL : [.time] ⊆ L) (ha2 : Touches L r a2) :
    Touches L r (setLinkTime a0 a1 a2) := by
  unfold setLinkTime
  exact touch_onTime (sub_trans hL (by decide)) ha2

theorem touch_captureDeparture {a0 a1 a2 : _} (hL : [.time, .freeCtr] ⊆ L) (ha2 : Touches L r a2) :
    Touches L r (captureDeparture a0 a1 a2) := by
  unfold captureDeparture
  extract_lets -merge +onlyGivenNames y0
  exact touch_ite (fun _ => touch_freeTaken (sub_trans hL (by decide)) (touch_setLinkTime (sub_trans hL (by decide)) ha2)) (fun _ => ha2)

theorem touch_linkEmit {a0 a1 a2 : _} (hL : [.reg .PRT_Ln_TX_LO_BYTES_LO, .reg .PRT_Ln_TX_HI_BYTES_HI, .sent] ⊆ L) (ha2 : Touches L r a2) :
    Touches L r (linkEmit a0 a1 a2) := by
  unfold linkEmit
  exact touch_addBytes (sub_trans hL (by decide)) (touch_emit (sub_trans hL (by decide)) ha2)

theorem touch_setLink {a0 a1 a2 : _} (hL : [.prt] ⊆ L) (ha2 : Touches L r a2) :
    Touches L r (setLink a0 a1 a2) := by
  unfold setLink
  extract_lets -merge +onlyGivenNames y0
  exact touch_prt (sub_trans hL (by decide)) ha2

theorem touch_linkTransmit {a0 a1 a2 a3 a4 a5 : _} (hL : [.reg .PRT_Ln_TX_LO_BYTES_LO, .reg .PRT_Ln_TX_HI_BYTES_HI, .sent, .prt] ⊆ L) (ha5 : Touches L r a5) :
    Touches L r (linkTransmit a0 a1 a2 a3 a4 a5) := by
  unfold linkTransmit
  extract_lets -merge +onlyGivenNames y0 y1
  exact touch_linkEmit (sub_trans hL (by decide)) (touch_setLink (sub_trans hL (by decide)) ha5)

theorem touch_setShaper {a0 a1 a2 : _} (hL : [.trf] ⊆ L) (ha2 : Touches L r a2) :
    Touches L r (setShaper a0 a1 a2) := by
  unfold setShaper
  extract_lets -merge +onlyGivenNames y0
  exact touch_trf (sub_trans hL (by decide)) ha2

theorem touch_shaperTake {a0 a1 a2 : _} (hL : [.trf] ⊆ L) (ha2 : Touches L r a2) :
    Touches L r (shaperTake a0 a1 a2) := by
  unfold shaperTake
  extract_lets -merge +onlyGivenNames y0 y1
  exact touch_ite (fun _ => ha2) (fun _ => touch_setShaper (sub_trans hL (by decide)) ha2)

theorem touch_cmpRefused {a0 : _} (hL : evrParts ⊆ L) (ha0 : Touches L r a0) :
    Touches L r (cmpRefused a0) := by
  unfold cmpRefused
  exact touch_raise (sub_trans hL (by decide)) ha0

theorem touch_setCmp {a0 a1 : _} (hL : [.reg .CMP_STATUS_STATE] ⊆ L) (ha1 : Touches L r a1) :
    Touches L r (setCmp a0 a1) := by
  unfold setCmp
  exact touch_setRg (sub_trans hL (by decide)) ha1

theorem touch_cmpInvalid {a0 a1 a2 : _} (hL : evrParts ++ [.reg .CMP_STATUS_CHECK, .reg .CMP_STATUS_TAG, .reg .CMP_STATUS_STATE, .comp] ⊆ L) (ha2 : Touches L r a2) :
    Touches L r (cmpInvalid a0 a1 a2) := by
  unfold cmpInvalid
  exact touch_raise (sub_trans hL (by decide)) (touch_onComp (sub_trans hL (by decide)) (touch_setRg (sub_trans hL (by decide)) (touch_setRg (sub_trans hL (by decide)) (touch_setCmp (sub_trans hL (by decide)) ha2))))

end Sys2Proof.Machine
end

section
/-! PROOF. The register cells and host ports under each update of the state, as Laws/State.lean has its fields. -/

namespace Sys2Proof.Machine

open Sys2Proof

@[simp] theorem onEvr_rg (f : EvrSt → EvrSt) (s : State) (n : RN) (i : Nat) : (onEvr f s).rg n i = s.rg n i := rfl
@[simp] theorem onMon_rg (f : MonSt → MonSt) (s : State) (n : RN) (i : Nat) : (onMon f s).rg n i = s.rg n i := rfl
@[simp] theorem onTime_rg (f : TimeSt → TimeSt) (s : State) (n : RN) (i : Nat) : (onTime f s).rg n i = s.rg n i := rfl
@[simp] theorem onComp_rg (f : CompSt → CompSt) (s : State) (n : RN) (i : Nat) : (onComp f s).rg n i = s.rg n i := rfl
@[simp] theorem onQue_rg (f : QueSt → QueSt) (s : State) (n : RN) (i : Nat) : (onQue f s).rg n i = s.rg n i := rfl
@[simp] theorem onSeq_rg (f : SeqSt → SeqSt) (s : State) (n : RN) (i : Nat) : (onSeq f s).rg n i = s.rg n i := rfl
@[simp] theorem onOwl_rg (f : OwlSt → OwlSt) (s : State) (n : RN) (i : Nat) : (onOwl f s).rg n i = s.rg n i := rfl
@[simp] theorem onFox_rg (f : FoxSt → FoxSt) (s : State) (n : RN) (i : Nat) : (onFox f s).rg n i = s.rg n i := rfl
@[simp] theorem onDep_rg (f : DepSt → DepSt) (s : State) (n : RN) (i : Nat) : (onDep f s).rg n i = s.rg n i := rfl
@[simp] theorem onPark_rg (f : ParkSt → ParkSt) (s : State) (n : RN) (i : Nat) : (onPark f s).rg n i = s.rg n i := rfl
@[simp] theorem onPrt_rg (f : PrtSt → PrtSt) (s : State) (n : RN) (i : Nat) : (onPrt f s).rg n i = s.rg n i := rfl
@[simp] theorem onTrf_rg (f : TrfSt → TrfSt) (s : State) (n : RN) (i : Nat) : (onTrf f s).rg n i = s.rg n i := rfl
@[simp] theorem onMem_rg (f : MemSt → MemSt) (s : State) (n : RN) (i : Nat) : (onMem f s).rg n i = s.rg n i := rfl
@[simp] theorem onSec_rg (f : SecSt → SecSt) (s : State) (n : RN) (i : Nat) : (onSec f s).rg n i = s.rg n i := rfl
@[simp] theorem onRas_rg (f : RasSt → RasSt) (s : State) (n : RN) (i : Nat) : (onRas f s).rg n i = s.rg n i := rfl
@[simp] theorem onStart_rg (f : StartSt → StartSt) (s : State) (n : RN) (i : Nat) : (onStart f s).rg n i = s.rg n i := rfl
@[simp] theorem onPkg_rg (f : PkgSt → PkgSt) (s : State) (n : RN) (i : Nat) : (onPkg f s).rg n i = s.rg n i := rfl

@[simp] theorem onEvr_onz (f : EvrSt → EvrSt) (s : State) (p : Nat) : (onEvr f s).onz p = s.onz p := rfl
@[simp] theorem onMon_onz (f : MonSt → MonSt) (s : State) (p : Nat) : (onMon f s).onz p = s.onz p := rfl
@[simp] theorem onTime_onz (f : TimeSt → TimeSt) (s : State) (p : Nat) : (onTime f s).onz p = s.onz p := rfl
@[simp] theorem onComp_onz (f : CompSt → CompSt) (s : State) (p : Nat) : (onComp f s).onz p = s.onz p := rfl
@[simp] theorem onQue_onz (f : QueSt → QueSt) (s : State) (p : Nat) : (onQue f s).onz p = s.onz p := rfl
@[simp] theorem onSeq_onz (f : SeqSt → SeqSt) (s : State) (p : Nat) : (onSeq f s).onz p = s.onz p := rfl
@[simp] theorem onOwl_onz (f : OwlSt → OwlSt) (s : State) (p : Nat) : (onOwl f s).onz p = s.onz p := rfl
@[simp] theorem onFox_onz (f : FoxSt → FoxSt) (s : State) (p : Nat) : (onFox f s).onz p = s.onz p := rfl
@[simp] theorem onDep_onz (f : DepSt → DepSt) (s : State) (p : Nat) : (onDep f s).onz p = s.onz p := rfl
@[simp] theorem onPark_onz (f : ParkSt → ParkSt) (s : State) (p : Nat) : (onPark f s).onz p = s.onz p := rfl
@[simp] theorem onPrt_onz (f : PrtSt → PrtSt) (s : State) (p : Nat) : (onPrt f s).onz p = s.onz p := rfl
@[simp] theorem onTrf_onz (f : TrfSt → TrfSt) (s : State) (p : Nat) : (onTrf f s).onz p = s.onz p := rfl
@[simp] theorem onMem_onz (f : MemSt → MemSt) (s : State) (p : Nat) : (onMem f s).onz p = s.onz p := rfl
@[simp] theorem onSec_onz (f : SecSt → SecSt) (s : State) (p : Nat) : (onSec f s).onz p = s.onz p := rfl
@[simp] theorem onRas_onz (f : RasSt → RasSt) (s : State) (p : Nat) : (onRas f s).onz p = s.onz p := rfl
@[simp] theorem onStart_onz (f : StartSt → StartSt) (s : State) (p : Nat) : (onStart f s).onz p = s.onz p := rfl
@[simp] theorem onPkg_onz (f : PkgSt → PkgSt) (s : State) (p : Nat) : (onPkg f s).onz p = s.onz p := rfl

@[simp] theorem emit_rg (x : Sent) (s : State) (n : RN) (i : Nat) : (emit x s).rg n i = s.rg n i := rfl
@[simp] theorem emit_onz (x : Sent) (s : State) (p : Nat) : (emit x s).onz p = s.onz p := rfl
@[simp] theorem freeTaken_rg (s : State) (n : RN) (i : Nat) : (freeTaken s).rg n i = s.rg n i := rfl
@[simp] theorem freeTaken_onz (s : State) (p : Nat) : (freeTaken s).onz p = s.onz p := rfl
@[simp] theorem setRg_onz (n : RN) (i v : Nat) (s : State) (p : Nat) : (setRg n i v s).onz p = s.onz p := rfl

@[simp] theorem setOnz_rg (p : Nat) (o : OnzSt) (s : State) (n : RN) (i : Nat) : (setOnz p o s).rg n i = s.rg n i := by
  unfold State.rg
  rw [setOnz_regs]

@[simp] theorem setRg_rg (n : RN) (i v : Nat) (s : State) (m : RN) (j : Nat) :
    (setRg n i v s).rg m j = if m = n ∧ j = i then v % 2 ^ RN.width n else s.rg m j := by
  split
  · next h => rw [h.1, h.2, setRg_rg_self]
  · next h => exact setRg_rg_ne v s (fun e => h (Prod.mk.inj e))

@[simp] theorem raise_rg_of_ne (code : Nat) (car : Option Nat) (items : List Item) (s : State) (n : RN) (i : Nat)
    (h1 : n ≠ .EVR_LOST_COUNT) (h2 : n ≠ .EVR_SUPPRESSED_COUNT) : (raise code car items s).rg n i = s.rg n i :=
  raise_rg code car items s n i h1 h2

end Sys2Proof.Machine
end

section
/-! PROOF. The commands of spec/02_composition.md that stage, validate and commit an image, and the expert unlocks. -/

namespace Sys2Proof.Machine

open Sys2Proof

section
variable {L : List StPart} {r : State}

theorem touch_stage {a0 a1 : _} (hL : evrParts ++ portParts ++ [.reg .CMP_STATUS_CHECK, .reg .CMP_STATUS_TAG, .reg .CMP_STATUS_STATE, .comp] ⊆ L) (ha1 : Touches L r a1) :
    Touches L r (stage a0 a1) := by
  unfold stage
  extract_lets -merge +onlyGivenNames y0 y1 x2
  have hx2 : Touches L r x2 := touch_onComp (sub_trans hL (by decide)) (touch_setRg (sub_trans hL (by decide)) (touch_setRg (sub_trans hL (by decide)) (touch_setCmp (sub_trans hL (by decide)) ha1)))
  exact touch_ite (fun _ => touch_cmpRefused (sub_trans hL (by decide)) ha1) (fun _ => touch_ite (fun _ => touch_cmpInvalid (sub_trans hL (by decide)) ha1) (fun _ => touch_ite (fun _ => touch_forEach hx2 (fun _ _ h3 => touch_memRead (sub_trans hL (by decide)) h3)) (fun _ => hx2)))

theorem touch_imageFetchDone {a0 : _} (hL : evrParts ++ [.reg .CMP_STATUS_CHECK, .reg .CMP_STATUS_TAG, .reg .CMP_STATUS_STATE, .comp] ⊆ L) (ha0 : Touches L r a0) :
    Touches L r (imageFetchDone a0) := by
  unfold imageFetchDone
  split
  · exact ha0
  · exact touch_ite (fun _ => ha0) (fun _ => touch_ite (fun _ => touch_onComp (sub_trans hL (by decide)) (touch_setCmp (sub_trans hL (by decide)) ha0)) (fun _ => touch_cmpInvalid (sub_trans hL (by decide)) ha0))

theorem touch_imageValidated {a0 : _} (hL : evrParts ++ [.reg .CMP_STATUS_CHECK, .reg .CMP_STATUS_TAG, .reg .CMP_STATUS_STATE, .comp] ⊆ L) (ha0 : Touches L r a0) :
    Touches L r (imageValidated a0) := by
  unfold imageValidated
  refine touch_ite (fun _ => ?_) (fun _ => ?_)
  · exact ha0
  · split
    · exact touch_cmpInvalid (sub_trans hL (by decide)) ha0
    · exact touch_raise (sub_trans hL (by decide)) (touch_onComp (sub_trans hL (by decide)) (touch_setCmp (sub_trans hL (by decide)) ha0))

theorem touch_commitDone {a0 a1 : _} (hL : evrParts ++ [.reg .CMP_STATUS_COMMIT_BUSY, .comp, .sec] ⊆ L) (ha1 : Touches L r a1) :
    Touches L r (commitDone a0 a1) := by
  unfold commitDone
  split
  · exact ha1
  · exact touch_raise (sub_trans hL (by decide)) (touch_when (touch_onComp (sub_trans hL (by decide)) (touch_setRg (sub_trans hL (by decide)) ha1)) (fun _ h0 => touch_onSec (sub_trans hL (by decide)) h0))
end

/-! ### The composition state -/

@[simp] theorem setCmp_rg (v : Nat) (s : State) (n : RN) (i : Nat) :
    (setCmp v s).rg n i = if n = .CMP_STATUS_STATE ∧ i = 0 then v % 2 ^ RN.width .CMP_STATUS_STATE else s.rg n i :=
  setRg_rg ..
@[simp] theorem setCmp_comp (v : Nat) (s : State) : (setCmp v s).comp = s.comp := rfl
@[simp] theorem setCmp_mem (v : Nat) (s : State) : (setCmp v s).mem = s.mem := rfl
@[simp] theorem setCmp_sec (v : Nat) (s : State) : (setCmp v s).sec = s.sec := rfl

theorem cmp_width : RN.width .CMP_STATUS_STATE = 4 ∧ RN.width .CMP_STATUS_CHECK = 8 ∧ RN.width .CMP_STATUS_TAG = 16 ∧
    RN.width .CMP_STATUS_COMMIT_BUSY = 1 := by decide

theorem cmpInvalid_cmp (check tag : Nat) (s : State) : (cmpInvalid check tag s).cmp = 4 := by
  simp [cmpInvalid, State.cmp, cmp_width]

theorem cmpInvalid_check (check tag : Nat) (s : State) :
    (cmpInvalid check tag s).rg .CMP_STATUS_CHECK 0 = check % 2 ^ RN.width .CMP_STATUS_CHECK := by
  simp [cmpInvalid]

theorem cmpInvalid_tag (check tag : Nat) (s : State) :
    (cmpInvalid check tag s).rg .CMP_STATUS_TAG 0 = tag % 2 ^ RN.width .CMP_STATUS_TAG := by
  simp [cmpInvalid]

theorem cmpInvalid_comp (check tag : Nat) (s : State) :
    (cmpInvalid check tag s).comp = { s.comp with fetch := none, staged := none } := by
  simp [cmpInvalid]

/-! ### STAGE to COMMIT_DONE -/

theorem stage_refused {p : Nat} {s : State} (h : s.holdsSem p 0 = false ∨ stageRefused s.cmp = true) :
    stage p s = cmpRefused s := by
  unfold stage
  exact if_pos h

/-- STAGE that is not refused reaches FETCHING, or INVALID for its length; the reads it asks for do not touch the state. -/
theorem stage_cmp {p : Nat} {s : State} (hsem : s.holdsSem p 0 = true) (hst : stageRefused s.cmp = false) :
    (stage p s).cmp = if s.rg .CMP_SRC_LEN_LEN 0 < 256 ∨ 4194304 < s.rg .CMP_SRC_LEN_LEN 0 then 4 else 1 := by
  unfold stage
  extract_lets -merge +onlyGivenNames len addr t
  rw [if_neg (by simp [hsem, hst])]
  split
  · exact cmpInvalid_cmp 1 0 s
  · have ht : t.cmp = 1 := by simp [t, State.cmp, cmp_width]
    split
    · have hreads := touch_forEach (L := portParts) (l := List.range (ceilDiv len 4096)) (touch_refl _ t)
        (fun i u hu => touch_memRead (a0 := p) (a1 := .image (4096 * i) (min 4096 (len - 4096 * i))) (a2 := addr + 4096 * i)
          (a3 := ceilDiv (min 4096 (len - 4096 * i)) 4 * 4) (fun _ h => h) hu)
      exact (hreads.rg (by decide) 0).trans ht
    · exact ht

/-- IMAGE_FETCH_DONE with every read answered: VALIDATING with all the bytes, INVALID with CHECK 1 without. -/
theorem imageFetchDone_of_answered {p len got : Nat} {s : State} (hf : s.comp.fetch = some (p, len, got))
    (hw : imageWaits (s.onz p) = false) :
    imageFetchDone s = if got = len then onComp (fun c => { c with fetch := none }) (setCmp 2 s) else cmpInvalid 1 0 s := by
  unfold imageFetchDone
  rw [hf]
  simp [hw]

theorem imageValidated_ok {im : Image} {s : State} (hst : s.cmp = 2)
    (h : validate s s.comp.staging s.comp.staging.length s.comp.image.isSome = .ok im) :
    imageValidated s = raise 0x0201 none [] (onComp (fun c => { c with staged := some im }) (setCmp 3 s)) := by
  unfold imageValidated
  rw [if_neg (by simp [hst]), h]

theorem imageValidated_error {x : Nat × Nat} {s : State} (hst : s.cmp = 2)
    (h : validate s s.comp.staging s.comp.staging.length s.comp.image.isSome = .error x) :
    imageValidated s = cmpInvalid x.1 x.2 s := by
  unfold imageValidated
  rw [if_neg (by simp [hst]), h]

theorem imageValidated_image (s : State) : (imageValidated s).comp.image = s.comp.image := by
  unfold imageValidated
  split
  · rfl
  · split
    · rw [cmpInvalid_comp]
    · simp

theorem commit_of_taken {p : Nat} {s : State} (hsem : s.holdsSem p 0 = true) (him : s.comp.image ≠ none)
    (hbusy : s.rg .CMP_STATUS_COMMIT_BUSY 0 ≠ 1) :
    commit p s = onComp (fun c => { c with commit := some s.im.raw }) (setRg .CMP_STATUS_COMMIT_BUSY 0 1 s) := by
  unfold commit
  exact if_neg (by simp [hsem, him, hbusy])

theorem commitDone_of_running {ok : Bool} {b : List Byte} {s : State} (h : s.comp.commit = some b) :
    commitDone ok s = raise 0x020A none []
      (when ok (onSec (fun x => { x with flash := { x.flash with composition := b } }))
        (onComp (fun c => { c with commit := none }) (setRg .CMP_STATUS_COMMIT_BUSY 0 0 s))) := by
  unfold commitDone
  rw [h]

/-! ### Commands that only a running node makes -/

theorem done_live {f : State → State} {s : State} (hl : s.live = true) : done (live f s) = .next (f s) := by
  rw [live_of_live _ _ hl]
  rfl

theorem done_live_access {p : Port} {off : Nat} {f : State → State} {s : State} (hl : s.live = true) (hr : Reaches p off s) :
    done (live (access p.idx off f) s) = .next (f s) := by
  rw [done_live hl, access_of_reaches _ _ _ _ hr.1 hr.2.1 hr.2.2]

end Sys2Proof.Machine
end

section
/-! PROOF. The statement about staging, validation and commitment of spec/02_composition.md. -/

namespace Sys2Proof.Proofs

open Sys2Proof Sys2Proof.Machine

/-- Settles O15. -/
theorem compositionIsStagedAndCommitted : Obligations.CompositionIsStagedAndCommitted := by
  unfold Obligations.CompositionIsStagedAndCommitted
  refine ⟨fun p s hl hr hsem hst => ?stage, fun p s hl hr h => ?refused, fun p len got s hl hf hw => ?fetched,
    fun s hl hst => ?validated, fun s hl hst => ?loaded, fun p s hl hr hsem him hbusy => ?commit, fun ok b s hl hc => ?done⟩
  case stage =>
    have ht := touch_stage (a0 := p.idx) (fun _ h => h) (touch_refl _ s)
    exact ⟨_, done_live_access hl hr, ht.sameMem (by decide), ht.seq (by decide), stage_cmp hsem hst⟩
  case refused => rw [← cmpRefused, ← stage_refused h]; exact done_live_access hl hr
  case fetched =>
    have ht := touch_imageFetchDone (fun _ h => h) (touch_refl _ s)
    refine ⟨_, done_live hl, ?_, ?_, ?_, ?_, ht.sameMem (by decide)⟩ <;>
      rw [imageFetchDone_of_answered hf hw] <;> split
    · rfl
    · rw [cmpInvalid_comp]
    · simp [State.cmp, cmp_width]
    · exact cmpInvalid_cmp 1 0 s
    · simp
    · exact cmpInvalid_check 1 0 s
    · rfl
    · rw [cmpInvalid_comp]
  case validated =>
    have ht := touch_imageValidated (fun _ h => h) (touch_refl _ s)
    refine ⟨_, done_live hl, imageValidated_image s, ht.sameMem (by decide), fun im him => ?_, fun check tag herr => ?_⟩
    · rw [imageValidated_ok hst him]
      exact ⟨by simp [State.cmp, cmp_width], by simp, _, rfl⟩
    · rw [imageValidated_error hst herr]
      exact ⟨cmpInvalid_cmp .., by rw [cmpInvalid_comp], cmpInvalid_check .., cmpInvalid_tag ..⟩
  case loaded =>
    refine (done_live hl).trans ?_
    unfold shadowTablesLoaded
    rw [if_pos hst]
  case commit =>
    refine ⟨_, done_live_access hl hr, ?_⟩
    rw [commit_of_taken hsem him hbusy]
    have ht := touch_onComp (f := fun c => { c with commit := some s.im.raw }) (L := [.comp, .reg .CMP_STATUS_COMMIT_BUSY])
      (by decide) (touch_setRg (n := .CMP_STATUS_COMMIT_BUSY) (i := 0) (v := 1) (by decide) (touch_refl _ s))
    exact ⟨by simp [cmp_width], rfl, ht.sameRegs (by decide), rfl, ht.sameMem (by decide)⟩
  case done =>
    refine ⟨_, done_live hl, ?_⟩
    have ht := touch_commitDone (a0 := ok) (fun _ h => h) (touch_refl _ s)
    refine ⟨?_, ?_, ?_, ?_, ht.sameRegs (by decide), ht.sameMem (by decide), ?_⟩ <;> rw [commitDone_of_running hc]
    · cases ok <;> simp [when]
    · cases ok <;> simp [when]
    · rintro rfl; simp [when]
    · rintro rfl; simp [when]
    · exact ⟨_, rfl⟩

end Sys2Proof.Proofs
end

section
/-! PROOF. Expert unlocks, the arming and cancelling of a switch, and the steps of a switch (R54 to R60, R70, R71). -/

namespace Sys2Proof.Machine

open Sys2Proof

section
variable {L : List StPart} {r : State}

theorem touch_endUnlock {a0 a1 : _} (hL : evrParts ++ [.reg .CMP_EXPERT_UNLOCK_BLOCKS, .comp] ⊆ L) (ha1 : Touches L r a1) :
    Touches L r (endUnlock a0 a1) := by
  unfold endUnlock
  exact touch_ite (fun _ => touch_raise (sub_trans hL (by decide)) (touch_setRg (sub_trans hL (by decide)) (touch_onComp (sub_trans hL (by decide)) ha1))) (fun _ => ha1)

theorem touch_setEvt {a0 a1 a2 : _} (hL : [.time] ⊆ L) (ha2 : Touches L r a2) :
    Touches L r (setEvt a0 a1 a2) := by
  unfold setEvt
  exact touch_onTime (sub_trans hL (by decide)) ha2

theorem touch_evtTake {a0 a1 a2 a3 a4 a5 a6 : _} (hL : [.time, .freeCtr] ⊆ L) (ha6 : Touches L r a6) :
    Touches L r (evtTake a0 a1 a2 a3 a4 a5 a6) := by
  unfold evtTake
  exact touch_freeTaken (sub_trans hL (by decide)) (touch_setEvt (sub_trans hL (by decide)) ha6)

theorem touch_armWith {a0 a1 a2 a3 : _} (hL : evrParts ++ [.reg .CMP_STATUS_CHECK, .reg .CMP_EPOCH_ARMED, .reg .CMP_STATUS_TAG, .comp, .time, .freeCtr, .reg .CMP_STATUS_STATE] ⊆ L) (ha3 : Touches L r a3) :
    Touches L r (armWith a0 a1 a2 a3) := by
  unfold armWith
  split
  · extract_lets -merge +onlyGivenNames y0
    exact touch_raise (sub_trans hL (by decide)) (touch_onComp (sub_trans hL (by decide)) (touch_setRg (sub_trans hL (by decide)) (touch_setRg (sub_trans hL (by decide)) (touch_setCmp (sub_trans hL (by decide)) (touch_evtTake (sub_trans hL (by decide)) ha3)))))
  · exact touch_setRg (sub_trans hL (by decide)) (touch_setRg (sub_trans hL (by decide)) ha3)

theorem touch_dropPending {a0 a1 : _} (hL : evrParts ++ [.reg .TRF_RESULT_STATUS, .reg .TRF_RESULT_DONE, .trf] ⊆ L) (ha1 : Touches L r a1) :
    Touches L r (dropPending a0 a1) := by
  unfold dropPending
  exact touch_ite (fun _ => touch_raise (sub_trans hL (by decide)) (touch_result (sub_trans hL (by decide)) (touch_onTrf (sub_trans hL (by decide)) ha1))) (fun _ => ha1)

theorem touch_trafficSwitch {a0 a1 : _} (hL : evrParts ++ [.trf, .reg .TRF_RESULT_STATUS, .reg .TRF_RESULT_DONE] ⊆ L) (ha1 : Touches L r a1) :
    Touches L r (trafficSwitch a0 a1) := by
  unfold trafficSwitch
  extract_lets -merge +onlyGivenNames y0 y1
  exact touch_dropPending (sub_trans hL (by decide)) (touch_dropPending (sub_trans hL (by decide)) (touch_onTrf (sub_trans hL (by decide)) ha1))

theorem touch_isoFollow {a0 : _} (hL : [.prt] ⊆ L) (ha0 : Touches L r a0) :
    Touches L r (isoFollow a0) := by
  unfold isoFollow
  exact touch_forEach ha0 (fun _ _ h0 => touch_ite (fun _ => touch_setLink (sub_trans hL (by decide)) h0) (fun _ => h0))

theorem touch_setPageRow {a0 a1 a2 : _} (hL : [.seq] ⊆ L) (ha2 : Touches L r a2) :
    Touches L r (setPageRow a0 a1 a2) := by
  unfold setPageRow
  exact touch_onSeq (sub_trans hL (by decide)) ha2

theorem touch_releaseRow {a0 a1 : _} (hL : [.fox, .seq] ⊆ L) (ha1 : Touches L r a1) :
    Touches L r (releaseRow a0 a1) := by
  unfold releaseRow
  split
  · exact touch_setPageRow (sub_trans hL (by decide)) (touch_onFox (sub_trans hL (by decide)) ha1)
  · exact ha1

theorem touch_blockRowless {a0 a1 : _} (hL : [.fox, .seq] ⊆ L) (ha1 : Touches L r a1) :
    Touches L r (blockRowless a0 a1) := by
  unfold blockRowless
  exact touch_forEach ha1 (fun _ _ h0 => touch_releaseRow (sub_trans hL (by decide)) h0)

theorem touch_onSeen {a0 a1 : _} (hL : [.prt] ⊆ L) (ha1 : Touches L r a1) :
    Touches L r (onSeen a0 a1) := by
  unfold onSeen
  exact touch_onPrt (sub_trans hL (by decide)) ha1

theorem touch_workIsOld {a0 : _} (hL : [.que, .fox, .prt] ⊆ L) (ha0 : Touches L r a0) :
    Touches L r (workIsOld a0) := by
  unfold workIsOld
  exact touch_onQue (sub_trans hL (by decide)) (touch_onFox (sub_trans hL (by decide)) (touch_onSeen (sub_trans hL (by decide)) ha0))

theorem touch_newImage {a0 a1 a2 a3 : _} (hL : evrParts ++ [.reg .CMP_EPOCH_ARMED, .que, .fox, .prt, .trf, .reg .TRF_RESULT_STATUS, .reg .TRF_RESULT_DONE, .comp, .reg .CMP_STATUS_STATE] ⊆ L) (ha3 : Touches L r a3) :
    Touches L r (newImage a0 a1 a2 a3) := by
  unfold newImage
  exact touch_raise (sub_trans hL (by decide)) (touch_setRg (sub_trans hL (by decide)) (touch_setCmp (sub_trans hL (by decide)) (touch_onComp (sub_trans hL (by decide)) (touch_workIsOld (sub_trans hL (by decide)) (touch_trafficSwitch (sub_trans hL (by decide)) ha3)))))

end

/-! ### Expert unlocks -/

theorem Port.idx_other_ne (p : Port) : p.other.idx ≠ p.idx := by cases p <;> decide

theorem expertUnlock_of_granted {p blocks maxS : Nat} {s : State} (hsem : s.holdsSem p 4 = true) (hb : blocks ≠ 0)
    (hg : s.im.grantFor p blocks = some maxS) (hlc : unlockPermitted s blocks = true) :
    expertUnlock p blocks s = onComp (fun c => { c with unlocks := put p (s.clk, maxS) c.unlocks })
      (setRg .CMP_EXPERT_UNLOCK_BLOCKS p blocks s) := by
  unfold expertUnlock
  rw [if_neg (by simp [hsem]), if_neg hb, hg, hlc]

theorem expertUnlock_of_ungranted {p blocks : Nat} {s : State} (hsem : s.holdsSem p 4 = true) (hb : blocks ≠ 0)
    (hg : s.im.grantFor p blocks = none) : expertUnlock p blocks s = raise 0x020B none [] s := by
  unfold expertUnlock
  rw [if_neg (by simp [hsem]), if_neg hb, hg]

theorem endUnlock_of_unlocked {p : Nat} {x : Nat × Nat} {s : State} (h : look p s.comp.unlocks = some x) :
    endUnlock p s = raise 0x020C none [] (setRg .CMP_EXPERT_UNLOCK_BLOCKS p 0
      (onComp (fun c => { c with unlocks := del p c.unlocks }) s)) := by
  unfold endUnlock
  exact if_pos (by simp [has, h])

theorem expertUnlockExpire_of_passed {p since maxS : Nat} {s : State} (h : look p s.comp.unlocks = some (since, maxS))
    (ht : since + maxS * 1000000000 ≤ s.clk) : expertUnlockExpire p s = endUnlock p s := by
  unfold expertUnlockExpire
  rw [h]
  exact if_pos ht

theorem expertUnlockExpire_of_running {p since maxS : Nat} {s : State} (h : look p s.comp.unlocks = some (since, maxS))
    (ht : s.clk < since + maxS * 1000000000) : expertUnlockExpire p s = s := by
  unfold expertUnlockExpire
  rw [h]
  exact if_neg (by omega)

/-! ### ARM and CANCEL -/

theorem arm_refused {p : Nat} {s : State} (h : s.holdsSem p 0 = false) : arm p s = cmpRefused s := by
  unfold arm
  exact if_pos h

theorem cancel_refused {p : Nat} {s : State} (h : s.holdsSem p 0 = false) : cancel p s = cmpRefused s := by
  unfold cancel
  exact if_pos h

theorem commit_refused {p : Nat} {s : State} (h : s.holdsSem p 0 = false) : commit p s = cmpRefused s := by
  unfold commit
  exact if_pos (.inl h)

theorem arm_first {p : Nat} {im : Image} {s : State} (hsem : s.holdsSem p 0 = true) (hst : s.cmp = 3)
    (hs : s.comp.staged = some im) (hn : s.comp.image = none) :
    arm p s = raise 0x0205 none [(2, im.epoch)] (putInForce im s) := by
  unfold arm
  rw [if_neg (by simp [hsem]), hs, hn]
  exact if_pos hst

theorem arm_next {p : Nat} {im cur : Image} {s : State} (hsem : s.holdsSem p 0 = true) (hst : s.cmp = 3)
    (hs : s.comp.staged = some im) (hc : s.comp.image = some cur) : arm p s = armWith im (check16 s im) (evtFree s 1 0) s := by
  unfold arm
  rw [if_neg (by simp [hsem]), hs, hc]
  exact if_pos hst

@[simp] theorem setEvt_rg (i : Nat) (e : Evt) (s : State) (n : RN) (j : Nat) : (setEvt i e s).rg n j = s.rg n j := rfl
@[simp] theorem evtTake_rg (i ft kind car per arg : Nat) (s : State) (n : RN) (j : Nat) :
    (evtTake i ft kind car per arg s).rg n j = s.rg n j := rfl
@[simp] theorem evtTake_comp (i ft kind car per arg : Nat) (s : State) : (evtTake i ft kind car per arg s).comp = s.comp := rfl

theorem evtTake_evt_self (i ft kind car per arg : Nat) (s : State) :
    (evtTake i ft kind car per arg s).evt i = some { ft := ft, kind := kind, car := car, per := per, st := 1, arg := arg } := by
  simp [evtTake, State.evt, setEvt]

theorem evtTake_evt_ne {i j : Nat} (ft kind car per arg : Nat) (s : State) (h : j ≠ i) :
    (evtTake i ft kind car per arg s).evt j = s.evt j := by
  simp only [evtTake, State.evt, setEvt, freeTaken_time, onTime_time]
  exact look_put_ne _ _ h

theorem pending_switch_entry {o : Option Evt} {ft car per arg : Nat}
    (h : o = some { ft := ft, kind := 1, car := car, per := per, st := 1, arg := arg }) :
    o.any (fun e => e.kind == 1 && e.st == 1 && e.ft == ft) = true := by
  simp [h]

/-- ARM of a switch that check 16 passes: ARMED, with its COMP_SWITCH entry pending at CMP_SWITCH_FT. -/
theorem armWith_of_passed (im : Image) (i : Nat) (s : State) :
    let t := armWith im true (some i) s
    t.cmp = 5 ∧ t.comp.image = s.comp.image ∧ t.comp.entry = some i ∧
      t.evt i = some { ft := s.rg .CMP_SWITCH_FT_LO_FT_LO 0 + s.rg .CMP_SWITCH_FT_HI_FT_HI 0 * 2 ^ 32, kind := 1, car := 0,
                       per := 0, st := 1, arg := im.epoch } := by
  refine ⟨?_, ?_, ?_, ?_⟩
  · simp [armWith, State.cmp, cmp_width]
  · simp [armWith]
  · simp [armWith]
  · rw [← evtTake_evt_self i (s.rg .CMP_SWITCH_FT_LO_FT_LO 0 + s.rg .CMP_SWITCH_FT_HI_FT_HI 0 * 2 ^ 32) 1 0 0 im.epoch s]
    simp only [armWith, State.evt, raise_time, onComp_time, setRg_time, setCmp]

theorem armWith_of_failed (im : Image) (entry : Option Nat) (s : State) :
    armWith im false entry s = setRg .CMP_STATUS_TAG 0 0 (setRg .CMP_STATUS_CHECK 0 16 s) := by
  unfold armWith
  split <;> simp_all

theorem cancel_of_armed {p at_ : Nat} {s : State} (hsem : s.holdsSem p 0 = true) (hst : s.cmp = 5) (ha : s.armedFt = some at_)
    (hb : s.ft < at_) : cancel p s = cancelSwitch s := by
  unfold cancel
  rw [if_neg (by simp [hsem])]
  exact if_pos (by simp [hst, ha, hb])

theorem cancel_of_late {p : Nat} {s : State} (hsem : s.holdsSem p 0 = true)
    (ha : s.armedFt.all (fun at_ => decide (at_ ≤ s.ft)) = true) : cancel p s = s := by
  unfold cancel
  rw [if_neg (by simp [hsem])]
  refine if_neg ?_
  cases h : s.armedFt with
  | none => simp
  | some at_ =>
    rw [h] at ha
    have hle : at_ ≤ s.ft := by simpa using ha
    simp [hle]

/-! ### The boundary and what follows it -/

@[simp] theorem trafficSwitch_comp (im : Image) (s : State) : (trafficSwitch im s).comp = s.comp :=
  (touch_trafficSwitch (fun _ h => h) (touch_refl _ s)).comp (by decide)

@[simp] theorem workIsOld_comp (s : State) : (workIsOld s).comp = s.comp :=
  (touch_workIsOld (fun _ h => h) (touch_refl _ s)).comp (by decide)

/-- A new image is in force from its boundary on, the one before it is kept, and the switch drains (R58). -/
theorem newImage_comp (a b : Image) (at_ : Nat) (s : State) :
    (newImage a b at_ s).comp = { s.comp with
      image := some b, prev := some a, staged := none, entry := none, boundary := at_
      moved := (changed a b).map (fun r => (r, .waiting)) } := by
  simp [newImage]

theorem newImage_cmp (a b : Image) (at_ : Nat) (s : State) : (newImage a b at_ s).cmp = 6 := by
  simp [newImage, State.cmp, cmp_width]

theorem newImage_armed (a b : Image) (at_ : Nat) (s : State) : (newImage a b at_ s).rg .CMP_EPOCH_ARMED 0 = 0 := by
  simp [newImage]

@[simp] theorem evtFired_comp (i : Nat) (s : State) : (evtFired i s).comp = s.comp := by
  unfold evtFired
  split <;> rfl

theorem evtFired_im (i : Nat) (s : State) : (evtFired i s).im = s.im := by
  unfold State.im
  rw [evtFired_comp]

theorem fireEntry_of_fires {i kind : Nat} {e : Evt} {f : Evt → State → State} {s : State} (he : s.evt i = some e)
    (hf : evtFires s i kind = true) : fireEntry i kind f s = f e (evtFired i s) := by
  unfold fireEntry
  rw [he]
  exact if_pos hf

theorem switchBoundary_of_fires {i : Nat} {e : Evt} {b : Image} {s : State} (hi : s.comp.entry = some i)
    (hb : s.comp.staged = some b) (he : s.evt i = some e) (hf : evtFires s i 1 = true) :
    switchBoundary s = releaseMsgs (releaseCmds (boundaryLosses s.im b (newImage s.im b e.ft (evtFired i s)))) := by
  unfold switchBoundary
  rw [hi, hb]
  dsimp only
  rw [fireEntry_of_fires he hf, evtFired_im]

/-- The state in which the drain window has closed and the maps are not yet fitted. -/
def drainClosed (s : State) : State :=
  onComp (fun c => { c with drainEnd := s.ft, firstStale := true,
                            moved := c.moved.map (fun m => if resAtOnce m.1 then (m.1, .handed) else m) }) (isoFollow (setCmp 7 s))

@[simp] theorem isoFollow_comp (s : State) : (isoFollow s).comp = s.comp :=
  (touch_isoFollow (fun _ h => h) (touch_refl _ s)).comp (by decide)

theorem drainClosed_cmp (s : State) : (drainClosed s).cmp = 7 := by
  have hiso := (touch_isoFollow (fun _ h => h) (touch_refl _ (setCmp 7 s))).rg (n := .CMP_STATUS_STATE) (by decide) 0
  rw [State.cmp, drainClosed, onComp_rg, hiso]
  simp [cmp_width]

theorem drainClosed_mem (s : State) : (drainClosed s).mem = s.mem := by
  have hiso := (touch_isoFollow (fun _ h => h) (touch_refl _ (setCmp 7 s))).mem (by decide)
  rw [drainClosed, onComp_mem, hiso, setCmp_mem]

theorem drainWindowClose_of_due {s : State} (hst : s.cmp = 6) (ht : s.comp.boundary + s.im.drainUs * 1000 ≤ s.ft) :
    drainWindowClose s = switchComplete (ownMaps (drainClosed s)) := by
  unfold drainWindowClose
  exact if_neg (by simp [hst]; omega)

theorem switchComplete_of_handed {s : State} (hst : s.cmp = 7) (hm : s.comp.moved.all (fun m => m.2 == .handed) = true) :
    switchComplete s = raise 0x0205 none [(2, s.im.epoch)]
      (onComp (fun c => { c with moved := [], leaving := [] }) (setCmp 0 s)) := by
  unfold switchComplete
  exact if_pos ⟨hst, hm⟩

/-- A moved resource's clearing begins; a Fox block's pages have given back their rows by then, which no progress shows. -/
theorem resourceClearStart_comp {res : Res} {s : State} (hst : s.cmp = 7) (hw : look res s.comp.moved = some .waiting)
    (ho : oldWork s res = false) :
    (resourceClearStart res s).comp = { s.comp with moved := put res (.clearing s.ft) s.comp.moved } ∧
      (resourceClearStart res s).mem = s.mem := by
  unfold resourceClearStart
  rw [if_pos ⟨hst, hw, ho⟩]
  have hset : (setMoved res (.clearing s.ft) s).comp = { s.comp with moved := put res (.clearing s.ft) s.comp.moved } := rfl
  dsimp only
  split
  · next b =>
    have hrows := touch_blockRowless (a0 := b) (fun _ h => h) (touch_refl _ (setMoved (.fox b) (.clearing s.ft) s))
    exact ⟨(hrows.comp (by decide)).trans hset, hrows.mem (by decide)⟩
  · exact ⟨hset, rfl⟩

theorem resourceCleared_of_passed {res : Res} {since : Nat} {s : State} (h : look res s.comp.moved = some (.clearing since))
    (ht : since + clearTime res ≤ s.ft) :
    resourceCleared res s = switchComplete (handOver res (setMoved res .handed s)) := by
  unfold resourceCleared
  rw [h]
  exact if_neg (by omega)

theorem resourceCleared_of_running {res : Res} {since : Nat} {s : State} (h : look res s.comp.moved = some (.clearing since))
    (ht : s.ft < since + clearTime res) : resourceCleared res s = s := by
  unfold resourceCleared
  rw [h]
  exact if_pos ht

/-! ### The holdover limit and the grace period -/

theorem holdoverLimit_of_running {s : State} (h : s.tt ≠ 3 ∨ s.ft < s.time.holdFrom + 10000000) : holdoverLimit s = s := by
  unfold holdoverLimit
  exact if_pos h

/-- The state in FAULT, before its pending entries and an armed switch are cancelled (R87). -/
def faultEntered (s : State) : State :=
  let us := min ((s.ft - s.time.holdFrom) / 1000) 16383
  noticeAll 0x01 us (raise 0x0104 none [] (setRg .TT_HOLD_HOLD_US 0 us (setRg .TT_STATUS_FAULT_SEEN 0 1
    (setRg .TT_STATUS_STATE 0 4 s))))

theorem holdoverLimit_of_due {s : State} (htt : s.tt = 3) (ht : s.time.holdFrom + 10000000 ≤ s.ft) :
    holdoverLimit s = when ((faultEntered s).cmp == 5) cancelSwitch
      (forEach (faultEntries (faultEntered s)) faultCancel (faultEntered s)) := by
  unfold holdoverLimit
  rw [if_neg (by rw [not_or]; exact ⟨not_not.mpr htt, Nat.not_lt.mpr ht⟩)]
  rfl

theorem oldEpochGraceEnd_of_due {s : State} (hst : s.cmp = 7) (ht : s.comp.drainEnd + 400000 ≤ s.ft) :
    oldEpochGraceEnd s = forEach ((s.comp.moved.filter (fun m => m.2 == .waiting)).map Prod.fst) endOldWork s := by
  unfold oldEpochGraceEnd
  exact if_neg (by rw [not_or]; exact ⟨not_not.mpr hst, Nat.not_lt.mpr ht⟩)

theorem oldEpochGraceEnd_of_running {s : State} (h : s.cmp ≠ 7 ∨ s.ft < s.comp.drainEnd + 400000) :
    oldEpochGraceEnd s = s := by
  unfold oldEpochGraceEnd
  exact if_pos h

end Sys2Proof.Machine
end

section
/-! PROOF. The statements about expert unlocks and switches of spec/02_composition.md. -/

namespace Sys2Proof.Proofs

open Sys2Proof Sys2Proof.Machine

/-- Settles O16. -/
theorem expertUnlocksAreGrantedAndEnd : Obligations.ExpertUnlocksAreGrantedAndEnd := by
  unfold Obligations.ExpertUnlocksAreGrantedAndEnd
  refine ⟨fun p b maxS s hl hr hsem hb hg hlc => ?granted, fun p b s hl hr hsem hb hg => ?ungranted,
    fun p since maxS s hl hu ht => ?ends, fun p since maxS s hl hu ht => ?runs⟩
  case granted =>
    refine ⟨_, exec_expertUnlock b hl hr, ?_⟩
    rw [expertUnlock_of_granted hsem hb hg hlc]
    have hfit : b.toNat % 2 ^ RN.width .CMP_EXPERT_UNLOCK_BLOCKS = b.toNat := Nat.mod_eq_of_lt b.isLt
    have ht := touch_setRg (n := .CMP_EXPERT_UNLOCK_BLOCKS) (i := p.idx) (v := b.toNat) (fun _ h => h) (touch_refl _ s)
    refine ⟨fun k => ?_, fun k => ?_, by simp, ht.sameRegs (by decide), rfl, ht.sameMem (by decide)⟩
    · unfold State.expertOpen
      rw [onComp_rg, setRg_rg_self, hfit]
    · unfold State.expertOpen
      rw [onComp_rg, setRg_rg_ne _ _ (by simp [Port.idx_other_ne])]
  case ungranted => rw [exec_expertUnlock b hl hr, expertUnlock_of_ungranted hsem hb hg]
  case ends =>
    refine ⟨_, done_live hl, ?_⟩
    have htouch := touch_endUnlock (a0 := p.idx) (fun _ h => h) (touch_refl _ s)
    rw [expertUnlockExpire_of_passed hu ht]
    refine ⟨?_, ?_, htouch.sameRegs (by decide), ?_, htouch.sameMem (by decide)⟩ <;> rw [endUnlock_of_unlocked hu]
    · simp
    · simp
    · exact ⟨_, rfl⟩
  case runs => exact (done_live hl).trans (congrArg _ (expertUnlockExpire_of_running hu ht))

/-- Settles O17. -/
theorem switchIsArmedAndCancelled : Obligations.SwitchIsArmedAndCancelled := by
  unfold Obligations.SwitchIsArmedAndCancelled
  refine ⟨fun p im s hl hr hsem hst hs hn => ?first, fun p im cur i s hl hr hsem hst hs hc hok hi => ?armed,
    fun p im cur s hl hr hsem hst hs hc hbad => ?failed, fun p s hl hr hsem => ?refused,
    fun p at_ s hl hr hsem hst ha hb => ?cancelled, fun p s hl hr hsem hst ha => ?late, fun s hl htt ht => ?fault,
    fun s hl hno => ?none⟩
  case first => exact (done_live_access hl hr).trans (congrArg _ (arm_first hsem hst hs hn))
  case armed =>
    refine ⟨_, done_live_access hl hr, ?_⟩
    rw [arm_next hsem hst hs hc, hok, hi]
    obtain ⟨hcmp, himage, hentry, hevt⟩ := armWith_of_passed im i s
    have htouch := touch_armWith (a0 := im) (a1 := true) (a2 := some i) (fun _ h => h) (touch_refl _ s)
    exact ⟨hcmp, himage.trans hc, hentry, pending_switch_entry hevt, htouch.mem (by decide), htouch.seq (by decide)⟩
  case failed =>
    refine ⟨_, done_live_access hl hr, ?_⟩
    rw [arm_next hsem hst hs hc, hbad, armWith_of_failed]
    refine ⟨?_, by simp [cmp_width], rfl, rfl, rfl⟩
    unfold State.cmp at hst ⊢
    simpa using hst
  case refused =>
    exact ⟨(done_live_access hl hr).trans (congrArg _ (arm_refused hsem)),
      (done_live_access hl hr).trans (congrArg _ (cancel_refused hsem)),
      (done_live_access hl hr).trans (congrArg _ (commit_refused hsem))⟩
  case cancelled => exact (done_live_access hl hr).trans (congrArg _ (cancel_of_armed hsem hst ha hb))
  case late => exact (done_live_access hl hr).trans (congrArg _ (cancel_of_late hsem ha))
  case fault => exact (done_live hl).trans (congrArg _ (holdoverLimit_of_due htt ht))
  case none => exact (done_live hl).trans (congrArg _ (holdoverLimit_of_running hno))

/-- Settles O18. -/
theorem switchRunsItsSteps : Obligations.SwitchRunsItsSteps := by
  unfold Obligations.SwitchRunsItsSteps
  refine ⟨fun i e b s hl hi hb he hf => ?boundary, fun a b at_ s => ?newImage, fun s hl hst ht => ?drained,
    fun s hst hm => ?complete, fun res s hl hst hw ho => ?clearing, fun res since s hl hm ht => ?cleared,
    fun res since s hl hm ht => ?runs, fun s hl hst ht => ?grace, fun s hl hno => ?none⟩
  case boundary => exact (done_live hl).trans (congrArg _ (switchBoundary_of_fires hi hb he hf))
  case newImage =>
    have ht := touch_newImage (a0 := a) (a1 := b) (a2 := at_) (fun _ h => h) (touch_refl _ s)
    rw [newImage_comp]
    exact ⟨rfl, rfl, newImage_cmp .., rfl, newImage_armed .., ht.mem (by decide), ht.seq (by decide)⟩
  case drained =>
    refine ⟨drainClosed s, (done_live hl).trans (congrArg _ (drainWindowClose_of_due hst ht)), drainClosed_cmp s, rfl, rfl, ?_,
      drainClosed_mem s⟩
    simp [drainClosed]
  case complete =>
    rw [switchComplete_of_handed hst hm]
    exact ⟨by simp [State.cmp, cmp_width], by simp, by simp, by simp⟩
  case clearing =>
    obtain ⟨hcomp, hmem⟩ := resourceClearStart_comp hst hw ho
    refine ⟨_, done_live hl, ?_⟩
    rw [hcomp]
    exact ⟨look_put_self .., fun q hq => look_put_ne _ _ hq, hmem⟩
  case cleared => exact (done_live hl).trans (congrArg _ (resourceCleared_of_passed hm ht))
  case runs => exact (done_live hl).trans (congrArg _ (resourceCleared_of_running hm ht))
  case grace => exact (done_live hl).trans (congrArg _ (oldEpochGraceEnd_of_due hst ht))
  case none => exact (done_live hl).trans (congrArg _ (oldEpochGraceEnd_of_running hno))

end Sys2Proof.Proofs
end

section
/-! PROOF. Fabric time: the reference, code words and edges (R79 to R88). -/

namespace Sys2Proof.Machine

open Sys2Proof

section
variable {L : List StPart} {r : State}

theorem touch_ftRefStable {a0 : _} (hL : [.reg .TT_STATUS_REF_OK, .reg .TT_STATUS_STATE] ⊆ L) (ha0 : Touches L r a0) :
    Touches L r (ftRefStable a0) := by
  unfold ftRefStable
  exact touch_when (touch_setRg (sub_trans hL (by decide)) ha0) (fun _ h0 => touch_setRg (sub_trans hL (by decide)) h0)

theorem touch_enterHoldover {a0 a1 : _} (hL : evrParts ++ [.reg .TT_STATUS_STATE, .reg .TT_STATUS_STEERING, .time] ⊆ L) (ha1 : Touches L r a1) :
    Touches L r (enterHoldover a0 a1) := by
  unfold enterHoldover
  exact touch_raise (sub_trans hL (by decide)) (touch_onTime (sub_trans hL (by decide)) (touch_setRg (sub_trans hL (by decide)) (touch_setRg (sub_trans hL (by decide)) ha1)))

theorem touch_ftRefLost {a0 : _} (hL : evrParts ++ [.reg .TT_STATUS_REF_OK, .reg .TT_STATUS_STATE, .reg .TT_STATUS_STEERING, .time] ⊆ L) (ha0 : Touches L r a0) :
    Touches L r (ftRefLost a0) := by
  unfold ftRefLost
  exact touch_ite (fun _ => ha0) (fun _ => touch_when (touch_raise (sub_trans hL (by decide)) (touch_setRg (sub_trans hL (by decide)) ha0)) (fun _ h0 => touch_enterHoldover (sub_trans hL (by decide)) h0))

theorem touch_badWord {a0 : _} (hL : evrParts ++ [.time, .reg .TT_STATUS_STATE, .reg .TT_STATUS_STEERING] ⊆ L) (ha0 : Touches L r a0) :
    Touches L r (badWord a0) := by
  unfold badWord
  extract_lets -merge +onlyGivenNames y0
  exact touch_when (touch_onTime (sub_trans hL (by decide)) (touch_raise (sub_trans hL (by decide)) ha0)) (fun _ h1 => touch_enterHoldover (sub_trans hL (by decide)) h1)

theorem touch_ftCodeWord {a0 a1 : _} (hL : evrParts ++ [.reg .TT_STATUS_TB_ID, .reg .TT_STATUS_TB_STATUS, .reg .TT_CODE_ERR_CRC, .reg .TT_CODE_ERR_DISAGREE, .time, .reg .TT_STATUS_STATE, .reg .TT_STATUS_STEERING] ⊆ L) (ha1 : Touches L r a1) :
    Touches L r (ftCodeWord a0 a1) := by
  unfold ftCodeWord
  extract_lets -merge +onlyGivenNames y0 x1 x2
  have hx1 : Touches L r x1 := touch_setRg (sub_trans hL (by decide)) (touch_setRg (sub_trans hL (by decide)) ha1)
  have hx2 : Touches L r x2 := touch_bump (sub_trans hL (by decide)) hx1
  exact touch_ite (fun _ => touch_badWord (sub_trans hL (by decide)) (touch_bump (sub_trans hL (by decide)) ha1)) (fun _ => touch_ite (fun _ => hx1) (fun _ => touch_ite (fun _ => touch_ite (fun _ => touch_onTime (sub_trans hL (by decide)) (touch_raise (sub_trans hL (by decide)) hx2)) (fun _ => touch_badWord (sub_trans hL (by decide)) hx2)) (fun _ => touch_onTime (sub_trans hL (by decide)) hx1)))

theorem touch_enterLocked {a0 : _} (hL : evrParts ++ [.reg .TT_HOLD_HOLD_US, .reg .TT_STATUS_STATE, .start, .time, .trf] ⊆ L) (ha0 : Touches L r a0) :
    Touches L r (enterLocked a0) := by
  unfold enterLocked
  extract_lets -merge +onlyGivenNames y0
  exact touch_raise (sub_trans hL (by decide)) (touch_onStart (sub_trans hL (by decide)) (touch_onTrf (sub_trans hL (by decide)) (touch_onTime (sub_trans hL (by decide)) (touch_setRg (sub_trans hL (by decide)) (touch_when ha0 (fun _ h1 => touch_setRg (sub_trans hL (by decide)) h1))))))

theorem touch_judgeEdge {a0 a1 : _} (hL : evrParts ++ [.reg .TT_SYNC_ERR_ERR, .reg .TT_HOLD_HOLD_US, .reg .TT_STATUS_STATE, .start, .time, .trf, .reg .TT_STATUS_STEERING] ⊆ L) (ha1 : Touches L r a1) :
    Touches L r (judgeEdge a0 a1) := by
  unfold judgeEdge
  extract_lets -merge +onlyGivenNames y0 y1 x2 y3 y4 x5 x6 x7
  have hx2 : Touches L r x2 := touch_setRg (sub_trans hL (by decide)) ha1
  have hx5 : Touches L r x5 := touch_onTime (sub_trans hL (by decide)) hx2
  have hx6 : Touches L r x6 := touch_onTime (sub_trans hL (by decide)) hx5
  have hx7 : Touches L r x7 := touch_raise (sub_trans hL (by decide)) hx2
  exact touch_ite (fun _ => touch_ite (fun _ => touch_onTime (sub_trans hL (by decide)) hx5) (fun _ => touch_ite (fun _ => touch_ite (fun _ => touch_enterLocked (sub_trans hL (by decide)) (touch_onTime (sub_trans hL (by decide)) hx5)) (fun _ => hx5)) (fun _ => touch_ite (fun _ => touch_ite (fun _ => touch_enterLocked (sub_trans hL (by decide)) hx6) (fun _ => hx6)) (fun _ => touch_onTime (sub_trans hL (by decide)) hx5)))) (fun _ => touch_ite (fun _ => touch_enterHoldover (sub_trans hL (by decide)) hx7) (fun _ => touch_ite (fun _ => touch_onTime (sub_trans hL (by decide)) hx7) (fun _ => hx7)))

theorem touch_loadCount {a0 a1 : _} (hL : [.time, .ft] ⊆ L) (ha1 : Touches L r a1) :
    Touches L r (loadCount a0 a1) := by
  unfold loadCount
  extract_lets -merge +onlyGivenNames x0
  have hx0 : Touches L r x0 := touch_onTime (sub_trans hL (by decide)) ha1
  exact touch_ite (fun _ => touch_ft (sub_trans hL (by decide)) hx0) (fun _ => hx0)

theorem touch_ftSyncEdge {a0 a1 : _} (hL : evrParts ++ [.reg .TT_CAP_LO_CAP_LO, .reg .TT_CAP_HI_CAP_HI, .reg .TT_CAP_FRAC_FRAC, .time, .reg .TT_SYNC_ERR_ERR, .reg .TT_HOLD_HOLD_US, .reg .TT_STATUS_STATE, .start, .trf, .reg .TT_STATUS_STEERING, .ft] ⊆ L) (ha1 : Touches L r a1) :
    Touches L r (ftSyncEdge a0 a1) := by
  unfold ftSyncEdge
  extract_lets -merge +onlyGivenNames x0
  have hx0 : Touches L r x0 := touch_setRg (sub_trans hL (by decide)) (touch_setRg (sub_trans hL (by decide)) (touch_setRg (sub_trans hL (by decide)) ha1))
  refine touch_ite (fun _ => ?_) (fun _ => ?_)
  · exact touch_judgeEdge (sub_trans hL (by decide)) hx0
  · refine touch_ite (fun _ => ?_) (fun _ => ?_)
    · split
      · exact touch_onTime (sub_trans hL (by decide)) (touch_loadCount (sub_trans hL (by decide)) hx0)
      · exact hx0
    · refine touch_ite (fun _ => ?_) (fun _ => ?_)
      · split
        · exact touch_enterLocked (sub_trans hL (by decide)) (touch_loadCount (sub_trans hL (by decide)) hx0)
        · exact hx0
      · exact hx0

theorem touch_steerLimit {a0 : _} (hL : evrParts ++ [.reg .TT_STATUS_STEERING, .time] ⊆ L) (ha0 : Touches L r a0) :
    Touches L r (steerLimit a0) := by
  unfold steerLimit
  exact touch_ite (fun _ => touch_raise (sub_trans hL (by decide)) (touch_setRg (sub_trans hL (by decide)) (touch_onTime (sub_trans hL (by decide)) ha0))) (fun _ => ha0)

theorem touch_steerUpdate {a0 : _} (hL : evrParts ++ [.reg .TT_STATUS_STEERING, .time] ⊆ L) (ha0 : Touches L r a0) :
    Touches L r (steerUpdate a0) := by
  unfold steerUpdate
  extract_lets -merge +onlyGivenNames x0 y1 y2 y3 y4
  have hx0 : Touches L r x0 := touch_steerLimit (sub_trans hL (by decide)) ha0
  exact touch_ite (fun _ => ha0) (fun _ => touch_setRg (sub_trans hL (by decide)) (touch_onTime (sub_trans hL (by decide)) hx0))

theorem touch_timeXfer {a0 a1 a2 a3 a4 : _} (hL : [.time] ⊆ L) (ha4 : Touches L r a4) :
    Touches L r (timeXfer a0 a1 a2 a3 a4) := by
  unfold timeXfer
  extract_lets -merge +onlyGivenNames y0 y1 y2 y3 y4 y5 y6 y7
  exact touch_ite (fun _ => ha4) (fun _ => touch_setLinkTime (sub_trans hL (by decide)) ha4)

theorem touch_evtAdd {a0 a1 : _} (hL : [.reg .TT_EVT_RESULT_INDEX, .reg .TT_EVT_RESULT_STATUS, .reg .TT_EVT_RESULT_DONE, .time, .freeCtr] ⊆ L) (ha1 : Touches L r a1) :
    Touches L r (evtAdd a0 a1) := by
  unfold evtAdd
  extract_lets -merge +onlyGivenNames y0 y1 y2 y3 y4 y5
  clear_value y0 y1 y2 y3 y4 y5
  split
  · exact touch_result (sub_trans hL (by decide)) ha1
  · exact ha1
  · exact touch_result (sub_trans hL (by decide)) (touch_setRg (sub_trans hL (by decide)) (touch_evtTake (sub_trans hL (by decide)) ha1))

theorem touch_evtCancel {a0 a1 : _} (hL : [.time] ⊆ L) (ha1 : Touches L r a1) :
    Touches L r (evtCancel a0 a1) := by
  unfold evtCancel
  split
  · exact touch_ite (fun _ => touch_setEvt (sub_trans hL (by decide)) ha1) (fun _ => ha1)
  · exact ha1

theorem touch_parkFail {a0 a1 a2 a3 a4 : _} (hL : evrParts ++ [.seq, .park, .reg .RAS_C_ABORTED_COUNT, .reg .CMP_STALE_CNT_COUNT, .comp, .que, .reg .QUE_CQE_DROP, .onz, .sent] ⊆ L) (ha4 : Touches L r a4) :
    Touches L r (parkFail a0 a1 a2 a3 a4) := by
  unfold parkFail
  split
  · exact ha4
  · extract_lets -merge +onlyGivenNames y0 x1 y3
    have hx1 : Touches L r x1 := touch_when (touch_onPark (sub_trans hL (by decide)) ha4) (fun _ h2 => touch_onSeq (sub_trans hL (by decide)) h2)
    exact touch_completeReason (sub_trans hL (by decide)) (touch_when hx1 (fun _ h4 => touch_raise (sub_trans hL (by decide)) h4))

theorem touch_parksCancelled {a0 a1 a2 : _} (hL : evrParts ++ [.seq, .park, .reg .RAS_C_ABORTED_COUNT, .reg .CMP_STALE_CNT_COUNT, .comp, .que, .reg .QUE_CQE_DROP, .onz, .sent] ⊆ L) (ha2 : Touches L r a2) :
    Touches L r (parksCancelled a0 a1 a2) := by
  unfold parksCancelled
  extract_lets -merge +onlyGivenNames y0
  exact touch_when (touch_forEach ha2 (fun _ _ h2 => touch_parkFail (sub_trans hL (by decide)) h2)) (fun _ h1 => touch_raise (sub_trans hL (by decide)) h1)

theorem touch_evtCancelCmd {a0 a1 : _} (hL : evrParts ++ [.reg .TT_EVT_RESULT_INDEX, .reg .TT_EVT_RESULT_STATUS, .reg .TT_EVT_RESULT_DONE, .time, .seq, .park, .reg .RAS_C_ABORTED_COUNT, .reg .CMP_STALE_CNT_COUNT, .comp, .que, .reg .QUE_CQE_DROP, .onz, .sent] ⊆ L) (ha1 : Touches L r a1) :
    Touches L r (evtCancelCmd a0 a1) := by
  unfold evtCancelCmd
  extract_lets -merge +onlyGivenNames y0 y1 f2
  have hf2 : ∀ y0 y1, Touches L r y1 → Touches L r (f2 y0 y1) := fun _ _ h3 => touch_when h3 (fun _ h4 => touch_parksCancelled (sub_trans hL (by decide)) h4)
  exact touch_result (sub_trans hL (by decide)) (touch_when (touch_whenSome (touch_when ha1 (fun _ h6 => touch_evtCancel (sub_trans hL (by decide)) h6)) hf2) (fun _ h5 => touch_setRg (sub_trans hL (by decide)) h5))

end

/-! ### Entering LOCKED and HOLDOVER -/

theorem time_width : RN.width .TT_STATUS_STATE = 3 ∧ RN.width .TT_STATUS_REF_OK = 1 ∧ RN.width .TT_STATUS_STEERING = 1 ∧
    RN.width .TT_STATUS_TB_ID = 8 ∧ RN.width .TT_STATUS_TB_STATUS = 2 ∧ RN.width .TT_CAP_LO_CAP_LO = 32 ∧
    RN.width .TT_CAP_HI_CAP_HI = 32 ∧ RN.width .TT_CAP_FRAC_FRAC = 8 :=
  ⟨rfl, rfl, rfl, rfl, rfl, rfl, rfl, rfl⟩

@[simp] theorem enterHoldover_tt (cause : Nat) (s : State) : (enterHoldover cause s).tt = 3 := by
  simp [enterHoldover, State.tt, time_width]

@[simp] theorem enterHoldover_steering (cause : Nat) (s : State) : (enterHoldover cause s).rg .TT_STATUS_STEERING 0 = 0 := by
  simp [enterHoldover]

@[simp] theorem enterHoldover_time (cause : Nat) (s : State) :
    (enterHoldover cause s).time = { s.time with holdFrom := s.ft, badRun := 0, ppb := 0, slew := 0 } := by
  simp [enterHoldover]

@[simp] theorem enterLocked_tt (s : State) : (enterLocked s).tt = 2 := by
  simp [enterLocked, State.tt, time_width]

@[simp] theorem enterLocked_time (s : State) : (enterLocked s).time = { s.time with badRun := 0, word := none } := by
  cases h : s.tt == 3 <;> simp [enterLocked, when, h]

@[simp] theorem enterLocked_ft (s : State) : (enterLocked s).ft = s.ft :=
  (touch_enterLocked (fun _ h => h) (touch_refl _ s)).ft (by decide)

/-! ### FT_REF -/

theorem ftRefStable_tt (s : State) : (ftRefStable s).tt = if s.tt = 0 then 1 else s.tt := by
  by_cases h : s.tt = 0 <;> simp [ftRefStable, when, h]
  · simp [State.tt, time_width]
  · simp [State.tt]

theorem ftRefStable_refOk (s : State) : (ftRefStable s).rg .TT_STATUS_REF_OK 0 = 1 := by
  cases h : s.tt == 0 <;> simp [ftRefStable, when, h, time_width]

/-- FT_REF lost, before LOCKED is left for it. -/
def refGone (s : State) : State := raise 0x0103 none [] (setRg .TT_STATUS_REF_OK 0 0 s)

theorem ftRefLost_of_locked {s : State} (hok : s.rg .TT_STATUS_REF_OK 0 ≠ 0) (htt : s.tt = 2) :
    ftRefLost s = enterHoldover 2 (refGone s) := by
  unfold ftRefLost
  rw [if_neg hok]
  simp [htt, when, refGone]

theorem ftRefLost_of_not_locked {s : State} (hok : s.rg .TT_STATUS_REF_OK 0 ≠ 0) (htt : s.tt ≠ 2) :
    ftRefLost s = refGone s := by
  unfold ftRefLost
  rw [if_neg hok]
  simp [htt, when, refGone]

theorem refGone_tt (s : State) : (refGone s).tt = s.tt := by simp [refGone, State.tt]

theorem refGone_refOk (s : State) : (refGone s).rg .TT_STATUS_REF_OK 0 = 0 := by simp [refGone]

/-! ### Code words -/

/-- The state after a valid word's TB_ID and TB_STATUS are shown. -/
def wordShown (w : BitVec 128) (s : State) : State :=
  setRg .TT_STATUS_TB_STATUS 0 (bits w.toNat 48 2) (setRg .TT_STATUS_TB_ID 0 (bits w.toNat 40 8) s)

theorem wordShown_tt (w : BitVec 128) (s : State) : (wordShown w s).tt = s.tt := by simp [wordShown, State.tt]

theorem ftCodeWord_of_agreeing {w : BitVec 128} {s : State} (hw : wordValid w = true) (htt : s.tt ≠ 0)
    (h : expects s = false ∨ disagrees s (wordNext w) = false) :
    ftCodeWord w s = onTime (fun t => { t with
      word := some { next := wordNext w, began := s.clk - 5120, ended := s.clk }, badRun := 0 }) (wordShown w s) := by
  have hexp : expects (wordShown w s) = expects s := by simp [expects, wordShown, State.tt]
  have hdis : disagrees (wordShown w s) (wordNext w) = disagrees s (wordNext w) := rfl
  unfold ftCodeWord
  rw [if_neg (by simp [hw])]
  extract_lets cw u
  have hu : u = wordShown w s := rfl
  rw [hu, wordShown_tt, if_neg htt, hexp]
  refine if_neg ?_
  rw [show cw.next = wordNext w from rfl, hdis]
  rcases h with h | h <;> simp [h]

theorem ftCodeWord_of_invalid {w : BitVec 128} {s : State} (hw : wordValid w = false) :
    ftCodeWord w s = badWord (bump .TT_CODE_ERR_CRC 0 1 s) := by
  unfold ftCodeWord
  exact if_pos hw

/-- A second bad word in a row leads from LOCKED to HOLDOVER (R84). -/
theorem badWord_of_second {s : State} (h : s.tt = 2 ∧ 1 ≤ s.time.badRun) : (badWord s).tt = 3 ∧ (badWord s).time.ppb = 0 := by
  unfold badWord
  have hn : (s.tt == 2 && decide (2 ≤ s.time.badRun + 1)) = true := by simp [h.1, h.2]
  dsimp only
  rw [hn]
  exact ⟨enterHoldover_tt .., by simp [when]⟩

theorem badWord_of_first {s : State} (h : ¬ (s.tt = 2 ∧ 1 ≤ s.time.badRun)) :
    (badWord s).tt = s.tt ∧ (badWord s).time.badRun = s.time.badRun + 1 := by
  unfold badWord
  have hn : (s.tt == 2 && decide (2 ≤ s.time.badRun + 1)) = false := by
    rw [← Bool.not_eq_true, Bool.and_eq_true, beq_iff_eq, decide_eq_true_iff]
    omega
  dsimp only
  rw [hn]
  exact ⟨by simp [when, State.tt], by simp [when]⟩

/-! ### Edges -/

/-- An edge captured, and the difference that the node judges it by shown (R80, R83). -/
def edgeCaptured (frac : Nat) (s : State) : State :=
  setRg .TT_CAP_FRAC_FRAC 0 frac (setRg .TT_CAP_HI_CAP_HI 0 (s.ft / 2 ^ 32) (setRg .TT_CAP_LO_CAP_LO 0 s.ft s))

def edgeShown (frac : Nat) (s : State) : State :=
  setRg .TT_SYNC_ERR_ERR 0 (unsigned 16 (clampInt (-32768) 32767 (edgeErr s frac))) (edgeCaptured frac s)

theorem edgeCaptured_rg (frac : Nat) (s : State) {n : RN} (i : Nat)
    (h : n ∉ [RN.TT_CAP_LO_CAP_LO, .TT_CAP_HI_CAP_HI, .TT_CAP_FRAC_FRAC]) : (edgeCaptured frac s).rg n i = s.rg n i := by
  simp only [List.mem_cons, List.not_mem_nil, or_false, not_or] at h
  simp [edgeCaptured, h]

theorem edgeShown_rg (frac : Nat) (s : State) {n : RN} (i : Nat)
    (h : n ∉ [RN.TT_CAP_LO_CAP_LO, .TT_CAP_HI_CAP_HI, .TT_CAP_FRAC_FRAC, .TT_SYNC_ERR_ERR]) :
    (edgeShown frac s).rg n i = s.rg n i := by
  simp only [List.mem_cons, List.not_mem_nil, or_false, not_or] at h
  simp [edgeShown, edgeCaptured, h]

theorem edgeCaptured_tt (frac : Nat) (s : State) : (edgeCaptured frac s).tt = s.tt := edgeCaptured_rg frac s 0 (by decide)
theorem edgeShown_tt (frac : Nat) (s : State) : (edgeShown frac s).tt = s.tt := edgeShown_rg frac s 0 (by decide)

theorem expects_edgeCaptured (frac : Nat) (s : State) : expects (edgeCaptured frac s) = expects s := by
  unfold expects
  rw [edgeCaptured_tt]
  rfl

theorem trimOf_edgeShown (frac : Nat) (s : State) (err : Int) : trimOf (edgeShown frac s) err = trimOf s err := by
  have hfine : fineSync (edgeShown frac s) = fineSync s := by
    unfold fineSync
    rw [edgeShown_rg frac s 0 (by decide)]
    rfl
  unfold trimOf
  rw [hfine]

theorem touch_edgeShown (frac : Nat) (s : State) :
    Touches [.reg .TT_CAP_LO_CAP_LO, .reg .TT_CAP_HI_CAP_HI, .reg .TT_CAP_FRAC_FRAC, .reg .TT_SYNC_ERR_ERR] s (edgeShown frac s) :=
  touch_setRg (by decide) (touch_setRg (by decide) (touch_setRg (by decide) (touch_setRg (by decide) (touch_refl _ s))))

theorem ftSyncEdge_of_expected {frac : Nat} {s : State} (h : expects s = true) :
    ftSyncEdge frac s = judgeEdge frac (edgeCaptured frac s) := by
  unfold ftSyncEdge
  exact if_pos ((expects_edgeCaptured frac s).trans h)

/-- The edge in window: what its state makes of it, once its boundary is judged and the waiting word is used up. -/
def edgeTaken (frac : Nat) (s : State) : State :=
  onTime (fun t => { t with judged := edgeFrame s frac, word := none }) (edgeShown frac s)

theorem edgeErr_edgeCaptured (frac : Nat) (s : State) : edgeErr (edgeCaptured frac s) frac = edgeErr s frac := by
  unfold edgeErr
  simp only [edgeCaptured, setRg_ft, setRg_time]

theorem edgeFrame_edgeCaptured (frac : Nat) (s : State) : edgeFrame (edgeCaptured frac s) frac = edgeFrame s frac := by
  unfold edgeFrame
  rw [edgeErr_edgeCaptured]
  simp only [edgeCaptured, setRg_ft, setRg_time]

/-- What an edge in the window leaves, of the state in which its boundary is judged (R83, R86). -/
def edgeIn (named : Bool) (trim : Int) (t : State) : State :=
  if t.tt = 2 then onTime (fun x => { x with slew := trim }) t
  else if t.tt = 3 then
    if named ∧ t.rg .TT_STATUS_REF_OK 0 = 1 then enterLocked (onTime (fun x => { x with slew := trim }) t) else t
  else if named then
    let u := onTime (fun x => { x with confirm := x.confirm + 1, slew := trim }) t
    if 2 ≤ u.time.confirm then enterLocked u else u
  else onTime (fun x => { x with confirm := 0 }) t

theorem judgeEdge_in_window {frac : Nat} {s : State} (hlo : -16384 ≤ edgeErr s frac) (hhi : edgeErr s frac ≤ 16384) :
    judgeEdge frac (edgeCaptured frac s) =
      edgeIn (wordNames s (edgeFrame s frac)) (trimOf s (edgeErr s frac)) (edgeTaken frac s) := by
  have hw : (decide (-16384 ≤ edgeErr s frac) && decide (edgeErr s frac ≤ 16384)) = true := by
    rw [Bool.and_eq_true, decide_eq_true_iff, decide_eq_true_iff]
    exact ⟨hlo, hhi⟩
  have hn : wordNames (edgeShown frac s) (edgeFrame s frac) = wordNames s (edgeFrame s frac) := by
    unfold wordNames edgeShown edgeCaptured
    simp only [setRg_time]
  unfold judgeEdge
  simp only [edgeErr_edgeCaptured, edgeFrame_edgeCaptured]
  rw [if_pos hw, ← edgeShown, trimOf_edgeShown, hn]
  rfl

theorem judgeEdge_outside {frac : Nat} {s : State} (htt : s.tt = 2) (h : edgeErr s frac < -16384 ∨ 16384 < edgeErr s frac) :
    judgeEdge frac (edgeCaptured frac s) = enterHoldover 0 (raise 0x0106 none [] (edgeShown frac s)) := by
  have hw : ¬ (decide (-16384 ≤ edgeErr s frac) && decide (edgeErr s frac ≤ 16384)) = true := by
    rw [Bool.and_eq_true, decide_eq_true_iff, decide_eq_true_iff]
    omega
  have ht : (raise 0x0106 none [] (edgeShown frac s)).tt = 2 := by
    unfold State.tt
    rw [raise_rg_of_ne _ _ _ _ _ _ (by decide) (by decide)]
    exact (edgeShown_tt frac s).trans htt
  unfold judgeEdge
  simp only [edgeErr_edgeCaptured]
  rw [if_neg hw, ← edgeShown, if_pos ht]

/-! ### Loading the count -/

@[simp] theorem loadCount_ft (v : Nat) (s : State) : (loadCount v s).ft = max s.ft v := by
  unfold loadCount
  extract_lets u
  split
  · exact (max_eq_right (Nat.le_of_lt ‹_›)).symm
  · exact (max_eq_left (Nat.le_of_not_lt ‹_›)).symm

@[simp] theorem loadCount_time (v : Nat) (s : State) : (loadCount v s).time =
    { s.time with held := s.ft - v, slew := 0, judged := v / frameNs, acc := 0, steerRem := 0, limited := false } := by
  unfold loadCount
  extract_lets u
  split <;> rfl

@[simp] theorem loadCount_tt (v : Nat) (s : State) : (loadCount v s).tt = s.tt := by
  unfold State.tt
  exact (touch_loadCount (fun _ h => h) (touch_refl _ s)).rg (by decide) 0

theorem ftSyncEdge_of_first {frac : Nat} {w : CodeWord} {s : State} (htt : s.tt = 1) (hl : s.time.loaded = false)
    (hw : s.time.word = some w) : ftSyncEdge frac s =
      onTime (fun t => { t with loaded := true, confirm := 1, word := none }) (loadCount w.next (edgeCaptured frac s)) := by
  have hexp : expects (edgeCaptured frac s) = false := by rw [expects_edgeCaptured]; simp [expects, htt, hl]
  have hword : (edgeCaptured frac s).time.word = some w := hw
  unfold ftSyncEdge
  extract_lets u
  rw [show u = edgeCaptured frac s from rfl, hexp, edgeCaptured_tt, if_pos htt, hword]
  rfl

theorem ftSyncEdge_of_fault {frac : Nat} {w : CodeWord} {s : State} (htt : s.tt = 4) (hw : s.time.word = some w)
    (he : w.ended + 10000 ≤ s.clk) (hb : s.clk < w.began + frameNs) (hok : s.rg .TT_STATUS_REF_OK 0 = 1) :
    ftSyncEdge frac s = enterLocked (loadCount w.next (edgeCaptured frac s)) := by
  have hexp : expects (edgeCaptured frac s) = false := by rw [expects_edgeCaptured]; simp [expects, htt]
  have hf : faultEdge (edgeCaptured frac s) = some w := by
    unfold faultEdge
    rw [edgeCaptured_rg frac s 0 (by decide)]
    simp only [edgeCaptured, setRg_time, setRg_clk, hw]
    exact if_pos ⟨he, hb, hok⟩
  unfold ftSyncEdge
  extract_lets u
  rw [show u = edgeCaptured frac s from rfl, hexp, edgeCaptured_tt, htt, hf]
  rfl

theorem ftSyncMissing_of_locked {s : State} (htt : s.tt = 2) (hj : s.time.judged < tbTime s / frameNs)
    (hp : tbTime s / frameNs * frameNs + 64 ≤ tbTime s) : ftSyncMissing s =
      enterHoldover 0 (onTime (fun t => { t with judged := tbTime s / frameNs }) (raise 0x0106 none [] s)) := by
  have hexp : expects s = true := by simp [expects, htt]
  unfold ftSyncMissing
  simp only
  rw [if_pos ⟨hexp, hj, hp⟩]
  refine if_pos ?_
  simp only [State.tt, onTime_rg]
  rw [raise_rg_of_ne _ _ _ _ _ _ (by decide) (by decide)]
  exact htt

end Sys2Proof.Machine

namespace Sys2Proof.Proofs

open Sys2Proof Sys2Proof.Machine

theorem sameMem_ftSyncEdge (frac : Nat) (s : State) : SameMem s (ftSyncEdge frac s) :=
  (touch_ftSyncEdge (fun _ h => h) (touch_refl _ s)).sameMem (by decide)

theorem edgeTaken_tt (frac : Nat) (s : State) : (edgeTaken frac s).tt = s.tt := edgeShown_tt frac s

theorem edgeTaken_ft (frac : Nat) (s : State) : (edgeTaken frac s).ft = s.ft := by simp [edgeTaken, edgeShown, edgeCaptured]

theorem edgeTaken_time (frac : Nat) (s : State) :
    (edgeTaken frac s).time = { s.time with judged := edgeFrame s frac, word := none } := by
  simp [edgeTaken, edgeShown, edgeCaptured]

theorem edgeTaken_refOk (frac : Nat) (s : State) :
    (edgeTaken frac s).rg .TT_STATUS_REF_OK 0 = s.rg .TT_STATUS_REF_OK 0 := edgeShown_rg frac s 0 (by decide)

theorem edgeTaken_cap (frac : BitVec 8) (s : State) :
    (edgeTaken frac.toNat s).rg .TT_CAP_LO_CAP_LO 0 = s.ft % 2 ^ 32 ∧
    (edgeTaken frac.toNat s).rg .TT_CAP_HI_CAP_HI 0 = s.ft / 2 ^ 32 % 2 ^ 32 ∧
    (edgeTaken frac.toNat s).rg .TT_CAP_FRAC_FRAC 0 = frac.toNat := by
  simp [edgeTaken, edgeShown, edgeCaptured, time_width, Nat.mod_eq_of_lt (a := frac.toNat) (b := 256) frac.isLt]

theorem edgeIn_locked {named : Bool} {trim : Int} {t : State} (h : t.tt = 2) :
    edgeIn named trim t = onTime (fun x => { x with slew := trim }) t := if_pos h

theorem edgeIn_holdover {trim : Int} {t : State} (h : t.tt = 3) (hok : t.rg .TT_STATUS_REF_OK 0 = 1) :
    edgeIn true trim t = enterLocked (onTime (fun x => { x with slew := trim }) t) := by
  unfold edgeIn
  rw [if_neg (by omega), if_pos h, if_pos ⟨rfl, hok⟩]

theorem edgeIn_confirming {trim : Int} {t : State} (h : t.tt = 1) (hc : t.time.confirm = 1) :
    edgeIn true trim t = enterLocked (onTime (fun x => { x with confirm := x.confirm + 1, slew := trim }) t) := by
  unfold edgeIn
  rw [if_neg (by omega), if_neg (by omega), if_pos rfl]
  exact if_pos (by simp [hc])

/-- Settles O19: each command's new state, read off its branch; a lost reference and a second bad word differ from the
rest in that they enter HOLDOVER. -/
theorem timebaseReferenceAndWords : Obligations.TimebaseReferenceAndWords := by
  unfold Obligations.TimebaseReferenceAndWords
  refine ⟨fun s hl => ⟨ftRefStable s, done_live hl, ?_⟩, fun s hl hok => ⟨ftRefLost s, done_live hl, ?_⟩,
    fun w s hl hw htt h => ⟨ftCodeWord w s, done_live hl, ?_⟩, fun w s hl hw => ⟨ftCodeWord w s, done_live hl, ?_⟩⟩
  · have h := touch_ftRefStable (fun _ h => h) (touch_refl _ s)
    exact ⟨ftRefStable_refOk s, ftRefStable_tt s, h.sameRegs (by decide), h.time (by decide), h.ft (by decide),
      h.evr (by decide), h.sameMem (by decide)⟩
  · have h := touch_ftRefLost (fun _ h => h) (touch_refl _ s)
    refine ⟨?_, ?_, ?_, ?_, h.ft (by decide), h.sameMem (by decide)⟩
    all_goals by_cases htt : s.tt = 2
    · rw [ftRefLost_of_locked hok htt]
      simp [enterHoldover, refGone_refOk]
    · rw [ftRefLost_of_not_locked hok htt, refGone_refOk]
    · rw [ftRefLost_of_locked hok htt, enterHoldover_tt, if_pos htt]
    · rw [ftRefLost_of_not_locked hok htt, refGone_tt, if_neg htt]
    · rw [ftRefLost_of_locked hok htt]
      exact fun _ => ⟨by simp, by simp, by simp [refGone]⟩
    · exact fun h => absurd h htt
    · exact fun h => absurd htt h
    · rw [ftRefLost_of_not_locked hok htt]
      exact fun _ => by simp [refGone]
  · rw [ftCodeWord_of_agreeing hw htt h]
    refine ⟨rfl, (wordShown_tt w s), rfl, rfl, ?_, ?_, ?_, fun a => rfl⟩
    · simp [wordShown, time_width, bits]
    · simp [wordShown, time_width, bits]
    · exact Touches.sameRegs (touch_onTime (by decide) (touch_setRg (by decide) (touch_setRg (by decide) (touch_refl
        [.time, .reg .TT_STATUS_TB_ID, .reg .TT_STATUS_TB_STATUS] s)))) (by decide)
  · have h := touch_ftCodeWord (a0 := w) (fun _ h => h) (touch_refl _ s)
    have htt : (bump .TT_CODE_ERR_CRC 0 1 s).tt = s.tt := bump_rg_ne s (by decide)
    refine ⟨?_, ?_, ?_, h.ft (by decide), h.sameMem (by decide)⟩
    all_goals rw [ftCodeWord_of_invalid hw]
    · have hw : RN.width .TT_CODE_ERR_CRC = 16 := rfl
      have hb := (touch_badWord (fun _ h => h) (touch_refl _ (bump .TT_CODE_ERR_CRC 0 1 s))).rg
        (n := .TT_CODE_ERR_CRC) (by decide) 0
      rw [hb, bump_rg_self, hw]
      exact Nat.mod_eq_of_lt (by omega)
    · exact fun hs => badWord_of_second (by rwa [htt])
    · exact fun hs => htt ▸ badWord_of_first (s := bump .TT_CODE_ERR_CRC 0 1 s) (by rwa [htt])

/-- Settles O20: an edge that the node expects is judged by its difference, one that it does not loads the count; each
clause is one branch of that. -/
theorem syncEdgesAreJudged : Obligations.SyncEdgesAreJudged := by
  unfold Obligations.SyncEdgesAreJudged
  refine ⟨fun frac s hl htt hlo hhi => ⟨_, done_live hl, ?_⟩, fun frac s hl htt h => ⟨_, done_live hl, ?_⟩,
    fun frac w s hl htt hld hw => ⟨_, done_live hl, ?_⟩, fun frac s hl htt hld hc hlo hhi hn => ⟨_, done_live hl, ?_⟩,
    fun frac s hl htt hok hlo hhi hn => ⟨_, done_live hl, ?_⟩, fun frac w s hl htt hw he hb hok => ⟨_, done_live hl, ?_⟩,
    fun s hl htt hj hp => ⟨_, done_live hl, ?_⟩⟩
  case refine_1 =>
    rw [ftSyncEdge_of_expected (by simp [expects, htt]), judgeEdge_in_window hlo hhi,
      edgeIn_locked ((edgeTaken_tt _ s).trans htt)]
    obtain ⟨hlo, hhi, hfr⟩ := edgeTaken_cap frac s
    have h : Touches [.time, .reg .TT_CAP_LO_CAP_LO, .reg .TT_CAP_HI_CAP_HI, .reg .TT_CAP_FRAC_FRAC, .reg .TT_SYNC_ERR_ERR]
        s (edgeTaken frac.toNat s) := touch_onTime (by decide) ((touch_edgeShown _ s).mono (by decide))
    have h' := touch_onTime (f := fun x => { x with slew := trimOf s (edgeErr s frac.toNat) }) (by decide) h
    exact ⟨(edgeTaken_tt _ s).trans htt, rfl, rfl, hlo, hhi, hfr, edgeTaken_ft frac.toNat s, h'.evr (by decide),
      h'.sameRegs (by decide), h'.sameMem (by decide)⟩
  case refine_2 =>
    rw [ftSyncEdge_of_expected (by simp [expects, htt]), judgeEdge_outside htt h]
    have h := (touch_enterHoldover (a0 := 0) (fun _ h => h) (touch_refl _ (raise 0x0106 none [] (edgeShown frac.toNat s)))).sameMem
      (by decide)
    refine ⟨enterHoldover_tt .., ?_, ?_, ?_, ?_, ?_, fun a => ?_⟩
    all_goals simp [enterHoldover, edgeShown, edgeCaptured]
  case refine_3 =>
    have h := sameMem_ftSyncEdge frac.toNat s
    rw [ftSyncEdge_of_first htt hld hw] at h ⊢
    refine ⟨(loadCount_tt ..).trans ((edgeCaptured_tt _ s).trans htt), rfl, rfl, ?_, ?_, ?_, h⟩
    all_goals simp [edgeCaptured]
  case refine_4 =>
    have h := sameMem_ftSyncEdge frac.toNat s
    rw [ftSyncEdge_of_expected (by simp [expects, htt, hld]), judgeEdge_in_window hlo hhi, hn,
      edgeIn_confirming ((edgeTaken_tt _ s).trans htt) (by rw [edgeTaken_time]; exact hc)] at h ⊢
    exact ⟨enterLocked_tt .., by simp [edgeTaken_ft], h⟩
  case refine_5 =>
    have h := sameMem_ftSyncEdge frac.toNat s
    rw [ftSyncEdge_of_expected (by simp [expects, htt]), judgeEdge_in_window hlo hhi, hn,
      edgeIn_holdover ((edgeTaken_tt _ s).trans htt) ((edgeTaken_refOk _ s).trans hok)] at h ⊢
    exact ⟨enterLocked_tt .., by simp, by simp [edgeTaken_ft], h⟩
  case refine_6 =>
    have h := sameMem_ftSyncEdge frac.toNat s
    rw [ftSyncEdge_of_fault htt hw he hb hok] at h ⊢
    exact ⟨enterLocked_tt .., by simp [edgeCaptured], by simp [edgeCaptured], h⟩
  case refine_7 =>
    rw [ftSyncMissing_of_locked htt hj hp]
    refine ⟨enterHoldover_tt .., ?_, ?_, fun a => ?_⟩
    all_goals simp [enterHoldover]

end Sys2Proof.Proofs
end

section
/-! PROOF. Steering, time transfer and the event table (R90 to R104). -/

namespace Sys2Proof.Machine

open Sys2Proof

/-! ### Steering -/

theorem clampInt_bounds {lo hi : Int} (h : lo ≤ hi) (i : Int) : lo ≤ clampInt lo hi i ∧ clampInt lo hi i ≤ hi := by
  unfold clampInt
  split
  · exact ⟨le_refl _, h⟩
  · split <;> omega

theorem followOf_bounds (offset now : Int) : -20000 ≤ followOf offset now ∧ followOf offset now ≤ 20000 := by
  have h := clampInt_bounds (lo := -20000) (hi := 20000) (by decide) (Config.followRate offset now)
  unfold followOf
  dsimp only
  split
  · omega
  · split <;> omega

theorem followOf_sign (offset now : Int) : (0 < offset → 0 < followOf offset now) ∧
    (offset < 0 → followOf offset now < 0) ∧ (offset = 0 → followOf offset now = 0) := by
  unfold followOf
  dsimp only
  refine ⟨fun h => ?_, fun h => ?_, fun h => if_pos h⟩
  · rw [if_neg (by omega), if_pos h]
    omega
  · rw [if_neg (by omega), if_neg (by omega)]
    omega

theorem steerRate_bounds (s : State) : -20000 ≤ steerRate s ∧ steerRate s ≤ 20000 := by
  unfold steerRate
  dsimp only
  split
  · decide
  · split
    · exact clampInt_bounds (by decide) _
    · split
      · exact followOf_bounds ..
      · decide

theorem steerRate_of_mode_2 {s : State} (htt : s.tt = 2) (hm : s.rg .TT_STEER_MODE 0 = 2)
    (hv : s.rg .TT_LINK_OFFSET_VALID (s.rg .TT_STEER_LINK 0) = 1) :
    steerRate s = followOf (signed 24 (s.rg .TT_LINK_OFFSET_OFFSET (s.rg .TT_STEER_LINK 0))) s.time.ppb := by
  unfold steerRate
  rw [if_neg (by omega), if_neg (by omega)]
  exact if_pos ⟨hm, hv⟩

theorem steerLimit_acc (s : State) : (steerLimit s).time.acc = s.time.acc := by
  unfold steerLimit
  split <;> simp

theorem steerLimit_frame (s : State) : (steerLimit s).frame = s.frame := by
  unfold State.frame
  rw [(touch_steerLimit (fun _ h => h) (touch_refl _ s)).ft (by decide)]

/-- The rate that a frame boundary takes: 0 where it would lead away from 0 at the limit (R95, R96). -/
def steerTaken (s : State) : Int :=
  if 99999999999999 < s.time.acc.natAbs ∧ 0 < steerRate (steerLimit s) * s.time.acc then 0 else steerRate (steerLimit s)

theorem steerUpdate_of_due {s : State} (h : s.time.steerAt < s.frame) : ∃ b : Bool, steerUpdate s =
    setRg .TT_STATUS_STEERING 0 (b2n (steerTaken s != 0))
      (onTime (fun t => { t with ppb := steerTaken s, steerAt := s.frame, limited := b }) (steerLimit s)) := by
  have hr : (if decide (100000000000000 ≤ (steerLimit s).time.acc.natAbs) &&
      decide (0 < steerRate (steerLimit s) * (steerLimit s).time.acc) then 0 else steerRate (steerLimit s)) = steerTaken s := by
    unfold steerTaken
    simp only [steerLimit_acc, Bool.and_eq_true, decide_eq_true_iff]
    exact if_congr (and_congr_left' ⟨fun h => by omega, fun h => by omega⟩) rfl rfl
  refine ⟨decide (100000000000000 ≤ (steerLimit s).time.acc.natAbs), ?_⟩
  unfold steerUpdate
  rw [if_neg (Nat.not_le.mpr h)]
  dsimp only
  rw [hr, steerLimit_frame]

/-! ### Links' reports -/

theorem look_of_setLinkTime (l : Nat) (t : LinkTime) (s : State) : (setLinkTime l t s).linkTime l = t := by
  simp [State.linkTime, setLinkTime]

theorem reportLink_of_none {l : Nat} {x : LinkTime} {s : State} (hx : look l s.time.links = some x)
    (h : x.pair = none ∨ 4 ≤ x.since) :
    reportLink l s = reportNone l (x.since + 1) (setLinkTime l { x with since := x.since + 1 } s) := by
  unfold reportLink
  rw [hx]
  dsimp only
  cases hp : x.pair with
  | none => rfl
  | some q =>
    have h4 : 4 ≤ x.since := h.resolve_left (by simp [hp])
    exact if_neg (by omega)

theorem reportLink_of_pair {l t1 t2 t3 t4 : Nat} {x : LinkTime} {s : State} (hx : look l s.time.links = some x)
    (hp : x.pair = some (t1, t2, t3, t4)) (h : x.since < 4) :
    reportLink l s =
      setRg .TT_LINK_OFFSET_VALID l 1 (setRg .TT_LINK_OFFSET_OFFSET l
        (unsigned 24 (reportUnits (fineDelay s) (((t2 : Int) - t1) - ((t4 : Int) - t3) + 128 * signed 16 (s.rg .TT_LINK_ASYM_ASYM l))))
        (setRg .TT_LINK_DELAY_VALID l 1 (setRg .TT_LINK_DELAY_DELAY l
          (unsigned 20 (reportUnits (fineDelay s) (((t4 : Int) - t1) - ((t3 : Int) - t2) - 128 * signed 16 (s.rg .TT_LINK_ASYM_ASYM l))))
          (setLinkTime l { x with since := x.since + 1 } s)))) := by
  unfold reportLink
  rw [hx]
  dsimp only
  rw [hp]
  exact if_pos (by omega)

/-! ### The payload of a TIME_XFER -/

@[simp] theorem length_leBytes (k n : Nat) : (leBytes k n).length = k := by
  induction k generalizing n with
  | zero => rfl
  | succ k ih => simp [leBytes, ih]

theorem length_zeros (k : Nat) : (zeros k).length = k := List.length_replicate

theorem length_hdrBytes (h : Hdr) (src opId sendFt off n : Nat) : (h.bytes src opId sendFt off n).length = 104 := by
  unfold Hdr.bytes
  simp only [List.length_append]
  simp only [length_leBytes, length_zeros, Tests.padTo_length]

theorem length_overwrite {bs new : List Byte} {off : Nat} (h : off + new.length ≤ bs.length) :
    (overwrite bs off new).length = bs.length := by
  simp only [overwrite, List.length_append, Tests.padTo_length, List.length_drop]
  omega

theorem xferDue_iff (s : State) (l : Nat) : xferDue s l = true ↔ (s.link l).st = .up ∧ s.tt ≠ 0 ∧ s.rg .TT_CTRL_XFER_EN 0 = 1 ∧
    (s.linkTime l).upFrame < s.frame ∧ (s.linkTime l).gave ≠ some s.frame ∧
    (if s.nodeId < s.rg .PRT_Ln_PEER_NODE l then 4096 * l ≤ s.ft % frameNs ∧ s.ft % frameNs < 65536
      else (s.linkTime l).heard = some s.frame) := by
  unfold xferDue
  split <;> simp_all [and_assoc]

/-! ### The event table -/

theorem setEvt_evt_self (i : Nat) (e : Evt) (s : State) : (setEvt i e s).evt i = some e := look_put_self ..

theorem setEvt_evt_ne {i j : Nat} (e : Evt) (s : State) (h : j ≠ i) : (setEvt i e s).evt j = s.evt j := look_put_ne _ _ h

theorem evt_congr {s t : State} (h : t.time = s.time) (i : Nat) : t.evt i = s.evt i := by
  unfold State.evt
  rw [h]

@[simp] theorem result_time (st dn : RN) (p code : Nat) (s : State) : (result st dn p code s).time = s.time := by simp [result]

@[simp] theorem result_evr (st dn : RN) (p code : Nat) (s : State) : (result st dn p code s).evr = s.evr := by simp [result]

theorem evt_width : RN.width .TT_EVT_RESULT_STATUS = 8 ∧ RN.width .TT_EVT_RESULT_DONE = 1 := ⟨rfl, rfl⟩

theorem evtResult_status (p code : Nat) (s : State) :
    (result .TT_EVT_RESULT_STATUS .TT_EVT_RESULT_DONE p code s).rg .TT_EVT_RESULT_STATUS p = code % 2 ^ 8 := by
  simp [result, evt_width]

theorem evtResult_done (p code : Nat) (s : State) :
    (result .TT_EVT_RESULT_STATUS .TT_EVT_RESULT_DONE p code s).rg .TT_EVT_RESULT_DONE p = 1 := by
  simp [result, evt_width]

theorem evtResult_index (p code : Nat) (s : State) (i : Nat) :
    (result .TT_EVT_RESULT_STATUS .TT_EVT_RESULT_DONE p code s).rg .TT_EVT_RESULT_INDEX i = s.rg .TT_EVT_RESULT_INDEX i := by
  simp [result]

/-- An ADD that nothing refuses (R101). -/
theorem evtAdd_of_free {p i ft : Nat} {s : State} (htt : s.tt = 2)
    (hft : ft = s.rg .TT_EVT_FT_LO_FT_LO p + s.rg .TT_EVT_FT_HI_FT_HI p * 2 ^ 32)
    (hk : 2 ≤ s.rg .TT_EVT_SPEC_KIND p ∧ s.rg .TT_EVT_SPEC_KIND p ≤ 5) (hlo : s.ft + 10000 ≤ ft) (hhi : ft ≤ s.ft + 4294967296)
    (hp : evtPoint s (s.rg .TT_EVT_SPEC_KIND p) ft = true)
    (hper : s.rg .TT_EVT_SPEC_PERIOD_EXP p = 0 ∨
      (s.rg .TT_EVT_SPEC_KIND p = 4 ∧ s.gridK ≤ s.rg .TT_EVT_SPEC_PERIOD_EXP p ∧ s.rg .TT_EVT_SPEC_PERIOD_EXP p ≤ 30))
    (hcar : s.im.carValid (s.rg .TT_EVT_SPEC_CARRIAGE p) = true)
    (hfree : evtFree s (s.rg .TT_EVT_SPEC_KIND p) (s.rg .TT_EVT_SPEC_CARRIAGE p) = some i)
    (hsem : s.rg .TT_EVT_SPEC_KIND p ≠ 2 ∨ s.holdsSem p 1 = true) :
    evtAdd p s = result .TT_EVT_RESULT_STATUS .TT_EVT_RESULT_DONE p Status.ok (setRg .TT_EVT_RESULT_INDEX p i
      (evtTake i ft (s.rg .TT_EVT_SPEC_KIND p) (s.rg .TT_EVT_SPEC_CARRIAGE p) (s.rg .TT_EVT_SPEC_PERIOD_EXP p)
        (s.rg .TT_EVT_ARG_ARG p) s)) := by
  unfold evtAdd
  rw [← hft]
  extract_lets ft' kind car per well fail
  have hwell : well = true := by
    simp only [well, Bool.and_eq_true, decide_eq_true_iff, Bool.or_eq_true, beq_iff_eq]
    exact ⟨⟨⟨⟨hk, hlo⟩, hhi⟩, hp⟩, by rwa [and_assoc]⟩
  have hfail : fail = none := by
    have h2 : (kind != 2 || s.holdsSem p 1) = true := by simpa [kind] using hsem
    simp only [fail, firstFail, hwell, h2, if_true]
    rw [show s.im.carValid car = true from hcar, show evtFree s kind car = some i from hfree, htt]
    rfl
  rw [hfail, show evtFree s kind car = some i from hfree]

/-- A CANCEL of a pending entry of kind 4 or 5, which any port may cancel (R103). -/
theorem evtCancelCmd_of_pending {p : Nat} {e : Evt} {s : State} (he : s.evt (s.rg .TT_EVT_CTRL_INDEX p) = some e)
    (hst : e.st = 1) (hk : e.kind = 4 ∨ e.kind = 5) :
    evtCancelCmd p s = result .TT_EVT_RESULT_STATUS .TT_EVT_RESULT_DONE p Status.ok
      (setRg .TT_EVT_RESULT_INDEX p (s.rg .TT_EVT_CTRL_INDEX p) (setEvt (s.rg .TT_EVT_CTRL_INDEX p) { e with st := 3 } s)) := by
  have hk' : ¬ (e.kind = 1 ∨ e.kind = 6) ∧ ¬ (e.kind = 2 ∧ s.holdsSem p 1 = false) ∧ e.kind ≠ 3 := by omega
  obtain ⟨h1, h2, h3⟩ := hk'
  unfold evtCancelCmd
  simp only [he, if_neg h1, if_neg h2, if_neg (show ¬ e.st = 0 by omega)]
  simp [when, whenSome, evtCancel, he, hst, h3]

/-- A CANCEL of an entry never used (R103). -/
theorem evtCancelCmd_of_unused {p : Nat} {s : State} (he : s.evt (s.rg .TT_EVT_CTRL_INDEX p) = none) :
    evtCancelCmd p s = result .TT_EVT_RESULT_STATUS .TT_EVT_RESULT_DONE p Status.badCommand s := by
  unfold evtCancelCmd
  simp only [he]
  rfl

/-- A CANCEL of a COMP_SWITCH or start-up entry (R103). -/
theorem evtCancelCmd_of_nodes_own {p : Nat} {e : Evt} {s : State} (he : s.evt (s.rg .TT_EVT_CTRL_INDEX p) = some e)
    (hst : e.st ≠ 0) (hk : e.kind = 1 ∨ e.kind = 6) :
    evtCancelCmd p s = result .TT_EVT_RESULT_STATUS .TT_EVT_RESULT_DONE p Status.accessDenied s := by
  unfold evtCancelCmd
  simp only [he, if_pos hk, if_neg hst]
  rfl

end Sys2Proof.Machine

namespace Sys2Proof.Proofs

open Sys2Proof Sys2Proof.Machine

/-- Settles O21: each command's new state, read off its branch; the rates are bounded by the clamp. -/
theorem steeringAndTimeTransfer : Obligations.SteeringAndTimeTransfer := by
  unfold Obligations.SteeringAndTimeTransfer
  refine ⟨fun s hl hdue => ⟨_, done_live hl, ?_⟩, steerRate_bounds, fun s htt hm hv => ?_, fun s hl hlim hacc => ⟨_, done_live hl, ?_⟩,
    fun l s hl hup htt hen hfr hg hwin => ?_, fun l body frac replayed s hl hup htt hen hlen => ⟨_, done_live hl, ?_⟩,
    fun s hl hdue htt => (done_live hl).trans (congrArg _ ?_), fun l x s hx h => ?_, fun l t1 t2 t3 t4 x s hx hp h => ?_⟩
  case refine_1 =>
    have h := touch_steerUpdate (fun _ h => h) (touch_refl _ s)
    obtain ⟨b, he⟩ := steerUpdate_of_due hdue
    refine ⟨?_, ?_, ?_, h.sameRegs (by decide), h.ft (by decide), h.sameMem (by decide)⟩
    all_goals rw [he]
    · simp
    · simp [steerTaken]
    · cases hb : steerTaken s != 0 <;> simp [time_width, hb, b2n]
  case refine_2 =>
    dsimp only
    rw [steerRate_of_mode_2 htt hm hv]
    exact followOf_sign ..
  case refine_3 =>
    have h := (touch_steerLimit (fun _ h => h) (touch_refl _ s)).sameMem (by decide)
    have he : steerLimit s = _ := if_pos ⟨hlim, hacc⟩
    rw [he] at h ⊢
    exact ⟨by simp, by simp, by simp, ⟨_, rfl⟩, h⟩
  case refine_4 =>
    refine ⟨_, (done_live hl).trans (congrArg _ (if_pos ((xferDue_iff ..).mpr ⟨hup, htt, hen, hfr, hg, hwin⟩))), ?_⟩
    rw [List.drop_left']
    rw [length_overwrite (by simp [length_hdrBytes]), length_hdrBytes]
  case refine_5 =>
    have h := touch_timeXfer (a0 := l.val) (a1 := body) (a2 := frac.toNat) (a3 := replayed) (fun _ h => h) (touch_refl _ s)
    refine ⟨h.sameRegs (by decide), h.sameMem (by decide), ?_⟩
    unfold timeXfer
    rw [if_neg (by simp [Link.open_, hup, htt, hen, hlen])]
    dsimp only
    rw [look_of_setLinkTime]
    split <;> exact ⟨rfl, rfl, rfl⟩
  case refine_6 => exact if_neg (by omega)
  case refine_7 =>
    rw [reportLink_of_none hx h]
    refine ⟨?_, ?_, fun h4 => ⟨setRg .TT_LINK_OFFSET_VALID l 0 (setRg .TT_LINK_DELAY_VALID l 0
      (setLinkTime l { x with since := x.since + 1 } s)), ?_⟩⟩
    · cases hn : (x.since + 1 == 5) <;> simp [reportNone, when, hn]
    · cases hn : (x.since + 1 == 5) <;> simp [reportNone, when, hn]
    · simp [reportNone, when, h4]
  case refine_8 =>
    dsimp only
    rw [reportLink_of_pair hx hp h]
    have hw : RN.width .TT_LINK_DELAY_DELAY = 20 ∧ RN.width .TT_LINK_OFFSET_OFFSET = 24 ∧
        RN.width .TT_LINK_DELAY_VALID = 1 ∧ RN.width .TT_LINK_OFFSET_VALID = 1 := ⟨rfl, rfl, rfl, rfl⟩
    exact ⟨by simp [hw], by simp [hw], by simp [hw], by simp [hw]⟩

/-- Settles O22: an ADD that nothing refuses takes its entry, and a CANCEL reads its status off the entry's kind and
state. -/
theorem scheduledEventsAreAddedAndCancelled : Obligations.ScheduledEventsAreAddedAndCancelled := by
  unfold Obligations.ScheduledEventsAreAddedAndCancelled
  refine ⟨fun p i s hl hr htt => ?_, fun p e s hl hr he hst hk => ⟨_, done_live_access hl hr, ?_⟩, fun p s hl hr =>
    ⟨fun he => ⟨_, done_live_access hl hr, ?_⟩, fun e he hst hk => ⟨_, done_live_access hl hr, ?_⟩⟩⟩
  case refine_1 =>
    intro ft kind car per hk2 hk5 hlo hhi hp hper hcar hfree hsem
    refine ⟨_, done_live_access hl hr, ?_⟩
    have h := touch_evtAdd (a0 := p.idx) (fun _ h => h) (touch_refl _ s)
    have he := evtAdd_of_free (p := p.idx) (ft := ft) htt rfl ⟨hk2, hk5⟩ hlo hhi hp hper hcar hfree hsem
    refine ⟨?_, fun j hj => ?_, ?_, ?_, ?_, h.sameRegs (by decide), h.evr (by decide), h.sameMem (by decide)⟩
    all_goals rw [he]
    · rw [evt_congr ((result_time ..).trans (setRg_time ..))]
      exact evtTake_evt_self ..
    · rw [evt_congr ((result_time ..).trans (setRg_time ..))]
      exact evtTake_evt_ne _ _ _ _ _ _ hj
    · rw [evtResult_index, setRg_rg_self]
    · exact evtResult_status ..
    · exact evtResult_done ..
  case refine_2 =>
    have h := (touch_evtCancelCmd (a0 := p.idx) (fun _ h => h) (touch_refl _ s)).sameMem (by decide)
    rw [evtCancelCmd_of_pending he hst hk] at h ⊢
    refine ⟨?_, fun j hj => ?_, evtResult_status .., ?_, evtResult_done .., h⟩
    · rw [evt_congr ((result_time ..).trans (setRg_time ..))]
      exact setEvt_evt_self ..
    · rw [evt_congr ((result_time ..).trans (setRg_time ..))]
      exact setEvt_evt_ne _ _ hj
    · rw [evtResult_index, setRg_rg_self]
  all_goals
    have h : ∀ code, Touches [.reg .TT_EVT_RESULT_STATUS, .reg .TT_EVT_RESULT_DONE] s
        (result .TT_EVT_RESULT_STATUS .TT_EVT_RESULT_DONE p.idx code s) :=
      fun code => touch_result (by decide) (touch_refl _ s)
  · rw [evtCancelCmd_of_unused he]
    exact ⟨result_time .., evtResult_status .., (h _).sameRegs (by decide)⟩
  · rw [evtCancelCmd_of_nodes_own he hst hk]
    exact ⟨result_time .., evtResult_status .., (h _).sameRegs (by decide)⟩

end Sys2Proof.Proofs
end

section
/-! PROOF. Little-endian fields of byte lists, and how started commands end (R133, R141 to R146). -/

namespace Sys2Proof.Machine

open Sys2Proof

/-! ### Little-endian fields -/

theorem leNat_leBytes (k n : Nat) : leNat (leBytes k n) = n % 256 ^ k := by
  induction k generalizing n with
  | zero => simp [leBytes, leNat, Nat.mod_one]
  | succ k ih =>
    have hb : (BitVec.ofNat 8 n).toNat = n % 256 := BitVec.toNat_ofNat ..
    rw [leBytes, leNat, ih, hb, pow_succ', Nat.mod_mul]

theorem fieldAt_leBytes (k n : Nat) (r : List Byte) : fieldAt (leBytes k n ++ r) 0 k = n % 256 ^ k := by
  rw [fieldAt, slice, List.drop_zero, List.take_left' (length_leBytes k n), leNat_leBytes]

theorem fieldAt_leBytes_last (k n : Nat) : fieldAt (leBytes k n) 0 k = n % 256 ^ k := by
  simpa using fieldAt_leBytes k n []

theorem fieldAt_past {a r : List Byte} {off len : Nat} (h : a.length ≤ off) :
    fieldAt (a ++ r) off len = fieldAt r (off - a.length) len := by
  rw [fieldAt, slice, List.drop_append, List.drop_eq_nil_of_le h]
  rfl

theorem fieldAt_past_leBytes {k n off len : Nat} {r : List Byte} (h : k ≤ off) :
    fieldAt (leBytes k n ++ r) off len = fieldAt r (off - k) len := by
  rw [fieldAt_past (by rwa [length_leBytes]), length_leBytes]

theorem b2n_le (b : Bool) : b2n b ≤ 1 := by cases b <;> decide

/-! ### Queue contexts -/

@[simp] theorem setCtx_rg (q : Nat) (x : QCtx) (s : State) (n : RN) (i : Nat) : (setCtx q x s).rg n i = s.rg n i := rfl
@[simp] theorem setCtx_onz (q : Nat) (x : QCtx) (s : State) (p : Nat) : (setCtx q x s).onz p = s.onz p := rfl
@[simp] theorem setCtx_comp (q : Nat) (x : QCtx) (s : State) : (setCtx q x s).comp = s.comp := rfl
@[simp] theorem setCtx_evr (q : Nat) (x : QCtx) (s : State) : (setCtx q x s).evr = s.evr := rfl
@[simp] theorem setCtx_sent (q : Nat) (x : QCtx) (s : State) : (setCtx q x s).sent = s.sent := rfl
@[simp] theorem setCtx_cmd (q : Nat) (x : QCtx) (s : State) (k : Nat) : (setCtx q x s).cmd k = s.cmd k := rfl
@[simp] theorem setCtx_ctx_self (q : Nat) (x : QCtx) (s : State) : (setCtx q x s).ctx q = x := lookD_put_self ..

theorem setCtx_ctx_ne {q n : Nat} (x : QCtx) (s : State) (h : n ≠ q) : (setCtx q x s).ctx n = s.ctx n := lookD_put_ne _ _ _ h

theorem ctx_congr {s t : State} (h : t.que = s.que) (q : Nat) : t.ctx q = s.ctx q := by
  unfold State.ctx
  rw [h]

theorem cmd_congr {s t : State} (h : t.que = s.que) (k : Nat) : t.cmd k = s.cmd k := by
  unfold State.cmd
  rw [h]

@[simp] theorem memWriteDue_que (p addr flags : Nat) (data : List Byte) (s : State) :
    (memWriteDue p addr flags data s).que = s.que :=
  Touches.que (touch_memWriteDue (fun _ h => h) (touch_refl _ s)) (by decide)
@[simp] theorem memWriteDue_rg (p addr flags : Nat) (data : List Byte) (s : State) (n : RN) (i : Nat) :
    (memWriteDue p addr flags data s).rg n i = s.rg n i :=
  Touches.rg (touch_memWriteDue (fun _ h => h) (touch_refl _ s)) (by simp) i
@[simp] theorem memWriteDue_clk (p addr flags : Nat) (data : List Byte) (s : State) :
    (memWriteDue p addr flags data s).clk = s.clk :=
  Touches.clk (touch_memWriteDue (fun _ h => h) (touch_refl _ s)) (by decide)
@[simp] theorem undelivered_que (p : Nat) (s : State) : (undelivered p s).que = s.que :=
  Touches.que (touch_undelivered (fun _ h => h) (touch_refl _ s)) (by decide)

/-- Of the queues' part of the state, at most the contexts and the seal counters differ. -/
def QueRings (s t : State) : Prop := t.que = { s.que with ctx := t.que.ctx, sealCtr := t.que.sealCtr }

section
variable {r s t : State}

theorem QueRings.trans (h : QueRings r s) (k : QueRings s t) : QueRings r t := by
  unfold QueRings at *
  rw [k, h]

theorem queRings_of_eq (h : t.que = s.que) : QueRings s t := by
  unfold QueRings
  rw [h]

theorem QueRings.started (h : QueRings s t) : t.que.started = s.que.started := by rw [h]
theorem QueRings.lists (h : QueRings s t) : t.que.lists = s.que.lists := by rw [h]
theorem QueRings.sems (h : QueRings s t) : t.que.sems = s.que.sems := by rw [h]
theorem QueRings.serial (h : QueRings s t) : t.que.serial = s.que.serial := by rw [h]
theorem QueRings.last (h : QueRings s t) : t.que.last = s.que.last := by rw [h]

theorem QueRings.cmd (h : QueRings s t) (k : Nat) : t.cmd k = s.cmd k := by
  unfold State.cmd
  rw [h.started]

end

theorem queRings_setCtx (q : Nat) (x : QCtx) (s : State) : QueRings s (setCtx q x s) := rfl

theorem queRings_sendIrq (q : Nat) (s : State) : QueRings s (sendIrq q s) := by
  unfold sendIrq
  extract_lets addr src t
  have ht : QueRings s t := rfl
  split
  · exact ht.trans (queRings_of_eq (memWriteDue_que ..))
  · exact ht.trans (queRings_of_eq (undelivered_que ..))

theorem sendIrq_of_up {q : Nat} {s : State} (h : s.portUp (qPort q) = true) :
    sendIrq q s = memWriteDue (qPort q) (s.rg .QUE_CTX_IRQ_ADDR_LO_ADDR_LO q + s.rg .QUE_CTX_IRQ_ADDR_HI_ADDR_HI q * 2 ^ 32) 1
      (leBytes 4 (s.rg .QUE_CTX_IRQ_DATA_DATA q)) (setCtx q { s.ctx q with sinceIrq := 0, oldest := none } s) := by
  unfold sendIrq
  exact if_pos h

/-- An interrupt leaves of its queue all but what it covers. -/
theorem sendIrq_ctx (q : Nat) (s : State) : (sendIrq q s).ctx q = { s.ctx q with sinceIrq := 0, oldest := none } := by
  unfold sendIrq
  extract_lets addr src t
  have ht : t.ctx q = { s.ctx q with sinceIrq := 0, oldest := none } := setCtx_ctx_self ..
  split
  · rw [ctx_congr (memWriteDue_que ..), ht]
  · rw [ctx_congr (undelivered_que ..), ht]

/-! ### Completion entries -/

theorem queRings_writeCqe (c : Cmd) (st detail res : Nat) (s : State) : QueRings s (writeCqe c st detail res s) := by
  unfold writeCqe
  extract_lets q p x slot plain r t tail y due
  have ht : QueRings s t := by
    simp only [t]
    split
    · exact QueRings.trans (s := r.2) rfl (queRings_of_eq (memWriteDue_que ..))
    · exact queRings_of_eq (memWriteDue_que ..)
  have hy : QueRings s (setCtx q y t) := ht.trans (queRings_setCtx ..)
  split
  · exact queRings_of_eq (undelivered_que ..)
  · cases hd : due && t.rg .QUE_CTX_CFG_IRQ_EN q == 1 with
    | false => exact hy
    | true => exact hy.trans (queRings_sendIrq ..)

/-- The entry of a queue in clear, whose interrupt is off (R141, R146). -/
theorem writeCqe_in_clear {c : Cmd} {s : State} (st detail res : Nat) (hp : s.portUp (qPort c.q) = true) (hc : qConf s c.q = false)
    (hi : s.rg .QUE_CTX_CFG_IRQ_EN c.q = 0) :
    writeCqe c st detail res s = setCtx c.q { s.ctx c.q with
      cqTail := ((s.ctx c.q).cqTail + 1) % 65536
      phase := if ((s.ctx c.q).cqTail + 1) % 65536 % cqSize s c.q = 0 then !(s.ctx c.q).phase else (s.ctx c.q).phase
      sinceIrq := (s.ctx c.q).sinceIrq + 1
      oldest := some ((s.ctx c.q).oldest.getD s.clk) }
      (memWriteDue (qPort c.q) (cqBase s c.q + 16 * ((s.ctx c.q).cqTail % cqSize s c.q)) 0 (cqeBytes c (s.ctx c.q) st detail res) s) := by
  unfold writeCqe
  dsimp only
  rw [if_neg (by simp [hp]), hc]
  simp [cqSize, hi]
  rfl

theorem length_cqeBytes (c : Cmd) (x : QCtx) (st detail res : Nat) : (cqeBytes c x st detail res).length = 16 := by
  simp [cqeBytes]

/-- The fields of a completion entry (Table QUE-8). -/
theorem cqeBytes_fields (c : Cmd) (x : QCtx) (st detail res : Nat) :
    u16 (cqeBytes c x st detail res) 0 = Op.cmdId c.bytes % 65536 ∧ u8 (cqeBytes c x st detail res) 2 = st % 256 ∧
    u8 (cqeBytes c x st detail res) 3 % 2 = b2n x.phase ∧ u16 (cqeBytes c x st detail res) 4 = x.sqHead % 65536 ∧
    u16 (cqeBytes c x st detail res) 6 = detail % 65536 ∧ u64 (cqeBytes c x st detail res) 8 = res % 2 ^ 64 := by
  have hb := b2n_le x.phase
  unfold cqeBytes u16 u8 u64
  simp only [List.append_assoc]
  refine ⟨?_, ?_, ?_, ?_, ?_, ?_⟩
  · exact fieldAt_leBytes ..
  · rw [fieldAt_past_leBytes (by decide)]
    exact fieldAt_leBytes ..
  · iterate 2 rw [fieldAt_past_leBytes (by decide)]
    rw [fieldAt_leBytes]
    omega
  · iterate 3 rw [fieldAt_past_leBytes (by decide)]
    exact fieldAt_leBytes ..
  · iterate 4 rw [fieldAt_past_leBytes (by decide)]
    exact fieldAt_leBytes ..
  · iterate 5 rw [fieldAt_past_leBytes (by decide)]
    exact fieldAt_leBytes_last ..

/-! ### The end of a started command -/

/-- A started command taken off the lists that hold it: its slot, its INFLIGHT and reservation, and its sequences' turn. -/
def cmdGone (k st : Nat) (c : Cmd) (s : State) : State :=
  setCtx c.q { s.ctx c.q with inflight := (s.ctx c.q).inflight - 1, resv := (s.ctx c.q).resv - 1 }
    (onSeq (fun x => { x with busy := x.busy.filter (fun e => e.2 != k) })
      (onQue (fun x => { x with started := del k x.started, last := some (k, st) }) s))

theorem complete_of_none {k : Nat} {s : State} (h : s.cmd k = none) (st detail res : Nat) : complete k st detail res s = s := by
  unfold complete
  rw [h]

/-- What a command that ends leaves, its counts apart. -/
theorem complete_of_started {k : Nat} {c : Cmd} {s : State} (h : s.cmd k = some c) (st detail res : Nat) :
    complete k st detail res s = whenSome c.parent (fun p => noteMember p st)
      (let u := when (st == Status.staleEpoch) countStale (when (st == Status.aborted) (bump .RAS_C_ABORTED_COUNT (Op.car c.bytes) 1)
        (cmdGone k st c s))
       if st = Status.ok ∧ Op.noCqe c.bytes = true then u else writeCqe c st detail res u) := by
  unfold complete
  rw [h]
  dsimp only
  cases c.parent <;> rfl

/-- The count that a status asks for, and the completion entry, touch neither the started commands nor any sequence. -/
theorem queRings_when_bump (b : Bool) (n : RN) (i k : Nat) (s : State) : QueRings s (when b (bump n i k) s) := by
  cases b
  · exact rfl
  · exact queRings_of_eq (Touches.que (touch_bump (L := [.reg n]) (fun _ h => h) (touch_refl _ s)) (by simp))

theorem queRings_when_countStale (b : Bool) (s : State) : QueRings s (when b countStale s) := by
  cases b
  · exact rfl
  · exact queRings_of_eq (Touches.que (touch_countStale (fun _ h => h) (touch_refl _ s)) (by decide))

theorem noteMember_cmd (p : Nat × Nat) (st : Nat) (s : State) (k : Nat) : (noteMember p st s).cmd k = s.cmd k := by
  unfold noteMember
  split <;> rfl

/-- What a command has when it leaves, before its list hears of it. -/
theorem complete_of_started_cmd {k : Nat} {c : Cmd} {s : State} (h : s.cmd k = some c) (st detail res j : Nat) :
    (complete k st detail res s).cmd j = look j (del k s.que.started) := by
  rw [complete_of_started h]
  extract_lets u
  have hu : QueRings (cmdGone k st c s) u := (queRings_when_bump ..).trans (queRings_when_countStale ..)
  have hv : QueRings (cmdGone k st c s) (if st = Status.ok ∧ Op.noCqe c.bytes = true then u else writeCqe c st detail res u) := by
    split
    · exact hu
    · exact hu.trans (queRings_writeCqe ..)
  have hc : (cmdGone k st c s).cmd j = look j (del k s.que.started) := rfl
  cases c.parent with
  | none => rw [whenSome_none, hv.cmd, hc]
  | some p => rw [whenSome_some, noteMember_cmd, hv.cmd, hc]

theorem complete_cmd_self (k st detail res : Nat) (s : State) : (complete k st detail res s).cmd k = none := by
  cases h : s.cmd k with
  | none => rwa [complete_of_none h]
  | some c => rw [complete_of_started_cmd h, look_del_self]

theorem writeCqe_seq (c : Cmd) (st detail res : Nat) (s : State) : (writeCqe c st detail res s).seq = s.seq :=
  Touches.seq (touch_writeCqe (fun _ h => h) (touch_refl _ s)) (by decide)

theorem complete_seq {k : Nat} {s : State} (h : s.cmd k ≠ none) (st detail res : Nat) :
    (complete k st detail res s).seq = { s.seq with busy := s.seq.busy.filter (fun e => e.2 != k) } := by
  obtain ⟨c, hc⟩ := Option.ne_none_iff_exists'.mp h
  rw [complete_of_started hc]
  extract_lets u
  have hb : (when (st == Status.aborted) (bump .RAS_C_ABORTED_COUNT (Op.car c.bytes) 1) (cmdGone k st c s)).seq =
      { s.seq with busy := s.seq.busy.filter (fun e => e.2 != k) } := by
    cases st == Status.aborted
    · rfl
    · exact (bump_seq ..).trans rfl
  have hu : u.seq = { s.seq with busy := s.seq.busy.filter (fun e => e.2 != k) } := by
    simp only [u]
    cases st == Status.staleEpoch
    · exact hb
    · exact (Touches.seq (touch_countStale (fun _ h => h) (touch_refl _ _)) (by decide)).trans hb
  have hv : (if st = Status.ok ∧ Op.noCqe c.bytes = true then u else writeCqe c st detail res u).seq = u.seq := by
    split
    · rfl
    · exact writeCqe_seq ..
  cases c.parent with
  | none => exact hv.trans hu
  | some p => exact (noteMember_seq ..).trans (hv.trans hu)

end Sys2Proof.Machine

namespace Sys2Proof.Proofs

open Sys2Proof Sys2Proof.Machine

/-- Settles O24: `complete` read off its definition; of the queues' part it leaves all but the contexts and the seal
counters. -/
theorem commandsEndInOneCompletionEntry : Obligations.CommandsEndInOneCompletionEntry := by
  unfold Obligations.CommandsEndInOneCompletionEntry
  refine ⟨fun k st detail res c s hc ha he => ?_, fun k st detail res s h => complete_of_none h .., fun k st detail res s => ?_,
    fun c x st detail res => ⟨length_cqeBytes .., cqeBytes_fields ..⟩, fun c st detail res s hp hq hi => writeCqe_in_clear _ _ _ hp hq hi,
    fun c st detail res s hp => if_pos hp⟩
  · intro u
    rw [complete_of_started hc, show (st == Status.aborted) = false from beq_false_of_ne ha,
      show (st == Status.staleEpoch) = false from beq_false_of_ne he]
    rfl
  · have h := touch_complete (a0 := k) (a1 := st) (a2 := detail) (a3 := res) (fun _ h => h) (touch_refl _ s)
    exact ⟨complete_cmd_self .., fun hc => complete_seq hc .., h.mem (by decide), h.fox (by decide), h.pending (by decide)⟩

end Sys2Proof.Proofs
end

section
/-! PROOF. Queues and lists (R119, R129 to R148). -/

namespace Sys2Proof.Machine

open Sys2Proof

/-! ### QUE_CTX_CTRL -/

theorem touch_ctxResult {L : List StPart} {r s : State} {p code : Nat}
    (hL : [StPart.reg .QUE_CTX_RESULT_STATUS, .reg .QUE_CTX_RESULT_DONE] ⊆ L) (h : Touches L r s) :
    Touches L r (ctxResult p code s) := touch_result hL h

@[simp] theorem ctxResult_que (p code : Nat) (s : State) : (ctxResult p code s).que = s.que :=
  Touches.que (touch_ctxResult (fun _ h => h) (touch_refl _ s)) (by decide)

theorem ctxResult_status (p code : Nat) (s : State) :
    (ctxResult p code s).rg .QUE_CTX_RESULT_STATUS p = code % 2 ^ 8 := by
  simp [ctxResult, result, show RN.width .QUE_CTX_RESULT_STATUS = 8 from rfl]

theorem ctxResult_done (p code : Nat) (s : State) : (ctxResult p code s).rg .QUE_CTX_RESULT_DONE p = 1 := by
  simp [ctxResult, result, show RN.width .QUE_CTX_RESULT_DONE = 1 from rfl]

theorem ctxResult_ctx (p code : Nat) (s : State) (q : Nat) : (ctxResult p code s).ctx q = s.ctx q := ctx_congr (ctxResult_que ..) q

/-- What a QUE_CTX_CTRL write of port `p` on queue `q` changes: the port's result registers, and the queue. -/
def OnlyResult (p q code : Nat) (s t : State) : Prop :=
  t.rg .QUE_CTX_RESULT_STATUS p = code ∧ t.rg .QUE_CTX_RESULT_DONE p = 1 ∧
  SameRegs [.QUE_CTX_RESULT_STATUS, .QUE_CTX_RESULT_DONE] s t ∧ (∀ r, r ≠ q → t.ctx r = s.ctx r) ∧ t.evr = s.evr ∧
  t.que.started = s.que.started ∧ t.que.sems = s.que.sems ∧ SameMem s t

theorem onlyResult_ctxResult {p q code : Nat} {s u : State} (hcode : code < 256) (hu : Touches [.que] s u) (hq : QueRings s u)
    (hc : ∀ r, r ≠ q → u.ctx r = s.ctx r) : OnlyResult p q code s (ctxResult p code u) := by
  have h : Touches [.que, .reg .QUE_CTX_RESULT_STATUS, .reg .QUE_CTX_RESULT_DONE] s (ctxResult p code u) :=
    touch_ctxResult (by decide) (hu.mono (by decide))
  exact ⟨(ctxResult_status ..).trans (Nat.mod_eq_of_lt hcode), ctxResult_done .., h.sameRegs (by decide),
    fun r hr => (ctxResult_ctx ..).trans (hc r hr), h.evr (by decide), by rw [ctxResult_que]; exact hq.started,
    by rw [ctxResult_que]; exact hq.sems, h.sameMem (by decide)⟩

theorem onlyResult_refused {p q code : Nat} (hcode : code < 256) (s : State) : OnlyResult p q code s (ctxResult p code s) :=
  onlyResult_ctxResult hcode (touch_refl _ s) rfl (fun _ _ => rfl)

theorem onlyResult_setCtx {p q code : Nat} (hcode : code < 256) (x : QCtx) (s : State) :
    OnlyResult p q code s (ctxResult p code (setCtx q x s)) :=
  onlyResult_ctxResult hcode (touch_setCtx (fun _ h => h) (touch_refl _ s)) rfl (fun _ hr => setCtx_ctx_ne _ _ hr)

/-- Whether ENABLE finds a queue's fields in range (R136, R500). -/
def Enables (q : Nat) (s : State) : Prop :=
  (s.ctx q).st = 0 ∧ 4 ≤ s.rg .QUE_CTX_CFG_SQ_EXP q ∧ s.rg .QUE_CTX_CFG_SQ_EXP q ≤ 15 ∧ 4 ≤ s.rg .QUE_CTX_CFG_CQ_EXP q ∧
  s.rg .QUE_CTX_CFG_CQ_EXP q ≤ 15 ∧ 1 ≤ s.rg .QUE_CTX_CFG_ENGINE q ∧ s.rg .QUE_CTX_CFG_ENGINE q ≤ 6 ∧ sessionOk s q = true

theorem queueEnable_of_unowned {p q : Nat} {s : State} (hq : q = s.rg .QUE_SEL_QUEUE p)
    (h : qOwner s q = none ∨ Res.queue q ∈ s.comp.leaving) : queueEnable p s = ctxResult p Status.accessDenied s := by
  unfold queueEnable
  rw [← hq]
  exact if_pos (by rwa [Option.isNone_iff_eq_none])

theorem queueEnable_of_owned {p q : Nat} {s : State} (hq : q = s.rg .QUE_SEL_QUEUE p) (ho : qOwner s q ≠ none)
    (hl : Res.queue q ∉ s.comp.leaving) :
    (Enables q s → queueEnable p s = ctxResult p Status.ok (setCtx q { s.ctx q with st := 1, cause := 0 } s)) ∧
    (¬ Enables q s → queueEnable p s = ctxResult p Status.badCommand s) := by
  unfold queueEnable
  rw [← hq]
  dsimp only
  rw [if_neg (by rw [Option.isNone_iff_eq_none]; exact not_or.mpr ⟨ho, hl⟩)]
  refine ⟨fun h => if_pos ?_, fun h => if_neg fun hc => h ?_⟩
  · obtain ⟨h1, h2, h3, h4, h5, h6, h7, h8⟩ := h
    simp [h1, h2, h3, h4, h5, h6, h7, h8]
  · simp only [Bool.and_eq_true, decide_eq_true_iff] at hc
    obtain ⟨h1, ⟨h2, h3⟩, ⟨h4, h5⟩, h6, h7, h8⟩ := hc
    exact ⟨h1, h2, h3, h4, h5, h6, h7, h8⟩

theorem irqTimer_of_oldest {q since : Nat} {s : State} (hi : s.rg .QUE_CTX_CFG_IRQ_EN q = 1)
    (hu : s.rg .QUE_CTX_IRQ_MOD_TIME_US q ≠ 0) (ho : (s.ctx q).oldest = some since) :
    irqTimer q s = if since + s.rg .QUE_CTX_IRQ_MOD_TIME_US q * 1000 ≤ s.clk then sendIrq q s else s := by
  unfold irqTimer
  rw [ho]
  exact if_congr ⟨fun h => h.2.2, fun h => ⟨hi, hu, h⟩⟩ rfl rfl

end Sys2Proof.Machine

namespace Sys2Proof.Proofs

open Sys2Proof Sys2Proof.Machine

/-- Settles O25: each write of QUE_CTX_CTRL is one of `onlyResult_refused` and `onlyResult_setCtx`, by the queue's state. -/
theorem queuesAreEnabledDrainedAndReset : Obligations.QueuesAreEnabledDrainedAndReset := by
  unfold Obligations.QueuesAreEnabledDrainedAndReset
  refine ⟨fun p q tail head s hl hr => ⟨fun hq => ?_, fun hq => ?_⟩, fun p s hl hr => ?_,
    fun q s hl hst => ⟨fun hi => ?_, fun hi => ?_⟩, fun q since s hl hi hu ho => ?_, fun q s hp => sendIrq_of_up hp⟩
  · exact (done_live_access hl hr).trans (congrArg _ (if_pos hq))
  · refine (done_live_access hl hr).trans (congrArg _ ?_)
    unfold doorbell
    rw [if_neg (not_not.mpr hq)]
    exact if_congr (and_congr_right' (or_congr decide_eq_true_iff decide_eq_true_iff)) rfl rfl
  · intro q only
    refine ⟨⟨_, done_live_access hl hr, fun h => ?_, fun ho hlv => ?_⟩, ⟨_, done_live_access hl hr, ?_⟩,
      ⟨_, done_live_access hl hr, ?_⟩⟩
    · rw [queueEnable_of_unowned rfl h]
      exact ⟨onlyResult_refused (by decide) s, ctxResult_ctx ..⟩
    · obtain ⟨hyes, hno⟩ := queueEnable_of_owned (p := p.idx) rfl ho hlv
      split
      · rw [hyes ‹_›]
        exact ⟨onlyResult_setCtx (by decide) _ s, (ctxResult_ctx ..).trans (setCtx_ctx_self ..)⟩
      · rw [hno ‹_›]
        exact ⟨onlyResult_refused (by decide) s, ctxResult_ctx ..⟩
    · unfold queueDisable
      dsimp only
      by_cases h1 : (s.ctx q).st = 1
      · rw [if_pos h1, if_pos h1, if_neg (by omega)]
        exact ⟨onlyResult_setCtx (by decide) _ s, (ctxResult_ctx ..).trans (setCtx_ctx_self ..)⟩
      · rw [if_neg h1, if_neg h1]
        split
        · exact ⟨onlyResult_refused (by decide) s, ctxResult_ctx ..⟩
        · exact ⟨onlyResult_refused (by decide) s, ctxResult_ctx ..⟩
    · unfold queueReset
      dsimp only
      split
      · exact ⟨onlyResult_refused (by decide) s, ctxResult_ctx ..⟩
      · have hc : (ctxResult p.idx Status.ok (setCtx q (resetCtx (s.ctx q)) s)).ctx q = resetCtx (s.ctx q) :=
          (ctxResult_ctx ..).trans (setCtx_ctx_self ..)
        refine ⟨onlyResult_setCtx (by decide) _ s, ?_⟩
        rw [hc]
        exact ⟨rfl, rfl, rfl, rfl, rfl, rfl⟩
  · refine ⟨_, (done_live hl).trans (congrArg _ (if_pos ⟨hst, hi⟩)), ?_, fun r hr => setCtx_ctx_ne _ _ hr, ?_, rfl, fun a => rfl⟩
    · rw [setCtx_ctx_self]
    · exact fun n i _ => rfl
  · exact (done_live hl).trans (congrArg _ (if_neg fun h => hi h.2))
  · exact (done_live hl).trans (congrArg _ (irqTimer_of_oldest hi hu ho))

end Sys2Proof.Proofs
end

section
/-! PROOF. Fetching and starting commands, and the answers to reads of host memory (R132 to R140, R151, R152). -/

namespace Sys2Proof.Machine

open Sys2Proof

/-! ### Lists sorted by a key -/

theorem mem_insertBy {α : Type} (f : α → Nat) (x y : α) (l : List α) : y ∈ insertBy f x l ↔ y = x ∨ y ∈ l := by
  induction l with
  | nil => simp [insertBy]
  | cons z l ih =>
    rw [insertBy]
    split
    · simp
    · rw [List.mem_cons, ih, List.mem_cons]
      exact or_left_comm

theorem mem_foldl_insertBy {α : Type} (f : α → Nat) (y : α) (l acc : List α) :
    y ∈ l.foldl (fun a x => insertBy f x a) acc ↔ y ∈ l ∨ y ∈ acc := by
  induction l generalizing acc with
  | nil => simp
  | cons z l ih =>
    rw [List.foldl_cons, ih, mem_insertBy, List.mem_cons]
    tauto

@[simp] theorem mem_sortBy {α : Type} (f : α → Nat) (y : α) (l : List α) : y ∈ sortBy f l ↔ y ∈ l := by
  rw [sortBy, mem_foldl_insertBy]
  simp

theorem nextRound_mem {l : List Nat} (h : l ≠ []) (last : Nat) : nextRound l last ∈ l := by
  unfold nextRound
  cases hf : l.filter (fun x => decide (last < x)) with
  | nil =>
    cases l with
    | nil => exact absurd rfl h
    | cons x l => simp
  | cons x r =>
    have hx : x ∈ l.filter (fun x => decide (last < x)) := hf ▸ List.mem_cons_self
    exact List.mem_of_mem_filter hx

/-! ### Fetching -/

/-- The queue picked is one of those that can be fetched. -/
theorem pickQueue_fetchable {s : State} {p q : Nat} (h : pickQueue s p = some q) :
    ∃ x, (q, x) ∈ s.que.ctx ∧ fetchable s p (q, x) = true := by
  unfold pickQueue at h
  extract_lets qs cur served stay order at h
  obtain ⟨c, hc, hq⟩ := Option.map_eq_some_iff.mp h
  have hany := List.find?_some hc
  obtain ⟨z, hz, hzc⟩ := List.any_eq_true.mp hany
  have hne : sortBy id (qs.filter (fun q => fetchCar s q == c)) ≠ [] :=
    List.ne_nil_of_mem ((mem_sortBy ..).mpr (List.mem_filter.mpr ⟨hz, hzc⟩))
  have hmem := nextRound_mem hne (lookD (64 * p + 2 + c) 65536 s.que.lastQ)
  rw [hq, mem_sortBy] at hmem
  obtain ⟨⟨n, x⟩, hx, rfl⟩ := List.mem_map.mp (List.mem_of_mem_filter hmem)
  exact ⟨x, List.mem_filter.mp hx⟩

/-- The entries that a fetch asks for: within the limit, one ring's lap and one read (R132, R133). -/
def fetchCount (s : State) (q : Nat) : Nat :=
  min (min (max 1 (min 64 (s.rg .QUE_FETCH_MAX_ENTRIES 0))) (4096 / sqeBytes s q))
    (min (((s.ctx q).sqTail + 65536 - (s.ctx q).sqHead % 65536) % 65536) (sqSize s q - (s.ctx q).sqHead % sqSize s q))

theorem fetchCount_le (s : State) (q : Nat) : fetchCount s q ≤ max 1 (s.rg .QUE_FETCH_MAX_ENTRIES 0) := by
  unfold fetchCount
  omega

theorem fetchCount_bytes (s : State) (q : Nat) : sqeBytes s q * fetchCount s q ≤ 4096 := by
  have h : fetchCount s q ≤ 4096 / sqeBytes s q := (min_le_left _ _).trans (min_le_right _ _)
  exact (Nat.mul_le_mul_left _ h).trans (Nat.mul_div_le ..)

theorem fetchCount_lap (s : State) (q : Nat) : (s.ctx q).sqHead % sqSize s q + fetchCount s q ≤ sqSize s q := by
  have hlt : (s.ctx q).sqHead % sqSize s q < sqSize s q := Nat.mod_lt _ (Nat.two_pow_pos _)
  have h : fetchCount s q ≤ sqSize s q - (s.ctx q).sqHead % sqSize s q := (min_le_right _ _).trans (min_le_right _ _)
  omega

theorem sqFetch_of_pick {p q : Nat} {s : State} (hs : serving s = true) (hp : s.portUp p = true) (h : pickQueue s p = some q) :
    sqFetch p s = memRead p (.sq q (s.ctx q).sqHead (fetchCount s q) ((s.ctx q).fetchNo + 1))
        (sqBase s q + sqeBytes s q * ((s.ctx q).sqHead % sqSize s q)) (sqeBytes s q * fetchCount s q)
        (setCtx q { s.ctx q with asked := ((s.ctx q).sqHead + fetchCount s q) % 65536, fetchNo := (s.ctx q).fetchNo + 1 }
          (fetched p q s)) := by
  unfold sqFetch
  rw [if_neg (by simp [hs, hp]), h]
  rfl

/-! ### Starting a command -/

theorem startFault_congr {s t : State} (hr : ∀ n i, t.rg n i = s.rg n i) (hc : t.comp = s.comp) (q : Nat) (b : List Byte) :
    startFault t q b = startFault s q b := by
  unfold startFault qOwner State.owner State.oldIm State.im
  rw [hr, hc]

theorem startFault_of_unknown {q : Nat} {b : List Byte} {s : State} (h : opRow b = none) :
    startFault s q b = some Status.badCommand := by
  unfold startFault
  rw [h]
  rfl

theorem startFault_of_well_formed {q : Nat} {b : List Byte} {r : OpRow} {s : State} (h : opRow b = some r)
    (hr : reservedClear r b = true) (he : Op.engine b = 0 ∨ Op.engine b = s.rg .QUE_CTX_CFG_ENGINE q)
    (hc : ¬ (Op.engine b = 0 ∧ Op.opcode b = 0xFE)) :
    startFault s q b = if qOwner s q ≠ some (Op.car b) then some Status.accessDenied else none := by
  have h1 : ((opRow b).isSome && (opRow b).any (fun r => reservedClear r b) &&
      (Op.engine b == 0 || Op.engine b == s.rg .QUE_CTX_CFG_ENGINE q) && !(Op.engine b == 0 && Op.opcode b == 0xFE)) = true := by
    rw [not_and_or] at hc
    simp [h, hr, he, hc]
  unfold startFault
  simp only [firstFail, h1, if_true, beq_iff_eq]
  by_cases ho : qOwner s q = some (Op.car b)
  · rw [if_pos ho, if_neg (not_not.mpr ho)]
  · rw [if_neg ho, if_pos ho]

/-- The state in which a command that starts is checked. -/
def cmdStarted (q : Nat) (b : List Byte) (parent : Option (Nat × Nat)) (s : State) : State :=
  setCtx q { s.ctx q with inflight := (s.ctx q).inflight + 1, resv := (s.ctx q).resv + 1 }
    (onQue (fun x => { x with
      started := put s.que.serial {
        q := q, bytes := b, parent := parent, order := s.que.serial, held := s.epochUse (Op.epoch b) == .hold,
        old := s.epochUse (Op.epoch b) == .old, phase := 0, buf := [], want := 0,
        bad := if s.epochUse (Op.epoch b) == .stale then some Status.staleEpoch else none, note := [] } x.started
      serial := s.que.serial + 1 }) s)

theorem cmdStarted_cmd (q : Nat) (b : List Byte) (parent : Option (Nat × Nat)) (s : State) :
    ((cmdStarted q b parent s).cmd s.que.serial).map (fun c => (c.q, c.bytes, c.parent, c.held, c.bad)) =
      some (q, b, parent, decide (s.epochUse (Op.epoch b) = .hold),
        if s.epochUse (Op.epoch b) = .stale then some Status.staleEpoch else none) := by
  have h : (cmdStarted q b parent s).cmd s.que.serial = some _ := look_put_self ..
  rw [h, Option.map_some]
  cases s.epochUse (Op.epoch b) <;> rfl

theorem cmdStarted_ctx (q : Nat) (b : List Byte) (parent : Option (Nat × Nat)) (s : State) :
    (cmdStarted q b parent s).ctx q =
      { s.ctx q with inflight := (s.ctx q).inflight + 1, resv := (s.ctx q).resv + 1 } := setCtx_ctx_self ..

theorem startCommand_top (q : Nat) (b : List Byte) (s : State) : startCommand q b none s =
    match startFault s q b with
    | some st => complete s.que.serial st 0 0 (cmdStarted q b none s)
    | none => cmdStarted q b none s := by
  have hf : startFault (cmdStarted q b none s) q b = startFault s q b := startFault_congr (fun _ _ => rfl) rfl q b
  rw [← hf]
  rfl

theorem commandStart_of_fetched {q i : Nat} {b : List Byte} {r : List (Nat × List Byte)} {s : State}
    (hf : (s.ctx q).fetched = (i, b) :: r) (hst : (s.ctx q).st = 1) (hs : serving s = true) (hm : mayStartCmd s q b none = true) :
    commandStart q s = startCommand q b none (setCtx q { s.ctx q with fetched := r } s) := by
  unfold commandStart
  dsimp only
  rw [hf]
  exact if_pos ⟨hst, hs, hm⟩

/-- A command of a stale epoch ends with STALE_EPOCH, or with what its engine's own checks give (R62). -/
theorem staleEnd_cases (k : Nat) (c : Cmd) (f : Cmd → State → State) (s : State) :
    staleEnd k c f s = complete k Status.staleEpoch 0 0 s ∨ ((staleEnd k c f s).cmd k = none ∧
      ((staleEnd k c f s).que.last = some (k, Status.badCommand) ∨ (staleEnd k c f s).que.last = some (k, Status.accessDenied))) := by
  unfold staleEnd
  extract_lets c' t
  split
  · rename_i h
    simp only [Bool.and_eq_true, Option.isNone_iff_eq_none, endedFirst, Bool.or_eq_true, beq_iff_eq] at h
    exact Or.inr ⟨h.1.2, h.2⟩
  · exact Or.inl rfl

theorem withCmd_of_stale {k engine opcode : Nat} {c : Cmd} {s : State} (f : Cmd → State → State) (hc : s.cmd k = some c)
    (hh : c.held = false) (he : Op.engine c.bytes = engine) (ho : Op.opcode c.bytes = opcode)
    (hb : c.bad = some Status.staleEpoch) : withCmd k engine opcode f s = staleEnd k c f s := by
  unfold withCmd
  rw [hc]
  simp [hh, he, ho, hb]

theorem withCmd_of_good {k engine opcode : Nat} {c : Cmd} {s : State} (f : Cmd → State → State) (hc : s.cmd k = some c)
    (hh : c.held = false) (he : Op.engine c.bytes = engine) (ho : Op.opcode c.bytes = opcode) (hb : c.bad = none) :
    withCmd k engine opcode f s = f c s := by
  unfold withCmd
  rw [hc]
  simp [hh, he, ho, hb]

/-- A command that its engine takes up: the state that it leads to. -/
theorem done_started {k engine opcode : Nat} {c : Cmd} {f : Cmd → State → State} {s : State} (h : Started k engine opcode c s) :
    done (live (withCmd k engine opcode f) s) = .next (f c s) := by
  obtain ⟨hl, hc, hh, he, ho, hb⟩ := h
  rw [done_live hl, withCmd_of_good f hc hh he ho hb]

/-! ### Answers -/

theorem oReceive_in_sequence {p seq : Nat} {k : State → State} {s : State} (hu : (s.onz p).isUp = true) (hs : seq = (s.onz p).rxSeq) :
    oReceive p seq k s = k (oSendCtl p OTy.ack 0 seq (setOnz p { s.onz p with rxSeq := (seq + 1) % 65536, lastRx := s.clk } s)) := by
  unfold oReceive
  dsimp only
  rw [if_neg (by simp [hu]), if_pos hs]

theorem memRespIn_of_none {p tag : Nat} {ok : Bool} {data : List Byte} {s : State} (h : look tag (s.onz p).tags = none) :
    memRespIn p tag ok data s = s := by
  unfold memRespIn
  dsimp only
  rw [h]

/-- The state once an answer's tag is free. -/
def untagged (p tag : Nat) (s : State) : State := setOnz p { s.onz p with tags := del tag (s.onz p).tags } s

theorem memRespIn_of_data {p tag k off len : Nat} {ok : Bool} {data : List Byte} {s : State}
    (h : look tag (s.onz p).tags = some (.data k off len)) : memRespIn p tag ok data s =
      oIssue ((dataArrive k off len ok data (untagged p tag s)).onz p).reads.length p
        (dataArrive k off len ok data (untagged p tag s)) := by
  unfold memRespIn
  dsimp only
  rw [h]
  rfl

theorem memRespIn_of_sq {p tag q idx n no : Nat} {ok : Bool} {data : List Byte} {s : State}
    (h : look tag (s.onz p).tags = some (.sq q idx n no)) : memRespIn p tag ok data s =
      oIssue ((sqArrive q idx n no ok data (untagged p tag s)).onz p).reads.length p
        (sqArrive q idx n no ok data (untagged p tag s)) := by
  unfold memRespIn
  dsimp only
  rw [h]
  rfl

theorem dataArrive_of_whole {k off len : Nat} {c : Cmd} {data : List Byte} {s : State} (hc : s.cmd k = some c)
    (hd : data.length = ceilDiv len 4 * 4) :
    dataArrive k off len true data s =
      setCmd k { c with want := c.want - len, buf := overwrite c.buf off (data.take len) } s := by
  unfold dataArrive
  rw [hc]
  exact if_pos (by rw [Bool.true_and, beq_iff_eq]; exact hd)

theorem sqArrive_of_old {q idx n no : Nat} {ok : Bool} {data : List Byte} {s : State} (h : (s.ctx q).fetchNo ≠ no) :
    sqArrive q idx n no ok data s = s := if_pos (Or.inr (Or.inl h))

/-- Whether an answer is that of the fetch that runs. -/
def FetchRuns (q no : Nat) (s : State) : Prop := (s.ctx q).st = 1 ∧ (s.ctx q).fetchNo = no ∧ (s.ctx q).asked ≠ (s.ctx q).sqHead

theorem sqArrive_of_error {q idx n no : Nat} {data : List Byte} {s : State} (h : FetchRuns q no s) :
    sqArrive q idx n no false data s = stopQueue q 2 0 s := by
  obtain ⟨h1, h2, h3⟩ := h
  unfold sqArrive
  dsimp only
  rw [if_neg (by simp [h1, h2, h3])]
  rfl

/-- What the entries of an answer make of the queue, before a refused one stops it. -/
def sqTaken (q idx n : Nat) (e : Entries) (s : State) : State :=
  setCtx q { s.ctx q with fetched := (s.ctx q).fetched ++ e.es, sqHead := (idx + n) % 65536, counter := e.ctr } s

/-- The entries that an answer brings, as far as they are accepted. -/
def sqOpened (q idx n : Nat) (data : List Byte) (s : State) : Entries :=
  openEntries s q idx (chunks n (sqeBytes s q) data) { es := [], ctr := (s.ctx q).counter, bad := none }

theorem sqArrive_of_accepted {q idx n no : Nat} {data : List Byte} {s : State} (h : FetchRuns q no s)
    (hd : data.length = sqeBytes s q * n) (he : (sqOpened q idx n data s).bad = none) :
    sqArrive q idx n no true data s = sqTaken q idx n (sqOpened q idx n data s) s := by
  obtain ⟨h1, h2, h3⟩ := h
  unfold sqArrive
  dsimp only
  rw [if_neg (by simp [h1, h2, h3]), if_neg (by simp [hd]), ← sqOpened, he]
  rfl

theorem sqArrive_of_refused {q idx n no i : Nat} {data : List Byte} {s : State} (h : FetchRuns q no s)
    (hd : data.length = sqeBytes s q * n) (he : (sqOpened q idx n data s).bad = some i) :
    sqArrive q idx n no true data s = stopQueue q 4 0 (raise 0x0307 (qOwner (sqTaken q idx n (sqOpened q idx n data s) s) q)
      [(2, q), (1, 1), (4, i)] (sqTaken q idx n (sqOpened q idx n data s) s)) := by
  obtain ⟨h1, h2, h3⟩ := h
  unfold sqArrive
  dsimp only
  rw [if_neg (by simp [h1, h2, h3]), if_neg (by simp [hd]), ← sqOpened, he]
  rfl

/-- A queue that stops: its state and cause; its COUNTER stays (R137). -/
theorem stopQueue_ctx {q cause cmdId : Nat} {s : State} (h : (s.ctx q).st ≠ 3) :
    ((stopQueue q cause cmdId s).ctx q).st = 3 ∧ ((stopQueue q cause cmdId s).ctx q).cause = cause ∧
    ((stopQueue q cause cmdId s).ctx q).counter = (s.ctx q).counter := by
  unfold stopQueue
  rw [if_neg h]
  extract_lets src u mine v
  have hv : v.ctx q = { s.ctx q with st := 3, cause := cause, fetched := [], asked := (s.ctx q).sqHead } :=
    setCtx_ctx_self ..
  have hw : (raise 0x0304 (qOwner v q) [(2, q), (1, cause), (2, cmdId)] v).ctx q = v.ctx q := ctx_congr (raise_que ..) q
  cases hi : v.rg .QUE_CTX_CFG_IRQ_EN q == 1 with
  | false => rw [when_false, hw, hv]; exact ⟨rfl, rfl, rfl⟩
  | true => rw [when_true, sendIrq_ctx, hw, hv]; exact ⟨rfl, rfl, rfl⟩

end Sys2Proof.Machine

namespace Sys2Proof.Proofs

open Sys2Proof Sys2Proof.Machine

/-- Settles O26: the queue's command runs read off `sqFetch`, `startCommand` and `memRespIn`; the picked queue is one of
those that can be fetched because a round robin answers a member of its list. -/
theorem commandsAreFetchedAndStarted : Obligations.CommandsAreFetchedAndStarted := by
  unfold Obligations.CommandsAreFetchedAndStarted
  refine ⟨fun p q s hl hs hp h => ⟨(done_live hl).trans (congrArg _ (sqFetch_of_pick hs hp h)), fetchCount_le s q,
      fetchCount_bytes s q, fetchCount_lap s q⟩, fun p q s h => pickQueue_fetchable h,
    fun q i b r s hl hf hst hs hm => ?_, fun q b s => ⟨startFault_of_unknown, fun r h hr he hc => startFault_of_well_formed h hr he hc⟩,
    fun k engine opcode f c s hc hh he ho hb => ?_,
    fun p seq tag ok data s hl hu hs => (done_live hl).trans (congrArg _ (oReceive_in_sequence hu hs)),
    fun p tag ok data s => ⟨memRespIn_of_none, fun k off len c ht hc hlen => ?_, fun q idx n no ht h1 h2 h3 => ?_⟩,
    fun q idx n no data s h1 h2 h3 hd => ?_, fun q idx n no ok data s h => sqArrive_of_old h⟩
  · refine ⟨cmdStarted q.val b none (setCtx q.val { s.ctx q.val with fetched := r } s), (done_live hl).trans (congrArg _ ?_), ?_, rfl,
      ?_, ?_, ?_, fun n hn => ?_, fun n i _ => rfl, fun a => rfl⟩
    · rw [commandStart_of_fetched hf hst hs hm, startCommand_top, startFault_congr (fun _ _ => rfl) rfl]
      rfl
    · exact cmdStarted_cmd q.val b none (setCtx q.val { s.ctx q.val with fetched := r } s)
    · rw [cmdStarted_ctx, setCtx_ctx_self]
    · rw [cmdStarted_ctx, setCtx_ctx_self]
    · rw [cmdStarted_ctx, setCtx_ctx_self]
    · rw [cmdStarted, setCtx_ctx_ne _ _ hn]
      exact setCtx_ctx_ne _ _ hn
  · dsimp only
    rw [withCmd_of_stale f hc hh he ho hb]
    exact staleEnd_cases ..
  · refine ⟨_, (memRespIn_of_data ht).trans (congrArg _ ?_)⟩
    exact dataArrive_of_whole (hc ▸ cmd_congr (setOnz_que ..) k) hlen
  · refine ⟨_, (memRespIn_of_sq ht).trans (congrArg _ (sqArrive_of_error ?_))⟩
    have hc := ctx_congr (setOnz_que p { s.onz p with tags := del tag (s.onz p).tags } s) q
    exact ⟨hc ▸ h1, hc ▸ h2, hc ▸ h3⟩
  · intro e t
    refine ⟨fun he => ?_, fun he => ?_⟩
    · rw [show t = _ from sqArrive_of_accepted ⟨h1, h2, h3⟩ hd he]
      exact setCtx_ctx_self ..
    · obtain ⟨i, hi⟩ := Option.ne_none_iff_exists'.mp he
      rw [show t = _ from sqArrive_of_refused ⟨h1, h2, h3⟩ hd hi]
      have hr : (raise 0x0307 (qOwner (sqTaken q idx n e s) q) [(2, q), (1, 1), (4, i)] (sqTaken q idx n e s)).ctx q =
        (sqTaken q idx n e s).ctx q := ctx_congr (raise_que ..) q
      have ht : (sqTaken q idx n e s).ctx q = _ := setCtx_ctx_self ..
      obtain ⟨hst, hca, hct⟩ := stopQueue_ctx (q := q) (cause := 4) (cmdId := 0) (by rw [hr, ht]; simp [h1])
      exact ⟨hst, hca, hct.trans (by rw [hr, ht])⟩

end Sys2Proof.Proofs
end

section
/-! PROOF. Command lists (R142 to R145). -/

namespace Sys2Proof.Machine

open Sys2Proof

theorem leastBy_eq_none {α : Type} (f : α → Nat) (l : List α) : leastBy f l = none ↔ l = [] := by
  cases l with
  | nil => simp [leastBy]
  | cons x l =>
    rw [leastBy]
    split
    · simp
    · split <;> simp

/-- The least of a list is a member of it, and no member is less. -/
theorem leastBy_eq_some {α : Type} {f : α → Nat} {l : List α} {x : α} (h : leastBy f l = some x) :
    x ∈ l ∧ ∀ y ∈ l, f x ≤ f y := by
  induction l generalizing x with
  | nil => simp [leastBy] at h
  | cons z l ih =>
    rw [leastBy] at h
    split at h
    · rename_i hn
      obtain rfl := (leastBy_eq_none ..).mp hn
      obtain rfl := Option.some.inj h
      simp
    · rename_i w hw
      obtain ⟨hm, hle⟩ := ih hw
      split at h
      · obtain rfl := Option.some.inj h
        refine ⟨List.mem_cons_self, fun y hy => ?_⟩
        rcases List.mem_cons.mp hy with rfl | hy
        · exact le_refl _
        · exact le_trans ‹_› (hle y hy)
      · obtain rfl := Option.some.inj h
        refine ⟨List.mem_cons_of_mem _ hm, fun y hy => ?_⟩
        rcases List.mem_cons.mp hy with rfl | hy
        · omega
        · exact hle y hy

theorem listOutcome_of_failed {r : ListRun} (h : r.failed ≠ []) :
    ∃ e ∈ r.failed, (∀ f ∈ r.failed, e.1 ≤ f.1) ∧ listOutcome r = (e.2, r.started + e.1 * 2 ^ 32) := by
  obtain ⟨e, he⟩ := Option.ne_none_iff_exists'.mp (mt (leastBy_eq_none Prod.fst _).mp h)
  obtain ⟨hm, hle⟩ := leastBy_eq_some he
  refine ⟨e, hm, hle, ?_⟩
  unfold listOutcome
  rw [he]

theorem listOutcome_of_none {r : ListRun} (h : r.failed = []) : listOutcome r = (Status.ok, r.started + 0xFFFFFFFF * 2 ^ 32) := by
  unfold listOutcome
  rw [h]
  rfl

theorem listStep_of_new {k : Nat} {c : Cmd} {s : State} (h : look k s.que.lists = none) : listStep k c s = listBegin k c s := by
  unfold listStep
  rw [h]

theorem listStep_of_entry {k : Nat} {c : Cmd} {r : ListRun} {b : List Byte} {s : State} (h : look k s.que.lists = some r)
    (he : r.ended = false) (hw : c.want = 0) (hb : r.entries[r.next]? = some b) : listStep k c s = listNext k c r b s := by
  unfold listStep
  rw [h]
  dsimp only
  rw [he, hb]
  simp [hw]

/-- An entry that may not stand in a list (R143). -/
def Offends (b : List Byte) : Prop := Op.engine b = 0 ∧ (Op.opcode b = 0xFF ∨ Op.opcode b = 0xFE ∨ Op.opcode b = 0x12)

theorem listNext_of_offending {k : Nat} {c : Cmd} {r : ListRun} {b : List Byte} {s : State} (h : Offends b) :
    listNext k c r b s = listOffend k r.next r s := if_pos (Or.inl h)

/-- An entry that may start: with SERIAL it waits for the one that runs (R144). -/
theorem listNext_of_startable {k : Nat} {c : Cmd} {r : ListRun} {b : List Byte} {s : State} (h : ¬ Offends b)
    (hn : r.next < 1048576) (hst : (s.ctx c.q).st = 1) (hm : mayStartCmd s c.q b (some (k, r.next)) = true) :
    (listSerial c.bytes = true ∧ r.open_ ≠ 0 → listNext k c r b s = s) ∧
    (¬ (listSerial c.bytes = true ∧ r.open_ ≠ 0) → listNext k c r b s = startCommand c.q b (some (k, r.next))
      (setList k { r with next := r.next + 1, started := r.started + 1, open_ := r.open_ + 1 } s)) := by
  have h1 : ¬ (Op.engine b = 0 ∧ (Op.opcode b = 0xFF ∨ Op.opcode b = 0xFE ∨ Op.opcode b = 0x12) ∨ 1048576 ≤ r.next) :=
    not_or.mpr ⟨h, Nat.not_le.mpr hn⟩
  unfold listNext
  dsimp only
  rw [if_neg h1, if_neg (by simp [hst]), hm]
  exact ⟨fun hs => if_pos (Or.inr hs), fun hs => if_neg (by simpa using hs)⟩

/-- Whether a list has no entry left to start. -/
def ListPast (r : ListRun) (c : Cmd) : Prop := r.ended = true ∨ (r.more = false ∧ r.entries.length ≤ r.next ∧ c.want = 0)

theorem listComplete_of_past {k : Nat} {c : Cmd} {r : ListRun} {s : State} (hr : look k s.que.lists = some r) (hc : s.cmd k = some c)
    (ho : Op.opcode c.bytes = 0xFF) (hp : ListPast r c) :
    (r.open_ ≠ 0 → listComplete k s = s) ∧
    (r.open_ = 0 → listComplete k s = complete k (listOutcome r).1 0 (listOutcome r).2
      (onQue (fun x => { x with lists := del k x.lists }) s)) := by
  have hpast : (r.ended || (!r.more && decide (r.entries.length ≤ r.next) && c.want == 0)) = true := by
    rw [Bool.or_eq_true, Bool.and_eq_true, Bool.and_eq_true, decide_eq_true_iff, beq_iff_eq, Bool.not_eq_true', and_assoc]
    exact hp
  unfold listComplete
  rw [hr, hc]
  dsimp only
  rw [hpast, show (Op.opcode c.bytes == 0x12) = false by rw [ho]; rfl]
  exact ⟨fun h => if_neg fun hh => h hh.2, fun h => if_pos ⟨rfl, h⟩⟩

end Sys2Proof.Machine

namespace Sys2Proof.Proofs

open Sys2Proof Sys2Proof.Machine

/-- Settles O27: the list's step read off its branches; the first failed entry in list order is the least of those noted. -/
theorem listsStartTheirEntriesInOrder : Obligations.ListsStartTheirEntriesInOrder := by
  unfold Obligations.ListsStartTheirEntriesInOrder
  refine ⟨fun k c s h hr => ?_, fun k c r b s h hr he hw hb => ⟨fun h0 hop => ?_, fun hop hn hst hm => ⟨fun hs ho => ?_, fun hs => ?_⟩⟩,
    fun k c r s hl hr hc ho hp => ⟨fun h => ?_, fun h => ?_⟩, fun r h => listOutcome_of_none h, fun r h => listOutcome_of_failed h,
    fun k i status r c s hr hc => ?_⟩
  · exact (done_started h).trans (congrArg _ (listStep_of_new hr))
  · exact (done_started h).trans (congrArg _ ((listStep_of_entry hr he hw hb).trans (listNext_of_offending ⟨h0, hop⟩)))
  · have hno : ¬ Offends b := by unfold Offends; tauto
    exact (done_started h).trans (congrArg _ ((listStep_of_entry hr he hw hb).trans ((listNext_of_startable hno hn hst hm).1 ⟨hs, ho⟩)))
  · have hno : ¬ Offends b := by unfold Offends; tauto
    refine (done_started h).trans (congrArg _ ((listStep_of_entry hr he hw hb).trans ((listNext_of_startable hno hn hst hm).2 ?_)))
    rintro ⟨h1, h2⟩
    exact hs.elim (fun h => by simp [listSerial, h] at h1) h2
  · exact (done_live hl).trans (congrArg _ ((listComplete_of_past hr hc ho hp).1 h))
  · exact (done_live hl).trans (congrArg _ ((listComplete_of_past hr hc ho hp).2 h))
  · unfold noteMember
    dsimp only
    rw [hr, hc]
    refine (look_put_self ..).trans ?_
    by_cases hs : status = Status.ok
    · simp [hs]
    · simp [hs, show (status != Status.ok) = true from bne_iff_ne.mpr hs]

end Sys2Proof.Proofs
end

section
/-! PROOF. The host ports' links (R109 to R116). -/

namespace Sys2Proof.Machine

open Sys2Proof

section
variable {L : List StPart} {r : State}

theorem touch_dataLost {a0 a1 : _} (hL : evrParts ++ [.que, .reg .RAS_C_ABORTED_COUNT, .seq, .reg .CMP_STALE_CNT_COUNT, .comp, .reg .QUE_CQE_DROP, .onz, .sent] ⊆ L) (ha1 : Touches L r a1) :
    Touches L r (dataLost a0 a1) := by
  unfold dataLost
  split
  · exact ha1
  · extract_lets -merge +onlyGivenNames x0
    have hx0 : Touches L r x0 := touch_noteLost (sub_trans hL (by decide)) ha1
    refine touch_ite (fun _ => ?_) (fun _ => ?_)
    · exact ha1
    · split
      · extract_lets -merge +onlyGivenNames y1 y2
        exact touch_onQue (sub_trans hL (by decide)) (touch_setCmd (sub_trans hL (by decide)) hx0)
      · exact touch_complete (sub_trans hL (by decide)) hx0

theorem touch_waitingLost {a0 a1 a2 : _} (hL : evrParts ++ [.reg .QUE_CQE_DROP, .onz] ⊆ L) (ha2 : Touches L r a2) :
    Touches L r (waitingLost a0 a1 a2) := by
  unfold waitingLost
  exact touch_forEach ha2 (fun _ _ h0 => touch_undelivered (sub_trans hL (by decide)) h0)

theorem touch_parksPortDown {a0 a1 : _} (hL : evrParts ++ [.seq, .park, .reg .RAS_C_ABORTED_COUNT, .reg .CMP_STALE_CNT_COUNT, .comp, .que, .reg .QUE_CQE_DROP, .onz, .sent] ⊆ L) (ha1 : Touches L r a1) :
    Touches L r (parksPortDown a0 a1) := by
  unfold parksPortDown
  extract_lets -merge +onlyGivenNames y0
  clear_value y0
  refine touch_forEach ha1 ?_
  intro _ _ h1
  split
  · exact touch_parkFail (sub_trans hL (by decide)) (touch_noteLost (sub_trans hL (by decide)) h1)
  · exact h1

theorem touch_startLeases {a0 a1 : _} (hL : [.que] ⊆ L) (ha1 : Touches L r a1) :
    Touches L r (startLeases a0 a1) := by
  unfold startLeases
  exact touch_onQue (sub_trans hL (by decide)) ha1

theorem touch_onzonTrainingStart {a0 a1 a2 : _} (hL : [.sent, .onz, .link] ⊆ L) (ha2 : Touches L r a2) :
    Touches L r (onzonTrainingStart a0 a1 a2) := by
  unfold onzonTrainingStart
  extract_lets -merge +onlyGivenNames y0
  exact touch_ite (fun _ => touch_emit (sub_trans hL (by decide)) (touch_setOnz (sub_trans hL (by decide)) ha2)) (fun _ => ha2)

theorem touch_onzonTrainFailed {a0 a1 : _} (hL : [.onz, .link] ⊆ L) (ha1 : Touches L r a1) :
    Touches L r (onzonTrainFailed a0 a1) := by
  unfold onzonTrainFailed
  extract_lets -merge +onlyGivenNames y0
  exact touch_setOnz (sub_trans hL (by decide)) ha1

theorem touch_oReplayFrom {a0 a1 a2 : _} (hL : [.reg .QUE_PORT_ERR_REPLAY, .sent, .onz, .link] ⊆ L) (ha2 : Touches L r a2) :
    Touches L r (oReplayFrom a0 a1 a2) := by
  unfold oReplayFrom
  extract_lets -merge +onlyGivenNames y0 y1 x2 y4
  have hx2 : Touches L r x2 := touch_forEach ha2 (fun _ _ h3 => touch_emit (sub_trans hL (by decide)) h3)
  exact touch_when (touch_setOnz (sub_trans hL (by decide)) hx2) (fun _ h5 => touch_bump (sub_trans hL (by decide)) h5)

theorem touch_serTrimLoad {a0 a1 a2 : _} (hL : [.reg .PRT_X_EQ_CTLE, .reg .PRT_X_EQ_DFE1, .reg .PRT_X_EQ_TX_PRE, .reg .PRT_X_EQ_TX_POST, .reg .QUE_ONZ_EQ_CTLE, .reg .QUE_ONZ_EQ_DFE1, .reg .QUE_ONZ_EQ_TX_PRE, .reg .QUE_ONZ_EQ_TX_POST, .reg .OWL_X_CASCADE_SAMPLE] ⊆ L) (ha2 : Touches L r a2) :
    Touches L r (serTrimLoad a0 a1 a2) := by
  unfold serTrimLoad
  exact touch_ite (fun _ => touch_forEach ha2 (fun _ _ h0 => touch_setRg (sub_trans hL (by decide)) (touch_setRg (sub_trans hL (by decide)) (touch_setRg (sub_trans hL (by decide)) (touch_setRg (sub_trans hL (by decide)) h0))))) (fun _ => touch_ite (fun _ => touch_forEach ha2 (fun _ _ h1 => touch_setRg (sub_trans hL (by decide)) (touch_setRg (sub_trans hL (by decide)) (touch_setRg (sub_trans hL (by decide)) (touch_setRg (sub_trans hL (by decide)) h1))))) (fun _ => touch_ite (fun _ => touch_setRg (sub_trans hL (by decide)) ha2) (fun _ => ha2)))

end

/-! ### Ports -/

theorem done_powered {f : State → State} {s : State} (h : s.powered = true) : done (powered f s) = .next (f s) := by
  unfold powered
  rw [if_pos h]
  rfl

theorem onz_other (p : Port) (o : OnzSt) (s : State) : (setOnz p.idx o s).onz p.other.idx = s.onz p.other.idx := by
  cases p <;> rfl

@[simp] theorem setOnz_setOnz (p : Nat) (o o' : OnzSt) (s : State) : setOnz p o (setOnz p o' s) = setOnz p o s := by
  unfold setOnz
  split <;> rfl

/-! ### Training and going UP -/

/-- The link state that a set of trained lanes reaches (R109). -/
theorem trainedLink_of_good {n : Nat} (hn : n < 256) (h : n = 255 ∨ n % 16 = 15 ∨ n / 16 = 15) :
    trainedLink n = some (if n = 255 then .up else .degraded) := by
  unfold trainedLink
  by_cases h1 : n = 255
  · rw [if_pos (by omega), if_pos h1]
  · rw [if_neg (by omega), if_pos (by omega), if_neg h1]

theorem trainedLink_of_bad {n : Nat} (hn : n < 256) (h : ¬ (n = 255 ∨ n % 16 = 15 ∨ n / 16 = 15)) : trainedLink n = none := by
  unfold trainedLink
  rw [if_neg (by omega), if_neg (by omega)]

theorem onzonTrainingEnd_of_trained {p : Nat} {lanes : BitVec 8} {trims : List Byte} {st : OLink} {s : State}
    (hl : (s.onz p).link = .training) (ht : s.clk ≤ (s.onz p).trainAt + 20000000) (h : trainedLink lanes.toNat = some st) :
    onzonTrainingEnd p lanes trims s = portGoesUp p st (when (trims.length == 32) (serTrimLoad (8 + p) trims) s) := by
  unfold onzonTrainingEnd
  dsimp only
  rw [if_neg (not_or.mpr ⟨not_not.mpr hl, Nat.not_lt.mpr ht⟩), h]

theorem onzonTrainingEnd_of_failed {p : Nat} {lanes : BitVec 8} {trims : List Byte} {s : State}
    (hl : (s.onz p).link = .training) (ht : s.clk ≤ (s.onz p).trainAt + 20000000) (h : trainedLink lanes.toNat = none) :
    onzonTrainingEnd p lanes trims s = onzonTrainFailed p s := by
  unfold onzonTrainingEnd
  dsimp only
  rw [if_neg (not_or.mpr ⟨not_not.mpr hl, Nat.not_lt.mpr ht⟩), h]

/-- What a training that fails leaves: the port DOWN, and its next attempt 10 ms later (R109). -/
theorem onzonTrainFailed_spec (p : Nat) (s : State) : ((onzonTrainFailed p s).onz p).link = .down ∧
    ((onzonTrainFailed p s).onz p).retryAt = some (s.clk + 10000000) ∧ SameRegs [] s (onzonTrainFailed p s) ∧
    SameMem s (onzonTrainFailed p s) := by
  have h := touch_onzonTrainFailed (a0 := p) (fun _ h => h) (touch_refl _ s)
  have ho : (onzonTrainFailed p s).onz p = _ := setOnz_onz_self ..
  rw [ho]
  exact ⟨rfl, rfl, h.sameRegs (by decide), h.sameMem (by decide)⟩

/-- The port UP, before the event that says so. -/
def portRaised (p : Nat) (st : OLink) (s : State) : State :=
  returnCredit p 256 64 (stopLeases p (wrapUp .QUE_PORT_STATUS_UP_COUNT p
    (setOnz p { s.onz p with
      link := st
      txSeq := 0
      rxSeq := 0
      lastRx := s.clk
      replays := 0
      creditP := 0
      creditN := 0
      dropSeen := false } s)))

theorem portGoesUp_eq (p : Nat) (st : OLink) (s : State) :
    portGoesUp p st s = raise 0x0301 none [(1, p), (1, if st = .up then 8 else 4)] (portRaised p st s) := rfl

theorem portRaised_onz (p : Nat) (st : OLink) (s : State) (q : Nat) : (portRaised p st s).onz q = (setOnz p { s.onz p with
      link := st
      txSeq := 0
      rxSeq := 0
      lastRx := s.clk
      replays := 0
      creditP := 0
      creditN := 0
      dropSeen := false } s).onz q := rfl

theorem look_map_cond {α : Type} (c : α → Prop) [DecidablePred c] (f : α → α) (n : Nat) (m : List (Nat × α)) :
    look n (m.map (fun e => if c e.2 then (e.1, f e.2) else e)) = (look n m).map (fun x => if c x then f x else x) := by
  induction m with
  | nil => rfl
  | cons e m ih =>
    obtain ⟨k, x⟩ := e
    rw [List.map_cons]
    by_cases hc : c x <;> by_cases hk : k = n <;> simp [look, hc, hk, ih]

theorem portRaised_sems (p : Nat) (st : OLink) (s : State) {n : Nat} {x : Sem} (h : look n s.que.sems = some x) :
    look n (portRaised p st s).que.sems = some (if x.owner = p then { x with lease := none } else x) := by
  have hs : (portRaised p st s).que.sems =
      s.que.sems.map (fun e => if e.2.owner = p then (e.1, { e.2 with lease := none }) else e) := by
    unfold portRaised returnCredit oSendCtl stopLeases wrapUp
    simp
  rw [hs, look_map_cond (fun x : Sem => x.owner = p) (fun x => { x with lease := none }), h]
  rfl

/-! ### Going DOWN -/

/-- The port DOWN, its leases running, before its commands and queues hear of it. -/
def portDropped (p : Nat) (s : State) : State :=
  setOnz p { s.onz p with
    link := .down
    downAt := s.clk
    retryAt := none
    replay := []
    replays := 0
    outq := []
    tags := []
    reads := []
    ctrlTags := []
    creditP := 0
    creditN := 0
    dropSeen := false } s

/-- What the queues, the commands and the parks of a port make of its loss: no link state changes any more. -/
theorem portDown_after (p cause : Nat) {s : State} (h : s.portUp p = true) :
    Touches (evrParts ++ [.que, .reg .RAS_C_ABORTED_COUNT, .seq, .reg .CMP_STALE_CNT_COUNT, .comp, .reg .QUE_CQE_DROP, .onz, .sent,
      .sec, .park]) (portDropped p s) (portDown p cause s) := by
  unfold portDown
  rw [if_neg (by simp [h])]
  extract_lets o t1 t2 mine t3 waiting t4 t5
  have h1 : Touches (evrParts ++ [.que, .reg .RAS_C_ABORTED_COUNT, .seq, .reg .CMP_STALE_CNT_COUNT, .comp, .reg .QUE_CQE_DROP, .onz, .sent,
      .sec, .park]) (portDropped p s) t1 := touch_refl _ _
  have h2 := touch_waitingLost (a0 := p) (a1 := o.outq) (by decide) (touch_raise (code := 0x0302) (car := none)
    (items := [(1, cause)]) (by decide) (touch_startLeases (a0 := p) (by decide) h1))
  have h3 := touch_forEach (l := mine) (f := fun e s => stopQueue e.1 3 0 s) h2 (fun _ _ h => touch_stopQueue (by decide) h)
  have h4 := touch_forEach (l := waiting) (f := fun e s => dataLost e.1 s) h3 (fun _ _ h => touch_dataLost (by decide) h)
  exact touch_onSec (by decide) (touch_parksPortDown (by decide) h4)

theorem portDown_link {p cause : Nat} {s : State} (h : s.portUp p = true) : ((portDown p cause s).onz p).link = .down := by
  rw [(portDown_after p cause h).link (by decide), portDropped, setOnz_onz_self]

theorem portDown_mem {p cause : Nat} {s : State} (h : s.portUp p = true) : (portDown p cause s).mem = s.mem := by
  rw [(portDown_after p cause h).mem (by decide), portDropped, setOnz_mem]

/-! ### Replays -/

theorem forEach_emit_sent {α : Type} (f : α → Sent) (l : List α) (s : State) :
    (forEach l (fun e t => emit (f e) t) s).sent = (l.map f).reverse ++ s.sent := by
  induction l generalizing s with
  | nil => rfl
  | cons e l ih => rw [forEach_cons, ih]; simp

theorem replayFrom_of_few {p seq : Nat} {s : State} (h : (s.onz p).replays + 1 < 8) :
    replayFrom p seq s = setOnz p { (oReplayFrom p seq s).onz p with replays := (s.onz p).replays + 1 } (oReplayFrom p seq s) := by
  unfold replayFrom
  exact if_neg (by omega)

theorem replayFrom_of_eighth {p seq : Nat} {s : State} (h : 8 ≤ (s.onz p).replays + 1) :
    replayFrom p seq s =
      portDown p 1 (setOnz p { (oReplayFrom p seq s).onz p with replays := (s.onz p).replays + 1 } (oReplayFrom p seq s)) := by
  unfold replayFrom
  exact if_pos h

theorem oReplayFrom_link (p seq : Nat) (s : State) : ((oReplayFrom p seq s).onz p).link = (s.onz p).link := by
  unfold oReplayFrom
  extract_lets o again t o'
  have hw : ∀ u : State, (when (!again.isEmpty) (bump .QUE_PORT_ERR_REPLAY p 1) u).onz p = u.onz p := fun u => by
    cases again.isEmpty <;> rfl
  rw [hw, setOnz_onz_self]

theorem oReplayFrom_sent (p seq : Nat) (s : State) : (oReplayFrom p seq s).sent =
    (((s.onz p).replay.filter (fun e => seqLe 16 seq e.1)).map (fun e => Sent.onzon p (some e.1) e.2.1)).reverse ++ s.sent := by
  unfold oReplayFrom
  extract_lets o again t o'
  have hw : ∀ u : State, (when (!again.isEmpty) (bump .QUE_PORT_ERR_REPLAY p 1) u).sent = u.sent := fun u => by
    cases again.isEmpty <;> rfl
  rw [hw, setOnz_sent]
  exact forEach_emit_sent ..

theorem onzonReplayTimeout_of_due {p : Nat} {e : Nat × OFrame × Nat} {r : List (Nat × OFrame × Nat)} {s : State}
    (hu : s.portUp p = true) (hr : (s.onz p).replay = e :: r) (h : e.2.2 + 4000 ≤ s.clk) :
    onzonReplayTimeout p s = replayFrom p e.1 s := by
  unfold onzonReplayTimeout
  rw [if_neg (by simp [hu]), hr]
  exact if_pos h

theorem onzonRetry_of_waiting {p at_ : Nat} {s : State} (hl : (s.onz p).link = .down) (h : (s.onz p).retryAt = some at_) :
    onzonRetry p s = if at_ ≤ s.clk then setOnz p { s.onz p with retryAt := none } s else s := by
  unfold onzonRetry
  dsimp only
  rw [h]
  exact if_congr (and_iff_right hl) rfl rfl

end Sys2Proof.Machine

namespace Sys2Proof.Proofs

open Sys2Proof Sys2Proof.Machine

/-- Settles O28: the link states read off the model's branches; after the port is DOWN nothing that hears of it changes a
link state (`portDown_after`). -/
theorem onzonPortsTrainAndFail : Obligations.OnzonPortsTrainAndFail := by
  unfold Obligations.OnzonPortsTrainAndFail
  refine ⟨fun p lanes s hp => ⟨fun hl hr hb => ?_, fun h => ?_⟩, fun p lanes trims s hp hl ht hn => ?_,
    fun p lanes trims st s hp hl ht hn h => ?_, fun p st s => ?_, fun p s hp hl => ⟨fun ht => ?_, fun ht => ?_⟩,
    fun p at_ s hp hl hr => (done_powered hp).trans (congrArg _ (onzonRetry_of_waiting hl hr)),
    fun p s hp => ⟨done_powered hp, done_powered hp, done_powered hp⟩, fun p cause s h => if_pos h,
    fun p cause s h => ⟨portDown_link h, portDown_mem h⟩,
    fun p e r s hp hu hr h => (done_powered hp).trans (congrArg _ (onzonReplayTimeout_of_due hu hr h)), fun p seq s => ?_,
    fun p seq s hu h => ?_⟩
  · have h := touch_onzonTrainingStart (a0 := p.idx) (a1 := lanes) (fun _ h => h) (touch_refl _ s)
    have he : onzonTrainingStart p.idx lanes s = _ := if_pos ⟨hl, hr, hb⟩
    refine ⟨_, done_powered hp, ?_, ?_, ?_, ?_, h.sameRegs (by decide), h.evr (by decide), h.sameMem (by decide)⟩
    all_goals rw [he]
    · simp
    · simp
    · rw [emit_onz, onz_other]
    · simp
  · exact (done_powered hp).trans (congrArg _ (if_neg fun ⟨h1, h2, h3⟩ => h.elim (fun h => h h1) (fun h => h.elim (fun h => h h2) (by omega))))
  · intro good
    refine ⟨fun hg => ?_, fun hg => ⟨onzonTrainFailed p.idx s, ?_, ?_⟩⟩
    · refine (done_powered hp).trans (congrArg _ ?_)
      rw [onzonTrainingEnd_of_trained hl ht (trainedLink_of_good lanes.isLt hg), beq_false_of_ne hn, when_false]
    · exact (done_powered hp).trans (congrArg _ (onzonTrainingEnd_of_failed hl ht (trainedLink_of_bad lanes.isLt hg)))
    · obtain ⟨h1, h2, h3, h4⟩ := onzonTrainFailed_spec p.idx s
      exact ⟨h1, h2, onz_other .., h3, h4⟩
  · refine (done_powered hp).trans (congrArg _ ?_)
    rw [onzonTrainingEnd_of_trained hl ht h, hn]
    rfl
  · refine ⟨portRaised p.idx st s, portGoesUp_eq .., ?_, ?_, ?_, ?_, ?_, ?_, fun n x h => portRaised_sems _ _ _ h, ?_⟩
    · rw [portRaised_onz, setOnz_onz_self]
    · rw [portRaised_onz, setOnz_onz_self]
    · rw [portRaised_onz, setOnz_onz_self]
    · rw [portRaised_onz, onz_other]
    · simp [portRaised, returnCredit, oSendCtl, stopLeases, wrapUp]
    · intro n i hn
      have hne : n ≠ .QUE_PORT_STATUS_UP_COUNT := by simpa using hn
      simp [portRaised, returnCredit, oSendCtl, stopLeases, wrapUp, hne]
    · simp [portRaised, returnCredit, oSendCtl, stopLeases, wrapUp]
  · obtain ⟨h1, h2, h3, h4⟩ := onzonTrainFailed_spec p.idx s
    exact ⟨_, (done_powered hp).trans (congrArg _ (if_pos ⟨hl, ht⟩)), h1, h2, h3, h4⟩
  · exact (done_powered hp).trans (congrArg _ (if_neg fun h => absurd h.2 (Nat.not_le.mpr ht)))
  · intro again t hne hfew
    have ht : t = _ := replayFrom_of_few hfew
    have h : Touches [.reg .QUE_PORT_ERR_REPLAY, .onz, .link, .sent] s t := by
      rw [ht]
      exact touch_setOnz (by decide) (touch_oReplayFrom (by decide) (touch_refl _ s))
    refine ⟨?_, ?_, ?_, h.sameRegs (by decide)⟩
    all_goals rw [ht]
    · rw [setOnz_onz_self]
    · rw [setOnz_onz_self]
      exact oReplayFrom_link ..
    · rw [setOnz_sent]
      exact oReplayFrom_sent ..
  · rw [replayFrom_of_eighth h]
    refine portDown_link ?_
    unfold State.portUp OnzSt.isUp at *
    rw [setOnz_onz_self, oReplayFrom_link]
    exact hu

end Sys2Proof.Proofs
end

section
/-! PROOF. The frames of the host ports: acknowledgement, credits, and CTRL_RD and CTRL_WR (R111 to R116). -/

namespace Sys2Proof.Machine

open Sys2Proof

/-! ### Frames as they wait and leave -/

theorem lenCost_eq (n : Nat) : lenCost n = (16 + n + 255) / 256 := by
  unfold lenCost ceilDiv
  omega

theorem oCost_eq (f : OFrame) : oCost f = (16 + f.len + 255) / 256 := lenCost_eq _

/-- A posted write alone in the queue leaves where credits and the replay buffer allow (R115, R116). -/
theorem oFlush_of_covered {p : Nat} {f : OFrame} {s : State} (hq : (s.onz p).outq = [f]) (ht : f.ty = OTy.memWr)
    (hc : oCost f ≤ (s.onz p).creditP) (hr : replayRoom (s.onz p) f = true) :
    oFlush p s = oTransmit p f (setOnz p { s.onz p with outq := [] } s) := by
  have hcls : oClass f.ty = 0 := by rw [ht]; rfl
  unfold oFlush
  dsimp only
  rw [hq]
  unfold oFlushFrom
  simp only [setOnz_onz_self, hcls]
  rw [if_neg (by rw [show replayRoom { s.onz p with outq := [] } f = replayRoom (s.onz p) f from rfl, hr]; simp),
    if_neg (by simp [Nat.not_lt.mpr hc])]
  rfl

theorem oFlush_of_held {p : Nat} {f : OFrame} {s : State} (hq : (s.onz p).outq = [f]) (ht : f.ty = OTy.memWr)
    (h : (s.onz p).creditP < oCost f ∨ replayRoom (s.onz p) f = false) :
    (oFlush p s).onz p = s.onz p ∧ (oFlush p s).sent = s.sent := by
  have hcls : oClass f.ty = 0 := by rw [ht]; rfl
  have ho : { s.onz p with outq := [] ++ [f] } = s.onz p := by rw [List.nil_append, ← hq]
  unfold oFlush
  dsimp only
  rw [hq]
  unfold oFlushFrom
  simp only [setOnz_onz_self, hcls, setOnz_setOnz, ho]
  split
  · exact ⟨setOnz_onz_self .., setOnz_sent ..⟩
  · rename_i hroom
    rw [if_pos (by
      have hc := h.resolve_right (by rwa [show replayRoom { s.onz p with outq := [] } f = replayRoom (s.onz p) f from rfl] at hroom)
      simp [hc])]
    exact ⟨setOnz_onz_self .., setOnz_sent ..⟩

/-- A posted write on the link (R115, R116). -/
theorem oTransmit_of_memWr {p : Nat} {f : OFrame} {s : State} (ht : f.ty = OTy.memWr) :
    oTransmit p f s = setOnz p { s.onz p with
      txSeq := ((s.onz p).txSeq + 1) % 65536
      replay := (s.onz p).replay ++ [((s.onz p).txSeq, f, s.clk)]
      creditP := (s.onz p).creditP - oCost f } (emit (.onzon p (some (s.onz p).txSeq) f) s) := by
  unfold oTransmit answerLeaves
  rw [ht]
  rfl

/-! ### The header on the link -/

theorem wire_eq (f : OFrame) (seq : Nat) : f.wire seq = leBytes 1 f.ty ++ (leBytes 1 f.flags ++ (leBytes 2 f.len ++
    (leBytes 2 seq ++ (leBytes 2 f.tag ++ (leBytes 8 f.addr ++ (f.payload ++
      leBytes 4 (crc32 ((f.header seq ++ f.payload).flatMap byteBits)))))))) := by
  simp only [OFrame.wire, OFrame.header, List.append_assoc]

theorem wire_length (f : OFrame) (seq : Nat) : (f.wire seq).length = 20 + f.payload.length := by
  rw [wire_eq]
  simp only [List.length_append, length_leBytes]
  omega

theorem wire_fields (f : OFrame) (seq : Nat) : u8 (f.wire seq) 0 = f.ty % 256 ∧ u16 (f.wire seq) 2 = f.len % 65536 ∧
    u16 (f.wire seq) 4 = seq % 65536 ∧ u16 (f.wire seq) 6 = f.tag % 65536 ∧ u64 (f.wire seq) 8 = f.addr % 2 ^ 64 := by
  rw [wire_eq]
  unfold u8 u16 u64
  refine ⟨?_, ?_, ?_, ?_, ?_⟩
  · exact fieldAt_leBytes ..
  · iterate 2 rw [fieldAt_past_leBytes (by decide)]
    exact fieldAt_leBytes ..
  · iterate 3 rw [fieldAt_past_leBytes (by decide)]
    exact fieldAt_leBytes ..
  · iterate 4 rw [fieldAt_past_leBytes (by decide)]
    exact fieldAt_leBytes ..
  · iterate 5 rw [fieldAt_past_leBytes (by decide)]
    exact fieldAt_leBytes ..

/-! ### Frames that arrive -/

theorem onzonNak_of_up {p seq : Nat} {s : State} (h : s.portUp p = true) :
    onzonNak p seq s = (if ((ackUpTo p ((seq + 65535) % 65536) s).onz p).replay.any (fun e => e.1 == seq)
      then replayFrom p seq (ackUpTo p ((seq + 65535) % 65536) s) else ackUpTo p ((seq + 65535) % 65536) s) := by
  unfold onzonNak
  exact if_neg (by simp [h])

/-- A frame discarded: counted, and answered with NAK of the SEQ expected (R112, R116). -/
def frameNaked (p : Nat) (s : State) : State :=
  oSendCtl p OTy.nak 0 (s.onz p).rxSeq (bump .QUE_PORT_ERR_CRC p 1 (setOnz p { s.onz p with lastRx := s.clk } s))

theorem touch_frameNaked (p : Nat) (s : State) : Touches [.reg .QUE_PORT_ERR_CRC, .onz, .sent] s (frameNaked p s) :=
  touch_oSendCtl (by decide) (touch_bump (by decide) (touch_setOnz_of_link rfl (by decide) (touch_refl _ s)))

theorem frameNaked_sent (p : Nat) (s : State) : (frameNaked p s).sent = .onzon p none
    { ty := OTy.nak, flags := 0, tag := 0, addr := (s.onz p).rxSeq, len := 0, payload := [] } :: s.sent := by
  simp [frameNaked, oSendCtl, bump]

theorem frameNaked_rxSeq (p : Nat) (s : State) : ((frameNaked p s).onz p).rxSeq = (s.onz p).rxSeq := by
  simp [frameNaked, oSendCtl, bump]

theorem frameNaked_count (p : Nat) (s : State) : (frameNaked p s).rg .QUE_PORT_ERR_CRC p =
    min (s.rg .QUE_PORT_ERR_CRC p + 1) (2 ^ RN.width .QUE_PORT_ERR_CRC - 1) % 2 ^ RN.width .QUE_PORT_ERR_CRC := by
  simp only [frameNaked, oSendCtl, emit_rg, bump_rg_self, setOnz_rg]

theorem oReceive_out_of_sequence {p seq : Nat} {k : State → State} {s : State} (hu : (s.onz p).isUp = true)
    (hs : seq ≠ (s.onz p).rxSeq) : oReceive p seq k s = frameNaked p s := by
  unfold oReceive
  dsimp only
  rw [if_neg (by simp [hu]), if_neg hs]
  rfl

/-- A frame in sequence, acknowledged. -/
def frameTaken (p seq : Nat) (s : State) : State :=
  oSendCtl p OTy.ack 0 seq (setOnz p { s.onz p with rxSeq := (seq + 1) % 65536, lastRx := s.clk } s)

theorem touch_frameTaken (p seq : Nat) (s : State) : Touches [.onz, .sent] s (frameTaken p seq s) :=
  touch_oSendCtl (by decide) (touch_setOnz_of_link rfl (by decide) (touch_refl _ s))

theorem answers_of_touches {L : List StPart} {s t : State} (h : Touches L s t) (hr : StPart.regs L = []) (hsec : StPart.sec ∉ L)
    (hstart : StPart.start ∉ L) (off : Nat) : t.answers off = s.answers off := by
  have hrg : ∀ n i, t.rg n i = s.rg n i := fun n i => h.sameRegs (but := []) (by simp [hr]) n i (by simp)
  unfold State.answers State.lc serving
  simp only [hrg, h.start hstart, h.sec hsec]

/-! ### CTRL_RD and CTRL_WR -/

/-- What a CTRL_RD in sequence runs. -/
def ctrlRdTaken (p tag off n : Nat) (s : State) : State :=
  if 1 ≤ n ∧ n ≤ 64 ∧ ctrlRoom s p then ctrlRead p tag off n s
  else ctrlDiscard p (returnCredit p 0 (lenCost (4 * n)) s)

theorem execCtrlRd_in_sequence {p : Port} {seq tag : BitVec 16} {off n : Nat} {s : State} (hp : s.powered = true)
    (hu : (s.onz p.idx).isUp = true) (hs : seq.toNat = (s.onz p.idx).rxSeq) :
    exec (.ctrlRd p seq tag off n) s = .next (ctrlRdTaken p.idx tag.toNat off n (frameTaken p.idx seq.toNat s)) :=
  (done_powered hp).trans (congrArg _ (oReceive_in_sequence hu hs))

theorem frameTaken_ctrlTags (p seq : Nat) (s : State) : ((frameTaken p seq s).onz p).ctrlTags = (s.onz p).ctrlTags := by
  simp [frameTaken, oSendCtl]

theorem ctrlRdTaken_of_room {p tag off n : Nat} {s : State} (h1 : 1 ≤ n) (h64 : n ≤ 64) (hr : (s.onz p).ctrlTags.length < 64) :
    ctrlRdTaken p tag off n s = ctrlRead p tag off n s := if_pos ⟨h1, h64, decide_eq_true hr⟩

theorem ctrlRdTaken_of_full {p tag off n : Nat} {s : State} (hr : 64 ≤ (s.onz p).ctrlTags.length) :
    ctrlRdTaken p tag off n s = ctrlDiscard p (returnCredit p 0 (lenCost (4 * n)) s) :=
  if_neg fun h => absurd (of_decide_eq_true h.2.2) (Nat.not_lt.mpr hr)

theorem ctrlRead_inside {p tag off n : Nat} {s : State} (h : off + 4 * n ≤ 16777216) :
    ctrlRead p tag off n s = (if (frameOffsets off n).any s.answers
      then ctrlResp p tag off 0 (readAll p (frameOffsets off n) (ctrlAccept p tag n s)).1
        (readAll p (frameOffsets off n) (ctrlAccept p tag n s)).2
      else returnCredit p 0 (lenCost (4 * n)) s) := by
  unfold ctrlRead
  exact if_neg (by simp [frameInside, h])

theorem ctrlRead_outside {p tag off n : Nat} {s : State} (h : 16777216 < off + 4 * n) :
    ctrlRead p tag off n s = ctrlResp p tag off 1 [] (ctrlAccept p tag n s) := by
  unfold ctrlRead
  exact if_pos (by simp [frameInside, Nat.not_le.mpr h])

theorem execCtrlWr_in_sequence {p : Port} {seq : BitVec 16} {off : Nat} {vs : List Word} {s : State} (hp : s.powered = true)
    (hu : (s.onz p.idx).isUp = true) (hs : seq.toNat = (s.onz p.idx).rxSeq) (h1 : 1 ≤ vs.length) (h64 : vs.length ≤ 64)
    (hin : off + 4 * vs.length ≤ 16777216) :
    exec (.ctrlWr p seq off vs) s = .next (forEach vs.zipIdx (fun x t =>
      if t.answers (off + 4 * x.2) then portWrite p.idx (off + 4 * x.2) x.1.toNat t else t)
      (returnCredit p.idx ((16 + 4 * vs.length + 255) / 256) 0 (frameTaken p.idx seq.toNat s))) := by
  rw [← lenCost_eq]
  refine (done_powered hp).trans (congrArg _ ((oReceive_in_sequence hu hs).trans ?_))
  dsimp only
  rw [if_pos ⟨h1, h64⟩]
  unfold ctrlWrite
  exact if_neg (by simp [frameInside, hin])

theorem readAll_of_answered {p off : Nat} {r : List Nat} {s : State} (h : s.answers off = true) :
    readAll p (off :: r) s = ((portRead p off s).1 :: (readAll p r (portRead p off s).2).1, (readAll p r (portRead p off s).2).2) := by
  rw [readAll, if_pos h]

theorem answerLeaves_of_ctrlResp {p cost : Nat} {f : OFrame} {s : State} (ht : f.ty = OTy.ctrlResp)
    (h : look f.tag (s.onz p).ctrlTags = some cost) : answerLeaves p f s =
      returnCredit p 0 cost (setOnz p { s.onz p with ctrlTags := del f.tag (s.onz p).ctrlTags } s) := by
  unfold answerLeaves
  rw [if_pos ht, h]

end Sys2Proof.Machine

namespace Sys2Proof.Proofs

open Sys2Proof Sys2Proof.Machine

/-- Settles O29: each frame in sequence runs its own branch after `frameTaken`, each one out of place is `frameNaked`. -/
theorem onzonFramesAreSequencedAndCredited : Obligations.OnzonFramesAreSequencedAndCredited := by
  unfold Obligations.OnzonFramesAreSequencedAndCredited
  refine ⟨fun p seq s hp hu => ⟨_, (done_powered hp).trans (congrArg _ (if_pos hu)), fun e => ?_, ?_, ?_, ?_, onz_other .., setOnz_sent ..,
      fun n i _ => setOnz_rg .., fun a => by rw [setOnz_mem]⟩,
    fun p seq s hp hu => (done_powered hp).trans (congrArg _ (onzonNak_of_up hu)),
    fun p posted reads s hp hu => (done_powered hp).trans (congrArg _ (if_neg (by simp [hu]))),
    fun p f s hq ht => ⟨fun hc hr => ⟨_, rfl, ?_⟩, oFlush_of_held hq ht⟩, oCost_eq, fun o f => rfl,
    fun f seq => ⟨wire_length f seq, wire_fields f seq⟩, fun p cause s hp hu => ⟨frameNaked p.idx s, ?_⟩,
    fun p seq tag off n s hp hu h1 h64 => ?_, fun p cost f s ht h => answerLeaves_of_ctrlResp ht h,
    fun p off r s h => readAll_of_answered h,
    fun p seq off vs s hp hu h1 h64 hs hin => execCtrlWr_in_sequence hp hu hs h1 h64 hin⟩
  · rw [setOnz_onz_self]
    simp
  · rw [setOnz_onz_self]
  · rw [setOnz_onz_self]
  · rw [setOnz_onz_self]
  · rw [oFlush_of_covered hq ht hc hr, oTransmit_of_memWr ht]
    simp
  · refine ⟨(done_powered hp).trans (congrArg _ (if_neg (by simp [hu]))), (touch_frameNaked p.idx s).sameRegs (by decide),
      (touch_frameNaked p.idx s).sameMem (by decide), frameNaked_count .., frameNaked_sent ..⟩
  · intro u v r
    have hans : (frameOffsets off n).any u.answers = (frameOffsets off n).any s.answers :=
      congrArg _ (funext fun o => answers_of_touches (touch_frameTaken p.idx seq.toNat s) rfl (by decide) (by decide) o)
    refine ⟨fun hs hr hin => ?_, fun hs hr hin => ?_, fun hs hr => ?_, fun hs => ⟨frameNaked p.idx s, ?_⟩⟩
    · rw [execCtrlRd_in_sequence hp hu hs, ctrlRdTaken_of_room h1 h64 (by rwa [frameTaken_ctrlTags]), ctrlRead_inside hin, ← hans]
      rfl
    · rw [execCtrlRd_in_sequence hp hu hs, ctrlRdTaken_of_room h1 h64 (by rwa [frameTaken_ctrlTags]), ctrlRead_outside hin]
      rfl
    · rw [execCtrlRd_in_sequence hp hu hs, ctrlRdTaken_of_full (by rwa [frameTaken_ctrlTags])]
      rfl
    · exact ⟨(done_powered hp).trans (congrArg _ (oReceive_out_of_sequence hu hs)), (touch_frameNaked p.idx s).sameRegs (by decide),
        (touch_frameNaked p.idx s).sameMem (by decide), frameNaked_rxSeq .., frameNaked_sent ..⟩

end Sys2Proof.Proofs
end

section
/-! PROOF. The states of a fabric link (R360 to R368). -/

namespace Sys2Proof.Machine

open Sys2Proof

section
variable {L : List StPart} {r : State}

theorem touch_laneReplace {a0 a1 a2 : _} (hL : [.reg .PRT_Ln_SPARE_LANE_REPLACED, .prt] ⊆ L) (ha2 : Touches L r a2) :
    Touches L r (laneReplace a0 a1 a2) := by
  unfold laneReplace
  extract_lets -merge +onlyGivenNames y0 y1
  exact touch_setRg (sub_trans hL (by decide)) (touch_setLink (sub_trans hL (by decide)) ha2)

theorem touch_engineApply {a0 a1 : _} (hL : [.sent] ⊆ L) (ha1 : Touches L r a1) :
    Touches L r (engineApply a0 a1) := by
  unfold engineApply
  exact touch_emit (sub_trans hL (by decide)) (touch_emit (sub_trans hL (by decide)) ha1)

theorem touch_engineStart {a0 a1 : _} (hL : [.sent] ⊆ L) (ha1 : Touches L r a1) :
    Touches L r (engineStart a0 a1) := by
  unfold engineStart
  extract_lets -merge +onlyGivenNames y0 y1
  exact touch_ite (fun _ => touch_engineApply (sub_trans hL (by decide)) (touch_forEach (touch_forEach (touch_emit (sub_trans hL (by decide)) (touch_emit (sub_trans hL (by decide)) ha1)) (fun _ _ h3 => touch_emit (sub_trans hL (by decide)) h3)) (fun _ _ h2 => touch_emit (sub_trans hL (by decide)) h2))) (fun _ => ha1)

theorem touch_engineWrite {a0 a1 a2 a3 a4 : _} (hL : [.sent] ⊆ L) (ha4 : Touches L r a4) :
    Touches L r (engineWrite a0 a1 a2 a3 a4) := by
  unfold engineWrite
  extract_lets -merge +onlyGivenNames y0
  exact touch_engineApply (sub_trans hL (by decide)) (touch_emit (sub_trans hL (by decide)) ha4)

theorem touch_setLevel {a0 a1 a2 : _} (hL : [.reg .BIST_LEVEL_LEVELS] ⊆ L) (ha2 : Touches L r a2) :
    Touches L r (setLevel a0 a1 a2) := by
  unfold setLevel
  exact touch_setRg (sub_trans hL (by decide)) ha2

theorem touch_levelCheck {a0 a1 : _} (hL : evrParts ++ [.reg .BIST_LEVEL_LEVELS] ⊆ L) (ha1 : Touches L r a1) :
    Touches L r (levelCheck a0 a1) := by
  unfold levelCheck
  exact touch_ite (fun _ => touch_raise (sub_trans hL (by decide)) (touch_setLevel (sub_trans hL (by decide)) ha1)) (fun _ => ha1)

theorem touch_linkGot {a0 a1 a2 : _} (hL : [.reg .PRT_Ln_RX_LO_BYTES_LO, .reg .PRT_Ln_RX_HI_BYTES_HI] ⊆ L) (ha2 : Touches L r a2) :
    Touches L r (linkGot a0 a1 a2) := by
  unfold linkGot
  exact touch_addBytes (sub_trans hL (by decide)) ha2

theorem touch_trainFrames {a0 a1 : _} (hL : [.reg .PRT_Ln_TX_LO_BYTES_LO, .reg .PRT_Ln_TX_HI_BYTES_HI, .sent, .reg .PRT_Ln_RX_LO_BYTES_LO, .reg .PRT_Ln_RX_HI_BYTES_HI] ⊆ L) (ha1 : Touches L r a1) :
    Touches L r (trainFrames a0 a1) := by
  unfold trainFrames
  extract_lets -merge +onlyGivenNames y0 y1 y2
  exact touch_linkGot (sub_trans hL (by decide)) (touch_linkEmit (sub_trans hL (by decide)) (touch_linkEmit (sub_trans hL (by decide)) ha1))

theorem touch_swapBegin {a0 a1 a2 a3 a4 : _} (hL : [.prt] ⊆ L) (ha4 : Touches L r a4) :
    Touches L r (swapBegin a0 a1 a2 a3 a4) := by
  unfold swapBegin
  extract_lets -merge +onlyGivenNames y0
  exact touch_setLink (sub_trans hL (by decide)) ha4

theorem touch_laneSwap {a0 a1 a2 : _} (hL : [.prt, .reg .PRT_Ln_TX_LO_BYTES_LO, .reg .PRT_Ln_TX_HI_BYTES_HI, .sent, .reg .PRT_Ln_SPARE_LANE_REPLACED] ⊆ L) (ha2 : Touches L r a2) :
    Touches L r (laneSwap a0 a1 a2) := by
  unfold laneSwap
  extract_lets -merge +onlyGivenNames y0
  exact touch_laneReplace (sub_trans hL (by decide)) (touch_linkTransmit (sub_trans hL (by decide)) (touch_swapBegin (sub_trans hL (by decide)) ha2))

theorem touch_linkAck {a0 a1 a2 : _} (hL : [.reg .PRT_Ln_TX_LO_BYTES_LO, .reg .PRT_Ln_TX_HI_BYTES_HI, .sent] ⊆ L) (ha2 : Touches L r a2) :
    Touches L r (linkAck a0 a1 a2) := by
  unfold linkAck
  exact touch_linkEmit (sub_trans hL (by decide)) ha2

theorem touch_lctrlTaken {a0 a1 : _} (hL : [.reg .PRT_Ln_TX_LO_BYTES_LO, .reg .PRT_Ln_TX_HI_BYTES_HI, .sent, .reg .PRT_Ln_RX_LO_BYTES_LO, .reg .PRT_Ln_RX_HI_BYTES_HI, .prt] ⊆ L) (ha1 : Touches L r a1) :
    Touches L r (lctrlTaken a0 a1) := by
  unfold lctrlTaken
  extract_lets -merge +onlyGivenNames y0
  exact touch_linkAck (sub_trans hL (by decide)) (touch_linkGot (sub_trans hL (by decide)) (touch_setLink (sub_trans hL (by decide)) ha1))

theorem touch_swapDone {a0 a1 : _} (hL : [.reg .PRT_Ln_TX_LO_BYTES_LO, .reg .PRT_Ln_TX_HI_BYTES_HI, .sent, .reg .PRT_Ln_RX_LO_BYTES_LO, .reg .PRT_Ln_RX_HI_BYTES_HI, .prt] ⊆ L) (ha1 : Touches L r a1) :
    Touches L r (swapDone a0 a1) := by
  unfold swapDone
  extract_lets -merge +onlyGivenNames y0
  clear_value y0
  split
  · extract_lets -merge +onlyGivenNames x1 y2
    have hx1 : Touches L r x1 := touch_lctrlTaken (sub_trans hL (by decide)) ha1
    exact touch_ite (fun _ => touch_setLink (sub_trans hL (by decide)) hx1) (fun _ => ha1)
  · exact ha1

theorem touch_linkReplayFrom {a0 a1 a2 : _} (hL : [.reg .PRT_Ln_REPLAY_COUNT, .reg .PRT_Ln_TX_LO_BYTES_LO, .reg .PRT_Ln_TX_HI_BYTES_HI, .sent, .prt, .time] ⊆ L) (ha2 : Touches L r a2) :
    Touches L r (linkReplayFrom a0 a1 a2) := by
  unfold linkReplayFrom
  extract_lets -merge +onlyGivenNames y0 y1 y2 y3 x4 y8
  have hx4 : Touches L r x4 := by
    unfold x4
    refine touch_when ?_ (fun _ h5 => touch_bump (sub_trans hL (by decide)) h5)
    refine touch_forEach (touch_setLink (sub_trans hL (by decide)) ha2) ?_
    intro _ _ h6
    extract_lets -merge +onlyGivenNames y7
    exact touch_linkEmit (sub_trans hL (by decide)) h6
  exact touch_when hx4 (fun _ h9 => touch_setLinkTime (sub_trans hL (by decide)) h9)

theorem touch_enginePoll {a0 a1 : _} (hL : [.sent] ⊆ L) (ha1 : Touches L r a1) :
    Touches L r (enginePoll a0 a1) := by
  unfold enginePoll
  exact touch_emit (sub_trans hL (by decide)) (touch_emit (sub_trans hL (by decide)) (touch_emit (sub_trans hL (by decide)) ha1))

theorem touch_linkAckUpTo {a0 a1 a2 : _} (hL : [.prt] ⊆ L) (ha2 : Touches L r a2) :
    Touches L r (linkAckUpTo a0 a1 a2) := by
  unfold linkAckUpTo
  extract_lets -merge +onlyGivenNames y0 y1 y2
  exact touch_setLink (sub_trans hL (by decide)) ha2

theorem touch_linkNak {a0 a1 a2 : _} (hL : [.reg .PRT_Ln_TX_LO_BYTES_LO, .reg .PRT_Ln_TX_HI_BYTES_HI, .sent] ⊆ L) (ha2 : Touches L r a2) :
    Touches L r (linkNak a0 a1 a2) := by
  unfold linkNak
  exact touch_linkEmit (sub_trans hL (by decide)) ha2

theorem touch_linkFrameError {a0 a1 a2 : _} (hL : [.reg .PRT_Ln_CRC_COUNT, .reg .PRT_Ln_FEC_UNCORR_COUNT, .reg .PRT_Ln_TX_LO_BYTES_LO, .reg .PRT_Ln_TX_HI_BYTES_HI, .sent, .prt] ⊆ L) (ha2 : Touches L r a2) :
    Touches L r (linkFrameError a0 a1 a2) := by
  unfold linkFrameError
  extract_lets -merge +onlyGivenNames y0
  exact touch_ite (fun _ => ha2) (fun _ => touch_linkNak (sub_trans hL (by decide)) (touch_when (touch_when (touch_setLink (sub_trans hL (by decide)) ha2) (fun _ h2 => touch_bump (sub_trans hL (by decide)) h2)) (fun _ h1 => touch_bump (sub_trans hL (by decide)) h1)))

end

/-! ### Links under each update -/

@[simp] theorem setLink_link_self (l : Nat) (k : Link) (s : State) : (setLink l k s).link l = k := lookD_put_self ..

theorem setLink_link_ne {l m : Nat} (k : Link) (s : State) (h : m ≠ l) : (setLink l k s).link m = s.link m := lookD_put_ne _ _ _ h

theorem link_congr {s t : State} (h : t.prt = s.prt) (l : Nat) : t.link l = s.link l := by
  unfold State.link
  rw [h]

@[simp] theorem setLink_rg (l : Nat) (k : Link) (s : State) (n : RN) (i : Nat) : (setLink l k s).rg n i = s.rg n i := rfl
@[simp] theorem setLink_evr (l : Nat) (k : Link) (s : State) : (setLink l k s).evr = s.evr := rfl
@[simp] theorem setLink_mem (l : Nat) (k : Link) (s : State) : (setLink l k s).mem = s.mem := rfl
@[simp] theorem setLink_comp (l : Nat) (k : Link) (s : State) : (setLink l k s).comp = s.comp := rfl
@[simp] theorem setLink_sent (l : Nat) (k : Link) (s : State) : (setLink l k s).sent = s.sent := rfl
@[simp] theorem setLink_clk (l : Nat) (k : Link) (s : State) : (setLink l k s).clk = s.clk := rfl
@[simp] theorem setRg_link (n : RN) (i v : Nat) (s : State) (l : Nat) : (setRg n i v s).link l = s.link l := rfl
@[simp] theorem bump_link (n : RN) (i k : Nat) (s : State) (l : Nat) : (bump n i k s).link l = s.link l := rfl
@[simp] theorem emit_link (x : Sent) (s : State) (l : Nat) : (emit x s).link l = s.link l := rfl
@[simp] theorem raise_link (code : Nat) (car : Option Nat) (items : List Item) (s : State) (l : Nat) :
    (raise code car items s).link l = s.link l := link_congr (raise_prt ..) l

/-- Every link but one reads in `t` as in `s`. -/
def OtherLinks (l : Nat) (s t : State) : Prop := ∀ m, m ≠ l → t.link m = s.link m

theorem OtherLinks.trans {l : Nat} {r s t : State} (h : OtherLinks l r s) (k : OtherLinks l s t) : OtherLinks l r t :=
  fun m hm => (k m hm).trans (h m hm)

theorem otherLinks_of_eq {l : Nat} {s t : State} (h : t.prt = s.prt) : OtherLinks l s t := fun m _ => link_congr h m

theorem otherLinks_setLink (l : Nat) (k : Link) (s : State) : OtherLinks l s (setLink l k s) := fun _ hm => setLink_link_ne k s hm

/-! ### Lanes -/

theorem laneReplace_link (l p : Nat) (s : State) : (laneReplace l p s).link l =
    { s.link l with lanes := (s.link l).lanes.map (fun x => if x = p then s.im.spareLane l else x) } := by
  unfold laneReplace
  rw [setRg_link, setLink_link_self]

theorem otherLinks_laneReplace (l p : Nat) (s : State) : OtherLinks l s (laneReplace l p s) :=
  otherLinks_setLink l _ s

/-- A training that begins changes of a link's lanes at most which they are. -/
theorem whenSome_laneReplace (o : Option Nat) (b : Bool) (l : Nat) (s : State) :
    ((when b (whenSome o (laneReplace l)) s).link l).st = (s.link l).st ∧
    ((when b (whenSome o (laneReplace l)) s).link l).trainAt = (s.link l).trainAt ∧
    OtherLinks l s (when b (whenSome o (laneReplace l)) s) ∧ (when b (whenSome o (laneReplace l)) s).sent = s.sent := by
  cases b with
  | false => exact ⟨rfl, rfl, fun _ _ => rfl, rfl⟩
  | true =>
    cases o with
    | none => exact ⟨rfl, rfl, fun _ _ => rfl, rfl⟩
    | some p =>
      rw [when_true, whenSome_some, laneReplace_link]
      exact ⟨rfl, rfl, otherLinks_laneReplace l p s, rfl⟩

theorem engineStart_prt (l : Nat) (s : State) : (engineStart l s).prt = s.prt :=
  Touches.prt (touch_engineStart (fun _ h => h) (touch_refl _ s)) (by decide)

/-- What the node asks of an engine goes out before what went out earlier in the list; of no engine, nothing. -/
theorem engineStart_sent (l : Nat) (s : State) :
    ∃ x, (engineStart l s).sent = x ++ s.sent ∧ (s.im.optical l = false → x = []) := by
  unfold engineStart
  extract_lets k a
  split
  · rename_i h
    refine ⟨[.oeRead a 0x30 1, .oe a 0x30 1] ++ ((List.range 9).map (fun p => Sent.oe a (0x20 + p) (nth 0 k.rxWaves p))).reverse ++
      ((List.range 9).map (fun p => Sent.oe a (0x10 + p) (nth 0 k.waves p))).reverse ++ [.oeRead a 0x02 2, .oeRead a 0x00 1], ?_,
      fun hf => absurd h (by simp [hf])⟩
    simp only [engineApply, emit_sent, forEach_emit_sent, List.append_assoc, List.cons_append, List.nil_append]
  · exact ⟨[], rfl, fun _ => rfl⟩

/-- The link as its training begins, its spares apart (R363). -/
def linkTrained (l : Nat) (s : State) : State :=
  setLink l { linkLaid s l (s.link l) with
    st := .training
    trainAt := s.clk
    eq := (serTrimBytes s l).map (fun b => b.toNat) } s

theorem linkTrainingStart_of_ready {l : Nat} {s : State} (hst : (s.link l).st = .down) (hr : (s.link l).retryAt = none)
    (hs : (s.link l).started = true) (he : s.im.linkEnabled l = true) (hd : s.rg .PRT_Ln_CTRL_DISABLE l = 0) :
    ∃ b o, linkTrainingStart l s = emit (.train l) (engineStart l (when b (whenSome o (laneReplace l)) (linkTrained l s))) := by
  unfold linkTrainingStart
  dsimp only
  rw [if_pos ⟨hst, hr, hs, he, hd⟩]
  exact ⟨_, _, rfl⟩

theorem spareFor_eq (bad : List Nat) (free ok : Bool) : spareFor bad free ok =
    if bad.length = 0 then some none else if bad.length = 1 ∧ free = true ∧ ok = true then some bad.head? else none := by
  match bad with
  | [] => rfl
  | [p] => cases free <;> cases ok <;> rfl
  | p :: q :: r => simp [spareFor]

/-! ### UP -/

/-- The link as it reaches UP (R363, R370). -/
def linkRaised (l : Nat) (s : State) : Link :=
  { s.link l with
    st := .up
    lastRx := s.clk
    txSeq := 0
    rxSeq := 0
    replay := []
    replays := 0
    credits := (linkCredits s l).1
    isoCredits := (linkCredits s l).2
    swap := none }

theorem linkUp_after {l : Nat} {s : State} (h : s.start.joinedDue = false) :
    Touches (evrParts ++ [.time, .reg .PRT_Ln_STATUS_TRAIN_FAILS, .reg .PRT_Ln_STATUS_UP_COUNT, .ras, .reg .BIST_LEVEL_LEVELS])
      (setLink l (linkRaised l s) s) (linkUp l s) := by
  unfold linkUp
  extract_lets c t late u k peer
  rw [h, when_false]
  exact touch_levelCheck (by decide) (touch_onRas (by decide) (touch_raise (by decide) (touch_wrapUp (by decide)
    (touch_setRg (by decide) (touch_setLinkTime (by decide) (touch_refl _ _))))))

theorem linkUp_trainFails {l : Nat} {s : State} (h : s.start.joinedDue = false) : (linkUp l s).rg .PRT_Ln_STATUS_TRAIN_FAILS l = 0 := by
  unfold linkUp
  extract_lets c t late u src k peer
  rw [h, when_false]
  refine (Touches.rg (L := evrParts ++ [.reg .PRT_Ln_STATUS_UP_COUNT, .ras, .reg .BIST_LEVEL_LEVELS])
    (s := setRg .PRT_Ln_STATUS_TRAIN_FAILS l 0 (setLinkTime l u (setLink l k s)))
    (touch_levelCheck (by decide) (touch_onRas (by decide) (touch_raise (by decide) (touch_wrapUp (by decide) (touch_refl _ _)))))
    (by decide) l).trans ?_
  rw [setRg_rg_self]
  rfl

theorem linkCredits_unowned {l : Nat} {s : State} (h : s.slotIm.slotOwners l = []) :
    (linkCredits s l).1 = [(0, 512), (1, 3072), (2, 2048), (3, 2560)] := by
  simp [linkCredits, h]

/-- The state in which an IDENT is judged. -/
def identShown (l node link : Nat) (s : State) : State :=
  trainFrames l (setRg .PRT_Ln_PEER_VALID l 1 (setRg .PRT_Ln_PEER_LINK l link (setRg .PRT_Ln_PEER_NODE l node
    (setLink l { s.link l with named := true } s))))

theorem identShown_im (l node link : Nat) (s : State) : (identShown l node link s).im = s.im := by
  have h : (identShown l node link s).comp = s.comp :=
    (Touches.comp (touch_trainFrames (fun _ h => h) (touch_refl _ _)) (by decide)).trans rfl
  unfold State.im
  rw [h]

theorem linkIdent_of_single {l node link : Nat} {s : State} (h : duplicateOf (identShown l node link s) l node link = none) :
    linkIdent l node link s = if peerExpected (identShown l node link s) l node link = true then linkUp l (identShown l node link s)
      else linkFail l (raise 0x0706 none [(2, s.im.peerNode l), (1, s.im.peerLink l), (2, node), (1, link)]
        (identShown l node link s)) := by
  unfold linkIdent
  rw [← identShown_im l node link s]
  dsimp only
  rw [← identShown, h]

/-! ### Failures -/

theorem linkTrainFailed_of_few {l : Nat} {s : State} (h : s.rg .PRT_Ln_STATUS_TRAIN_FAILS l < 15) : linkTrainFailed l s =
    setRg .PRT_Ln_PEER_VALID l 0 (setLink l { s.link l with st := .down, retryAt := some (s.clk + 10000000) }
      (setRg .PRT_Ln_STATUS_TRAIN_FAILS l (s.rg .PRT_Ln_STATUS_TRAIN_FAILS l + 1) s)) := by
  unfold linkTrainFailed
  exact if_neg (by omega)

theorem linkTrainFailed_of_sixteenth {l : Nat} {s : State} (h : 15 ≤ s.rg .PRT_Ln_STATUS_TRAIN_FAILS l) : linkTrainFailed l s =
    linkFail l (setRg .PRT_Ln_STATUS_TRAIN_FAILS l (s.rg .PRT_Ln_STATUS_TRAIN_FAILS l + 1) s) := by
  unfold linkTrainFailed
  exact if_pos (by omega)

theorem linkFail_of_closed {l : Nat} {s : State} (h : (s.link l).open_ = false) : linkFail l s =
    noticeAll 0x03 (l + s.rg .PRT_Ln_PEER_NODE l * 65536)
      (raise 0x0705 none [] (setLink l { s.link l with st := .failed, retryAt := none } s)) := by
  unfold linkFail
  rw [if_neg (by simp [h])]
  rfl

theorem linkRetry_of_waiting {l at_ : Nat} {s : State} (hst : (s.link l).st = .down) (h : (s.link l).retryAt = some at_) :
    linkRetry l s = if at_ ≤ s.clk then setLink l { s.link l with retryAt := none } s else s := by
  unfold linkRetry
  dsimp only
  rw [h]
  exact if_congr (and_iff_right hst) rfl rfl

theorem linkDown_of_closed {l : Nat} {s : State} (cause : Nat) (h : (s.link l).open_ = false) : linkDown l cause s = s :=
  if_neg (by simp [h])

theorem linkDown_of_open {l : Nat} {s : State} (cause : Nat) (h : (s.link l).open_ = true) :
    linkDown l cause s = raise 0x0702 none [(1, l), (1, cause)] (linkLeave l .down s) := if_pos h

/-- What a link's loss leaves of a waiting packet: where the packet arrived, its room is no longer owed. -/
def arrivalForgotten (l : Nat) (p : OutPkt) : OutPkt :=
  { p with from_ := p.from_.map (fun a => if a.link = l ∧ a.slot = false then { a with owed := false } else a) }

theorem lookD_map {α : Type} (f : α → α) (n : Nat) (d : α) (m : List (Nat × α)) :
    lookD n (f d) (m.map (fun e => (e.1, f e.2))) = f (lookD n d m) := by
  induction m with
  | nil => rfl
  | cons e m ih =>
    obtain ⟨k, x⟩ := e
    by_cases h : k = n
    · simp [lookD, look, h]
    · simpa [lookD, look, h] using ih

theorem forgetArrivals_link (l m : Nat) (s : State) :
    (forgetArrivals l s).link m = { s.link m with outq := (s.link m).outq.map (arrivalForgotten l) } :=
  lookD_map (fun k : Link => { k with outq := k.outq.map (arrivalForgotten l) }) m Link.init s.prt.links

/-- The link as it leaves UP or REPAIR (R366). -/
def linkLeft (l : Nat) (st : LState) (s : State) : Link :=
  { s.link l with
    st := st
    downAt := s.clk
    retryAt := none
    replay := []
    replays := 0
    credits := []
    isoCredits := []
    swap := none
    outq := []
    rr := [] }

/-- The state in which a lost link's packets are routed again. -/
def linkClosed (l : Nat) (st : LState) (s : State) : State :=
  onTrf (fun t => { t with gapCredits := t.gapCredits.filter (fun e => e.1.1 != l) }) (forgetArrivals l
    (when (st == .down) (setRg .PRT_Ln_PEER_VALID l 0) (setLink l (linkLeft l st s) s)))

theorem linkLeave_eq (l : Nat) (st : LState) (s : State) :
    linkLeave l st s = forEach (s.link l).outq reroute (linkClosed l st s) := rfl

theorem linkClosed_link (l : Nat) (st : LState) (s : State) (m : Nat) : (linkClosed l st s).link m =
    { (setLink l (linkLeft l st s) s).link m with
      outq := ((setLink l (linkLeft l st s) s).link m).outq.map (arrivalForgotten l) } := by
  refine (forgetArrivals_link l m _).trans ?_
  cases st == .down <;> rfl

theorem linkClosed_peer (l : Nat) (s : State) : (linkClosed l .down s).rg .PRT_Ln_PEER_VALID l = 0 := by
  have h : (linkClosed l .down s).rg .PRT_Ln_PEER_VALID l =
      (setRg .PRT_Ln_PEER_VALID l 0 (setLink l (linkLeft l .down s) s)).rg .PRT_Ln_PEER_VALID l := rfl
  rw [h, setRg_rg_self]
  rfl

theorem linkClosed_mem (l : Nat) (st : LState) (s : State) : (linkClosed l st s).mem = s.mem := by
  unfold linkClosed
  cases st == .down <;> rfl

/-! ### Engines -/

/-- What an engine that acknowledged has read (R362). -/
def engineRead (l fault los : Nat) (s : State) : State :=
  setRg .PRT_Ln_OE_RX_LOS l los (setRg .PRT_Ln_OE_TX_FAULT l fault (setRg .PRT_Ln_OE_POLL_OK l 1
    (enginePoll (u8 (s.im.lane l) 6) s)))

theorem touch_engineRead (l fault los : Nat) (s : State) :
    Touches [.reg .PRT_Ln_OE_RX_LOS, .reg .PRT_Ln_OE_TX_FAULT, .reg .PRT_Ln_OE_POLL_OK, .sent] s (engineRead l fault los s) :=
  touch_setRg (by decide) (touch_setRg (by decide) (touch_setRg (by decide) (touch_enginePoll (by decide) (touch_refl _ s))))

theorem oePoll_of_silent {l fault los warn : Nat} {s : State} (he : s.rg .PRT_CTRL_OE_POLL 0 = 1) (ho : s.im.optical l = true) :
    oePoll l false fault los warn s =
      raise 0x070C none [(1, l)] (setRg .PRT_Ln_OE_POLL_OK l 0 (enginePoll (u8 (s.im.lane l) 6) s)) := by
  unfold oePoll
  rw [if_neg (by simp [he, ho])]
  exact if_pos rfl

theorem oePoll_of_answer {l fault los warn : Nat} {s : State} (he : s.rg .PRT_CTRL_OE_POLL 0 = 1) (ho : s.im.optical l = true) :
    oePoll l true fault los warn s = engineReports l fault los warn (enginePoll (u8 (s.im.lane l) 6) s) := by
  unfold oePoll
  rw [if_neg (by simp [he, ho])]
  exact if_neg (by simp)

/-- A fault or a loss on a wavelength in use takes the link DOWN (R365). -/
theorem engineReports_of_fault {l fault los warn : Nat} {s : State}
    (h : (wavesInUse (s.link l)).any (bit fault) = true ∨ (rxWavesInUse (s.link l)).any (bit los) = true) :
    engineReports l fault los warn (enginePoll (u8 (s.im.lane l) 6) s) = linkDown l 1 (engineRead l fault los s) := by
  unfold engineReports
  exact if_pos h

theorem find_bit_zero (l : List Nat) : l.find? (bit 0) = none := by
  rw [List.find?_eq_none]
  intro x _
  simp [bit]

theorem engineReports_of_clear {l fault los : Nat} {s : State} (h1 : (wavesInUse (s.link l)).any (bit fault) = false)
    (h2 : (rxWavesInUse (s.link l)).any (bit los) = false) :
    engineReports l fault los 0 (enginePoll (u8 (s.im.lane l) 6) s) = engineRead l fault los s := by
  unfold engineReports
  extract_lets u k
  have hk : k = s.link l := rfl
  rw [hk, h1, h2, if_neg (by simp), find_bit_zero]
  split <;> rfl

end Sys2Proof.Machine

namespace Sys2Proof.Proofs

open Sys2Proof Sys2Proof.Machine

/-- Settles O30: each link command read off its branches; what follows the link's own record (events, levels, notices) does not
touch the links again. -/
theorem linksTrainAndFail : Obligations.LinksTrainAndFail := by
  unfold Obligations.LinksTrainAndFail
  refine ⟨fun l s hl hst hr hs he hd => ?_, fun l s hl h => ?_, fun l lanes engine faults ident trims s hl hst hh ht => ?_,
    spareFor_eq, fun l s h => ?_, fun l node link s => ?_, fun l s h => ?_,
    fun l s h => linkTrainFailed_of_sixteenth h, fun l s h => ⟨_, linkFail_of_closed h, ?_, fun m hm => ?_, ?_⟩,
    fun l at_ s hl hst hr => (done_live hl).trans (congrArg _ (linkRetry_of_waiting hst hr)), fun l s hl ha => ?_,
    fun l lane s hl => ⟨done_live hl, done_live hl, done_live hl⟩,
    fun l cause s => ⟨linkDown_of_closed cause, linkDown_of_open cause⟩,
    fun l st s => ⟨linkClosed l st s, linkLeave_eq l st s, ?_, ?_, ?_, ?_, fun m => ?_, linkClosed_mem ..⟩,
    fun l fault los warn s hl he ho => ⟨⟨_, (done_live hl).trans (congrArg _ (oePoll_of_silent he ho)), ?_⟩,
      ⟨engineRead l.val fault.toNat los.toNat s, ?_⟩⟩⟩
  case refine_1 =>
    obtain ⟨b, o, h⟩ := linkTrainingStart_of_ready hst hr hs he hd
    obtain ⟨h1, h2, h3, h4⟩ := whenSome_laneReplace o b l.val (linkTrained l.val s)
    have hp := engineStart_prt l.val (when b (whenSome o (laneReplace l.val)) (linkTrained l.val s))
    obtain ⟨x, hx, hx'⟩ := engineStart_sent l.val (when b (whenSome o (laneReplace l.val)) (linkTrained l.val s))
    have hw : Touches [.prt, .reg .PRT_Ln_SPARE_LANE_REPLACED] s (when b (whenSome o (laneReplace l.val)) (linkTrained l.val s)) :=
      touch_when (touch_setLink (by decide) (touch_refl _ s))
        (fun _ h => touch_whenSome h (fun _ _ h => touch_laneReplace (by decide) h))
    have ht : Touches [.prt, .reg .PRT_Ln_SPARE_LANE_REPLACED, .sent] s (linkTrainingStart l.val s) := by
      rw [h]
      exact touch_emit (by decide) (touch_engineStart (by decide) (hw.mono (by decide)))
    refine ⟨_, done_live hl, ?_, ?_, ?_, ⟨x, ?_, ?_⟩, ht.sameRegs (by decide), ht.evr (by decide), ht.sameMem (by decide)⟩
    · rw [h, emit_link, link_congr hp, h1, linkTrained, setLink_link_self]
    · rw [h, emit_link, link_congr hp, h2, linkTrained, setLink_link_self]
    · rw [h]
      exact ((otherLinks_setLink l.val _ s).trans h3).trans (otherLinks_of_eq hp)
    · rw [h, emit_sent, hx, h4]
      rfl
    · intro hf
      refine hx' ?_
      unfold State.im at hf ⊢
      rw [hw.comp (by decide)]
      exact hf
  case refine_2 =>
    refine (done_live hl).trans (congrArg _ (if_neg ?_))
    rintro ⟨h1, h2, -, h4, h5⟩
    rcases h with h | h | h | h
    · exact h h1
    · exact h h2
    · rw [h] at h4; exact Bool.false_ne_true h4
    · exact h h5
  case refine_3 =>
    refine (done_live hl).trans (congrArg _ ?_)
    unfold linkTrainingEnd
    dsimp only
    rw [if_neg (by rw [hst, hh]; decide), if_neg (Nat.not_lt.mpr ht)]
    generalize trainSpares s l.val lanes.toNat (if engine.toNat = 0 then 0 else faults.toNat) = spares
    rcases spares with _ | ⟨a, b⟩ <;> cases ident <;> rfl
  case refine_4 =>
    intro t
    have ha := linkUp_after (l := l) h
    have hk : t.link l = linkRaised l s := (link_congr (ha.prt (by decide)) l).trans (setLink_link_self ..)
    rw [hk]
    refine ⟨rfl, rfl, rfl, rfl, rfl, linkUp_trainFails h, fun m hm => ?_, ha.mem (by decide), fun ho => linkCredits_unowned ho⟩
    exact (link_congr (ha.prt (by decide)) m).trans (setLink_link_ne _ _ hm)
  case refine_5 =>
    intro u h
    exact linkIdent_of_single h
  case refine_6 =>
    intro t
    have ht : t = _ := linkTrainFailed_of_few h
    have hw : RN.width .PRT_Ln_STATUS_TRAIN_FAILS = 8 := rfl
    have hf : Touches [.reg .PRT_Ln_STATUS_TRAIN_FAILS, .reg .PRT_Ln_PEER_VALID, .prt] s t := by
      rw [ht]
      exact touch_setRg (by decide) (touch_setLink (by decide) (touch_setRg (by decide) (touch_refl _ s)))
    refine ⟨?_, ?_, ?_, hf.sameRegs (by decide), hf.evr (by decide), hf.mem (by decide)⟩
    · rw [ht]
      simp only [setRg_rg, setLink_rg, hw]
      simp
      omega
    · rw [ht, setRg_link, setLink_link_self]
    · rw [ht, setRg_link, setLink_link_self]
  case refine_7 => rw [raise_link, setLink_link_self]
  case refine_8 => rw [raise_link, setLink_link_ne _ _ hm]
  case refine_9 => rw [raise_mem, setLink_mem]
  case refine_10 =>
    have he : when (s.answers (0x700108 + 64 * l.val)) (linkRetrain l.val) s = linkRetrain l.val s := by rw [ha, when_true]
    refine ⟨_, (done_live hl).trans (congrArg _ he), ?_, ?_, ?_, ?_, fun hc => ?_⟩
    · rw [linkRetrain, linkToDown, setRg_link, setRg_link, setLink_link_self]
    · rw [linkRetrain, linkToDown, setRg_link, setRg_link, setLink_link_self]
    · rw [linkRetrain, setRg_rg_self]
      rfl
    · rw [linkRetrain, setRg_rg_ne _ _ (by simp), linkToDown, setRg_rg_self]
      rfl
    · have hf : Touches [.reg .PRT_Ln_STATUS_TRAIN_FAILS, .reg .PRT_Ln_PEER_VALID, .prt] s (linkRetrain l.val s) := by
        unfold linkRetrain linkToDown
        rw [linkDown_of_closed 6 hc]
        exact touch_setRg (by decide) (touch_setRg (by decide) (touch_setLink (by decide) (touch_refl _ s)))
      exact ⟨hf.sameRegs (by decide), hf.evr (by decide), hf.sameMem (by decide)⟩
  case refine_11 => rw [linkClosed_link, setLink_link_self]; rfl
  case refine_12 => rw [linkClosed_link, setLink_link_self]; rfl
  case refine_13 => rw [linkClosed_link, setLink_link_self]; rfl
  case refine_14 => rintro rfl; exact linkClosed_peer ..
  case refine_15 =>
    rw [linkClosed_link]
    split
    · next h => rw [h, setLink_link_self]; rfl
    · next h => rw [setLink_link_ne _ _ h]
  case refine_16 =>
    have h : Touches (.reg .PRT_Ln_OE_POLL_OK :: .sent :: evrParts) s
        (raise 0x070C none [(1, l.val)] (setRg .PRT_Ln_OE_POLL_OK l.val 0 (enginePoll (u8 (s.im.lane l.val) 6) s))) :=
      touch_raise (by decide) (touch_setRg (by decide) (touch_enginePoll (by decide) (touch_refl _ s)))
    refine ⟨?_, h.sameRegs (by decide), h.prt (by decide), _, rfl⟩
    simp
  case refine_17 =>
    have h := touch_engineRead l.val fault.toNat los.toNat s
    have hw : RN.width .PRT_Ln_OE_RX_LOS = 10 ∧ RN.width .PRT_Ln_OE_TX_FAULT = 10 ∧ RN.width .PRT_Ln_OE_POLL_OK = 1 := ⟨rfl, rfl, rfl⟩
    obtain ⟨w1, w2, w3⟩ := hw
    have h1 := fault.isLt
    have h2 := los.isLt
    refine ⟨?_, ?_, ?_, h.sameRegs (by decide), h.prt (by decide), h.evr (by decide), fun hb => ?_, fun hb1 hb2 hwarn => ?_⟩
    · simp [engineRead, w3]
    · simp [engineRead, w2]
      exact h1
    · simp [engineRead, w1]
      exact h2
    · exact (done_live hl).trans (congrArg _ ((oePoll_of_answer he ho).trans (engineReports_of_fault hb)))
    · subst hwarn
      exact (done_live hl).trans (congrArg _ ((oePoll_of_answer he ho).trans (engineReports_of_clear hb1 hb2)))

end Sys2Proof.Proofs
end

section
/-! PROOF. Planned swaps of lanes and wavelengths (R367, R368, R404). -/

namespace Sys2Proof.Machine

open Sys2Proof

/-! ### The worst lane -/

/-- A frame's counts reported (R367). -/
def laneReport (l : Nat) (symbols : List Nat) (n : Nat) (s : State) : State :=
  setRg .PRT_Ln_WORST_LANE_SYMBOLS l (min (worstLane symbols).2 16777215)
    (setRg .PRT_Ln_WORST_LANE_LANE l (worstLane symbols).1 (bump .PRT_Ln_FEC_CORR_COUNT l n s))

theorem touch_laneReport (l : Nat) (symbols : List Nat) (n : Nat) (s : State) :
    Touches [.reg .PRT_Ln_FEC_CORR_COUNT, .reg .PRT_Ln_WORST_LANE_LANE, .reg .PRT_Ln_WORST_LANE_SYMBOLS] s
      (laneReport l symbols n s) :=
  touch_setRg (by decide) (touch_setRg (by decide) (touch_bump (by decide) (touch_refl _ s)))

theorem laneSwapTrigger_of_open {l : Nat} {symbols : List Nat} {n : Nat} {s : State} (h : (s.link l).open_ = true) :
    laneSwapTrigger l symbols n s = if s.rg .PRT_X_SER_THR_SYMBOLS 0 < min (worstLane symbols).2 16777215 ∧ (s.link l).st = .up ∧
        s.rg .PRT_CTRL_AUTO_LANE_SPARE 0 = 1 ∧ laneSpareFree s l = true
      then whenSome ((s.link l).lanes.findIdx? (fun p => p == (worstLane symbols).1)) (laneSwap l) (laneReport l symbols n s)
      else laneReport l symbols n s := by
  have hrg : ∀ m i, m ∉ [RN.PRT_Ln_FEC_CORR_COUNT, .PRT_Ln_WORST_LANE_LANE, .PRT_Ln_WORST_LANE_SYMBOLS] →
      (laneReport l symbols n s).rg m i = s.rg m i := fun m i hm => (touch_laneReport l symbols n s).sameRegs (by decide) m i hm
  have hfree : laneSpareFree (laneReport l symbols n s) l = laneSpareFree s l := by
    unfold laneSpareFree
    rw [hrg _ _ (by decide)]
  unfold laneSwapTrigger
  dsimp only
  rw [if_neg (by simp [h]), ← laneReport, hrg _ _ (by decide), hrg _ _ (by decide), hfree]

theorem laneReport_rg (l : Nat) (symbols : List Nat) (n : Nat) (s : State) :
    (laneReport l symbols n s).rg .PRT_Ln_WORST_LANE_LANE l = (worstLane symbols).1 % 16 ∧
    (laneReport l symbols n s).rg .PRT_Ln_WORST_LANE_SYMBOLS l = min (worstLane symbols).2 16777215 ∧
    (laneReport l symbols n s).rg .PRT_Ln_FEC_CORR_COUNT l = min (s.rg .PRT_Ln_FEC_CORR_COUNT l + n)
      (2 ^ RN.width .PRT_Ln_FEC_CORR_COUNT - 1) % 2 ^ RN.width .PRT_Ln_FEC_CORR_COUNT := by
  have h1 : RN.width .PRT_Ln_WORST_LANE_LANE = 4 := rfl
  have h2 : RN.width .PRT_Ln_WORST_LANE_SYMBOLS = 24 := rfl
  unfold laneReport
  refine ⟨?_, ?_, ?_⟩
  · rw [setRg_rg_ne _ _ (by simp), setRg_rg_self, h1]
    rfl
  · rw [setRg_rg_self, h2]
    exact Nat.mod_eq_of_lt (by omega)
  · rw [setRg_rg_ne _ _ (by simp), setRg_rg_ne _ _ (by simp), bump_rg_self]

/-! ### Swaps -/

theorem swapBegin_link (l : Nat) (lane mine : Bool) (what : Nat) (s : State) : (swapBegin l lane mine what s).link l =
    { s.link l with
      st := .repair
      swap := some { lane := lane, what := what, since := s.clk, mine := mine, peerDone := false } } := setLink_link_self ..

theorem otherLinks_swapBegin (l : Nat) (lane mine : Bool) (what : Nat) (s : State) :
    OtherLinks l s (swapBegin l lane mine what s) := otherLinks_setLink l _ s

/-- A frame sent leaves of its link all but the sequence number and the replay buffer. -/
theorem linkTransmit_link (l ltype flags op : Nat) (body : List Byte) (s : State) :
    ∃ f, (linkTransmit l ltype flags op body s).link l =
      { s.link l with txSeq := ((s.link l).txSeq + 1) % 2 ^ 24, replay := (s.link l).replay ++ [(f, s.clk)] } := by
  refine ⟨{ lseq := (s.link l).txSeq, ltype := ltype, flags := flags, op := op, body := body }, ?_⟩
  unfold linkTransmit
  extract_lets k f
  have h : ∀ u : State, (linkEmit l f u).prt = u.prt := fun u =>
    Touches.prt (touch_linkEmit (fun _ h => h) (touch_refl _ u)) (by decide)
  rw [link_congr (h _), setLink_link_self]

theorem linkTransmit_im (l ltype flags op : Nat) (body : List Byte) (s : State) :
    (linkTransmit l ltype flags op body s).im = s.im := by
  unfold State.im
  rw [Touches.comp (touch_linkTransmit (fun _ h => h) (touch_refl _ s)) (by decide)]

theorem laneSwap_link (l i : Nat) (s : State) : ((laneSwap l i s).link l).st = .repair ∧
    ((laneSwap l i s).link l).swap = some { lane := true, what := i, since := s.clk, mine := true, peerDone := false } ∧
    ((laneSwap l i s).link l).lanes =
      (s.link l).lanes.map (fun x => if x = nth 0 (s.link l).lanes i then s.im.spareLane l else x) := by
  unfold laneSwap
  dsimp only
  obtain ⟨f, hf⟩ := linkTransmit_link l 6 0 3 (padTo 16 (leBytes 1 i ++ leBytes 1 (s.im.spareLane l))) (swapBegin l true true i s)
  rw [laneReplace_link, hf, swapBegin_link, linkTransmit_im]
  exact ⟨rfl, rfl, rfl⟩

/-- The link after an LCTRL frame has arrived in sequence. -/
theorem lctrlTaken_link (l : Nat) (s : State) : (lctrlTaken l s).link l =
    { s.link l with rxSeq := ((s.link l).rxSeq + 1) % 2 ^ 24, lastRx := s.clk } := by
  have h : (lctrlTaken l s).prt = (setLink l { s.link l with rxSeq := ((s.link l).rxSeq + 1) % 2 ^ 24, lastRx := s.clk } s).prt :=
    Touches.prt (L := [.reg .PRT_Ln_RX_LO_BYTES_LO, .reg .PRT_Ln_RX_HI_BYTES_HI, .reg .PRT_Ln_TX_LO_BYTES_LO,
      .reg .PRT_Ln_TX_HI_BYTES_HI, .sent]) (touch_linkAck (by decide) (touch_linkGot (by decide) (touch_refl _ _))) (by decide)
  rw [link_congr h, setLink_link_self]

theorem otherLinks_lctrlTaken (l : Nat) (s : State) : OtherLinks l s (lctrlTaken l s) :=
  (otherLinks_setLink l { s.link l with rxSeq := ((s.link l).rxSeq + 1) % 2 ^ 24, lastRx := s.clk } s).trans (otherLinks_of_eq
    (Touches.prt (L := [.reg .PRT_Ln_RX_LO_BYTES_LO, .reg .PRT_Ln_RX_HI_BYTES_HI, .reg .PRT_Ln_TX_LO_BYTES_LO,
      .reg .PRT_Ln_TX_HI_BYTES_HI, .sent]) (touch_linkAck (by decide) (touch_linkGot (by decide) (touch_refl _ _))) (by decide)))

/-- The register cells that a frame received and its acknowledgement change. -/
def frameParts : List StPart := [.reg .PRT_Ln_TX_LO_BYTES_LO, .reg .PRT_Ln_TX_HI_BYTES_HI, .reg .PRT_Ln_RX_LO_BYTES_LO,
  .reg .PRT_Ln_RX_HI_BYTES_HI, .sent, .prt]

theorem touch_lctrlTaken_self (l : Nat) (s : State) : Touches frameParts s (lctrlTaken l s) :=
  touch_lctrlTaken (by decide) (touch_refl _ s)

theorem lctrlTaken_im (l : Nat) (s : State) : (lctrlTaken l s).im = s.im := by
  unfold State.im
  rw [(touch_lctrlTaken_self l s).comp (by decide)]

theorem lctrlTaken_laneFree (l : Nat) (s : State) : laneSpareFree (lctrlTaken l s) l = laneSpareFree s l := by
  unfold laneSpareFree
  rw [(touch_lctrlTaken_self l s).rg (by decide)]

theorem lctrlTaken_waveFree (l : Nat) (s : State) : waveSpareFree (lctrlTaken l s) l = waveSpareFree s l := by
  unfold waveSpareFree
  rw [(touch_lctrlTaken_self l s).rg (by decide)]

theorem swapLane_of_free {l i : Nat} {s : State} (hst : (s.link l).st = .up) (hf : laneSpareFree s l = true) :
    swapLane l i s =
      laneReplace l (nth 0 ((lctrlTaken l s).link l).lanes i) (swapBegin l true false i (lctrlTaken l s)) := by
  unfold swapLane
  dsimp only
  rw [if_neg (not_not.mpr hst), lctrlTaken_laneFree, if_pos hf]

theorem swapLane_of_used {l i : Nat} {s : State} (hst : (s.link l).st = .up) (hf : laneSpareFree s l = false) :
    swapLane l i s = raise 0x0705 none [] (lctrlTaken l s) := by
  unfold swapLane
  dsimp only
  rw [if_neg (not_not.mpr hst), lctrlTaken_laneFree, if_neg (by simp [hf])]

/-- The receive lane of a logical lane remapped, as the peer asks (R368). -/
def waveMoved (l i wave : Nat) (s : State) : State :=
  let k := s.link l
  let p := nth 0 k.lanes i
  let w := nth 0 k.rxWaves p
  engineWrite l 0x20 p wave (setRg .PRT_Ln_SPARE_WAVE_REPLACED l w
    (swapBegin l false false w (setLink l { k with rxWaves := setAt k.rxWaves p wave } s)))

theorem waveMoved_link (l i wave : Nat) (s : State) : ((waveMoved l i wave s).link l).st = .repair ∧
    ((waveMoved l i wave s).link l).rxWaves = (s.link l).rxWaves.set (nth 0 (s.link l).lanes i) wave := by
  have h : (waveMoved l i wave s).link l = (swapBegin l false false (nth 0 (s.link l).rxWaves (nth 0 (s.link l).lanes i))
      (setLink l { s.link l with rxWaves := setAt (s.link l).rxWaves (nth 0 (s.link l).lanes i) wave } s)).link l := rfl
  rw [h, swapBegin_link, setLink_link_self]
  exact ⟨rfl, rfl⟩

theorem otherLinks_waveMoved (l i wave : Nat) (s : State) : OtherLinks l s (waveMoved l i wave s) :=
  (otherLinks_setLink l _ s).trans (otherLinks_swapBegin l false false (nth 0 (s.link l).rxWaves (nth 0 (s.link l).lanes i)) _)

theorem touch_waveMoved (l i wave : Nat) (s : State) :
    Touches [.reg .PRT_Ln_SPARE_WAVE_REPLACED, .sent, .prt] s (waveMoved l i wave s) :=
  touch_engineWrite (by decide) (touch_setRg (by decide) (touch_swapBegin (by decide) (touch_setLink (by decide) (touch_refl _ s))))

theorem swapWave_of_free {l i wave : Nat} {s : State} (hst : (s.link l).st = .up) (hf : waveSpareFree s l = true)
    (ho : s.im.optical l = true) : swapWave l i wave s = waveMoved l i wave (lctrlTaken l s) := by
  unfold swapWave
  dsimp only
  rw [if_neg (not_not.mpr hst), lctrlTaken_waveFree, lctrlTaken_im, if_pos ⟨hf, ho⟩]
  rfl

theorem swapWave_of_used {l i wave : Nat} {s : State} (hst : (s.link l).st = .up)
    (h : waveSpareFree s l = false ∨ s.im.optical l = false) : swapWave l i wave s = raise 0x0705 none [] (lctrlTaken l s) := by
  unfold swapWave
  dsimp only
  rw [if_neg (not_not.mpr hst), lctrlTaken_waveFree, lctrlTaken_im, if_neg (by rcases h with h | h <;> simp [h])]

theorem swapDone_of_mine {l : Nat} {w : Swap} {s : State} (hst : (s.link l).st = .repair) (hw : (s.link l).swap = some w)
    (hm : w.mine = true) : swapDone l s =
      setLink l { (lctrlTaken l s).link l with swap := some { w with peerDone := true } } (lctrlTaken l s) := by
  unfold swapDone
  dsimp only
  rw [hw]
  exact if_pos ⟨hst, hm⟩

theorem repairDone_of_bad {l : Nat} {w : Swap} {ok : Bool} {s : State} (hst : (s.link l).st = .repair)
    (hw : (s.link l).swap = some w) (h : ok = false ∨ w.since + (if w.lane then 20000 else 3000000) < s.clk) :
    repairDone l ok s = linkDown l 5 s := by
  unfold repairDone
  dsimp only
  rw [hw]
  dsimp only
  rw [if_neg (not_not.mpr hst)]
  exact if_pos h

theorem repairDone_of_good {l : Nat} {w : Swap} {s : State} (hst : (s.link l).st = .repair) (hw : (s.link l).swap = some w)
    (h : s.clk ≤ w.since + (if w.lane then 20000 else 3000000)) :
    repairDone l true s = if w.mine = true ∧ w.peerDone = false then s else swapEnd l w s := by
  have hb : ¬ (true = false ∨ w.since + w.bound < s.clk) := not_or.mpr ⟨by decide, Nat.not_lt.mpr h⟩
  unfold repairDone
  dsimp only
  rw [hw]
  dsimp only
  rw [if_neg (not_not.mpr hst), if_neg hb]

/-! ### Outputs -/

theorem countHeld_st (l : Nat) (s : State) : ((countHeld l s).link l).st = (s.link l).st := by
  unfold countHeld
  extract_lets k fresh k'
  have h : (forEach fresh (fun p s => bump .TRF_C_HELD_COUNT (H.car p.body) 1 s) (setLink l k' s)).link l = k' :=
    (link_congr (Touches.prt (L := [.reg .TRF_C_HELD_COUNT]) (touch_forEach (touch_refl _ _) (fun _ _ h => touch_bump (by decide) h))
      (by decide)) l).trans (setLink_link_self ..)
  rw [h]

theorem egress_of_closed {l : Nat} {s : State} (h : (s.link l).st ≠ .up) : egress l s = countHeld l s := by
  unfold egress
  exact if_neg (by rwa [countHeld_st])

theorem egress_of_none {l : Nat} {s : State} (h : pickNext (countHeld l s) l = none) : egress l s = countHeld l s := by
  unfold egress
  dsimp only
  rw [h]
  split <;> rfl

theorem countHeld_of_empty {l : Nat} {s : State} (h : (s.link l).outq = []) : countHeld l s = setLink l (s.link l) s := by
  have hk : { s.link l with outq := [] } = s.link l := by rw [← h]
  unfold countHeld
  dsimp only
  rw [h, List.map_nil, hk]
  rfl

theorem pickClass_of_empty {l k : Nat} {s : State} (h : (s.link l).outq = []) : pickClass s l k = none := by
  unfold pickClass
  dsimp only
  rw [h]
  rfl

theorem pickNext_of_empty {l : Nat} {s : State} (h : (s.link l).outq = []) : pickNext s l = none := by
  unfold pickNext
  dsimp only
  rw [List.findSome?_eq_none_iff]
  exact fun k _ => pickClass_of_empty h

theorem egress_of_empty {l : Nat} {s : State} (h : (s.link l).outq = []) : egress l s = setLink l (s.link l) s := by
  have hc := countHeld_of_empty h
  rw [egress_of_none, hc]
  rw [hc]
  exact pickNext_of_empty (by rwa [setLink_link_self])

/-- The link as a swap ends on it (R368). -/
def linkMended (l : Nat) (s : State) : Link :=
  { s.link l with
    st := .up
    swap := none
    lastRx := s.clk }

/-- A swap that the node began ends on a link with nothing to replay and nothing to send: only its record changes. -/
theorem swapEnd_of_idle {l : Nat} {w : Swap} {s : State} (hm : w.mine = true) (hr : (s.link l).replay = []) (hq : (s.link l).outq = []) :
    (swapEnd l w s).link l = linkMended l s ∧ OtherLinks l s (swapEnd l w s) ∧ (swapEnd l w s).mem = s.mem := by
  unfold swapEnd
  extract_lets src t u
  have htl : t.link l = linkMended l s := setLink_link_self ..
  have hu : u = t := by
    have h : (t.link l).replay = [] := by rw [htl]; exact hr
    simp only [u]
    rw [h]
  rw [hu, hm]
  have hv : Touches (evrParts ++ [.reg .BIST_LEVEL_LEVELS]) t (levelCheck (linkLevel t l)
      (raise (if w.lane then 0x0703 else 0x0704) none [(1, l), (1, w.what)] t)) :=
    touch_levelCheck (by decide) (touch_raise (by decide) (touch_refl _ t))
  have hvl := (link_congr (hv.prt (by decide)) l).trans htl
  have ho : OtherLinks l s t := otherLinks_setLink l _ s
  have ht : t.mem = s.mem := rfl
  rw [Bool.not_true, when_false, egress_of_empty (by rw [hvl]; exact hq)]
  exact ⟨(setLink_link_self ..).trans hvl, (ho.trans (otherLinks_of_eq (hv.prt (by decide)))).trans (otherLinks_setLink l _ _),
    (hv.mem (by decide)).trans ht⟩

end Sys2Proof.Machine

namespace Sys2Proof.Proofs

open Sys2Proof Sys2Proof.Machine

/-- Settles O31: a swap is the link's record changed by `swapBegin` after what the frame itself leaves. -/
theorem lanesAndWavesAreSpared : Obligations.LanesAndWavesAreSpared := by
  unfold Obligations.LanesAndWavesAreSpared
  refine ⟨fun l symbols n s hl ho => ⟨laneReport l.val symbols n.toNat s, ?_⟩, fun l i s ho => ?_,
    fun l i s hl hst => ⟨fun hf => ⟨_, done_live hl, ?_⟩, fun hf => (done_live hl).trans (congrArg _ (swapLane_of_used hst hf))⟩,
    fun l i wave s hl hst => ⟨fun hf ho => ⟨_, done_live hl, ?_⟩,
      fun h => (done_live hl).trans (congrArg _ (swapWave_of_used hst h))⟩,
    fun l w s hl hst hw => ⟨fun hm => ⟨_, done_live hl, ?_⟩,
      fun ok h => (done_live hl).trans (congrArg _ (repairDone_of_bad hst hw h)),
      fun h => (done_live hl).trans (congrArg _ (repairDone_of_good hst hw h))⟩,
    fun l w s hm hr hq => ?_, fun p l s hl hr he hst => ⟨fun hi => ?_, fun ho hw => ?_⟩, fun p l s hl hr he => ?_,
    fun l s h => egress_of_closed (by rw [h]; decide)⟩
  case refine_1 =>
    have h := touch_laneReport l.val symbols n.toNat s
    obtain ⟨h1, h2, h3⟩ := laneReport_rg l.val symbols n.toNat s
    refine ⟨h1, h2, h.prt (by decide), h.evr (by decide), h3, h.sameRegs (by decide), h.sameMem (by decide), fun hn => ?_,
      fun ha hb hc hd => ?_⟩
    · refine (done_live hl).trans (congrArg _ ((laneSwapTrigger_of_open ho).trans (if_neg ?_)))
      rintro ⟨k1, k2, k3, k4⟩
      rcases hn with hn | hn | hn | hn
      · omega
      · exact hn k2
      · omega
      · rw [hn] at k4; exact Bool.false_ne_true k4
    · exact (done_live hl).trans (congrArg _ ((laneSwapTrigger_of_open ho).trans (if_pos ⟨ha, hb, hc, hd⟩)))
  case refine_2 =>
    intro t
    obtain ⟨h1, h2, h3⟩ := laneSwap_link l i s
    have h := touch_laneSwap (a0 := l) (a1 := i) (fun _ h => h) (touch_refl _ s)
    refine ⟨h1, h2, h3, ?_, h.sameRegs (by decide), h.mem (by decide), h.evr (by decide)⟩
    exact setRg_rg_self ..
  case refine_3 =>
    rw [swapLane_of_free hst hf]
    have h : Touches (.reg .PRT_Ln_SPARE_LANE_REPLACED :: frameParts) s (laneReplace l.val
        (nth 0 ((lctrlTaken l.val s).link l.val).lanes i.val) (swapBegin l.val true false i.val (lctrlTaken l.val s))) :=
      touch_laneReplace (by decide) (touch_swapBegin (by decide) ((touch_lctrlTaken_self l.val s).mono (by decide)))
    have him : (swapBegin l.val true false i.val (lctrlTaken l.val s)).im = s.im := lctrlTaken_im l.val s
    refine ⟨?_, ?_, ?_, h.sameRegs (by decide),
      ((otherLinks_lctrlTaken l.val s).trans (otherLinks_swapBegin l.val true false i.val _)).trans (otherLinks_laneReplace l.val _ _),
      h.sameMem (by decide)⟩
    all_goals rw [laneReplace_link, swapBegin_link, lctrlTaken_link]
    rw [him]
  case refine_4 =>
    rw [swapWave_of_free hst hf ho]
    have h : Touches (.reg .PRT_Ln_SPARE_WAVE_REPLACED :: frameParts) s (waveMoved l.val i.val wave.val (lctrlTaken l.val s)) :=
      ((touch_lctrlTaken_self l.val s).mono (by decide)).trans ((touch_waveMoved l.val i.val wave.val _).mono (by decide))
    obtain ⟨h1, h2⟩ := waveMoved_link l.val i.val wave.val (lctrlTaken l.val s)
    refine ⟨h1, ?_, h.sameRegs (by decide), (otherLinks_lctrlTaken l.val s).trans (otherLinks_waveMoved l.val _ _ _),
      h.sameMem (by decide)⟩
    rw [h2, lctrlTaken_link]
  case refine_5 =>
    have h := touch_swapDone (a0 := l.val) (fun _ h => h) (touch_refl _ s)
    have he := swapDone_of_mine hst hw hm
    refine ⟨?_, ?_, ?_, h.sameRegs (by decide), h.sameMem (by decide)⟩
    all_goals rw [he]
    · rw [setLink_link_self]
    · rw [setLink_link_self, lctrlTaken_link]
      exact hst
    · exact (otherLinks_lctrlTaken l.val s).trans (otherLinks_setLink l.val _ _)
  case refine_6 =>
    intro t
    obtain ⟨h1, h2, h3⟩ := swapEnd_of_idle hm hr hq
    have ht : t.link l = linkMended l s := h1
    exact ⟨by rw [ht]; rfl, by rw [ht]; rfl, h2, h3⟩
  case refine_7 =>
    refine (done_live_access hl hr).trans (congrArg _ ?_)
    unfold forceLane expertDo
    rw [if_pos he]
    exact if_neg (not_or.mpr ⟨not_not.mpr hst, Nat.not_le.mpr hi⟩)
  case refine_8 =>
    refine (done_live_access hl hr).trans (congrArg _ ?_)
    unfold forceWave expertDo
    rw [if_pos he]
    exact if_neg (by simp [hst, ho, hw])
  case refine_9 =>
    refine (done_live_access hl hr).trans (congrArg _ ?_)
    unfold forceLane expertDo
    exact if_neg (by simp [he])

end Sys2Proof.Proofs
end

section
/-! PROOF. Fabric frames: sequence, credits and routing (R370 to R373, R379 to R382, R409, R420 to R422). -/

namespace Sys2Proof.Machine

open Sys2Proof

/-! ### What each operation reaches -/

section
variable {L : List StPart} {r s : State}

theorem touch_setDctx {a0 a1 a2 : _} (hL : [.dep] ⊆ L) (ha2 : Touches L r a2) :
    Touches L r (setDctx a0 a1 a2) := by
  unfold setDctx
  exact touch_onDep (sub_trans hL (by decide)) ha2

theorem touch_dropInput {a0 a1 a2 : _} (hL : [.dep] ⊆ L) (ha2 : Touches L r a2) :
    Touches L r (dropInput a0 a1 a2) := by
  unfold dropInput
  exact touch_whenSome ha2 (fun _ _ h0 => touch_when h0 (fun _ h1 => touch_setDctx (sub_trans hL (by decide)) h1))

theorem touch_countRetired {a0 : _} (hL : [.reg .MEM_RETIRED_FRAMES] ⊆ L) (ha0 : Touches L r a0) :
    Touches L r (countRetired a0) := by
  unfold countRetired
  exact touch_setRg (sub_trans hL (by decide)) ha0

theorem touch_retireIfBad {a0 a1 : _} (hL : evrParts ++ [.seq, .reg .MEM_RETIRED_FRAMES] ⊆ L) (ha1 : Touches L r a1) :
    Touches L r (retireIfBad a0 a1) := by
  unfold retireIfBad
  extract_lets -merge +onlyGivenNames y0 x1 y2
  have hx1 : Touches L r x1 := touch_onSeq (sub_trans hL (by decide)) ha1
  exact touch_ite (fun _ => ha1) (fun _ => touch_ite (fun _ => touch_raise (sub_trans hL (by decide)) hx1) (fun _ => touch_raise (sub_trans hL (by decide)) (touch_countRetired (sub_trans hL (by decide)) (touch_onSeq (sub_trans hL (by decide)) hx1))))

theorem touch_freeLoc {a0 a1 : _} (hL : evrParts ++ [.seq, .reg .MEM_RETIRED_FRAMES] ⊆ L) (ha1 : Touches L r a1) :
    Touches L r (freeLoc a0 a1) := by
  unfold freeLoc
  split
  · exact touch_retireIfBad (sub_trans hL (by decide)) (touch_onSeq (sub_trans hL (by decide)) ha1)
  · exact touch_retireIfBad (sub_trans hL (by decide)) (touch_onSeq (sub_trans hL (by decide)) ha1)
  · exact ha1

theorem touch_dropWalker {a0 a1 : _} (hL : evrParts ++ [.seq, .reg .MEM_RETIRED_FRAMES] ⊆ L) (ha1 : Touches L r a1) :
    Touches L r (dropWalker a0 a1) := by
  unfold dropWalker
  extract_lets -merge +onlyGivenNames y0
  exact touch_forEach (touch_onSeq (sub_trans hL (by decide)) ha1) (fun _ _ h1 => touch_freeLoc (sub_trans hL (by decide)) h1)

theorem touch_freeUse {a0 a1 : _} (hL : evrParts ++ [.seq, .reg .MEM_RETIRED_FRAMES] ⊆ L) (ha1 : Touches L r a1) :
    Touches L r (freeUse a0 a1) := by
  unfold freeUse
  exact touch_forEach ha1 (fun _ _ h0 => touch_freeLoc (sub_trans hL (by decide)) h0)

theorem touch_dropWeight {a0 a1 : _} (hL : evrParts ++ [.seq, .reg .MEM_RETIRED_FRAMES] ⊆ L) (ha1 : Touches L r a1) :
    Touches L r (dropWeight a0 a1) := by
  unfold dropWeight
  exact touch_freeUse (sub_trans hL (by decide)) (touch_onSeq (sub_trans hL (by decide)) ha1)

theorem touch_weightFree {a0 a1 a2 : _} (hL : evrParts ++ [.seq, .reg .MEM_RETIRED_FRAMES, .reg .RAS_C_ABORTED_COUNT, .reg .CMP_STALE_CNT_COUNT, .comp, .que, .reg .QUE_CQE_DROP, .onz, .sent] ⊆ L) (ha2 : Touches L r a2) :
    Touches L r (weightFree a0 a1 a2) := by
  unfold weightFree
  extract_lets -merge +onlyGivenNames y0 y1 y2
  exact touch_ite (fun _ => touch_complete (sub_trans hL (by decide)) (touch_forEach (touch_onSeq (sub_trans hL (by decide)) ha2) (fun _ _ h3 => touch_dropWeight (sub_trans hL (by decide)) h3))) (fun _ => touch_onSeq (sub_trans hL (by decide)) ha2)

theorem touch_sweepWeights {a0 : _} (hL : evrParts ++ [.seq, .reg .MEM_RETIRED_FRAMES] ⊆ L) (ha0 : Touches L r a0) :
    Touches L r (sweepWeights a0) := by
  unfold sweepWeights
  exact touch_forEach ha0 (fun _ _ h0 => touch_dropWeight (sub_trans hL (by decide)) h0)

theorem touch_releaseWeights {a0 a1 : _} (hL : evrParts ++ [.reg .RAS_C_ABORTED_COUNT, .seq, .reg .CMP_STALE_CNT_COUNT, .comp, .que, .reg .QUE_CQE_DROP, .onz, .sent, .reg .MEM_RETIRED_FRAMES] ⊆ L) (ha1 : Touches L r a1) :
    Touches L r (releaseWeights a0 a1) := by
  unfold releaseWeights
  extract_lets -merge +onlyGivenNames x0
  have hx0 : Touches L r x0 := touch_onSeq (sub_trans hL (by decide)) ha1
  exact touch_forEach (touch_sweepWeights (sub_trans hL (by decide)) hx0) (fun _ _ h1 => touch_withCmd (sub_trans hL (by decide)) (fun _ _ h2 => touch_weightFree (sub_trans hL (by decide)) h2) h1)

theorem touch_dropCoach {a0 a1 : _} (hL : evrParts ++ [.fox, .seq, .reg .MEM_RETIRED_FRAMES, .reg .RAS_C_ABORTED_COUNT, .reg .CMP_STALE_CNT_COUNT, .comp, .que, .reg .QUE_CQE_DROP, .onz, .sent] ⊆ L) (ha1 : Touches L r a1) :
    Touches L r (dropCoach a0 a1) := by
  unfold dropCoach
  exact touch_releaseWeights (sub_trans hL (by decide)) (touch_dropWalker (sub_trans hL (by decide)) (touch_onFox (sub_trans hL (by decide)) ha1))

theorem touch_dropWaitingCoach {a0 a1 : _} (hL : evrParts ++ [.fox, .seq, .reg .MEM_RETIRED_FRAMES, .reg .RAS_C_ABORTED_COUNT, .reg .CMP_STALE_CNT_COUNT, .comp, .que, .reg .QUE_CQE_DROP, .onz, .sent] ⊆ L) (ha1 : Touches L r a1) :
    Touches L r (dropWaitingCoach a0 a1) := by
  unfold dropWaitingCoach
  exact touch_ite (fun _ => touch_dropCoach (sub_trans hL (by decide)) ha1) (fun _ => ha1)

end

/-! ### Frames sent -/

theorem linkEmit_link (l : Nat) (f : LFrame) (s : State) (m : Nat) : (linkEmit l f s).link m = s.link m :=
  link_congr (Touches.prt (touch_linkEmit (fun _ h => h) (touch_refl _ s)) (by decide)) m

theorem forEach_linkEmit_sent {α : Type} (l : Nat) (g : α → LFrame) (xs : List α) (s : State) :
    (forEach xs (fun e => linkEmit l (g e)) s).sent = (xs.map (fun e => Sent.link l (g e))).reverse ++ s.sent := by
  induction xs generalizing s with
  | nil => rfl
  | cons x xs ih =>
    rw [forEach_cons, ih]
    simp [show (linkEmit l (g x) s).sent = .link l (g x) :: s.sent from rfl]

theorem touch_resent (l seq : Nat) (s : State) :
    Touches [.reg .PRT_Ln_REPLAY_COUNT, .reg .PRT_Ln_TX_LO_BYTES_LO, .reg .PRT_Ln_TX_HI_BYTES_HI, .sent, .prt, .time] s
      (linkReplayFrom l seq s) := touch_linkReplayFrom (fun _ h => h) (touch_refl _ s)

/-- A replay changes of its link the replay buffer alone. -/
theorem linkReplayFrom_link (l seq : Nat) (s : State) :
    ∃ q, (linkReplayFrom l seq s).link l = { s.link l with replay := q } := by
  refine ⟨?q, ?_⟩
  case q => exact (s.link l).replay.map (fun e =>
    if seqLe 24 seq e.1.lseq then ({ e.1 with flags := Nat.lor e.1.flags 4 }, s.clk) else e)
  unfold linkReplayFrom
  extract_lets k again mark timed t t2
  have ht : t.link l = { k with replay := k.replay.map mark } := by
    have h : Touches [.reg .PRT_Ln_REPLAY_COUNT, .reg .PRT_Ln_TX_LO_BYTES_LO, .reg .PRT_Ln_TX_HI_BYTES_HI, .sent]
        (setLink l { k with replay := k.replay.map mark } s) t :=
      touch_when (touch_forEach (touch_refl _ _) (fun _ _ h => touch_linkEmit (by decide) h)) (fun _ h => touch_bump (by decide) h)
    rw [link_congr (h.prt (by decide)), setLink_link_self]
  have h : Touches [.time] t (when (!timed.isEmpty) (setLinkTime l { t2 with sent := t2.sent.filter (fun e => decide (e.1 ∉ timed)) }) t) :=
    touch_when (touch_refl _ _) (fun _ h => touch_setLinkTime (by decide) h)
  rw [link_congr (h.prt (by decide)), ht]

theorem linkReplayFrom_sent (l seq : Nat) (s : State) : (linkReplayFrom l seq s).sent =
    (((s.link l).replay.filter (fun e => seqLe 24 seq e.1.lseq)).map
      (fun e => Sent.link l { e.1 with flags := Nat.lor e.1.flags 4 })).reverse ++ s.sent := by
  unfold linkReplayFrom
  extract_lets k again mark timed t t2
  have h : Touches [.time, .reg .PRT_Ln_REPLAY_COUNT] (forEach again (fun e => linkEmit l { e.1 with flags := Nat.lor e.1.flags 4 })
      (setLink l { k with replay := k.replay.map mark } s))
      (when (!timed.isEmpty) (setLinkTime l { t2 with sent := t2.sent.filter (fun e => decide (e.1 ∉ timed)) }) t) :=
    touch_when (touch_when (touch_refl _ _) (fun _ h => touch_bump (by decide) h)) (fun _ h => touch_setLinkTime (by decide) h)
  rw [h.sent (by decide)]
  exact forEach_linkEmit_sent l (fun e : LFrame × Nat => { e.1 with flags := Nat.lor e.1.flags 4 }) again _

theorem linkReplay_of_few {l seq : Nat} {s : State} (hst : (s.link l).st = .up) (hn : (s.link l).replays + 1 < 8) :
    linkReplay l seq s = setLink l { (linkReplayFrom l seq s).link l with replays := (s.link l).replays + 1 } (linkReplayFrom l seq s) := by
  unfold linkReplay
  rw [if_neg (not_not_intro hst), if_neg (by omega)]

theorem linkReplay_of_eighth {l seq : Nat} {s : State} (hst : (s.link l).st = .up) (hn : 8 ≤ (s.link l).replays + 1) :
    linkReplay l seq s = linkDown l 2
      (setLink l { (linkReplayFrom l seq s).link l with replays := (s.link l).replays + 1 } (linkReplayFrom l seq s)) := by
  unfold linkReplay
  rw [if_neg (not_not_intro hst), if_pos hn]

/-! ### Acknowledgements -/

theorem linkAckUpTo_link (l seq : Nat) (s : State) : ((linkAckUpTo l seq s).link l).st = (s.link l).st ∧
    ∀ e, e ∈ ((linkAckUpTo l seq s).link l).replay ↔ e ∈ (s.link l).replay ∧ seqLe 24 e.1.lseq seq = false := by
  simp [linkAckUpTo]

theorem otherLinks_linkAckUpTo (l seq : Nat) (s : State) : OtherLinks l s (linkAckUpTo l seq s) := fun _ hm => setLink_link_ne _ s hm

theorem linkGot_slotIm (l n : Nat) (s : State) : (linkGot l n s).slotIm = s.slotIm := by
  have h : Touches [.reg .PRT_Ln_RX_LO_BYTES_LO, .reg .PRT_Ln_RX_HI_BYTES_HI] s (linkGot l n s) :=
    touch_linkGot (fun _ h => h) (touch_refl _ s)
  unfold State.slotIm State.oldIm State.im
  rw [h.rg (by decide), h.comp (by decide)]

/-! ### Errors -/

theorem linkFrameError_of_open {l : Nat} {cause : FrameError} {s : State} (h : (s.link l).open_ = true) :
    linkFrameError l cause s = linkNak l (s.link l).rxSeq (when (cause == .fec) (bump .PRT_Ln_FEC_UNCORR_COUNT l 1)
      (when (cause == .crc) (bump .PRT_Ln_CRC_COUNT l 1) (setLink l { s.link l with lastRx := s.clk } s))) := by
  unfold linkFrameError
  extract_lets k
  exact if_neg (by rw [h]; decide)

/-- Whatever the error, the LNAK names the last frame that arrived in order. -/
theorem linkFrameError_after {l : Nat} {cause : FrameError} {s : State} (h : (s.link l).open_ = true) :
    ((linkFrameError l cause s).link l).rxSeq = (s.link l).rxSeq ∧ (linkFrameError l cause s).sent =
      .link l { ltype := 3, ack := some (((s.link l).rxSeq + 2 ^ 24 - 1) % 2 ^ 24) } :: s.sent := by
  rw [linkFrameError_of_open h]
  generalize hu : when (cause == FrameError.fec) (bump .PRT_Ln_FEC_UNCORR_COUNT l 1)
      (when (cause == FrameError.crc) (bump .PRT_Ln_CRC_COUNT l 1) (setLink l { s.link l with lastRx := s.clk } s)) = u
  have ht : Touches [.reg .PRT_Ln_CRC_COUNT, .reg .PRT_Ln_FEC_UNCORR_COUNT] (setLink l { s.link l with lastRx := s.clk } s) u := by
    rw [← hu]
    exact touch_when (touch_when (touch_refl _ _) (fun _ h => touch_bump (by decide) h)) (fun _ h => touch_bump (by decide) h)
  constructor
  · rw [show (linkNak l (s.link l).rxSeq u).link l = u.link l from linkEmit_link l _ u l, link_congr (ht.prt (by decide)), setLink_link_self]
  · exact congrArg (_ :: ·) (ht.sent (by decide))

theorem linkFrameError_crc {l : Nat} {cause : FrameError} {s : State} (h : (s.link l).open_ = true) :
    (linkFrameError l cause s).rg .PRT_Ln_CRC_COUNT l = if cause = .crc
      then min (s.rg .PRT_Ln_CRC_COUNT l + 1) (2 ^ RN.width .PRT_Ln_CRC_COUNT - 1) % 2 ^ RN.width .PRT_Ln_CRC_COUNT
      else s.rg .PRT_Ln_CRC_COUNT l := by
  rw [linkFrameError_of_open h]
  have ht (u : State) : Touches [.reg .PRT_Ln_FEC_UNCORR_COUNT, .reg .PRT_Ln_TX_LO_BYTES_LO, .reg .PRT_Ln_TX_HI_BYTES_HI, .sent] u
      (linkNak l (s.link l).rxSeq (when (cause == .fec) (bump .PRT_Ln_FEC_UNCORR_COUNT l 1) u)) :=
    touch_linkNak (by decide) (touch_when (touch_refl _ u) (fun _ h => touch_bump (by decide) h))
  rw [(ht _).rg (by decide)]
  cases cause <;> simp [when, bump_rg_self]

/-! ### Frames in sequence -/

theorem lframe_wire_length {f : LFrame} (ht : f.ltype = 1) (hb : 104 ≤ f.body.length) : f.wire.length = 24 + f.flen := by
  have hflen : f.flen = 104 + ceilDiv (f.body.length - 104) 8 * 8 := if_pos ht
  have hin : f.inner = padTo f.flen f.body := if_pos ht
  have hle : f.body.length ≤ f.flen := by rw [hflen]; unfold ceilDiv; omega
  simp only [LFrame.wire, LFrame.header, hin, padTo, List.length_append, length_leBytes, List.length_take, length_zeros]
  omega

/-! ### Uncorrectable words -/

/-- A message that is dropped leaves no receive entry. -/
theorem dropMessage_rx (key : Nat × Nat) (s : State) : look key (dropMessage key s).prt.rx = none := by
  unfold dropMessage
  cases h : look key s.prt.rx with
  | none => exact h
  | some e =>
    dsimp only
    generalize dropPaging key (undefineWrites key e s) = u
    have ht : Touches (evrParts ++ [.dep, .seq, .reg .MEM_RETIRED_FRAMES, .reg .RAS_C_ABORTED_COUNT, .reg .CMP_STALE_CNT_COUNT, .comp,
        .que, .reg .QUE_CQE_DROP, .onz, .sent, .fox]) (rxFree key u) (when (H.mtype e.hdr == MTy.attnReq) (whenSome e.coach dropWaitingCoach)
          (whenSome e.slotName (fun x => dropInput x.1 x.2) (rxFree key u))) :=
      touch_when (touch_whenSome (touch_refl _ _) (fun _ _ h => touch_dropInput (by decide) h))
        (fun _ h => touch_whenSome h (fun _ _ h => touch_dropWaitingCoach (by decide) h))
    exact (congrArg (fun x => look key x.rx) (ht.prt (by decide))).trans (look_del_self ..)

/-! ### The output -/

theorem egress_of_up {l : Nat} {s : State} (h : (s.link l).st = .up) : egress l s = match pickNext (countHeld l s) l with
    | some p => startPacket l p (countHeld l s)
    | none => countHeld l s := by
  unfold egress
  exact if_pos ((countHeld_st l s).trans h)

theorem pickClass_some {l k : Nat} {p : OutPkt} {s : State} (h : pickClass s l k = some p) :
    p ∈ (s.link l).outq ∧ mayStart s l p = true := by
  obtain ⟨i, -, hi⟩ := List.mem_filterMap.mp (List.mem_of_head? h)
  obtain ⟨x, hx, hm⟩ := Option.bind_eq_some_iff.mp hi
  split at hm
  · next hs => cases hm; exact ⟨List.mem_of_find?_eq_some hx, hs⟩
  · cases hm

theorem pickNext_some {l : Nat} {p : OutPkt} {s : State} (h : pickNext s l = some p) :
    p ∈ (s.link l).outq ∧ mayStart s l p = true := by
  obtain ⟨k, -, hk⟩ := List.exists_of_findSome?_eq_some h
  exact pickClass_some hk

theorem mayStart_iff {l : Nat} {p : OutPkt} {s : State} : mayStart s l p = true ↔ hasCredit s l p = true ∧ shaperPasses s l p = true ∧
    slotAllows s l p = true ∧ (s.link l).replayUse + frameLen p.body + 1024 ≤ 1048576 := by
  simp [mayStart, replayFits, and_assoc]

theorem pickNext_of_control {l : Nat} {p : OutPkt} {s : State} (h : pickClass s l 0 = some p) : pickNext s l = some p := by
  unfold pickNext
  dsimp only
  split <;> exact by rw [List.findSome?_cons, h]

/-- The link of a packet without a hold, as the packet leaves its queue. -/
def linkStarted (l : Nat) (p : OutPkt) (s : State) : Link :=
  let k := { s.link l with
    outq := dropFirst p (s.link l).outq
    rr := put p.cls (H.car p.body) (s.link l).rr
    credits := put p.cls (lookD p.cls 0 (s.link l).credits - linkCost p.body) (s.link l).credits }
  if p.cls = 2 ∨ p.cls = 3 then { k with rr := put 4 ((lookD 4 0 k.rr + 1) % (s.wrr.1 + s.wrr.2)) k.rr } else k

theorem startPacket_of_own {l : Nat} {p : OutPkt} {s : State} (hf : p.from_ = none) (hh : usesHold s l p = false) :
    startPacket l p s = captureDeparture l p.body (linkTransmit l 1 p.cls 0 p.body (shaperTake l p (setLink l (linkStarted l p s) s))) := by
  simp only [startPacket, linkStarted, hf, hh, arrivalLeft, Bool.false_eq_true, if_false]

theorem linkTransmit_sent (l ltype flags op : Nat) (body : List Byte) (s : State) : (linkTransmit l ltype flags op body s).sent =
    .link l { lseq := (s.link l).txSeq, ltype := ltype, flags := flags, op := op, body := body } :: s.sent := rfl

theorem linkStarted_facts (l : Nat) (p : OutPkt) (s : State) :
    lookD p.cls 0 (linkStarted l p s).credits = lookD p.cls 0 (s.link l).credits - linkCost p.body ∧
    (linkStarted l p s).outq = dropFirst p (s.link l).outq ∧ (linkStarted l p s).txSeq = (s.link l).txSeq := by
  unfold linkStarted
  extract_lets src k
  have hk : lookD p.cls 0 k.credits = lookD p.cls 0 (s.link l).credits - linkCost p.body :=
    lookD_put_self p.cls 0 (lookD p.cls 0 (s.link l).credits - linkCost p.body) (s.link l).credits
  split
  · exact ⟨hk, rfl, rfl⟩
  · exact ⟨hk, rfl, rfl⟩

theorem startPacket_link {l : Nat} {p : OutPkt} {s : State} (hf : p.from_ = none) (hh : usesHold s l p = false) :
    ∃ q, (startPacket l p s).link l =
      { linkStarted l p s with txSeq := ((s.link l).txSeq + 1) % 2 ^ 24, replay := (s.link l).replay ++ [q] } := by
  have ht : Touches [.trf] (setLink l (linkStarted l p s) s) (shaperTake l p (setLink l (linkStarted l p s) s)) :=
    touch_shaperTake (fun _ h => h) (touch_refl _ _)
  have hc (u : State) : Touches [.time, .freeCtr] u (captureDeparture l p.body u) := touch_captureDeparture (fun _ h => h) (touch_refl _ u)
  have hk : (shaperTake l p (setLink l (linkStarted l p s) s)).link l = linkStarted l p s :=
    (link_congr (ht.prt (by decide)) l).trans (setLink_link_self ..)
  obtain ⟨q, hq⟩ := linkTransmit_link l 1 p.cls 0 p.body (shaperTake l p (setLink l (linkStarted l p s) s))
  refine ⟨(q, (shaperTake l p (setLink l (linkStarted l p s) s)).clk), ?_⟩
  have hr : (linkStarted l p s).replay = (s.link l).replay := by unfold linkStarted; split <;> rfl
  rw [startPacket_of_own hf hh, link_congr ((hc _).prt (by decide)), hq, hk, (linkStarted_facts l p s).2.2, hr]

theorem startPacket_sent {l : Nat} {p : OutPkt} {s : State} (hf : p.from_ = none) (hh : usesHold s l p = false) :
    (startPacket l p s).sent =
      .link l { lseq := (s.link l).txSeq, ltype := 1, flags := p.cls, op := 0, body := p.body } :: s.sent := by
  have ht : Touches [.trf] (setLink l (linkStarted l p s) s) (shaperTake l p (setLink l (linkStarted l p s) s)) :=
    touch_shaperTake (fun _ h => h) (touch_refl _ _)
  have hc (u : State) : Touches [.time, .freeCtr] u (captureDeparture l p.body u) := touch_captureDeparture (fun _ h => h) (touch_refl _ u)
  rw [startPacket_of_own hf hh, (hc _).sent (by decide), linkTransmit_sent, link_congr (ht.prt (by decide)), setLink_link_self,
    (linkStarted_facts l p s).2.2, ht.sent (by decide), setLink_sent]

end Sys2Proof.Machine

namespace Sys2Proof.Proofs

open Sys2Proof Sys2Proof.Machine

/-- Settles O32: an update of one link leaves the other links, and a frame sent is the newest thing sent; the output's choice is
always a packet that may start. -/
theorem linkFramesAreSequencedAndRouted : Obligations.LinkFramesAreSequencedAndRouted := by
  unfold Obligations.LinkFramesAreSequencedAndRouted
  refine ⟨fun l seq s hl ho => ⟨_, done_live hl, ?lack⟩, fun l seq s hl ho => (done_live hl).trans (congrArg _ ?lnak),
    fun l e r s hl hr => (done_live hl).trans (congrArg _ ?timeout), fun l seq s hst hn => ?few,
    fun l seq s hst hn => ⟨_, linkReplay_of_eighth hst hn, ?eighth⟩, fun l k n s hl ho => (done_live hl).trans (congrArg _ ?lcredit),
    fun iso k n x => lookD_put_self .., fun iso k n c x => ⟨lookD_put_self .., lookD_put_self ..⟩,
    fun l cause s hl ho => ⟨_, done_live hl, ?error⟩, fun l lseq ack credit bad b s hl => (done_live hl).trans (congrArg _ ?data),
    fun l a k n s => ⟨rfl, rfl, rfl⟩, fun l lseq b s => ⟨fun h => ?next_, fun h h' => ?again, fun h h' => ?gap⟩,
    fun l seq s => ⟨rfl, ?ackRegs, ?ackPrt⟩, fun f ht hb => ⟨?flen, lframe_wire_length ht hb⟩, fun l lseq e s => ?replayWord,
    fun src op s => dropMessage_rx _ s, fun a b s => rfl, fun a b s h => ?mcast, fun l s hl => done_live hl,
    fun l s => ⟨egress_of_closed, egress_of_up⟩, fun l p s h => ?pick, fun l p s h => pickNext_of_control h,
    fun l p s hf hh => ?start⟩
  case lack =>
    have hu : lack l.val seq.toNat s = linkAckUpTo l.val seq.toNat (linkGot l.val 24 s) := if_pos ho
    obtain ⟨hst, hrep⟩ := linkAckUpTo_link l.val seq.toNat (linkGot l.val 24 s)
    rw [hu]
    exact ⟨hrep, hst, otherLinks_linkAckUpTo l.val seq.toNat _, rfl,
      Touches.sameRegs (touch_linkAckUpTo (L := [.prt, .reg .PRT_Ln_RX_LO_BYTES_LO, .reg .PRT_Ln_RX_HI_BYTES_HI]) (by decide)
        (touch_linkGot (by decide) (touch_refl _ s))) (by decide), fun _ => rfl⟩
  case lnak => exact if_neg (by rw [ho]; decide)
  case timeout => unfold linkReplayTimeout; rw [hr]
  case few =>
    dsimp only
    obtain ⟨q, hq⟩ := linkReplayFrom_link l seq s
    have ht := touch_resent l seq s
    rw [linkReplay_of_few hst hn]
    simp only [setLink_link_self, setLink_sent, setLink_mem]
    exact ⟨trivial, by rw [hq]; exact hst, linkReplayFrom_sent l seq s,
      (touch_setLink (by decide) ht : Touches _ s _).sameRegs (by decide), ht.mem (by decide)⟩
  case eighth =>
    obtain ⟨q, hq⟩ := linkReplayFrom_link l seq s
    simp only [setLink_link_self, hq, hst]
  case lcredit =>
    unfold lcredit creditTaken
    rw [if_pos ho, linkGot_slotIm]
    rfl
  case error =>
    obtain ⟨hrx, hsent⟩ := linkFrameError_after (cause := cause) ho
    have ht := touch_linkFrameError (a0 := l.val) (a1 := cause) (fun _ h => h) (touch_refl _ s)
    exact ⟨hrx, linkFrameError_crc ho, ht.sameRegs (by decide), ht.sameMem (by decide), hsent⟩
  case data =>
    unfold dataFrame
    dsimp only
    cases h : ((dropWords bad s).link l.val).open_ <;> rfl
  case next_ => exact if_pos h
  case again => exact (if_neg h).trans (if_pos h')
  case gap => exact (if_neg h).trans (if_neg (by rw [h']; decide))
  case ackRegs => exact Touches.sameRegs (touch_linkAck (fun _ h => h) (touch_refl _ s)) (by decide)
  case ackPrt => exact Touches.prt (touch_linkAck (fun _ h => h) (touch_refl _ s)) (by decide)
  case flen => unfold LFrame.flen ceilDiv; rw [if_pos ht]; omega
  case replayWord => simp [dropWord]
  case mcast => exact if_pos h
  case pick =>
    obtain ⟨hq, hm⟩ := pickNext_some h
    exact ⟨hq, mayStart_iff.mp hm⟩
  case start =>
    obtain ⟨hc, hq, -⟩ := linkStarted_facts l p s
    obtain ⟨q, hk⟩ := startPacket_link hf hh
    dsimp only
    rw [hk]
    exact ⟨hc.trans (by unfold linkCost ceilDiv; omega), hq, rfl, startPacket_sent hf hh⟩

end Sys2Proof.Proofs
end

section
/-! PROOF. Shapers and policers: ticks, runtime changes and bucket refills (R408, R411 to R417, R425). -/

namespace Sys2Proof.Machine

open Sys2Proof

/-! ### What each operation reaches -/

section
variable {L : List StPart} {r s : State}

theorem touch_setPolicer {a0 a1 a2 : _} (hL : [.trf] ⊆ L) (ha2 : Touches L r a2) :
    Touches L r (setPolicer a0 a1 a2) := by
  unfold setPolicer
  exact touch_onTrf (sub_trans hL (by decide)) ha2

theorem touch_trfChange {a0 a1 : _} (hL : evrParts ++ [.trf] ⊆ L) (ha1 : Touches L r a1) :
    Touches L r (trfChange a0 a1) := by
  unfold trfChange
  extract_lets -merge +onlyGivenNames y0 y1 y2 y3 y4 y5 x6
  have hx6 : Touches L r x6 := touch_ite (fun _ => touch_setPolicer (sub_trans hL (by decide)) ha1) (fun _ => touch_setShaper (sub_trans hL (by decide)) ha1)
  exact touch_raise (sub_trans hL (by decide)) hx6

theorem touch_applyPending {a0 a1 : _} (hL : evrParts ++ [.reg .TRF_RESULT_STATUS, .reg .TRF_RESULT_DONE, .trf] ⊆ L) (ha1 : Touches L r a1) :
    Touches L r (applyPending a0 a1) := by
  unfold applyPending
  split
  · exact ha1
  · exact touch_result (sub_trans hL (by decide)) (touch_onTrf (sub_trans hL (by decide)) (touch_trfChange (sub_trans hL (by decide)) ha1))

theorem touch_evtFired {a0 a1 : _} (hL : [.time] ⊆ L) (ha1 : Touches L r a1) :
    Touches L r (evtFired a0 a1) := by
  unfold evtFired
  split
  · exact touch_setEvt (sub_trans hL (by decide)) ha1
  · exact ha1

end

/-! ### Shapers and policers under each update -/

@[simp] theorem setShaper_shaper_self (i : Nat) (x : Shaper) (s : State) : (setShaper i x s).shaper i = x := lookD_put_self ..

theorem setShaper_shaper_ne {i k : Nat} (x : Shaper) (s : State) (h : k ≠ i) : (setShaper i x s).shaper k = s.shaper k :=
  lookD_put_ne _ _ _ h

@[simp] theorem setPolicer_policer_self (j : Nat) (x : Policer) (s : State) : (setPolicer j x s).policer j = x := lookD_put_self ..

theorem setPolicer_policer_ne {j k : Nat} (x : Policer) (s : State) (h : k ≠ j) : (setPolicer j x s).policer k = s.policer k :=
  lookD_put_ne _ _ _ h

theorem shaper_congr {s t : State} (hc : t.comp = s.comp) (ht : t.trf = s.trf) (i : Nat) : t.shaper i = s.shaper i := by
  unfold State.shaper State.im
  rw [hc, ht]

/-- Shapers updated one after the other, each once. -/
theorem forEach_setShaper {xs : List Nat} (hx : xs.Nodup) (g : Shaper → Shaper) (s : State) (i : Nat) :
    (forEach xs (fun i s => setShaper i (g (s.shaper i)) s) s).shaper i = if i ∈ xs then g (s.shaper i) else s.shaper i := by
  induction xs generalizing s with
  | nil => rfl
  | cons x xs ih =>
    obtain ⟨hn, hx⟩ := List.nodup_cons.mp hx
    rw [forEach_cons, ih hx]
    by_cases hi : i = x
    · subst hi; simp [hn]
    · simp [setShaper_shaper_ne _ _ hi, hi]

/-- Policers updated one after the other, each once. -/
theorem forEach_setPolicer {xs : List Nat} (hx : xs.Nodup) (g : Policer → Policer) (s : State) (j : Nat) :
    (forEach xs (fun j s => setPolicer j (g (s.policer j)) s) s).policer j = if j ∈ xs then g (s.policer j) else s.policer j := by
  induction xs generalizing s with
  | nil => rfl
  | cons x xs ih =>
    obtain ⟨hn, hx⟩ := List.nodup_cons.mp hx
    rw [forEach_cons, ih hx]
    by_cases hj : j = x
    · subst hj; simp [hn]
    · simp [setPolicer_policer_ne _ _ hj, hj]

theorem forEach_setShaper_policer (xs : List Nat) (g : Shaper → Shaper) (s : State) (j : Nat) :
    (forEach xs (fun i s => setShaper i (g (s.shaper i)) s) s).policer j = s.policer j := by
  induction xs generalizing s with
  | nil => rfl
  | cons x xs ih => rw [forEach_cons, ih]; rfl

theorem forEach_setPolicer_shaper (xs : List Nat) (g : Policer → Policer) (s : State) (i : Nat) :
    (forEach xs (fun j s => setPolicer j (g (s.policer j)) s) s).shaper i = s.shaper i := by
  induction xs generalizing s with
  | nil => rfl
  | cons x xs ih => rw [forEach_cons, ih]; rfl

/-! ### Ticks -/

/-- Every live bucket refilled by `n` ticks. -/
def refilled (e n : Nat) (u : State) : State :=
  let v := forEach (liveShapers u) (fun i s => setShaper i ((s.shaper i).refill e n) s) u
  forEach (livePolicers v) (fun j s => setPolicer j ((s.policer j).refill e n) s) v

theorem touch_refilled (e n : Nat) (u : State) : Touches [.trf] u (refilled e n u) :=
  touch_forEach (touch_forEach (touch_refl _ u) (fun _ _ h => touch_setShaper (by decide) h))
    (fun _ _ h => touch_setPolicer (by decide) h)

theorem bucketTick_of_due {s : State} (hi : s.comp.image ≠ none) (hw : switchFirst s = false)
    (hn : s.ft / 2 ^ s.im.refillExp - s.trf.tickAt / 2 ^ s.im.refillExp ≠ 0) :
    bucketTick s = onTrf (fun t => { t with tickAt := s.ft }) (refilled s.im.refillExp
      (s.ft / 2 ^ s.im.refillExp - s.trf.tickAt / 2 ^ s.im.refillExp) (applyPending 1 (applyPending 0 s))) := by
  have h : (applyPending 1 (applyPending 0 s)).ft = s.ft :=
    Touches.ft (touch_applyPending (fun _ h => h) (touch_applyPending (fun _ h => h) (touch_refl _ s))) (by decide)
  have hr (e n : Nat) (u : State) : (refilled e n u).ft = u.ft := (touch_refilled e n u).ft (by decide)
  have hb : bucketTick s = onTrf (fun t => { t with tickAt := (refilled s.im.refillExp
      (s.ft / 2 ^ s.im.refillExp - s.trf.tickAt / 2 ^ s.im.refillExp) (applyPending 1 (applyPending 0 s))).ft })
      (refilled s.im.refillExp (s.ft / 2 ^ s.im.refillExp - s.trf.tickAt / 2 ^ s.im.refillExp)
        (applyPending 1 (applyPending 0 s))) := if_neg (by simp [hi, hw, hn])
  rw [hb, hr, h]

theorem bucketTick_of_idle {s : State} (h : s.ft / 2 ^ s.im.refillExp = s.trf.tickAt / 2 ^ s.im.refillExp) : bucketTick s = s :=
  if_pos (.inr (.inl (by omega)))

theorem nodup_liveShapers (s : State) : (liveShapers s).Nodup := List.nodup_range.filter _

theorem nodup_livePolicers (s : State) : (livePolicers s).Nodup := List.nodup_range.filter _

theorem refilled_shaper (e n : Nat) (u : State) {i : Nat} (hi : i < 512) :
    (refilled e n u).shaper i = if (u.shaper i).enable then (u.shaper i).refill e n else u.shaper i := by
  unfold refilled
  dsimp only
  rw [forEach_setPolicer_shaper _ (fun p => p.refill e n),
    forEach_setShaper (nodup_liveShapers u) (fun x => x.refill e n)]
  simp [liveShapers, hi]

theorem refilled_policer (e n : Nat) (u : State) {j : Nat} (hj : j < 256) :
    (refilled e n u).policer j = if (u.policer j).valid then (u.policer j).refill e n else u.policer j := by
  unfold refilled
  dsimp only
  rw [forEach_setPolicer (nodup_livePolicers _) (fun x => x.refill e n)]
  simp [livePolicers, hj, forEach_setShaper_policer _ (fun x => x.refill e n)]

/-! ### Runtime changes -/

theorem applyPending_of_some {p : Nat} {c : TrfChange} {s : State} (h : look p s.trf.pending = some c) : applyPending p s =
    result .TRF_RESULT_STATUS .TRF_RESULT_DONE p Status.ok
      (onTrf (fun t => { t with pending := del p t.pending }) (trfChange c s)) := by
  unfold applyPending
  rw [h]

theorem trfChange_shaper {c : TrfChange} (h : c.policer = false) (s : State) : (trfChange c s).shaper c.index =
    { s.shaper c.index with
      rate := c.rate
      enable := bit c.mode 0
      burst := c.burst
      tokens := if bit c.mode 0 then c.burst * (if c.fill then 1024 else 0) else 0 } := by
  unfold trfChange
  extract_lets i fill m src1 en src2 u
  have hr := touch_raise (code := 0x0801) (car := none) (items := [(2, i), (1, b2n c.policer), (1, b2n c.fill)]) (fun _ h => h)
    (touch_refl _ u)
  rw [shaper_congr (hr.comp (by decide)) (hr.trf (by decide))]
  unfold u
  rw [if_neg (by rw [h]; decide), setShaper_shaper_self]

theorem firstFail_pair (a b : Bool) (x y : Nat) :
    firstFail [(a, x), (b, y)] = if a then (if b then none else some y) else some x := rfl

theorem trfApply_of_good {p : Nat} {fill : Bool} {s : State} (hw : (stagedChange s p fill).well = true)
    (hc : changeCarOk s (stagedChange s p fill) = true) :
    trfApply p fill s = onTrf (fun t => { t with pending := put p (stagedChange s p fill) t.pending }) s := by
  unfold trfApply
  dsimp only
  rw [hw, hc, firstFail_pair]
  rfl

theorem trfApply_of_bad {p : Nat} {fill : Bool} {s : State} (hw : (stagedChange s p fill).well = false) :
    trfApply p fill s = result .TRF_RESULT_STATUS .TRF_RESULT_DONE p Status.badCommand s := by
  unfold trfApply
  dsimp only
  rw [hw, firstFail_pair]
  rfl

theorem trfApply_of_foreign {p : Nat} {fill : Bool} {s : State} (hw : (stagedChange s p fill).well = true)
    (hc : changeCarOk s (stagedChange s p fill) = false) :
    trfApply p fill s = result .TRF_RESULT_STATUS .TRF_RESULT_DONE p Status.accessDenied s := by
  unfold trfApply
  dsimp only
  rw [hw, hc, firstFail_pair]
  rfl

/-- TRF_APPLY changes no shaper and no policer, and no memory. -/
theorem trfApply_keeps (p : Nat) (fill : Bool) (s : State) : (trfApply p fill s).trf.shapers = s.trf.shapers ∧
    (trfApply p fill s).trf.policers = s.trf.policers ∧ SameMem s (trfApply p fill s) := by
  cases hw : (stagedChange s p fill).well with
  | false => rw [trfApply_of_bad hw]; exact ⟨rfl, rfl, fun _ => rfl⟩
  | true =>
    cases hc : changeCarOk s (stagedChange s p fill) with
    | false => rw [trfApply_of_foreign hw hc]; exact ⟨rfl, rfl, fun _ => rfl⟩
    | true => rw [trfApply_of_good hw hc]; exact ⟨rfl, rfl, fun _ => rfl⟩

theorem trfResult_rg (p code : Nat) (hc : code < 256) (s : State) :
    (result .TRF_RESULT_STATUS .TRF_RESULT_DONE p code s).rg .TRF_RESULT_STATUS p = code ∧
    (result .TRF_RESULT_STATUS .TRF_RESULT_DONE p code s).rg .TRF_RESULT_DONE p = 1 := by
  unfold result
  rw [setRg_rg_self, setRg_rg_ne _ _ (by simp), setRg_rg_self]
  simp only [show RN.width .TRF_RESULT_STATUS = 8 from rfl, show RN.width .TRF_RESULT_DONE = 1 from rfl]
  omega

/-! ### Refills by entry -/

theorem shaperRefill_of_fires {i : Nat} {e : Evt} {s : State} (he : s.evt i = some e) (hf : evtFires s i 4 = true)
    (ht : s.ft / 2 ^ s.im.refillExp = s.trf.tickAt / 2 ^ s.im.refillExp) :
    shaperRefill i s = refillEntry i e (evtFired i s) := by
  unfold shaperRefill
  rw [if_pos hf, bucketTick_of_idle ht, fireEntry_of_fires he hf]

theorem evtFired_shaper (i k : Nat) (s : State) : (evtFired i s).shaper k = s.shaper k := by
  have h := touch_evtFired (a0 := i) (fun _ h => h) (touch_refl _ s)
  exact shaper_congr (h.comp (by decide)) (h.trf (by decide)) k

end Sys2Proof.Machine

namespace Sys2Proof.Proofs

open Sys2Proof Sys2Proof.Machine

/-- Settles O33: each live bucket is updated once in a tick, and a refill by entry sets one bucket. -/
theorem shapersAndPolicersTickAndChange : Obligations.ShapersAndPolicersTickAndChange := by
  unfold Obligations.ShapersAndPolicersTickAndChange
  refine ⟨?tick, fun s hl h => (done_live hl).trans (congrArg _ (bucketTick_of_idle h)), fun x e n hx => ?shaper,
    fun x e n hx => ?policer, fun p c s h => ?pending, ?apply, fun i e s hl he hf ht => ⟨fun h => ?foreign, fun ha hc ho hen => ?entry⟩,
    fun i s hl hf => (done_live hl).trans (congrArg _ ?notDue), fun l b s h => if_pos h, fun p n ht ha hn => ?colour⟩
  case tick =>
    intro s hl hi hw
    dsimp only
    intro hn
    generalize hm : s.ft / 2 ^ s.im.refillExp - s.trf.tickAt / 2 ^ s.im.refillExp = n
    generalize hu : applyPending 1 (applyPending 0 s) = u
    have hb : bucketTick s = onTrf (fun t => { t with tickAt := s.ft }) (refilled s.im.refillExp n u) := by
      rw [bucketTick_of_due hi hw hn, hm, hu]
    have hr := touch_refilled s.im.refillExp n u
    have hsh (i : Nat) (hi : i < 512) := refilled_shaper s.im.refillExp n u hi
    have hpo (j : Nat) (hj : j < 256) := refilled_policer s.im.refillExp n u hj
    generalize refilled s.im.refillExp n u = v at hb hr hsh hpo
    have hmem : u.mem = s.mem := by
      rw [← hu]
      exact Touches.mem (touch_applyPending (fun _ h => h) (touch_applyPending (fun _ h => h) (touch_refl _ s))) (by decide)
    refine ⟨_, (done_live hl).trans (congrArg _ hb), rfl, hsh, hpo, ?_, ?_, ?_⟩
    · exact (touch_onTrf (by decide) hr).sameRegs (by decide)
    · exact hr.evr (by decide)
    · exact (hr.mem (by decide)).trans hmem
  case shaper => simp [Shaper.refill, hx, tickTokens]
  case policer => simp [Policer.refill, hx, tickTokens]
  case pending =>
    rw [applyPending_of_some h]
    obtain ⟨hst, hdn⟩ := trfResult_rg p Status.ok (by decide) (onTrf (fun t => { t with pending := del p t.pending }) (trfChange c s))
    exact ⟨hst, hdn, look_del_self .., fun hp => trfChange_shaper hp s⟩
  case apply =>
    intro p fill s hl hr
    dsimp only
    obtain ⟨hsh, hpo, hmem⟩ := trfApply_keeps p.idx fill s
    refine ⟨_, done_live_access hl hr, hsh, hpo, hmem, fun hw hc => ?_, fun hw => ?_, fun hw hc => ?_⟩
    · rw [trfApply_of_good hw hc]
      exact ⟨look_put_self .., fun q hq => look_put_ne _ _ hq, fun n i _ => rfl⟩
    · rw [trfApply_of_bad hw]
      exact ⟨rfl, trfResult_rg p.idx Status.badCommand (by decide) s⟩
    · rw [trfApply_of_foreign hw hc]
      exact ⟨rfl, trfResult_rg p.idx Status.accessDenied (by decide) s⟩
  case foreign =>
    refine (done_live hl).trans (congrArg _ ?_)
    rw [shaperRefill_of_fires he hf ht]
    exact if_pos h
  case entry =>
    have hu : shaperRefill i.val s =
        setShaper e.arg { s.shaper e.arg with tokens := (s.shaper e.arg).burst * 1024 } (evtFired i.val s) := by
      rw [shaperRefill_of_fires he hf ht]
      unfold refillEntry
      dsimp only
      rw [evtFired_shaper, if_neg (by omega), if_pos hen]
    have hk := touch_evtFired (a0 := i.val) (L := [.time, .trf]) (by decide) (touch_refl _ s)
    refine ⟨_, (done_live hl).trans (congrArg _ hu), ?_, fun k hne => ?_, ?_, ?_⟩
    · rw [setShaper_shaper_self]
    · rw [setShaper_shaper_ne _ _ hne, evtFired_shaper]
    · exact (touch_setShaper (by decide) hk).sameRegs (by decide)
    · exact (touch_setShaper (by decide) hk).sameMem (by decide)
  case notDue => exact if_neg (by rw [hf]; decide)
  case colour =>
    unfold Policer.colour
    rw [if_neg (by rw [ht]; decide), if_pos ⟨hn, .inl ha⟩]

end Sys2Proof.Proofs
end

section
/-! PROOF. Walks, gathers and digests of a sequence's pages (R201, R206, R208, R212, R227). -/

namespace Sys2Proof.Machine

open Sys2Proof

/-! ### A command on its carriage's sequence -/

theorem noteSpan_of_clean {a n : Nat} {s : State} (h : s.mem.bad = []) : noteSpan a n s = s := by
  unfold noteSpan badIn
  rw [h]
  rfl

theorem blockReadable_of_clean {b : Nat} {s : State} (h : s.mem.bad = []) : blockReadable s b = true := by
  unfold blockReadable spanReadable badIn
  rw [h]
  rfl

theorem forEach_noteSpan_of_clean (bs : List Nat) {s : State} (h : s.mem.bad = []) :
    forEach bs (fun b s => noteSpan (blockAddr s.im b) 4096 s) s = s :=
  forEach_keeps (P := fun t => t = s) bs _ s rfl (fun _ t ht => by rw [ht, noteSpan_of_clean h])

/-- Memory without errors gives up its tables, and nothing is noted. -/
theorem readTables_of_clean {seq : Nat} {q : Seqd} {layer : Option Nat} {s : State} (h : s.mem.bad = []) :
    readTables seq q layer s = (true, s) := by
  unfold readTables
  dsimp only
  rw [noteSpan_of_clean h, if_neg (by rw [blockReadable_of_clean h]; decide)]
  cases layer with
  | none => rfl
  | some l =>
    dsimp only
    rw [forEach_noteSpan_of_clean _ h, if_pos (List.all_eq_true.mpr fun b _ => blockReadable_of_clean h)]

theorem onOwnSeq_of_none {k : Nat} {c : Cmd} {layer : Option Nat} {f : Seqd → State → State} {s : State}
    (h : look (Op.seqId c.bytes) s.seq.seqs = none) : onOwnSeq k c layer f s = complete k Status.badCommand 0 0 s := by
  unfold onOwnSeq
  rw [h]

theorem onOwnSeq_of_some {k : Nat} {c : Cmd} {layer : Option Nat} {f : Seqd → State → State} {q : Seqd} {s : State}
    (h : look (Op.seqId c.bytes) s.seq.seqs = some q) : onOwnSeq k c layer f s =
      if q.car ≠ Op.car c.bytes then complete k Status.accessDenied 0 0 s
      else if (readTables (Op.seqId c.bytes) q layer s).1 = true then f q (readTables (Op.seqId c.bytes) q layer s).2
      else complete k Status.uncorrectable 0 0 (readTables (Op.seqId c.bytes) q layer s).2 := by
  unfold onOwnSeq
  rw [h]

/-- A command that `OwnSeq` describes works on its sequence. -/
theorem onOwnSeq_of_own {k e o : Nat} {c : Cmd} {layer : Option Nat} {f : Seqd → State → State} {q : Seqd} {s t : State}
    (h : OwnSeq k e o layer c q s t) : onOwnSeq k c layer f s = f q t := by
  obtain ⟨-, hq, hcar, hr⟩ := h
  rw [onOwnSeq_of_some hq, if_neg (not_not_intro hcar), hr]
  rfl

/-! ### WALK and GATHER -/

theorem gather_of_malformed {k : Nat} {c : Cmd} {q : Seqd} {s t : State} (h : OwnSeq k 1 0x02 (some (u16 c.bytes 12)) c q s t)
    (hb : q.layers ≤ u16 c.bytes 12 ∨ q.kv ≤ u8 c.bytes 14 ∨ u32 c.bytes 20 = 0 ∨ 65536 < u32 c.bytes 20) :
    gather k c s = complete k Status.badCommand 0 0 t := by
  unfold gather
  exact (onOwnSeq_of_own h).trans (if_pos hb)

theorem gather_of_clear {k : Nat} {c : Cmd} {q : Seqd} {s t : State} (h : OwnSeq k 1 0x02 (some (u16 c.bytes 12)) c q s t)
    (hb : ¬ (q.layers ≤ u16 c.bytes 12 ∨ q.kv ≤ u8 c.bytes 14 ∨ u32 c.bytes 20 = 0 ∨ 65536 < u32 c.bytes 20))
    (hp : q.protected_ = true) (hc : qConf t c.q = false) : gather k c s = complete k Status.accessDenied 0 0 t := by
  unfold gather
  exact (onOwnSeq_of_own h).trans ((if_neg hb).trans (if_pos ⟨hp, hc⟩))

/-- The positions that a gather finds held, with their pages. -/
def gatherHeld (t : State) (q : Seqd) (b : List Byte) : List (Page × Nat) :=
  (List.range (u32 b 20)).filterMap (fun i => positionAt t (Op.seqId b) q (u16 b 12) (u8 b 14) (u32 b 16 + i))

/-- Those of them in HBM or CXL. -/
def gatherWarm (t : State) (q : Seqd) (b : List Byte) : List (Page × Nat) := (gatherHeld t q b).filter (fun x => x.1.loc != .cold)

/-- The state once the pages of a gather are noted. -/
def gatherNoted (t : State) (q : Seqd) (b : List Byte) : State :=
  forEach (gatherWarm t q b) (fun x => notePage x.1 (x.2 * q.slot t.im) (q.slot t.im)) t

theorem gather_of_served {k : Nat} {c : Cmd} {q : Seqd} {s t : State} (h : OwnSeq k 1 0x02 (some (u16 c.bytes 12)) c q s t)
    (hb : ¬ (q.layers ≤ u16 c.bytes 12 ∨ q.kv ≤ u8 c.bytes 14 ∨ u32 c.bytes 20 = 0 ∨ 65536 < u32 c.bytes 20))
    (hp : ¬ (q.protected_ = true ∧ qConf t c.q = false)) (hf : ∀ x ∈ gatherWarm t q c.bytes, pageFault t x.1 = none)
    (hr : ∀ x ∈ gatherWarm t q c.bytes,
      canReadPage (gatherNoted t q c.bytes) x.1 (x.2 * q.slot t.im) (q.slot t.im) = true ∧
      canReadPage (gatherNoted t q c.bytes) x.1 ((gatherNoted t q c.bytes).im.dataArea + x.2 * q.scale t.im) (q.scale t.im) = true)
    (hd : ∀ x ∈ gatherWarm t q c.bytes, x.1.comp = true → x.1.sealed_ = true →
      pageDigest (gatherNoted t q c.bytes) x.1 = x.1.digest) :
    gather k c s = complete k Status.ok 0
      ((gatherWarm t q c.bytes).length + countOf (fun x => x.1.loc == .cold) (gatherHeld t q c.bytes) * 2 ^ 32)
      (hostWrite k (u64 c.bytes 24)
        ((gatherWarm t q c.bytes).flatMap (fun x => pageSlice (gatherNoted t q c.bytes) x.1 (x.2 * q.slot t.im) (q.slot t.im)) ++
          (if bit (u8 c.bytes 15) 0 then (gatherWarm t q c.bytes).flatMap (fun x => pageSlice (gatherNoted t q c.bytes) x.1
            ((gatherNoted t q c.bytes).im.dataArea + x.2 * q.scale t.im) (q.scale t.im)) else []))
        (noteWalk (layerOf (gatherNoted t q c.bytes) (Op.seqId c.bytes) q (u16 c.bytes 12)).blocks (gatherNoted t q c.bytes))) := by
  have hnone : (gatherWarm t q c.bytes).findSome? (fun x => pageFault t x.1) = none :=
    List.findSome?_eq_none_iff.mpr hf
  have hall : (gatherWarm t q c.bytes).all (fun x =>
      canReadPage (gatherNoted t q c.bytes) x.1 (x.2 * q.slot t.im) (q.slot t.im) &&
      canReadPage (gatherNoted t q c.bytes) x.1 ((gatherNoted t q c.bytes).im.dataArea + x.2 * q.scale t.im) (q.scale t.im)) = true :=
    List.all_eq_true.mpr fun x hx => by rw [(hr x hx).1, (hr x hx).2]; rfl
  have hfind : (gatherWarm t q c.bytes).find? (fun x => x.1.comp && x.1.sealed_ &&
      pageDigest (gatherNoted t q c.bytes) x.1 != x.1.digest) = none := by
    refine List.find?_eq_none.mpr fun x hx hbad => ?_
    simp only [Bool.and_eq_true, bne_iff_ne] at hbad
    obtain ⟨⟨hcomp, hseal⟩, hne⟩ := hbad
    exact hne (hd x hx hcomp hseal)
  unfold gather
  dsimp only
  rw [onOwnSeq_of_own h, if_neg hb, if_neg hp]
  unfold gatherNoted gatherWarm gatherHeld at *
  rw [hnone]
  dsimp only
  rw [if_neg (by rw [hall]; decide), hfind]

/-! ### PAGE_DIGEST -/

theorem noteKey_of_badCommand (g : Option Page) (car : Nat) (s : State) : noteKey Status.badCommand g car s = s := by
  cases g <;> rfl

/-- A digest that may read its page. -/
theorem pageDigestCmd_of_readable {k : Nat} {c : Cmd} {g : Page} {s : State} (hg : look (u32 c.bytes 12) s.seq.pages = some g)
    (hl : g.loc ≠ .cold) (hcar : g.car = Op.car c.bytes) (hk : keyFault s g = none)
    (hb : g.comp = false ∨ bufferServes s (locHalf s g.loc) = true) (hm : u8 c.bytes 16 ≤ 1)
    (hs : u8 c.bytes 16 = 0 ∨ g.sealed_ = true) (hr : pageReadable (notePage g 0 s.im.frameSize s) g = true) :
    pageDigestCmd k c s =
      if u8 c.bytes 16 = 0 then complete k Status.ok 0 0 (hostWrite k (u64 c.bytes 20)
        (digestOf (digestSpan (notePage g 0 s.im.frameSize s) g)) (notePage g 0 s.im.frameSize s))
      else if (digestOf (digestSpan (notePage g 0 s.im.frameSize s) g)).take 24 = g.digest then
        complete k Status.ok 0 0 (notePage g 0 s.im.frameSize s)
      else complete k Status.uncorrectable 0 0 (digestFail (u32 c.bytes 12) g.car 0x05 (notePage g 0 s.im.frameSize s)) := by
  have h1 : (g.loc != .cold && decide (u8 c.bytes 16 ≤ 1) && (u8 c.bytes 16 == 0 || g.sealed_)) = true := by simp [hl, hm, hs]
  have h2 : (!g.comp || bufferServes s (locHalf s g.loc)) = true := by simpa using hb
  unfold pageDigestCmd
  dsimp only
  rw [hg]
  dsimp only
  rw [h1, hcar, hk, h2]
  simp [firstFail, hr]

theorem pageDigestCmd_of_unsealed {k : Nat} {c : Cmd} {g : Page} {s : State} (hg : look (u32 c.bytes 12) s.seq.pages = some g)
    (hm : u8 c.bytes 16 = 1) (hs : g.sealed_ = false) : pageDigestCmd k c s = complete k Status.badCommand 0 0 s := by
  unfold pageDigestCmd
  dsimp only
  rw [hg]
  dsimp only
  rw [hm, hs]
  simp [firstFail, noteKey_of_badCommand, when, show (Status.badCommand == Status.claimed) = false from rfl]

end Sys2Proof.Machine

namespace Sys2Proof.Proofs

open Sys2Proof Sys2Proof.Machine

/-- Settles O34: each command is its checks in order, then what it reads and writes. -/
theorem pagesAreWalkedGatheredAndDigested : Obligations.PagesAreWalkedGatheredAndDigested := by
  unfold Obligations.PagesAreWalkedGatheredAndDigested
  refine ⟨fun seq q layer s h => readTables_of_clean h, fun k c layer f s => ⟨onOwnSeq_of_none, fun q h => onOwnSeq_of_some h⟩,
    fun k c q s t h => (done_started h.1).trans (congrArg _ ?walk), fun k c q s t h => ⟨fun hb => ?malformed, ?gather⟩,
    fun k c g s h hg hl hcar hk hb hr => ⟨fun hm => ?digest, fun hm hs => ?compare, fun hm hs => ?unsealed⟩,
    fun p s hl hr => done_live_access hl hr⟩
  case walk =>
    unfold walk
    exact onOwnSeq_of_own h
  case malformed => exact (done_started h.1).trans (congrArg _ (gather_of_malformed h hb))
  case gather =>
    intro h1 h2 h3 h4
    have hb : ¬ (q.layers ≤ u16 c.bytes 12 ∨ q.kv ≤ u8 c.bytes 14 ∨ u32 c.bytes 20 = 0 ∨ 65536 < u32 c.bytes 20) := by omega
    refine ⟨fun hp hc => ?_, fun hp hf hr hd => ?_⟩
    · exact (done_started h.1).trans (congrArg _ (gather_of_clear h hb hp hc))
    · exact (done_started h.1).trans (congrArg _ (gather_of_served h hb (by rintro ⟨hpt, hcf⟩; simp [hpt, hcf] at hp) hf hr hd))
  case digest =>
    refine (done_started h).trans (congrArg _ ?_)
    rw [pageDigestCmd_of_readable hg hl hcar hk hb (by omega) (.inl hm) hr, if_pos hm]
  case compare =>
    refine (done_started h).trans (congrArg _ ?_)
    rw [pageDigestCmd_of_readable hg hl hcar hk hb (by omega) (.inr hs) hr, if_neg (by omega)]
  case unsealed => exact (done_started h).trans (congrArg _ (pageDigestCmd_of_unsealed hg hm hs))

end Sys2Proof.Proofs
end

section
/-! PROOF. Pages copied, moved, zeroed and freed (R182, R198, R202 to R208, R607). -/

namespace Sys2Proof.Machine

open Sys2Proof

/-! ### What each operation reaches -/

section
variable {L : List StPart} {r s : State}

theorem touch_noteMoves {a0 a1 a2 : _} (hL : evrParts ⊆ L) (ha2 : Touches L r a2) :
    Touches L r (noteMoves a0 a1 a2) := by
  unfold noteMoves
  exact touch_ite (fun _ => touch_raiseCar (sub_trans hL (by decide)) ha2) (fun _ => ha2)

theorem touch_slotLeft {a0 a1 : _} (hL : evrParts ⊆ L) (ha1 : Touches L r a1) :
    Touches L r (slotLeft a0 a1) := by
  unfold slotLeft
  exact touch_ite (fun _ => touch_raise (sub_trans hL (by decide)) ha1) (fun _ => ha1)

theorem touch_setBank {a0 a1 a2 : _} (hL : [.owl] ⊆ L) (ha2 : Touches L r a2) :
    Touches L r (setBank a0 a1 a2) := by
  unfold setBank
  exact touch_onOwl (sub_trans hL (by decide)) ha2

theorem touch_injectInto {g key : Nat} {s : State} (hL : [.reg .MEM_X_INJECT_ARMED, .mem] ⊆ L) (h : Touches L r s) : Touches L r (injectInto g key s) := by
  unfold injectInto
  split
  · refine touch_ite (fun _ => ?_) (fun _ => h)
    exact touch_setRg (sub_trans hL (by decide)) (touch_onMem (sub_trans hL (by decide)) h)
  · exact h

theorem touch_writeAt {a : Nat} {bs : List Byte} {s : State} (hL : [.reg .MEM_X_INJECT_ARMED, .mem] ⊆ L) (h : Touches L r s) : Touches L r (writeAt a bs s) := by
  unfold writeAt
  exact touch_ite (fun _ => touch_injectInto (sub_trans hL (by decide)) (touch_onMem (sub_trans hL (by decide)) h))
    (fun _ => touch_onMem (sub_trans hL (by decide)) h)

theorem touch_writeLoc {a0 a1 a2 a3 : _} (hL : [.reg .MEM_X_INJECT_ARMED, .mem] ⊆ L) (ha3 : Touches L r a3) :
    Touches L r (writeLoc a0 a1 a2 a3) := by
  unfold writeLoc
  split
  · exact touch_writeAt (sub_trans hL (by decide)) ha3
  · exact ha3

theorem touch_shadowWrite {a0 a1 a2 a3 : _} (hL : [.reg .MEM_X_INJECT_ARMED, .mem] ⊆ L) (ha3 : Touches L r a3) :
    Touches L r (shadowWrite a0 a1 a2 a3) := by
  unfold shadowWrite
  exact touch_foldl ha3 (fun _ h0 _ => touch_ite (fun _ => touch_writeLoc (sub_trans hL (by decide)) h0) (fun _ => h0))

theorem touch_writeEntry {a0 a1 a2 a3 : _} (hL : [.owl, .reg .MEM_X_INJECT_ARMED, .mem] ⊆ L) (ha3 : Touches L r a3) :
    Touches L r (writeEntry a0 a1 a2 a3) := by
  unfold writeEntry
  extract_lets -merge +onlyGivenNames x0 y1
  have hx0 : Touches L r x0 := touch_shadowWrite (sub_trans hL (by decide)) ha3
  exact touch_setBank (sub_trans hL (by decide)) hx0

theorem touch_clearEntry {a0 a1 a2 : _} (hL : [.owl, .reg .MEM_X_INJECT_ARMED, .mem] ⊆ L) (ha2 : Touches L r a2) :
    Touches L r (clearEntry a0 a1 a2) := by
  unfold clearEntry
  split
  · exact touch_writeEntry (sub_trans hL (by decide)) ha2
  · exact ha2

theorem touch_indexRemove {a0 a1 a2 : _} (hL : [.owl, .reg .MEM_X_INJECT_ARMED, .mem] ⊆ L) (ha2 : Touches L r a2) :
    Touches L r (indexRemove a0 a1 a2) := by
  unfold indexRemove
  extract_lets -merge +onlyGivenNames y0 y1 y2
  exact touch_forEach ha2 (fun _ _ h3 => touch_clearEntry (sub_trans hL (by decide)) h3)

theorem touch_zeroAt {a n : Nat} {s : State} (hL : [.reg .MEM_X_INJECT_ARMED, .mem] ⊆ L) (h : Touches L r s) : Touches L r (zeroAt a n s) := by
  unfold zeroAt
  exact touch_ite (fun _ => touch_injectInto (sub_trans hL (by decide)) (touch_onMem (sub_trans hL (by decide)) h))
    (fun _ => touch_onMem (sub_trans hL (by decide)) h)

end

/-! ### The page directory under each update -/

theorem look_upd_self {κ α : Type} [DecidableEq κ] (k : κ) (f : α → α) (m : List (κ × α)) : look k (upd k f m) = (look k m).map f := by
  induction m with
  | nil => rfl
  | cons e r ih =>
    obtain ⟨j, v⟩ := e
    by_cases h : j = k
    · simp [upd, look, h]
    · simpa [upd, look, h] using ih

theorem onPage_look_self (p : Nat) (f : Page → Page) (s : State) : look p (onPage p f s).seq.pages = (look p s.seq.pages).map f :=
  look_upd_self ..

/-- What frees a frame changes: the frame maps, and the frames found bad or retired. -/
theorem retireIfBad_seq (l : Loc) (s : State) :
    ∃ bf rt, (retireIfBad l s).seq = { s.seq with badFrames := bf, retired := rt } := by
  unfold retireIfBad
  extract_lets k u items
  split
  · exact ⟨s.seq.badFrames, s.seq.retired, rfl⟩
  · split
    · exact ⟨remSet k s.seq.badFrames, s.seq.retired, raise_seq ..⟩
    · refine ⟨remSet k s.seq.badFrames, u.seq.retired ++ [k], ?_⟩
      rw [raise_seq]
      exact Touches.seq (touch_countRetired (fun _ h => h) (touch_refl _ _)) (by decide)

theorem freeLoc_seq (l : Loc) (s : State) : ∃ fr cf bf rt, (freeLoc l s).seq =
    { s.seq with frames := fr, cframes := cf, badFrames := bf, retired := rt } ∧
    (∀ g f, l = .hbm g f → look (g, f) fr = none) := by
  unfold freeLoc
  cases l with
  | hbm g f =>
    obtain ⟨bf, rt, h⟩ := retireIfBad_seq (.hbm g f) (onSeq (fun x => { x with frames := del (g, f) x.frames }) s)
    refine ⟨del (g, f) s.seq.frames, s.seq.cframes, bf, rt, h, fun g' f' e => ?_⟩
    cases e
    exact look_del_self ..
  | cxl c f =>
    obtain ⟨bf, rt, h⟩ := retireIfBad_seq (.cxl c f) (onSeq (fun x => { x with cframes := del (c, f) x.cframes }) s)
    exact ⟨s.seq.frames, del (c, f) s.seq.cframes, bf, rt, h, fun _ _ e => nomatch e⟩
  | cold => exact ⟨s.seq.frames, s.seq.cframes, s.seq.badFrames, s.seq.retired, rfl, fun _ _ e => nomatch e⟩

theorem freeLoc_pages (l : Loc) (s : State) : (freeLoc l s).seq.pages = s.seq.pages := by
  obtain ⟨fr, cf, bf, rt, h, -⟩ := freeLoc_seq l s
  rw [h]

theorem freeLoc_vacated (l : Loc) (s : State) : (freeLoc l s).seq.vacated = s.seq.vacated := by
  obtain ⟨fr, cf, bf, rt, h, -⟩ := freeLoc_seq l s
  rw [h]

theorem markFrame_pages (l : Loc) (u : FrameUse) (s : State) : (markFrame l u s).seq.pages = s.seq.pages := by cases l <;> rfl

theorem markFrame_vacated (l : Loc) (u : FrameUse) (s : State) : (markFrame l u s).seq.vacated = s.seq.vacated := by cases l <;> rfl

theorem leaveFrame_pages (p : Nat) (l : Loc) (s : State) : (leaveFrame p l s).seq.pages = s.seq.pages := by
  unfold leaveFrame
  dsimp only
  split
  · exact freeLoc_pages l s
  · exact markFrame_pages l .vacated s

theorem leaveFrame_vacated (p : Nat) (l : Loc) (s : State) : (leaveFrame p l s).seq.vacated =
    if (walkers s p).isEmpty then s.seq.vacated else s.seq.vacated ++ [(l, walkers s p)] := by
  unfold leaveFrame
  dsimp only
  split
  · exact freeLoc_vacated l s
  · exact congrArg (· ++ [(l, walkers s p)]) (markFrame_vacated l .vacated s)

theorem queueTable_pages (id : Option Nat) (up : Bool) (s : State) : (queueTable id up s).seq.pages = s.seq.pages := by
  cases id <;> rfl

theorem fixSplit_pages (seq layer : Nat) (s : State) : (fixSplit seq layer s).seq.pages = s.seq.pages := by
  unfold fixSplit
  split
  · rfl
  · extract_lets r n u
    split
    · rfl
    · rw [raise_seq]
      rfl

/-! ### Moves -/

theorem noteMoves_seq (c n : Nat) (s : State) : (noteMoves c n s).seq = s.seq :=
  Touches.seq (touch_noteMoves (fun _ h => h) (touch_refl _ s)) (by decide)

theorem noteMoves_mem (c n : Nat) (s : State) : (noteMoves c n s).mem = s.mem :=
  Touches.mem (touch_noteMoves (fun _ h => h) (touch_refl _ s)) (by decide)

theorem queueTable_mem (id : Option Nat) (up : Bool) (s : State) : (queueTable id up s).mem = s.mem := by cases id <;> rfl

theorem onPage_mem (p : Nat) (f : Page → Page) (s : State) : (onPage p f s).mem = s.mem := rfl

theorem beginMove_look {p : Nat} {m : Move} {g : Page} {s : State} (h : look p s.seq.pages = some g) :
    look p (beginMove p m s).seq.moves = some m ∧ (look p (beginMove p m s).seq.pages).map (fun x => x.moving) = some true ∧
    (beginMove p m s).mem = s.mem := by
  unfold beginMove
  refine ⟨look_put_self .., ?_, ?_⟩
  · rw [onPage_look_self, onSeq_seq, noteMoves_seq, queueTable_pages, queueTable_pages, h]
    rfl
  · rw [onPage_mem, onSeq_mem, noteMoves_mem, queueTable_mem, queueTable_mem]

theorem moveTo_look {p : Nat} {m : Move} {g x : Page} {form : Bool × Nat} {s : State} (h : look p s.seq.pages = some x) :
    (look p (moveTo p m g form s).seq.pages).map (fun x => (x.loc, x.comp, x.moving)) = some (m.dest, form.1, false) := by
  have hw : (writeLoc m.dest 0 (pageBytes s g) s).seq = s.seq :=
    Touches.seq (touch_writeLoc (fun _ h => h) (touch_refl _ s)) (by decide)
  have he : look p (endMove p m (writeLoc m.dest 0 (pageBytes s g) s)).seq.pages = some { x with moving := false } := by
    unfold endMove
    rw [onPage_look_self, onSeq_seq, queueTable_pages, queueTable_pages, hw, h]
    rfl
  unfold moveTo
  extract_lets u
  have hf : (forEach (seqsOfPage u p) (fun q => forEach q.2.recs (fun r => fixSplit q.1 r.1)) (leaveFrame p g.loc u)).seq.pages =
      u.seq.pages :=
    forEach_keeps (P := fun t : State => t.seq.pages = u.seq.pages) _ _ _ (leaveFrame_pages p g.loc u) fun q t ht =>
      forEach_keeps (P := fun t : State => t.seq.pages = u.seq.pages) _ _ _ ht fun r v hv => (fixSplit_pages q.1 r.1 v).trans hv
  rw [hf]
  unfold u
  rw [onPage_look_self, markFrame_pages, he]
  rfl

theorem pageMoveCommit_of_free {p : Nat} {m : Move} {g : Page} {s : State} (hm : look p s.seq.moves = some m)
    (hg : look p s.seq.pages = some g) (hc : gathersFirst s m.car = false) : pageMoveCommit p s = commitMove p m g s := by
  unfold pageMoveCommit
  rw [hm, hg]
  exact if_neg (by rw [hc]; decide)

theorem pageMoveCommit_of_gathers {p : Nat} {m : Move} {s : State} (hm : look p s.seq.moves = some m)
    (hc : gathersFirst s m.car = true) : pageMoveCommit p s = s := by
  unfold pageMoveCommit
  rw [hm]
  cases look p s.seq.pages with
  | none => rfl
  | some g => exact if_pos hc

theorem commitMove_of_readable {p : Nat} {m : Move} {g : Page} {s : State}
    (hr : pageReadable (notePage g 0 s.im.frameSize s) g = true)
    (hd : g.comp = true → g.sealed_ = true → pageDigest (notePage g 0 s.im.frameSize s) g = g.digest) :
    commitMove p m g s = whenSome m.cmd (fun k => complete k Status.ok 0
        (2 * b2n (moveForm (notePage g 0 s.im.frameSize s) m (pageBytes (notePage g 0 s.im.frameSize s) g)).1))
      (countTierMove m (moveTo p m g (moveForm (notePage g 0 s.im.frameSize s) m (pageBytes (notePage g 0 s.im.frameSize s) g))
        (notePage g 0 s.im.frameSize s))) := by
  unfold commitMove
  dsimp only
  rw [if_neg (by rw [hr]; decide), if_neg (fun ⟨hcomp, hseal, hne⟩ => hne (hd hcomp hseal))]

theorem commitMove_of_unreadable {p : Nat} {m : Move} {g : Page} {s : State}
    (hr : pageReadable (notePage g 0 s.im.frameSize s) g = false) :
    commitMove p m g s = moveFailed p m Status.uncorrectable (notePage g 0 s.im.frameSize s) := if_pos hr

theorem pageMove_of_sound {k : Nat} {c : Cmd} {g : Page} {s : State} (hp : c.phase = 0) (hf : moveFault s c = none)
    (hg : look (u32 c.bytes 12) s.seq.pages = some g) : pageMove k c s = moveBegin k c (u32 c.bytes 12) g s := by
  unfold pageMove
  dsimp only
  rw [if_neg (not_not_intro hp), hf, hg]

theorem moveStays_of_hbm {s : State} {c : Cmd} {g : Page} (h : u8 c.bytes 16 = 0) : moveStays s c g = false := by
  unfold moveStays
  rw [h]
  rfl

theorem moveTable_of_hbm {s : State} {c : Cmd} {g : Page} (h : u8 c.bytes 16 = 0) : moveTable s c g = none := by
  unfold moveTable
  dsimp only
  rw [h]
  exact if_neg (fun hh => absurd hh.1 (by decide))

theorem moveBegin_of_moving {k p : Nat} {c : Cmd} {g : Page} {s : State} (h : g.moving = true) :
    moveBegin k c p g s = onSeq (fun x => { x with moveWait := addSet k x.moveWait }) s := if_pos (.inl h)

theorem moveBegin_of_room {k p : Nat} {c : Cmd} {g : Page} {s : State} (ht : u8 c.bytes 16 = 0) (h : g.moving = false)
    (hr : moveRoom s g.car (locHalf s g.loc) = true) : moveBegin k c p g s =
      match movePlace p g c (onSeq (fun x => { x with moveWait := remSet k x.moveWait }) s) with
      | none => completeReason k Status.accessDenied 2 (onSeq (fun x => { x with moveWait := remSet k x.moveWait }) s)
      | some (dest, v) => beginMove p { dest := dest, comp := none, cmd := some k, half := locHalf s g.loc, car := g.car }
          (setCmd k { c with phase := 1 } v) := by
  unfold moveBegin
  dsimp only
  rw [moveStays_of_hbm ht, if_neg (by rw [h, hr]; simp), if_neg (by decide), moveTable_of_hbm ht] <;> rfl

/-! ### Copies -/

/-- A change that `OwnChange` describes works on its sequence at once. -/
theorem change_of_own {k e o : Nat} {c : Cmd} {layer : Option Nat} {f : Seqd → State → State} {q : Seqd} {s t : State}
    (h : OwnChange k e o layer c q s t) : change (Op.seqId c.bytes) (.cmd k) (onOwnSeq k c layer f) s = f q t := by
  obtain ⟨-, hq, hcar, hm, hr⟩ := h
  unfold change
  rw [if_pos hm, onOwnSeq_of_some (show look _ (dropWait (.cmd k) s).seq.seqs = some q from hq), if_neg (not_not_intro hcar), hr]
  rfl

theorem notDuring_of_none {seq : Nat} {w : Waiter} {f : State → State} {s : State} (h : snapshotPos s seq = none) :
    notDuring seq w f s = change seq w f s := if_neg (by rw [h]; decide)

theorem noteKey_of_other {st : Nat} (g : Option Page) (car : Nat) (s : State) (h : st ≠ Status.keyRetired) :
    noteKey st g car s = s := by
  unfold noteKey noteKeyAt
  cases g with
  | none => rfl
  | some g => simp [beq_false_of_ne h]

theorem pageCopy_of_first {k : Nat} {c : Cmd} {q : Seqd} {s t : State} (h : OwnChange k 1 0x03 (some (u16 c.bytes 12)) c q s t)
    (hp : c.phase = 0) (hn : snapshotPos s (Op.seqId c.bytes) = none) (hf : copyFault t c q = none) :
    pageCopy k c s = if moveRoom t q.car (u8 c.bytes 15) = true
      then noteMoves q.car (movesOfCar t q.car) (setCmd k { c with phase := 1 } (setBusy (Op.seqId c.bytes) k t)) else t := by
  unfold pageCopy
  rw [if_pos hp]
  unfold copyBegin
  dsimp only
  rw [notDuring_of_none hn, change_of_own h, hf]

theorem pageCopy_of_fault {k st : Nat} {c : Cmd} {q : Seqd} {s t : State} (h : OwnChange k 1 0x03 (some (u16 c.bytes 12)) c q s t)
    (hp : c.phase = 0) (hn : snapshotPos s (Op.seqId c.bytes) = none) (hf : copyFault t c q = some st)
    (h1 : st ≠ Status.keyRetired) (h2 : st ≠ Status.claimed) : pageCopy k c s = complete k st 0 0 t := by
  unfold pageCopy
  rw [if_pos hp]
  unfold copyBegin
  dsimp only
  rw [notDuring_of_none hn, change_of_own h, hf]
  dsimp only
  rw [noteKey_of_other _ _ _ h1, beq_false_of_ne h2, when_false]

theorem copyEnd_of_readable {k : Nat} {c : Cmd} {q : Seqd} {l : Leaf} {g : Page} {s : State}
    (hq : look (Op.seqId c.bytes) (clearBusy k s).seq.seqs = some q) (hl : copyLeaf (clearBusy k s) c q = some l)
    (hg : look l.page (clearBusy k s).seq.pages = some g) (hr : slotsReadable (clearBusy k s) q g g.fill = true)
    (hd : g.sealed_ = true → pageDigest (clearBusy k s) g = g.digest) :
    copyEnd k c s = match copyPlace (clearBusy k s) c q with
      | none => completeReason k Status.accessDenied 2 (clearBusy k s)
      | some (p, v) => match writeSlots q p 0 (slotsOf (clearBusy k s) q g g.fill) v with
        | none => complete k Status.uncorrectable 0 0 (clearBusy k s)
        | some w => copyCommit k c q l g p w := by
  unfold copyEnd
  dsimp only
  generalize clearBusy k s = u at *
  rw [hq]
  dsimp only
  rw [hl]
  dsimp only
  rw [hg]
  cases hc : copyPlace u c q with
  | none => rfl
  | some pv =>
    obtain ⟨p, v⟩ := pv
    dsimp only
    rw [if_neg (by rw [hr]; decide)]
    cases writeSlots q p 0 (slotsOf u q g g.fill) v with
    | none => rfl
    | some w => exact if_neg (fun ⟨hseal, hne⟩ => hne (hd hseal))

/-! ### Zeroed groups and freed pages -/

/-- No byte that a filter takes out is left in a table. -/
theorem memGet_of_absent {a : Nat} {m : List Host.Cell} (h : ∀ e ∈ m, e.1 ≠ a) : memGet a m = 0 := by
  induction m with
  | nil => rfl
  | cons e r ih =>
    obtain ⟨b, v⟩ := e
    unfold memGet
    rw [if_neg (h (b, v) (by simp)), ih (fun e he => h e (by simp [he]))]
    exact ite_self _

theorem memGet_zeroAt {a n b : Nat} {s : State} (h1 : a ≤ b) (h2 : b < a + n) : memGet b (zeroAt a n s).mem.bytes = 0 := by
  rw [zeroAt_bytes]
  refine memGet_of_absent fun e he hb => ?_
  have := (List.mem_filter.mp he).2
  simp only [Bool.or_eq_true, decide_eq_true_eq] at this
  omega

theorem memGet_zeroAt_out {a n b : Nat} {s : State} (hs : s.Sound) (h : b < a ∨ a + n ≤ b) :
    memGet b (zeroAt a n s).mem.bytes = memGet b s.mem.bytes := by
  rw [zeroAt_bytes, memGet_filter (fun x => decide (x < a) || decide (a + n ≤ x)) b _ hs.1, if_pos (by simpa using h)]

/-- A group zeroed, before its command ends. -/
def groupZeroed (g : Nat) (s : State) : State :=
  raise 0x0407 (s.owner (.group g)) [(2, g)]
    (onSeq (fun x => { x with zeroing := del g x.zeroing, zeroed := addSet g x.zeroed }) (zeroAt (hbmAddr g 0) groupSize s))

theorem groupZeroDone_of_due {g k : Nat} {s : State} (h : look g s.seq.zeroing = some k)
    (hc : ∀ c, s.owner (.group g) = some c → gathersFirst s c = false) :
    groupZeroDone g s = complete k Status.ok 0 0 (groupZeroed g s) := by
  have hg : ((s.owner (.group g)).map (gathersFirst s)).getD false = false := by
    cases ho : s.owner (.group g) with
    | none => rfl
    | some c => exact hc c ho
  unfold groupZeroDone groupZeroed
  simp only [h, hg, Bool.false_eq_true, if_false]

theorem complete_zeroing (k st detail res : Nat) (s : State) : (complete k st detail res s).seq.zeroing = s.seq.zeroing ∧
    (complete k st detail res s).seq.zeroed = s.seq.zeroed := by
  cases h : s.cmd k with
  | none => rw [complete_of_none h]; exact ⟨rfl, rfl⟩
  | some c => rw [complete_seq (by rw [h]; simp)]; exact ⟨rfl, rfl⟩

theorem groupZeroed_seq (g : Nat) (s : State) : (groupZeroed g s).seq.zeroing = del g s.seq.zeroing ∧
    (groupZeroed g s).seq.zeroed = addSet g s.seq.zeroed := by
  have hz : (zeroAt (hbmAddr g 0) groupSize s).seq = s.seq := Touches.seq (touch_zeroAt (fun _ h => h) (touch_refl _ s)) (by decide)
  unfold groupZeroed
  rw [raise_seq]
  simp [onSeq, hz]

theorem groupZeroed_mem (g : Nat) (s : State) : (groupZeroed g s).mem = (zeroAt (hbmAddr g 0) groupSize s).mem := by
  unfold groupZeroed
  rw [raise_mem, onSeq_mem]

theorem mem_addSet {α : Type} [DecidableEq α] (x : α) (l : List α) : x ∈ addSet x l := by
  unfold addSet
  split
  · assumption
  · simp

/-- The state in which a page's frame is freed. -/
def pageLeft (p : Nat) (g : Page) (s : State) : State :=
  onSeq (fun x => { x with
      pages := del p x.pages
      gens := put p ((lookD p 0 x.gens + 1) % 65536) x.gens
      sealing := del p x.sealing
      freeing := remSet p x.freeing })
    (onFox (fun f => { f with rowless := remSet p f.rowless }) (when g.indexed (indexRemove p g) (releaseRow p s)))

theorem freePage_of_still {p : Nat} {g : Page} {s : State} (hg : look p s.seq.pages = some g) (hm : look p s.seq.moves = none) :
    freePage p s = when (g.loc != .cold) (slotLeft g.keySlot) (freeLoc g.loc (pageLeft p g s)) := by
  unfold freePage abandonMove
  rw [hg]
  dsimp only
  rw [hm]
  rfl

theorem releaseRow_gens (p : Nat) (s : State) : (releaseRow p s).seq.gens = s.seq.gens := by
  unfold releaseRow
  split <;> rfl

theorem pageLeft_seq (p : Nat) (g : Page) (s : State) : look p (pageLeft p g s).seq.pages = none ∧
    look p (pageLeft p g s).seq.gens = some ((lookD p 0 s.seq.gens + 1) % 65536) ∧ p ∉ (pageLeft p g s).seq.freeing := by
  have hi : (when g.indexed (indexRemove p g) (releaseRow p s)).seq = (releaseRow p s).seq :=
    Touches.seq (L := [.owl, .mem, .reg .MEM_X_INJECT_ARMED])
      (touch_when (touch_refl _ _) (fun _ h => touch_indexRemove (by decide) h)) (by decide)
  refine ⟨look_del_self .., ?_, by simp [pageLeft, onSeq, remSet]⟩
  rw [← releaseRow_gens p s, ← hi]
  exact look_put_self ..

theorem freePage_seq {p : Nat} {g : Page} {s : State} (hg : look p s.seq.pages = some g) (hm : look p s.seq.moves = none) :
    look p (freePage p s).seq.pages = none ∧ p ∉ (freePage p s).seq.freeing ∧
    look p (freePage p s).seq.gens = some ((lookD p 0 s.seq.gens + 1) % 65536) ∧
    (∀ gr f, g.loc = .hbm gr f → look (gr, f) (freePage p s).seq.frames = none) := by
  obtain ⟨hp, hn, hf⟩ := pageLeft_seq p g s
  obtain ⟨fr, cf, bf, rt, hl, hfr⟩ := freeLoc_seq g.loc (pageLeft p g s)
  have hs : (freePage p s).seq = (freeLoc g.loc (pageLeft p g s)).seq := by
    rw [freePage_of_still hg hm]
    exact Touches.seq (L := evrParts) (touch_when (touch_refl _ _) (fun _ h => touch_slotLeft (fun _ h => h) h)) (by decide)
  rw [hs, hl]
  exact ⟨hp, hf, hn, hfr⟩

end Sys2Proof.Machine

namespace Sys2Proof.Proofs

open Sys2Proof Sys2Proof.Machine

/-- Settles O35: the commands' checks, then what a copy, a move, a zeroing and a freeing do to the page directory and to
memory. -/
theorem pagesAreCopiedMovedZeroedAndFreed : Obligations.PagesAreCopiedMovedZeroedAndFreed := by
  unfold Obligations.PagesAreCopiedMovedZeroedAndFreed
  refine ⟨fun k c q s t h hp hn => ⟨fun hf => (done_started h.1).trans (congrArg _ (pageCopy_of_first h hp hn hf)),
      fun st hf h1 h2 => (done_started h.1).trans (congrArg _ (pageCopy_of_fault h hp hn hf h1 h2))⟩,
    fun k c q l g s h hp hc => ?copyEnd, fun k c g s h hp hf hg ht => ⟨fun hm => ?moving, fun hm hr => ?move⟩,
    fun p m g s h => beginMove_look h, fun p m g s hl hm hg hc => ⟨fun hr => ?unreadable, fun hr hd => ?commit⟩,
    fun p m s hl hm hc => (done_live hl).trans (congrArg _ (pageMoveCommit_of_gathers hm hc)), leaveFrame_vacated,
    fun p m g form s h => moveTo_look h, fun k c s h hz => ⟨fun hb => ?refused, fun h1 h2 h3 h4 => ?begins⟩,
    fun g k s hl hk hc => ?zeroed, fun p g s hl hg => ⟨fun hf hw hm => ?freed, fun hn => ?kept⟩⟩
  case copyEnd =>
    intro u hq hlf hg hr hd
    refine (done_started h).trans (congrArg _ ?_)
    unfold pageCopy
    rw [if_neg hp, if_neg (by rw [hc]; decide)]
    exact copyEnd_of_readable hq hlf hg hr hd
  case moving => exact (done_started h).trans (congrArg _ ((pageMove_of_sound hp hf hg).trans (moveBegin_of_moving hm)))
  case move => exact (done_started h).trans (congrArg _ ((pageMove_of_sound hp hf hg).trans (moveBegin_of_room ht hm hr)))
  case unreadable =>
    exact (done_live hl).trans (congrArg _ ((pageMoveCommit_of_free hm hg hc).trans (commitMove_of_unreadable hr)))
  case commit =>
    exact (done_live hl).trans (congrArg _ ((pageMoveCommit_of_free hm hg hc).trans (commitMove_of_readable hr hd)))
  case refused =>
    refine (done_started h).trans (congrArg _ ?_)
    unfold groupZero
    exact (if_neg (by rw [hz]; decide)).trans (if_pos hb)
  case begins =>
    refine (done_started h).trans (congrArg _ ?_)
    unfold groupZero
    exact (if_neg (by rw [hz]; decide)).trans (if_neg (by simp [h2, h3, h4]; omega))
  case zeroed =>
    obtain ⟨hz, hd⟩ := complete_zeroing k Status.ok 0 0 (groupZeroed g.val s)
    obtain ⟨hz', hd'⟩ := groupZeroed_seq g.val s
    have hm : (complete k Status.ok 0 0 (groupZeroed g.val s)).mem = (zeroAt (hbmAddr g.val 0) groupSize s).mem :=
      (Touches.mem (touch_complete (fun _ h => h) (touch_refl _ _)) (by decide)).trans
        (groupZeroed_mem ..)
    refine ⟨_, (done_live hl).trans (congrArg _ (groupZeroDone_of_due hk hc)), ?_, ?_, complete_cmd_self .., fun a h1 h2 => ?_,
      fun hs a ha => ?_⟩
    · rw [hz, hz', look_del_self]
    · rw [hd, hd']; exact mem_addSet ..
    · rw [hm]; exact memGet_zeroAt h1 h2
    · rw [hm]; exact memGet_zeroAt_out hs ha
  case freed =>
    exact ⟨_, (done_live hl).trans (congrArg _ (if_pos ⟨hf, hw⟩)), freePage_seq hg hm⟩
  case kept =>
    refine (done_live hl).trans (congrArg _ (if_neg fun ⟨h1, h2⟩ => ?_))
    rcases hn with hn | hn
    · exact hn h1
    · rw [hn] at h2; cases h2

end Sys2Proof.Proofs
end

section
/-! PROOF. Compression tables and expansion weights (R214 to R223). -/

namespace Sys2Proof.Machine

open Sys2Proof

/-! ### Host data -/

theorem dataStep_in_clear {s : State} {q tag id n : Nat} {ix : Nat → Nat → Nat} {whole : Bool} {bs : List Byte} (h : qConf s q = false) :
    dataStep s q tag id ix n whole bs = if bs.length < n then .ask (n - bs.length) else .have_ (bs.take n) := by
  unfold dataStep
  rw [h]
  rfl

theorem fetchTo_in_clear {k addr n : Nat} {c : Cmd} {whole : Bool} {f : List Byte → State → State} {s : State}
    (h : qConf s c.q = false) : fetchTo k c addr n whole f s = if c.buf.length < n
      then hostReadRaw k (addr + c.buf.length) (n - c.buf.length) (setCmd k c s) else f (c.buf.take n) s := by
  unfold fetchTo Cmd.dataStep
  rw [dataStep_in_clear h]
  by_cases hn : c.buf.length < n
  · rw [if_pos hn, if_pos hn]
  · rw [if_neg hn, if_neg hn]

theorem withData_of_first {k addr n : Nat} {c : Cmd} {f : List Byte → State → State} {s : State} (h : c.phase = 0) :
    withData k c addr n f s = hostRead k addr n (setCmd k { c with phase := 1 } s) := if_pos h

theorem withData_of_have {k addr n : Nat} {c : Cmd} {f : List Byte → State → State} {d : List Byte} {s : State} (hp : c.phase ≠ 0)
    (hw : c.want = 0) (hd : c.dataStep s n true c.buf = .have_ d) : withData k c addr n f s = f d s := by
  unfold withData
  rw [if_neg hp, if_neg (by simp [Cmd.ready, hw]), hd]

/-! ### Tables -/

theorem tableInstall_of_sized {k : Nat} {c : Cmd} (s : State) (hn : u32 c.bytes 20 = 18496) : tableInstall k c s =
    if c.want ≠ 0 then s
    else if c.phase = 2 then fetchTo k c (u64 c.bytes 12) 18496 true (installDone k c) s
    else fetchTo k { c with phase := 1 } (u64 c.bytes 12) 64 false (installAccept k { c with phase := 1 }) s := by
  unfold tableInstall Cmd.ready
  rw [if_neg (not_not_intro hn)]
  by_cases hw : c.want = 0
  · rw [beq_iff_eq.mpr hw, if_neg (not_not_intro hw)]
    rfl
  · rw [beq_false_of_ne hw, if_pos hw]
    rfl

theorem installAccept_of_malformed {k : Nat} {c : Cmd} {d : List Byte} {s : State} (h : tableHeadOk d = false) :
    installAccept k c d s = completeReason k Status.badCommand 7 s := if_pos h

theorem installAccept_of_foreign {k : Nat} {c : Cmd} {d : List Byte} {s : State} (h : tableHeadOk d = true)
    (hf : classForeign s (Op.car c.bytes) (u16 d 4 / 256) = true) :
    installAccept k c d s = completeReason k Status.accessDenied 4 s :=
  (if_neg (by rw [h]; decide)).trans (if_pos hf)

theorem installAccept_of_own {k : Nat} {c : Cmd} {d : List Byte} {s : State} (h : tableHeadOk d = true)
    (hf : classForeign s (Op.car c.bytes) (u16 d 4 / 256) = false) :
    installAccept k c d s = if (tableOf s (u16 d 4)).isSome = true then complete k Status.ok 0 0 s
        else if installing s k (u16 d 4 / 256) = true then s
        else match installSlot s (u16 d 4 / 256) with
          | none => tableBusy k (Op.car c.bytes) (u16 d 4 / 256) s
          | some i => fetchTo k { c with phase := 2, note := [u16 d 4, i] } (u64 c.bytes 12) 18496 true
              (installDone k { c with phase := 2, note := [u16 d 4, i] }) s := by
  unfold installAccept
  dsimp only
  rw [if_neg (by rw [h]; decide), if_neg (by rw [hf]; decide)] <;> rfl

theorem installDone_of_named {k id i : Nat} {c : Cmd} {d : List Byte} {s : State} (hn : c.note = [id, i])
    (h : tableHeadOk d = true) (hid : u16 d 4 = id) : installDone k c d s =
      if Config.tableAgrees d = false then completeReason k Status.badCommand 7 s
      else if classLoad s (id / 256) i ≠ 0 then s
      else complete k Status.ok 0 0 (raise 0x0402 (some (Op.car c.bytes)) [(2, id), (1, i)] (onSeq (fun x => { x with
        tables := put (2 * (id / 256) + i) { id := id, cur := true, queued := 0, image := d }
          (upd (2 * (id / 256) + (1 - i)) (fun t => { t with cur := false }) x.tables)
        classOwner := put (id / 256) (Op.car c.bytes) x.classOwner }) s)) := by
  have h1 : c.note.headD 0 = id := by rw [hn]; rfl
  have h2 : nth 0 c.note 1 = i := by rw [hn]; rfl
  unfold installDone
  dsimp only
  rw [h1, h2]
  by_cases ha : Config.tableAgrees d = false
  · rw [if_pos (.inr (.inr ha)), if_pos ha]
  · rw [if_neg (by simp [h, hid, ha]), if_neg ha]

/-- A slot for an image is free or idle. -/
theorem installSlot_some {s : State} {cls i : Nat} (h : installSlot s cls = some i) : i < 2 ∧
    (look (2 * cls + i) s.seq.tables = none ∨ ∃ t, look (2 * cls + i) s.seq.tables = some t ∧ slotLoad s t = 0) := by
  have hfree (j : Nat) (hj : (look (2 * cls + j) s.seq.tables).isNone = true) :
      look (2 * cls + j) s.seq.tables = none ∨ ∃ t, look (2 * cls + j) s.seq.tables = some t ∧ slotLoad s t = 0 :=
    .inl (Option.isNone_iff_eq_none.mp hj)
  have hidle (j : Nat) (hj : (look (2 * cls + j) s.seq.tables).any (fun t => slotLoad s t == 0) = true) :
      look (2 * cls + j) s.seq.tables = none ∨ ∃ t, look (2 * cls + j) s.seq.tables = some t ∧ slotLoad s t = 0 := by
    obtain ⟨t, ht, hl⟩ := (Option.any_eq_true ..).mp hj
    exact .inr ⟨t, ht, by simpa using hl⟩
  unfold installSlot at h
  extract_lets at_ free idle cur at h
  split at h
  · next h0 => cases h; exact ⟨by omega, hfree 0 h0⟩
  split at h
  · next h1 => cases h; exact ⟨by omega, hfree 1 h1⟩
  split at h
  · next hb =>
    obtain ⟨h0, h1⟩ := Bool.and_eq_true_iff.mp hb
    split at h
    · cases h; exact ⟨by omega, hidle 1 h1⟩
    · cases h; exact ⟨by omega, hidle 0 h0⟩
  split at h
  · next h0 => cases h; exact ⟨by omega, hidle 0 h0⟩
  split at h
  · next h1 => cases h; exact ⟨by omega, hidle 1 h1⟩
  · cases h

/-- A table's slot freed, and its class with the last one. -/
def tableFreed (i id : Nat) (s : State) : State :=
  let u := onSeq (fun x => { x with tables := del i x.tables }) s
  when (u.seq.tables.all (fun t => t.1 / 2 != id / 256)) (onSeq (fun x => { x with classOwner := del (id / 256) x.classOwner })) u

theorem tableFreed_tables (i id : Nat) (s : State) : (tableFreed i id s).seq.tables = del i s.seq.tables := by
  unfold tableFreed
  extract_lets u
  cases u.seq.tables.all (fun t => t.1 / 2 != id / 256) <;> rfl

theorem touch_tableFreed (i id : Nat) (s : State) : Touches [.seq] s (tableFreed i id s) :=
  touch_when (touch_onSeq (fun _ h => h) (touch_refl _ s)) (fun _ h => touch_onSeq (fun _ h => h) h)

theorem tableRemove_of_resident {k i : Nat} {t : TSlot} {c : Cmd} {s : State} (h : tableOf s (u16 c.bytes 12) = some (i, t)) :
    tableRemove k c s = if classForeign s (Op.car c.bytes) (u16 c.bytes 12 / 256) then completeReason k Status.accessDenied 4 s
      else if slotLoad s t ≠ 0 then completeReason k Status.accessDenied 5 s
      else complete k Status.ok 0 0 (tableFreed i (u16 c.bytes 12) s) := by
  unfold tableRemove
  dsimp only
  rw [h]
  rfl

theorem tableRemove_of_absent {k : Nat} {c : Cmd} {s : State} (h : tableOf s (u16 c.bytes 12) = none)
    (hf : classForeign s (Op.car c.bytes) (u16 c.bytes 12 / 256) = false) :
    tableRemove k c s = complete k Status.badCommand 0 0 s := by
  unfold tableRemove
  dsimp only
  rw [h]
  exact if_neg (by rw [hf]; decide)

/-! ### Weights -/

theorem weightLoad_of_fault {k st : Nat} {c : Cmd} {s : State} (h : weightLoadFault s c.bytes = some st) (hst : st ≠ Status.claimed) :
    weightLoad k c s = complete k st 0 0 s := by
  unfold weightLoad weightLoadRun
  rw [h]
  dsimp only
  rw [beq_false_of_ne hst, when_false]

theorem weightLoad_of_plain {k : Nat} {c : Cmd} {d : List Byte} {s : State} (h : weightLoadFault s c.bytes = none) (hp : c.phase = 1)
    (hw : c.want = 0) (hd : c.dataStep s (u32 c.bytes 36) true c.buf = .have_ d) (hb : bit (u8 c.bytes 18) 0 = false) :
    weightLoad k c s =
      if d.length = weightSize (u8 c.bytes 17) (u16 c.bytes 20) (u16 c.bytes 22) (u16 c.bytes 24) then storeWeight k c d s
      else complete k Status.badCommand 0 0 s := by
  have hdat (t : State) : weightData t c d = .ok d := if_neg (by rw [hb]; decide)
  unfold weightLoad weightLoadRun
  rw [h]
  dsimp only
  rw [withData_of_have (by omega) hw hd, hdat]

theorem freeUse_weights (u : FrameUse) (s : State) : (freeUse u s).seq.weights = s.seq.weights :=
  forEach_keeps (P := fun t : State => t.seq.weights = s.seq.weights) _ _ s rfl fun k t ht => by
    obtain ⟨fr, cf, bf, rt, h, -⟩ := freeLoc_seq (.hbm k.1 k.2) t
    rw [h]
    exact ht

end Sys2Proof.Machine

namespace Sys2Proof.Proofs

open Sys2Proof Sys2Proof.Machine

/-- Settles O36: a table's image and a matrix are taken or refused by checks made in order. -/
theorem tablesAndWeightsAreLoadedAndRemoved : Obligations.TablesAndWeightsAreLoadedAndRemoved := by
  unfold Obligations.TablesAndWeightsAreLoadedAndRemoved
  refine ⟨fun k c s h => ⟨fun hn => (done_started h).trans (congrArg _ (if_pos hn)), fun hn hw => ?waits, fun hn hw hp => ?header,
      fun hn hw hp => ?image⟩, fun k addr n c whole f s h => fetchTo_in_clear h,
    fun k c d s => ⟨installAccept_of_malformed, installAccept_of_foreign, installAccept_of_own⟩,
    fun k id i c d s hn h hid => installDone_of_named hn h hid, fun s cls i h => installSlot_some h,
    fun k i t c s h ht => ⟨fun hf => ?foreign, fun hf hu => ?used, fun hf hu => ⟨tableFreed i (u16 c.bytes 12) s, (done_started h).trans (congrArg _ ?eq), ?freed⟩⟩,
    fun k c s h ht hf => (done_started h).trans (congrArg _ (tableRemove_of_absent ht hf)),
    fun k c s h hf => ⟨fun hp => ?asks, fun d hp hw hd hb => (done_started h).trans (congrArg _ (weightLoad_of_plain hf hp hw hd hb))⟩,
    fun k st c s h hf hst => (done_started h).trans (congrArg _ (weightLoad_of_fault hf hst)), fun b s h => ?range,
    fun k c s h => ?free, fun id s => ?gone⟩
  case waits => rw [show exec (.tableInstall k) s = _ from done_started h, tableInstall_of_sized s hn, if_pos hw]
  case header =>
    rw [show exec (.tableInstall k) s = _ from done_started h, tableInstall_of_sized s hn, if_neg (not_not_intro hw), if_neg hp]
  case image =>
    rw [show exec (.tableInstall k) s = _ from done_started h, tableInstall_of_sized s hn, if_neg (not_not_intro hw), if_pos hp]
  case foreign => exact (done_started h).trans (congrArg _ ((tableRemove_of_resident ht).trans (if_pos hf)))
  case used =>
    exact (done_started h).trans (congrArg _ ((tableRemove_of_resident ht).trans ((if_neg (by rw [hf]; decide)).trans (if_pos hu))))
  case eq => exact (tableRemove_of_resident ht).trans ((if_neg (by rw [hf]; decide)).trans (if_neg (not_not_intro hu)))
  case freed =>
    rw [tableFreed_tables]
    exact ⟨look_del_self .., fun j hj => look_del_ne _ hj, Touches.sameRegs (touch_tableFreed i (u16 c.bytes 12) s) (by decide),
      Touches.mem (touch_tableFreed i (u16 c.bytes 12) s) (by decide)⟩
  case asks =>
    refine (done_started h).trans (congrArg _ ?_)
    unfold weightLoad weightLoadRun
    rw [hf]
    exact withData_of_first hp
  case range =>
    unfold weightLoadFault
    dsimp only
    rw [h]
    rfl
  case free =>
    refine (done_started h).trans (congrArg _ ?_)
    unfold weightFree
    rfl
  case gone =>
    unfold dropWeight
    rw [freeUse_weights]
    exact look_del_self ..

end Sys2Proof.Proofs
end

section
/-! PROOF. Sequences created, freed, forked, frozen, thawed, linked and queried (R161, R179 to R187, R190, R607, R608). -/

namespace Sys2Proof.Machine

open Sys2Proof

/-! ### Creation and freeing -/

theorem seqCreate_of_malformed {k : Nat} {c : Cmd} {s : State}
    (h : Op.seqId c.bytes = 0 ∨ seqPresent s (Op.seqId c.bytes) = true ∨ createInRange c.bytes = false ∨
      setUsable s (Op.car c.bytes) (u16 c.bytes 18) = false) : seqCreate k c s = complete k Status.badCommand 0 0 s := by
  have hf : (Op.seqId c.bytes != 0 && !seqPresent s (Op.seqId c.bytes) &&
      (pexpOf s.im (bit (u8 c.bytes 15) 0) (bits (u8 c.bytes 15) 1 3) (u16 c.bytes 12)).isSome && createInRange c.bytes &&
      setUsable s (Op.car c.bytes) (u16 c.bytes 18)) = false := by
    rcases h with h | h | h | h <;> simp [h]
  unfold seqCreate
  dsimp only
  rw [hf]
  rfl

theorem seqCreate_of_formed {k e : Nat} {c : Cmd} {s : State}
    (he : pexpOf s.im (bit (u8 c.bytes 15) 0) (bits (u8 c.bytes 15) 1 3) (u16 c.bytes 12) = some e)
    (h1 : Op.seqId c.bytes ≠ 0) (h2 : seqPresent s (Op.seqId c.bytes) = false) (h3 : createInRange c.bytes = true)
    (h4 : setUsable s (Op.car c.bytes) (u16 c.bytes 18) = true) : seqCreate k c s =
      if (!bit (u8 c.bytes 26) 0 || (s.im.protected_ (Op.car c.bytes) && s.canEncrypt (Op.car c.bytes))) &&
        decide (seqsOf s (Op.car c.bytes) < s.im.maxSeqs (Op.car c.bytes)) then
        match takeSeqTables (Op.car c.bytes) (u16 c.bytes 16) s with
        | none => completeReason k Status.accessDenied 1 s
        | some (d, r, v) => complete k Status.ok 0 e (setSeq (Op.seqId c.bytes) (createDesc c.bytes e d r) v)
      else complete k Status.accessDenied 0 0 s := by
  have hf : (Op.seqId c.bytes != 0 && !seqPresent s (Op.seqId c.bytes) && Option.isSome (some e) && createInRange c.bytes &&
      setUsable s (Op.car c.bytes) (u16 c.bytes 18)) = true := by simp [h1, h2, h3, h4]
  unfold seqCreate
  dsimp only
  rw [he, hf, firstFail_pair]
  cases (!bit (u8 c.bytes 26) 0 || (s.im.protected_ (Op.car c.bytes) && s.canEncrypt (Op.car c.bytes))) &&
    decide (seqsOf s (Op.car c.bytes) < s.im.maxSeqs (Op.car c.bytes)) <;> rfl

theorem complete_seqs (k st detail res : Nat) (s : State) : (complete k st detail res s).seq.seqs = s.seq.seqs := by
  cases h : s.cmd k with
  | none => rw [complete_of_none h]
  | some c => rw [complete_seq (by rw [h]; simp)]

theorem freeLoc_seqs (l : Loc) (s : State) : (freeLoc l s).seq.seqs = s.seq.seqs := by
  obtain ⟨fr, cf, bf, rt, h, -⟩ := freeLoc_seq l s
  rw [h]

theorem freeBlocks_seqs (bs : List Nat) (s : State) : (freeBlocks bs s).seq.seqs = s.seq.seqs :=
  forEach_keeps (P := fun t : State => t.seq.seqs = s.seq.seqs) _ _ _ rfl fun _ t ht => (freeLoc_seqs _ t).trans ht

theorem freeSeqTables_seqs (seq : Nat) (q : Seqd) (s : State) : (freeSeqTables seq q s).seq.seqs = s.seq.seqs := freeBlocks_seqs ..

theorem watchFree_seqs (n : Nat) (s : State) : (watchFree n s).seq.seqs = s.seq.seqs := by
  unfold watchFree
  cases look n s.owl.watches with
  | none => rfl
  | some w =>
    dsimp only
    cases w.wait with
    | none => rfl
    | some k => exact complete_seqs ..

theorem watchFreeSeq_seqs (seq : Nat) (s : State) : (watchFreeSeq seq s).seq.seqs = s.seq.seqs :=
  forEach_keeps (P := fun t : State => t.seq.seqs = s.seq.seqs) _ _ s rfl fun n t ht => (watchFree_seqs n t).trans ht

theorem dropWarm_seqs (seq : Nat) (s : State) : (dropWarm seq s).seq.seqs = s.seq.seqs := by
  unfold dropWarm
  split
  · rfl
  · exact forEach_keeps (P := fun t : State => t.seq.seqs = s.seq.seqs) _ _ _ rfl fun _ t ht => (freeLoc_seqs _ t).trans ht

theorem freeSeq_look (seq : Nat) (s : State) : look seq (freeSeq seq s).seq.seqs = none := by
  unfold freeSeq
  cases h : look seq s.seq.seqs with
  | none => exact h
  | some q =>
    dsimp only
    rw [onPark_seq, dropWarm_seqs, watchFreeSeq_seqs, freeSeqTables_seqs, onSeq_seq]
    exact look_del_self ..

/-! ### Forks -/

theorem change2_of_own {k e o b : Nat} {c : Cmd} {layer : Option Nat} {f : Seqd → State → State} {q : Seqd} {s t : State}
    (h : OwnChange k e o layer c q s t) (hb : mayChange s b (.cmd k) = true) :
    change2 (Op.seqId c.bytes) b (.cmd k) (onOwnSeq k c layer f) s = f q t := by
  obtain ⟨-, hq, hcar, hm, hr⟩ := h
  unfold change2
  rw [if_neg (by rw [hm]; decide), if_neg (by rw [hb]; decide),
    onOwnSeq_of_some (show look _ (dropWait (.cmd k) s).seq.seqs = some q from hq), if_neg (not_not_intro hcar), hr]
  rfl

theorem seqFork_of_first {k : Nat} {c : Cmd} {q : Seqd} {s t : State} (h : OwnChange k 1 0x22 none c q s t) (hp : c.phase = 0)
    (hb : mayChange s (u32 c.bytes 12) (.cmd k) = true) :
    seqFork k c s = match forkFault t (Op.seqId c.bytes) (u32 c.bytes 12) (u32 c.bytes 16) q with
      | some st => complete k st 0 0 t
      | none => setCmd k { c with phase := 1 } (setBusy (u32 c.bytes 12) k (setBusy (Op.seqId c.bytes) k t)) := by
  unfold seqFork
  rw [if_pos hp]
  exact change2_of_own h hb

theorem seqFork_of_next {k : Nat} {c : Cmd} {q : Seqd} {s : State} (hp : c.phase ≠ 0)
    (hq : look (Op.seqId c.bytes) s.seq.seqs = some q) :
    seqFork k c s = match forkChild (Op.seqId c.bytes) (u32 c.bytes 12) (u32 c.bytes 16) q (clearBusy k s) with
      | some v => complete k Status.ok 0 0 v
      | none => completeReason k Status.accessDenied 1 (clearBusy k s) := by
  unfold seqFork
  rw [if_neg hp]
  unfold forkEnd
  dsimp only
  rw [show look (Op.seqId c.bytes) (clearBusy k s).seq.seqs = some q from hq] <;> rfl

/-! ### Freezes and thaws -/

theorem seqFreeze_of_own {k : Nat} {c : Cmd} {q : Seqd} {s t : State} (h : OwnChange k 1 0x23 none c q s t)
    (hn : snapshotPos s (Op.seqId c.bytes) = none) : seqFreeze k c s =
      if q.parked then complete k Status.frozen 0 0 t
      else if t.seqHeld q.car (Op.seqId c.bytes) then complete k Status.aborted 0 0 t
      else complete k Status.ok 0 0 (freezeAt (Op.seqId c.bytes) (if q.st = 2 then min q.freeze (u32 c.bytes 12) else u32 c.bytes 12)
        (if bit (u8 c.bytes 16) 0 then forEach q.recs (fun r => truncateLayer (Op.seqId c.bytes) (u32 c.bytes 12) q r.1 r.2) t
          else t)) := by
  unfold seqFreeze
  dsimp only
  rw [hn, if_neg (by simp)]
  exact change_of_own h

theorem seqThaw_of_own {k : Nat} {c : Cmd} {q : Seqd} {s t : State} (h : OwnChange k 1 0x24 none c q s t) : seqThaw k c s =
      if q.parked then complete k Status.frozen 0 0 t
      else if t.seqHeld q.car (Op.seqId c.bytes) then complete k Status.aborted 0 0 t
      else if q.st = 1 then complete k Status.ok 0 0 t
      else if bit (u8 c.bytes 12) 0 && (t.seq.staged.filter (fun x => x.seq == Op.seqId c.bytes)).any
          (fun x => appendWaits t (x.append q.car)) then waitChange (Op.seqId c.bytes) (.cmd k) t
      else thawRun k (Op.seqId c.bytes) (bit (u8 c.bytes 12) 0) q (t.seq.staged.filter (fun x => x.seq == Op.seqId c.bytes)) t := by
  unfold seqThaw
  exact change_of_own h

theorem notParked {q : Seqd} {n : Nat} (h : q.st = n) (hn : n < 3) : q.parked = false := by
  unfold Seqd.parked
  rw [h]
  simpa using hn

theorem stagedWait_any {t : State} {seq car : Nat} :
    (t.seq.staged.filter (fun x => x.seq == seq)).any (fun x => appendWaits t (x.append car)) = true ↔
      ∃ x ∈ t.seq.staged, x.seq = seq ∧ appendWaits t (x.append car) = true := by
  simp

/-! ### Links, node sets and queries -/

theorem addRef_look {p : Nat} {g : Page} {s : State} (h : look p s.seq.pages = some g) :
    look p (addRef p s).seq.pages = some { g with refs := g.refs + 1 } ∧ p ∉ (addRef p s).seq.freeing := by
  unfold addRef
  rw [onSeq_seq]
  refine ⟨?_, by simp [remSet]⟩
  rw [onPage_look_self, h]
  rfl

theorem nodesetLoad_of_ranged {k : Nat} {c : Cmd} (s : State) (h1 : u16 c.bytes 12 ≤ 255) (h2 : 1 ≤ u16 c.bytes 14)
    (h3 : u16 c.bytes 14 ≤ 4096) : nodesetLoad k c s = withData k c (u64 c.bytes 16) (2 * u16 c.bytes 14) (fun d s =>
      match firstFail [
        (((List.range (u16 c.bytes 14)).map (fun i => u16 d (2 * i))).all (fun x => x < 4096) &&
          decide ((List.range (u16 c.bytes 14)).map (fun i => u16 d (2 * i))).Nodup, Status.badCommand),
        (!(look (u16 c.bytes 12) s.seq.sets).any (fun x => x.car != Op.car c.bytes) &&
          s.seq.seqs.all (fun q => q.2.nodeset != u16 c.bytes 12), Status.accessDenied)] with
      | some st => complete k st 0 0 s
      | none => complete k Status.ok 0 0 (onSeq (fun x => { x with
          sets := put (u16 c.bytes 12) { car := Op.car c.bytes,
                                         nodes := (List.range (u16 c.bytes 14)).map (fun i => u16 d (2 * i)) } x.sets }) s)) s := by
  unfold nodesetLoad
  dsimp only
  rw [if_neg (by omega)] <;> rfl

theorem length_descBytes (s : State) (seq : Nat) (q : Seqd) : (descBytes s seq q).length = 64 := by
  unfold descBytes
  generalize tierCount s q Loc.isHbm = a
  generalize tierCount s q Loc.isCxl = b
  generalize formatByte q.latent q.elem q.pexp = f
  simp only [List.length_append, length_leBytes, length_zeros]

end Sys2Proof.Machine

namespace Sys2Proof.Proofs

open Sys2Proof Sys2Proof.Machine

/-- Settles O37: each command on a sequence is its turn, its checks and its one change of the tables. -/
theorem sequencesAreCreatedForkedFrozenAndQueried : Obligations.SequencesAreCreatedForkedFrozenAndQueried := by
  unfold Obligations.SequencesAreCreatedForkedFrozenAndQueried
  refine ⟨?create, fun b e d r => ⟨rfl, rfl, rfl, rfl, rfl⟩, fun k c q s t h hn => ?free, fun seq s => freeSeq_look seq s,
    fun k c q s t h hp hb => (done_started h.1).trans (congrArg _ (seqFork_of_first h hp hb)),
    fun k c q s h hp hq => (done_started h).trans (congrArg _ (seqFork_of_next hp hq)),
    fun k c q s t h hn => ⟨fun hp => ?frozen, fun hp hh => ?aborted, fun hp hh => ?freeze⟩,
    fun seq n q s h => ⟨?frozenAt, rfl⟩,
    fun k c q s t h => ⟨fun hst hh => ?active, fun hst hh hb hx => ?waits, fun hst hh hx => ?thaw⟩,
    fun k c q s t h => fun hf => ?link, fun p g s h => addRef_look h,
    fun k c s h h1 h2 h3 => ⟨fun hp => ?asks, fun d hp hw hd => ⟨fun hr => ?badSet, fun hl hn hs hq => ?goodSet⟩⟩,
    fun k c q s t h => (done_started h.1).trans (congrArg _ ?query), length_descBytes⟩
  case create =>
    intro k e c s h
    dsimp only
    intro he
    refine ⟨fun hb => (done_started h).trans (congrArg _ (seqCreate_of_malformed hb)), fun h1 h2 h3 h4 => ⟨fun hm => ?_, fun hm hp => ?_⟩⟩
    · refine (done_started h).trans (congrArg _ ((seqCreate_of_formed he h1 h2 h3 h4).trans (if_neg ?_)))
      simp only [Bool.and_eq_true, decide_eq_true_eq, not_and]
      omega
    · refine (done_started h).trans (congrArg _ ((seqCreate_of_formed he h1 h2 h3 h4).trans (if_pos ?_)))
      simpa [hm] using hp
  case free =>
    refine (done_started h.1).trans (congrArg _ ?_)
    unfold seqFree
    dsimp only
    rw [notDuring_of_none hn, change_of_own h]
  case frozen => exact (done_started h.1).trans (congrArg _ ((seqFreeze_of_own h hn).trans (if_pos hp)))
  case aborted =>
    exact (done_started h.1).trans (congrArg _ ((seqFreeze_of_own h hn).trans ((if_neg (by rw [hp]; decide)).trans (if_pos hh))))
  case freeze =>
    exact (done_started h.1).trans (congrArg _ ((seqFreeze_of_own h hn).trans
      ((if_neg (by rw [hp]; decide)).trans (if_neg (by rw [hh]; decide)))))
  case frozenAt =>
    unfold freezeAt onSeqd
    rw [onSeq_seq]
    dsimp only
    rw [look_upd_self, h]
    rfl
  case active =>
    refine (done_started h.1).trans (congrArg _ ?_)
    rw [seqThaw_of_own h, notParked hst (by decide), hh]
    exact if_pos hst
  case waits =>
    refine (done_started h.1).trans (congrArg _ ?_)
    rw [seqThaw_of_own h, notParked hst (by decide), hh, hb, stagedWait_any.mpr hx, if_neg Bool.false_ne_true,
      if_neg Bool.false_ne_true, if_neg (by omega)]
    rfl
  case thaw =>
    have hw : (t.seq.staged.filter (fun x => x.seq == Op.seqId c.bytes)).any (fun x => appendWaits t (x.append q.car)) = false := by
      rw [← Bool.not_eq_true, stagedWait_any]
      rintro ⟨x, hm, hs, ha⟩
      rw [hx x hm hs] at ha
      cases ha
    refine (done_started h.1).trans (congrArg _ ?_)
    rw [seqThaw_of_own h, notParked hst (by decide), hh, hw, Bool.and_false, if_neg Bool.false_ne_true,
      if_neg Bool.false_ne_true, if_neg (by omega)]
    rfl
  case link =>
    refine (done_started h.1).trans (congrArg _ ?_)
    unfold pageLink
    dsimp only
    rw [change_of_own h, hf] <;> rfl
  case asks =>
    refine (done_started h).trans (congrArg _ ?_)
    rw [nodesetLoad_of_ranged s h1 h2 h3, withData_of_first hp]
  case badSet =>
    refine (done_started h).trans (congrArg _ ?_)
    rw [nodesetLoad_of_ranged s h1 h2 h3, withData_of_have hp hw hd]
    rw [firstFail_pair, if_neg]
    simp only [Bool.and_eq_true, List.all_eq_true, decide_eq_true_eq, not_and]
    intro hall hnd
    rcases hr with ⟨x, hx, hge⟩ | hr
    · exact absurd (hall x hx) (by omega)
    · exact hr hnd
  case goodSet =>
    refine (done_started h).trans (congrArg _ ?_)
    rw [nodesetLoad_of_ranged s h1 h2 h3, withData_of_have hp hw hd]
    rw [firstFail_pair, if_pos, if_pos]
    · rw [hs]
      simpa using hq
    · simp only [Bool.and_eq_true, List.all_eq_true, decide_eq_true_eq]
      exact ⟨hl, hn⟩
  case query =>
    unfold seqQuery
    dsimp only
    split
    · rfl
    · exact onOwnSeq_of_own h

end Sys2Proof.Proofs
end

section
/-! PROOF. Appends, their turns and rejections, and seals (R175 to R189, R198, R199, R234, R286, R388, R607). -/

namespace Sys2Proof.Machine

open Sys2Proof

/-! ### What each operation reaches -/

section
variable {L : List StPart} {r s : State}

theorem touch_makeRoom {a0 a1 a2 a3 : _} (hL : evrParts ++ [.seq] ⊆ L) (ha3 : Touches L r a3) :
    Touches L r (makeRoom a0 a1 a2 a3) := by
  induction a2 generalizing a3 with
  | zero => exact ha3
  | succ n ih =>
    unfold makeRoom
    refine touch_ite (fun _ => ha3) (fun _ => ?_)
    split
    · exact ha3
    · exact ih (touch_raise (sub_trans hL (by decide)) (touch_onSeq (sub_trans hL (by decide)) ha3))

theorem touch_stageAppend {a0 a1 a2 : _} (hL : evrParts ++ [.seq] ⊆ L) (ha2 : Touches L r a2) :
    Touches L r (stageAppend a0 a1 a2) := by
  unfold stageAppend
  extract_lets -merge +onlyGivenNames y0 x1
  have hx1 : Touches L r x1 := touch_makeRoom (sub_trans hL (by decide)) ha2
  exact touch_onSeq (sub_trans hL (by decide)) hx1

theorem touch_onSeqd {a0 a1 a2 : _} (hL : [.seq] ⊆ L) (ha2 : Touches L r a2) :
    Touches L r (onSeqd a0 a1 a2) := by
  unfold onSeqd
  exact touch_onSeq (sub_trans hL (by decide)) ha2

theorem touch_freezeAt {a0 a1 a2 : _} (hL : [.seq] ⊆ L) (ha2 : Touches L r a2) :
    Touches L r (freezeAt a0 a1 a2) := by
  unfold freezeAt
  exact touch_onSeqd (sub_trans hL (by decide)) ha2

end

/-! ### Messages -/

/-- A message that `Waits` describes is handed to its engine. -/
theorem withMsg_of_waits {src op ty : Nat} {e : RxEntry} {f : RxEntry → State → State} {s : State} (h : Waits (src, op) ty e s) :
    withMsg src op ty f s = f e s := by
  obtain ⟨-, he, hty, hc, hl, hh, hs⟩ := h
  unfold withMsg
  rw [he]
  dsimp only
  rw [if_neg (by simp [hty, hc]), if_neg (by rw [hl]; decide)]
  cases hu : e.epochUse (H.epoch e.hdr) with
  | hold => exact absurd hu hh
  | stale => exact absurd hu hs
  | new => rfl
  | old => rfl

theorem done_waits {src op ty : Nat} {e : RxEntry} {f : RxEntry → State → State} {s : State} (h : Waits (src, op) ty e s) :
    done (live (withMsg src op ty f) s) = .next (f e s) := (done_live h.1).trans (congrArg _ (withMsg_of_waits h))

/-! ### The append command -/

theorem appendCmd_of_first {k : Nat} {c : Cmd} {s : State} (h : c.phase = 0) : appendCmd k c s = appendCmdBegin k c s := if_pos h

theorem appendCmdBegin_of_some {k : Nat} {c : Cmd} {q : Seqd} {s : State} (h : look (Op.seqId c.bytes) s.seq.seqs = some q) :
    appendCmdBegin k c s = if u8 c.bytes 14 = 0 ∨ 32 < u8 c.bytes 14 then complete k Status.badCommand 0 0 s
      else if mayChange s (Op.seqId c.bytes) (.cmd k) = true
        then hostRead k (u64 c.bytes 20) (appendBytes s.im q (u8 c.bytes 14))
          (setCmd k { c with phase := 1, note := [appendBytes s.im q (u8 c.bytes 14)] }
            (setBusy (Op.seqId c.bytes) k (dropWait (.cmd k) s)))
        else waitChange (Op.seqId c.bytes) (.cmd k) s := by
  unfold appendCmdBegin
  dsimp only
  rw [h]
  rfl

theorem appendCmd_of_records {k : Nat} {c : Cmd} {d : List Byte} {s : State} (hp : c.phase = 1) (hw : c.want = 0)
    (hd : c.dataStep s (nth 0 c.note 0) true c.buf = .have_ d) :
    appendCmd k c s = hostRead k (u64 c.bytes 40) (4 * u8 c.bytes 14)
      (setCmd k { c with phase := 2, note := [nth 0 c.note 0, c.buf.length] } s) := by
  unfold appendCmd
  dsimp only
  rw [if_neg (by omega), if_neg (by simp [Cmd.ready, hw]), if_pos hp, hd]
  exact if_pos hp

theorem appendCmd_of_tokens {k : Nat} {c : Cmd} {d tk : List Byte} {s : State} (hp : c.phase = 2) (hw : c.want = 0)
    (hd : c.dataStep s (nth 0 c.note 0) true (c.buf.take (nth 0 c.note 1)) = .have_ d)
    (ht : c.dataStep s (4 * u8 c.bytes 14) true (c.buf.drop (nth 0 c.note 1)) = .have_ tk) :
    appendCmd k c s = appendCmdRun k c d tk s := by
  unfold appendCmd
  dsimp only
  rw [if_neg (by omega), if_neg (by simp [Cmd.ready, hw]), if_neg (by omega), hd]
  dsimp only
  rw [if_neg (by omega), ht]

theorem fabricAppend_of_well {src op : Nat} {e : RxEntry} {q : Seqd} {s : State}
    (hq : look (msgAppend e e.message).seq s.seq.seqs = some q)
    (hw : appendWell s.im q.kv (q.slot s.im) (q.scale s.im) e.message = true) : fabricAppend src op e s =
      if appendWaits s (msgAppend e e.message) then waitChange (msgAppend e e.message).seq (.msg src op) s
      else change (msgAppend e e.message).seq (.msg src op) (fun s => answerAppend (src, op) e (append (msgAppend e e.message) s)) s := by
  unfold fabricAppend
  dsimp only
  rw [hq]
  exact if_neg (by rw [hw]; decide)

/-! ### The append itself -/

theorem append_of_well {a : AppIn} {q : Seqd} {k : Nat} {s : State} (hq : look a.seq s.seq.seqs = some q)
    (hk : localOf s q a.layer (a.start / q.p) = some k) (h1 : a.layer < q.layers) (h2 : 1 ≤ a.count) (h3 : a.count ≤ 32)
    (h4 : a.start + a.count ≤ 16777216) (h5 : (a.start + a.count - 1) / q.p = a.start / q.p)
    (h6 : a.data.length = appendBytes s.im q a.count) : append a s =
      match firstFail [
        (q.car == a.car && (!q.protected_ || s.canEncrypt q.car), Status.accessDenied),
        (!q.parked && !(q.st == 2 && decide (q.freeze < a.start + a.count)), Status.frozen),
        (s.timeServes, Status.timeHoldover),
        (!s.seqHeld q.car a.seq, Status.aborted)] with
      | some st => ((st, 0), s)
      | none => if (readTables a.seq q (some a.layer) s).1 then appendPlaced a q k (readTables a.seq q (some a.layer) s).2
          else ((Status.uncorrectable, 0), (readTables a.seq q (some a.layer) s).2) := by
  unfold append
  rw [hq]
  dsimp only
  rw [hk]
  dsimp only
  rw [decide_eq_true h1, decide_eq_true h2, decide_eq_true h3, decide_eq_true h4, decide_eq_true h5, decide_eq_true h6] <;> rfl

theorem appendAllowed {a : AppIn} {q : Seqd} {s : State} (hc : q.car = a.car) (hp : q.protected_ = false ∨ s.canEncrypt q.car = true) :
    (q.car == a.car && (!q.protected_ || s.canEncrypt q.car)) = true := by
  rw [beq_iff_eq.mpr hc]
  simpa using hp

theorem appendOpen {a : AppIn} {q : Seqd} (hn : q.parked = false) (hf : ¬ (q.st = 2 ∧ q.freeze < a.start + a.count)) :
    (!q.parked && !(q.st == 2 && decide (q.freeze < a.start + a.count))) = true := by
  rw [hn]
  by_cases hst : q.st = 2
  · have : ¬ q.freeze < a.start + a.count := fun h => hf ⟨hst, h⟩
    simp [this]
  · simp [hst]

/-- An append that reaches beyond position 16,777,216 is refused, whatever else it names (R23). -/
theorem append_of_far {a : AppIn} {s : State} (h : 16777216 < a.start + a.count) : append a s = ((Status.badCommand, 0), s) := by
  unfold append
  split
  · rfl
  · dsimp only
    split
    · rfl
    · rw [decide_eq_false (show ¬ a.start + a.count ≤ 16777216 by omega)]
      simp [firstFail]

theorem appendPlaced_of_held {a : AppIn} {q : Seqd} {k : Nat} {s : State} (h : k + 1 < (layerOf s a.seq q a.layer).ordinals ∨
    (k + 1 = (layerOf s a.seq q a.layer).ordinals ∧ a.start + a.count ≤ a.start / q.p * q.p +
      viewOf q (layerOf s a.seq q a.layer) ((layerOf s a.seq q a.layer).ordinals - 1))) :
    appendPlaced a q k s = ((Status.ok, 0), s) := if_pos h

theorem appendPlaced_of_gap {a : AppIn} {q : Seqd} {k : Nat} {s : State} (h : (layerOf s a.seq q a.layer).ordinals < k ∨
    (k = (layerOf s a.seq q a.layer).ordinals ∧ a.start ≠ a.start / q.p * q.p)) :
    appendPlaced a q k s = ((Status.badCommand, 0), s) := by
  unfold appendPlaced
  dsimp only
  rw [if_neg (by omega), if_pos (.inr h)]

theorem appendPlaced_of_fresh {a : AppIn} {q : Seqd} {k : Nat} {s : State} (hk : k = (layerOf s a.seq q a.layer).ordinals)
    (hb : a.start = a.start / q.p * q.p) :
    appendPlaced a q k s = match appendNew a q (layerOf s a.seq q a.layer) k s with
      | .ok t => ((Status.ok, 0), appended a q a.start t)
      | .error st => if st = Status.noPage then ((st, a.start), noPage a q (layerOf s a.seq q a.layer).home s)
        else ((st, 0), when (st == Status.uncorrectable) (noteAppendReads q (layerOf s a.seq q a.layer) k)
          (noteKey st (retiredPage q (layerOf s a.seq q a.layer) k s) q.car s)) := by
  have h : ¬ k + 1 = (layerOf s a.seq q a.layer).ordinals := by omega
  unfold appendPlaced
  dsimp only
  rw [if_neg (by omega), if_neg (by omega), if_neg h, if_neg h] <;> rfl

/-! ### Rejections staged -/

/-- What makes room in the staging buffer drops rejections and records it; nothing else of the sequences changes. -/
theorem makeRoom_seq (half n fuel : Nat) (s : State) :
    ∃ l, (makeRoom half n fuel s).seq = { s.seq with staged := l } := by
  induction fuel generalizing s with
  | zero => exact ⟨s.seq.staged, rfl⟩
  | succ fuel ih =>
    unfold makeRoom
    split
    · exact ⟨s.seq.staged, rfl⟩
    · split
      · exact ⟨s.seq.staged, rfl⟩
      · next x hx =>
        obtain ⟨l, hl⟩ := ih (raise 0x0443 ((look x.seq s.seq.seqs).map (fun q => q.car)) []
          (onSeq (fun y => { y with staged := y.staged.erase x }) s))
        exact ⟨l, hl.trans (by rw [raise_seq]; rfl)⟩

/-- The rejection that stands for an append. -/
def stagedOf (a : AppIn) (half clk : Nat) : Staged :=
  { half := half, seq := a.seq, layer := a.layer, start := a.start, count := a.count, data := a.data, tokens := a.tokens,
    hash := a.hash, due := clk + 1000000 }

theorem stageAppend_seq (a : AppIn) (half : Nat) (s : State) :
    ∃ l, (stageAppend a half s).seq = { s.seq with staged := l ++ [stagedOf a half s.clk] } := by
  obtain ⟨l, hl⟩ := makeRoom_seq half (stagedOf a half s.clk).size s.seq.staged.length s
  exact ⟨l, (congrArg (fun x : SeqSt => { x with staged := x.staged ++ [stagedOf a half s.clk] }) hl).trans rfl⟩

theorem noPage_seq (a : AppIn) (q : Seqd) (home : Nat) (s : State) : ∃ l, (noPage a q home s).seq =
    { s.seq with seqs := upd a.seq (fun q => { q with st := 2, freeze := a.start }) s.seq.seqs,
                 staged := l ++ [stagedOf a home s.clk] } := by
  obtain ⟨l, hl⟩ := stageAppend_seq a home (freezeAt a.seq a.start (when (dirFull s q.car) (raise 0x0445 (some q.car) []) s))
  refine ⟨l, ?_⟩
  unfold noPage
  rw [raise_seq, bump_seq, hl]
  cases dirFull s q.car
  · rfl
  · simp only [when_true, freezeAt, onSeqd, onSeq_seq, onSeq_clk, raise_seq, raise_clk]

theorem noPage_mem (a : AppIn) (q : Seqd) (home : Nat) (s : State) : (noPage a q home s).mem = s.mem := by
  have h : Touches (evrParts ++ [.seq, .reg .BDG_SEQ_C_NOPAGE_COUNT]) s (noPage a q home s) :=
    touch_raise (by decide) (touch_bump (by decide) (touch_stageAppend (by decide) (touch_freezeAt (by decide)
      (touch_when (touch_refl _ s) (fun _ h => touch_raise (by decide) h)))))
  exact h.mem (by decide)

theorem stagedExpire_seq (half : Nat) (s : State) : (stagedExpire half s).seq =
    { s.seq with staged := s.seq.staged.filter (fun x => !(x.half == half && decide (x.due ≤ s.clk))) } := by
  have hf : s.seq.staged.filter (fun x => decide (x ∉ s.seq.staged.filter (fun x => x.half == half && decide (x.due ≤ s.clk)))) =
      s.seq.staged.filter (fun x => !(x.half == half && decide (x.due ≤ s.clk))) :=
    List.filter_congr fun x hx => by simp only [List.mem_filter, hx, true_and, Bool.not_eq_true]; cases
      (x.half == half && decide (x.due ≤ s.clk)) <;> rfl
  unfold stagedExpire
  extract_lets gone u
  have hu : u.seq = { s.seq with staged := s.seq.staged.filter (fun x => !(x.half == half && decide (x.due ≤ s.clk))) } := by
    rw [← hf]
    rfl
  rw [← hu]
  exact Touches.seq (L := evrParts) (touch_forEach (touch_refl _ u) (fun _ _ h => touch_raise (fun _ h => h) h)) (by decide)

/-! ### Seals -/

theorem pageSeal_of_waiting {p : Nat} {j : SealJob} {g : Page} {s : State} (hj : look p s.seq.sealing = some j)
    (hg : look p s.seq.pages = some g) (h : sealMayRun s g.car j = false) : pageSeal p s = s := by
  unfold pageSeal
  rw [hj, hg]
  exact if_neg (by rw [h]; decide)

theorem pageSeal_of_free {p : Nat} {j : SealJob} {g : Page} {s : State} (hj : look p s.seq.sealing = some j)
    (hg : look p s.seq.pages = some g) (h : sealMayRun s g.car j = true) : pageSeal p s = sealWork p j g s := by
  unfold pageSeal
  rw [hj, hg]
  exact if_pos h

theorem sealMayRun_iff {car : Nat} {j : SealJob} {s : State} : sealMayRun s car j = true ↔ gathersFirst s car = false ∧
    ∀ t, j.tile = some t → (∃ e ∈ s.fox.coaches, e.2.open_ = true ∧ t ∈ e.2.own) →
      lookD t 0 s.fox.sealJobs < max 1 (s.rg .BEAR_SEAL_SLOTS 0) := by
  have hany (t : Nat) : s.fox.coaches.any (fun c => c.2.open_ && decide (t ∈ c.2.own)) = true ↔
      ∃ e ∈ s.fox.coaches, e.2.open_ = true ∧ t ∈ e.2.own := by
    rw [List.any_eq_true]
    simp only [Bool.and_eq_true, decide_eq_true_eq]
  unfold sealMayRun
  rw [Bool.and_eq_true, Bool.not_eq_true']
  refine and_congr_right fun _ => ?_
  cases j.tile with
  | none => simp
  | some t =>
    simp only [Option.all_some, Bool.or_eq_true, Bool.not_eq_true', decide_eq_true_eq, Option.some.injEq, forall_eq']
    rw [← Bool.not_eq_true, hany t]
    exact imp_iff_not_or.symm

end Sys2Proof.Machine

namespace Sys2Proof.Proofs

open Sys2Proof Sys2Proof.Machine

/-- Settles O38: an append takes its turn, passes its checks in order, and is placed whole or not at all. -/
theorem appendsAreOrderedAllOrNothing : Obligations.AppendsAreOrderedAllOrNothing := by
  unfold Obligations.AppendsAreOrderedAllOrNothing
  refine ⟨fun k c q s h hq => ⟨fun hp hc => ?badCount, fun hp h1 h2 => ?begins, fun d hp hw hd => ?records,
      fun d tk hp hw hd ht => ?tokens⟩,
    fun src op e q s h hq hw => ⟨fun ha hm => ?answered, fun ha => ?msgWaits⟩,
    fun a q k s hq hk h1 h2 h3 h4 h5 h6 => ⟨fun hc => ?foreign, fun hc hp => ⟨fun hf => ?frozen,
      fun hn hf => ⟨fun ht => ?holdover, fun ht hh => ?held, fun ht hh hr => ?placed⟩⟩⟩,
    fun a q k s => ⟨appendPlaced_of_held, appendPlaced_of_gap, appendPlaced_of_fresh⟩,
    fun a q home s h => ?noPage, fun half s hl => ⟨_, done_live hl, ?expire⟩,
    fun a s h => ⟨congrArg (fun r => r.1.1) (append_of_far h), congrArg Prod.snd (append_of_far h)⟩,
    fun p j g s hl hj hg => ⟨fun h => (done_live hl).trans (congrArg _ (pageSeal_of_waiting hj hg h)), fun h hr => ?unreadable,
      fun h hr => ?sealed⟩,
    fun car j s => sealMayRun_iff, fun t g s h => ?tile, fun seq w s hl hw => (done_live hl).trans (congrArg _ ?resume),
    fun k c s hc ho => ?resumeCmd, fun src op e s he => ?resumeMsg⟩
  case badCount =>
    refine (done_started h).trans (congrArg _ ?_)
    rw [appendCmd_of_first hp, appendCmdBegin_of_some hq, if_pos hc]
  case begins =>
    refine (done_started h).trans (congrArg _ ?_)
    rw [appendCmd_of_first hp, appendCmdBegin_of_some hq, if_neg (by omega)]
  case records => exact (done_started h).trans (congrArg _ (appendCmd_of_records hp hw hd))
  case tokens => exact (done_started h).trans (congrArg _ (appendCmd_of_tokens hp hw hd ht))
  case answered =>
    refine (done_waits h).trans (congrArg _ ?_)
    rw [fabricAppend_of_well hq hw, if_neg (by rw [ha]; decide)]
    exact if_pos hm
  case msgWaits =>
    refine (done_waits h).trans (congrArg _ ?_)
    rw [fabricAppend_of_well hq hw]
    split
    · rfl
    · next hn =>
      have hm := ha.resolve_left hn
      exact if_neg (by rw [hm]; decide)
  case foreign =>
    rw [append_of_well hq hk h1 h2 h3 h4 h5 h6, beq_false_of_ne hc]
    rfl
  case frozen =>
    have h8 : (!q.parked && !(q.st == 2 && decide (q.freeze < a.start + a.count))) = false := by
      rcases hf with hf | ⟨hst, hlt⟩
      · rw [hf]; rfl
      · rw [beq_iff_eq.mpr hst, decide_eq_true hlt]; simp
    rw [append_of_well hq hk h1 h2 h3 h4 h5 h6, appendAllowed hc hp, h8]
    rfl
  case holdover =>
    rw [append_of_well hq hk h1 h2 h3 h4 h5 h6, appendAllowed hc hp, appendOpen hn hf, ht]
    rfl
  case held =>
    rw [append_of_well hq hk h1 h2 h3 h4 h5 h6, appendAllowed hc hp, appendOpen hn hf, ht, hh]
    rfl
  case placed =>
    rw [append_of_well hq hk h1 h2 h3 h4 h5 h6, appendAllowed hc hp, appendOpen hn hf, ht, hh]
    exact if_pos hr
  case noPage =>
    obtain ⟨l, hl⟩ := noPage_seq a q home s
    dsimp only
    rw [hl]
    refine ⟨?_, rfl, noPage_mem a q home s, ⟨stagedOf a home s.clk, ?_, rfl, rfl, rfl, rfl⟩, _, rfl⟩
    · dsimp only
      rw [look_upd_self, h]
      rfl
    · simp
  case expire =>
    have ht : Touches (evrParts ++ [.seq]) s (stagedExpire half.val s) :=
      touch_forEach (touch_onSeq (by decide) (touch_refl _ s)) (fun _ _ h => touch_raise (by decide) h)
    rw [stagedExpire_seq]
    exact ⟨rfl, rfl, rfl, ht.sameRegs (by decide), ht.sameMem (by decide)⟩
  case unreadable =>
    exact (done_live hl).trans (congrArg _ ((pageSeal_of_free hj hg h).trans (if_pos hr)))
  case sealed =>
    exact (done_live hl).trans (congrArg _ ((pageSeal_of_free hj hg h).trans (if_neg (by rw [hr]; decide))))
  case tile =>
    obtain ⟨hm, hmin⟩ := leastBy_eq_some h
    obtain ⟨ht, hh⟩ := List.mem_filter.mp hm
    exact ⟨ht, by simpa using hh, fun u hu hhu => hmin u (List.mem_filter.mpr ⟨hu, by simpa using hhu⟩)⟩
  case resume =>
    unfold sequenceChangeResume
    rw [hw]
  case resumeCmd =>
    unfold resumeWaiter
    dsimp only
    rw [hc]
    dsimp only
    rw [ho]
    rfl
  case resumeMsg =>
    unfold resumeWaiter has
    dsimp only
    rw [he]
    rfl

end Sys2Proof.Proofs
end

section
/-! PROOF. Fox: passes, selection, scores and rows (R231 to R257). -/

namespace Sys2Proof.Machine

open Sys2Proof

/-! ### What each operation reaches -/

section
variable {L : List StPart} {r s : State}

theorem touch_lastUe {a0 a1 a2 a3 a4 : _} (hL : [.reg .MEM_C_LAST_UE_LO_ADDR_LO, .reg .MEM_C_LAST_UE_HI_ADDR_HI, .reg .MEM_C_LAST_UE_HI_GROUP, .reg .MEM_C_LAST_UE_HI_CXL, .reg .MEM_C_LAST_UE_HI_VALID] ⊆ L) (ha4 : Touches L r a4) :
    Touches L r (lastUe a0 a1 a2 a3 a4) := by
  unfold lastUe
  exact touch_setRg (sub_trans hL (by decide)) (touch_setRg (sub_trans hL (by decide)) (touch_setRg (sub_trans hL (by decide)) (touch_setRg (sub_trans hL (by decide)) (touch_setRg (sub_trans hL (by decide)) ha4))))

theorem touch_noteBadFrame {a0 a1 : _} (hL : [.seq] ⊆ L) (ha1 : Touches L r a1) :
    Touches L r (noteBadFrame a0 a1) := by
  unfold noteBadFrame
  exact touch_onSeq (sub_trans hL (by decide)) ha1

theorem touch_cxlError {a0 a1 a2 : _} (hL : evrParts ++ [.reg .MEM_C_CXL_CORR_COUNT, .reg .MEM_C_CXL_UNCORR_COUNT, .reg .MEM_C_LAST_UE_LO_ADDR_LO, .reg .MEM_C_LAST_UE_HI_ADDR_HI, .reg .MEM_C_LAST_UE_HI_GROUP, .reg .MEM_C_LAST_UE_HI_CXL, .reg .MEM_C_LAST_UE_HI_VALID, .seq] ⊆ L) (ha2 : Touches L r a2) :
    Touches L r (cxlError a0 a1 a2) := by
  unfold cxlError
  extract_lets -merge +onlyGivenNames y0 y1 y2 y3 y4 y5
  exact touch_ite (fun _ => touch_bump (sub_trans hL (by decide)) ha2) (fun _ => touch_raise (sub_trans hL (by decide)) (touch_lastUe (sub_trans hL (by decide)) (touch_bump (sub_trans hL (by decide)) (touch_noteBadFrame (sub_trans hL (by decide)) ha2))))

theorem touch_hbmError {a0 a1 a2 a3 : _} (hL : evrParts ++ [.reg .MEM_X_STACK_ERR_CORR, .reg .MEM_C_CORR_COUNT, .reg .MEM_X_STACK_ERR_UNCORR, .reg .MEM_C_UNCORR_COUNT, .mem, .reg .MEM_C_LAST_UE_LO_ADDR_LO, .reg .MEM_C_LAST_UE_HI_ADDR_HI, .reg .MEM_C_LAST_UE_HI_GROUP, .reg .MEM_C_LAST_UE_HI_CXL, .reg .MEM_C_LAST_UE_HI_VALID, .seq] ⊆ L) (ha3 : Touches L r a3) :
    Touches L r (hbmError a0 a1 a2 a3) := by
  unfold hbmError
  extract_lets -merge +onlyGivenNames y0 y1 y2 y3 x4
  have hx4 : Touches L r x4 := touch_ite (fun _ => touch_noteBadFrame (sub_trans hL (by decide)) ha3) (fun _ => ha3)
  exact touch_ite (fun _ => touch_onMem (sub_trans hL (by decide)) (touch_whenSome (touch_bump (sub_trans hL (by decide)) ha3) (fun _ _ h5 => touch_bump (sub_trans hL (by decide)) h5))) (fun _ => touch_raise (sub_trans hL (by decide)) (touch_whenSome (touch_bump (sub_trans hL (by decide)) hx4) (fun _ _ h6 => touch_lastUe (sub_trans hL (by decide)) (touch_bump (sub_trans hL (by decide)) h6))))

theorem touch_codeError {a0 a1 a2 : _} (hL : evrParts ++ [.reg .MEM_C_CXL_CORR_COUNT, .reg .MEM_C_CXL_UNCORR_COUNT, .reg .MEM_C_LAST_UE_LO_ADDR_LO, .reg .MEM_C_LAST_UE_HI_ADDR_HI, .reg .MEM_C_LAST_UE_HI_GROUP, .reg .MEM_C_LAST_UE_HI_CXL, .reg .MEM_C_LAST_UE_HI_VALID, .seq, .reg .MEM_X_STACK_ERR_CORR, .reg .MEM_C_CORR_COUNT, .reg .MEM_X_STACK_ERR_UNCORR, .reg .MEM_C_UNCORR_COUNT, .mem] ⊆ L) (ha2 : Touches L r a2) :
    Touches L r (codeError a0 a1 a2) := by
  unfold codeError
  exact touch_ite (fun _ => touch_hbmError (sub_trans hL (by decide)) ha2) (fun _ => touch_cxlError (sub_trans hL (by decide)) ha2)

theorem touch_noteSpan {a0 a1 a2 : _} (hL : evrParts ++ [.reg .MEM_C_CXL_CORR_COUNT, .reg .MEM_C_CXL_UNCORR_COUNT, .reg .MEM_C_LAST_UE_LO_ADDR_LO, .reg .MEM_C_LAST_UE_HI_ADDR_HI, .reg .MEM_C_LAST_UE_HI_GROUP, .reg .MEM_C_LAST_UE_HI_CXL, .reg .MEM_C_LAST_UE_HI_VALID, .seq, .reg .MEM_X_STACK_ERR_CORR, .reg .MEM_C_CORR_COUNT, .reg .MEM_X_STACK_ERR_UNCORR, .reg .MEM_C_UNCORR_COUNT, .mem] ⊆ L) (ha2 : Touches L r a2) :
    Touches L r (noteSpan a0 a1 a2) := by
  unfold noteSpan
  exact touch_forEach ha2 (fun _ _ h0 => touch_codeError (sub_trans hL (by decide)) h0)

end

/-! ### Coaches -/

@[simp] theorem setCoach_coach_self (id : Nat) (c : Coach) (s : State) : (setCoach id c s).coach id = some c := look_put_self ..

/-- A coach that `Working` describes works on its sequence. -/
theorem withCoach_of_working {id : Nat} {f : Coach → Seqd → State → State} {c : Coach} {q : Seqd} {s : State} (h : Working id c q s) :
    withCoach id f s = f c q s := by
  obtain ⟨-, hc, ho, hcut, hq⟩ := h
  unfold withCoach
  rw [hc]
  dsimp only
  rw [if_neg (by simp [ho]; omega), hq]

theorem done_working {id : Nat} {f : Coach → Seqd → State → State} {c : Coach} {q : Seqd} {s : State} (h : Working id c q s) :
    done (live (withCoach id f) s) = .next (f c q s) := (done_live h.1).trans (congrArg _ (withCoach_of_working h))

/-! ### Passes and scores -/

theorem usableRow_some {s : State} {c : Coach} {g : Page} {r : Nat} : usableRow s c g = some r ↔
    g.foxRow = some r ∧ s.macroSt (r / 512) = 1 ∧ s.serves c.old (.fox (r / 32768)) = some c.car := by
  unfold usableRow
  rw [Option.bind_eq_some_iff]
  constructor
  · rintro ⟨x, hx, hif⟩
    split at hif
    · next h => cases hif; exact ⟨hx, h⟩
    · cases hif
  · rintro ⟨hr, h⟩
    exact ⟨r, hr, if_pos h⟩

theorem length_insertBy {α : Type} (f : α → Nat) (x : α) (l : List α) : (insertBy f x l).length = l.length + 1 := by
  induction l with
  | nil => rfl
  | cons y l ih =>
    unfold insertBy
    split <;> simp [ih]

@[simp] theorem length_sortBy {α : Type} (f : α → Nat) (l : List α) : (sortBy f l).length = l.length := by
  have h (acc : List α) : (l.foldl (fun acc x => insertBy f x acc) acc).length = acc.length + l.length := by
    induction l generalizing acc with
    | nil => rfl
    | cons x l ih => rw [List.foldl_cons, ih, length_insertBy, List.length_cons]; omega
  exact (h []).trans (by simp)

/-- Fewer scored pages than K give no threshold (R239). -/
theorem threshold_of_few {d : List Byte} {all : List Scored} (ht : Desc.topK d = true) (hk : all.length < Desc.k d) :
    threshold d all = none := by
  unfold threshold
  rw [if_pos ht]
  exact List.getElem?_eq_none (by rw [length_sortBy, List.length_map]; omega)

theorem exactCands_mem {s : State} {c : Coach} {q : Seqd} {seen : List Seen} {x : Cand} (h : x ∈ exactCands s c q seen) :
    ∃ e ∈ seen, x.leaf = e.leaf ∧ x.page = e.page ∧ x.always = alwaysIn s c q e ∧
      basePos s q c.layer e.leaf < Prm.pos c.params ∧ 0 < e.view := by
  obtain ⟨e, he, rfl⟩ := List.mem_map.mp h
  obtain ⟨hm, hc⟩ := List.mem_filter.mp he
  obtain ⟨hb, hv⟩ := Bool.and_eq_true_iff.mp hc
  exact ⟨e, hm, rfl, rfl, rfl, of_decide_eq_true hb, of_decide_eq_true hv⟩

/-! ### FOX_SCORE -/

/-- What the note of an error that a read meets may reach. -/
def noteParts : List StPart := evrParts ++ [.reg .MEM_C_CXL_CORR_COUNT, .reg .MEM_C_CXL_UNCORR_COUNT, .reg .MEM_C_LAST_UE_LO_ADDR_LO,
  .reg .MEM_C_LAST_UE_HI_ADDR_HI, .reg .MEM_C_LAST_UE_HI_GROUP, .reg .MEM_C_LAST_UE_HI_CXL, .reg .MEM_C_LAST_UE_HI_VALID, .seq,
  .reg .MEM_X_STACK_ERR_CORR, .reg .MEM_C_CORR_COUNT, .reg .MEM_X_STACK_ERR_UNCORR, .reg .MEM_C_UNCORR_COUNT, .mem]

/-- Tables that could be read leave only the count of corrected errors behind. -/
theorem touch_readTables_of_true {L : List StPart} {seq : Nat} {q : Seqd} {layer : Option Nat} {r s t : State}
    (hL : noteParts ⊆ L) (h : Touches L r s) (ht : readTables seq q layer s = (true, t)) : Touches L r t := by
  have hn (bs : List Nat) (u : State) (hu : Touches L r u) :
      Touches L r (forEach bs (fun b s => noteSpan (blockAddr s.im b) 4096 s) u) :=
    touch_forEach hu (fun _ _ h => touch_noteSpan hL h)
  unfold readTables at ht
  extract_lets u at ht
  have hu : Touches L r u := touch_noteSpan hL h
  split at ht
  · cases (congrArg Prod.fst ht : false = true)
  · cases layer with
    | none =>
      rw [← (Prod.mk.inj ht).2]
      exact hu
    | some l =>
      dsimp only at ht
      split at ht
      · rw [← (Prod.mk.inj ht).2]
        exact hn (layerBlocks q l) u hu
      · cases (congrArg Prod.fst ht : false = true)

theorem readTables_cmd {seq : Nat} {q : Seqd} {layer : Option Nat} {s t : State} (h : readTables seq q layer s = (true, t)) (k : Nat) :
    t.cmd k = s.cmd k := by
  have ht : Touches noteParts s t := touch_readTables_of_true (List.Subset.refl _) (touch_refl _ s) h
  exact cmd_congr (ht.que (by decide)) k

/-- The parameters of a FOX_SCORE's coach: exact mode or not, and POS. -/
def scoreParams (b : List Byte) : List Byte :=
  overwrite (overwrite (zeros 32) 3 (leBytes 1 (b2n (bit (u8 b 15) 0) * 32))) 16 (leBytes 4 (u32 b 16))

/-- The coach of a FOX_SCORE whose data has arrived. -/
def scoreCoach (s : State) (k : Nat) (c : Cmd) (q : Seqd) (d : List Byte) : Coach :=
  let v := u8 c.bytes 14
  cmdCoach s k q.car (Op.seqId c.bytes) (u16 c.bytes 12) v (scoreParams c.bytes) [] (slice d 0 (64 * v)) (slice d (64 * v) (16 * v))
    (slice d (80 * v) 32)

/-- A FOX_SCORE whose data has arrived: its coach begins, or a malformed descriptor ends it. -/
def scoreBegin (k : Nat) (c : Cmd) (q : Seqd) (d : List Byte) (s : State) : State :=
  let v := u8 c.bytes 14
  if (List.range v).all (fun i => descWell (slice (slice d (64 * v) (16 * v)) (16 * i) 16)) then
    addCoach (scoreCoach s k c q d) (setCmd k { c with phase := 2 } s)
  else complete k Status.badCommand 0 0 s

theorem foxScore_of_early {k : Nat} {c : Cmd} {q : Seqd} {s t : State} (h : OwnSeq k 2 0x01 (some (u16 c.bytes 12)) c q s t)
    (hp : c.phase < 2) : foxScore k c s = match scoreFault c q with
      | some st => complete k st 0 0 t
      | none => withData k c (u64 c.bytes 20) (80 * u8 c.bytes 14 + 32) (scoreBegin k c q) t := by
  unfold foxScore
  rw [if_neg (by omega)]
  exact onOwnSeq_of_own h

/-! ### Rows -/

theorem releaseOne_of_row {n p r : Nat} {g : Page} {s : State} (hg : look p s.seq.pages = some g) (hr : g.foxRow = some r) :
    releaseOne (n, s) p = if g.refs = 1 then (n + 1, releaseRow p s) else (n, s) := by
  unfold releaseOne
  dsimp only
  rw [hg, Option.any_some, hr]
  simp

theorem bindOne_of_row {n p r : Nat} {g : Page} {s : State} (hg : look p s.seq.pages = some g) (hr : g.foxRow = some r) :
    bindOne (n, s) p = (n, s) := by
  unfold bindOne
  dsimp only
  rw [hg]
  exact if_pos (.inr (.inl (by rw [hr]; rfl)))

theorem foxRowRefill_of_none {half : Nat} {s : State} (h : s.fox.rowless.filter (refillable s half) = []) :
    foxRowRefill half s = s := by
  unfold foxRowRefill
  rw [h]
  rfl

theorem foxRowRefill_of_recent {half p at_ : Nat} {s : State} (h : s.fox.rowless.filter (refillable s half) = [p])
    (ha : look half s.fox.refillAt = some at_) (hlt : s.clk < at_ + 100) : foxRowRefill half s = s := by
  unfold foxRowRefill
  rw [h, ha]
  exact if_pos (by simpa using hlt)

theorem foxRowRefill_of_due {half p : Nat} {g : Page} {s : State} (hg : look p s.seq.pages = some g)
    (h : s.fox.rowless.filter (refillable s half) = [p]) (ha : look half s.fox.refillAt = none) :
    ∃ r, rowPick s g.car half = some r ∧
      foxRowRefill half s = onFox (fun f => { f with refillAt := put half s.clk f.refillAt }) (bindTo p r g s) := by
  have hp : refillable s half p = true := (List.mem_filter.mp (h ▸ List.mem_singleton_self p : p ∈ s.fox.rowless.filter _)).2
  unfold refillable at hp
  rw [hg, Option.any_some] at hp
  simp only [Bool.and_eq_true] at hp
  obtain ⟨-, hr⟩ := hp
  obtain ⟨r, hr⟩ := Option.isSome_iff_exists.mp hr
  refine ⟨r, hr, ?_⟩
  unfold foxRowRefill
  rw [h, ha]
  dsimp only [mostBy]
  rw [if_neg (by simp), hg]
  dsimp only
  rw [hr]

end Sys2Proof.Machine

namespace Sys2Proof.Proofs

open Sys2Proof Sys2Proof.Machine

/-- Settles O39: a pass scores the rows it can enable, a selection hands on its candidates, and a row is bound or released for
one page at a time. -/
theorem foxScoresSelectsAndBindsRows : Obligations.FoxScoresSelectsAndBindsRows := by
  unfold Obligations.FoxScoresSelectsAndBindsRows
  refine ⟨fun id codes refs c q s h hl hw hf => (done_working h).trans (congrArg _ ?pass), fun s c g r => usableRow_some,
    fun s c v row e code => ⟨⟨of_decide_eq_true, decide_eq_true⟩, fun t hc => ?saturated, rfl, rfl⟩,
    fun d all ht hk => threshold_of_few ht hk,
    fun id c q s h hw hc hl => ⟨fun he => (done_working h).trans (congrArg _ ?exact), fun he => (done_working h).trans (congrArg _ ?scored)⟩,
    fun id c cands reports s hc => ?kept, fun s c q seen x hx => exactCands_mem hx,
    fun k c q s t h => ⟨fun st hp hf => ?fault, fun hp hf => ?asks, fun d hp hf hw hd hds => ?begins⟩,
    fun k c q s t h hf => (done_started h.1).trans (congrArg _ ?bind),
    fun k c q s t h hf => (done_started h.1).trans (congrArg _ ?release),
    fun n p r g s hg hr => ⟨fun h => (releaseOne_of_row hg hr).trans (if_pos h), fun h => (releaseOne_of_row hg hr).trans (if_neg h),
      bindOne_of_row hg hr⟩,
    fun half s hl h => (done_live hl).trans (congrArg _ (foxRowRefill_of_none h)),
    fun half p g s hl hg h => ⟨fun ⟨_, ha, hlt⟩ => (done_live hl).trans (congrArg _ (foxRowRefill_of_recent h ha hlt)), fun ha => ?due⟩⟩
  case pass => exact if_neg (by simp [hl, hw, hf])
  case saturated =>
    cases t with
    | none => rfl
    | some t => simp [isPicked, analogScore, hc]
  case exact => exact (if_neg (by simp [hw, hc, hl])).trans (if_pos he)
  case scored => exact (if_neg (by simp [hw, hc, hl])).trans (if_neg (fun h' => absurd (he.symm.trans h') (by decide)))
  case kept =>
    unfold selectionDone
    rw [hc]
    exact setCoach_coach_self ..
  case fault =>
    refine (done_started h.1).trans (congrArg _ ?_)
    rw [foxScore_of_early h hp, hf]
  case asks =>
    refine (done_started h.1).trans (congrArg _ ?_)
    rw [foxScore_of_early h (by omega), hf]
    exact withData_of_first hp
  case begins =>
    have hk : t.cmd k = some c := (readTables_cmd h.2.2.2 k).trans h.1.2.1
    have hu : foxScore k c s = addCoach (scoreCoach t k c q d) (setCmd k { c with phase := 2 } t) := by
      rw [foxScore_of_early h (by omega), hf]
      exact (withData_of_have (by omega) hw hd).trans (if_pos (List.all_eq_true.mpr fun i hi => hds i (List.mem_range.mp hi)))
    refine ⟨_, scoreCoach t k c q d, (done_started h.1).trans (congrArg _ hu), rfl, rfl, rfl, rfl, rfl, rfl, rfl, rfl, ?_, rfl, ?_, rfl,
      fun _ _ _ => rfl⟩
    · unfold scoreCoach cmdCoach
      dsimp only
      rw [hk]
      rfl
    · rw [show (addCoach (scoreCoach t k c q d) (setCmd k { c with phase := 2 } t)).cmd k = some { c with phase := 2 } from
        look_put_self ..]
      rfl
  case bind =>
    unfold foxRowBind
    rw [onOwnSeq_of_own h, hf]
  case release =>
    unfold foxRowRelease
    rw [onOwnSeq_of_own h, hf]
  case due =>
    obtain ⟨r, hr, hu⟩ := foxRowRefill_of_due hg h ha
    exact ⟨r, hr, (done_live hl).trans (congrArg _ hu)⟩

end Sys2Proof.Proofs
end

section
/-! PROOF. Calibration of Fox's macros (R248 to R252, R256, R257). -/

namespace Sys2Proof.Machine

open Sys2Proof

/-! ### What each operation reaches -/

section
variable {L : List StPart} {r s : State}

theorem touch_releaseMacro {a0 a1 : _} (hL : [.fox, .seq] ⊆ L) (ha1 : Touches L r a1) :
    Touches L r (releaseMacro a0 a1) := by
  unfold releaseMacro
  exact touch_forEach ha1 (fun _ _ h0 => touch_releaseRow (sub_trans hL (by decide)) h0)

theorem touch_macroOut {a0 a1 a2 : _} (hL : evrParts ++ [.reg .FOX_M_STAT_STATE] ⊆ L) (ha2 : Touches L r a2) :
    Touches L r (macroOut a0 a1 a2) := by
  unfold macroOut
  exact touch_ite (fun _ => touch_raise (sub_trans hL (by decide)) (touch_setRg (sub_trans hL (by decide)) ha2)) (fun _ => ha2)

theorem touch_setMacro {a0 a1 a2 : _} (hL : [.fox] ⊆ L) (ha2 : Touches L r a2) :
    Touches L r (setMacro a0 a1 a2) := by
  unfold setMacro
  exact touch_onFox (sub_trans hL (by decide)) ha2

theorem touch_beginCal {a0 a1 a2 : _} (hL : evrParts ++ [.fox, .reg .FOX_M_STAT_STATE] ⊆ L) (ha2 : Touches L r a2) :
    Touches L r (beginCal a0 a1 a2) := by
  unfold beginCal
  extract_lets -merge +onlyGivenNames y0
  exact touch_setMacro (sub_trans hL (by decide)) (touch_macroOut (sub_trans hL (by decide)) ha2)

theorem touch_macroCheck {a0 a1 a2 a3 : _} (hL : evrParts ++ [.reg .FOX_M_STAT_STATE] ⊆ L) (ha3 : Touches L r a3) :
    Touches L r (macroCheck a0 a1 a2 a3) := by
  unfold macroCheck
  exact touch_ite (fun _ => touch_macroOut (sub_trans hL (by decide)) ha3) (fun _ => touch_ite (fun _ => touch_macroOut (sub_trans hL (by decide)) ha3) (fun _ => touch_ite (fun _ => touch_macroOut (sub_trans hL (by decide)) ha3) (fun _ => ha3)))

theorem touch_compensate {a0 a1 : _} (hL : [.fox] ⊆ L) (ha1 : Touches L r a1) :
    Touches L r (compensate a0 a1) := by
  unfold compensate
  extract_lets -merge +onlyGivenNames y0 y1 y2 y3
  exact touch_ite (fun _ => ha1) (fun _ => touch_setMacro (sub_trans hL (by decide)) ha1)

theorem touch_calFail {a0 a1 a2 : _} (hL : evrParts ++ [.reg .FOX_M_STAT_FAILS, .reg .FOX_M_STAT_SIGMA, .reg .FOX_M_STAT_STATE, .fox, .seq] ⊆ L) (ha2 : Touches L r a2) :
    Touches L r (calFail a0 a1 a2) := by
  unfold calFail
  extract_lets -merge +onlyGivenNames y0 y1 x2
  have hx2 : Touches L r x2 := touch_setRg (sub_trans hL (by decide)) (touch_setRg (sub_trans hL (by decide)) (touch_setMacro (sub_trans hL (by decide)) ha2))
  exact touch_ite (fun _ => touch_raise (sub_trans hL (by decide)) (touch_releaseMacro (sub_trans hL (by decide)) (touch_setRg (sub_trans hL (by decide)) hx2))) (fun _ => touch_setRg (sub_trans hL (by decide)) hx2)

end

/-! ### An array under each update -/

@[simp] theorem setMacro_macro_self (m : Nat) (x : Macro) (s : State) : (setMacro m x s).macro_ m = x := lookD_put_self ..

theorem setMacro_macro_ne {m n : Nat} (x : Macro) (s : State) (h : n ≠ m) : (setMacro m x s).macro_ n = s.macro_ n :=
  lookD_put_ne _ _ _ h

@[simp] theorem setMacro_rg (m : Nat) (x : Macro) (s : State) (n : RN) (i : Nat) : (setMacro m x s).rg n i = s.rg n i := rfl

@[simp] theorem setMacro_mem (m : Nat) (x : Macro) (s : State) : (setMacro m x s).mem = s.mem := rfl

@[simp] theorem setMacro_evr (m : Nat) (x : Macro) (s : State) : (setMacro m x s).evr = s.evr := rfl

theorem macro_congr {s t : State} (h : t.fox = s.fox) (m : Nat) : t.macro_ m = s.macro_ m := by
  unfold State.macro_
  rw [h]

theorem fails_width : RN.width .FOX_M_STAT_FAILS = 2 := rfl
theorem sigma_width : RN.width .FOX_M_STAT_SIGMA = 8 := rfl
theorem state_width : RN.width .FOX_M_STAT_STATE = 2 := rfl
theorem adcGain_width : RN.width .FOX_M_ADC_GAIN = 12 := rfl

/-! ### A calibration begins -/

theorem macroOut_of_inCal {m : Nat} {s : State} (h : s.macroSt m = 1) (cause : Nat) : (macroOut m cause s).macroSt m = 2 := by
  unfold macroOut State.macroSt at *
  rw [if_pos h, raise_rg_of_ne _ _ _ _ _ _ (by simp) (by simp), setRg_rg_self, state_width]
  rfl

theorem beginCal_macro (m : Nat) (cause : CalCause) (s : State) : ((beginCal m cause s).macro_ m).cal = some cause := by
  unfold beginCal
  rw [setMacro_macro_self]

/-- The FOX_CAL's macros begin; without one it ends at once. -/
def calStarted (k : Nat) (c : Cmd) (ms : List Nat) (s : State) : State :=
  let u := onFox (fun f => { f with cals := put k ms f.cals })
    (forEach ms (fun m => beginCal m (if u8 c.bytes 16 = 1 then .verify else .cmd k)) (setCmd k { c with phase := 1 } s))
  if ms.isEmpty then calEnd k (u32 c.bytes 12) u else u

theorem calStarted_eq (k : Nat) (c : Cmd) (ms : List Nat) (s : State) : calStarted k c ms s =
    if ms = [] then calEnd k (u32 c.bytes 12) (onFox (fun f => { f with cals := put k ms f.cals })
      (forEach ms (fun m => beginCal m (if u8 c.bytes 16 = 1 then .verify else .cmd k)) (setCmd k { c with phase := 1 } s)))
    else onFox (fun f => { f with cals := put k ms f.cals })
      (forEach ms (fun m => beginCal m (if u8 c.bytes 16 = 1 then .verify else .cmd k)) (setCmd k { c with phase := 1 } s)) := by
  cases ms <;> rfl

theorem foxCal_of_first {k : Nat} {c : Cmd} {s : State} (hp : c.phase = 0) : foxCal k c s =
    match firstFail [(decide (u8 c.bytes 16 ≤ 1), Status.badCommand),
      ((bitsOf 32 (u32 c.bytes 12)).all (fun b => s.serves c.old (.fox b) == some (Op.car c.bytes)), Status.accessDenied)] with
    | some st => complete k st 0 0 s
    | none => calStarted k c (((bitsOf 32 (u32 c.bytes 12)).flatMap (fun b => (List.range 64).map (fun i => 64 * b + i))).filter
        (fun m => s.macroSt m == 1 || s.macroSt m == 2)) s := by
  unfold foxCal
  exact if_neg (by omega)

/-! ### A calibration ends -/

/-- What a full calibration solves for the columns. -/
def calColumnParts : List StPart := colFields.map StPart.reg ++ [.freeCtr]

theorem touch_colSet {L : List StPart} {n : RN} {i v : Nat} {r s : State} (hL : [.reg n, .freeCtr] ⊆ L) (h : Touches L r s) :
    Touches L r (freeTaken (setRg n i v s)) := touch_freeTaken (sub_trans hL (by simp)) (touch_setRg (sub_trans hL (by simp)) h)

theorem touch_calColumns_self (m : Nat) (s : State) : Touches calColumnParts s (calColumns m s) :=
  touch_forEach (touch_refl _ s) fun i t h => by
    simp only [colFields, forEach_cons, forEach_nil]
    exact touch_colSet (by decide) (touch_colSet (by decide) (touch_colSet (by decide) (touch_colSet (by decide) (touch_colSet (by decide) (touch_colSet (by decide) (touch_colSet (by decide) (touch_colSet (by decide) h)))))))

theorem touch_calTrims (m : Nat) (off gain : Int) (s : State) :
    Touches (.reg .FOX_M_ADC_OFFSET :: .reg .FOX_M_ADC_GAIN :: calColumnParts) s (calTrims m off gain s) := by
  have hc := touch_calColumns_self m
    (setRg .FOX_M_ADC_GAIN m (clampInt 0 4095 gain).toNat (setRg .FOX_M_ADC_OFFSET m (unsigned 8 (clampInt (-128) 127 off)) s))
  exact (touch_setRg (by decide) (touch_setRg (by decide) (touch_refl _ s)) : Touches _ s _).trans (hc.mono (by decide))

theorem calTrims_gain (m : Nat) (off gain : Int) (s : State) :
    (calTrims m off gain s).rg .FOX_M_ADC_GAIN m = (clampInt 0 4095 gain).toNat := by
  have hb := clampInt_bounds (lo := 0) (hi := 4095) (by decide) gain
  unfold calTrims
  rw [(touch_calColumns_self m _ : Touches _ _ _).rg (by decide), setRg_rg_self, adcGain_width]
  omega

/-- The array's record after a calibration that passed. -/
def calPassed (m : Nat) (off gain : Int) (s : State) : Macro :=
  { s.macro_ m with off := 512 * off, gain := 64 * gain, comp := 0, resid := [], streak := [], calAt := s.clk, cal := none,
                    fresh := false }

/-- The state with the trims that a full calibration found. -/
def calTrimmed (m : Nat) (off gain : Int) (s : State) : State :=
  when (!verifyOnly (s.macro_ m).cal) (calTrims m off gain) (setMacro m (calPassed m off gain s) s)

/-- The state with the trims, the statistics and the calibration point kept. -/
def calNoted (m sigma : Nat) (off gain : Int) (s : State) : State :=
  setRg .FOX_M_CAL_POINT_MV m (macroVolt s m) (setRg .FOX_M_CAL_POINT_TJ m (unsigned 8 (macroTemp s m / 8))
    (setRg .FOX_M_STAT_FAILS m 0 (setRg .FOX_M_STAT_SIGMA m (min 255 sigma) (calTrimmed m off gain s))))

theorem calPass_eq (m sigma : Nat) (off gain : Int) (s : State) : calPass m sigma off gain s =
    if (calNoted m sigma off gain s).rg .FOX_M_HOLD_FORCE_OUT m = 1 then calNoted m sigma off gain s
    else when (s.macroSt m == 2) (raise 0x0503 none []) (setRg .FOX_M_STAT_STATE m 1 (calNoted m sigma off gain s)) := rfl

/-- What a calibration that passed reaches before the array's state. -/
def calPassParts : List StPart := [.reg .FOX_M_CAL_POINT_MV, .reg .FOX_M_CAL_POINT_TJ, .reg .FOX_M_STAT_FAILS,
  .reg .FOX_M_STAT_SIGMA, .fox, .reg .FOX_M_ADC_OFFSET, .reg .FOX_M_ADC_GAIN] ++ calColumnParts

theorem touch_calTrimmed (m : Nat) (off gain : Int) (s : State) : Touches calPassParts s (calTrimmed m off gain s) := by
  have h : Touches calPassParts s (setMacro m (calPassed m off gain s) s) := touch_setMacro (by decide) (touch_refl _ s)
  exact touch_when h fun u hu => hu.trans (Touches.mono (touch_calTrims m off gain u) (by decide))

theorem touch_calNoted (m sigma : Nat) (off gain : Int) (s : State) : Touches calPassParts s (calNoted m sigma off gain s) :=
  touch_setRg (by decide) (touch_setRg (by decide) (touch_setRg (by decide) (touch_setRg (by decide) (touch_calTrimmed m off gain s))))

theorem calTrimmed_macro (m : Nat) (off gain : Int) (s : State) : (calTrimmed m off gain s).macro_ m = calPassed m off gain s := by
  have h (u : State) : (when (!verifyOnly (s.macro_ m).cal) (calTrims m off gain) u).fox = u.fox := by
    cases !verifyOnly (s.macro_ m).cal
    · rfl
    · exact Touches.fox (touch_calTrims m off gain u) (by decide)
  unfold calTrimmed
  rw [macro_congr (h _), setMacro_macro_self]

theorem calTrimmed_whole (m : Nat) (off gain : Int) (s : State) (h : verifyOnly (s.macro_ m).cal = false) :
    (calTrimmed m off gain s).rg .FOX_M_ADC_GAIN m = (clampInt 0 4095 gain).toNat := by
  unfold calTrimmed
  rw [h, Bool.not_false, when_true, calTrims_gain]

theorem calTrimmed_verify (m : Nat) (off gain : Int) (s : State) (h : verifyOnly (s.macro_ m).cal = true) :
    calTrimmed m off gain s = setMacro m (calPassed m off gain s) s := by
  unfold calTrimmed
  rw [h, Bool.not_true, when_false]

theorem calNoted_rg (m sigma : Nat) (off gain : Int) (s : State) : (calNoted m sigma off gain s).rg .FOX_M_STAT_FAILS m = 0 ∧
    (calNoted m sigma off gain s).rg .FOX_M_STAT_SIGMA m = min 255 sigma % 256 ∧
    (calNoted m sigma off gain s).rg .FOX_M_ADC_GAIN m = (calTrimmed m off gain s).rg .FOX_M_ADC_GAIN m ∧
    (calNoted m sigma off gain s).rg .FOX_M_ADC_OFFSET m = (calTrimmed m off gain s).rg .FOX_M_ADC_OFFSET m := by
  unfold calNoted
  refine ⟨?_, ?_, ?_, ?_⟩
  · rw [setRg_rg_ne _ _ (by simp), setRg_rg_ne _ _ (by simp), setRg_rg_self, fails_width]
    rfl
  · rw [setRg_rg_ne _ _ (by simp), setRg_rg_ne _ _ (by simp), setRg_rg_ne _ _ (by simp), setRg_rg_self, sigma_width]
    rfl
  · rw [setRg_rg_ne _ _ (by simp), setRg_rg_ne _ _ (by simp), setRg_rg_ne _ _ (by simp), setRg_rg_ne _ _ (by simp)]
  · rw [setRg_rg_ne _ _ (by simp), setRg_rg_ne _ _ (by simp), setRg_rg_ne _ _ (by simp), setRg_rg_ne _ _ (by simp)]

/-- The array's state after a calibration that passed. -/
theorem calPass_state (m sigma : Nat) (off gain : Int) (s : State) :
    (s.rg .FOX_M_HOLD_FORCE_OUT m = 1 → (calPass m sigma off gain s).macroSt m = s.macroSt m) ∧
    (s.rg .FOX_M_HOLD_FORCE_OUT m = 0 → (calPass m sigma off gain s).macroSt m = 1) := by
  have hu := touch_calNoted m sigma off gain s
  have hf : (calNoted m sigma off gain s).rg .FOX_M_HOLD_FORCE_OUT m = s.rg .FOX_M_HOLD_FORCE_OUT m := Touches.rg hu (by decide) m
  rw [calPass_eq, hf]
  refine ⟨fun h => ?_, fun h => ?_⟩
  · rw [if_pos h]
    exact Touches.rg hu (by decide) m
  · rw [if_neg (by omega)]
    have hst : (setRg .FOX_M_STAT_STATE m 1 (calNoted m sigma off gain s)).macroSt m = 1 := setRg_rg_self ..
    cases s.macroSt m == 2
    · exact hst
    · exact (raise_rg_of_ne _ _ _ _ _ _ (by simp) (by simp)).trans hst

/-- Between the notes and the end, a calibration that passed sets the array's state alone. -/
theorem touch_calPass_noted (m sigma : Nat) (off gain : Int) (s : State) :
    Touches (evrParts ++ [.reg .FOX_M_STAT_STATE]) (calNoted m sigma off gain s) (calPass m sigma off gain s) := by
  rw [calPass_eq]
  exact touch_ite (fun _ => touch_refl _ _) fun _ => touch_when (touch_setRg (by decide) (touch_refl _ _))
    (fun _ h => touch_raise (by decide) h)

theorem calFail_of_few {m sigma : Nat} {s : State} (h : s.rg .FOX_M_STAT_FAILS m < 2) : calFail m sigma s =
    setRg .FOX_M_STAT_STATE m 2 (setRg .FOX_M_STAT_SIGMA m (min 255 sigma) (setRg .FOX_M_STAT_FAILS m
      (min 3 (s.rg .FOX_M_STAT_FAILS m + 1)) (setMacro m { s.macro_ m with calAt := s.clk, cal := none } s))) :=
  if_neg (by omega)

theorem calFail_of_third {m sigma : Nat} {s : State} (h : 2 ≤ s.rg .FOX_M_STAT_FAILS m) : calFail m sigma s =
    raise 0x0508 none [] (releaseMacro m (setRg .FOX_M_STAT_STATE m 3 (setRg .FOX_M_STAT_SIGMA m (min 255 sigma)
      (setRg .FOX_M_STAT_FAILS m (min 3 (s.rg .FOX_M_STAT_FAILS m + 1))
        (setMacro m { s.macro_ m with calAt := s.clk, cal := none } s))))) :=
  if_pos (by omega)

/-! ### Passes and compensation -/

theorem trackMacro_of_free {m : Nat} {rs : List Int} {s : State} (h : s.rg .FOX_M_HOLD_FREEZE m = 0) : ∃ x : Macro, ∃ a b : Nat,
    ∃ o : Int, trackMacro m rs s = macroCheck m o x (setRg .FOX_M_RESID_GAIN m a (setRg .FOX_M_RESID_OFFSET m b
      (setRg .FOX_M_STAT_SIGMA m (min 255 (Config.foxSigma ((rs :: (s.macro_ m).resid).take 1024))) (setMacro m x s)))) ∧
    x.off = (s.macro_ m).off + rs.foldl (fun a r => a + r) 0 ∧ x.lastPass = s.clk ∧ x.resid = (rs :: (s.macro_ m).resid).take 1024 := by
  unfold trackMacro
  dsimp only
  rw [if_neg (by omega)]
  exact ⟨_, _, _, _, rfl, rfl, rfl, rfl⟩

theorem touch_macroCheck_self (m : Nat) (o : Int) (x : Macro) (s : State) :
    Touches (evrParts ++ [.reg .FOX_M_STAT_STATE]) s (macroCheck m o x s) := touch_macroCheck (fun _ h => h) (touch_refl _ s)

/-- The compensation of an array as its monitors stand. -/
def compensated (s : State) (m : Nat) : Macro :=
  if s.macroSt m = 0 ∨ s.rg .FOX_M_HOLD_FREEZE m = 1 then s.macro_ m
  else { s.macro_ m with
    comp := signed 16 (s.rg .FOX_M_TCOMP_ALPHA_T m) * (macroTemp s m - 8 * signed 8 (s.rg .FOX_M_CAL_POINT_TJ m)) +
      8 * signed 16 (s.rg .FOX_M_TCOMP_ALPHA_V m) * ((macroVolt s m : Int) - s.rg .FOX_M_CAL_POINT_MV m) }

theorem compensate_eq (m : Nat) (s : State) : compensate m s = s ∨ compensate m s = setMacro m (compensated s m) s := by
  unfold compensate compensated
  split
  · exact .inl rfl
  · exact .inr rfl

theorem compensate_macro_self (m : Nat) (s : State) : (compensate m s).macro_ m = compensated s m := by
  unfold compensate compensated
  split
  · rfl
  · exact setMacro_macro_self ..

/-- The compensation of one array changes no other's. -/
theorem compensated_compensate {m n : Nat} (s : State) (h : n ≠ m) : compensated (compensate m s) n = compensated s n := by
  rcases compensate_eq m s with he | he <;> rw [he]
  unfold compensated
  rw [setMacro_macro_ne _ _ h]
  rfl

theorem compensate_macro_ne {m n : Nat} (s : State) (h : n ≠ m) : (compensate m s).macro_ n = s.macro_ n := by
  rcases compensate_eq m s with he | he <;> rw [he]
  exact setMacro_macro_ne _ _ h

theorem forEach_compensate {ms : List Nat} (hm : ms.Nodup) (s : State) (n : Nat) :
    (forEach ms compensate s).macro_ n = if n ∈ ms then compensated s n else s.macro_ n := by
  induction ms generalizing s with
  | nil => rfl
  | cons m ms ih =>
    obtain ⟨hn, hm⟩ := List.nodup_cons.mp hm
    rw [forEach_cons, ih hm]
    by_cases h : n = m
    · subst h; simp [hn, compensate_macro_self]
    · simp [h, compensate_macro_ne s h, compensated_compensate s h]

/-- Every array compensated. -/
def allCompensated (s : State) : State := forEach (List.range 2048) compensate (onFox (fun f => { f with compAt := s.clk }) s)

theorem touch_allCompensated (s : State) : Touches [.fox] s (allCompensated s) := by
  unfold allCompensated
  exact touch_forEach (touch_onFox (fun _ h => h) (touch_refl _ s)) (fun _ _ h => touch_compensate (fun _ h => h) h)

theorem allCompensated_compAt (s : State) : (allCompensated s).fox.compAt = s.clk := by
  unfold allCompensated
  refine forEach_keeps (P := fun t : State => t.fox.compAt = s.clk) _ _ _ rfl fun m t ht => ?_
  rcases compensate_eq m t with he | he <;> rw [he] <;> exact ht

theorem allCompensated_macro {m : Nat} (h : m < 2048) (s : State) : (allCompensated s).macro_ m = compensated s m := by
  unfold allCompensated
  rw [forEach_compensate List.nodup_range, if_pos (List.mem_range.mpr h)]
  rfl

theorem foxCompensate_of_due {s : State} (h : s.fox.compAt + 65536 ≤ s.clk) : foxCompensate s = allCompensated s := by
  unfold foxCompensate allCompensated
  exact if_neg (by omega)

theorem foxCompensate_of_early {s : State} (h : s.clk < s.fox.compAt + 65536) : foxCompensate s = s := by
  unfold foxCompensate
  exact if_pos h

/-! ### A block handed over -/

theorem macroHandover_macro (owned : Bool) (m : Nat) (s : State) : (macroHandover owned m s).macro_ m =
    { s.macro_ m with cal := if owned && !decide (3 ≤ s.rg .FOX_M_STAT_FAILS m) then some .handover else none, fresh := owned } := by
  unfold macroHandover
  exact setMacro_macro_self ..

theorem macroHandover_state (owned : Bool) (m : Nat) (s : State) : (macroHandover owned m s).macroSt m =
    if owned = false then 0 else if decide (3 ≤ s.rg .FOX_M_STAT_FAILS m) = true then 3 else 2 := by
  unfold macroHandover State.macroSt
  dsimp only
  rw [setMacro_rg, setRg_rg_self, state_width]
  split
  · rfl
  · split <;> rfl

end Sys2Proof.Machine

namespace Sys2Proof.Proofs

open Sys2Proof Sys2Proof.Machine

/-- Settles O40: what a calibration, a pass and a compensation leave in the array's record and its registers. -/
theorem foxMacrosCalibrate : Obligations.FoxMacrosCalibrate := by
  unfold Obligations.FoxMacrosCalibrate
  refine ⟨fun k c s h hp => ⟨fun hm => ?mode, fun hm ho => ?foreign, fun hm ho => ?begins⟩,
    fun m cause s => ⟨beginCal_macro m cause s, fun h => macroOut_of_inCal h 4,
      Touches.mem (touch_beginCal (fun _ h => h) (touch_refl _ s)) (by decide)⟩,
    fun m ok sigma off gain s hl => ⟨fun hc => ?notCalibrating, fun hc hv hw => ?window, fun hc hv => ?ends⟩,
    fun m sigma off gain s hs => ?pass, fun m sigma s => ⟨fun h => ?few, fun h => ?third, ?failMem⟩,
    fun m s hl => ⟨fun ha ho hd hc hb hcl hf => (done_live hl).trans (congrArg _ ?recal), fun h => (done_live hl).trans (congrArg _ ?noRecal)⟩,
    fun m refs s hl hst hr => (done_live hl).trans (congrArg _ ?idle), fun m rs s h => ?track,
    fun s hl => ⟨fun h => (done_live hl).trans (congrArg _ (foxCompensate_of_early h)), fun h => ?compensates⟩, fun owned m s => ?handover⟩
  case mode =>
    refine (done_started h).trans (congrArg _ ?_)
    rw [foxCal_of_first hp, decide_eq_false (by omega)]
    rfl
  case foreign =>
    refine (done_started h).trans (congrArg _ ?_)
    rw [foxCal_of_first hp, decide_eq_true hm, ho]
    rfl
  case begins =>
    refine (done_started h).trans (congrArg _ ?_)
    rw [foxCal_of_first hp, decide_eq_true hm, ho]
    exact calStarted_eq ..
  case notCalibrating => exact (done_live hl).trans (congrArg _ (if_pos (.inl (by rw [hc]; rfl))))
  case window => exact (done_live hl).trans (congrArg _ (if_pos (.inr ⟨hv, hw⟩)))
  case ends =>
    refine (done_live hl).trans (congrArg _ (if_neg ?_))
    rintro (hn | ⟨h1, h2⟩)
    · exact hc (Option.isNone_iff_eq_none.mp hn)
    · rcases hv with hv | hv
      · rw [hv] at h1; cases h1
      · rw [hv] at h2; cases h2
  case pass =>
    dsimp only
    have ht := touch_calPass_noted m sigma off gain s
    have hu := touch_calNoted m sigma off gain s
    obtain ⟨hfails, hsigma, hgain, hoff⟩ := calNoted_rg m sigma off gain s
    obtain ⟨hforce, hfree⟩ := calPass_state m sigma off gain s
    have hm : (calPass m sigma off gain s).macro_ m = calPassed m off gain s :=
      (macro_congr (ht.fox (by decide)) m).trans (calTrimmed_macro m off gain s)
    rw [ht.rg (by decide), ht.rg (by decide), ht.rg (by decide), ht.rg (by decide), hm, hfails, hsigma, hgain, hoff, ht.mem (by decide),
      Touches.mem hu (by decide)]
    refine ⟨rfl, by omega, rfl, rfl, rfl, rfl, rfl, rfl, fun hv => ?_, fun hv => ?_, hfree, hforce, rfl⟩
    · exact calTrimmed_whole m off gain s hv
    · rw [calTrimmed_verify m off gain s hv]
      exact ⟨rfl, rfl⟩
  case few =>
    rw [calFail_of_few h]
    refine ⟨setRg_rg_self .., ?_, by simp, rfl⟩
    rw [setRg_rg_ne _ _ (by simp), setRg_rg_ne _ _ (by simp), setRg_rg_self, fails_width]
    omega
  case third =>
    rw [calFail_of_third h]
    refine ⟨(raise_rg_of_ne _ _ _ _ _ _ (by simp) (by simp)).trans ?_, _, rfl⟩
    exact (Touches.rg (touch_releaseMacro (fun _ h => h) (touch_refl _ _)) (by decide) m).trans (setRg_rg_self ..)
  case failMem => exact Touches.mem (touch_calFail (fun _ h => h) (touch_refl _ s)) (by decide)
  case recal => exact if_pos ⟨ha, Option.isSome_iff_ne_none.mpr ho, hd, hc, hb, hcl, hf⟩
  case noRecal =>
    refine if_neg ?_
    rintro ⟨h1, h2, h3, h4, h5, h6, -⟩
    rcases h with h | h | h | h | h | h
    · omega
    · rw [h] at h2; cases h2
    · rw [h] at h3; cases h3
    · exact h h4
    · rw [h] at h5; cases h5
    · rw [h] at h6; cases h6
  case idle =>
    unfold foxIdlePass
    by_cases hd : (s.macro_ m.val).lastPass + 1000000 ≤ s.clk
    · rw [if_pos hd, if_neg (by simp [hst, hr]; omega)]
    · rw [if_neg hd, if_pos (.inr (.inr (by omega)))]
  case track =>
    obtain ⟨x, a, b, o, he, hoff, hlast, hresid⟩ := trackMacro_of_free (rs := rs) h
    rw [he]
    have ht := touch_macroCheck_self m o x (setRg .FOX_M_RESID_GAIN m a (setRg .FOX_M_RESID_OFFSET m b
      (setRg .FOX_M_STAT_SIGMA m (min 255 (Config.foxSigma ((rs :: (s.macro_ m).resid).take 1024))) (setMacro m x s))))
    have hm : ∀ u : State, u.fox = (setMacro m x s).fox → u.macro_ m = x := fun u hu => (macro_congr hu m).trans (setMacro_macro_self ..)
    rw [hm _ (ht.fox (by decide)), ht.rg (by decide), ht.mem (by decide), setRg_rg_ne _ _ (by simp), setRg_rg_ne _ _ (by simp),
      setRg_rg_self, sigma_width]
    exact ⟨hoff, hlast, hresid, by omega, rfl⟩
  case compensates =>
    have ht := touch_allCompensated s
    refine ⟨_, (done_live hl).trans (congrArg _ (foxCompensate_of_due h)), allCompensated_compAt s, ht.sameRegs (by decide), ht.evr (by decide),
      ht.sameMem (by decide), fun m hm hz => ?_, fun m hm hst hf => ?_⟩
    · exact (allCompensated_macro hm s).trans (if_pos hz)
    · exact (allCompensated_macro hm s).trans (if_neg (by omega))
  case handover =>
    dsimp only
    refine ⟨?_, fun ho => ⟨?_, ?_⟩, fun ho hf => ⟨?_, ?_⟩, fun ho c half hm => ?_⟩
    · rw [macroHandover_macro]
    · rw [macroHandover_state, ho]; rfl
    · rw [macroHandover_macro, ho]; rfl
    · rw [macroHandover_state, ho, decide_eq_false (by omega)]; rfl
    · rw [macroHandover_macro, ho, decide_eq_false (by omega)]; rfl
    · have := (List.mem_filter.mp hm).2
      rw [macroHandover_macro, ho] at this
      simp at this

end Sys2Proof.Proofs
end

section
/-! PROOF. Coaches: gathering, scoring, merging and BEAR_ATTN (R194 to R197, R271 to R283). -/

namespace Sys2Proof.Machine

open Sys2Proof

/-! ### What each operation reaches -/

section
variable {L : List StPart} {r s : State}

theorem touch_setWindows {a0 a1 a2 : _} (hL : [.seq] ⊆ L) (ha2 : Touches L r a2) :
    Touches L r (setWindows a0 a1 a2) := by
  unfold setWindows
  exact touch_onSeq (sub_trans hL (by decide)) ha2

theorem touch_loadWindow {a0 a1 a2 a3 : _} (hL : [.seq] ⊆ L) (ha3 : Touches L r a3) :
    Touches L r (loadWindow a0 a1 a2 a3) := by
  unfold loadWindow
  extract_lets -merge +onlyGivenNames y0
  exact touch_ite (fun _ => ha3) (fun _ => touch_setWindows (sub_trans hL (by decide)) ha3)

theorem touch_prefetch {a0 a1 a2 : _} (hL : [.seq] ⊆ L) (ha2 : Touches L r a2) :
    Touches L r (prefetch a0 a1 a2) := by
  unfold prefetch
  extract_lets -merge +onlyGivenNames y0
  exact touch_ite (fun _ => touch_forEach ha2 (fun _ _ h1 => touch_loadWindow (sub_trans hL (by decide)) h1)) (fun _ => ha2)

theorem touch_openWindows {a0 a1 a2 : _} (hL : evrParts ++ [.reg .BDG_C_WMISS_COUNT, .seq] ⊆ L) (ha2 : Touches L r a2) :
    Touches L r (openWindows a0 a1 a2) := by
  unfold openWindows
  extract_lets -merge +onlyGivenNames y0 y1 x2
  have hx2 : Touches L r x2 := touch_when ha2 (fun _ h3 => touch_raiseCar (sub_trans hL (by decide)) (touch_bump (sub_trans hL (by decide)) h3))
  exact touch_ite (fun _ => touch_forEach hx2 (fun _ _ h4 => touch_loadWindow (sub_trans hL (by decide)) h4)) (fun _ => touch_forEach ha2 (fun _ _ h5 => touch_setWindows (sub_trans hL (by decide)) h5))

theorem touch_useWeights {a0 a1 a2 : _} (hL : [.seq] ⊆ L) (ha2 : Touches L r a2) :
    Touches L r (useWeights a0 a1 a2) := by
  unfold useWeights
  exact touch_whenSome ha2 (fun _ _ h0 => touch_onSeq (sub_trans hL (by decide)) h0)

end

/-! ### Candidates -/

@[simp] theorem candOf_nil (a : Bool) (e : Seen) : candOf a e [] =
    { leaf := e.leaf, page := e.page, always := a, digital := false, sat := false, b0 := F32.posInf } := rfl

theorem lateCands_subset_gatherCands {s : State} {c : Coach} {q : Seqd} {x : Cand} (h : x ∈ lateCands s c q) : x ∈ gatherCands s c q := by
  unfold gatherCands
  dsimp only
  split <;> simp [h]

/-- A page added since the selection is always included (R241, R244). -/
theorem mem_lateCands_of_seen {s : State} {c : Coach} {q : Seqd} {e : Seen} (he : e ∈ seenPages s c q) (hw : e.leaf ∉ c.walked)
    (h : exactCoach s c = false ∨ (basePos s q c.layer e.leaf < Prm.pos c.params ∧ 0 < e.view)) :
    candOf (!exactCoach s c || alwaysIn s c q e) e [] ∈ lateCands s c q := by
  have hl : e ∈ (seenPages s c q).filter (fun e => decide (e.leaf ∉ c.walked)) := List.mem_filter.mpr ⟨he, decide_eq_true hw⟩
  unfold lateCands
  dsimp only
  cases hx : exactCoach s c with
  | true =>
    obtain ⟨hb, hv⟩ := h.resolve_left (by simp [hx])
    exact List.mem_map.mpr ⟨e, List.mem_filter.mpr ⟨hl, by simp [hb, hv]⟩, by simp⟩
  | false => exact List.mem_map.mpr ⟨e, hl, by simp⟩

theorem mem_coach_on {c : Coach} {h t : Nat} : t ∈ c.on h ↔ t ∈ c.own ∧ t / 32 = h := by simp [Coach.on]

theorem mem_readsOf {s : State} {c : Coach} {cs : List Cand} {h : Nat} {x : Cand} : (h, x) ∈ readsOf s c cs ↔
    x ∈ cs ∧ (∃ g, look x.page s.seq.pages = some g ∧ locHalf s g.loc = h) ∧ ∃ t ∈ c.own, t / 32 = h := by
  have hon : (!(c.on h).isEmpty) = true ↔ ∃ t ∈ c.own, t / 32 = h := by
    simp only [Bool.not_eq_true', List.isEmpty_eq_false_iff_exists_mem, mem_coach_on]
  unfold readsOf
  rw [List.mem_filter, hon]
  simp only [List.mem_filterMap, Option.map_eq_some_iff, Prod.mk.injEq]
  constructor
  · rintro ⟨⟨y, hy, g, hg, hh, rfl⟩, ht⟩
    exact ⟨hy, ⟨g, hg, hh⟩, ht⟩
  · rintro ⟨hx, ⟨g, hg, hh⟩, ht⟩
    exact ⟨⟨x, hx, g, hg, hh, rfl⟩, ht⟩

/-! ### Reading a candidate -/

theorem noteRead_of_clean {l : Loc} {o n : Nat} {s : State} (h : s.mem.bad = []) : noteRead l o n s = s := by
  unfold noteRead
  cases locBase s.im l with
  | none => rfl
  | some b => simp [noteSpan_of_clean h]

theorem forEach_id {α : Type} {l : List α} {f : α → State → State} {s : State} (h : ∀ a, f a s = s) : forEach l f s = s := by
  induction l with
  | nil => rfl
  | cons a l ih => rw [forEach_cons, h, ih]

theorem noteSlots_of_clean {q : Seqd} {g : Page} {n : Nat} {s : State} (hc : g.comp = false) (h : s.mem.bad = []) :
    noteSlots q g n s = s := by
  unfold noteSlots
  rw [if_neg (by simp [hc]), forEach_id (fun j => noteRead_of_clean h), noteRead_of_clean h]

theorem pageRead_mem (c : Coach) (q : Seqd) (p : Nat) (g : Page) (s : State) : (pageRead c q p g s).mem = s.mem := by
  unfold pageRead onPage
  split <;> simp

theorem pageRead_pages (c : Coach) (q : Seqd) (p : Nat) (g : Page) (s : State) :
    (pageRead c q p g s).seq.pages = upd p (fun g => { g with age := 0 }) s.seq.pages := by
  unfold pageRead onPage
  split <;> simp

theorem fetchCand_of_fault {c : Coach} {q : Seqd} {x : Cand} {g : Page} {st : Nat} {s : State} (hg : look x.page s.seq.pages = some g)
    (hf : pageFault s g = some st) (h1 : st ≠ Status.keyRetired) (h2 : st ≠ Status.claimed) : fetchCand c q x s = (.error st, s) := by
  unfold fetchCand
  rw [hg]
  dsimp only
  rw [hf]
  dsimp only
  rw [noteKey_of_other _ _ _ h1, beq_false_of_ne h2]
  rfl

theorem fetchCand_of_readable {c : Coach} {q : Seqd} {x : Cand} {g : Page} {s : State} (hg : look x.page s.seq.pages = some g)
    (hf : pageFault s g = none) (hc : g.comp = false) (hb : s.mem.bad = [])
    (hr : slotsReadable s q g (candSlots s c q x g) = true) :
    fetchCand c q x s = (.ok (candRecs s c q x g), pageRead c q x.page g s) := by
  unfold fetchCand
  rw [hg]
  dsimp only
  rw [hf]
  unfold fetchSlots
  dsimp only
  rw [noteSlots_of_clean hc hb, if_neg (by simp [hr]), if_neg (by simp [hc])]

theorem pageReadIssue_of_wait {id half : Nat} {c : Coach} {q : Seqd} {s : State} (h : Working id c q s)
    (hn : nextRead s id c q half = none) : pageReadIssue id half s = s := by
  unfold pageReadIssue
  rw [withCoach_of_working h, hn]

theorem pageReadIssue_of_next {id half : Nat} {c : Coach} {q : Seqd} {x : Cand} {s : State} (h : Working id c q s)
    (hn : nextRead s id c q half = some x) : pageReadIssue id half s = (match look x.leaf c.ahead with
      | some rs => deliver id c half x rs s
      | none => match fetchCand c q x s with
        | (.ok rs, s) => deliver id c half x rs s
        | (.error st, s) => failCoach id st 0 0 s) := by
  unfold pageReadIssue
  rw [withCoach_of_working h, hn] <;> rfl

theorem nextRead_of_find {s : State} {id half : Nat} {c : Coach} {q : Seqd} {x : Cand} (hg : c.gather = true)
    (hw : waitsFor s id c gatherLeft = false) (hf : c.toRead.find? (fun e => e.1 == half) = some (half, x)) :
    nextRead s id c q half = if ringUsed s c.car half + candSize s c q x ≤ ringShare c half then some x else none := by
  unfold nextRead ringRoom
  rw [if_neg (by simp [hg, hw]), hf]
  simp only [decide_eq_true_eq]

theorem nextRead_eq_none {s : State} {id half : Nat} {c : Coach} {q : Seqd}
    (h : c.gather = false ∨ waitsFor s id c gatherLeft = true ∨ ∀ e ∈ c.toRead, e.1 ≠ half) : nextRead s id c q half = none := by
  unfold nextRead
  by_cases hg : c.gather = false ∨ waitsFor s id c gatherLeft = true
  · rw [if_pos hg]
  · have hr : c.toRead.find? (fun e => e.1 == half) = none :=
      List.find?_eq_none.mpr (fun e he => by simpa using (by tauto : ∀ e ∈ c.toRead, e.1 ≠ half) e he)
    rw [if_neg hg, hr]

/-! ### BEAR_ATTN -/

theorem firstCheck_mem {l : List (Bool × Nat × Nat)} {f : Nat × Nat} (h : firstCheck l = some f) : ∃ b, (b, f) ∈ l := by
  induction l with
  | nil => cases h
  | cons e l ih =>
    obtain ⟨b, r⟩ := e
    cases b with
    | true =>
      obtain ⟨b, hb⟩ := ih (by simpa [firstCheck] using h)
      exact ⟨b, List.mem_cons_of_mem _ hb⟩
    | false => exact ⟨false, by simp [show r = f by simpa [firstCheck] using h]⟩

theorem attnRefused_of_ne {k car : Nat} {f : Nat × Nat} (s : State) (h : f ≠ (Status.badCommand, 8)) :
    attnRefused k car f s = completeReason k f.1 f.2 s := by
  unfold attnRefused
  rw [beq_false_of_ne h]
  rfl

theorem attnParamFault_ne {q : Seqd} {v : Nat} {p : List Byte} {f : Nat × Nat} (h : attnParamFault q v p = some f) :
    f ≠ (Status.badCommand, 8) := by
  obtain ⟨b, hb⟩ := firstCheck_mem h
  rintro rfl
  simp at hb

theorem attnParams_of_fault {k : Nat} {m : Cmd} {q : Seqd} {d : List Byte} {f : Nat × Nat} (s : State) (hp : m.phase ≠ 2)
    (hf : attnParamFault q (u8 m.bytes 14) (slice d 0 32) = some f) : attnParams k m q d s = completeReason k f.1 f.2 s := by
  unfold attnParams
  dsimp only
  rw [if_neg hp, hf]
  exact attnRefused_of_ne s (attnParamFault_ne hf)

theorem attnParams_of_well {k : Nat} {m : Cmd} {q : Seqd} {d : List Byte} (s : State)
    (h : m.phase = 2 ∨ attnParamFault q (u8 m.bytes 14) (slice d 0 32) = none) : attnParams k m q d s =
      fetchTo k { m with phase := 2 } (u64 m.bytes 16) (32 + attnBytes q (slice d 0 32) (u8 m.bytes 14)) true (attnStart k m q) s := by
  have hn : (if m.phase = 2 then none else attnParamFault q (u8 m.bytes 14) (slice d 0 32)) = none := by
    split
    · rfl
    · exact h.resolve_left ‹_›
  unfold attnParams
  dsimp only
  rw [hn]

theorem fetchTo_of_ask {k addr n a : Nat} {c : Cmd} {whole : Bool} {f : List Byte → State → State} {s : State}
    (h : c.dataStep s n whole c.buf = .ask a) : fetchTo k c addr n whole f s = hostReadRaw k (addr + c.buf.length) a (setCmd k c s) := by
  unfold fetchTo
  rw [h]

theorem fetchTo_of_have {k addr n : Nat} {c : Cmd} {whole : Bool} {f : List Byte → State → State} {d : List Byte} {s : State}
    (h : c.dataStep s n whole c.buf = .have_ d) : fetchTo k c addr n whole f s = f d s := by
  unfold fetchTo
  rw [h]

theorem put_put_self {κ α : Type} [DecidableEq κ] (k : κ) (v w : α) (m : List (κ × α)) : put k w (put k v m) = put k w m := by
  induction m with
  | nil => simp [put]
  | cons e m ih =>
    obtain ⟨j, u⟩ := e
    by_cases h : j = k <;> simp [put, h, ih]

@[simp] theorem useWeights_fox (id : Nat) (w : Option (Nat × Nat)) (s : State) : (useWeights id w s).fox = s.fox :=
  Touches.fox (touch_useWeights (fun _ h => h) (touch_refl _ s)) (by decide)

@[simp] theorem prefetch_fox (c : Coach) (q : Seqd) (s : State) : (prefetch c q s).fox = s.fox :=
  Touches.fox (touch_prefetch (fun _ h => h) (touch_refl _ s)) (by decide)

@[simp] theorem openWindows_fox (c : Coach) (q : Seqd) (s : State) : (openWindows c q s).fox = s.fox :=
  Touches.fox (touch_openWindows (fun _ h => h) (touch_refl _ s)) (by decide)

/-- An accepted coach stands at the next ID, with the weights it uses. -/
theorem acceptCoach_coaches (c : Coach) (q : Seqd) (s : State) : ∃ w,
    (acceptCoach c q s).fox.coaches = put s.fox.nextCoach { c with weights := w } s.fox.coaches := by
  unfold acceptCoach addCoach
  extract_lets w
  exact ⟨w, by simp⟩

@[simp] theorem startCoach_coaches (id : Nat) (c : Coach) (q : Seqd) (s : State) :
    (startCoach id c q s).fox.coaches = put id { c with open_ := true } s.fox.coaches := by
  unfold startCoach setCoach
  simp

/-- The command's coach stands open with all that it has read. -/
theorem attnTake_of_none (k : Nat) (m : Cmd) (q : Seqd) (d : List Byte) (s : State) : ∃ w,
    (attnTake k m q d none s).fox.coaches = put s.fox.nextCoach
      { cmdCoach s k q.car (Op.seqId m.bytes) (u16 m.bytes 12) (u8 m.bytes 14) (slice d 0 32)
          (slice d 32 (queryBytes q (slice d 0 32))) (slice d (32 + queryBytes q (slice d 0 32)) (64 * u8 m.bytes 14))
          (slice d (32 + queryBytes q (slice d 0 32) + 64 * u8 m.bytes 14) (16 * u8 m.bytes 14))
          (slice d (32 + queryBytes q (slice d 0 32) + 80 * u8 m.bytes 14) 32) with weights := w, open_ := true } s.fox.coaches := by
  unfold attnTake
  dsimp only
  generalize hc : cmdCoach s k q.car _ _ _ _ _ _ _ _ = c
  obtain ⟨w, hw⟩ := acceptCoach_coaches c q (setCmd k { m with phase := 3, buf := [] } s)
  have hl : (acceptCoach c q (setCmd k { m with phase := 3, buf := [] } s)).coach s.fox.nextCoach = some { c with weights := w } := by
    unfold State.coach
    rw [hw]
    exact look_put_self ..
  rw [hl]
  dsimp only
  refine ⟨w, ?_⟩
  rw [startCoach_coaches, hw, setCmd_fox, put_put_self]

theorem bearAttn_of_own {k : Nat} {m : Cmd} {q : Seqd} {s t : State} (h : OwnSeq k 3 0x01 (some (u16 m.bytes 12)) m q s t)
    (hp : m.phase < 3) (hw : m.want = 0) : bearAttn k m s =
      fetchTo k { m with phase := max 1 m.phase } (u64 m.bytes 16) 32 false (attnParams k m q) t := by
  unfold bearAttn
  rw [if_neg (by omega), onOwnSeq_of_own h, if_neg (by simp [Cmd.ready, hw])]

end Sys2Proof.Machine

namespace Sys2Proof.Proofs

open Sys2Proof Sys2Proof.Machine

/-- Settles O41: a coach that works does what its row says, its guards decided by the clause's premises; a candidate's pages
come by `mem_readsOf`, and the coach of a BEAR_ATTN by `attnTake_of_none`. -/
theorem coachesAreGatheredScoredAndMerged : Obligations.CoachesAreGatheredScoredAndMerged := by
  unfold Obligations.CoachesAreGatheredScoredAndMerged
  refine ⟨fun id c q s hw hg hc hm hf => (done_working hw).trans (congrArg _ ?start),
    fun c q e s he hw h => ⟨_, lateCands_subset_gatherCands (mem_lateCands_of_seen he hw h), by simp, by simp, by simp⟩,
    fun s c cs h x => mem_readsOf,
    fun id half c q s hw => ⟨fun hn => (done_live hw.1).trans (congrArg _ (pageReadIssue_of_wait hw (nextRead_eq_none hn))), ?issue⟩,
    fun x g c q s hg => ⟨fun st => fetchCand_of_fault hg, fun hf hc hb hr => ⟨_, fetchCand_of_readable hg hf hc hb hr, ?_, ?age⟩⟩,
    fun id half c x rs s => setCoach_coach_self ..,
    fun id c q s hw hl hwh ha hm hs hf => (done_working hw).trans (congrArg _ ?absorb), ?score, ?merge,
    fun id half c q s t hw ht hh => (done_working hw).trans (congrArg _ ?unmerged), ?expand, fun a b h => if_pos h,
    fun k m q s t h hp hw => ⟨fun n hd => (done_started h.1).trans (congrArg _ ?ask), fun d hd => (done_started h.1).trans (congrArg _ ?have_)⟩,
    ?params, ?attn⟩
  case start =>
    exact if_neg (by simp [hg, hm, hf, Option.isNone_iff_eq_none, hc])
  case issue =>
    intro x hg hwait hf
    have hnext := nextRead_of_find (q := q) hg hwait hf
    refine ⟨fun hfull => (done_live hw.1).trans (congrArg _ (pageReadIssue_of_wait hw (hnext.trans (if_neg (by omega))))), fun hroom => ?_⟩
    have hread := pageReadIssue_of_next hw (hnext.trans (if_pos hroom))
    refine ⟨fun rs ha => (done_live hw.1).trans (congrArg _ (hread.trans ?_)),
      fun rs t ha hfe => (done_live hw.1).trans (congrArg _ (hread.trans ?_)),
      fun st t ha hfe => (done_live hw.1).trans (congrArg _ (hread.trans ?_))⟩
    · rw [ha]
    · rw [ha, hfe]
    · rw [ha, hfe]
  · exact pageRead_mem ..
  case age =>
    rw [pageRead_pages, look_upd_self, hg]
    rfl
  case absorb =>
    exact if_neg (by simp [hl, hwh, ha, hm, hs, hf])
  case score =>
    intro id tile c q s hw half ts r ht hr hwh ha hh hs hf
    refine (done_working hw).trans (congrArg _ ?_)
    dsimp only
    have hab : ¬ (q.latent = true ∧ c.absorbed.isNone = true) := fun ⟨hl, hn⟩ => ha hl (Option.isNone_iff_eq_none.mp hn)
    rw [if_neg (by simp only [ht, hr, hwh, hab, hh, hs, hf, half, ts, not_true_eq_false, Bool.false_eq_true, or_self, not_false_eq_true,
      Bool.true_eq_false])]
  case merge =>
    intro id half c q s hw ts hts hh hall
    refine (done_working hw).trans (congrArg _ ?_)
    dsimp only
    rw [if_neg (by simpa [hh, hts, ts] using hall)]
  case unmerged =>
    dsimp only
    rw [if_pos (.inr (.inr (List.all_eq_false.mpr ⟨t, ht, by simp [hh]⟩)))]
  case expand =>
    intro id c q s hw hg hr hwh ha hh w d u
    refine (done_working hw).trans (congrArg _ ?_)
    exact if_neg (by simp [hg, hr, hwh]; exact ⟨fun hl => by simpa using ha hl, hh⟩)
  case ask =>
    rw [bearAttn_of_own h hp hw, fetchTo_of_ask (c := { m with phase := max 1 m.phase }) hd]
  case have_ =>
    rw [bearAttn_of_own h hp hw, fetchTo_of_have (c := { m with phase := max 1 m.phase }) hd]
  case params =>
    intro k m q d s v n
    refine ⟨fun f hp hf => attnParams_of_fault s hp hf, fun h => ⟨fun a ha => ?_, fun e he => ?_⟩⟩
    · rw [attnParams_of_well s h, fetchTo_of_ask (c := { m with phase := 2 }) ha]
    · rw [attnParams_of_well s h, fetchTo_of_have (c := { m with phase := 2 }) he]
  case attn =>
    intro k m q d s p n v descs
    refine ⟨fun f hf h8 => ?_, fun hf => ?_⟩
    · unfold attnStart
      dsimp only
      rw [hf]
      exact attnRefused_of_ne s h8
    · obtain ⟨w, hw⟩ := attnTake_of_none k m q d s
      unfold attnStart
      dsimp only
      rw [hf]
      exact ⟨_, hw, rfl, rfl, rfl, rfl, rfl, rfl, rfl, rfl, rfl, rfl, rfl⟩

end Sys2Proof.Proofs

end

section
/-! PROOF. Remote reads and writes (R385 to R397). -/

namespace Sys2Proof.Machine

open Sys2Proof

/-! ### The checks of a message for a page -/

theorem rmaFault_of_outside {e : RxEntry} {write : Bool} {s : State}
    (h : areaSize s.im (H.rflags e.hdr % 4) < H.roff e.hdr + H.msgLen e.hdr) : rmaFault s e write = some Status.badCommand := by
  unfold rmaFault
  dsimp only
  rw [firstFail, if_neg]
  simp only [Bool.and_eq_true, decide_eq_true_eq, not_and]
  exact fun _ => Nat.not_le.mpr h

/-- A message inside its area is checked on from the rights to its page. -/
theorem rmaFault_of_inside {e : RxEntry} {g : Page} {write : Bool} {s : State} (hk : H.rkind e.hdr = 1) (hf : H.rflags e.hdr < 2)
    (hg : look (H.rkey e.hdr) s.seq.pages = some g)
    (ha : H.roff e.hdr + H.msgLen e.hdr ≤ areaSize s.im (H.rflags e.hdr % 4)) : rmaFault s e write = firstFail [
      (g.car == H.car e.hdr && !(write && (g.sealed_ || decide (1 < g.refs))) && !(keyFault s g == some Status.accessDenied),
        Status.accessDenied),
      (e.epochUse (H.epoch e.hdr) != .stale, Status.staleEpoch),
      (H.rgen e.hdr == pageGen s (H.rkey e.hdr), Status.staleGen),
      (!(keyFault s g == some Status.keyRetired), Status.keyRetired),
      (!g.comp || bufferServes s (locHalf s g.loc), Status.claimed),
      (!write || !pageParked s (H.rkey e.hdr), Status.frozen),
      (s.timeServes, Status.timeHoldover),
      (g.loc != .cold, Status.retryAfter),
      (!pageHeld s (H.rkey e.hdr), Status.aborted)] := by
  have hm : H.rflags e.hdr % 4 < 2 := by omega
  unfold rmaFault
  dsimp only
  rw [firstFail, if_pos (by simp [hk, ha]; omega), hg]
  simp [hm]

theorem rmaFault_of_denied {e : RxEntry} {g : Page} {write : Bool} {s : State} (hk : H.rkind e.hdr = 1) (hf : H.rflags e.hdr < 2)
    (hg : look (H.rkey e.hdr) s.seq.pages = some g) (ha : H.roff e.hdr + H.msgLen e.hdr ≤ areaSize s.im (H.rflags e.hdr % 4))
    (h : g.car ≠ H.car e.hdr ∨ (write = true ∧ (g.sealed_ = true ∨ 1 < g.refs))) :
    rmaFault s e write = some Status.accessDenied := by
  rw [rmaFault_of_inside hk hf hg ha, firstFail, if_neg]
  rcases h with h | ⟨hw, h⟩
  · simp [h]
  · rcases h with h | h <;> simp [hw, h]

/-- Past the rights to its page, the epoch and the generation decide. -/
theorem rmaFault_of_allowed {e : RxEntry} {g : Page} {write : Bool} {s : State} (hk : H.rkind e.hdr = 1) (hf : H.rflags e.hdr < 2)
    (hg : look (H.rkey e.hdr) s.seq.pages = some g) (ha : H.roff e.hdr + H.msgLen e.hdr ≤ areaSize s.im (H.rflags e.hdr % 4))
    (hc : g.car = H.car e.hdr) (hw : write = true → g.sealed_ = false ∧ g.refs ≤ 1) (hkey : keyFault s g = none) :
    rmaFault s e write = firstFail [
      (e.epochUse (H.epoch e.hdr) != .stale, Status.staleEpoch),
      (H.rgen e.hdr == pageGen s (H.rkey e.hdr), Status.staleGen),
      (!g.comp || bufferServes s (locHalf s g.loc), Status.claimed),
      (!write || !pageParked s (H.rkey e.hdr), Status.frozen),
      (s.timeServes, Status.timeHoldover),
      (g.loc != .cold, Status.retryAfter),
      (!pageHeld s (H.rkey e.hdr), Status.aborted)] := by
  have hright : (g.car == H.car e.hdr && !(write && (g.sealed_ || decide (1 < g.refs))) && !(keyFault s g == some Status.accessDenied)) =
      true := by
    cases write with
    | false => simp [hc, hkey]
    | true =>
      obtain ⟨hs, hr⟩ := hw rfl
      simp [hc, hkey, hs, hr]
  rw [rmaFault_of_inside hk hf hg ha, hright]
  simp [firstFail, hkey]

/-- The last three checks: time, then the tier of the page, then a hold. -/
theorem firstFail_triple {a b c : Bool} {x y z : Nat} : firstFail [(a, x), (b, y), (c, z)] =
    if a = false then some x else if b = false then some y else if c = false then some z else none := by
  cases a <;> cases b <;> cases c <;> rfl

theorem rmaFault_of_directory {e : RxEntry} {s : State} (hk : H.rkind e.hdr = 1) (hf : H.rflags e.hdr = 2)
    (ha : H.roff e.hdr + H.msgLen e.hdr ≤ 128) : rmaFault s e true = some Status.accessDenied := by
  unfold rmaFault
  dsimp only
  rw [hf, firstFail, if_pos (by simp [hk, areaSize, ha]), firstFail, if_neg (by simp)]

/-! ### Writes -/

theorem rmaWritePart_of_fault {key : Nat × Nat} {p : Nat × List Byte} {e : RxEntry} {st : Nat} {s : State} (he : look key s.prt.rx = some e)
    (hf : rmaFault (onPrt (fun x => { x with rx := put key { e with parts := e.parts.filter (fun x => x.1 != p.1) } x.rx }) s)
      { e with parts := e.parts.filter (fun x => x.1 != p.1) } true = some st) : rmaWritePart key p s =
      rmaRefuse key { e with parts := e.parts.filter (fun x => x.1 != p.1), got := remSet (p.1 / 4096) e.got } st
        (onPrt (fun x => { x with rx := put key { e with parts := e.parts.filter (fun x => x.1 != p.1) } x.rx }) s) := by
  unfold rmaWritePart
  rw [he]
  dsimp only
  rw [hf]

theorem rmaWritePart_of_page {key : Nat × Nat} {p : Nat × List Byte} {e : RxEntry} {g : Page} {s : State} (he : look key s.prt.rx = some e)
    (hg : look (H.rkey e.hdr) s.seq.pages = some g)
    (hf : rmaFault (onPrt (fun x => { x with rx := put key { e with parts := e.parts.filter (fun x => x.1 != p.1) } x.rx }) s)
      { e with parts := e.parts.filter (fun x => x.1 != p.1) } true = none) : rmaWritePart key p s =
      if g.loc.isCxl then stallPacket key { e with parts := e.parts.filter (fun x => x.1 != p.1) } p.1 p.2
        (onPrt (fun x => { x with rx := put key { e with parts := e.parts.filter (fun x => x.1 != p.1) } x.rx }) s)
      else rmaPlace key { e with parts := e.parts.filter (fun x => x.1 != p.1) } g p.1 p.2
        (onPrt (fun x => { x with rx := put key { e with parts := e.parts.filter (fun x => x.1 != p.1) } x.rx }) s) := by
  unfold rmaWritePart
  rw [he]
  dsimp only
  rw [hf, onPrt_seq, hg]

theorem rmaPlace_of_writable {key : Nat × Nat} {e : RxEntry} {g : Page} {off : Nat} {d : List Byte} {s : State}
    (h : canWrite s g.loc (areaBase s.im (H.rflags e.hdr % 4) + H.roff e.hdr + off) d.length = true) :
    rmaPlace key e g off d s = writeLoc g.loc (areaBase s.im (H.rflags e.hdr % 4) + H.roff e.hdr + off) d s := if_pos h

theorem rmaWritten_of_whole {key : Nat × Nat} {e : RxEntry} {s : State} (he : look key s.prt.rx = some e) (hc : e.complete = true)
    (hp : e.parts = []) (hh : s.prt.paging.any (fun x => (H.src x.body, H.opId x.body) == key) = false) :
    rmaWritten key s = ackMsg key e Status.ok 0 0 s := by
  unfold rmaWritten
  rw [he]
  dsimp only
  rw [hc, hp, hh]
  rfl

theorem rmaWrite_of_current {src op : Nat} {e : RxEntry} {s : State} (he : look (src, op) s.prt.rx = some e) (hm : H.mtype e.hdr = 5)
    (ht : e.tooLate s = false) (hh : e.epochUse (H.epoch e.hdr) ≠ .hold) :
    rmaWrite src op s = rmaWritten (src, op) (forEach e.parts (rmaWritePart (src, op)) s) := by
  unfold rmaWrite
  rw [he]
  dsimp only
  rw [if_neg (by simp [hm, MTy.rmaWrite]), if_neg (by simp [ht]), if_neg (by simp [hh])]

/-- A packet that finds the paging buffer full leaves it, and memory, as they are. -/
theorem stallPacket_full {key : Nat × Nat} {e : RxEntry} {off : Nat} {d : List Byte} {s : State}
    (h : 8388608 < pagingUsed s + (packetAt e off d).length) :
    (stallPacket key e off d s).prt.paging = s.prt.paging ∧ (stallPacket key e off d s).mem = s.mem := by
  unfold stallPacket
  extract_lets b n e' t
  rw [if_neg (Nat.not_le.mpr h)]
  have ht : t.prt.paging = s.prt.paging ∧ t.mem = s.mem := by
    unfold t
    split
    · exact ⟨rfl, rfl⟩
    · exact ⟨rfl, rfl⟩
  have hr := touch_raiseFirst (a0 := 0x070F) (a1 := 0) (a2 := some e'.car) (a3 := []) (fun _ h => h)
    (touch_refl evrParts (bump .PRT_C_PAGING_DROP_COUNT e'.car 1 t))
  exact ⟨(congrArg PrtSt.paging ((hr.prt (by decide)).trans (bump_prt ..))).trans ht.1, ((hr.mem (by decide)).trans (bump_mem ..)).trans ht.2⟩

/-! ### Reads and responses -/

theorem rmaRead_of_fault {src op : Nat} {e : RxEntry} {st : Nat} {s : State} (he : look (src, op) s.prt.rx = some e)
    (hm : H.mtype e.hdr = 6) (ht : e.tooLate s = false) (hh : e.epochUse (H.epoch e.hdr) ≠ .hold)
    (hp : s.prt.paging.any (fun x => (H.src x.body, H.opId x.body) == (src, op)) = false) (hf : rmaFault s e false = some st) :
    rmaRead src op s = rmaRefuse (src, op) e st s := by
  unfold rmaRead
  rw [he]
  dsimp only
  rw [if_neg (by simp [hm, MTy.rmaRead, hp]), if_neg (by simp [ht]), if_neg (by simp [hh]), hf]

theorem rmaRead_of_page {src op : Nat} {e : RxEntry} {g : Page} {s : State} (he : look (src, op) s.prt.rx = some e)
    (hm : H.mtype e.hdr = 6) (ht : e.tooLate s = false) (hh : e.epochUse (H.epoch e.hdr) ≠ .hold)
    (hp : s.prt.paging.any (fun x => (H.src x.body, H.opId x.body) == (src, op)) = false) (hf : rmaFault s e false = none)
    (hg : look (H.rkey e.hdr) s.seq.pages = some g) : rmaRead src op s =
      if g.loc.isCxl ∧ H.rflags e.hdr % 4 < 2 then stallPacket (src, op) e 0 [] s else rmaServe (src, op) e g s := by
  unfold rmaRead
  rw [he]
  dsimp only
  rw [if_neg (by simp [hm, MTy.rmaRead, hp]), if_neg (by simp [ht]), if_neg (by simp [hh]), hf, hg]

theorem rmaServe_of_bytes {key : Nat × Nat} {e : RxEntry} {g : Page} {d : List Byte} {s : State} (ha : H.rflags e.hdr % 4 < 2)
    (hc : g.comp = false)
    (hd : areaBytes (notePage g (areaBase s.im (H.rflags e.hdr % 4) + H.roff e.hdr) (H.msgLen e.hdr) s) (H.rkey e.hdr) g
      (H.rflags e.hdr % 4) (H.roff e.hdr) (H.msgLen e.hdr) = some d) : rmaServe key e g s =
      holdRead key (H.rkey e.hdr) (respond key e d
        (notePage g (areaBase s.im (H.rflags e.hdr % 4) + H.roff e.hdr) (H.msgLen e.hdr) s)) := by
  unfold rmaServe
  dsimp only
  rw [if_neg (by omega), hd]
  dsimp only
  rw [if_neg (by simp [hc])]

theorem rmaServe_of_unreadable {key : Nat × Nat} {e : RxEntry} {g : Page} {s : State} (ha : H.rflags e.hdr % 4 < 2)
    (hd : areaBytes (notePage g (areaBase s.im (H.rflags e.hdr % 4) + H.roff e.hdr) (H.msgLen e.hdr) s) (H.rkey e.hdr) g
      (H.rflags e.hdr % 4) (H.roff e.hdr) (H.msgLen e.hdr) = none) : rmaServe key e g s =
      rmaRefuse key e Status.uncorrectable
        (notePage g (areaBase s.im (H.rflags e.hdr % 4) + H.roff e.hdr) (H.msgLen e.hdr) s) := by
  unfold rmaServe
  dsimp only
  rw [if_neg (by omega), hd]

theorem windowCurrent_parts {s : State} {h : List Byte} (hw : windowCurrent s h = true) :
    H.rkind h = 2 ∧ H.roff h + H.msgLen h ≤ 1048576 ∧
    (∃ w, look (H.rkey h) s.prt.windows = some w ∧ w.gen = H.rgen h ∧ w.op = some (H.opId h)) ∧
    ∃ x, look (H.opId h) s.prt.ops = some x ∧ H.dest x.hdr = H.src h := by
  unfold windowCurrent answersOp at hw
  simp only [Bool.and_eq_true, beq_iff_eq, decide_eq_true_eq, Option.any_eq_true] at hw
  obtain ⟨⟨⟨hk, hl⟩, w, hw, hg, ho⟩, x, hx, hd⟩ := hw
  exact ⟨hk, hl, ⟨w, hw, hg, ho⟩, x, hx, hd⟩

/-! ### The paging buffer -/

theorem pagingServed_of_fault {x : Paging} {rest : List Paging} {e : RxEntry} {st : Nat} {s : State} (hx : s.prt.paging = x :: rest)
    (he : look (H.src x.body, H.opId x.body) s.prt.rx = some e)
    (hf : rmaFault (onPrt (fun y => { y with paging := rest }) s) e (H.mtype e.hdr == 5) = some st) :
    pagingServed s = rmaRefuse (H.src x.body, H.opId x.body) e st (onPrt (fun y => { y with paging := rest }) s) := by
  unfold pagingServed
  rw [hx]
  dsimp only
  rw [onPrt_prt]
  dsimp only
  rw [he]
  dsimp only
  rw [show MTy.rmaWrite = 5 from rfl, hf]

theorem pagingServed_of_page {x : Paging} {rest : List Paging} {e : RxEntry} {g : Page} {s : State} (hx : s.prt.paging = x :: rest)
    (he : look (H.src x.body, H.opId x.body) s.prt.rx = some e) (hg : look (H.rkey e.hdr) s.seq.pages = some g)
    (hf : rmaFault (onPrt (fun y => { y with paging := rest }) s) e (H.mtype e.hdr == 5) = none) :
    pagingServed s = if pagedWaits s (H.mtype e.hdr == 5) g then s
      else if H.mtype e.hdr == 5 then rmaWritten (H.src x.body, H.opId x.body) (servePagedWrite (H.src x.body, H.opId x.body) e g
        (H.msgOff x.body) (x.body.drop 104) (onPrt (fun y => { y with paging := rest }) s))
      else rmaServe (H.src x.body, H.opId x.body) e g (onPrt (fun y => { y with paging := rest }) s) := by
  unfold pagingServed
  rw [hx]
  dsimp only
  rw [onPrt_prt]
  dsimp only
  rw [he]
  dsimp only
  rw [show MTy.rmaWrite = 5 from rfl, hf, onPrt_seq, hg]

theorem servePagedWrite_in_clear {key : Nat × Nat} {e : RxEntry} {g : Page} {off : Nat} {d : List Byte} (s : State) (h : g.comp = false) :
    servePagedWrite key e g off d s = rmaPlace key e g off d s := if_neg (by simp [h])

end Sys2Proof.Machine

namespace Sys2Proof.Proofs

open Sys2Proof Sys2Proof.Machine

/-- Settles O43: the checks in their order (`rmaFault_of_inside`, `rmaFault_of_allowed`), then one equation of each row for each
branch that its clauses name. -/
theorem remoteReadsAndWritesAreCheckedAndServed : Obligations.RemoteReadsAndWritesAreCheckedAndServed := by
  unfold Obligations.RemoteReadsAndWritesAreCheckedAndServed
  refine ⟨fun src op e s hl he hm ht hh => (done_live hl).trans (congrArg _ (rmaWrite_of_current he hm ht hh)),
    fun key p e g s he hg => ⟨fun st => rmaWritePart_of_fault he, ?write, ?stall⟩,
    fun key e s => rmaWritten_of_whole, ?fault, fun e s => rmaFault_of_directory,
    fun key e off d s => ⟨fun h => if_pos h, fun h => ?full⟩, ?read,
    fun key e g d s ha hc => ⟨rmaServe_of_bytes ha hc, rmaServe_of_unreadable ha⟩,
    fun src op e s hl he hm => ⟨fun hw => (done_live hl).trans (congrArg _ ?discarded), ?window⟩,
    fun h s => windowCurrent_parts, fun key p s => ⟨List.mem_append_right _ (List.mem_singleton_self _), rfl⟩, ?paging,
    fun key e g off d s hc hw => (servePagedWrite_in_clear s hc).trans (rmaPlace_of_writable hw)⟩
  case write =>
    intro hf hl hw
    rw [rmaWritePart_of_page he hg hf, if_neg (by simp [hl])]
    exact rmaPlace_of_writable hw
  case stall =>
    intro hf hl
    rw [rmaWritePart_of_page he hg hf, if_pos hl]
  case fault =>
    intro e g write s h hk hf hg
    refine ⟨rmaFault_of_outside, fun ha => ⟨rmaFault_of_denied hk hf hg ha, fun hc hw hkey => ?_⟩⟩
    rw [rmaFault_of_allowed hk hf hg ha hc hw hkey]
    refine ⟨fun hs => ?_, fun hs hn => ?_, fun hs hn hcomp => ⟨fun hwr hpark => ?_, fun hpark => ?_⟩⟩
    · rw [firstFail, if_neg (by simp [h, hs])]
    · rw [firstFail, if_pos (by simp [h, hs]), firstFail, if_neg (by simp [h, hn])]
    all_goals rw [firstFail, if_pos (by simp [h, hs]), firstFail, if_pos (by simp [h, hn]), firstFail, if_pos (by simp [hcomp]), firstFail]
    · rw [if_neg (by simp [hwr, show pageParked s (H.rkey e.hdr) = true from hpark])]
    · have hfree : (!write || !pageParked s (H.rkey e.hdr)) = true := by
        cases hwr : write with
        | false => rfl
        | true => exact congrArg (fun b => !b) (hpark hwr)
      rw [if_pos hfree, firstFail_triple]
      simp only [bne_eq_false_iff_eq, Bool.not_eq_false', h]
  case full =>
    obtain ⟨hp, hm⟩ := stallPacket_full h
    exact ⟨hp, fun a => by rw [hm]⟩
  case read =>
    intro src op e g s hl he hm ht hh hp hg
    refine ⟨fun st hf => (done_live hl).trans (congrArg _ (rmaRead_of_fault he hm ht hh hp hf)),
      fun hf hc ha => (done_live hl).trans (congrArg _ ((rmaRead_of_page he hm ht hh hp hf hg).trans (if_pos ⟨hc, ha⟩))),
      fun hf h => (done_live hl).trans (congrArg _ ((rmaRead_of_page he hm ht hh hp hf hg).trans (if_neg ?_)))⟩
    rcases h with h | h
    · simp [h]
    · omega
  case discarded =>
    unfold rmaResp
    rw [he]
    dsimp only
    rw [if_neg (by simp [hm, MTy.rmaResp]), if_pos hw]
  case window =>
    intro hw u
    have hu : rmaResp src.toNat op.toNat s = if e.complete then opEnd op.toNat Status.ok 0 0 (((look (H.rkey e.hdr) u.prt.windows).map
        (fun w => slice w.data (H.roff e.hdr) (H.msgLen e.hdr))).getD []) (rxFree (answerKey src.toNat op.toNat) u) else u := by
      unfold rmaResp
      rw [he]
      dsimp only
      rw [if_neg (by simp [hm, MTy.rmaResp]), if_neg (by simp [hw])]
    refine ⟨fun hc => (done_live hl).trans (congrArg _ (hu.trans (if_neg (by simp [hc])))),
      fun w hc hlook => (done_live hl).trans (congrArg _ (hu.trans ?_))⟩
    rw [if_pos hc, hlook]
    rfl
  case paging =>
    intro x rest e g s hl hx he hg key u
    refine ⟨fun st hf => (done_live hl).trans (congrArg _ (pagingServed_of_fault hx he hf)), fun hf => ?_⟩
    have hp := pagingServed_of_page hx he hg hf
    refine ⟨fun hw => (done_live hl).trans (congrArg _ (hp.trans (if_pos hw))),
      fun hm hw => (done_live hl).trans (congrArg _ (hp.trans ?_)), fun hm => (done_live hl).trans (congrArg _ (hp.trans ?_))⟩
    · rw [if_neg (by simp [hm, hw]), if_pos (by simp [hm])]
    · rw [if_neg (by simp [hm, pagedWaits]), if_neg (by simp [hm])]

end Sys2Proof.Proofs

end

section
/-! PROOF. Operations and their answers, expiry and the port commands (R383 to R402). -/

namespace Sys2Proof.Machine

open Sys2Proof

/-! ### What each operation reaches -/

section
variable {L : List StPart} {r s : State}

theorem touch_undefineWrites {a0 a1 a2 : _} (hL : [.reg .MEM_X_INJECT_ARMED, .mem, .freeCtr] ⊆ L) (ha2 : Touches L r a2) :
    Touches L r (undefineWrites a0 a1 a2) := by
  unfold undefineWrites
  split
  · exact ha2
  · exact touch_ite (fun _ => ha2) (fun _ => touch_forEach ha2 (fun _ _ h0 => touch_ite (fun _ => touch_freeTaken (sub_trans hL (by decide)) (touch_writeLoc (sub_trans hL (by decide)) h0)) (fun _ => h0)))

end

/-! ### Windows and free picks -/

theorem firstFrom_some {p : Nat → Bool} {n i j : Nat} (h : firstFrom p n i = some j) : j < i + n ∧ p j = true := by
  induction n generalizing i with
  | zero => cases h
  | succ n ih =>
    unfold firstFrom at h
    by_cases hp : p i = true
    · rw [if_pos hp] at h
      cases h
      exact ⟨by omega, hp⟩
    · rw [if_neg hp] at h
      obtain ⟨hj, hpj⟩ := ih h
      exact ⟨by omega, hpj⟩

theorem pickBelow_some {n i : Nat} {p : Nat → Bool} {s : State} (h : pickBelow n p s = some i) : i < n ∧ p i = true := by
  obtain ⟨j, hj, rfl⟩ := Option.map_eq_some_iff.mp h
  obtain ⟨hlt, hp⟩ := firstFrom_some hj
  exact ⟨Nat.mod_lt _ (by omega), hp⟩

theorem windowPick_some {w : Nat × Nat} {s : State} (h : windowPick s = some w) : w.1 < 32 ∧
    (∀ x, look w.1 s.prt.windows = some x → x.op = none ∧ w.2 = (x.gen + 1) % 65536) ∧
    (look w.1 s.prt.windows = none → w.2 = 0) := by
  obtain ⟨i, hi, rfl⟩ := Option.map_eq_some_iff.mp h
  obtain ⟨hlt, hfree⟩ := pickBelow_some hi
  refine ⟨hlt, fun x hx => ?_, fun hn => ?_⟩
  · dsimp only at hx ⊢
    rw [hx] at hfree ⊢
    exact ⟨Option.isNone_iff_eq_none.mp hfree, rfl⟩
  · dsimp only at hn ⊢
    rw [hn]
    rfl

theorem look_windowClose {op w : Nat} {x : Window} {s : State} (h : look w (windowClose op s).prt.windows = some x) : x.op ≠ some op := by
  unfold windowClose at h
  rw [onPrt_prt] at h
  dsimp only at h
  rw [look_map_cond (fun w : Window => w.op = some op) (fun w => { w with op := none, data := [] })] at h
  obtain ⟨y, -, rfl⟩ := Option.map_eq_some_iff.mp h
  split
  · simp
  · assumption

/-! ### The end of an operation -/

theorem opEnd_of_look {op status reason detail : Nat} {data : List Byte} {e : SendOp} {s : State} (h : look op s.prt.ops = some e) :
    opEnd op status reason detail data s = whenSome e.cmd (fun k => answerCmd k e status reason detail data)
      (when e.notice sendWaitingNotice (windowClose op (onPrt (fun x => { x with ops := del op x.ops }) s))) := by
  unfold opEnd
  rw [h]

theorem answerCmd_of_ok {k : Nat} {e : SendOp} {reason detail : Nat} {data : List Byte} {c : Cmd} {s : State} (hc : s.cmd k = some c)
    (h : e.mtype ≠ MTy.parkXfer) : answerCmd k e Status.ok reason detail data s =
      complete k Status.ok detail (u32 c.bytes 40) (when (e.mtype == 6) (hostWrite k (u64 c.bytes 32) data) s) := by
  unfold answerCmd
  rw [hc]
  dsimp only
  rw [if_neg (fun hp => h hp.2), if_pos rfl]
  rfl

theorem answerCmd_of_failed {k : Nat} {e : SendOp} {status reason detail : Nat} {data : List Byte} {c : Cmd} {s : State}
    (hc : s.cmd k = some c) (h : status ≠ Status.ok) :
    answerCmd k e status reason detail data s = complete k status detail (reason * 2 ^ 56) s := by
  unfold answerCmd
  rw [hc]
  dsimp only
  rw [if_neg (fun hp => h hp.1), if_neg h]

theorem fabricAck_of_entry {src op : Nat} {e : RxEntry} {s : State} (he : look (answerKey src op) s.prt.rx = some e)
    (hm : H.mtype e.hdr = 8) : fabricAck src op s = if answersOp s src op = true then
      opEnd op (H.status e.hdr) (H.reason e.hdr) (H.detail e.hdr) [] (rxFree (answerKey src op) s) else rxFree (answerKey src op) s := by
  unfold fabricAck
  rw [he]
  dsimp only
  rw [if_neg (by simp [hm, MTy.ack])]
  rfl

theorem fabricNak_of_entry {src op : Nat} {e : RxEntry} {s : State} (he : look (answerKey src op) s.prt.rx = some e)
    (hm : H.mtype e.hdr = 9) : fabricNak src op s = if answersOp s src op = true then
      opEnd op (H.status e.hdr) (H.reason e.hdr) (H.detail e.hdr) [] (rxFree (answerKey src op) s) else rxFree (answerKey src op) s := by
  unfold fabricNak
  rw [he]
  dsimp only
  rw [if_neg (by simp [hm, MTy.nak])]
  rfl

theorem sendWaitingNotice_of_cons {n : Nat × Nat × List Byte} {rest : List (Nat × Nat × List Byte)} {s : State}
    (h : s.prt.notices = n :: rest) : sendWaitingNotice s =
      if s.noticeFree then sendNotice n.1 n.2.1 n.2.2 (onPrt (fun x => { x with notices := rest }) s) else s := by
  unfold sendWaitingNotice
  rw [h]

theorem retransmit_of_look {op : Nat} {e : SendOp} {s : State} (h : look op s.prt.ops = some e) : retransmit op s =
    if s.clk < e.sentAt + retryWait s e then s
    else if e.sends ≤ s.rg .PRT_RTO_RETRIES 0 then
      sendPackets e.hdr e.payload true (bump .PRT_C_RETX_COUNT e.car 1
        (onPrt (fun x => { x with ops := put op { e with sends := e.sends + 1, sentAt := s.clk } x.ops }) s))
    else opEnd op Status.late 0 0 [] (noteLate e s) := by
  unfold retransmit
  rw [h]

/-! ### Expiry -/

theorem rxExpireAt_of_look {key : Nat × Nat} {e : RxEntry} {s : State} (h : look key s.prt.rx = some e) : rxExpireAt key s =
    if e.complete = true ∨ s.clk < e.since + max 1 (s.rg .PRT_RX_TIMEOUT_US 0) * 1000 then s
    else bump .PRT_C_RX_EXPIRED_COUNT e.car 1 (rxFree key (dropPaging key (undefineWrites key e s))) := by
  unfold rxExpireAt
  rw [h]

@[simp] theorem undefineWrites_prt (key : Nat × Nat) (e : RxEntry) (s : State) : (undefineWrites key e s).prt = s.prt :=
  Touches.prt (touch_undefineWrites (fun _ h => h) (touch_refl _ s)) (by decide)

/-- Only an RMA_WRITE leaves bytes undefined. -/
theorem undefineWrites_of_other {key : Nat × Nat} {e : RxEntry} (s : State) (h : H.mtype e.hdr ≠ 5) : undefineWrites key e s = s := by
  unfold undefineWrites
  split
  · rfl
  · exact if_pos (.inl h)

theorem nakFilterExpire_of_look {src op t : Nat} {s : State} (h : look (src, op) s.prt.nakf = some t) : nakFilterExpire src op s =
    if t + 100000 ≤ s.clk then onPrt (fun x => { x with nakf := del (src, op) x.nakf }) s else s := by
  unfold nakFilterExpire
  rw [h]

theorem filtered_of_look {key : Nat × Nat} {t : Nat} {s : State} (h : look key s.prt.nakf = some t) :
    s.filtered key = decide (s.clk < t + 100000) := by
  unfold State.filtered
  rw [h]
  rfl

/-! ### Port commands -/

theorem portCmd_of_first {ty k : Nat} {c : Cmd} {f : State → State} {s : State} (hp : c.phase = 0) : portCmd ty k c f s =
    match portCmdFault s c ty with
    | some r => completeReason k r.1 r.2 s
    | none => f s := by
  unfold portCmd
  rw [if_neg (by omega), if_pos hp] <;> rfl

theorem portCmd_of_fault {ty k : Nat} {c : Cmd} {f : State → State} {r : Nat × Nat} {s : State} (hp : c.phase = 0)
    (h : portCmdFault s c ty = some r) : portCmd ty k c f s = completeReason k r.1 r.2 s := by
  rw [portCmd_of_first hp, h]

theorem portCmd_of_well {ty k : Nat} {c : Cmd} {f : State → State} {s : State} (hp : c.phase = 0)
    (h : portCmdFault s c ty = none) : portCmd ty k c f s = f s := by
  rw [portCmd_of_first hp, h]

theorem portCmd_of_begun {ty k : Nat} {c : Cmd} {f : State → State} {s : State} (hp : c.phase = 1) : portCmd ty k c f s = f s := by
  unfold portCmd
  rw [if_neg (by omega), if_neg (by omega)]

theorem portCmdFault_of_length {c : Cmd} {ty : Nat} {s : State} (h : u32 c.bytes 40 = 0 ∨ 1048576 < u32 c.bytes 40) :
    portCmdFault s c ty = some (Status.badCommand, 0) := by
  unfold portCmdFault
  refine if_pos ?_
  rcases h with h | h
  · simp [h]
  · simp [show ¬ u32 c.bytes 40 ≤ windowSize from Nat.not_le.mpr h]

theorem portCmdFault_of_well {c : Cmd} {ty : Nat} {s : State} (hd : u16 c.bytes 12 < 4096) (hf : u8 c.bytes 14 < 16)
    (h1 : 1 ≤ u32 c.bytes 40) (h2 : u32 c.bytes 40 ≤ 1048576) : portCmdFault s c ty =
      if (s.im.protected_ (Op.car c.bytes) && !qConf s c.q) = true then some (Status.accessDenied, 0)
      else if reachable s (cmdHdr c ty) = false then some (Status.accessDenied, 30)
      else if s.timeServes = false then some (Status.timeHoldover, 0) else none := by
  unfold portCmdFault
  exact if_neg (by simp [hd, hf, h1, show u32 c.bytes 40 ≤ windowSize from h2])

theorem pageSend_of_fault {k : Nat} {c : Cmd} {g : Page} {st : Nat} {s : State} (hp : c.phase = 0)
    (hg : look (u32 c.bytes 32) s.seq.pages = some g) (hf : pageSendFault s c = some st) (h : st ≠ Status.claimed) :
    pageSend k c s = complete k st 0 0 (noteKey st (some g) (Op.car c.bytes) s) := by
  unfold pageSend
  dsimp only
  rw [if_pos hp, hf]
  dsimp only
  rw [hg, beq_false_of_ne h]
  rfl

theorem pageSend_of_well {k : Nat} {c : Cmd} {g : Page} {s : State} (hp : c.phase = 0) (hg : look (u32 c.bytes 32) s.seq.pages = some g)
    (hf : pageSendFault s c = none) (hw : portCmdFault s c MTy.rmaWrite = none) : pageSend k c s =
      match areaBytes (notePage g (areaBase s.im (u8 c.bytes 36)) (u32 c.bytes 40) s) (u32 c.bytes 32) g (u8 c.bytes 36) 0 (u32 c.bytes 40) with
      | none => complete k Status.uncorrectable 0 0 (notePage g (areaBase s.im (u8 c.bytes 36)) (u32 c.bytes 40) s)
      | some d =>
        if g.comp ∧ g.sealed_ ∧ pageDigest (notePage g (areaBase s.im (u8 c.bytes 36)) (u32 c.bytes 40) s) g ≠ g.digest then
          complete k Status.uncorrectable 0 0 (digestFail (u32 c.bytes 32) g.car 3
            (notePage g (areaBase s.im (u8 c.bytes 36)) (u32 c.bytes 40) s))
        else portSend k c (cmdHdr c MTy.rmaWrite) d (notePage g (areaBase s.im (u8 c.bytes 36)) (u32 c.bytes 40) s) := by
  unfold pageSend
  dsimp only
  rw [if_pos hp, hf, hg]
  dsimp only
  rw [portCmd_of_well hp hw] <;> rfl

end Sys2Proof.Machine

namespace Sys2Proof.Proofs

open Sys2Proof Sys2Proof.Machine

/-- Settles O44: an answer ends its operation by `opEnd_of_look`, a wait and an expiry compare with the clock, and a port command's
checks come first (`portCmd_of_first`). -/
theorem operationsEndOnAnswersOrLate : Obligations.OperationsEndOnAnswersOrLate := by
  unfold Obligations.OperationsEndOnAnswersOrLate
  refine ⟨fun src op e s hl he => ⟨fun hm => (done_live hl).trans (congrArg _ (fabricAck_of_entry he hm)),
      fun hm => (done_live hl).trans (congrArg _ (fabricNak_of_entry he hm))⟩,
    ?ends, fun n rest s h => ⟨fun hf => (sendWaitingNotice_of_cons h).trans (if_pos hf),
      fun hf => (sendWaitingNotice_of_cons h).trans (if_neg (by simp [hf]))⟩, ?retransmit, fun tmpl => rfl,
    fun src op s hl => done_live hl, ?expire, ?filter, ?notice, ?send, ?write, ?read, fun w s => windowPick_some,
    fun c ty s => ⟨portCmdFault_of_length, fun hd hf h1 h2 => ?checks⟩, ?page⟩
  case ends =>
    intro op status reason detail data e s h u
    have hend := opEnd_of_look (status := status) (reason := reason) (detail := detail) (data := data) h
    refine ⟨look_del_self .., fun w x => look_windowClose, fun hc => ?_, fun k c hc hn hk => ?_⟩
    · rw [hend, hc]
      rfl
    · rw [hend, hc, hn]
      refine ⟨fun hs hm => ?_, fun hs hm => ?_, answerCmd_of_failed (s := u) hk⟩
      · rw [hs]
        refine (answerCmd_of_ok (s := u) hk (by simp [hm, MTy.parkXfer])).trans ?_
        rw [hm]
        rfl
      · rw [hs]
        refine (answerCmd_of_ok (s := u) hk (by simp [hm, MTy.parkXfer])).trans ?_
        rw [hm]
        rfl
  case retransmit =>
    intro op e s hl h wait
    have hr : retransmit op.toNat s = if s.clk < e.sentAt + wait then s else _ := retransmit_of_look h
    refine ⟨fun hw => (done_live hl).trans (congrArg _ (hr.trans (if_pos hw))),
      fun hw hs => (done_live hl).trans (congrArg _ (hr.trans ?_)), fun hw hs hm => (done_live hl).trans (congrArg _ (hr.trans ?_))⟩
    · rw [if_neg (Nat.not_lt.mpr hw), if_pos hs]
    · rw [if_neg (Nat.not_lt.mpr hw), if_neg (by omega)]
      unfold noteLate
      rw [beq_false_of_ne (show e.mtype ≠ MTy.faultNotice from hm)]
      rfl
  case expire =>
    intro key e s h dueAt t
    have ht := rxExpireAt_of_look h
    refine ⟨fun hw => ht.trans (if_pos hw), fun hc hd => ?_⟩
    have hu : t = bump .PRT_C_RX_EXPIRED_COUNT e.car 1 (rxFree key (dropPaging key (undefineWrites key e s))) :=
      ht.trans (if_neg (by simp only [hc, Bool.false_eq_true, false_or]; exact Nat.not_lt.mpr hd))
    have hrx : t.prt.rx = del key s.prt.rx := by
      rw [hu, bump_prt]
      show del key (undefineWrites key e s).prt.rx = del key s.prt.rx
      rw [undefineWrites_prt]
    refine ⟨by rw [hrx, look_del_self], fun k hk => by rw [hrx, look_del_ne _ hk], fun hm => ?_⟩
    rw [hu, undefineWrites_of_other s hm]
    exact ⟨fun n i hn => bump_rg_ne _ (by simp [show n ≠ _ from by simpa using hn]), fun a => by rw [bump_mem]; rfl, bump_rg_self ..⟩
  case filter =>
    intro src op t s hl h
    have hf := filtered_of_look h
    have hx := nakFilterExpire_of_look h
    exact ⟨fun ht => ⟨(done_live hl).trans (congrArg _ (hx.trans (if_neg (by omega)))), hf.trans (decide_eq_true ht)⟩,
      fun ht => ⟨(done_live hl).trans (congrArg _ (hx.trans (if_pos ht))), hf.trans (decide_eq_false (by omega))⟩⟩
  case notice =>
    intro src op e s hw
    refine ⟨setRg .RAS_LAST_RX_CAUSE 0 (u8 e.message 2) (setRg .RAS_LAST_RX_NODE 0 (u16 e.message 0 % 4096)
      (bump .RAS_NOTICE_RX_COUNT 0 1 s)), done_waits hw, ?_, ?_, ?_, ?_, fun a => rfl⟩
    · simp
    · simp
    · simp
    · exact Touches.sameRegs (touch_setRg (L := [.reg .RAS_LAST_RX_NODE, .reg .RAS_LAST_RX_CAUSE, .reg .RAS_NOTICE_RX_COUNT]) (by decide)
        (touch_setRg (by decide) (touch_bump (by decide) (touch_refl _ s)))) (by decide)
  case send =>
    intro h d cmd w n s
    refine ⟨_, rfl, ?_⟩
    refine (congrArg (fun p : PrtSt => look (nextOpId s) p.ops) (Touches.prt (touch_peak (fun _ h => h) (touch_refl _ _)) (by decide))).trans ?_
    exact look_put_self ..
  case write =>
    intro k c s h
    refine ⟨fun r hp hf => (done_started h).trans (congrArg _ (portCmd_of_fault hp hf)),
      fun hp hf => (done_started h).trans (congrArg _ ((portCmd_of_well hp hf).trans (withData_of_first hp))),
      fun d hp hw hd => (done_started h).trans (congrArg _ ((portCmd_of_begun hp).trans (withData_of_have (by omega) hw hd)))⟩
  case read =>
    intro k c s h hp
    exact ⟨fun r hf => (done_started h).trans (congrArg _ (portCmd_of_fault hp hf)),
      fun hf => (done_started h).trans (congrArg _ (portCmd_of_well hp hf))⟩
  case checks =>
    rw [portCmdFault_of_well hd hf h1 h2]
    refine ⟨fun hp hq => if_pos (by simp [hp, hq]), fun hpq => if_neg ?_⟩
    rcases hpq with hp | hq
    · simp [hp]
    · simp [hq]
  case page =>
    intro k c g s h hp hg u
    refine ⟨fun st hf hc => (done_started h).trans (congrArg _ (pageSend_of_fault hp hg hf hc)),
      fun d hf hw hc hd => (done_started h).trans (congrArg _ ?_), fun hf hw hd => (done_started h).trans (congrArg _ ?_)⟩
    · rw [pageSend_of_well hp hg hf hw, hd]
      exact if_neg (by simp [hc])
    · rw [pageSend_of_well hp hg hf hw, hd]

end Sys2Proof.Proofs

end

section
/-! PROOF. Owl: lookups, bank commands and automata (R435 to R443, R450, R459). -/

namespace Sys2Proof.Machine

open Sys2Proof

/-! ### Banks -/

@[simp] theorem setBank_bank_self (b : Nat) (k : Bank) (s : State) : (setBank b k s).bank b = k := lookD_put_self ..

theorem setBank_bank_ne {b m : Nat} (k : Bank) (s : State) (h : m ≠ b) : (setBank b k s).bank m = s.bank m := lookD_put_ne _ _ _ h

theorem bank_congr {s t : State} (h : t.owl = s.owl) (b : Nat) : t.bank b = s.bank b := by
  unfold State.bank
  rw [h]

@[simp] theorem shadowWrite_bank (b i : Nat) (d : List Byte) (s : State) (m : Nat) : (shadowWrite b i d s).bank m = s.bank m :=
  bank_congr (Touches.owl (touch_shadowWrite (fun _ h => h) (touch_refl _ s)) (by decide)) m

@[simp] theorem writeEntry_bank_self (b i : Nat) (e : OwlEntry) (s : State) :
    (writeEntry b i e s).bank b = { s.bank b with entries := put i e (s.bank b).entries } := by
  unfold writeEntry
  dsimp only
  rw [setBank_bank_self, shadowWrite_bank]

theorem writeEntry_bank_ne {b m : Nat} (i : Nat) (e : OwlEntry) (s : State) (h : m ≠ b) : (writeEntry b i e s).bank m = s.bank m :=
  (setBank_bank_ne _ _ h).trans (shadowWrite_bank ..)

theorem clearEntry_of_look {b i : Nat} {e : OwlEntry} {s : State} (h : look i (s.bank b).entries = some e) :
    clearEntry b i s = writeEntry b i { e with valid := false } s := by
  unfold clearEntry
  rw [h]

/-! ### Searches -/

theorem matches_iff {e : OwlEntry} {w : Nat} : e.matches_ w = true ↔ e.valid = true ∧ Nat.land (Nat.xor w e.value) e.care = 0 := by
  simp [OwlEntry.matches_]

theorem mem_owlMatches {s : State} {banks : List Nat} {w b i : Nat} {e : OwlEntry} : (b, i, e) ∈ owlMatches s banks w ↔
    b ∈ banks ∧ (i, e) ∈ (s.bank b).entries ∧ e.matches_ w = true := by
  unfold owlMatches
  simp only [List.mem_flatMap, List.mem_map, mem_sortBy, List.mem_filter, Prod.mk.injEq]
  constructor
  · rintro ⟨m, hm, ⟨j, x⟩, ⟨hx, hw⟩, rfl, rfl, rfl⟩
    exact ⟨hm, hx, hw⟩
  · rintro ⟨hb, he, hw⟩
    exact ⟨b, hb, (i, e), ⟨he, hw⟩, rfl, rfl, rfl⟩

theorem prefixFind_nil {banks : List Nat} {key car fuel : Nat} {s : State} (h : owlMatches s banks key = []) :
    prefixFind banks key car (fuel + 1) [] s = (none, s) := by
  unfold prefixFind
  rw [h]
  rfl

/-- The first match, checked with the page directory. -/
theorem prefixFind_cons {banks : List Nat} {key car b i fuel : Nat} {e : OwlEntry} {r : List (Nat × Nat × OwlEntry)} {s : State}
    (h : owlMatches s banks key = (b, i, e) :: r) : prefixFind banks key car (fuel + 1) [] s =
      if hitTrue s key (e.result % 2 ^ 32) then (some (e.result % 2 ^ 32, decide (r ≠ [])), s)
      else prefixFind banks key car fuel [(b, i)] (raise 0x0902 (some car) [(1, b), (2, i)] (bump .OWL_C_FALSE_HITS_COUNT car 1 s)) := by
  have hall : (owlMatches s banks key).filter (fun m => decide ((m.1, m.2.1) ∉ ([] : List (Nat × Nat)))) = (b, i, e) :: r := by
    rw [h]
    exact List.filter_eq_self.mpr (fun m _ => by simp)
  have hmore : decide (1 < ((b, i, e) :: r).length) = decide (r ≠ []) := by cases r <;> simp
  rw [prefixFind]
  dsimp only
  rw [hall]
  dsimp only
  rw [hmore]

/-! ### The answers of lookups -/

theorem setPhase_of_cmd {k n : Nat} {c : Cmd} {s : State} (h : s.cmd k = some c) : setPhase k n s = setCmd k { c with phase := n } s := by
  unfold setPhase
  rw [h]

theorem lookupKey_of_hit {k item hash cls page : Nat} {cascade multi : Bool} {c : Cmd} {s : State} (hc : s.cmd k = some c)
    (hr : (prefixFind (prefixBanks s c.old (Op.car c.bytes)) (prefixKey hash cls (Op.car c.bytes)) (Op.car c.bytes) 5 []
      (bump .OWL_C_LOOKUPS_COUNT (Op.car c.bytes) 1 s)).1 = some (page, multi)) : lookupKey k item hash cls cascade s =
      let u := (prefixFind (prefixBanks s c.old (Op.car c.bytes)) (prefixKey hash cls (Op.car c.bytes)) (Op.car c.bytes) 5 []
        (bump .OWL_C_LOOKUPS_COUNT (Op.car c.bytes) 1 s)).2
      lookupDone { cmd := k, item := item, key := prefixKey hash cls (Op.car c.bytes) } (lookupResult page u.sled true multi false)
        (bump .OWL_C_HITS_COUNT (Op.car c.bytes) 1 u) := by
  have hb : prefixBanks (bump .OWL_C_LOOKUPS_COUNT (Op.car c.bytes) 1 s) c.old (Op.car c.bytes) =
      prefixBanks s c.old (Op.car c.bytes) := rfl
  unfold lookupKey
  rw [hc]
  dsimp only
  rw [hb, hr]

theorem lookupKey_of_miss {k item hash cls : Nat} {cascade : Bool} {c : Cmd} {s : State} (hc : s.cmd k = some c)
    (hr : (prefixFind (prefixBanks s c.old (Op.car c.bytes)) (prefixKey hash cls (Op.car c.bytes)) (Op.car c.bytes) 5 []
      (bump .OWL_C_LOOKUPS_COUNT (Op.car c.bytes) 1 s)).1 = none) : lookupKey k item hash cls cascade s =
      let u := (prefixFind (prefixBanks s c.old (Op.car c.bytes)) (prefixKey hash cls (Op.car c.bytes)) (Op.car c.bytes) 5 []
        (bump .OWL_C_LOOKUPS_COUNT (Op.car c.bytes) 1 s)).2
      let l : Lookup := { cmd := k, item := item, key := prefixKey hash cls (Op.car c.bytes) }
      if cascade = true ∧ cascadeServes u = true then onOwl (fun x => { x with queue := x.queue ++ [l] }) u else lookupDone l 0 u := by
  have hb : prefixBanks (bump .OWL_C_LOOKUPS_COUNT (Op.car c.bytes) 1 s) c.old (Op.car c.bytes) =
      prefixBanks s c.old (Op.car c.bytes) := rfl
  unfold lookupKey
  rw [hc]
  dsimp only
  rw [hb, hr]
  rfl

theorem lookupDone_of_lookup {l : Lookup} {r : Nat} {c : Cmd} {s : State} (hc : s.cmd l.cmd = some c) (ho : Op.opcode c.bytes = 1) :
    lookupDone l r s = complete l.cmd Status.ok 0 r s := by
  unfold lookupDone
  rw [hc]
  exact if_pos ho

theorem listFinish_short {k : Nat} {c : Cmd} {rs : List (Nat × Nat)} {s : State} (hc : s.cmd k = some c)
    (hr : look k s.owl.results = some rs) (h : rs.length < u16 c.bytes 20) : listFinish k s = s := by
  unfold listFinish
  rw [hc, hr]
  exact if_pos h

theorem listFinish_full {k : Nat} {c : Cmd} {rs : List (Nat × Nat)} {s : State} (hc : s.cmd k = some c)
    (hr : look k s.owl.results = some rs) (h : u16 c.bytes 20 ≤ rs.length) : listFinish k s =
      complete k Status.ok 0 (countOf (fun r => bit r.2 36) (sortBy Prod.fst rs))
        (hostWrite k (u64 c.bytes 24) ((sortBy Prod.fst rs).flatMap (fun r => leBytes 8 r.2))
          (onOwl (fun x => { x with results := del k x.results }) s)) := by
  unfold listFinish
  rw [hc, hr]
  exact if_neg (Nat.not_lt.mpr h)

theorem lookupDone_of_list {l : Lookup} {r : Nat} {c : Cmd} {s : State} (hc : s.cmd l.cmd = some c) (ho : Op.opcode c.bytes = 2)
    (h : (lookD l.cmd [] s.owl.results).length + 1 < u16 c.bytes 20) : lookupDone l r s =
      onOwl (fun x => { x with results := put l.cmd (lookD l.cmd [] s.owl.results ++ [(l.item, r)]) x.results }) s := by
  unfold lookupDone
  rw [hc]
  dsimp only
  rw [if_neg (by omega)]
  exact listFinish_short (c := c) (rs := lookD l.cmd [] s.owl.results ++ [(l.item, r)]) hc (look_put_self ..) (by simpa using h)

/-! ### Bank commands -/

theorem bankFault_eq (c : Cmd) (suits inRange : Bool) (reason : Nat) (s : State) : bankFault s c suits inRange reason =
    if 16 ≤ u8 c.bytes 12 ∨ suits = false then some (Status.badCommand, 40)
    else if inRange = false then some (Status.badCommand, reason)
    else if s.serves c.old (.bank (u8 c.bytes 12)) = some (Op.car c.bytes) then none else some (Status.accessDenied, 0) := by
  unfold bankFault
  dsimp only
  rw [ite_not]

theorem bankRun_one {b w : Nat} {r : List Nat} {s : State} (hs : (s.bank b).shift = none) (hw : (s.bank b).wait = w :: r)
    (hm : mayTake s w = true) : bankRun b 1 s = bankStart w b (setBank b { s.bank b with wait := r } s) := by
  unfold bankRun
  dsimp only
  rw [hs, hw]
  exact if_pos hm

/-- A bank that is free takes up the command at once. -/
theorem bankQueue_of_free {k b : Nat} {s : State} (hw : (s.bank b).wait = []) (hs : (s.bank b).shift = none)
    (hm : mayTake s k = true) : ∃ u, bankQueue k b s = bankStart k b u ∧ u.bank b = s.bank b ∧ u.que = s.que ∧ SameRegs [] s u ∧
      u.mem = s.mem := by
  let v := setBank b { s.bank b with wait := [k] } s
  have hv : v.bank b = { s.bank b with wait := [k] } := setBank_bank_self ..
  refine ⟨setBank b { v.bank b with wait := [] } v, ?_, ?_, rfl, fun n i _ => rfl, rfl⟩
  · have hq : bankQueue k b s = bankRun b (v.bank b).wait.length v := by
      unfold bankQueue bankGo
      rw [hw]
      rfl
    rw [hq, hv]
    refine (bankRun_one (r := []) ?_ ?_ (show mayTake v k = true from hm)).trans ?_
    · rw [hv]
      exact hs
    · rw [hv]
    · rw [hv]
  · rw [setBank_bank_self, hv, ← hw]

/-- A bank whose shift runs, or is held, leaves its commands waiting. -/
theorem bankRun_of_busy {b : Nat} {s : State} (n : Nat)
    (h : (s.bank b).shift ≠ none ∨ ∀ w r, (s.bank b).wait = w :: r → mayTake s w = false) : bankRun b n s = s := by
  cases n with
  | zero => rfl
  | succ n =>
    unfold bankRun
    dsimp only
    split
    next w r hs hw => exact if_neg (by simp [h.resolve_left (not_not_intro hs) w r hw])
    next => rfl

theorem mayTake_of_held {s : State} {k : Nat} (hh : s.rg .OWL_X_SHIFT_HOLD 0 = 1)
    (ho : ∀ c, s.cmd k = some c → Op.opcode c.bytes ≠ 4) : mayTake s k = false := by
  unfold mayTake shiftsHeld
  rw [hh]
  cases hc : s.cmd k with
  | none => rfl
  | some c => simp [ho c hc]

theorem bankQueue_of_busy {k b : Nat} {s : State} (h : (s.bank b).shift ≠ none ∨ s.rg .OWL_X_SHIFT_HOLD 0 = 1 ∧
      (∀ c, s.cmd ((s.bank b).wait.headD k) = some c → Op.opcode c.bytes ≠ 4)) :
    bankQueue k b s = setBank b { s.bank b with wait := addSet k (s.bank b).wait } s := by
  refine bankRun_of_busy _ ?_
  rw [setBank_bank_self]
  refine h.imp id fun ⟨hh, ho⟩ w r hw => ?_
  have hhead : w = (s.bank b).wait.headD k := by
    unfold addSet at hw
    cases hl : (s.bank b).wait with
    | nil => simpa [hl] using congrArg List.head? hw.symm
    | cons x l =>
      rw [hl] at hw
      have hx := congrArg List.head? hw
      split at hx <;> simpa using hx.symm
  exact mayTake_of_held (s := setBank b { s.bank b with wait := addSet k (s.bank b).wait } s) hh (hhead ▸ ho)

theorem bankStart_of_delete {k b : Nat} {c : Cmd} {s : State} (hc : s.cmd k = some c) (ho : Op.opcode c.bytes = 4) :
    bankStart k b s = complete k Status.ok 0 0 (clearEntry b (u16 c.bytes 14) s) := by
  unfold bankStart
  rw [hc]
  exact if_pos ho

theorem bankStart_of_insert {k b : Nat} {c : Cmd} {d : List Byte} {s : State} (hc : s.cmd k = some c) (ho : Op.opcode c.bytes = 3)
    (hd : cmdData s c = some d) : bankStart k b s = insertBegin k b (u16 c.bytes 14) { entryOf d with valid := true } s := by
  unfold bankStart
  rw [hc]
  dsimp only
  rw [if_neg (by omega), hd]
  rfl

theorem insertBegin_of_hole {k b i h : Nat} {e : OwlEntry} {s : State} (hh : holeFrom s b i = some h) : insertBegin k b i e s =
    if h = i then complete k Status.ok 0 i (writeEntry b i e s)
    else setBank b { s.bank b with shift := some { index := i, hole := h, entry := e, cmd := k, since := s.clk } } s := by
  unfold insertBegin
  rw [hh]
  rfl

theorem insertBegin_full {k b i : Nat} {e : OwlEntry} {s : State} (hh : holeFrom s b i = none) :
    insertBegin k b i e s = completeReason k Status.accessDenied 41 s := by
  unfold insertBegin
  rw [hh]

theorem firstFrom_lowest {p : Nat → Bool} {n i j : Nat} (h : firstFrom p n i = some j) : i ≤ j ∧ ∀ m, i ≤ m → m < j → p m = false := by
  induction n generalizing i with
  | zero => cases h
  | succ n ih =>
    unfold firstFrom at h
    by_cases hp : p i = true
    · rw [if_pos hp] at h
      cases h
      exact ⟨le_rfl, fun m h1 h2 => absurd h1 (by omega)⟩
    · rw [if_neg hp] at h
      obtain ⟨hj, hlow⟩ := ih h
      refine ⟨by omega, fun m h1 h2 => ?_⟩
      by_cases hm : m = i
      · subst hm
        simpa using hp
      · exact hlow m (by omega) h2

theorem holeFrom_some {b i h : Nat} {s : State} (hh : holeFrom s b i = some h) : i ≤ h ∧ h < 16384 ∧
    (∀ j, i ≤ j → j < h → ∃ e, look j (s.bank b).entries = some e ∧ e.valid = true) ∧
    (∀ e, look h (s.bank b).entries = some e → e.valid = false) := by
  obtain ⟨hi, hlow⟩ := firstFrom_lowest hh
  obtain ⟨hlt, hp⟩ := firstFrom_some hh
  have hs : bankSize = 16384 := rfl
  refine ⟨hi, by omega, fun j h1 h2 => ?_, fun e he => ?_⟩
  · have hj := hlow j h1 h2
    simp only [Bool.not_eq_false', Option.any_eq_true] at hj
    exact hj
  · rw [he] at hp
    simpa using hp

theorem owlInsert_of_fault {k : Nat} {c : Cmd} {f : Nat × Nat} {s : State} (hf : bankFault s c
      (s.im.bankMode (u8 c.bytes 12) == 1 && s.im.bankClassify (u8 c.bytes 12)) (decide (u16 c.bytes 14 < bankSize)) 0 = some f) :
    owlInsert k c s = completeReason k f.1 f.2 s := by
  unfold owlInsert
  dsimp only
  rw [hf]

theorem owlInsert_of_well {k : Nat} {c : Cmd} {s : State} (hf : bankFault s c
      (s.im.bankMode (u8 c.bytes 12) == 1 && s.im.bankClassify (u8 c.bytes 12)) (decide (u16 c.bytes 14 < bankSize)) 0 = none) :
    owlInsert k c s = if c.phase = 2 then
        if (s.bank (u8 c.bytes 12)).shift.any (fun x => x.cmd == k) then s else bankQueue k (u8 c.bytes 12) s
      else withData k c (u64 c.bytes 16) 48 (fun d s =>
        if u64 d 40 / 1024 ≠ 0 then complete k Status.badCommand 0 0 s else bankQueue k (u8 c.bytes 12) (setPhase k 2 s)) s := by
  unfold owlInsert
  dsimp only
  rw [hf]

theorem owlDelete_of_fault {k : Nat} {c : Cmd} {f : Nat × Nat} {s : State} (hf : bankFault s c (s.im.bankMode (u8 c.bytes 12) == 1)
      (decide (u16 c.bytes 14 < bankSize)) 0 = some f) : owlDelete k c s = completeReason k f.1 f.2 s := by
  unfold owlDelete
  dsimp only
  rw [hf]

theorem owlDelete_of_well {k : Nat} {c : Cmd} {s : State} (hf : bankFault s c (s.im.bankMode (u8 c.bytes 12) == 1)
      (decide (u16 c.bytes 14 < bankSize)) 0 = none) : owlDelete k c s = bankQueue k (u8 c.bytes 12) s := by
  unfold owlDelete
  dsimp only
  rw [hf]

theorem owlRead_of_fault {k : Nat} {c : Cmd} {f : Nat × Nat} {s : State} (hf : bankFault s c (s.im.bankMode (u8 c.bytes 12) == 1)
      (decide (0 < u16 c.bytes 16) && decide (u16 c.bytes 14 + u16 c.bytes 16 ≤ bankSize)) 0 = some f) :
    owlRead k c s = completeReason k f.1 f.2 s := by
  unfold owlRead
  dsimp only
  rw [hf]

theorem owlRead_of_well {k : Nat} {c : Cmd} {s : State} (hf : bankFault s c (s.im.bankMode (u8 c.bytes 12) == 1)
      (decide (0 < u16 c.bytes 16) && decide (u16 c.bytes 14 + u16 c.bytes 16 ≤ bankSize)) 0 = none) :
    owlRead k c s = complete k Status.ok 0 0 (hostWrite k (u64 c.bytes 24) ((List.range (u16 c.bytes 16)).flatMap (fun i =>
      entryBytes (lookD (u16 c.bytes 14 + i) emptyEntry (s.bank (u8 c.bytes 12)).entries))) s) := by
  unfold owlRead
  dsimp only
  rw [hf]

theorem owlLoadAutomaton_of_fault {k : Nat} {c : Cmd} {f : Nat × Nat} {s : State} (hf : bankFault s c
      (s.im.bankMode (u8 c.bytes 12) == 2) (decide (16 ≤ u32 c.bytes 24) && decide (u32 c.bytes 24 ≤ 139280)) 43 = some f) :
    owlLoadAutomaton k c s = completeReason k f.1 f.2 s := by
  unfold owlLoadAutomaton
  dsimp only
  rw [hf]

theorem owlLoadAutomaton_of_well {k : Nat} {c : Cmd} {s : State} (hf : bankFault s c
      (s.im.bankMode (u8 c.bytes 12) == 2) (decide (16 ≤ u32 c.bytes 24) && decide (u32 c.bytes 24 ≤ 139280)) 43 = none) :
    owlLoadAutomaton k c s = if s.owl.watches.any (fun w => w.2.bank == u8 c.bytes 12) then completeReason k Status.accessDenied 42 s
      else withData k c (u64 c.bytes 16) (u32 c.bytes 24) (fun d s => match parseAutomaton d with
        | none => completeReason k Status.badCommand 43 s
        | some a => complete k Status.ok 0 a.trans.length
            (raise 0x0909 (some (Op.car c.bytes)) [(1, u8 c.bytes 12)] (loadAutomaton (u8 c.bytes 12) a d s))) s := by
  unfold owlLoadAutomaton
  dsimp only
  rw [hf] <;> rfl

/-! ### Shifts -/

theorem moveUp_bank (b i : Nat) (s : State) : ((moveUp b i s).bank b).shift = (s.bank b).shift ∧
    ((moveUp b i s).bank b).wait = (s.bank b).wait ∧
    (∀ e, look i (s.bank b).entries = some e → look (i + 1) ((moveUp b i s).bank b).entries = some e) ∧
    ∀ j, j ≠ i + 1 → look j ((moveUp b i s).bank b).entries = look j (s.bank b).entries := by
  unfold moveUp
  split
  next e he =>
    rw [writeEntry_bank_self]
    refine ⟨rfl, rfl, fun x hx => ?_, fun j hj => look_put_ne _ _ hj⟩
    rw [he] at hx
    cases hx
    exact look_put_self ..
  next hn => exact ⟨rfl, rfl, fun e he => absurd (hn.symm.trans he) (by simp), fun j _ => rfl⟩

theorem shiftOrder_succ (d h : Nat) : (List.range (d + 1)).map (fun i => h - 1 - i) =
    (h - 1) :: (List.range d).map (fun i => h - 1 - 1 - i) := by
  rw [List.range_succ_eq_map, List.map_cons, List.map_map]
  refine congrArg₂ List.cons rfl (List.map_congr_left fun i _ => ?_)
  show h - 1 - (i + 1) = h - 1 - 1 - i
  omega

/-- Moved from the top, each entry below the free place ends one place up, and nothing else changes. -/
theorem moveUp_all (b d h : Nat) (hd : d ≤ h) (s : State) :
    let t := forEach ((List.range d).map (fun i => h - 1 - i)) (moveUp b) s
    (t.bank b).shift = (s.bank b).shift ∧ (t.bank b).wait = (s.bank b).wait ∧
    (∀ j e, h - d ≤ j → j < h → look j (s.bank b).entries = some e → look (j + 1) (t.bank b).entries = some e) ∧
    ∀ j, j ≤ h - d ∨ h < j → look j (t.bank b).entries = look j (s.bank b).entries := by
  induction d generalizing h s with
  | zero => exact ⟨rfl, rfl, fun j e h1 h2 => absurd h1 (by omega), fun j _ => rfl⟩
  | succ d ih =>
    intro t
    obtain ⟨ms, mw, mup, mne⟩ := moveUp_bank b (h - 1) s
    obtain ⟨is, iw, iup, ine⟩ := ih (h - 1) (by omega) (moveUp b (h - 1) s)
    have ht : t = forEach ((List.range d).map (fun i => h - 1 - 1 - i)) (moveUp b) (moveUp b (h - 1) s) := by
      unfold t
      rw [shiftOrder_succ, forEach_cons]
    rw [← ht] at is iw iup ine
    refine ⟨is.trans ms, iw.trans mw, fun j e h1 h2 he => ?_, fun j hj => ?_⟩
    · by_cases hj : j = h - 1
      · subst hj
        rw [ine _ (by omega)]
        exact mup e he
      · exact iup j e (by omega) (by omega) ((mne j (by omega)).trans he)
    · rw [ine j (by omega), mne j (by omega)]

theorem owlShiftDone_of_none {b : Nat} {s : State} (h : (s.bank b).shift = none) : owlShiftDone b s = bankGo b s := by
  unfold owlShiftDone
  rw [h]

theorem owlShiftDone_of_shift {b : Nat} {x : Shift} {s : State} (h : (s.bank b).shift = some x) : owlShiftDone b s =
    if shiftsHeld s = true ∨ s.clk < x.since + (x.hole - x.index) then s
    else bankGo b (insertDone b x (forEach ((List.range (x.hole - x.index)).map (fun i => x.hole - 1 - i)) (moveUp b)
      (setBank b { s.bank b with shift := none } s))) := by
  unfold owlShiftDone
  rw [h]

/-! ### Automata -/

theorem parseAutomaton_some {d : List Byte} {a : Automaton} (h : parseAutomaton d = some a) : u32 d 0 = 0x414C574F ∧
    a.states = u16 d 4 ∧ 1 ≤ a.states ∧ a.states ≤ 4096 ∧
    (∀ t, t ∈ a.trans → t.2.lo ≤ t.2.hi ∧ t.2.state < a.states ∧ t.2.next < a.states) ∧ (∀ r, r ∈ a.ranges → r.1 ≤ r.2.1) := by
  unfold parseAutomaton at h
  extract_lets states nr nt rs ts head rangesOk transOk at h
  obtain ⟨hok, ha⟩ := Option.ite_none_right_eq_some.mp h
  cases ha
  simp only [Bool.and_eq_true] at hok
  obtain ⟨⟨hh, hr⟩, ht⟩ := hok
  simp only [head, Bool.and_eq_true, beq_iff_eq, decide_eq_true_eq] at hh
  obtain ⟨⟨⟨⟨⟨⟨⟨hm, h1⟩, h2⟩, -⟩, -⟩, -⟩, -⟩, -⟩ := hh
  refine ⟨hm, rfl, h1, h2, fun t hmem => ?_, fun r hmem => ?_⟩
  · obtain ⟨x, hx, rfl⟩ := List.mem_map.mp hmem
    have hok := List.all_eq_true.mp ht x.1 (List.fst_mem_of_mem_zipIdx hx)
    simp only [Bool.and_eq_true, decide_eq_true_eq] at hok
    obtain ⟨⟨⟨⟨hl, hs⟩, hn⟩, -⟩, -⟩ := hok
    exact ⟨hl, hs, hn⟩
  · obtain ⟨x, hx, rfl⟩ := List.mem_map.mp hmem
    have hok := List.all_eq_true.mp hr x hx
    simp only [Bool.and_eq_true, decide_eq_true_eq] at hok
    exact hok.1

end Sys2Proof.Machine

namespace Sys2Proof.Proofs

open Sys2Proof Sys2Proof.Machine

/-- Settles O45: searches by `prefixFind_cons`, a bank's queue by whether it is free (`bankQueue_of_free`) or busy
(`bankQueue_of_busy`), and a shift by induction on the places moved (`moveUp_all`). -/
theorem owlSearchesAndWritesItsBanks : Obligations.OwlSearchesAndWritesItsBanks := by
  unfold Obligations.OwlSearchesAndWritesItsBanks
  refine ⟨fun e w => matches_iff, fun s banks w b i e => mem_owlMatches,
    fun banks key car b i fuel e r s => ⟨prefixFind_nil, fun h => ⟨fun ht => (prefixFind_cons h).trans (if_pos ht),
      fun ht => (prefixFind_cons h).trans (if_neg (ne_true_of_eq_false ht))⟩⟩,
    fun k c s h hp => (done_started h).trans (congrArg _ ?lookup), ?key,
    fun l r c s hc => ⟨lookupDone_of_lookup hc, lookupDone_of_list hc⟩, fun k c rs s => listFinish_full, ?list, ?insert,
    fun c suits inRange reason s => bankFault_eq c suits inRange reason s,
    fun k b s hw hs hm => bankQueue_of_free hw hs ?take, fun k b s => bankQueue_of_busy,
    fun k b c s hc => ⟨bankStart_of_delete hc, fun d => bankStart_of_insert hc⟩,
    fun k b i e s => ⟨insertBegin_full, fun h => (insertBegin_of_hole h).trans (if_pos rfl),
      fun h hh hne => (insertBegin_of_hole hh).trans (if_neg hne)⟩,
    fun b i h s => holeFrom_some, fun b i e s => ⟨?same, fun j hj => ?other, fun m => writeEntry_bank_ne i e s⟩,
    fun b i e s he => ?clear, ?shift, fun b s hl hs => (done_live hl).trans (congrArg _ (owlShiftDone_of_none hs)), ?delete, ?read,
    ?load, fun b a d s => congrArg Bank.autom (setBank_bank_self ..), fun d a => parseAutomaton_some⟩
  case lookup =>
    unfold owlLookup
    rw [if_pos hp, setPhase_of_cmd h.2.1]
  case key =>
    intro k item hash cls cascade c s hc car key l r
    refine ⟨fun page multi => lookupKey_of_hit hc, fun hr hcas hs => (lookupKey_of_miss hc hr).trans (if_pos ⟨hcas, hs⟩),
      fun hr h => (lookupKey_of_miss hc hr).trans (if_neg fun ⟨hcas, hs⟩ => ?_)⟩
    rcases h with h | h
    · simp [h] at hcas
    · exact absurd (h.symm.trans hs) (by decide)
  case list =>
    intro k c s h n
    refine ⟨fun hn => (done_started h).trans (congrArg _ (if_pos hn)), fun h1 h2 => ?_⟩
    have hl : owlLookupList k c s = if c.phase = 2 then s else _ := if_neg (by omega)
    refine ⟨fun hp => (done_started h).trans (congrArg _ (hl.trans ((if_neg (by omega)).trans (withData_of_first hp)))),
      fun d hp hw hd => (done_started h).trans (congrArg _ (hl.trans ((if_neg (by omega)).trans
        ((withData_of_have (by omega) hw hd).trans ?_))))⟩
    rw [setPhase_of_cmd h.2.1]
  case insert =>
    intro k c s h b fault
    refine ⟨fun f hf => (done_started h).trans (congrArg _ ?_), fun hf => ?_⟩
    · exact owlInsert_of_fault hf
    · have hi : owlInsert k c s = if c.phase = 2 then _ else _ := owlInsert_of_well hf
      refine ⟨fun hp => (done_started h).trans (congrArg _ (hi.trans ((if_neg (by omega)).trans (withData_of_first hp)))),
        fun d hp hw hd => (done_started h).trans (congrArg _ (hi.trans ((if_neg (by omega)).trans
          ((withData_of_have (by omega) hw hd).trans ?_))))⟩
      rw [setPhase_of_cmd h.2.1]
  case take =>
    unfold mayTake shiftsHeld
    rcases hm with hm | ⟨c, hc, ho⟩
    · simp [hm]
    · simp [hc, ho]
  case same =>
    rw [writeEntry_bank_self]
    exact look_put_self ..
  case other =>
    rw [writeEntry_bank_self]
    exact look_put_ne _ _ hj
  case clear =>
    rw [clearEntry_of_look he, writeEntry_bank_self]
    exact look_put_self ..
  case shift =>
    intro b x s hl hx
    have hd := owlShiftDone_of_shift hx
    refine ⟨fun hw => (done_live hl).trans (congrArg _ (hd.trans (if_pos (hw.imp_left beq_iff_eq.mpr)))), fun hh hw => ?_⟩
    obtain ⟨us, uw, uup, une⟩ := moveUp_all b.val (x.hole - x.index) x.hole (by omega)
      (setBank b.val { s.bank b.val with shift := none } s)
    rw [setBank_bank_self] at us uw uup une
    refine ⟨_, _, (done_live hl).trans (congrArg _ (hd.trans (if_neg ?_))), us, uw, fun j e h1 h2 => uup j e (by omega) h2,
      fun j hj => une j (by omega)⟩
    simp [shiftsHeld, hh, Nat.not_lt.mpr hw]
  case delete =>
    intro k c s h b fault
    refine ⟨fun f hf => (done_started h).trans (congrArg _ ?_), fun hf => (done_started h).trans (congrArg _ ?_)⟩
    · exact owlDelete_of_fault hf
    · exact owlDelete_of_well hf
  case read =>
    intro k c s h b first n fault
    refine ⟨fun f hf => (done_started h).trans (congrArg _ ?_), fun hf => (done_started h).trans (congrArg _ ?_)⟩
    · exact owlRead_of_fault hf
    · exact owlRead_of_well hf
  case load =>
    intro k c s h b n fault
    refine ⟨fun f hf => (done_started h).trans (congrArg _ (owlLoadAutomaton_of_fault hf)),
      fun hf hu => (done_started h).trans (congrArg _ ((owlLoadAutomaton_of_well hf).trans (if_pos hu))), fun hf hu => ?_⟩
    have hi := (owlLoadAutomaton_of_well (k := k) hf).trans (if_neg (ne_true_of_eq_false hu))
    exact ⟨fun hp => (done_started h).trans (congrArg _ (hi.trans (withData_of_first hp))),
      fun d hp hw hd => (done_started h).trans (congrArg _ (hi.trans (withData_of_have (by omega) hw hd)))⟩

end Sys2Proof.Proofs

end

section
/-! PROOF. Owl: watchers, the sled cascade and the shadow compare (R444 to R461). -/

namespace Sys2Proof.Machine

open Sys2Proof

/-! ### Watchers -/

theorem look_of_not_has {κ α : Type} [DecidableEq κ] {k : κ} {m : List (κ × α)} (h : (!has k m) = true) : look k m = none := by
  simpa [has, Bool.not_eq_true'] using h

theorem owlWatchSet_of_arm {k : Nat} {c : Cmd} {q : Seqd} {s : State} (hd : bit (u8 c.bytes 15) 0 = false)
    (hq : look (Op.seqId c.bytes) s.seq.seqs = some q) : owlWatchSet k c s =
      if 16 ≤ u8 c.bytes 14 ∨ s.im.bankMode (u8 c.bytes 14) ≠ 2 ∨ s.serves c.old (.bank (u8 c.bytes 14)) ≠ some (Op.car c.bytes) then
        completeReason k Status.badCommand 40 s
      else if q.layers ≤ u16 c.bytes 12 ∨ 4096 ≤ u16 c.bytes 16 ∨
          (s.bank (u8 c.bytes 14)).autom.any (fun a => decide (a.states ≤ u16 c.bytes 16)) then complete k Status.badCommand 0 0 s
      else if q.car ≠ Op.car c.bytes then complete k Status.accessDenied 0 0 s
      else if s.seqHeld (Op.car c.bytes) (Op.seqId c.bytes) then complete k Status.aborted 0 0 s
      else
        match pickBelow 16384 (fun i => !has i s.owl.watches) s with
        | none => completeReason k Status.accessDenied 44 s
        | some i => complete k Status.ok 0 i (setWatch i
            { car := Op.car c.bytes, seq := Op.seqId c.bytes, layer := u16 c.bytes 12, bank := u8 c.bytes 14,
              state := u16 c.bytes 16, start := u16 c.bytes 16, edgeReport := bit (u8 c.bytes 15) 1, latched := none,
              missed := 0, wait := none } (freeTaken s)) := by
  unfold owlWatchSet disarms
  rw [if_neg (ne_true_of_eq_false hd)]
  dsimp only
  rw [hq] <;> rfl

theorem watchFree_of_look {i : Nat} {w : Watch} {s : State} (h : look i s.owl.watches = some w) : watchFree i s =
    whenSome w.wait (fun k => complete k Status.ok 0 (2 ^ 63)) (onOwl (fun x => { x with watches := del i x.watches }) s) := by
  unfold watchFree
  rw [h]

theorem owlReport_of_wait {i k : Nat} {r : Report} {w : Watch} {s : State} (h : look i s.owl.watches = some w) (hw : w.wait = some k) :
    owlReport i r s = complete k Status.ok 0 (waitResult r 0) (setWatch i { w with wait := none } (bump .OWL_C_FIRES_COUNT w.car 1 s)) := by
  unfold owlReport
  rw [h]
  dsimp only
  rw [hw]

theorem owlReport_of_unlatched {i : Nat} {r : Report} {w : Watch} {s : State} (h : look i s.owl.watches = some w) (hw : w.wait = none)
    (hl : w.latched = none) : owlReport i r s =
      raise 0x0908 (some w.car) [(2, i)] (setWatch i { w with latched := some r } (bump .OWL_C_FIRES_COUNT w.car 1 s)) := by
  unfold owlReport
  rw [h]
  dsimp only
  rw [hw, hl]

theorem owlReport_of_latched {i : Nat} {r old : Report} {w : Watch} {s : State} (h : look i s.owl.watches = some w) (hw : w.wait = none)
    (hl : w.latched = some old) : owlReport i r s = raise 0x0908 (some w.car) [(2, i)] (bump .OWL_C_MISSED_COUNT w.car 1
      (setWatch i { w with missed := min 255 (w.missed + 1) } (bump .OWL_C_FIRES_COUNT w.car 1 s))) := by
  unfold owlReport
  rw [h]
  dsimp only
  rw [hw, hl]

theorem watchStep_of_none {i pos token : Nat} {w : Watch} {a : Automaton} {s : State} (h : look i s.owl.watches = some w)
    (ha : (s.bank w.bank).autom = some a) (ht : transFor a w.state (tokenClass a (token % 2 ^ 24)) = none) :
    watchStep i pos token false s = setWatch i { w with state := 0 } s := by
  unfold watchStep
  rw [h]
  dsimp only
  rw [ha]
  dsimp only
  rw [ht]
  rfl

theorem watchStep_of_some {i pos token : Nat} {w : Watch} {a : Automaton} {t : Trans} {s : State} (h : look i s.owl.watches = some w)
    (ha : (s.bank w.bank).autom = some a) (ht : transFor a w.state (tokenClass a (token % 2 ^ 24)) = some t) :
    watchStep i pos token false s = if t.fire then owlReport i { pos := pos, fireId := t.fireId, state := t.next, edge := false }
        (setWatch i { w with state := t.next } s) else setWatch i { w with state := t.next } s := by
  unfold watchStep
  rw [h]
  dsimp only
  rw [ha]
  dsimp only
  rw [ht]
  rfl

/-- The transition taken is the lowest that qualifies. -/
theorem transFor_some {a : Automaton} {st cls : Nat} {t : Trans} (h : transFor a st cls = some t) :
    ∃ n, (n, t) ∈ a.trans ∧ t.state = st ∧ t.lo ≤ cls ∧ cls ≤ t.hi ∧
      ∀ m u, (m, u) ∈ a.trans → u.state = st → u.lo ≤ cls → cls ≤ u.hi → n ≤ m := by
  obtain ⟨⟨n, x⟩, hx, rfl⟩ := Option.map_eq_some_iff.mp h
  obtain ⟨hmem, hleast⟩ := leastBy_eq_some hx
  rw [List.mem_filter] at hmem
  obtain ⟨hin, hq⟩ := hmem
  simp only [Bool.and_eq_true, beq_iff_eq, decide_eq_true_eq] at hq
  obtain ⟨⟨hs, hlo⟩, hhi⟩ := hq
  refine ⟨n, hin, hs, hlo, hhi, fun m u hu h1 h2 h3 => hleast (m, u) (List.mem_filter.mpr ⟨hu, ?_⟩)⟩
  simp [h1, h2, h3]

/-! ### The cascade -/

theorem complete_owl (k st d r : Nat) (s : State) : (complete k st d r s).owl = s.owl :=
  Touches.owl (touch_complete (fun _ h => h) (touch_refl _ s)) (by decide)

/-- An answer reaches Owl's results only. -/
theorem lookupDone_lines (l : Lookup) (r : Nat) (s : State) : (lookupDone l r s).owl.foreign = s.owl.foreign ∧
    (lookupDone l r s).owl.prioOut = s.owl.prioOut := by
  have hf : ∀ k t, (listFinish k t).owl.foreign = t.owl.foreign ∧ (listFinish k t).owl.prioOut = t.owl.prioOut := by
    intro k t
    unfold listFinish
    split
    · split
      · exact ⟨rfl, rfl⟩
      · dsimp only
        rw [complete_owl, hostWrite_owl]
        exact ⟨rfl, rfl⟩
    · exact ⟨rfl, rfl⟩
  unfold lookupDone
  split
  · exact ⟨rfl, rfl⟩
  · split
    · rw [complete_owl]
      exact ⟨rfl, rfl⟩
    · exact hf _ _

theorem onOwl_id {s : State} {f : OwlSt → OwlSt} (h : f s.owl = s.owl) : onOwl f s = s := by
  unfold onOwl
  rw [h]

theorem cascadeSlot_of_own {s : State} (hc : cascadeOn s = true) (ht : s.timeServes = true) (hn : slotNode s = s.sled)
    (ho : s.owl.own = none) (hq : s.owl.queue ≠ [] → cascadeServes s = true) : cascadeSlot s =
      match s.owl.queue with
      | l :: r => sendSlot (some l) (onOwl (fun x => { x with queue := r }) (onOwl (fun x => { x with pingFrame := some s.frame }) s))
      | [] => if s.owl.pingFrame != some s.frame then sendSlot none (onOwl (fun x => { x with pingFrame := some s.frame }) s)
          else onOwl (fun x => { x with pingFrame := some s.frame }) s := by
  unfold cascadeSlot
  dsimp only
  rw [if_neg (fun ⟨hf, hne⟩ => by simp [hq hne] at hf), if_neg (by simp [hc, ht, hn, ho]), onOwl_owl] <;> rfl

theorem cascadeSearch_of_count {n : Nat} {s : State} (hc : s.im.cascadeCount ≠ 0) : cascadeSearch n s =
    if bits n 0 8 ≠ 0xC3 ∨ bits n 176 16 ≠ owlCrc 176 (n % 2 ^ 176) then cascadeCrc s
    else if bits n 8 3 = s.sled then ownReturned (bit n 11) s
    else if bit n 11 then emit (.cascade n) s
    else
      let key := bits n 16 128
      let r := prefixFind (cascadeBanks (emit (.cascade n) s) (bits key 112 4)) key (bits key 112 4) 5 [] (emit (.cascade n) s)
      onOwl (fun x => { x with
        foreign := some { start := slotStart (emit (.cascade n) s), origin := bits n 8 3, key := key, hit := r.1 } }) r.2 := if_neg hc

theorem cascadeReturnCheck_of_own {o : OwnSlot} {s : State} (ho : s.owl.own = some o) : cascadeReturnCheck s =
    if o.checked = true ∨ s.ft < o.start + 192 then s
    else if o.returned then onOwl (fun x => { x with own := some { o with checked := true } }) s
    else cascadeFlush (if s.owl.cascade = 2 then onOwl (fun x => { x with own := some { o with checked := true } }) s
      else raise 0x0904 none [(1, s.sled)] (bump .OWL_CASCADE_ERR_BROKEN 0 1 (onOwl (fun x => { x with cascade := 2 })
        (onOwl (fun x => { x with own := some { o with checked := true } }) s)))) := by
  unfold cascadeReturnCheck
  rw [ho]
  rfl

/-- PRIO_OUT driven to `h`: it is sent where it changes. -/
theorem drivePrio_out (h : Bool) (s : State) : (drivePrio h s).owl.prioOut = h ∧
    (drivePrio h s).sent = (if h = s.owl.prioOut then s.sent else .prioOut h :: s.sent) ∧ SameRegs [] s (drivePrio h s) ∧
    SameMem s (drivePrio h s) := by
  unfold drivePrio
  split
  next he => exact ⟨he, (if_pos he.symm).symm, fun n i _ => rfl, fun a => rfl⟩
  next hne => exact ⟨rfl, (if_neg (fun he => hne he.symm)).symm, fun n i _ => rfl, fun a => rfl⟩

theorem cascadeWinnerSend_of_hit {f : Foreign} {hit : Nat × Bool} {high : Bool} {s : State} (hf : s.owl.foreign = some f)
    (hh : f.hit = some hit) : cascadeWinnerSend high s = if s.ft < f.start + 384 ∨ f.start + 512 ≤ s.ft ∨ high = true then s
      else emit (.cascade (resultFrame f.origin s.sled hit.2 hit.1)) (onOwl (fun x => { x with foreign := none }) s) := by
  unfold cascadeWinnerSend
  rw [hf]
  dsimp only
  rw [hh]

theorem cascadeResult_of_count {n : Nat} {s : State} (hc : s.im.cascadeCount ≠ 0) : cascadeResult n s =
    if bits n 0 8 ≠ 0x3C ∨ bits n 80 16 ≠ owlCrc 80 (n % 2 ^ 80) then cascadeCrc s
    else if bits n 8 3 ≠ s.sled then emit (.cascade n) s
    else match s.owl.own with
      | some o =>
        match o.look with
        | some l =>
          if o.start + 512 ≤ s.ft then s
          else lookupDone l (lookupResult (bits n 16 32) (bits n 11 3) true (bit n 14) true)
            (bump .OWL_C_CASCADE_HITS_COUNT (bits l.key 112 4) 1 (onOwl (fun x => { x with own := some { o with look := none } }) s))
        | none => s
      | none => s := by
  unfold cascadeResult
  rw [if_neg hc] <;> rfl

/-- The tail of the slot's end: with no foreign lookup and PRIO_OUT low, nothing is left to do. -/
theorem slotEnd_quiet {s : State} (hf : s.owl.foreign = none) (hp : s.owl.prioOut = false) :
    (let u := onOwl (fun x => { x with foreign := x.foreign.bind (fun f => if f.start + 512 ≤ s.ft then none else some f) }) s
     if u.owl.foreign.isNone ∧ u.ft < slotStart u + 320 then drivePrio false u else u) = s := by
  have hu : onOwl (fun x => { x with foreign := x.foreign.bind (fun f => if f.start + 512 ≤ s.ft then none else some f) }) s = s := by
    refine onOwl_id ?_
    rw [hf]
    exact congrArg (fun f => { s.owl with foreign := f }) hf.symm
  dsimp only
  rw [hu]
  split
  · exact if_pos hp
  · rfl

/-! ### The shadow compare -/

theorem compareEntry_of_read {b i : Nat} {d : List Byte} {s : State} (hs : inShift (s.bank b) i = false)
    (hd : shadowRead s b i = some d) : compareEntry b i s = if heldBytes (s.bank b) i = d then s
      else raise 0x0906 (s.owner (.bank b)) [] (bump .OWL_SCRUB_FIX_COUNT 0 1 (setBank b ((s.bank b).rewrite i d) s)) := by
  unfold compareEntry
  rw [if_neg (ne_true_of_eq_false hs), hd]

theorem compareEntry_of_lost {b i : Nat} {s : State} (hs : inShift (s.bank b) i = false) (hd : shadowRead s b i = none) :
    compareEntry b i s = entryLost b i s := by
  unfold compareEntry
  rw [if_neg (ne_true_of_eq_false hs), hd]

theorem fixed_bank (b c n : Nat) (cell : RN) (car : Option Nat) (k : Bank) (s : State) :
    (raise c car [] (bump cell 0 n (setBank b k s))).bank b = k := by
  rw [bank_congr (raise_owl ..), bank_congr (bump_owl ..), setBank_bank_self]

theorem rewrite_of_entries {k : Bank} {i : Nat} {d : List Byte} (h : k.autom = none) :
    k.rewrite i d = { k with entries := put i (entryOf d) k.entries } := by
  unfold Bank.rewrite
  rw [h]

theorem rewrite_of_automaton {k : Bank} {i : Nat} {d : List Byte} {a : Automaton} (h : k.autom = some a) :
    k.rewrite i d = { k with autom := some { a with trans := put i (transOf d) a.trans } } := by
  unfold Bank.rewrite
  rw [h]

theorem heldBytes_of_entries {k : Bank} (i : Nat) (h : k.autom = none) : heldBytes k i = entryBytes (lookD i emptyEntry k.entries) := by
  unfold heldBytes
  rw [h]

theorem entryLost_bank (b i : Nat) (s : State) :
    ((entryLost b i s).bank b).entries = upd i (fun e => { e with valid := false }) (s.bank b).entries := by
  unfold entryLost
  dsimp only
  rw [fixed_bank]

/-- With one bank to compare, the next 1,024 entries are its own. -/
theorem owlScrub_of_one {half b i : Nat} {s : State} (hr : compareRuns s half = true) (hb : compareBanks s half = [b])
    (hp : look half s.owl.scrubPos = some (b, i)) : owlScrub half s = onOwl (fun x => { x with
      scrubPos := put half (if i + 1024 < 16384 then (b, i + 1024) else (b, 0)) x.scrubPos }) (compareSpan b i 1024 s) := by
  unfold owlScrub lookD
  rw [hb, hp, if_neg (by simp [hr])]
  simp [bankSize]

end Sys2Proof.Machine

namespace Sys2Proof.Proofs

open Sys2Proof Sys2Proof.Machine

/-- Settles O46: a report by what the context holds, a transition by `transFor_some`, and each cascade row by the time in its
slot. -/
theorem owlWatchesCascadesAndScrubs : Obligations.OwlWatchesCascadesAndScrubs := by
  unfold Obligations.OwlWatchesCascadesAndScrubs
  refine ⟨?set, fun i s h => ⟨(pickBelow_some h).1, look_of_not_has (pickBelow_some h).2⟩,
    fun k c s h hd => (done_started h).trans (congrArg _ (if_neg (by simp [disarms, hd]))),
    fun i w s h => ⟨fun hw => (watchFree_of_look h).trans (by rw [hw]; rfl), fun k hw => (watchFree_of_look h).trans (by rw [hw]; rfl)⟩,
    ?wait, fun i pos token w a s h ha => ⟨watchStep_of_none h ha, fun t => watchStep_of_some h ha⟩, fun a st cls t => transFor_some,
    fun i r w s h => ⟨fun k => owlReport_of_wait h, owlReport_of_unlatched h,
      fun old hw hl => ⟨_, owlReport_of_latched h hw hl, ?missed⟩⟩, ?slot,
    fun s hl hs hq => (done_live hl).trans (congrArg _ (if_pos ⟨hs, hq⟩)), fun l s => ⟨?_, ?_⟩, ?search, ?check, ?prio,
    fun f hit s hl hf hh h1 h2 => ⟨(done_live hl).trans (congrArg _ ((cascadeWinnerSend_of_hit hf hh).trans (if_pos (by simp)))),
      (done_live hl).trans (congrArg _ ((cascadeWinnerSend_of_hit hf hh).trans (if_neg (by simp; omega))))⟩, ?result, ?slotEnd,
    fun half s hl => ⟨fun h => (done_live hl).trans (congrArg _ (if_pos h)),
      fun b i hr hb hp => (done_live hl).trans (congrArg _ (owlScrub_of_one hr hb hp))⟩, ?compare,
    fun p s hl hr => ⟨fun he => (done_live_access hl hr).trans (congrArg _ (if_neg (ne_true_of_eq_false he))),
      fun he => (done_live_access hl hr).trans (congrArg _ (if_pos he))⟩⟩
  case set =>
    intro k c q s h hd hq car b start
    have hw := owlWatchSet_of_arm (k := k) hd hq
    refine ⟨fun hb => (done_started h).trans (congrArg _ (hw.trans (if_pos hb))),
      fun hb hm hs hl hst ha hc hh => (done_started h).trans (congrArg _ (hw.trans ?_))⟩
    have hau : (s.bank (u8 c.bytes 14)).autom.any (fun a => decide (a.states ≤ u16 c.bytes 16)) = false := by
      cases hx : (s.bank (u8 c.bytes 14)).autom with
      | none => rfl
      | some a => simpa using ha a hx
    have hb' : u8 c.bytes 14 < 16 := hb
    have hst' : u16 c.bytes 16 < 4096 := hst
    rw [if_neg (not_or.mpr ⟨by omega, not_or.mpr ⟨not_not_intro hm, not_not_intro hs⟩⟩),
      if_neg (not_or.mpr ⟨by omega, not_or.mpr ⟨by omega, ne_true_of_eq_false hau⟩⟩), if_neg (not_not_intro hc)]
    exact if_neg (ne_true_of_eq_false hh)
  case wait =>
    intro k c w s h hw i
    refine ⟨fun hc => (done_started h).trans (congrArg _ ?_), fun r hc hl => (done_started h).trans (congrArg _ ?_),
      fun hc hl hn => (done_started h).trans (congrArg _ ?_)⟩
    all_goals
      unfold owlWait
      dsimp only
      rw [hw]
      dsimp only
    · rw [if_pos hc]
    · rw [if_neg (not_not_intro hc), hl]
    · rw [if_neg (not_not_intro hc), hl, hn]
  case missed =>
    rw [bump_owl]
    exact look_put_self ..
  case slot =>
    intro s hl hc ht hn ho u
    refine ⟨fun l r hq hs => (done_live hl).trans (congrArg _ ((cascadeSlot_of_own hc ht hn ho (fun _ => hs)).trans ?_)),
      fun hq => (done_live hl).trans (congrArg _ ((cascadeSlot_of_own hc ht hn ho (fun hne => absurd hq hne)).trans ?_))⟩
    · rw [hq]
    · rw [hq]
      dsimp only
      by_cases hp : s.owl.pingFrame = some s.frame
      · rw [if_neg (by simp [hp]), if_pos hp]
      · rw [if_pos (by simp [hp]), if_neg hp]
  · cases l <;> rfl
  · cases l <;> rfl
  case search =>
    intro f s hl hc n whole
    have hs := cascadeSearch_of_count (n := n) hc
    have hbad : whole → ¬ (bits n 0 8 ≠ 0xC3 ∨ bits n 176 16 ≠ owlCrc 176 (n % 2 ^ 176)) := fun ⟨h1, h2⟩ h =>
      h.elim (fun h => h h1) (fun h => h h2)
    refine ⟨fun hw => (done_live hl).trans (congrArg _ (hs.trans (if_pos (not_and_or.mp hw)))),
      fun hw hn => (done_live hl).trans (congrArg _ (hs.trans ((if_neg (hbad hw)).trans (if_pos hn)))),
      fun hw hn hp => (done_live hl).trans (congrArg _ (hs.trans ((if_neg (hbad hw)).trans ((if_neg hn).trans (if_pos hp))))),
      fun hw hn hp => (done_live hl).trans (congrArg _ (hs.trans ((if_neg (hbad hw)).trans ((if_neg hn).trans
        (if_neg (ne_true_of_eq_false hp))))))⟩
  case check =>
    intro o s hl ho
    have hs := cascadeReturnCheck_of_own ho
    refine ⟨fun hw => (done_live hl).trans (congrArg _ (hs.trans (if_pos hw))), fun hc hw => ?_⟩
    have hs := hs.trans (if_neg (by simp [hc]; omega))
    exact ⟨fun hr => (done_live hl).trans (congrArg _ (hs.trans (if_pos hr))),
      fun hr h2 => (done_live hl).trans (congrArg _ (hs.trans ((if_neg (ne_true_of_eq_false hr)).trans (congrArg _ (if_pos h2))))),
      fun hr h2 => (done_live hl).trans (congrArg _ (hs.trans ((if_neg (ne_true_of_eq_false hr)).trans (congrArg _ (if_neg h2)))))⟩
  case prio =>
    intro h s hl hc
    refine ⟨fun hw => (done_live hl).trans (congrArg _ (if_pos (.inr hw))), fun hw => ?_⟩
    obtain ⟨hp, hs, hr, hm⟩ := drivePrio_out (h || s.owl.foreign.any (fun f => f.start == slotStart s && f.hit.isSome)) s
    refine ⟨_, (done_live hl).trans (congrArg _ (if_neg (by simp [hc]; omega))), hp, ?_, hr, hm⟩
    rw [hs, hp]
  case result =>
    intro f s hl hc n whole
    have hs := cascadeResult_of_count (n := n) hc
    have hbad : whole → ¬ (bits n 0 8 ≠ 0x3C ∨ bits n 80 16 ≠ owlCrc 80 (n % 2 ^ 80)) := fun ⟨h1, h2⟩ h =>
      h.elim (fun h => h h1) (fun h => h h2)
    refine ⟨fun hw => (done_live hl).trans (congrArg _ (hs.trans (if_pos (not_and_or.mp hw)))),
      fun hw hn => (done_live hl).trans (congrArg _ (hs.trans ((if_neg (hbad hw)).trans (if_pos hn)))),
      fun o l hw hn ho hk ht => (done_live hl).trans (congrArg _ (hs.trans ((if_neg (hbad hw)).trans
        ((if_neg (not_not_intro hn)).trans ?_))))⟩
    rw [ho]
    dsimp only
    rw [hk]
    exact if_neg (by omega)
  case slotEnd =>
    intro o l s hl ho hk hf hp
    refine ⟨fun ht => (done_live hl).trans (congrArg _ ?_), fun ht => (done_live hl).trans (congrArg _ ?_)⟩
    · unfold cascadeSlotEnd
      rw [ho]
      dsimp only
      rw [if_pos ht]
      exact slotEnd_quiet hf hp
    · obtain ⟨lf, lp⟩ := lookupDone_lines l (lookupResult 0 0 false false true) (onOwl (fun x => { x with own := none }) s)
      unfold cascadeSlotEnd
      rw [ho]
      dsimp only
      rw [if_neg (Nat.not_lt.mpr ht), hk]
      exact slotEnd_quiet (lf.trans hf) (lp.trans hp)
  case compare =>
    intro b i s hs
    refine ⟨fun d hd he => (compareEntry_of_read hs hd).trans (if_pos he), fun d hd ha he => ?_, fun d a hd ha he => ?_,
      fun e hd he => ?_⟩
    · have hx := (compareEntry_of_read hs hd).trans (if_neg (by rwa [heldBytes_of_entries i ha]))
      have hb := (congrArg (fun t => State.bank t b) hx).trans (fixed_bank ..)
      rw [rewrite_of_entries ha] at hb
      refine ⟨_, rfl, ?_, fun j hj => ?_, fun a => ?_⟩
      · exact (congrArg (fun k : Bank => look i k.entries) hb).trans (look_put_self ..)
      · exact (congrArg (fun k : Bank => look j k.entries) hb).trans (look_put_ne _ _ hj)
      · rw [hx, raise_mem, bump_mem]
        rfl
    · rw [compareEntry_of_read hs hd, if_neg he, fixed_bank, rewrite_of_automaton ha]
    · rw [compareEntry_of_lost hs hd, entryLost_bank, look_upd_self, he]
      rfl

end Sys2Proof.Proofs

end

section
/-! PROOF. Memory: patrol scrub, injected errors, refresh and the CXL ports (R465 to R484). -/

namespace Sys2Proof.Machine

open Sys2Proof

/-! ### Errors and scrub -/

@[simp] theorem cleanKey_bad (key : Nat) (s : State) : (cleanKey key s).mem.bad = del key s.mem.bad := rfl

/-- A correctable error is counted, for its pseudo-channel too. -/
theorem hbmError_of_correctable {finder key sym pc : Nat} {s : State} (h : sym < 2)
    (hpc : pc = 8 * (key * 32 / 2 ^ 34) + key * 32 % 2 ^ 34 / 256 % 8) :
    ∃ u, hbmError finder key sym s = onMem (fun m => { m with pcCorr := put pc (u.frame, u.pcCount pc + 1) m.pcCorr }) u ∧
      u.mem = s.mem ∧ u.frame = s.frame ∧ u.evr = s.evr := by
  unfold hbmError
  dsimp only
  rw [if_pos h, ← hpc]
  cases s.owner (.group (key * 32 / 2 ^ 34)) with
  | none => exact ⟨_, rfl, rfl, rfl, rfl⟩
  | some c => exact ⟨_, rfl, rfl, rfl, rfl⟩

theorem pcCount_congr {s t : State} (hm : t.mem = s.mem) (hf : t.frame = s.frame) (i : Nat) : t.pcCount i = s.pcCount i := by
  unfold State.pcCount
  rw [hm, hf]

theorem pcCount_put (pc n : Nat) (s : State) :
    (onMem (fun m => { m with pcCorr := put pc (s.frame, n) m.pcCorr }) s).pcCount pc = n := by
  unfold State.pcCount
  rw [onMem_mem, look_put_self]
  exact if_pos rfl

theorem hbmError_pcCount {finder key sym pc : Nat} {s : State} (h : sym < 2)
    (hpc : pc = 8 * (key * 32 / 2 ^ 34) + key * 32 % 2 ^ 34 / 256 % 8) :
    (hbmError finder key sym s).pcCount pc = s.pcCount pc + 1 := by
  obtain ⟨u, hu, hm, hf, -⟩ := hbmError_of_correctable (finder := finder) (s := s) h hpc
  rw [hu, pcCount_put pc (u.pcCount pc + 1) u, pcCount_congr hm hf pc]

/-- The counts and the address of an uncorrectable error. -/
def noteUe (owner : Option Nat) (g ga : Nat) (s : State) : State :=
  whenSome owner (fun c s => lastUe c g false ga (bump .MEM_C_UNCORR_COUNT c 1 s)) (bump .MEM_X_STACK_ERR_UNCORR (g / 4) 1 s)

theorem noteUe_mem (owner : Option Nat) (g ga : Nat) (s : State) : (noteUe owner g ga s).mem = s.mem := by
  cases owner <;> rfl

theorem noteUe_rg (c g ga : Nat) (s : State) : (noteUe (some c) g ga s).rg .MEM_C_LAST_UE_HI_VALID c = 1 := setRg_rg_self ..

/-- An uncorrectable error is counted and named, and recorded last. -/
theorem hbmError_of_uncorrectable {finder key sym : Nat} {s : State} (h : 2 ≤ sym) :
    ∃ u, hbmError finder key sym s = raise 0x0A01 (s.owner (.group (key * 32 / 2 ^ 34))) [(7, key * 32 % 2 ^ 34), (1, finder)] u ∧
      u.mem = s.mem ∧ (∀ c, s.owner (.group (key * 32 / 2 ^ 34)) = some c → u.rg .MEM_C_LAST_UE_HI_VALID c = 1) := by
  unfold hbmError
  extract_lets g ga pc owner v
  have hv : v.mem = s.mem := by
    unfold v
    split <;> rfl
  rw [if_neg (by omega)]
  refine ⟨noteUe owner g ga v, rfl, (noteUe_mem ..).trans hv, fun c hc => ?_⟩
  rw [show owner = some c from hc]
  exact noteUe_rg ..

theorem hbmError_scrubAt (finder key sym : Nat) (s : State) : (hbmError finder key sym s).mem.scrubAt = s.mem.scrubAt := by
  by_cases h : sym < 2
  · obtain ⟨u, hu, hm, -, -⟩ := hbmError_of_correctable (finder := finder) (key := key) (s := s) h rfl
    rw [hu, onMem_mem, hm]
  · obtain ⟨u, hu, hm, -⟩ := hbmError_of_uncorrectable (finder := finder) (key := key) (s := s) (Nat.not_lt.mp h)
    rw [hu, raise_mem, hm]

theorem scrubWrap_short {s : State} (h : s.mem.scrubAt < 64 * groupCodewords) : scrubWrap s = s := if_pos h

/-- One codeword read; a clean one changes nothing but the place reached. -/
theorem patrolScrub_of_clean {s : State} (he : s.rg .MEM_CTRL_SCRUB_EN 0 ≠ 0) (hb : look (scrubKey s.mem.scrubAt) s.mem.bad = none) :
    patrolScrub s = scrubWrap (onMem (fun m => { m with scrubAt := m.scrubAt + 1 }) s) := by
  unfold patrolScrub
  rw [if_neg he]
  dsimp only
  rw [hb]

theorem patrolScrub_of_bad {n : Nat} {s : State} (he : s.rg .MEM_CTRL_SCRUB_EN 0 ≠ 0)
    (hb : look (scrubKey s.mem.scrubAt) s.mem.bad = some n) : patrolScrub s = scrubWrap (onMem (fun m => { m with scrubAt := m.scrubAt + 1 })
      (if n < 2 then onMem (fun m => { m with scrubCorr := m.scrubCorr + 1 })
          (cleanKey (scrubKey s.mem.scrubAt) (hbmError 1 (scrubKey s.mem.scrubAt) n s))
        else onMem (fun m => { m with scrubUncorr := m.scrubUncorr + 1 }) (hbmError 1 (scrubKey s.mem.scrubAt) n s))) := by
  unfold patrolScrub
  rw [if_neg he]
  dsimp only
  rw [hb]

/-! ### Refresh and injected errors -/

theorem mem_addSet_iff {α : Type} [DecidableEq α] (x y : α) (l : List α) : y ∈ addSet x l ↔ y ∈ l ∨ y = x := by
  unfold addSet
  split
  next h => exact ⟨.inl, fun hy => hy.elim id (fun he => he ▸ h)⟩
  next => simp

theorem mem_remSet_iff {α : Type} [DecidableEq α] (x y : α) (l : List α) : y ∈ remSet x l ↔ y ∈ l ∧ y ≠ x := by
  simp [remSet]

theorem injectInto_of_none {g key : Nat} {s : State} (h : s.mem.inject = none) : injectInto g key s = s := by
  unfold injectInto
  rw [h]

theorem injectInto_of_armed {g key n : Nat} {s : State} (h : s.mem.inject = some (g, n)) (hn : n ≠ 0) : injectInto g key s =
    setRg .MEM_X_INJECT_ARMED 0 0 (onMem (fun m => { m with inject := none, bad := put key n m.bad }) s) := by
  unfold injectInto
  rw [h]
  dsimp only
  simp [hn]

/-- What a write leaves before an armed injection takes effect. -/
theorem writeAt_eq (a : Nat) (bs : List Byte) (s : State) : writeAt a bs s =
    if a < 2 ^ 40 ∧ (wholeKeys a bs.length).1 < (wholeKeys a bs.length).2 then
      injectInto (a / 2 ^ 34) (wholeKeys a bs.length).1 (onMem (fun m => { m with
        bytes := memSetN a bs m.bytes, bad := m.bad.filter (fun e => !inSpan a bs.length e.1) }) s)
    else onMem (fun m => { m with bytes := memSetN a bs m.bytes, bad := m.bad.filter (fun e => !inSpan a bs.length e.1) }) s := rfl

theorem writeAt_of_unarmed {a : Nat} {bs : List Byte} {s : State} (h : s.mem.inject = none) : writeAt a bs s = onMem (fun m => { m with
    bytes := memSetN a bs m.bytes, bad := m.bad.filter (fun e => !inSpan a bs.length e.1) }) s := by
  rw [writeAt_eq]
  split
  · exact injectInto_of_none h
  · rfl

theorem writeAt_of_armed {a n : Nat} {bs : List Byte} {s : State} (ha : a < 2 ^ 40)
    (hw : (wholeKeys a bs.length).1 < (wholeKeys a bs.length).2) (hn : n ≠ 0) (h : s.mem.inject = some (a / 2 ^ 34, n)) :
    writeAt a bs s = setRg .MEM_X_INJECT_ARMED 0 0 (onMem (fun m => { m with
      inject := none, bad := put (wholeKeys a bs.length).1 n m.bad }) (onMem (fun m => { m with
        bytes := memSetN a bs m.bytes, bad := m.bad.filter (fun e => !inSpan a bs.length e.1) }) s)) := by
  rw [writeAt_eq, if_pos ⟨ha, hw⟩]
  exact injectInto_of_armed h hn

/-! ### CXL ports -/

@[simp] theorem setCxl_port_self (n : Nat) (c : Cxl) (s : State) : (setCxl n c s).cxlPort n = c := lookD_put_self ..

theorem setCxl_port_ne {n m : Nat} (c : Cxl) (s : State) (h : m ≠ n) : (setCxl n c s).cxlPort m = s.cxlPort m := lookD_put_ne _ _ _ h

theorem cxlPort_congr {s t : State} (h : t.mem = s.mem) (n : Nat) : t.cxlPort n = s.cxlPort n := by
  unfold State.cxlPort
  rw [h]

@[simp] theorem cxlEnter_port_self (n : Nat) (st : CxlSt) (s : State) : (cxlEnter n st s).cxlPort n = { s.cxlPort n with st := st } :=
  setCxl_port_self ..

theorem cxlEnter_port_ne {n m : Nat} (st : CxlSt) (s : State) (h : m ≠ n) : (cxlEnter n st s).cxlPort m = s.cxlPort m :=
  setCxl_port_ne _ _ h

@[simp] theorem cxlEnter_rg_state (n : Nat) (st : CxlSt) (s : State) :
    (cxlEnter n st s).rg .MEM_CXLn_STATUS_STATE n = st.code % 2 ^ RN.width .MEM_CXLn_STATUS_STATE := by
  unfold cxlEnter
  dsimp only
  rw [setRg_rg_ne _ _ (by simp), setRg_rg_self]

theorem cxlEnter_sameRegs (n : Nat) (st : CxlSt) (s : State) :
    SameRegs [.MEM_CXLn_STATUS_STATE, .MEM_STATUS_CXL_ACTIVE] s (cxlEnter n st s) := by
  unfold cxlEnter setCxl
  extract_lets t active
  exact Touches.sameRegs (touch_setRg (L := [.reg .MEM_CXLn_STATUS_STATE, .reg .MEM_STATUS_CXL_ACTIVE, .mem]) (by decide)
    (touch_setRg (by decide) (touch_onMem (by decide) (touch_refl _ s)))) (by decide)

theorem raises_mem (rs : List CxlRange) (s : State) : (forEach rs (fun r => raise 0x0A08 (some r.car) [(1, r.index)]) s).mem = s.mem := by
  induction rs generalizing s with
  | nil => rfl
  | cons r rs ih => rw [forEach_cons, ih, raise_mem]

theorem disableRanges_port (n units : Nat) (s : State) : ((disableRanges n units s).cxlPort n).disabled =
    ((s.im.cxlRanges.filter (fun r => decide (n ∈ r.ports))).filter (fun r => decide (units < r.base + r.size))).map (fun r => r.index) := by
  unfold disableRanges
  dsimp only
  rw [cxlPort_congr (raises_mem _ _), setCxl_port_self]

/-- Programming a device's decoder is one message. -/
theorem programHdm_sent (n : Nat) (s : State) : ∃ l, programHdm n s = { s with sent := l ++ s.sent } ∧
    ∀ t : State, t.im = s.im → programHdm n t = { t with sent := l ++ t.sent } := by
  unfold programHdm
  dsimp only
  split
  next a b ha hb =>
    refine ⟨[.hdm n a.base (b.base + b.size - a.base)], rfl, fun t ht => ?_⟩
    rw [ht, ha, hb]
    rfl
  next hn =>
    refine ⟨[], rfl, fun t ht => ?_⟩
    rw [ht]
    split
    next a b ha hb => exact absurd hb (hn a b ha)
    next => rfl

/-- A port's registers and state after a training that ended. -/
def cxlTrained (n width gts units : Nat) (s : State) : State :=
  setRg .MEM_CXLn_CAP_UNITS n units (wrapUp .MEM_CXLn_STATUS_UP_COUNT n (setRg .MEM_CXLn_STATUS_GTS n gts
    (setRg .MEM_CXLn_STATUS_WIDTH n width (cxlEnter n (if width = 16 ∧ gts = 64 then .up else .degraded) s))))

theorem cxlTrained_rg (n width gts units : Nat) (s : State) :
    (cxlTrained n width gts units s).rg .MEM_CXLn_STATUS_WIDTH n = width % 2 ^ RN.width .MEM_CXLn_STATUS_WIDTH ∧
    (cxlTrained n width gts units s).rg .MEM_CXLn_STATUS_GTS n = gts % 2 ^ RN.width .MEM_CXLn_STATUS_GTS ∧
    (cxlTrained n width gts units s).rg .MEM_CXLn_STATUS_UP_COUNT n =
      (s.rg .MEM_CXLn_STATUS_UP_COUNT n + 1) % 2 ^ RN.width .MEM_CXLn_STATUS_UP_COUNT ∧
    (cxlTrained n width gts units s).rg .MEM_CXLn_CAP_UNITS n = units % 2 ^ RN.width .MEM_CXLn_CAP_UNITS := by
  unfold cxlTrained wrapUp
  refine ⟨?_, ?_, ?_, setRg_rg_self ..⟩
  · rw [setRg_rg_ne _ _ (by simp), setRg_rg_ne _ _ (by simp), setRg_rg_ne _ _ (by simp), setRg_rg_self]
  · rw [setRg_rg_ne _ _ (by simp), setRg_rg_ne _ _ (by simp), setRg_rg_self]
  · rw [setRg_rg_ne _ _ (by simp), setRg_rg_self, setRg_rg_ne _ _ (by simp), setRg_rg_ne _ _ (by simp),
      cxlEnter_sameRegs _ _ _ _ _ (by simp)]

theorem cxlTrainingEnd_of_link {n width gts units : Nat} {s : State} (hs : (s.cxlPort n).st = .training)
    (ht : s.clk < (s.cxlPort n).trainAt + 100000000) (hw : width = 16 ∨ width = 8) (hg : gts = 64 ∨ gts = 32) :
    cxlTrainingEnd n width gts units s = disableRanges n units (raise 0x0A06 none [(1, width), (1, gts)]
      (programHdm n (cxlTrained n width gts units s))) := by
  refine if_neg ?_
  rintro (h | h | h | h)
  · exact h hs
  · omega
  · omega
  · omega

theorem drivePerst_pair_perst (n : Nat) (s : State) : n ∉ (drivePerst n false (drivePerst n true s)).pkg.perst := by
  show n ∉ remSet n _
  rw [mem_remSet_iff]
  exact fun h => h.2 rfl

end Sys2Proof.Machine

namespace Sys2Proof.Proofs

open Sys2Proof Sys2Proof.Machine

/-- Settles O47: errors by their number of symbols (`hbmError_of_correctable`, `hbmError_of_uncorrectable`), a write by whether an
injection is armed, and a CXL port by its state. -/
theorem memoryIsScrubbedInjectedAndAttached : Obligations.MemoryIsScrubbedInjectedAndAttached := by
  unfold Obligations.MemoryIsScrubbedInjectedAndAttached
  refine ⟨fun s hl he => (done_live hl).trans (congrArg _ (if_pos he)), ?scrub, fun key s => ⟨look_del_self .., rfl⟩, ?error,
    fun p s hl hr he => (done_live_access hl hr).trans (congrArg _ (if_pos he)),
    fun k s hl => ⟨fun hk => (done_live hl).trans (congrArg _ (if_pos hk)), fun hk => ?refresh⟩,
    fun g pc s hl => ⟨fun h => (done_live hl).trans (congrArg _ (if_neg (Nat.not_lt.mpr h))),
      fun h => (done_live hl).trans (congrArg _ (if_pos h))⟩, ?arm, ?write, ?enter, ?detect, ?trained,
    fun n units s _ => disableRanges_port n units s, ?lost, ?down, ?retrain⟩
  case scrub =>
    intro s hl he key on
    refine ⟨fun hat => ⟨fun hb => ?_, fun n hb hn => ?_, fun n hb hn => ?_⟩, fun hat hb => ?_⟩
    · refine (done_live hl).trans (congrArg _ ((patrolScrub_of_clean he hb).trans (scrubWrap_short hat)))
    · refine (done_live hl).trans (congrArg _ ((patrolScrub_of_bad he hb).trans ?_))
      rw [if_pos hn]
      refine scrubWrap_short ?_
      show (hbmError 1 key n s).mem.scrubAt + 1 < _
      rwa [hbmError_scrubAt]
    · refine (done_live hl).trans (congrArg _ ((patrolScrub_of_bad he hb).trans ?_))
      rw [if_neg (by omega)]
      refine scrubWrap_short ?_
      show (hbmError 1 key n s).mem.scrubAt + 1 < _
      rwa [hbmError_scrubAt]
    · exact (done_live hl).trans (congrArg _ ((patrolScrub_of_clean he hb).trans (if_neg (Nat.not_lt.mpr hat))))
  case error =>
    intro finder key sym s g ga
    refine ⟨fun h => ⟨hbmError_pcCount h rfl, ?_⟩, fun h => hbmError_of_uncorrectable h⟩
    obtain ⟨u, hu, hm, -, he⟩ := hbmError_of_correctable (finder := finder) (key := key) (s := s) h rfl
    rw [hu, onMem_mem, hm]
    exact ⟨he, rfl⟩
  case refresh =>
    refine ⟨_, (done_live hl).trans (congrArg _ (if_neg (not_not_intro hk))), ?_, lookD_put_self .., fun n i _ => rfl, fun a => rfl⟩
    rw [onMem_mem]
    dsimp only
    cases hd : stackHot s k.val || s.rg .MEM_X_REFRESH_DOUBLE 0 == 1 with
    | true =>
      rw [if_pos rfl, mem_addSet_iff]
      simpa using hd
    | false =>
      rw [if_neg (by simp), mem_remSet_iff]
      simpa using hd
  case arm =>
    intro p s hl hr he n
    refine ⟨fun hn => (done_live_access hl hr).trans (congrArg _ ((if_pos he).trans (if_pos hn))),
      fun hn => (done_live_access hl hr).trans (congrArg _ ((if_pos he).trans (if_neg hn)))⟩
  case write =>
    intro a bs s w
    refine ⟨fun hi e => ?_, fun n ha hw hn hi => ?_⟩
    · rw [writeAt_of_unarmed hi, onMem_mem, List.mem_filter, Bool.not_eq_true']
    · rw [writeAt_of_armed ha hw hn hi]
      exact ⟨rfl, look_put_self .., setRg_rg_self ..⟩
  case enter =>
    intro n st s _ t
    exact ⟨cxlEnter_port_self .., fun m hm _ => cxlEnter_port_ne st s hm, cxlEnter_rg_state .., rfl, fun a => rfl, cxlEnter_sameRegs n st s⟩
  case detect =>
    intro c s hl
    refine ⟨fun h => (done_live hl).trans (congrArg _ (if_pos (by tauto))),
      fun h1 h2 h3 h4 h5 => (done_live hl).trans (congrArg _ (if_neg ?_))⟩
    rintro (h | h | h | h | h)
    · exact h h1
    · exact h2 h
    · exact h h3
    · omega
    · exact h5 h
  case trained =>
    intro c width gts units s hl hs ht
    refine ⟨fun hw => (done_live hl).trans (congrArg _ (if_pos (.inr (.inl hw)))),
      fun hw hg => ⟨_, (done_live hl).trans (congrArg _ (cxlTrainingEnd_of_link hs ht hw hg)), ?_⟩⟩
    obtain ⟨l, hp, hq⟩ := programHdm_sent c.val s
    obtain ⟨hw, hg, hu, hc⟩ := cxlTrained_rg c.val width gts units s
    rw [hq (cxlTrained c.val width gts units s) rfl, hp]
    exact ⟨congrArg Cxl.st (cxlEnter_port_self ..), hw, hg, hu, hc, rfl, rfl, fun a => rfl⟩
  case lost =>
    intro c s hl
    refine ⟨fun hs => (done_live hl).trans (congrArg _ ?_), fun ha => (done_live hl).trans (congrArg _ (if_pos ha)),
      fun ha => (done_live hl).trans (congrArg _ (if_neg (ne_true_of_eq_false ha)))⟩
    unfold cxlTrainingTimeout
    rw [hs]
    simp only [true_and]
  case down =>
    intro n s _
    refine ⟨setRg .MEM_CXLn_STATUS_GTS n 0 (setRg .MEM_CXLn_STATUS_WIDTH n 0 (cxlEnter n .down
      (setCxl n { s.cxlPort n with downAt := s.clk } s))), ?_, ?_, ?_, ?_, setRg_rg_self .., rfl, fun a => rfl⟩
    · unfold cxlDown
      dsimp only
      by_cases hh : cxlHolders s n = []
      · rw [hh]
        rfl
      · rw [if_neg hh, show (!(cxlHolders s n).isEmpty) = true by simp [hh]]
        rfl
    · exact congrArg Cxl.st (cxlEnter_port_self ..)
    · exact (congrArg Cxl.downAt (cxlEnter_port_self ..)).trans (congrArg Cxl.downAt (setCxl_port_self ..))
    · rw [setRg_rg_ne _ _ (by simp), setRg_rg_self]
      rfl
  case retrain =>
    intro c s hl
    refine ⟨fun h => (done_live hl).trans (congrArg _ (if_neg ?_)), fun h1 h2 h3 =>
      ⟨_, (done_live hl).trans (congrArg _ (if_pos ⟨h1, h2, h3⟩)), congrArg Cxl.st (cxlEnter_port_self ..), ?_,
        drivePerst_pair_perst c.val s, rfl, fun a => rfl⟩⟩
    · rintro ⟨h1, h2, -⟩
      rcases h with h | h
      · exact h h1
      · omega
    · exact (congrArg Cxl.trainAt (cxlEnter_port_self ..)).trans (congrArg Cxl.trainAt (setCxl_port_self ..))

end Sys2Proof.Proofs

end

section
/-! PROOF. Monitors, throttle steps, and the recorder's flash copies and clears (R560 to R574). -/

namespace Sys2Proof.Machine

open Sys2Proof

/-! ### Samples -/

/-- The readings of one sensor put in their registers. -/
theorem sampleTemp_eq (i : Nat) (r : Int) (s : State) :
    let v := clampInt (-2048) 2047 (r + signed 8 (s.rg .MON_X_TTRIM_OFFSET i))
    ∃ u, u.evr = s.evr ∧ u.rg .MON_TEMP_VALUE i = unsigned 12 v % 2 ^ RN.width .MON_TEMP_VALUE ∧
      (∀ j, j ≠ i → u.rg .MON_TEMP_VALUE j = s.rg .MON_TEMP_VALUE j) ∧
      (signed 12 (s.rg .MON_TEMP_MAX_MAX 0) < v → u.rg .MON_TEMP_MAX_MAX 0 = unsigned 12 v % 2 ^ RN.width .MON_TEMP_MAX_MAX) ∧
      sampleTemp i r s = if s.rg .MON_TEMP_EXCLUDED i = 1 then u
        else if (s.rg .MON_THRESH_WARN 0 * 8 : Int) ≤ v then raiseFirst 0x0D02 i none [(1, i), (2, unsigned 12 v)]
          (onMon (fun m => { m with hot := m.hot || decide (800 ≤ v)
                                    warmNow := m.warmNow || decide ((s.rg .MON_THRESH_DOWN 0 * 8 : Int) ≤ v) }) u)
        else onMon (fun m => { m with hot := m.hot || decide (800 ≤ v)
                                      warmNow := m.warmNow || decide ((s.rg .MON_THRESH_DOWN 0 * 8 : Int) ≤ v) }) u := by
  intro v
  let w := setRg .MON_TEMP_VALUE i (unsigned 12 v) s
  have hmax : w.rg .MON_TEMP_MAX_MAX 0 = s.rg .MON_TEMP_MAX_MAX 0 := setRg_rg_ne _ _ (by simp)
  refine ⟨if signed 12 (w.rg .MON_TEMP_MAX_MAX 0) < v then setRg .MON_TEMP_MAX_MAX 0 (unsigned 12 v) w else w, ?_, ?_, fun j hj => ?_,
    fun h => ?_, ?_⟩
  · split <;> rfl
  · split
    · rw [setRg_rg_ne _ _ (by simp), setRg_rg_self]
    · rw [setRg_rg_self]
  · split
    · rw [setRg_rg_ne _ _ (by simp), setRg_rg_ne _ _ (by simp [hj])]
    · rw [setRg_rg_ne _ _ (by simp [hj])]
  · rw [hmax, if_pos h, setRg_rg_self]
  · have hu : ∀ n, n ≠ .MON_TEMP_VALUE → n ≠ .MON_TEMP_MAX_MAX → ∀ j,
        (if signed 12 (w.rg .MON_TEMP_MAX_MAX 0) < v then setRg .MON_TEMP_MAX_MAX 0 (unsigned 12 v) w else w).rg n j = s.rg n j := by
      intro n h1 h2 j
      split
      · rw [setRg_rg_ne _ _ (by simp [h2]), setRg_rg_ne _ _ (by simp [h1])]
      · rw [setRg_rg_ne _ _ (by simp [h1])]
    unfold sampleTemp
    extract_lets b c
    have hx : b.rg .MON_TEMP_EXCLUDED i = s.rg .MON_TEMP_EXCLUDED i := hu _ (by simp) (by simp) i
    have hw : c.rg .MON_THRESH_WARN 0 = s.rg .MON_THRESH_WARN 0 := hu _ (by simp) (by simp) 0
    have hd : b.rg .MON_THRESH_DOWN 0 = s.rg .MON_THRESH_DOWN 0 := hu _ (by simp) (by simp) 0
    rw [hx, hw, show c = onMon _ b from rfl, hd]

theorem raiseFirst_start (c item : Nat) (car : Option Nat) (items : List Item) (s : State) :
    (raiseFirst c item car items s).start = s.start ∧ (raiseFirst c item car items s).mon = s.mon ∧
    (raiseFirst c item car items s).clk = s.clk := by
  unfold raiseFirst
  split
  · exact ⟨rfl, rfl, rfl⟩
  · exact ⟨raise_start .., raise_mon .., raise_clk ..⟩

theorem raiseFirst_rg_of_ne {n : RN} (c item : Nat) (car : Option Nat) (items : List Item) (s : State) (i : Nat)
    (h1 : n ≠ .EVR_LOST_COUNT) (h2 : n ≠ .EVR_SUPPRESSED_COUNT) : (raiseFirst c item car items s).rg n i = s.rg n i := by
  unfold raiseFirst
  split
  · rfl
  · exact raise_rg_of_ne _ _ _ _ _ _ h1 h2

/-- A fatal fault stops the node. -/
theorem fatalFault_stops {cause n d : Nat} {s : State} (h : s.start.stopped = false) :
    (fatalFault cause n d s).start.stopped = true ∧ (fatalFault cause n d s).ras.fatal = some cause := by
  unfold fatalFault persistBegin
  rw [if_neg (ne_true_of_eq_false h)]
  dsimp only
  split
  · exact ⟨rfl, rfl⟩
  · split <;> exact ⟨rfl, rfl⟩

theorem sampleVolt_of_core {i mv : Nat} {s : State} (hc : coreRail i = true) (he : s.rg .MON_VOLT_EXCLUDED i ≠ 1) :
    ∃ u, u.start = s.start ∧ u.mon = s.mon ∧ u.clk = s.clk ∧ sampleVolt i mv s =
      if 660 ≤ mv ∧ mv ≤ 800 then onMon (fun m => { m with railOut := del i m.railOut }) u
      else match look i u.mon.railOut with
        | none => onMon (fun m => { m with railOut := put i u.clk m.railOut }) u
        | some t => if t + 1000000 ≤ u.clk then fatalFault 2 0x0C 2 (raise 0x0D05 none [(1, i), (2, mv)] u) else u := by
  have hx : (setRg .MON_VOLT_MV i mv s).rg .MON_VOLT_EXCLUDED i = s.rg .MON_VOLT_EXCLUDED i := setRg_rg_ne _ _ (by simp)
  obtain ⟨h1, h2, h3⟩ := raiseFirst_start 0x0D03 i none [(1, i), (2, mv)] (setRg .MON_VOLT_MV i mv s)
  unfold sampleVolt
  dsimp only
  rw [hx, if_neg (by simp [hc, he])]
  by_cases hr : mv < 680 ∨ 780 < mv
  · rw [if_pos hr]
    exact ⟨_, h1, h2, h3, rfl⟩
  · rw [if_neg hr]
    exact ⟨setRg .MON_VOLT_MV i mv s, rfl, rfl, rfl, rfl⟩

theorem thermalPins_out (s : State) : let t := thermalPins s
    let low := (includedSensors s).any (fun i => decide (800 ≤ s.temp i)) || s.mon.tripped
    t.pkg.thermAlert = low ∧ t.rg .MON_STATUS_ALERT 0 = b2n low ∧
    t.sent = (if low = s.pkg.thermAlert then s.sent else .ibi (if low then 2 else 3) :: .thermAlert low :: s.sent) := by
  intro t low
  let u := setRg .MON_STATUS_HOTTEST 0 ((mostBy (fun i => (s.temp i + 2048).toNat) (includedSensors s)).getD 0)
    (setRg .MON_STATUS_ALERT 0 (b2n low) s)
  have ht : t = if low = s.pkg.thermAlert then u
      else emit (.ibi (if low then 2 else 3)) (emit (.thermAlert low) (onPkg (fun p => { p with thermAlert := low }) u)) := rfl
  have hu : u.rg .MON_STATUS_ALERT 0 = b2n low := by
    have hb : b2n low % 2 ^ 1 = b2n low := by cases low <;> rfl
    exact (setRg_rg_ne _ _ (by simp)).trans ((setRg_rg_self ..).trans hb)
  by_cases h : low = s.pkg.thermAlert
  · rw [ht, if_pos h, if_pos h]
    exact ⟨h.symm, hu, rfl⟩
  · rw [ht, if_neg h, if_neg h]
    exact ⟨rfl, hu, rfl⟩

/-! ### Throttle steps -/

theorem nextT_cases (hot cool : Bool) (t since : Nat) :
    (t < 3 → nextT true true cool t since = (t + 1, 0)) ∧ (3 ≤ t → nextT true true false t since = (t, since + 1)) ∧
    (0 < t → 4 ≤ since → nextT true false true t since = (t - 1, 0)) ∧ (nextT false hot cool t since).1 = 0 := by
  refine ⟨fun h => ?_, fun h => ?_, fun h1 h2 => ?_, rfl⟩
  · simp [nextT, h]
  · simp [nextT, Nat.not_lt.mpr h]
  · simp [nextT, h1, h2]

/-- What the boundary leaves before the change is recorded. -/
theorem throttleEval_of_frame {s : State} (h : s.mon.evalAt < s.frame) :
    let auto := s.rg .MON_CTRL_AUTO_THROTTLE 0 == 1
    let cool := if s.mon.warmNow then 0 else s.mon.coolFrames + 1
    let n := nextT auto s.mon.hot (decide (4 ≤ cool)) s.mon.t s.mon.sinceChange
    let new := stepOf auto (s.rg .MON_X_STEP_FORCE 0 == 1) (s.rg .MON_X_STEP_STEP 0) (s.rg .MON_STATUS_FLOOR 0) n.1
    throttleEval s = when (new != s.rg .MON_STATUS_STEP 0) (raise 0x0D01 none
        [(1, s.rg .MON_STATUS_STEP 0), (1, new), (1, n.1), (1, s.rg .MON_STATUS_FLOOR 0)])
      (setRg .MON_STATUS_STEP 0 new (bump .MON_STEPCNT_FRAMES (s.rg .MON_STATUS_STEP 0) 1 (onMon (fun m => { m with
        t := n.1, sinceChange := n.2, hot := false, warmNow := false, coolFrames := cool, evalAt := s.frame }) s))) :=
  if_neg (Nat.not_le.mpr h)

/-! ### Records in flash -/

theorem raise_clearWait (c : Nat) (car : Option Nat) (items : List Item) (s : State) :
    (raise c car items s).evr.clearWait = s.evr.clearWait := by
  by_cases h : Recorded c s
  · rw [raise_evr_of_recorded car items h]
    rfl
  · rw [raise_evr_of_dropped car items h]
    rfl

theorem persistEnd_of_good {a purpose ft : Nat} {p : Persist} {s : State} (h : s.start.writing = some (a, p, purpose, ft)) :
    persistEnd true s = setRg .EVR_PERSIST_FT_HI_FT_HI 0 (ft / 2 ^ 32) (setRg .EVR_PERSIST_FT_LO_FT_LO 0 ft
      (onStart (fun x => { x with area := some a, persist := some p })
        (onSec (fun x => { x with flash := { x.flash with areas := put a p x.flash.areas } })
          (onStart (fun x => { x with writing := none }) s)))) := by
  unfold persistEnd
  rw [h]
  rfl

theorem persistEnd_of_bad {a purpose ft : Nat} {p : Persist} {s : State} (h : s.start.writing = some (a, p, purpose, ft)) :
    persistEnd false s = raise 0x0E04 none [] (onStart (fun x => { x with badAreas := addSet a x.badAreas })
      (onStart (fun x => { x with writing := none }) s)) := by
  unfold persistEnd
  rw [h]
  rfl

/-- What the end of a write leaves of what `persistWriteDone` looks at. -/
theorem persistEnd_rest {ok : Bool} {a purpose ft : Nat} {p : Persist} {s : State} (h : s.start.writing = some (a, p, purpose, ft)) :
    (persistEnd ok s).start.stopped = s.start.stopped ∧ (persistEnd ok s).start.clearWrites = s.start.clearWrites ∧
    (persistEnd ok s).evr.clearWait = s.evr.clearWait ∧
    (persistEnd ok s).rg .BIST_SHUT_STATUS_STATE 0 = s.rg .BIST_SHUT_STATUS_STATE 0 := by
  cases ok with
  | true =>
    rw [persistEnd_of_good h]
    refine ⟨rfl, rfl, rfl, ?_⟩
    rw [setRg_rg_ne _ _ (by simp), setRg_rg_ne _ _ (by simp)]
    rfl
  | false =>
    rw [persistEnd_of_bad h, raise_start, raise_clearWait, raise_rg_of_ne _ _ _ _ _ _ (by simp) (by simp)]
    exact ⟨rfl, rfl, rfl, rfl⟩

theorem persistWriteDone_of_regular {ok : Bool} {a ft : Nat} {p : Persist} {s : State} (h : s.start.writing = some (a, p, 0, ft))
    (hs : s.start.stopped = false) (hst : s.rg .BIST_SHUT_STATUS_STATE 0 ≠ 3) (hw : s.evr.clearWait = none)
    (hc : s.start.clearWrites = 0) : persistWriteDone ok s = persistEnd ok s := by
  obtain ⟨es, ec, ew, er⟩ := persistEnd_rest (ok := ok) h
  have hwhen : when (!ok && (0 : Nat) == 3) (onStart (fun x => { x with clearWrites := x.clearWrites + 1 })) (persistEnd ok s) =
      persistEnd ok s := if_neg (by simp)
  unfold persistWriteDone
  rw [h]
  dsimp only
  rw [if_neg (by decide), hwhen, es, hs, if_neg (by simp), er, if_neg hst, ew, hw]
  dsimp only
  exact if_neg (fun hp => by rw [ec, hc] at hp; exact absurd hp.1 (lt_irrefl 0))

theorem persistWrite_of_due {s : State} (h3 : 3 ∈ s.start.done) (hw : s.start.writing = none) (hst : s.rg .BIST_SHUT_STATUS_STATE 0 < 2)
    (hd : s.start.persistAt + 60000000000 ≤ s.clk) :
    persistWrite s = persistBegin 0 (snapshot false false s) (onStart (fun x => { x with persistAt := s.clk }) s) :=
  if_pos ⟨h3, hw, hst, hd⟩

/-! ### Clears -/

theorem evrClear_of_late {p : Nat} {s : State} (hs : s.holdsSem p 2 = true) (hq : s.evr.next - 1 < s.rg .EVR_CLEAR_SEQ_SEQ p) :
    evrClear p s = result .EVR_CLEAR_RESULT_STATUS .EVR_CLEAR_RESULT_DONE p Status.badCommand s := by
  unfold evrClear
  dsimp only
  rw [if_neg (by simp [hs]), if_pos hq]

theorem evrClear_of_authorised {p : Nat} {s : State} (hs : s.holdsSem p 2 = true) (hq : s.rg .EVR_CLEAR_SEQ_SEQ p ≤ s.evr.next - 1)
    (ha : clearAuthorised p s = true) : evrClear p s =
      if s.start.writing.isSome then onEvr (fun e => { e with
          clearWait := some (p, max (s.rg .EVR_CLEAR_SEQ_SEQ p) ((e.clearWait.map Prod.snd).getD 0)) })
        (result .EVR_CLEAR_RESULT_STATUS .EVR_CLEAR_RESULT_DONE p Status.ok s)
      else clearWrite (evrClearNow p (s.rg .EVR_CLEAR_SEQ_SEQ p)
        (result .EVR_CLEAR_RESULT_STATUS .EVR_CLEAR_RESULT_DONE p Status.ok s)) := by
  unfold evrClear
  dsimp only
  rw [if_neg (by simp [hs]), if_neg (Nat.not_lt.mpr hq), if_neg (by simp [ha])]
  rfl

end Sys2Proof.Machine

namespace Sys2Proof.Proofs

open Sys2Proof Sys2Proof.Machine

/-- Settles O48: a reading by what its sample leaves (`sampleTemp_eq`, `sampleVolt_of_core`), a step by `throttleEval_of_frame`, and
a flash write by how it ends (`persistEnd_of_good`, `persistEnd_of_bad`). -/
theorem monitorsThrottleAndPersist : Obligations.MonitorsThrottleAndPersist := by
  unfold Obligations.MonitorsThrottleAndPersist
  refine ⟨?sample, ?temp, thermalPins_out, fun sampled s => rfl, fun i s h => fatalFault_stops (by simpa using h), ?volt, ?eval, nextT_cases,
    fun forced floor t => ⟨rfl, rfl, rfl, rfl⟩, fun i e s hl he hf => (done_live hl).trans (congrArg _ (fireEntry_of_fires he hf)),
    ?write, fun ok a ft p s h hs hst hw hc => congrArg Host.Outcome.next (persistWriteDone_of_regular h hs hst hw hc), ?ended, ?clear,
    fun p seq s => ⟨_, _, rfl, rfl, rfl⟩, ?purge⟩
  case sample =>
    intro temps volts procs s hl ht hv hp
    refine (done_live hl).trans (congrArg _ ?_)
    unfold monitorSample
    rw [List.filter_eq_self.mpr (fun e he => decide_eq_true (ht e he)), List.filter_eq_self.mpr (fun e he => decide_eq_true (hv e he)),
      List.filter_eq_self.mpr (fun e he => decide_eq_true (hp e he))]
  case temp =>
    intro i r s t v
    obtain ⟨u, hu, h1, h2, h3, ht⟩ := sampleTemp_eq i r s
    change t = _ at ht
    by_cases hx : s.rg .MON_TEMP_EXCLUDED i = 1
    · rw [ht, if_pos hx]
      exact ⟨h1, h2, h3, fun _ => hu, fun hne => absurd hx hne⟩
    by_cases hw : (s.rg .MON_THRESH_WARN 0 * 8 : Int) ≤ v
    · rw [ht, if_neg hx, if_pos hw]
      refine ⟨?_, fun j hj => ?_, fun hm => ?_, fun h => ?_, fun _ _ => ⟨_, rfl, hu⟩⟩
      · exact (raiseFirst_rg_of_ne _ _ _ _ _ _ (by simp) (by simp)).trans h1
      · exact (raiseFirst_rg_of_ne _ _ _ _ _ _ (by simp) (by simp)).trans (h2 j hj)
      · exact (raiseFirst_rg_of_ne _ _ _ _ _ _ (by simp) (by simp)).trans (h3 hm)
      · exact h.elim (fun h => absurd h hx) (fun h => absurd hw (by omega))
    · rw [ht, if_neg hx, if_neg hw]
      exact ⟨h1, h2, h3, fun _ => hu, fun _ h => absurd h hw⟩
  case volt =>
    intro i mv s hc he
    obtain ⟨u, us, um, uc, hv⟩ := sampleVolt_of_core (mv := mv) hc he
    refine ⟨fun h1 h2 => ?_, fun hout => ?_⟩
    · rw [hv, if_pos ⟨h1, h2⟩]
      exact ⟨look_del_self .., us⟩
    · rw [hv, if_neg (by omega), um, uc]
      refine ⟨fun hn => ?_, fun t ht hd hs => ?_, fun t ht hd => ?_⟩
      · rw [hn]
        exact look_put_self ..
      · rw [ht]
        dsimp only
        rw [if_pos hd]
        exact fatalFault_stops (by rw [raise_start, us, hs])
      · rw [ht]
        dsimp only
        rw [if_neg (Nat.not_le.mpr hd), us]
  case eval =>
    intro s hl auto cool n new
    refine ⟨fun h => (done_live hl).trans (congrArg _ (if_pos h)), fun h => ⟨setRg .MON_STATUS_STEP 0 new
      (bump .MON_STEPCNT_FRAMES (s.rg .MON_STATUS_STEP 0) 1 (onMon (fun m => { m with
        t := n.1, sinceChange := n.2, hot := false, warmNow := false, coolFrames := cool, evalAt := s.frame }) s)),
      (done_live hl).trans (congrArg _ ((throttleEval_of_frame h).trans ?_)), setRg_rg_self .., rfl, rfl, rfl, ?_, fun a => rfl, rfl⟩⟩
    · by_cases hn : new = s.rg .MON_STATUS_STEP 0
      · rw [if_pos hn]
        exact if_neg (by simpa using hn)
      · rw [if_neg hn]
        exact if_pos (by simpa using hn)
    · exact Touches.sameRegs (touch_setRg (L := [.reg .MON_STATUS_STEP, .reg .MON_STEPCNT_FRAMES, .mon]) (by decide)
        (touch_bump (by decide) (touch_onMon (by decide) (touch_refl _ s)))) (by decide)
  case write =>
    intro s hl h3 hw hst
    refine ⟨fun hd => (done_live hl).trans (congrArg _ (if_neg fun h => by omega)), fun hd =>
      ⟨_, (done_live hl).trans (congrArg _ (persistWrite_of_due h3 hw hst hd)), rfl, rfl, look_del_self .., fun a ha => look_del_ne _ ha,
        fun n i _ => rfl, fun a => rfl, rfl⟩⟩
  case ended =>
    intro a ft purpose p s h
    refine ⟨?_, _, persistEnd_of_bad h, rfl, mem_addSet .., rfl⟩
    rw [persistEnd_of_good h]
    refine ⟨rfl, rfl, look_put_self .., rfl, ?_⟩
    rw [setRg_rg_ne _ _ (by simp), setRg_rg_self]
  case clear =>
    intro p s hl hr seq u
    refine ⟨fun hs => (done_live_access hl hr).trans (congrArg _ (if_pos hs)),
      fun hs hq => ⟨_, (done_live_access hl hr).trans (congrArg _ (evrClear_of_late hs hq)), ?_, rfl, ?_⟩,
      fun hs hq ha => ?_⟩
    · unfold result
      rw [setRg_rg_ne _ _ (by simp), setRg_rg_self]
      rfl
    · exact Touches.sameRegs (touch_setRg (L := [.reg .EVR_CLEAR_RESULT_STATUS, .reg .EVR_CLEAR_RESULT_DONE]) (by decide)
        (touch_setRg (by decide) (touch_refl _ s))) (by decide)
    · have he := evrClear_of_authorised hs hq ha
      exact ⟨fun hw => (done_live_access hl hr).trans (congrArg _ (he.trans (if_neg (by simp [hw])))),
        fun hw => (done_live_access hl hr).trans (congrArg _ (he.trans (if_pos (by simpa [Option.isSome_iff_ne_none] using hw))))⟩
  case purge =>
    intro s hl
    refine ⟨fun h => (done_live hl).trans (congrArg _ (if_pos (by simpa [Option.isSome_iff_ne_none] using h))),
      fun h1 h2 h3 => ⟨_, (done_live hl).trans (congrArg _ (if_neg (by simp [h1, h2, h3]))), fun e => ?_, rfl, rfl, fun n i _ => rfl,
        fun a => rfl⟩⟩
    rw [onEvr_sec, onSec_sec]
    dsimp only
    rw [List.mem_filter, decide_eq_true_iff]

end Sys2Proof.Proofs

end

section
/-! PROOF. The root of trust: objects loaded, committed and attested (R487 to R498). -/

namespace Sys2Proof.Machine

open Sys2Proof

/-! ### The loader -/

theorem loadResult_rg (p st check : Nat) (s : State) :
    (loadResult p st check s).rg .SEC_LOAD_STATUS_STATUS p = st % 2 ^ RN.width .SEC_LOAD_STATUS_STATUS ∧
    (loadResult p st check s).rg .SEC_LOAD_STATUS_CHECK p = check % 2 ^ RN.width .SEC_LOAD_STATUS_CHECK ∧
    (loadResult p st check s).rg .SEC_LOAD_STATUS_DONE p = 1 := by
  unfold loadResult
  refine ⟨?_, ?_, setRg_rg_self ..⟩
  · rw [setRg_rg_ne _ _ (by simp), setRg_rg_ne _ _ (by simp), setRg_rg_self]
  · rw [setRg_rg_ne _ _ (by simp), setRg_rg_self]

theorem loadResult_sameRegs (p st check : Nat) (s : State) :
    SameRegs [.SEC_LOAD_STATUS_STATUS, .SEC_LOAD_STATUS_CHECK, .SEC_LOAD_STATUS_DONE] s (loadResult p st check s) :=
  Touches.sameRegs (touch_setRg (L := [.reg .SEC_LOAD_STATUS_STATUS, .reg .SEC_LOAD_STATUS_CHECK, .reg .SEC_LOAD_STATUS_DONE]) (by decide)
    (touch_setRg (by decide) (touch_setRg (by decide) (touch_refl _ s)))) (by decide)

theorem kindAllowed_iff (kind : Nat) (s : State) : kindAllowed s kind = true ↔
    (kind = 2 → s.lc = 1 ∨ s.lc = 3) ∧ s.lc ≠ 4 ∧ (s.rg .SEC_BOOT_STATE 0 = 3 → kind = 1) := by
  unfold kindAllowed State.recovery
  simp only [Bool.and_eq_true, Bool.or_eq_true, bne_iff_ne, beq_iff_eq, Bool.not_eq_true', beq_eq_false_iff_ne, ne_eq]
  tauto

theorem transitionOk_iff (count from_ next : Nat) : transitionOk count from_ next = true ↔ (next = 4 ∧ from_ ≠ 4) ∨
    (count < 120 ∧ ((from_ = 0 ∧ next = 1) ∨ (from_ = 1 ∧ next = 2) ∨ (from_ = 2 ∧ next = 3) ∨ (from_ = 3 ∧ next = 2))) := by
  simp only [transitionOk, Bool.or_eq_true, Bool.and_eq_true, beq_iff_eq, bne_iff_ne, ne_eq, decide_eq_true_eq, or_assoc]

theorem objCheck_firmware (b : List Byte) (s : State) : objCheck s 1 b = fwCheck s b := if_pos rfl

theorem objCheck_owner (b : List Byte) (s : State) : objCheck s 2 b = ownerCheck s b := (if_neg (by decide)).trans (if_pos rfl)

theorem secLoad_of_well {p : Nat} {s : State} (hl : s.sec.loader = none) (hk : s.rg .SEC_LOAD_CTRL_KIND 0 ≠ 0)
    (h1 : 1 ≤ s.rg .SEC_LOAD_LEN_LEN p) (h2 : s.rg .SEC_LOAD_LEN_LEN p ≤ 2097152)
    (ha : (s.rg .SEC_LOAD_ADDR_LO_ADDR_LO p + s.rg .SEC_LOAD_ADDR_HI_ADDR_HI p * 2 ^ 32) % 64 = 0) (hp : s.portUp p = true) :
    secLoad p s = if kindAllowed s (s.rg .SEC_LOAD_CTRL_KIND 0) = false then raise 0x0B11 none [] (loadResult p Status.accessDenied 0 s)
      else forEach (List.range (ceilDiv (s.rg .SEC_LOAD_LEN_LEN p) 4096)) (fun i t =>
          memRead p (.load (4096 * i) (min 4096 (s.rg .SEC_LOAD_LEN_LEN p - 4096 * i)))
            (s.rg .SEC_LOAD_ADDR_LO_ADDR_LO p + s.rg .SEC_LOAD_ADDR_HI_ADDR_HI p * 2 ^ 32 + 4096 * i)
            (ceilDiv (min 4096 (s.rg .SEC_LOAD_LEN_LEN p - 4096 * i)) 4 * 4) t)
        (onSec (fun x => { x with
          loader := some { port := p, kind := s.rg .SEC_LOAD_CTRL_KIND 0, phase := 1, len := s.rg .SEC_LOAD_LEN_LEN p, bytes := [], got := 0,
                           bad := false }
          verified := none }) s) := by
  unfold secLoad
  dsimp only
  rw [if_neg (by simp [hl]), if_neg (by omega), hp]
  rfl

theorem secLoadDone_of_loader {l : Loader} {s : State} (hl : s.sec.loader = some l) (hp : l.phase = 1) : secLoadDone s =
    if l.bad = false ∧ l.got < l.len then s
    else if (if l.bad then 1 else objCheck s l.kind l.bytes) ≠ 0 then
      loadFailed l.port l.kind Status.badCommand (if l.bad then 1 else objCheck s l.kind l.bytes) (onSec (fun x => { x with loader := none }) s)
    else when (s.recovery && l.kind == 1) (firmwareStarts l.bytes) (loadResult l.port Status.ok 0
      (onSec (fun x => { x with verified := some (l.kind, l.bytes) }) (onSec (fun x => { x with loader := none }) s))) := by
  unfold secLoadDone
  rw [hl]
  dsimp only
  by_cases hw : l.bad = false ∧ l.got < l.len
  · rw [if_pos (.inr hw), if_pos hw]
  · rw [if_neg (not_or.mpr ⟨not_not_intro hp, hw⟩), if_neg hw]
    rfl

theorem firmwareStarts_leaves (b : List Byte) (s : State) : (firmwareStarts b s).rg .SEC_BOOT_STATE 0 = 2 ∧
    (firmwareStarts b s).rg .SEC_BOOT_CAUSE 0 = 0 ∧ (firmwareStarts b s).sec.running = b ∧ 2 ∈ (firmwareStarts b s).start.done := by
  refine ⟨?_, ?_, rfl, mem_addSet ..⟩
  · unfold firmwareStarts
    show (setRg .SEC_FW_VERSION 0 (fwVersion b) (setRg .SEC_BOOT_CAUSE 0 0 (setRg .SEC_BOOT_STATE 0 2 _))).rg _ _ = _
    rw [setRg_rg_ne _ _ (by simp), setRg_rg_ne _ _ (by simp), setRg_rg_self]
    rfl
  · unfold firmwareStarts
    show (setRg .SEC_FW_VERSION 0 (fwVersion b) (setRg .SEC_BOOT_CAUSE 0 0 _)).rg _ _ = _
    rw [setRg_rg_ne _ _ (by simp), setRg_rg_self]
    rfl

theorem secLoadCommit_of_verified {p k : Nat} {b : List Byte} {s : State} (hl : s.sec.loader = none) (hv : s.sec.verified = some (k, b)) :
    secLoadCommit p s = if k ≠ s.rg .SEC_LOAD_CTRL_KIND 0 then loadFailed p (s.rg .SEC_LOAD_CTRL_KIND 0) Status.badCommand 0 s
      else if kindAllowed s (s.rg .SEC_LOAD_CTRL_KIND 0) = false then lcRefused (loadResult p Status.accessDenied 0 s)
      else onSec (fun x => { x with loader := some { port := p, kind := s.rg .SEC_LOAD_CTRL_KIND 0, phase := 3, len := b.length, bytes := b,
                                                     got := b.length, bad := false } }) s := by
  unfold secLoadCommit
  dsimp only
  rw [if_neg (by simp [hl]), hv]

theorem secCommitDone_of_loader {ok : Bool} {l : Loader} {s : State} (hl : s.sec.loader = some l) (hp : l.phase = 3) : secCommitDone ok s =
    if ok then raise 0x0B04 none [(1, l.kind)] (loadResult l.port Status.ok 0
      (onSec (committed l.kind l.bytes) (onSec (fun x => { x with loader := none }) s)))
    else freeTaken (loadResult l.port (openCode (onSec (fun x => { x with loader := none }) s)) 0
      (onSec (fun x => { x with loader := none }) s)) := by
  unfold secCommitDone
  rw [hl]
  dsimp only
  rw [if_neg (not_not_intro hp)]

/-- What a committed object becomes; fuses and loader stay. -/
theorem committed_parts (kind : Nat) (b : List Byte) (x : SecSt) :
    (kind = 1 → (committed kind b x).flash.firmware = b) ∧ (kind = 2 → (committed kind b x).flash.owner = b) ∧
    (kind = 3 → (committed kind b x).lcPending = some b) ∧ (committed kind b x).fuses = x.fuses ∧
    (committed kind b x).loader = x.loader := by
  unfold committed
  refine ⟨fun h => by rw [if_pos h], fun h => by rw [if_neg (by omega), if_pos h], fun h => by rw [if_neg (by omega), if_neg (by omega)], ?_, ?_⟩
  · split
    · rfl
    · split <;> rfl
  · split
    · rfl
    · split <;> rfl

theorem openCode_range (s : State) : 1 ≤ openCode s ∧ openCode s < 16 := by
  unfold openCode
  omega

theorem attestDone_of_asked {p : Nat} {a : Attest} {s : State} (h : look p s.sec.attest = some a) : attestDone p s =
    raise 0x0B06 none [(1, p)] (setRg .SEC_ATTEST_DONE p 1 (onSec (fun x => { x with
      attest := del p x.attest
      reports := put p (padTo 512 (reportBody s p a.nonce) ++
        padTo 4627 (Config.mlDsaSign s.sec.fuses.idSeed (digestOf (padTo 512 (reportBody s p a.nonce)))) ++ zeros 45) x.reports }) s)) := by
  unfold attestDone
  rw [h]

end Sys2Proof.Machine

namespace Sys2Proof.Proofs

open Sys2Proof Sys2Proof.Machine

/-- Settles O49: the loader by its phase (`secLoad_of_well`, `secLoadDone_of_loader`, `secCommitDone_of_loader`), the checks as they
are defined, and a report by `attestDone_of_asked`. -/
theorem objectsAreLoadedCommittedAndAttested : Obligations.ObjectsAreLoadedCommittedAndAttested := by
  unfold Obligations.ObjectsAreLoadedCommittedAndAttested
  refine ⟨?load, kindAllowed_iff, fun p st check s => ?result, ?loaded, firmwareStarts_leaves, objCheck_firmware, objCheck_owner,
    transitionOk_iff, ?commit, ?committed, fun p s hl hr => done_live_access hl hr, ?attested⟩
  case load =>
    intro p s hl hr kind len addr
    refine ⟨fun h => (done_live_access hl hr).trans (congrArg _ (if_pos (by simpa [Option.isSome_iff_ne_none] using h))),
      fun h hbad => (done_live_access hl hr).trans (congrArg _ ((if_neg (by simp [h])).trans (if_pos hbad))),
      fun h hk h1 h2 ha => ?_⟩
    have hs := secLoad_of_well h hk h1 h2 ha hr.2.1
    exact ⟨fun hka => (done_live_access hl hr).trans (congrArg _ (hs.trans (if_pos hka))),
      fun hka => (done_live_access hl hr).trans (congrArg _ (hs.trans (if_neg (ne_false_of_eq_true hka))))⟩
  case result =>
    obtain ⟨h1, h2, h3⟩ := loadResult_rg p st check s
    exact ⟨h1, h2, h3, loadResult_sameRegs p st check s⟩
  case loaded =>
    intro l s hl hs hp u
    have hd := secLoadDone_of_loader hs hp
    refine ⟨fun hb hg => (done_live hl).trans (congrArg _ (hd.trans (if_pos ⟨hb, hg⟩))),
      fun hb => (done_live hl).trans (congrArg _ (hd.trans ?_)), fun hb hg => ?_⟩
    · rw [hb]
      rfl
    · have hd := hd.trans (if_neg (fun h => absurd h.2 (Nat.not_lt.mpr hg)))
      rw [hb] at hd
      refine ⟨fun hc => (done_live hl).trans (congrArg _ (hd.trans (if_pos hc))),
        fun hc => (done_live hl).trans (congrArg _ (hd.trans ((if_neg (not_not_intro hc)).trans ?_)))⟩
      unfold when State.recovery
      simp only [Bool.and_eq_true, beq_iff_eq]
      rfl
  case commit =>
    intro p s hl hr hn kind
    refine ⟨fun hv => (done_live_access hl hr).trans (congrArg _ ?_),
      fun b hv hk => (done_live_access hl hr).trans (congrArg _ ((secLoadCommit_of_verified hn hv).trans
        ((if_neg (not_not_intro rfl)).trans (if_neg (ne_false_of_eq_true hk))))),
      fun k b hv hk => (done_live_access hl hr).trans (congrArg _ ((secLoadCommit_of_verified hn hv).trans (if_pos hk)))⟩
    unfold secLoadCommit
    dsimp only
    rw [if_neg (by simp [hn]), hv]
  case committed =>
    intro l s hl hs hp u
    obtain ⟨o1, o2⟩ := openCode_range u
    obtain ⟨c1, c2, c3, c4, c5⟩ := committed_parts l.kind l.bytes u.sec
    obtain ⟨r1, -, r3⟩ := loadResult_rg l.port Status.ok 0 (onSec (committed l.kind l.bytes) u)
    exact ⟨(done_live hl).trans (congrArg _ (secCommitDone_of_loader hs hp)), o1, o2, _,
      (done_live hl).trans (congrArg _ (secCommitDone_of_loader hs hp)), c1, c2, c3, c4, c5, r1, r3⟩
  case attested =>
    intro p a s hl ha body
    exact ⟨_, (done_live hl).trans (congrArg _ (attestDone_of_asked ha)), look_put_self .., look_del_self .., setRg_rg_self ..,
      Touches.sameRegs (touch_setRg (L := [.reg .SEC_ATTEST_DONE, .sec]) (by decide) (touch_onSec (by decide) (touch_refl _ s))) (by decide),
      fun a => rfl⟩

end Sys2Proof.Proofs

end

section
/-! PROOF. Confidential sessions and key slots (R499 to R507). -/

namespace Sys2Proof.Machine

open Sys2Proof

/-! ### Result registers -/

theorem result_rg_status {st dn : RN} {p code : Nat} {s : State} (h : st ≠ dn) :
    (result st dn p code s).rg st p = code % 2 ^ RN.width st := by
  unfold result
  rw [setRg_rg_ne _ _ (by simp [h]), setRg_rg_self]

theorem has_iff {κ α : Type} [DecidableEq κ] {k : κ} {m : List (κ × α)} : has k m = true ↔ look k m ≠ none := by
  simp [has, Option.isSome_iff_ne_none]

/-! ### Sessions -/

theorem sessionLoad_of_allowed {p : Nat} {s : State} (h : s.lc = 2 ∨ s.lc = 3) : sessionLoad p s =
    if has (s.rg .SEC_SESSION_CTRL_INDEX 0) s.sec.sessions = true ∨ s.im.carValid (s.rg .SEC_SESSION_CTRL_CARRIAGE 0) = false then
      raise 0x0B08 none [] (sessionResult p Status.accessDenied s)
    else onSec (fun x => { x with
      sessionLoads := put p (s.rg .SEC_SESSION_CTRL_INDEX 0, s.rg .SEC_SESSION_CTRL_CARRIAGE 0, lookD p [] x.kemct) x.sessionLoads }) s := by
  unfold sessionLoad sessionsAllowed
  exact if_neg (by rcases h with h | h <;> simp [h])

theorem sessionLoadDone_of_free {p i c : Nat} {ct : List Byte} {s : State} (h : look p s.sec.sessionLoads = some (i, c, ct))
    (hi : look i s.sec.sessions = none) (hc : s.im.carValid c = true) : sessionLoadDone p s =
      match Config.kemDecap s.sec.kem (padTo 1568 ct) with
      | none => raise 0x0B08 none [] (sessionResult p Status.badCommand (onSec (fun x => { x with sessionLoads := del p x.sessionLoads }) s))
      | some secret => sessionInstall p i c (sessionKey s secret i p) (onSec (fun x => { x with sessionLoads := del p x.sessionLoads }) s) := by
  unfold sessionLoadDone
  rw [h]
  dsimp only
  exact if_neg (not_or.mpr ⟨fun hh => has_iff.mp hh hi, ne_false_of_eq_true hc⟩)

theorem sessionUnload_of_loaded {p o c : Nat} {s : State} (h : look (s.rg .SEC_SESSION_CTRL_INDEX 0) s.sec.sessions = some (o, c)) :
    sessionUnload p s = if o = p ∧ sessionUsed s (s.rg .SEC_SESSION_CTRL_INDEX 0) = false then
      sessionResult p Status.ok (raise 0x0B07 (some c) [(2, s.rg .SEC_SESSION_CTRL_INDEX 0), (1, c)]
        (onSec (sessionDrop (s.rg .SEC_SESSION_CTRL_INDEX 0)) s))
    else sessionResult p Status.accessDenied s := by
  unfold sessionUnload
  dsimp only
  rw [h]

theorem sessionInstall_leaves (p i c : Nat) (key : List Byte) (s : State) : let t := sessionInstall p i c key s
    look i t.sec.sessions = some (p, c) ∧ look i t.sec.sessionKeys = some key ∧ look i t.que.sealCtr = none ∧
    t.rg .SEC_SESSION_RESULT_STATUS p = Status.ok ∧ t.rg .SEC_SESSION_RESULT_DONE p = 1 ∧
    (∀ j, j ≠ i → look j t.sec.sessions = look j s.sec.sessions) := by
  intro t
  have hs : t.sec = { s.sec with sessions := put i (p, c) s.sec.sessions, sessionKeys := put i key s.sec.sessionKeys } := raise_sec ..
  have hq : t.que = { s.que with sealCtr := del i s.que.sealCtr } := raise_que ..
  rw [hs, hq]
  exact ⟨look_put_self .., look_put_self .., look_del_self .., result_rg_status (by simp), setRg_rg_self .., fun j => look_put_ne _ _⟩

/-! ### Key slots -/

theorem switchCause_eq (c k : Nat) (s : State) : switchCause s c k =
    if bit (s.im.keySlots c) k = false ∨ 32 ≤ k then 1 else if s.currentSlot c = k then 2
    else if s.seq.pages.any (fun p => p.2.keySlot == k && p.2.car != c) = true then 3 else if s.lc = 2 then 0 else 4 := by
  unfold switchCause
  rw [ite_not]

theorem keySwitch_of_slot {i : Nat} {e : Evt} {s : State} (h : switchCause s e.car e.arg = 0) : keySwitch i e s =
    raise 0x0B0A (some e.car) [(1, e.car), (1, s.currentSlot e.car), (1, e.arg)] (onSec (fun x => { x with
      retired := remSet e.arg x.retired }) (setCurrent e.car (some e.arg) s)) := if_neg (not_not_intro h)

theorem evtFired_sec (i : Nat) (s : State) : (evtFired i s).sec = s.sec ∧ (evtFired i s).mem = s.mem := by
  have h := touch_evtFired (a0 := i) (fun _ h => h) (touch_refl _ s)
  exact ⟨h.sec (by decide), h.mem (by decide)⟩

theorem rekeyPage_of_draining {p : Nat} {g : Page} {s : State} (hg : look p s.seq.pages = some g) (hh : s.rg .SEC_X_SWEEP_HOLD 0 ≠ 1)
    (hl : g.loc ≠ .cold) (hm : g.moving = false) (hs : slotState s g.keySlot = 2) : rekeyPage p s =
      match look g.car s.sec.current with
      | none => raiseFirst 0x0B10 g.car (some g.car) [] s
      | some k => if rekeyable s g then slotLeft g.keySlot (onPage p (fun g => { g with keySlot := k }) s) else s := by
  unfold rekeyPage
  rw [hg]
  exact if_neg (by simp [hh, hl, hm, hs])

end Sys2Proof.Machine

namespace Sys2Proof.Proofs

open Sys2Proof Sys2Proof.Machine

/-- Settles O50: a session and a slot by the guards of its row, and a switch of slots by `switchCause`. -/
theorem sessionsAndKeySlotsAreKept : Obligations.SessionsAndKeySlotsAreKept := by
  unfold Obligations.SessionsAndKeySlotsAreKept
  refine ⟨?load, fun p i c ct s hl h hi hc => (done_live hl).trans (congrArg _ (sessionLoadDone_of_free h hi hc)), sessionInstall_leaves, ?unload,
    ?switch, switchCause_eq, ?retire, ?force, ?rekey, fun p k g s h => ?moved⟩
  case load =>
    intro p s hl hr i c
    refine ⟨fun h2 h3 => (done_live_access hl hr).trans (congrArg _ (if_pos (by simp [sessionsAllowed, h2, h3]))), fun h => ?_⟩
    have hs := sessionLoad_of_allowed (p := p.idx) h
    exact ⟨fun hbad => (done_live_access hl hr).trans (congrArg _ (hs.trans (if_pos (hbad.imp_left has_iff.mpr)))),
      fun hi hc => (done_live_access hl hr).trans (congrArg _ (hs.trans (if_neg
        (not_or.mpr ⟨fun hh => has_iff.mp hh hi, ne_false_of_eq_true hc⟩))))⟩
  case unload =>
    intro p o c s hl hr i h
    have hs := sessionUnload_of_loaded (p := p.idx) h
    refine ⟨fun hbad => (done_live_access hl hr).trans (congrArg _ (hs.trans (if_neg fun ⟨h1, h2⟩ => ?_))),
      fun h1 h2 => (done_live_access hl hr).trans (congrArg _ (hs.trans (if_pos ⟨h1, h2⟩)))⟩
    exact hbad.elim (fun hb => hb h1) (fun hb => absurd (hb.symm.trans h2) (by decide))
  case switch =>
    intro i e s hl he hf u
    obtain ⟨hsec, hmem⟩ := evtFired_sec i.val s
    have hfire := (done_live hl).trans (congrArg Host.Outcome.next (fireEntry_of_fires (f := keySwitch i.val) he hf))
    refine ⟨fun cause hc hne => hfire.trans (congrArg _ ?_), fun hc => ⟨onSec (fun x => { x with retired := remSet e.arg x.retired })
      (setCurrent e.car (some e.arg) u), hfire.trans (congrArg _ ?_), look_put_self .., ?_, fun c hne => ?_, fun n j _ => rfl, fun a => ?_⟩⟩
    · exact (if_pos (by rwa [hc])).trans (by rw [hc])
    · rw [keySwitch_of_slot hc]
      show raise _ _ [(1, e.car), (1, lookD e.car 255 (evtFired i.val s).sec.current), (1, e.arg)] _ = _
      rw [hsec]
      rfl
    · exact fun h => ((mem_remSet_iff ..).mp h).2 rfl
    · exact (look_put_ne _ _ hne).trans (by rw [hsec])
    · exact congrArg (fun m : MemSt => memGet a m.bytes) hmem
  case retire =>
    intro p s hl hr k
    by_cases h : s.holdsSem p.idx 1 = true ∧ slotState s k = 0
    · refine ⟨_, (done_live_access hl hr).trans (congrArg _ (if_pos h)), fun a => ?_, setRg_rg_self .., fun _ _ => ⟨?_, ?_, _, rfl⟩, fun hn => ?_⟩
      · exact congrArg (fun m : MemSt => memGet a m.bytes) (raise_mem ..)
      · exact congrArg SecSt.retired (raise_sec ..)
      · exact result_rg_status (by simp)
      · exact hn.elim (fun hn => absurd (hn.symm.trans h.1) (by decide)) (fun hn => absurd h.2 hn)
    · refine ⟨_, (done_live_access hl hr).trans (congrArg _ (if_neg h)), fun a => ?_, setRg_rg_self .., fun h1 h2 => absurd ⟨h1, h2⟩ h,
        fun _ => ⟨raise_sec .., result_rg_status (by simp)⟩⟩
      exact congrArg (fun m : MemSt => memGet a m.bytes) (raise_mem ..)
  case force =>
    intro p s hl hr he k
    refine ⟨fun h1 h2 => (done_live_access hl hr).trans (congrArg _ ((if_pos he).trans (if_pos ⟨h1, h2⟩))),
      fun h => (done_live_access hl hr).trans (congrArg _ ((if_pos he).trans (if_neg fun ⟨h1, h2⟩ => ?_)))⟩
    exact h.elim (fun hn => absurd (hn.symm.trans h1) (by decide)) (fun hn => hn h2)
  case rekey =>
    intro page g s hl hg
    refine ⟨fun h => (done_live hl).trans (congrArg _ ?_), fun hh hloc hm hs => ?_⟩
    · unfold rekeyPage
      rw [hg]
      exact if_pos h
    · have hk := rekeyPage_of_draining hg hh hloc hm hs
      refine ⟨fun hn => (done_live hl).trans (congrArg _ (hk.trans ?_)), fun k hc hr => (done_live hl).trans (congrArg _ (hk.trans ?_))⟩
      · rw [hn]
      · rw [hc]
        exact if_pos hr
  case moved =>
    rw [onPage_look_self, h]
    rfl

end Sys2Proof.Proofs

end

section
/-! PROOF. Jobs, steps and notices (R516 to R531). -/

namespace Sys2Proof.Machine

open Sys2Proof

/-! ### Jobs -/

theorem withSeqs_of_all {k : Nat} {c : Cmd} {f : List Nat → State → State} {s : State} (h : u8 c.bytes 12 = 1) :
    withSeqs k c f s = f (jobSeqs s (Op.car c.bytes) 1 []) s := by
  unfold withSeqs jobRange
  dsimp only
  rw [if_neg (by simp [h]), if_pos h]

theorem withSeqs_of_list {k : Nat} {c : Cmd} {f : List Nat → State → State} {s : State} (h : u8 c.bytes 12 = 0) (hr : jobRange c.bytes = true) :
    withSeqs k c f s = withData k c (u64 c.bytes 16) (4 * u16 c.bytes 14)
      (fun d s => f (jobSeqs s (Op.car c.bytes) 0 (d.take (4 * u16 c.bytes 14))) s) s := by
  unfold withSeqs
  dsimp only
  rw [if_neg (ne_false_of_eq_true hr), if_neg (by omega)]

theorem holdAll_held {car q : Nat} {l : List Nat} (s : State) (h : q ∈ l) : (holdAll car l s).seqHeld car q = true := by
  unfold State.seqHeld holdAll
  rw [onRas_ras, List.any_append, Bool.or_eq_true]
  exact .inr (List.any_eq_true.mpr ⟨_, List.mem_map_of_mem h, by simp⟩)

theorem abortEnds_parts {car k : Nat} {l : List Nat} {c : Cmd} (h : abortEnds car l (k, c) = true) : Op.engine c.bytes = 1 ∧
    Op.car c.bytes = car ∧
    (Op.opcode c.bytes = 0x26 ∨ Op.opcode c.bytes = 0x22 ∨ Op.opcode c.bytes = 0x30 ∨ Op.opcode c.bytes = 0x31) := by
  simp only [abortEnds, Bool.and_eq_true, Bool.or_eq_true, beq_iff_eq] at h
  obtain ⟨⟨⟨he, hc⟩, -⟩, ho⟩ := h
  refine ⟨he, hc, ?_⟩
  tauto

theorem touch_endHolds {L : List StPart} {r s : State} (p : Hold → Bool) (hL : evrParts ++ [.ras] ⊆ L) (h : Touches L r s) :
    Touches L r (endHolds p s) := by
  unfold endHolds
  exact touch_forEach (touch_onRas (sub_trans hL (by decide)) h) (fun _ _ h => touch_raiseCar (sub_trans hL (by decide)) h)

theorem raises_ras (l : List Hold) (s : State) : (forEach l (fun h => raiseCar 0x0C06 h.car []) s).ras = s.ras :=
  Touches.ras (touch_forEach (L := evrParts) (touch_refl _ s) (fun _ _ h => touch_raiseCar (fun _ h => h) h)) (by decide)

theorem endHolds_holds (p : Hold → Bool) (s : State) : (endHolds p s).ras.holds = s.ras.holds.filter (fun h => !p h) :=
  congrArg RasSt.holds (raises_ras _ _)

/-! ### Steps -/

theorem execStep_of_started {k : Nat} {c : Cmd} {s : State} (h : Started k 0 0x12 c s) :
    exec (.step k) s = .next (stepSweep k (stepRun k c s)) := by
  obtain ⟨hl, hc, hh, he, ho, hb⟩ := h
  exact (done_live hl).trans (congrArg (fun t => Host.Outcome.next (stepSweep k t)) (withCmd_of_good _ hc hh he ho hb))

theorem stepRun_of_new {k : Nat} {c : Cmd} {s : State} (h : stepRec s (Op.car c.bytes) (stepId c.bytes) = none) : stepRun k c s =
    if stepFree s (Op.car c.bytes) then listStep k c (onRas (fun r => { r with
      steps := r.steps ++ [{ car := Op.car c.bytes, id := stepId c.bytes, done := none, cmd := k }] }) s)
    else completeReason k Status.accessDenied 50 (raise 0x0C08 (some (Op.car c.bytes)) [] s) := by
  unfold stepRun
  dsimp only
  rw [h]

theorem stepRun_of_done {k : Nat} {c : Cmd} {r : StepRec} {a : Nat × Nat} {s : State}
    (h : stepRec s (Op.car c.bytes) (stepId c.bytes) = some r) (hd : r.done = some a) : stepRun k c s =
      complete k a.1 1 a.2 (raiseCar 0x0C07 (Op.car c.bytes) [(8, stepId c.bytes)] (bump .RAS_C_REPLAYED_COUNT (Op.car c.bytes) 1 s)) := by
  unfold stepRun
  dsimp only
  rw [h]
  dsimp only
  rw [hd]

theorem stepRun_of_running {k : Nat} {c : Cmd} {r : StepRec} {s : State} (h : stepRec s (Op.car c.bytes) (stepId c.bytes) = some r)
    (hd : r.done = none) (hk : r.cmd = k) : stepRun k c s = listStep k c s := by
  unfold stepRun
  dsimp only
  rw [h]
  dsimp only
  rw [hd]
  exact if_pos hk

theorem mem_stepEnd {k status result : Nat} {x : StepRec} {s : State} : x ∈ (stepEnd k status result s).ras.steps ↔
    ∃ r ∈ s.ras.steps, (if r.cmd = k ∧ r.done = none then
      (if status = Status.ok then some { r with done := some (status, result) } else none) else some r) = some x := List.mem_filterMap

theorem stepEnd_ok {k result : Nat} {r : StepRec} {s : State} (h : r ∈ s.ras.steps) (hk : r.cmd = k) (hd : r.done = none) :
    { r with done := some (Status.ok, result) } ∈ (stepEnd k Status.ok result s).ras.steps :=
  mem_stepEnd.mpr ⟨r, h, by rw [if_pos ⟨hk, hd⟩, if_pos rfl]⟩

/-- A step that failed has no record that runs. -/
theorem stepEnd_failed {k status result : Nat} {x : StepRec} {s : State} (hs : status ≠ Status.ok)
    (h : x ∈ (stepEnd k status result s).ras.steps) : ¬ (x.cmd = k ∧ x.done = none) := by
  obtain ⟨r, -, hr⟩ := mem_stepEnd.mp h
  by_cases hc : r.cmd = k ∧ r.done = none
  · rw [if_pos hc, if_neg hs] at hr
    cases hr
  · rw [if_neg hc] at hr
    cases hr
    exact hc

/-! ### Notices -/

theorem notice_of_barred {cause detail : Nat} {cars : List Nat} {s : State}
    (h : (s.rg .RAS_CTRL_NOTICE_EN 0 ≠ 1 ∧ cause ≠ 1 ∧ cause ≠ 0x0C) ∨ (s.timeServes = false ∧ cause ≠ 1) ∨
      (cause, detail, s.frame) ∈ s.ras.sentNotices) : notice cause cars detail s = s := by
  unfold notice
  refine if_pos ?_
  rcases h with ⟨h1, h2, h3⟩ | ⟨h1, h2⟩ | h
  · simp [h1, h2, h3]
  · simp [h1, h2]
  · simp [h]

theorem notice_of_allowed {cause detail : Nat} {cars : List Nat} {s : State} (he : s.rg .RAS_CTRL_NOTICE_EN 0 = 1)
    (ht : s.timeServes = true) (hs : (cause, detail, s.frame) ∉ s.ras.sentNotices) :
    ∃ u, notice cause cars detail s = notifyBoth (raise 0x0C01 none [(1, cause), (2, bitMap cars), (8, detail)] u) ∧
      u.rg .RAS_LAST_TX_CAUSE 0 = cause % 2 ^ RN.width .RAS_LAST_TX_CAUSE := by
  refine ⟨_, if_neg ?_, setRg_rg_self ..⟩
  simp [he, ht, hs]

/-- A fatal fault leaves the node stopped, with its record on the way. -/
theorem fatalFault_rest {cause n d : Nat} {s : State} (h : s.start.stopped = false) :
    (fatalFault cause n d s).live = false ∧ (cause ≠ 1 → (fatalFault cause n d s).start.writing ≠ none) := by
  have hlive : (fatalFault cause n d s).live = false := by
    unfold State.live
    rw [(fatalFault_stops h).1]
    rfl
  refine ⟨hlive, fun hc => ?_⟩
  unfold fatalFault persistBegin
  rw [if_neg (ne_true_of_eq_false h)]
  dsimp only
  rw [if_neg hc]
  split
  next hw => exact Option.isSome_iff_ne_none.mp hw
  next => simp

end Sys2Proof.Machine

namespace Sys2Proof.Proofs

open Sys2Proof Sys2Proof.Machine

/-- Settles O51: a job by how its sequences are named, a step by its record (`stepRun_of_new`, `stepRun_of_done`), and a notice by
what bars it (`notice_of_barred`). -/
theorem jobsStepsAndNoticesAreKept : Obligations.JobsStepsAndNoticesAreKept := by
  unfold Obligations.JobsStepsAndNoticesAreKept
  refine ⟨fun k c s h => ⟨fun hr => (done_started h).trans (congrArg _ (if_pos hr)),
      fun h1 => (done_started h).trans (congrArg _ (withSeqs_of_all h1)), fun h0 hr => ?list⟩,
    fun k c l s => ⟨fun h => if_pos h, fun h => if_neg (Nat.not_lt.mpr h)⟩, fun car q l s h => ⟨holdAll_held s h, rfl, fun a => rfl⟩,
    fun car l k c => abortEnds_parts, fun k s => ⟨fun h => if_neg (by simp [h]), fun h => if_pos (Option.isSome_iff_ne_none.mpr h)⟩,
    fun k c s h h1 => (done_started h).trans (congrArg _ ?release), endHolds_holds, fun seq s hl => ?expire, fun k c s h => ?step,
    fun k status result r s hr hk hd => ⟨fun hs => ?ok, fun hs x => stepEnd_failed hs⟩,
    fun k c s h => done_started h, fun p s hl hr => done_live_access hl hr,
    fun cause cars detail s => ⟨fun h => notice_of_barred (.inr (.inr h)), fun h1 h2 => notice_of_barred (.inr (.inl ⟨h1, h2⟩)),
      fun h1 h2 h3 => notice_of_barred (.inl ⟨h1, h2, h3⟩), notice_of_allowed⟩, ?peer,
    fun p s hl hr he => ⟨(done_live_access hl hr).trans (congrArg _ (if_pos he)), (done_live_access hl hr).trans (congrArg _ (if_pos he))⟩,
    fun s hl => done_live hl, fun cause nc detail s => ⟨fun h => if_pos h, fun h => ?fatal⟩⟩
  case list =>
    have hw := withSeqs_of_list (k := k) (f := jobAbortRun k c) (s := s) h0 hr
    exact ⟨fun hp => (done_started h).trans (congrArg _ (hw.trans (withData_of_first hp))),
      fun d hp hwant hd => (done_started h).trans (congrArg _ (hw.trans (withData_of_have (by omega) hwant hd)))⟩
  case release =>
    rw [withSeqs_of_all h1]
    unfold jobReleaseRun releaseSeqs
    rw [if_pos h1]
  case expire =>
    exact ⟨_, done_live hl, endHolds_holds _ _, (touch_endHolds _ (fun _ h => h) (touch_refl _ s)).sameRegs (by decide),
      fun a => congrArg (fun m : MemSt => memGet a m.bytes) ((touch_endHolds _ (fun _ h => h) (touch_refl _ s)).mem (by decide))⟩
  case step =>
    intro car id
    refine ⟨fun hn hf => (execStep_of_started h).trans ?_, fun hn hf => (execStep_of_started h).trans ?_,
      fun r a hr hd => (execStep_of_started h).trans ?_, fun r hr hd hk => (execStep_of_started h).trans ?_⟩
    · rw [stepRun_of_new hn, if_pos hf]
    · rw [stepRun_of_new hn, if_neg (ne_true_of_eq_false hf)]
    · rw [stepRun_of_done hr hd]
    · rw [stepRun_of_running hr hd hk]
  case ok =>
    rw [hs]
    exact stepEnd_ok hr hk hd
  case peer =>
    intro node s hl x down
    have hd : peerLost x s = if down then noticeAll 0x04 x (raise 0x0C03 none [(2, x), (1, bitMap (linksTo s x))]
        (onRas (fun r => { r with lostPeers := r.lostPeers ++ [x] }) s)) else s := by
      unfold peerLost
      simp only [List.all_eq_true, Bool.and_eq_true, Bool.not_eq_true', decide_eq_true_eq]
      rfl
    exact ⟨fun h => (done_live hl).trans (congrArg _ (hd.trans (if_neg h))), fun h => (done_live hl).trans (congrArg _ (hd.trans (if_pos h)))⟩
  case fatal =>
    obtain ⟨h1, h2⟩ := fatalFault_stops (cause := cause) (n := nc) (d := detail) h
    obtain ⟨h3, h4⟩ := fatalFault_rest (cause := cause) (n := nc) (d := detail) h
    exact ⟨h1, h2, h3, h4⟩

end Sys2Proof.Proofs

end

section
/-! PROOF. Parking (R338 to R347, R401). -/

namespace Sys2Proof.Machine

open Sys2Proof


/-! ### Acceptance and start -/

theorem execSeqPark_of_own {k : Nat} {c : Cmd} {q : Seqd} {s t : State} (h : OwnSeq k 1 0x30 none c q s t) (hn : s.parkOf k = none) :
    exec (.seqPark k) s = .next (match parkAcceptFault t c q with
      | some f => completeReason k f.1 f.2 t
      | none =>
        let x : Park :=
          { seq := Op.seqId c.bytes, waiting := true, was := q.st, cut := 0, desc := [], works := [], coaches := [],
            moving := false, pages := [], entries := [], len := 0, ckpt := Pk.ckpt c.bytes }
        let s := onPark (fun y => { y with parks := put k x y.parks }) t
        if Pk.atCkpt c.bytes then s else parkStart k s.ft s) := by
  refine (done_started h.1).trans (congrArg _ ?_)
  unfold seqPark
  rw [hn, if_neg (by simp), onOwnSeq_of_own h] <;> rfl

/-- The park of a command as its start leaves it. -/
def Park.started (k cut : Nat) (c : Cmd) (q : Seqd) (s : State) (x : Park) : Park :=
  { x with waiting := false, was := q.st, cut := cut, desc := descBytes s (Op.seqId c.bytes) q,
           works := if Pk.whole c.bytes then seqWork s k (Op.seqId c.bytes) else [],
           coaches := if Pk.whole c.bytes then seqCoaches s (Op.seqId c.bytes) else [] }

theorem parkStart_of_fault {k cut : Nat} {c : Cmd} {x : Park} {q : Seqd} {f : Nat × Nat} {s : State} (hc : s.cmd k = some c)
    (hx : s.parkOf k = some x) (hq : look (Op.seqId c.bytes) s.seq.seqs = some q) (hf : parkStartFault s c.bytes q = some f) :
    parkStart k cut s = parkFail k f.1 f.2 none s := by
  unfold parkStart
  rw [hc, hx]
  dsimp only
  rw [hq]
  dsimp only
  rw [hf]

theorem parkStart_of_good {k cut : Nat} {c : Cmd} {x : Park} {q : Seqd} {s : State} (hc : s.cmd k = some c)
    (hx : s.parkOf k = some x) (hq : look (Op.seqId c.bytes) s.seq.seqs = some q) (hf : parkStartFault s c.bytes q = none) :
    parkStart k cut s = parkEnter c.bytes (Op.seqId c.bytes)
      (raise 0x0420 (some q.car) [(4, Op.seqId c.bytes), (1, Pk.mode c.bytes), (4, Pk.image c.bytes)]
        (onPark (fun y => { y with parks := put k (x.started k cut c q s) y.parks }) s)) := by
  unfold parkStart
  rw [hc, hx]
  dsimp only
  rw [hq]
  dsimp only
  rw [hf]
  rfl

theorem parksWaiting_mem {s : State} {car ckpt k : Nat} (h : k ∈ parksWaiting s car ckpt) :
    ∃ x, (k, x) ∈ s.park.parks ∧ x.waiting = true ∧ x.ckpt = ckpt := by
  obtain ⟨⟨j, x⟩, hm, rfl⟩ := List.mem_map.mp h
  obtain ⟨hin, hw⟩ := List.mem_filter.mp hm
  simp only [Bool.and_eq_true, beq_iff_eq] at hw
  exact ⟨x, hin, hw.1.1, hw.1.2⟩

theorem onSeqd_look_self (seq : Nat) (f : Seqd → Seqd) (s : State) : look seq (onSeqd seq f s).seq.seqs = (look seq s.seq.seqs).map f :=
  look_upd_self seq f s.seq.seqs

/-! ### The transfer -/

/-- Whether something still holds the transfer of a park back. -/
def parkHeldBack (x : Park) (q : Seqd) (s : State) : Prop :=
  x.waiting = true ∨ x.moving = true ∨ x.works.any (fun w => has w s.que.started) = true ∨
    x.coaches.any (fun i => has i s.fox.coaches) = true ∨ pagesBusy s q = true ∨ transferMayRun s q.car = false

theorem parkTransferStart_of_held {k : Nat} {c : Cmd} {x : Park} {q : Seqd} {s : State} (hc : s.cmd k = some c)
    (hx : s.parkOf k = some x) (hq : look x.seq s.seq.seqs = some q) (hb : parkHeldBack x q s) : parkTransferStart k s = s := by
  unfold parkTransferStart
  rw [hc, hx]
  dsimp only
  rw [hq]
  exact if_pos hb

theorem parkTransferStart_of_free {k : Nat} {c : Cmd} {x : Park} {q : Seqd} {s : State} (hc : s.cmd k = some c)
    (hx : s.parkOf k = some x) (hq : look x.seq s.seq.seqs = some q) (hb : ¬ parkHeldBack x q s) : parkTransferStart k s =
      if Pk.mode c.bytes ≠ 0 ∧ s.portUp (qPort c.q) = false then parkFail k Status.aborted 0 none (noteLost c s)
      else parkTransfer k c x q s := by
  unfold parkTransferStart
  rw [hc, hx]
  dsimp only
  rw [hq]
  exact if_neg hb

/-- The pages of a park read, moved and checked: the first failure, and the state left. -/
def parkPagesDone (b : List Byte) (q : Seqd) (s : State) : Option (Nat × Nat × Nat) × State :=
  if Pk.mode b = 0 then warmTransfer b q s
  else parkReads (fun s x => (parkPack s q x).isSome) q (parkPages s q (parkLimit b)) s

theorem parkTransfer_of_fault {k : Nat} {c : Cmd} {x : Park} {q : Seqd} {f : Nat × Nat × Nat} {s : State}
    (h : (parkPagesDone c.bytes q s).1 = some f) :
    parkTransfer k c x q s = parkFail k f.1 f.2.1 (some f.2.2) (parkPagesDone c.bytes q s).2 := by
  unfold parkTransfer
  unfold parkPagesDone at h ⊢
  dsimp only
  rw [h]

theorem parkTransfer_park {k : Nat} {c : Cmd} {x : Park} {q : Seqd} {s : State} (h : (parkPagesDone c.bytes q s).1 = none) :
    let t := (parkPagesDone c.bytes q s).2
    let lay := parkLay t c.bytes q
    (parkTransfer k c x q s).parkOf k = some { x with
      moving := true, pages := (parkPages t q (parkLimit c.bytes)).map (fun p => p.page), entries := lay.1,
      len := imageLen (lay.1.length / 128) lay.2 } := by
  unfold parkTransfer
  unfold parkPagesDone at h ⊢
  dsimp only
  rw [h]
  exact look_put_self ..

theorem warmTransfer_of_fault {b : List Byte} {q : Seqd} {f : Nat × Nat × Nat} {s : State}
    (h : (warmMoves q (parkMoves s b q) s).1 = some f) : (warmTransfer b q s).1 = some f := by
  unfold warmTransfer
  dsimp only
  rw [if_pos (by rw [h]; rfl), h]

theorem warmTransfer_of_moved {b : List Byte} {q : Seqd} {s : State} (h : (warmMoves q (parkMoves s b q) s).1 = none) :
    warmTransfer b q s = parkReads (fun _ _ => false) q (parkStays s b q) (warmMoves q (parkMoves s b q) s).2 := by
  unfold warmTransfer
  dsimp only
  rw [if_neg (by rw [h]; exact Bool.false_ne_true)]

theorem parkPage_moves_or_stays {s : State} {b : List Byte} {q : Seqd} {x : ParkPage} (hs : Pk.slice b = false)
    (hx : x ∈ parkPages s q none) : (∃ y ∈ parkMoves s b q, y.page = x.page) ∨ x ∈ parkStays s b q := by
  by_cases h : x.page ∈ (parkMoves s b q).map (fun y => y.page)
  · exact .inl (List.mem_map.mp h)
  · refine .inr ?_
    unfold parkStays
    dsimp only
    rw [if_neg (ne_true_of_eq_false hs)]
    exact List.mem_filter.mpr ⟨hx, decide_eq_true h⟩

theorem parkReads_of_fault {packs : State → ParkPage → Bool} {q : Seqd} {x : ParkPage} {r : List ParkPage} {st : Nat} {s : State}
    (h : parkReadFault s x (packs s x) = some st) : parkReads packs q (x :: r) s = (some (st, 0, x.page), noteParkRead q x st s) := by
  rw [parkReads, h]

theorem parkReads_of_good {packs : State → ParkPage → Bool} {q : Seqd} {x : ParkPage} {r : List ParkPage} {s : State}
    (h : parkReadFault s x (packs s x) = none) : parkReads packs q (x :: r) s = parkReads packs q r (notePage x.g 0 s.im.frameSize s) := by
  rw [parkReads, h]

theorem warmMoves_of_fault {q : Seqd} {x : ParkPage} {r : List ParkPage} {st : Nat} {s : State}
    (h : parkReadFault s x (parkTable s q x.g).isSome = some st) :
    warmMoves q (x :: r) s = (some (st, 0, x.page), noteParkRead q x st s) := by
  rw [warmMoves, h]

theorem parkReadFault_of_digest {x : ParkPage} {packs : Bool} {s : State} (hs : x.g.sealed_ = true) (hd : pageDigest s x.g ≠ x.g.digest)
    (hk : keyFault s x.g = none) (hb : x.g.comp = true ∨ packs = true → bufferServes s (locHalf s x.g.loc) = true) :
    parkReadFault s x packs = some Status.uncorrectable := by
  have hbuf : ((!x.g.comp && !packs) || bufferServes s (locHalf s x.g.loc)) = true := by
    cases hc : x.g.comp <;> cases hp : packs <;> simp_all
  simp [parkReadFault, firstFail, hk, hs, hd, hbuf]

/-! ### The end -/

/-- A park's sequence, given its former state back. -/
def seqBack (x : Park) (q : Seqd) : Seqd := if q.st = 3 then { q with st := x.was } else q

theorem parkFail_of_started {k status reason : Nat} {page : Option Nat} {x : Park} {s : State} (hx : s.parkOf k = some x)
    (hw : x.waiting = false) : ∃ car, parkFail k status reason page s = completeReason k status reason
      (raise 0x0422 car ([(4, x.seq), (1, status)] ++ page.toList.map (fun p => (4, p)))
        (onSeq (fun y => { y with seqs := upd x.seq (seqBack x) y.seqs }) (onPark (fun y => { y with parks := del k y.parks }) s))) := by
  unfold parkFail
  rw [hx]
  dsimp only
  rw [hw]
  exact ⟨_, rfl⟩

theorem parkComplete_of_moved {k : Nat} {c : Cmd} {x : Park} {q : Seqd} {s : State} (hc : s.cmd k = some c)
    (hx : s.parkOf k = some x) (hq : look x.seq s.seq.seqs = some q) (hm : x.moving = true) (hs : Pk.slice c.bytes = false) :
    parkComplete k s = if Pk.mode c.bytes = 0 then warmEnd k x q (headerBytes s c x) s
      else if Pk.mode c.bytes = 1 then parkDone k x q.car x.len
        (onSeqd x.seq (fun q => { q with st := 5 }) (coldPages x.seq q (writeHeader k c x (headerBytes s c x) s)))
      else parkDone k x q.car x.len (writeHeader k c x (headerBytes s c x) s) := by
  unfold parkComplete
  rw [hc, hx]
  dsimp only
  rw [hq]
  dsimp only
  rw [if_neg (ne_false_of_eq_true hm), if_neg (ne_true_of_eq_false hs)]

theorem setPageRow_look (p : Nat) (r : Option Nat) (s : State) :
    look p (setPageRow p r s).seq.pages = (look p s.seq.pages).map (fun g => { g with foxRow := r }) :=
  onPage_look_self p (fun g => { g with foxRow := r }) s

theorem releaseRow_page (p : Nat) (g : Page) (s : State) (h : look p s.seq.pages = some g) :
    ∃ g', look p (releaseRow p s).seq.pages = some g' ∧ g'.refs = g.refs := by
  unfold releaseRow
  split
  · exact ⟨{ g with foxRow := none }, (setPageRow_look ..).trans (congrArg (Option.map _) h), rfl⟩
  · exact ⟨g, h, rfl⟩

theorem coldPage_page {p : Nat} {g : Page} {s : State} (h : look p s.seq.pages = some g) :
    ∃ g', look p (coldPage p s).seq.pages = some g' ∧ g'.loc = .cold ∧ g'.stored = 0 ∧ g'.refs = g.refs := by
  obtain ⟨g1, h1, hr⟩ := releaseRow_page p g s h
  have hi : ∀ t, (when g.indexed (indexRemove p g) t).seq = t.seq := fun t =>
    Touches.seq (touch_when (L := [.owl, .reg .MEM_X_INJECT_ARMED, .mem]) (touch_refl _ t)
      (fun _ => touch_indexRemove (fun _ h => h))) (by decide)
  have hl : ∀ t, (when (g.loc != .cold) (slotLeft g.keySlot) t).seq = t.seq := fun t =>
    Touches.seq (touch_when (L := evrParts) (touch_refl _ t) (fun _ => touch_slotLeft (fun _ h => h))) (by decide)
  refine ⟨{ g1 with loc := .cold, comp := false, tableId := 0, stored := 0 }, ?_, rfl, rfl, hr⟩
  unfold coldPage
  rw [h]
  dsimp only
  rw [hl, freeLoc_pages, onPage_look_self, onFox_seq, hi, h1]
  rfl

/-! ### PARK_XFER -/

theorem parkXfer_of_fault {src op : Nat} {e : RxEntry} {f : Nat × Nat} {s : State} (hf : xferFault s e e.message = some f)
    (hk : f.1 ≠ Status.keyRetired) : parkXfer src op e s = nakMsg (src, op) e f.1 f.2 0 s := by
  unfold parkXfer noteKeyAt
  dsimp only
  rw [hf]
  dsimp only
  rw [beq_eq_false_iff_ne.mpr hk]
  rfl

theorem parkXfer_of_image {src op : Nat} {e : RxEntry} {q : Seqd} {w : WarmImage} {s : State} (hf : xferFault s e e.message = none)
    (hi : xferImage s e.message = some (q, w)) :
    let m := e.message
    let u := noteXfer w (u64 m 8) (u32 m 16) s
    parkXfer src op e s = if xferReadable u w (u64 m 8) (u32 m 16) = true
      then respond (src, op) e (warmSpan u q w (u32 m 4) (u64 m 8) (u32 m 16)) u
      else nakMsg (src, op) e Status.uncorrectable 0 0 u := by
  unfold parkXfer
  dsimp only
  rw [hf, hi]

end Sys2Proof.Machine

namespace Sys2Proof.Proofs

open Sys2Proof Sys2Proof.Machine

/-- Settles O52: clause by clause, from what a park's acceptance, start, transfer and end come to. -/
theorem sequencesAreParkedAndRead : Obligations.SequencesAreParkedAndRead := by
  unfold Obligations.SequencesAreParkedAndRead
  refine ⟨fun k c q s t h hn => ⟨fun f hf => (execSeqPark_of_own h hn).trans (congrArg _ ?refused), fun hf =>
      (execSeqPark_of_own h hn).trans (congrArg _ ?accepted)⟩, fun c q s hm hl ha hp => ?fault,
    fun k cut c x q s hc hx hq => ⟨fun f hf => parkStart_of_fault hc hx hq hf, fun hf =>
      ⟨x.started k cut c q s, onPark (fun y => { y with parks := put k (x.started k cut c q s) y.parks }) s,
        parkStart_of_good hc hx hq hf, look_put_self .., rfl, rfl, rfl, rfl, rfl, fun _ _ _ => rfl, fun _ => rfl⟩⟩,
    fun b seq q s hq => ?enter,
    fun i e s hl he hf => (done_live hl).trans (congrArg _ (fireEntry_of_fires he hf)),
    fun s car ckpt k h => parksWaiting_mem h,
    fun k c x q s hl hc hx hq hw hm => ⟨fun hb => (done_live hl).trans (congrArg _ (parkTransferStart_of_held hc hx hq ?held)),
      fun hworks hcoaches hb ht => (done_live hl).trans (congrArg _ (parkTransferStart_of_free hc hx hq ?free))⟩,
    fun k c x q s => ⟨fun f hf => parkTransfer_of_fault hf, fun hf => parkTransfer_park hf⟩,
    fun b q s => ⟨fun f hf => warmTransfer_of_fault hf, warmTransfer_of_moved⟩,
    fun s b q x hs hx => parkPage_moves_or_stays hs hx,
    fun packs q x r st s => ⟨parkReads_of_fault, parkReads_of_good, warmMoves_of_fault⟩,
    fun x packs s hs hd hk hb => parkReadFault_of_digest hs hd hk hb,
    fun k status reason page x q s hx hw hq => ?fail,
    fun k c x q s hl hc hx hq hm hs => ⟨fun h0 => (done_live hl).trans (congrArg _ ((parkComplete_of_moved hc hx hq hm hs).trans
        (if_pos h0))), fun h1 => (done_live hl).trans (congrArg _ ((parkComplete_of_moved hc hx hq hm hs).trans
        ((if_neg (by omega)).trans (if_pos h1)))), fun h2 => (done_live hl).trans (congrArg _
        ((parkComplete_of_moved hc hx hq hm hs).trans ((if_neg (by omega)).trans (if_neg (by omega)))))⟩,
    fun k x q h s => ?warm, fun k car len x s => rfl, fun p g s h => coldPage_page h,
    fun src op e s h => ⟨fun f hf hk => (done_waits h).trans (congrArg _ (parkXfer_of_fault hf hk)),
      fun q w hf hi => (done_waits h).trans (congrArg _ (parkXfer_of_image hf hi))⟩⟩
  case refused =>
    rw [hf]
  case accepted =>
    rw [hf]
  case fault =>
    simp [parkAcceptFault, hm, hl, ha, hp]
  case enter =>
    unfold parkEnter
    split
    · exact (onSeqd_look_self ..).trans (congrArg (Option.map _) hq)
    · exact hq
  case held =>
    rcases hb with ⟨w, hw, h⟩ | ⟨i, hi, h⟩ | h | h
    · exact .inr (.inr (.inl (List.any_eq_true.mpr ⟨w, hw, h⟩)))
    · exact .inr (.inr (.inr (.inl (List.any_eq_true.mpr ⟨i, hi, h⟩))))
    · exact .inr (.inr (.inr (.inr (.inl h))))
    · exact .inr (.inr (.inr (.inr (.inr h))))
  case free =>
    rintro (h | h | h | h | h | h)
    · exact Bool.false_ne_true (hw.symm.trans h)
    · exact Bool.false_ne_true (hm.symm.trans h)
    · obtain ⟨w, hin, h⟩ := List.any_eq_true.mp h
      exact Bool.false_ne_true ((hworks w hin).symm.trans h)
    · obtain ⟨i, hin, h⟩ := List.any_eq_true.mp h
      exact Bool.false_ne_true ((hcoaches i hin).symm.trans h)
    · exact Bool.false_ne_true (hb.symm.trans h)
    · exact Bool.false_ne_true (h.symm.trans ht)
  case fail =>
    obtain ⟨car, h⟩ := parkFail_of_started (status := status) (reason := reason) (page := page) hx hw
    exact ⟨_, car, h, look_del_self .., (look_upd_self ..).trans (by rw [onPark_seq, hq]; rfl), rfl, rfl, fun _ _ _ => rfl, fun _ => rfl⟩
  case warm =>
    unfold warmEnd
    rfl

end Sys2Proof.Proofs
end

section
/-! PROOF. SEQ_RESUME (R348 to R354, R508). -/

namespace Sys2Proof.Machine

open Sys2Proof


/-! ### The first run -/

theorem execSeqResume_of_started {k : Nat} {c : Cmd} {s : State} (h : Started k 1 0x31 c s) : exec (.seqResume k) s =
    .next (seqResume k c s) := done_started h

theorem seqResume_of_first {k : Nat} {c : Cmd} {s : State} (hp : c.phase = 0) : seqResume k c s = resumeBegin k c s := if_pos hp

theorem resumeBegin_of_fault {k : Nat} {c : Cmd} {f : Nat × Nat} {s : State} (hf : resumeFault s c.bytes = some f) :
    resumeBegin k c s = completeReason k f.1 f.2 s := by
  unfold resumeBegin
  rw [hf]

theorem resumeBegin_of_good {k : Nat} {c : Cmd} {s : State} (hf : resumeFault s c.bytes = none) :
    resumeBegin k c s = if Rs.abandon c.bytes = true then complete k Status.ok 0 0 (freeSeq (Op.seqId c.bytes) s)
      else if Rs.source c.bytes = 3 then resumeLast k 0 s
      else if Rs.source c.bytes = 0 then (if transferMayRun s (Op.car c.bytes) = true then resumeWarm k c s else s)
      else askStage k (setCmd k { c with phase := 1 } s) := by
  unfold resumeBegin
  rw [hf]

theorem resumeWarm_of_whole {k : Nat} {c : Cmd} {w : WarmImage} {s : State} (hs : Rs.slice c.bytes = false)
    (hw : look (Op.seqId c.bytes) s.park.warm = some w) : resumeWarm k c s = warmWhole k c w s := by
  unfold resumeWarm
  dsimp only
  rw [if_neg (ne_true_of_eq_false hs), hw]

theorem resumeWarm_of_slice {k : Nat} {c : Cmd} {q : Seqd} {s : State} (hs : Rs.slice c.bytes = true)
    (hq : look (Op.seqId c.bytes) s.seq.seqs = some q) : resumeWarm k c s = warmSlice k c q s := by
  unfold resumeWarm
  dsimp only
  rw [if_pos hs, hq]

theorem askStage_of_unfetched {k : Nat} {c : Cmd} {s : State} (hs : Rs.source c.bytes ≠ 1) :
    askStage k (setCmd k c s) = setCmd k c s := by
  unfold askStage
  rw [show (setCmd k c s).cmd k = some c from look_put_self ..]
  exact if_pos hs

/-! ### What a resume may act on -/

theorem resumePermits_of_other_image {b : List Byte} {q : Seqd} {r : Resume} {s : State}
    (hr : look (Op.seqId b) s.park.resumes = some r) (hq : q.st = 6) (hi : r.image ≠ Rs.image b) (hs : Rs.slice b = false) :
    resumePermits s b q = false := by
  unfold resumePermits
  dsimp only
  rw [if_neg (by rw [hs]; exact Bool.false_ne_true), hr, hq]
  simp [hi]

theorem resumePermits_last {b : List Byte} {q : Seqd} {s : State} (h3 : Rs.source b = 3) (hp : resumePermits s b q = true) :
    6 ≤ q.st ∧ q.nodeset = Rs.nodeset b := by
  unfold resumePermits at hp
  simp only [h3, BEq.rfl, Bool.or_true, Bool.not_true, Bool.and_false, Bool.false_eq_true, if_false, if_true, Bool.and_eq_true,
    decide_eq_true_eq, beq_iff_eq] at hp
  exact hp.1

theorem resumeFault_of_last {b : List Byte} {q : Seqd} {s : State} (hq : look (Op.seqId b) s.seq.seqs = some q) (h0 : Op.seqId b ≠ 0)
    (hn : Rs.node b ≤ 4095) (h3 : Rs.source b = 3) (hl : Rs.last b = true) (ha : Rs.abandon b = false) :
    resumeFault s b = if setUsable s (Op.car b) (Rs.nodeset b) = false then some (Status.badCommand, 26)
      else if resumePermits s b q = false then some (Status.badCommand, 25)
      else if q.car ≠ Op.car b then some (Status.accessDenied, 0) else none := by
  unfold resumeFault
  dsimp only
  rw [hq]
  simp [h0, h3, hl, ha, Nat.not_lt.mpr hn]

theorem resumeFault_of_new {b : List Byte} {s : State} (hq : look (Op.seqId b) s.seq.seqs = none) (h0 : Op.seqId b ≠ 0)
    (hn : Rs.node b ≤ 4095) (hsrc : Rs.source b = 1 ∨ Rs.source b = 2) (ha : Rs.abandon b = false) (hs : Rs.slice b = false)
    (hb : has (Op.seqId b) s.seq.busy = false) :
    resumeFault s b = if setUsable s (Op.car b) (Rs.nodeset b) = false then some (Status.badCommand, 26) else none := by
  unfold resumeFault
  dsimp only
  rw [hq]
  rcases hsrc with h | h <;> simp [h0, h, ha, hs, hb, Nat.not_lt.mpr hn]

/-! ### The end of a resume -/

theorem resumeLast_of_seq {k n : Nat} {c : Cmd} {q : Seqd} {r : Resume} {s : State} (hc : s.cmd k = some c)
    (hq : look (Op.seqId c.bytes) s.seq.seqs = some q) (hr : look (Op.seqId c.bytes) s.park.resumes = some r) :
    let seq := Op.seqId c.bytes
    let m := missingPages s seq q r.pos
    resumeLast k n s = if m ≠ 0 then complete k Status.badCommand 0 (n + min m 16777215 * 2 ^ 32 + 21 * 2 ^ 56)
        (raise 0x0425 (some q.car) [(4, m)] s)
      else complete k Status.ok 0 n (raise 0x0423 (some q.car) [(4, seq), (4, r.imported)]
        (onPark (fun x => { x with resumes := del seq x.resumes }) (dropWarm seq (onSeqd seq (fun q => { q with
          st := if r.frozen then 2 else 1, freeze := if r.frozen then r.freeze else 0xFFFFFFFF, cold := 0 }) s)))) := by
  unfold resumeLast
  rw [hc]
  dsimp only
  rw [hq, hr]

/-! ### Fetched images -/

theorem seqResume_of_waiting {k : Nat} {c : Cmd} {s : State} (hs : Rs.source c.bytes = 1) (hp : c.phase ≠ 0) (hw : c.want ≠ 0) :
    seqResume k c s = s := by
  unfold seqResume
  rw [if_neg hp, if_pos hs]
  exact if_neg (ne_true_of_eq_false (beq_eq_false_iff_ne.mpr hw))

theorem seqResume_of_arrived {k : Nat} {c : Cmd} {s : State} (hs : Rs.source c.bytes = 1) (hp : c.phase ≠ 0) (hw : c.want = 0) :
    seqResume k c s = stageDone k c s := by
  unfold seqResume
  rw [if_neg hp, if_pos hs]
  exact if_pos (beq_iff_eq.mpr hw)

theorem stageDone_of_lost {k i : Nat} {c : Cmd} {s : State} (h : fetchedHead s c = .error i) : stageDone k c s = recordLost k c i s := by
  unfold stageDone
  rw [h]

theorem stageDone_of_head_fault {k : Nat} {c : Cmd} {h : List Byte} {f : Nat × Nat × Nat} {s : State} (hp : c.phase = 1)
    (hh : fetchedHead s c = .ok h) (hf : headerFault s c h = some f) : stageDone k c s = resumeRefuse k c f.1 f.2.1 f.2.2 s := by
  unfold stageDone
  rw [hh]
  dsimp only
  rw [if_pos hp, hf]

theorem stageDone_of_head {k : Nat} {c : Cmd} {h : List Byte} {s : State} (hp : c.phase = 1) (hh : fetchedHead s c = .ok h)
    (hf : headerFault s c h = none) : stageDone k c s = askStage k (setCmd k { c with phase := 2 } s) := by
  unfold stageDone
  rw [hh]
  dsimp only
  rw [if_pos hp, hf]

theorem stageDone_of_array {k : Nat} {c : Cmd} {h es : List Byte} {s : State} (hp : c.phase ≠ 1) (hh : fetchedHead s c = .ok h)
    (he : fetchedArray s c h = .ok es) :
    stageDone k c s = if c.phase = 2 then arrayDone k c h es s else pagesDone k c h es s := by
  unfold stageDone
  rw [hh]
  dsimp only
  rw [if_neg hp, he]

theorem arrayDone_of_fault {k : Nat} {c : Cmd} {h es : List Byte} {f : Nat × Nat × Nat} {s : State}
    (hr : resumeFault s c.bytes = none) (hf : arrayFault s c h es = some f) :
    arrayDone k c h es s = resumeRefuse k c f.1 f.2.1 f.2.2 s := by
  unfold arrayDone
  dsimp only
  rw [hr, hf]

theorem arrayDone_of_refused {k : Nat} {c : Cmd} {h es : List Byte} {f : Nat × Nat} {s : State}
    (hr : resumeFault s c.bytes = none) (hf : arrayFault s c h es = none) (ha : acceptSource c h s = .error f) :
    arrayDone k c h es s = completeReason k f.1 f.2 s := by
  unfold arrayDone
  dsimp only
  rw [hr, hf]
  dsimp only
  rw [ha]

theorem arrayDone_of_accepted {k : Nat} {c : Cmd} {h es : List Byte} {s t : State}
    (hr : resumeFault s c.bytes = none) (hf : arrayFault s c h es = none) (ha : acceptSource c h s = .ok t) :
    arrayDone k c h es s = askStage k (setCmd k { c with
      phase := 3
      note := ((look (Op.seqId c.bytes) t.seq.seqs).map (fun q => neededEntries t (Op.seqId c.bytes) q (entriesOf es))).getD [] } t) := by
  unfold arrayDone
  dsimp only
  rw [hr, hf]
  dsimp only
  rw [ha]

theorem pagesDone_of_blocked {k : Nat} {c : Cmd} {h es : List Byte} {s : State} (ht : transferMayRun s (Op.car c.bytes) = false) :
    pagesDone k c h es s = s := if_pos ht

theorem pagesDone_of_pages {k : Nat} {c : Cmd} {h es : List Byte} {pages : List (List Byte)} {s : State}
    (ht : transferMayRun s (Op.car c.bytes) = true)
    (hp : takeSpans s c (Img.len h) (stageSpans s c).1 (stageSpans s c).2 = .ok pages) :
    pagesDone k c h es s = importSource k c es pages s := by
  unfold pagesDone
  dsimp only
  rw [if_neg (ne_false_of_eq_true ht), hp]

theorem acceptSource_of_seq {c : Cmd} {h : List Byte} {q : Seqd} {s : State} (hq : look (Op.seqId c.bytes) s.seq.seqs = some q) :
    acceptSource c h s = .ok (onPark (fun x => { x with
        resumes := if has (Op.seqId c.bytes) x.resumes then x.resumes else put (Op.seqId c.bytes) (resumeOf h) x.resumes })
      (setSeq (Op.seqId c.bytes) { q with st := 6, lastAppend := 0 } s)) := by
  unfold acceptSource
  dsimp only
  rw [hq]

/-! ### Imports -/

theorem importEntry_of_imported {seq image i leaf : Nat} {q : Seqd} {e d : List Byte} {s : State} (hl : entryLeaf s q e = some leaf)
    (hi : imported s seq q (Ent.layer e) leaf = true) : importEntry seq image i q e d s = .ok (none, s) := by
  unfold importEntry
  rw [hl]
  exact if_pos hi

theorem importEntry_of_mismatch {seq image i leaf : Nat} {q : Seqd} {e d raw : List Byte} {s : State}
    (hl : entryLeaf s q e = some leaf) (hi : imported s seq q (Ent.layer e) leaf = false)
    (hr : entryRaw s q image i e d = .ok raw) (hd : entryDigestOk s q e raw = false) :
    importEntry seq image i q e d s = .error (Status.uncorrectable, 255) := by
  unfold importEntry
  rw [hl]
  dsimp only
  rw [if_neg (ne_true_of_eq_false hi), hr]
  exact if_pos hd

theorem countImported_resume {seq n : Nat} {r : Resume} {s : State} (h : look seq s.park.resumes = some r) :
    look seq (countImported seq n s).park.resumes = some { r with imported := r.imported + n } :=
  (look_upd_self seq (fun r : Resume => { r with imported := r.imported + n }) s.park.resumes).trans (congrArg (Option.map _) h)

theorem markImported_resume {seq p : Nat} {r : Resume} {s : State} (h : look seq s.park.resumes = some r) :
    look seq (markImported seq p s).park.resumes = some { r with got := addSet p r.got } :=
  (look_upd_self seq (fun r : Resume => { r with got := addSet p r.got }) s.park.resumes).trans (congrArg (Option.map _) h)

theorem unmarkImported_resume {seq p : Nat} {r : Resume} {s : State} (h : look seq s.park.resumes = some r) :
    look seq (unmarkImported seq p s).park.resumes = some { r with got := remSet p r.got } :=
  (look_upd_self seq (fun r : Resume => { r with got := remSet p r.got }) s.park.resumes).trans (congrArg (Option.map _) h)

theorem importSource_of_done {k : Nat} {c : Cmd} {entries : List Byte} {pages : List (List Byte)} {s : State} :
    let seq := Op.seqId c.bytes
    let r := importAll seq (Rs.image c.bytes) (entriesOf entries) (c.note.zip pages) [] s
    r.1 = none → importSource k c entries pages s = sourceDone k r.2.1.length c (fixCounts seq r.2.2) := by
  intro seq r h
  unfold importSource
  dsimp only
  rw [h]

theorem importSource_of_failed {k : Nat} {c : Cmd} {entries : List Byte} {pages : List (List Byte)} {x : Nat × Nat} {s : State} :
    let seq := Op.seqId c.bytes
    let r := importAll seq (Rs.image c.bytes) (entriesOf entries) (c.note.zip pages) [] s
    r.1 = some x → importSource k c entries pages s = if x = (Status.uncorrectable, 255)
      then resumeRefuse k c Status.uncorrectable 0 6 (fixCounts seq (releaseImported seq r.2.1 r.2.2))
      else complete k x.1 0 (r.2.1.length + x.2 * 2 ^ 56)
        (noteImport (Op.car c.bytes) x (countImported seq r.2.1.length (fixCounts seq r.2.2))) := by
  intro seq r h
  unfold importSource
  dsimp only
  rw [h]

theorem warmImport_of_plain {k : Nat} {c : Cmd} {w : WarmImage} {es : List (List Byte)} {q : Seqd} {s : State}
    (hp : ∀ p ∈ w.pages, ∀ g, look p s.seq.pages = some g → g.comp = false) :
    let seq := Op.seqId c.bytes
    let r := warmAll seq q (warmSources s seq q w es) [] s
    warmImport k c w es q s = if r.1 = true then sourceDone k (warmSources s seq q w es).length c r.2.2
      else resumeRefuse k c Status.uncorrectable 0 6 (fixCounts seq (releaseImported seq r.2.1 r.2.2)) := by
  have hn : w.pages.any (fun p => (look p s.seq.pages).any (fun g => g.comp && !bufferServes s (locHalf s g.loc))) = false := by
    refine List.any_eq_false.mpr (fun p hin h => ?_)
    obtain ⟨g, hg, hc⟩ := (Option.any_eq_true _ _).mp h
    rw [hp p hin g hg] at hc
    exact Bool.false_ne_true hc
  unfold warmImport
  dsimp only
  exact if_neg (ne_true_of_eq_false hn)

end Sys2Proof.Machine

namespace Sys2Proof.Proofs

open Sys2Proof Sys2Proof.Machine

/-- Settles O53: clause by clause, from what a resume's first run, its stages, its imports and its end come to. -/
theorem sequencesAreResumedFromTheirSources : Obligations.SequencesAreResumedFromTheirSources := by
  unfold Obligations.SequencesAreResumedFromTheirSources
  refine ⟨fun k c s h hp => ?begin_, fun b q s hq h0 hn h3 hl ha => (resumeFault_of_last hq h0 hn h3 hl ha).trans ?last,
    fun b q r s hr hq hi hs => resumePermits_of_other_image hr hq hi hs,
    fun b s hq h0 hn hsrc ha hs hb => resumeFault_of_new hq h0 hn hsrc ha hs hb,
    fun k n c q r s hc hq hr => ⟨fun hm => (resumeLast_of_seq hc hq hr).trans (if_pos hm),
      fun hm => (resumeLast_of_seq hc hq hr).trans (if_neg (not_not_intro hm))⟩,
    fun k c s h hs => ?stages, fun c h es s => ⟨fun hd => if_pos hd, fun hd hh => ?array⟩,
    fun c h q s hq => ⟨_, acceptSource_of_seq hq, look_put_self .., rfl, fun _ _ _ => rfl⟩,
    fun seq image i leaf q e d s hl => ⟨fun hi => ⟨s, importEntry_of_imported hl hi, rfl⟩,
      fun raw hi hr hd => ⟨_, importEntry_of_mismatch hl hi hr hd, rfl⟩⟩,
    fun q e s h => if_pos h, fun seq p r s hr => ⟨?mark, ?unmark⟩,
    fun k c entries pages s => ⟨importSource_of_done, fun h => (importSource_of_failed h).trans (if_pos rfl),
      fun x h hx => (importSource_of_failed h).trans (if_neg hx)⟩,
    fun k c w es q s hp => ⟨fun h => (warmImport_of_plain hp).trans (if_pos h),
      fun h => (warmImport_of_plain hp).trans (if_neg (ne_true_of_eq_false h))⟩,
    fun k n c s => rfl, fun seq n r s hr => countImported_resume hr⟩
  case begin_ =>
    have hs := (execSeqResume_of_started h).trans (congrArg _ (seqResume_of_first hp))
    refine ⟨fun f hf => hs.trans (congrArg _ (resumeBegin_of_fault hf)), fun hf => ?_⟩
    have hg := hs.trans (congrArg _ (resumeBegin_of_good hf))
    refine ⟨fun ha => hg.trans (congrArg _ (if_pos ha)), fun ha h3 => hg.trans (congrArg _ ?_), fun w ha h0 hsl hw => hg.trans (congrArg _ ?_),
      fun q ha h0 hsl hq => hg.trans (congrArg _ ?_), fun ha h1 => ⟨_, hg.trans (congrArg _ ?_), rfl⟩, fun ha h2 => hg.trans (congrArg _ ?_)⟩
    · rw [if_neg (ne_true_of_eq_false ha), if_pos h3]
    · rw [if_neg (ne_true_of_eq_false ha), if_neg (by omega), if_pos h0, resumeWarm_of_whole hsl hw]
    · rw [if_neg (ne_true_of_eq_false ha), if_neg (by omega), if_pos h0, resumeWarm_of_slice hsl hq]
    · rw [if_neg (ne_true_of_eq_false ha), if_neg (by omega), if_neg (by omega)]
    · rw [if_neg (ne_true_of_eq_false ha), if_neg (by omega), if_neg (by omega)]
      exact askStage_of_unfetched (c := { c with phase := 1 }) (by dsimp only; omega)
  case last =>
    by_cases hp : resumePermits s b q = true
    · obtain ⟨h6, hset⟩ := resumePermits_last h3 hp
      simp [hp, hset, Nat.not_lt.mpr h6]
    · simp [hp]
  case stages =>
    have hs := fun (hp : c.phase ≠ 0) (hw : c.want = 0) =>
      (execSeqResume_of_started h).trans (congrArg _ (seqResume_of_arrived hs hp hw))
    refine ⟨fun hp hw => (execSeqResume_of_started h).trans (congrArg _ (seqResume_of_waiting ‹_› hp hw)),
      fun i hp hw hh => (hs hp hw).trans (congrArg _ (stageDone_of_lost hh)),
      fun hd hp hw hh => ⟨fun f hf => (hs (by omega) hw).trans (congrArg _ (stageDone_of_head_fault hp hh hf)),
        fun hf => (hs (by omega) hw).trans (congrArg _ (stageDone_of_head hp hh hf))⟩,
      fun hd es hp hw hh he hr => ?_, fun hd es hp hw hh he => ?_⟩
    · have ha := (hs (by omega) hw).trans (congrArg _ ((stageDone_of_array (by omega) hh he).trans (if_pos hp)))
      refine ⟨fun f hf => ha.trans (congrArg _ (arrayDone_of_fault hr hf)), fun hf => ha.trans (congrArg _ ?_)⟩
      split
      · exact arrayDone_of_refused hr hf ‹_›
      · exact arrayDone_of_accepted hr hf ‹_›
    · have ha := (hs (by omega) hw).trans (congrArg _ ((stageDone_of_array (by omega) hh he).trans (if_neg (by omega))))
      exact ⟨fun ht => ha.trans (congrArg _ (pagesDone_of_blocked ht)), fun pages ht hpg => ha.trans (congrArg _ (pagesDone_of_pages ht hpg))⟩
  case array =>
    unfold arrayFault
    rw [if_neg (not_not_intro hd), if_neg (fun hx => Bool.false_ne_true (hx.1.symm.trans hh))]
  case mark =>
    rw [markImported_resume hr]
    exact congrArg some (decide_eq_true (mem_addSet p r.got))
  case unmark =>
    rw [unmarkImported_resume hr]
    exact congrArg some (decide_eq_false (fun hx => ((mem_remSet_iff p p r.got).mp hx).2 rfl))

end Sys2Proof.Proofs
end

section
/-! PROOF. The append log, AGE, demotion and promotion (R335 to R337, R355, R356). -/

namespace Sys2Proof.Machine

open Sys2Proof


/-! ### The append log -/

theorem shadowFault_of_held {e : RxEntry} {m : List Byte} {q : Seqd} {s : State} (hq : look (u32 m 0) s.seq.seqs = some q)
    (hw : appendWell s.im q.kv (q.slot s.im) (q.scale s.im) m = true) (h1 : 1 ≤ u8 m 6) (h32 : u8 m 6 ≤ 32) (hl : u16 m 4 < q.layers) :
    shadowFault s e m = if q.car ≠ e.car then some Status.accessDenied else if s.timeServes = false then some Status.timeHoldover
      else if s.seqHeld e.car (u32 m 0) = true then some Status.aborted else none := by
  have hwell : shadowWell s m = true := by
    unfold shadowWell
    rw [hq]
    exact hw
  by_cases hc : q.car = e.car <;> cases ht : s.timeServes <;> cases hh : s.seqHeld e.car (u32 m 0) <;>
    simp [shadowFault, firstFail, hq, hwell, h1, h32, hl, hc, ht, hh]

theorem shadowFault_of_unheld {e : RxEntry} {m : List Byte} {s : State} (hq : look (u32 m 0) s.seq.seqs = none)
    (hw : 32 + 4 * u8 m 6 ≤ m.length) (h1 : 1 ≤ u8 m 6) (h32 : u8 m 6 ≤ 32) :
    shadowFault s e m = if s.timeServes = false then some Status.timeHoldover
      else if s.seqHeld e.car (u32 m 0) = true then some Status.aborted else none := by
  have hwell : shadowWell s m = true := by
    unfold shadowWell
    rw [hq]
    exact decide_eq_true hw
  cases ht : s.timeServes <;> cases hh : s.seqHeld e.car (u32 m 0) <;> simp [shadowFault, firstFail, hq, hwell, h1, h32, ht, hh]

theorem appendShadow_of_denied {src op : Nat} {e : RxEntry} {s : State}
    (hf : shadowFault s e e.message = some Status.accessDenied) :
    appendShadow src op e s = nakMsg (src, op) e Status.accessDenied 0 0 s := by
  unfold appendShadow
  dsimp only
  rw [hf]
  exact if_pos (.inl rfl)

theorem appendShadow_of_fault {src op st : Nat} {e : RxEntry} {s : State} (hw : shadowWell s e.message = true)
    (hf : shadowFault s e e.message = some st) (hd : st ≠ Status.accessDenied) :
    appendShadow src op e s = ackMsg (src, op) e st 0 0 s := by
  unfold appendShadow
  dsimp only
  rw [hf]
  exact if_neg (fun h => h.elim hd (fun h => Bool.false_ne_true (h.2.symm.trans hw)))

theorem appendShadow_of_logged {src op : Nat} {e : RxEntry} {s : State} (hf : shadowFault s e e.message = none)
    (hl : s.park.log.any (logEntry s e e.message).same = true) : appendShadow src op e s = ackMsg (src, op) e Status.ok 0 0 s := by
  unfold appendShadow
  dsimp only
  rw [hf]
  exact if_pos hl

/-- The state in which a new log entry looks for its frame: on a node without the sequence a free value has been taken. -/
def logStart (m : List Byte) (s : State) : State := if look (u32 m 0) s.seq.seqs = none then freeTaken s else s

theorem when_isNone {α σ : Type} (o : Option α) (f : σ → σ) (s : σ) : when o.isNone f s = if o = none then f s else s := by
  cases o <;> rfl

theorem appendShadow_of_full {src op : Nat} {e : RxEntry} {s : State} (hf : shadowFault s e e.message = none)
    (hl : s.park.log.any (logEntry s e e.message).same = false)
    (hg : logGrow e.car (logNeed (logStart e.message s) e.car (logEntry s e e.message).bytes.length) (logStart e.message s) = none) :
    appendShadow src op e s = logFull src op e e.message (logStart e.message s) := by
  unfold logStart at hg ⊢
  unfold appendShadow
  dsimp only
  rw [hf]
  dsimp only
  rw [if_neg (ne_true_of_eq_false hl), when_isNone, hg]

theorem appendShadow_of_new {src op : Nat} {e : RxEntry} {s t : State} (hf : shadowFault s e e.message = none)
    (hl : s.park.log.any (logEntry s e e.message).same = false)
    (hg : logGrow e.car (logNeed (logStart e.message s) e.car (logEntry s e e.message).bytes.length) (logStart e.message s) = some t) :
    appendShadow src op e s =
      ackMsg (src, op) e Status.ok 0 0 (onPark (fun y => { y with log := y.log ++ [logEntry s e e.message] }) t) := by
  unfold logStart at hg
  unfold appendShadow
  dsimp only
  rw [hf]
  dsimp only
  rw [if_neg (ne_true_of_eq_false hl), when_isNone, hg]

theorem logGrow_within {c n : Nat} {s t : State} (h : logGrow c n s = some t) : n ≤ s.rg .BDG_LOG_C_MAX_FRAMES c := by
  unfold logGrow at h
  split at h
  · cases h
  · exact Nat.not_lt.mp ‹_›

theorem logRead_of_frames {k : Nat} {c : Cmd} {s : State} (hf : foreignSeq s c = false) :
    let u := forEach (logFrames s (Op.car c.bytes)) (fun f => noteRead (.hbm f.1 f.2) 0 s.im.dataArea) s
    let es := logFit (u64 c.bytes 24) ((logOf u (Op.car c.bytes)).filter (fun e =>
      e.seq == Op.seqId c.bytes && decide (u32 c.bytes 12 < e.start + e.count)))
    let lost := u.park.lost.any (fun x => x.1 == Op.seqId c.bytes && x.2.2 == Op.car c.bytes)
    logRead k c s = if (logFrames s (Op.car c.bytes)).all (fun f => canRead u (.hbm f.1 f.2) 0 u.im.dataArea) = false
      then complete k Status.uncorrectable 0 0 u
      else complete k Status.ok 0 (es.length + b2n lost * 2 ^ 62) (hostWrite k (u64 c.bytes 16) (es.flatMap (fun e => e.bytes)) u) :=
  if_neg (ne_true_of_eq_false hf)

theorem logRead_of_no_frame {k : Nat} {c : Cmd} {s : State} (hf : foreignSeq s c = false) (h : logFrames s (Op.car c.bytes) = []) :
    let es := logFit (u64 c.bytes 24) ((logOf s (Op.car c.bytes)).filter (fun e =>
      e.seq == Op.seqId c.bytes && decide (u32 c.bytes 12 < e.start + e.count)))
    let lost := s.park.lost.any (fun x => x.1 == Op.seqId c.bytes && x.2.2 == Op.car c.bytes)
    logRead k c s = complete k Status.ok 0 (es.length + b2n lost * 2 ^ 62)
      (hostWrite k (u64 c.bytes 16) (es.flatMap (fun e => e.bytes)) s) := by
  refine (logRead_of_frames hf).trans ?_
  rw [h]
  exact if_neg (fun h => Bool.false_ne_true h.symm)

theorem logTrim_of_own {k : Nat} {c : Cmd} {s : State} (hf : foreignSeq s c = false) :
    let car := Op.car c.bytes
    let seq := Op.seqId c.bytes
    let below := u32 c.bytes 12
    let gone := fun (e : LogEntry) => e.car == car && e.seq == seq && decide (e.start + e.count ≤ below)
    logTrim k c s = complete k Status.ok 0 (countOf gone s.park.log) (logShrink car (onPark (fun x => { x with
      log := x.log.filter (fun e => !gone e),
      lost := if below = 0xFFFFFFFF then x.lost.filter (fun y => !(y.1 == seq && y.2.2 == car)) else x.lost }) s)) :=
  if_neg (ne_true_of_eq_false hf)

/-! ### AGE -/

/-- The state in which every page that is not TIER 2 is one frame older. -/
def aged (s : State) : State :=
  onSeq (fun x => { x with pages := x.pages.map (fun g =>
    if g.2.loc = .cold then g else (g.1, { g.2 with age := min 255 (g.2.age + 1) })) }) (onPark (fun x => { x with ageAt := s.frame }) s)

theorem ageTick_of_frame {s : State} (h : s.park.ageAt < s.frame) : ageTick s = aged s := if_pos h

theorem aged_page {p : Nat} {g : Page} {s : State} (h : look p s.seq.pages = some g) :
    look p (aged s).seq.pages = some (if g.loc = .cold then g else { g with age := min 255 (g.age + 1) }) := by
  have hm := look_map_cond (fun x : Page => x.loc ≠ .cold) (fun x => { x with age := min 255 (x.age + 1) }) p s.seq.pages
  simp only [ne_eq, ite_not] at hm
  exact hm.trans (congrArg (Option.map _) h)

/-! ### Demotion -/

theorem mostBy_eq_none {α : Type} (f : α → Nat) (l : List α) : mostBy f l = none ↔ l = [] := by
  cases l with
  | nil => exact iff_of_true rfl rfl
  | cons a r =>
    refine iff_of_false (fun h => ?_) (List.cons_ne_nil a r)
    unfold mostBy at h
    split at h
    · cases h
    · split at h <;> cases h

theorem mostBy_eq_some {α : Type} {f : α → Nat} {l : List α} {x : α} (h : mostBy f l = some x) :
    x ∈ l ∧ ∀ y ∈ l, f y ≤ f x := by
  induction l generalizing x with
  | nil => cases h
  | cons a r ih =>
    unfold mostBy at h
    split at h
    next hn =>
      obtain rfl : a = x := Option.some.inj h
      rw [(mostBy_eq_none f r).mp hn]
      exact ⟨List.mem_cons_self, fun y hy => by rw [List.mem_singleton.mp hy]⟩
    next y hy =>
      obtain ⟨hin, hle⟩ := ih hy
      split at h
      next hya =>
        obtain rfl : a = x := Option.some.inj h
        exact ⟨List.mem_cons_self, List.forall_mem_cons.mpr ⟨le_refl _, fun z hz => (hle z hz).trans hya⟩⟩
      next hya =>
        obtain rfl : y = x := Option.some.inj h
        exact ⟨List.mem_cons_of_mem _ hin, List.forall_mem_cons.mpr ⟨(Nat.not_le.mp hya).le, hle⟩⟩

theorem demoteNext_oldest {s : State} {c h : Nat} {x : Nat × Page} (hx : demoteNext s c h = some x) :
    x ∈ s.seq.pages ∧ demotable s c h x = true ∧ ∀ y ∈ s.seq.pages, demotable s c h y = true → y.2.age ≤ x.2.age := by
  obtain ⟨hin, hmost⟩ := mostBy_eq_some hx
  simp only [mem_sortBy, List.mem_filter] at hin hmost
  exact ⟨hin.1, hin.2, fun y hy hd => hmost y ⟨hy, hd⟩⟩

theorem demotable_parts {s : State} {c h : Nat} {x : Nat × Page} (hd : demotable s c h x = true) :
    x.2.car = c ∧ x.2.sealed_ = true ∧ x.2.moving = false ∧ (∃ g f, x.2.loc = .hbm g f) ∧
    (∃ q ∈ seqsOfPage s x.1, q.2.st = 1 ∨ q.2.st = 2) ∧
    ∀ q ∈ seqsOfPage s x.1, ∀ e ∈ q.2.entries, e.2.2.page = x.1 → alwaysHeld s q.2 e.1 e.2.1 e.2.2.view = false := by
  simp only [demotable, Bool.and_eq_true, Bool.not_eq_true', beq_iff_eq, List.any_eq_true, Bool.or_eq_true, List.all_eq_true,
    bne_iff_ne] at hd
  obtain ⟨⟨⟨⟨⟨⟨hc, hl⟩, -⟩, hs⟩, hm⟩, hq⟩, ha⟩ := hd
  refine ⟨hc, hs, hm, ?_, hq, fun q hin e he hp => (ha q hin e he).resolve_left (not_not_intro hp)⟩
  cases hx : x.2.loc with
  | hbm g f => exact ⟨g, f, rfl⟩
  | cxl c f =>
    rw [hx] at hl
    exact Bool.noConfusion hl
  | cold =>
    rw [hx] at hl
    exact Bool.noConfusion hl

/-- The demotions that go on: those of other halves, and those whose carriage still lies below HIGH. -/
def demotionsKept (h : Nat) (s : State) : State :=
  onPark (fun y => { y with demoting := y.demoting.filter (fun x => x.2 != h || demoteWants s x.1 h) }) s

theorem demote_of_none {h : Nat} {s : State}
    (hd : (List.range 16).find? (fun c => demoteDue (demotionsKept h s) c h && moveRoom (demotionsKept h s) c h) = none) :
    demote h s = demotionsKept h s := by
  unfold demotionsKept at hd
  unfold demote demotionsKept
  dsimp only
  rw [hd]

theorem demote_of_due {h c : Nat} {x : Nat × Page} {s : State}
    (hd : (List.range 16).find? (fun c => demoteDue (demotionsKept h s) c h && moveRoom (demotionsKept h s) c h) = some c)
    (hx : demoteNext (demotionsKept h s) c h = some x) : demote h s = demoteOne c h x (demotionsKept h s) := by
  unfold demotionsKept at hd hx
  unfold demote demotionsKept
  dsimp only
  rw [hd]
  dsimp only
  rw [hx]
  rfl

theorem demoteOne_of_running {c h : Nat} {x : Nat × Page} {s : State} (hr : (c, h) ∈ s.park.demoting) :
    let v := onPark (fun y => { y with demoting := addSet (c, h) y.demoting }) s
    demoteOne c h x s = match takeCxl c h (.moveDest x.1) v with
      | none => raise 0x0427 (some c) [] (onPark (fun y => { y with demoting := remSet (c, h) y.demoting }) v)
      | some f => beginMove x.1 { dest := .cxl c f.1, comp := if bufferServes v h then demoteTable v x.1 x.2 else none,
                                  cmd := none, half := h, car := c } f.2 := by
  unfold demoteOne
  dsimp only
  rw [decide_eq_false (not_not_intro hr)] <;> rfl

theorem demoteDue_parts {s : State} {c h : Nat} (hd : demoteDue s c h = true) : s.rg .BDG_PARK_C_CTRL_DEMOTE c = 1 ∧
    (halfFree s c h + demoting s c h) * 1000 < parkHigh s c * halfFrames s c h ∧
    ((c, h) ∈ s.park.demoting ∨ halfFree s c h * 1000 < parkLow s c * halfFrames s c h) := by
  simp only [demoteDue, demoteWants, Bool.and_eq_true, beq_iff_eq, decide_eq_true_eq, Bool.or_eq_true] at hd
  obtain ⟨⟨he, hw, -⟩, hl⟩ := hd
  exact ⟨he, hw, hl⟩

/-! ### Promotion -/

/-- A page taken off the list of those to promote. -/
def promoteDropped (p h : Nat) (s : State) : State :=
  onPark (fun y => { y with toPromote := y.toPromote.filter (fun z => decide (z ≠ (p, h))) }) s

theorem promote_of_page {h p : Nat} {g : Page} {s : State} (hf : s.park.toPromote.find? (fun x => x.2 == h) = some (p, h))
    (hp : look p s.seq.pages = some g) (hm : g.moving = false) (hr : moveRoom s g.car h = true) :
    promote h s = if g.loc.isCxl = false ∨ pageParked s p = true ∨ s.rg .BDG_PARK_C_CTRL_PROMOTE g.car = 0 ∨
        halfFree s g.car h * 1000 ≤ parkHigh s g.car * halfFrames s g.car h ∨ (g.comp = true ∧ bufferServes s (locHalf s g.loc) = false)
      then promoteDropped p h s
      else match takeFrom [(allocGroups s g.car).filter (fun k => k / 32 == h)] (.moveDest p) s with
        | none => promoteDropped p h s
        | some f => beginMove p { dest := .hbm f.1.1 f.1.2, comp := none, cmd := none, half := locHalf s g.loc, car := g.car }
            (promoteDropped p h f.2) := by
  unfold promote
  dsimp only
  rw [hf]
  dsimp only
  rw [hp]
  refine if_neg (fun hx => ?_)
  rcases hx with hx | hx
  · exact Bool.false_ne_true (hm.symm.trans hx)
  · exact Bool.false_ne_true (hx.symm.trans hr)

end Sys2Proof.Machine

namespace Sys2Proof.Proofs

open Sys2Proof Sys2Proof.Machine

/-- Settles O54: clause by clause, from what a shadow, the log commands, a frame's tick, a demotion and a promotion come to. -/
theorem logsAgeAndTiersAreKept : Obligations.LogsAgeAndTiersAreKept := by
  unfold Obligations.LogsAgeAndTiersAreKept
  refine ⟨fun src op e s h hw => ⟨fun st hf hd => (done_waits h).trans (congrArg _ (appendShadow_of_fault hw hf hd)),
      fun hf => (done_waits h).trans (congrArg _ (appendShadow_of_denied hf)),
      fun hf hl => (done_waits h).trans (congrArg _ (appendShadow_of_logged hf hl)),
      fun hf hl => (done_waits h).trans (congrArg _ ?fresh)⟩,
    fun e m q s hq hw h1 h32 hl => shadowFault_of_held hq hw h1 h32 hl, fun e m s hq hw h1 h32 => shadowFault_of_unheld hq hw h1 h32,
    fun c n s t h => logGrow_within h,
    fun src op e m s => ⟨onPark (fun x => { x with lost := addSet (u32 m 0, u16 m 24 % 4096, e.car) x.lost })
      (bump .BDG_LOG_C_FULL_COUNT e.car 1 s), rfl, rfl, mem_addSet _ _,
      fun n i hn => bump_rg_ne s (fun hx => hn (List.mem_singleton.mpr (Prod.mk.inj hx).1))⟩,
    fun k c s h hf hn => (done_started h).trans (congrArg _ (logRead_of_no_frame hf hn)),
    fun k c s h hf hu => (done_started h).trans (congrArg _ ((logRead_of_frames hf).trans (if_pos hu))),
    fun n e r => rfl,
    fun k c s => ⟨fun h hf => (done_started h).trans (congrArg _ (if_pos hf)), fun h hf => (done_started h).trans (congrArg _ (if_pos hf))⟩,
    fun k c s h hf => (done_started h).trans (congrArg _ (logTrim_of_own hf)),
    fun s hl => ⟨fun h => (done_live hl).trans (congrArg _ (if_neg (Nat.not_lt.mpr h))),
      fun h => ⟨aged s, (done_live hl).trans (congrArg _ (ageTick_of_frame h)), rfl, fun _ _ _ => rfl, fun _ => rfl,
        fun p g hp => aged_page hp⟩⟩,
    fun h s hl => ⟨fun hd => (done_live hl).trans (congrArg _ (demote_of_none hd)),
      fun c x hd hx => (done_live hl).trans (congrArg _ (demote_of_due hd hx))⟩,
    fun s c h x hx => demoteNext_oldest hx, fun s c h x hx => demotable_parts hx,
    fun c h x s hr => demoteOne_of_running hr, fun s c h hd => demoteDue_parts hd,
    fun h p g s hl hf hp hm hr => ⟨fun hs => (done_live hl).trans (congrArg _ ((promote_of_page hf hp hm hr).trans (if_pos ?stays))),
      fun hc hk hon hh hcomp => (done_live hl).trans (congrArg _ ((promote_of_page hf hp hm hr).trans (if_neg ?moves)))⟩⟩
  case fresh =>
    split
    · exact appendShadow_of_full hf hl ‹_›
    · exact appendShadow_of_new hf hl ‹_›
  case stays =>
    rcases hs with h | h | h
    · exact .inl h
    · exact .inr (.inr (.inl h))
    · exact .inr (.inr (.inr (.inl h)))
  case moves =>
    rintro (h | h | h | h | ⟨h, -⟩)
    · exact Bool.false_ne_true (h.symm.trans hc)
    · exact Bool.false_ne_true (hk.symm.trans h)
    · exact hon h
    · exact Nat.not_le.mpr hh h
    · exact Bool.false_ne_true (hcomp.symm.trans h)

end Sys2Proof.Proofs
end

section
/-! PROOF. Reset, power and the first steps of a start (R5, R25, R47, R489, R494, R495, R534, R535, R551, R594). -/

namespace Sys2Proof.Machine

open Sys2Proof

/-! ### What each operation reaches -/

section
variable {L : List StPart} {r s : State}

theorem touch_restoreTiles {a0 a1 : _} (hL : [.reg .BEAR_T_STAT_STATE, .reg .BEAR_MAP_PHYS] ⊆ L) (ha1 : Touches L r a1) :
    Touches L r (restoreTiles a0 a1) := by
  unfold restoreTiles
  refine touch_forEach ha1 ?_
  intro _ _ h0
  extract_lets -merge +onlyGivenNames y1
  exact touch_when (touch_setRg (sub_trans hL (by decide)) h0) (fun _ h2 => touch_setRg (sub_trans hL (by decide)) h2)

theorem touch_trimsRefused {a0 a1 a2 : _} (hL : evrParts ⊆ L) (ha2 : Touches L r a2) :
    Touches L r (trimsRefused a0 a1 a2) := by
  unfold trimsRefused
  exact touch_forEach ha2 (fun _ _ h0 => touch_raise (sub_trans hL (by decide)) h0)

theorem touch_restoreSer {a0 a1 : _} (hL : evrParts ++ [.reg .PRT_X_EQ_CTLE, .reg .PRT_X_EQ_DFE1, .reg .PRT_X_EQ_TX_PRE, .reg .PRT_X_EQ_TX_POST, .reg .QUE_ONZ_EQ_CTLE, .reg .QUE_ONZ_EQ_DFE1, .reg .QUE_ONZ_EQ_TX_PRE, .reg .QUE_ONZ_EQ_TX_POST, .reg .OWL_X_CASCADE_SAMPLE] ⊆ L) (ha1 : Touches L r a1) :
    Touches L r (restoreSer a0 a1) := by
  unfold restoreSer
  extract_lets -merge +onlyGivenNames y0
  exact touch_ite (fun _ => ha1) (fun _ => touch_trimsRefused (sub_trans hL (by decide)) (touch_forEach ha1 (fun _ _ h1 => touch_serTrimLoad (sub_trans hL (by decide)) h1)))

theorem touch_excludeMonitor {a0 a1 : _} (hL : evrParts ++ [.reg .MON_TEMP_EXCLUDED, .reg .MON_VOLT_EXCLUDED, .reg .MON_PROC_EXCLUDED] ⊆ L) (ha1 : Touches L r a1) :
    Touches L r (excludeMonitor a0 a1) := by
  unfold excludeMonitor
  extract_lets -merge +onlyGivenNames x0
  have hx0 : Touches L r x0 := touch_ite (fun _ => touch_setRg (sub_trans hL (by decide)) ha1) (fun _ => touch_ite (fun _ => touch_setRg (sub_trans hL (by decide)) ha1) (fun _ => touch_setRg (sub_trans hL (by decide)) ha1))
  exact touch_raise (sub_trans hL (by decide)) hx0

theorem touch_excludeFailed {a0 a1 : _} (hL : evrParts ++ [.reg .MON_TEMP_EXCLUDED, .reg .MON_VOLT_EXCLUDED, .reg .MON_PROC_EXCLUDED] ⊆ L) (ha1 : Touches L r a1) :
    Touches L r (excludeFailed a0 a1) := by
  unfold excludeFailed
  exact touch_forEach ha1 (fun _ _ h0 => touch_excludeMonitor (sub_trans hL (by decide)) h0)

theorem touch_restoreRing {a0 a1 a2 : _} (hL : evrParts ⊆ L) (ha2 : Touches L r a2) :
    Touches L r (restoreRing a0 a1 a2) := by
  unfold restoreRing
  refine touch_forEach (touch_raise (sub_trans hL (by decide)) (touch_onEvr (sub_trans hL (by decide)) ha2)) (fun _ _ h1 => ?_)
  exact touch_onEvr (sub_trans hL (by decide)) h1

theorem touch_restoreFrom {a0 a1 a2 : _} (hL : evrParts ++ [.reg .BIST_SUP_CLEAN_LAST, .reg .BEAR_T_STAT_STATE, .reg .BEAR_MAP_PHYS, .reg .MON_TEMP_EXCLUDED, .reg .MON_VOLT_EXCLUDED, .reg .MON_PROC_EXCLUDED, .seq, .sec, .start, .reg .PRT_X_EQ_CTLE, .reg .PRT_X_EQ_DFE1, .reg .PRT_X_EQ_TX_PRE, .reg .PRT_X_EQ_TX_POST, .reg .QUE_ONZ_EQ_CTLE, .reg .QUE_ONZ_EQ_DFE1, .reg .QUE_ONZ_EQ_TX_PRE, .reg .QUE_ONZ_EQ_TX_POST, .reg .OWL_X_CASCADE_SAMPLE] ⊆ L) (ha2 : Touches L r a2) :
    Touches L r (restoreFrom a0 a1 a2) := by
  unfold restoreFrom
  exact touch_setRg (sub_trans hL (by decide)) (touch_excludeFailed (sub_trans hL (by decide)) (touch_restoreSer (sub_trans hL (by decide)) (touch_when (touch_onSec (sub_trans hL (by decide)) (touch_onSeq (sub_trans hL (by decide)) (touch_restoreRing (sub_trans hL (by decide)) (touch_onStart (sub_trans hL (by decide)) ha2)))) (fun _ h0 => touch_restoreTiles (sub_trans hL (by decide)) h0))))

end


/-! ### Reset and power -/

theorem live_of_reset {s : State} (h : s.start.inReset = true) : s.live = false := by
  unfold State.live
  rw [h, Bool.not_true, Bool.and_false, Bool.false_and]

/-- A flash write cut short: what the flash holds then, and nothing else changes but the count of free values. -/
theorem flashCut_leaves (s : State) : ∃ f n, flashCut s = { s with freeCtr := n, sec := { s.sec with flash := f } } ∧
    (s.start.writing = none → s.comp.commit = none → s.sec.loader = none → f = s.sec.flash) ∧
    (∀ a p purpose ft, s.start.writing = some (a, p, purpose, ft) → look a f.areas = some { p with valid := false }) := by
  refine ⟨_, _, rfl, fun hw hc hl => ?_, fun a p purpose ft hw => ?_⟩
  · rw [hw, hc, hl]
    rfl
  · rw [hw]
    dsimp only
    repeat' split
    all_goals exact look_put_self ..

theorem resetAssert_of_running {s : State} (h : s.start.inReset = false) : ∃ l, resetAssert s =
    { onStart (fun x => { x with inReset := true }) (resetState s.start.powerGood (flashCut s)) with sent := l } := by
  unfold resetAssert
  dsimp only
  rw [if_neg (ne_true_of_eq_false h)]
  unfold when
  split
  · exact ⟨_, rfl⟩
  · exact ⟨_, rfl⟩

theorem powerFail_of_good {s : State} (h : s.start.powerGood = true) : powerFail s =
    onSec (fun x => { x with loader := none }) (onComp (fun c => { c with commit := none })
      (onStart (fun x => { x with powerGood := false, writing := none }) (when (!s.start.inReset) flashCut s))) :=
  if_neg (ne_false_of_eq_true h)

theorem lifeCycle_of_none {s : State} (h : s.sec.lcPending = none) : lifeCycle s = s := by
  unfold lifeCycle
  rw [h]

theorem lifeCycle_of_request {b : List Byte} {s : State} (h : s.sec.lcPending = some b) :
    (lifeCycle s).sec.fuses.lc = u8 b 13 ∧ (lifeCycle s).sec.fuses.lcCount = s.sec.fuses.lcCount + 1 ∧
    (lifeCycle s).sec.lcPending = none ∧ (u8 b 13 = 1 → (lifeCycle s).sec.fuses.ownerRoot = slice b 16 64) ∧
    (u8 b 13 = 4 → (lifeCycle s).sec.fuses.idSeed = List.replicate 32 255) := by
  unfold lifeCycle
  rw [h]
  refine ⟨?_, ?_, rfl, fun h1 => ?_, fun h4 => ?_⟩
  · simp only [onSec_sec]
    repeat' split
    all_goals rfl
  · simp only [onSec_sec]
    repeat' split
    all_goals rfl
  · simp [h1]
  · simp [h4]

theorem ownerLoaded_leaves (s : State) : ∃ o, ownerLoaded s = onSec (fun x => { x with owner := o }) s := by
  unfold ownerLoaded
  dsimp only
  split
  · exact ⟨_, rfl⟩
  · exact ⟨_, rfl⟩

/-- A start begun: straps sampled, VID from the fuses, start-up phase 1. -/
def startBegun (straps : Nat) (s : State) : State :=
  setRg .BIST_SUP_PHASE 0 1 (onPkg (fun x => { x with i3cAddr := 0x30 + straps % 8, i3cOffset := 0 })
    (setRg .GLB_CORE_VID_CODE 0 s.sec.fuses.vid (setRg .GLB_NODE_ADDR_NODE 0 straps (setRg .GLB_NODE_ADDR_SLED 0 (straps / 8)
      (setRg .GLB_NODE_ADDR_RACK 0 (straps / 128) (onStart (fun x => { x with inReset := false, done := [1] }) s))))))

theorem startBegun_phase (n : Nat) (s : State) : (startBegun n s).rg .BIST_SUP_PHASE 0 = 1 := setRg_rg_self ..

theorem startBegun_rack (n : Nat) (s : State) :
    (startBegun n s).rg .GLB_NODE_ADDR_RACK 0 = n / 128 % 2 ^ RN.width .GLB_NODE_ADDR_RACK := by
  simp [startBegun]

theorem startBegun_sled (n : Nat) (s : State) :
    (startBegun n s).rg .GLB_NODE_ADDR_SLED 0 = n / 8 % 2 ^ RN.width .GLB_NODE_ADDR_SLED := by
  simp [startBegun]

theorem startBegun_node (n : Nat) (s : State) :
    (startBegun n s).rg .GLB_NODE_ADDR_NODE 0 = n % 2 ^ RN.width .GLB_NODE_ADDR_NODE := by
  simp [startBegun]

theorem resetRelease_of_power {straps : Nat} {s : State} (hp : s.start.powerGood = true) (hd : 1 ∉ s.start.done)
    (hl : s.sec.lcPending = none) : ∃ o, resetRelease straps s = when (s.lc != 4) (setRg .SEC_BOOT_STATE 0 1)
      (startBegun straps (onSec (fun x => { x with owner := o }) { s with clk := 0, ft := 0 })) := by
  obtain ⟨o, ho⟩ := ownerLoaded_leaves { s with clk := 0, ft := 0 }
  refine ⟨o, ?_⟩
  unfold resetRelease
  dsimp only
  rw [if_neg (fun h => hd h.2), if_pos hp, lifeCycle_of_none (by exact hl), ho]
  rfl

/-! ### Firmware -/

theorem firmwareVerified_of_boot {ok : Bool} {s : State} (h1 : 1 ∈ s.start.done) (h2 : 2 ∉ s.start.done)
    (hb : s.rg .SEC_BOOT_STATE 0 = 1) : firmwareVerified ok s =
      let cause := if ok then fwCheck s s.sec.flash.firmware else 1
      if cause = 0 then raiseRollback (fwRollback s.sec.flash.firmware) (firmwareStarts s.sec.flash.firmware s)
      else enterRecovery cause s :=
  if_neg (fun h => h.elim (fun h => h h1) (fun h => h.elim h2 (fun h => h hb)))

theorem raiseRollback_of_higher {v : Nat} {s : State} (h : s.sec.fuses.rollback < v) :
    (raiseRollback v s).sec.fuses.rollback = v := by
  unfold raiseRollback
  rw [if_pos h]
  exact congrArg (fun x : SecSt => x.fuses.rollback) (raise_sec ..)

/-! ### The persistence record -/

theorem newestArea_newest {s : State} {a : Nat} {p : Persist} (h : newestArea s = some (a, p)) :
    (a, p) ∈ s.sec.flash.areas ∧ p.valid = true ∧ ∀ b q, (b, q) ∈ s.sec.flash.areas → q.valid = true → q.seqNo ≤ p.seqNo := by
  obtain ⟨hin, hmost⟩ := mostBy_eq_some h
  obtain ⟨hmem, hv⟩ := List.mem_filter.mp hin
  exact ⟨hmem, hv, fun b q hq hvq => Nat.le_of_add_le_add_right (hmost (b, q) (List.mem_filter.mpr ⟨hq, hvq⟩))⟩

/-- The areas whose record is not valid, each recorded. -/
def badAreasRaised (s : State) : State :=
  forEach (keys (s.sec.flash.areas.filter (fun e => !e.2.valid))) (fun a => raise 0x0F0C none [(1, a)]) s

theorem touch_badAreasRaised {L : List StPart} {r s : State} (hL : evrParts ⊆ L) (h : Touches L r s) :
    Touches L r (badAreasRaised s) :=
  touch_forEach h (fun _ _ h => touch_raise hL h)

theorem badAreasRaised_newest (s : State) : newestArea (badAreasRaised s) = newestArea s := by
  unfold newestArea
  rw [Touches.sec (touch_badAreasRaised (fun _ h => h) (touch_refl _ s)) (by decide)]

/-- Step 3 of a start ended. -/
def restoreEnded (s : State) : State :=
  setRg .BIST_SUP_PHASE 0 2 (onStart (fun x => { x with done := addSet 3 x.done, persistAt := s.clk }) (countRetired s))

theorem persistRestore_of_record {a : Nat} {p : Persist} {s : State} (h2 : 2 ∈ s.start.done) (h3 : 3 ∉ s.start.done)
    (hn : newestArea s = some (a, p)) : persistRestore s = restoreEnded (restoreFrom a p (badAreasRaised s)) := by
  have hb := (badAreasRaised_newest s).trans hn
  unfold badAreasRaised at hb
  unfold persistRestore
  dsimp only
  rw [if_neg (fun h => h.elim (fun h => h h2) h3), hb]
  rfl

theorem persistRestore_of_none {s : State} (h2 : 2 ∈ s.start.done) (h3 : 3 ∉ s.start.done) (hn : newestArea s = none) :
    persistRestore s = restoreEnded (onSec (fun x => { x with stored := some ([], []) }) (badAreasRaised s)) := by
  have hb := (badAreasRaised_newest s).trans hn
  unfold badAreasRaised at hb
  unfold persistRestore
  dsimp only
  rw [if_neg (fun h => h.elim (fun h => h h2) h3), hb]
  rfl

/-- What the fields of a record bring, before tiles, trims and monitors. -/
def recordFields (a : Nat) (p : Persist) (s : State) : State :=
  onSec (fun x => { x with stored := some (p.current, p.digest), retired := p.retiredSlots })
    (onSeq (fun x => { x with retired := p.retiredFrames }) (restoreRing a p
      (onStart (fun x => { x with persist := some p, area := some a }) s)))

/-- The registers that a record's tiles, trims and failed monitors set. -/
abbrev recordRegs : List StPart := evrParts ++ [.reg .BIST_SUP_CLEAN_LAST, .reg .PRT_X_EQ_CTLE, .reg .PRT_X_EQ_DFE1,
  .reg .PRT_X_EQ_TX_PRE, .reg .PRT_X_EQ_TX_POST, .reg .QUE_ONZ_EQ_CTLE, .reg .QUE_ONZ_EQ_DFE1, .reg .QUE_ONZ_EQ_TX_PRE,
  .reg .QUE_ONZ_EQ_TX_POST, .reg .OWL_X_CASCADE_SAMPLE, .reg .MON_TEMP_EXCLUDED, .reg .MON_VOLT_EXCLUDED, .reg .MON_PROC_EXCLUDED,
  .reg .BEAR_T_STAT_STATE, .reg .BEAR_MAP_PHYS]

theorem touch_restoreFrom_fields (a : Nat) (p : Persist) (s : State) :
    Touches recordRegs (recordFields a p s) (restoreFrom a p s) := by
  unfold restoreFrom
  exact touch_setRg (by decide) (touch_excludeFailed (by decide) (touch_restoreSer (by decide)
    (touch_when (touch_refl _ _) (fun _ h => touch_restoreTiles (by decide) h))))

theorem recordFields_start (a : Nat) (p : Persist) (s : State) :
    (recordFields a p s).start = { s.start with persist := some p, area := some a } :=
  Touches.start (touch_restoreRing (L := evrParts) (a0 := a) (a1 := p) (fun _ h => h)
    (touch_refl _ (onStart (fun x => { x with persist := some p, area := some a }) s))) (by decide)

theorem restoreFrom_seq (a : Nat) (p : Persist) (s : State) : (restoreFrom a p s).seq.retired = p.retiredFrames :=
  congrArg SeqSt.retired (Touches.seq (touch_restoreFrom_fields a p s) (by decide))

theorem restoreFrom_sec (a : Nat) (p : Persist) (s : State) :
    (restoreFrom a p s).sec.retired = p.retiredSlots ∧ (restoreFrom a p s).sec.stored = some (p.current, p.digest) :=
  have h := Touches.sec (touch_restoreFrom_fields a p s) (by decide)
  ⟨congrArg SecSt.retired h, congrArg SecSt.stored h⟩

theorem restoreFrom_persist (a : Nat) (p : Persist) (s : State) : (restoreFrom a p s).start.persist = some p :=
  congrArg StartSt.persist ((Touches.start (touch_restoreFrom_fields a p s) (by decide)).trans (recordFields_start a p s))

theorem restoreFrom_clean (a : Nat) (p : Persist) (s : State) : (restoreFrom a p s).rg .BIST_SUP_CLEAN_LAST 0 = b2n p.clean := by
  unfold restoreFrom
  rw [setRg_rg_self]
  cases p.clean <;> rfl

theorem restoreEnded_rg_ne {n : RN} (i : Nat) (s : State) (hp : n ≠ .BIST_SUP_PHASE) (hr : n ≠ .MEM_RETIRED_FRAMES) :
    (restoreEnded s).rg n i = s.rg n i :=
  (setRg_rg_ne _ _ (fun h => hp (Prod.mk.inj h).1)).trans (setRg_rg_ne _ s (fun h => hr (Prod.mk.inj h).1))

/-! ### The composition -/

theorem compositionLoad_of_first {ok : Bool} {s : State} (h3 : 3 ∈ s.start.done) (ht : s.start.tried = false) (hi : s.comp.image = none) :
    let u := onStart (fun x => { x with tried := true }) s
    let b := s.sec.flash.composition
    compositionLoad ok s = if ok then (match validate u (b.take (u32 b 12)) (u32 b 12) false with
        | .ok im => raise 0x0201 none [] (putInForce im u)
        | .error r => cmpInvalid r.1 r.2 u)
      else cmpInvalid 1 0 u := by
  unfold compositionLoad
  dsimp only
  rw [if_neg (by simp [h3, ht, hi])]
  cases ok
  · exact if_pos rfl
  · exact if_neg (by simp)

end Sys2Proof.Machine

namespace Sys2Proof.Proofs

open Sys2Proof Sys2Proof.Machine

/-- Settles O55: clause by clause, from what a reset, a loss of power and the first steps of a start leave. -/
theorem resetPowerAndStartUpBegin : Obligations.ResetPowerAndStartUpBegin := by
  unfold Obligations.ResetPowerAndStartUpBegin
  refine ⟨fun s => ⟨fun h => congrArg Host.Outcome.next (if_pos h), fun h => ?reset⟩,
    fun s => ⟨fun h => congrArg Host.Outcome.next (if_pos h), fun h => ?power⟩,
    fun straps s hp hd hl => ?release, fun b s h => lifeCycle_of_request h,
    fun ok s hl => ⟨fun h => (done_live hl).trans (congrArg _ (if_pos ?boot)),
      fun h1 h2 hb => (done_live hl).trans (congrArg _ (firmwareVerified_of_boot h1 h2 hb))⟩,
    fun cause s => ⟨setRg .SEC_BOOT_CAUSE 0 cause (setRg .SEC_BOOT_STATE 0 3 s), rfl,
      (setRg_rg_ne _ _ (by simp)).trans (setRg_rg_self ..), setRg_rg_self .., rfl⟩,
    fun v s => ⟨fun h => if_neg (Nat.not_lt.mpr h), raiseRollback_of_higher⟩,
    fun s hl => ⟨fun h => (done_live hl).trans (congrArg _ (if_pos ?step)), fun h2 h3 => ?restore⟩,
    fun s a p h => newestArea_newest h,
    fun ok s hl => ⟨fun h => (done_live hl).trans (congrArg _ (if_pos ?load)),
      fun h3 ht hi => (done_live hl).trans (congrArg _ (compositionLoad_of_first h3 ht hi))⟩,
    fun check tag s => ⟨onComp (fun c => { c with fetch := none, staged := none }) (setRg .CMP_STATUS_TAG 0 tag
      (setRg .CMP_STATUS_CHECK 0 check (setCmp 4 s))), rfl, (setRg_rg_ne _ _ (by simp)).trans (setRg_rg_self ..), setRg_rg_self ..,
      rfl, rfl, rfl⟩⟩
  case boot => exact h
  case step => exact h
  case load =>
    exact h.imp_right (fun h => h.imp_right Option.isSome_iff_ne_none.mpr)
  case reset =>
    obtain ⟨l, hr⟩ := resetAssert_of_running h
    obtain ⟨f, n, hf, hflash, -⟩ := flashCut_leaves s
    rw [hf] at hr
    exact ⟨_, congrArg Host.Outcome.next hr, rfl, live_of_reset rfl, rfl, rfl, rfl, rfl, rfl, rfl, rfl, rfl, rfl, rfl, rfl, hflash⟩
  case power =>
    obtain ⟨f, n, hf, -, hareas⟩ := flashCut_leaves s
    refine ⟨_, congrArg Host.Outcome.next (powerFail_of_good h), ?_⟩
    cases hr : s.start.inReset with
    | true => exact ⟨rfl, by simp [State.live], rfl, rfl, rfl, rfl, fun _ _ _ => rfl, fun _ _ _ _ h => Bool.noConfusion h⟩
    | false =>
      rw [show when (!false) flashCut s = flashCut s from rfl, hf]
      exact ⟨rfl, by simp [State.live], rfl, rfl, rfl, rfl, fun _ _ _ => rfl, fun a p purpose ft _ hw => hareas a p purpose ft hw⟩
  case release =>
    obtain ⟨o, hr⟩ := resetRelease_of_power (straps := straps.toNat) hp hd hl
    refine ⟨_, congrArg Host.Outcome.next hr, ?_⟩
    unfold when
    split
    · exact ⟨rfl, rfl, rfl, rfl, rfl, (setRg_rg_ne _ _ (by simp)).trans (startBegun_phase ..),
        (setRg_rg_ne _ _ (by simp)).trans (startBegun_rack ..), (setRg_rg_ne _ _ (by simp)).trans (startBegun_sled ..),
        (setRg_rg_ne _ _ (by simp)).trans (startBegun_node ..), fun _ => setRg_rg_self .., fun _ => rfl⟩
    · exact ⟨rfl, rfl, rfl, rfl, rfl, startBegun_phase .., startBegun_rack .., startBegun_sled .., startBegun_node ..,
        fun h => absurd (bne_iff_ne.mpr h) ‹_›, fun _ => rfl⟩
  case restore =>
    cases hn : newestArea s with
    | none =>
      have hc : (badAreasRaised s).clk = s.clk := Touches.clk (touch_badAreasRaised (fun _ h => h) (touch_refl _ s)) (by decide)
      have hq : (badAreasRaised s).seq = s.seq := Touches.seq (touch_badAreasRaised (fun _ h => h) (touch_refl _ s)) (by decide)
      have hm : (badAreasRaised s).mem = s.mem := Touches.mem (touch_badAreasRaised (fun _ h => h) (touch_refl _ s)) (by decide)
      refine ⟨_, (done_live hl).trans (congrArg _ (persistRestore_of_none h2 h3 hn)), mem_addSet _ _, setRg_rg_self .., hc, fun a => ?_,
        fun _ => ⟨rfl, hq⟩, fun a p h => absurd h (by simp)⟩
      exact congrArg (fun m : MemSt => memGet a m.bytes) hm
    | some r =>
      obtain ⟨a, p⟩ := r
      have ht := touch_restoreFrom (a0 := a) (a1 := p) (fun _ h => h) (touch_badAreasRaised (by decide) (touch_refl _ s))
      have hm := Touches.mem ht (by decide)
      refine ⟨_, (done_live hl).trans (congrArg _ (persistRestore_of_record h2 h3 hn)), mem_addSet _ _, setRg_rg_self ..,
        Touches.clk ht (by decide), fun b => congrArg (fun m : MemSt => memGet b m.bytes) hm,
        fun h => absurd h (by simp), fun b q h => ?_⟩
      obtain ⟨rfl, rfl⟩ := Prod.mk.inj (Option.some.inj h)
      obtain ⟨hret, hst⟩ := restoreFrom_sec a p (badAreasRaised s)
      exact ⟨restoreFrom_seq .., hret, hst, restoreFrom_persist .., (restoreEnded_rg_ne _ _ (by simp) (by simp)).trans (restoreFrom_clean ..)⟩

end Sys2Proof.Proofs
end

section
/-! PROOF. The tile level, the anchor, the levels of discovery and READY (R249, R535 to R543). -/

namespace Sys2Proof.Machine

open Sys2Proof

/-! ### What each operation reaches -/

section
variable {L : List StPart} {r s : State}

theorem touch_forEach_mem {α : Type} {l : List α} {f : α → State → State} (h : Touches L r s)
    (hf : ∀ x ∈ l, ∀ t, Touches L r t → Touches L r (f x t)) : Touches L r (forEach l f s) := by
  induction l generalizing s with
  | nil => exact h
  | cons a l ih => exact ih (hf a List.mem_cons_self s h) (fun x hx => hf x (List.mem_cons_of_mem a hx))

theorem touch_calColumns {a0 a1 : _} (hL : calColumnParts ⊆ L) (ha1 : Touches L r a1) : Touches L r (calColumns a0 a1) := by
  unfold calColumns
  refine touch_forEach ha1 (fun _ _ h => touch_forEach_mem h (fun n hn _ h => touch_freeTaken (sub_trans hL (by decide)) (touch_setRg ?_ h)))
  exact List.cons_subset.mpr ⟨hL (List.mem_append_left _ (List.mem_map_of_mem hn)), List.nil_subset _⟩

theorem touch_foxTrimLoad {a0 a1 a2 : _} (hL : .reg .FOX_M_ADC_OFFSET :: .reg .FOX_M_ADC_GAIN :: .reg .FOX_M_TCOMP_ALPHA_T ::
    .reg .FOX_M_TCOMP_ALPHA_V :: colFields.map StPart.reg ⊆ L) (ha2 : Touches L r a2) : Touches L r (foxTrimLoad a0 a1 a2) := by
  have hcols : colFields.map StPart.reg ⊆ L := fun _ h => hL (by simp [h])
  unfold foxTrimLoad
  refine touch_forEach ?_ (fun _ _ h => touch_forEach_mem h (fun n hn _ h => touch_setRg ?_ h))
  · exact touch_setRg (sub_trans hL (by decide)) (touch_setRg (sub_trans hL (by decide)) (touch_setRg (sub_trans hL (by decide))
      (touch_setRg (sub_trans hL (by decide)) ha2)))
  · exact List.cons_subset.mpr ⟨hcols (List.mem_map_of_mem (List.fst_mem_of_mem_zipIdx hn)), List.nil_subset _⟩

theorem touch_setTileSt {a0 a1 a2 : _} (hL : [.reg .BEAR_T_STAT_STATE] ⊆ L) (ha2 : Touches L r a2) :
    Touches L r (setTileSt a0 a1 a2) := by
  unfold setTileSt
  exact touch_setRg (sub_trans hL (by decide)) ha2

theorem touch_katFailed {a0 a1 : _} (hL : evrParts ++ [.reg .BEAR_T_STAT_STATE] ⊆ L) (ha1 : Touches L r a1) :
    Touches L r (katFailed a0 a1) := by
  unfold katFailed
  extract_lets -merge +onlyGivenNames y0
  exact touch_when (touch_setTileSt (sub_trans hL (by decide)) ha1) (fun _ h1 => touch_raise (sub_trans hL (by decide)) h1)

theorem touch_calTrims_in {a0 a1 a2 a3 : _} (hL : [.reg .FOX_M_ADC_OFFSET, .reg .FOX_M_ADC_GAIN, .reg .FOX_M_COL_GAIN_COL0, .reg .FOX_M_COL_GAIN_COL1, .reg .FOX_M_COL_GAIN_COL2, .reg .FOX_M_COL_GAIN_COL3, .reg .FOX_M_COL_OFF_COL0, .reg .FOX_M_COL_OFF_COL1, .reg .FOX_M_COL_OFF_COL2, .reg .FOX_M_COL_OFF_COL3, .freeCtr] ⊆ L) (ha3 : Touches L r a3) :
    Touches L r (calTrims a0 a1 a2 a3) := by
  unfold calTrims
  exact touch_calColumns (sub_trans hL (by decide)) (touch_setRg (sub_trans hL (by decide)) (touch_setRg (sub_trans hL (by decide)) ha3))

theorem touch_calPass {a0 a1 a2 a3 a4 : _} (hL : evrParts ++ [.reg .FOX_M_STAT_SIGMA, .reg .FOX_M_STAT_FAILS, .reg .FOX_M_CAL_POINT_TJ, .reg .FOX_M_CAL_POINT_MV, .reg .FOX_M_STAT_STATE, .fox, .reg .FOX_M_ADC_OFFSET, .reg .FOX_M_ADC_GAIN, .reg .FOX_M_COL_GAIN_COL0, .reg .FOX_M_COL_GAIN_COL1, .reg .FOX_M_COL_GAIN_COL2, .reg .FOX_M_COL_GAIN_COL3, .reg .FOX_M_COL_OFF_COL0, .reg .FOX_M_COL_OFF_COL1, .reg .FOX_M_COL_OFF_COL2, .reg .FOX_M_COL_OFF_COL3, .freeCtr] ⊆ L) (ha4 : Touches L r a4) :
    Touches L r (calPass a0 a1 a2 a3 a4) := by
  unfold calPass
  extract_lets -merge +onlyGivenNames y0 y1 y2 y3 x4
  have hx4 : Touches L r x4 := touch_setRg (sub_trans hL (by decide)) (touch_setRg (sub_trans hL (by decide)) (touch_setRg (sub_trans hL (by decide)) (touch_setRg (sub_trans hL (by decide)) (touch_when (touch_setMacro (sub_trans hL (by decide)) ha4) (fun _ h5 => touch_calTrims_in (sub_trans hL (by decide)) h5)))))
  exact touch_ite (fun _ => hx4) (fun _ => touch_when (touch_setRg (sub_trans hL (by decide)) hx4) (fun _ h6 => touch_raise (sub_trans hL (by decide)) h6))

theorem touch_foxStart {a0 a1 a2 a3 : _} (hL : evrParts ++ [.reg .FOX_STATUS_TRIMS_USED, .reg .FOX_M_STAT_STATE, .reg .FOX_M_STAT_FAILS, .reg .FOX_M_STAT_SIGMA, .fox, .seq, .reg .FOX_M_ADC_OFFSET, .reg .FOX_M_ADC_GAIN, .reg .FOX_M_TCOMP_ALPHA_T, .reg .FOX_M_TCOMP_ALPHA_V, .reg .FOX_M_COL_GAIN_COL0, .reg .FOX_M_COL_GAIN_COL1, .reg .FOX_M_COL_GAIN_COL2, .reg .FOX_M_COL_GAIN_COL3, .reg .FOX_M_COL_OFF_COL0, .reg .FOX_M_COL_OFF_COL1, .reg .FOX_M_COL_OFF_COL2, .reg .FOX_M_COL_OFF_COL3, .reg .FOX_M_CAL_POINT_TJ, .reg .FOX_M_CAL_POINT_MV, .freeCtr] ⊆ L) (ha3 : Touches L r a3) :
    Touches L r (foxStart a0 a1 a2 a3) := by
  unfold foxStart
  extract_lets -merge +onlyGivenNames y0 y1 y2 y3 x4 y5 y6 x6
  have hx4 : Touches L r x4 := touch_when ha3 (fun _ h5 => touch_raise (sub_trans hL (by decide)) h5)
  have hx6 : Touches L r x6 := by
    unfold x6
    clear_value y0 y1 y2 y3
    split
    · exact touch_setMacro (sub_trans hL (by decide)) (touch_setRg (sub_trans hL (by decide)) (touch_foxTrimLoad (sub_trans hL (by decide)) hx4))
    · exact touch_setMacro (sub_trans hL (by decide)) hx4
  clear_value y0 y1 y2 y3
  refine touch_ite (fun _ => touch_setRg (sub_trans hL (by decide)) hx6) (fun _ => ?_)
  split
  · exact touch_ite (fun _ => touch_calPass (sub_trans hL (by decide)) hx6) (fun _ => touch_calFail (sub_trans hL (by decide)) hx6)
  · exact touch_freeTaken (sub_trans hL (by decide)) (touch_calFail (sub_trans hL (by decide)) hx6)

theorem touch_itemEvents {a0 a1 a2 a3 : _} (hL : evrParts ++ [.reg .CMP_CLAIM_STATUS_RES1] ⊆ L) (ha3 : Touches L r a3) :
    Touches L r (itemEvents a0 a1 a2 a3) := by
  unfold itemEvents
  split
  · exact touch_forEach ha3 (fun _ _ h0 => touch_raise (sub_trans hL (by decide)) h0)
  · exact touch_raise (sub_trans hL (by decide)) ha3
  · exact touch_ite (fun _ => touch_raise (sub_trans hL (by decide)) (touch_setRg (sub_trans hL (by decide)) ha3)) (fun _ => ha3)
  · exact ha3

theorem touch_runItems {a0 a1 a2 a3 : _} (hL : evrParts ++ [.reg .BIST_RESULT_ITEMS, .reg .BIST_RESULT_FT_LO_FT_LO, .reg .BIST_RESULT_FT_HI_FT_HI, .start, .reg .CMP_CLAIM_STATUS_RES1] ⊆ L) (ha3 : Touches L r a3) :
    Touches L r (runItems a0 a1 a2 a3) := by
  unfold runItems
  extract_lets -merge +onlyGivenNames y0 y1
  exact touch_onStart (sub_trans hL (by decide)) (touch_setRg (sub_trans hL (by decide)) (touch_setRg (sub_trans hL (by decide)) (touch_setRg (sub_trans hL (by decide)) (touch_forEach ha3 (fun _ _ h2 => touch_itemEvents (sub_trans hL (by decide)) h2)))))

theorem touch_tileLevel {a0 a1 a2 a3 : _} (hL : evrParts ++ [.reg .FOX_STATUS_STATE, .reg .BEAR_T_STAT_STATE, .reg .MON_TEMP_EXCLUDED, .reg .MON_VOLT_EXCLUDED, .reg .MON_PROC_EXCLUDED, .reg .FOX_STATUS_TRIMS_USED, .reg .FOX_M_STAT_STATE, .reg .FOX_M_STAT_FAILS, .reg .FOX_M_STAT_SIGMA, .fox, .seq, .reg .FOX_M_ADC_OFFSET, .reg .FOX_M_ADC_GAIN, .reg .FOX_M_TCOMP_ALPHA_T, .reg .FOX_M_TCOMP_ALPHA_V, .reg .FOX_M_COL_GAIN_COL0, .reg .FOX_M_COL_GAIN_COL1, .reg .FOX_M_COL_GAIN_COL2, .reg .FOX_M_COL_GAIN_COL3, .reg .FOX_M_COL_OFF_COL0, .reg .FOX_M_COL_OFF_COL1, .reg .FOX_M_COL_OFF_COL2, .reg .FOX_M_COL_OFF_COL3, .reg .FOX_M_CAL_POINT_TJ, .reg .FOX_M_CAL_POINT_MV, .freeCtr, .reg .BIST_RESULT_ITEMS, .reg .BIST_RESULT_FT_LO_FT_LO, .reg .BIST_RESULT_FT_HI_FT_HI, .start, .reg .CMP_CLAIM_STATUS_RES1] ⊆ L) (ha3 : Touches L r a3) :
    Touches L r (tileLevel a0 a1 a2 a3) := by
  unfold tileLevel
  extract_lets -merge +onlyGivenNames y0 x1 y3 x4 y6 x7 x9 y11 y12
  have hx1 : Touches L r x1 := touch_when ha3 (fun _ h2 => touch_excludeFailed (sub_trans hL (by decide)) (touch_runItems (sub_trans hL (by decide)) h2))
  have hx4 : Touches L r x4 := touch_forEach hx1 (fun _ _ h5 => touch_katFailed (sub_trans hL (by decide)) h5)
  have hx7 : Touches L r x7 := touch_when hx4 (fun _ h8 => touch_trimsRefused (sub_trans hL (by decide)) h8)
  have hx9 : Touches L r x9 := touch_forEach hx7 (fun _ _ h10 => touch_foxStart (sub_trans hL (by decide)) h10)
  exact touch_ite (fun _ => ha3) (fun _ => touch_onStart (sub_trans hL (by decide)) (touch_raise (sub_trans hL (by decide)) (touch_setRg (sub_trans hL (by decide)) hx9)))

theorem touch_takeHbm_ {a0 a1 : _} (hL : [.freeCtr, .start] ⊆ L) (ha1 : Touches L r a1) :
    Touches L r (takeHbm_ a0 a1) := by
  unfold takeHbm_
  refine touch_forEach ha1 ?_
  intro _ _ h0
  extract_lets -merge +onlyGivenNames y1 y2
  exact touch_onStart (sub_trans hL (by decide)) (touch_freeTaken (sub_trans hL (by decide)) h0)

theorem touch_drivePerst {a0 a1 a2 : _} (hL : [.pkg, .sent] ⊆ L) (ha2 : Touches L r a2) :
    Touches L r (drivePerst a0 a1 a2) := by
  unfold drivePerst
  exact touch_emit (sub_trans hL (by decide)) (touch_onPkg (sub_trans hL (by decide)) ha2)

end


/-! ### The tile level -/

theorem tileLevel_of_due {w : Nat} {fails : List (Nat × Nat)} {cals : List (Nat × (Nat × Int × Int))} {s : State}
    (h4 : 4 ∈ s.start.done) (h6 : 6 ∉ s.start.done) : ∃ u n x, tileLevel w fails cals s =
      onStart (fun x => { x with done := addSet 6 x.done }) (raise 0x0501 none [(4, n), (1, x)] (setRg .FOX_STATUS_STATE 0 2 u)) :=
  ⟨_, _, _, if_neg (fun h => h.elim (fun h => h h4) h6)⟩

theorem tileLevel_mem (w : Nat) (fails : List (Nat × Nat)) (cals : List (Nat × (Nat × Int × Int))) (s : State) :
    (tileLevel w fails cals s).mem = s.mem := Touches.mem (touch_tileLevel (fun _ h => h) (touch_refl _ s)) (by decide)

theorem katFailed_of_spare {t : Nat} {s : State} (h : s.tileSt t = 1) : katFailed t s = raise 0x0605 none [] (setTileSt t 4 s) := by
  unfold katFailed
  dsimp only
  rw [h]
  rfl

theorem katFailed_of_other {t : Nat} {s : State} (h : s.tileSt t ≠ 1) : katFailed t s = setTileSt t 4 s := by
  unfold katFailed
  dsimp only
  rw [beq_eq_false_iff_ne.mpr h]
  rfl

theorem foxStart_of_untrimmed {m sigma : Nat} {off gain : Int} {fails : List (Nat × Nat)} {cals : List (Nat × (Nat × Int × Int))}
    {s : State} (ht : look m s.persisted.foxTrims = none) (hc : look m cals = some (sigma, off, gain)) :
    let u := setMacro m { s.macro_ m with cal := some .start } s
    foxStart m fails cals s = if inWindow s m = false then setRg .FOX_M_STAT_STATE m 2 u
      else if sigma ≤ 150 then calPass m sigma off gain u else calFail m sigma u := by
  intro u
  have hv : verifyOnly (u.macro_ m).cal = false := by
    rw [setMacro_macro_self]
    rfl
  have hcause : foxCause s m = none := by
    unfold foxCause
    rw [ht]
    rfl
  unfold foxStart
  dsimp only
  rw [hcause, ht, ite_self, hc]
  by_cases hw : inWindow s m = false
  · rw [if_pos hw]
    exact if_pos ⟨hv, hw⟩
  · rw [if_neg hw]
    exact if_neg (fun h => hw h.2)

/-! ### The anchor and its slots -/

theorem anchor_of_early {a : Nat} {s : State} (ha : anchorAt s = some a) (hn : s.start.anchor = none)
    (h : s.ft < a ∨ 4 ∉ s.start.done) : anchor s = s := by
  unfold anchor
  rw [ha, hn]
  exact if_pos h

theorem anchor_of_due {a : Nat} {s : State} (ha : anchorAt s = some a) (hn : s.start.anchor = none) (hf : a ≤ s.ft)
    (h4 : 4 ∈ s.start.done) : anchor s = match addSlots a [1, 2, 3, 4] s with
      | none => s
      | some t => setRg .BIST_SUP_PHASE 0 4 (onStart (fun x => { x with anchor := some a, done := addSet 7 x.done })
          (raise 0x0F02 none [(8, a)] (setRg .BIST_ANCHOR_HI_FT_HI 0 (a / 2 ^ 32) (setRg .BIST_ANCHOR_LO_FT_LO 0 a t)))) := by
  unfold anchor
  rw [ha, hn]
  dsimp only
  rw [if_neg (fun h => h.elim (Nat.not_lt.mpr hf) (fun h => h h4))]
  cases addSlots a [1, 2, 3, 4] s <;> rfl

theorem anchorAt_grid {c l a : Nat} {s : State} (hc : s.start.compAt = some c) (hl : s.start.lockAt = some l)
    (ha : anchorAt s = some a) : a % 2 ^ 27 = 0 ∧ c + 2 ^ 26 ≤ a ∧ l + 2 ^ 26 ≤ a ∧ a < max c l + 2 ^ 26 + 2 ^ 27 := by
  unfold anchorAt ceilDiv at ha
  rw [hc, hl] at ha
  obtain rfl := Option.some.inj ha
  omega

theorem addSlots_cons {a lvl i : Nat} {r : List Nat} {s : State} (h : evtFree s 6 0 = some i) :
    addSlots a (lvl :: r) s = addSlots a r (evtTake i (slotAt s a lvl) 6 0 0 lvl s) := by
  rw [addSlots, h]

/-! ### The levels -/

theorem setLevel_level_one (v : Nat) (s : State) : (setLevel 1 v s).level 1 = v % 4 := by
  have hw : RN.width .BIST_LEVEL_LEVELS = 8 := rfl
  unfold setLevel State.level setBits bits
  rw [setRg_rg_self, hw]
  omega

/-- The node level's start: its slot noted. -/
def nodeLevel (s : State) : State := onStart (fun x => { x with slots := put 1 s.ft x.slots }) (setLevel 1 1 s)

theorem levelBegins_node (s : State) : levelBegins 1 s = forEach (List.range 4) (fun n => drivePerst n false) (nodeLevel s) := by
  unfold levelBegins
  exact if_pos rfl

theorem touch_levelBegins_node (s : State) : Touches [.pkg, .sent] (nodeLevel s) (levelBegins 1 s) :=
  levelBegins_node s ▸ touch_forEach (touch_refl _ _) (fun _ _ h => touch_drivePerst (fun _ h => h) h)

theorem forEach_drivePerst (l : List Nat) (n : Nat) (s : State) (h : n ∈ l ∨ n ∉ s.pkg.perst) :
    n ∉ (forEach l (fun n => drivePerst n false) s).pkg.perst := by
  induction l generalizing s with
  | nil => exact h.resolve_left List.not_mem_nil
  | cons a l ih =>
    refine ih _ ?_
    have hp : n ∈ (drivePerst a false s).pkg.perst ↔ n ∈ s.pkg.perst ∧ n ≠ a := mem_remSet_iff a n s.pkg.perst
    by_cases ha : n = a
    · exact .inr (fun hx => (hp.mp hx).2 ha)
    · exact h.imp (fun h => (List.mem_cons.mp h).resolve_left ha) (fun h hx => h (hp.mp hx).1)

theorem levelCheck_of_complete {lvl : Nat} {s : State} (hl : s.level lvl = 1 ∨ s.level lvl = 3) (hm : levelMissing s lvl = []) :
    levelCheck lvl s = raise 0x0F03 none [(1, lvl), (1, 0)] (setLevel lvl 2 s) := if_pos ⟨hl, hm⟩

theorem discoveryTimeout_of_slot {lvl t : Nat} {s : State} (ht : look lvl s.start.slots = some t) :
    discoveryTimeout lvl s =
      if s.level lvl = 1 ∧ levelMissing s lvl ≠ [] ∧ t + max 1 (s.rg .BIST_DISC_WAIT_MS 0) * 1000000 ≤ s.ft
      then raise 0x0F03 none [(1, lvl), (1, bitMap (levelMissing s lvl))] (setLevel lvl 3 s) else s := by
  unfold discoveryTimeout
  dsimp only
  rw [ht]

/-! ### The stacks -/

/-- The registers and the list of stacks as a training leaves them. -/
def stacksTrained (w c out : List Nat) (s : State) : State :=
  setRg .BIST_SUP_DEGRADED 0 (b2n (!out.isEmpty)) (setRg .BIST_SUP_WARM 0 (b2n (w.length == 16))
    (setRg .BIST_STACK_FAIL_STACKS 0 (bitMap out) (setRg .MEM_STATUS_STACKS 0 (bitMap (w ++ c))
      (onMem (fun m => { m with trained := w ++ c }) s))))

theorem b2n_lt_two (b : Bool) : b2n b % 2 = b2n b := by
  cases b <;> rfl

theorem stacksTrained_regs (w c out : List Nat) (s : State) : let t := stacksTrained w c out s
    t.rg .MEM_STATUS_STACKS 0 = bitMap (w ++ c) % 2 ^ RN.width .MEM_STATUS_STACKS ∧
    t.rg .BIST_STACK_FAIL_STACKS 0 = bitMap out % 2 ^ RN.width .BIST_STACK_FAIL_STACKS ∧
    t.rg .BIST_SUP_DEGRADED 0 = b2n (!out.isEmpty) ∧ t.rg .BIST_SUP_WARM 0 = b2n (w.length == 16) := by
  refine ⟨?_, ?_, (setRg_rg_self ..).trans (b2n_lt_two _), ?_⟩
  · simp [stacksTrained]
  · simp [stacksTrained]
  · exact (setRg_rg_ne _ _ (by simp)).trans ((setRg_rg_self ..).trans (b2n_lt_two _))

theorem hbmTrainingDone_of_due {warm cold : Nat} {s : State} (h7 : 7 ∈ s.start.done) (h8 : 8 ∉ s.start.done) (hl : s.level 1 ≠ 0) :
    let w := (List.range 16).filter (fun k => bit warm k && hbmValid s k)
    let c := (List.range 16).filter (fun k => decide (k ∉ w) && (bit warm k || bit cold k))
    let out := (List.range 16).filter (fun k => decide (k ∉ w) && decide (k ∉ c))
    ∃ u, u.mem.bytes = s.mem.bytes ∧ hbmTrainingDone warm cold s = onStart (fun x => { x with warm := w, done := addSet 8 x.done })
      (takeHbm_ c (forEach out (fun _ => raise 0x0F05 none []) (stacksTrained w c out u))) := by
  intro w c out
  let causes := (List.range 16).map (fun k => (look k s.persisted.hbmTrims).bind (fun t => trimCause s t (stackSensor k)))
  refine ⟨when (!bit s.start.discard 0) (trimsRefused 0 causes) s, ?_, ?_⟩
  · exact congrArg MemSt.bytes (Touches.mem (touch_when (L := evrParts) (touch_refl _ s)
      (fun _ h => touch_trimsRefused (fun _ h => h) h)) (by decide))
  · exact if_neg (fun h => h.elim (fun h => h h7) (fun h => h.elim h8 hl))

theorem touch_trainedNoted (c out : List Nat) (s : State) : Touches (evrParts ++ [.freeCtr, .start]) s
    (takeHbm_ c (forEach out (fun _ => raise 0x0F05 none []) s)) :=
  touch_takeHbm_ (by decide) (touch_forEach (touch_refl _ s) (fun _ _ h => touch_raise (by decide) h))

/-! ### READY -/

/-- READY recorded and signalled. -/
def readyNoted (s : State) : State :=
  let ms := min 65535 (s.clk / 1000000)
  onStart (fun x => { x with done := addSet 11 x.done }) (emit (.ibi 1)
    (raise 0x0F01 none [(2, ms), (1, s.rg .BIST_SUP_WARM 0), (1, s.rg .BIST_SUP_DEGRADED 0)]
      (setRg .BIST_SUP_MS_READY_MS 0 ms (setRg .BIST_SUP_PHASE 0 5 s))))

theorem readyNoted_link (s : State) (l : Nat) : (readyNoted s).link l = s.link l :=
  congrArg (fun x : PrtSt => lookD l Link.init x.links) (raise_prt ..)

theorem ready_of_due {s : State} (hd : readyDue s = true) (h11 : 11 ∉ s.start.done) (hf : firingAllowed s = true) :
    ready s = if (List.range 8).any (fun l => (s.link l).st == .up) then sendJoined (readyNoted s)
      else onStart (fun x => { x with joinedDue := true }) (readyNoted s) := by
  unfold ready
  rw [if_neg (by simp [hd, h11, hf])]
  refine Eq.trans (b := if (List.range 8).any (fun l => ((readyNoted s).link l).st == .up) = true then sendJoined (readyNoted s)
    else onStart (fun x => { x with joinedDue := true }) (readyNoted s)) rfl ?_
  simp only [readyNoted_link]

theorem readyNoted_regs (s : State) : (readyNoted s).rg .BIST_SUP_PHASE 0 = 5 ∧
    (readyNoted s).rg .BIST_SUP_MS_READY_MS 0 = min 65535 (s.clk / 1000000) % 2 ^ RN.width .BIST_SUP_MS_READY_MS := by
  constructor
  · exact (raise_rg_of_ne _ _ _ _ _ _ (by simp) (by simp)).trans ((setRg_rg_ne _ _ (by simp)).trans (setRg_rg_self ..))
  · exact (raise_rg_of_ne _ _ _ _ _ _ (by simp) (by simp)).trans (setRg_rg_self ..)

theorem readyNoted_sent (s : State) : (readyNoted s).sent = .ibi 1 :: s.sent := by
  unfold readyNoted
  exact congrArg (List.cons (.ibi 1)) (raise_sent ..)

theorem readyDue_iff (s : State) : readyDue s = true ↔ (∀ n ∈ [1, 2, 3, 4, 6, 7, 8, 9], n ∈ s.start.done) ∧ s.start.lockAt ≠ none ∧
    look 4 s.start.slots ≠ none := by
  simp only [readyDue, Bool.and_eq_true, List.all_eq_true, decide_eq_true_eq, Option.isSome_iff_ne_none, has_iff, and_assoc]

end Sys2Proof.Machine

namespace Sys2Proof.Proofs

open Sys2Proof Sys2Proof.Machine

/-- Settles O56: clause by clause, from what the tile level, the anchor, a level of discovery, the training and READY come to. -/
theorem startUpReachesReady : Obligations.StartUpReachesReady := by
  unfold Obligations.StartUpReachesReady
  refine ⟨fun w fails cals s hl => ⟨fun h => (done_live hl).trans (congrArg _ (if_pos h)), fun h4 h6 => ?tiles⟩,
    fun t s => ⟨katFailed_of_other, katFailed_of_spare, setRg_rg_self ..⟩,
    fun m sigma off gain fails cals s ht hc => foxStart_of_untrimmed ht hc,
    fun a s hl ha hn => ⟨fun h => (done_live hl).trans (congrArg _ (anchor_of_early ha hn h)),
      fun hf h4 => (done_live hl).trans (congrArg _ (anchor_of_due ha hn hf h4))⟩,
    fun c l a s hc hlk ha => anchorAt_grid hc hlk ha, fun a lvl i r s h => addSlots_cons h,
    fun s a => ⟨if_pos rfl, if_neg (by decide), if_neg (by decide), if_neg (by decide)⟩,
    fun i e s hl he hf => (done_live hl).trans (congrArg _ (fireEntry_of_fires he hf)),
    fun s => ⟨?slot, fun n hn => ?perst, ?events, ?level⟩, fun lvl s h => if_neg h,
    fun warm cold s hl => ?trained,
    fun s hl => ⟨fun h => (done_live hl).trans (congrArg _ (if_pos h)),
      fun h8 h9 => (done_live hl).trans (congrArg _ (if_neg (fun h => h.elim (fun h => h h8) h9)))⟩,
    fun lvl s hlv hm => levelCheck_of_complete hlv hm,
    fun l t s hl ht => ⟨fun h => (done_live hl).trans (congrArg _ ((discoveryTimeout_of_slot ht).trans (if_neg ?waits))),
      fun h1 hm hf => (done_live hl).trans (congrArg _ ((discoveryTimeout_of_slot ht).trans (if_pos ⟨h1, hm, hf⟩)))⟩,
    fun s hl => ⟨fun h => (done_live hl).trans (congrArg _ (if_pos h)), fun hd h11 hf => ⟨readyNoted s,
      (done_live hl).trans (congrArg _ (ready_of_due hd h11 hf)), (readyNoted_regs s).1, mem_addSet _ _, readyNoted_sent s, (readyNoted_regs s).2,
      fun a => congrArg (fun m : MemSt => memGet a m.bytes) (raise_mem ..)⟩⟩, fun s => readyDue_iff s⟩
  case tiles =>
    obtain ⟨u, n, x, h⟩ := tileLevel_of_due (w := w.toNat) (fails := fails) (cals := cals) h4 h6
    have hm := tileLevel_mem w.toNat fails cals s
    rw [h] at hm
    exact ⟨u, n, x, (done_live hl).trans (congrArg _ h), 
      fun a => congrArg (fun m : MemSt => memGet a m.bytes) ((raise_mem _ _ _ (setRg .FOX_STATUS_STATE 0 2 u)).symm.trans hm)⟩
  case slot =>
    rw [Touches.start (touch_levelBegins_node s) (by decide)]
    exact look_put_self ..
  case perst =>
    rw [levelBegins_node]
    exact forEach_drivePerst _ n _ (.inl (List.mem_range.mpr hn))
  case events =>
    exact (Touches.evr (touch_levelBegins_node s) (by decide)).trans rfl
  case level =>
    have hr := Touches.rg (n := .BIST_LEVEL_LEVELS) (touch_levelBegins_node s) (by decide) 0
    exact (congrArg (fun v => bits v (2 * 1 - 2) 2) hr).trans (setLevel_level_one 1 s)
  case trained =>
    intro w c out
    refine ⟨fun h => (done_live hl).trans (congrArg _ (if_pos h)), fun h7 h8 hlv => ?_⟩
    obtain ⟨u, hb, h⟩ := hbmTrainingDone_of_due (warm := warm.toNat) (cold := cold.toNat) h7 h8 hlv
    have ht := touch_trainedNoted c out (stacksTrained w c out u)
    obtain ⟨hstacks, hout, hdeg, hwarm⟩ := stacksTrained_regs w c out u
    have hm := Touches.mem ht (by decide)
    exact ⟨_, (done_live hl).trans (congrArg _ h), congrArg MemSt.trained hm, (congrArg MemSt.bytes hm).trans hb, mem_addSet _ _, rfl,
      (Touches.rg (n := .MEM_STATUS_STACKS) ht (by decide) 0).trans hstacks,
      (Touches.rg (n := .BIST_STACK_FAIL_STACKS) ht (by decide) 0).trans hout, (Touches.rg (n := .BIST_SUP_DEGRADED) ht (by decide) 0).trans hdeg,
      (Touches.rg (n := .BIST_SUP_WARM) ht (by decide) 0).trans hwarm⟩
  case waits =>
    rintro ⟨h1, hm, hf⟩
    rcases h with h | h | h
    · exact h h1
    · exact hm h
    · exact Nat.not_le.mpr h hf

end Sys2Proof.Proofs
end

section
/-! PROOF. The self-test and the steps of a shutdown (R547 to R555, R601). -/

namespace Sys2Proof.Machine

open Sys2Proof


/-! ### The self-test -/

/-- Whether a port may start the full self-test. -/
def selftestMay (p : Nat) (s : State) : Prop :=
  s.holdsSem p 3 = true ∧ (s.lc = 0 ∨ s.lc = 3) ∧ s.seq.seqs = [] ∧ s.start.testing = none ∧ firingAllowed s = true

theorem selftestStart_of_may {p : Nat} {s : State} (h : selftestMay p s) : selftestStart p s =
    setRg .BIST_STATUS_STATUS 0 Status.ok (setRg .BIST_STATUS_STATE 0 2
      (onStart (fun x => { x with testing := some true }) (portsDown s))) := if_pos h

theorem selftestStart_of_refused {p : Nat} {s : State} (h : ¬ selftestMay p s) : selftestStart p s =
    raise 0x0B11 none [] (setRg .BIST_STATUS_STATUS 0 Status.accessDenied s) := if_neg h

theorem selftestDone_of_full {ref : Nat} {fails : List (Nat × Nat)} {s : State} (h : s.start.testing = some true) :
    selftestDone ref fails s = onStart (fun x => { x with stopped := true }) (setRg .BIST_STATUS_NEED_RESET 0 1
      (onStart (fun x => { x with testing := none }) (setRg .BIST_STATUS_STATE 0 3 (runItems fullSet ref fails s)))) := by
  unfold selftestDone
  rw [h]
  exact if_pos rfl

theorem selftestDone_of_shutdown {ref : Nat} {fails : List (Nat × Nat)} {s : State} (h : s.start.testing = some false) :
    let u := onStart (fun x => { x with testing := none }) (setRg .BIST_STATUS_STATE 0 3 (runItems shutdownSet ref fails s))
    selftestDone ref fails s = persistBegin 4 (finalRecord u) u := by
  unfold selftestDone
  rw [h]
  exact if_neg Bool.false_ne_true

theorem itemOutcome_of_left_out {s : State} {set : List Nat} {ref i : Nat} {fails : List (Nat × Nat)}
    (h : i ∉ set ∨ bit s.start.skip (i - 1) = true) : itemOutcome s set ref fails i = 3 := by
  refine if_pos ?_
  rw [Bool.or_eq_true, Bool.or_eq_true, decide_eq_true_eq]
  exact .inl h

theorem itemOutcome_of_run {s : State} {set : List Nat} {ref i : Nat} {fails : List (Nat × Nat)} (hi : i ∈ set)
    (hs : bit s.start.skip (i - 1) = false) (h5 : i ≠ 5) : itemOutcome s set ref fails i =
      if (windowReading s).isSome || !bit ref (i - 1) then 2 else if fails.any (fun f => f.1 == i) then 1 else 0 := by
  refine if_neg ?_
  simp [hi, hs, h5]

theorem runItems_leaves (set : List Nat) (ref : Nat) (fails : List (Nat × Nat)) (s : State) :
    (runItems set ref fails s).rg .BIST_RESULT_FT_LO_FT_LO 0 = s.ft % 2 ^ RN.width .BIST_RESULT_FT_LO_FT_LO ∧
    (∀ f ∈ (runItems set ref fails s).start.failed, f ∈ fails) ∧ (runItems set ref fails s).mem = s.mem :=
  ⟨(setRg_rg_ne _ _ (by simp)).trans (setRg_rg_self ..), fun _ h => List.mem_of_mem_filter h,
    Touches.mem (touch_runItems (fun _ h => h) (touch_refl _ s)) (by decide)⟩

/-! ### Arming -/

theorem armShutdown_of_refused {want : Bool} {s : State} (h : shutOk s (shutFt s) = false) :
    armShutdown want s = raise 0x0F0A none [] s := if_neg (ne_true_of_eq_false h)

theorem armShutdown_of_allowed {want : Bool} {s : State} (h : shutOk s (shutFt s) = true) (hl : s.lc = 0 ∨ s.lc = 2 ∨ s.lc = 3) :
    armShutdown want s = raise 0x0F09 none [(8, shutFt s), (1, b2n want)] (noticeAll 0x09 (shutFt s) (onStart (fun x => { x with
      shutAt := shutFt s, shutTest := want }) (setRg .BIST_SHUT_STATUS_STATE 0 1 s))) := by
  have ha : shutTestAllowed s = true := by
    simp only [shutTestAllowed, Bool.or_eq_true, beq_iff_eq, or_assoc]
    exact hl
  unfold armShutdown
  dsimp only
  rw [if_pos h, ha, Bool.and_true, Bool.and_not_self]
  rfl

theorem shutOk_iff (s : State) (a : Nat) : shutOk s a = true ↔ s.rg .BIST_SHUT_STATUS_STATE 0 < 2 ∧ s.gridPoint a = true ∧
    s.ft + 1000000 ≤ a ∧ a ≤ s.ft + 4294967296 := by
  simp only [shutOk, serving, Bool.and_eq_true, decide_eq_true_eq, and_assoc]

/-! ### Steps 1 and 2 -/

theorem look_map_snd {κ α : Type} [DecidableEq κ] {k : κ} {f : α → α} {m : List (κ × α)} {y : α}
    (h : look k (m.map (fun e => (e.1, f e.2))) = some y) : ∃ x, y = f x := by
  induction m with
  | nil => cases h
  | cons a m ih =>
    simp only [List.map_cons, look] at h
    split at h
    · exact ⟨a.2, (Option.some.inj h).symm⟩
    · exact ih h

theorem stop_ended (r : ListRun) : r.stop.ended = true ∨ r.stop.left = false := by
  unfold ListRun.stop
  split
  next h => exact .inl rfl
  next h =>
    cases he : r.ended with
    | true => exact .inl rfl
    | false => exact .inr (eq_false_of_ne_true (fun hl => h ⟨he, hl⟩))

theorem endLists_ended {k : Nat} {r : ListRun} {s : State} (h : look k (endLists s).que.lists = some r) :
    r.ended = true ∨ r.left = false := by
  obtain ⟨x, rfl⟩ := look_map_snd (f := ListRun.stop) h
  exact stop_ended x

theorem shutdownBegin_of_due {s : State} (h1 : s.rg .BIST_SHUT_STATUS_STATE 0 = 1) (hf : s.start.shutAt ≤ s.ft) :
    shutdownBegin s = forEach s.prt.rx endMsg (forEach (keys s.que.ctx) endQueue
      (endLists (setRg .BIST_SUP_PHASE 0 6 (setRg .BIST_SHUT_STATUS_STATE 0 2 s)))) :=
  if_neg (fun h => h.elim (fun h => h h1) (Nat.not_lt.mpr hf))

theorem endMsg_of_refused {k : Nat × Nat} {e : RxEntry} {s : State} (hr : refusedAtShutdown (H.mtype e.hdr) = true)
    (hb : msgBegun s k e = false) : endMsg (k, e) s = ackMsg k e Status.aborted 0 0 s :=
  (if_neg (ne_false_of_eq_true hr)).trans (if_neg (ne_true_of_eq_false hb))

theorem shutdownDrainEnd_of_due {s : State} (h2 : s.rg .BIST_SHUT_STATUS_STATE 0 = 2)
    (hd : drained s = true ∨ s.start.shutAt + 1000000 ≤ s.ft) :
    let u := setRg .BIST_SHUT_STATUS_STATE 0 3 (portsDown (resetLinks (endWork s)))
    shutdownDrainEnd s = if u.start.writing.isSome = true then u else persistBegin 1 (snapshot true false u) u := by
  refine if_neg (fun h => h.elim (fun h => h h2) (fun h => ?_))
  exact hd.elim (fun hd => Bool.false_ne_true (h.1.symm.trans hd)) (fun hd => Nat.not_lt.mpr hd h.2)

theorem drained_of_idle {s : State} (hs : s.que.started = []) (hc : s.fox.coaches = []) (hr : s.prt.rx = []) : drained s = true := by
  unfold drained
  rw [hs, hc, hr]
  rfl

theorem endWork_of_idle {s : State} (hs : s.que.started = []) (hc : s.fox.coaches = []) (hr : s.prt.rx = []) : endWork s = s := by
  simp only [endWork, hc, hs, hr, keys, List.map_nil, forEach_nil, List.filter_nil]

/-! ### Steps 3 to 5 -/

theorem persistEnd_good_shut {a purpose ft : Nat} {r : Persist} {s : State} (h : s.start.writing = some (a, r, purpose, ft)) :
    (persistEnd true s).start.shutTest = s.start.shutTest ∧ (persistEnd true s).start.shutAt = s.start.shutAt ∧
    (persistEnd true s).ft = s.ft := by
  rw [persistEnd_of_good h]
  exact ⟨rfl, rfl, rfl⟩

theorem writes_of_writing {a purpose ft : Nat} {r : Persist} {s : State} (h : s.start.writing = some (a, r, purpose, ft)) :
    writes s purpose = true := by
  unfold writes
  rw [h]
  exact beq_self_eq_true purpose

theorem shutdownPersistDone_of_writing {ok : Bool} {a ft : Nat} {r : Persist} {s : State} (h3 : s.rg .BIST_SHUT_STATUS_STATE 0 = 3)
    (hw : s.start.writing = some (a, r, 1, ft)) :
    let u := persistEnd ok s
    let w := setRg .BIST_SHUT_STATUS_PERSIST_OK 0 1 u
    shutdownPersistDone ok s = if ok = false then persistBegin 1 (snapshot true false u) u
      else if w.start.shutTest then setRg .BIST_STATUS_STATE 0 2 (onStart (fun x => { x with testing := some false })
        (setRg .BIST_SHUT_STATUS_STATE 0 4 w))
      else persistBegin 4 (finalRecord w) w :=
  if_neg (fun h => h.elim (fun h => h h3) (fun h => Bool.false_ne_true (h.symm.trans (writes_of_writing hw))))

theorem shutdownSafe_of_writing {ok : Bool} {a ft : Nat} {r : Persist} {s : State} (hw : s.start.writing = some (a, r, 4, ft)) :
    let u := persistEnd ok s
    shutdownSafe ok s = if ok = false then persistBegin 4 (finalRecord u) u
      else emit (.ibi 5) (raise 0x0F0B none [(8, u.ft - u.start.shutAt)] (setRg .BIST_SHUT_STATUS_STATE 0 5 u)) :=
  if_neg (fun h => Bool.false_ne_true (h.symm.trans (writes_of_writing hw)))

theorem finalRecord_marks (s : State) : (finalRecord s).clean = true ∧ (finalRecord s).valid = true ∧
    (finalRecord s).ring = s.evr.ring ∧ (s.start.shutTest = true → (finalRecord s).failed = s.start.failed) := by
  unfold finalRecord
  cases s.start.shutTest with
  | true => exact ⟨rfl, rfl, rfl, fun _ => rfl⟩
  | false => exact ⟨rfl, rfl, rfl, fun h => Bool.noConfusion h⟩

end Sys2Proof.Machine

namespace Sys2Proof.Proofs

open Sys2Proof Sys2Proof.Machine

/-- Settles O57: clause by clause, from what a self-test and each step of a shutdown come to. -/
theorem selfTestsRunAndShutdownsEndSafe : Obligations.SelfTestsRunAndShutdownsEndSafe := by
  unfold Obligations.SelfTestsRunAndShutdownsEndSafe
  refine ⟨fun p s hl hr => ⟨fun h => (done_live_access hl hr).trans (congrArg _ (selftestStart_of_refused h)),
      fun h => ⟨_, (done_live_access hl hr).trans (congrArg _ (selftestStart_of_may h)), rfl,
        (setRg_rg_ne _ _ (by simp)).trans (setRg_rg_self ..), setRg_rg_self ..⟩⟩,
    fun ref fails full s hl ht => ⟨fun hf => (done_live hl).trans (congrArg _ ?full), fun hf => (done_live hl).trans (congrArg _ ?shut)⟩,
    fun s set ref i fails => ⟨itemOutcome_of_left_out, fun hi hs h5 => ⟨fun h => (itemOutcome_of_run hi hs h5).trans (if_pos ?outside),
      fun hw hb => (itemOutcome_of_run hi hs h5).trans (if_neg ?inside)⟩⟩,
    fun set ref fails s => runItems_leaves set ref fails s, fun p s hl hr => done_live_access hl hr,
    fun s => ⟨fun h _ => armShutdown_of_refused h, fun h hlc _ => armShutdown_of_allowed h hlc⟩, fun s a => shutOk_iff s a,
    fun s hl => ⟨fun h => (done_live hl).trans (congrArg _ (if_pos h)), fun h1 hf =>
      ⟨(done_live hl).trans (congrArg _ (shutdownBegin_of_due h1 hf)),
        ⟨(setRg_rg_ne _ _ (by simp)).trans (setRg_rg_self ..), setRg_rg_self ..⟩, fun k r h => endLists_ended h⟩⟩,
    fun q e s => ⟨fun h => if_neg (ne_true_of_eq_false h), fun h => if_pos h⟩,
    fun k e s => ⟨fun h => if_pos h, endMsg_of_refused⟩,
    fun s hl => ⟨fun h => (done_live hl).trans (congrArg _ (if_pos h)),
      fun h2 hd => (done_live hl).trans (congrArg _ (shutdownDrainEnd_of_due h2 hd))⟩,
    fun s hs hc hr => ⟨drained_of_idle hs hc hr, endWork_of_idle hs hc hr⟩,
    fun a ft r s hl h3 hw => ⟨(done_live hl).trans (congrArg _ ((shutdownPersistDone_of_writing h3 hw).trans (if_pos rfl))),
      fun ht => (done_live hl).trans (congrArg _ ((shutdownPersistDone_of_writing h3 hw).trans ?test)),
      fun ht => (done_live hl).trans (congrArg _ ((shutdownPersistDone_of_writing h3 hw).trans ?plain))⟩,
    fun a ft r s hl hw => ⟨(done_live hl).trans (congrArg _ ((shutdownSafe_of_writing hw).trans (if_pos rfl))),
      (done_live hl).trans (congrArg _ ((shutdownSafe_of_writing hw).trans ?safe))⟩,
    fun s => finalRecord_marks s⟩
  case full =>
    subst hf
    exact selftestDone_of_full ht
  case shut =>
    subst hf
    exact selftestDone_of_shutdown ht
  case outside =>
    rw [Bool.or_eq_true, Option.isSome_iff_ne_none, Bool.not_eq_true']
    exact h
  case inside =>
    rw [hw, hb]
    exact Bool.false_ne_true
  case test =>
    obtain ⟨hshut, -, -⟩ := persistEnd_good_shut hw
    exact (if_neg (Bool.noConfusion : ¬ true = false)).trans (if_pos (hshut.trans ht))
  case plain =>
    obtain ⟨hshut, -, -⟩ := persistEnd_good_shut hw
    exact (if_neg (Bool.noConfusion : ¬ true = false)).trans (if_neg (ne_true_of_eq_false (hshut.trans ht)))
  case safe =>
    obtain ⟨-, hat, hft⟩ := persistEnd_good_shut hw
    rw [if_neg Bool.noConfusion, hat, hft]

end Sys2Proof.Proofs
end

section
/-! PROOF. Spares, shadows and takeover (R265, R287 to R291). -/

namespace Sys2Proof.Machine

open Sys2Proof


/-! ### Start and stop -/

theorem shadowable_iff (s : State) (tile : Nat) :
    shadowable s tile = true ↔ s.tileSt (s.rg .BEAR_MAP_PHYS tile) = 0 ∧ s.owner (.tile tile) ≠ none := by
  simp only [shadowable, Bool.and_eq_true, beq_iff_eq, Option.isSome_iff_ne_none]

theorem forgetPort_shadow {p t : Nat} {x : Shadow} {s : State} (h : s.shadow t = some x) :
    (forgetPort p s).shadow t = some (if x.port = some p then { x with port := none } else x) :=
  (look_map_cond (fun x : Shadow => x.port = some p) (fun x => { x with port := none }) t s.fox.shadows).trans
    (congrArg (Option.map _) h)

/-- The spare that BEAR_SPARE_CTRL names. -/
def namedSpare (s : State) : Nat := 64 * (s.rg .BEAR_SPARE_CTRL_TILE 0 / 32) + 32 + s.rg .BEAR_SPARE_CTRL_SPARE 0

theorem shadowStart_of_refused {p : Nat} {s : State} (he : s.expertOpen p 6 = true)
    (h : s.tileSt (namedSpare s) ≠ 1 ∨ shadowable s (s.rg .BEAR_SPARE_CTRL_TILE 0) = false) :
    shadowStart p s = shadowResult (some p) 0 Status.badCommand (forgetPort p s) := by
  unfold shadowStart expertDo
  rw [if_pos he]
  exact if_neg (fun hx => h.elim (fun h => h hx.1) (fun h => Bool.false_ne_true (h.symm.trans hx.2)))

theorem shadowStart_of_good {p : Nat} {s : State} (he : s.expertOpen p 6 = true) (h1 : s.tileSt (namedSpare s) = 1)
    (hs : shadowable s (s.rg .BEAR_SPARE_CTRL_TILE 0) = true) : shadowStart p s =
      setRg .BEAR_SPARE_RESULT_DONE p 0 (setRg .BEAR_SPARE_RESULT_STATUS p Status.ok (setRg .BEAR_SPARE_RESULT_OUTCOME p 0
        (shadowBegin (namedSpare s) (s.rg .BEAR_SPARE_CTRL_TILE 0) 1 (some p) (forgetPort p s)))) := by
  unfold shadowStart expertDo
  rw [if_pos he]
  exact if_pos ⟨h1, hs⟩

theorem shadowBegin_leaves (t tile cause : Nat) (port : Option Nat) (s : State) : let u := shadowBegin t tile cause port s
    u.rg .BEAR_T_STAT_STATE t = 2 ∧ u.rg .BEAR_T_STAT_COMPARED t = 0 ∧ u.mem = s.mem ∧
    u.shadow t = some { tile := tile, step := 1, port := port, since := s.ft, outcome := 0 } := by
  refine ⟨?_, ?_, raise_mem .., ?_⟩
  · exact (raise_rg_of_ne _ _ _ _ _ _ (by simp) (by simp)).trans
      ((setRg_rg_ne _ _ (by simp)).trans ((setRg_rg_ne _ _ (by simp)).trans (setRg_rg_self ..)))
  · exact (raise_rg_of_ne _ _ _ _ _ _ (by simp) (by simp)).trans ((setRg_rg_ne _ _ (by simp)).trans ((setRg_rg_self ..).trans (Nat.zero_mod _)))
  · unfold shadowBegin State.shadow
    rw [raise_fox]
    exact look_put_self ..

theorem shadowResult_regs (p outcome status : Nat) (s : State) : let u := shadowResult (some p) outcome status s
    u.rg .BEAR_SPARE_RESULT_OUTCOME p = outcome % 256 ∧ u.rg .BEAR_SPARE_RESULT_STATUS p = status % 256 ∧
    u.rg .BEAR_SPARE_RESULT_DONE p = 1 :=
  ⟨(setRg_rg_ne _ _ (by simp)).trans ((setRg_rg_ne _ _ (by simp)).trans (setRg_rg_self ..)),
    (setRg_rg_ne _ _ (by simp)).trans (setRg_rg_self ..), setRg_rg_self ..⟩

theorem touch_shadowResult_of {port : Option Nat} {outcome status : Nat} {L : List StPart} {r s : State}
    (hL : [.reg .BEAR_SPARE_RESULT_OUTCOME, .reg .BEAR_SPARE_RESULT_STATUS, .reg .BEAR_SPARE_RESULT_DONE] ⊆ L) (h : Touches L r s) :
    Touches L r (shadowResult port outcome status s) :=
  touch_whenSome h (fun _ _ h => touch_setRg (sub_trans hL (by decide)) (touch_setRg (sub_trans hL (by decide))
    (touch_setRg (sub_trans hL (by decide)) h)))

theorem shadowEnd_of_shadow {t outcome st : Nat} {x : Shadow} {s : State} (h : s.shadow t = some x) :
    shadowEnd t outcome st s = shadowResult x.port outcome Status.ok
      (setTileSt t st (onFox (fun f => { f with shadows := del t f.shadows }) s)) := by
  unfold shadowEnd
  rw [h]

theorem shadowEnd_shadow {t outcome st : Nat} {x : Shadow} {s : State} (h : s.shadow t = some x) :
    (shadowEnd t outcome st s).shadow t = none := by
  rw [shadowEnd_of_shadow h]
  unfold State.shadow
  rw [Touches.fox (touch_shadowResult_of (fun _ h => h) (touch_refl _ _)) (by decide)]
  exact look_del_self ..

theorem shadowEnd_tileSt {t outcome st : Nat} {x : Shadow} {s : State} (h : s.shadow t = some x) :
    (shadowEnd t outcome st s).tileSt t = st % 8 := by
  rw [shadowEnd_of_shadow h]
  unfold State.tileSt
  rw [Touches.rg (touch_shadowResult_of (fun _ h => h) (touch_refl _ _)) (by decide)]
  exact setRg_rg_self ..

theorem shadowEnd_result {t outcome st p : Nat} {x : Shadow} {s : State} (h : s.shadow t = some x) (hp : x.port = some p) :
    (shadowEnd t outcome st s).rg .BEAR_SPARE_RESULT_OUTCOME p = outcome % 256 ∧
    (shadowEnd t outcome st s).rg .BEAR_SPARE_RESULT_STATUS p = Status.ok % 256 ∧
    (shadowEnd t outcome st s).rg .BEAR_SPARE_RESULT_DONE p = 1 := by
  rw [shadowEnd_of_shadow h, hp]
  exact shadowResult_regs ..

theorem shadowStopped_of_shadow {t cause : Nat} {x : Shadow} {s : State} (h : s.shadow t = some x) :
    shadowStopped t cause s = raise 0x0609 none [(1, cause)] (shadowEnd t 3 1 s) := if_pos (by rw [h]; rfl)

theorem shadowStopped_of_none {t cause : Nat} {s : State} (h : s.shadow t = none) : shadowStopped t cause s = s :=
  if_neg (by rw [h]; exact Bool.false_ne_true)

/-! ### Errors in tile SRAM -/

theorem firstFrom_none {p : Nat → Bool} {n i j : Nat} (h : firstFrom p n i = none) (hi : i ≤ j) (hj : j < i + n) : p j = false := by
  induction n generalizing i with
  | zero => omega
  | succ n ih =>
    unfold firstFrom at h
    split at h
    · cases h
    · rcases Nat.eq_or_lt_of_le hi with rfl | hlt
      · exact eq_false_of_ne_true ‹_›
      · exact ih h hlt (by omega)

theorem tileLogical_of_map {t : Nat} {s : State} (h : tileLogical s t < 64) : s.rg .BEAR_MAP_PHYS (tileLogical s t) = t := by
  unfold tileLogical at h ⊢
  cases hf : firstBelow 64 (fun l => s.rg .BEAR_MAP_PHYS l == t) with
  | none =>
    rw [hf] at h
    exact absurd h (lt_irrefl 64)
  | some l => exact beq_iff_eq.mp (firstFrom_some hf).2

theorem tileLogical_lt {t l : Nat} {s : State} (hl : l < 64) (h : s.rg .BEAR_MAP_PHYS l = t) : tileLogical s t < 64 := by
  unfold tileLogical
  cases hf : firstBelow 64 (fun l => s.rg .BEAR_MAP_PHYS l == t) with
  | none => exact absurd (firstFrom_none hf (Nat.zero_le l) (by omega)) (ne_false_of_eq_true (beq_iff_eq.mpr h))
  | some k => exact (firstFrom_some hf).1.trans_eq (Nat.zero_add 64)

/-- Whether a physical tile works for a logical one. -/
def tileActive (s : State) (t : Nat) : Prop := s.tileSt t = 0 ∧ tileLogical s t < 64

theorem tileActive_iff (s : State) (t : Nat) : (s.tileSt t == 0 && decide (tileLogical s t < 64)) = true ↔ tileActive s t := by
  rw [Bool.and_eq_true, beq_iff_eq, decide_eq_true_eq]
  rfl

theorem tileError_of_corrected {t : Nat} {s : State} :
    let n := tileCorrected s t
    let u := onFox (fun f => { f with tileCorr := put t (s.frame, n) f.tileCorr }) (bump .BEAR_T_ECC_CORR t 1 s)
    tileError t false s = when (s.tileSt t == 0 && decide (tileLogical s t < 64) && decide (s.rg .BEAR_SPARE_TRIG_CORR 0 < n))
      (autoShadow (tileLogical s t)) u := by
  unfold tileError
  exact if_neg Bool.false_ne_true

theorem tileError_of_uncorrectable {t : Nat} {s : State} :
    tileError t true s = when (s.tileSt t == 0 && decide (tileLogical s t < 64)) (fun s' => autoShadow (tileLogical s t)
      (tileUncorr t (tileLogical s t) (shadowMismatch (tileLogical s t) s'))) (bump .BEAR_T_ECC_UNCORR t 1 s) := by
  unfold tileError
  exact if_pos rfl

theorem autoShadow_of_allowed {tile : Nat} {s : State} (ha : s.rg .BEAR_CTRL_AUTO_SPARE 0 ≠ 0) (hs : shadowable s tile = true)
    (hn : shadowsOf s tile = []) :
    autoShadow tile s = match [64 * (tile / 32) + 32, 64 * (tile / 32) + 33].find? (fun t => s.tileSt t == 1) with
      | some t => shadowBegin t tile 0 none s
      | none => raise 0x0606 none [] s :=
  if_neg (by simp [ha, hs, hn])

theorem tileUncorr_of_unowned {t tile : Nat} {s : State} (h : s.owner (.tile tile) = none) : tileUncorr t tile s = s := by
  unfold tileUncorr
  rw [h]
  rfl

/-! ### The steps of a shadow -/

theorem shadowKat_of_shadow {t : Nat} {ok : Bool} {x : Shadow} {s : State} (h : s.shadow t = some x) :
    shadowKat t ok s = if x.step ≠ 1 ∧ x.step ≠ 6 then s
      else if ok = false then raise 0x0605 none [] (shadowEnd t 2 4 s)
      else if x.step = 1 then setShadow t { x with step := 4, since := s.ft } s
      else setShadow t { x with step := 5, outcome := 4 } s := by
  unfold shadowKat
  rw [h]

theorem takeover_of_shadow {t : Nat} {x : Shadow} {s : State} (h : s.shadow t = some x) :
    takeover t s = if x.step ≠ 5 ∨ (s.owner (.tile x.tile)).any (tilesBusy s) then s
      else raise 0x0604 none [(1, x.tile), (1, s.rg .BEAR_MAP_PHYS x.tile), (1, t)] (setTileSt (s.rg .BEAR_MAP_PHYS x.tile) 3
        (setRg .BEAR_MAP_PHYS x.tile t (shadowEnd t x.outcome 0 s))) := by
  unfold takeover
  rw [h]

theorem touch_shadowEnd_of {t outcome st : Nat} {L : List StPart} {r s : State} (hL : [.fox, .reg .BEAR_T_STAT_STATE,
    .reg .BEAR_SPARE_RESULT_OUTCOME, .reg .BEAR_SPARE_RESULT_STATUS, .reg .BEAR_SPARE_RESULT_DONE] ⊆ L) (h : Touches L r s) :
    Touches L r (shadowEnd t outcome st s) := by
  unfold shadowEnd
  split
  · exact h
  · exact touch_shadowResult_of (sub_trans hL (by decide)) (touch_setRg (sub_trans hL (by decide))
      (touch_onFox (sub_trans hL (by decide)) h))

theorem sparePhys_lt (k : Fin 4) : sparePhys k.val < 128 := by
  fin_cases k <;> decide

theorem compareOne_of_step {c : Coach} {t : Nat} {x : Shadow} {s : State} (h4 : x.step = 4) (hd : x.since < c.depart) :
    let u := bump .BEAR_T_STAT_COMPARED t 1 (freeTaken s)
    compareOne c (t, x) s = if freeNow s % 2 = 0
      then if shadowCount s ≤ u.rg .BEAR_T_STAT_COMPARED t then setShadow t { x with step := 5, outcome := 1 } u else u
      else raise 0x0603 (some c.car) [(1, t), (4, c.seq), (2, c.layer)]
        (setShadow t { x with step := 6 } (bump .BEAR_T_MISMATCH_COUNT t 1 u)) := by
  intro u
  have hc : shadowCount u = shadowCount s := by
    unfold shadowCount
    rw [show u.rg .BEAR_SHADOW_CFG_COUNT 0 = s.rg .BEAR_SHADOW_CFG_COUNT 0 from bump_rg_ne _ (by simp)]
  unfold compareOne
  rw [if_pos ⟨h4, hd⟩, ← hc]
  by_cases hf : freeNow s % 2 = 0
  · rw [if_pos hf]
    exact if_neg (by simp [hf])
  · rw [if_neg hf]
    exact if_pos (by simp [hf])

end Sys2Proof.Machine

namespace Sys2Proof.Proofs

open Sys2Proof Sys2Proof.Machine

/-- Settles O58: clause by clause, from what a start, a stop, an error, a KAT, a compare and a takeover come to. -/
theorem sparesShadowAndTakeOver : Obligations.SparesShadowAndTakeOver := by
  unfold Obligations.SparesShadowAndTakeOver
  refine ⟨fun p s hl hr he => ⟨fun h => (done_live_access hl hr).trans (congrArg _ (shadowStart_of_refused he h)),
      fun h1 hs => ?start, (done_live_access hl hr).trans (congrArg _ (if_pos he))⟩,
    fun p t x s h => forgetPort_shadow h, fun s tile => shadowable_iff s tile,
    fun t cause x s h => ⟨shadowEnd t 3 1 s, shadowStopped_of_shadow h, shadowEnd_shadow h, shadowEnd_tileSt h,
      fun p hp => ⟨(shadowEnd_result h hp).1, (shadowEnd_result h hp).2.2⟩⟩,
    fun t cause s h => shadowStopped_of_none h, fun k s hl => ?error, fun t s => ⟨tileLogical_of_map, fun l hl h => tileLogical_lt hl h⟩,
    fun tile s => ⟨fun h => if_pos (.inl h), fun ha hs hn => ⟨fun h1 => (autoShadow_of_allowed ha hs hn).trans ?first,
      fun h1 h2 => (autoShadow_of_allowed ha hs hn).trans ?second, fun h1 h2 => (autoShadow_of_allowed ha hs hn).trans ?nospare⟩⟩,
    fun t tile s h => tileUncorr_of_unowned h,
    fun k x s hl hx => ⟨fun h1 h6 ok => (done_live hl).trans (congrArg _ ((shadowKat_of_shadow hx).trans (if_pos ⟨h1, h6⟩))),
      fun h => (done_live hl).trans (congrArg _ ((shadowKat_of_shadow hx).trans ((if_neg (by omega)).trans (if_pos rfl)))),
      fun h1 => (done_live hl).trans (congrArg _ ((shadowKat_of_shadow hx).trans ?kat)),
      fun h6 => (done_live hl).trans (congrArg _ ((shadowKat_of_shadow hx).trans ?kat6))⟩,
    by decide, fun t outcome st x s h => ⟨shadowEnd_shadow h, shadowEnd_tileSt h, fun p hp => (shadowEnd_result h hp).2⟩,
    fun k x s hl hx => ⟨fun h => (done_live hl).trans (congrArg _ ((takeover_of_shadow hx).trans (if_pos h))),
      fun h5 hb hne => ⟨_, (done_live hl).trans (congrArg _ ((takeover_of_shadow hx).trans (if_neg ?between))), ?taken⟩⟩,
    fun c t x s h4 hd => compareOne_of_step h4 hd, fun c t x s h => if_neg (fun hx => h.elim (fun h => h hx.1) (Nat.not_le.mpr hx.2)),
    fun c t x s hin hst ht hb => ?doubt⟩
  case start =>
    obtain ⟨hst, hcmp, hm, hsh⟩ := shadowBegin_leaves (namedSpare s) (s.rg .BEAR_SPARE_CTRL_TILE 0) 1 (some p.idx) (forgetPort p.idx s)
    refine ⟨_, (done_live_access hl hr).trans (congrArg _ (shadowStart_of_good he h1 hs)), ?_, hsh, ?_, setRg_rg_self .., fun a => ?_⟩
    · exact (setRg_rg_ne _ _ (by simp)).trans ((setRg_rg_ne _ _ (by simp)).trans ((setRg_rg_ne _ _ (by simp)).trans hst))
    · exact (setRg_rg_ne _ _ (by simp)).trans ((setRg_rg_ne _ _ (by simp)).trans ((setRg_rg_ne _ _ (by simp)).trans hcmp))
    · exact congrArg (fun m : MemSt => memGet a m.bytes) hm
  case error =>
    intro t tile active n u v
    have hiff := tileActive_iff s t
    refine ⟨fun h => (done_live hl).trans (congrArg _ ?_), fun ha h => (done_live hl).trans (congrArg _ ?_),
      fun h => (done_live hl).trans (congrArg _ ?_), fun h => (done_live hl).trans (congrArg _ ?_)⟩
    · refine tileError_of_corrected.trans (if_neg (fun hx => ?_))
      rw [Bool.and_eq_true, hiff, decide_eq_true_eq] at hx
      exact h.elim (fun h => h hx.1) (Nat.not_le.mpr hx.2)
    · refine tileError_of_corrected.trans (if_pos ?_)
      rw [Bool.and_eq_true, hiff, decide_eq_true_eq]
      exact ⟨ha, h⟩
    · exact tileError_of_uncorrectable.trans (if_neg (fun hx => h (hiff.mp hx)))
    · exact tileError_of_uncorrectable.trans (if_pos (hiff.mpr h))
  case first => simp [h1]
  case second => simp [h1, h2]
  case nospare => simp [h1, h2]
  case kat => simp [h1]
  case kat6 => simp [h6]
  case between =>
    rintro (h | h)
    · exact h h5
    · exact Bool.false_ne_true (hb.symm.trans h)
  case taken =>
    have ht := touch_shadowEnd_of (t := sparePhys k.val) (outcome := x.outcome) (st := 0) (fun _ h => h) (touch_refl _ s)
    have hm := Touches.mem ht (by decide)
    have hne' : (RN.BEAR_T_STAT_STATE, sparePhys k.val) ≠ (RN.BEAR_T_STAT_STATE, s.rg .BEAR_MAP_PHYS x.tile) :=
      fun h => hne (Prod.mk.inj h).2.symm
    refine ⟨(setRg_rg_ne _ _ (by simp)).trans ((setRg_rg_self ..).trans (Nat.mod_eq_of_lt (sparePhys_lt k))),
      (setRg_rg_ne _ _ hne').trans ((setRg_rg_ne _ _ (by simp)).trans (shadowEnd_tileSt hx)), setRg_rg_self .., shadowEnd_shadow hx,
      ?_, fun a => congrArg (fun m : MemSt => memGet a m.bytes) hm⟩
    exact Touches.sameRegs (touch_setRg (L := [.reg .BEAR_MAP_PHYS, .fox, .reg .BEAR_T_STAT_STATE, .reg .BEAR_SPARE_RESULT_OUTCOME,
      .reg .BEAR_SPARE_RESULT_STATUS, .reg .BEAR_SPARE_RESULT_DONE]) (by decide) (touch_setRg (by decide)
        (touch_shadowEnd_of (by decide) (touch_refl _ s)))) (by decide)
  case doubt =>
    simp only [spareFirst, hb, Bool.not_false, Bool.true_and, List.any_eq_true, Bool.and_eq_true, Bool.or_eq_true, beq_iff_eq,
      decide_eq_true_eq]
    exact ⟨(t, x), hin, hst, ht⟩

end Sys2Proof.Proofs
end

section
/-! PROOF. The management pins (R596, R597). -/

namespace Sys2Proof.Machine

open Sys2Proof


/-! ### The I3C target -/

theorem i3cWrites_iff (off : Nat) : i3cWrites off = true ↔ 0xF00030 ≤ off ∧ off ≤ 0xF00038 := by
  rw [i3cWrites, Bool.and_eq_true, decide_eq_true_eq, decide_eq_true_eq]

/-- What an I3C write makes of one value. -/
def i3cWriteOne (off : Nat) (x : Word × Nat) (t : State) : State :=
  if i3cWrites (off + 4 * x.2) && t.answers (off + 4 * x.2) then regWrite i3cSender (off + 4 * x.2) x.1.toNat t else t

theorem i3cWriteOne_of_outside {off : Nat} {vs : List Word} (h : off + 4 * vs.length ≤ 0xF00030 ∨ 0xF00038 < off)
    {x : Word × Nat} (hx : x ∈ vs.zipIdx) (t : State) : i3cWriteOne off x t = t := by
  have hlt : x.2 < vs.length := (List.snd_lt_of_mem_zipIdx hx).trans_eq (Nat.add_zero _)
  refine if_neg (fun hw => ?_)
  rw [Bool.and_eq_true, i3cWrites_iff] at hw
  omega

theorem forEach_id_of_mem {α : Type} {l : List α} {f : α → State → State} {s : State} (h : ∀ a ∈ l, f a s = s) :
    forEach l f s = s := by
  induction l with
  | nil => rfl
  | cons a l ih =>
    rw [forEach_cons, h a List.mem_cons_self]
    exact ih (fun b hb => h b (List.mem_cons_of_mem a hb))

theorem i3cWrite_of_outside {off : Nat} {vs : List Word} {s : State} (h : off + 4 * vs.length ≤ 0xF00030 ∨ 0xF00038 < off) :
    i3cWrite off vs s = onPkg (fun x => { x with i3cOffset := off }) s :=
  forEach_id_of_mem (f := i3cWriteOne off) (fun _ hx => i3cWriteOne_of_outside h hx _)

theorem i3cReadFrom_length (off n : Nat) (s : State) : (i3cReadFrom off n s).1.length = n := by
  induction n generalizing off s with
  | zero => rfl
  | succ n ih => exact congrArg Nat.succ (ih _ _)

theorem i3cReadFrom_of_unread {off n : Nat} {s : State} (h : i3cReads off = false ∨ s.answers off = false) :
    i3cReadFrom off (n + 1) s = (0 :: (i3cReadFrom (off + 4) n s).1, (i3cReadFrom (off + 4) n s).2) := by
  have hn : ¬ (i3cReads off && s.answers off) = true := fun hx => by
    rw [Bool.and_eq_true] at hx
    exact h.elim (fun h => Bool.false_ne_true (h.symm.trans hx.1)) (fun h => Bool.false_ne_true (h.symm.trans hx.2))
  rw [i3cReadFrom, if_neg hn]

theorem i3cReadFrom_of_read {off n : Nat} {s : State} (h : i3cReads off = true) (ha : s.answers off = true) :
    i3cReadFrom off (n + 1) s = ((regRead i3cSender off s).1 :: (i3cReadFrom (off + 4) n (regRead i3cSender off s).2).1,
      (i3cReadFrom (off + 4) n (regRead i3cSender off s).2).2) := by
  rw [i3cReadFrom, if_pos (Bool.and_eq_true_iff.mpr ⟨h, ha⟩)]

theorem i3cReads_of_upper {off : Nat} (hl : 0xD00000 ≤ off) (hu : off < 0x1000000) : i3cReads off = true ↔ inExpert off = false := by
  unfold i3cReads
  simp only [Bool.or_eq_true, Bool.and_eq_true, beq_iff_eq, decide_eq_true_eq, Bool.not_eq_true']
  constructor
  · rintro ((((h | h) | h) | h) | ⟨-, h⟩)
    · omega
    · omega
    · omega
    · omega
    · exact h
  · exact fun h => .inr ⟨⟨hl, hu⟩, h⟩

theorem i3cReads_of_middle {off : Nat} (hl : 0x100000 ≤ off) (hu : off < 0xB00000) : i3cReads off = false := by
  unfold i3cReads
  simp only [Bool.or_eq_false_iff, Bool.and_eq_false_iff, beq_eq_false_iff_ne, decide_eq_false_iff_not]
  omega

/-! ### The JTAG port -/

theorem jtagCode_one_iff (i : JtagInstr) (s : State) : jtagCode i s = 1 ↔ i = .idcode := by
  cases i with
  | bypass => exact iff_of_false Nat.zero_ne_one (by decide)
  | idcode => exact iff_of_true rfl rfl
  | samplePreload =>
    unfold jtagCode
    cases scanAllowed s <;> exact iff_of_false (by decide) (by decide)
  | extest =>
    unfold jtagCode
    cases scanAllowed s <;> exact iff_of_false (by decide) (by decide)

theorem jtagInstruction_of_power {i : JtagInstr} {s : State} (h : s.start.powerGood = true) : jtagInstruction i s =
    emit (.jtag (jtagCode i s) (if i = .idcode then 0x20416747 else 0)) (onPkg (fun x => { x with jtag := jtagCode i s }) s) := by
  refine (if_pos h).trans ?_
  simp only [jtagCode_one_iff]
  rfl

theorem scanAllowed_iff (s : State) : scanAllowed s = true ↔ (s.lc = 0 ∨ s.lc = 3) ∧ s.start.inReset = true := by
  simp only [scanAllowed, Bool.and_eq_true, Bool.or_eq_true, beq_iff_eq]

end Sys2Proof.Machine

namespace Sys2Proof.Proofs

open Sys2Proof Sys2Proof.Machine

/-- Settles O59: clause by clause, from what the I3C target answers and which JTAG instruction comes into force. -/
theorem managementPinsAnswer : Obligations.ManagementPinsAnswer := by
  unfold Obligations.ManagementPinsAnswer
  refine ⟨fun off vs s hp => done_powered hp, fun off vs s hp h => (done_powered hp).trans (congrArg _ (i3cWrite_of_outside h)),
    fun off => i3cWrites_iff off, fun n s hp => ⟨_, done_powered hp, rfl⟩,
    fun off n s => ⟨i3cReadFrom_length off n s, i3cReadFrom_of_unread, i3cReadFrom_of_read⟩,
    fun off hl hu => i3cReads_of_upper hl hu, fun off hl hu => i3cReads_of_middle hl hu, fun dyn s hp => done_powered hp,
    fun i s => ⟨fun h => congrArg Host.Outcome.next (if_neg (ne_true_of_eq_false h)),
      fun h => ⟨_, congrArg Host.Outcome.next (jtagInstruction_of_power h), rfl, rfl, fun _ _ _ => rfl, fun _ => rfl⟩⟩,
    fun s => ⟨rfl, rfl, fun hl hr => ?allowed, fun h => ?barred⟩⟩
  case allowed =>
    have ha : scanAllowed s = true := (scanAllowed_iff s).mpr ⟨hl, hr⟩
    exact ⟨if_pos ha, if_pos ha⟩
  case barred =>
    have ha : ¬ scanAllowed s = true := fun hx => by
      obtain ⟨hl, hr⟩ := (scanAllowed_iff s).mp hx
      exact h.elim (fun h => hl.elim h.1 h.2) (fun h => Bool.false_ne_true (h.symm.trans hr))
    exact ⟨if_neg ha, if_neg ha⟩

end Sys2Proof.Proofs
end

section
/-! PROOF. Register writes that perform no action, and those that are refused (R50, R67, R135, R531, R602). -/

namespace Sys2Proof.Machine

open Sys2Proof


/-! ### Several action bits in one write -/

theorem runActions_of_several {p e v : Nat} {r : Reg} (s : State) (h2 : 2 ≤ countOf (fun f => bit v f.lo) r.actions)
    (hc : r.combines = false) : ∃ f, r.actions.head? = some f ∧ runActions p e r v s = actionsRefused p f.cell s := by
  have hn : ¬ ((r.actions.filter (fun f => bit v f.lo)).length ≤ 1 ∨ r.combines = true) :=
    fun h => h.elim (Nat.not_le.mpr h2) (ne_true_of_eq_false hc)
  unfold runActions
  dsimp only
  rw [if_neg hn]
  cases ha : r.actions with
  | nil =>
    rw [ha] at h2
    exact absurd h2 (Nat.not_succ_le_zero 1)
  | cons f l => exact ⟨f, rfl, rfl⟩

theorem regWrite_of_several {p off v e : Nat} {r : Reg} {s : State} (hreg : regAt off = some (r, e))
    (hbar : writeBarred p off s = none) (hown : ownWrite p e off v = none)
    (h2 : 2 ≤ countOf (fun f => bit v f.lo) r.actions) (hc : r.combines = false) : ∃ f, r.actions.head? = some f ∧
      regWrite p off v s = actionsRefused p f.cell (forEach r.fields (fieldWrite p e r v) s) := by
  obtain ⟨f, hf, h⟩ := runActions_of_several (p := p) (e := e) (forEach r.fields (fieldWrite p e r v) s) h2 hc
  refine ⟨f, hf, ?_⟩
  unfold regWrite
  rw [hreg, hbar]
  dsimp only
  rw [hown]
  exact h

/-- A write to a register of which every field is an action bit leaves its fields as they are. -/
theorem fieldWrites_of_actions {p e v : Nat} {r : Reg} {s : State} (h : ∀ f ∈ r.fields, f.acc = .wo) :
    forEach r.fields (fieldWrite p e r v) s = s :=
  forEach_id_of_mem (fun f hf => fieldWrite_of_not_stores (by rw [h f hf]; rfl) p e r v s)

theorem countOf_cons {α : Type} (p : α → Bool) (a : α) (l : List α) : countOf p (a :: l) = b2n (p a) + countOf p l := by
  unfold countOf
  cases h : p a with
  | true =>
    rw [List.filter_cons_of_pos h, List.length_cons]
    exact Nat.add_comm _ _
  | false =>
    rw [List.filter_cons_of_neg (ne_true_of_eq_false h)]
    exact (Nat.zero_add _).symm

/-! ### CMP_CTRL and QUE_CTX_CTRL -/

/-- Registers CMP_CTRL and QUE_CTX_CTRL as the tables have them. -/
def cmpCtrl : Reg := ((regAt 0x200000).map Prod.fst).getD ⟨0, [], .plain, false, []⟩
def ctxCtrl : Reg := ((regAt 0x300044).map Prod.fst).getD ⟨0, [], .plain, false, []⟩

theorem regAt_cmpCtrl : regAt 0x200000 = some (cmpCtrl, 0) := by decide

theorem regAt_ctxCtrl : regAt 0x300044 = some (ctxCtrl, 0) := by decide

theorem cmpCtrl_fields : cmpCtrl.combines = false ∧ (∀ f ∈ cmpCtrl.fields, f.acc = .wo) ∧
    cmpCtrl.actions = [⟨0, 0, .wo, .CMP_CTRL_STAGE, 0⟩, ⟨1, 1, .wo, .CMP_CTRL_ARM, 0⟩, ⟨2, 2, .wo, .CMP_CTRL_CANCEL, 0⟩,
      ⟨3, 3, .wo, .CMP_CTRL_COMMIT, 0⟩] := by decide

theorem ctxCtrl_fields : ctxCtrl.combines = false ∧ (∀ f ∈ ctxCtrl.fields, f.acc = .wo) ∧
    ctxCtrl.actions = [⟨0, 0, .wo, .QUE_CTX_CTRL_ENABLE, 0⟩, ⟨1, 1, .wo, .QUE_CTX_CTRL_DISABLE, 0⟩,
      ⟨2, 2, .wo, .QUE_CTX_CTRL_RESET, 0⟩] := by decide

theorem cmpCtrl_refused {p : Nat} {v : Nat} {s : State} (h : s.holdsSem p 0 = false ∨
    2 ≤ b2n (bit v 0) + b2n (bit v 1) + b2n (bit v 2) + b2n (bit v 3)) : regWrite p 0x200000 v s = raise 0x0207 none [] s := by
  obtain ⟨hc, hwo, hacts⟩ := cmpCtrl_fields
  cases hs : s.holdsSem p 0 with
  | false =>
    have hbar : writeBarred p 0x200000 s = some (cmpRefused s) := if_pos ⟨rfl, hs⟩
    unfold regWrite
    rw [regAt_cmpCtrl, hbar]
    rfl
  | true =>
    have hbar : writeBarred p 0x200000 s = none := by simp [writeBarred, hs]
    have hcount : 2 ≤ countOf (fun f => bit v f.lo) cmpCtrl.actions := by
      rw [hacts]
      simp only [countOf_cons]
      have := h.resolve_left (ne_false_of_eq_true hs)
      omega
    obtain ⟨f, hf, hw⟩ := regWrite_of_several regAt_cmpCtrl hbar rfl hcount hc
    rw [hacts] at hf
    obtain rfl := Option.some.inj hf
    rw [hw, fieldWrites_of_actions hwo]
    rfl

theorem ctxCtrl_refused {p : Nat} {v : Nat} {s : State} (h : 2 ≤ b2n (bit v 0) + b2n (bit v 1) + b2n (bit v 2)) :
    regWrite p 0x300044 v s = ctxResult p Status.badCommand s := by
  obtain ⟨hc, hwo, hacts⟩ := ctxCtrl_fields
  have hbar : writeBarred p 0x300044 s = none := by simp [writeBarred]
  have hcount : 2 ≤ countOf (fun f => bit v f.lo) ctxCtrl.actions := by
    rw [hacts]
    simp only [countOf_cons]
    omega
  obtain ⟨f, hf, hw⟩ := regWrite_of_several regAt_ctxCtrl hbar rfl hcount hc
  rw [hacts] at hf
  obtain rfl := Option.some.inj hf
  rw [hw, fieldWrites_of_actions hwo]
  rfl

/-! ### RAS_X_CLEAR -/

/-- Register RAS_X_CLEAR as the tables have it. -/
def rasClear : Reg := ((regAt 0xC80000).map Prod.fst).getD ⟨0, [], .plain, false, []⟩

theorem regAt_rasClear : regAt 0xC80000 = some (rasClear, 0) := by decide

theorem rasClear_fields : rasClear.combines = true ∧ (∀ f ∈ rasClear.fields, f.acc = .wo) ∧
    rasClear.actions.filter (fun f => bit 3 f.lo) = [⟨0, 0, .wo, .RAS_X_CLEAR_STEPS, 0⟩, ⟨1, 1, .wo, .RAS_X_CLEAR_HOLDS, 0⟩] := by
  decide

theorem rasClear_both {p : Nat} {s : State} (hl : s.live = true) : regWrite p 0xC80000 3 s = clearHolds p (clearSteps p s) := by
  obtain ⟨hc, hwo, hset⟩ := rasClear_fields
  have hbar : writeBarred p 0xC80000 s = none := by simp [writeBarred]
  have hown : ownWrite p 0 0xC80000 3 = none := rfl
  unfold regWrite
  rw [regAt_rasClear, hbar]
  dsimp only
  rw [hown]
  dsimp only
  rw [fieldWrites_of_actions hwo]
  unfold runActions
  dsimp only
  rw [if_pos (.inr hc), hset]
  exact if_pos hl

theorem clearSteps_of_open {p : Nat} {s : State} (h : s.expertOpen p 12 = true) : clearSteps p s =
    raise 0x0C09 none [] (onRas (fun x => { x with steps := x.steps.filter (fun r => r.done.isNone) }) s) := if_pos h

theorem clearHolds_of_open {p : Nat} {s : State} (h : s.expertOpen p 12 = true) :
    clearHolds p s = raise 0x0C09 none [] (onRas (fun x => { x with holds := [] }) s) := if_pos h

theorem clearSteps_expertOpen {p : Nat} {s : State} (h : s.expertOpen p 12 = true) : (clearSteps p s).expertOpen p 12 = true := by
  rw [clearSteps_of_open h]
  unfold State.expertOpen
  rw [raise_rg_of_ne _ _ _ _ _ _ (by simp) (by simp)]
  exact h

/-! ### A queue's configuration -/

theorem regAt_ctxConfig : ∀ n : Fin 9, (regAt (0x300020 + 4 * n.val)).isSome = true := by decide

theorem ctxConfig_refused {p off v : Nat} {s : State} (hl : 0x300020 ≤ off) (hu : off < 0x300044) (h4 : off % 4 = 0)
    (hst : (s.ctx (s.rg .QUE_SEL_QUEUE p)).st ≠ 0) : regWrite p off v s = raise 0x0308 none [] s := by
  have hbar : writeBarred p off s = some (raise 0x0308 none [] s) := by
    unfold writeBarred
    rw [if_neg (fun h => by omega), if_neg (fun h => by omega), if_pos ⟨hl, hu, hst⟩]
  obtain ⟨x, hx⟩ := Option.isSome_iff_exists.mp (regAt_ctxConfig ⟨(off - 0x300020) / 4, by omega⟩)
  rw [show 0x300020 + 4 * ((off - 0x300020) / 4) = off by omega] at hx
  unfold regWrite
  rw [hx, hbar]

/-! ### Enable bits -/

/-- The field of CMP_CLAIM_STATUS for a resource. -/
def claimField (res : Nat) : RN :=
  match res with
  | 1 => .CMP_CLAIM_STATUS_RES1
  | 2 => .CMP_CLAIM_STATUS_RES2
  | 3 => .CMP_CLAIM_STATUS_RES3
  | _ => .CMP_CLAIM_STATUS_RES4

/-- The state in which a refused claim stands noted. -/
def claimNoted (res code : Nat) (n : RN) (s : State) : State :=
  let t := setRg n 0 0 s
  setRg (claimField res) 0 (Nat.lor (t.rg (claimField res) 0) (2 ^ (code - 1))) t

theorem enableWrite_of_unowned {res code : Nat} {n : RN} {s : State} (h : s.ownerCode res ≠ code) :
    enableWrite res code n 1 s = raise 0x0208 none [] (claimNoted res code n s) := if_pos ⟨rfl, h⟩

theorem enableBits_fields : ∀ b ∈ enableBits, b.2.2 ≠ claimField b.1 ∧ b.2.1 - 1 < 2 := by decide

theorem claimField_mem (res : Nat) : claimField res ∈
    [RN.CMP_CLAIM_STATUS_RES1, .CMP_CLAIM_STATUS_RES2, .CMP_CLAIM_STATUS_RES3, .CMP_CLAIM_STATUS_RES4] := by
  unfold claimField
  split <;> decide

theorem claimField_width (res : Nat) : RN.width (claimField res) = 2 := by
  unfold claimField
  split <;> rfl

theorem bit_eq_testBit (x i : Nat) : bit x i = x.testBit i := by
  rw [Nat.testBit_eq_decide_div_mod_eq]
  rfl

theorem bit_lor_pow_mod {x k w : Nat} (h : k < w) : bit (Nat.lor x (2 ^ k) % 2 ^ w) k = true := by
  rw [bit_eq_testBit, Nat.testBit_mod_two_pow]
  simp [h]

theorem claimNoted_leaves {res code : Nat} {n : RN} {s : State} (hn : n ≠ claimField res) (hc : code - 1 < 2) :
    (claimNoted res code n s).rg n 0 = 0 ∧ bit ((claimNoted res code n s).rg (claimField res) 0) (code - 1) = true ∧
    SameRegs [n, claimField res] s (claimNoted res code n s) := by
  refine ⟨?_, ?_, fun m i hm => ?_⟩
  · exact (setRg_rg_ne _ _ (fun h => hn (Prod.mk.inj h).1)).trans ((setRg_rg_self ..).trans (Nat.zero_mod _))
  · unfold claimNoted
    rw [setRg_rg_self, claimField_width]
    exact bit_lor_pow_mod hc
  · simp only [List.mem_cons, List.not_mem_nil, or_false, not_or] at hm
    exact (setRg_rg_ne _ _ (fun h => hm.2 (Prod.mk.inj h).1)).trans (setRg_rg_ne _ _ (fun h => hm.1 (Prod.mk.inj h).1))

end Sys2Proof.Machine

namespace Sys2Proof.Proofs

open Sys2Proof Sys2Proof.Machine

/-- Settles O60: clause by clause, from what a write to a register with action bits, a barred one and an enable bit come to. -/
theorem refusedRegisterWritesActOnNothing : Obligations.RefusedRegisterWritesActOnNothing := by
  unfold Obligations.RefusedRegisterWritesActOnNothing
  refine ⟨fun p off v r e s hoff hr hw hreg hbar hown h2 hc => ?several, fun p v s hr h => ?cmp, fun p v s hr h2 => ?ctx,
    fun p s hl hr he => ?clear, fun p off v s hr hl hu h4 hst => ?config, fun res code n s hb ho => ?enable⟩
  case several =>
    obtain ⟨f, hf, h⟩ := regWrite_of_several hreg hbar hown h2 hc
    exact ⟨f, hf, congrArg Host.Outcome.next ((writeAccess_of_usable _ hoff hr hw).trans h)⟩
  case cmp =>
    exact congrArg Host.Outcome.next ((writeAccess_of_usable _ rfl hr (windowUsable_of_basic rfl)).trans (cmpCtrl_refused h))
  case ctx =>
    refine ⟨_, congrArg Host.Outcome.next ((writeAccess_of_usable _ rfl hr (windowUsable_of_basic rfl)).trans (ctxCtrl_refused h2)),
      result_rg_status (by decide), setRg_rg_self .., ?_, rfl, fun _ => rfl⟩
    exact Touches.sameRegs (touch_setRg (L := [.reg .QUE_CTX_RESULT_STATUS, .reg .QUE_CTX_RESULT_DONE]) (by decide)
      (touch_setRg (by decide) (touch_refl _ s))) (by decide)
  case clear =>
    have hw : windowUsable p.idx 0xC80000 s = true := by
      unfold windowUsable
      rw [Bool.or_eq_true]
      exact .inr he
    refine ⟨_, congrArg Host.Outcome.next ((writeAccess_of_usable _ rfl hr hw).trans (rasClear_both hl)), ?_, ?_⟩
    · rw [clearHolds_of_open (clearSteps_expertOpen he), raise_ras]
      rfl
    · rw [clearHolds_of_open (clearSteps_expertOpen he), raise_ras, onRas_ras, clearSteps_of_open he, raise_ras]
      rfl
  case config =>
    refine congrArg Host.Outcome.next ((writeAccess_of_usable _ ?_ hr (windowUsable_of_basic ?_)).trans (ctxConfig_refused hl hu h4 hst))
    · unfold offsetOk
      exact decide_eq_true (by omega)
    · unfold inExpert
      exact decide_eq_false (by omega)
  case enable =>
    obtain ⟨hn, hc⟩ := enableBits_fields _ hb
    obtain ⟨h0, hbit, hsame⟩ := claimNoted_leaves (s := s) hn hc
    exact ⟨_, _, enableWrite_of_unowned ho, h0, claimField_mem res, hbit, hsame⟩

end Sys2Proof.Proofs
end
